-- ==== Sys2Proof/Word.lean ====
section
/-! DEFINITION. The widths every file uses: the byte, the binary32 word, and the module's one
time format TIME96 (00_scope.md R6, R7, R10). -/

namespace Sys2Proof

/-- One byte of a packet, a record or a memory (R6). -/
abbrev Byte := BitVec 8

/-- The 32 bits of an IEEE 754 binary32 value (R7). -/
abbrev F32 := BitVec 32

/-- A string of bytes in order of their offsets. -/
abbrev Bytes := List Byte

/-- A TIME96 value (R10): 48-bit seconds, nanoseconds below 1,000,000,000, and
sub-nanoseconds in units of 2^-16 ns. -/
structure T96 where
  sec : Nat
  ns : Nat
  sub : Nat
deriving DecidableEq, Repr

/-- TIME96 zero. -/
def T96.zero : T96 := { sec := 0, ns := 0, sub := 0 }

/-- A finite table with one default for every key that it does not list. -/
abbrev Tbl (κ α : Type) := List (κ × α)

end Sys2Proof
end

