-- ==== Sys2Proof/Syntax.lean ====
section
/-! DEFINITION. The commands the module takes: one constructor per row of
spec/opcode_table.json, with the row's operands. A host command carries the header fields of its
Baline packet (03_baline_protocol.md R70) and its parameter bytes; an event carries what the
outside world or a physical process decides in it. -/

namespace Sys2Proof

/-- The endpoint a packet comes from: an IPv6 address and UDP port on P0, or the CAN2 identifier
pair (03 R72, R75, R87). -/
inductive Endpoint where
  | udp (addr port : Nat)
  | can2
deriving DecidableEq, Repr

/-- A command's header (Table 3.1, R70), and how it reached the module. On UDP: it was sent to ff02::1 rather than
to the module's own address, its UDP checksum is right and not zero, and it came in one piece (R73). `later`: the
module, busy with other subsystems, takes it up and completes it at a later tick (R83, R86). `taken` marks a command
that the module itself resumes; no host sends it. -/
structure Hdr where
  ep : Endpoint
  version : Nat
  flags : Nat
  session : Nat
  seq : Nat
  toAll : Bool := false
  sumOk : Bool := true
  whole : Bool := true
  later : Bool := false
  taken : Bool := false
deriving DecidableEq, Repr

/-- The header of a command that the module has taken up and completes now. -/
def Hdr.resumed (h : Hdr) : Hdr := { h with later := false, taken := true }

/-- What a source's two rails show, and for how many cycles of the time domain both have held it (01 R27). -/
structure Rails where
  code : Nat
  held : Nat
deriving DecidableEq, Repr

/-- A source whose rails show 01 again, and for how many cycles both have held it (01 R27). -/
structure SrcRails where
  src : Nat
  held : Nat
deriving DecidableEq, Repr

/-- A checkpoint: the pair that writes it and the state of its tasks (01 R18). -/
structure Checkpoint where
  pair : Nat
  task : Bytes
deriving DecidableEq, Repr

/-- What a camera's sensor answers on the I2C tunnel (10 R351). -/
inductive SensorAns where
  | ack (data : Bytes)
  | nack (index : Nat)
deriving DecidableEq, Repr

/-- How a stud has stood over a span that ends now (08 R265, R266): the span in ns, its lowest and its highest sample, and
the highest of its 20 ms means. -/
structure StudSpan where
  ns : Nat
  low : F32
  high : F32
  mean : F32
deriving DecidableEq, Repr

/-- A sample of a channel during a clamp event (08 R271): stud voltage, output voltage, current. -/
structure ClampSample where
  stud : F32
  out : F32
  current : F32
deriving DecidableEq, Repr

/-- The rectified samples of one flow channel over a counting window (06 R184): the sum of
max(|x| - T_OFF, 0) in counts and the number of samples. -/
structure FlowSum where
  ch : Nat
  sum : Nat
  samples : Nat
deriving DecidableEq, Repr

/-- Consecutive raw samples of an impact channel, those before them first (06 R171, R173). -/
structure SampleRun where
  k : Nat
  before : List Int
  run : List Int
deriving DecidableEq, Repr

/-- One raw sample of an analog input: its voltage, and the output of its named VREF5 at the same instant (06 R186). -/
structure AinRaw where
  volts : F32
  ref : F32
deriving DecidableEq, Repr

/-- What the ego-motion filter computes at an ego instant (09 R288, Table 9.2). -/
structure EgoIn where
  x : Int
  y : Int
  z : Int
  roll : F32
  pitch : F32
  yaw : F32
  speed : F32
  yawRate : F32
deriving DecidableEq, Repr

/-- One cell's head outputs at a cycle (09 R306): the head, the global cell (R293), and what the network gives. -/
structure CellOut where
  head : Nat
  gi : Int
  gj : Int
  camSeen : Bool
  lidSeen : Bool
  c : F32
  l : F32
  f : F32
  conf : F32
  sigma : F32
  cls : Nat
  height : F32
  code : Nat
  pipe : Nat
  stream : Nat
deriving DecidableEq, Repr

/-- A fitted crop-edge line (09 R310). -/
structure EdgeLine where
  x0 : F32
  y0 : F32
  heading : F32
  curvature : F32
  conf : F32
deriving DecidableEq, Repr

/-- A lidar packet as the switch hands it to fusion (09 R302). -/
structure PointPacket where
  port : Nat
  udp : Bool
  dest : Nat
  mac : Nat
  payload : Bytes
deriving DecidableEq, Repr

/-- A CSI-2 packet on a link (10 R328): header ECC 0 good, 1 corrected, 2 worse. -/
structure Csi2 where
  vc : Nat
  dt : Nat
  ecc : Nat
  pixels : List Nat
  crcOk : Bool
  data : Bytes
deriving DecidableEq, Repr

/-- What the image processor measures of one frame (10 R344, Table 10.5). -/
structure FrameStats where
  means : List F32
  saturated : F32
  zones : List Nat
  histogram : List Nat
  areas : List Nat
  blobs : Nat
  tapLost : Bool
deriving DecidableEq, Repr

/-- A narrowband line seen by an adaptive notch's search (11 R358): frequency and level above
the noise floor. -/
structure NotchLine where
  freq : F32
  level : F32
deriving DecidableEq, Repr

/-- What the tracking loops of one channel estimate (11 R364): C/N0 in dB-Hz, Doppler in Hz, code
phase in chips. -/
structure TrackIn where
  ch : Nat
  cn0 : F32
  doppler : F32
  code : F32
deriving DecidableEq, Repr

/-- What the front end, the notches, the bank and the tracking loops give in one 1 ms epoch
(11 R358 to R364). `tcxo` is the offset estimated from tracking, where there is one; `cells` are the squared
magnitudes of the window's bins from the lowest up, in each of its hypotheses from 0 up. -/
structure BankEpoch where
  ji : F32
  agc : F32
  tcxo : Option F32
  lines : List NotchLine
  cells : List (List Nat)
  chans : List TrackIn
deriving DecidableEq, Repr

/-- One channel's measurements at an epoch (11 Table 11.6, R370); 64-bit fields are binary64 bit
patterns, the elevation is in degrees. -/
structure ObsIn where
  ch : Nat
  slip : Bool
  elev : F32
  pseudorange : Nat
  carrier : Nat
deriving DecidableEq, Repr

/-- The measurements and the least-squares solution of one epoch (11 R369 to R371). `gps` is the
GPS time of the epoch within its week, `week` the 10-bit LNAV week, σ in ns. -/
structure EpochIn where
  obs : List ObsIn
  pdop : F32
  lat : Nat
  lon : Nat
  height : F32
  sigmaH : F32
  week : Nat
  gps : T96
  tow : Nat
  td0LessGps : Nat
  sigma : F32
deriving DecidableEq, Repr

/-- A PTP message on a terminated domain (12 R413, R414): of a Sync or Follow_Up, the ingress time
less the origin time and the correction field; of a delay response, the mean link delay. kind: 0 Sync one-step, 1 Sync two-step, 2 Follow_Up, 3 Announce,
4 delay or peer-delay response, 5 any other. The offset is in units of 2^-16 ns. -/
structure PtpMsg where
  kind : Nat
  domainNumber : Nat
  selected : Bool
  offset : Int
  linkDelay : F32
  rateRatio : F32
  gmId : Nat
  gmClass : Nat
  ptpScale : Bool
  utcOffset : Int
  utcValid : Bool
  leap61 : Bool
  leap59 : Bool
deriving DecidableEq, Repr

/-- An Ethernet frame at a switch port (12 R418). -/
structure EthFrame where
  src : Nat
  dst : Nat
  vlan : Option Nat
  pcp : Nat
  ethertype : Nat
  fcsOk : Bool
  length : Nat
deriving DecidableEq, Repr

/-- A CAN frame (13 Tables 13.7 to 13.9): fmt 0 classical, 1 FD, 2 XL. -/
structure CanFrame where
  id : Nat
  ide : Bool
  fmt : Nat
  remote : Bool
  brs : Bool
  esi : Bool
  sdu : Nat
  vcid : Nat
  af : Nat
  data : Bytes
deriving DecidableEq, Repr

/-- The commands: one constructor per row of the operation table. -/
inductive Instr where
  /-- GET_IDENTITY (R97). -/
  | getIdentity (h : Hdr) (p : Bytes)
  /-- OPEN_SESSION (R87). -/
  | openSession (h : Hdr) (p : Bytes)
  /-- CLOSE_SESSION (R88). -/
  | closeSession (h : Hdr) (p : Bytes)
  /-- KEEPALIVE (R99). -/
  | keepalive (h : Hdr) (p : Bytes)
  /-- TAKE_OWNERSHIP (R91). -/
  | takeOwnership (h : Hdr) (p : Bytes)
  /-- RELEASE_OWNERSHIP (R91). -/
  | releaseOwnership (h : Hdr) (p : Bytes)
  /-- SUBSCRIBE (R94). -/
  | subscribe (h : Hdr) (p : Bytes)
  /-- UNSUBSCRIBE (R94). -/
  | unsubscribe (h : Hdr) (p : Bytes)
  /-- START (R31). -/
  | start (h : Hdr) (p : Bytes)
  /-- STOP (R30). -/
  | stop (h : Hdr) (p : Bytes)
  /-- GET_STATE (R99). -/
  | getState (h : Hdr) (p : Bytes)
  /-- RESET_CORE (R99). -/
  | resetCore (h : Hdr) (p : Bytes)
  /-- READ_MEM (R102). -/
  | readMem (h : Hdr) (p : Bytes) (eccErr : Bool)
  /-- WRITE_MEM (R103). -/
  | writeMem (h : Hdr) (p : Bytes)
  /-- SAVE_SETTINGS (R99). -/
  | saveSettings (h : Hdr) (p : Bytes)
  /-- LOG_ERASE (R99). -/
  | logErase (h : Hdr) (p : Bytes)
  /-- PWR_SET_LATENCY (R519). -/
  | pwrSetLatency (h : Hdr) (p : Bytes)
  /-- PWR_REQUEST_STATE (R501). -/
  | pwrRequestState (h : Hdr) (p : Bytes)
  /-- PWR_SET_BUDGET (R521). -/
  | pwrSetBudget (h : Hdr) (p : Bytes)
  /-- PWR_GET_BUDGET (R522). -/
  | pwrGetBudget (h : Hdr) (p : Bytes)
  /-- PWR_STATUS (R523). -/
  | pwrStatus (h : Hdr) (p : Bytes)
  /-- LOOP_CONFIG (R140). -/
  | loopConfig (h : Hdr) (p : Bytes)
  /-- LOOP_READ (R142). -/
  | loopRead (h : Hdr) (p : Bytes)
  /-- LOOP_SET_REFERENCE (R143). -/
  | loopSetReference (h : Hdr) (p : Bytes)
  /-- LOOP_SET_FEEDFORWARD (R143). -/
  | loopSetFeedforward (h : Hdr) (p : Bytes)
  /-- LOOP_STATUS (R144). -/
  | loopStatus (h : Hdr) (p : Bytes)
  /-- CLE_CAPACITY (R145). -/
  | cleCapacity (h : Hdr) (p : Bytes)
  /-- TABLE_WRITE (R155). -/
  | tableWrite (h : Hdr) (p : Bytes)
  /-- TABLE_READ (R157). -/
  | tableRead (h : Hdr) (p : Bytes)
  /-- GROUP_CONFIG (R161). -/
  | groupConfig (h : Hdr) (p : Bytes)
  /-- GROUP_READ (R168). -/
  | groupRead (h : Hdr) (p : Bytes)
  /-- IMP_CONFIG (R198). -/
  | impConfig (h : Hdr) (p : Bytes)
  /-- CLASSIFIER_LOAD (R202). -/
  | classifierLoad (h : Hdr) (p : Bytes)
  /-- AIN_CONFIG (R198). -/
  | ainConfig (h : Hdr) (p : Bytes)
  /-- FIN_CONFIG (R198). -/
  | finConfig (h : Hdr) (p : Bytes)
  /-- POS_CONFIG (R198). -/
  | posConfig (h : Hdr) (p : Bytes)
  /-- IMU_CONFIG (R201). -/
  | imuConfig (h : Hdr) (p : Bytes)
  /-- SENSE_READ (R206). -/
  | senseRead (h : Hdr) (p : Bytes)
  /-- FLOW_CALIBRATE (R204). -/
  | flowCalibrate (h : Hdr) (p : Bytes)
  /-- PLANNER_MODEL (R233). -/
  | plannerModel (h : Hdr) (p : Bytes)
  /-- PLANNER_OBJECTIVES (R223). -/
  | plannerObjectives (h : Hdr) (p : Bytes)
  /-- PSP_MAP (R224). -/
  | pspMap (h : Hdr) (p : Bytes)
  /-- PLANNER_STATUS (R234). -/
  | plannerStatus (h : Hdr) (p : Bytes)
  /-- GUIDANCE_CONFIG (R236). -/
  | guidanceConfig (h : Hdr) (p : Bytes)
  /-- PATH_LOAD (R239). -/
  | pathLoad (h : Hdr) (p : Bytes)
  /-- POSE_SOURCE (R238). -/
  | poseSource (h : Hdr) (p : Bytes)
  /-- YIELD_CONFIG (R245). -/
  | yieldConfig (h : Hdr) (p : Bytes)
  /-- LSW_CONFIG (R281). -/
  | lswConfig (h : Hdr) (p : Bytes)
  /-- LSW_COMMAND (R282). -/
  | lswCommand (h : Hdr) (p : Bytes)
  /-- LSW_STATUS (R283). -/
  | lswStatus (h : Hdr) (p : Bytes)
  /-- LSW_CLEAR (R284). -/
  | lswClear (h : Hdr) (p : Bytes)
  /-- FUS_CONFIG (R320). -/
  | fusConfig (h : Hdr) (p : Bytes)
  /-- FUS_WEIGHTS (R316). -/
  | fusWeights (h : Hdr) (p : Bytes)
  /-- FUS_HEAD_POLICY (R322). -/
  | fusHeadPolicy (h : Hdr) (p : Bytes)
  /-- FUS_POINT_STREAM (R321). -/
  | fusPointStream (h : Hdr) (p : Bytes)
  /-- FUS_STATUS (R323). -/
  | fusStatus (h : Hdr) (p : Bytes)
  /-- PIPE_CONFIG (R350). -/
  | pipeConfig (h : Hdr) (p : Bytes)
  /-- EXPOSURE_COMMIT (R337). -/
  | exposureCommit (h : Hdr) (p : Bytes)
  /-- SENSOR_TUNNEL_READ (R351). -/
  | sensorTunnelRead (h : Hdr) (p : Bytes) (ans : SensorAns)
  /-- SENSOR_TUNNEL_WRITE (R351). -/
  | sensorTunnelWrite (h : Hdr) (p : Bytes) (ans : SensorAns)
  /-- SENSOR_TUNNEL_APPEND_START (R351). -/
  | sensorTunnelAppendStart (h : Hdr) (p : Bytes)
  /-- SENSOR_TUNNEL_APPEND_STOP (R351). -/
  | sensorTunnelAppendStop (h : Hdr) (p : Bytes)
  /-- SENSOR_TUNNEL_CLEAR_LISTS (R351). -/
  | sensorTunnelClearLists (h : Hdr) (p : Bytes)
  /-- PIPE_STATUS (R352). -/
  | pipeStatus (h : Hdr) (p : Bytes)
  /-- GNSS_CONFIG (R381). -/
  | gnssConfig (h : Hdr) (p : Bytes)
  /-- NOTCH_CONFIG (R382). -/
  | notchConfig (h : Hdr) (p : Bytes)
  /-- PIP_CAPTURE (R383). -/
  | pipCapture (h : Hdr) (p : Bytes)
  /-- PIP_EXPORT_READ_HEADER (R384). -/
  | pipExportReadHeader (h : Hdr) (p : Bytes)
  /-- PIP_EXPORT_READ_SAMPLES (R384). -/
  | pipExportReadSamples (h : Hdr) (p : Bytes)
  /-- PIP_EXPORT_PROCESS (R384). -/
  | pipExportProcess (h : Hdr) (p : Bytes)
  /-- PIP_EXPORT_DELETE (R379). -/
  | pipExportDelete (h : Hdr) (p : Bytes)
  /-- GNSS_STATUS (R385). -/
  | gnssStatus (h : Hdr) (p : Bytes)
  /-- TD_CONFIG (R423). -/
  | tdConfig (h : Hdr) (p : Bytes)
  /-- GET_TIME (R424). -/
  | getTime (h : Hdr) (p : Bytes)
  /-- RATE_OVERRIDE (R425). -/
  | rateOverride (h : Hdr) (p : Bytes)
  /-- PORT_CONFIG (R426). -/
  | portConfig (h : Hdr) (p : Bytes)
  /-- GATE_CONFIG (R427). -/
  | gateConfig (h : Hdr) (p : Bytes)
  /-- TIME_STATUS (R428). -/
  | timeStatus (h : Hdr) (p : Bytes)
  /-- CAN_CONFIG (R453). -/
  | canConfig (h : Hdr) (p : Bytes)
  /-- CAN_FILTER (R454). -/
  | canFilter (h : Hdr) (p : Bytes)
  /-- CAN_TRANSMIT (R455). -/
  | canTransmit (h : Hdr) (p : Bytes)
  /-- CAN_STATUS (R456). -/
  | canStatus (h : Hdr) (p : Bytes)
  /-- CAN_ADDRESS_CLAIM (R457). -/
  | canAddressClaim (h : Hdr) (p : Bytes)
  /-- FAULT_READ (R489). -/
  | faultRead (h : Hdr) (p : Bytes)
  /-- FAULT_CLEAR (R490). -/
  | faultClear (h : Hdr) (p : Bytes)
  /-- FAULT_SOURCE_CONFIG (R491). -/
  | faultSourceConfig (h : Hdr) (p : Bytes)
  /-- FAULT_THRESHOLD (R492). -/
  | faultThreshold (h : Hdr) (p : Bytes)
  /-- CAPTURE_READ (R492). -/
  | captureRead (h : Hdr) (p : Bytes)
  /-- PANEL_CONFIG (R543). -/
  | panelConfig (h : Hdr) (p : Bytes)
  /-- PANEL_FRAME (R544). -/
  | panelFrame (h : Hdr) (p : Bytes)
  /-- PANEL_STATUS (R545). -/
  | panelStatus (h : Hdr) (p : Bytes)
  /-- UPDATE_BEGIN (R555). -/
  | updateBegin (h : Hdr) (p : Bytes)
  /-- UPDATE_BLOCK (R556). -/
  | updateBlock (h : Hdr) (p : Bytes)
  /-- UPDATE_COMMIT (R557). -/
  | updateCommit (h : Hdr) (p : Bytes)
  /-- UPDATE_STATUS (R558). -/
  | updateStatus (h : Hdr) (p : Bytes)
  /-- TEST_UNLOCK (R571). -/
  | testUnlock (h : Hdr) (p : Bytes)
  /-- PERTURB_SET (R574). -/
  | perturbSet (h : Hdr) (p : Bytes)
  /-- PERTURB_CLEAR (R577). -/
  | perturbClear (h : Hdr) (p : Bytes)
  /-- TEST_STATUS (R580). -/
  | testStatus (h : Hdr) (p : Bytes)
  /-- UNDEFINED_OPCODE (R104). -/
  | undefinedOpcode (h : Hdr) (opcode : Nat) (p : Bytes)
  /-- BALINE_PACKET_DISCARDED (R77). -/
  | balinePacketDiscarded (ep : Endpoint) (raw : Bytes)
  /-- BALINE_PORT_MISMATCH_DROP (R72). -/
  | balinePortMismatchDrop (port : Nat)
  /-- NEIGHBOUR_DISCOVERY (R73). -/
  | neighbourDiscovery (src target : Nat)
  /-- ICMPV6_ECHO (R73). -/
  | icmpv6Echo (src ident seq : Nat) (data : Bytes)
  /-- ISOTP_FRAME_RECEIVED (R75). -/
  | isotpFrameReceived (id : Nat) (data : Bytes)
  /-- ISOTP_TIMEOUT (R75). -/
  | isotpTimeout (nBs : Bool)
  /-- SESSION_KEEPALIVE_TIMEOUT (R88). -/
  | sessionKeepaliveTimeout (session : Nat)
  /-- FAULT_LOG_ENTRY_QUEUED (R95). -/
  | faultLogEntryQueued (session : Nat)
  /-- SERVICE_LOG_WRITE (R100). -/
  | serviceLogWrite
  /-- POWER_ON_RESET (R42). -/
  | powerOnReset (bench : Bool)
  /-- RESET_N_FALL (R41). -/
  | resetNFall (lowNs : Nat)
  /-- RESET_N_RISE (R42). -/
  | resetNRise (bench : Bool)
  /-- REFCLK_LOSS (R41). -/
  | refclkLoss
  /-- PLLS_LOCKED (R42). -/
  | pllsLocked
  /-- LOADER_START (R42). -/
  | loaderStart (crcOk : Bool)
  /-- UPDATE_JOURNAL_READ (R563). -/
  | updateJournalRead
  /-- DRAM_TRAINED (R42). -/
  | dramTrained
  /-- FIRMWARE_IMAGE_VERIFIED (R565). -/
  | firmwareImageVerified
  /-- CORE_RESET_DIGEST_CHECK (R46). -/
  | coreResetDigestCheck
  /-- PAIR_ROLES_ASSIGNED (R43). -/
  | pairRolesAssigned (pa pb pc pd : Bool)
  /-- FIRMWARE_RUNNING (R42). -/
  | firmwareRunning
  /-- BALINE_SERVED (R42). -/
  | balineServed
  /-- AUTO_START (R45). -/
  | autoStart
  /-- PROCESSOR_COMPLEX_RESET (R36). -/
  | processorComplexReset
  /-- GROUP_HOLD_EXPIRY (R38). -/
  | groupHoldExpiry (g : Nat)
  /-- CHANNEL_HOLD_EXPIRY (R278). -/
  | channelHoldExpiry (k : Nat)
  /-- SUPERVISOR_CHECK_FAILED (R40). -/
  | supervisorCheckFailed (check : Nat)
  /-- LOGIC_FEED_RANGE_CHANGE (R58). -/
  | logicFeedRangeChange (feed : Nat) (inRange : Bool) (volts : F32)
  /-- HOLDUP_STORE_EXHAUSTED (R59). -/
  | holdupStoreExhausted
  /-- VREF5_LIMIT_TIMEOUT (R63). -/
  | vref5LimitTimeout (v : Nat)
  /-- VREF5_RETRY (R63). -/
  | vref5Retry (v : Nat) (ok : Bool)
  /-- BASE_TEMPERATURE_SAMPLE (R508). -/
  | baseTemperatureSample (t0 t1 t2 t3 : F32)
  /-- FIREWALL_DROP (R485). -/
  | firewallDrop (pair tag access address : Nat)
  /-- ACCESS_REFUSED (R23). -/
  | accessRefused (master access address : Nat)
  /-- LOOP_SAMPLE (R122). -/
  | loopSample (n : Nat)
  /-- LOOP_SAMPLE_MISSED (R133). -/
  | loopSampleMissed (n : Nat)
  /-- GROUP_START_COMMIT (R128). -/
  | groupStartCommit (g : Nat)
  /-- GROUP_STOP_COMPLETE (R135). -/
  | groupStopComplete (g : Nat)
  /-- HIT_ONSET (R173). -/
  | hitOnset (k : Nat) (pre : List Int) (x : Int)
  /-- MERGED_HIT (R173). -/
  | mergedHit (k : Nat) (before : List Int) (x : Int)
  /-- HIT_WINDOW_COMPLETE (R175). -/
  | hitWindowComplete (k : Nat) (rest : List Int) (clipped : Bool)
  /-- HIT_QUIET_END (R173). -/
  | hitQuietEnd (q : SampleRun)
  /-- HIT_CLASSIFIED (R177). -/
  | hitClassified (k : Nat)
  /-- COUNTING_WINDOW_END (R180). -/
  | countingWindowEnd (flow : List FlowSum)
  /-- WINDOW_COUNTS_PUBLISHED (R180). -/
  | windowCountsPublished
  /-- FRONT_END_SELFTEST (R172). -/
  | frontEndSelftest (k : Nat) (ok : Bool)
  /-- AIN_UPDATE (R187). -/
  | ainUpdate (k : Nat) (volts refs : List F32)
  /-- AIN_RANGE_COUNT (R188). -/
  | ainRangeCount (k : Nat) (raw : AinRaw)
  /-- FIN_EDGE_ACCEPTED (R189). -/
  | finEdgeAccepted (k : Nat) (age : Nat) (volts : F32) (both : Bool)
  /-- QERR_EXPIRY (R191). -/
  | qerrExpiry (k : Nat)
  /-- FIN_UPDATE (R190). -/
  | finUpdate (k : Nat)
  /-- POS_UPDATE (R193). -/
  | posUpdate (k : Nat) (theta : F32) (cycles : Int) (speed ampl trackErr : F32)
  /-- EXCITATION_LIMIT_TIMEOUT (R192). -/
  | excitationLimitTimeout (k : Nat)
  /-- EXCITATION_RETRY (R192). -/
  | excitationRetry (k : Nat) (ok : Bool)
  /-- IMU_SAMPLE (R195). -/
  | imuSample (ax ay az gx gy gz : F32) (saturated : Bool)
  /-- INPUT_CONFIG_COMMIT (R198). -/
  | inputConfigCommit (sel k : Nat)
  /-- INPUT_SETTLING_END (R198). -/
  | inputSettlingEnd (sel k : Nat)
  /-- CLASSIFIER_SET_COMMIT (R203). -/
  | classifierSetCommit (set : Nat)
  /-- FLOW_CURVE_APPLY (R204). -/
  | flowCurveApply (k : Nat)
  /-- INPUT_VALIDITY_REPORT (R208). -/
  | inputValidityReport (sel k : Nat)
  /-- PLANNER_CYCLE (R213). -/
  | plannerCycle
  /-- PLAN_SOLVED (R222). -/
  | planSolved (mvs : List (List F32))
  /-- PLANNER_COAST_TIMEOUT (R215). -/
  | plannerCoastTimeout
  /-- PLANNER_START_COMMIT (R230). -/
  | plannerStartCommit
  /-- PLANNER_STOP_COMPLETE (R231). -/
  | plannerStopComplete
  /-- CV_OVER_LIMIT_TIMEOUT (R246). -/
  | cvOverLimitTimeout (j : Nat)
  /-- GUIDANCE_INSTANT (R237). -/
  | guidanceInstant (ey ePsi kap sNear : F32) (beyondEnd : Bool) (retire : Nat)
  /-- POSE_RECEIVED (R238). -/
  | poseReceived (udp : Bool) (port ident : Nat) (raw : Bytes)
  /-- POSE_STALE_EXPIRY (R240). -/
  | poseStaleExpiry
  /-- DR_LIMIT_EXPIRY (R240). -/
  | drLimitExpiry
  /-- GUIDANCE_START_COMMIT (R241). -/
  | guidanceStartCommit
  /-- GUIDANCE_STOP_COMPLETE (R241). -/
  | guidanceStopComplete
  /-- YIELD_CONFIG_COMMIT (R245). -/
  | yieldConfigCommit
  /-- CHANNEL_START_COMMIT (R275). -/
  | channelStartCommit (k : Nat)
  /-- CHANNEL_STOP_COMPLETE (R276). -/
  | channelStopComplete (k : Nat)
  /-- PWM_PERIOD_START (R254). -/
  | pwmPeriodStart (k : Nat) (vMean : F32)
  /-- PWM_ON_TIME_END (R254). -/
  | pwmOnTimeEnd (k : Nat)
  /-- CURRENT_LIMIT_ENTRY (R259). -/
  | currentLimitEntry (k : Nat) (riseNs : Nat)
  /-- SHORT_CLASSIFY_CHECK (R260). -/
  | shortClassifyCheck (k : Nat) (vOut vStud : F32)
  /-- SHORT_CONFIRM_EXPIRY (R260). -/
  | shortConfirmExpiry (k : Nat)
  /-- QUIET_WINDOW_EXPIRY (R263). -/
  | quietWindowExpiry (stud : Nat)
  /-- LIMIT_EXIT (R262). -/
  | limitExit (k : Nat)
  /-- LIMIT_TIME_EXPIRY (R262). -/
  | limitTimeExpiry (k : Nat)
  /-- RETRY_OFF_EXPIRY (R263). -/
  | retryOffExpiry (k : Nat)
  /-- DIE_OVER_TEMPERATURE (R264). -/
  | dieOverTemperature (d : Nat) (t : F32)
  /-- DIE_GATE_OPEN (R264). -/
  | dieGateOpen (d : Nat) (t : F32)
  /-- DIE_SENSOR_FAULT (R264). -/
  | dieSensorFault (d : Nat) (t : F32)
  /-- STUD_UNDER_VOLTAGE (R265). -/
  | studUnderVoltage (stud : Nat) (v : F32)
  /-- STUD_OVER_VOLTAGE (R266). -/
  | studOverVoltage (stud : Nat) (v : F32) (byMean : Bool)
  /-- STUD_SUPPLY_SETTLED (R267). -/
  | studSupplySettled (stud : Nat) (q : StudSpan)
  /-- CHANNEL_OVERLOAD (R268). -/
  | channelOverload (k : Nat) (mean : F32)
  /-- OPEN_LOAD_DETECT (R269). -/
  | openLoadDetect (k : Nat) (isOpen : Bool) (current : F32)
  /-- CLAMP_EVENT_BEGIN (R271). -/
  | clampEventBegin (k : Nat)
  /-- CLAMP_EVENT_END (R272). -/
  | clampEventEnd (k : Nat) (samples : List ClampSample)
  /-- CLAMP_WINDOW_AGE_OUT (R271). -/
  | clampWindowAgeOut (k : Nat)
  /-- STUD_GATE_ADMIT (R514). -/
  | studGateAdmit (stud : Nat) (means : List F32)
  /-- STUD_CURRENT_GATE (R516). -/
  | studCurrentGate (stud : Nat) (mean : F32)
  /-- SWITCHING_CYCLES_STORE (R283). -/
  | switchingCyclesStore
  /-- EGO_INSTANT (R288). -/
  | egoInstant (e : EgoIn)
  /-- EGO_CONFIG_COMMIT (R291). -/
  | egoConfigCommit
  /-- FUSION_GATHER (R296). -/
  | fusionGather
  /-- FUSION_RESULTS_ISSUED (R296). -/
  | fusionResultsIssued (cells : List CellOut) (edgeL edgeR : EdgeLine)
  /-- POINT_PACKET_RECEIVED (R302). -/
  | pointPacketReceived (pk : PointPacket)
  /-- FUSION_EGO_LOST_TIMEOUT (R319). -/
  | fusionEgoLostTimeout
  /-- FUSION_START_COMMIT (R317). -/
  | fusionStartCommit
  /-- FUSION_STOP_COMPLETE (R318). -/
  | fusionStopComplete
  /-- WEIGHTS_WRITE_COMPLETE (R316). -/
  | weightsWriteComplete (slot : Nat)
  /-- CAMERA_POWER_LIMIT (R329). -/
  | cameraPowerLimit (k : Nat) (current : F32)
  /-- CAMERA_POWER_RETRY (R329). -/
  | cameraPowerRetry (k : Nat) (ok : Bool)
  /-- CAMERA_LINK_CHANGE (R329). -/
  | cameraLinkChange (k : Nat) (up : Bool) (sensorId : Nat)
  /-- CAMERA_TRIGGER (R335). -/
  | cameraTrigger (k : Nat)
  /-- FRAME_START (R330). -/
  | frameStart (k : Nat)
  /-- FRAME_SLOT_MISSING (R331). -/
  | frameSlotMissing (k : Nat)
  /-- CSI2_PACKET_RECEIVED (R328). -/
  | csi2PacketReceived (k : Nat) (pk : Csi2)
  /-- FRAME_END (R333). -/
  | frameEnd (k : Nat)
  /-- FRAME_PROCESSED (R342). -/
  | frameProcessed (k : Nat) (st : FrameStats)
  /-- STATS_RECORD_SENT (R346). -/
  | statsRecordSent (k : Nat)
  /-- EXPOSURE_WRITES_COMPLETE (R338). -/
  | exposureWritesComplete (k : Nat)
  /-- PIPE_START_COMMIT (R347). -/
  | pipeStartCommit (k : Nat)
  /-- PIPE_START_TIMEOUT (R347). -/
  | pipeStartTimeout (k : Nat)
  /-- PIPE_STOP_COMPLETE (R348). -/
  | pipeStopComplete (k : Nat)
  /-- ANTENNA_BIAS_CHANGE (R357). -/
  | antennaBiasChange (toState : Nat) (current : F32)
  /-- ANTENNA_BIAS_RETRY (R357). -/
  | antennaBiasRetry (ok : Bool) (current : F32)
  /-- GNSS_BANK_EPOCH (R361). -/
  | gnssBankEpoch (b : BankEpoch)
  /-- JAMMING_ALARM_TIMEOUT (R360). -/
  | jammingAlarmTimeout
  /-- ACQUISITION_FALSE_ALARM (R362). -/
  | acquisitionFalseAlarm (ch : Nat)
  /-- TRACKING_LOCK_CHANGE (R364). -/
  | trackingLockChange (ch : Nat) (code phase : Bool)
  /-- TRACKING_LOSS_TIMEOUT (R365). -/
  | trackingLossTimeout (ch : Nat) (byCn0 : Bool)
  /-- BIT_SYNC_TIMEOUT (R364). -/
  | bitSyncTimeout (ch : Nat)
  /-- LOST_PRN_EXPIRY (R365). -/
  | lostPrnExpiry (prn : Nat)
  /-- SUBFRAME_RECEIVED (R367). -/
  | subframeReceived (ch : Nat) (words : List Nat) (prevBits : Nat) (follows : Bool) (start : T96)
  /-- MEASUREMENT_EPOCH (R369). -/
  | measurementEpoch (m : EpochIn)
  /-- GNSS_DATA_STORE (R372). -/
  | gnssDataStore
  /-- GNSS_START_COMMIT (R380). -/
  | gnssStartCommit
  /-- PIP_CAPTURE_BEGIN (R373). -/
  | pipCaptureBegin
  /-- PIP_STORED (R375). -/
  | pipStored (samples : Bytes)
  /-- PIP_PROCESSING_UNIT (R377). -/
  | pipProcessingUnit (ratio : F32) (code64 : Nat) (doppler : Int)
  /-- TIME_STEP_MADE (R401). -/
  | timeStepMade (d : Nat)
  /-- PPS_OUT_PULSE (R407). -/
  | ppsOutPulse (d : Nat)
  /-- PTP_MESSAGE_RECEIVED (R414). -/
  | ptpMessageReceived (port : Nat) (m : PtpMsg)
  /-- PTP_MESSAGE_SEND (R414). -/
  | ptpMessageSend (d port kind : Nat)
  /-- PTP_EVENT_FORWARDED (R415). -/
  | ptpEventForwarded (inPort outPort domainNumber : Nat) (residence correction : Int)
  /-- PTP_SOURCE_TIMEOUT (R403). -/
  | ptpSourceTimeout (d : Nat)
  /-- PPS_IN_EDGE (R408). -/
  | ppsInEdge (highNs : Nat)
  /-- PPS_IN_TIMEOUT (R403). -/
  | ppsInTimeout (d : Nat)
  /-- SLEW_COMPLETE (R399). -/
  | slewComplete (d : Nat)
  /-- HOLDOVER_SPEC_EXCEEDED (R397). -/
  | holdoverSpecExceeded (d : Nat)
  /-- DOMAIN_START_COMMIT (R409). -/
  | domainStartCommit (d : Nat)
  /-- GATE_ENTRY_EXPIRY (R419). -/
  | gateEntryExpiry (port : Nat)
  /-- GATE_LIST_START (R421). -/
  | gateListStart (port : Nat)
  /-- PORT_CONFIG_APPLY (R426). -/
  | portConfigApply (port : Nat)
  /-- PORT_LINK_CHANGE (R416). -/
  | portLinkChange (port : Nat) (up : Bool)
  /-- ETH_FRAME_RECEIVED (R418). -/
  | ethFrameReceived (port : Nat) (f : EthFrame)
  /-- CAN_FRAME_RECEIVED (R437). -/
  | canFrameReceived (k : Nat) (f : CanFrame)
  /-- CAN_PROTOCOL_EXCEPTION (R432). -/
  | canProtocolException (k fmt : Nat)
  /-- CAN_BUS_ERROR (R446). -/
  | canBusError (k : Nat) (transmitter : Bool) (add lec : Nat)
  /-- CAN_TX_ATTEMPT_END (R444). -/
  | canTxAttemptEnd (k : Nat) (result : Nat) (delay : Nat)
  /-- CAN_BUSOFF_RECOVERED (R447). -/
  | canBusoffRecovered (k : Nat)
  /-- CAN_TX_DOMINANT_TIMEOUT (R445). -/
  | canTxDominantTimeout (k : Nat)
  /-- CAN_BUS_DOMINANT_TIMEOUT (R445). -/
  | canBusDominantTimeout (k : Nat)
  /-- CAN_BUS_INTEGRATED (R450). -/
  | canBusIntegrated (k : Nat)
  /-- CAN_STOP_COMPLETE (R451). -/
  | canStopComplete (k : Nat)
  /-- ADDRESS_CLAIM_TIMEOUT (R449). -/
  | addressClaimTimeout (k : Nat)
  /-- CANNOT_CLAIM_DELAY_EXPIRY (R449). -/
  | cannotClaimDelayExpiry (k : Nat)
  /-- HP_FRAME_HOLDOFF_EXPIRY (R440). -/
  | hpFrameHoldoffExpiry (k : Nat)
  /-- RX_READY_HOLDOFF_EXPIRY (R439). -/
  | rxReadyHoldoffExpiry (k : Nat)
  /-- FAULT_SOURCE_RAISED (R461). -/
  | faultSourceRaised (src : Nat) (enc : Rails) (detail master access address : Nat)
  /-- FAULT_SOURCE_RETURNED (R461). -/
  | faultSourceReturned (r : SrcRails)
  /-- FAULT_LINK_RESTORED (R462). -/
  | faultLinkRestored (src : Nat) (enc : Rails)
  /-- SQUALL_WINDOW_END (R473). -/
  | squallWindowEnd
  /-- WATCHDOG_EXPIRY (R467). -/
  | watchdogExpiry
  /-- LOCKSTEP_MISCOMPARE (R482). -/
  | lockstepMiscompare (pair address : Nat)
  /-- FAILOVER_RESTORE_COMPLETE (R483). -/
  | failoverRestoreComplete (ok : Bool)
  /-- DEAD_PAIR_RESET (R486). -/
  | deadPairReset (pair : Nat)
  /-- QUARANTINE_SELF_TEST_END (R486). -/
  | quarantineSelfTestEnd (pair : Nat) (pass : Bool)
  /-- HEARTBEAT_WRITE (R471). -/
  | heartbeatWrite (pair : Nat)
  /-- ALIVE_HEARTBEAT_TIMEOUT (R471). -/
  | aliveHeartbeatTimeout
  /-- POWER_STATE_ENTRY_COMPLETE (R503). -/
  | powerStateEntryComplete
  /-- IGN_RISE (R505). -/
  | ignRise
  /-- IGN_OFF_DELAY_EXPIRY (R504). -/
  | ignOffDelayExpiry
  /-- CAN_WAKE_PATTERN (R505). -/
  | canWakePattern (k : Nat)
  /-- WAKE_TIMER_EXPIRY (R505). -/
  | wakeTimerExpiry
  /-- BUDGET_WINDOW (R509). -/
  | budgetWindow
  /-- ENERGY_METER (R510). -/
  | energyMeter (use : List (Nat × F32)) (elec diss : F32)
  /-- PANEL_TEMPERATURE_READ (R530). -/
  | panelTemperatureRead (ratio : F32)
  /-- PANEL_SUPPLY_SAMPLE (R538). -/
  | panelSupplySample (vph vpm vpl : F32)
  /-- PANEL_SUPPLY_RESTORED (R538). -/
  | panelSupplyRestored
  /-- PANEL_ROW_START (R533). -/
  | panelRowStart
  /-- PANEL_PHASE_END (R528). -/
  | panelPhaseEnd
  /-- PANEL_JOURNAL_TICK (R536). -/
  | panelJournalTick
  /-- PANEL_STOP_COMPLETE (R541). -/
  | panelStopComplete
  /-- UPDATE_COPY_BEGIN (R557). -/
  | updateCopyBegin
  /-- UPDATE_SECTOR_DONE (R560). -/
  | updateSectorDone (readBackOk : Bool)
  /-- UPDATE_CHECK_COMPLETE (R561). -/
  | updateCheckComplete (digestOk : Bool)
  /-- PERTURBATION_EXPIRY (R577). -/
  | perturbationExpiry (slot : Nat)
  /-- REFCLK_RETURN (R41). -/
  | refclkReturn (bench : Bool)
  /-- CHECKPOINT_WRITE (R18). -/
  | checkpointWrite (c : Checkpoint)
  /-- WATCHDOG_SERVICE (R467). -/
  | watchdogService (pair : Nat)
  /-- IGN_FALL (R504). -/
  | ignFall
  /-- BUS_DOMINANT_CLEARED (R445). -/
  | busDominantCleared (k : Nat)
deriving DecidableEq, Repr

end Sys2Proof
end

