-- ==== Sys2Proof/Decode.lean ====
section
/-! DEFINITION. The words of the operation table: spec/opcode_table.json gives none of its rows any bits (the
commands are packets and events, not words), so no word spells a command. -/

namespace Sys2Proof

/-- The command a word spells by the table's bits: none, since no row has bits. -/
def decodeTableWord (nbits w : Nat) : Option Instr :=
  match nbits, w with
  | _, _ => none

end Sys2Proof
end

