-- ==== Sys2Proof/Config.lean ====
section
/-! DEFINITION. What one unit fixes and the spec does not give, and the free values: opaque
constants, about which nothing can be proved but what holds for every value of them. -/

namespace Sys2Proof.Config

/-- The 96-bit unit ID of this unit (03 R97); its value is not given. Log entry 1. -/
opaque unitId : BitVec 96
/-- The P0 MAC address in transmission order, first byte most significant (03 R97). Log entry 1. -/
opaque mac : BitVec 48
/-- The firmware version GET_IDENTITY gives while the loader serves it and no image runs (03 R97). Log
entry 1. -/
opaque noVersion : BitVec 32
/-- Loader version (03 R97). Log entry 1. -/
opaque loaderVersion : BitVec 32
/-- Revision byte of each block's ID register, by window (04 R147 and the other maps). Log entry 1. -/
opaque revision : Nat → BitVec 8
/-- Which of the key slots 0 to 3 holds a key (17 R548). Log entry 1. -/
opaque keyHeld : Nat → Bool
/-- ECDSA P-384 with SHA-384 over the signed header bytes, against the key of a slot
(17 R550): slot, the signed bytes, the signature. Log entry 2. -/
opaque ecdsaVerify : Nat → Bytes → Bytes → Bool
/-- SHA-384 of a byte string (17 R549). Log entry 2. -/
opaque sha384 : Bytes → Bytes
/-- An address lies in the own SRAM region of a spare pair, or in the self-test region of a pair
(01 Table 1.3): pair, address. Log entry 54. -/
opaque inOwnRegion : Nat → Nat → Bool
opaque inTestRegion : Nat → Nat → Bool
/-- Frames for the firmware that a CAN controller buffers during a processor-complex reset (01 Table 1.10 gives no
number). Log entry 1. -/
opaque fwBuffers : Nat → Nat
/-- Whether a VREF5 supply that is on stands in its current limit at an instant (02 R63): 0 A, 1 B;
monotonic tick. A measured fact with no row of its own. Log entry 55. -/
opaque vrefLimited : Nat → Nat → Bool
/-- Contents of the boot ROM and of the loader region of NOR, by address (01 R22, 17 R547). Log entry 3. -/
opaque romByte : Nat → Byte
/-- The image shipped in the image region of NOR (17 R547). Log entry 3. -/
opaque shippedImage : Bytes
/-- Sign and payload of a NaN that an operation produces (00 R15 is silent). Log entry 4. -/
opaque nanBits : BitVec 32
/-- Which of two zeros of opposite sign min or max returns (00 R15: "one of their operands"). Log entry 4. -/
opaque zeroPick : BitVec 32 → BitVec 32 → Bool
/-- exp of a binary32 value, as rounded by the module (06 R187, 07 R220). Log entry 5. -/
opaque exp : F32 → F32
/-- atan of a binary32 value (07 R237, 09 R310). Log entry 5. -/
opaque atan : F32 → F32
/-- Square root of a binary32 value (06 R193, 07 R242). Log entry 5. -/
opaque sqrt : F32 → F32
/-- log2 of a positive integer in Q8.8, as the hit features round it (06 R175). Log entry 5. -/
opaque log2Q8 : Nat → Nat
/-- Energy of a hit window in band 0 to 3, before its log2 (06 R175 gives no filter). Log entry 5. -/
opaque bandEnergy : Nat → List Int → Nat
/-- Whether a quotient that is not exact is rounded up (06 R175 gives no rounding): numerator,
denominator. Log entry 5. -/
opaque roundUp : Nat → Nat → Bool
/-- Temperature read from the panel thermistor: resistance ratio, NTC_NOM, NTC_BETA (16 R530). Log entry 5. -/
opaque ntcTemp : F32 → F32 → F32 → F32
/-- Which direction of a quadrature pair counts up (06 R189 gives none): A leading B. Log entry 5. -/
opaque quadAleads : Bool
/-- An impact channel's digital first-order high-pass (06 R171): its corner in kHz, and the raw samples up to and with
the latest, oldest first. The spec gives neither its coefficients nor its rounding. Log entry 5. -/
opaque highPass : Nat → List Int → Int
/-- The rectified sum of a flow channel's samples in a window that a step of TD0 ends, which no row carries (06 R181,
R184): channel, window number. Log entry 55. -/
opaque stepFlow : Nat → Nat → Nat
/-- The fixed delay of the inertial unit's filter in ns (06 R195), by the filter code. Log entry 55. -/
opaque imuDelay : Nat → Nat
/-- A bit of choice where the spec allows either of two outcomes, by the free-value counter. Log entry 6. -/
opaque freeBit : Nat → Bool
/-- A free binary32 value, by the free-value counter. Log entry 6. -/
opaque freeF32 : Nat → F32
/-- A free natural number, by the free-value counter. Log entry 6. -/
opaque freeNat : Nat → Nat

/-- The point a distance ahead of a position along a heading, in units of 2^-10 m (09 R295 gives no
rounding). Log entry 5. -/
opaque ahead : Int → Int → F32 → F32 → Int × Int
/-- Sine and cosine of a binary32 value (09 R301, 07 R238). Log entry 5. -/
opaque sin : F32 → F32
opaque cos : F32 → F32
/-- End point and heading of a path segment: E0, N0, heading, length, curvature (07 R239). Log entry 5. -/
opaque segEnd : F32 → F32 → F32 → F32 → F32 → F32 × F32 × F32
/-- Distance of a point from a path segment of the layout of Table 7.14 (07 R241). Log entry 5. -/
opaque segDist : Bytes → F32 → F32 → F32
/-- The point of a path segment of the layout of Table 7.14 that lies nearest a point (07 R237 gives no arithmetic): its
arc length from the segment's start, not held within the segment, the signed lateral offset of the point, positive to
the left, and the segment's heading there. Log entry 5. -/
opaque segNear : Bytes → F32 → F32 → F32 × F32 × F32
/-- The trajectories that the planner's solver gives (07 R222), a function of the configuration and the numbers of the
problem: two modules on the same inputs give the same. Log entry 59. -/
opaque planOf : List Bytes → List F32 → List (List F32)
/-- The least J over all plans of a problem (07 R222). Log entry 59. -/
opaque leastCost : List Bytes → List F32 → F32
/-- The forward velocity integrated from the inertial unit over one ego interval (09 R288): the ego-motion
configuration, the latest sample and the velocity before. Log entry 60. -/
opaque imuVelocity : Bytes → List F32 → F32 → F32
/-- A value of the initial vector of a weights image, by its identifier and the channel (09 R294). Log entry 60. -/
opaque cellInit : Nat → Nat → BitVec 16
/-- A state channel of a cell after an update of the recurrent state (09 R294, R296): the update, the global cell, the
channel. What the network computes is not in the spec. Log entry 60. -/
opaque cellState : Nat → Int → Int → Nat → BitVec 16
/-- Whether a cell is among those that met an uncorrectable ECC error in one report (09 R294). Log entry 60. -/
opaque eccHit : Nat → Int → Int → Bool
/-- The coefficients a, b and c2 of the least-squares line of R310 through weighted points x, y, weight: the spec gives
no order of rounding. Log entry 5. -/
opaque lineFit : List (F32 × F32 × F32) → F32 × F32 × F32

/-- The compensation term at a scaled position whose index lies outside a table's entries (05 R154 gives none).
Log entry 57. -/
opaque tableOutside : F32 → F32

/-- The median of eight values whose fourth and fifth, in order, differ, and that of the neighbours of a pixel at the
image's border (10 Table 10.3 gives neither). Log entry 62. -/
opaque median : F32 → F32 → F32
opaque borderMedian : List F32 → F32
/-- Linear R, G and B at a pixel of a mosaic (10 Table 10.3 gives no demosaic): colour filter, mosaic, row, column. Log
entry 62. -/
opaque demosaic : Nat → List (List F32) → Nat → Nat → F32 × F32 × F32
/-- A binary32 value as FP16 has it (10 R342). Log entry 62. -/
opaque half : F32 → F32
/-- Perimeter and axis ratio of a blob, by the rows and columns of its pixels, and the standard deviation of values
(10 R344). Log entry 62. -/
opaque perimeter : List (Nat × Nat) → F32
opaque axisRatio : List (Nat × Nat) → F32
opaque deviation : List F32 → F32
/-- A byte of the tap's RGB8, by the value and GAMMA, and one of its luma (10 R343 gives no rounding). Log entry 62. -/
opaque gamma8 : F32 → F32 → Byte
opaque luma8 : F32 → Byte
/-- A line of the tap's RAW12 (10 R343 gives neither the order of its bits nor what a downscale of raw pixels is): downscale
code, frame, line, bytes. Log entry 62. -/
opaque tapRaw : Nat → List (List Nat) → Nat → Nat → Bytes
/-- How many datagrams of a tapped frame are queued when the next one is due (10 R343): pipeline, frame, datagrams. Log
entry 62. -/
opaque tapQueued : Nat → Nat → Nat → Nat
/-- The register value of an exposure field in the initial set (10 R337, of which PIPE_CONFIG holds none): pipeline,
field. Log entry 62. -/
opaque initialValue : Nat → Nat → Nat
/-- What the sampling of 08 R249 measures where no row brings the sample: a channel's current and output voltage, and a
stud's voltage, by the number of the 1 µs sample; a stud's mean over 1 ms, by the number of the ms; a die's temperature, by
the number of the 10 µs sample. Log entry 55. -/
opaque loadAmps : Nat → Nat → F32
opaque loadVolts : Nat → Nat → F32
opaque studVolts : Nat → Nat → F32
opaque studMean : Nat → Nat → F32
opaque dieTemp : Nat → Nat → F32
/-- The mean load current of a channel in mode 3, which the regulator makes follow the command (08 R255): channel, command,
number of the 1 µs sample. Log entry 55. -/
opaque regulatedAmps : Nat → F32 → Nat → F32
/-- The build week of the running firmware image (11 R371). Log entry 1. -/
opaque buildWeek : Nat
/-- The PRNs predicted above 0° elevation with their predicted Doppler (11 R363), from the almanac
pages, the stored position and TD0: none where the almanac is 4 weeks old or more. Log entry 5. -/
opaque predicted : List (Nat × List Nat) → Nat × Nat × F32 → T96 → List (Nat × F32)

/-- The frequency term the servo's integral path sets (12 R399 gives no gain): SERVO_BW, the present
term, the offset in 2^-16 ns, ticks since the last offset. Log entry 7. -/
opaque servoFreq : F32 → Nat → Int → Nat → Nat

end Sys2Proof.Config
end

