-- ==== Sys2Proof/Machine/F32.lean ====
section
/-! DEFINITION. binary32 arithmetic as 00_scope.md R15 fixes it: round-to-nearest-even,
subnormal operands and results flushed to zero of the same sign, judged after rounding;
fma with one rounding. -/

namespace Sys2Proof.Machine

def fSign (x : F32) : Bool := x.getLsbD 31
def fExp (x : F32) : Nat := (x.toNat / 2 ^ 23) % 256
def fFrac (x : F32) : Nat := x.toNat % 2 ^ 23

def fIsNaN (x : F32) : Bool := fExp x == 255 && fFrac x != 0
def fIsInf (x : F32) : Bool := fExp x == 255 && fFrac x == 0
/-- Neither NaN nor infinite (R7). -/
def fFinite (x : F32) : Bool := fExp x != 255
/-- Zero once a subnormal operand is flushed (R15). -/
def fIsZero (x : F32) : Bool := fExp x == 0

def fPack (neg : Bool) (bits : Nat) : F32 :=
  BitVec.ofNat 32 ((if neg then 2 ^ 31 else 0) + bits)

def fZero (neg : Bool) : F32 := fPack neg 0
def fInf (neg : Bool) : F32 := fPack neg (255 * 2 ^ 23)
/-- A quiet NaN; its sign and payload are free (log entry 4). -/
def fNaN : F32 := (0x7FC00000 : BitVec 32) ||| (Config.nanBits &&& 0x803FFFFF)

/-- Significand and exponent of a normal value: x = ± m · 2^e. -/
def fMant (x : F32) : Nat := 2 ^ 23 + fFrac x
def fExpo (x : F32) : Int := (fExp x : Int) - 150

/-- Round ± (m · 2^e, plus something below one unit of m when sticky) to binary32 (R15). -/
def fRound (neg : Bool) (m : Nat) (e : Int) (sticky : Bool) : F32 :=
  if m = 0 then fZero neg else
  let q : Int := max (e + (Nat.log2 m : Int) - 23) (-149)
  let sh : Int := q - e
  let mant : Nat :=
    if sh ≤ 0 then m * 2 ^ (-sh).toNat
    else
      let k := sh.toNat
      let lo := m % 2 ^ k
      let hi := m / 2 ^ k
      let half := 2 ^ (k - 1)
      if lo > half ∨ (lo = half ∧ (sticky = true ∨ hi % 2 = 1)) then hi + 1 else hi
  let mant' := if mant ≥ 2 ^ 24 then mant / 2 else mant
  let q' := if mant ≥ 2 ^ 24 then q + 1 else q
  if mant' < 2 ^ 23 then fZero neg
  else if q' + 150 ≥ 255 then fInf neg
  else fPack neg ((q' + 150).toNat * 2 ^ 23 + (mant' - 2 ^ 23))

/-- Round an exact signed value i · 2^e; an exact zero is +0. -/
def fRoundInt (i : Int) (e : Int) : F32 :=
  if i = 0 then fZero false else fRound (i < 0) i.natAbs e false

def fNeg (x : F32) : F32 := x ^^^ 0x80000000
def fAbs (x : F32) : F32 := x &&& 0x7FFFFFFF

/-- Signed significand of a value scaled to exponent e (e at most the value's own). -/
def fScaled (x : F32) (e : Int) : Int :=
  let v : Int := (fMant x : Int) * (2 : Int) ^ (fExpo x - e).toNat
  if fSign x then -v else v

def fAdd (x y : F32) : F32 :=
  if fIsNaN x || fIsNaN y then fNaN
  else if fIsInf x then (if fIsInf y && fSign x != fSign y then fNaN else x)
  else if fIsInf y then y
  else if fIsZero x then (if fIsZero y then fZero (fSign x && fSign y) else y)
  else if fIsZero y then x
  else
    let e := min (fExpo x) (fExpo y)
    fRoundInt (fScaled x e + fScaled y e) e

def fSub (x y : F32) : F32 := if fIsNaN y then fNaN else fAdd x (fNeg y)

def fMul (x y : F32) : F32 :=
  let s := fSign x != fSign y
  if fIsNaN x || fIsNaN y then fNaN
  else if fIsInf x then (if fIsZero y then fNaN else fInf s)
  else if fIsInf y then (if fIsZero x then fNaN else fInf s)
  else if fIsZero x || fIsZero y then fZero s
  else fRound s (fMant x * fMant y) (fExpo x + fExpo y) false

/-- Division; a non-zero value by zero is an infinity and zero by zero a NaN, as IEEE 754
binary32 gives (log entry 4). -/
def fDiv (x y : F32) : F32 :=
  let s := fSign x != fSign y
  if fIsNaN x || fIsNaN y then fNaN
  else if fIsInf x then (if fIsInf y then fNaN else fInf s)
  else if fIsInf y then fZero s
  else if fIsZero y then (if fIsZero x then fNaN else fInf s)
  else if fIsZero x then fZero s
  else
    let n := fMant x * 2 ^ 50
    fRound s (n / fMant y) (fExpo x - fExpo y - 50) (n % fMant y != 0)

/-- fma(a, b, c) = a · b + c with a single rounding (R15): an infinite c stays beside any finite product, however
large. -/
def fFma (a b c : F32) : F32 :=
  if fIsNaN a || fIsNaN b || fIsNaN c then fNaN
  else if fFinite a && fFinite b && fIsInf c then c
  else if fIsInf a || fIsInf b || fIsZero a || fIsZero b then fAdd (fMul a b) c
  else
    let s := fSign a != fSign b
    let pe := fExpo a + fExpo b
    let pm : Int := (fMant a * fMant b : Nat)
    let p : Int := if s then -pm else pm
    if fIsZero c then fRoundInt p pe
    else
      let e := min pe (fExpo c)
      fRoundInt (p * (2 : Int) ^ (pe - e).toNat + fScaled c e) e

/-- The value's place in the order of the binary32 numbers; both zeros are 0. R15 flushes the operands of + − × ÷ only:
a comparison sees a subnormal value as it is. -/
def fKey (x : F32) : Int :=
  let m : Int := (x.toNat % 2 ^ 31 : Nat)
  if fSign x then -m else m

def fLt (x y : F32) : Bool := !fIsNaN x && !fIsNaN y && decide (fKey x < fKey y)
def fLe (x y : F32) : Bool := !fIsNaN x && !fIsNaN y && decide (fKey x ≤ fKey y)
def fEq (x y : F32) : Bool := !fIsNaN x && !fIsNaN y && decide (fKey x = fKey y)

/-- min returns one of its operands unchanged; which of two zeros, or beside a NaN, is free
(R15; log entry 4). -/
def fMin (x y : F32) : F32 :=
  if x = y then x else if fLt x y then x else if fLt y x then y
  else if Config.zeroPick x y then x else y

def fMax (x y : F32) : F32 :=
  if x = y then x else if fLt x y then y else if fLt y x then x
  else if Config.zeroPick x y then x else y

/-- clamp(x, lo, hi) is min(max(x, lo), hi) (R15). -/
def fClamp (x lo hi : F32) : F32 := fMin (fMax x lo) hi

/-- An integer converted to binary32 with round-to-nearest-even (R116, R191). -/
def fOfInt (i : Int) : F32 := fRoundInt i 0
def fOfNat (n : Nat) : F32 := fRoundInt n 0

/-- n divided by 2^k, exactly rounded (R175). -/
def fOfQ (i : Int) (k : Nat) : F32 := fRoundInt i (-(k : Int))

/-- The nearest integer to a finite value, ties to even (R125, R254). -/
def fToInt (x : F32) : Int :=
  if fIsZero x then 0
  else
    let m := fMant x
    let e := fExpo x
    let a : Nat :=
      if e ≥ 0 then m * 2 ^ e.toNat
      else
        let k := (-e).toNat
        let lo := m % 2 ^ k
        let hi := m / 2 ^ k
        let half := 2 ^ (k - 1)
        if lo > half ∨ (lo = half ∧ hi % 2 = 1) then hi + 1 else hi
    if fSign x then -(a : Int) else a

/-- The largest integer not greater than a finite value (R151). -/
def fFloorInt (x : F32) : Int :=
  if fIsZero x then (if fKey x < 0 then -1 else 0)
  else
    let m := fMant x
    let e := fExpo x
    if e ≥ 0 then
      let a : Int := (m * 2 ^ e.toNat : Nat)
      if fSign x then -a else a
    else
      let d : Int := (2 ^ (-e).toNat : Nat)
      if fSign x then (-(m : Int)).fdiv d else (m : Int).fdiv d

/-- floor(v): the largest integral binary32 value not greater than v, exactly (R151). -/
def fFloor (x : F32) : F32 :=
  if fIsNaN x || fIsInf x || fKey x = 0 then x else fOfInt (fFloorInt x)

/-- An integer saturated to a range. -/
def satInt (lo hi i : Int) : Int := max lo (min hi i)

def f0 : F32 := 0x00000000
def f1 : F32 := 0x3F800000
def fHalf : F32 := 0x3F000000

end Sys2Proof.Machine
end

