-- ==== Sys2Proof/Machine/State.lean ====
section
/-! DEFINITION. The state of the module: plain data, one structure per block of Table 1.1, with
the value every field has at reset as its default. Tables keyed by an instance number list only
the instances that differ from the block's reset value. -/

namespace Sys2Proof.Machine

/-- The lifecycle states of a function (01 R30, Table 1.9). -/
inductive FnState where
  | off | config | starting | running | stopping | faulted
deriving DecidableEq, Repr

/-- One function's lifecycle record (01 R28 to R34). -/
structure Fn where
  st : FnState := .off
  /-- The pending START: session and sequence (R32). -/
  pend : Option (Nat × Nat) := none
  /-- TIME96 of the last change (R99). -/
  changed : T96 := .zero
  /-- A stop that completes into FAULTED (R33). -/
  toFault : Bool := false
  /-- Monotonic tick at which the present STARTING or STOPPING began. -/
  since : Nat := 0
  /-- Applied at least once since power-up (R29). -/
  everApplied : Bool := false
deriving DecidableEq, Repr

/-- What a configuration opcode configures; each object is the byte string of its layout. -/
inductive Obj where
  | loop (n : Nat) | group (g : Nat) | chan (k : Nat)
  | planFeed | planMv (i : Nat) | planCv (j : Nat) | planMap (p : Nat) | planObj
  | guidance | pose
  | fusGrid | fusCam (i : Nat) | fusStream (i : Nat) | fusHead (i : Nat)
  | pipe (k : Nat) | pipeStart (k : Nat) | pipeStop (k : Nat)
  | gnss | notch (i : Nat) | td (d : Nat)
  | can (k : Nat) | canFilter (k i : Nat) | canClaim (k : Nat)
  | panel
deriving DecidableEq, Repr

/-- A packet the module sends: the header fields of Table 3.1 and its parameters. -/
structure Packet where
  flags : Nat
  session : Nat
  seq : Nat
  opcode : Nat
  params : Bytes
deriving DecidableEq, Repr

/-- What a PTP message of a domain carries (12 R397, R412): the time, the domainNumber, the priorities, the
clockClass and clockAccuracy, the grandmaster's identity, and the timescale's offset and flags of Table 12.8. -/
structure PtpOut where
  time : T96
  number : Nat
  prio1 : Nat
  cls : Nat
  acc : Nat
  prio2 : Nat
  gm : Bytes
  utc : Int
  flags : Nat
deriving DecidableEq, Repr

/-- What the module sends to the outside. -/
inductive Sent where
  /-- A reply or a stream record to an endpoint (03 R79, R93). -/
  | packet (ep : Endpoint) (p : Packet)
  /-- A neighbour advertisement (03 R73). -/
  | neighbour (dst target : Nat)
  /-- An ICMPv6 echo reply (03 R73). -/
  | echo (dst ident seq : Nat) (data : Bytes)
  /-- A frame handed to CAN controller k's bus (13 R441). -/
  | canFrame (k : Nat) (f : CanFrame)
  /-- A PTP message of a domain on a port, with what it carries (12 R397, R414). -/
  | ptp (d port kind : Nat) (m : PtpOut)
  /-- A PTP event message forwarded with its correction (12 R415). -/
  | ptpForward (port : Nat) (correction : Int)
  /-- An Ethernet frame leaving a switch port, with its queue and whether it is untagged (12 R418). -/
  | eth (port queue : Nat) (f : EthFrame)
  /-- A PPS_OUT pulse of a domain and the ns for which the contact stays high (12 R407). -/
  | pps (d width : Nat)
  /-- A camera trigger (10 R335). -/
  | trigger (k : Nat)
  /-- A camera tap frame on P0: its datagrams (10 R343). -/
  | tap (k frame : Nat) (datagrams : List Bytes)
  /-- A register write through a camera's tunnel: the address and the bytes in their order (10 R338, R347, R351). -/
  | sensor (k addr : Nat) (data : Bytes)
deriving DecidableEq, Repr

/-- A record in a session's stream queue (03 R93, R95). `pos` is its place in the fault log. -/
structure Rec where
  time : T96
  fault : Bool
  pos : Option Nat
  body : Bytes
deriving DecidableEq, Repr

/-- One stream of one session (03 R93 to R95): the queue, oldest first, and the fault-related
records that wait in the fault log for room. -/
structure Stream where
  typ : Nat
  queue : List Rec := []
  wait : List Rec := []
  seq : Nat := 0
  dropped : Nat := 0
deriving DecidableEq, Repr

/-- A commit record of a session's command journal (03 R90): its number, the command's sequence
number, and the epoch it carries. -/
structure JRec where
  num : Nat
  seq : Nat
  epoch : Nat
deriving DecidableEq, Repr

/-- An open session (03 R85 to R99). -/
structure Session where
  num : Nat
  ep : Endpoint
  maxPkt : Nat
  keepMs : Nat
  name : Bytes
  /-- Monotonic tick of its last accepted packet (R88, R99). -/
  last : Nat
  /-- Its 32 most recently answered commands, newest first (R85). -/
  answered : List (Nat × Packet) := []
  /-- Its latest 32 commit records, newest first, each applied (R90). -/
  journal : List JRec := []
  streams : List Stream
deriving DecidableEq, Repr

/-- The reply kept for an endpoint's last OPEN_SESSION (03 R87). -/
structure OpenReply where
  ep : Endpoint
  seq : Nat
  at_ : Nat
  reply : Packet
deriving DecidableEq, Repr

/-- An ISO-TP message being received on 0x7A0 (03 R75). -/
structure IsoRx where
  need : Nat
  got : Bytes
  next : Nat
  last : Nat
deriving DecidableEq, Repr

/-- An ISO-TP message being sent (03 R75). `begun` once its first frame has left; then it waits
for flow control, or sends consecutive frames, `left` of them in the present block, `gap` ticks
apart. -/
structure IsoTx where
  id : Nat
  rest : Bytes
  begun : Bool := false
  waiting : Bool := false
  next : Nat := 1
  since : Nat := 0
  left : Option Nat := none
  gap : Nat := 0
  due : Nat := 0
deriving DecidableEq, Repr

/-- A command taken up and not yet completed (03 R83, R86): its session, sequence number and opcode, and the command as
the module resumes it. -/
structure Held where
  session : Nat
  seq : Nat
  code : Nat
  cmd : Instr
deriving DecidableEq, Repr

/-- A service-log entry (03 R100, Table 14.12). -/
structure LogE where
  time : T96
  num : Nat
  kind : Nat
  lost : Nat
  body : Bytes
deriving DecidableEq, Repr

/-- Baline: transports, sessions, ownership and the service log (chapter 03). -/
structure Net where
  sessions : List Session := []
  /-- The next session number, kept in MRAM (R87). Log entry 10: first number 1. -/
  counter : Nat := 1
  /-- The holder of the configuration ownership token (R91). -/
  token : Option Nat := none
  /-- Packets discarded (R77) and datagrams of P1 to P8 (R72). -/
  discarded : Nat := 0
  mismatch : Nat := 0
  openReplies : List OpenReply := []
  isoRx : Option IsoRx := none
  /-- Whole ISO-TP messages received on 0x7A0 and not yet taken up, oldest first. -/
  isoMsg : List Bytes := []
  /-- Commands taken up and not yet completed, oldest first (R83, R86). -/
  held : List Held := []
  /-- The number of the next commit record (R90). -/
  journalNum : Nat := 0
  isoTx : List IsoTx := []
  /-- A STOP of CAN2 that came on CAN2 and begins once its reply has left: its tick, its session and sequence number
  (13 R451). -/
  stopAt : Option (Nat × Nat × Nat) := none
  /-- Service log in flash, newest first; entries waiting in SRAM, newest first (R100). -/
  slog : List LogE := []
  swait : List LogE := []
  slogNext : Nat := 0
  slogLost : Nat := 0
deriving DecidableEq, Repr

/-- Firewall roles (01 R21, Table 1.3). -/
inductive Role where
  | active | spare | fenced | quarantine
deriving DecidableEq, Repr

/-- One lockstep pair (01 R18, R21; 14 R481 to R486). -/
structure Pair where
  role : Role := .fenced
  tag : Nat := 0
  dead : Bool := false
  /-- The tasks it runs: those first assigned to this pair number. -/
  tasks : Option Nat := none
  /-- The tasks it held when it was declared dead (R486). -/
  lostTasks : Option Nat := none
  /-- Monotonic tick of its declaration. -/
  declared : Nat := 0
  /-- Monotonic tick of its latest complete checkpoint, and which buffer holds it (R18, R483). -/
  checkpoint : Option Nat := none
  buffer : Bool := false
  /-- The tasks' state in that checkpoint, and in the other buffer. -/
  image : Bytes := []
  older : Bytes := []
  /-- Monotonic tick at which it last serviced the watchdog (14 R467). -/
  serviced : Nat := 0
  /-- The dead pair whose tasks this spare is restoring (R483). -/
  restores : Option Nat := none
  /-- It has failed the self-test of its quarantine (R486). -/
  failed : Bool := false
deriving DecidableEq, Repr

/-- Reset and power-up (chapter 01, 02 R54 to R63). `phase` is the number of the latest event of
Table 1.12 that has come about, 0 while reset is held. -/
structure Boot where
  phase : Nat := 1
  resetLow : Bool := false
  refclk : Bool := true
  bench : Bool := false
  /-- The sequence runs after a processor-complex reset (R46), or a CALM exit (15 R498). -/
  afterCore : Bool := false
  afterCalm : Bool := false
  /-- A processor-complex reset that is due, with its cause (R36). -/
  coreDue : Option Nat := none
  cause : Nat := 0
  coreResets : Nat := 0
  /-- An update in progress holds the sequence at event 4 (R42). -/
  resumed : Bool := false
  /-- The loader serves Baline itself (17 R565). -/
  loaderServes : Bool := false
  feedA : Bool := true
  feedB : Bool := true
  kam : Bool := true
  /-- The hold-up store is exhausted and no feed has returned (02 R59). -/
  storeEmpty : Bool := false
  /-- The store's energy in J where it last began or ceased to carry the logic, since when it
  carries it, and the tick at which a feed last returned (02 R59). -/
  store : F32 := 0x3FA66666
  storeFrom : Option Nat := none
  storeBack : Nat := 0
  vlogA : F32 := 0x41600000
  vlogB : F32 := 0x41600000
  vkam : F32 := 0x41600000
  /-- VREF5 supplies: 0 off, 1 on, 2 off after 10 ms in limit (02 R63). -/
  vrefA : Nat := 0
  vrefB : Nat := 0
  vrefAt : Nat := 0
  vrefBt : Nat := 0
  /-- FAULT_N is held low because no pair is ACTIVE (R43). -/
  noActive : Bool := false
  /-- The service state that event 7 set (R43): fewer than three pairs became ACTIVE. -/
  limited : Bool := true
  /-- The firmware image as event 6 copied it to DRAM. -/
  image : Bytes := []
  /-- The settings outside the lifecycle have come from MRAM since power-up or CALM (event 8). -/
  loaded : Bool := false
deriving DecidableEq, Repr

/-- One fault source (14 R460 to R468). Rails 1 is 01. -/
structure Src where
  rails : Nat := 1
  /-- What the pair itself carries while a perturbation forces another encoding (18 R575), and the
  detail it presents. -/
  pair : Nat := 1
  pairDetail : Nat := 0
  inErr : Bool := false
  link : Bool := false
  latched : Bool := false
  latchSev : Nat := 0
  count : Nat := 0
  detail : Nat := 0
  /-- Monotonic tick of the latest raising. -/
  raisedAt : Nat := 0
deriving DecidableEq, Repr

/-- The first-error capture (14 Table 14.5). -/
structure Cap where
  source : Nat
  master : Nat
  access : Nat
  address : Nat
  time : T96
  tick : Nat
  epoch : Nat
  detail : Nat
deriving DecidableEq, Repr

/-- An entry of the fault log in MRAM (14 R475); `num` is a fault record's number. -/
structure FlogE where
  pos : Nat
  time : T96
  num : Option Nat
  body : Bytes
deriving DecidableEq, Repr

/-- A pair source's record that waits for its outcome (14 R484). -/
structure PairRec where
  src : Nat
  kind : Nat
  detail : Nat
  tick : Nat
  time : T96
deriving DecidableEq, Repr

/-- Reactions a raising has ordered and that the same step carries out (14 R463). -/
inductive React where
  | stopFn (fid : Nat)
  | stopLoopGroup (loop : Nat)
  | safeStop (src : Nat)
  | actReset (cause : Nat)
  | coreReset (cause : Nat)
  | pairDead (pair : Nat)
  /-- A raising at or above FCR_THRESHOLD wakes the module from LULL (15 R505). -/
  | wake
deriving DecidableEq, Repr

/-- The fault collector (chapter 14). -/
structure Fcr where
  src : Tbl Nat Src := []
  /-- Programmed severities that differ from Table 14.4, and those stored in MRAM. -/
  sev : Tbl Nat Nat := []
  sevStored : Tbl Nat Nat := []
  threshold : Nat := 2
  thresholdStored : Option Nat := none
  epoch : Nat := 1
  cap : Option Cap := none
  later : Nat := 0
  winCount : Nat := 0
  winStart : Nat := 0
  /-- Raisings and returns of the present window without a record of their own. -/
  unrec : Tbl Nat Nat := []
  squalls : Nat := 0
  /-- The fault log, newest first; the next place and the next record number (R475). -/
  flog : List FlogE := []
  flogPos : Nat := 0
  recNum : Nat := 0
  pairRecs : List PairRec := []
  safeStopped : Bool := false
  ssSrcs : List Nat := []
  ssCause : Nat := 0
  /-- The heartbeat (R471). -/
  beat : Nat := 0
  aliveOn : Bool := false
  /-- Squall entries waiting are none; reactions the present step still carries out. -/
  react : List React := []
deriving DecidableEq, Repr

/-- One loop of the control-law engine (04 R122 to R144, 05 R151 to R153). -/
structure Loop where
  st : Nat := 0
  flags : Nat := 0
  y : F32 := 0
  r : F32 := 0
  u : F32 := 0
  acc : F32 := 0
  inv : Nat := 0
  miss : Nat := 0
  consecInv : Nat := 0
  consecMiss : Nat := 0
  latched : Bool := false
  started : Bool := false
  /-- HOLD or OFF has stopped evaluation (Table 4.5). -/
  stopped : Bool := false
  safeRamp : Bool := false
  ramping : Bool := false
  afterInv : Bool := false
  rPrev : F32 := 0
  yPrev : F32 := 0
  dstate : F32 := 0
  uPrev : F32 := 0
  kiTs : F32 := 0
  stepSt : F32 := 0
  stepSl : F32 := 0
  stepSf : F32 := 0
  duMax : F32 := 0
  /-- The output computed and not yet issued, and the output last issued (R108). -/
  next : Option F32 := none
  out : F32 := 0
  issued : Bool := false
  /-- Monotonic tick of its latest sample instant since the commit (R107, R110). -/
  last : Option Nat := none
  /-- Monotonic tick of a step of the domain at which the loop has to sample (R110, log entry 57). -/
  catchUp : Option Nat := none
  /-- A miss has been reported at the instant that comes next (R133). -/
  missed : Bool := false
  posx : F32 := 0
  cFric : F32 := 0
  cCog : F32 := 0
  xa : F32 := 0
  dirNeg : Bool := false
  compSeen : Bool := false
  zeroed : Bool := false
  compInv : Nat := 0
  compConsec : Nat := 0
deriving DecidableEq, Repr

/-- What a group holds beyond its lifecycle (04 R128, R135; 01 R37, R38). -/
structure Grp where
  committed : Bool := false
  /-- Monotonic tick of the first processor-complex reset of the present hold. -/
  hold : Option Nat := none
deriving DecidableEq, Repr

/-- A compensation table slot (05 R148 to R155). An entry that is absent is unwritten. -/
structure Slot where
  kind : Nat := 0
  periodic : Bool := false
  x0 : F32 := 0
  span : F32 := 0x3F800000
  hyst : F32 := 0
  begun : Bool := false
  loaded : Bool := false
  entries : Tbl Nat F32 := []
deriving DecidableEq, Repr

/-- The latest frame field a CAN loop input holds (04 R116). -/
structure CanVal where
  value : F32 := 0
  tick : Nat := 0
  ok : Bool := false
deriving DecidableEq, Repr

/-- The control-law engine (chapters 04, 05 and the set-points of 07 R210). -/
structure Cle where
  loops : Tbl Nat Loop := []
  /-- Each loop before its latest evaluation, which a miss leaves in force (R133). -/
  prev : Tbl Nat Loop := []
  /-- Dispatch (R112), in ns of the monotonic tick: when each lane is free, the evaluations that
  wait by deadline and loop, and the latest instant dispatched. -/
  lanes : List Nat := [0, 0, 0, 0]
  waiting : List (Nat × Nat) := []
  clock : Nat := 0
  hostRef : Tbl Nat F32 := []
  hostFf : Tbl Nat F32 := []
  canIn : Tbl Nat CanVal := []
  groups : Tbl Nat Grp := []
  slots : Tbl Nat Slot := []
  slotsStored : Tbl Nat Slot := []
  margin : Nat := 0xFFFFFFFF
  missed : Nat := 0
  psp : Tbl Nat F32 := []
  /-- PSPs last written by guidance (07 R212). -/
  pspGuid : List Nat := []
deriving DecidableEq, Repr

/-- What drives a channel's output below its latches and conditions (08 Table 8.3): its code is
the state's. -/
inductive Drive where
  | idle | off | on | limit | retryWait | gateWait
deriving DecidableEq, Repr

/-- One load channel (chapter 08). -/
structure Chan where
  host : F32 := 0
  cmd : F32 := 0
  drive : Drive := .idle
  /-- LATCHED or LOCKED, with the cause (R257). -/
  latch : Option Nat := none
  lock : Option Nat := none
  thermal : Bool := false
  uv : Bool := false
  /-- An over-voltage SUPPLY_OFF of its stud (R266). -/
  ov : Bool := false
  /-- After a clear, 0 A until its loop's group commits (R284). -/
  waitCommit : Bool := false
  /-- The latest samples of its current and output voltage that a row brought, with the numbers of the 1 µs samples
  (R249). -/
  current : F32 := 0
  currentAt : Option Nat := none
  vout : F32 := 0
  voutAt : Option Nat := none
  duty : F32 := 0
  capped : Bool := false
  meanA : F32 := 0
  /-- The gust (R262, R263). -/
  gust : Bool := false
  gustAt : Nat := 0
  charged : Nat := 0
  uncharged : Nat := 0
  quietSeen : Bool := false
  attempt : Bool := false
  /-- Rise rate recorded at the entry into LIMIT, in A/µs, and that entry's tick (R259). -/
  didt : F32 := 0
  limitAt : Nat := 0
  /-- Of the present LIMIT: its test at 10 µs has been made; a sample has shown the output not low (R260). -/
  shortTested : Bool := false
  notLow : Bool := false
  /-- The tick at which LIMIT_TIME or a trip ended a LIMIT (R274). -/
  limitLeft : Option Nat := none
  /-- LIMIT_TIME: ticks run, and since when it runs (R263). -/
  limRun : Nat := 0
  limFrom : Option Nat := none
  retryRun : Nat := 0
  retryFrom : Option Nat := none
  dieWait : Bool := false
  studWait : Bool := false
  /-- The turn-on that waits or runs (15 R514). -/
  turnOn : Bool := false
  /-- Clamp events of the last 10 s, newest first: end tick and energy (R271). -/
  clamps : List (Nat × F32) := []
  clamping : Bool := false
  clampAt : Nat := 0
  freeAt : Option Nat := none
  /-- The latest clamp event that showed a missing free-wheel path (flag bit 5). -/
  freeSeen : Option Nat := none
  /-- A safe action's command, in force in place of the source's (R279). -/
  forced : Option F32 := none
  /-- A locked channel's domain and phase, taken at its START (05 R163). -/
  carrier : Option (Nat × Nat) := none
  /-- Domain time in ns of a locked channel's commit instant. -/
  commitNs : Option Nat := none
  /-- Monotonic tick of its latest entry into SUPPLY_OFF. -/
  supplyAt : Nat := 0
  openLoad : Bool := false
  cycles : Nat := 0
  cyclesStored : Nat := 0
  /-- The tick of the latest period start, and whether there has been none since the commit. -/
  periodAt : Nat := 0
  periodNone : Bool := true
  /-- On-time of the present period in units of 2.5 ns, the tick it counts from, and the period's length in ns (05 R164). -/
  onUnits : Nat := 0
  onFrom : Nat := 0
  periodLen : Nat := 0
  conducting : Bool := false
  commitTick : Nat := 0
  committed : Bool := false
  hold : Option Nat := none
deriving DecidableEq, Repr

/-- One switch die (08 R264). -/
structure Die where
  temp : F32 := 0
  sampled : Bool := false
  /-- The number of the 10 µs sample that gave the temperature (R249). -/
  sampleNo : Nat := 0
  tooHot : Bool := false
  trips : List Nat := []
deriving DecidableEq, Repr

/-- One supply stud (08 R261 to R267; 15 R514 to R516). -/
structure Stud where
  /-- The latest sample that a row brought, with the number of the 1 µs sample (08 R249). -/
  volts : F32 := 0
  voltsAt : Option Nat := none
  /-- The voltage at which the stud has stood for at least 20 µs, by the latest row that tells it (08 R265). -/
  level : Option F32 := none
  ov : Bool := false
  quietUntil : Nat := 0
  quietOpen : Bool := false
  allow : F32 := 0x43160000
  closed : Bool := false
  meanA : F32 := 0
  /-- The requests waiting at the stud gate, in order: tick and channel (15 R514). -/
  queue : List (Nat × Nat) := []
  /-- Tick of its latest over-voltage (08 R266). -/
  ovAt : Nat := 0
deriving DecidableEq, Repr

/-- Load switches (chapter 08). -/
structure Lsw where
  chans : Tbl Nat Chan := []
  dies : Tbl Nat Die := []
  studs : Tbl Nat Stud := []
  /-- Monotonic tick of the last storing of the switching cycles (Table 8.8). -/
  storeAt : Nat := 0
deriving DecidableEq, Repr

/-- The headwind as fusion delivers it (09 R308): mean and deviation per segment and step. -/
structure Headwind where
  time : T96
  tick : Nat
  vh : F32
  m : List (List F32)
  s : List (List F32)
  /-- Curvature of the track, segments and rate code. -/
  kap : F32 := 0
  n : Nat := 0
  rate : Nat := 0
deriving DecidableEq, Repr

/-- A planner history entry (07 R217, R220). -/
structure Hist where
  tick : Nat
  q : F32
  sigma : F32
  mvs : List F32
deriving DecidableEq, Repr

/-- What guidance gives a cycle for its speed cap (07 R242): A_LAT_MAX, the path and the arc length of its nearest
point, and the curvature of the edge where there is no path. -/
structure PlanCap where
  aLat : F32
  path : Option (List Bytes × F32)
  kap : F32
deriving DecidableEq, Repr

/-- A solved plan (07 R222). -/
structure PlanSol where
  tick : Nat
  mvs : List (List F32)
  q : List F32
  sigma : List F32
  slack : Bool
  capped : Bool
  /-- Its J. -/
  cost : F32
  /-- The highest ŷ of each CV over the plan. -/
  yHi : List F32
deriving DecidableEq, Repr

/-- One controlled variable's running state (07 R220, R229). -/
structure CvSt where
  b : F32 := 0
  mhat : Option F32 := none
  meas : F32 := 0
  valid : Bool := false
  invalidFrom : Option Nat := none
  overFrom : Option Nat := none
  overSent : Bool := false
deriving DecidableEq, Repr

/-- The harvest planner (07 R210 to R234). -/
structure Planner where
  cycleTime : T96 := .zero
  cycleTick : Nat := 0
  /-- 0 LOOKAHEAD, 1 REACTIVE, 2 COAST: the mode in force, and that of the cycle in progress. -/
  mode : Nat := 1
  want : Nat := 1
  committed : Bool := false
  /-- The planner writes its PSPs: it has issued values, or has entered FAULTED (R211, R231). -/
  issued : Bool := false
  /-- The last solved plan, and the one that is ready for the next issue instant. -/
  plan : Option PlanSol := none
  next : Option PlanSol := none
  running : Bool := false
  solved : Nat := 0
  coasted : Nat := 0
  lastSolved : Nat := 0
  /-- Own step 0 and measured MVs of past cycle instants, newest first. -/
  hist : List Hist := []
  cvs : Tbl Nat CvSt := []
  cvCan : Tbl Nat CanVal := []
  flow : F32 := 0
  flowTick : Nat := 0
  flowOk : Bool := false
  headAge : Nat := 0
  headStale : Bool := true
  /-- The headwind and the speed cap as they stood at the cycle's instant (R213). -/
  head : Option Headwind := none
  cap : Option PlanCap := none
  qr : F32 := 0
  qrHi : F32 := 0
  mvNow : List F32 := []
  /-- The latest changes of the objectives, newest first: the tick, and the set that was replaced; and the set that
  governs the cycle (R223). -/
  objPast : List (Nat × Bytes) := []
  obj : Bytes := []
deriving DecidableEq, Repr

/-- A pose in use (07 R238): its fix's time and tick, the tick of its acceptance, and the position
of the machine frame origin. -/
structure Pose where
  time : T96
  tick : Nat
  got : Nat
  e : F32
  n : F32
  heading : F32
deriving DecidableEq, Repr

/-- Guidance (07 R235 to R242). -/
structure Guid where
  tick : Nat := 0
  committed : Bool := false
  issued : Bool := false
  pose : Option Pose := none
  discards : Nat := 0
  path : List Bytes := []
  /-- Tick of the latest edge of the configured side with enough confidence (R240). -/
  edgeTick : Option Nat := none
  /-- Dead reckoning since this tick. -/
  dr : Option Nat := none
  angle : Option F32 := none
  ey : F32 := 0
  kap : F32 := 0
  sNear : F32 := 0
deriving DecidableEq, Repr

/-- A cut interval (07 R243, R244): in formation while `len` is 0. -/
structure Cut where
  start : T96
  startNs : Nat
  tick : Nat
  len : Nat := 0
  mass : F32 := 0
  moistSum : F32 := 0
  moistN : Nat := 0
  invalid : Nat := 0
  flags : Nat := 0
  e : F32 := 0
  n : F32 := 0
  heading : F32 := 0
  dist : F32 := 0
  width : F32 := 0
  /-- The configuration in force in it (R245). -/
  cfg : Bytes := []
deriving DecidableEq, Repr

/-- Yield records (07 R243 to R245). -/
structure Yield where
  cfg : Option Bytes := none
  pend : Option Bytes := none
  stored : Option Bytes := none
  num : Nat := 0
  cur : Option Cut := none
  done : List Cut := []
  /-- Tick up to which distance has been taken. -/
  distTick : Nat := 0
  /-- The header: its level as last read, and the ticks of its latest rise and lowering. -/
  headerUp : Bool := false
  upTick : Option Nat := none
  downTick : Option Nat := none
  moistCan : CanVal := {}
deriving DecidableEq, Repr

/-- A PTP port of a domain (12 Table 12.11): its link delay in ns, rate ratio in ppb, missed sync
intervals, and the ticks at which each kind of message was last sent. -/
structure PtpPort where
  delay : F32 := 0
  ratio : F32 := 0
  missed : Nat := 0
  sent : Tbl Nat Nat := []
deriving DecidableEq, Repr

/-- One domain clock and its servo (12 R389 to R411). Offsets are in units of 2^-16 ns, the frequency
and phase terms in units of 2^-32 ns. -/
structure Domain where
  sec : Nat := 0
  ns : Nat := 0
  frac : Nat := 0
  freq : Nat := 0x400000000
  /-- The phase term, and what it still has to add (R399). -/
  phase : Int := 0
  phaseLeft : Int := 0
  override : Option Nat := none
  /-- Table 12.2: 0 FREE, 1 ACQUIRING, 2 LOCKED, 3 HOLDOVER, 4 BACKUP. -/
  clk : Nat := 0
  /-- What ACQUIRING was entered from: 0 FREE, 1 HOLDOVER, 2 a step decided in LOCKED. -/
  acqFrom : Nat := 0
  /-- Consecutive offsets of 1 µs or less. -/
  good : Nat := 0
  /-- A pending step: the offset that decided it, and when (R400). -/
  step : Option Int := none
  stepAt : Nat := 0
  /-- The next offset is the first after a step. -/
  decide : Bool := false
  /-- An offset that the next must agree with (R400, R404). -/
  cand : Option Int := none
  lastOff : Int := 0
  srcUp : Bool := false
  srcLost : Bool := false
  /-- The bound of R398 at the entry of the present holdover or at the decision of a step in LOCKED,
  and the tick it grows from. -/
  lockBound : Nat := 0
  stepMade : Bool := false
  boundAt : Nat := 0
  sigma : Nat := 0
  specSent : Bool := false
  steps : Nat := 0
  stepsTotal : Nat := 0
  outliers : Nat := 0
  ptpScale : Bool := false
  utc : Int := 0
  utcValid : Bool := false
  leap61 : Bool := false
  leap59 : Bool := false
  gmId : Option Nat := none
  gmClass : Nat := 248
  /-- Frequency terms and the ticks from which they held, newest first (R403). -/
  freqHist : List (Nat × Nat) := []
  slave : Option Nat := none
  ports : Tbl Nat PtpPort := []
  /-- Ticks of the latest Sync and Announce accepted, and the port of a two-step Sync that waits. -/
  syncAt : Option Nat := none
  annAt : Option Nat := none
  twoStep : Option Nat := none
  /-- The latest PPS_IN edge used, or that waits for its successor (R404, R408). -/
  ppsEdge : Option Nat := none
  lastPps : Option Nat := none
  ppsMute : Option Nat := none
deriving DecidableEq, Repr

/-- The time unit (chapter 12). `ppsIn` is the latest PPS_IN edge. -/
structure Tsu where
  doms : Tbl Nat Domain := []
  ppsIn : Option Nat := none
  badPtp : Nat := 0
deriving DecidableEq, Repr

/-- One switch port (12 R416 to R427). -/
structure Port where
  cfg : Option Bytes := none
  pend : List (Nat × Bytes) := []
  stored : Option Bytes := none
  link : Bool := false
  rx : Nat := 0
  tx : Nat := 0
  err : Nat := 0
  drop : Nat := 0
  /-- Frames by egress queue, oldest first, and the tick at which the line is free. -/
  queue : List (Nat × EthFrame) := []
  txFree : Nat := 0
  gate : Option Bytes := none
  gatePend : Option (Nat × Bytes) := none
  gateStored : Option Bytes := none
  /-- The entry in force and its start, and the cycle's start, in ns of the list's domain. -/
  entry : Nat := 0
  entryNs : Nat := 0
  cycle : Nat := 0
  cycleTick : Nat := 0
deriving DecidableEq, Repr

/-- A learned address (12 R418). -/
structure Fdb where
  mac : Nat
  vlan : Nat
  port : Nat
  tick : Nat
deriving DecidableEq, Repr

/-- The Ethernet switch (chapter 12). -/
structure Eth where
  ports : Tbl Nat Port := []
  fdb : List Fdb := []
deriving DecidableEq, Repr

/-- One budget holder (15 R507 to R512). -/
structure Holder where
  req : Option F32 := none
  reqStored : Option F32 := none
  grant : F32 := 0
  balance : F32 := 0
  /-- Energy consumed in the last second: ticks and J, newest first. -/
  recent : List (Nat × F32) := []
  stopped : Bool := false
deriving DecidableEq, Repr

/-- Power states and budget scheduling (chapter 15). State codes: 0 RUN, 1 BREEZE, 2 LULL, 3 CALM,
5 OFF. -/
structure Pwr where
  state : Nat := 0
  entering : Option Nat := none
  heldWake : Option Nat := none
  cause : Nat := 6
  since : Nat := 0
  wakeMs : Nat := 0
  wakeAt : Option Nat := none
  ign : Bool := false
  ignAt : Nat := 0
  ignDone : Bool := true
  ignSeq : Nat := 0
  latency : Nat := 50
  ignAction : Nat := 0
  ignDelay : Nat := 5000
  stored : Option (Nat × Nat × Nat) := none
  cap : F32 := 0x42AA0000
  capStored : Option F32 := none
  allowStored : Tbl Nat F32 := []
  /-- Values of PWR_SET_BUDGET that govern from the next window start (R521). -/
  capNext : Option F32 := none
  allowNext : Tbl Nat F32 := []
  pHeat : F32 := 0x42AA0000
  heat : Bool := false
  /-- HEAT_ALLOWANCE: the latest one's tick, and what it told. -/
  heatSent : Option Nat := none
  heatRep : Bool := false
  heatStep : Nat := 17
  temps : List F32 := []
  base : F32 := 0
  window : Nat := 0
  meter : Nat := 0
  elec : F32 := 0
  diss : F32 := 0
  /-- The electronics power as metered in the last 1 s, with its tick, newest first. -/
  elecs : List (Nat × F32) := []
  holders : Tbl Nat Holder := []
deriving DecidableEq, Repr


/-- The configuration of one sensing input (06 R198): in force, waiting for its update boundary
with the boundary count at its request, and stored in MRAM; the latest commit's tick, the TD0 times of the commits,
newest first, and the end of the settle time. -/
structure InCfg where
  cur : Option Bytes := none
  pend : Option (Nat × Bytes) := none
  stored : Option Bytes := none
  commitAt : Nat := 0
  commits : List T96 := []
  settle : Nat := 0
deriving DecidableEq, Repr

/-- Hit counts of one counting window (06 R173, R180). -/
structure Counts where
  kern : Nat := 0
  straw : Nat := 0
  other : Nat := 0
  merged : Nat := 0
deriving DecidableEq, Repr

/-- A counting window of one channel that has ended (06 R180 to R184). `odd` is the length in ticks
of a window that is not of 10 ms. -/
structure WinRec where
  n : Counts := {}
  s : F32 := 0
  f : F32 := 0
  valid : Bool := false
  start : T96 := .zero
  startTick : Nat := 0
  stop : T96 := .zero
  stopTick : Nat := 0
  odd : Option Nat := none
  /-- The channel was in flow mode. -/
  flow : Bool := false
deriving DecidableEq, Repr

/-- A hit whose window is complete and which waits for the classifier (06 R177, R178). -/
structure HitWait where
  time : T96
  onset : Nat
  done : Nat
  seq : Nat
  clipped : Bool
  feats : List Int
deriving DecidableEq, Repr

/-- A window of a flow channel's history (06 R185). -/
structure FlowHist where
  start : T96
  stop : T96
  s : F32
  valid : Bool
deriving DecidableEq, Repr

/-- The states of hit detection (06 R173). -/
inductive Det where
  | armed | inHit | quiet
deriving DecidableEq, Repr

/-- One impact channel (06 R171 to R185). -/
structure Imp where
  c : InCfg := {}
  det : Det := .armed
  onset : Nat := 0
  onsetTime : T96 := .zero
  /-- The raw samples up to the onset of the hit in progress, oldest first. -/
  raw : List Int := []
  /-- Since when QUIET counts samples: its entry, or the latest merged hit in it (R173). -/
  quietAt : Nat := 0
  seq : Nat := 0
  lastSeq : Nat := 0
  waiting : List HitWait := []
  /-- The 4,096 latest hit records, newest first (R183). -/
  ring : List Bytes := []
  win : Counts := {}
  /-- The channel was invalid at some instant of the window in progress (R182). -/
  winBad : Bool := true
  /-- Windows that have ended and are not yet published, newest first (R180, R181). -/
  ended : List WinRec := []
  last : Option WinRec := none
  /-- The latest published window that is valid, of flow mode (07 R227). -/
  lastFlow : Option WinRec := none
  hist : List FlowHist := []
  /-- Calibration factors that wait for the window boundary, oldest first, each with its command (R204). -/
  factors : List (Nat × F32 × Option (Nat × Nat)) := []
  selftest : Bool := false
  /-- Tick of the front end's latest check (R172). -/
  checkedAt : Option Nat := none
deriving DecidableEq, Repr

/-- One analog input (06 R186 to R188). -/
structure Ain where
  c : InCfg := {}
  filt : Option F32 := none
  value : F32 := 0
  ratio : F32 := 0
  volts : F32 := 0
  time : T96 := .zero
  tick : Option Nat := none
  outRun : Nat := 0
  inRun : Nat := 0
  bad : Bool := false
  count : Nat := 0
deriving DecidableEq, Repr

/-- One frequency or quadrature input (06 R189 to R191). Edge times are in ns of the monotonic
tick, newest first. -/
structure Fin8 where
  c : InCfg := {}
  edges : List Nat := []
  level : Bool := false
  dirPos : Bool := true
  counter : Int := 0
  freq : F32 := 0
  speed : F32 := 0
  qpos : F32 := 0
  time : T96 := .zero
  tick : Nat := 0
  qerr : Option Nat := none
  count : Nat := 0
deriving DecidableEq, Repr

/-- One position input (06 R192 to R194). -/
structure PosIn where
  c : InCfg := {}
  angle : F32 := 0
  speed : F32 := 0
  ampl : F32 := 0
  time : T96 := .zero
  tick : Option Nat := none
  base : Option Int := none
  signal : Bool := false
  track : Bool := false
  range : Bool := false
  count : Nat := 0
  /-- The excitation is off after 10 ms in limit (R192), since this tick. -/
  excOff : Option Nat := none
deriving DecidableEq, Repr

/-- The inertial unit (06 R195). -/
structure Imu where
  c : InCfg := {}
  v : List F32 := [0, 0, 0, 0, 0, 0]
  time : T96 := .zero
  tick : Option Nat := none
  sat : Bool := false
deriving DecidableEq, Repr

/-- One classifier set (06 R176, R202, R203). -/
structure CSet where
  cur : Option (List F32) := none
  old : Option (List F32) := none
  commitAt : Nat := 0
  commitTime : T96 := .zero
  begun : Bool := false
  image : Tbl Nat F32 := []
  /-- A complete image that waits for the window boundary: the window number, the values, the CRC and its command. -/
  pend : Option (Nat × List F32 × Nat × Option (Nat × Nat)) := none
  stored : Option (List F32) := none
deriving DecidableEq, Repr

/-- Crop and machine sensing (chapter 06). -/
structure Cse where
  imps : Tbl Nat Imp := []
  ains : Tbl Nat Ain := []
  fins : Tbl Nat Fin8 := []
  poss : Tbl Nat PosIn := []
  imu : Imu := {}
  sets : Tbl Nat CSet := []
  /-- The counting window in progress: its number since power-up, its TD0 start and tick, its place
  on the 10 ms grid, and whether it follows a step (R180, R181). -/
  winNo : Nat := 0
  winStart : T96 := .zero
  winTick : Nat := 0
  winGrid : Nat := 0
  winOdd : Bool := false
  /-- Per input (selector × 256 + index): the valid bits last sent and when (R208). -/
  vsent : Tbl Nat (Nat × Nat) := []
deriving DecidableEq, Repr

/-- An ego-motion estimate (09 Table 9.2), with the tick of its instant. -/
structure EgoEst where
  time : T96
  tick : Nat
  x : Int
  y : Int
  z : Int
  roll : F32
  pitch : F32
  yaw : F32
  speed : F32
  yawRate : F32
  mode : Nat
deriving DecidableEq, Repr

/-- Ego-motion (09 R288 to R292). -/
structure Ego where
  cfg : Option Bytes := none
  pend : Option Bytes := none
  stored : Option Bytes := none
  /-- Table 9.3: 0 LOST, 1 FULL, 2 IMU_ONLY, 3 WHEELS. -/
  mode : Nat := 0
  /-- The estimates kept, newest first. -/
  est : List EgoEst := []
  /-- Since when no wheel speed, and the inertial unit not, has been valid; since when LOST. -/
  noWheel : Option Nat := none
  noImu : Option Nat := none
  lostAt : Option Nat := none
  /-- The forward velocity integrated from the inertial unit, and the signed wheel speeds of the latest ego instant
  (R288). -/
  vImu : F32 := 0
  wheels : List F32 := []
  /-- What the estimator's position is shifted by, in units of 2^-10 m: the motion during LOST (R290). -/
  off : Int × Int × Int := (0, 0, 0)
  /-- Beyond ±2,000 km until the next commit (R289). -/
  far : Bool := false
deriving DecidableEq, Repr

/-- A sample that waits for its cycle (09 R304): its input (PIPE0 to 7, then streams 0 to 3 as 8
to 11), its own time and its arrival on the monotonic tick, its points that were not filtered. -/
structure FSample where
  inp : Nat
  tick : Nat
  arrival : Nat
  points : Nat
  /-- Of a frame: its rows, and its line time in ns (R300). -/
  rows : Nat := 0
  lineNs : Nat := 0
deriving DecidableEq, Repr

/-- A frame as a cycle places it (09 R300, R301): its pipeline, the camera's position and optical axis in W at the
exposure's mid-point, and the poses' ticks of its first and last row. -/
structure FPlaced where
  pipe : Nat
  origin : F32 × F32 × F32
  axis : F32 × F32 × F32
  first : Nat
  last : Nat
deriving DecidableEq, Repr

/-- A fusion cycle in progress (09 R296). -/
structure FCycle where
  time : T96
  tick : Nat
  num : Nat
  /-- The policies that govern it: heads 0 to 2 (R322). -/
  pols : List Bytes
  ego : Option EgoEst
  /-- The window's centre, and the frames it uses. -/
  ci : Int := 0
  cj : Int := 0
  frames : List FPlaced := []
deriving DecidableEq, Repr

/-- Contradictions of one head (09 R311). -/
structure FHead where
  from_ : Option Nat := none
  last : Option Nat := none
  raised : Bool := false
  cells : Nat := 0
  pipes : Tbl Nat Nat := []
  streams : Tbl Nat Nat := []
deriving DecidableEq, Repr

/-- A live identity code (09 R312, R313). -/
structure FObj where
  code : Nat
  id : Nat
  seen : Nat
  cutTick : Nat
  x : F32
  y : F32
  born : Nat
deriving DecidableEq, Repr

/-- The crop-edge lines of the latest cycle (09 R310). -/
structure Edges where
  time : T96
  tick : Nat
  left : EdgeLine
  right : EdgeLine
deriving DecidableEq, Repr

/-- A weights slot (09 R315, R316). `busy` is the deferred last block's command while the image
goes to flash. -/
structure WSlot where
  image : Bytes := []
  loaded : Bool := false
  busy : Option (Option (Nat × Nat)) := none
deriving DecidableEq, Repr

/-- The state channels of the grid's cells (09 R294), as data: the latest update of the recurrent state and the window's
centre at it, none where every cell holds the initial vector, and the ECC reports since. -/
structure FCells where
  update : Nat
  ci : Int
  cj : Int
  hits : List Nat := []
deriving DecidableEq, Repr

/-- The fusion grid (chapter 09). -/
structure Fus where
  ego : Ego := {}
  committed : Bool := false
  ci : Int := 0
  cj : Int := 0
  scrolls : Nat := 0
  rate : Nat := 0
  rateWant : Nat := 0
  /-- The number of the latest cut instant since the commit, and its tick. -/
  num : Nat := 0
  cutTick : Nat := 0
  skipped : Nat := 0
  /-- Ticks of the cuts run, newest first; the one before the commit stands for the first. -/
  cuts : List Nat := []
  gatherTick : Nat := 0
  cycle : Option FCycle := none
  cells : Option FCells := none
  /-- The weights slot and identifier of the present or last run (R323). -/
  slot : Nat := 0
  weights : Nat := 0
  /-- A cut made on the old time before a step, which is still to be gathered: the tick of its gather instant, its own
  tick and its time (R299). -/
  owed : Option (Nat × Nat × T96) := none
  samples : List FSample := []
  /-- Points taken in the last 50 ms: tick and number (R303). -/
  recent : List (Nat × Nat) := []
  late : Tbl Nat Nat := []
  dropped : Tbl Nat Nat := []
  superseded : Nat := 0
  filtered : Nat := 0
  ecc : Nat := 0
  /-- The latest changes of each head's policy, newest first: the tick, and what was replaced (R322). -/
  polPast : Tbl Nat (List (Nat × Bytes)) := []
  heads : Tbl Nat FHead := []
  objs : List FObj := []
  nextId : Nat := 1
  objects : Nat := 0
  truncated : Nat := 0
  issuedCut : T96 := .zero
  issued : Nat := 0
  vh : F32 := 0
  kap : F32 := 0
  edges : Option Edges := none
  slots : Tbl Nat WSlot := []
deriving DecidableEq, Repr

/-- An exposure set (10 R337), with the frame it first applies to. -/
structure ExpSet where
  ident : Nat := 0
  expo : F32 := 0
  gain : F32 := 0
  vals : List Nat := []
  first : Nat := 0
deriving DecidableEq, Repr

/-- A frame slot (10 R330 to R346), from its start to its record. -/
structure Frm where
  num : Nat
  /-- 0 frame, 1 missing, 2 not processed. -/
  kind : Nat := 0
  early : Bool := false
  noEnd : Bool := false
  time : T96 := .zero
  tick : Nat := 0
  lines : Nat := 0
  short : Nat := 0
  long : Nat := 0
  pad : Nat := 0
  cut : Nat := 0
  crc : Nat := 0
  disc : Nat := 0
  ign : Nat := 0
  embedded : Option Bytes := none
  ident : Nat := 0
  idFlags : Nat := 0
  expo : F32 := 0
  gain : F32 := 0
  mid : T96 := .zero
  midTick : Nat := 0
  ended : Nat := 0
  /-- The pixels of its lines, each of W, in their order (R333). -/
  img : List (List Nat) := []
  /-- It waits for the image processor. -/
  waiting : Bool := false
  stats : Option FrameStats := none
  quality : Option (List F32) := none
deriving DecidableEq, Repr

/-- One camera pipeline (chapter 10). -/
structure Pipe where
  power : Bool := false
  /-- Switched off in limit, and the tick of the latest switching off (R329). -/
  limited : Bool := false
  limitAt : Nat := 0
  current : F32 := 0
  link : Bool := false
  sensorId : Nat := 0
  committed : Option Nat := none
  next : Nat := 0
  /-- Expected start of the next slot, in ns of TD0. -/
  expected : Option Nat := none
  frame : Option Frm := none
  /-- Slots that have ended and whose record is not yet sent, oldest first. -/
  done : List Frm := []
  /-- Packets discarded and ignored since the last frame ended. -/
  disc : Nat := 0
  ign : Nat := 0
  /-- The sets in effect or to come, newest first; the 8 latest committed; the one whose writes have
  not begun, and the one whose writes are in progress (R338 to R340). -/
  sets : List ExpSet := []
  hist : List ExpSet := []
  pend : Option ExpSet := none
  writing : Option ExpSet := none
  missing : Nat := 0
  shortLn : Nat := 0
  longLn : Nat := 0
  padLn : Nat := 0
  cutLn : Nat := 0
  crcLn : Nat := 0
  discPk : Nat := 0
  ignPk : Nat := 0
  notProc : Nat := 0
  superseded : Nat := 0
  mismatches : Nat := 0
  tapCut : Nat := 0
  lastIdent : Nat := 0
  trigAt : Nat := 0
  /-- The quality indices of the latest frame with valid ones, and its exposure mid-point (R344). -/
  quality : Option (List F32 × T96 × Nat) := none
deriving DecidableEq, Repr

/-- The camera pipelines. -/
structure Cam where
  pipes : Tbl Nat Pipe := []
deriving DecidableEq, Repr

/-- One notch filter (11 R358): 0 off, 1 searching, 2 engaged; its frequency, or that of the line
it counts, and the consecutive epochs with the line in sight, or below while engaged. -/
structure Notch where
  st : Nat := 0
  freq : F32 := 0
  run : Nat := 0
deriving DecidableEq, Repr

/-- One tracking channel (11 R364 to R367). -/
structure Track where
  /-- Table 11.3. -/
  st : Nat := 0
  prn : Nat := 0
  cn0 : F32 := 0
  doppler : F32 := 0
  code : F32 := 0
  /-- Ticks of the hand-over and of phase lock. -/
  pullAt : Nat := 0
  phaseAt : Nat := 0
  /-- Since when the C/N0 is below CN0_LOSS, and since when the phase lock detector fails. -/
  lowAt : Option Nat := none
  unlockAt : Option Nat := none
  /-- The preceding subframe, when its TLM and HOW passed: its ID; and its TOW count. -/
  prevId : Option Nat := none
  tow : Option Nat := none
  /-- Consecutive subframes whose TLM or HOW failed. -/
  bad : Nat := 0
  /-- It left FRAME_SYNC and the record of its subframe is still to be sent: the PRN (R367). -/
  left : Option Nat := none
deriving DecidableEq, Repr

/-- A PRN in a sweep, with the centre of its search and its number of windows (11 R361, R363). -/
structure Search where
  prn : Nat
  centre : F32
  windows : Nat
deriving DecidableEq, Repr

/-- A PRN lost within the last 60 s (11 R363). -/
structure LostPrn where
  prn : Nat
  doppler : F32
  at_ : Nat
deriving DecidableEq, Repr

/-- A stored pip (11 R375, R376). -/
structure Pip where
  id : Nat
  len : Nat
  flags : Nat
  start : T96
  tcxo : F32
  ji : F32
  samples : Bytes
deriving DecidableEq, Repr

/-- A capture that is scheduled, in progress or not yet stored (11 R373). -/
structure PipCap where
  id : Nat
  len : Nat
  flags : Nat
  /-- The monotonic tick of its start instant, and of its begin. -/
  due : Nat
  begun : Option Nat := none
  start : T96 := .zero
  tcxo : F32 := 0
  ji : F32 := 0
deriving DecidableEq, Repr

/-- What MRAM keeps of GNSS (11 R372): almanac pages, ephemerides by PRN and subframe, the last
fix as it stands in GNSS_STATUS, and the TCXO offset. -/
structure GnssData where
  alm : Tbl Nat (List Nat) := []
  eph : Tbl (Nat × Nat) (List Nat) := []
  fix : Option (Nat × Nat × F32) := none
  tcxo : Option F32 := none
deriving DecidableEq, Repr

/-- The satellite baseband (chapter 11). -/
structure Gns where
  /-- Table 11.1. -/
  antenna : Nat := 0
  biasA : F32 := 0
  /-- Ticks of the latest change of state, and of the latest switching off in SHORT. -/
  antennaAt : Nat := 0
  shortAt : Nat := 0
  ji : F32 := 0
  agc : F32 := 0
  /-- Table 11.2, and since when JI is at JAM_ALARM or above. -/
  level : Nat := 0
  jamAt : Option Nat := none
  /-- The notch settings in effect (R359), and the notches. -/
  notchCfg : Option Bytes := none
  notches : Tbl Nat Notch := []
  /-- The sweep: what is left of it, the window and the epochs summed in it (R361 to R363). -/
  sweep : List Search := []
  window : Nat := 0
  dwell : Nat := 0
  /-- The sums over those epochs, by bin from the window's lowest and hypothesis (R362). -/
  sums : List (List Nat) := []
  /-- Bank epochs since RUNNING (R378). -/
  bank : Nat := 0
  lost : List LostPrn := []
  chans : Tbl Nat Track := []
  falseAlarms : Nat := 0
  losses : Nat := 0
  /-- The next epoch's number, the latest epoch's tick, and whether TD0 has stepped since. -/
  epoch : Nat := 0
  epochAt : Option Nat := none
  stepped : Bool := false
  fix : Bool := false
  /-- A fix has existed since the commit (R369). -/
  hadFix : Bool := false
  /-- Consecutive epochs without a fix, up to 3, since one with (R371). -/
  noFix : Nat := 3
  used : Nat := 0
  pdop : F32 := 0
  lat : Nat := 0
  lon : Nat := 0
  height : F32 := 0
  sigmaH : F32 := 0
  week : Nat := 0
  tow : Nat := 0
  td0LessGps : Nat := 0
  sigma : F32 := 0
  leap : Option Int := none
  /-- Decoded navigation data, and what MRAM holds (R372). -/
  data : GnssData := {}
  saved : GnssData := {}
  storeAt : Nat := 0
  /-- Pips in the order of their storing, captures, and the next pip ID (R375). -/
  pips : List Pip := []
  caps : List PipCap := []
  pipNext : Nat := 1
  /-- Pips whose processing is requested, in order of request (R377); of the first of them the PRN
  being searched, its bank epochs, and what has been found. -/
  jobs : List Nat := []
  jobPrn : Nat := 1
  jobEpochs : Nat := 0
  found : List (Nat × Nat × Nat × Int) := []
deriving DecidableEq, Repr

/-- A received frame as the host queue and the high-priority buffer hold it (13 Table 13.9). -/
structure CanRec where
  time : T96
  frame : CanFrame
  filter : Nat
deriving DecidableEq, Repr

/-- A host transmit buffer (13 R444, Table 13.8). -/
structure CanTx where
  ser : Nat
  frame : CanFrame
  tag : Nat
  oneShot : Bool
  report : Bool
  insertSa : Bool
  deadline : Option Nat
  attempts : Nat := 0
  /-- Cause of the latest failed attempt, 0 when none (R444). -/
  failed : Nat := 0
deriving DecidableEq, Repr

/-- Which path the attempt in progress belongs to (13 R441). -/
inductive CanPath where
  | loop (n : Nat) | fw | host (ser : Nat)
deriving DecidableEq, Repr

/-- One CAN controller (chapter 13). -/
structure Can where
  tec : Nat := 0
  rxe : Nat := 0
  lec : Nat := 0
  /-- The tick of the entry into bus-off, while bus-off (R447). -/
  off : Option Nat := none
  /-- It has seen 11 recessive bits and takes part in the bus (R433, R450). -/
  onBus : Bool := false
  dominant : Bool := false
  /-- Its transmitter has released the bus (R445). -/
  stuck : Bool := false
  tdcv : Nat := 0
  rxfrm : Nat := 0
  txfrm : Nat := 0
  errfrm : Nat := 0
  busoff : Nat := 0
  unmatched : Nat := 0
  rxdrop : Nat := 0
  loopovr : Nat := 0
  fwdrop : Nat := 0
  /-- Frames for the firmware received during a processor-complex reset, oldest first, with their ticks (01 Table 1.10). -/
  fwRx : List (CanFrame × Nat) := []
  hpovr : Nat := 0
  queue : List CanRec := []
  dropped : Nat := 0
  /-- Tick of the latest RX_READY, and whether one is due (R439). -/
  rxAt : Option Nat := none
  rxDue : Bool := false
  hp : Option CanRec := none
  /-- Tick of the latest HP_FRAME, and whether one is due (R440). -/
  hpAt : Option Nat := none
  hpDue : Bool := false
  /-- Pending loop frames by loop (R442). -/
  slots : Tbl Nat CanFrame := []
  fw : List CanFrame := []
  host : List CanTx := []
  ser : Nat := 0
  /-- The attempt in progress. -/
  att : Option (CanPath × CanFrame) := none
  /-- The claim responder: 0 none, 1 claiming, 2 claimed, 3 lost (R449). -/
  addrSt : Nat := 0
  addr : Nat := 0xFE
  claimAt : Nat := 0
  /-- A Cannot Claim waits for its delay (R449). -/
  cannot : Bool := false
  /-- Addresses seen claimed, with their NAMEs. -/
  seen : Tbl Nat Nat := []
deriving DecidableEq, Repr

/-- The CAN controllers. -/
structure CanS where
  ctl : Tbl Nat Can := []
deriving DecidableEq, Repr

/-- A row of the panel (16 R528, R531, R536), as its journal entry holds it: the target bits, the
latched band and supplies, the reset halves in ms, the phase (0 before phase 1), the elapsed time of
the phase last written, in ticks, and whether the entry is complete. -/
structure PRow where
  row : Nat
  target : Bytes
  band : Nat
  vph : F32
  vpm : F32
  vpl : F32
  tPlus : F32
  tMinus : F32
  phase : Nat := 1
  elapsed : Nat := 0
  done : Bool := false
deriving DecidableEq, Repr

/-- The service panel (chapter 16). -/
structure Pnl where
  /-- Frames in use and in MRAM, each with its CRC; a frame not listed is blank (R535). -/
  frames : Tbl Nat (Bytes × Nat) := []
  saved : Tbl Nat (Bytes × Nat) := []
  /-- The displayed image, 96 bytes (none: blank), and the rows whose displayed state is unknown. -/
  shown : Option Bytes := none
  unknown : Nat := 0xFFFF
  band : Nat := 0
  temp : F32 := 0
  tempAt : Option Nat := none
  vph : F32 := 0
  vpm : F32 := 0
  vpl : F32 := 0
  supplyOk : Bool := false
  /-- Since when the supplies are in range. -/
  okAt : Nat := 0
  sampleAt : Option Nat := none
  /-- The row in progress: its phase began at `phaseAt`, its journal was written at `noteAt`. -/
  run : Option PRow := none
  phaseAt : Nat := 0
  noteAt : Nat := 0
  /-- The journal in MRAM, newest first, at most 4,096 entries; the books of the 768 cells as they
  stand and as MRAM holds them (none: all zero). -/
  journal : List PRow := []
  books : List F32 := []
  booksSaved : List F32 := []
  /-- Rows the repair pass still writes, and how many it has to. -/
  repair : Nat := 0
  repairing : Nat := 0
  written : Nat := 0
  repaired : Nat := 0
  /-- What holds FSRC192 in error, by detail: bit n for detail n. -/
  wrong : Nat := 0
deriving DecidableEq, Repr

/-- The loader and image update (chapter 17). -/
structure Upd where
  /-- Table 17.4: 0 IDLE, 1 RECEIVING, 2 COPYING, 3 CHECKING, 4 FAILED. -/
  journal : Nat := 0
  header : Bytes := []
  next : Nat := 0
  sectors : Nat := 0
  /-- The NOR check has failed once since the copy began (R561). -/
  retried : Bool := false
  /-- The body received (R547), and the image region of NOR; none: as shipped. -/
  staging : Bytes := []
  nor : Option Bytes := none
  /-- The present sector, or the digest, is being worked on since this tick; none until copying has
  begun (R557, R560). -/
  busy : Option Nat := none
  /-- Last result of Table 17.5. -/
  result : Nat := 0
  floor : Nat := 0
  /-- The settings schema stored in MRAM; none: as shipped (R567). -/
  schema : Option Nat := none
  /-- Settings stand at shipped values: old and new schema (R568). -/
  defaulted : Option (Nat × Nat) := none
  /-- The loader region is write-protected (R547). -/
  wp : Bool := false
deriving DecidableEq, Repr

/-- An active perturbation (18 Table 18.1). `seen` counts the frames of kinds 3 and 4 (R575). -/
structure TSlot where
  kind : Nat
  target : Nat
  mag : Nat
  opt : Nat
  /-- Its end on the monotonic tick; none until cleared. -/
  till : Option Nat
  seen : Nat := 0
deriving DecidableEq, Repr

/-- The test block (chapter 18). A slot that is not listed is empty. -/
structure Tst where
  unlock : Option Nat := none
  slots : Tbl Nat TSlot := []
deriving DecidableEq, Repr

/-- Why a step could stop in a fault: nothing in this specification does. -/
inductive Fault where
  /-- Raised by no command: every row of the table is given an effect by the spec. Safe. -/
  | none
deriving DecidableEq, Repr

/-- Why a command could be refused. -/
inductive Refusal where
  /-- Answered by the arms of `exec` whose command has no meaning yet. Safe. -/
  | notModelled (mnemonic : String)
deriving DecidableEq, Repr

/-- The module. -/
structure State where
  /-- The monotonic tick (00 R11). -/
  mono : Nat := 0
  /-- The model's own counter of free values drawn. Log entry 6. -/
  nonce : Nat := 0
  /-- The session and sequence of the host command being executed (03 R96). -/
  cur : Option (Nat × Nat) := none
  boot : Boot := {}
  pairs : Tbl Nat Pair := []
  net : Net := {}
  fcr : Fcr := {}
  /-- Lifecycle records, by function identifier (01 R28). -/
  fns : Tbl Nat Fn := []
  /-- Staged, applied and stored configurations (01 R29); an object not listed is empty. -/
  staged : Tbl Obj Bytes := []
  applied : Tbl Obj Bytes := []
  stored : Tbl Obj Bytes := []
  /-- Stored auto-start flags, by function identifier (01 R45). -/
  autoStart : Tbl Nat Bool := [(0x0C02, true)]
  /-- SRAM, MRAM, NOR and DRAM as bytes (01 R22). -/
  mem : List Host.Cell := []
  cle : Cle := {}
  cse : Cse := {}
  lsw : Lsw := {}
  planner : Planner := {}
  guid : Guid := {}
  yield : Yield := {}
  headwind : Option Headwind := none
  fus : Fus := {}
  cam : Cam := {}
  gns : Gns := {}
  tsu : Tsu := {}
  eth : Eth := {}
  can : CanS := {}
  pwr : Pwr := {}
  pnl : Pnl := {}
  upd : Upd := {}
  tst : Tst := {}
  /-- What the module has sent, newest first. -/
  sent : List Sent := []
  /-- The commands that wait, first in, first out. -/
  pending : List Instr := []
deriving DecidableEq, Repr

/-- The module right after power-on reset (Table 1.12 event 1). -/
def State.reset : State := {}

end Sys2Proof.Machine
end

