-- ==== Sys2Proof/Machine/Bytes.lean ====
section
/-! DEFINITION. Little-endian codecs (00 R6), the field checks of 00 R7, R8 and R10, CRC-32C
(03 R71), and the tables keyed by instance numbers. -/

namespace Sys2Proof.Machine

/-- The entry of a table, or the default. -/
def tget {κ α : Type} [DecidableEq κ] (d : α) (t : Tbl κ α) (k : κ) : α :=
  match t with
  | [] => d
  | (k', v) :: r => if k' = k then v else tget d r k

/-- Write one entry of a table. -/
def tput {κ α : Type} [DecidableEq κ] (t : Tbl κ α) (k : κ) (v : α) : Tbl κ α :=
  match t with
  | [] => [(k, v)]
  | (k', v') :: r => if k' = k then (k, v) :: r else (k', v') :: tput r k v

/-- Remove one entry of a table. -/
def tdel {κ α : Type} [DecidableEq κ] (t : Tbl κ α) (k : κ) : Tbl κ α :=
  t.filter fun e => decide (e.1 ≠ k)

/-- The entry of a table, if it is listed. -/
def tfind {κ α : Type} [DecidableEq κ] (t : Tbl κ α) (k : κ) : Option α :=
  (t.find? fun e => decide (e.1 = k)).map (·.2)

/-- The byte at an offset; 0 beyond the end. -/
def byteAt (p : Bytes) (o : Nat) : Nat := (p.getD o 0#8).toNat

/-- The unsigned little-endian value of n bytes. -/
def leVal : Bytes → Nat
  | [] => 0
  | b :: r => b.toNat + 256 * leVal r

/-- An unsigned field of n bytes at an offset (R6). -/
def rd (p : Bytes) (o n : Nat) : Nat :=
  match n with
  | 0 => 0
  | n + 1 => byteAt p o + 256 * rd p (o + 1) n

/-- A two's-complement field of n bytes at an offset. -/
def rdI (p : Bytes) (o n : Nat) : Int :=
  let v := rd p o n
  if v ≥ 2 ^ (8 * n - 1) then (v : Int) - (2 ^ (8 * n) : Nat) else v

/-- A binary32 field. -/
def rdF (p : Bytes) (o : Nat) : F32 := BitVec.ofNat 32 (rd p o 4)

/-- A TIME96 field (R10). -/
def rdT (p : Bytes) (o : Nat) : T96 := { sec := rd p o 6, ns := rd p (o + 6) 4, sub := rd p (o + 10) 2 }

/-- The bytes of a field. -/
def slice (p : Bytes) (o n : Nat) : Bytes := (p.drop o).take n

/-- n bytes of an unsigned value, least significant first (R6). -/
def le (n v : Nat) : Bytes :=
  match n with
  | 0 => []
  | n + 1 => BitVec.ofNat 8 v :: le n (v / 256)

/-- n bytes of a signed value in two's complement. -/
def leI (n : Nat) (v : Int) : Bytes := le n (v % (2 ^ (8 * n) : Nat)).toNat

def leF (x : F32) : Bytes := le 4 x.toNat
def leT (t : T96) : Bytes := le 6 t.sec ++ le 4 t.ns ++ le 2 t.sub
def b1 (v : Nat) : Bytes := le 1 v
def zeros (n : Nat) : Bytes := List.replicate n 0#8
def bit (b : Bool) (n : Nat) : Nat := if b then 2 ^ n else 0
def tbit (v n : Nat) : Bool := v.testBit n

/-- A fixed-length byte string: cut, or padded with zeros. -/
def fitBytes (n : Nat) (p : Bytes) : Bytes := p.take n ++ zeros (n - p.length)

/-- An unsigned saturation at the maximum of a field of n bytes. -/
def satN (n v : Nat) : Nat := min v (2 ^ (8 * n) - 1)

/-- One layout check: the offset of a field and whether the field passes. -/
abbrev FieldChk := Nat × Bool

/-- The first field that fails (R80): the detail of BAD_PARAM. -/
def firstBad : List FieldChk → Option Nat
  | [] => none
  | (o, ok) :: r => if ok then firstBad r else some o

def ckRange (p : Bytes) (o n lo hi : Nat) : FieldChk := (o, decide (lo ≤ rd p o n ∧ rd p o n ≤ hi))
/-- A reserved field holds zero (R8). -/
def ckZero (p : Bytes) (o n : Nat) : FieldChk := (o, decide (rd p o n = 0))
/-- A binary32 field is neither NaN nor infinite (R7). -/
def ckF (p : Bytes) (o : Nat) : FieldChk := (o, fFinite (rdF p o))
/-- A binary32 field within a range. -/
def ckFR (p : Bytes) (o : Nat) (lo hi : F32) : FieldChk :=
  (o, fFinite (rdF p o) && fLe lo (rdF p o) && fLe (rdF p o) hi)
/-- A TIME96 field keeps its nanoseconds below 1,000,000,000 (R10); the field is at `o`. -/
def ckT (p : Bytes) (o : Nat) : FieldChk := (o, decide (rd p (o + 6) 4 < 1000000000))
/-- The bits of a field outside a mask are reserved. -/
def ckMask (p : Bytes) (o n mask : Nat) : FieldChk := (o, decide (rd p o n &&& mask = rd p o n))
def ckFloats (p : Bytes) (o n : Nat) : List FieldChk :=
  match n with
  | 0 => []
  | n + 1 => ckF p o :: ckFloats p (o + 4) n

/-- Order of two TIME96 values. -/
def T96.lt (a b : T96) : Bool :=
  decide (a.sec < b.sec ∨ (a.sec = b.sec ∧ (a.ns < b.ns ∨ (a.ns = b.ns ∧ a.sub < b.sub))))
def T96.le (a b : T96) : Bool := !T96.lt b a
/-- A TIME96 value in nanoseconds. -/
def T96.toNs (a : T96) : Nat := a.sec * 1000000000 + a.ns
/-- A TIME96 value in units of 2^-16 ns. -/
def T96.toSub (a : T96) : Nat := (a.sec * 1000000000 + a.ns) * 65536 + a.sub
def T96.ofSub (v : Nat) : T96 :=
  { sec := v / 65536 / 1000000000, ns := v / 65536 % 1000000000, sub := v % 65536 }
def T96.ofNs (v : Nat) : T96 := { sec := v / 1000000000, ns := v % 1000000000, sub := 0 }

/-- One bit of the reflected CRC-32C (R71). -/
def crcBit (c : BitVec 32) : BitVec 32 :=
  if c.getLsbD 0 then (c >>> 1) ^^^ 0x82F63B78 else c >>> 1

def crcByte (c : BitVec 32) (b : Byte) : BitVec 32 :=
  let c := c ^^^ b.zeroExtend 32
  crcBit (crcBit (crcBit (crcBit (crcBit (crcBit (crcBit (crcBit c)))))))

/-- CRC-32C: initial value and final exclusive-or 0xFFFF_FFFF (R71). -/
def crc32c (p : Bytes) : BitVec 32 := (p.foldl crcByte 0xFFFFFFFF) ^^^ 0xFFFFFFFF

/-- The bytes of a packet: header, parameters, CRC (R70, R71). The version field is 1, as Table 3.1 has it, also in the
reply to a packet of another version, although R79 has a reply carry its command's header (DESIGN CHOICE, log entry
56). -/
def Packet.bytes (k : Packet) : Bytes :=
  let b := le 2 0x4B46 ++ b1 1 ++ b1 k.flags ++ le 2 k.session ++ le 2 k.seq ++ le 2 k.opcode ++
    le 2 k.params.length ++ k.params
  b ++ le 4 (crc32c b).toNat

end Sys2Proof.Machine
end

