-- ==== Sys2Proof/Machine/Operands.lean ====
section
/-! DEFINITION. The parameter layouts of the configuration opcodes: their fields, their reset
values, and the checks of 03 Table 3.4 steps 11 and 12, in the order of the fields and then of the
cross-field rules. -/

namespace Sys2Proof.Machine

/-- A decimal constant n / d, correctly rounded. -/
def fDec (n : Int) (d : Nat) : F32 := fDiv (fOfInt n) (fOfNat d)

/-! binary32 constants of the layout tables. -/
def fMicro : F32 := 0x358637BD
def fGiga : F32 := 0x4E6E6B28

/-- 0.0, or within a range. -/
def ckF0R (p : Bytes) (o : Nat) (lo hi : F32) : FieldChk :=
  (o, fFinite (rdF p o) && (fEq (rdF p o) f0 || (fLe lo (rdF p o) && fLe (rdF p o) hi)))
/-- Greater than 0.0 and at most `hi`. -/
def ckFPos (p : Bytes) (o : Nat) (hi : F32) : FieldChk :=
  (o, fFinite (rdF p o) && fLt f0 (rdF p o) && fLe (rdF p o) hi)
/-- Finite and at least 0.0. -/
def ckFNonneg (p : Bytes) (o : Nat) : FieldChk := (o, fFinite (rdF p o) && fLe f0 (rdF p o))
/-- Greater than 0.0. -/
def ckFGt0 (p : Bytes) (o : Nat) : FieldChk := (o, fFinite (rdF p o) && fLt f0 (rdF p o))

/-! ## Loops (04 Table 4.6) -/

/-- The reset descriptor of a loop. -/
def loopDefault (n : Nat) : Bytes :=
  le 2 n ++ [0xFF#8, 3#8] ++ zeros 8 ++ [3#8, 2#8] ++ zeros 2 ++ leF f1 ++ zeros 12 ++ leF f1 ++
  zeros 4 ++ leF f1 ++ zeros 16 ++ leF f1 ++ zeros 40 ++ leF f1 ++ zeros 16 ++ leF f1 ++ zeros 16 ++
  le 2 0xFFFF ++ le 2 0xFFFF

def dLoop (d : Bytes) : Nat := rd d 0 2
def dGroup (d : Bytes) : Nat := byteAt d 2
def dRate (d : Bytes) : Nat := byteAt d 3
def dInType (d : Bytes) : Nat := byteAt d 4
def dInIdx (d : Bytes) : Nat := byteAt d 5
def dInQty (d : Bytes) : Nat := byteAt d 6
def dInOff (d : Bytes) : Nat := byteAt d 7
def dInId (d : Bytes) : Nat := rd d 8 4
def dInvLimit (d : Bytes) : Nat := byteAt d 12
def dSafe (d : Bytes) : Nat := byteAt d 13
def dStale (d : Bytes) : Nat := rd d 14 2
def dInGain (d : Bytes) : F32 := rdF d 16
def dInOffset (d : Bytes) : F32 := rdF d 20
def dRefType (d : Bytes) : Nat := byteAt d 24
def dFfType (d : Bytes) : Nat := byteAt d 25
def dRefIdx (d : Bytes) : Nat := rd d 26 2
def dFfIdx (d : Bytes) : Nat := rd d 28 2
def dRefGain (d : Bytes) : F32 := rdF d 32
def dRefOffset (d : Bytes) : F32 := rdF d 36
def dStartRate (d : Bytes) : F32 := rdF d 40
def dSlewRate (d : Bytes) : F32 := rdF d 44
def dKp (d : Bytes) : F32 := rdF d 48
def dKi (d : Bytes) : F32 := rdF d 52
def dKd (d : Bytes) : F32 := rdF d 56
def dDAlpha (d : Bytes) : F32 := rdF d 60
def dIMin (d : Bytes) : F32 := rdF d 64
def dIMax (d : Bytes) : F32 := rdF d 68
def dAInit (d : Bytes) : F32 := rdF d 72
def dFfGain (d : Bytes) : F32 := rdF d 76
def dFfBias (d : Bytes) : F32 := rdF d 80
def dOutMin (d : Bytes) : F32 := rdF d 84
def dOutMax (d : Bytes) : F32 := rdF d 88
def dOutRate (d : Bytes) : F32 := rdF d 92
def dOutInit (d : Bytes) : F32 := rdF d 96
def dSafeRef (d : Bytes) : F32 := rdF d 100
def dSafeRate (d : Bytes) : F32 := rdF d 104
def dSafeOut (d : Bytes) : F32 := rdF d 108
def dSink (d : Bytes) : Nat := byteAt d 112
def dSinkIdx (d : Bytes) : Nat := byteAt d 113
def dSinkEnc (d : Bytes) : Nat := byteAt d 114
def dSinkLen (d : Bytes) : Nat := byteAt d 115
def dSinkId (d : Bytes) : Nat := rd d 116 4
def dSinkOff (d : Bytes) : Nat := byteAt d 120
def dOutScale (d : Bytes) : F32 := rdF d 124
def dOutOffset (d : Bytes) : F32 := rdF d 128
def dTemplate (d : Bytes) : Bytes := slice d 132 8
def dCompType (d : Bytes) : Nat := byteAt d 140
def dCompIdx (d : Bytes) : Nat := byteAt d 141
def dCompQty (d : Bytes) : Nat := byteAt d 142
def dFric (d : Bytes) : Nat := rd d 144 2
def dCog (d : Bytes) : Nat := rd d 146 2

/-- Size of a CAN field encoding (Table 4.4). -/
def encSize (e : Nat) : Nat := if e ≤ 1 then 1 else if e ≤ 3 then 2 else 4

/-- Largest index and quantity of an input type (Table 4.3). -/
def inIdxMax : Nat → Nat
  | 1 => 15 | 2 => 7 | 3 => 3 | 4 => 31 | 5 => 9 | _ => 0
def inQtyMax : Nat → Nat
  | 2 => 2 | 3 => 1 | 4 => 3 | 5 => 6 | _ => 0

/-- An 11-bit identifier where IDE is 0 (R141). -/
def idOk (i : Nat) : Bool := decide (i < 2 ^ 30 ∧ (i / 2 ^ 29 % 2 = 1 ∨ i % 2 ^ 29 ≤ 0x7FF))

/-- The checks of R140 and R141. DESIGN CHOICE (log entry 57): every range of Table 4.6 is checked, by offset, before the
cross-field rules, and a rule over two fields that fails is answered with the offset of the later one (I_MAX 68, OUT_MAX
88) or of the field the rule is about (the input type at 4, the compensation type at 140). -/
def loopChecks (d : Bytes) : List FieldChk :=
  let t := dInType d
  let can := dSink d = 2
  [ckRange d 0 2 0 511, (2, decide (dGroup d ≤ 63 ∨ dGroup d = 0xFF)), ckRange d 3 1 0 4,
   ckRange d 4 1 0 5, ckRange d 5 1 0 (inIdxMax t), ckRange d 6 1 0 (inQtyMax t),
   ckRange d 7 1 0 (if t = 5 then 63 else 0),
   (8, decide (dInId d < 2 ^ 30 ∧ (t = 5 ∨ dInId d = 0))), ckRange d 12 1 1 255, ckRange d 13 1 0 2,
   (14, decide ((dStale d = 0 ∧ t ≠ 5) ∨ 50 ≤ dStale d)), ckF d 16, ckF d 20, ckRange d 24 1 0 2,
   ckRange d 25 1 0 2,
   ckRange d 26 2 0 (if dRefType d = 1 then 63 else if dRefType d = 2 then 511 else 0),
   ckRange d 28 2 0 (if dFfType d = 2 then 63 else 0), ckZero d 30 2, ckF d 32, ckF d 36,
   ckFR d 40 fMicro fGiga, ckF0R d 44 fMicro fGiga, ckF d 48, ckF d 52, ckF d 56, ckFPos d 60 f1,
   ckF d 64, ckF d 68, ckF d 72, ckF d 76, ckF d 80, ckF d 84, ckF d 88, ckF0R d 92 fMicro fGiga,
   ckF d 96, ckF d 100, ckFR d 104 fMicro fGiga, ckF d 108, ckRange d 112 1 0 2,
   ckRange d 113 1 0 (if dSink d = 1 then 23 else if can then 9 else 0),
   ckRange d 114 1 0 (if can then 6 else 0),
   ckRange d 115 1 (if can then 1 else 0) (if can then 8 else 0),
   (116, decide (dSinkId d < 2 ^ 30 ∧ (can ∨ dSinkId d = 0))),
   ckRange d 120 1 0 (if can then 7 else 0), ckZero d 121 3, ckF d 124, ckF d 128,
   (140, decide (dCompType d = 0 ∨ dCompType d = 2 ∨ dCompType d = 3)),
   ckRange d 141 1 0 (inIdxMax (dCompType d)),
   (142, decide (dCompQty d = if dCompType d = 2 then 1 else 0)), ckZero d 143 1,
   (144, decide (dFric d ≤ 1023 ∨ dFric d = 0xFFFF)), (146, decide (dCog d ≤ 1023 ∨ dCog d = 0xFFFF)),
   (68, fLe (dIMin d) (dIMax d)), (72, fLe (dIMin d) (dAInit d) && fLe (dAInit d) (dIMax d)),
   (88, fLe (dOutMin d) (dOutMax d)),
   (96, fLe (dOutMin d) (dOutInit d) && fLe (dOutInit d) (dOutMax d)),
   (108, fLe (dOutMin d) (dSafeOut d) && fLe (dSafeOut d) (dOutMax d)),
   (120, decide (¬ can ∨ dSinkOff d + encSize (dSinkEnc d) ≤ dSinkLen d)),
   (7, decide (t ≠ 5 ∨ dInOff d + encSize (dInQty d) ≤ 64)),
   (8, decide (t ≠ 5) || idOk (dInId d)), (116, decide (¬ can) || idOk (dSinkId d)),
   (4, decide (dGroup d = 0xFF ∨ t ≠ 0)),
   (140, decide ((dFric d = 0xFFFF ∧ dCog d = 0xFFFF) ∨ dCompType d ≠ 0))]

/-- Loop rates in hertz (Table 4.1). -/
def rateHz : Nat → Nat
  | 0 => 1000 | 1 => 2000 | 2 => 5000 | 3 => 10000 | _ => 20000
/-- Loop periods in ns (Table 4.1). -/
def periodNs (c : Nat) : Nat := 1000000000 / rateHz c

/-! ## Groups (05 Table 5.4) -/

def groupDefault (g : Nat) : Bytes := b1 g ++ b1 0 ++ le 2 250 ++ zeros 12
def gDomain (d : Bytes) : Nat := byteAt d 1
def gHold (d : Bytes) : Nat := rd d 2 2
def gPhase (d : Bytes) : Nat := rd d 4 4
def gMask (d : Bytes) : Nat := rd d 8 4

def groupChecks (d : Bytes) : List FieldChk :=
  [ckRange d 0 1 0 63, ckRange d 1 1 0 3, ckRange d 2 2 0 2000, ckRange d 4 4 0 49999,
   ckRange d 8 4 0 0xFFFFFF, ckZero d 12 4]

/-! ## Sensing inputs (06 Tables 6.7 to 6.12) -/

def ckZeroF (p : Bytes) (o : Nat) : FieldChk := (o, fFinite (rdF p o) && fEq (rdF p o) f0)

/-- Reset values of Tables 6.7 to 6.10 and of R201. -/
def impDefault (k : Nat) : Bytes :=
  b1 k ++ zeros 2 ++ b1 1 ++ le 2 5 ++ le 2 20 ++ le 2 400 ++ le 2 200 ++ zeros 68
def ainDefault (k : Nat) : Bytes :=
  b1 k ++ zeros 3 ++ le 2 100 ++ zeros 2 ++ leF f1 ++ leF f0 ++ leF (fDec 5 100) ++ leF (fDec 95 100)
def finDefault (k : Nat) : Bytes :=
  b1 k ++ zeros 3 ++ leF (fOfNat 3) ++ leF (fOfNat 2) ++ le 2 5 ++ b1 4 ++ zeros 1 ++ leF fHalf
def posDefault (k : Nat) : Bytes :=
  b1 k ++ zeros 3 ++ b1 1 ++ b1 1 ++ zeros 2 ++ leF (fOfNat 8) ++ leF (fOfNat 2) ++ le 2 1000 ++ zeros 2 ++ leF f0
def imuDefault : Bytes := zeros 1 ++ b1 3 ++ b1 2 ++ b1 1
/-- By the selectors of Table 6.13. -/
def inputDefault (sel k : Nat) : Bytes :=
  match sel with
  | 1 => ainDefault k | 2 => finDefault k | 3 => posDefault k | 4 => impDefault k | _ => imuDefault

def impMode (d : Bytes) : Nat := byteAt d 2
/-- HP_CORNER in kHz. -/
def impCorner (d : Bytes) : Nat := rd d 4 2
def impRange (d : Bytes) : Nat := byteAt d 3
def impHold (d : Bytes) : Nat := rd d 6 2
def impTOn (d : Bytes) : Nat := rd d 8 2
def impTOff (d : Bytes) : Nat := rd d 10 2
def impSet (d : Bytes) : Nat := byteAt d 12
def impPts (d : Bytes) : Nat := byteAt d 13
def curveS (d : Bytes) (k : Nat) : F32 := rdF d (16 + 8 * k)
def curveF (d : Bytes) (k : Nat) : F32 := rdF d (20 + 8 * k)

def impChecks (d : Bytes) : List FieldChk :=
  let n := impPts d
  [ckRange d 0 1 0 31, ckMask d 1 1 1, ckRange d 2 1 0 2, ckRange d 3 1 0 2, ckRange d 4 2 1 50,
   ckRange d 6 2 2 1000, ckRange d 8 2 1 8191, ckRange d 10 2 1 (impTOn d), ckRange d 12 1 0 3,
   ckRange d 13 1 (if impMode d = 2 then 2 else 0) (if impMode d = 2 then 8 else 0), ckZero d 14 2] ++
  (List.range 8).flatMap fun k =>
    if k < n then
      [(16 + 8 * k, fFinite (curveS d k) &&
         if k = 0 then fLe f0 (curveS d 0) else fLt (curveS d (k - 1)) (curveS d k)),
       (20 + 8 * k, fFinite (curveF d k) &&
         if k = 0 then fLe f0 (curveF d 0) && (!fEq (curveS d 0) f0 || fEq (curveF d 0) f0)
         else fLe (curveF d (k - 1)) (curveF d k))]
    else [ckZeroF d (16 + 8 * k), ckZeroF d (20 + 8 * k)]

def ainRef (d : Bytes) : Nat := byteAt d 2
def ainCutoff (d : Bytes) : Nat := rd d 4 2

def ainChecks (d : Bytes) : List FieldChk :=
  [ckRange d 0 1 0 15, ckMask d 1 1 1, ckRange d 2 1 0 3, ckZero d 3 1,
   (4, decide (ainCutoff d = 0 ∨ (10 ≤ ainCutoff d ∧ ainCutoff d ≤ 5000))), ckZero d 6 2,
   ckF d 8, ckF d 12, ckFR d 16 f0 (fDec 11 10),
   (20, fFinite (rdF d 20) && fLe (rdF d 16) (rdF d 20) && fLe (rdF d 20) (fDec 11 10))]

def finMode (d : Bytes) : Nat := byteAt d 2
def finSupply (d : Bytes) : Nat := byteAt d 3
def finAvg (d : Bytes) : Nat := byteAt d 14
def finHigh (d : Bytes) : F32 := rdF d 4
def finLow (d : Bytes) : F32 := rdF d 8
/-- MIN_PULSE in µs. -/
def finPulse (d : Bytes) : Nat := rd d 12 2

def finChecks (d : Bytes) : List FieldChk :=
  [ckRange d 0 1 0 7, ckMask d 1 1 1, ckRange d 2 1 0 3, ckRange d 3 1 0 2,
   ckFR d 4 f1 (fOfNat 30),
   (8, fFinite (rdF d 8) && fLe fHalf (rdF d 8) && fLe (rdF d 8) (fSub (rdF d 4) (fDec 2 10))),
   ckRange d 12 2 1 1000, ckRange d 14 1 1 64, ckZero d 15 1, ckFR d 16 (fDec 1 10) (fOfNat 100)]

def fTwoPi : F32 := 0x40C90FDB
def fPi : F32 := 0x40490FDB
/-- An angle within a turn of (−π, π] wrapped into it. -/
def wrapPi (x : F32) : F32 :=
  let k := fFloorInt (fDiv (fSub fPi x) fTwoPi)
  if k = 0 then x else fFma (fOfInt k) fTwoPi x
def posMode (d : Bytes) : Nat := byteAt d 2
def posSupply (d : Bytes) : Nat := byteAt d 3
def posPairs (d : Bytes) : Nat := byteAt d 5
def posMulti (d : Bytes) : Bool := byteAt d 6 = 1
def posNominal (d : Bytes) : F32 := rdF d 12
def posOffset (d : Bytes) : F32 := rdF d 20

def posChecks (d : Bytes) : List FieldChk :=
  let m := posMode d
  [ckRange d 0 1 0 3, ckMask d 1 1 1, ckRange d 2 1 0 2, ckRange d 3 1 0 (if m = 1 then 0 else 2),
   ckRange d 4 1 0 (if m = 2 then 0 else 2), ckRange d 5 1 1 16, ckRange d 6 1 0 1, ckZero d 7 1,
   (8, fFinite (rdF d 8) && ((m ≠ 1 && fEq (rdF d 8) f0) ||
     (m ≠ 2 && fLe (fOfNat 4) (rdF d 8) && fLe (rdF d 8) (fOfNat 20)))),
   ckFR d 12 (fDec 2 10) (fOfNat 10), ckRange d 16 2 200 4000, ckZero d 18 2,
   (20, fFinite (posOffset d) && fLe f0 (posOffset d) && fLt (posOffset d) fTwoPi)]

def imuAccel (d : Bytes) : Nat := byteAt d 1
def imuRate (d : Bytes) : Nat := byteAt d 2
def imuFilter (d : Bytes) : Nat := byteAt d 3
/-- The range limits of R201 in the units of R195: 2, 4, 8 and 16 g, and 250, 500, 1,000 and 2,000 °/s. PRESUMED (log
entry 58): one g is the standard 9.80665 m/s². -/
def imuAccelMax (d : Bytes) : F32 := fDec (2 ^ (1 + imuAccel d) * 980665) 100000
def imuRateMax (d : Bytes) : F32 := fMul (fOfNat (250 * 2 ^ imuRate d)) (fDiv fTwoPi (fOfNat 360))

def imuChecks (d : Bytes) : List FieldChk :=
  [ckMask d 0 1 1, ckRange d 1 1 0 3, ckRange d 2 1 0 3, ckRange d 3 1 0 2]

def setChecks (d : Bytes) : List FieldChk :=
  [ckRange d 0 1 0 3, ckMask d 1 1 3, ckRange d 2 2 0 675,
   (4, decide (rd d 4 2 ≤ 256 ∧ rd d 2 2 + rd d 4 2 ≤ 676)), ckZero d 6 2,
   (8, decide ((byteAt d 1).testBit 0 ∨ rd d 8 4 = 0))] ++ ckFloats d 12 (min (rd d 4 2) 256)

/-! ## Planner, guidance and yield (07 Tables 7.5 to 7.17) -/

def planFeedDefault : Bytes :=
  zeros 4 ++ leF f1 ++ le 2 500 ++ le 2 1000 ++ le 2 1000 ++ zeros 2 ++ leF (fDec 18 10) ++
  leF (fOfNat 8) ++ leF (fDec 3 10)
def pfDFeed (d : Bytes) : F32 := rdF d 4
def pfStale (d : Bytes) : Nat := rd d 8 2
def pfAgeScale (d : Bytes) : Nat := rd d 10 2
def pfCoast (d : Bytes) : Nat := rd d 12 2
def pfFlow (d : Bytes) : Nat := byteAt d 14
def pfKFeed (d : Bytes) : F32 := rdF d 16
def pfDFlow (d : Bytes) : F32 := rdF d 20
def pfSigma (d : Bytes) : F32 := rdF d 24

def planMvDefault (i : Nat) : Bytes :=
  b1 1 ++ b1 i ++ zeros 6 ++ leF f1 ++ zeros 12 ++ leF f1 ++ leF f1 ++ leF f1 ++ zeros 4
def mvRole (d : Bytes) : Nat := byteAt d 4
def mvType (d : Bytes) : Nat := byteAt d 5
def mvIdx (d : Bytes) : Nat := byteAt d 6
def mvQty (d : Bytes) : Nat := byteAt d 7
def mvGain (d : Bytes) : F32 := rdF d 8
def mvOffset (d : Bytes) : F32 := rdF d 12
def mvMin (d : Bytes) : F32 := rdF d 16
def mvMax (d : Bytes) : F32 := rdF d 20
def mvUp (d : Bytes) : F32 := rdF d 24
def mvDown (d : Bytes) : F32 := rdF d 28
def mvMove (d : Bytes) : F32 := rdF d 32
def mvNom (d : Bytes) : F32 := rdF d 36

def planCvDefault (j : Nat) : Bytes :=
  b1 2 ++ b1 j ++ zeros 2 ++ [0#8, 1#8] ++ zeros 8 ++ le 2 500 ++ leF f1 ++ zeros 12 ++
  leF (fOfNat 10) ++ zeros 40 ++ leF (fDec 5 100)
def cvKind (d : Bytes) : Nat := byteAt d 4
def cvType (d : Bytes) : Nat := byteAt d 5
def cvIdx (d : Bytes) : Nat := byteAt d 6
def cvQty (d : Bytes) : Nat := byteAt d 7
def cvMask (d : Bytes) : Nat := rd d 8 4
def cvOff (d : Bytes) : Nat := byteAt d 12
def cvStale (d : Bytes) : Nat := rd d 14 2
def cvGain (d : Bytes) : F32 := rdF d 16
def cvOffset (d : Bytes) : F32 := rdF d 20
def cvDMeas (d : Bytes) : F32 := rdF d 24
def cvTau (d : Bytes) : F32 := rdF d 28
def cvBiasTau (d : Bytes) : F32 := rdF d 32
def cvC0 (d : Bytes) : F32 := rdF d 36
def cvCQ (d : Bytes) : F32 := rdF d 40
def cvCMv (d : Bytes) (i : Nat) : F32 := rdF d (44 + 4 * i)
def cvWiden (d : Bytes) : F32 := rdF d 76

def planObjDefault : Bytes :=
  zeros 4 ++ leF f1 ++ leF f1 ++ zeros 4 ++
    (List.range 6).flatMap fun _ => zeros 4 ++ leF (fOfNat 1000000)
def obTarget (d : Bytes) : F32 := rdF d 0
def obWQ (d : Bytes) : F32 := rdF d 4
def obZBand (d : Bytes) : F32 := rdF d 8
def obLimit (d : Bytes) (j : Nat) : F32 := rdF d (16 + 8 * j)
def obSlack (d : Bytes) (j : Nat) : F32 := rdF d (20 + 8 * j)

def planMapDefault (p : Nat) : Bytes := b1 p ++ zeros 31
def pmPsp (d : Bytes) : Nat := byteAt d 0
def pmSrc (d : Bytes) : Nat := byteAt d 1
def pmSel (d : Bytes) : Nat := byteAt d 2
def pmRamp (d : Bytes) : Bool := byteAt d 3 = 1
def pmLead (d : Bytes) : F32 := rdF d 4
def pmGain (d : Bytes) : F32 := rdF d 8
def pmOffset (d : Bytes) : F32 := rdF d 12
def pmMin (d : Bytes) : F32 := rdF d 16
def pmMax (d : Bytes) : F32 := rdF d 20
def pmFallback (d : Bytes) : F32 := rdF d 24
def pmRate (d : Bytes) : F32 := rdF d 28

/-- Length of PLANNER_MODEL by its part (R233). -/
def modelLen (p : Bytes) : Nat :=
  match byteAt p 0 with | 0 => 28 | 1 => 40 | 2 => 80 | _ => p.length

def modelChecks (d : Bytes) : List FieldChk :=
  match byteAt d 0 with
  | 0 =>
    [ckRange d 1 1 0 0, ckZero d 2 2, ckFR d 4 f0 (fOfNat 4), ckRange d 8 2 100 2000,
     ckRange d 10 2 100 10000, ckRange d 12 2 100 5000, ckRange d 14 1 0 31, ckZero d 15 1,
     ckFR d 16 f1 (fOfNat 5), ckFR d 20 f0 (fOfNat 30), ckFR d 24 f0 f1]
  | 1 =>
    let used := mvRole d ≠ 0
    [ckRange d 1 1 0 7, ckZero d 2 2, ckRange d 4 1 0 4,
     ckRange d 5 1 (if used then 1 else 0) (if used then 3 else 0),
     ckRange d 6 1 0 (inIdxMax (mvType d)), ckRange d 7 1 0 (inQtyMax (mvType d)), ckF d 8, ckF d 12,
     ckF d 16, (20, fFinite (mvMax d) && fLe (mvMin d) (mvMax d)),
     ckFR d 24 fMicro (fOfNat 1000000), ckFR d 28 fMicro (fOfNat 1000000), ckFNonneg d 32, ckF d 36]
  | 2 =>
    let t := cvType d
    [ckRange d 1 1 0 5, ckZero d 2 2, ckRange d 4 1 0 5, ckRange d 5 1 1 4,
     ckRange d 6 1 0 (if t = 2 then 15 else if t = 3 then 9 else if t = 4 then 7 else 0),
     ckRange d 7 1 0 (if t = 1 ∨ t = 4 then 3 else if t = 3 then 6 else 0),
     (8, decide (t = 1 ∨ cvMask d = 0) || (decide (t = 3) && idOk (cvMask d))),
     ckRange d 12 1 0 (if t = 3 then 63 else 0), ckZero d 13 1, ckRange d 14 2 10 10000, ckF d 16,
     ckF d 20, ckFR d 24 f0 (fOfNat 30), ckFR d 28 f0 (fOfNat 20), ckFR d 32 fHalf (fOfNat 600)] ++
    ckFloats d 36 10 ++ [ckFR d 76 f0 f1]
  | _ => [(0, false)]

def objChecks (d : Bytes) : List FieldChk :=
  [ckFR d 0 f0 (fOfNat 200), ckFNonneg d 4, ckFR d 8 f0 (fOfNat 3), ckZero d 12 4] ++
  (List.range 6).flatMap fun j => [ckF d (16 + 8 * j), ckFNonneg d (20 + 8 * j)]

def mapEntries (p : Bytes) : List Bytes := (List.range (byteAt p 0)).map fun i => slice p (4 + 32 * i) 32

def mapChecks (p : Bytes) : List FieldChk :=
  [ckRange p 0 1 1 32, ckZero p 1 3] ++ (List.range (byteAt p 0)).flatMap fun i =>
    let o := 4 + 32 * i
    let d := slice p o 32
    [ckRange p o 1 0 63, ckRange p (o + 1) 1 0 4,
     ckRange p (o + 2) 1 0 (if pmSrc d = 2 then 7 else if pmSrc d = 3 then 2 else 0),
     ckRange p (o + 3) 1 0 1, ckFR p (o + 4) f0 (fDec 79 10), ckF p (o + 8), ckF p (o + 12),
     ckF p (o + 16), (o + 20, fFinite (pmMax d) && fLe (pmMin d) (pmMax d)), ckF p (o + 24),
     ckFR p (o + 28) fMicro fGiga]

def guidDefault : Bytes :=
  [1#8, 1#8, 63#8, 0#8] ++ leF (fDec 38 10) ++ leF (fDec 6 10) ++ leF (fDec 15 100) ++
  leF (fDec 8 10) ++ leF f1 ++ leF (fOfNat 3) ++ zeros 8 ++ leF (fDec 1 10) ++ leF (fDec 6 10) ++
  le 2 200 ++ le 2 1000 ++ leF f1 ++ zeros 8 ++ leF (fDec 2 10)
def gdMode (d : Bytes) : Nat := byteAt d 0
def gdRear (d : Bytes) : Bool := byteAt d 1 = 1
def gdPsp (d : Bytes) : Nat := byteAt d 2
def gdSide (d : Bytes) : Nat := byteAt d 3
def gdWheelbase (d : Bytes) : F32 := rdF d 4
def gdDelta (d : Bytes) : F32 := rdF d 8
def gdKy (d : Bytes) : F32 := rdF d 12
def gdKpsi (d : Bytes) : F32 := rdF d 16
def gdTLook (d : Bytes) : F32 := rdF d 20
def gdLMin (d : Bytes) : F32 := rdF d 24
def gdCpX (d : Bytes) : F32 := rdF d 28
def gdCpY (d : Bytes) : F32 := rdF d 32
def gdEdgeOffset (d : Bytes) : F32 := rdF d 36
def gdConf (d : Bytes) : F32 := rdF d 40
def gdPoseStale (d : Bytes) : Nat := rd d 44 2
def gdDrLimit (d : Bytes) : Nat := rd d 46 2
def gdXte (d : Bytes) : F32 := rdF d 48
def gdALat (d : Bytes) : F32 := rdF d 52
def gdRelease (d : Bytes) : Bool := byteAt d 56 = 1
def gdRate (d : Bytes) : F32 := rdF d 60

def guidChecks (d : Bytes) : List FieldChk :=
  [ckRange d 0 1 1 2, ckRange d 1 1 0 1, ckRange d 2 1 0 63, ckRange d 3 1 0 1,
   ckFR d 4 f1 (fOfNat 10), ckFR d 8 (fDec 5 100) (fDec 12 10), ckF d 12, ckF d 16,
   ckFR d 20 (fDec 2 10) (fOfNat 3), ckFR d 24 f1 (fOfNat 20), ckF d 28, ckF d 32,
   ckFR d 36 (fOfInt (-1)) f1, ckFR d 40 f0 f1, ckRange d 44 2 20 1000, ckRange d 46 2 0 5000,
   ckFR d 48 (fDec 1 10) (fOfNat 5), ckFR d 52 f0 (fOfNat 5), ckRange d 56 1 0 1, ckZero d 57 3,
   ckFR d 60 (fDec 1 100) (fOfNat 2)]

/-- The reset pose source; no transport is named by the spec (log entry 12). -/
def poseDefault : Bytes := zeros 2 ++ le 2 48622 ++ zeros 12 ++ leF (fDec 5 100) ++ zeros 4
def psTransport (d : Bytes) : Nat := byteAt d 0
def psPort (d : Bytes) : Nat := byteAt d 1
def psUdp (d : Bytes) : Nat := rd d 2 2
def psId (d : Bytes) : Nat := rd d 4 4
def psSigma (d : Bytes) : F32 := rdF d 16
def psFloat (d : Bytes) : Bool := byteAt d 20 = 1

def poseChecks (d : Bytes) : List FieldChk :=
  let can := psTransport d = 1
  [ckRange d 0 1 1 2, ckRange d 1 1 0 (if can then 9 else 6),
   (2, decide (if can then psUdp d = 0 else 1024 ≤ psUdp d)),
   (4, (decide can && idOk (psId d)) || decide (psId d = 0)), ckF d 8, ckF d 12,
   ckFR d 16 (fDec 5 1000) f1, ckRange d 20 1 0 1, ckZero d 21 3]

def pathChecks (p : Bytes) : List FieldChk :=
  [ckRange p 0 1 1 32, ckMask p 1 1 1, ckZero p 2 2] ++ (List.range (byteAt p 0)).flatMap fun i =>
    let o := 4 + 28 * i
    [ckRange p (o + 4) 1 0 1, ckZero p (o + 5) 3, ckF p (o + 8), ckF p (o + 12), ckF p (o + 16),
     ckFR p (o + 20) (fDec 1 10) (fOfNat 2000),
     (o + 24, fFinite (rdF p (o + 24)) && fLe (fAbs (rdF p (o + 24))) fHalf &&
       (decide (byteAt p (o + 4) = 1) || fEq (rdF p (o + 24)) f0))]

def yEnable (d : Bytes) : Bool := (byteAt d 0).testBit 0
def yFlow (d : Bytes) : Nat := byteAt d 1
def yHdrType (d : Bytes) : Nat := byteAt d 2
def yHdrIdx (d : Bytes) : Nat := byteAt d 3
def yDown (d : Bytes) : F32 := rdF d 4
def yDYield (d : Bytes) : F32 := rdF d 8
def yPeriod (d : Bytes) : Nat := rd d 12 2
def yFill (d : Bytes) : Nat := rd d 14 2
def yWidth (d : Bytes) : F32 := rdF d 16
def yMoistType (d : Bytes) : Nat := byteAt d 20
def yMoistIdx (d : Bytes) : Nat := byteAt d 21
def yMoistOff (d : Bytes) : Nat := byteAt d 22
def yMoistEnc (d : Bytes) : Nat := byteAt d 23
def yMoistId (d : Bytes) : Nat := rd d 24 4
def yMoistGain (d : Bytes) : F32 := rdF d 28
def yMoistOffset (d : Bytes) : F32 := rdF d 32
def yDMoist (d : Bytes) : F32 := rdF d 36

def yieldChecks (d : Bytes) : List FieldChk :=
  let can := yMoistType d = 2
  let pr := yPeriod d
  [ckMask d 0 1 3, ckRange d 1 1 0 31, ckRange d 2 1 0 2,
   ckRange d 3 1 0 (inIdxMax (yHdrType d)), ckF d 4, ckFR d 8 (fOfNat 2) (fOfNat 30),
   (12, decide (200 ≤ pr ∧ pr ≤ 10000 ∧ (1000 % pr = 0 ∨ pr % 1000 = 0))), ckRange d 14 2 0 30000,
   ckFR d 16 f1 (fOfNat 20), ckRange d 20 1 0 2,
   ckRange d 21 1 0 (if can then 9 else if yMoistType d = 1 then 15 else 0),
   ckRange d 22 1 0 (if can then 63 else 0), ckRange d 23 1 0 (if can then 6 else 0),
   (24, (decide can && idOk (yMoistId d)) || decide (yMoistId d = 0)), ckF d 28, ckF d 32,
   ckFR d 36 f0 (fOfNat 30)]

/-! ## Load channels (08 Table 8.7) -/

def classH (k : Nat) : Bool := decide (k < 4)

def chanDefault (k : Nat) : Bytes :=
  let h := classH k
  [BitVec.ofNat 8 k, 1#8] ++ zeros 5 ++ b1 3 ++ le 4 1000000 ++
  leF (fOfNat (if h then 25 else 6)) ++ leF (fOfNat (if h then 100 else 24)) ++
  le 2 (if h then 10 else 5) ++ le 2 10 ++ leF (fDec 15 100) ++
  leF (fOfNat (if h then 10 else 3)) ++ le 2 1000 ++ le 2 250 ++ leF (fDec 85 10) ++
  leF (fDec 95 10) ++ le 2 50 ++ zeros 2 ++ leF (fDec 135 10) ++
  leF (if h then fOfNat 2 else fDec 6 10) ++ zeros 8

def cMode (d : Bytes) : Nat := byteAt d 1
def cKind (d : Bytes) : Nat := byteAt d 2
def cSrc (d : Bytes) : Nat := byteAt d 3
def cLoop (d : Bytes) : Nat := rd d 4 2
def cSafe (d : Bytes) : Nat := byteAt d 6
def cRetries (d : Bytes) : Nat := byteAt d 7
def cT (d : Bytes) : Nat := rd d 8 4
def cICont (d : Bytes) : F32 := rdF d 12
def cILim (d : Bytes) : F32 := rdF d 16
def cLimTime (d : Bytes) : Nat := rd d 20 2
def cRetryOff (d : Bytes) : Nat := rd d 22 2
def cFrac (d : Bytes) : F32 := rdF d 24
def cDidt (d : Bytes) : F32 := rdF d 28
def cConfirm (d : Bytes) : Nat := rd d 32 2
def cHold (d : Bytes) : Nat := rd d 34 2
def cUvOff (d : Bytes) : F32 := rdF d 36
def cUvOn (d : Bytes) : F32 := rdF d 40
def cUvSettle (d : Bytes) : Nat := rd d 44 2
def cVnom (d : Bytes) : F32 := rdF d 48
def cEBudget (d : Bytes) : F32 := rdF d 52
def cSafeV (d : Bytes) : F32 := rdF d 56
def cIOpen (d : Bytes) : F32 := rdF d 60

/-- The checks of Table 8.7; a channel in no group's mask has T a whole multiple of 10 ns (R253). -/
def chanChecks (locked : Nat → Bool) (d : Bytes) : List FieldChk :=
  let k := byteAt d 0
  let h := classH k
  [ckRange d 0 1 0 23, ckRange d 1 1 1 4, ckRange d 2 1 0 2, ckRange d 3 1 0 1,
   ckRange d 4 2 0 (if cSrc d = 1 then 511 else 0), ckRange d 6 1 0 2,
   ckRange d 7 1 0 (if cMode d = 1 ∨ cMode d = 4 then 15 else 0),
   (8, decide ((if h then 500000 else 50000) ≤ cT d ∧ cT d ≤ 10000000 ∧
     (locked k = true ∨ cT d % 10 = 0))),
   ckFR d 12 (fDec 1 10) (fOfNat (if h then 25 else 6)),
   ckFR d 16 (fOfNat (if h then 25 else 6)) (fOfNat (if h then 120 else 30)),
   ckRange d 20 2 1 50, ckRange d 22 2 1 1000, ckFR d 24 (fDec 5 100) (fDec 40 100),
   ckFR d 28 fHalf (fOfNat 50), ckRange d 32 2 100 5000, ckRange d 34 2 0 2000,
   ckFR d 36 (fOfNat 6) (fOfNat 20),
   (40, fFinite (cUvOn d) && fLe (fAdd (cUvOff d) fHalf) (cUvOn d) && fLe (cUvOn d) (fOfNat 24)),
   ckRange d 44 2 10 5000, ckZero d 46 2, ckFR d 48 (fOfNat 6) (fOfNat 32),
   ckFR d 52 (fDec 1 100) (if h then fOfNat 2 else fDec 6 10), ckF d 56,
   ckF0R d 60 (fDec 1 100) (fOfNat 2)]

/-- Whether a value is a command value of a mode (Table 8.2). -/
def cmdValid (d : Bytes) (v : F32) : Bool :=
  if cMode d = 1 then fEq v f0 || fEq v f1
  else if cMode d = 3 then fLe f0 v && fLe v (cICont d)
  else fLe f0 v && fLe v f1


/-! ## Fusion (09 Tables 9.4, 9.11 to 9.14, R322) -/

def fusLen (p : Bytes) : Nat :=
  match byteAt p 0 with | 0 => 76 | 1 => 36 | 2 => 64 | _ => p.length

def ckSel (p : Bytes) (o : Nat) (none_ : Nat) (hi : Nat) : FieldChk :=
  (o, decide (byteAt p o ≤ hi ∨ byteAt p o = none_))

def egoDefault : Bytes :=
  zeros 8 ++ b1 1 ++ zeros 27 ++ leF (fDec 38 10) ++ leF (fOfNat 3) ++
    (List.range 4).flatMap fun _ => b1 0xFF ++ zeros 7
def egEnable (d : Bytes) : Bool := byteAt d 4 = 1
def egSteer (d : Bytes) : Bool := byteAt d 5 = 1
def egLoop (d : Bytes) : Nat := rd d 6 2
/-- A wheel entry: FIN input, quantity and position. -/
def egWheel (d : Bytes) (i : Nat) : Nat × Nat × Nat :=
  (byteAt d (44 + 8 * i), byteAt d (45 + 8 * i), byteAt d (46 + 8 * i))
/-- M_PER_COUNT of a wheel entry. -/
def egPerCount (d : Bytes) (i : Nat) : F32 := rdF d (48 + 8 * i)

def fusGridDefault : Bytes :=
  [1#8, 0#8, 0#8, 0#8, 0#8, 0#8] ++ le 2 20 ++ zeros 4 ++ leF (fOfNat 12) ++ b1 12 ++ zeros 3 ++
  leF (fOfNat 9) ++ leF (fDec 55 10) ++ zeros 4 ++ leF (fDec 1 10)
def fgSlot (d : Bytes) : Nat := byteAt d 4
def fgMaxRate (d : Bytes) : Nat := byteAt d 5
def fgGather (d : Bytes) : Nat := rd d 6 2
def fgCams (d : Bytes) : Nat := byteAt d 8
def fgStreams (d : Bytes) : Nat := byteAt d 9
def fgAhead (d : Bytes) : F32 := rdF d 12
def fgN (d : Bytes) : Nat := byteAt d 16
def fgHeaderW (d : Bytes) : F32 := rdF d 20
def fgCutterX (d : Bytes) : F32 := rdF d 24
def fgHeaderY (d : Bytes) : F32 := rdF d 28
def fgMinCrop (d : Bytes) : F32 := rdF d 32

def fusCamDefault (i : Nat) : Bytes := b1 2 ++ b1 i ++ zeros 62
def fusStreamDefault (i : Nat) : Bytes := b1 i ++ zeros 87
def fusHeadDefault (h : Nat) : Bytes :=
  b1 h ++ b1 (if h = 2 then 1 else 2) ++ zeros 2 ++ leF fHalf ++ le 4 400
def hpPolicy (d : Bytes) : Nat := byteAt d 1
def hpDth (d : Bytes) : F32 := rdF d 4
def hpCells (d : Bytes) : Nat := rd d 8 4

def fusChecks (p : Bytes) : List FieldChk :=
  match byteAt p 0 with
  | 0 =>
    [ckRange p 1 1 0 0, ckMask p 2 1 1, ckZero p 3 1, ckRange p 4 1 0 1, ckRange p 5 1 0 1,
     ckRange p 6 2 0 (if egSteer p then 511 else 0), ckRange p 8 1 0 1, ckZero p 9 3] ++
    ckFloats p 12 6 ++ [ckFR p 36 f1 (fOfNat 10), ckFR p 40 f1 (fOfNat 5)] ++
    (List.range 4).flatMap fun i =>
      let o := 44 + 8 * i
      let used := byteAt p o ≠ 0xFF
      [ckSel p o 0xFF 7, (o + 1, decide (byteAt p (o + 1) = 0 ∨ byteAt p (o + 1) = 2)),
       ckRange p (o + 2) 1 0 3, ckZero p (o + 3) 1,
       (o + 4, fFinite (rdF p (o + 4)) && (decide (¬ used) ||
         (fLe (fDec 1 100000) (rdF p (o + 4)) && fLe (rdF p (o + 4)) f1)))]
  | 1 =>
    [ckRange p 1 1 0 0, ckMask p 2 1 1, ckZero p 3 1, ckRange p 4 1 0 1, ckRange p 5 1 0 3,
     ckRange p 6 2 5 30, ckMask p 9 1 15, ckZero p 10 2, ckFR p 12 f0 (fOfNat 20), ckRange p 16 1 1 16,
     ckZero p 17 3, ckFR p 20 f1 (fOfNat 20), ckFR p 24 (fOfInt (-10)) (fOfNat 20),
     ckFR p 28 (fOfInt (-5)) (fOfNat 5), ckFR p 32 (fDec 1 100) (fOfNat 5)]
  | 2 => [ckRange p 1 1 0 7, ckMask p 2 1 1, ckZero p 3 1] ++ ckFloats p 4 15
  | _ => [(0, false)]

def stTransport (d : Bytes) : Nat := byteAt d 2
def stPort (d : Bytes) : Nat := byteAt d 1
def stEnc (d : Bytes) : Nat := byteAt d 3
def stDest (d : Bytes) : Nat := rd d 4 2
/-- The source MAC as a number, first byte most significant. -/
def stMac (d : Bytes) : Nat := (slice d 6 6).foldl (fun a b => a * 256 + b.toNat) 0
def stTimeOff (d : Bytes) : Nat := rd d 12 2
def stLatency (d : Bytes) : Nat := rd d 14 2
def stFirst (d : Bytes) : Nat := rd d 16 2
def stStride (d : Bytes) : Nat := rd d 18 2
def stCount (d : Bytes) : Nat := rd d 20 2
/-- A triple of binary32 values: a position, a rotation (roll, pitch, yaw) or a vector. -/
abbrev Vec3 := F32 × F32 × F32
def rdV (d : Bytes) (o : Nat) : Vec3 := (rdF d o, rdF d (o + 4), rdF d (o + 8))
def stPolar (d : Bytes) : Bool := byteAt d 22 = 1
/-- Encoding and offset of coordinate c of a point, and its scale. -/
def stCoord (d : Bytes) (c : Nat) : Nat × Nat × F32 := (byteAt d 23, byteAt d (24 + c), rdF d (28 + 4 * c))
/-- Offset, scale and encoding of a point's time. -/
def stPtTime (d : Bytes) : Nat × F32 × Nat := (byteAt d 27, rdF d 40, byteAt d 44)
def stMount (d : Bytes) : Vec3 × Vec3 := (rdV d 52, rdV d 64)
def camMount (d : Bytes) : Vec3 × Vec3 := (rdV d 4, rdV d 16)
def stMin (d : Bytes) : F32 := rdF d 76
def stMax (d : Bytes) : F32 := rdF d 80
def stDeclared (d : Bytes) : Nat := rd d 84 4

/-- A field of a point lies within its stride. -/
def inPoint (d : Bytes) (off enc : Nat) : Bool := decide (off + encSize enc ≤ stStride d)

def pointStreamChecks (p : Bytes) : List FieldChk :=
  [ckRange p 0 1 0 3, ckRange p 1 1 1 6, ckRange p 2 1 0 2, ckRange p 3 1 0 2,
   (4, decide (stTransport p ≠ 1 ∨ 1024 ≤ stDest p)), (12, decide (stEnc p ≠ 0 ∨ stTimeOff p = 0)),
   ckRange p 14 2 0 (if stEnc p = 0 then 10000 else 0), ckRange p 18 2 4 64, ckRange p 20 2 0 1024,
   ckRange p 22 1 0 1, ckRange p 23 1 0 6, (24, inPoint p (byteAt p 24) (byteAt p 23)),
   (25, inPoint p (byteAt p 25) (byteAt p 23)), (26, inPoint p (byteAt p 26) (byteAt p 23)),
   (27, decide (byteAt p 27 = 0xFF) || inPoint p (byteAt p 27) (byteAt p 44))] ++
  ckFloats p 28 4 ++
  [ckRange p 44 1 0 6, (45, decide (byteAt p 45 = 0xFF) || inPoint p (byteAt p 45) (byteAt p 46)),
   ckRange p 46 1 0 6, ckZero p 47 1] ++ ckFloats p 48 7 ++
  [ckFR p 76 f0 (fOfNat 200),
   (80, fFinite (stMax p) && fLe (stMax p) (fOfNat 200) && fLt (stMin p) (stMax p)),
   ckRange p 84 4 0 2000000]

def headPolicyChecks (p : Bytes) : List FieldChk :=
  [ckRange p 0 1 0 2, ckRange p 1 1 0 4, ckZero p 2 2, ckFR p 4 (fDec 5 100) f1,
   ckRange p 8 4 1 1048576]

def weightsChecks (p : Bytes) : List FieldChk :=
  [ckRange p 0 1 0 1, ckMask p 1 1 1, ckZero p 2 2, (8, decide (1 ≤ rd p 8 4)),
   (12, (byteAt p 1).testBit 0 || decide (rd p 12 4 = 0))]

/-- The header of a weights image (Table 9.10). -/
def weightsHeaderOk (m : Bytes) : Bool :=
  decide (32 ≤ m.length ∧ rd m 0 2 = 0x4B57 ∧ rd m 2 2 = 1 ∧ 32 ≤ rd m 8 4 ∧ rd m 8 4 ≤ 33554432 ∧
    byteAt m 12 = 0x0F ∧ rd m 13 3 = 0 ∧ rd m 22 4 < 1000000000 ∧ rd m 28 4 = 0)

/-! ## Camera pipelines (10 Tables 10.2, 10.7, R351) -/

/-- The defaults of Table 10.7, field by field: the sensor, its exposure, and the processing. -/
def pipeDefaultSensor (k : Nat) : Bytes :=
  b1 k ++ [0x2C#8, 0#8, 0#8] ++ le 2 1920 ++ le 2 1080 ++ le 4 40000000 ++ zeros 4 ++ le 2 2000 ++
  zeros 2 ++ leF f0 ++ leF (fOfNat 15) ++ [0x08#8, 2#8, 0xFF#8, 0#8] ++ zeros 24
def pipeDefaultFrame : Bytes :=
  le 2 0xFFFF ++ zeros 2 ++ le 2 0xFFFF ++ le 2 0xFFFF ++ le 2 0xFFFF ++ zeros 2 ++ leF (fOfNat 1000) ++ leF f1 ++
  le 2 0x3F ++ [0#8, 1#8] ++ le 2 256 ++ le 2 200 ++ leF f1 ++ leF f1 ++ leF f1 ++ leF f1
def pipeDefaultColour : Bytes :=
  (List.range 9).flatMap (fun i => leF (if i % 4 = 0 then f1 else f0)) ++ leF (fDec 22 10) ++ zeros 8 ++
  zeros 16 ++ le 2 1024 ++ [1#8, 0#8, 2#8] ++ zeros 3 ++ leF (fDec 1 10) ++ le 2 20 ++ le 2 2000 ++
  le 2 50 ++ zeros 2 ++ zeros 144
def pipeDefault (k : Nat) : Bytes := pipeDefaultSensor k ++ pipeDefaultFrame ++ pipeDefaultColour

def pcTriggered (d : Bytes) : Bool := byteAt d 3 = 1
def pcType (d : Bytes) : Nat := byteAt d 1
def pcW (d : Bytes) : Nat := rd d 4 2
def pcH (d : Bytes) : Nat := rd d 6 2
def pcPeriod (d : Bytes) : Nat := rd d 8 4
def pcPhase (d : Bytes) : Nat := rd d 12 4
def pcTol (d : Bytes) : Nat := rd d 16 2
def pcFsLat (d : Bytes) : F32 := rdF d 20
def pcLine (d : Bytes) : F32 := rdF d 24
def pcGpio (d : Bytes) : Nat := byteAt d 30
def pcFields (d : Bytes) : Nat := byteAt d 31
def pcIdReg (d : Bytes) : Nat := rd d 60 2
def pcIdOff (d : Bytes) : Nat := rd d 62 2
def pcSensorReg (d : Bytes) : Nat := rd d 64 2
def pcSensorId (d : Bytes) : Nat := rd d 66 2
def pcExpo (d : Bytes) : F32 := rdF d 68
def pcGain (d : Bytes) : F32 := rdF d 72
def pcStages (d : Bytes) : Nat := rd d 76 2
def pcOutputs (d : Bytes) : Nat := byteAt d 78
def pcDecim (d : Bytes) : Nat := byteAt d 166
def pcTapFmt (d : Bytes) : Nat := byteAt d 167
def pcTapDown (d : Bytes) : Nat := byteAt d 168
def pcMinBlobs (d : Bytes) : Nat := rd d 180 2

/-- Bytes of one line of the tap (R343). -/
def tapLine (d : Bytes) : Nat :=
  let w := pcW d / 2 ^ pcTapDown d
  match pcTapFmt d with
  | 0 => 3 * w
  | 1 => (3 * w + 1) / 2
  | _ => w

/-- A frame period in µs. -/
def periodUs (d : Bytes) : F32 := fDiv (fOfNat (pcPeriod d)) (fOfNat 1000)

def pipeChecks (d : Bytes) : List FieldChk :=
  [ckRange d 0 1 0 7, ckRange d 1 1 0x2B 0x2C, ckRange d 2 1 0 4, ckRange d 3 1 0 1,
   (4, decide (64 ≤ pcW d ∧ pcW d ≤ 3840 ∧ pcW d % 4 = 0)),
   (6, decide (64 ≤ pcH d ∧ pcH d ≤ 2160 ∧ pcH d % 4 = 0)), ckRange d 8 4 33333334 1000000000,
   (12, decide (if pcTriggered d then pcPhase d < pcPeriod d else pcPhase d = 0)),
   ckRange d 16 2 100 10000, ckRange d 18 2 0 (if pcType d = 0x2B then 1023 else 4095),
   ckFR d 20 (fOfInt (-10000)) (fOfNat 10000), ckFR d 24 f1 (fOfNat 1000), ckRange d 28 1 0x08 0x77,
   ckRange d 29 1 1 2, ckSel d 30 0xFF 3, ckRange d 31 1 0 6] ++
  (List.range 6).flatMap (fun i =>
    let o := 32 + 4 * i
    [ckRange d (o + 2) 1 (if i < pcFields d then 1 else 0) 4, ckZero d (o + 3) 1]) ++
  [ckFR d 68 f1 (periodUs d), ckFR d 72 f1 (fOfNat 256), ckMask d 76 2 0x3F, ckMask d 78 1 7,
   ckRange d 79 1 0 2, ckRange d 80 2 0 4095, ckRange d 82 2 1 4095] ++
  (List.range 4).map (fun i => ckFR d (84 + 4 * i) (fDec 1 4) (fOfNat 8)) ++
  (List.range 9).map (fun i => ckFR d (100 + 4 * i) (fOfInt (-8)) (fOfNat 8)) ++
  [ckFR d 136 f1 (fOfNat 3), ckFR d 140 f0 (fOfNat 4), ckFR d 144 f0 (fOfNat 4),
   ckRange d 164 2 1024 65535, ckRange d 166 1 1 30, ckRange d 167 1 0 2,
   ckRange d 168 1 0 2, ckZero d 169 3, ckFR d 172 f0 f1, ckRange d 176 2 1 65535,
   ckRange d 178 2 (max 1 (rd d 176 2)) 65535, ckRange d 180 2 1 10000, ckZero d 182 2] ++
  ckFloats d 184 36

/-- EXPOSURE_COMMIT: the checks that the applied configuration does not enter. -/
def exposureChecks (p : Bytes) : List FieldChk :=
  [ckRange p 0 1 0 7, ckZero p 1 3, ckRange p 4 4 1 0xFFFEFFFF, ckF p 8, ckFR p 12 f1 (fOfNat 256)]

def tunnelLen (p : Bytes) : Nat :=
  if 1 ≤ byteAt p 1 ∧ byteAt p 1 ≤ 3 then 8 + byteAt p 4 else 8

def tunnelChecks (p : Bytes) : List FieldChk :=
  [ckRange p 0 1 0 7, ckRange p 1 1 0 4, ckRange p 4 1 (if byteAt p 1 = 4 then 0 else 1) 32, ckZero p 5 3]

/-! ## GNSS (11 Tables 11.10, R382 to R384) -/

def gnssDefault : Bytes :=
  [0#8, 1#8, 3#8, 10#8] ++ zeros 4 ++ le 2 10000 ++ le 2 500 ++ leF (fDec 25 10) ++ leF f1 ++
  leF (fOfNat 15) ++ leF (fOfNat 25) ++ leF (fOfNat 30) ++ leF (fOfNat 6) ++ leF (fOfNat 5)

def gcMode (d : Bytes) : Nat := byteAt d 0
def gcBias (d : Bytes) : Nat := byteAt d 1
def gcPeriod (d : Bytes) : Nat := byteAt d 2
def gcDwell (d : Bytes) : Nat := byteAt d 3
def gcExclude (d : Bytes) : Nat := rd d 4 4
def gcSpan (d : Bytes) : Nat := rd d 8 2
def gcBin (d : Bytes) : Nat := rd d 10 2
def gcAcqTh (d : Bytes) : F32 := rdF d 12
def gcCn0Loss (d : Bytes) : F32 := rdF d 24
def gcFixCn0 (d : Bytes) : F32 := rdF d 28
def gcPdopMax (d : Bytes) : F32 := rdF d 32
def gcElevMask (d : Bytes) : F32 := rdF d 36

def gnssChecks (d : Bytes) : List FieldChk :=
  [ckRange d 0 1 0 1, ckRange d 1 1 0 1, ckRange d 2 1 0 3, ckRange d 3 1 1 20,
   ckRange d 8 2 1000 20000, (10, decide (rd d 10 2 = 250 ∨ rd d 10 2 = 500)),
   ckFR d 12 (fDec 15 10) (fOfNat 10), ckFR d 16 (fDec 1 10) (fOfNat 5),
   ckFR d 20 (fOfNat 5) (fOfNat 30), ckFR d 24 (fOfNat 15) (fOfNat 40),
   ckFR d 28 (fOfNat 20) (fOfNat 45), ckFR d 32 f1 (fOfNat 20), ckFR d 36 f0 (fOfNat 30)]

def notchDefault : Bytes :=
  (List.range 4).flatMap (fun _ => [1#8, 0#8, 0#8, 0#8] ++ leF f0 ++ leF (fOfNat 2000000) ++
    leF (fOfNat 20000)) ++ leF (fOfNat 15) ++ leF (fOfNat 6) ++ leF (fOfNat 15)

def nfMode (d : Bytes) (n : Nat) : Nat := byteAt d (16 * n)
def nfCentre (d : Bytes) (n : Nat) : F32 := rdF d (16 * n + 4)
def nfHalf (d : Bytes) (n : Nat) : F32 := rdF d (16 * n + 8)
def nfWidth (d : Bytes) (n : Nat) : F32 := rdF d (16 * n + 12)
def nfTh (d : Bytes) : F32 := rdF d 64
def nfWarn (d : Bytes) : F32 := rdF d 68
def nfAlarm (d : Bytes) : F32 := rdF d 72

def notchChecks (d : Bytes) : List FieldChk :=
  (List.range 4).flatMap (fun n =>
    [ckRange d (16 * n) 1 0 2, ckZero d (16 * n + 1) 3,
     ckFR d (16 * n + 4) (fOfInt (-2000000)) (fOfNat 2000000),
     ckFR d (16 * n + 8) f0 (fOfNat 2000000), ckFR d (16 * n + 12) (fOfNat 5000) (fOfNat 100000)]) ++
  [ckFR d 64 (fOfNat 6) (fOfNat 40), ckFR d 68 (fOfNat 3) (fOfNat 40),
   ckFR d 72 (rdF d 68) (fOfNat 50)]

def pipCaptureChecks (p : Bytes) : List FieldChk :=
  [ckRange p 0 1 1 32, ckMask p 1 1 3, ckZero p 2 2, ckT p 4]

def pipExportChecks (p : Bytes) : List FieldChk :=
  [ckRange p 4 1 0 3, ckZero p 5 3, (8, byteAt p 4 = 1 || rd p 8 4 = 0),
   (12, byteAt p 4 = 1 || rd p 12 2 = 0), ckZero p 14 2]

/-! ## Time domains, switch ports and gates (12 Tables 12.7, 12.9, 12.10) -/

/-- A signed field within a range. -/
def ckRangeI (p : Bytes) (o n : Nat) (lo hi : Int) : FieldChk :=
  (o, decide (lo ≤ rdI p o n ∧ rdI p o n ≤ hi))

def tdDefault (d : Nat) : Bytes :=
  b1 d ++ zeros 3 ++ b1 d ++ zeros 2 ++ [128#8] ++ zeros 4 ++ [128#8] ++ zeros 3 ++ leF (fDec 1 10) ++
  le 4 100000 ++ le 4 100000000 ++ zeros 16

def tdTrunk (d : Bytes) : Bool := byteAt d 1 = 1
def tdSource (d : Bytes) : Nat := byteAt d 2
def tdProfile (d : Bytes) : Nat := byteAt d 3
def tdNumber (d : Bytes) : Nat := byteAt d 4
def tdBackup (d : Bytes) : Bool := byteAt d 5 = 1
def tdPreset (d : Bytes) : Bool := tbit (byteAt d 6) 0
def tdPps (d : Bytes) : Bool := tbit (byteAt d 6) 1
def tdPrio1 (d : Bytes) : Nat := byteAt d 7
def tdPrio2 (d : Bytes) : Nat := byteAt d 12
def tdMask (d : Bytes) : Nat := rd d 8 2
def tdMasters (d : Bytes) : Nat := rd d 10 2
def tdBw (d : Bytes) : F32 := rdF d 16
def tdSpec (d : Bytes) : Nat := rd d 20 4
def tdPpsWidth (d : Bytes) : Nat := rd d 24 4
def tdPpsOffset (d : Bytes) : Int := rdI d 28 4
def tdPresetTime (d : Bytes) : T96 := rdT d 32

def tdChecks (d : Bytes) : List FieldChk :=
  [ckRange d 0 1 0 3, ckRange d 1 1 0 1, ckRange d 2 1 0 3, ckRange d 3 1 0 2, ckRange d 4 1 0 127,
   ckRange d 5 1 0 1, ckMask d 6 1 3, ckMask d 8 2 0x7F, ckMask d 10 2 0x7F, ckZero d 13 3,
   ckFR d 16 (fDec 1 100) (fOfNat 10), ckRange d 20 4 100 100000000,
   ckRange d 24 4 1000000 500000000, ckRangeI d 28 4 (-1000000) 1000000, ckT d 32,
   (10, tdTrunk d || tdMasters d = 0), (32, tdPreset d || rd d 32 12 = 0)]

/-- Bounds of an increment in use (R390). -/
def incLo : Nat := 0x3FEF9DB23
def incHi : Nat := 0x4010624DD

def rateChecks (p : Bytes) : List FieldChk :=
  [ckRange p 0 1 0 3, ckMask p 1 1 1, ckZero p 2 2,
   (4, if tbit (byteAt p 1) 0 then decide (rd p 4 8 = 0) else decide (incLo ≤ rd p 4 8 ∧ rd p 4 8 ≤ incHi))]

def portDefault (p : Nat) : Bytes :=
  b1 p ++ [2#8] ++ b1 (if p = 0 then 1 else if p ≤ 6 then 0 else 255) ++ [8#8] ++ le 2 1 ++ [1#8, 0#8] ++
  le 2 1 ++ zeros 6 ++ [0#8] ++ leI 1 (-3) ++ [0#8, 3#8] ++ leF f0 ++ [0#8, 128#8] ++ zeros 2

def prEnable (d : Bytes) : Bool := tbit (byteAt d 1) 1
def prStore (d : Bytes) : Bool := tbit (byteAt d 1) 0
def prRole (d : Bytes) : Nat := byteAt d 2
def prPvid (d : Bytes) : Nat := rd d 4 2
def prUntagged (d : Bytes) : Nat := byteAt d 6
def prVlan (d : Bytes) (k : Nat) : Nat := rd d (8 + 2 * k) 2
def prLogDelay (d : Bytes) : Int := rdI d 16 1
def prLogSync (d : Bytes) : Int := rdI d 17 1
def prLogAnn (d : Bytes) : Int := rdI d 18 1
def prAnnTimeout (d : Bytes) : Nat := byteAt d 19
def prAsym (d : Bytes) : F32 := rdF d 20

def portChecks (d : Bytes) : List FieldChk :=
  [ckRange d 0 1 0 8, ckMask d 1 1 3, ckRange d 2 1 0 (if byteAt d 0 ≤ 6 then 1 else 255),
   (3, if 7 ≤ byteAt d 0 ∧ byteAt d 2 = 0 then decide (2 ≤ byteAt d 3) else decide (byteAt d 3 = 0)),
   ckRange d 4 2 1 4094, ckMask d 6 1 15, ckZero d 7 1] ++
  (List.range 4).map (fun k => ckRange d (8 + 2 * k) 2 0 4094) ++
  [ckRangeI d 16 1 (-4) 5, ckRangeI d 17 1 (-7) 0, ckRangeI d 18 1 (-3) 3, ckRange d 19 1 2 10,
   ckFR d 20 (fOfInt (-10000)) (fOfNat 10000), ckZero d 26 2]

def gtEnable (d : Bytes) : Bool := tbit (byteAt d 1) 0
def gtStore (d : Bytes) : Bool := tbit (byteAt d 1) 1
def gtDomain (d : Bytes) : Nat := byteAt d 2
def gtCount (d : Bytes) : Nat := byteAt d 3
def gtCycle (d : Bytes) : Nat := rd d 4 4
def gtPhase (d : Bytes) : Nat := rd d 8 4
def gtMask (d : Bytes) (i : Nat) : Nat := byteAt d (16 + 8 * i)
def gtInterval (d : Bytes) (i : Nat) : Nat := rd d (20 + 8 * i) 4

def gateChecks (d : Bytes) : List FieldChk :=
  [ckRange d 0 1 1 6, ckMask d 1 1 3, ckRange d 2 1 0 3, ckRange d 3 1 1 64,
   ckRange d 4 4 10000 1000000000, (8, decide (gtPhase d < gtCycle d)), ckZero d 12 4] ++
  (List.range (gtCount d)).flatMap (fun i =>
    [ckZero d (17 + 8 * i) 3, ckRange d (20 + 8 * i) 4 1000 1000000000]) ++
  [(4, decide (1000000000 % gtCycle d = 0) &&
    decide (((List.range (gtCount d)).map (gtInterval d)).foldl (· + ·) 0 = gtCycle d))]

/-! ## CAN controllers (13 Tables 13.6 to 13.8) -/

def canDefault (k : Nat) : Bytes :=
  b1 k ++ zeros 3 ++ [4#8, 1#8] ++ le 2 69 ++ [10#8, 1#8, 29#8, 10#8, 10#8] ++ zeros 5 ++
  [1#8, 1#8] ++ zeros 4
def nFormats (d : Bytes) : Nat := byteAt d 1
def nFd (d : Bytes) : Bool := (byteAt d 1).testBit 0
def nXl (d : Bytes) : Bool := (byteAt d 1).testBit 1
def nIso (d : Bytes) : Bool := (byteAt d 1).testBit 2
def nWake (d : Bytes) : Bool := (byteAt d 1).testBit 3
def nMode (d : Bytes) : Nat := byteAt d 2
def nManual (d : Bytes) : Bool := byteAt d 3 = 1
def nBrp (d : Bytes) : Nat := byteAt d 4
def nSjw (d : Bytes) : Nat := byteAt d 5
def nSeg1 (d : Bytes) : Nat := rd d 6 2
def nSeg2 (d : Bytes) : Nat := byteAt d 8
def nDBrp (d : Bytes) : Nat := byteAt d 9
def nDSeg1 (d : Bytes) : Nat := byteAt d 10
def nDSeg2 (d : Bytes) : Nat := byteAt d 11
def nDSjw (d : Bytes) : Nat := byteAt d 12
def nTdc (d : Bytes) : Bool := byteAt d 13 = 1
def nBoff (d : Bytes) : Nat := rd d 16 2
/-- Quanta of a nominal and of a data bit (R434). -/
def nBits (d : Bytes) : Nat := 1 + nSeg1 d + nSeg2 d
def nDBits (d : Bytes) : Nat := 1 + nDSeg1 d + nDSeg2 d
/-- CAN-clock cycles of a nominal and of a data bit; the rate is 80 MHz divided by them. -/
def nDiv (d : Bytes) : Nat := nBrp d * nBits d
def nDDiv (d : Bytes) : Nat := nDBrp d * nDBits d

def canChecks (d : Bytes) : List FieldChk :=
  let k := byteAt d 0
  [ckRange d 0 1 0 9,
   ckMask d 1 1 (9 + bit (decide (6 ≤ k)) 1 + bit (decide (k ≤ 1)) 2), ckRange d 2 1 0 2,
   ckRange d 3 1 0 1, ckRange d 4 1 1 32, ckRange d 5 1 1 128, ckRange d 6 2 2 256,
   ckRange d 8 1 2 128, ckRange d 9 1 1 32, ckRange d 10 1 1 64, ckRange d 11 1 1 32,
   ckRange d 12 1 1 32, ckRange d 13 1 0 1, ckRange d 14 1 0 127, ckZero d 15 1,
   ckRange d 16 2 0 10000, ckRange d 18 1 1 63, ckRange d 19 1 1 63, ckRange d 20 1 0 63,
   ckZero d 21 3]

/-- The rules of R434 and R435 between the fields, checked at START. -/
def canConsistent (k : Nat) (d : Bytes) : Bool :=
  let data := nFd d || nXl d
  let most := if k ≤ 5 then 5 else if nFd d then 8 else 10
  decide (8 ≤ nBits d) && decide (nSjw d ≤ nSeg2 d) &&
  decide (nDiv d ≤ 8000) && decide (80 ≤ nDiv d) &&
  (!data || (decide (8 ≤ nDBits d) && decide (nDSjw d ≤ nDSeg2 d) && decide (nDDiv d ≤ nDiv d) &&
    decide (80 ≤ most * nDDiv d) && (!nTdc d || decide (nDBrp d ≤ 2)))) &&
  (!nIso d || (decide (nDiv d = 320) && !data))

def flEnabled (d : Bytes) : Bool := byteAt d 9 ≠ 0
def flId (d : Bytes) : Nat := rd d 0 4
def flMask (d : Bytes) : Nat := rd d 4 4
def flTypes (d : Bytes) : Nat := byteAt d 8
def flDest (d : Bytes) : Nat := byteAt d 9
def flAf (d : Bytes) : Nat := rd d 12 4
def flAfMask (d : Bytes) : Nat := rd d 16 4

def canFilterChecks (p : Bytes) : List FieldChk :=
  [ckRange p 0 1 0 9, ckRange p 1 1 0 63,
   (2, decide (1 ≤ byteAt p 2 ∧ byteAt p 1 + byteAt p 2 ≤ 64)), ckZero p 3 1] ++
  (List.range (byteAt p 2)).flatMap fun i =>
    let o := 4 + 20 * i
    let xl := (byteAt p (o + 8)).testBit 3
    [ckMask p o 4 0x3FFFFFFF, ckMask p (o + 4) 4 0x1FFFFFFF, ckMask p (o + 8) 1 15,
     ckRange p (o + 9) 1 0 3, ckZero p (o + 10) 2, (o + 12, xl || decide (rd p (o + 12) 4 = 0)),
     (o + 16, xl || decide (rd p (o + 16) 4 = 0))]

/-- Lengths a frame type admits (R455). -/
def canLenOk (typ n : Nat) : Bool :=
  match typ with
  | 0 => decide (n ≤ 8)
  | 1 => decide (n ≤ 8) || [12, 16, 20, 24, 32, 48, 64].contains n
  | _ => decide (1 ≤ n ∧ n ≤ 2048)

def canTxChecks (p : Bytes) : List FieldChk :=
  let typ := byteAt p 2
  let xl := typ = 2
  [ckRange p 0 1 0 9, ckMask p 1 1 31, ckRange p 2 1 0 2, ckZero p 3 1,
   (4, decide (rd p 4 4 < 2 ^ 30 ∧ (if xl then rd p 4 4 ≤ 0x7FF else idOk (rd p 4 4) = true))),
   ckRange p 12 2 0 10000, (14, canLenOk typ (rd p 14 2)), (16, decide (xl ∨ byteAt p 16 = 0)),
   (17, decide (xl ∨ byteAt p 17 = 0)), ckZero p 18 2, (20, decide (xl ∨ rd p 20 4 = 0)),
   (1, !(byteAt p 1).testBit 3 || decide (typ = 1)), (1, !(byteAt p 1).testBit 4 || decide (typ = 0))]

def canClaimChecks (p : Bytes) : List FieldChk :=
  [ckRange p 0 1 0 1, ckRange p 1 1 0 253, ckRange p 3 1 (byteAt p 2) 255,
   ckZero p 4 4]
def clPref (d : Bytes) : Nat := byteAt d 1
def clLow (d : Bytes) : Nat := byteAt d 2
def clHigh (d : Bytes) : Nat := byteAt d 3
def clName (d : Bytes) : Nat := rd d 8 8

/-! ## Service panel (16 Table 16.5, R544) -/

def panelDefault : Bytes :=
  [1#8, 0#8, 0#8, 0#8] ++ leF (fOfNat 10000) ++ leF (fOfNat 3435) ++ leF (fOfInt (-10)) ++ leF (fOfNat 10) ++
  leF (fOfNat 40) ++ leF (fOfNat 2) ++
  [40, 20, 10, 20, 10, 5, 10, 5, 5, 6, 3, 4].flatMap (fun n => le 2 n) ++ leF (fOfNat 500) ++ zeros 44

def pnOverlay (d : Bytes) : Bool := tbit (byteAt d 0) 0
def pnNom (d : Bytes) : F32 := rdF d 4
def pnBeta (d : Bytes) : F32 := rdF d 8
def pnT (d : Bytes) (i : Nat) : F32 := rdF d (12 + 4 * i)
def pnHyst (d : Bytes) : F32 := rdF d 24
def pnTr (d : Bytes) (b : Nat) : Nat := rd d (28 + 6 * b) 2
def pnTs (d : Bytes) (b : Nat) : Nat := rd d (30 + 6 * b) 2
def pnTx (d : Bytes) (b : Nat) : Nat := rd d (32 + 6 * b) 2
def pnBookMax (d : Bytes) : F32 := rdF d 52
/-- Common and segment of cell n of the digit map. -/
def pnDigit (d : Bytes) (n : Nat) : Nat × Nat := (byteAt d (56 + 2 * n), byteAt d (57 + 2 * n))

def panelChecks (d : Bytes) : List FieldChk :=
  [ckMask d 0 1 1, ckZero d 1 3, ckFR d 4 (fOfNat 1000) (fOfNat 100000), ckFR d 8 (fOfNat 2000) (fOfNat 5000)] ++
  (List.range 3).map (fun i => ckFR d (12 + 4 * i) (fOfInt (-40)) (fOfNat 85)) ++
  [ckFR d 24 fHalf (fOfNat 10)] ++
  (List.range 4).flatMap (fun b =>
    [ckRange d (28 + 6 * b) 2 1 100, ckRange d (30 + 6 * b) 2 1 50, ckRange d (32 + 6 * b) 2 0 50]) ++
  [ckFR d 52 (fOfNat 10) (fOfNat 10000)] ++
  (List.range 21).flatMap (fun n => [ckRange d (56 + 2 * n) 1 0 15, ckRange d (57 + 2 * n) 1 0 47]) ++
  [ckZero d 98 2, (16, fLt (pnT d 0) (pnT d 1)), (20, fLt (pnT d 1) (pnT d 2))]

def panelFrameChecks (p : Bytes) : List FieldChk := [ckRange p 0 1 0 1, ckMask p 1 1 1, ckZero p 2 2]

def panelStatusChecks (p : Bytes) : List FieldChk :=
  [(0, decide (byteAt p 0 ≤ 15 ∨ byteAt p 0 = 0xFF)), ckZero p 1 3]
end Sys2Proof.Machine
end

