-- ==== Sys2Proof/Machine/Ops.lean ====
section
/-! DEFINITION. The named operations on the state: time, memory, function records,
configurations, and the entries of the tables of each block. -/

namespace Sys2Proof.Machine

/-! Durations in monotonic ticks of 4 ns (00 R11). -/
def usT (n : Nat) : Nat := 250 * n
def msT (n : Nat) : Nat := 250000 * n
def secT (n : Nat) : Nat := 250000000 * n

/-! ## Function identifiers (01 R28, Table 1.8) -/
def gFid (g : Nat) : Nat := 0x0300 + g
def plannerFid : Nat := 0x0600
def guidFid : Nat := 0x0601
def chFid (k : Nat) : Nat := 0x0700 + k
def fusFid : Nat := 0x0800
def pipeFid (k : Nat) : Nat := 0x0900 + k
def gnssFid : Nat := 0x0A00
def tdFid (d : Nat) : Nat := 0x0B00 + d
def canFid (k : Nat) : Nat := 0x0C00 + k
def panelFid : Nat := 0x0E00

/-- The instances a class of Table 1.8 has. -/
def instances : Nat → Nat
  | 0x03 => 64 | 0x06 => 2 | 0x07 => 24 | 0x08 => 1 | 0x09 => 8 | 0x0A => 1 | 0x0B => 4
  | 0x0C => 10 | 0x0E => 1 | _ => 0

/-- An identifier names a function (R28, 03 R99). -/
def isFid (f : Nat) : Bool := decide (f % 256 < instances (f / 256))

/-- Every function, in ascending identifier order. -/
def allFids : List Nat :=
  [0x03, 0x06, 0x07, 0x08, 0x09, 0x0A, 0x0B, 0x0C, 0x0E].flatMap
    fun c => (List.range (instances c)).map (c * 256 + ·)

/-! ## Entries of the tables -/
def State.fn (s : State) (f : Nat) : Fn := tget {} s.fns f
def State.setFn (s : State) (f : Nat) (v : Fn) : State := { s with fns := tput s.fns f v }
def State.st (s : State) (f : Nat) : FnState := (s.fn f).st

def State.pair (s : State) (i : Nat) : Pair := tget {} s.pairs i
def State.setPair (s : State) (i : Nat) (v : Pair) : State := { s with pairs := tput s.pairs i v }

def State.src (s : State) (n : Nat) : Src := tget {} s.fcr.src n
def State.setSrc (s : State) (n : Nat) (v : Src) : State :=
  { s with fcr := { s.fcr with src := tput s.fcr.src n v } }

def State.loop (s : State) (n : Nat) : Loop := tget {} s.cle.loops n
def State.setLoop (s : State) (n : Nat) (v : Loop) : State :=
  { s with cle := { s.cle with loops := tput s.cle.loops n v } }
def State.grp (s : State) (g : Nat) : Grp := tget {} s.cle.groups g
def State.setGrp (s : State) (g : Nat) (v : Grp) : State :=
  { s with cle := { s.cle with groups := tput s.cle.groups g v } }
def State.slot (s : State) (i : Nat) : Slot := tget {} s.cle.slots i
def State.setSlot (s : State) (i : Nat) (v : Slot) : State :=
  { s with cle := { s.cle with slots := tput s.cle.slots i v } }

def State.chan (s : State) (k : Nat) : Chan := tget {} s.lsw.chans k
def State.setChan (s : State) (k : Nat) (v : Chan) : State :=
  { s with lsw := { s.lsw with chans := tput s.lsw.chans k v } }
def State.die (s : State) (d : Nat) : Die := tget {} s.lsw.dies d
def State.setDie (s : State) (d : Nat) (v : Die) : State :=
  { s with lsw := { s.lsw with dies := tput s.lsw.dies d v } }
def State.stud (s : State) (v : Nat) : Stud := tget {} s.lsw.studs v
def State.setStud (s : State) (v : Nat) (x : Stud) : State :=
  { s with lsw := { s.lsw with studs := tput s.lsw.studs v x } }

def State.dom (s : State) (d : Nat) : Domain := tget {} s.tsu.doms d
def State.setDom (s : State) (d : Nat) (v : Domain) : State :=
  { s with tsu := { s.tsu with doms := tput s.tsu.doms d v } }
def State.port (s : State) (p : Nat) : Port := tget {} s.eth.ports p
def State.setPort (s : State) (p : Nat) (v : Port) : State :=
  { s with eth := { s.eth with ports := tput s.eth.ports p v } }

def State.can1 (s : State) (k : Nat) : Can := tget {} s.can.ctl k
def State.setCan (s : State) (k : Nat) (v : Can) : State :=
  { s with can := { s.can with ctl := tput s.can.ctl k v } }

/-- The active perturbation of a kind and target, with its slot (18 R574). -/
def perturb (s : State) (kind target : Nat) : Option (Nat × TSlot) :=
  s.tst.slots.find? fun e => e.2.kind = kind && e.2.target = target

/-- One more frame meets a perturbation that acts on every Nth: whether it acts on this one. -/
def everyNth (s : State) (kind target n : Nat) : Bool × State :=
  match perturb s kind target with
  | none => (false, s)
  | some (i, p) =>
    let s := { s with tst := { s.tst with slots := tput s.tst.slots i { p with seen := p.seen + 1 } } }
    (n ≠ 0 && (p.seen + 1) % n = 0, s)

/-- What a perturbation of kind 5 adds to the time-stamps of a source, in ns (18 R575). -/
def stampShift (s : State) (target : Nat) : Int :=
  match perturb s 5 target with
  | none => 0
  | some (_, p) => if p.mag < 2 ^ 31 then p.mag else (p.mag : Int) - 2 ^ 32
/-- A time moved by a number of ns. -/
def T96.shift (t : T96) (ns : Int) : T96 := T96.ofSub ((T96.toSub t : Int) + ns * 65536).toNat

/-! ## Configurations (01 R29) -/
/-- The reset values of a configuration object. -/
def defCfg : Obj → Bytes
  | .loop n => loopDefault n
  | .group g => groupDefault g
  | .chan k => chanDefault k
  | .planFeed => planFeedDefault
  | .planMv i => planMvDefault i
  | .planCv j => planCvDefault j
  | .planMap p => planMapDefault p
  | .planObj => planObjDefault
  | .guidance => guidDefault
  | .pose => poseDefault
  | .fusGrid => fusGridDefault
  | .fusCam i => fusCamDefault i
  | .fusStream i => fusStreamDefault i
  | .fusHead h => fusHeadDefault h
  | .pipe k => pipeDefault k
  | .gnss => gnssDefault
  | .panel => panelDefault
  | .td d => tdDefault d
  | .notch _ => notchDefault
  | .can k => canDefault k
  | .canFilter _ _ => zeros 20
  | .canClaim k => b1 k ++ zeros 15
  | _ => []

/-- The staged bytes of an object; its reset values where nothing is listed. -/
def State.stg (s : State) (o : Obj) : Bytes := tget (defCfg o) s.staged o
/-- The applied bytes, and whether there are any. -/
def State.app (s : State) (o : Obj) : Bytes := tget (defCfg o) s.applied o
def State.appOpt (s : State) (o : Obj) : Option Bytes := tfind s.applied o
def State.setStg (s : State) (o : Obj) (b : Bytes) : State := { s with staged := tput s.staged o b }
def State.setApp (s : State) (o : Obj) (b : Bytes) : State := { s with applied := tput s.applied o b }

/-- The function an object configures; a loop's is the group its descriptor names. -/
def objFid : Obj → Bytes → Option Nat
  | .loop _, d => if dGroup d ≤ 63 then some (gFid (dGroup d)) else none
  | .group g, _ => some (gFid g)
  | .chan k, _ => some (chFid k)
  | .planFeed, _ | .planMv _, _ | .planCv _, _ | .planMap _, _ | .planObj, _ => some plannerFid
  | .guidance, _ | .pose, _ => some guidFid
  | .fusGrid, _ | .fusCam _, _ | .fusStream _, _ | .fusHead _, _ => some fusFid
  | .pipe k, _ | .pipeStart k, _ | .pipeStop k, _ => some (pipeFid k)
  | .gnss, _ | .notch _, _ => some gnssFid
  | .td d, _ => some (tdFid d)
  | .can k, _ | .canFilter k _, _ | .canClaim k, _ => some (canFid k)
  | .panel, _ => some panelFid

/-- The entries of a table of configurations that belong to a function. -/
def ownCfg (t : Tbl Obj Bytes) (f : Nat) : Tbl Obj Bytes := t.filter fun e => objFid e.1 e.2 = some f
def otherCfg (t : Tbl Obj Bytes) (f : Nat) : Tbl Obj Bytes := t.filter fun e => objFid e.1 e.2 ≠ some f
/-- A function's entries of one table replaced by its entries of another. -/
def copyCfg (src dst : Tbl Obj Bytes) (f : Nat) : Tbl Obj Bytes :=
  (ownCfg src f).foldl (fun t e => tput t e.1 e.2) (otherCfg dst f)

/-- Insert into an ascending list. -/
def insertNat (n : Nat) : List Nat → List Nat
  | [] => [n]
  | m :: r => if n ≤ m then n :: m :: r else m :: insertNat n r
def sortNat (l : List Nat) : List Nat := l.foldr insertNat []

/-- The loops of a group in a table of configurations, ascending. -/
def loopsOf (t : Tbl Obj Bytes) (g : Nat) : List Nat :=
  sortNat ((ownCfg t (gFid g)).filterMap fun e => match e.1 with | .loop n => some n | _ => none)

/-! ## Time -/
/-- The time of a domain's clock (12 R392). -/
def Domain.time (x : Domain) : T96 := { sec := x.sec, ns := x.ns, sub := x.frac / 65536 }
/-- TIME96 of a domain now. -/
def State.td (s : State) (d : Nat) : T96 := (s.dom d).time
/-- TIME96 on TD0 now. -/
def State.now (s : State) : T96 := s.td 0
/-- A domain's time in whole nanoseconds. -/
def State.tdNs (s : State) (d : Nat) : Nat := T96.toNs (s.td d)

/-- A clock's nanoseconds and their fraction in units of 2^-32 ns. -/
def Domain.fine (x : Domain) : Nat := (x.sec * 1000000000 + x.ns) * 2 ^ 32 + x.frac
/-- Set a clock from units of 2^-32 ns. -/
def Domain.setFine (x : Domain) (v : Nat) : Domain :=
  { x with sec := v / 2 ^ 32 / 1000000000, ns := v / 2 ^ 32 % 1000000000, frac := v % 2 ^ 32 }

/-- Draw a free value: the counter that names it, and the state with the counter advanced. -/
def State.draw (s : State) : Nat × State := (s.nonce, { s with nonce := s.nonce + 1 })

/-- The bytes in force a millisecond ago: the present ones, but for the changes made since, newest first (07 R223, 09
R322). -/
def governing (now : Nat) (cur : Bytes) : List (Nat × Bytes) → Bytes
  | [] => cur
  | (t, old) :: r => if t + msT 1 ≤ now then cur else governing now old r

/-- A change is added to the latest ones; those a millisecond old are forgotten. -/
def changed (now : Nat) (old : Bytes) (l : List (Nat × Bytes)) : List (Nat × Bytes) :=
  (now, old) :: l.takeWhile fun e => decide (now < e.1 + msT 1)

/-- A domain time in ns stands at an instant of the grid of a phase and period; a clock tick is
4 ns (R107). -/
def atGrid (ns ph p : Nat) : Bool := decide ((ns + 1000000000 - ph) % p < 8)

/-- Whether a deadline that began at `t` and lasts `d` ticks has come. -/
def State.past (s : State) (t d : Nat) : Bool := decide (t + d ≤ s.mono)

/-- The firmware runs: event 8 of Table 1.12 has come. -/
def fwRuns (s : State) : Bool := decide (8 ≤ s.boot.phase)

/-! ## Memory (01 R22) -/

/-- The regions of Table 1.4: base, end, and whether the region is plain memory (0), read-only
memory (1), NOR (2), MRAM (3) or a block's register window (4). -/
def regions : List (Nat × Nat × Nat) :=
  [(0x000000000000, 0x00000003FFFF, 1), (0x000010000000, 0x000012FFFFFF, 0)] ++
  (List.range 14).map (fun i => (0x40000000 + i * 0x100000, 0x400FFFFF + i * 0x100000, 4)) ++
  [(0x000060000000, 0x000060FFFFFF, 3), (0x000080000000, 0x00009FFFFFFF, 2),
   (0x000100000000, 0x0004FFFFFFFF, 0)]

/-- The kind of the region that holds a whole range, if one does. -/
def regionOf (a n : Nat) : Option Nat :=
  (regions.find? fun r => decide (r.1 ≤ a ∧ a + n ≤ r.2.1 + 1)).map (·.2.2)

/-- What an unlisted address reads as: boot ROM and loader region as shipped, erased NOR as
0xFF, everything else 0. Log entries 3 and 20. -/
def memDefault (a : Nat) : Byte :=
  if a < 0x40000 then Config.romByte a
  else if 0x80000000 ≤ a ∧ a < 0x81000000 then Config.romByte a
  else if 0x81000000 ≤ a ∧ a < 0xA0000000 then 0xFF#8
  else 0#8

/-- Read one byte of memory. -/
def memGet (m : List Host.Cell) (a : Nat) : Byte :=
  match m with
  | [] => memDefault a
  | (a', b) :: r => if a' = a then b else memGet r a

/-- Write one byte, keeping addresses strictly rising and no entry equal to what an unlisted
address reads as. -/
def memPut (m : List Host.Cell) (a : Nat) (b : Byte) : List Host.Cell :=
  match m with
  | [] => if b = memDefault a then [] else [(a, b)]
  | (a', b') :: r =>
    if a < a' then (if b = memDefault a then (a', b') :: r else (a, b) :: (a', b') :: r)
    else if a = a' then (if b = memDefault a then r else (a, b) :: r)
    else (a', b') :: memPut r a b

/-- The canonical form of a memory above a lower bound. -/
def memWfFrom (lo : Nat) : List Host.Cell → Bool
  | [] => true
  | (a, b) :: r => decide (lo ≤ a) && decide (b ≠ memDefault a) && memWfFrom (a + 1) r

/-- The canonical form: addresses strictly rising, no entry equal to its unlisted value. -/
def Memory.wf (m : List Host.Cell) : Bool := memWfFrom 0 m

/-- Read and write strings of bytes. -/
def memRead (m : List Host.Cell) (a : Nat) : Nat → Bytes
  | 0 => []
  | n + 1 => memGet m a :: memRead m (a + 1) n

def memWrite (m : List Host.Cell) (a : Nat) : Bytes → List Host.Cell
  | [] => m
  | b :: r => memWrite (memPut m a b) (a + 1) r

/-- Forget the bytes of a range (a reset that loses them). -/
def memLose (m : List Host.Cell) (lo hi : Nat) : List Host.Cell :=
  m.filter fun c => decide (c.1 < lo ∨ hi < c.1)

end Sys2Proof.Machine
end

