-- ==== Sys2Proof/Machine/Streams.lean ====
section
/-! DEFINITION. Baline streams and events (03 R93 to R96), the service log (R100), the fault log
(14 R475, R476), closing a session (R88), and ISO-TP transmission on CAN2 (R75). -/

namespace Sys2Proof.Machine

/-- Queue depths by stream type (Table 3.8). -/
def streamDepth : Nat → Nat
  | 0xF001 => 256 | 0xF002 => 128 | 0xF003 => 64 | 0xF004 => 64 | 0xF005 => 32 | 0xF006 => 64
  | 0xF007 => 32 | 0xF008 => 16 | _ => 0

def sEvents : Nat := 0xF001
def sFaults : Nat := 0xF002
def sYield : Nat := 0xF003
def sCamera : Nat := 0xF004
def sFusion : Nat := 0xF005
def sWords : Nat := 0xF006
def sObs : Nat := 0xF007
def sPips : Nat := 0xF008

/-- Drop the oldest record that is not fault-related, if there is one. -/
def dropPlain : List Rec → Option (List Rec)
  | [] => none
  | r :: t => if r.fault then (dropPlain t).map (r :: ·) else some t

/-- Queue one record (R95). -/
def Stream.push (q : Stream) (r : Rec) : Stream :=
  if r.fault && !q.wait.isEmpty then { q with wait := q.wait ++ [r] }
  else if q.queue.length < streamDepth q.typ then { q with queue := q.queue ++ [r] }
  else match dropPlain q.queue with
    | some t => { q with queue := t ++ [r], dropped := satN 4 (q.dropped + 1) }
    | none =>
      if r.fault then { q with wait := q.wait ++ [r] }
      else { q with dropped := satN 4 (q.dropped + 1) }

/-- Queue one record on every session's stream of a type; the record may depend on the session. -/
def pushAll (s : State) (typ : Nat) (mk : Session → Rec) : State :=
  { s with net := { s.net with sessions := s.net.sessions.map fun x =>
      { x with streams := x.streams.map fun q => if q.typ = typ then q.push (mk x) else q } } }

/-- Bytes an entry of the service log takes (Table 14.12). -/
def LogE.size (e : LogE) : Nat := 24 + e.body.length

/-- Keep the newest waiting entries that fit in 1 MiB, counting those dropped (R100). -/
def swaitTrim : Nat → List LogE → List LogE
  | _, [] => []
  | n, e :: r => if e.size ≤ n then e :: swaitTrim (n - e.size) r else []

/-- An entry of the service log waits in SRAM (R100). -/
def slogAdd (s : State) (kind : Nat) (body : Bytes) : State :=
  let all := { time := s.now, num := 0, kind := kind, lost := 0, body := body } :: s.net.swait
  let kept := swaitTrim 1048576 all
  { s with net := { s.net with
      swait := kept
      slogLost := satN 4 (s.net.slogLost + (all.length - kept.length)) } }

/-- The event body of Table 3.9. -/
def evBody (code func flags seq : Nat) (data : Bytes) : Bytes :=
  le 2 code ++ le 2 func ++ b1 flags ++ b1 0 ++ le 2 seq ++ data

/-- An event queued to every subscribed session, and waiting for the service log; the flag and
sequence of its cause stand only in the causing session's copy (R96). -/
def emitTo (s : State) (cause : Option (Nat × Nat)) (fault : Bool) (pos : Option Nat)
    (code func : Nat) (data : Bytes) : State :=
  let f := bit fault 1
  let s := slogAdd s 0 (evBody code func f 0 data)
  pushAll s sEvents fun x =>
    let b := match cause with
      | some (n, q) => if n = x.num then evBody code func (f + 1) q data else evBody code func f 0 data
      | none => evBody code func f 0 data
    { time := s.now, fault := fault, pos := pos, body := b }

/-- An event that is not fault-related, caused by the command being executed, if any. -/
def emit (s : State) (code func : Nat) (data : Bytes) : State :=
  emitTo s s.cur false none code func data

/-- OWNER_CHANGED (R91). -/
def emitOwner (s : State) (n : Nat) : State := emit s 0x0105 0xFFFF (le 2 n ++ zeros 2)

/-- Release the token if a session holds it (R88, R91). -/
def releaseToken (s : State) (n : Nat) : State :=
  if s.net.token = some n then emitOwner { s with net := { s.net with token := none } } 0 else s

/-- The service-log entry of a closing (R100, 14 Table 14.12). -/
def logClosing (s : State) (x : Session) (cause : Nat) : State :=
  slogAdd s 3 (le 2 x.num ++ b1 cause ++ b1 0 ++ fitBytes 16 x.name)

/-- The stream records of a session that wait, or are under way, as ISO-TP messages end with it. -/
def Session.dropTx (x : Session) (l : List IsoTx) : List IsoTx :=
  if x.ep = .can2 then l.filter fun t => decide (t.id ≠ 0x7A2) else l

/-- Close a session: its queues are discarded, the closing is logged and reported, the token is
released (R88, R100). -/
def closeSession (s : State) (n cause : Nat) : State :=
  match s.net.sessions.find? (fun x => x.num = n) with
  | none => s
  | some x =>
    let s := { s with net := { s.net with
      sessions := s.net.sessions.filter fun y => y.num ≠ n
      isoTx := x.dropTx s.net.isoTx } }
    let s := logClosing s { x with num := n } cause
    let s := emit s 0x0104 0xFFFF (le 2 n ++ b1 cause ++ b1 0)
    releaseToken s n

/-- Whether a session still waits for an entry below a place in the fault log (14 R476). -/
def Session.waitsBelow (x : Session) (lim : Nat) : Bool :=
  x.streams.any fun q => (q.queue ++ q.wait).any fun r =>
    match r.pos with | some p => decide (p < lim) | none => false

/-- Size of the fault log, and what one entry takes of it (14 R475; log entry 21). -/
def flogSize : Nat := 4194304
def flogEntry (body : Bytes) : Nat := 32 + body.length

/-- Write an entry to the fault log, closing every session that has not yet received an entry
that it overwrites (R475, R476); the entry's place is its answer. -/
def flogAdd (s : State) (time : T96) (num : Option Nat) (body : Bytes) : Nat × State :=
  let pos := s.fcr.flogPos
  let stop := pos + flogEntry body
  let lim := stop - flogSize
  let late := (s.net.sessions.filter (Session.waitsBelow · lim)).map (·.num)
  let s := late.foldl (fun s n => closeSession s n 2) s
  (pos, { s with fcr := { s.fcr with
    flogPos := stop
    flog := { pos := pos, time := time, num := num, body := body } ::
      s.fcr.flog.filter fun e => decide (lim ≤ e.pos) } })

/-- A fault-related event: written to the fault log before it is sent (R475). -/
def emitFault (s : State) (code func : Nat) (data : Bytes) : State :=
  let (pos, s) := flogAdd s s.now none (evBody code func 2 0 data)
  emitTo s s.cur true (some pos) code func data

/-- Waiting fault-related records enter a session's queues while there is room (R95). -/
def Stream.refill (q : Stream) : Stream :=
  let n := streamDepth q.typ - q.queue.length
  { q with queue := q.queue ++ q.wait.take n, wait := q.wait.drop n }

/-! ## ISO-TP on CAN2 (R75) -/

/-- Full data length of a frame in the format CAN2's configuration selects. -/
def isoLen (s : State) : Nat := if (byteAt (s.app (.can 2)) 1).testBit 0 then 64 else 8

/-- A frame padded to its full data length with 0xCC. -/
def isoPad (n : Nat) (d : Bytes) : Bytes := d ++ List.replicate (n - d.length) 0xCC#8

/-- A frame with an 11-bit identifier in the format that CAN2's configuration selects. -/
def isoCan (s : State) (id : Nat) (d : Bytes) : CanFrame :=
  { id := id, ide := false, fmt := if isoLen s = 64 then 1 else 0, remote := false, brs := false, esi := false
    sdu := 0, vcid := 0, af := 0, data := isoPad (isoLen s) d }

/-- An ISO-TP frame enters CAN2's firmware buffers (13 R441). -/
def isoSend (s : State) (id : Nat) (d : Bytes) : State :=
  s.setCan 2 { s.can1 2 with fw := (s.can1 2).fw ++ [isoCan s id d] }

/-- No ISO-TP frame waits for CAN2's bus or is on it. -/
def isoIdle (s : State) : Bool :=
  (s.can1 2).fw.all (fun f => f.ide || decide (f.id / 4 ≠ 0x1E8)) &&
    (match (s.can1 2).att with | some (.fw, f) => f.ide || decide (f.id / 4 ≠ 0x1E8) | _ => true)

/-- Begin a message: a single frame if it fits, otherwise its first frame, and wait for flow
control. -/
def isoBegin (s : State) (id : Nat) (m : Bytes) : State × Option IsoTx :=
  let n := isoLen s
  if n = 8 ∧ m.length ≤ 7 then (isoSend s id (b1 m.length ++ m), none)
  else if n = 64 ∧ m.length ≤ 62 then (isoSend s id (b1 0 ++ b1 m.length ++ m), none)
  else
    let k := n - 2
    (isoSend s id (b1 (0x10 + m.length / 256) ++ b1 (m.length % 256) ++ m.take k),
      some { id := id, rest := m.drop k, begun := true, waiting := true, since := s.mono })

/-- What a message waits for: an earlier one with its identifier, and for a stream record any reply
(R84). -/
def isoBehind (id : Nat) (t : IsoTx) : Bool := decide (t.id = id ∨ (id = 0x7A2 ∧ t.id = 0x7A1))

/-- A message for CAN2: sent at once unless it has to wait. -/
def isoQueue (s : State) (id : Nat) (m : Bytes) : State :=
  if s.net.isoTx.any (isoBehind id) then
    { s with net := { s.net with isoTx := s.net.isoTx ++ [{ id := id, rest := m }] } }
  else
    match isoBegin s id m with
    | (s, some t) => { s with net := { s.net with isoTx := s.net.isoTx ++ [t] } }
    | (s, none) => s

/-- A packet leaves to an endpoint. -/
def sendPacket (s : State) (ep : Endpoint) (k : Packet) : State :=
  let s := { s with sent := .packet ep k :: s.sent }
  match ep with
  | .udp _ _ => s
  | .can2 => isoQueue s (if k.flags.testBit 1 then 0x7A2 else 0x7A1) k.bytes

/-- The next message of an identifier begins once the one before it has ended. -/
def isoNext (s : State) (id : Nat) : State :=
  match s.net.isoTx.find? (fun t => t.id = id) with
  | none => s
  | some t =>
    if t.begun || (id = 0x7A2 && s.net.isoTx.any fun u => u.id = 0x7A1) then s
    else
      let rest := s.net.isoTx.eraseIdx (s.net.isoTx.findIdx (fun x => x.id = id))
      match isoBegin s id t.rest with
      | (s, some u) => { s with net := { s.net with isoTx := u :: rest } }
      | (s, none) => { s with net := { s.net with isoTx := rest } }

/-- A message that has been sent whole, or given up, leaves the list; the next one of its identifier
begins, and a stream record once no reply is left. -/
def isoEnd (s : State) (id : Nat) : State :=
  isoNext (isoNext { s with net := { s.net with
    isoTx := s.net.isoTx.eraseIdx (s.net.isoTx.findIdx (fun x => x.id = id)) } } id) 0x7A2

def isoPut (s : State) (t : IsoTx) : State :=
  { s with net := { s.net with isoTx := s.net.isoTx.map fun x => if x.id = t.id ∧ x.begun then t else x } }

/-- One consecutive frame of a message, when it is due and CAN2 has sent those before it. -/
def isoFrame (s : State) (t : IsoTx) : State :=
  if t.begun ∧ ¬ t.waiting ∧ t.due ≤ s.mono ∧ isoIdle s = true then
    let k := isoLen s - 1
    let s := isoSend s t.id (b1 (0x20 + t.next % 16) ++ t.rest.take k)
    let t := { t with
      rest := t.rest.drop k, next := t.next + 1, due := s.mono + t.gap, left := t.left.map (· - 1) }
    if t.rest.isEmpty then isoEnd s t.id
    else if t.left = some 0 then isoPut s { t with waiting := true, since := s.mono }
    else isoPut s t
  else s

/-- Every message under way sends its next frame when it is due. -/
def isoTick (s : State) : State := s.net.isoTx.foldl isoFrame s

/-! ## What a tick sends -/

/-- The record at the front of a queue becomes a packet (R93, Table 3.7). Only records that are sent take a
sequence number; a dropped one takes none, since the dropped field counts it. A record larger than the session's
largest packet (only CAN2 sessions have such) is never sent (R74): it is dropped and counted as the others are,
a fault-related one too. Both are the model's choice (DESIGN CHOICE, log entry 56). -/
def Stream.pop (x : Session) (q : Stream) : Stream × Option Packet :=
  match q.queue with
  | [] => (q, none)
  | r :: t =>
    if x.maxPkt < 32 + r.body.length then ({ q with queue := t, dropped := satN 4 (q.dropped + 1) }, none)
    else
      ({ q with queue := t, seq := (q.seq + 1) % 65536, dropped := 0 },
        some { flags := 3, session := x.num, seq := q.seq, opcode := q.typ,
               params := leT r.time ++ le 4 q.dropped ++ r.body })

/-- The first stream that holds a record pops it. -/
def popFirst (x : Session) : List Stream → List Stream × Option Packet
  | [] => ([], none)
  | q :: l =>
    if q.queue.isEmpty then (q :: (popFirst x l).1, (popFirst x l).2)
    else ((q.pop x).1 :: l, (q.pop x).2)

/-- What a session sends: one record of each stream; on CAN2 one record, and that only once the bus has
taken every message before it (`idle`), so that its queues fill as R95 has them. -/
def drainSession (idle : Bool) (x : Session) : Session × List Packet :=
  match x.ep with
  | .udp _ _ =>
    let r := x.streams.map (Stream.pop x)
    ({ x with streams := r.map (·.1) }, r.filterMap (·.2))
  | .can2 =>
    if idle then
      let r := popFirst x x.streams
      ({ x with streams := r.1 }, r.2.toList)
    else (x, [])

/-- Every session sends what it may. -/
def drainStreams (s : State) : State :=
  let r := s.net.sessions.map (drainSession (s.net.isoTx.isEmpty && isoIdle s))
  let s' := { s with net := { s.net with sessions := r.map (·.1) } }
  r.foldl (fun s y => y.2.foldl (fun s k => sendPacket s y.1.ep k) s) s'

end Sys2Proof.Machine
end

