-- ==== Sys2Proof/Machine/Life.lean ====
section
/-! DEFINITION. The function lifecycle (01 R28 to R34): state changes, configuration opcodes,
START and STOP as far as they are common to every function. -/

namespace Sys2Proof.Machine

/-! Status codes (03 Table 3.6). -/
def stOk : Nat := 0x00
def stDeferred : Nat := 0x01
def stBadOpcode : Nat := 0x10
def stBadLength : Nat := 0x11
def stBadParam : Nat := 0x12
def stWrongState : Nat := 0x20
def stBusy : Nat := 0x21
def stNotOwner : Nat := 0x22
def stOverBudget : Nat := 0x30
def stOverCapacity : Nat := 0x31
def stLocked : Nat := 0x40
def stDenied : Nat := 0x41
def stIntegrity : Nat := 0x50
def stBinding : Nat := 0x51
def stInternal : Nat := 0x60
/-- The detail of BAD_PARAM where no field applies (R79). -/
def noField : Nat := 0xFFFF

/-- The encoding of GET_STATE (03 Table 3.14). -/
def FnState.code : FnState → Nat
  | .off => 0 | .config => 1 | .starting => 2 | .running => 3 | .stopping => 4 | .faulted => 5

/-- STARTING or RUNNING. -/
def FnState.live : FnState → Bool
  | .starting | .running => true
  | _ => false
/-- OFF or CONFIG. -/
def FnState.idle : FnState → Bool
  | .off | .config => true
  | _ => false

/-- A function changes state, and the change is sent as an event (R34). -/
def changeState (s : State) (f : Nat) (n : FnState) : State :=
  let o := s.fn f
  if o.st = n then s
  else
    let s := s.setFn f { o with st := n, changed := s.now, since := s.mono }
    emit s 0x0101 f (b1 o.st.code ++ b1 n.code ++ zeros 2)

/-- The event of a deferred or automatic start (R32, R45). -/
def startOutcome (s : State) (f : Nat) (cause : Option (Nat × Nat)) (status : Nat) : State :=
  emitTo s cause false none 0x0102 f (b1 status ++ zeros 3)

/-- A pending start ends without being executed (R32). -/
def cancelPend (s : State) (f : Nat) : State :=
  match (s.fn f).pend with
  | none => s
  | some c => startOutcome (s.setFn f { s.fn f with pend := none }) f (some c) stWrongState

/-- The staged configuration equals the last applied one, or the stored one where none has been
applied since power-up (R29). -/
def restage (s : State) (f : Nat) : State :=
  { s with staged := copyCfg (if (s.fn f).everApplied then s.applied else s.stored) s.staged f }

/-- The staged configuration is committed (R31). -/
def applyCfg (s : State) (f : Nat) : State :=
  let s := { s with applied := copyCfg s.staged s.applied f }
  s.setFn f { s.fn f with everApplied := true }

/-- START has passed its check (R31): commit, and STARTING. -/
def beginStart (s : State) (f : Nat) : State :=
  let s := applyCfg s f
  let s := s.setFn f { s.fn f with toFault := false }
  changeState s f .starting

/-- Whether a configuration opcode is admitted (Table 1.9). -/
def cfgAdmits (s : State) (f : Nat) : Bool := (s.st f).idle
/-- A configuration opcode has been accepted (Table 1.9). -/
def markConfig (s : State) (f : Nat) : State :=
  if s.st f = .off then changeState s f .config else s

/-- What a START check answers: nothing, or the failing status and its detail. -/
abbrev Verdict := Option (Nat × Nat)

/-- START of a function whose check and commit are given (Table 1.9). The answer is a status and
its detail. -/
def startFn (check : State → State × Verdict) (commit : State → State) (f : Nat) (s : State) :
    State × Nat × Nat :=
  match s.st f with
  | .off | .config =>
    match check s with
    | (s, some (st, d)) => (s, st, d)
    | (s, none) => (commit s, stOk, 0)
  | .stopping =>
    if (s.fn f).pend = none then (s.setFn f { s.fn f with pend := s.cur }, stDeferred, 0)
    else (s, stBusy, 0)
  | _ => (s, stWrongState, 0)

/-- A stop completes (R30, R32, R33): FAULTED after a fault, where a START deferred since then fails as any START of
a FAULTED function does; else OFF with its last applied configuration staged, and a pending start is then
checked and executed. -/
def finishStop (check : State → State × Verdict) (commit : State → State) (f : Nat) (s : State) :
    State :=
  if (s.fn f).toFault then
    cancelPend (changeState (s.setFn f { s.fn f with toFault := false }) f .faulted) f
  else
    let pend := (s.fn f).pend
    let s := restage s f
    let s := s.setFn f { s.fn f with pend := none }
    let s := changeState s f .off
    match pend with
    | none => s
    | some c =>
      let saved := s.cur
      let s := { s with cur := some c }
      match check s with
      | (s, some (st, _)) => { startOutcome s f (some c) st with cur := saved }
      | (s, none) => { commit (startOutcome s f (some c) stOk) with cur := saved }

/-- STOP enters STOPPING (Table 1.9). -/
def beginStop (s : State) (f : Nat) : State :=
  let s := s.setFn f { s.fn f with toFault := false }
  changeState s f .stopping

/-- A fault's reaction stops a function that stands in STOPPING (R33). -/
def faultStopping (s : State) (f : Nat) : State :=
  let s := cancelPend s f
  s.setFn f { s.fn f with toFault := true }

/-- A reset of its block makes a function OFF (R29, R32). -/
def blockReset (s : State) (f : Nat) : State :=
  let s := cancelPend s f
  let s := if s.st f = .off then s else restage s f
  let s := s.setFn f { s.fn f with toFault := false }
  changeState s f .off

end Sys2Proof.Machine
end

