-- ==== Sys2Proof/Machine/Faults.lean ====
section
/-! DEFINITION. The fault collector (chapter 14): the source list, raising and returning, the
first-error capture, squall windows and fault records. Reactions that change other blocks are
queued in `fcr.react` and carried out by `settle` in the same step. -/

namespace Sys2Proof.Machine

/-- A source of Table 14.4: floor, reset severity, fixed, and whether FAILOVER names a function. -/
structure SrcInfo where
  floor : Nat
  reset : Nat
  fixed : Bool := false
  failover : Bool := false

/-- Table 14.4; none for a number with no source behind it (R460). -/
def srcInfo (n : Nat) : Option SrcInfo :=
  if n ≤ 4 then some { floor := 3, reset := 3, fixed := true, failover := true }
  else if n = 5 ∨ n = 7 then some { floor := 2, reset := 2 }
  else if n = 6 then some { floor := 0, reset := 0 }
  else if n = 8 then some { floor := 0, reset := 1 }
  else if n = 9 ∨ n = 11 then some { floor := 1, reset := 1 }
  else if n = 10 ∨ n = 12 ∨ n = 13 ∨ n = 14 then some { floor := 2, reset := 2 }
  else if n = 16 ∨ n = 17 then some { floor := 0, reset := 2, failover := true }
  else if n = 18 then some { floor := 2, reset := 2, failover := true }
  else if n = 19 then some { floor := 2, reset := 4 }
  else if n = 20 ∨ n = 51 then some { floor := 4, reset := 4, fixed := true }
  else if n = 21 then some { floor := 2, reset := 2 }
  else if 24 ≤ n ∧ n ≤ 47 then some { floor := 0, reset := 2, failover := true }
  else if n = 48 ∨ n = 49 ∨ n = 50 ∨ n = 52 ∨ n = 53 then some { floor := 0, reset := 2 }
  else if 64 ≤ n ∧ n ≤ 124 then some { floor := 0, reset := 2 }
  else if n = 128 ∨ n = 129 then some { floor := 2, reset := 2, failover := true }
  else if 130 ≤ n ∧ n ≤ 132 then some { floor := 0, reset := 2, failover := true }
  else if n = 133 then some { floor := 1, reset := 1, fixed := true }
  else if n = 134 then some { floor := 0, reset := 2, failover := true }
  else if 136 ≤ n ∧ n ≤ 153 then some { floor := 0, reset := 2, failover := true }
  else if 160 ≤ n ∧ n ≤ 163 then some { floor := 0, reset := 2 }
  else if 168 ≤ n ∧ n ≤ 187 then some { floor := 0, reset := 2, failover := true }
  else if n = 192 then some { floor := 0, reset := 2, failover := true }
  else if n = 193 then some { floor := 0, reset := 0 }
  else none

/-- The function a source stops at FAILOVER, for sources that name one directly (Table 14.4). -/
def srcFid (n : Nat) : Option Nat :=
  if 24 ≤ n ∧ n ≤ 47 then some (chFid (n - 24))
  else if n = 128 then some plannerFid
  else if n = 129 then some guidFid
  else if 130 ≤ n ∧ n ≤ 134 then some fusFid
  else if 136 ≤ n ∧ n ≤ 143 then some (pipeFid (n - 136))
  else if 144 ≤ n ∧ n ≤ 151 then some (pipeFid (n - 144))
  else if n = 152 ∨ n = 153 then some gnssFid
  else if 168 ≤ n ∧ n ≤ 177 then some (canFid (n - 168))
  else if 178 ≤ n ∧ n ≤ 187 then some (canFid (n - 178))
  else if n = 192 then some panelFid
  else none

/-- The programmed severity of a source (R464). -/
def severity (s : State) (n : Nat) : Nat :=
  tget (match srcInfo n with | some i => i.reset | none => 0) s.fcr.sev n

/-- Length of a squall window in ticks (R473). -/
def squallTicks : Nat := 2500000

/-- A fault record: numbered, written to the fault log, queued, logged (R475, R477). -/
def faultRecord (s : State) (kind src sev reaction detail tick : Nat) (time : T96) (occ : Nat)
    (entries : List (Nat × Nat)) : State :=
  let num := s.fcr.recNum
  let body := le 4 num ++ b1 kind ++ b1 src ++ b1 sev ++ b1 reaction ++ le 4 detail ++ le 8 tick ++
    le 4 s.fcr.epoch ++ le 4 occ ++ le 2 entries.length ++ zeros 2 ++
    entries.flatMap fun e => b1 e.1 ++ b1 0 ++ le 2 (satN 2 e.2)
  let s := { s with fcr := { s.fcr with recNum := (num + 1) % 2 ^ 32 } }
  let (pos, s) := flogAdd s time (some num) body
  let s := slogAdd s 1 body
  pushAll s sFaults fun _ => { time := time, fault := true, pos := some pos, body := body }

/-- The end of a window: one that held more than 64 is a squall window, and raisings or returns left
without a record get a summary (R473). -/
def squallEnd (s : State) : State :=
  let e := s.fcr.unrec
  let n := if 64 < s.fcr.winCount then s.fcr.squalls + 1 else s.fcr.squalls
  let s := { s with fcr := { s.fcr with unrec := [], winCount := 0, squalls := satN 4 n } }
  if e.isEmpty then s
  else
    let stop := (s.fcr.winStart + 1) * squallTicks
    faultRecord s 4 0 0 0 0 stop (T96.shift s.now (-(((s.mono - stop) * 4 : Nat) : Int))) 0 e

/-- Count one raising or return in its squall window; the answer tells whether it gets a record
of its own (R473). -/
def tally (s : State) (n : Nat) (always : Bool) : Bool × State :=
  let w := s.mono / squallTicks
  let s := if s.fcr.winStart = w then s
    else let s := squallEnd s; { s with fcr := { s.fcr with winStart := w, winCount := 0 } }
  let c := s.fcr.winCount + 1
  let s := { s with fcr := { s.fcr with winCount := c } }
  if c ≤ 64 ∨ always then (true, s)
  else (false, { s with fcr := { s.fcr with unrec := tput s.fcr.unrec n (tget 0 s.fcr.unrec n + 1) } })

/-- The first-error capture, and the count of later errors (R472). -/
def capture (s : State) (n sev detail : Nat) (acc : Nat × Nat × Nat) : State :=
  if sev = 0 then s
  else match s.fcr.cap with
    | some _ => { s with fcr := { s.fcr with later := satN 4 (s.fcr.later + 1) } }
    | none =>
      let c : Cap :=
        { source := n, master := acc.1, access := acc.2.1, address := acc.2.2 % 2 ^ 48, time := s.now,
          tick := s.mono, epoch := s.fcr.epoch, detail := detail % 2 ^ 32 }
      { s with fcr := { s.fcr with cap := some c } }

/-- The reaction field of a record (Table 14.6) for any source but a pair. -/
def reactionOf (n sev : Nat) : Nat :=
  if sev ≤ 1 then 0
  else if sev = 2 then 1
  else if sev = 3 then (if n = 4 then 4 else 3)
  else if n = 20 ∨ n = 51 then 6 else 5

/-- What a raising at a severity orders (R463). -/
def reactsOf (n sev detail : Nat) : List React :=
  if sev = 4 then [.safeStop n]
  else if sev = 3 then
    if n = 4 then [.coreReset 1]
    else if 16 ≤ n ∧ n ≤ 18 then [.stopLoopGroup detail]
    else match srcFid n with | some f => [.stopFn f] | none => []
  else []

/-- The collector sees an encoding other than 01 (R461, R462, R465), with the detail presented and
the access carried (R472). -/
def seeRaise (s : State) (n enc detail : Nat) (acc : Nat × Nat × Nat) : State :=
  match srcInfo n with
  | none => s
  | some _ =>
    let x := s.src n
    if x.inErr then
      if enc ≠ 2 ∧ !x.link then
        let s := s.setSrc n { x with link := true, rails := enc }
        faultRecord s 2 n (severity s n) 0 x.detail s.mono s.now x.count []
      else s
    else
      let sev := severity s n
      let c := satN 4 (x.count + 1)
      let s := s.setSrc n
        { x with
          rails := enc, inErr := true, link := decide (enc ≠ 2), latched := true
          latchSev := max x.latchSev sev, count := c, detail := detail, raisedAt := s.mono }
      let s := capture s n sev detail acc
      let s := if s.fcr.threshold ≤ sev then { s with fcr := { s.fcr with react := s.fcr.react ++ [.wake] } } else s
      let kind := if enc = 2 then 0 else 2
      if n ≤ 3 then
        let (_, s) := tally s n true
        { s with fcr := { s.fcr with
          pairRecs := s.fcr.pairRecs ++
            [{ src := n, kind := kind, detail := detail, tick := s.mono, time := s.now }]
          react := s.fcr.react ++ [.pairDead n] } }
      else
        let (own, s) := tally s n (decide (3 ≤ sev))
        let s := if own then
            faultRecord s kind n sev (reactionOf n sev) (detail % 2 ^ 32) s.mono s.now c []
          else s
        { s with fcr := { s.fcr with react := s.fcr.react ++ reactsOf n sev detail } }

/-- The collector sees 01 again (R461, R462). -/
def seeReturn (s : State) (n : Nat) : State :=
  let x := s.src n
  if x.inErr then
    let s := s.setSrc n { x with rails := 1, inErr := false, link := false }
    let s := if x.link then faultRecord s 3 n 0 0 x.detail s.mono s.now x.count [] else s
    let (own, s) := tally s n false
    if own then faultRecord s 1 n 0 0 x.detail s.mono s.now x.count [] else s
  else s

/-- A broken link shows 10 again (R462). -/
def seeRestore (s : State) (n : Nat) : State :=
  let x := s.src n
  if x.link then
    let s := s.setSrc n { x with rails := 2, link := false }
    faultRecord s 3 n 0 0 x.detail s.mono s.now x.count []
  else s

/-- Whether a perturbation forces the encoding of a source (18 R575, kind 8). -/
def forced (s : State) (n : Nat) : Bool := (perturb s 8 n).isSome

/-- The collector samples its sources: not in CALM (15 R505), nor before event 2 of Table 1.12. -/
def sampled (s : State) : Bool := decide (s.pwr.state ≠ 3 ∧ 2 ≤ s.boot.phase)

/-- A source's pair leaves 01. -/
def raiseEnc (s : State) (n enc detail : Nat) (acc : Nat × Nat × Nat) : State :=
  match srcInfo n with
  | none => s
  | some _ =>
    let s := s.setSrc n { s.src n with pair := enc, pairDetail := detail }
    if forced s n || !sampled s then s else seeRaise s n enc detail acc

/-- A source's pair changes back to 01. -/
def returnSrc (s : State) (n : Nat) : State :=
  if (s.src n).inErr || (s.src n).pair ≠ 1 then
    let s := s.setSrc n { s.src n with pair := 1 }
    if forced s n || !sampled s then s else seeReturn s n
  else s

/-- A broken link's pair shows 10 again. -/
def linkToError (s : State) (n : Nat) : State :=
  let s := s.setSrc n { s.src n with pair := 2 }
  if forced s n || !sampled s then s else seeRestore s n

/-- The collector sees an encoding forced by a perturbation, or the pair again once it ends
(18 R575, R578). -/
def seeEnc (s : State) (n enc : Nat) : State :=
  if enc = 1 then seeReturn s n
  else if enc = 2 ∧ (s.src n).link = true then seeRestore s n
  else seeRaise s n enc (s.src n).pairDetail (0, 0, 0)

/-- After CALM the collector sees what every pair shows (15 R505). -/
def resample (s : State) : State :=
  s.fcr.src.foldl (fun s e =>
    if forced s e.1 || (e.2.pair = 1 && !e.2.inErr) || (e.2.pair = e.2.rails) then s else seeEnc s e.1 e.2.pair) s

/-- A block raises its source. -/
def raise (s : State) (n detail : Nat) : State := raiseEnc s n 2 detail (0, 0, 0)
/-- A source that shows one loss or miss: raised for 1 µs, then back at 01 (R589). -/
def pulse (s : State) (n detail : Nat) : State := returnSrc (raise s n detail) n
/-- Raise or return a source by a condition. -/
def setErr (s : State) (n : Nat) (err : Bool) (detail : Nat) : State :=
  if err then raise s n detail else returnSrc s n

/-- The record of a pair source, once its outcome is known (R484). -/
def pairOutcome (s : State) (n reaction : Nat) : State :=
  match s.fcr.pairRecs.find? fun r => decide (r.src = n) with
  | none => s
  | some r =>
    let s := { s with fcr := { s.fcr with pairRecs := s.fcr.pairRecs.filter fun r => decide (r.src ≠ n) } }
    faultRecord s r.kind n 3 reaction (r.detail % 2 ^ 32) r.tick r.time (s.src n).count []

/-- Every pair record still open gets the outcome "processor-complex reset" (R484). -/
def pairOutcomes (s : State) (reaction : Nat) : State :=
  (s.fcr.pairRecs.map (·.src)).foldl (fun s n => pairOutcome s n reaction) s

/-- FAULT_N driven low (R470, R43). -/
def faultLow (s : State) : Bool :=
  decide (2 ≤ s.boot.phase) && decide (s.pwr.state ≠ 5) && (s.boot.noActive ||
    s.fcr.src.any fun e => e.2.latched && decide (s.fcr.threshold ≤ e.2.latchSev))

/-- The level of ALIVE (R471): a half-period of 500 µs on the monotonic tick, while it runs. -/
def aliveHigh (s : State) : Bool := s.fcr.aliveOn && decide (s.mono / 125000 % 2 = 1)

/-- The reset of the actuation domain is one source raising of its own (R40, Table 14.4). -/
def anyLatched (s : State) : Bool := s.fcr.src.any fun e => e.2.latched
def highestSev (s : State) : Nat := s.fcr.src.foldl (fun m e => if e.2.latched then max m e.2.latchSev else m) 0

end Sys2Proof.Machine
end

