-- ==== Sys2Proof/Machine/Proto.lean ====
section
/-! DEFINITION. What an opcode's chapter lays down for it: its code, what it needs, its layout,
and its own checks and effect (03 Table 3.4, Table 3.16). -/

namespace Sys2Proof.Machine

/-- What a command answers: the state after it, the status, the detail and the reply data (R79). -/
structure Ans where
  s : State
  st : Nat := 0
  detail : Nat := 0
  data : Bytes := []

/-- Executed: OK with reply data. -/
def okWith (s : State) (d : Bytes) : Ans := { s := s, data := d }
def okAns (s : State) : Ans := { s := s }
/-- A failed check: no effect (R81). -/
def failAns (s : State) (st detail : Nat) : Ans := { s := s, st := st, detail := detail }
/-- BAD_PARAM with the offset of a field. -/
def badParam (s : State) (off : Nat) : Ans := failAns s stBadParam off

/-- One opcode. `len` is the parameter length its layout expects, which may depend on a count
among the parameters. -/
structure OpSpec where
  code : Nat
  token : Bool := false
  bench : Bool := false
  len : Bytes → Nat
  layout : Bytes → List FieldChk := fun _ => []
  /-- Bytes of reply data of an executed command, where they can exceed what every session admits (R74). -/
  reply : Bytes → Nat := fun _ => 0
  body : State → Bytes → Ans

/-- A configuration opcode of one function (Table 1.9): refused unless every function named is OFF
or CONFIG, then staged. -/
def cfgAnswer (s : State) (fids : List Nat) (stage : State → State) : Ans :=
  if fids.all (cfgAdmits s) then okAns (fids.foldl markConfig (stage s))
  else failAns s stWrongState 0

/-- n divided by d, to the nearest integer with ties to even. -/
def roundEven (n d : Nat) : Nat :=
  let q := n / d
  let r := n % d
  if 2 * r > d ∨ (2 * r = d ∧ q % 2 = 1) then q + 1 else q

/-- x · n / d for a non-negative finite x, to the nearest integer with ties to even. -/
def fScaleRound (x : F32) (n d : Nat) : Nat :=
  if fIsZero x then 0
  else if fExpo x ≥ 0 then roundEven (fMant x * 2 ^ (fExpo x).toNat * n) d
  else roundEven (fMant x * n) (d * 2 ^ (-(fExpo x)).toNat)

/-- The sum of a list, left to right, in binary32. -/
def fSum (l : List F32) : F32 := l.foldl fAdd f0

/-- A temperature, or another value, in tenths as a signed field of n bytes, saturated. -/
def tenths (n : Nat) (x : F32) : Bytes :=
  if fFinite x then
    leI n (satInt (-(2 ^ (8 * n - 1) : Nat)) ((2 ^ (8 * n - 1) : Nat) - 1) (fToInt (fMul x (fOfNat 10))))
  else zeros n

/-- Fold over the numbers below n, ascending. -/
def forN (n : Nat) (f : State → Nat → State) (s : State) : State := (List.range n).foldl f s

/-- The largest packet of the session whose command is being executed (R74). -/
def curMax (s : State) : Nat :=
  match s.cur with
  | none => 0
  | some (n, _) =>
    match s.net.sessions.find? fun x => decide (x.num = n) with
    | some x => x.maxPkt
    | none => 0

end Sys2Proof.Machine
end

