-- ==== Sys2Proof/Machine/Budget.lean ====
section
/-! DEFINITION. Budget scheduling (15 R506 to R513): the holders, their nominal, minimum and
requested powers, and the grants of a window. -/

namespace Sys2Proof.Machine

def State.pipe (s : State) (k : Nat) : Pipe := tget {} s.cam.pipes k
def State.setPipe (s : State) (k : Nat) (v : Pipe) : State :=
  { s with cam := { s.cam with pipes := tput s.cam.pipes k v } }
def State.holder (s : State) (h : Nat) : Holder := tget {} s.pwr.holders h
def State.setHolder (s : State) (h : Nat) (v : Holder) : State :=
  { s with pwr := { s.pwr with holders := tput s.pwr.holders h v } }

/-- What was metered in the last 1 s (R510, R522). -/
def lastSecond (s : State) (l : List (Nat × F32)) : List F32 :=
  (l.filter fun r => decide (s.mono < r.1 + secT 1)).map (·.2)
/-- The electronics power, as the mean of what was metered in the last 1 s (Tables 15.7, 15.10). -/
def elecMean (s : State) : F32 :=
  match lastSecond s s.pwr.elecs with
  | [] => f0
  | l => fDiv (fSum l) (fOfNat l.length)

/-- The holders in the order of Table 15.7, and in priority order (Table 15.3). -/
def holderCodes : List Nat := [1, 2, 3, 4, 5, 8, 9, 10, 11, 12, 13, 14, 15]
def holderOrder : List Nat := [2, 4, 8, 9, 10, 11, 12, 13, 14, 15, 5, 3, 1]

/-- The function a holder is. -/
def holderFid (h : Nat) : Option Nat :=
  if h = 1 then some fusFid
  else if h = 2 then some plannerFid
  else if h = 4 then some panelFid
  else if 8 ≤ h ∧ h ≤ 15 then some (pipeFid (h - 8))
  else none

/-- The nominal of the fusion grid at a rate code. -/
def fusNominal (c : Nat) : F32 :=
  if c = 0 then fOfNat 28 else if c = 1 then fOfNat 15 else if c = 2 then fDec 85 10 else fDec 45 10

def nominal (s : State) (h : Nat) : F32 :=
  if h = 1 then fusNominal (fgMaxRate (s.app .fusGrid))
  else if h = 2 then fOfNat 3
  else if h = 3 then f1
  else if h ≤ 5 then fHalf
  else fOfNat 4

/-- The minimum; a pipeline's is its measured camera power, at the 12 V of its supply, plus 0.2 W. -/
def minimum (s : State) (h : Nat) : F32 :=
  if h = 1 then fDec 45 10
  else if h = 2 then fOfNat 3
  else if h = 4 then fHalf
  else if 8 ≤ h then fAdd (fMul (s.pipe (h - 8)).current (fOfNat 12)) (fDec 2 10)
  else f0

def requested (s : State) (h : Nat) : F32 :=
  match (s.holder h).req with | some r => r | none => nominal s h

/-- A holder is present (R507). -/
def present (s : State) (h : Nat) : Bool :=
  match holderFid h with
  | some f => s.st f ≠ .off
  | none => if h = 3 then !s.gns.jobs.isEmpty else !s.net.swait.isEmpty

/-- P_AVAIL (R508), and what it leaves above the reserved floor (R506). -/
def pAvail (s : State) : F32 := fMin s.pwr.cap s.pwr.pHeat
def aboveFloor (s : State) : F32 := fSub (pAvail s) (fOfNat 20)

/-- Minima in priority order (R509 step 1): each holder with its grant or none where it is stopped,
and what remains. A request below the minimum stops its holder (R513). -/
def grantMin (s : State) (left : F32) (shut : Bool) : List Nat → List (Nat × Option F32) × F32
  | [] => ([], left)
  | h :: r =>
    let m := minimum s h
    if fLt (requested s h) m then
      let (l, x) := grantMin s left shut r
      ((h, none) :: l, x)
    else if fIsZero m then
      let (l, x) := grantMin s left shut r
      ((h, some f0) :: l, x)
    else if !shut && fLe m left then
      let (l, x) := grantMin s (fSub left m) false r
      ((h, some m) :: l, x)
    else
      let (l, x) := grantMin s left true r
      ((h, none) :: l, x)

/-- What remains, up to the requested budgets (R509 step 2). -/
def grantRest (s : State) (left : F32) : List (Nat × Option F32) → List (Nat × Option F32)
  | [] => []
  | (h, none) :: r => (h, none) :: grantRest s left r
  | (h, some g) :: r =>
    let want := fSub (requested s h) g
    if fLt f0 want && fLt f0 left then
      if fLe want left then (h, some (requested s h)) :: grantRest s (fSub left want) r
      else (h, some (fAdd g left)) :: grantRest s f0 r
    else (h, some g) :: grantRest s left r

/-- The grants of the holders that are present, or are taken to be. -/
def grantsFor (s : State) (isThere : Nat → Bool) : List (Nat × Option F32) :=
  let (l, left) := grantMin s (aboveFloor s) false (holderOrder.filter isThere)
  grantRest s left l

/-- The grant a holder would have if it were present. -/
def grantIf (s : State) (h : Nat) : Option F32 :=
  match (grantsFor s fun x => x = h || present s x).find? fun e => e.1 = h with
  | some (_, g) => g
  | none => none

/-- The budget check of START of a holder (R512). -/
def budgetOk (s : State) (h : Nat) : Bool := (grantIf s h).isSome

/-- A holder may start a work unit (R510). -/
def mayWork (s : State) (h : Nat) : Bool := fLt f0 (s.holder h).balance

/-- The rate code within a grant, from the configured maximum rate down (R507, 09 R298). -/
def rateWithin (s : State) (g : F32) : Nat :=
  ((List.range 4).find? fun c =>
    decide (fgMaxRate (s.app .fusGrid) ≤ c) && fLe (fusNominal c) g).getD 3

end Sys2Proof.Machine
end

