-- ==== Sys2Proof/Machine/Can.lean ====
section
/-! DEFINITION. CAN controllers (chapter 13): bit timing checks, receiving, the three transmit
paths, error states, the ISO 11783 address claim, lifecycle and opcodes. -/

namespace Sys2Proof.Machine

def State.canCfg (s : State) (k : Nat) : Bytes := s.app (.can k)
/-- Function state of a controller. -/
def canSt (s : State) (k : Nat) : FnState := s.st (canFid k)
def canRunning (s : State) (k : Nat) : Bool := canSt s k = .running

/-- The controller takes part in its bus: it has integrated, is not bus-off, and the module is in
RUN or BREEZE (R433, R447). -/
def canActive (s : State) (k : Nat) : Bool :=
  (s.can1 k).onBus && (s.can1 k).off.isNone && decide (s.pwr.state ≤ 1) &&
    match canSt s k with | .running | .stopping => true | _ => false

/-- A sink on this controller works (R127, R132): RUNNING and not bus-off. -/
def canSinkOk (s : State) (k : Nat) : Bool := canRunning s k && (s.can1 k).off.isNone

/-! ## Error states (R446, R447) -/

/-- 0 active, 1 passive, 2 bus-off. -/
def Can.errState (x : Can) : Nat :=
  if x.off.isSome then 2 else if 128 ≤ x.tec ∨ 128 ≤ x.rxe then 1 else 0

/-- CAN_ERROR_STATE since an earlier state (R446). -/
def canErrReport (a : Nat) (s : State) (k : Nat) : State :=
  let x := s.can1 k
  let b := x.errState
  if a = b then s
  else
    let data := b1 a ++ b1 b ++ le 2 x.tec
    if b = 2 then emitFault s 0x0C01 (canFid k) data else emit s 0x0C01 (canFid k) data

/-! ## Transmit outcomes (R444) -/

/-- A host buffer ends with a cause; TX_OUTCOME where it reports (Table 13.3). -/
def canTxEnd (s : State) (k : Nat) (t : CanTx) (cause : Nat) : State :=
  let x := s.can1 k
  let s := s.setCan k { x with host := x.host.filter fun u => u.ser ≠ t.ser }
  if t.report || t.oneShot then
    emit s 0x0C02 (canFid k) (le 4 t.tag ++ b1 cause ++ b1 0 ++ le 2 (satN 2 t.attempts))
  else s

/-- The cause that deadline or bus-off reports: the last failed attempt's for a frame that is not
one-shot, if there is one. -/
def CanTx.endCause (t : CanTx) (c : Nat) : Nat := if !t.oneShot && t.failed ≠ 0 then t.failed else c

/-- Every host buffer but the one on the bus ends with a cause. -/
def canTxAll (s : State) (k : Nat) (keep : Option Nat) (cause : CanTx → Nat) : State :=
  ((s.can1 k).host.filter fun t => some t.ser ≠ keep).foldl (fun s t => canTxEnd s k t (cause t)) s

/-- Entry into bus-off (R447): the firmware's frame on the bus goes back to its buffers, which are kept. -/
def canBusOff (s : State) (k : Nat) : State :=
  let s := canTxAll s k none (CanTx.endCause · 5)
  let x := s.can1 k
  let fw := match x.att with | some (.fw, f) => f :: x.fw | _ => x.fw
  let s := s.setCan k
    { x with off := some s.mono, slots := [], att := none, fw := fw, busoff := satN 4 (x.busoff + 1) }
  raise s (168 + k) x.tec

/-- The error counters take new values (R446). -/
def canCount (s : State) (k tec rxc : Nat) : State :=
  let x := s.can1 k
  let a := x.errState
  let s := s.setCan k { x with tec := tec, rxe := min rxc 255 }
  let s := if 255 < tec && x.off.isNone then canBusOff s k else s
  canErrReport a s k

/-! ## Address claim (R449); the identifiers are those of ISO 11783 (log entry 13) -/

def claimCfg (s : State) (k : Nat) : Bytes := s.app (.canClaim k)
def claimName (s : State) (k : Nat) : Nat := clName (claimCfg s k)

/-- A 29-bit classical data frame. -/
def frame29 (id : Nat) (d : Bytes) : CanFrame :=
  { id := id, ide := true, fmt := 0, remote := false, brs := false, esi := false, sdu := 0, vcid := 0,
    af := 0, data := d }

/-- Address Claimed, or Cannot Claim from address 254 (PGN 60928). -/
def claimFrame (s : State) (k sa : Nat) : CanFrame :=
  frame29 (0x18EEFF00 + sa) (slice (claimCfg s k) 8 8)

def canFwPut (s : State) (k : Nat) (f : CanFrame) : State :=
  let x := s.can1 k
  s.setCan k { x with fw := x.fw ++ [f] }

/-- ADDRESS_STATE (R449). -/
def canAddr (s : State) (k st addr : Nat) : State :=
  let x := s.can1 k
  let s := s.setCan k { x with addrSt := st, addr := addr }
  if x.addrSt = st then s
  else
    let data := b1 x.addrSt ++ b1 st ++ b1 addr ++ b1 0
    if st = 3 then emitFault s 0x0C05 (canFid k) data else emit s 0x0C05 (canFid k) data

/-- The responder claims an address: it is CLAIMING once the claim is in its buffer (log entry 48). -/
def claimSend (s : State) (k a : Nat) : State :=
  let s := canFwPut s k (claimFrame s k a)
  let x := s.can1 k
  canAddr (s.setCan k { x with claimAt := s.mono, cannot := false }) k 1 a

/-- A claim begins from the preferred address. -/
def claimBegin (s : State) (k : Nat) : State := claimSend s k (clPref (claimCfg s k))

/-- The next address of the range, ascending and wrapping, not seen claimed by another NAME. -/
def claimNext (s : State) (k : Nat) : Option Nat :=
  let d := claimCfg s k
  let n := clHigh d + 1 - clLow d
  let cur := (s.can1 k).addr
  let start := if clLow d ≤ cur ∧ cur ≤ clHigh d then cur - clLow d + 1 else 0
  if clName d < 2 ^ 63 then none
  else
    ((List.range n).map fun i => clLow d + (start + i) % n).find? fun a =>
      decide (a ≠ cur) && (tfind (s.can1 k).seen a).isNone

/-- A claim by another node (R449). With no address left the module is CLAIMING, without an address, until its Cannot
Claim is sent (DESIGN CHOICE, log entry 48). -/
def claimHeard (s : State) (k a name : Nat) : State :=
  let own := claimName s k
  if name = own then s
  else
    let x := s.can1 k
    let s := s.setCan k { x with seen := tput x.seen a name }
    if (x.addrSt = 1 ∨ x.addrSt = 2) ∧ x.cannot = false ∧ a = x.addr then
      if own < name then
        let s := canFwPut s k (claimFrame s k a)
        s.setCan k { s.can1 k with claimAt := s.mono }
      else
        match claimNext s k with
        | some b => claimSend s k b
        | none => canAddr (s.setCan k { s.can1 k with cannot := true }) k 1 0xFE
    else s

/-- A request for PGN 60928 to the global address or the module's own (R449). -/
def claimRequest (s : State) (k dest : Nat) : State :=
  let x := s.can1 k
  if x.addrSt = 3 then
    (if dest = 255 then s.setCan k { x with cannot := true } else s)
  else if (x.addrSt = 1 ∨ x.addrSt = 2) ∧ x.cannot = false ∧ (dest = 255 ∨ dest = x.addr) then
    canFwPut s k (claimFrame s k x.addr)
  else s

/-- The ISO 11783 frames of the firmware's internal matches. -/
def claimMatch (s : State) (k : Nat) (f : CanFrame) : State :=
  if nIso (s.canCfg k) && f.ide && f.fmt = 0 && !f.remote then
    let pf := f.id / 65536 % 256
    let ps := f.id / 256 % 256
    if pf = 0xEE ∧ ps = 0xFF ∧ f.data.length = 8 then claimHeard s k (f.id % 256) (leVal f.data)
    else if pf = 0xEA ∧ f.data.take 3 = [0x00#8, 0xEE#8, 0x00#8] then claimRequest s k ps
    else s
  else s

/-- The module's claim still waits to be sent. -/
def claimWaits (s : State) (k : Nat) : Bool :=
  let x := s.can1 k
  let f := claimFrame s k x.addr
  x.fw.contains f || x.att == some (.fw, f)

/-- ADDRESS_CLAIM_TIMEOUT (R449): 250 ms since the claim was sent without a contending one. -/
def xAddressClaimTimeout (k : Nat) (s : State) : State :=
  let x := s.can1 k
  if x.addrSt = 1 && !x.cannot && !claimWaits s k && s.past x.claimAt (msT 250) then canAddr s k 2 x.addr else s

/-- Host frames with source-address insertion end when the address is lost (R444, R449). -/
def insertEnd (s : State) (k : Nat) : State :=
  ((s.can1 k).host.filter (·.insertSa)).foldl (fun s t => canTxEnd s k t 8) s

/-- CANNOT_CLAIM_DELAY_EXPIRY (R449). -/
def xCannotClaimDelayExpiry (k : Nat) (s : State) : State :=
  let x := s.can1 k
  if x.cannot then
    let s := canFwPut s k (claimFrame s k 254)
    insertEnd (canAddr (s.setCan k { s.can1 k with cannot := false }) k 3 0xFE) k
  else s

/-! ## Transmit attempts (R441, R442, R444) -/

/-- The arbitration field of a frame: dominant bits win. -/
def arbKey (f : CanFrame) : Nat :=
  if f.ide then
    (f.id / 2 ^ 18) * 2 ^ 21 + 3 * 2 ^ 19 + (f.id % 2 ^ 18) * 2 + bit f.remote 0
  else f.id % 2 ^ 11 * 2 ^ 21 + bit f.remote 20

/-- A host frame as it would go out now; none while it waits for an address. -/
def hostFrame (x : Can) (t : CanTx) : Option CanFrame :=
  if t.insertSa then
    if x.addrSt = 2 then some { t.frame with id := t.frame.id / 256 * 256 + x.addr } else none
  else some t.frame

/-- Every pending frame in the order that decides ties (R441). -/
def canPending (x : Can) : List (CanPath × CanFrame) :=
  x.slots.map (fun e => (.loop e.1, e.2)) ++ x.fw.map (fun f => (.fw, f)) ++
  x.host.filterMap fun t => (hostFrame x t).map fun f => (.host t.ser, f)

/-- The lowest arbitration field, the first of equals. -/
def lowest : List (CanPath × CanFrame) → Option (CanPath × CanFrame)
  | [] => none
  | e :: r =>
    match lowest r with
    | none => some e
    | some b => if arbKey b.2 < arbKey e.2 then some b else some e

/-- Host buffers whose deadline has passed end before an attempt begins (R444). -/
def canDeadlines (s : State) (k : Nat) : State :=
  ((s.can1 k).host.filter fun t => match t.deadline with | some d => decide (d ≤ s.mono) | none => false).foldl
    (fun s t => canTxEnd s k t (t.endCause 6)) s

/-- A start-of-frame bit begins an attempt with the lowest pending frame. -/
def canBegin (s : State) (k : Nat) : State :=
  let s := canDeadlines s k
  let x := s.can1 k
  match lowest (canPending x) with
  | none => s
  | some (p, f) =>
    let x := { x with att := some (p, f) }
    s.setCan k (match p with
      | .loop n => { x with slots := tdel x.slots n }
      | .fw => { x with fw := x.fw.erase f }
      | .host i => { x with host := x.host.map fun t => if t.ser = i then { t with attempts := t.attempts + 1 } else t })

/-- The controller may transmit. -/
def canSends (s : State) (k : Nat) : Bool :=
  canActive s k && nMode (s.canCfg k) = 0 && !(s.can1 k).stuck

/-- Whether the bus has let an attempt begin by now is not the model's to know: it is free (log
entry 31). -/
def canMayBegin (s : State) (k : Nat) : State :=
  if canSends s k && (s.can1 k).att.isNone && (lowest (canPending (s.can1 k))).isSome then
    let (n, s) := s.draw
    if Config.freeBit n then canBegin s k else s
  else s

/-- A loop frame is issued (R442). -/
def canLoopIssue (s : State) (k n : Nat) (f : CanFrame) : State :=
  let s := canMayBegin s k
  let x := s.can1 k
  if canSinkOk s k then
    s.setCan k
      { x with
        slots := tput x.slots n f
        loopovr := if (tfind x.slots n).isSome then satN 4 (x.loopovr + 1) else x.loopovr }
  else s

/-- A failed attempt's frame is pending again, unless a newer one has taken its slot (R442). -/
def canAgain (s : State) (k : Nat) (p : CanPath) (f : CanFrame) (failed : Nat) : State :=
  let x := s.can1 k
  match p with
  | .loop n =>
    if (tfind x.slots n).isSome then s.setCan k { x with loopovr := satN 4 (x.loopovr + 1) }
    else s.setCan k { x with slots := tput x.slots n f }
  | .fw => s.setCan k { x with fw := f :: x.fw }
  | .host i =>
    let c := if failed = 1 then 0 else failed
    s.setCan k { x with host := x.host.map fun t => if t.ser = i ∧ c ≠ 0 then { t with failed := c } else t }

/-- The measured loop delay of a frame that reached its data phase (R435). -/
def canDelay (d : Bytes) (x : Can) (f : CanFrame) (delay result : Nat) : Can × Nat :=
  if nTdc d && f.fmt ≠ 0 && (f.brs || f.fmt = 2) && decide (result ≠ 1) then
    ({ x with tdcv := delay }, if 127 < delay then 3 else result)
  else (x, result)

/-- What a failed attempt does to the counters (R446, R576): an error-passive transmitter does not
count a missing acknowledge. -/
def canFail (s : State) (k result : Nat) : State :=
  let (n, s) := s.draw
  let x := s.can1 k
  let r := Config.freeNat n
  let lec := if result = 2 then 3 else if result = 3 then 4 + r % 2 else [1, 2, 6].getD (r % 3) 1
  let s := s.setCan k { x with lec := lec, errfrm := satN 4 (x.errfrm + 1) }
  if result = 2 ∧ x.errState = 1 then s else canCount s k (x.tec + 8) x.rxe

/-- The attempt has gone out whole; the time of a claim runs from its end (R449). -/
def canGood (s : State) (k : Nat) (f : CanFrame) (ht : Option CanTx) : State :=
  let x := s.can1 k
  let s := s.setCan k
    { x with
      txfrm := satN 4 (x.txfrm + 1)
      claimAt := if x.addrSt = 1 ∧ f = claimFrame s k x.addr then s.mono else x.claimAt }
  let s := { s with sent := .canFrame k f :: s.sent }
  let s := canCount s k (x.tec - 1) x.rxe
  match ht with | some t => canTxEnd s k t 0 | none => s

/-- The attempt has lost arbitration (result 1) or met an error. -/
def canBad (s : State) (k : Nat) (p : CanPath) (f : CanFrame) (result : Nat) (ht : Option CanTx) : State :=
  let s := canAgain s k p f result
  let s := if result = 1 then s else canFail s k result
  match ht with
  | some t =>
    if (s.can1 k).host.any (fun u => u.ser = t.ser) && (t.oneShot || decide (canSt s k = .stopping)) then
      canTxEnd s k t result
    else s
  | none => s

/-- An attempt under way ends. -/
def canAttempt (k result delay : Nat) (s : State) (p : CanPath) (f : CanFrame) : State :=
  let n := match perturb s 4 k with | some (_, q) => q.mag | none => 0
  let (hit, s) := if result = 1 then (false, s) else everyNth s 4 k n
  let result := if hit && result = 0 then 2 else result
  let (x, result) := canDelay (s.canCfg k) (s.can1 k) f delay result
  let s := s.setCan k { x with att := none }
  let ht : Option CanTx := match p with
    | .host i => (s.can1 k).host.find? fun t => t.ser = i
    | _ => none
  if result = 0 then canGood s k f ht else canBad s k p f result ht

/-- CAN_TX_ATTEMPT_END (R444): the attempt in progress, or one begun since, ends. Results: 0 sent,
1 arbitration lost, 2 no acknowledge, 3 bit error, 4 stuff, form or CRC error. -/
def xCanTxAttemptEnd (k result delay : Nat) (s : State) : State :=
  let s := if canSends s k && (s.can1 k).att.isNone && canSt s k = .running then canBegin s k else s
  match (s.can1 k).att with
  | none => s
  | some (p, f) => canAttempt k result delay s p f

/-! ## Receiving (R437 to R440) -/

/-- Formats of Table 13.7 as bits: classical data, remote, FD, XL. -/
def typeBit (f : CanFrame) : Nat :=
  match f.fmt with | 0 => if f.remote then 1 else 0 | 1 => 2 | _ => 3

/-- One acceptance filter (R438). -/
def filterHit (d : Bytes) (f : CanFrame) : Bool :=
  let id := if f.fmt = 2 then f.id % 2 ^ 11 else f.id
  flEnabled d && (flTypes d).testBit (typeBit f) &&
  decide (f.ide = (flId d).testBit 29) &&
  decide (id &&& flMask d = (flId d % 2 ^ 29) &&& flMask d) &&
  (f.fmt ≠ 2 || decide (f.af &&& flAfMask d = flAf d &&& flAfMask d))

def firstFilter (s : State) (k : Nat) (f : CanFrame) : Option Nat :=
  (List.range 64).find? fun i => filterHit (s.app (.canFilter k i)) f

/-- RX_READY (R439); one that comes due within 10 ms of the last is sent once they have passed, if a frame is still in
the queue (DESIGN CHOICE, log entry 48). -/
def rxReady (s : State) (k : Nat) : State :=
  let x := s.can1 k
  let s := s.setCan k { x with rxAt := some s.mono, rxDue := false }
  emit s 0x0C04 (canFid k) (le 2 x.queue.length ++ zeros 2)

/-- A frame enters the host queue (R439). -/
def hostQueue (s : State) (k : Nat) (r : CanRec) : State :=
  let x := s.can1 k
  let full := decide (256 ≤ x.queue.length)
  let s := s.setCan k
    { x with
      queue := (if full then x.queue.drop 1 else x.queue) ++ [r]
      rxdrop := if full then satN 4 (x.rxdrop + 1) else x.rxdrop
      dropped := if full then satN 4 (x.dropped + 1) else x.dropped }
  if x.queue.isEmpty then
    match x.rxAt with
    | some t => if s.past t (msT 10) then rxReady s k else s.setCan k { s.can1 k with rxDue := true }
    | none => rxReady s k
  else s

/-- A frame overwrites the high-priority buffer (R440). -/
def hpBuffer (s : State) (k : Nat) (r : CanRec) : State :=
  let x := s.can1 k
  let within := match x.hpAt with | some t => !s.past t (msT 1) | none => false
  s.setCan k
    { x with
      hp := some r, hpDue := x.hpDue || !within
      hpovr := if within then satN 4 (x.hpovr + 1) else x.hpovr }

/-- The three paths' host path: filters in ascending order (R438). -/
def acceptPath (s : State) (k : Nat) (f : CanFrame) : State :=
  let miss (s : State) : State :=
    let x := s.can1 k
    s.setCan k { x with unmatched := satN 4 (x.unmatched + 1) }
  match firstFilter s k f with
  | none => miss s
  | some i =>
    let r : CanRec := { time := s.now, frame := f, filter := i }
    match flDest (s.app (.canFilter k i)) with
    | 1 => hostQueue s k r
    | 2 => hpBuffer s k r
    | _ => miss s

/-- The field of a frame in an encoding of Table 4.4, converted to binary32; none where the frame
is too short or the field is a NaN or an infinity (R116). -/
def canField (enc off : Nat) (d : Bytes) : Option F32 :=
  if d.length < off + encSize enc then none
  else
    match enc with
    | 0 => some (fOfNat (rd d off 1))
    | 1 => some (fOfInt (rdI d off 1))
    | 2 => some (fOfNat (rd d off 2))
    | 3 => some (fOfInt (rdI d off 2))
    | 4 => some (fOfNat (rd d off 4))
    | 5 => some (fOfInt (rdI d off 4))
    | _ =>
      let v := rdF d off
      if !fFinite v then none else if fIsZero v then some (fZero (fSign v)) else some v

/-- A classical or FD data frame with the identifier and IDE bit of a descriptor (R116). -/
def idMatches (id : Nat) (f : CanFrame) : Bool :=
  decide (f.fmt ≤ 1) && !f.remote && decide (f.id = id % 2 ^ 29) && decide (f.ide = id.testBit 29)

/-- A frame's value replaces the one held; a frame that yields none marks it invalid (R116). -/
def CanVal.take (v : CanVal) (mono enc off : Nat) (d : Bytes) : CanVal :=
  match canField enc off d with
  | some x => { value := x, tick := mono, ok := true }
  | none => { v with ok := false }

/-- Loop inputs that read the frame (R116). -/
def loopInputs (s : State) (k : Nat) (f : CanFrame) : State :=
  s.staged.foldl (fun s e => match e.1 with
    | .loop n =>
      if dInType e.2 = 5 ∧ dInIdx e.2 = k ∧ idMatches (dInId e.2) f = true then
        let v := tget {} s.cle.canIn n
        { s with cle := { s.cle with
            canIn := tput s.cle.canIn n (v.take s.mono (dInQty e.2) (dInOff e.2) f.data) } }
      else s
    | _ => s) s

/-- CV fields and the moisture field that read a frame received at a tick (07 Table 7.7, Table 7.17). -/
def firmwareFields (s : State) (k : Nat) (f : CanFrame) (at_ : Nat) : State :=
  let s := forN 6 (fun s j =>
    let d := s.stg (.planCv j)
    if cvType d = 3 ∧ cvIdx d = k ∧ idMatches (cvMask d) f = true then
      let v := tget {} s.planner.cvCan j
      { s with planner := { s.planner with
          cvCan := tput s.planner.cvCan j (v.take at_ (cvQty d) (cvOff d) f.data) } }
    else s) s
  let d := s.yield.cfg.getD []
  if yMoistType d = 2 ∧ yMoistIdx d = k ∧ idMatches (yMoistId d) f = true then
    { s with yield := { s.yield with
        moistCan := s.yield.moistCan.take at_ (yMoistEnc d) (yMoistOff d) f.data } }
  else s

/-- Whether the firmware has an internal match for the frame. -/
def firmwareWants (s : State) (k : Nat) (f : CanFrame) : Bool :=
  (List.range 6).any (fun j =>
    let d := s.stg (.planCv j)
    decide (cvType d = 3) && decide (cvIdx d = k) && idMatches (cvMask d) f) ||
  (let d := s.yield.cfg.getD []
   decide (yMoistType d = 2) && decide (yMoistIdx d = k) && idMatches (yMoistId d) f) ||
  (let d := if (s.st guidFid).idle then s.stg .pose else s.app .pose
   decide (psTransport d = 1) && decide (psPort d = k) && idMatches (psId d) f)

/-- Firmware frames are buffered while no firmware runs after a processor-complex reset, and those that overflow the
buffers are dropped and counted (01 Table 1.10, Table 13.11); the spec gives no size of the buffers. -/
def firmwarePath (s : State) (k : Nat) (f : CanFrame) : State :=
  if s.boot.afterCore && decide (s.boot.phase < 8) then
    if firmwareWants s k f then
      let x := s.can1 k
      if x.fwRx.length < Config.fwBuffers k then s.setCan k { x with fwRx := x.fwRx ++ [(f, s.mono)] }
      else s.setCan k { x with fwdrop := satN 4 (x.fwdrop + 1) }
    else s
  else firmwareFields s k f s.mono

/-- The firmware that runs again takes the frames buffered for it. -/
def firmwareTakes (s : State) (k : Nat) : State :=
  let x := s.can1 k
  x.fwRx.foldl (fun s e => firmwareFields s k e.1 e.2) (s.setCan k { x with fwRx := [] })

/-- The applied configuration sets the frame's format (R432). -/
def formatOn (d : Bytes) (fmt : Nat) : Bool :=
  match fmt with | 0 => true | 1 => nFd d | _ => nXl d

/-- The receive error counter after a frame received without error, as ISO 11898-1 counts it; from
above 127 it returns to a value of 119 to 127. -/
def recDown (s : State) (k : Nat) : State :=
  let x := s.can1 k
  if x.rxe ≤ 127 then canCount s k x.tec (x.rxe - 1)
  else
    let (n, s) := s.draw
    canCount s k x.tec (119 + Config.freeNat n % 9)

/-- CAN_FRAME_RECEIVED (R437): offered to loop inputs, to the firmware and to the filters. DESIGN CHOICE (log entry 48):
the row stands at the frame's start-of-frame bit, whose time it gives the frame. -/
def xCanFrameReceived (k : Nat) (f : CanFrame) (s : State) : State :=
  if canActive s k && formatOn (s.canCfg k) f.fmt then
    let x := s.can1 k
    let s := s.setCan k { x with rxfrm := satN 4 (x.rxfrm + 1) }
    let s := recDown s k
    let s := loopInputs s k f
    let s := firmwarePath s k f
    let s := claimMatch s k f
    acceptPath s k f
  else s

/-- CAN_PROTOCOL_EXCEPTION (R432): a frame of a format that is not set; nothing changes. -/
def xCanProtocolException (k fmt : Nat) (s : State) : State :=
  if canActive s k && !formatOn (s.canCfg k) fmt then { s with mono := s.mono } else s

/-- CAN_BUS_ERROR (R446): one error, by which the transmitter's or the receiver's counter rises. -/
def xCanBusError (k : Nat) (transmitter : Bool) (add lec : Nat) (s : State) : State :=
  if canActive s k then
    let x := s.can1 k
    let s := s.setCan k { x with lec := lec % 7, errfrm := satN 4 (x.errfrm + 1) }
    if transmitter then canCount s k (x.tec + add) x.rxe else canCount s k x.tec (x.rxe + add)
  else s

/-- A number of nominal bits in ticks: a quantum is BRP × 12.5 ns (R434). -/
def canBits (d : Bytes) (n : Nat) : Nat := (n * nDiv d * 25 + 7) / 8

/-- CAN_BUSOFF_RECOVERED (R447): after BOFF_DELAY and no less than 128 times 11 bits. -/
def xCanBusoffRecovered (k : Nat) (s : State) : State :=
  let x := s.can1 k
  match x.off with
  | some t =>
    if canRunning s k && !nManual (s.canCfg k) &&
        s.past t (msT (nBoff (s.canCfg k)) + canBits (s.canCfg k) 1408) then
      let s := s.setCan k { x with off := none, tec := 0, rxe := 0 }
      returnSrc (canErrReport 2 s k) (168 + k)
    else s
  | none => s

/-- CAN_TX_DOMINANT_TIMEOUT (R445). -/
def xCanTxDominantTimeout (k : Nat) (s : State) : State :=
  if canActive s k then raise (s.setCan k { s.can1 k with stuck := true }) (178 + k) 0 else s

/-- CAN_BUS_DOMINANT_TIMEOUT (R445): 10 ms without a break. -/
def xCanBusDominantTimeout (k : Nat) (s : State) : State :=
  let x := s.can1 k
  if (canSt s k).idle || x.dominant then s
  else emitFault (s.setCan k { x with dominant := true }) 0x0C06 (canFid k) (b1 1 ++ zeros 3)

/-- BUS_DOMINANT_CLEARED (R445): 11 recessive bits. -/
def xBusDominantCleared (k : Nat) (s : State) : State :=
  let x := s.can1 k
  if x.dominant then emit (s.setCan k { x with dominant := false }) 0x0C06 (canFid k) (zeros 4) else s

/-- HP_FRAME_HOLDOFF_EXPIRY (R440): HP_FRAME with the latest buffered frame. -/
def xHpFrameHoldoffExpiry (k : Nat) (s : State) : State :=
  let x := s.can1 k
  match x.hp with
  | some r =>
    if x.hpDue then
      let f := r.frame
      let s := s.setCan k { x with hpDue := false, hpAt := some s.mono }
      emit s 0x0C03 (canFid k)
        (le 4 (f.id + bit f.ide 29) ++ b1 f.fmt ++ b1 (bit f.brs 0 + bit f.esi 1 + bit f.remote 2) ++
          le 2 f.data.length ++ fitBytes 56 f.data)
    else s
  | none => s

/-- RX_READY_HOLDOFF_EXPIRY (R439). -/
def xRxReadyHoldoffExpiry (k : Nat) (s : State) : State :=
  let x := s.can1 k
  match x.rxAt with
  | some t => if x.rxDue && s.past t (msT 10) && !x.queue.isEmpty then rxReady s k else s
  | none => s

/-! ## Lifecycle (R450 to R452) -/

/-- The checks of START (R434, R435). -/
def canCheck (s : State) (k : Nat) : State × Verdict :=
  (s, if canConsistent k (s.stg (.can k)) then none else some (stBadParam, noField))

/-- START commits at the check (R450), where a claim begins (R449). -/
def canCommit (s : State) (k : Nat) : State :=
  let s := beginStart s (canFid k)
  let x := s.can1 k
  let s := s.setCan k { x with onBus := false, att := none, slots := [], fw := [], host := [] }
  if nIso (s.canCfg k) then claimBegin s k else s

/-- CAN_BUS_INTEGRATED (R450, R433): 11 recessive bits. -/
def xCanBusIntegrated (k : Nat) (s : State) : State :=
  let x := s.can1 k
  if decide (s.pwr.state ≤ 1) && !x.onBus then
    match canSt s k with
    | .starting =>
      if s.past (s.fn (canFid k)).since (canBits (s.canCfg k) 11) then
        changeState (s.setCan k { x with onBus := true }) (canFid k) .running
      else s
    | .running => s.setCan k { x with onBus := true }
    | _ => s
  else s

/-- CAN2 has left RUNNING: its session closes as by a keep-alive timeout (R451). -/
def canLeft (s : State) (k : Nat) : State :=
  if k = 2 then
    ((s.net.sessions.filter fun x => x.ep = .can2).map (·.num)).foldl (fun s n => closeSession s n 2) s
  else s

/-- The host buffer on the bus, if one is. -/
def onWire (x : Can) : Option Nat := match x.att with | some (.host i, _) => some i | _ => none

/-- STOP (R451). -/
def canStop (s : State) (k : Nat) : State :=
  let s := canTxAll s k (onWire (s.can1 k)) fun _ => 7
  let s := s.setCan k { s.can1 k with slots := [], fw := [] }
  canLeft (beginStop s (canFid k)) k

/-- At OFF (R451); an ISO-TP message under way on CAN2 has no bus any more. -/
def canOff (s : State) (k : Nat) : State :=
  let s := canTxAll s k none fun _ => 7
  let s := if k = 2 then { s with net := { s.net with isoTx := [], isoRx := none } } else s
  let x := s.can1 k
  let a := x.errState
  let s := s.setCan k
    { x with
      tec := 0, rxe := 0, off := none, onBus := false, stuck := false, slots := [], fw := [], att := none
      cannot := false, seen := [] }
  let s := canErrReport a s k
  let s := canAddr s k 0 0xFE
  returnSrc (returnSrc s (168 + k)) (178 + k)

/-- CAN_STOP_COMPLETE (R451): the frame on the bus has completed, or 20 ms have passed. -/
def xCanStopComplete (k : Nat) (s : State) : State :=
  let f := s.fn (canFid k)
  if f.st = .stopping && ((s.can1 k).att.isNone || s.past f.since (msT 20)) then
    let s := canOff s k
    finishStop (canCheck · k) (canCommit · k) (canFid k) s
  else s

/-- A fault's reaction: silence on the bus, and FAULTED (R451, 01 R33). -/
def canFault (s : State) (k : Nat) : State :=
  match canSt s k with
  | .starting | .running =>
    let s := canTxAll s k none fun _ => 7
    let s := s.setCan k { s.can1 k with slots := [], fw := [], att := none, onBus := false }
    canLeft (changeState s (canFid k) .faulted) k
  | .stopping => faultStopping s (canFid k)
  | _ => s

/-- An actuation-domain reset stops loop frames (R452). -/
def canLoopStop (s : State) (k : Nat) : State := s.setCan k { s.can1 k with slots := [] }

/-- LULL and CALM: no controller sends or receives; it integrates again later with both counters
at zero (R433). A frame on the bus is pending again. -/
def canSleep (s : State) (k : Nat) : State :=
  let s := match (s.can1 k).att with | some (p, f) => canAgain s k p f 1 | none => s
  let x := s.can1 k
  let a := x.errState
  let s := s.setCan k { x with onBus := false, tec := 0, rxe := 0, att := none, off := none }
  let s := canErrReport a s k
  if x.off.isSome then returnSrc s (168 + k) else s

/-! ## Opcodes (R453 to R457) -/

/-- CAN_CONFIG (R453). -/
def opCanConfig : OpSpec where
  code := 0x0C00
  token := true
  len := fun _ => 24
  layout := canChecks
  body := fun s p => cfgAnswer s [canFid (byteAt p 0)] fun s => s.setStg (.can (byteAt p 0)) p

/-- CAN_FILTER (R454). -/
def opCanFilter : OpSpec where
  code := 0x0C01
  token := true
  len := fun p => 4 + 20 * byteAt p 2
  layout := canFilterChecks
  body := fun s p =>
    let k := byteAt p 0
    cfgAnswer s [canFid k] fun s =>
      forN (byteAt p 2) (fun s i => s.setStg (.canFilter k (byteAt p 1 + i)) (slice p (4 + 20 * i) 20)) s

/-- The frame a CAN_TRANSMIT carries (Table 13.8). -/
def txFrame (p : Bytes) : CanFrame :=
  let id := rd p 4 4
  { id := id % 2 ^ 29, ide := id.testBit 29, fmt := byteAt p 2, remote := (byteAt p 1).testBit 4
    brs := (byteAt p 1).testBit 3, esi := false, sdu := byteAt p 16, vcid := byteAt p 17, af := rd p 20 4
    data := p.drop 24 }

/-- CAN_TRANSMIT (R455). -/
def opCanTransmit : OpSpec where
  code := 0x0C02
  token := true
  len := fun p => 24 + rd p 14 2
  layout := canTxChecks
  body := fun s p =>
    let k := byteAt p 0
    let d := s.canCfg k
    let typ := byteAt p 2
    let fl := byteAt p 1
    if !formatOn d typ then badParam s 2
    else if nIso d && decide (typ ≠ 0) then badParam s 2
    else if nIso d && !(rd p 4 4).testBit 29 then badParam s 4
    else if !canRunning s k || (s.can1 k).off.isSome || nMode d ≠ 0 then failAns s stWrongState 0
    else if 16 ≤ (s.can1 k).host.length then failAns s stBusy 0
    else if fl.testBit 2 && (s.can1 k).addrSt ≠ 2 then failAns s 0x80 0
    else
      let s := canMayBegin s k
      let x := s.can1 k
      let dl := rd p 12 2
      let t : CanTx :=
        { ser := x.ser, frame := txFrame p, tag := rd p 8 4, oneShot := fl.testBit 0, report := fl.testBit 1
          insertSa := fl.testBit 2, deadline := if dl = 0 then none else some (s.mono + msT dl) }
      okAns (s.setCan k { x with host := x.host ++ [t], ser := x.ser + 1 })

/-- CANk_STAT and CANk_ERRC (Table 13.13): ADDRESS is the claimed address, so 0xFE until one is. -/
def canStat (s : State) (k : Nat) : Nat :=
  let x := s.can1 k
  let d := s.canCfg k
  (if x.addrSt = 2 then x.addr else 0xFE) * 2 ^ 16 + x.addrSt * 2 ^ 14 + bit (nXl d) 13 + bit (nFd d) 12 + bit x.dominant 11 +
    x.lec * 2 ^ 8 + x.errState * 2 ^ 4 + (canSt s k).code
def canErrc (s : State) (k : Nat) : Nat := min (s.can1 k).tec 511 * 2 ^ 16 + (s.can1 k).rxe * 2 ^ 8

/-- The nine counters of Table 13.11. -/
def canCounters (x : Can) : List Nat :=
  [x.rxfrm, x.txfrm, x.errfrm, x.busoff, x.unmatched, x.rxdrop, x.loopovr, x.fwdrop, x.hpovr]

/-- A frame record (Table 13.9). -/
def CanRec.bytes (r : CanRec) : Bytes :=
  let f := r.frame
  leT r.time ++ le 4 (f.id + bit f.ide 29) ++ b1 f.fmt ++
    b1 (bit f.brs 0 + bit f.esi 1 + bit f.remote 2) ++ b1 r.filter ++ b1 f.sdu ++ le 2 f.data.length ++
    b1 f.vcid ++ b1 0 ++ le 4 f.af ++ f.data ++ zeros ((4 - f.data.length % 4) % 4)

/-- Take whole records, oldest first, while they fit the room left and the count; a record that alone
exceeds the whole room is dropped as the read comes to it. The answer is what was taken, how many were
dropped, and what is left (R456). -/
def takeRecs (whole : Nat) : Nat → Nat → List CanRec → List CanRec × Nat × List CanRec
  | _, _, [] => ([], 0, [])
  | n, room, r :: l =>
    let b := r.bytes.length
    if n = 0 then ([], 0, r :: l)
    else if whole < b then
      let (t, d, u) := takeRecs whole n room l
      (t, d + 1, u)
    else if room < b then ([], 0, r :: l)
    else
      let (t, d, u) := takeRecs whole (n - 1) (room - b) l
      (r :: t, d, u)

/-- CAN_STATUS (R456). -/
def opCanStatus : OpSpec where
  code := 0x0C03
  len := fun _ => 4
  layout := fun p =>
    [ckRange p 0 1 0 9, ckRange p 1 1 0 2,
     ckRange p 2 1 (if byteAt p 1 = 1 then 1 else 0) (if byteAt p 1 = 1 then 64 else 0), ckZero p 3 1]
  body := fun s p =>
    let k := byteAt p 0
    let x := s.can1 k
    match byteAt p 1 with
    | 0 => okWith s (leT s.now ++ le 4 (canStat s k) ++ le 4 (canErrc s k) ++ (canCounters x).flatMap (le 4))
    | 1 =>
      let room := curMax s - 28
      let (t, big, u) := takeRecs room (byteAt p 2) room x.queue
      okWith (s.setCan k { x with queue := u, dropped := 0, rxdrop := satN 4 (x.rxdrop + big) })
        (le 2 u.length ++ le 2 t.length ++ le 4 (satN 4 (x.dropped + big)) ++ t.flatMap CanRec.bytes)
    | _ => okWith s (match x.hp with | some r => r.bytes | none => zeros 28)

/-- CAN_ADDRESS_CLAIM (R457): staged and applied together, in every state. -/
def opCanAddressClaim : OpSpec where
  code := 0x0C04
  token := true
  len := fun _ => 16
  layout := canClaimChecks
  body := fun s p =>
    let k := byteAt p 0
    let s := (s.setStg (.canClaim k) p).setApp (.canClaim k) p
    okAns (if canRunning s k && nIso (s.canCfg k) then claimBegin s k else s)

end Sys2Proof.Machine
end

