-- ==== Sys2Proof/Machine/Lsw.lean ====
section
/-! DEFINITION. Protected load channels (chapter 08) and their stud gates (15 R514 to R517). -/

namespace Sys2Proof.Machine

def studOf (k : Nat) : Nat := k / 12
def dieOf (k : Nat) : Nat := k / 2
def studChans (v : Nat) : List Nat := (List.range 12).map (12 * v + ·)

/-- The configuration a channel runs by, or will run by once started. -/
def State.chCfg (s : State) (k : Nat) : Bytes := s.app (.chan k)
/-- The group whose staged mask names a channel (05 R161, R163). -/
def lockGroup (s : State) (k : Nat) : Option Nat :=
  (List.range 64).find? fun g => (gMask (s.stg (.group g))).testBit k

/-! ## Samples (R249) -/

/-- The number of the present 1 µs sample. -/
def sampleNo (s : State) : Nat := s.mono / 250
/-- A channel's current at present: the sample a row brought in this µs, or what is measured; in mode 3 the regulator's mean
load current. Log entry 55. -/
def ampsNow (s : State) (k : Nat) : F32 :=
  let c := s.chan k
  if c.currentAt = some (sampleNo s) then c.current
  else if cMode (s.chCfg k) = 3 then Config.regulatedAmps k c.cmd (sampleNo s)
  else Config.loadAmps k (sampleNo s)
/-- A channel's output voltage at present. -/
def voutNow (s : State) (k : Nat) : F32 :=
  let c := s.chan k
  if c.voutAt = some (sampleNo s) then c.vout else Config.loadVolts k (sampleNo s)
/-- A stud's voltage at present, and its mean over the last 1 ms. -/
def studNow (s : State) (v : Nat) : F32 :=
  let x := s.stud v
  if x.voltsAt = some (sampleNo s) then x.volts else Config.studVolts v (sampleNo s)
def studMean (s : State) (v : Nat) : F32 := Config.studMean v (s.mono / 250000)
/-- A die's temperature at a 10 µs sample. -/
def dieAt (s : State) (d n : Nat) : F32 :=
  let x := s.die d
  if x.sampled && x.sampleNo = n then x.temp else Config.dieTemp d n
def dieNow (s : State) (d : Nat) : F32 := dieAt s d (s.mono / 2500)

def Chan.amps (c : Chan) (n : Nat) (x : F32) : Chan := { c with current := x, currentAt := some n }

/-! ## Output state (R257) -/

def Drive.code : Drive → Nat
  | .idle => 0 | .off => 1 | .on => 2 | .limit => 3 | .retryWait => 4 | .gateWait => 9

/-- A channel is past its commit and not OFF or CONFIG. -/
def chanLive (s : State) (k : Nat) : Bool := (s.chan k).committed

/-- The output state of Table 8.3. Of the two of precedence 1, LATCHED is shown where both hold (log entry 35). -/
def outState (s : State) (k : Nat) : Nat :=
  let c := s.chan k
  if c.latch.isSome then 7
  else if c.lock.isSome then 8
  else if ¬ c.committed then 0
  else if c.thermal then 6
  else if c.uv || c.ov then 5
  else if c.drive = .idle then 1 else c.drive.code

/-- The cause that goes with the output state (R257, Table 8.8). -/
def outCause (s : State) (k : Nat) : Nat :=
  let c := s.chan k
  match outState s k with
  | 7 => c.latch.getD 0
  | 8 => c.lock.getD 0
  | 6 => 5
  | 5 => if c.uv then 9 else 10
  | _ => 0

/-- Report a change of output state since `s0` (R257), and keep the channel's fault source with
LATCHED and LOCKED. -/
def chanReport (s0 s : State) (k : Nat) : State :=
  let a := outState s0 k
  let b := outState s k
  if a = b then s
  else
    let cause := if outCause s k ≠ 0 then outCause s k else outCause s0 k
    let data := b1 a ++ b1 b ++ b1 cause ++ b1 0 ++ leF (ampsNow s0 k)
    let s :=
      if b = 7 ∨ b = 8 ∨ b = 6 then emitFault s 0x0701 (chFid k) data
      else if b = 5 ∨ (5 ≤ a ∧ a ≤ 8) then emit s 0x0701 (chFid k) data
      else s
    if b = 7 ∨ b = 8 then raise s (24 + k) cause
    else if a = 7 ∨ a = 8 then returnSrc s (24 + k) else s

/-- An operation on one channel, with its change of output state reported. -/
def chanDo (s : State) (k : Nat) (f : State → State) : State := chanReport s (f s) k

/-! ## Gusts and turn-ons -/

/-- A gust ends with its event (R262): outcome 0 success, 1 latched, 2 command or supply. -/
def gustEnd (s : State) (k outcome : Nat) : State :=
  let c := s.chan k
  if c.gust then
    let s := s.setChan k { c with gust := false }
    let data := b1 c.charged ++ b1 c.uncharged ++ b1 outcome ++ b1 0 ++
      le 4 (satN 4 ((s.mono - c.gustAt) / 250))
    if outcome = 1 then emitFault s 0x0702 (chFid k) data else emit s 0x0702 (chFid k) data
  else s

/-- A channel leaves the stud gate's queue. -/
def unqueue (s : State) (k : Nat) : State :=
  let v := studOf k
  let x := s.stud v
  s.setStud v { x with queue := x.queue.filter fun e => e.2 ≠ k }

/-- The output goes off, and whatever was under way with it ends. -/
def switchOff (s : State) (k : Nat) (d : Drive) : State :=
  let s := unqueue s k
  let c := s.chan k
  s.setChan k
    { c with
      drive := d, conducting := false, turnOn := false, attempt := false, dieWait := false,
      studWait := false, limFrom := none, limRun := 0, retryFrom := none, retryRun := 0 }

/-- The output goes off and the channel is latched with a cause; one that is latched keeps its cause. -/
def latchNow (s : State) (k cause : Nat) : State :=
  let s := switchOff s k .off
  let s := gustEnd s k 1
  let c := s.chan k
  if c.latch.isSome then s else s.setChan k { c with latch := some cause }

/-- The channel latches off with a cause (R257). -/
def latchOff (s : State) (k cause : Nat) : State := chanDo s k (latchNow · k cause)

/-- The channel locks off with a cause (R272), a latched one too: it shows LATCHED, and the cause raises its source. -/
def lockOff (s : State) (k cause : Nat) : State :=
  let hidden := (s.chan k).latch.isSome && (s.chan k).lock.isNone
  let s := chanDo s k fun s =>
    let s := switchOff s k .off
    let s := gustEnd s k 1
    let c := s.chan k
    if c.lock.isSome then s else s.setChan k { c with lock := some cause }
  if hidden then raise s (24 + k) cause else s

/-- The die gate (R263): open while the die's last sample is at +140 °C or below. -/
def dieOpen (s : State) (k : Nat) : Bool :=
  let d := s.die (dieOf k)
  !d.tooHot && (!d.sampled || fLe d.temp (fOfNat 140))

/-- The sum of the stud gate (R514) with channel k asking. -/
def gateSum (s : State) (k : Nat) : F32 :=
  let l := (studChans (studOf k)).filter fun j => j ≠ k
  fAdd (fSum (l.map fun j => if (s.chan j).turnOn then cILim (s.chCfg j) else (s.chan j).meanA))
    (cILim (s.chCfg k))

/-- Whether the stud gate admits channel k now (R514, R516). -/
def gateAdmits (s : State) (k : Nat) : Bool :=
  let x := s.stud (studOf k)
  !x.closed && fLe (gateSum s k) x.allow

/-! ### On-times (R254) -/

def tMin (k : Nat) : Nat := if classH k then 8000 else 2000

/-- A whole period in units of 2.5 ns. -/
def wholeUnits (d : Bytes) : Nat := cT d * 2 / 5
/-- On-time in units of 2.5 ns for a duty (R254). -/
def onTime (k : Nat) (d : Bytes) (dc : F32) : Nat :=
  let whole := wholeUnits d
  if fLe dc f0 then 0
  else if fLe f1 dc then whole
  else min (max (fScaleRound dc (cT d * 2) 5) (tMin k)) (whole - tMin k)

/-- What the output does from a turn-on to the next period start: on in modes 1 and 4, the duty's on-time in mode 2 (DESIGN
CHOICE, log entry 35: R282 has a turn-on take effect at once, and R254 speaks of whole periods); in mode 3 the regulator
starts from zero on-time (R274). -/
def firstUnits (s : State) (k : Nat) : Nat :=
  let d := s.chCfg k
  match cMode d with
  | 2 => onTime k d (s.chan k).cmd
  | 3 => 0
  | _ => wholeUnits d

/-- A turn-on is admitted: the output switches on (R262, R514). A simulated short instead enters
LIMIT with the output off and 50 A/µs recorded (18 R575, kind 6). -/
def grantOn (s : State) (k : Nat) : State :=
  let s := unqueue s k
  let c := s.chan k
  let short := (perturb s 6 k).isSome
  let u := firstUnits s k
  s.setChan k
    { c with
      drive := if short then .limit else .on, conducting := !short && decide (0 < u), turnOn := true, attempt := true
      onUnits := u, onFrom := s.mono, periodLen := cT (s.chCfg k), shortTested := false, notLow := false
      dieWait := false, studWait := false, retryFrom := none, retryRun := 0
      didt := if short then fOfNat 50 else c.didt, limitAt := if short then s.mono else c.limitAt
      limRun := 0, limFrom := if short && !(s.stud (studOf k)).quietOpen then some s.mono else none
      quietSeen := (s.stud (studOf k)).quietOpen, cycles := if short then c.cycles else satN 4 (c.cycles + 1) }

/-- A simulated short on a channel that is ON acts at its commit (18 R575). -/
def simShort (s : State) (k : Nat) : State :=
  let c := s.chan k
  if c.committed && c.drive = .on && c.latch.isNone && c.lock.isNone then
    s.setChan k
      { c with
        drive := .limit, conducting := false, didt := fOfNat 50, limitAt := s.mono, limRun := 0, shortTested := false
        notLow := false, limFrom := if (s.stud (studOf k)).quietOpen then none else some s.mono }
  else s

/-- A turn-on waits at the stud gate, in the order of its request (R514). -/
def insertReq (e : Nat × Nat) : List (Nat × Nat) → List (Nat × Nat)
  | [] => [e]
  | x :: r => if e.1 < x.1 ∨ (e.1 = x.1 ∧ e.2 < x.2) then e :: x :: r else x :: insertReq e r

/-- A turn-on requests at the stud gate (R514). -/
def requestStud (s : State) (k : Nat) : State :=
  let x := s.stud (studOf k)
  if x.queue.isEmpty && gateAdmits s k then grantOn s k
  else
    let s := s.setStud (studOf k) { x with queue := insertReq (s.mono, k) x.queue }
    let c := s.chan k
    s.setChan k { c with drive := .gateWait, dieWait := false, studWait := true, retryFrom := none }

/-- A turn-on is ready: it passes the die gate or waits there (R263). -/
def requestOn (s : State) (k : Nat) : State :=
  if dieOpen s k then requestStud s k
  else
    let c := s.chan k
    s.setChan k { c with drive := if c.drive = .retryWait then .retryWait else .gateWait, dieWait := true }

/-- Nothing of higher precedence holds the output off (R257). -/
def chanFree (s : State) (k : Nat) : Bool :=
  let c := s.chan k
  c.committed && c.latch.isNone && c.lock.isNone && !c.thermal && !c.uv && !c.ov

/-- The channel turns on for a command that is not 0.0 (R262): modes 1 and 4 begin a gust. -/
def turnOn (s : State) (k : Nat) : State :=
  let c := s.chan k
  if chanFree s k && (c.drive = .off || c.drive = .idle) && !fEq c.cmd f0 then
    let m := cMode (s.chCfg k)
    let s :=
      if m = 1 ∨ m = 4 then
        s.setChan k { c with gust := true, gustAt := s.mono, charged := 0, uncharged := 0 }
      else s
    requestOn s k
  else s

/-- A command comes into force (R252, R274, R282). -/
def setCmd (s : State) (k : Nat) (v : F32) : State :=
  chanDo s k fun s =>
    let c := s.chan k
    let s := s.setChan k { c with cmd := v }
    if ¬ c.committed then s
    else if fEq v f0 then
      if c.drive = .off then gustEnd s k 2 else gustEnd (switchOff s k .off) k 2
    else turnOn s k

/-- The host's command (R282), in force unless a loop or a safe action commands the channel. -/
def hostCmd (s : State) (k : Nat) (v : F32) : State :=
  let c := s.chan k
  let s := s.setChan k { c with host := v }
  if c.committed && cSrc (s.chCfg k) = 0 && c.forced.isNone then setCmd s k v else s

/-- The loop's command at its issue instant (04 R124, R252, R284). -/
def loopCmdTo (s : State) (k n : Nat) (amps : F32) : State :=
  let c := s.chan k
  let d := s.chCfg k
  if cSrc d = 1 ∧ cLoop d = n then
    let v := if c.waitCommit then f0 else fClamp amps f0 (cICont d)
    if c.committed && c.forced.isNone then setCmd s k v else s
  else s

/-- A safe action's command (R279): OFF, KEEP or SAFE_VALUE. -/
def chanSafe (s : State) (k : Nat) : State :=
  let d := s.chCfg k
  let force (v : F32) : State := setCmd (s.setChan k { s.chan k with forced := some v }) k v
  match cSafe d with
  | 0 => force f0
  | 2 => force (cSafeV d)
  | _ => s

/-! ## LIMIT, shorts and quiet windows -/

/-- Ticks a timer has run, and the timer paused or resumed (R263). -/
def ran (s : State) (run : Nat) (since : Option Nat) : Nat :=
  match since with | some t => run + (s.mono - t) | none => run
def startTimer (s : State) (k : Nat) : Option Nat :=
  if (s.stud (studOf k)).quietOpen then none else some s.mono

/-- The quiet window of a stud opens or is extended (R261): timers pause, attempts in progress are
marked. -/
def quietOpen (s : State) (v : Nat) : State :=
  let x := s.stud v
  let s := s.setStud v { x with quietOpen := true, quietUntil := s.mono + msT 2 }
  (studChans v).foldl (fun s k =>
    let c := s.chan k
    s.setChan k
      { c with
        quietSeen := c.quietSeen || c.attempt
        limRun := ran s c.limRun c.limFrom, limFrom := none
        retryRun := ran s c.retryRun c.retryFrom, retryFrom := none }) s

/-- The quiet window has run: paused timers resume (R263). -/
def quietClose (s : State) (v : Nat) : State :=
  let s := s.setStud v { s.stud v with quietOpen := false }
  (studChans v).foldl (fun s k =>
    let c := s.chan k
    if c.drive = .limit then s.setChan k { c with limFrom := some s.mono }
    else if c.drive = .retryWait && !c.dieWait then s.setChan k { c with retryFrom := some s.mono }
    else s) s

/-- A perturbation slot ends (18 R577, R581). -/
def slotEnd (s : State) (i cause : Nat) : State :=
  match tfind s.tst.slots i with
  | none => s
  | some p =>
    let s := { s with tst := { s.tst with slots := tdel s.tst.slots i } }
    let s := if p.kind = 8 then seeEnc s p.target (s.src p.target).pair else s
    emit s 0x1001 0xFFFF (b1 i ++ b1 p.kind ++ b1 0 ++ b1 cause)

/-- A channel stands in LIMIT, or LIMIT_TIME or a trip has ended its LIMIT at this instant: a short then wins (R274). -/
def inLimit (s : State) (k : Nat) : Bool :=
  let c := s.chan k
  c.drive = .limit || c.limitLeft = some s.mono

/-- A channel is classified as shorted (R261), whatever else latched it at the instant (R274); a simulated short completes
at its latch (18 R577). -/
def shorted (s : State) (k : Nat) : State :=
  let s := chanDo s k fun s =>
    let s := latchNow s k 1
    s.setChan k { s.chan k with latch := some 1 }
  let s := quietOpen s (studOf k)
  match perturb s 6 k with
  | some (i, _) => slotEnd s i 4
  | none => s

/-- LIMIT ends at this instant by LIMIT_TIME or a trip. -/
def leaveLimit (s : State) (k : Nat) : State :=
  let c := s.chan k
  if c.drive = .limit then s.setChan k { c with limitLeft := some s.mono } else s

/-- An attempt of a gust ends by LIMIT_TIME or die over-temperature (R262, R263). -/
def attemptEnd (s : State) (k : Nat) : State :=
  let c := s.chan k
  let free := c.quietSeen && decide (c.uncharged < 8)
  let c1 := if free then { c with uncharged := c.uncharged + 1 } else { c with charged := c.charged + 1 }
  let s := s.setChan k c1
  if !free && decide (1 + cRetries (s.chCfg k) ≤ c1.charged) then latchNow s k 2
  else
    let s := switchOff s k .retryWait
    s.setChan k { s.chan k with retryFrom := startTimer s k }

/-- CURRENT_LIMIT_ENTRY (R259). -/
def xCurrentLimitEntry (k riseNs : Nat) (s : State) : State :=
  let c := s.chan k
  if chanFree s k && c.drive = .on && c.conducting then
    let il := cILim (s.chCfg k)
    let rate := fDiv (fMul (fDec 8 10) il) (fDiv (fOfNat riseNs) (fOfNat 1000))
    s.setChan k
      { c.amps (sampleNo s) il with
        drive := .limit, didt := rate, limitAt := s.mono, limRun := 0, limFrom := startTimer s k,
        shortTested := false, notLow := false, quietSeen := c.quietSeen || (s.stud (studOf k)).quietOpen }
  else s

def setVolts (s : State) (v : Nat) (x : F32) : State :=
  s.setStud v { s.stud v with volts := x, voltsAt := some (sampleNo s) }

/-- SHORT_CLASSIFY_CHECK (R260): the one sample 10 µs after the entry into LIMIT. -/
def xShortClassifyCheck (k : Nat) (vOut vStud : F32) (s : State) : State :=
  let c := s.chan k
  let d := s.chCfg k
  if inLimit s k && !c.shortTested && s.past c.limitAt (usT 10) && !s.past c.limitAt (usT 11) then
    let vOut := if (perturb s 6 k).isSome then f0 else vOut
    let low := fLt vOut (fMul (cFrac d) vStud)
    let s := setVolts s (studOf k) vStud
    let s := s.setChan k { c with vout := vOut, voutAt := some (sampleNo s), shortTested := true, notLow := !low }
    if low && fLe (cDidt d) c.didt then shorted s k else s
  else s

/-- SHORT_CONFIRM_EXPIRY (R260): the output has stayed low without a break for SHORT_CONFIRM, of which the row tells; one
that a sample has shown not low in this LIMIT has not. -/
def xShortConfirmExpiry (k : Nat) (s : State) : State :=
  let c := s.chan k
  if inLimit s k && !c.notLow && s.past c.limitAt (usT (cConfirm (s.chCfg k))) then shorted s k else s

/-- QUIET_WINDOW_EXPIRY (R263). -/
def xQuietWindowExpiry (v : Nat) (s : State) : State :=
  let x := s.stud v
  if x.quietOpen && decide (x.quietUntil ≤ s.mono) then quietClose s v else s

/-- LIMIT_EXIT (R262): the current is below I_LIMIT; a turn-on that never reached it ends in the
same way (log entry 30). -/
def xLimitExit (k : Nat) (s : State) : State :=
  let c := s.chan k
  if c.drive = .limit || (c.drive = .on && c.turnOn) then
    let s := s.setChan k
      { c with drive := .on, turnOn := false, attempt := false, limFrom := none, limRun := 0 }
    gustEnd s k 0
  else s

/-- LIMIT_TIME_EXPIRY (R262). -/
def xLimitTimeExpiry (k : Nat) (s : State) : State :=
  let c := s.chan k
  if c.drive = .limit && decide (msT (cLimTime (s.chCfg k)) ≤ ran s c.limRun c.limFrom) then
    let s := leaveLimit s k
    if c.gust then chanDo s k (attemptEnd · k) else latchOff s k 3
  else s

/-- RETRY_OFF_EXPIRY (R263): the next attempt, or the die gate. -/
def xRetryOffExpiry (k : Nat) (s : State) : State :=
  let c := s.chan k
  if c.drive = .retryWait && !c.dieWait &&
      decide (msT (cRetryOff (s.chCfg k)) ≤ ran s c.retryRun c.retryFrom) then
    if chanFree s k then chanDo s k (requestOn · k)
    else s.setChan k { c with dieWait := true, retryFrom := none }
  else s

/-! ## Dies (R263, R264) -/

def setTemp (s : State) (d : Nat) (t : F32) : State :=
  s.setDie d { s.die d with temp := t, sampled := true, sampleNo := s.mono / 2500 }

/-- One channel of a die that trips. -/
def tripChan (s : State) (k : Nat) : State :=
  let c := s.chan k
  if c.latch.isSome || c.lock.isSome then s
  else chanDo s k fun s =>
    let s := leaveLimit (s.setChan k { c with thermal := true }) k
    if c.gust && (c.drive = .on || c.drive = .limit) then attemptEnd s k
    else if c.gust then
      let s := unqueue s k
      let c := s.chan k
      if c.drive = .gateWait then s.setChan k { c with dieWait := true, studWait := false } else s
    else if c.committed then switchOff s k .off else s

/-- DIE_OVER_TEMPERATURE (R264). -/
def xDieOverTemperature (d : Nat) (t : F32) (s : State) : State :=
  let s := setTemp s d t
  if fLe (fOfNat 170) t && !(s.die d).tooHot then
    let recent := (s.die d).trips.filter fun x => decide (s.mono < x + secT 60)
    let trips := s.mono :: recent
    let s := s.setDie d { s.die d with tooHot := true, trips := trips }
    if 16 ≤ trips.length then latchOff (latchOff s (2 * d) 5) (2 * d + 1) 5
    else tripChan (tripChan s (2 * d)) (2 * d + 1)
  else s

/-- A channel whose die gate opens (R264, R263). -/
def coolChan (s : State) (k : Nat) : State :=
  chanDo s k fun s =>
    let s := s.setChan k { s.chan k with thermal := false }
    let c := s.chan k
    if chanFree s k then
      if c.dieWait then requestStud s k else if c.drive = .retryWait then s else turnOn s k
    else s

/-- DIE_GATE_OPEN (R264, 15 R517): the die is at +140 °C or below. -/
def xDieGateOpen (d : Nat) (t : F32) (s : State) : State :=
  let s := setTemp s d t
  if fLe t (fOfNat 140) then
    let s := s.setDie d { s.die d with tooHot := false }
    coolChan (coolChan s (2 * d)) (2 * d + 1)
  else s

/-- DIE_SENSOR_FAULT (R264): the sample of this 10 µs, and the change from the one before. -/
def xDieSensorFault (d : Nat) (t : F32) (s : State) : State :=
  let bad := fLt t (fOfInt (-55)) || fLt (fOfNat 200) t || fIsNaN t ||
    fLt (fOfNat 20) (fAbs (fSub t (dieAt s d (s.mono / 2500 - 1))))
  let s := setTemp s d t
  if bad then latchOff (latchOff s (2 * d) 6) (2 * d + 1) 6 else s

/-! ## Stud supply (R265 to R267) -/

/-- UV_A or UV_B of LSW_SUPPLY (Table 8.12). -/
def uvBit (s : State) (v : Nat) : Bool :=
  (studChans v).any fun k => (s.chan k).uv && s.st (chFid k) = .running

/-- A channel enters SUPPLY_OFF (R267). -/
def supplyOff (s : State) (k : Nat) (under : Bool) : State :=
  chanDo s k fun s =>
    let c := s.chan k
    let s := s.setChan k
      { c with uv := c.uv || under, ov := c.ov || !under, supplyAt := s.mono }
    let s := switchOff s k .off
    gustEnd s k 2

/-- FSRC48 and FSRC49 follow LSW_SUPPLY (14 Table 14.4). -/
def supplySource (s : State) (v : Nat) : State :=
  let ov := (s.stud v).ov
  let err := ov || uvBit s v
  if err = (s.src (48 + v)).inErr then s else setErr s (48 + v) err (if ov then 2 else 1)

/-- STUD_UNDER_VOLTAGE (R265): 20 µs at x or below. -/
def xStudUnderVoltage (v : Nat) (x : F32) (s : State) : State :=
  let s := setVolts s v x
  let s := s.setStud v { s.stud v with level := some x }
  let s := (studChans v).foldl (fun s k =>
    if chanLive s k && !(s.chan k).uv && fLt x (cUvOff (s.chCfg k)) then supplyOff s k true else s) s
  supplySource s v

/-- STUD_OVER_VOLTAGE (R266): the 20 ms mean above 34.0 V, or 50 µs above 40.0 V. -/
def xStudOverVoltage (v : Nat) (x : F32) (byMean : Bool) (s : State) : State :=
  let s := if byMean then s else setVolts s v x
  if fLt (fOfNat (if byMean then 34 else 40)) x then
    let s := s.setStud v { s.stud v with ov := true, ovAt := s.mono }
    let s := (studChans v).foldl (fun s k =>
      if chanLive s k && !(s.chan k).ov then supplyOff s k false else s) s
    supplySource s v
  else s

/-- A span of the stud begins after a tick and lasts the settle time (R265, R266). -/
def spanLasts (s : State) (q : StudSpan) (since ms : Nat) : Bool :=
  decide (q.ns ≤ 4 * (s.mono - since) ∧ 1000000 * ms ≤ q.ns)
/-- The over-voltage condition has ended (R266): means at 33.0 V or below, no sample above 40.0 V. -/
def spanNoOver (q : StudSpan) : Bool := fLe q.mean (fOfNat 33) && fLe q.high (fOfNat 40)

/-- One channel when its stud has stood so for a span (R265 to R267): each waits its own UV_SETTLE, from the stud's return
to its UV_ON, and for an over-voltage from the stud's return to 33.0 V. -/
def settleChan (s : State) (k : Nat) (q : StudSpan) : State :=
  let c := s.chan k
  let d := s.chCfg k
  let uvOk := !c.uv || fLe (cUvOn d) q.low
  let ovOk := !c.ov || (spanNoOver q && spanLasts s q (s.stud (studOf k)).ovAt (cUvSettle d))
  if (c.uv || c.ov) && uvOk && ovOk && spanLasts s q c.supplyAt (cUvSettle d) then
    chanDo s k fun s => turnOn (s.setChan k { c with uv := false, ov := false }) k
  else s

/-- STUD_SUPPLY_SETTLED (R265, R266): how the stud has stood over a span that ends now. Its own condition (Table 8.12) ends
with the longest UV_SETTLE of the channels it holds off, and 50 ms with none. -/
def xStudSupplySettled (v : Nat) (q : StudSpan) (s : State) : State :=
  let s := s.setStud v { s.stud v with level := some q.low }
  let held := (studChans v).filter fun k => (s.chan k).ov
  let wait := held.foldl (fun m k => max m (cUvSettle (s.chCfg k))) (if held.isEmpty then 50 else 0)
  let s := if (s.stud v).ov && spanNoOver q && spanLasts s q (s.stud v).ovAt wait
    then s.setStud v { s.stud v with ov := false } else s
  supplySource ((studChans v).foldl (fun s k => settleChan s k q) s) v

/-! ## Overload, open load, clamp (R268 to R273) -/

/-- CHANNEL_OVERLOAD (R268), in every output state of a lower precedence. -/
def xChannelOverload (k : Nat) (mean : F32) (s : State) : State :=
  let c := s.chan k
  if c.committed && c.latch.isNone && c.lock.isNone && fLt (fMul (fDec 11 10) (cICont (s.chCfg k))) mean
  then latchOff s k 4 else s

/-- OPEN_LOAD_DETECT (R269). -/
def xOpenLoadDetect (k : Nat) (isOpen : Bool) (current : F32) (s : State) : State :=
  let c := s.chan k
  let d := s.chCfg k
  let io := cIOpen d
  if outState s k = 2 && fLt f0 io && (cMode d ≠ 3 || fLe (fMul (fOfNat 2) io) c.cmd) then
    let s := s.setChan k (c.amps (sampleNo s) current)
    if isOpen && fLt current io && !c.openLoad then
      let s := s.setChan k { s.chan k with openLoad := true }
      emitFault s 0x0704 (chFid k) (leF current)
    else if !isOpen && fLe io current then s.setChan k { s.chan k with openLoad := false }
    else s
  else s

/-- The clamp events that count now, newest first (R271). -/
def clampsNow (s : State) (k : Nat) : List (Nat × F32) :=
  (s.chan k).clamps.filter fun e => decide (s.mono < e.1 + secT 10)
/-- The clamp window (R271). -/
def clampWindow (s : State) (k : Nat) : F32 := fSum ((clampsNow s k).reverse.map (·.2))
/-- E_CLASS and E_SINGLE (Table 8.1). -/
def eSingle (k : Nat) : F32 := if classH k then fHalf else fDec 15 100

/-- CLAMP_EVENT_BEGIN (R271). -/
def xClampEventBegin (k : Nat) (s : State) : State :=
  let c := s.chan k
  if !c.conducting && !c.clamping then s.setChan k { c with clamping := true, clampAt := s.mono } else s

/-- The energy of a clamp event: the sum of (stud voltage − output voltage) × current × 1 µs over its samples (R271). -/
def clampEnergy (l : List ClampSample) : F32 :=
  fSum (l.map fun x => fMul (fMul (fSub x.stud x.out) x.current) (fDec 1 1000000))

/-- The samples of an event, one a µs since its begin: the last alone stands below 50 mA. -/
def clampWhole (s : State) (k : Nat) (l : List ClampSample) : Bool :=
  let n := (s.mono - (s.chan k).clampAt) / 250
  decide (n ≤ l.length ∧ l.length ≤ n + 1) && match l.reverse with
    | [] => false
    | x :: r => fLt x.current (fDec 5 100) && r.all fun y => fLe (fDec 5 100) y.current

/-- CLAMP_EVENT_END (R271 to R273): the event's samples. -/
def xClampEventEnd (k : Nat) (samples : List ClampSample) (s : State) : State :=
  let c := s.chan k
  let d := s.chCfg k
  let energy := clampEnergy samples
  if c.clamping && clampWhole s k samples then
    let s := s.setChan k { c with clamping := false, clamps := (s.mono, energy) :: clampsNow s k }
    let missing := cKind d = 1 && fLt (fDec 1 1000) energy
    let quiet := match c.freeAt with | some t => decide (s.mono < t + secT 10) | none => false
    let s := if missing then s.setChan k { s.chan k with freeSeen := some s.mono } else s
    let s := if missing && !quiet then
        emitFault (s.setChan k { s.chan k with freeAt := some s.mono }) 0x0703 (chFid k) (leF energy)
      else s
    if fLt (eSingle k) energy then lockOff s k 8
    else if fLe (cEBudget d) (clampWindow s k) then lockOff s k 7 else s
  else s

/-- CLAMP_WINDOW_AGE_OUT (R271). -/
def xClampWindowAgeOut (k : Nat) (s : State) : State :=
  s.setChan k { s.chan k with clamps := clampsNow s k }

/-! ## Stud gates -/

/-- Waiting turn-ons are admitted in order while the gate admits them (R514). -/
def admitQueue (s : State) : List (Nat × Nat) → State
  | [] => s
  | (_, k) :: r =>
    if !dieOpen s k then
      let s := unqueue s k
      admitQueue (s.setChan k { s.chan k with dieWait := true, studWait := false }) r
    else if gateAdmits s k then admitQueue (chanDo s k (grantOn · k)) r
    else s

def admitStud (s : State) (v : Nat) : State := admitQueue s (s.stud v).queue

/-- STUD_GATE_ADMIT (R514): the channels' 1 ms mean currents, and the turn-ons they allow. -/
def xStudGateAdmit (v : Nat) (means : List F32) (s : State) : State :=
  let s := ((studChans v).zip means).foldl (fun s e =>
    s.setChan e.1 { s.chan e.1 with meanA := e.2 }) s
  admitStud s v

/-- STUD_CURRENT_GATE (R516). -/
def xStudCurrentGate (v : Nat) (mean : F32) (s : State) : State :=
  let x := s.stud v
  let s := s.setStud v { x with meanA := mean }
  let ev (s : State) (b : Nat) : State :=
    emit s 0x0204 0xFFFF (b1 v ++ b1 b ++ zeros 2 ++ leF mean)
  if !x.closed && fLt (fOfNat 70) mean then ev (s.setStud v { s.stud v with closed := true }) 1
  else if x.closed && fLe mean (fDec 665 10) then
    admitStud (ev (s.setStud v { s.stud v with closed := false }) 0) v
  else s

/-! ## PWM (R253 to R256) -/

/-- A carrier instant (R253, 05 R163): of a locked channel on its domain, of another every T from its commit, at the first
tick that has reached it. -/
def carrierInstant (s : State) (k : Nat) : Bool :=
  let c := s.chan k
  let t := cT (s.chCfg k)
  match c.carrier with
  | some (d, ph) => atGrid (s.tdNs d) ph t
  | none => decide ((s.mono - c.commitTick) * 4 % t < 4)

/-- A carrier period starts now: at a carrier instant at least T/2 after the last period start (R253, 05 R163, R164). -/
def periodDue (s : State) (k : Nat) : Bool :=
  let c := s.chan k
  carrierInstant s k && (c.periodNone || decide (cT (s.chCfg k) ≤ (s.mono - c.periodAt) * 8))

/-- The duty in force at a period's start (R254, R256). -/
def periodDuty (d : Bytes) (cmd vMean : F32) : F32 × Bool :=
  if cMode d = 4 then
    let ratio := fDiv (cVnom d) vMean
    let dc := fMul cmd (fMul ratio ratio)
    (fMin dc f1, fLt f1 dc)
  else (cmd, false)

/-- PWM_PERIOD_START (R254 to R256). -/
def xPwmPeriodStart (k : Nat) (vMean : F32) (s : State) : State :=
  let c := s.chan k
  let d := s.chCfg k
  if chanFree s k && decide (2 ≤ cMode d) && periodDue s k then
    let s := s.setChan k { c with periodAt := s.mono, periodNone := false, onFrom := s.mono, periodLen := cT d }
    let c := s.chan k
    if c.drive = .on && !c.gust then
      if cMode d = 3 then
        let (n, s) := s.draw
        s.setChan k { c with conducting := true, turnOn := false, duty := Config.freeF32 n }
      else
        let (dc, cap) := periodDuty d c.cmd vMean
        let u := onTime k d dc
        s.setChan k
          { c with
            onUnits := u, conducting := decide (0 < u), turnOn := false, capped := cap
            duty := fDiv (fOfNat (5 * u)) (fOfNat (2 * cT d)) }
    else s
  else s

/-- PWM_ON_TIME_END (R254): the on-time of the period has run; in mode 3 the regulator ends it. -/
def xPwmOnTimeEnd (k : Nat) (s : State) : State :=
  let c := s.chan k
  let d := s.chCfg k
  if c.drive = .on && c.conducting && !c.gust && decide (2 ≤ cMode d) &&
      (cMode d = 3 || (decide (5 * c.onUnits < 2 * c.periodLen) &&
        decide (5 * c.onUnits ≤ (s.mono - c.onFrom) * 8))) then
    s.setChan k { c with conducting := false }
  else s

/-! ## Lifecycle (R250, R275 to R279) -/

/-- The channels whose applied I_CONT is counted (R250). -/
def chanCounts (s : State) (k : Nat) : Bool :=
  match s.st (chFid k) with
  | .starting | .running | .stopping | .faulted => true
  | _ => false

def iContSum (s : State) (l : List Nat) : F32 :=
  fSum ((l.filter (chanCounts s)).map fun k => cICont (s.chCfg k))

/-- The checks of START of a channel, in the order of R31 (R250, R275, 05 R163, 15 R515). -/
def chanCheck (s : State) (k : Nat) : State × Verdict :=
  let d := s.stg (.chan k)
  let g := lockGroup s k
  let m := cMode d
  let stud := studOf k
  let verdict : Verdict :=
    if s.fcr.safeStopped then some (stWrongState, 0)
    else if (m = 4 ∧ cKind d ≠ 0) ∨ (m ≠ 1 ∧ cKind d = 2) ∨ (cSrc d = 1 ∧ m ≠ 3) then
      some (stBadParam, noField)
    else if !cmdValid d (cSafeV d) || !fLe (fMul (fDec 12 10) (cICont d)) (cILim d) then
      some (stBadParam, noField)
    else if (if g.isSome then decide (1000000000 % cT d ≠ 0) else decide (cT d % 10 ≠ 0)) then some (stBadParam, noField)
    else if fLt (fOfNat 70) (fAdd (iContSum s (studChans stud)) (cICont d)) ||
        fLt (fOfNat 140) (fAdd (iContSum s (List.range 24)) (cICont d)) ||
        fLt (s.stud stud).allow (cILim d) then some (stOverBudget, 0)
    else match g with
      | some g =>
        if s.st (tdFid (gDomain (s.stg (.group g)))) = .running then none else some (stWrongState, 0)
      | none => none
  (s, verdict)

/-- The first carrier instant of a phase and period at or after a domain time in ns. -/
def carrierFrom (ns ph t : Nat) : Nat := ns + (t - (ns + 1000000000 - ph) % t) % t

/-- START of a channel is committed (R275, 05 R163). -/
def chanCommit (s : State) (k : Nat) : State :=
  let s := beginStart s (chFid k)
  let c := s.chan k
  let car := (lockGroup s k).map fun g => (gDomain (s.stg (.group g)), gPhase (s.stg (.group g)))
  s.setChan k
    { c with
      committed := false, drive := .idle, cmd := f0, forced := none, carrier := car
      commitTick := s.mono + usT 20, hold := none, periodNone := true, capped := false, duty := f0
      openLoad := false
      commitNs := car.map fun e => carrierFrom (s.tdNs e.1 + 20000) e.2 (cT (s.chCfg k)) }

/-- CHANNEL_START_COMMIT (R275): the commit instant. -/
def xChannelStartCommit (k : Nat) (s : State) : State :=
  let c := s.chan k
  let due := match c.carrier, c.commitNs with
    | some (d, _), some n => decide (n ≤ s.tdNs d)
    | _, _ => decide (c.commitTick ≤ s.mono)
  if s.st (chFid k) = .starting && due then
    chanDo s k fun s =>
      let s := changeState s (chFid k) .running
      let d := s.chCfg k
      let c := s.chan k
      let s := s.setChan k
        { c with
          committed := true, drive := .off, commitTick := s.mono
          uv := (s.stud (studOf k)).level.any fun x => fLt x (cUvOff d), ov := (s.stud (studOf k)).ov
          supplyAt := s.mono, thermal := (s.die (dieOf k)).tooHot
          cmd := if cSrc d = 0 then c.host else f0 }
      turnOn s k
  else s

/-- STOP of a channel (R276). -/
def chanStop (s : State) (k : Nat) : State :=
  let s := beginStop s (chFid k)
  chanDo s k fun s =>
    let s := switchOff s k .off
    let s := gustEnd s k 2
    s.setChan k { s.chan k with cmd := f0, forced := some f0, hold := none }

/-- A channel is OFF: its host value is 0.0 (R252). -/
def chanOff (s : State) (k : Nat) : State :=
  chanDo s k fun s =>
    let c := s.chan k
    s.setChan k
      { c with
        committed := false, drive := .idle, host := f0, cmd := f0, forced := none, uv := false, ov := false
        thermal := false, openLoad := false, carrier := none }

/-- A locked channel's domain has been stepped (05 R164): the next period starts at the first carrier instant of the new
time at least T/2 after the last start, and the present one keeps its duty as a fraction of its length. -/
def periodStretch (s : State) (k : Nat) : State :=
  let c := s.chan k
  match c.carrier with
  | some (d, ph) =>
    let t := cT (s.chCfg k)
    let ago := (s.mono - c.periodAt) * 4
    let len := ago + (carrierFrom (s.tdNs d + (t / 2 - ago)) ph t - s.tdNs d)
    if c.periodNone || c.periodLen = 0 then s
    else s.setChan k { c with onUnits := roundEven (c.onUnits * len) c.periodLen, periodLen := len }
  | none => s

/-- CHANNEL_STOP_COMPLETE (R276). -/
def xChannelStopComplete (k : Nat) (s : State) : State :=
  let f := s.fn (chFid k)
  if f.st = .stopping && (!(s.chan k).clamping || s.past f.since (msT 50)) then
    let s := if f.toFault then s else chanOff s k
    finishStop (chanCheck · k) (chanCommit · k) (chFid k) s
  else s

/-- A fault's reaction on a channel (R279; 14 R478). -/
def chanFault (s : State) (k : Nat) : State :=
  match s.st (chFid k) with
  | .starting | .running =>
    let s := chanSafe s k
    changeState (s.setChan k { s.chan k with hold := none }) (chFid k) .faulted
  | .stopping => faultStopping s (chFid k)
  | _ => s

/-- The reset of LSW (R277): output off, latches, locks, clamp and quiet windows and gust counts cleared. -/
def chanReset (s : State) (k : Nat) : State :=
  let s := chanDo s k fun s =>
    let s := gustEnd (switchOff s k .idle) k 2
    let c := s.chan k
    s.setChan k { cycles := c.cycles, cyclesStored := c.cyclesStored }
  let s := s.setDie (dieOf k) { s.die (dieOf k) with trips := [], tooHot := false }
  let s := s.setStud (studOf k) { s.stud (studOf k) with quietOpen := false }
  blockReset s (chFid k)

/-! ## Holds (R278, R279, 05 R165) -/

/-- HOLD_TIME of a channel in ms: its own, or its group's staged one. -/
def chanHoldMs (s : State) (k : Nat) : Nat :=
  match lockGroup s k with
  | some g => gHold (s.stg (.group g))
  | none => cHold (s.chCfg k)

/-- The hold of a channel runs out: safe action and FAULTED. -/
def chanHoldEnd (s : State) (k : Nat) : State :=
  let s := s.setChan k { s.chan k with hold := none }
  let s := chanSafe s k
  changeState s (chFid k) .faulted

/-- A processor-complex reset on a channel (R278, 05 R165). -/
def chanCoreReset (s : State) (k : Nat) : State :=
  let c := s.chan k
  let locked := (lockGroup s k).isSome
  if (s.st (chFid k)).live && c.hold.isNone && (locked || cSrc (s.chCfg k) = 0) then
    let s := s.setChan k { c with hold := some s.mono }
    if chanHoldMs s k = 0 then chanHoldEnd s k else s
  else s

/-- CHANNEL_HOLD_EXPIRY (R278, R279). -/
def xChannelHoldExpiry (k : Nat) (s : State) : State :=
  match (s.chan k).hold with
  | some t =>
    if (s.st (chFid k)).live && s.past t (msT (chanHoldMs s k)) then chanHoldEnd s k else s
  | none => s

/-- SWITCHING_CYCLES_STORE (Table 8.8): every 10 min. -/
def xSwitchingCyclesStore (s : State) : State :=
  if s.past s.lsw.storeAt (secT 600) then
    let s := forN 24 (fun s k => s.setChan k { s.chan k with cyclesStored := (s.chan k).cycles }) s
    { s with lsw := { s.lsw with storeAt := s.mono } }
  else s

/-! ## Opcodes (R281 to R285) -/

/-- LSW_CONFIG (R281). -/
def opLswConfig (s0 : State) : OpSpec where
  code := 0x0700
  token := true
  len := fun _ => 64
  layout := chanChecks fun k => (lockGroup s0 k).isSome
  body := fun s p =>
    let k := byteAt p 0
    cfgAnswer s [chFid k] fun s =>
      let old := s.stg (.chan k)
      let s := s.setStg (.chan k) p
      if cMode old = cMode p then s else s.setChan k { s.chan k with host := f0 }

/-- The entries of LSW_COMMAND: channel, value, offset. -/
def cmdEntries (p : Bytes) : List (Nat × F32 × Nat) :=
  (List.range (byteAt p 0)).map fun i => (byteAt p (4 + 8 * i), rdF p (8 + 8 * i), 4 + 8 * i)

/-- The first entry that R282 refuses. -/
def cmdBad (s : State) (seen : List Nat) : List (Nat × F32 × Nat) → Option Nat
  | [] => none
  | (k, v, o) :: r =>
    let d := s.stg (.chan k)
    if seen.contains k || cSrc d = 1 || !cmdValid d v then some o else cmdBad s (k :: seen) r

/-- Insert a command entry in ascending channel order. -/
def insertCmd (e : Nat × F32) : List (Nat × F32) → List (Nat × F32)
  | [] => [e]
  | x :: r => if e.1 ≤ x.1 then e :: x :: r else x :: insertCmd e r

/-- A command names a channel: it ends the channel's own hold (R278). -/
def cmdTo (s : State) (e : Nat × F32) : State :=
  let s := if (lockGroup s e.1).isNone then s.setChan e.1 { s.chan e.1 with hold := none } else s
  hostCmd s e.1 e.2

/-- LSW_COMMAND (R282). -/
def opLswCommand : OpSpec where
  code := 0x0701
  token := true
  len := fun p => 4 + 8 * byteAt p 0
  layout := fun p => [ckRange p 0 1 1 24, ckZero p 1 3] ++ (cmdEntries p).flatMap fun e =>
    [ckRange p e.2.2 1 0 23, ckZero p (e.2.2 + 1) 3, ckF p (e.2.2 + 4)]
  body := fun s p =>
    match cmdBad s [] (cmdEntries p) with
    | some o => badParam s o
    | none =>
      okAns ((((cmdEntries p).map fun e => (e.1, e.2.1)).foldr insertCmd []).foldl cmdTo s)

/-- The flags of Table 8.8. -/
def chanFlags (s : State) (k : Nat) : Nat :=
  let c := s.chan k
  let recent := match c.freeSeen with | some t => decide (s.mono < t + secT 10) | none => false
  bit (s.stud (studOf k)).quietOpen 0 + bit c.openLoad 1 + bit c.capped 2 + bit c.hold.isSome 3 +
    bit c.dieWait 4 + bit recent 5 + bit c.studWait 6

/-- An entry of LSW_STATUS (Table 8.8). -/
def chanEntry (s : State) (k : Nat) : Bytes :=
  let c := s.chan k
  b1 k ++ b1 (outState s k) ++ b1 (outCause s k) ++ b1 (chanFlags s k) ++ leF (ampsNow s k) ++
    leF (voutNow s k) ++ leF (studNow s (studOf k)) ++ leF c.duty ++ leF (clampWindow s k) ++
    tenths 2 (dieNow s (dieOf k)) ++ b1 c.charged ++ b1 c.uncharged ++ le 4 c.cycles

/-- LSW_STATUS (R283). -/
def opLswStatus : OpSpec where
  code := 0x0702
  len := fun _ => 4
  layout := fun p => [ckRange p 0 1 0 23,
    (1, decide (1 ≤ byteAt p 1 ∧ byteAt p 0 + byteAt p 1 ≤ 24)), ckZero p 2 2]
  body := fun s p =>
    okWith s (leT s.now ++ (List.range (byteAt p 1)).flatMap fun i => chanEntry s (byteAt p 0 + i))

/-- Ticks until a locked channel's window is at half its budget: its oldest events leave first
(R272, R284). -/
def hotTicks (s : State) (half : F32) : List (Nat × F32) → Nat
  | [] => 0
  | e :: r =>
    if fLe (fSum ((e :: r).map (·.2))) half then 0
    else max (e.1 + secT 10 - s.mono) (hotTicks s half r)

def halfBudget (s : State) (k : Nat) : F32 := fMul fHalf (cEBudget (s.chCfg k))
def clampHot (s : State) (k : Nat) : Bool :=
  (s.chan k).lock.isSome && fLt (halfBudget s k) (clampWindow s k)

/-- One channel released by LSW_CLEAR (R284). -/
def clearChan (s : State) (k : Nat) : State :=
  let c := s.chan k
  if c.latch.isSome || c.lock.isSome then
    let s := s.setDie (dieOf k) { s.die (dieOf k) with trips := [] }
    chanDo s k fun s =>
      let loop := decide (cSrc (s.chCfg k) = 1)
      s.setChan k
        { c with
          latch := none, lock := none, charged := 0, uncharged := 0, cmd := f0
          host := if loop then c.host else f0, waitCommit := loop
          drive := if c.committed then .off else .idle }
  else s

/-- LSW_CLEAR (R284, R285). -/
def opLswClear : OpSpec where
  code := 0x0703
  token := true
  len := fun _ => 4
  layout := fun p => [ckMask p 0 4 0xFFFFFF]
  body := fun s p =>
    let l := (List.range 24).filter fun k => (rd p 0 4).testBit k
    let hot := l.filter (clampHot s)
    if hot.isEmpty then okAns (l.foldl clearChan s)
    else
      let t := hot.foldl (fun m k => max m (hotTicks s (halfBudget s k) (clampsNow s k).reverse)) 0
      failAns s 0x80 (min 10000 ((t + 249999) / 250000))

end Sys2Proof.Machine
end

