-- ==== Sys2Proof/Machine/Sensing.lean ====
section
/-! DEFINITION. Crop and machine sensing inputs (chapter 06): hit detection, features, classifier,
counting windows, analog, frequency, position and inertial inputs, validity, and their opcodes. -/

namespace Sys2Proof.Machine

def State.imp (s : State) (k : Nat) : Imp := tget {} s.cse.imps k
def State.setImp (s : State) (k : Nat) (v : Imp) : State :=
  { s with cse := { s.cse with imps := tput s.cse.imps k v } }
def State.ain (s : State) (k : Nat) : Ain := tget {} s.cse.ains k
def State.setAin (s : State) (k : Nat) (v : Ain) : State :=
  { s with cse := { s.cse with ains := tput s.cse.ains k v } }
def State.fin (s : State) (k : Nat) : Fin8 := tget {} s.cse.fins k
def State.setFin (s : State) (k : Nat) (v : Fin8) : State :=
  { s with cse := { s.cse with fins := tput s.cse.fins k v } }
def State.pos (s : State) (k : Nat) : PosIn := tget {} s.cse.poss k
def State.setPos (s : State) (k : Nat) (v : PosIn) : State :=
  { s with cse := { s.cse with poss := tput s.cse.poss k v } }
def State.cset (s : State) (k : Nat) : CSet := tget {} s.cse.sets k
def State.setCset (s : State) (k : Nat) (v : CSet) : State :=
  { s with cse := { s.cse with sets := tput s.cse.sets k v } }

/-! ## Validity (R196, R197, Table 6.5) -/

/-- CSE produces values: from event 2 of Table 1.12, in RUN and BREEZE (R197). -/
def producing (s : State) : Bool := decide (2 ≤ s.boot.phase) && decide (s.pwr.state ≤ 1)
/-- A VREF5 supply (1 A, 2 B) is on and not in its current limit (R196, 02 R63). -/
def vrefOk (s : State) (v : Nat) : Bool :=
  if v = 1 then s.boot.vrefA = 1 && !Config.vrefLimited 0 s.mono
  else if v = 2 then s.boot.vrefB = 1 && !Config.vrefLimited 1 s.mono
  else true
def inCfgOf (c : InCfg) : Bytes := c.cur.getD []
def settling (s : State) (c : InCfg) : Bool := decide (s.mono < c.settle)

/-- The configuration record of an input, by the selectors of Table 6.13. -/
def inCfg (s : State) (sel k : Nat) : InCfg :=
  match sel with
  | 1 => (s.ain k).c | 2 => (s.fin k).c | 3 => (s.pos k).c | 4 => (s.imp k).c | _ => s.cse.imu.c

/-- A rate of updates stands at its next instant: the latest one lies a period back, or there was none. -/
def updateDue (s : State) (t : Option Nat) (period : Nat) : Bool :=
  match t with | some t => s.past t period | none => true

/-- An input's configuration waits for an update boundary that is now or gone by: it comes before the update (R198). -/
def commitDue (s : State) (sel k : Nat) : Bool :=
  match (inCfg s sel k).pend with | some (n, _) => decide (n < s.mono) | none => false

/-- Cause bits common to configured inputs; SUPPLY is told from the end of CSE's reset on, of any input whose
configuration names a VREF5, one that is off included (Table 6.5). -/
def causes (s : State) (c : InCfg) (off : Bool) (supply : Nat) : Nat :=
  bit off 4 + bit (settling s c) 5 + bit (decide (2 ≤ s.boot.phase) && !vrefOk s supply) 7 +
    bit (!producing s) 13

/-- Cause bits of an impact channel. -/
def impCauses (s : State) (k : Nat) : Nat :=
  let x := s.imp k
  let d := inCfgOf x.c
  let off := x.c.cur.isNone || decide (impMode d = 0)
  causes s x.c off 0 + bit x.selftest 12 +
    bit (!off && decide (impMode d = 1) && (s.cset (impSet d)).cur.isNone) 15

def impWord (s : State) (k : Nat) : Nat :=
  let x := s.imp k
  let c := impCauses s k
  let fresh := match x.last with | some w => w.valid | none => false
  if c = 0 ∧ fresh = true then (if impMode (inCfgOf x.c) = 1 then 7 else 3) else c

def ainWord (s : State) (k : Nat) : Nat :=
  let x := s.ain k
  let d := inCfgOf x.c
  let r := ainRef d
  let off := x.c.cur.isNone || decide (r = 0)
  let c := causes s x.c off (if r = 3 then 0 else r) + bit x.bad 6
  if c = 0 ∧ x.tick.isSome then 1 else c

/-- The odd partner of a quadrature pair (R189). -/
def quadPartner (s : State) (k : Nat) : Bool :=
  k % 2 = 1 && finMode (inCfgOf (s.fin (k - 1)).c) = 3
def qerrNow (s : State) (x : Fin8) : Bool :=
  match x.qerr with | some t => decide (s.mono < t + msT 1) | none => false

def finWord (s : State) (k : Nat) : Nat :=
  let x := s.fin k
  let d := inCfgOf x.c
  let off := x.c.cur.isNone || decide (finMode d = 0) || quadPartner s k
  let c := causes s x.c off (finSupply d)
  let q := qerrNow s x
  if c ≠ 0 then c + bit q 10
  else if finMode d = 3 then bit (!q) 1 + 4 + bit q 10 else 1

def posWord (s : State) (k : Nat) : Nat :=
  let x := s.pos k
  let d := inCfgOf x.c
  let off := x.c.cur.isNone || decide (posMode d = 0)
  let c := causes s x.c off (posSupply d) + bit x.excOff.isSome 8 +
    bit x.signal 9 + bit x.track 11 + bit x.range 6
  if c = 0 ∧ x.tick.isSome then 7 else c

def imuWord (s : State) : Nat :=
  let x := s.cse.imu
  let c := causes s x.c false 0 + bit x.sat 14
  if c = 0 ∧ x.tick.isSome then 1 else c

/-- The validity word of an input by the selectors of Table 6.13. -/
def inWord (s : State) (sel k : Nat) : Nat :=
  match sel with
  | 1 => ainWord s k | 2 => finWord s k | 3 => posWord s k | 4 => impWord s k | _ => imuWord s

/-! ## Counting windows (R180 to R185) -/

/-- Length of a window in seconds (R180). -/
def winSecs (w : WinRec) : F32 :=
  match w.odd with
  | none => fDec 1 100
  | some t => fDiv (fOfNat t) (fOfNat 250000000)
def rateOf (w : WinRec) (n : Nat) : F32 := fDiv (fOfNat n) (winSecs w)

/-- The flow for a signal S from the curve of a configuration (R184). -/
def flowSeg (d : Bytes) (sv : F32) (k : Nat) : F32 :=
  let s0 := curveS d k
  let f0' := curveF d k
  fFma (fSub sv s0) (fDiv (fSub (curveF d (k + 1)) f0') (fSub (curveS d (k + 1)) s0)) f0'

def flowAt (d : Bytes) (sv : F32) : F32 :=
  let n := impPts d
  if fLe sv (curveS d 0) then
    (if fEq (curveS d 0) f0 then curveF d 0 else fDiv (fMul (curveF d 0) sv) (curveS d 0))
  else
    match (List.range (n - 1)).find? fun k => fLe sv (curveS d (k + 1)) with
    | some k => flowSeg d sv k
    | none => flowSeg d sv (n - 2)

/-- Volts of one count of a range (Table 6.1). -/
def countVolts (r : Nat) : F32 :=
  if r = 0 then fDec 10 8192 else if r = 1 then fDec 25 81920 else fDec 625 8192000

/-- S over a window (R184). -/
def flowS (d : Bytes) (x : FlowSum) : F32 :=
  fMul (fDiv (fOfNat x.sum) (fOfNat x.samples)) (countVolts (impRange d))

/-- What the samples of a flow channel sum to over a window. -/
def flowOf (flow : List FlowSum) (k : Nat) : Option FlowSum :=
  flow.find? fun f => f.ch = k && decide (0 < f.samples)

/-- The window in progress of one channel ends at a time of TD0 (R180 to R185). -/
def endWindow (flow : Nat → Option FlowSum) (odd : Option Nat) (stop : T96) (s : State) (k : Nat) : State :=
  let x := s.imp k
  let d := inCfgOf x.c
  let clean := impCauses s k = 0
  let isFlow := impMode d = 2
  let sum := flow k
  let sv := match sum with | some f => if isFlow then flowS d f else f0 | none => f0
  let w : WinRec :=
    { n := x.win, s := sv, f := if isFlow then flowAt d sv else f0
      valid := clean && !x.winBad && (!isFlow || sum.isSome), start := s.cse.winStart
      startTick := s.cse.winTick, stop := stop, stopTick := s.mono, odd := odd, flow := isFlow }
  let h : FlowHist := { start := w.start, stop := w.stop, s := sv, valid := w.valid }
  s.setImp k
    { x with
      win := {}, winBad := !clean, ended := w :: x.ended,
      hist := if isFlow then (h :: x.hist).take 180000 else x.hist }

/-- An impact channel produces nothing (R182, R197): its window is not valid and its detector starts anew. -/
def impPause (s : State) (k : Nat) : State := s.setImp k { s.imp k with winBad := true, det := .armed }

/-- All windows end at a time of TD0, and new ones begin at one, now (R180, R181). -/
def endWindows (flow : Nat → Option FlowSum) (stop start : T96) (s : State) : State :=
  let odd := if s.cse.winOdd then some (s.mono - s.cse.winTick) else none
  let s := forN 32 (endWindow flow odd stop) s
  { s with cse := { s.cse with
      winNo := s.cse.winNo + 1, winStart := start, winTick := s.mono, winOdd := false,
      winGrid := s.tdNs 0 / 10000000 } }

/-- COUNTING_WINDOW_END (R180, R181): the next 10 ms boundary of TD0, at which the windows' times stand exactly; a
rest of less than 1 ms after a step joins the window that follows. -/
def xCountingWindowEnd (flow : List FlowSum) (s : State) : State :=
  let g := s.tdNs 0 / 10000000
  let t := T96.ofNs (g * 10000000)
  if producing s && decide (g ≠ s.cse.winGrid) then
    if s.cse.winOdd && decide (s.mono - s.cse.winTick < msT 1) then
      { s with cse := { s.cse with winGrid := g } }
    else endWindows (flowOf flow) t t s
  else s

/-- What a flow channel's samples sum to in the window that a step ends, a measured fact of no row. -/
def stepSum (s : State) (k : Nat) : Option FlowSum :=
  some { ch := k, sum := Config.stepFlow k s.cse.winNo, samples := max 1 ((s.mono - s.cse.winTick) / 125) }

/-- TD0 has been stepped from a time to the present one (R181): the window in progress ends, one of odd length
begins. -/
def windowStep (old : T96) (s : State) : State :=
  if producing s then
    let s := { s with cse := { s.cse with winOdd := true } }
    let s := endWindows (stepSum s) old s.now s
    { s with cse := { s.cse with winOdd := true } }
  else s

/-- A channel's oldest waiting window is published 200 µs after its end (R180). -/
def publishWindow (s : State) (k : Nat) : State :=
  let x := s.imp k
  match x.ended.reverse with
  | w :: r =>
    if s.past w.stopTick (usT 200) then
      s.setImp k
        { x with
          ended := r.reverse, last := some w
          lastFlow := if w.valid && w.flow then some w else x.lastFlow }
    else s
  | [] => s
def publishWindows (s : State) : State := forN 32 publishWindow s

/-! ## Hit detection and features (R173 to R179) -/

def absMax (l : List Int) : Nat := l.foldl (fun m x => max m x.natAbs) 0
def sqSum (l : List Int) : Nat := l.foldl (fun m x => m + x.natAbs * x.natAbs) 0
def absSum (l : List Int) : Nat := l.foldl (fun m x => m + x.natAbs) 0
/-- The first index at which a test holds, else the length. -/
def firstIdx (p : Int → Bool) : List Int → Nat
  | [] => 0
  | x :: r => if p x then 0 else 1 + firstIdx p r
/-- The last index at which a test holds, from a start index; `d` where none does. -/
def lastIdx (p : Int → Bool) (i d : Nat) : List Int → Nat
  | [] => d
  | x :: r => lastIdx p (i + 1) (if p x then i else d) r
/-- Pairs of consecutive samples. -/
def pairsOf (l : List Int) : List (Int × Int) := l.zip l.tail

/-- Integer square root, rounded down: `fuel` halvings of the step. -/
def isqrtGo (n : Nat) : Nat → Nat → Nat
  | 0, r => r
  | b + 1, r =>
    let t := r + 2 ^ b
    isqrtGo n b (if t * t ≤ n then t else r)
def isqrt (n : Nat) : Nat := isqrtGo n 40 0

/-- A quotient whose rounding the spec leaves open (log entry 5). -/
def openDiv (n d : Nat) : Nat :=
  if n % d = 0 then n / d else if Config.roundUp n d then n / d + 1 else n / d
/-- The square root of a quotient, rounding open. -/
def openSqrt (n d : Nat) : Nat :=
  let r := isqrt (n / d)
  if r * r * d = n then r else if Config.roundUp n d then r + 1 else r

/-- The feature vector of Table 6.2 from the 16 samples before the onset and the 256 from it. -/
def features (tOff : Nat) (pre w : List Int) : List Int :=
  let peak := absMax w
  let ip := firstIdx (fun x => decide (x.natAbs = peak)) w
  let e := sqSum w
  let after := w.tail
  let u (v : Nat) : Int := (min v 65535 : Nat)
  let hi := w.foldl max (w.headD 0)
  let lo := w.foldl min (w.headD 0)
  let rough := (pairsOf w).foldl (fun m p => m + (p.2 - p.1).natAbs) 0
  [u peak, u ip, u (firstIdx (fun x => decide (9 * peak ≤ 10 * x.natAbs)) w),
   u (lastIdx (fun x => decide (peak ≤ 2 * x.natAbs)) 0 ip w - ip),
   u (w.filter fun x => decide (tOff ≤ x.natAbs)).length,
   u (if e = 0 then 0 else Config.log2Q8 e),
   u ((pairsOf w).filter fun p => decide (p.1 < 0) != decide (p.2 < 0)).length] ++
  (List.range 4).map (fun b =>
    let n := Config.bandEnergy b w
    u (if n = 0 then 0 else Config.log2Q8 n)) ++
  [u (absMax (w.drop (ip + 8))), satInt (-32768) 32767 (hi + lo),
   u (if absSum after = 0 then Config.freeNat rough else openDiv (rough * 2 ^ 14) (absSum after)),
   u (if e = 0 then Config.freeNat peak else openSqrt (peak * peak * 2 ^ 24) e),
   u (openSqrt (sqSum pre * 16) 1)]

/-- Fraction bits of the features (Table 6.2). -/
def featFrac (k : Nat) : Nat :=
  if k = 5 ∨ (7 ≤ k ∧ k ≤ 10) ∨ k = 14 then 8 else if k = 13 then 14 else if k = 15 then 4 else 0

/-- The classifier of R177: the class and the flags of the hit record. -/
def classify (p : List F32) (feat : List Int) : Nat × Nat :=
  let v (i : Nat) : F32 := p.getD i 0
  let z := (List.range 16).map fun k => fMul (fSub (fOfQ (feat.getD k 0) (featFrac k)) (v k)) (v (16 + k))
  let h := (List.range 32).map fun j =>
    fMax ((List.range 16).foldl (fun a k => fFma (v (32 + 16 * j + k)) (z.getD k 0) a) (v (544 + j))) f0
  let o := (List.range 3).map fun c =>
    (List.range 32).foldl (fun a j => fFma (v (576 + 32 * c + j)) (h.getD j 0) a) (v (672 + c))
  let g (i : Nat) : F32 := o.getD i 0
  if o.any fun x => !fFinite x then (2, 4)
  else
    let best := if fLt (g 0) (g 1) then (if fLt (g 1) (g 2) then 2 else 1) else if fLt (g 0) (g 2) then 2 else 0
    let a := if best = 0 then 1 else 0
    let b := if best = 2 then 1 else 2
    let second := if fLt (g a) (g b) then b else a
    if fLt (fSub (g best) (g second)) (v 675) then (2, 2) else (best, 0)

/-- A channel detects hits now: hit mode in force (R173). -/
def hitMode (s : State) (k : Nat) : Bool :=
  producing s && (s.imp k).c.cur.isSome && impMode (inCfgOf (s.imp k).c) = 1

/-- A TIME96 value less a number of units of 2^-16 ns. -/
def timeLess (t : T96) (sub : Nat) : T96 := T96.ofSub (T96.toSub t - sub)

/-- Raw samples are signed 14-bit counts (R171). -/
def rawOk (l : List Int) : Bool := l.all fun x => decide (-8192 ≤ x ∧ x ≤ 8191)
/-- A raw sample stands at a limit of the ADC (R174). -/
def atLimit (x : Int) : Bool := x = -8192 || x = 8191

/-- The filtered sample x at the end of a list of raw samples (R171). -/
def filtered (d : Bytes) (raw : List Int) : Int := Config.highPass (impCorner d) raw
/-- The last `n` filtered samples of a list of raw samples, oldest first. -/
def filteredTail (d : Bytes) (raw : List Int) (n : Nat) : List Int :=
  (List.range n).map fun i => filtered d (raw.take (raw.length - n + i + 1))

/-- HIT_ONSET (R173, R179): a filtered sample at T_ON or more, with the raw samples before it, at least the 16 of the
window; time-stamp less 3.5 µs and the fixed 31.25 ns of the crossing. -/
def xHitOnset (k : Nat) (pre : List Int) (x : Int) (s : State) : State :=
  let c := s.imp k
  let raw := pre ++ [x]
  if hitMode s k && c.det = .armed && decide (16 ≤ pre.length) && rawOk raw &&
      decide (impTOn (inCfgOf c.c) ≤ (filtered (inCfgOf c.c) raw).natAbs) then
    s.setImp k
      { c with
        det := .inHit, onset := s.mono, onsetTime := timeLess s.now (3500 * 65536 + 2048000), raw := raw }
  else s

/-- MERGED_HIT (R173): a rise of the filtered signal from below T_OFF to T_ON or more, between two samples. In QUIET it
breaks the run of HOLD samples. -/
def xMergedHit (k : Nat) (before : List Int) (x : Int) (s : State) : State :=
  let c := s.imp k
  let d := inCfgOf c.c
  let raw := before ++ [x]
  if hitMode s k && c.det ≠ .armed && rawOk raw && decide ((filtered d before).natAbs < impTOff d) &&
      decide (impTOn d ≤ (filtered d raw).natAbs) then
    s.setImp k { c with win := { c.win with merged := c.win.merged + 1 }, quietAt := s.mono }
  else s

/-- HIT_WINDOW_COMPLETE (R173 to R175): the 255 raw samples after the onset's; the hit is clipped where one of the
window's 272 stands at a limit, and the row says so. -/
def xHitWindowComplete (k : Nat) (rest : List Int) (clipped : Bool) (s : State) : State :=
  let c := s.imp k
  let d := inCfgOf c.c
  let raw := c.raw ++ rest
  if hitMode s k && c.det = .inHit && s.past c.onset (255 * 125) && decide (rest.length = 255) && rawOk rest &&
      decide (clipped = (raw.drop (raw.length - 272)).any atLimit) then
    let w := filteredTail d raw 272
    let h : HitWait :=
      { time := c.onsetTime, onset := c.onset, done := s.mono, seq := c.seq, clipped := clipped,
        feats := features (impTOff d) (w.take 16) (w.drop 16) }
    s.setImp k
      { c with
        det := .quiet, quietAt := s.mono, seq := (c.seq + 1) % 2 ^ 32, waiting := c.waiting ++ [h] }
  else s

/-- HIT_QUIET_END (R173): the latest HOLD consecutive samples of QUIET lie below T_OFF. -/
def xHitQuietEnd (q : SampleRun) (s : State) : State :=
  let c := s.imp q.k
  let d := inCfgOf c.c
  if c.det = .quiet && s.past c.quietAt (125 * impHold d) && decide (q.run.length = impHold d) &&
      rawOk (q.before ++ q.run) &&
      (filteredTail d (q.before ++ q.run) (impHold d)).all (fun x => decide (x.natAbs < impTOff d)) then
    s.setImp q.k { c with det := .armed }
  else s

def Counts.add (c : Counts) (cls : Nat) : Counts :=
  match cls with
  | 0 => { c with kern := c.kern + 1 }
  | 1 => { c with straw := c.straw + 1 }
  | _ => { c with other := c.other + 1 }

/-- A hit's time-stamp lies before an instant of TD0 that fell on a tick: the onset came before it, or within the
3,531.25 ns of R179 after it with an earlier time-stamp. -/
def HitWait.before (h : HitWait) (tick : Nat) (time : T96) : Bool :=
  decide (h.onset < tick) || (decide (h.onset < tick + 883) && T96.lt h.time time)

/-- Count a hit in the latest of the ended windows that holds its time-stamp (R180), newest first. -/
def countEnded (h : HitWait) (cls : Nat) : List WinRec → List WinRec
  | [] => []
  | w :: r =>
    if h.before w.startTick w.start && !r.isEmpty then w :: countEnded h cls r
    else { w with n := w.n.add cls } :: r

/-- HIT_CLASSIFIED (R177, R178, R180, R183): 4 µs after the features. A set's commit parts the hits by their
time-stamps (R203). -/
def xHitClassified (k : Nat) (s : State) : State :=
  let c := s.imp k
  match c.waiting with
  | [] => s
  | h :: r =>
    if s.past h.done (usT 4) then
      let set := impSet (inCfgOf c.c)
      let x := s.cset set
      let vals := if h.before x.commitAt x.commitTime then x.old else x.cur
      let a := match vals with
        | some p => classify p h.feats
        | none => (Config.freeNat s.draw.1 % 3, 0)
      let s := if vals.isSome then s else s.draw.2
      let cls := a.1
      let body := leT h.time ++ le 4 h.seq ++ b1 cls ++ b1 (a.2 + bit h.clipped 0) ++ b1 set ++ b1 0 ++
        h.feats.flatMap (leI 2)
      let c := { c with waiting := r, ring := (body :: c.ring).take 4096, lastSeq := h.seq }
      if h.before s.cse.winTick s.cse.winStart then s.setImp k { c with ended := countEnded h cls c.ended }
      else s.setImp k { c with win := c.win.add cls }
    else s

/-- FRONT_END_SELFTEST (R172): the check at power-up, once CSE has left its reset, and the one of every 10 s. -/
def xFrontEndSelftest (k : Nat) (ok : Bool) (s : State) : State :=
  let c := s.imp k
  if producing s && updateDue s c.checkedAt (secT 10) then
    s.setImp k { c with selftest := !ok, winBad := c.winBad || !ok, checkedAt := some s.mono }
  else s

/-! ## Analog inputs (R186 to R188) -/

/-- The ratio of one sample (R186): the input voltage by the output of the named VREF5, or by 5.000 V. -/
def rawRatio (d : Bytes) (volts ref : F32) : F32 := fDiv volts (if ainRef d = 3 then fOfNat 5 else ref)

/-- The low-pass coefficient of a corner in Hz: 1 − exp(−2π × AIN_CUTOFF ÷ 100,000) (R187). -/
def ainCoef (f : Nat) : F32 :=
  fSub f1 (Config.exp (fDiv (fMul (fNeg fTwoPi) (fOfNat f)) (fOfNat 100000)))

/-- One raw ratio through the low-pass (R187). -/
def ainFilter (d : Bytes) (filt : Option F32) (r : F32) : F32 :=
  match filt with
  | none => r
  | some y => if ainCutoff d = 0 then r else fFma (ainCoef (ainCutoff d)) (fSub r y) y

/-- AIN_UPDATE (R186, R187): the five samples of 50 µs at 100 kS/s, each with the output of the named VREF5 at the same
instant (not looked at for an absolute input), and the delivered value. -/
def xAinUpdate (k : Nat) (volts refs : List F32) (s : State) : State :=
  let x := s.ain k
  let d := inCfgOf x.c
  if producing s && x.c.cur.isSome && ainRef d ≠ 0 && decide (volts.length = 5 ∧ refs.length = 5) &&
      updateDue s x.tick (usT 50) && !commitDue s 1 k then
    let f := (volts.zip refs).foldl (fun a e => some (ainFilter d a (rawRatio d e.1 e.2))) x.filt
    let r := f.getD f0
    s.setAin k
      { x with
        filt := f, ratio := r, value := fFma (rdF d 8) r (rdF d 12), volts := volts.getD 4 f0, time := s.now
        tick := some s.mono }
  else s

/-- AIN_RANGE_COUNT (R188): one raw ratio against the window. -/
def xAinRangeCount (k : Nat) (raw : AinRaw) (s : State) : State :=
  let x := s.ain k
  let d := inCfgOf x.c
  let ratio := rawRatio d raw.volts raw.ref
  if producing s && x.c.cur.isSome && ainRef d ≠ 0 then
    if fLe (rdF d 16) ratio && fLe ratio (rdF d 20) then
      s.setAin k { x with inRun := x.inRun + 1, outRun := 0, bad := x.bad && decide (x.inRun + 1 < 20) }
    else
      s.setAin k
        { x with
          outRun := x.outRun + 1, inRun := 0, bad := x.bad || decide (20 ≤ x.outRun + 1)
          count := satN 4 (x.count + 1) }
  else s

/-! ## Frequency and quadrature inputs (R189 to R191) -/

/-- A 32-bit counter moved by one. -/
def wrap32 (i : Int) : Int := (BitVec.ofInt 32 i).toInt

def pushEdge (x : Fin8) (t : Nat) : Fin8 := { x with edges := (t :: x.edges).take 66 }

/-- The level an input voltage stands for: high from TH_HIGH up, low from TH_LOW down, and between the two the level it
had (R189; the hysteresis is DEDUCED, log entry 58). -/
def finLevel (d : Bytes) (volts : F32) (was : Bool) : Bool :=
  if fLe (finHigh d) volts then true else if fLe volts (finLow d) then false else was

/-- A time in ns at the 15.625 ns resolution of an edge's stamp, in whole ns (R189, R190). -/
def stampNs (t : Nat) : Nat := (t * 64 / 1000) * 1000 / 64

/-- FIN_EDGE_ACCEPTED (R189, R191): the new level, which the voltage gives, has held for MIN_PULSE since its transition,
`age` ns ago; `both` marks a transition in which A and B changed together. DEDUCED (log entry 58): the stamps stand on
the monotonic tick, which no step of a domain moves. -/
def xFinEdgeAccepted (k age : Nat) (volts : F32) (both : Bool) (s : State) : State :=
  let t := stampNs (s.mono * 4 - age)
  let e := if quadPartner s k then k - 1 else k
  let x := s.fin e
  let m := finMode (inCfgOf x.c)
  let own := inCfgOf (s.fin k).c
  let was := (s.fin k).level
  let level := finLevel own volts was
  if !producing s || x.c.cur.isNone || level = was || decide (age < 1000 * finPulse own) then s
  else if m = 3 then
    if both then
      let o := s.fin (e + 1)
      let s := s.setFin (e + 1) { o with level := !o.level }
      s.setFin e { x with level := !x.level, count := satN 4 (x.count + 1), qerr := some s.mono }
    else
      let other := if k = e then (s.fin (e + 1)).level else x.level
      let aLeads := if k = e then level != other else level == other
      let up := aLeads == Config.quadAleads
      let x := { x with
        counter := wrap32 (if up then x.counter + 1 else x.counter - 1), dirPos := up
        edges := if up = x.dirPos then x.edges else [] }
      if k = e then s.setFin e (pushEdge { x with level := level } t)
      else
        let s := s.setFin k { s.fin k with level := level }
        s.setFin e (pushEdge x t)
  else if m = 1 ∧ level = false then s.setFin k { x with level := level }
  else if m = 1 ∨ m = 2 then s.setFin k (pushEdge { x with level := level } t)
  else s

/-- QERR_EXPIRY (R191): 1 ms without an illegal transition. -/
def xQerrExpiry (k : Nat) (s : State) : State :=
  let x := s.fin k
  if x.qerr.isSome && !qerrNow s x then s.setFin k { x with qerr := none } else s

/-- Whole nanoseconds as seconds in binary32, rounded once (R190; DEDUCED, log entry 46). -/
def nsSecs (n : Nat) : F32 := fRound false (n * 2 ^ 60 / 1000000000) (-60) (n * 2 ^ 60 % 1000000000 != 0)

/-- The pseudocode of R190: the edges newest first, the time now in ns, c, and the floor. -/
def edgeRate (edges : List Nat) (now c nAvg : Nat) (zero : F32) : F32 :=
  let m := min nAvg (edges.length - 1)
  let tk := edges.getD 0 0
  let f := if 1 ≤ m then fDiv (fOfNat m) (fMul (fOfNat c) (nsSecs (tk - edges.getD m 0))) else f0
  let el := now - tk
  let f := if 1 ≤ m ∧ tk - edges.getD 1 0 < el then fMin f (fDiv f1 (fMul (fOfNat c) (nsSecs el))) else f
  if fLt f zero then f0 else f

/-- FIN_UPDATE (R190, R191): every 50 µs. -/
def xFinUpdate (k : Nat) (s : State) : State :=
  let x := s.fin k
  let d := inCfgOf x.c
  let m := finMode d
  if producing s && x.c.cur.isSome && m ≠ 0 && s.past x.tick (usT 50) && !commitDue s 2 k then
    let f := edgeRate x.edges (s.mono * 4) (if m = 2 then 2 else 1) (finAvg d) (rdF d 16)
    let x := { x with time := s.now, tick := s.mono, qpos := fOfInt x.counter }
    s.setFin k
      (if m = 3 then { x with freq := f0, speed := if x.dirPos then f else fNeg f }
       else { x with freq := f })
  else s

/-! ## Position inputs and the inertial unit (R192 to R195) -/

/-- An electrical angle above −2π brought into [0, 2π): a sum that rounds up to 2π is the angle 0 (R193). -/
def wrapAngle (u : F32) : F32 :=
  let w := if fLt u f0 then fAdd u fTwoPi else u
  if fLe fTwoPi w then f0 else w

/-- A multi-turn angle of a number of electrical cycles and a remainder `u` between −2π and 2π has passed ±32,768
cycles (R194). -/
def turnsOut (turns : Int) (u : F32) : Bool :=
  if fLt u f0 then decide (32768 < turns ∨ turns ≤ -32768)
  else decide (32768 < turns ∨ turns < -32768) || (decide (turns = 32768) && fLt f0 u)

/-- POS_UPDATE (R193, R194): the converter's electrical angle in [0, 2π) and cycles, its speed, the amplitude
in volts and the tracking error. -/
def xPosUpdate (k : Nat) (theta : F32) (cycles : Int) (speed ampl err : F32) (s : State) : State :=
  let x := s.pos k
  let d := inCfgOf x.c
  if producing s && x.c.cur.isSome && posMode d ≠ 0 && x.excOff.isNone && updateDue s x.tick (usT 50) &&
      !commitDue s 3 k && fLe f0 theta && fLt theta fTwoPi then
    let p := fOfNat (posPairs d)
    let u := fSub theta (posOffset d)
    let low := fLt u f0
    let base := x.base.getD (if low then cycles - 1 else cycles)
    let el := if posMulti d then fAdd u (fMul fTwoPi (fOfInt (cycles - base))) else wrapAngle u
    let a := fDiv ampl (posNominal d)
    let track := fLt (fDec 1 10) (fAbs err)
    s.setPos k
      { x with
        angle := fDiv el p, speed := fDiv speed p, ampl := a, time := s.now, tick := some s.mono
        base := some base, signal := fLt a fHalf || fLt (fDec 15 10) a, track := track
        range := x.range || (posMulti d && turnsOut (cycles - base) u)
        count := if track && !x.track then satN 4 (x.count + 1) else x.count }
  else s

/-- EXCITATION_LIMIT_TIMEOUT (R192). -/
def xExcitationLimitTimeout (k : Nat) (s : State) : State :=
  let x := s.pos k
  if x.c.cur.isSome && posMode (inCfgOf x.c) = 1 && x.excOff.isNone then
    s.setPos k { x with excOff := some s.mono }
  else s

/-- EXCITATION_RETRY (R192): every 1 s. -/
def xExcitationRetry (k : Nat) (ok : Bool) (s : State) : State :=
  let x := s.pos k
  match x.excOff with
  | some t =>
    if s.past t (secT 1) then s.setPos k { x with excOff := if ok then none else some s.mono } else s
  | none => s

/-- An axis of a sample stands at its range limit (R195, R201). -/
def imuAtLimit (d : Bytes) (acc rate : List F32) : Bool :=
  acc.any (fun x => fLe (imuAccelMax d) (fAbs x)) || rate.any (fun x => fLe (imuRateMax d) (fAbs x))

/-- IMU_SAMPLE (R195), at 3.2 kHz: the corrected values, and whether an axis sat at its limit before the factory
correction; a corrected value at the limit of its range is saturated too. The stamp is the sample's instant, less the
fixed delay of the filter. -/
def xImuSample (ax ay az gx gy gz : F32) (sat : Bool) (s : State) : State :=
  let d := s.cse.imu.c.cur.getD imuDefault
  if producing s && updateDue s s.cse.imu.tick 78125 && !commitDue s 5 0 then
    { s with cse := { s.cse with imu := { s.cse.imu with
        v := [ax, ay, az, gx, gy, gz], time := timeLess s.now (Config.imuDelay (imuFilter d) * 65536)
        tick := some s.mono, sat := sat || imuAtLimit d [ax, ay, az] [gx, gy, gz] } } }
  else s

/-! ## Configuration (R198 to R203) -/

/-- Settle time of an analog input in ticks: 5 / (2π f), at least 200 µs (Table 6.6). -/
def ainSettle (f : Nat) : Nat := if f = 0 then usT 200 else max (usT 200) ((198943679 + f - 1) / f)

def InCfg.commit (c : InCfg) (s : State) (p : Bytes) (settle : Nat) : InCfg :=
  { c with
    cur := some p, pend := none, commitAt := s.mono, settle := s.mono + settle
    commits := (s.now :: c.commits).take 180000 }

/-- A configuration comes into force (R187, R191, R193, R198). -/
def commitInput (s : State) (sel k : Nat) (p : Bytes) : State :=
  match sel with
  | 1 =>
    let x := s.ain k
    s.setAin k
      { x with
        c := x.c.commit s p (ainSettle (ainCutoff p)), filt := none, tick := none, outRun := 0, inRun := 0
        bad := false }
  | 2 =>
    let x := s.fin k
    s.setFin k
      { x with
        c := x.c.commit s p 0, edges := [], counter := 0, freq := f0, speed := f0, qpos := f0
        time := s.now, tick := s.mono, qerr := none, dirPos := true }
  | 3 =>
    let x := s.pos k
    s.setPos k
      { x with
        c := x.c.commit s p (msT 20), base := none, tick := none, signal := false, track := false
        range := false, excOff := none }
  | 4 =>
    let x := s.imp k
    s.setImp k { x with c := x.c.commit s p (msT 1), det := .armed, winBad := true }
  | _ =>
    let x := s.cse.imu
    { s with cse := { s.cse with imu := { x with c := x.c.commit s p (msT 50) } } }

def setInCfg (s : State) (sel k : Nat) (c : InCfg) : State :=
  match sel with
  | 1 => s.setAin k { s.ain k with c := c }
  | 2 => s.setFin k { s.fin k with c := c }
  | 3 => s.setPos k { s.pos k with c := c }
  | 4 => s.setImp k { s.imp k with c := c }
  | _ => { s with cse := { s.cse with imu := { s.cse.imu with c := c } } }

/-- A counting-window boundary falls on this tick, and it follows the window of a number (R198, R203, R204). -/
def windowBoundary (s : State) (n : Nat) : Bool := decide (n < s.cse.winNo) && decide (s.cse.winTick = s.mono)

/-- An input other than an impact channel stands at an update boundary: 50 µs, or a multiple for the inertial unit, after
its latest update, and at once where it has none (R198). -/
def atUpdate (s : State) (sel k : Nat) : Bool :=
  match sel with
  | 1 => updateDue s (s.ain k).tick (usT 50)
  | 2 => (finMode (inCfgOf (s.fin k).c) = 0) || s.past (s.fin k).tick (usT 50)
  | 3 => updateDue s (s.pos k).tick (usT 50)
  | _ => match s.cse.imu.tick with | some t => decide ((s.mono - t) % usT 50 = 0) | none => true

/-- What INPUT_CONFIG_COMMIT does at an input (R198): the next counting-window boundary for an impact channel, the next
update for any other input. -/
def inputCommit (sel k : Nat) (s : State) : State :=
  match (inCfg s sel k).pend with
  | some (n, p) =>
    if producing s && (if sel = 4 then windowBoundary s n else decide (n < s.mono) && atUpdate s sel k) then
      commitInput s sel k p
    else s
  | none => s

/-- INPUT_SETTLING_END (R198): the settle time has run. -/
def xInputSettlingEnd (sel k : Nat) (s : State) : State :=
  let c := inCfg s sel k
  if c.settle ≤ s.mono then setInCfg s sel k { c with settle := 0 } else s

/-- An input of Table 4.3 is read by an applied descriptor of a loop whose group is neither OFF
nor CONFIG (R199). -/
def loopUses (s : State) (t k : Nat) : Bool :=
  s.applied.any fun e => match e.1 with
    | .loop _ =>
      let d := e.2
      decide (dGroup d ≤ 63) && !(s.st (gFid (dGroup d))).idle &&
        ((decide (dInType d = t) && decide (dInIdx d = k)) ||
          (decide (dCompType d = t) && decide (dCompIdx d = k)))
    | _ => false

/-- An input is named in the applied planner configuration (07 R218, R221); the flow channel stands in every one of
them, at its reset value where none has been written. -/
def plannerUses (s : State) (t k : Nat) : Bool :=
  s.st plannerFid ≠ .off && (s.fn plannerFid).everApplied &&
    (decide (t = 4 ∧ pfFlow (s.app .planFeed) = k) || s.applied.any fun e => match e.1 with
      | .planMv _ => decide (mvRole e.2 ≠ 0) && decide (mvType e.2 = t) && decide (mvIdx e.2 = k)
      | .planCv _ => decide (cvKind e.2 ≠ 0) &&
          ((decide (t = 4) && decide (cvType e.2 = 1) && (cvMask e.2).testBit k) ||
            (decide (t = 1) && decide (cvType e.2 = 2) && decide (cvIdx e.2 = k)))
      | _ => false)

/-- A frequency input is a wheel of ego-motion while the fusion grid is not OFF (09 R288). -/
def fusionUses (s : State) (t k : Nat) : Bool :=
  t = 2 && s.st fusFid ≠ .off &&
    match s.fus.ego.cfg with
    | some d => (List.range 4).any fun i => decide ((egWheel d i).1 = k)
    | none => false

/-- An input is in use (R199). -/
def inUse (s : State) (t k : Nat) : Bool :=
  loopUses s t k || plannerUses s t k || fusionUses s t k

/-- A configuration opcode of an input (R198, R199). -/
def inputCfg (s : State) (sel k : Nat) (p : Bytes) (flagOff : Nat) : Ans :=
  if inUse s sel k then failAns s stWrongState 0
  else
    let c := inCfg s sel k
    let c := { c with pend := some (if sel = 4 then s.cse.winNo else s.mono, p) }
    let c := if (byteAt p flagOff).testBit 0 then { c with stored := some p } else c
    okAns (setInCfg s sel k c)

/-- The configuration an input will have: waiting, or in force. -/
def inNext (s : State) (sel k : Nat) : Bytes :=
  let c := inCfg s sel k
  match c.pend with | some (_, p) => p | none => c.cur.getD []

/-- IMP_CONFIG (R198 to R200). -/
def opImpConfig : OpSpec where
  code := 0x0500
  token := true
  len := fun _ => 80
  layout := impChecks
  body := fun s p =>
    let k := byteAt p 0
    let others := ((List.range 32).filter fun j => j ≠ k ∧ impMode (inNext s 4 j) = 2).length
    if impMode p = 2 ∧ 4 ≤ others then failAns s stOverCapacity 0 else inputCfg s 4 k p 1

/-- AIN_CONFIG (R198). -/
def opAinConfig : OpSpec where
  code := 0x0502
  token := true
  len := fun _ => 24
  layout := ainChecks
  body := fun s p => inputCfg s 1 (byteAt p 0) p 1

/-- FIN_CONFIG (R198, R200). -/
def opFinConfig : OpSpec where
  code := 0x0503
  token := true
  len := fun _ => 20
  layout := finChecks
  body := fun s p =>
    let k := byteAt p 0
    let m := finMode p
    if (m = 3 ∧ (k % 2 = 1 ∨ finMode (inNext s 2 (k + 1)) ≠ 0)) ∨
        (m ≠ 0 ∧ k % 2 = 1 ∧ finMode (inNext s 2 (k - 1)) = 3) then badParam s 2
    else inputCfg s 2 k p 1

/-- POS_CONFIG (R198). -/
def opPosConfig : OpSpec where
  code := 0x0504
  token := true
  len := fun _ => 24
  layout := posChecks
  body := fun s p => inputCfg s 3 (byteAt p 0) p 1

/-- IMU_CONFIG (R201); the inertial unit is no loop source, and fusion names it in no field. -/
def opImuConfig : OpSpec where
  code := 0x0505
  token := true
  len := fun _ => 4
  layout := imuChecks
  body := fun s p => inputCfg s 5 0 p 0

/-- The values of an image in order, unwritten ones as 0, and the first unwritten one. -/
def imageVals (t : Tbl Nat F32) (n : Nat) : List F32 := (List.range n).map (tget 0 t)
def firstUnwritten (t : Tbl Nat F32) (n : Nat) : Option Nat :=
  (List.range n).find? fun i => (tfind t i).isNone
def putVals (t : Tbl Nat F32) (i : Nat) (l : List F32) : Tbl Nat F32 :=
  (l.zip (List.range l.length)).foldl (fun t e => tput t (i + e.2) e.1) t
def wordsAt (p : Bytes) (o n : Nat) : List F32 := (List.range n).map fun i => rdF p (o + 4 * i)

/-- CLASSIFIER_LOAD (R202): the block rules of TABLE_WRITE. -/
def opClassifierLoad : OpSpec where
  code := 0x0501
  token := true
  len := fun p => 12 + 4 * rd p 4 2
  layout := setChecks
  body := fun s p =>
    let n := byteAt p 0
    let first := rd p 2 2
    let x := s.cset n
    if first ≠ 0 ∧ x.begun = false then failAns s stWrongState 0
    else
      let img := putVals (if first = 0 then [] else x.image) first (wordsAt p 12 (rd p 4 2))
      let x := { x with begun := true, image := img }
      if (byteAt p 1).testBit 0 then
        match firstUnwritten img 676 with
        | some i => failAns (s.setCset n x) 0x82 i
        | none =>
          let v := imageVals img 676
          let crc := (crc32c (v.flatMap leF)).toNat
          if crc ≠ rd p 8 4 then
            failAns (s.setCset n { x with begun := false, image := [] }) stIntegrity 0
          else
            okAns (s.setCset n
              { x with
                begun := false, image := [], pend := some (s.cse.winNo, v, crc, s.cur)
                stored := if (byteAt p 1).testBit 1 then some v else x.stored })
      else okAns (s.setCset n x)

/-- A channel whose set has been committed at the boundary that begins its window is judged anew: the window is valid
from its first instant (R182). -/
def windowBegun (s : State) (k : Nat) : State := s.setImp k { s.imp k with winBad := impCauses s k ≠ 0 }

/-- CLASSIFIER_SET_COMMIT (R203): the next counting-window boundary. -/
def xClassifierSetCommit (n : Nat) (s : State) : State :=
  let x := s.cset n
  match x.pend with
  | some (w, v, crc, cause) =>
    if windowBoundary s w then
      let s := s.setCset n
        { x with pend := none, old := x.cur, cur := some v, commitAt := s.mono, commitTime := s.cse.winStart }
      emitTo (forN 32 windowBegun s) cause false none 0x0502 0xFFFF (b1 n ++ zeros 3 ++ le 4 crc)
    else s
  | none => s

/-! ## Flow calibration (R204, R205) -/

/-- FLOW_CALIBRATE: predicted mass, k, windows and invalid windows over an interval of the history. -/
def flowCal (d : Bytes) (l : List FlowHist) (mass : F32) : F32 × F32 × Nat × Nat :=
  let ok := l.filter (·.valid)
  let sum := fSum (ok.reverse.map fun h => flowAt d h.s)
  let bad := l.length - ok.length
  let mean := fDiv sum (fOfNat ok.length)
  let total := fMul (if bad = 0 then sum else fFma (fOfNat bad) mean sum) (fDec 1 100)
  (total, fDiv mass total, l.length, bad)

/-- Scale every F_k of a curve (R204). -/
def scaleCurve (d : Bytes) (k : F32) : Bytes :=
  d.take 16 ++ (List.range 8).flatMap fun i => leF (curveS d i) ++ leF (fMul (curveF d i) k)

/-- The factors that wait for the boundary, one after the other, on a curve. -/
def scaleAll (d : Bytes) (l : List (Nat × F32 × Option (Nat × Nat))) : Bytes :=
  l.foldl (fun d e => scaleCurve d e.2.1) d

/-- FLOW_CALIBRATE (R204, R205). -/
def opFlowCalibrate : OpSpec where
  code := 0x0507
  token := true
  len := fun _ => 32
  layout := fun p =>
    [ckRange p 0 1 0 31, ckMask p 1 1 3, ckZero p 2 2, ckT p 4, ckT p 16,
     (16, decide (T96.toSub (rdT p 4) + 10 * 65536000000000 ≤ T96.toSub (rdT p 16) ∧
       T96.toSub (rdT p 16) ≤ T96.toSub (rdT p 4) + 1800 * 65536000000000)), ckFGt0 p 28]
  body := fun s p =>
    let k := byteAt p 0
    let x := s.imp k
    let d := inCfgOf x.c
    let a := rdT p 4
    let b := rdT p 16
    if impMode d ≠ 2 then badParam s 0
    else
      let l := x.hist.filter fun h => T96.le a h.start && T96.le h.stop b
      let covered := (x.hist.any fun h => T96.le h.start a) && (x.hist.any fun h => T96.le b h.stop)
      let (mass, f, n, bad) := flowCal d l (rdF p 28)
      if !covered || (x.c.commits.any fun t => T96.le a t && T96.le t b) || decide (n < 100 * bad) then
        failAns s 0x81 0
      else
        let data := leF mass ++ leF f ++ le 4 n ++ le 4 bad
        if fLe fHalf f && fLe f (fOfNat 2) then
          let s := if (byteAt p 1).testBit 0 then
              s.setImp k
                { x with
                  factors := x.factors ++ [(s.cse.winNo, f, s.cur)]
                  c := if (byteAt p 1).testBit 1 then
                      { x.c with stored := some (scaleCurve (scaleAll d x.factors) f) }
                    else x.c }
            else s
          okWith s data
        else { s := s, st := 0x80, detail := 0, data := data }

/-- FLOW_CURVE_APPLY (R204): from the next window boundary; where several calibrations wait for it, the oldest first,
one to a row. -/
def xFlowCurveApply (k : Nat) (s : State) : State :=
  let x := s.imp k
  match x.factors with
  | (w, f, cause) :: r =>
    if windowBoundary s w then
      let d := scaleCurve (inCfgOf x.c) f
      let s := s.setImp k { x with factors := r, c := { x.c with cur := some d } }
      emitTo s cause false none 0x0503 0xFFFF (b1 k ++ zeros 3 ++ leF f)
    else s
  | [] => s

/-! ## Validity reports (R208) -/

/-- The fault source of an input (14 Table 14.4). -/
def inSrc (sel k : Nat) : Nat :=
  match sel with | 1 => 96 + k | 2 => 112 + k | 3 => 120 + k | 4 => 64 + k | _ => 124

/-- A valid bit is cleared by a cause other than OFF, SETTLING and POWER, whether or not one of these three stands
beside it (R208). -/
def inFault (w : Nat) : Bool := decide (w / 64 - bit (w.testBit 13) 7 ≠ 0)

def inCount (sel : Nat) : Nat :=
  match sel with | 1 => 16 | 2 => 8 | 3 => 4 | 4 => 32 | 5 => 1 | _ => 0

/-- INPUT_VALIDITY_REPORT (R208). -/
def xInputValidityReport (sel k : Nat) (s : State) : State :=
  if inCount sel ≤ k then s
  else
    let w := inWord s sel k
    let key := sel * 256 + k
    let (bits, t) := tget (0, 0) s.cse.vsent key
    let bad := inFault w
    let s := if bits ≠ w % 8 ∧ (t = 0 ∨ t + msT 100 ≤ s.mono) then
        let s := { s with cse := { s.cse with vsent := tput s.cse.vsent key (w % 8, s.mono) } }
        let data := b1 sel ++ b1 k ++ le 2 w
        if bad then emitFault s 0x0501 0xFFFF data else emit s 0x0501 0xFFFF data
      else s
    if bad = (s.src (inSrc sel k)).inErr then s else setErr s (inSrc sel k) bad w

/-! ## SENSE_READ (R206) and the values loops and the planner take -/

/-- Rates and flow of the last completed window (Table 6.13). -/
def impVals (s : State) (k : Nat) : F32 × F32 × F32 :=
  let x := s.imp k
  match x.last with
  | none => (f0, f0, f0)
  | some w =>
    if impMode (inCfgOf x.c) = 2 then (w.f, w.s, f0)
    else (rateOf w w.n.kern, rateOf w w.n.straw, rateOf w w.n.other)

def senseEntry (s : State) (sel k : Nat) : Bytes :=
  let head (q0 q1 q2 : F32) (t : T96) (c : Nat) : Bytes :=
    b1 k ++ b1 0 ++ le 2 (inWord s sel k) ++ leF q0 ++ leF q1 ++ leF q2 ++ leT t ++ le 4 c
  match sel with
  | 1 => let x := s.ain k; head x.value x.ratio x.volts x.time x.count
  | 2 => let x := s.fin k; head x.freq x.qpos x.speed x.time x.count
  | 3 => let x := s.pos k; head x.angle x.speed x.ampl x.time x.count
  | 4 =>
    let v := impVals s k
    let w := (s.imp k).last.getD {}
    head v.1 v.2.1 v.2.2 w.stop w.n.merged
  | _ => le 2 (imuWord s) ++ zeros 2 ++ s.cse.imu.v.flatMap leF ++ leT s.cse.imu.time

/-- The records of selector 6: at most n from a hit sequence on, oldest first. -/
def hitRecords (x : Imp) (q n : Nat) : List Bytes :=
  let l := x.ring.reverse
  if q = 0xFFFFFFFF then (x.ring.take n).reverse
  else
    let from_ := l.dropWhile fun r => decide (rd r 12 4 ≠ q)
    if !from_.isEmpty then from_.take n
    else
      let next := match x.waiting with | h :: _ => h.seq | [] => x.seq
      if decide ((q + 2 ^ 32 - next) % 2 ^ 32 < 2 ^ 31) then [] else l.take n

def opSenseRead : OpSpec where
  code := 0x0506
  len := fun _ => 8
  layout := fun p =>
    let sel := byteAt p 0
    let n := byteAt p 2
    [ckRange p 0 1 1 6, (1, decide (byteAt p 1 < if sel = 6 then 32 else inCount sel)),
     (2, decide (1 ≤ n ∧ if sel = 6 then n ≤ 20 else byteAt p 1 + n ≤ inCount sel)), ckZero p 3 1,
     (4, decide (sel = 6 ∨ rd p 4 4 = 0))]
  body := fun s p =>
    let sel := byteAt p 0
    let k := byteAt p 1
    if sel = 6 then
      let l := hitRecords (s.imp k) (rd p 4 4) (byteAt p 2)
      okWith s (leT s.now ++ le 2 l.length ++ zeros 2 ++ l.flatten)
    else okWith s (leT s.now ++ (List.range (byteAt p 2)).flatMap fun i => senseEntry s sel (k + i))

/-- The value and production tick of a source of Table 4.3, types 1 to 4, while it is valid. -/
def inputVal (s : State) (t k q : Nat) : Option (F32 × Nat) :=
  match t with
  | 1 => if ainWord s k = 1 then (s.ain k).tick.map ((s.ain k).value, ·) else none
  | 2 =>
    let x := s.fin k
    if (finWord s k).testBit q then
      some (if q = 0 then x.freq else if q = 1 then x.qpos else x.speed, x.tick)
    else none
  | 3 =>
    let x := s.pos k
    if posWord s k = 7 then x.tick.map (if q = 0 then x.angle else x.speed, ·) else none
  | 4 =>
    match (s.imp k).last with
    | some w =>
      if impWord s k = 7 then
        some (rateOf w (match q with
          | 0 => w.n.kern | 1 => w.n.straw | 2 => w.n.other | _ => w.n.kern + w.n.straw + w.n.other),
          w.stopTick)
      else none
    | none => none
  | _ => none

/-- Update period of a source in ticks (Table 4.3). -/
def inputPeriod (t : Nat) : Nat := if t = 4 then msT 10 else usT 50

/-- The grain flow of a channel in its last valid window, and that window's end (07 R227). -/
def flowLast (s : State) (k : Nat) : Option (F32 × Nat) := (s.imp k).lastFlow.map fun w => (w.f, w.stopTick)
/-- The latest published window of a flow channel is valid (07 Table 7.4). -/
def flowValid (s : State) (k : Nat) : Bool := impWord s k = 3

end Sys2Proof.Machine
end

