-- ==== Sys2Proof/Machine/Cle.lean ====
section
/-! DEFINITION. The control-law engine (chapters 04 and 05): sample grid, dispatch, measured
values, the loop law, compensation, outputs, safe actions, group lifecycle, tables and opcodes. -/

namespace Sys2Proof.Machine

def State.loopCfg (s : State) (n : Nat) : Bytes := s.app (.loop n)
def State.grpCfg (s : State) (g : Nat) : Bytes := s.app (.group g)
/-- The loops of a group's applied configuration. -/
def grpLoops (s : State) (g : Nat) : List Nat := loopsOf s.applied g

/-! ## Sample grid and dispatch (R106 to R112) -/

/-- The group's grid of a period stands at an instant now. -/
def grpAt (s : State) (g p : Nat) : Bool :=
  atGrid (s.tdNs (gDomain (s.grpCfg g))) (gPhase (s.grpCfg g)) p

/-- Lanes take waiting evaluations, earliest deadline first and lowest loop among equals, until a
time (R112); the least margin is kept (R145). -/
def earliest : List (Nat × Nat) → Option (Nat × Nat)
  | [] => none
  | e :: r =>
    match earliest r with
    | none => some e
    | some b => if b.1 < e.1 ∨ (b.1 = e.1 ∧ b.2 < e.2) then some b else some e

def dispatch (now : Nat) : Nat → Cle → Cle
  | 0, c => c
  | fuel + 1, c =>
    let lane := c.lanes.foldl min (c.lanes.headD 0)
    let start := max lane c.clock
    match earliest c.waiting with
    | none => c
    | some e =>
      if now ≤ start then c
      else dispatch now fuel
        { c with
          lanes := (start + 625) :: c.lanes.erase lane, waiting := c.waiting.erase e, clock := start
          margin := min c.margin (e.1 - (start + 625)) }

/-- An evaluation begins to wait at its sample instant. -/
def evalArrives (s : State) (n p : Nat) : State :=
  let now := s.mono * 4
  let c := dispatch now s.cle.waiting.length s.cle
  { s with cle := { c with clock := now, waiting := (now + p, n) :: c.waiting } }

/-! ## Measured values, references (R113 to R121) -/

/-- A value with its tick, judged by age (R115): the value, whether it is invalid at its source, and
whether it is too old. -/
def judge (s : State) (d : Bytes) (t : Nat) (v : Option (F32 × Nat)) : Option F32 × Bool × Bool :=
  let limit := if dStale d = 0 then max (3 * (periodNs (dRate d) / 4)) (3 * inputPeriod t)
    else usT (dStale d)
  match v with
  | none => (none, true, false)
  | some (x, tick) => if s.mono - tick ≤ limit then (some x, false, false) else (none, false, true)

/-- The source quantity of a loop (R113, R116). -/
def loopInput (s : State) (n : Nat) (d : Bytes) : Option (F32 × Nat) :=
  if dInType d = 5 then
    let v := tget {} s.cle.canIn n
    if v.ok then some (v.value, v.tick) else none
  else inputVal s (dInType d) (dInIdx d) (dInQty d)

def measure (s : State) (n : Nat) (d : Bytes) : Option F32 × Bool × Bool :=
  judge s d (dInType d) (loopInput s n d)

/-- The compensation position of a loop, while it is valid (R151). -/
def compPos (s : State) (d : Bytes) : Option F32 :=
  (judge s d (dCompType d) (inputVal s (dCompType d) (dCompIdx d) (dCompQty d))).1

def pspVal (s : State) (p : Nat) : F32 := tget f0 s.cle.psp p

/-- The group of a loop's applied descriptor. -/
def appGroup (s : State) (n : Nat) : Option Nat :=
  match s.appOpt (.loop n) with
  | some d => if dGroup d ≤ 63 then some (dGroup d) else none
  | none => none

/-- A group is evaluated (R105): it has committed and is neither OFF nor CONFIG. -/
def grpActive (s : State) (g : Nat) : Bool := (s.grp g).committed && !(s.st (gFid g)).idle

/-- A sample instant of a loop has come (R107, R110). -/
def sampleDue (s : State) (n g : Nat) (d : Bytes) : Bool :=
  let p := periodNs (dRate d)
  (s.loop n).catchUp = some s.mono ||
    (grpAt s g p && match (s.loop n).last with
      | none => true
      | some t => decide (t + p / 8 ≤ s.mono))

/-- The latest output a loop has issued at or before this instant (R108, R120): a loop whose own sample instant is
this one issues now, whichever of the two rows comes first. -/
def issuedBy (s : State) (n : Nat) : F32 :=
  let l := s.loop n
  match appGroup s n, l.next with
  | some g, some u => if grpActive s g && sampleDue s n g (s.loopCfg n) then u else l.out
  | _, _ => l.out

/-- ref_in (R117 to R120). -/
def refIn (s : State) (n : Nat) (d : Bytes) : F32 :=
  match dRefType d with
  | 0 => tget f0 s.cle.hostRef n
  | 1 => pspVal s (dRefIdx d)
  | _ => issuedBy s (dRefIdx d)

/-- ff_in (R117 to R119). -/
def ffIn (s : State) (n : Nat) (d : Bytes) : F32 :=
  match dFfType d with
  | 0 => f0
  | 1 => tget f0 s.cle.hostFf n
  | _ => pspVal s (dFfIdx d)

/-- A loop source whose group has reached OFF (R120). -/
def sourceEnded (s : State) (d : Bytes) : Bool :=
  dRefType d = 2 &&
    match appGroup s (dRefIdx d) with
    | some g => (s.st (gFid g)).idle
    | none => true

/-! ## Compensation (05 R148 to R153) -/

/-- Interpolation of one table (R151, R152, R154): the index is the exact integer of the pseudocode, negative values
included. DESIGN CHOICE (log entry 57): where the index points outside the table's 256 entries, or the scaled position
is not finite, the pseudocode reads nothing it names, and the term is a free value of that position. -/
def interp (t : Slot) (friction neg : Bool) (x : F32) : F32 :=
  let base : Int := if friction && neg then 128 else 0
  let n : Int := if friction then 128 else 256
  let nf := fOfInt n
  let d := fSub x t.x0
  let (sv, i, j) :=
    if t.periodic then
      let q := fFloor (fMul d (fDiv f1 t.span))
      let d := fFma (fNeg q) t.span d
      let d := if fLt d f0 then fAdd d t.span else d
      let d := if fLe t.span d then fSub d t.span else d
      let sv := fMul d (fDiv nf t.span)
      let sv := if fLe nf sv then fSub sv nf else sv
      let i := fFloorInt sv
      (sv, i, (i + 1) % n)
    else
      let sv := fClamp (fMul d (fDiv (fOfNat 127) t.span)) f0 (fOfNat 127)
      let i := min (fFloorInt sv) 126
      (sv, i, i + 1)
  if fFinite sv && decide (0 ≤ base + i ∧ base + i ≤ 255) then
    let f := fSub sv (fOfInt i)
    let a := tget f0 t.entries (base + i).toNat
    let b := tget f0 t.entries (base + j).toNat
    fFma f (fSub b a) a
  else Config.tableOutside sv

/-- The friction direction at a valid sample (R151). -/
def direction (h x e : F32) (fresh : Bool) (l : Loop) : Loop :=
  let l := if fresh then { l with xa := x, dirNeg := !fLe f0 e } else l
  if !l.dirNeg then
    if fLt l.xa x then { l with xa := x }
    else if fLt x (fSub l.xa h) then { l with dirNeg := true, xa := x } else l
  else if fLt x l.xa then { l with xa := x }
  else if fLt (fAdd l.xa h) x then { l with dirNeg := false, xa := x } else l

/-- The terms at a valid sample with a valid position. -/
def compValid (s : State) (d : Bytes) (l : Loop) (x e : F32) : Loop :=
  let fresh := !l.compSeen || l.zeroed
  let l := { l with posx := x, compSeen := true, zeroed := false, compConsec := 0 }
  let fr := s.slot (dFric d)
  let l := if dFric d = 0xFFFF then l
    else
      let l := direction fr.hyst x e fresh l
      { l with cFric := interp fr true l.dirNeg x }
  if dCog d = 0xFFFF then l else { l with cCog := interp (s.slot (dCog d)) false false x }

/-- Whether a loop names a table. -/
def namesTable (d : Bytes) : Bool := dFric d ≠ 0xFFFF || dCog d ≠ 0xFFFF

/-- The compensation of one valid sample of a loop with a compensation position source (R151, R153, R169); the second
answer tells that the terms have just been zeroed, which only a loop that names a table has to lose. -/
def compensate (s : State) (d : Bytes) (l : Loop) (e : F32) : Loop × Bool :=
  if dCompType d = 0 then (l, false)
  else match compPos s d with
  | some x => (compValid s d l x e, false)
  | none =>
    let l := { l with compInv := min (l.compInv + 1) (2 ^ 30 - 1), compConsec := l.compConsec + 1 }
    if l.compConsec = dInvLimit d && namesTable d then
      ({ l with cFric := f0, cCog := f0, zeroed := true }, true)
    else (l, false)

/-! ## Loop law (R122, R123) -/

/-- The first block, at the commit instant. -/
def lawCommit (d : Bytes) (l : Loop) : Loop :=
  let ts := fDiv f1 (fOfNat (rateHz (dRate d)))
  { l with
    kiTs := fMul (dKi d) ts, stepSt := fMul (dStartRate d) ts, stepSl := fMul (dSlewRate d) ts
    stepSf := fMul (dSafeRate d) ts, duMax := fMul (dOutRate d) ts }

/-- The second block, at the first valid sample. -/
def lawFirst (d : Bytes) (l : Loop) (y : F32) : Loop :=
  { l with
    rPrev := y, yPrev := y, dstate := f0, acc := dAInit d, uPrev := dOutInit d, ramping := true
    started := true }

/-- The third block down to r and the end of the ramp. -/
def lawRef (d : Bytes) (l : Loop) (ref : F32) : Loop :=
  let rc := if l.safeRamp then dSafeRef d else fFma (dRefGain d) ref (dRefOffset d)
  let step := if l.safeRamp then l.stepSf else if l.ramping then l.stepSt else l.stepSl
  let r := if fEq step f0 then rc else fClamp rc (fSub l.rPrev step) (fAdd l.rPrev step)
  { l with r := r, ramping := l.ramping && !fEq r rc }

/-- The output clamp's input: all the terms of u. -/
def lawTerms (d : Bytes) (l : Loop) (e ff : F32) : F32 :=
  let u := fAdd (fMul (dKp d) e) l.acc
  let u := fFma (fNeg (dKd d)) l.dstate u
  let u := fFma (dFfGain d) ff u
  let u := fAdd u (dFfBias d)
  fAdd (fAdd u l.cFric) l.cCog

/-- The third block from p to the end, with the flags it gives (Table 4.7 bits 3 to 5). -/
def lawOut (d : Bytes) (l : Loop) (y e ff : F32) : Loop × Nat :=
  let l := { l with acc := fClamp (fFma l.kiTs e l.acc) (dIMin d) (dIMax d) }
  let raw := fMul (fSub y l.yPrev) (fOfNat (rateHz (dRate d)))
  let l := { l with dstate := fFma (dDAlpha d) (fSub raw l.dstate) l.dstate }
  let u := fClamp (lawTerms d l e ff) (dOutMin d) (dOutMax d)
  let v := if fLt f0 l.duMax then fClamp u (fSub l.uPrev l.duMax) (fAdd l.uPrev l.duMax) else u
  let fl := bit (fEq l.acc (dIMin d) || fEq l.acc (dIMax d)) 3 +
    bit (fEq v (dOutMin d) || fEq v (dOutMax d)) 4 + bit (!fEq v u) 5
  ({ l with uPrev := v, rPrev := l.r, yPrev := y, y := y, u := v, next := some v }, fl)

/-! ## Sinks (R124, R125, R132) -/

/-- An integer field value: the nearest integer, ties to even, saturated; the spec gives none for a
NaN, which is free (log entry 32). -/
def fieldInt (v : F32) (lo hi : Int) : Int :=
  if fIsInf v then (if fSign v then lo else hi)
  else if fIsNaN v then satInt lo hi (Config.freeNat v.toNat)
  else satInt lo hi (fToInt v)

/-- A field in an encoding of Table 4.4. -/
def encField (enc : Nat) (v : F32) : Bytes :=
  match enc with
  | 0 => leI 1 (fieldInt v 0 255)
  | 1 => leI 1 (fieldInt v (-128) 127)
  | 2 => leI 2 (fieldInt v 0 65535)
  | 3 => leI 2 (fieldInt v (-32768) 32767)
  | 4 => leI 4 (fieldInt v 0 4294967295)
  | 5 => leI 4 (fieldInt v (-2147483648) 2147483647)
  | _ => leF v

/-- Replace bytes of a string at an offset. -/
def putBytes (p : Bytes) (o : Nat) (b : Bytes) : Bytes := p.take o ++ b ++ p.drop (o + b.length)

/-- The frame of a CAN sink (R124, R125). -/
def sinkFrame (d : Bytes) (u : F32) : CanFrame :=
  let v := fFma (dOutScale d) u (dOutOffset d)
  { id := dSinkId d % 2 ^ 29, ide := (dSinkId d).testBit 29, fmt := 0, remote := false, brs := false
    esi := false, sdu := 0, vcid := 0, af := 0
    data := putBytes ((dTemplate d).take (dSinkLen d)) (dSinkOff d) (encField (dSinkEnc d) v) }

/-- The sink is lost (R132). -/
def sinkLost (s : State) (d : Bytes) : Bool :=
  match dSink d with
  | 1 =>
    let k := dSinkIdx d
    s.st (chFid k) ≠ .running || (s.chan k).latch.isSome || (s.chan k).lock.isSome
  | 2 => !canSinkOk s (dSinkIdx d)
  | _ => false

/-- The output of the previous sample is issued (R108, R134). -/
def loopIssue (s : State) (n : Nat) (d : Bytes) : State :=
  let l := s.loop n
  match l.next with
  | none => s
  | some u =>
    let s := s.setLoop n { l with out := u, issued := true }
    match dSink d with
    | 1 => loopCmdTo s (dSinkIdx d) n (if l.stopped && dSafe d = 2 then f0 else u)
    | 2 => canLoopIssue s (dSinkIdx d) n (sinkFrame d u)
    | _ => s

/-! ## Safe actions (R131, R134 to R138) -/

/-- A loop takes its safe action, from its next sample instant on (Table 4.5). -/
def safeAction (d : Bytes) (l : Loop) : Loop :=
  if l.latched || l.stopped || l.safeRamp then { l with st := 5 }
  else
    match dSafe d with
    | 0 => { l with st := 5, safeRamp := true }
    | 1 => { l with st := 5, stopped := true }
    | _ => { l with st := 5, stopped := true, next := some (dSafeOut d) }

/-- Every loop of a group takes its safe action. -/
def grpSafe (s : State) (g : Nat) : State :=
  (grpLoops s g).foldl (fun s n => s.setLoop n (safeAction (s.loopCfg n) (s.loop n))) s

/-- A loop is lost (R131, R132): safe action, latch, fault source, LOOP_LOST. -/
def loopLost (s : State) (n g : Nat) (d : Bytes) (byInput : Bool) : State :=
  let s := s.setLoop n { safeAction d (s.loop n) with latched := true }
  let s := emitFault s 0x0302 (gFid g) (le 2 n ++ b1 (if byInput then 1 else 2) ++ b1 (dSafe d))
  pulse s (if byInput then 16 else 17) n

/-- Flags of Table 4.7 that do not come from the law. -/
def loopFlags (s : State) (g : Nat) (d : Bytes) (inv stale lost : Bool) : Nat :=
  bit inv 0 + bit stale 1 + bit lost 2 + bit (s.grp g).hold.isSome 6 + bit (sourceEnded s d) 7

/-- A sample that is not valid (R131, R132). -/
def invalidSample (s : State) (n g : Nat) (d : Bytes) (inv stale lost : Bool) : State :=
  let l := s.loop n
  let l := { l with
    inv := satN 4 (l.inv + 1), consecInv := l.consecInv + 1, afterInv := l.started
    flags := loopFlags s g d inv stale lost + (l.flags / 8 % 8) * 8
    st := if l.latched || l.safeRamp then 5 else if l.started then 4 else 1 }
  let s := s.setLoop n l
  if l.consecInv = dInvLimit d && !l.latched then loopLost s n g d (inv || stale) else s

/-- A valid sample: the law runs (R122). -/
def validSample (s : State) (n g : Nat) (d : Bytes) (x : F32) : State :=
  let l := s.loop n
  let y := fFma (dInGain d) x (dInOffset d)
  let l := if !l.started then lawFirst d l y else if l.afterInv then { l with yPrev := y } else l
  let l := lawRef d { l with afterInv := false, consecInv := 0 } (refIn s n d)
  let e := fSub l.r y
  let (l, zeroed) := compensate s d l e
  let (l, fl) := lawOut d l y e (ffIn s n d)
  let l := { l with
    flags := loopFlags s g d false false false + fl
    st := if l.latched || l.safeRamp then 5 else if l.ramping then 2 else 3 }
  let s := s.setLoop n l
  if zeroed then
    pulse (emitFault s 0x0401 (gFid g) (le 2 n ++ zeros 2 ++ le 4 l.compInv)) 16 n
  else s

/-- STARTING ends once every loop has started or taken its safe action (R130). -/
def grpProgress (s : State) (g : Nat) : State :=
  if s.st (gFid g) = .starting && (s.grp g).committed &&
      (grpLoops s g).all (fun n => (s.loop n).started || (s.loop n).latched) then
    changeState s (gFid g) .running
  else s

/-- LOOP_SAMPLE (R108, R122, R131). -/
def xLoopSample (n : Nat) (s : State) : State :=
  match appGroup s n with
  | none => s
  | some g =>
    let d := s.loopCfg n
    if grpActive s g && sampleDue s n g d then
      let s := loopIssue s n d
      let l := s.loop n
      let s := s.setLoop n
        { l with
          last := some s.mono, catchUp := none, missed := false
          consecMiss := if l.missed then l.consecMiss else 0 }
      if l.stopped then { s with cle := { s.cle with prev := tdel s.cle.prev n } }
      else
        let s := { s with cle := { s.cle with prev := tput s.cle.prev n l } }
        let s := evalArrives s n (periodNs (dRate d))
        let lost := sinkLost s d
        let (v, inv, stale) := measure s n d
        let s := match v, lost with
          | some x, false => validSample s n g d x
          | _, _ => invalidSample s n g d inv stale lost
        grpProgress s g
    else s

/-- LOOP_SAMPLE_MISSED (R133): at the deadline of its evaluation, the loop's state is what it was before the sample; a
safe action taken since the sample stands, SAFE_OUT with it. A stopped loop evaluates nothing and misses nothing. -/
def xLoopSampleMissed (n : Nat) (s : State) : State :=
  match appGroup s n, tfind s.cle.prev n with
  | some g, some l =>
    let cur := s.loop n
    if grpActive s g && sampleDue s n g (s.loopCfg n) && !cur.missed && cur.last.isSome then
      let safe := cur.latched || cur.stopped || cur.safeRamp
      let safeOut := cur.stopped && decide (dSafe (s.loopCfg n) = 2)
      let l := { l with
        last := cur.last, catchUp := cur.catchUp, missed := true, miss := satN 4 (cur.miss + 1)
        consecMiss := cur.consecMiss + 1, inv := cur.inv, latched := cur.latched, stopped := cur.stopped
        safeRamp := cur.safeRamp, st := if safe then cur.st else l.st
        next := if safeOut then cur.next else l.next }
      let s := s.setLoop n l
      let s := { s with cle := { s.cle with missed := satN 4 (s.cle.missed + 1), margin := 0 } }
      let s := emitFault s 0x0304 (gFid g) (le 2 n ++ zeros 2 ++ le 4 l.miss)
      let s := pulse s 18 n
      if 2 ≤ l.consecMiss then { s with fcr := { s.fcr with react := s.fcr.react ++ [.actReset 1] } } else s
    else s
  | _, _ => s

/-! ## START of a group (R111, R121, R126 to R128, R159, R162, 13 R443) -/

/-- Groups whose loops count against capacity (R111). -/
def grpCounts (s : State) (g : Nat) : Bool := !(s.st (gFid g)).idle

/-- The applied descriptors of loops in groups that pass a test, but for one group. -/
def appLoops (s : State) (p : Nat → Bool) (but : Nat) : List (Nat × Bytes) :=
  s.applied.filterMap fun e => match e.1 with
    | .loop n => if dGroup e.2 ≤ 63 ∧ dGroup e.2 ≠ but ∧ p (dGroup e.2) = true then some (n, e.2) else none
    | _ => none

/-- Evaluations per second of a list of loops (R111). -/
def evalsOf (l : List (Nat × Bytes)) : Nat := l.foldl (fun a e => a + rateHz (dRate e.2)) 0
def evalsUsed (s : State) : Nat := evalsOf (appLoops s (grpCounts s) 64)

/-- The staged descriptors of a group, ascending. -/
def stgLoops (s : State) (g : Nat) : List (Nat × Bytes) :=
  (loopsOf s.staged g).map fun n => (n, s.stg (.loop n))

/-- Two descriptors drive the same channel, or the same identifier on the same controller (R126). -/
def sameSink (a b : Bytes) : Bool :=
  decide (dSink a = dSink b) && decide (dSinkIdx a = dSinkIdx b) &&
    (decide (dSink a = 1) || (decide (dSink a = 2) && decide (dSinkId a = dSinkId b)))

def dupSink (others : List (Nat × Bytes)) (e : Nat × Bytes) : Bool :=
  others.any fun o => o.1 ≠ e.1 && sameSink o.2 e.2

/-- Each table field names a table of the right kind (R159). -/
def kindsOk (s : State) (d : Bytes) : Bool :=
  (dFric d = 0xFFFF || (s.slot (dFric d)).kind = 1) && (dCog d = 0xFFFF || (s.slot (dCog d)).kind = 2)
def tablesLoaded (s : State) (d : Bytes) : Bool :=
  (dFric d = 0xFFFF || (s.slot (dFric d)).loaded) && (dCog d = 0xFFFF || (s.slot (dCog d)).loaded)

/-- The CAN load check of one controller (13 R443). -/
def canLoadOk (s : State) (l : List (Nat × Bytes)) (k : Nat) : Bool :=
  let m := l.filter fun e => dSink e.2 = 2 && dSinkIdx e.2 = k
  decide (m.length ≤ 64) && decide (evalsOf m * 320 * nDiv (s.canCfg k) ≤ 80000000)

/-- The loop a loop takes its reference from. -/
def refEdge (l : List (Nat × Bytes)) (n : Nat) : Option Nat :=
  match l.find? fun e => e.1 = n with
  | some e => if dRefType e.2 = 2 then some (dRefIdx e.2) else none
  | none => none

/-- Following references from a loop comes back to it within a number of steps (R121). -/
def comesBack (l : List (Nat × Bytes)) (n : Nat) : Nat → Nat → Bool
  | 0, _ => false
  | fuel + 1, m =>
    match refEdge l m with
    | none => false
    | some k => k = n || comesBack l n fuel k

/-- A channel sink meets R124. -/
def chanSinkOk (s : State) (n : Nat) (d : Bytes) : Bool :=
  let k := dSinkIdx d
  let c := s.chCfg k
  fLe f0 (dOutMin d) && fLe (dOutMax d) (fOfNat (if classH k then 25 else 6)) && cMode c = 3 &&
    cSrc c = 1 && cLoop c = n && s.st (chFid k) = .running

/-- The state checks of one loop: the cause of the first that fails (R127 step 5). -/
def loopStateCause (s : State) (g : Nat) (e : Nat × Bytes) : Option Nat :=
  let (n, d) := e
  let srcOk := dRefType d ≠ 2 || dGroup (s.stg (.loop (dRefIdx d))) = g ||
    match appGroup s (dRefIdx d) with
    | some h => (s.st (gFid h)).live
    | none => false
  let sinkOk := match dSink d with
    | 1 => chanSinkOk s n d
    | 2 => canSinkOk s (dSinkIdx d) && nMode (s.canCfg (dSinkIdx d)) = 0
    | _ => true
  if (measure s n d).1.isNone then some 1
  else if !srcOk then some 2
  else if !sinkOk then some 3
  else if !tablesLoaded s d then some 7
  else if namesTable d && (compPos s d).isNone then some 1
  else none

/-- The checks of R127 in order: status, loop and cause of the first that fails. DESIGN CHOICE (R121, log entry 57): a
group being started stands in CONFIG and is not OFF, but its own applied descriptors are what this START replaces, so
the graph takes its loops' staged descriptors alone; a loop that another group's applied configuration still holds and
that is staged into this group has its staged edge alone. -/
def grpVerdict (s : State) (g : Nat) : Option (Nat × Nat × Nat) :=
  let mine := stgLoops s g
  let busy := appLoops s (grpCounts s) g
  let notOff := appLoops s (fun h => decide (s.st (gFid h) ≠ .off)) g
  let all := mine ++ notOff
  if s.fcr.safeStopped then some (stWrongState, 0xFFFF, 9)
  else
    let param := mine.findSome? fun e =>
      if dupSink all e then some (stBadParam, e.1, 4)
      else if !kindsOk s e.2 then some (stBadParam, e.1, 7) else none
    match param with
    | some v => some v
    | none =>
      if 6400000 < evalsOf mine + evalsOf busy then some (stOverCapacity, 0xFFFF, 6)
      else if !(List.range 10).all (canLoadOk s (mine ++ busy)) then some (stOverCapacity, 0xFFFF, 6)
      else
        match (sortNat (all.map (·.1))).find? fun n => comesBack all n all.length n with
        | some n => some (stBadParam, n, 5)
        | none =>
          if s.st (tdFid (gDomain (s.stg (.group g)))) ≠ .running then some (stWrongState, 0xFFFF, 8)
          else mine.findSome? fun e => (loopStateCause s g e).map fun c => (stWrongState, e.1, c)

/-- START's check, with START_CHECK where it fails (R127). -/
def grpCheck (s : State) (g : Nat) : State × Verdict :=
  match grpVerdict s g with
  | none => (s, none)
  | some (st, n, c) =>
    (emit s 0x0301 (gFid g) (le 2 n ++ b1 c ++ b1 0), some (st, if st = stBadParam then noField else 0))

/-- START has passed its check: STARTING, to commit at a shared instant (R128). -/
def grpBegin (s : State) (g : Nat) : State :=
  let s := beginStart s (gFid g)
  s.setGrp g { committed := false, hold := none }

/-- A loop at the commit instant: counters from zero, waiting for its first valid sample. DESIGN CHOICE (R144, log
entry 57): the counters since the group's last START restart here, with the loops, and not at the START's acceptance. -/
def loopCommit (s : State) (n : Nat) : State :=
  let l := s.loop n
  let l' : Loop :=
    { st := 1, y := l.y, r := l.r, u := l.u, acc := l.acc, out := l.out, posx := l.posx }
  let s := s.setLoop n (lawCommit (s.loopCfg n) l')
  let s := { s with cle := { s.cle with prev := tdel s.cle.prev n } }
  if dSink (s.loopCfg n) = 1 then
    let k := dSinkIdx (s.loopCfg n)
    s.setChan k { s.chan k with waitCommit := false }
  else s

/-- GROUP_START_COMMIT (R128): the first shared instant at least 20 µs after the check. -/
def xGroupStartCommit (g : Nat) (s : State) : State :=
  if s.st (gFid g) = .starting && !(s.grp g).committed && s.past (s.fn (gFid g)).since (usT 20) &&
      grpAt s g 1000000 then
    let s := s.setGrp g { s.grp g with committed := true }
    grpProgress ((grpLoops s g).foldl loopCommit s) g
  else s

/-! ## Stop, faults and holds (R135 to R139, 01 R37, R38) -/

/-- A loop still waiting for its first valid sample at an abort never drives its sink (R137). -/
def loopAbort (s : State) (n : Nat) : State :=
  let l := s.loop n
  if l.started || l.latched then s.setLoop n (safeAction (s.loopCfg n) l)
  else s.setLoop n { l with stopped := true, next := none }

/-- STOP of a group (R135, R137). -/
def grpStop (s : State) (g : Nat) : State :=
  let start := decide (s.st (gFid g) = .starting)
  let s := if (s.grp g).committed then
      if start then (grpLoops s g).foldl loopAbort s else grpSafe s g
    else s
  let s := s.setGrp g { s.grp g with hold := none }
  beginStop s (gFid g)

/-- A loop's group is OFF (R135, R144). -/
def loopOff (s : State) (n : Nat) : State :=
  let d := s.loopCfg n
  let l := s.loop n
  let s := s.setLoop n { l with st := 0, flags := 0, next := none, last := none }
  match dSink d with
  | 1 => loopCmdTo s (dSinkIdx d) n f0
  | 2 =>
    let x := s.can1 (dSinkIdx d)
    s.setCan (dSinkIdx d) { x with slots := tdel x.slots n }
  | _ => s

/-- A RAMP loop has arrived at SAFE_REF (R135, R136). -/
def arrived (s : State) (n : Nat) : Bool :=
  let l := s.loop n
  !l.safeRamp || l.stopped || fEq l.r (dSafeRef (s.loopCfg n))

/-- GROUP_STOP_COMPLETE (R135, R137). -/
def xGroupStopComplete (g : Nat) (s : State) : State :=
  let f := s.fn (gFid g)
  let active := (s.grp g).committed
  if f.st = .stopping && decide (f.since < s.mono) && grpAt s g 1000000 &&
      (!active || (grpLoops s g).all (arrived s) || s.past f.since (secT 60)) then
    let s := if f.toFault then s
      else
        let s := if active then (grpLoops s g).foldl loopOff s else s
        s.setGrp g { committed := false, hold := none }
    finishStop (grpCheck · g) (grpBegin · g) (gFid g) s
  else s

/-- Every loop takes its safe action and the group is FAULTED; in STOPPING the stop completes first
(01 R33, R138, 14 R478). -/
def grpFault (s : State) (g : Nat) : State :=
  match s.st (gFid g) with
  | .starting | .running | .faulted =>
    let s := if (s.grp g).committed then grpSafe s g else s
    changeState (s.setGrp g { s.grp g with hold := none }) (gFid g) .faulted
  | .stopping => faultStopping s (gFid g)
  | _ => s

/-- An actuation-domain reset of the engine (R139): loops and groups as at reset; tables stay, and
PSPs are 0.0 (07 R210). -/
def grpReset (s : State) (g : Nat) : State := blockReset s (gFid g)
def cleReset (s : State) : State :=
  let s := { s with cle := { s.cle with
    loops := [], prev := [], groups := [], psp := [], pspGuid := [], waiting := [] } }
  forN 64 grpReset s

/-- A processor-complex reset on a group (01 R37, R38). -/
def grpCoreReset (s : State) (g : Nat) : State :=
  if (s.st (gFid g)).live && (s.grp g).hold.isNone then
    if gHold (s.grpCfg g) = 0 then grpFault s g else s.setGrp g { s.grp g with hold := some s.mono }
  else s

/-- GROUP_HOLD_EXPIRY (01 R38). -/
def xGroupHoldExpiry (g : Nat) (s : State) : State :=
  match (s.grp g).hold with
  | some t => if s.past t (msT (gHold (s.grpCfg g))) then grpFault s g else s
  | none => s

/-- A loop has been written a new reference or feed-forward value: its group's hold ends (01 R38). -/
def holdWritten (s : State) (n : Nat) : State :=
  match appGroup s n with
  | some g => if (s.grp g).hold.isSome then s.setGrp g { s.grp g with hold := none } else s
  | none => s

/-- The loops that read any of a list of PSPs. -/
def pspReaders (s : State) (ps : List Nat) : List Nat :=
  s.applied.filterMap fun e => match e.1 with
    | .loop n =>
      if (dRefType e.2 = 1 ∧ ps.contains (dRefIdx e.2) = true) ∨
          (dFfType e.2 = 2 ∧ ps.contains (dFfIdx e.2) = true) then some n else none
    | _ => none

/-- PSPs are issued at one instant (07 R211); an issue ends the holds of the groups that read them
(01 R38). -/
def pspIssue (s : State) (byGuid : Bool) (l : List (Nat × F32)) : State :=
  let ps := l.map Prod.fst
  let keep := s.cle.pspGuid.filter fun p => !ps.contains p
  let c : Cle :=
    { s.cle with
      psp := l.foldl (fun t e => tput t e.1 e.2) s.cle.psp
      pspGuid := if byGuid then ps ++ keep else keep }
  (pspReaders s ps).foldl holdWritten { s with cle := c }

/-- How far, in ns, the next instant of a grid of period p lies ahead of a time. -/
def gridAhead (new ph p : Nat) : Nat := (p - (new + 1000000000 - ph) % p) % p

/-- How long ago, in ns, a group's 1 kHz grid last stood at an instant of the old time; an instant that falls on the
step itself is one of the new time, unless a loop has sampled at it. -/
def gridAgo (s : State) (g old : Nat) : Nat :=
  let a := (old + 1000000000 - gPhase (s.grpCfg g)) % 1000000
  if a < 8 && !(grpLoops s g).any (fun n => (s.loop n).last = some s.mono) then a + 1000000 else a

/-- The grid instant of the new time that R110 asks for has already gone by at the step: the next one ahead would leave
1.5 P or more. -/
def gridBehind (ago ahead p : Nat) : Bool := decide (3 * p ≤ 2 * (ago + ahead))

/-- A loop of a stepped group. R110 asks for the first grid instant of the new time at least P/2 after the last sample and
for an interval of 0.5 P to 1.5 P; where the step skips over that instant, the two cannot both hold. DEDUCED (log entry
57): the interval holds, and the loop samples at the step itself. -/
def loopStepped (new g : Nat) (s : State) (n : Nat) : State :=
  let l := s.loop n
  let p := periodNs (dRate (s.loopCfg n))
  match l.last with
  | some t =>
    if gridBehind ((s.mono - t) * 4) (gridAhead new (gPhase (s.grpCfg g)) p) p then
      s.setLoop n { l with catchUp := some s.mono }
    else s
  | none => s

/-- The 1 kHz interval that a step leaves in a group's grid, in ns. -/
def stepInterval (s : State) (g old new : Nat) : Nat :=
  let ago := gridAgo s g old
  let ahead := gridAhead new (gPhase (s.grpCfg g)) 1000000
  if gridBehind ago ahead 1000000 then ago
  else if ago + ahead < 500000 then ago + ahead + 1000000 else ago + ahead

/-- GRID_STEP (R110, 05 R164): a domain has been stepped from one time to another, in ns. -/
def gridStep (d old new : Nat) (s : State) (g : Nat) : State :=
  let c := s.grpCfg g
  if grpActive s g && gDomain c = d then
    let s := (grpLoops s g).foldl (loopStepped new g) s
    emit s 0x0303 (gFid g) (b1 d ++ b1 0 ++ le 4 (stepInterval s g old new) ++ zeros 2)
  else s

/-! ## Opcodes (R140 to R145, R155 to R158, R161, R168) -/

/-- The staged group of a loop, as a function. -/
def groupFids (d : Bytes) : List Nat := if dGroup d ≤ 63 then [gFid (dGroup d)] else []

/-- LOOP_CONFIG (R140). -/
def opLoopConfig : OpSpec where
  code := 0x0300
  token := true
  len := fun _ => 148
  layout := loopChecks
  body := fun s p =>
    let n := dLoop p
    cfgAnswer s (groupFids (s.stg (.loop n)) ++ groupFids p) fun s =>
      { s.setStg (.loop n) p with cle := { s.cle with canIn := tdel s.cle.canIn n } }

/-- LOOP_READ (R142). DESIGN CHOICE (log entry 57): a loop whose staged descriptor has left its group is still held by
the applied configuration of the old group, and its applied descriptor is answered; the rule's list, which begins with
"the loop is in no group", is taken of applied configurations. -/
def opLoopRead : OpSpec where
  code := 0x0301
  len := fun _ => 4
  layout := fun p => [ckRange p 0 2 0 511, ckRange p 2 1 0 1, ckZero p 3 1]
  body := fun s p =>
    let n := rd p 0 2
    if byteAt p 2 = 0 then okWith s (s.stg (.loop n))
    else if (appGroup s n).isSome then okWith s (s.loopCfg n) else failAns s stWrongState 0

/-- The entries of LOOP_SET_REFERENCE and LOOP_SET_FEEDFORWARD. -/
def setEntries (p : Bytes) : List (Nat × F32) :=
  (List.range (rd p 0 2)).map fun i => (rd p (4 + 8 * i) 2, rdF p (8 + 8 * i))

def setLayout (p : Bytes) : List FieldChk :=
  [ckRange p 0 2 1 64, ckZero p 2 2] ++ (List.range (rd p 0 2)).flatMap fun i =>
    let o := 4 + 8 * i
    [ckRange p o 2 0 511, ckZero p (o + 2) 2, ckF p (o + 4)]

/-- The first entry that names a loop twice, or a loop whose type is not host (R143). -/
def setBad (s : State) (isHost : Bytes → Bool) (p : Bytes) : Option Nat :=
  let e := (setEntries p).map (·.1)
  ((List.range e.length).find? fun i =>
    let n := e.getD i 0
    (e.take i).contains n || !(isHost (s.stg (.loop n)) ||
      match s.appOpt (.loop n) with | some d => isHost d | none => false)).map (4 + 8 * ·)

/-- LOOP_SET_REFERENCE (R118, R143). -/
def opLoopSetReference : OpSpec where
  code := 0x0302
  token := true
  len := fun p => 4 + 8 * rd p 0 2
  layout := setLayout
  body := fun s p =>
    match setBad s (fun d => dRefType d = 0) p with
    | some o => badParam s o
    | none =>
      let e := setEntries p
      let s := { s with cle := { s.cle with
        hostRef := e.foldl (fun t x => tput t x.1 x.2) s.cle.hostRef } }
      okAns (e.foldl (fun s x => holdWritten s x.1) s)

/-- LOOP_SET_FEEDFORWARD (R118, R143). -/
def opLoopSetFeedforward : OpSpec where
  code := 0x0303
  token := true
  len := fun p => 4 + 8 * rd p 0 2
  layout := setLayout
  body := fun s p =>
    match setBad s (fun d => dFfType d = 1) p with
    | some o => badParam s o
    | none =>
      let e := setEntries p
      let s := { s with cle := { s.cle with
        hostFf := e.foldl (fun t x => tput t x.1 x.2) s.cle.hostFf } }
      okAns (e.foldl (fun s x => holdWritten s x.1) s)

/-- An entry of Table 4.7. -/
def loopEntry (s : State) (n : Nat) : Bytes :=
  let l := s.loop n
  le 2 n ++ b1 l.st ++ b1 l.flags ++ leF l.y ++ leF l.r ++ leF l.u ++ leF l.acc ++ le 4 l.inv ++ le 4 l.miss

/-- LOOP_STATUS (R144). -/
def opLoopStatus : OpSpec where
  code := 0x0304
  len := fun _ => 4
  layout := fun p =>
    [ckRange p 0 2 0 511, ckRange p 2 2 1 32, (2, decide (rd p 0 2 + rd p 2 2 ≤ 512))]
  body := fun s p =>
    okWith s (leT s.now ++ (List.range (rd p 2 2)).flatMap fun i => loopEntry s (rd p 0 2 + i))

/-- The margin once every evaluation that has completed by now is counted. -/
def marginNow (s : State) : Nat :=
  let c := dispatch (s.mono * 4 + 1) s.cle.waiting.length s.cle
  c.margin

/-- CLE_CAPACITY (R145). -/
def opCleCapacity : OpSpec where
  code := 0x0305
  len := fun _ => 0
  body := fun s _ =>
    let l := appLoops s (grpCounts s) 64
    let used := evalsOf l
    okWith s (le 4 used ++ le 4 (6400000 - used) ++
      (List.range 5).flatMap (fun c => le 2 (l.filter fun e => dRate e.2 = c).length) ++ zeros 2 ++
      le 4 (marginNow s))

/-- A table is named by a loop of a group that is not OFF or CONFIG (R156). -/
def tableUsed (s : State) (i : Nat) : Bool :=
  (s.staged ++ s.applied).any fun e => match e.1 with
    | .loop _ => (decide (dFric e.2 = i) || decide (dCog e.2 = i)) && decide (dGroup e.2 ≤ 63) &&
        !(s.st (gFid (dGroup e.2))).idle
    | _ => false

def tableChecks (p : Bytes) : List FieldChk :=
  let kind := byteAt p 2
  let per := (byteAt p 3).testBit 2
  [ckRange p 0 2 0 1023, ckRange p 2 1 0 2, ckMask p 3 1 7,
   (3, decide (kind = 1) || decide (per = decide (kind = 2))), ckF p 4,
   (8, (ckFGt0 p 8).2 && (decide (kind ≠ 0) || fEq (rdF p 8) f1)),
   (12, (ckFNonneg p 12).2 && (decide (kind = 1) || fEq (rdF p 12) f0)), ckRange p 16 2 0 255,
   (18, decide (rd p 16 2 + rd p 18 2 ≤ 256))] ++ ckFloats p 20 (min (rd p 18 2) 256) ++
  [(3, decide (kind ≠ 0) || (byteAt p 3).testBit 0), (16, decide (kind ≠ 0 ∨ rd p 16 2 = 0)),
   (18, decide (kind ≠ 0 ∨ rd p 18 2 = 0))]

/-- The first header field of a block that differs from the recorded header (R155). -/
def headerDiff (t : Slot) (p : Bytes) : Option Nat :=
  firstBad [(2, decide (byteAt p 2 = t.kind)), (3, decide ((byteAt p 3).testBit 2 = t.periodic)),
    (4, decide (rdF p 4 = t.x0)), (8, decide (rdF p 8 = t.span)), (12, decide (rdF p 12 = t.hyst))]

/-- The slot is stored in MRAM as it stands; an emptied slot has no stored copy (R156). -/
def storeSlot (s : State) (i : Nat) (t : Slot) : State :=
  { s with cle := { s.cle with
      slotsStored := if t.kind = 0 then tdel s.cle.slotsStored i else tput s.cle.slotsStored i t } }

/-- TABLE_WRITE (R155, R156). DESIGN CHOICE (log entry 57): the X0 of a block of kind 0, for which Table 5.2 names no
value, is not kept: the emptied slot's header is that of an empty slot. -/
def opTableWrite : OpSpec where
  code := 0x0400
  token := true
  len := fun p => 20 + 4 * rd p 18 2
  layout := tableChecks
  body := fun s p =>
    let i := rd p 0 2
    let fl := byteAt p 3
    let first := rd p 16 2
    let vals := wordsAt p 20 (rd p 18 2)
    let store (s : State) (t : Slot) : State := if fl.testBit 1 then storeSlot s i t else s
    if tableUsed s i then failAns s stWrongState 0
    else if byteAt p 2 = 0 then okAns (store (s.setSlot i {}) {})
    else
      let old := s.slot i
      let fresh : Slot :=
        { kind := byteAt p 2, periodic := fl.testBit 2, x0 := rdF p 4, span := rdF p 8, hyst := rdF p 12
          begun := true }
      if first ≠ 0 ∧ (old.begun = false ∨ old.loaded = true) then failAns s stWrongState 0
      else match (if first = 0 then none else headerDiff old p) with
      | some o => badParam s o
      | none =>
        let base := if first = 0 then fresh else old
        let t := { base with entries := putVals base.entries first vals }
        if fl.testBit 0 then
          match firstUnwritten t.entries 256 with
          | some j => failAns (s.setSlot i t) 0x80 j
          | none =>
            let t := { t with loaded := true, begun := false }
            okAns (store (s.setSlot i t) t)
        else okAns (s.setSlot i t)

/-- TABLE_READ (R157). -/
def opTableRead : OpSpec where
  code := 0x0401
  len := fun _ => 8
  layout := fun p =>
    [ckRange p 0 2 0 1023, ckRange p 2 2 0 255, (4, decide (rd p 2 2 + rd p 4 2 ≤ 256)), ckZero p 6 2]
  body := fun s p =>
    let i := rd p 0 2
    let t := s.slot i
    let v := imageVals t.entries 256
    okWith s (b1 t.kind ++
      b1 (bit t.loaded 0 + bit (tfind s.cle.slotsStored i).isSome 1 + bit t.periodic 2) ++ zeros 2 ++
      leF t.x0 ++ leF t.span ++ leF t.hyst ++ le 4 (crc32c (v.flatMap leF)).toNat ++
      ((v.drop (rd p 2 2)).take (rd p 4 2)).flatMap leF)

/-- The channels of a mask. -/
def maskChans (m : Nat) : List Nat := (List.range 24).filter m.testBit

/-- GROUP_CONFIG (R161). -/
def opGroupConfig : OpSpec where
  code := 0x0402
  token := true
  len := fun _ => 16
  layout := groupChecks
  body := fun s p =>
    let g := byteAt p 0
    let new := gMask p
    let old := gMask (s.stg (.group g))
    let clash := (List.range 64).any fun h =>
      h ≠ g && decide ((gMask (s.stg (.group h)) ||| gMask (s.app (.group h))) &&& new ≠ 0)
    if clash then badParam s 8
    else cfgAnswer s (gFid g :: (maskChans (old ||| new)).map chFid) fun s => s.setStg (.group g) p

/-- GROUP_READ (R168). -/
def opGroupRead : OpSpec where
  code := 0x0403
  len := fun _ => 4
  layout := fun p => [ckRange p 0 1 0 63, ckRange p 1 1 0 1, ckZero p 2 2]
  body := fun s p =>
    let g := byteAt p 0
    let reply (d : Bytes) (l : List (Nat × Bytes)) : Ans :=
      okWith s (d ++ le 2 l.length ++ zeros 2 ++ le 4 (evalsOf l))
    if byteAt p 1 = 0 then reply (s.stg (.group g)) (stgLoops s g)
    else if (s.fn (gFid g)).everApplied then
      reply (s.grpCfg g) ((grpLoops s g).map fun n => (n, s.loopCfg n))
    else failAns s stWrongState 0

end Sys2Proof.Machine
end

