-- ==== Sys2Proof/Machine/Fusion.lean ====
section
/-! DEFINITION. Alignment and fusion grid (chapter 09): ego-motion, cycles, samples, output heads,
headwind, crop-edge lines, contradictions, objects, weights, lifecycle and opcodes. What the
estimator and the network compute comes with the rows. -/

namespace Sys2Proof.Machine

def State.grid (s : State) : Bytes := s.app .fusGrid
def State.guidCfg (s : State) : Bytes := s.app .guidance
def State.setEgo (s : State) (e : Ego) : State := { s with fus := { s.fus with ego := e } }
/-- Fusion period in ns by rate code (R296). -/
def fusPeriod : Nat → Nat
  | 0 => 50000000 | 1 => 100000000 | 2 => 200000000 | _ => 500000000
/-- The monotonic tick at which TD0 shows, or showed, a time in ns (R299). -/
def tickOfNs (s : State) (ns : Nat) : Nat :=
  let now := s.tdNs 0
  if ns ≤ now then s.mono - (now - ns) / 4 else s.mono + (ns - now) / 4

/-! ## Ego-motion (R288 to R292) -/

def egoCfg (s : State) : Bytes := s.fus.ego.cfg.getD egoDefault
/-- The wheels whose speed is valid. -/
def wheelsValid (s : State) : List (Nat × Nat × Nat) :=
  ((List.range 4).map (egWheel (egoCfg s))).filter fun w =>
    decide (w.1 ≤ 7) && (inputVal s 2 w.1 w.2.1).isSome
/-- The signed speed of a wheel, while it is valid (R288): the input times M_PER_COUNT; a frequency takes the sign of the
velocity integrated from the inertial unit, and counts as forward while that is invalid. -/
def wheelSpeed (s : State) (vImu : F32) (i : Nat) : Option F32 :=
  let (k, q, _) := egWheel (egoCfg s) i
  if k ≤ 7 then
    (inputVal s 2 k q).map fun e =>
      let v := fMul e.1 (egPerCount (egoCfg s) i)
      if q = 0 && imuWord s = 1 && fLt vImu f0 then fNeg v else v
  else none
/-- The measured value of the steering loop is valid. -/
def steerValid (s : State) : Bool :=
  let d := egoCfg s
  let l := s.loop (egLoop d)
  egSteer d && l.started && l.flags % 4 = 0 &&
    match appGroup s (egLoop d) with | some g => grpActive s g | none => false

/-- The mode that Table 9.3 gives, with the times for which neither wheel speed nor inertial unit
has been valid. -/
def egoMode (s : State) (e : Ego) : Nat :=
  let w := wheelsValid s
  let sides := w.map fun x => x.2.2 % 2
  if !egEnable (egoCfg s) || e.far then 0
  else if imuWord s = 1 then
    if !w.isEmpty then 1
    else match e.noWheel with
      | some t => if s.mono ≤ t + msT 500 then 2 else 0
      | none => 2
  else if (sides.contains 0 && sides.contains 1) || (!w.isEmpty && steerValid s) then
    match e.noImu with
    | some t => if s.mono ≤ t + msT 200 then 3 else 0
    | none => 3
  else 0

/-- Ego-motion changes its mode: EGO_MODE, and FSRC134 while LOST (R290). -/
def egoSetMode (s : State) (m : Nat) : State :=
  let e := s.fus.ego
  if e.mode = m then s
  else
    let s := s.setEgo { e with mode := m, lostAt := if m = 0 then some s.mono else none }
    let data := b1 e.mode ++ b1 m ++ zeros 2
    let s := if m = 0 then emitFault s 0x0803 0xFFFF data else emit s 0x0803 0xFFFF data
    if m = 0 && egEnable (egoCfg s) then raise s 134 0 else returnSrc s 134

/-- A position lies beyond ±2,000 km of W's origin (R289). -/
def farOut (x y z : Int) : Bool := [x, y, z].any fun v => decide (2000000 * 1024 < v.natAbs)

/-- What the estimator's position is shifted by at an instant: on leaving LOST, so that it continues from the last
estimate published (R290). -/
def egoOff (e : Ego) (i : EgoIn) : Int × Int × Int :=
  match (if e.mode = 0 then e.est.head? else none) with
  | some l => (l.x - i.x, l.y - i.y, l.z - i.z)
  | none => e.off

/-- EGO_INSTANT (R288 to R290): what the estimator integrates, its position in W before the shift of R290; the estimate
carries the instant itself, a whole millisecond. -/
def xEgoInstant (i : EgoIn) (s : State) : State :=
  let e := s.fus.ego
  if fwRuns s && decide (s.pwr.state ≤ 1) && egEnable (egoCfg s) && atGrid (s.tdNs 0) 0 1000000 &&
      (match e.est.head? with | some x => decide (x.tick + usT 1 ≤ s.mono) | none => true) then
    let off := egoOff e i
    let v := if imuWord s = 1 then Config.imuVelocity (egoCfg s) s.cse.imu.v e.vImu else e.vImu
    let e := { e with
      far := e.far || farOut (i.x + off.1) (i.y + off.2.1) (i.z + off.2.2)
      vImu := v, wheels := (List.range 4).filterMap (wheelSpeed s v)
      noWheel := if (wheelsValid s).isEmpty then some (e.noWheel.getD s.mono) else none
      noImu := if imuWord s = 1 then none else some (e.noImu.getD s.mono) }
    let m := egoMode s e
    let e := if m = 0 then e
      else
        let r : EgoEst :=
          { time := T96.ofNs (s.tdNs 0 / 1000000 * 1000000), tick := s.mono, x := i.x + off.1, y := i.y + off.2.1
            z := i.z + off.2.2, roll := i.roll, pitch := i.pitch, yaw := wrapPi i.yaw, speed := i.speed
            yawRate := i.yawRate, mode := m }
        { e with off := off, est := (r :: e.est).take 4096 }
    egoSetMode (s.setEgo e) m
  else s

/-- EGO_CONFIG_COMMIT (R291, R289): W is set anew. -/
def xEgoConfigCommit (s : State) : State :=
  let e := s.fus.ego
  match e.pend with
  | some p =>
    if atGrid (s.tdNs 0) 0 1000000 then
      let s := s.setEgo
        { e with
          cfg := some p, pend := none, est := [], off := (0, 0, 0), far := false, noWheel := none, noImu := none }
      if egEnable p then s else returnSrc (egoSetMode s 0) 134
    else s
  | none => s

/-- A position between two, k of n ticks from the first; a quotient that is not whole is rounded as log entry 5 leaves
open. -/
def lerpInt (a b : Int) (k n : Nat) : Int :=
  let v := a * ((n : Int) - k) + b * k
  let q := v.fdiv n
  if v % n = 0 then q else if Config.roundUp (v % n).toNat n then q + 1 else q
/-- An angle between two, along the shorter arc. -/
def lerpAngle (a b f : F32) : F32 := wrapPi (fFma f (wrapPi (fSub b a)) a)

/-- The pose at a tick between two estimates (R292): linear in position, each angle along the shorter arc. -/
def EgoEst.between (b a : EgoEst) (t : Nat) : EgoEst :=
  if t = a.tick then a
  else
    let k := t - b.tick
    let n := a.tick - b.tick
    let f := fDiv (fOfNat k) (fOfNat n)
    { b with
      tick := t, x := lerpInt b.x a.x k n, y := lerpInt b.y a.y k n, z := lerpInt b.z a.z k n
      roll := lerpAngle b.roll a.roll f, pitch := lerpAngle b.pitch a.pitch f, yaw := lerpAngle b.yaw a.yaw f }

/-- The pose at a tick among the estimates kept, newest first, none in a break: two that follow each other are less than
2 ms apart, a step of TD0 between them included. -/
def poseAmong (t : Nat) : List EgoEst → Option EgoEst
  | a :: b :: r =>
    if b.tick ≤ t ∧ t ≤ a.tick then (if a.tick - b.tick < 497500 then some (b.between a t) else none)
    else poseAmong t (b :: r)
  | [a] => if a.tick = t then some a else none
  | [] => none
/-- The pose at a tick (R292). -/
def egoPose (s : State) (t : Nat) : Option EgoEst := poseAmong t s.fus.ego.est
/-- A sample has a pose (R292). -/
def hasPose (s : State) (t : Nat) : Bool := (egoPose s t).isSome
/-- The estimate in force at a tick: the latest at or before it. -/
def egoAt (s : State) (t : Nat) : Option EgoEst := s.fus.ego.est.find? fun e => decide (e.tick ≤ t + 2)

/-! ## Mountings (R301) -/

/-- Two coordinates turned by an angle. -/
def turn (a u v : F32) : F32 × F32 :=
  let c := Config.cos a
  let n := Config.sin a
  (fSub (fMul c u) (fMul n v), fAdd (fMul n u) (fMul c v))

/-- A vector rotated by roll about x, then by pitch about y, then by yaw about z (R301). -/
def rotated (rot v : Vec3) : Vec3 :=
  let (y, z) := turn rot.1 v.2.1 v.2.2
  let (z, x) := turn rot.2.1 z v.1
  let (x, y) := turn rot.2.2 x y
  (x, y, z)
/-- A vector of a sensor frame in the machine frame: rotated, then offset by the position (R301). -/
def mounted (m : Vec3 × Vec3) (v : Vec3) : Vec3 :=
  let r := rotated m.2 v
  (fAdd r.1 m.1.1, fAdd r.2.1 m.1.2.1, fAdd r.2.2 m.1.2.2)

/-- Metres of a length in units of 2^-10 m. -/
def egoM (x : Int) : F32 := fOfQ x 10
/-- An ego pose as the mounting of the machine frame in W. -/
def EgoEst.mount (e : EgoEst) : Vec3 × Vec3 := ((egoM e.x, egoM e.y, egoM e.z), (e.roll, e.pitch, e.yaw))
/-- A point of the machine frame in W by a pose. -/
def EgoEst.inW (e : EgoEst) (v : Vec3) : Vec3 := mounted e.mount v

/-- The instant of row r of a frame of H rows, as a tick: the mid-point plus (r − (H − 1) ÷ 2) line times (R300). -/
def rowTick (mid rows lineNs r : Nat) : Nat :=
  ((mid : Int) + ((2 * (r : Int) - (rows - 1 : Nat)) * lineNs).fdiv 8).toNat

/-- A frame as a cycle places it: the camera's mounting carried into W. -/
def placed (s : State) (x : FSample) : Option FPlaced :=
  (egoPose s x.tick).map fun e =>
    let m := camMount (s.app (.fusCam x.inp))
    { pipe := x.inp, origin := e.inW m.1
      axis := rotated (e.roll, e.pitch, e.yaw) (rotated m.2 (f0, f0, f1))
      first := rowTick x.tick x.rows x.lineNs 0, last := rowTick x.tick x.rows x.lineNs (x.rows - 1) }

/-! ## Samples (R300 to R304) -/

def fusLive (s : State) : Bool := (s.st fusFid).live
def fusDrop (s : State) (i n : Nat) : State :=
  { s with fus := { s.fus with dropped := tput s.fus.dropped i (satN 4 (tget 0 s.fus.dropped i + n)) } }

/-- The latest instant at which a sample may arrive whose time lies at or before the latest cut run
(R304): the second gather instant after its own. -/
def lateLimit (s : State) (t : Nat) : Option Nat :=
  let p := fusPeriod s.fus.rate / 4
  match s.fus.cuts.getLast? with
  | some c0 =>
    if t ≤ c0 then none
    else (s.fus.cuts.filter fun c => decide (t ≤ c)).getLast?.map (· + 2 * p + msT (fgGather s.grid))
  | none => none

/-- A sample arrives (R304). -/
def fusSample (s : State) (x : FSample) : State :=
  let old := match s.fus.cuts.head? with | some c => decide (x.tick ≤ c) | none => false
  let tooLate := old && match lateLimit s x.tick with | some l => decide (l < x.arrival) | none => true
  if x.arrival + secT 1 < x.tick || tooLate then fusDrop s x.inp 1
  else { s with fus := { s.fus with samples := s.fus.samples ++ [x] } }

/-- A point packet's own time, as a tick (R302). -/
def packetTick (s : State) (d : Bytes) (payload : Bytes) : Nat :=
  match stEnc d with
  | 0 => s.mono - usT (stLatency d)
  | 1 => tickOfNs s (T96.toNs (rdT payload (stTimeOff d)))
  | _ => tickOfNs s (rd payload (stTimeOff d) 8)

/-- A frame matches an enabled stream. -/
def streamMatch (s : State) (pk : PointPacket) (i : Nat) : Bool :=
  let d := s.app (.fusStream i)
  (fgStreams s.grid).testBit i && stTransport d ≠ 0 && decide (stTransport d = if pk.udp then 1 else 2) &&
    stPort d = pk.port && stDest d = pk.dest && (stMac d = 0 || stMac d = pk.mac)

/-- The cell index of a position in units of 2^-10 m (R293). -/
def cellIdx (x : Int) : Int := (5 * x).fdiv 256
/-- A global cell lies in the window of a centre (R293). -/
def inWindow (ci cj gi gj : Int) : Bool :=
  decide (ci - 512 ≤ gi ∧ gi ≤ ci + 511 ∧ cj - 512 ≤ gj ∧ gj ≤ cj + 511)
/-- Row and column of a global cell in the grid's memory (R293). -/
def cellPlace (gi gj : Int) : Nat × Nat := ((gi % 1024).toNat, (gj % 1024).toNat)

/-- The coordinates of a point as they stand, scaled (Table 9.4). -/
def pointRaw (d p : Bytes) (o c : Nat) : F32 :=
  let (enc, off, scale) := stCoord d c
  fMul ((canField enc (o + off) p).getD f0) scale
/-- A point's range, and its vector in the lidar frame: Cartesian, or range, azimuth and elevation. -/
def pointVec (d p : Bytes) (o : Nat) : F32 × Vec3 :=
  let a := pointRaw d p o 0
  let b := pointRaw d p o 1
  let c := pointRaw d p o 2
  if stPolar d then
    let h := fMul a (Config.cos c)
    (a, fMul h (Config.cos b), fMul h (Config.sin b), fMul a (Config.sin c))
  else (Config.sqrt (fAdd (fAdd (fMul a a) (fMul b b)) (fMul c c)), a, b, c)
/-- A point's own time, as a tick (R302). -/
def pointTick (d p : Bytes) (o packet : Nat) : Nat :=
  let (off, scale, enc) := stPtTime d
  if off = 0xFF then packet
  else ((packet : Int) + (fFloorInt (fMul ((canField enc (o + off) p).getD f0) scale)).fdiv 4).toNat

/-- A position in metres lies in the window now. -/
def pointInWindow (s : State) (v : Vec3) : Bool :=
  let u (x : F32) : Int := cellIdx (fFloorInt (fMul x (fOfNat 1024)))
  inWindow s.fus.ci s.fus.cj (u v.1) (u v.2.1)

/-- A point is used (R303): its range and raw range, and its position, carried by the stream's mounting into the machine
frame and by the pose at its own time into W. DESIGN CHOICE (log entry 60): the window is judged as the packet arrives,
and where no estimate spans the point's time yet, by the latest one. -/
def pointGood (s : State) (d p : Bytes) (packet o : Nat) : Bool :=
  let (r, v) := pointVec d p o
  let t := pointTick d p o packet
  let e := match egoPose s t with | some e => some e | none => s.fus.ego.est.head?
  !fEq r f0 && fLe (stMin d) r && fLe r (stMax d) &&
    match e with | some e => pointInWindow s (e.inW (mounted (stMount d) v)) | none => false

/-- One stream takes a packet (R302, R303). -/
def streamTake (pk : PointPacket) (s : State) (i : Nat) : State :=
  if streamMatch s pk i then
    let d := s.app (.fusStream i)
    let holds := (pk.payload.length - stFirst d) / stStride d
    let n := if stCount d = 0 then holds else min (stCount d) holds
    let packet := packetTick s d pk.payload
    let good := ((List.range n).filter fun j => pointGood s d pk.payload packet (stFirst d + j * stStride d)).length
    let recent := s.fus.recent.filter fun e => decide (s.mono < e.1 + msT 50)
    let taken := recent.foldl (fun a e => a + e.2) 0
    let use := min good (100000 - taken)
    let f := { s.fus with
      filtered := satN 4 (s.fus.filtered + (n - good)), recent := (s.mono, use) :: recent }
    let s := { s with fus := f }
    let s := if use < good then fusDrop s (8 + i) (good - use) else s
    fusSample s { inp := 8 + i, tick := packet, arrival := s.mono, points := use }
  else s

/-- POINT_PACKET_RECEIVED (R302 to R304). -/
def xPointPacketReceived (pk : PointPacket) (s : State) : State :=
  if fusLive s then forN 4 (streamTake pk) s else s

/-- A frame of a pipeline is handed to fusion (R300). -/
def fusFrame (s : State) (k tick rows lineNs : Nat) : State :=
  if fusLive s && (fgCams s.grid).testBit k then
    fusSample s { inp := k, tick := tick, arrival := s.mono, points := 0, rows := rows, lineNs := lineNs }
  else s

/-! ## Cycles (R293 to R299) -/

/-- The 32 state channels of a cell of the window (R294): those the latest update gave it, or the initial vector of the
weights where it has entered the window since, or met an uncorrectable ECC error. -/
def cellChannels (s : State) (gi gj : Int) : List (BitVec 16) :=
  let kept : Option Nat :=
    match s.fus.cells with
    | some c => if inWindow c.ci c.cj gi gj && !c.hits.any (fun h => Config.eccHit h gi gj) then some c.update else none
    | none => none
  (List.range 32).map fun c =>
    match kept with
    | some n => Config.cellState n gi gj c
    | none => Config.cellInit s.fus.weights c

/-- The cell of the tracked point (R295). -/
def trackedCell (s : State) (t : Nat) : Option (Int × Int) :=
  (egoAt s t).map fun e =>
    let p := Config.ahead e.x e.y e.yaw (fgAhead s.grid)
    (cellIdx p.1, cellIdx p.2)

/-- The centre after scrolling one axis, and the steps made (R295). -/
def scrollAxis (c p : Int) : Int × Nat :=
  if 32 < p - c then
    let n := (p - c - 32 + 31) / 32
    (c + 32 * n, n.toNat)
  else if 32 < c - p then
    let n := (c - p - 32 + 31) / 32
    (c - 32 * n, n.toNat)
  else (c, 0)

def scroll (s : State) (t : Nat) : State :=
  match trackedCell s t with
  | none => s
  | some (pi, pj) =>
    let (ci, a) := scrollAxis s.fus.ci pi
    let (cj, b) := scrollAxis s.fus.cj pj
    { s with fus := { s.fus with ci := ci, cj := cj, scrolls := satN 4 (s.fus.scrolls + a + b) } }

/-- Samples a cycle takes at its gather instant (R304): those it uses, those it drops for want of a
pose, and those that wait. -/
def takeSamples (s : State) (cut : Nat) : State :=
  let prev := s.fus.cuts.headD 0
  let newest := match s.fus.ego.est.head? with | some e => e.tick | none => 0
  let due := s.fus.samples.filter fun x => decide (x.tick ≤ cut ∧ x.tick ≤ newest)
  let wait := s.fus.samples.filter fun x => !decide (x.tick ≤ cut ∧ x.tick ≤ newest)
  let used := due.filter fun x => hasPose s x.tick
  let lost := due.filter fun x => !hasPose s x.tick
  let s := { s with fus := { s.fus with samples := wait } }
  let s := lost.foldl (fun s x => fusDrop s x.inp 1) s
  let s := (used.filter fun x => decide (x.tick ≤ prev)).foldl (fun s x =>
    { s with fus := { s.fus with late := tput s.fus.late x.inp (satN 4 (tget 0 s.fus.late x.inp + 1)) } }) s
  let own (k : Nat) : Nat := (used.filter fun x => decide (prev < x.tick) && x.inp = k).length
  let sup := (List.range 8).foldl (fun a k => a + (own k - 1)) 0
  { s with fus := { s.fus with superseded := satN 4 (s.fus.superseded + sup) } }

/-- The frames a cycle uses: the latest of each pipeline stamped in its interval, with its pose (R300). -/
def framesOf (s : State) (cut : Nat) : List FPlaced :=
  let prev := s.fus.cuts.headD 0
  (List.range 8).filterMap fun k =>
    let l := s.fus.samples.filter fun x =>
      decide (x.inp = k ∧ prev < x.tick ∧ x.tick ≤ cut) && hasPose s x.tick
    match l.find? fun x => l.all fun y => decide (y.tick ≤ x.tick) with
    | some x => placed s x
    | none => none

/-- The policy that governs a head at a gather instant (R322). -/
def policyNow (s : State) (h : Nat) : Bytes := governing s.mono (s.app (.fusHead h)) (tget [] s.fus.polPast h)

/-- A new rate takes effect at the first cut instant on both grids, and FUSION_RATE tells it there (R298). No row stands
for a cut instant: the clock's tick brings it (log entry 8). The cut itself is still counted on the old grid. -/
def rateStep (s : State) : State :=
  let f := s.fus
  let both := atGrid (s.tdNs 0) 0 (fusPeriod f.rate) && atGrid (s.tdNs 0) 0 (fusPeriod f.rateWant)
  if f.rateWant ≠ f.rate && f.committed && fusLive s && both then
    let p := fusPeriod f.rate
    let missed := (s.mono - f.cutTick + p / 8) / (p / 4) - 1
    let f' := { f with
      rate := f.rateWant, num := f.num + missed, skipped := satN 4 (f.skipped + missed)
      cutTick := s.mono - fusPeriod f.rateWant / 4 }
    emit { s with fus := f' } 0x0801 fusFid (b1 f.rate ++ b1 f.rateWant ++ zeros 2)
  else s

/-- A cut gathered now: its tick and its time, a multiple of the period (R296); one made before a step keeps the time it
was made at (R299). -/
def cutNow (s : State) : Option (Nat × T96) :=
  let f := s.fus
  let p := fusPeriod f.rate
  let g := fgGather s.grid
  match f.owed with
  | some (due, tick, time) => if s.past due 0 then some (tick, time) else none
  | none =>
    let cut := s.mono - msT g
    if atGrid (s.tdNs 0) (1000000 * g) p && decide (f.cutTick + p / 8 ≤ cut) then
      some (cut, T96.ofNs ((s.tdNs 0 - 1000000 * g) / p * p))
    else none

/-- The work of a cycle at its gather instant, in the order of R296: its samples, the scroll, the recurrent state. -/
def cycleBegin (s : State) (cut : Nat) (time : T96) : State :=
  let frames := framesOf s cut
  let s := scroll (takeSamples s cut) cut
  let (stamp, s) := s.draw
  let f := s.fus
  let c : FCycle :=
    { time := time, tick := cut, num := f.num, pols := (List.range 3).map (policyNow s), ego := egoAt s cut
      ci := f.ci, cj := f.cj, frames := frames }
  { s with fus := { f with
      cells := some { update := stamp, ci := f.ci, cj := f.cj }, cuts := (cut :: f.cuts).take 64, cycle := some c } }

/-- FUSION_GATHER (R296, R297): a cycle begins, or its cut is skipped. -/
def xFusionGather (s : State) : State :=
  let f := s.fus
  let p := fusPeriod f.rate
  match (if f.committed && fusLive s then cutNow s else none) with
  | none => s
  | some (cut, time) =>
    let n := max 1 ((cut - f.cutTick + p / 8) / (p / 4))
    let idle := f.cycle.isNone && mayWork s 1
    let f := { f with
      num := f.num + n, cutTick := cut, gatherTick := s.mono, owed := none
      skipped := satN 4 (f.skipped + (n - 1 + if idle then 0 else 1)) }
    let s := { s with fus := f }
    if idle then cycleBegin s cut time else s

/-- TD0 has been stepped from a time in ns (R299): a cut made before the step, and not yet gathered, is gathered on the
old time. -/
def fusStepped (old : Nat) (s : State) : State :=
  let f := s.fus
  let p := fusPeriod f.rate
  let g := fgGather s.grid
  let ago := old % p / 4
  if f.committed && fusLive s && decide (ago < msT g) && decide (f.cutTick + p / 8 ≤ s.mono - ago) then
    { s with fus := { f with owed := some (s.mono - ago + msT g, s.mono - ago, T96.ofNs (old / p * p)) } }
  else s

/-! ## Output heads (R306, R307) -/

/-- ε of a head (Table 9.6). -/
def headEps (h : Nat) : F32 := if h = 0 then fDec 1 10 else fDec 5 100
/-- The disagreement of a cell (R306). -/
def disagree (c : CellOut) : F32 :=
  if c.camSeen && c.lidSeen then
    fMin (fDiv (fAbs (fSub c.c c.l)) (fMax (fMax (fAbs c.c) (fAbs c.l)) (headEps c.head))) f1
  else f0

/-- The value, confidence and deviation a head gives under its policy (R306, R307). -/
def headOut (pol : Nat) (c : CellOut) : F32 × F32 × F32 :=
  let cv := if c.camSeen then c.c else c.l
  let lv := if c.lidSeen then c.l else c.c
  let d := disagree c
  let q := if c.camSeen || c.lidSeen then c.conf else f0
  match pol with
  | 0 => (c.f, q, c.sigma)
  | 1 => (fMax cv lv, q, c.sigma)
  | 2 =>
    let r := fSub f1 d
    (c.f, fMul q r, fDiv c.sigma (fMax r (fDec 1 10)))
  | 3 => (cv, if c.camSeen then q else f0, c.sigma)
  | _ => (lv, if c.lidSeen then q else f0, c.sigma)

/-- A cell of a head with the value, confidence and deviation the head gives its consumers. -/
abbrev HeadCell := CellOut × F32 × F32 × F32

/-- The cells of a head with what the policy makes of them. -/
def headCells (cy : FCycle) (h : Nat) (cells : List CellOut) : List HeadCell :=
  (cells.filter fun c => c.head = h).map fun c => (c, headOut (hpPolicy (cy.pols.getD h [])) c)

/-- The centre of a global cell in the machine frame of a cycle: its place in W less the position, exact in integers,
turned by the yaw (R293, R235). -/
def cellXY (cy : FCycle) (gi gj : Int) : F32 × F32 :=
  match cy.ego with
  | some e =>
    let off (g x : Int) : F32 := fDiv (fOfInt (128 * (2 * g + 1) - 5 * x)) (fOfNat 5120)
    turn (fNeg e.yaw) (off gi e.x) (off gj e.y)
  | none => (f0, f0)
/-- The centre of the cell of a head's output, in the machine frame of the cycle. -/
def outXY (cy : FCycle) (c : CellOut) : F32 × F32 := cellXY cy c.gi c.gj

/-- A path segment of the layout of Table 7.14: start point, heading, length and curvature. -/
def segOf (x y heading len kap : F32) : Bytes :=
  zeros 4 ++ b1 1 ++ zeros 3 ++ leF x ++ leF y ++ leF heading ++ leF len ++ leF kap

/-! ## Headwind (R308) -/

def fMean (l : List F32) : F32 := fDiv (fSum l) (fOfNat l.length)

/-- The speed and curvature of the headwind track (R308). -/
def trackSpeed (cy : FCycle) : F32 × F32 :=
  match cy.ego with
  | none => (fHalf, f0)
  | some e =>
    let vh := fMax e.speed fHalf
    let kap := if fLe fHalf e.speed then fDiv e.yawRate vh else f0
    (vh, fClamp kap (fNeg fHalf) fHalf)

/-- The track: the arc from (CUTTER_X, HEADER_Y) with the machine's heading (R308). -/
def trackOf (d : Bytes) (cy : FCycle) : Bytes :=
  let (vh, kap) := trackSpeed cy
  segOf (fgCutterX d) (fgHeaderY d) f0 (fMul (fDec 825 100) vh) kap

/-- The segment and step whose band holds the centre of a global cell (R308). A band holds its lower bound of arc length
and of offset and not its upper one, of which the rule says nothing (DESIGN CHOICE, log entry 60). -/
def bandOf (d : Bytes) (cy : FCycle) (gi gj : Int) : Option (Nat × Nat) :=
  let (x, y) := cellXY cy gi gj
  let (arc, off, _) := Config.segNear (trackOf d cy) x y
  let edge (i : Nat) : F32 := fMul (fgHeaderW d) (fSub fHalf (fDiv (fOfNat i) (fOfNat (fgN d))))
  let len (k : Nat) : F32 := fMul (fMul (fDec 25 100) (trackSpeed cy).1) (fOfNat k)
  match (List.range (fgN d)).find? fun i => fLe (edge (i + 1)) off && fLt off (edge i),
    (List.range 33).find? fun k => fLe (len k) arc && fLt arc (len (k + 1)) with
  | some i, some k => some (i, k)
  | _, _ => none

/-- The global cells within reach of the track, row by row: every band lies among them. -/
def trackCells (d : Bytes) (cy : FCycle) : List (Int × Int) :=
  let (ci, cj) := match cy.ego with | some e => (cellIdx e.x, cellIdx e.y) | none => (0, 0)
  let reach := fAdd (fAdd (fMul (fDec 825 100) (trackSpeed cy).1) (fgHeaderW d))
    (fAdd (fAbs (fgCutterX d)) (fAbs (fgHeaderY d)))
  let r := (fFloorInt (fMul reach (fOfNat 20))).toNat + 2
  let axis (c : Int) : List Int := (List.range (2 * r + 1)).map fun (i : Nat) => c - r + i
  (axis ci).flatMap fun gi => (axis cj).map fun gj => (gi, gj)

/-- Value and deviation of a global cell of the window with confidence above 0.0. -/
def seenAt (cy : FCycle) (l : List HeadCell) (g : Int × Int) : Option (F32 × F32) :=
  if inWindow cy.ci cy.cj g.1 g.2 then
    (l.find? fun e => e.1.gi = g.1 && e.1.gj = g.2 && fLt f0 e.2.2.1).map fun e => (e.2.1, e.2.2.2)
  else none

/-- Mean value and mean deviation of a band's cells of confidence above 0.0. -/
def bandMean (l : List (Option (F32 × F32))) : Option (F32 × F32) :=
  let l := l.filterMap id
  if l.isEmpty then none else some (fMean (l.map (·.1)), fMean (l.map (·.2)))

/-- The nearest step of a segment that has a mean, the lower first (R308). -/
def nearestStep (means : List (Option (F32 × F32))) (k : Nat) : Option (F32 × F32) :=
  ((List.range 34).flatMap fun i =>
    (if i ≤ k then [means.getD (k - i) none] else []) ++ [means.getD (k + i) none]).findSome? id

/-- m and σm of one segment, of the cells of its 33 bands: those seen, and those that take the mean. -/
def segBands (bands : List (List (Option (F32 × F32)))) : List F32 × List F32 :=
  let means := bands.map bandMean
  let vals (k : Nat) : F32 × F32 :=
    let v := (bands.getD k []).map fun e => e.getD ((nearestStep means k).getD (f0, fOfNat 2))
    (fMul (fDec 25 10000) (fSum (v.map (·.1))), fMul (fDec 25 10000) (fSum (v.map (·.2))))
  let r := (List.range 33).map vals
  (r.map (·.1), r.map (·.2))

/-- The headwind of a cycle (R308). -/
def headwindOf (s : State) (cy : FCycle) (cells : List CellOut) : Headwind :=
  let d := s.grid
  let l := headCells cy 0 cells
  let all := (trackCells d cy).map fun g => (bandOf d cy g.1 g.2, seenAt cy l g)
  let band (i k : Nat) := (all.filter fun e => e.1 = some (i, k)).map (·.2)
  let segs := (List.range 16).map fun i =>
    if i < fgN d then segBands ((List.range 33).map (band i))
    else (List.replicate 33 f0, List.replicate 33 f0)
  let (vh, kap) := trackSpeed cy
  { time := cy.time, tick := cy.tick, vh := vh, m := segs.map (·.1), s := segs.map (·.2), kap := kap, n := fgN d
    rate := s.fus.rate }

/-- Segment `i` carries crop at step 0 (R309). -/
def segCrop (s : State) (w : Headwind) (i : Nat) : Bool :=
  let d := s.grid
  let lim := fDiv (fMul (fMul (fMul (fgMinCrop d) (fDec 25 100)) w.vh) (fgHeaderW d)) (fOfNat (fgN d))
  decide (i < fgN d) && fLe lim ((w.m.getD i []).getD 0 f0)

/-! ## Crop-edge lines (R310) -/

/-- A side of the header: its y in the machine frame (R310). -/
def headerEnd (d : Bytes) (left : Bool) : F32 :=
  let half := fMul (fgHeaderW d) fHalf
  if left then fAdd (fgHeaderY d) half else fSub (fgHeaderY d) half

/-- The cells a side's line is fitted to: x and y of their centres, and their weights. -/
def edgeCells (d : Bytes) (cy : FCycle) (left : Bool) (cells : List CellOut) : List (F32 × F32 × F32) :=
  (headCells cy 1 cells).filterMap fun e =>
    let (x, y) := outXY cy e.1
    let dx := fSub x (fgCutterX d)
    if fLe fHalf e.2.1 && fLe f0 dx && fLe dx (fOfNat 15) && fLe (fAbs (fSub y (headerEnd d left))) (fOfNat 2)
    then some (x, y, fMul e.2.1 e.2.2.1) else none

/-- A line's length (R310). -/
def edgeLength : F32 := fOfNat 15

/-- A side's line, delivered in W (R310). -/
def edgeLine (d : Bytes) (cy : FCycle) (left : Bool) (cells : List CellOut) : EdgeLine :=
  let l := edgeCells d cy left cells
  let rows := (List.range 30).filter fun (r : Nat) => l.any fun e =>
    decide ((min (fFloorInt (fDiv (fSub e.1 (fgCutterX d)) fHalf)) 29).toNat = r)
  let conf :=
    if l.length < 8 then f0
    else fMul (fMean (l.map (·.2.2))) (fDiv (fOfNat rows.length) (fOfNat 30))
  let (a, b, c2) := Config.lineFit l
  let x := fgCutterX d
  let y := fFma c2 (fDiv (fMul x x) (fOfNat 2)) (fFma b x a)
  let (px, py, yaw) := match cy.ego with | some e => (egoM e.x, egoM e.y, e.yaw) | none => (f0, f0, f0)
  let (dx, dy) := turn yaw x y
  { x0 := fAdd px dx, y0 := fAdd py dy, heading := fAdd yaw (Config.atan (fFma c2 x b))
    curvature := fClamp c2 (fNeg fHalf) fHalf, conf := conf }

/-- A row gives a side's line as R310 has it; of a side with fewer than 8 cells the rule gives the confidence alone. -/
def edgeOk (d : Bytes) (cy : FCycle) (left : Bool) (cells : List CellOut) (e : EdgeLine) : Bool :=
  if (edgeCells d cy left cells).length < 8 then e.conf = f0 else e = edgeLine d cy left cells

/-- The edge line of guidance's side (07 R236). -/
def sideLine (d : Bytes) (e : Edges) : EdgeLine := if gdSide d = 1 then e.right else e.left

/-! ## Contradictions (R311) -/

def State.head (s : State) (h : Nat) : FHead := tget {} s.fus.heads h
def State.setHead (s : State) (h : Nat) (v : FHead) : State :=
  { s with fus := { s.fus with heads := tput s.fus.heads h v } }

/-- The key with the largest count, the lowest of equals; 0xFF for none. -/
def topKey (t : Tbl Nat Nat) : Nat :=
  (t.foldl (fun (b : Nat × Nat) e => if b.2 < e.2 ∨ (b.2 = e.2 ∧ e.1 < b.1) then e else b) (0xFF, 0)).1

def bump (t : Tbl Nat Nat) (k : Nat) : Tbl Nat Nat := tput t k (tget 0 t k + 1)

/-- Two seconds without a contradicting cycle return the source (R311). -/
def contraClear (s : State) (h : Nat) : State :=
  let x := s.head h
  if x.raised && (match x.last with | some t => s.past t (secT 2) | none => true) then
    let s := s.setHead h { x with raised := false, pipes := [], streams := [] }
    let s := emit s 0x0802 fusFid (b1 h ++ b1 0 ++ [0xFF#8, 0xFF#8] ++ le 4 x.cells)
    returnSrc s (130 + h)
  else s

/-- A cycle contradicts for a head, or does not (R311). -/
def contraCycle (cy : FCycle) (cells : List CellOut) (s : State) (h : Nat) : State :=
  let pol := cy.pols.getD h []
  let bad := cells.filter fun c => c.head = h && c.camSeen && c.lidSeen && fLe (hpDth pol) (disagree c)
  let x := s.head h
  if hpCells pol ≤ bad.length then
    let first := x.from_.getD s.mono
    let x := { x with
      from_ := some first, last := some s.mono, cells := bad.length
      pipes := bad.foldl (fun t c => if c.pipe ≤ 7 then bump t c.pipe else t) x.pipes
      streams := bad.foldl (fun t c => if c.stream ≤ 3 then bump t c.stream else t) x.streams }
    if !x.raised && s.past first (secT 2) then
      let s := s.setHead h { x with raised := true }
      let s := emitFault s 0x0802 fusFid
        (b1 h ++ b1 1 ++ b1 (topKey x.pipes) ++ b1 (topKey x.streams) ++ le 4 bad.length)
      raise s (130 + h) bad.length
    else s.setHead h x
  else
    let x := { x with from_ := none, cells := bad.length }
    contraClear (s.setHead h (if x.raised then x else { x with pipes := [], streams := [] })) h

/-! ## Objects (R312 to R314) -/

/-- Distinct identity codes in the order in which they first stand. -/
def codesOf (l : List HeadCell) : List Nat :=
  l.foldl (fun acc e => if acc.contains e.1.code then acc else acc ++ [e.1.code]) []

/-- What a cycle makes of one identity code: its ID, the square of the distance of its nearest
cell, and its entry (Table 9.9). -/
structure ObjOut where
  id : Nat
  near : F32
  bytes : Bytes

/-- The class most cells hold, the lowest on ties (R313). -/
def topClass (l : List Nat) : Nat :=
  (List.range 256).foldl
    (fun (b : Nat × Nat) c => let n := (l.filter (· = c)).length; if b.2 < n then (c, n) else b) (0, 0) |>.1

def fMaxL (l : List F32) : F32 := (l.drop 1).foldl fMax (l.headD f0)
def fMinL (l : List F32) : F32 := (l.drop 1).foldl fMin (l.headD f0)

/-- One object of a cycle: its table entry and its record; none for a code the full table leaves
without an ID. -/
def objOf (cy : FCycle) (l : List HeadCell) (s : State) (code : Nat) :
    State × Option ObjOut :=
  let cs := l.filter fun e => e.1.code = code
  let x := fMean (cs.map fun e => (outXY cy e.1).1)
  let y := fMean (cs.map fun e => (outXY cy e.1).2)
  let f := s.fus
  match f.objs.find? fun o => o.code = code with
  | none =>
    if 256 ≤ f.objs.length then (s, none)
    else
      let o : FObj := { code := code, id := f.nextId, seen := s.mono, cutTick := cy.tick, x := x, y := y, born := cy.num }
      let next := if f.nextId + 1 < 2 ^ 32 then f.nextId + 1 else 1
      let s := { s with fus := { f with objs := f.objs ++ [o], nextId := next } }
      out s cs o x y f0 f0 true
  | some o =>
    let dt := fDiv (fOfNat (4 * (cy.tick - o.cutTick))) (fOfNat 1000000000)
    let vx := fDiv (fSub x o.x) dt
    let vy := fDiv (fSub y o.y) dt
    let o' := { o with seen := s.mono, cutTick := cy.tick, x := x, y := y }
    let s := { s with fus := { f with objs := f.objs.map fun q => if q.code = code then o' else q } }
    out s cs o' x y vx vy false
where
  out (s : State) (cs : List HeadCell) (o : FObj) (x y vx vy : F32) (new : Bool) :
      State × Option ObjOut :=
    let (n, s) := s.draw
    let xy := cs.map fun e => outXY cy e.1
    let xs := xy.map (·.1)
    let ys := xy.map (·.2)
    let rim (c : CellOut) : Bool := !(inWindow cy.ci cy.cj (c.gi - 1) (c.gj - 1) && inWindow cy.ci cy.cj (c.gi + 1) (c.gj + 1))
    let fast := fLt (fDec 9 100) (fAdd (fMul vx vx) (fMul vy vy))
    let dth := hpDth (cy.pols.getD 2 [])
    let apart := (cs.filter fun e => fLe dth (disagree e.1)).length
    let fl := bit new 0 + bit fast 1 + bit (cs.any fun e => (bandOf s.grid cy e.1.gi e.1.gj).isSome) 2 +
      bit (cs.any (·.1.camSeen)) 3 + bit (cs.any (·.1.lidSeen)) 4 + bit (decide (cs.length ≤ 2 * apart)) 5 +
      bit (cs.any fun e => rim e.1) 6
    let near := fMinL (xy.map fun e => fAdd (fMul e.1 e.1) (fMul e.2 e.2))
    (s, some
      { id := o.id, near := near
        bytes := le 4 o.id ++ b1 (topClass (cs.map (·.1.cls))) ++ b1 fl ++ le 2 (satN 2 cs.length) ++
          leF x ++ leF y ++ leF vx ++ leF vy ++ leF (fSub (fMaxL xs) (fMinL xs)) ++
          leF (fSub (fMaxL ys) (fMinL ys)) ++ leF (fMaxL (cs.map (·.1.height))) ++
          le 2 (Config.freeNat n % 65536) ++ le 2 (satN 2 (cy.num - o.born)) })

/-- Nearest first, then by ID (R313). -/
def insertObj (o : ObjOut) : List ObjOut → List ObjOut
  | [] => [o]
  | p :: r => if fLt o.near p.near || (!fLt p.near o.near && decide (o.id < p.id)) then o :: p :: r
    else p :: insertObj o r

/-- One code joins a cycle's objects, in order of distance, or finds no ID left. -/
def objStep (cy : FCycle) (l : List HeadCell) (a : State × List ObjOut × Nat) (c : Nat) :
    State × List ObjOut × Nat :=
  match objOf cy l a.1 c with
  | (s, some o) => (s, insertObj o a.2.1, a.2.2)
  | (s, none) => (s, a.2.1, a.2.2 + 1)

/-- The object summaries of a cycle, sent together (R314). -/
def objectCycle (cy : FCycle) (cells : List CellOut) (s : State) : State :=
  let l := (headCells cy 2 cells).filter fun e => fLe fHalf e.2.1
  let s := { s with fus := { s.fus with objs := s.fus.objs.filter fun o => decide (s.mono < o.seen + secT 2) } }
  let r := (codesOf l).foldl (objStep cy l) (s, [], 0)
  let s := r.1
  let objs := r.2.1
  let noId := r.2.2
  let rep := objs.take 256
  let trunc := noId + (objs.length - 256)
  let f := { s.fus with objects := rep.length, truncated := satN 4 (s.fus.truncated + trunc) }
  let s := { s with fus := f }
  let n := max 1 ((rep.length + 23) / 24)
  forN n (fun s i =>
    let es := (rep.drop (24 * i)).take 24
    let body := le 4 cy.num ++ b1 n ++ b1 i ++ b1 es.length ++ b1 0 ++ le 2 rep.length ++
      le 2 (satN 2 trunc) ++ zeros 4 ++ es.flatMap (·.bytes)
    pushAll s sFusion fun _ => { time := cy.time, fault := false, pos := none, body := body }) s

/-- FUSION_RESULTS_ISSUED (R296, R306 to R314). -/
def xFusionResultsIssued (cells : List CellOut) (edgeL edgeR : EdgeLine) (s : State) : State :=
  match s.fus.cycle with
  | none => s
  | some cy =>
    if fusLive s && edgeOk s.grid cy true cells edgeL && edgeOk s.grid cy false cells edgeR then
      let (vh, kap) := trackSpeed cy
      let ed : Edges := { time := cy.time, tick := cy.tick, left := edgeL, right := edgeR }
      let g := s.guidCfg
      let sure := fLe (gdConf g) (sideLine g ed).conf
      let s := { s with
        headwind := some (headwindOf s cy cells)
        guid := { s.guid with edgeTick := if sure then some cy.tick else s.guid.edgeTick } }
      let f := { s.fus with cycle := none, vh := vh, kap := kap, edges := some ed, issuedCut := cy.time, issued := cy.num }
      let s := { s with fus := f }
      let s := forN 3 (contraCycle cy cells) s
      let s := objectCycle cy cells s
      if s.st fusFid = .starting then changeState s fusFid .running else s
    else s

/-! ## Lifecycle (R317 to R319) -/

/-- The declared points of the enabled streams that a grid configuration names (R303). -/
def declaredPoints (s : State) : Nat :=
  (List.range 4).foldl (fun a i =>
    let d := s.stg (.fusStream i)
    if (fgStreams (s.stg .fusGrid)).testBit i && stTransport d ≠ 0 then a + stDeclared d else a) 0

def State.wslot (s : State) (i : Nat) : WSlot := tget {} s.fus.slots i
def State.setWslot (s : State) (i : Nat) (v : WSlot) : State :=
  { s with fus := { s.fus with slots := tput s.fus.slots i v } }

/-- The checks of START in the order of R31 (R317, R303, 15 R512). -/
def fusCheck (s : State) : State × Verdict :=
  (s,
    if 2000000 < declaredPoints s then some (stOverCapacity, 0)
    else if !budgetOk s 1 then some (stOverBudget, 0)
    else if s.fus.ego.mode = 0 then some (stWrongState, 0)
    else if !(s.wslot (fgSlot (s.stg .fusGrid))).loaded then some (stWrongState, 0)
    else none)

/-- START is committed at the check; its cut comes later. The counts since START begin at 0. -/
def fusCommit (s : State) : State :=
  let g := (grantIf s 1).getD f0
  let s := beginStart s fusFid
  let f := s.fus
  let r := rateWithin s g
  let slot := fgSlot s.grid
  { s with fus :=
    { ego := f.ego, slots := f.slots, polPast := f.polPast, rate := r, rateWant := r, heads := f.heads,
      edges := f.edges, slot := slot, weights := rd (s.wslot slot).image 4 4 } }

/-- FUSION_START_COMMIT (R317): the first cut instant at least 250 ms after the check. -/
def xFusionStartCommit (s : State) : State :=
  let f := s.fus
  if s.st fusFid = .starting && !f.committed && s.past (s.fn fusFid).since (msT 250) &&
      atGrid (s.tdNs 0) 0 (fusPeriod f.rate) then
    let before := s.mono - fusPeriod f.rate / 4
    let down (x : Int) : Int := x.fdiv 32 * 32
    let (ci, cj) := match trackedCell s s.mono with | some (pi, pj) => (down pi, down pj) | none => (0, 0)
    let f := { f with committed := true, ci := ci, cj := cj, cutTick := before, cuts := [before], cells := none, nextId := 1 }
    { s with fus := f }
  else s

/-- The grid discards its state (R318, R319). -/
def fusDiscard (s : State) : State :=
  { s with fus := { s.fus with
      committed := false, cycle := none, owed := none, samples := [], cells := none, objs := [], cuts := [] } }

/-- STOP (R318): no further result. -/
def fusStop (s : State) : State :=
  let s := { s with fus := { s.fus with cycle := none, owed := none } }
  beginStop s fusFid

/-- FUSION_STOP_COMPLETE (R318). -/
def xFusionStopComplete (s : State) : State :=
  if s.st fusFid = .stopping then finishStop fusCheck fusCommit fusFid (fusDiscard s) else s

/-- A fault's reaction (R319, 01 R33). -/
def fusFault (s : State) : State :=
  match s.st fusFid with
  | .starting | .running => changeState (fusDiscard s) fusFid .faulted
  | .stopping => faultStopping s fusFid
  | _ => s

/-- FUSION_EGO_LOST_TIMEOUT (R319): LOST for 100 ms without a break. -/
def xFusionEgoLostTimeout (s : State) : State :=
  let e := s.fus.ego
  if e.mode = 0 && (match e.lostAt with | some t => s.past t (msT 100) | none => false) && fusLive s
  then fusFault s else s

/-- A processor-complex reset (R319, R326): the grid is OFF, its registers and its contradictions at reset, ego-motion
LOST with W set anew; one beyond 2,000 km stays so until a commit (R289). -/
def fusReset (s : State) : State :=
  let s := blockReset s fusFid
  let s := forN 3 (fun s h => returnSrc s (130 + h)) (egoSetMode s 0)
  let f := s.fus
  let e : Ego := { cfg := f.ego.cfg, stored := f.ego.stored, lostAt := f.ego.lostAt, far := f.ego.far }
  { s with fus := { ego := e, slots := f.slots }, headwind := none }

/-- Event 8 of Table 1.12 loads a stored ego-motion configuration, which commits it (R291); one that was not stored is
kept. Log entry 60. -/
def egoLoad (s : State) : State :=
  let e := s.fus.ego
  match e.stored with
  | some c => s.setEgo { e with cfg := some c, pend := none, far := false }
  | none => s

/-! ## Weights (R315, R316) -/

/-- WEIGHTS_WRITE_COMPLETE (R316): the image is in flash. -/
def xWeightsWriteComplete (i : Nat) (s : State) : State :=
  let w := s.wslot i
  match w.busy with
  | none => s
  | some cause =>
    let s := s.setWslot i { w with busy := none, loaded := true }
    emitTo s cause false none 0x0804 fusFid (b1 i ++ b1 0 ++ zeros 2 ++ le 4 (rd w.image 4 4))

/-! ## Opcodes (R316, R320 to R323) -/

/-- The grid and guidance are OFF or in CONFIG (R291). -/
def egoFree (s : State) : Bool := (s.st fusFid).idle && (s.st guidFid).idle

/-- FUS_CONFIG (R320, R291). -/
def opFusConfig : OpSpec where
  code := 0x0800
  token := true
  len := fusLen
  layout := fusChecks
  body := fun s p =>
    match byteAt p 0 with
    | 0 =>
      if egoFree s then
        let e := { s.fus.ego with pend := some p }
        okAns (s.setEgo (if (byteAt p 2).testBit 0 then { e with stored := some p } else e))
      else failAns s stWrongState 0
    | 1 => cfgAnswer s [fusFid] fun s => s.setStg .fusGrid p
    | _ => cfgAnswer s [fusFid] fun s => s.setStg (.fusCam (byteAt p 1)) p

/-- FUS_WEIGHTS (R316). A last block answered with an error has no effect (03 R81): neither rule excepts it. The spec
leaves two points open (DESIGN CHOICE, log entry 60): a block for a slot whose image is still on its way to flash is
answered BUSY, and an expected offset above 0xFFFF shows as 0xFFFF in the 16-bit detail field. -/
def opFusWeights : OpSpec where
  code := 0x0801
  token := true
  len := fun p => 16 + rd p 8 4
  layout := weightsChecks
  body := fun s p =>
    let i := byteAt p 0
    let w := s.wslot i
    let off := rd p 4 4
    if s.st fusFid ≠ .off ∧ fgSlot s.grid = i then failAns s stWrongState 0
    else if w.busy.isSome then failAns s stBusy 0
    else if off ≠ 0 ∧ off ≠ w.image.length then badParam s (min 0xFFFF w.image.length)
    else
      let img := if off = 0 then p.drop 16 else w.image ++ p.drop 16
      if 33554432 < img.length then badParam s 4
      else
        let t := s.setWslot i { image := img }
        if !(byteAt p 1).testBit 0 then okAns t
        else if img.length ≠ rd img 8 4 then failAns s 0x80 (min 0xFFFF (rd img 8 4 - img.length))
        else if (crc32c img).toNat ≠ rd p 12 4 then failAns s stIntegrity 0
        else if !weightsHeaderOk img then failAns s 0x81 0
        else { s := s.setWslot i { image := img, busy := some s.cur }, st := stDeferred }

/-- FUS_HEAD_POLICY (R322): staged and applied together, in every state. -/
def opFusHeadPolicy : OpSpec where
  code := 0x0802
  token := true
  len := fun _ => 12
  layout := headPolicyChecks
  body := fun s p =>
    let h := byteAt p 0
    let past := changed s.mono (s.app (.fusHead h)) (tget [] s.fus.polPast h)
    let s := { s with fus := { s.fus with polPast := tput s.fus.polPast h past } }
    okAns ((s.setStg (.fusHead h) p).setApp (.fusHead h) p)

/-- FUS_POINT_STREAM (R321). -/
def opFusPointStream : OpSpec where
  code := 0x0803
  token := true
  len := fun _ => 88
  layout := pointStreamChecks
  body := fun s p => cfgAnswer s [fusFid] fun s => s.setStg (.fusStream (byteAt p 0)) p

/-- An ego-motion estimate in the layout of Table 9.2. -/
def EgoEst.bytes (e : EgoEst) (mode : Nat) : Bytes :=
  leT e.time ++ leI 4 e.x ++ leI 4 e.y ++ leI 4 e.z ++ leF e.roll ++ leF e.pitch ++ leF e.yaw ++
  leF e.speed ++ leF e.yawRate ++ b1 mode ++ zeros 3

def contraBits (s : State) : Nat :=
  (List.range 3).foldl (fun a h => a + bit (s.head h).raised h) 0

/-- FUS_STATUS (R323). -/
def opFusStatus : OpSpec where
  code := 0x0804
  len := fun _ => 0
  body := fun s _ =>
    let f := s.fus
    okWith s
      (leT f.issuedCut ++ le 4 f.issued ++ le 4 f.skipped ++ b1 f.rate ++ b1 f.slot ++
        le 2 (contraBits s) ++ le 4 f.weights ++ leI 4 f.ci ++ leI 4 f.cj ++
        le 4 f.scrolls ++ le 4 f.objects ++ le 4 f.truncated ++ leF f.vh ++ leF f.kap ++
        (match f.edges with | some e => leF e.left.conf ++ leF e.right.conf | none => zeros 8) ++
        le 4 f.superseded ++ le 4 f.filtered ++ le 4 f.ecc ++
        (List.range 12).flatMap (fun k => le 4 (tget 0 f.late k) ++ le 4 (tget 0 f.dropped k)) ++
        match f.ego.est.head? with
        | some e => e.bytes f.ego.mode
        | none => zeros 44 ++ b1 f.ego.mode ++ zeros 3)

end Sys2Proof.Machine
end

