-- ==== Sys2Proof/Machine/Image.lean ====
section
/-! DEFINITION. The image processor (10 R341 to R344): the stages of Table 10.3 over a frame's pixels, the statistics of
Table 10.5, the fusion output, the tap's datagrams and the quality stage. Log entry 62 names the readings. -/

namespace Sys2Proof.Machine

/-! ## Fields of PIPE_CONFIG (Table 10.7) -/

def pcFilter (d : Bytes) : Nat := byteAt d 2
def pcPad (d : Bytes) : Nat := rd d 18 2
def pcDown (d : Bytes) : Nat := 2 ^ byteAt d 79
def pcBlack (d : Bytes) : Nat := rd d 80 2
def pcDefect (d : Bytes) : Nat := rd d 82 2
def pcGainOf (d : Bytes) (site : Nat) : F32 := rdF d (84 + 4 * site)
def pcCcm (d : Bytes) (i : Nat) : F32 := rdF d (100 + 4 * i)
def pcGamma (d : Bytes) : F32 := rdF d 136
def pcK1 (d : Bytes) : F32 := rdF d 140
def pcK2 (d : Bytes) : F32 := rdF d 144
def pcBgTh (d : Bytes) : F32 := rdF d 172
def pcAMin (d : Bytes) : Nat := rd d 176 2
def pcAMax (d : Bytes) : Nat := rd d 178 2
/-- w[c][k] and b[c] (R344). -/
def pcWeight (d : Bytes) (c k : Nat) : F32 := rdF d (184 + 4 * (8 * c + k))
def pcBias (d : Bytes) (c : Nat) : F32 := rdF d (312 + 4 * c)
/-- The full code of the data type. -/
def pcFull (d : Bytes) : Nat := if pcType d = 0x2B then 1023 else 4095
def pcMono (d : Bytes) : Bool := pcFilter d = 4
def pcStage (d : Bytes) (i : Nat) : Bool := (pcStages d).testBit i

/-! ## The mosaic (stages 0 to 3) -/

/-- A frame's pixels as they came: rows of codes, each line of W, H lines (R333). -/
abbrev Raw := List (List Nat)
/-- One value at each pixel. -/
abbrev Mosaic := List (List F32)
/-- Linear R, G and B at each pixel. -/
abbrev Rgb := F32 × F32 × F32

/-- A line imposed on the width: padded with PAD_VALUE, or cut (R333). -/
def lineOf (d : Bytes) (px : List Nat) : List Nat := (px ++ List.replicate (pcW d - px.length) (pcPad d)).take (pcW d)
/-- A frame padded to H lines. -/
def paddedFrame (d : Bytes) (l : Raw) : Raw :=
  l ++ List.replicate (pcH d - l.length) (List.replicate (pcW d) (pcPad d))

def mapPix (f : Nat → Nat → F32 → F32) (m : Mosaic) : Mosaic := m.mapIdx fun r l => l.mapIdx fun c x => f r c x
def pixAt (m : Mosaic) (r c : Int) : Option F32 :=
  if 0 ≤ r ∧ 0 ≤ c then (m[r.toNat]?).bind (·[c.toNat]?) else none

/-- The site of a pixel: 0 R, 1 Gr, 2 Gb, 3 B. The places of a mono sensor are counted as those of RGGB. -/
def siteOf (d : Bytes) (r c : Nat) : Nat :=
  let q := 2 * (r % 2) + c % 2
  match pcFilter d with
  | 1 => [1, 0, 3, 2].getD q 0
  | 2 => [2, 3, 0, 1].getD q 0
  | 3 => 3 - q
  | _ => q

/-- Stage 0, black level: floored at 0 and normalised by (full code − BLACK). -/
def stageBlack (d : Bytes) (l : Raw) : Mosaic :=
  let unit := fOfInt ((pcFull d : Int) - pcBlack d)
  l.map fun r => r.map fun p => if pcStage d 0 then fDiv (fOfNat (p - pcBlack d)) unit else fOfNat p

/-- Values in ascending order. -/
def insertF (x : F32) : List F32 → List F32
  | [] => [x]
  | y :: r => if fLe x y then x :: y :: r else y :: insertF x r
def sortF (l : List F32) : List F32 := l.foldr insertF []

/-- The 8 same-colour neighbours of a pixel that lie in the image. -/
def neighbours (d : Bytes) (m : Mosaic) (r c : Nat) : List F32 :=
  let k : Int := if pcMono d then 1 else 2
  ([-1, 0, 1] : List Int).flatMap fun i => ([-1, 0, 1] : List Int).filterMap fun j =>
    if i = 0 ∧ j = 0 then none else pixAt m ((r : Int) + k * i) ((c : Int) + k * j)

/-- Stage 1, defects. The median of eight lies between the fourth and the fifth of them, and a pixel at the image's border
has fewer neighbours: of neither the table says more. -/
def stageDefect (d : Bytes) (m : Mosaic) : Mosaic :=
  let th := if pcStage d 0 then fDiv (fOfNat (pcDefect d)) (fOfInt ((pcFull d : Int) - pcBlack d)) else fOfNat (pcDefect d)
  if pcStage d 1 then
    mapPix (fun r c x =>
      let l := sortF (neighbours d m r c)
      let med := if l.length = 8 then
          (if fEq (l.getD 3 f0) (l.getD 4 f0) then l.getD 3 f0 else Config.median (l.getD 3 f0) (l.getD 4 f0))
        else Config.borderMedian l
      if fLt th (fAbs (fSub x med)) then med else x) m
  else m

/-- The square of ρ at a pixel: of its distance from the image's centre, divided by that of a corner. -/
def rhoSq (d : Bytes) (r c : Nat) : F32 :=
  let sq (n k : Nat) : Int := (2 * (k : Int) - (n - 1 : Nat)) * (2 * (k : Int) - (n - 1 : Nat))
  fDiv (fOfInt (sq (pcH d) r + sq (pcW d) c)) (fOfInt (sq (pcH d) 0 + sq (pcW d) 0))

/-- Stage 2, shading: 1 + K1 × ρ² + K2 × ρ⁴. -/
def stageShading (d : Bytes) (m : Mosaic) : Mosaic :=
  if pcStage d 2 then
    mapPix (fun r c x => let q := rhoSq d r c; fMul x (fFma (fFma (pcK2 d) q (pcK1 d)) q f1)) m
  else m

/-- Stage 3, white balance; a mono sensor has no such sites. -/
def stageBalance (d : Bytes) (m : Mosaic) : Mosaic :=
  if pcStage d 3 && !pcMono d then mapPix (fun r c x => fMul x (pcGainOf d (siteOf d r c))) m else m

/-- A frame after stage 3. -/
def mosaicOf (d : Bytes) (l : Raw) : Mosaic := stageBalance d (stageShading d (stageDefect d (stageBlack d l)))

/-! ## Colour (stages 4 and 5) and the fusion output (R342) -/

/-- Stage 4, demosaic: R = G = B of a mono sensor; what R341 does not lay down of the others is free. -/
def stageDemosaic (d : Bytes) (m : Mosaic) : List (List Rgb) :=
  m.mapIdx fun r l => l.mapIdx fun c x => if pcMono d then (x, x, x) else Config.demosaic (pcFilter d) m r c

/-- Stage 5, the colour matrix, row by row. -/
def stageColour (d : Bytes) (p : Rgb) : Rgb :=
  let row (i : Nat) : F32 := fFma (pcCcm d (i + 2)) p.2.2 (fFma (pcCcm d (i + 1)) p.2.1 (fMul (pcCcm d i) p.1))
  if pcStage d 5 then (row 0, row 3, row 6) else p

/-- Linear RGB after stage 5; none without stage 4. -/
def rgbOf (d : Bytes) (l : Raw) : List (List Rgb) :=
  if pcStage d 4 then (stageDemosaic d (mosaicOf d l)).map fun r => r.map (stageColour d) else []

def meanF (l : List F32) : F32 := fDiv (fSum l) (fOfNat l.length)

/-- Boxes of n × n pixels averaged (R342). -/
def downscale (n : Nat) (m : List (List Rgb)) : List (List Rgb) :=
  if n ≤ 1 then m
  else (List.range (m.length / n)).map fun r =>
    let rows := (m.drop (n * r)).take n
    (List.range ((m.headD []).length / n)).map fun c =>
      let box := rows.flatMap fun l => (l.drop (n * c)).take n
      (meanF (box.map (·.1)), meanF (box.map (·.2.1)), meanF (box.map (·.2.2)))

/-- The fusion output: linear RGB in FP16, downscaled (R342). -/
def fusionOut (d : Bytes) (l : Raw) : List (List Rgb) :=
  (downscale (pcDown d) (rgbOf d l)).map fun r => r.map fun p => (Config.half p.1, Config.half p.2.1, Config.half p.2.2)

/-! ## Statistics (Table 10.5) -/

/-- The 2 × 2 quads: row and column of the first pixel, and the mean of the four. -/
def quadsOf (m : Mosaic) : List (Nat × Nat × F32) :=
  (List.range (m.length / 2)).flatMap fun i => (List.range ((m.headD []).length / 2)).map fun j =>
    let sites : List (Nat × Nat) := [(2 * i, 2 * j), (2 * i, 2 * j + 1), (2 * i + 1, 2 * j), (2 * i + 1, 2 * j + 1)]
    let v := sites.map fun p => (pixAt m p.1 p.2).getD f0
    (2 * i, 2 * j, meanF v)

/-- The mean of the pixels of a site. -/
def siteMean (d : Bytes) (m : Mosaic) (site : Nat) : F32 :=
  meanF ((m.mapIdx fun r l => (l.mapIdx fun c x => (siteOf d r c, x)).filterMap fun e =>
    if e.1 = site then some e.2 else none).flatten)

/-- The mean of a zone's quads in units of 2^-16. -/
def zoneOf (d : Bytes) (q : List (Nat × Nat × F32)) (i : Nat) : Nat :=
  let l := q.filterMap fun e =>
    if 4 * e.1 / pcH d = i / 4 ∧ 4 * e.2.1 / pcW d = i % 4 then some e.2.2 else none
  satN 2 (fScaleRound (meanF l) 65536 1)

/-- A bin of the histogram: the quads whose mean lies in it, those outside 0.0 to 1.0 in the nearest. -/
def binOf (q : List (Nat × Nat × F32)) (i : Nat) : Nat :=
  (q.filter fun e => decide (min 63 (fFloorInt (fMul e.2.2 (fOfNat 64))).toNat = i)).length

/-- The fraction of pixels at full code before stage 0. -/
def saturatedOf (d : Bytes) (l : Raw) : F32 :=
  let px := l.flatten
  fDiv (fOfNat (px.filter fun p => decide (pcFull d ≤ p)).length) (fOfNat px.length)

/-! ## The quality stage (R344) -/

/-- Y of a pixel. -/
def lumaOf (p : Rgb) : F32 := fFma (fDec 25 100) p.2.2 (fFma fHalf p.2.1 (fMul (fDec 25 100) p.1))

/-- A pixel of a blob: its row, its column and its colour. -/
abbrev BlobPix := Nat × Nat × Rgb

/-- Two pixels touch by a side or a corner. -/
def touches8 (a b : BlobPix) : Bool :=
  decide (a.1 ≤ b.1 + 1 ∧ b.1 ≤ a.1 + 1 ∧ a.2.1 ≤ b.2.1 + 1 ∧ b.2.1 ≤ a.2.1 + 1)
/-- A pixel joins the blobs it touches, which become one. -/
def blobAdd (bs : List (List BlobPix)) (p : BlobPix) : List (List BlobPix) :=
  let (near, far) := bs.partition fun b => b.any (touches8 p)
  (near.flatten ++ [p]) :: far
/-- The blobs of an image: 8-connected sets of pixels with Y ≥ BG_TH. -/
def blobsOf (d : Bytes) (m : List (List Rgb)) : List (List BlobPix) :=
  let px : List BlobPix := (m.mapIdx fun r l => l.mapIdx fun c p => (r, c, p)).flatten
  (px.filter fun p => fLe (pcBgTh d) (lumaOf p.2.2)).foldl blobAdd []

/-- A blob is classified: its area lies within AMIN to AMAX, and it does not touch the image border. -/
def blobCounts (d : Bytes) (m : List (List Rgb)) (b : List BlobPix) : Bool :=
  decide (pcAMin d ≤ b.length ∧ b.length ≤ pcAMax d) &&
    b.all fun p => decide (0 < p.1 ∧ p.1 + 1 < m.length ∧ 0 < p.2.1 ∧ p.2.1 + 1 < (m.headD []).length)

/-- The extent of a list of numbers. -/
def spanOf (l : List Nat) : Nat := l.foldl max 0 - l.foldl min (l.headD 0) + 1

/-- z0 to z7 of a blob. The spec gives no measure of a perimeter, and no rounding of the second moments and of the
deviation. -/
def blobZ (b : List BlobPix) : List F32 :=
  let at_ : List (Nat × Nat) := b.map fun p => (p.1, p.2.1)
  let ys := b.map fun p => lumaOf p.2.2
  let share (f : Rgb → F32) : F32 := meanF (b.map fun p => fDiv (f p.2.2) (fAdd (fAdd p.2.2.1 p.2.2.2.1) p.2.2.2.2))
  let per := Config.perimeter at_
  let area := fOfNat b.length
  [area, Config.axisRatio at_, share (·.1), share (·.2.1), meanF ys,
    fDiv (fMul per per) (fMul (fMul (fOfNat 4) fPi) area), Config.deviation ys,
    fDiv area (fOfNat (spanOf (at_.map (·.1)) * spanOf (at_.map (·.2))))]

/-- The index of the largest, the lowest on ties. -/
def argMax (l : List F32) : Nat :=
  ((List.range l.length).foldl (fun (b : Nat × F32) i =>
    if i = 0 ∨ fLt b.2 (l.getD i f0) then (i, l.getD i f0) else b) (0, f0)).1

/-- A blob's class. -/
def blobClass (d : Bytes) (b : List BlobPix) : Nat :=
  let z := blobZ b
  argMax ((List.range 4).map fun c =>
    (List.range 8).foldl (fun s k => fFma (pcWeight d c k) (z.getD k f0) s) (pcBias d c))

/-! ## What the image processor gives of a frame -/

/-- The statistics of a frame, and the areas and number of its classified blobs where the quality stage runs. -/
def statsOf (d : Bytes) (l : Raw) (tapLost : Bool) : FrameStats :=
  let m := mosaicOf d l
  let q := quadsOf m
  let out := fusionOut d l
  let bs := if (pcOutputs d).testBit 2 then (blobsOf d out).filter (blobCounts d out) else []
  { means := (List.range 4).map (siteMean d m), saturated := saturatedOf d l
    zones := (List.range 16).map (zoneOf d q), histogram := (List.range 64).map (binOf q)
    areas := (List.range 4).map fun c => ((bs.filter fun b => blobClass d b = c).map (·.length)).foldl (· + ·) 0
    blobs := bs.length, tapLost := tapLost }

/-! ## The tap (R343) -/

/-- The bytes of the tap's lines, in its format. -/
def tapLines (d : Bytes) (l : Raw) : List Bytes :=
  let rgb := downscale (2 ^ pcTapDown d) (rgbOf d l)
  match pcTapFmt d with
  | 0 => rgb.map fun r => r.flatMap fun p => [p.1, p.2.1, p.2.2].map fun x => Config.gamma8 x (pcGamma d)
  | 1 => (List.range (pcH d / 2 ^ pcTapDown d)).map fun r => Config.tapRaw (pcTapDown d) l r (tapLine d)
  | _ => rgb.map fun r => r.map fun p => Config.luma8 (lumaOf p)

/-- The datagrams of a frame: the header of Table 10.4 and whole lines, at most 8,192 bytes each. -/
def tapDatagrams (k num ident : Nat) (d : Bytes) (l : Raw) : List Bytes :=
  let lines := tapLines d l
  let per := max 1 (8168 / max 1 (tapLine d))
  (List.range ((lines.length + per - 1) / per)).map fun i =>
    let part := (lines.drop (per * i)).take per
    le 2 0x4B43 ++ b1 k ++ b1 (pcTapFmt d) ++ le 4 num ++ le 2 (per * i) ++ le 2 part.length ++ le 2 lines.length ++
      le 2 (tapLine d) ++ le 4 ident ++ zeros 4 ++ part.flatten

end Sys2Proof.Machine
end

