-- ==== Sys2Proof/Machine/Camera.lean ====
section
/-! DEFINITION. Camera links and image pipelines (chapter 10): power and link, frame slots, the
frame trailer, exposure sets, statistics records, lifecycle, tunnel and opcodes. -/

namespace Sys2Proof.Machine

def State.pipeCfg (s : State) (k : Nat) : Bytes := s.app (.pipe k)
def pipeSt (s : State) (k : Nat) : FnState := s.st (pipeFid k)
def pipeLive (s : State) (k : Nat) : Bool := (pipeSt s k).live

/-! ## Camera power and link (R329) -/

/-- LINK_STATE (R329, Table 10.9). -/
def linkSet (s : State) (k : Nat) (up : Bool) : State :=
  let x := s.pipe k
  if x.link = up then s
  else
    let s := s.setPipe k { x with link := up }
    let data := b1 (bit up 0) ++ zeros 3
    if up then emit s 0x0901 (pipeFid k) data else emitFault s 0x0901 (pipeFid k) data

/-- Camera power comes on; its current is a measurement, and free (log entry 6). -/
def powerOn (s : State) (k : Nat) : State :=
  let (n, s) := s.draw
  s.setPipe k { s.pipe k with power := true, limited := false, current := Config.freeF32 n }

def powerOff (s : State) (k : Nat) : State :=
  linkSet (s.setPipe k { s.pipe k with power := false, current := f0 }) k false

/-- What an entry into CONFIG does (R329). -/
def pipeConfigured (s : State) (k : Nat) : State :=
  let x := s.pipe k
  if pipeSt s k = .config && !x.power && !x.limited then powerOn s k else s

/-- A pipeline stops capturing: nothing of an open frame is kept. -/
def pipeQuiet (s : State) (k : Nat) : State :=
  s.setPipe k { s.pipe k with frame := none, expected := none, writing := none, quality := none }

/-- A fault's reaction (01 R33). -/
def pipeFault (s : State) (k : Nat) : State :=
  match pipeSt s k with
  | .starting | .running => changeState (pipeQuiet s k) (pipeFid k) .faulted
  | .stopping => faultStopping s (pipeFid k)
  | _ => s

/-- CAMERA_POWER_LIMIT (R329): 10 ms in limit. DESIGN CHOICE (log entry 62): 01 R33 leaves a fault in CONFIG without a
change of state, while R329 has the pipeline, which it powers from CONFIG on, enter FAULTED and retries its supply in
every state but OFF; R329, which speaks of this fault, is followed in CONFIG too. -/
def xCameraPowerLimit (k : Nat) (current : F32) (s : State) : State :=
  let x := s.pipe k
  if x.power then
    let s := powerOff s k
    let s := s.setPipe k { s.pipe k with limited := true, limitAt := s.mono }
    let s := raise s (136 + k) (fToInt (fMul current (fOfNat 1000))).toNat
    let s := emitFault s 0x0904 (pipeFid k) (leF current)
    if pipeSt s k = .config then changeState s (pipeFid k) .faulted else pipeFault s k
  else s

/-- CAMERA_POWER_RETRY (R329): every 1 s while the pipeline is not OFF. -/
def xCameraPowerRetry (k : Nat) (ok : Bool) (s : State) : State :=
  let x := s.pipe k
  if x.limited && pipeSt s k ≠ .off && s.past x.limitAt (secT 1) then
    if ok then returnSrc (powerOn s k) (136 + k) else s.setPipe k { x with limitAt := s.mono }
  else s

/-- CAMERA_LINK_CHANGE (R329): the link trains or goes down. -/
def xCameraLinkChange (k : Nat) (up : Bool) (sensorId : Nat) (s : State) : State :=
  let x := s.pipe k
  if up then
    if x.power then linkSet (s.setPipe k { x with sensorId := sensorId % 65536 }) k true else s
  else linkSet s k false

/-! ## Exposure sets (R337 to R340) -/

def initialSet (d : Bytes) : ExpSet := { expo := pcExpo d, gain := pcGain d }
/-- The set predicted for a frame (R340). -/
def predicted (x : Pipe) (d : Bytes) (n : Nat) : ExpSet :=
  (x.sets.find? fun e => decide (e.first ≤ n)).getD (initialSet d)

/-- EXPOSURE_SUPERSEDED (R339): the set that waits is never written. -/
def supersede (s : State) (k by_ : Nat) : State :=
  let x := s.pipe k
  match x.pend with
  | none => s
  | some e =>
    let x := { x with
      pend := none, superseded := satN 4 (x.superseded + 1)
      sets := x.sets.filter fun q => decide (q ≠ e) }
    emit (s.setPipe k x) 0x0902 (pipeFid k) (le 4 e.ident ++ le 4 by_)

/-- The n low bytes of a value, most significant first. -/
def beBytes (n v : Nat) : Bytes := (le n v).reverse

/-- The register writes of an exposure set, in the order of R338: the group-hold value, the fields, the low 16 bits of the
identity (DEDUCED: most significant byte first, as the fields), the release value. -/
def expoWrites (d : Bytes) (e : ExpSet) : List (Nat × Bytes) :=
  let gate (v : Nat) : List (Nat × Bytes) := if rd d 56 2 = 0xFFFF then [] else [(rd d 56 2, b1 v)]
  gate (byteAt d 58) ++
    (List.range (pcFields d)).map (fun i => (rd d (32 + 4 * i) 2, beBytes (byteAt d (34 + 4 * i)) (e.vals.getD i 0))) ++
    (if pcIdReg d = 0xFFFF then [] else [(pcIdReg d, beBytes 2 e.ident)]) ++ gate (byteAt d 59)

/-- Writes go through the tunnel, in their order. -/
def tunnelWrites (s : State) (k : Nat) (l : List (Nat × Bytes)) : State :=
  { s with sent := (l.map fun e => .sensor k e.1 e.2).reverse ++ s.sent }

/-- A slot begins or is declared missing: the writes of the set that applies from the next one
begin (R338). -/
def expoBegin (s : State) (k num : Nat) : State :=
  let x := s.pipe k
  match x.pend with
  | some e =>
    if e.first ≤ num + 1 then
      tunnelWrites (s.setPipe k { x with pend := none, writing := some e }) k (expoWrites (s.pipeCfg k) e)
    else s
  | none => s

/-- EXPOSURE_WRITES_COMPLETE (R338). -/
def xExposureWritesComplete (k : Nat) (s : State) : State := s.setPipe k { s.pipe k with writing := none }

/-- The identity in effect for a frame: the identity, the record's flags, the set whose exposure
time counts, and whether the read-back differs (R340). -/
def identOf (x : Pipe) (d : Bytes) (f : Frm) : Nat × Nat × ExpSet × Option Nat :=
  let p := predicted x d f.num
  match (if pcIdOff d = 0xFFFF then none else f.embedded) with
  | none => (p.ident, 2, p, none)
  | some e =>
    let v := rd e (pcIdOff d) 2
    if v = p.ident % 65536 then (p.ident, 1, p, none)
    else
      match x.hist.find? fun q => decide (q.ident % 65536 = v) with
      | some q => (q.ident, 5, q, some v)
      | none => (0xFFFF * 65536 + v, 4, p, some v)

/-- A time in µs as units of 2^-16 ns, times num / den. -/
def usSub (x : F32) (num den : Nat) : Int :=
  let v : Int := fScaleRound (fAbs x) (65536000 * num) den
  if fSign x then -v else v

def subPlus (t : T96) (i : Int) : T96 := T96.ofSub ((T96.toSub t : Int) + i).toNat

/-- The exposure mid-point less the frame start, in units of 2^-16 ns (R336). -/
def midOffset (d : Bytes) (e : ExpSet) : Int :=
  usSub (pcLine d) (pcH d - 1) 2 - usSub (pcFsLat d) 1 1 - usSub e.expo 1 2

/-! ## Frame slots (R330 to R334, R345) -/

/-- The open frame ends (R333): it is padded, its identity and mid-point are decided, and it waits
for the image processor, or is not processed (R345). -/
def frameClose (s : State) (k : Nat) (noEnd : Bool) : State :=
  let x := s.pipe k
  match x.frame with
  | none => s
  | some f =>
    let d := s.pipeCfg k
    let pad := pcH d - f.lines
    let admitted := mayWork s (8 + k)
    let (ident, fl, e, bad) := identOf x d f
    let off := midOffset d e
    let f := { f with
      noEnd := noEnd, img := paddedFrame d f.img, pad := pad, disc := x.disc, ign := x.ign, ident := ident, idFlags := fl, expo := e.expo
      gain := e.gain, mid := subPlus f.time off, midTick := ((f.tick : Int) + off / 262144).toNat
      ended := s.mono, kind := if admitted then 0 else 2, waiting := admitted }
    let x := { x with
      frame := none, done := x.done ++ [f], disc := 0, ign := 0, lastIdent := ident
      shortLn := satN 4 (x.shortLn + f.short), longLn := satN 4 (x.longLn + f.long)
      padLn := satN 4 (x.padLn + pad), cutLn := satN 4 (x.cutLn + f.cut), crcLn := satN 4 (x.crcLn + f.crc)
      discPk := satN 4 (x.discPk + f.disc), ignPk := satN 4 (x.ignPk + f.ign)
      notProc := satN 4 (x.notProc + (if admitted then 0 else 1))
      mismatches := satN 4 (x.mismatches + (if fl / 4 = 1 then 1 else 0)) }
    let s := s.setPipe k x
    let s := match bad with
      | some v =>
        if fl = 5 then
          emit s 0x0903 (pipeFid k) (le 4 f.num ++ le 4 (predicted x d f.num).ident ++ le 2 v ++ zeros 2)
        else s
      | none => s
    if pipeSt s k = .starting && f.num = 0 then changeState s (pipeFid k) .running else s

/-- The pipeline receives frames. -/
def capturing (s : State) (k : Nat) : Bool :=
  let x := s.pipe k
  pipeLive s k && x.committed.isSome && x.link

/-- FRAME_START (R330, R332, R333), with a perturbation of kind 3 (18 R575). -/
def xFrameStart (k : Nat) (s : State) : State :=
  if capturing s k then
    let pt := (perturb s 3 k).map (·.2)
    let (skip, s) := everyNth s 3 k (match pt with | some t => t.opt % 65536 | none => 0)
    if skip then s
    else
      let jit := match pt with | some t => t.mag | none => 0
      let (n, s) := if jit = 0 then (0, s) else s.draw
      let j : Int := if jit = 0 then 0 else (Config.freeNat n % (2000 * jit + 1) : Nat) - (1000 * jit : Nat)
      let d := s.pipeCfg k
      let s := expoBegin (frameClose s k true) k (s.pipe k).next
      let x := s.pipe k
      let t := subPlus s.now (j * 65536)
      let early := match x.expected with
        | some e => decide (T96.toNs t + 1000 * pcTol d < e) | none => false
      let f : Frm := { num := x.next, early := early, time := t, tick := ((s.mono : Int) + j / 4).toNat }
      s.setPipe k
        { x with frame := some f, next := (x.next + 1) % 2 ^ 32, expected := some (T96.toNs t + pcPeriod d) }
  else s

/-- FRAME_SLOT_MISSING (R331): the slot takes its number and a record. -/
def xFrameSlotMissing (k : Nat) (s : State) : State :=
  let d := s.pipeCfg k
  match (s.pipe k).expected with
  | some e =>
    if pipeLive s k && decide (e + 1000 * pcTol d ≤ s.tdNs 0) then
      let s := expoBegin (frameClose s k true) k (s.pipe k).next
      let x := s.pipe k
      let p := predicted x d x.next
      let f : Frm :=
        { num := x.next, kind := 1, ident := p.ident, idFlags := 2, expo := p.expo, gain := p.gain, ended := s.mono }
      s.setPipe k
        { x with
          done := x.done ++ [f], next := (x.next + 1) % 2 ^ 32, expected := some (e + pcPeriod d)
          missing := satN 4 (x.missing + 1), lastIdent := p.ident }
    else s
  | none => s

/-- FRAME_END (R333). -/
def xFrameEnd (k : Nat) (s : State) : State := if capturing s k then frameClose s k false else s

/-- A line arrives (R333), with a perturbation of kind 3. -/
def lineIn (s : State) (k : Nat) (pixels : List Nat) (crcOk : Bool) : State :=
  let x := s.pipe k
  let d := s.pipeCfg k
  match x.frame with
  | none => s
  | some f =>
    let every := match perturb s 3 k with | some (_, t) => t.opt / 65536 | none => 0
    let n := f.lines + f.cut + 1
    let px := if every ≠ 0 ∧ n % every = 0 then pixels.take (pixels.length - 64) else pixels
    let f := { f with crc := satN 2 (f.crc + (if crcOk then 0 else 1)) }
    let f :=
      if pcH d ≤ f.lines then { f with cut := satN 2 (f.cut + 1) }
      else { f with
        lines := f.lines + 1, img := f.img ++ [lineOf d px]
        short := satN 2 (f.short + (if px.length < pcW d then 1 else 0))
        long := satN 2 (f.long + (if pcW d < px.length then 1 else 0)) }
    s.setPipe k { x with frame := some f }

/-- CSI2_PACKET_RECEIVED (R328). -/
def xCsi2PacketReceived (k : Nat) (pk : Csi2) (s : State) : State :=
  if capturing s k then
    let x := s.pipe k
    if 2 ≤ pk.ecc then s.setPipe k { x with disc := satN 2 (x.disc + 1) }
    else if pk.vc = 0 ∧ pk.dt = 0x00 then xFrameStart k s
    else if pk.vc = 0 ∧ pk.dt = 0x01 then xFrameEnd k s
    else if pk.vc = 0 ∧ (pk.dt = 0x02 ∨ pk.dt = 0x03) then s
    else if pk.vc = 0 ∧ (pk.dt = 0x2B ∨ pk.dt = 0x2C) then lineIn s k pk.pixels pk.crcOk
    else if pk.vc = 0 ∧ pk.dt = 0x12 then
      match x.frame with
      | some f =>
        s.setPipe k { x with frame := some (if f.embedded.isSome then f else { f with embedded := some pk.data }) }
      | none => s
    else s.setPipe k { x with ign := satN 2 (x.ign + 1) }
  else s

/-! ## Processing and records (R342 to R346) -/

/-- The quality indices of a frame (R344); with no classified blob the quotients are not stated. -/
def qualityOf (s : State) (st : FrameStats) : List F32 × State :=
  let sum := st.areas.foldl (· + ·) 0
  let (n, s) := s.draw
  let (_, s) := s.draw
  let (_, s) := s.draw
  let q (j : Nat) : F32 :=
    if sum = 0 then Config.freeF32 (n + j) else fDiv (fOfNat (st.areas.getD (j + 1) 0)) (fOfNat sum)
  ([q 0, q 1, q 2, fOfNat st.blobs], s)

/-- The first slot that waits for the image processor takes its results. -/
def putStats (st : FrameStats) (q : Option (List F32)) : List Frm → List Frm
  | [] => []
  | f :: r =>
    if f.waiting then { f with waiting := false, stats := some st, quality := q } :: r
    else f :: putStats st q r

/-- The image quality of a frame where the pipeline gives it out (R344). -/
def frameQuality (s : State) (k : Nat) (st : FrameStats) : Option (List F32) × State :=
  if (pcOutputs (s.pipeCfg k)).testBit 2 then (some (qualityOf s st).1, (qualityOf s st).2) else (none, s)

/-- The tap takes a frame (R343): its datagrams, or those queued before the next one was due. -/
def frameTap (k : Nat) (f : Frm) (st : FrameStats) (s : State) : State :=
  let d := s.pipeCfg k
  if (pcOutputs d).testBit 1 && f.num % pcDecim d = 0 then
    let all := tapDatagrams k f.num f.ident d f.img
    let l := if st.tapLost then all.take (Config.tapQueued k f.num all.length) else all
    let s := { s with sent := .tap k f.num l :: s.sent }
    if st.tapLost then s.setPipe k { s.pipe k with tapCut := satN 4 ((s.pipe k).tapCut + 1) } else s
  else s

/-- The line time of the fusion output in ns (R342). -/
def outLineNs (d : Bytes) : Nat := fScaleRound (pcLine d) (1000 * pcDown d) 1

/-- FRAME_PROCESSED (R341 to R344): the frame goes to fusion, the tap and the quality stage; a row brings what the stages
make of the frame's pixels, and whether the tap lost lines. -/
def xFrameProcessed (k : Nat) (st : FrameStats) (s : State) : State :=
  match (s.pipe k).done.find? (·.waiting) with
  | none => s
  | some f =>
    if st ≠ statsOf (s.pipeCfg k) f.img st.tapLost then s
    else
    let x := s.pipe k
    let q := (frameQuality s k st).1
    let s := (frameQuality s k st).2
    let ok := q.isSome && decide (pcMinBlobs (s.pipeCfg k) ≤ st.blobs)
    let x := { x with done := putStats st q x.done, quality := if ok then some (q.getD [], f.mid, f.midTick) else x.quality }
    let s := s.setPipe k x
    let d := s.pipeCfg k
    frameTap k f st (if (pcOutputs d).testBit 0 then fusFrame s k f.midTick (pcH d / pcDown d) (outLineNs d) else s)

/-- The frame trailer (Table 10.1). -/
def Frm.trailer (f : Frm) : Bytes :=
  le 2 f.short ++ le 2 f.long ++ le 2 (satN 2 f.pad) ++ le 2 f.cut ++ le 2 f.crc ++ le 2 f.disc ++ le 2 f.ign ++
  zeros 2

/-- A camera statistics record (Table 10.5). -/
def Frm.record (f : Frm) (k minBlobs : Nat) : Bytes :=
  let st : FrameStats := f.stats.getD
    { means := [], saturated := 0, zones := [], histogram := [], areas := [], blobs := 0, tapLost := false }
  let okQ := f.quality.isSome && decide (minBlobs ≤ st.blobs)
  let fl := f.idFlags + bit f.noEnd 3 + bit f.early 4 + bit okQ 5
  let words (n : Nat) (w : Nat) (l : List Nat) : Bytes := (List.range n).flatMap fun i => le w (l.getD i 0)
  let floats (n : Nat) (l : List F32) : Bytes := (List.range n).flatMap fun i => leF (l.getD i f0)
  le 4 f.num ++ b1 k ++ b1 f.kind ++ le 2 fl ++ le 4 f.ident ++ leT f.mid ++ leT f.time ++ leF f.expo ++
  leF f.gain ++ f.trailer ++ floats 4 st.means ++ leF st.saturated ++ words 16 2 st.zones ++
  words 64 4 st.histogram ++ floats 4 (f.quality.getD []) ++
  le 2 (if f.quality.isSome then satN 2 st.blobs else 0) ++ zeros 2

/-- STATS_RECORD_SENT (R346): records go in frame-number order. -/
def xStatsRecordSent (k : Nat) (s : State) : State :=
  let x := s.pipe k
  match x.done with
  | f :: r =>
    if f.waiting then s
    else
      let s := s.setPipe k { x with done := r }
      pushAll s sCamera fun _ =>
        { time := s.now, fault := false, pos := none, body := f.record k (pcMinBlobs (s.pipeCfg k)) }
  | [] => s

/-- The quality indices that the planner reads, with their exposure mid-point (R344). -/
def qualityVal (s : State) (k q : Nat) : Option (F32 × Nat) :=
  if pipeSt s k = .running then (s.pipe k).quality.map fun e => (e.1.getD q f0, e.2.2) else none

/-! ## Triggers (R335) -/

/-- CAMERA_TRIGGER (R335). -/
def xCameraTrigger (k : Nat) (s : State) : State :=
  let d := s.pipeCfg k
  let x := s.pipe k
  if pipeLive s k && pcTriggered d && atGrid (s.tdNs 0) (pcPhase d) (pcPeriod d) &&
      decide (x.trigAt + pcPeriod d / 8 ≤ s.mono) then
    let s := s.setPipe k { x with trigAt := s.mono }
    { s with sent := .trigger k :: s.sent }
  else s

/-! ## Lifecycle (R347 to R349) -/

/-- The checks of START in the order of R31 (R347, 15 R512). -/
def pipeCheck (s : State) (k : Nat) : State × Verdict :=
  let d := s.stg (.pipe k)
  let x := s.pipe k
  let out := pcOutputs d
  (s,
    if ((out.testBit 0 || out.testBit 2) && !(pcStages d).testBit 4) ||
        (out.testBit 1 && decide (8168 < tapLine d)) ||
        (pcTriggered d && decide (1000000000 % pcPeriod d ≠ 0 ∨ pcGpio d = 0xFF)) then
      some (stBadParam, noField)
    else if !budgetOk s (8 + k) then some (stOverBudget, 0)
    else if !x.link then some (stWrongState, 0)
    else if pcSensorReg d ≠ 0xFFFF ∧ x.sensorId ≠ pcSensorId d then some (0x81, x.sensorId)
    else none)

/-- The writes of a list of appended accesses: address, count and data. -/
def listWrites (l : Bytes) : List (Nat × Bytes) :=
  (List.range (l.length / 35)).map fun i => (rd l (35 * i) 2, slice l (35 * i + 3) (byteAt l (35 * i + 2)))

/-- START is committed at the check; the start list and the initial set are written, and the commit instant is the end of
the writes (R347). -/
def pipeCommit (s : State) (k : Nat) : State :=
  let s := beginStart s (pipeFid k)
  let x := s.pipe k
  let d := s.pipeCfg k
  let e := { initialSet d with vals := (List.range (pcFields d)).map (Config.initialValue k) }
  let s := s.setPipe k
    { power := x.power, limited := x.limited, limitAt := x.limitAt, current := x.current, link := x.link
      sensorId := x.sensorId, trigAt := 0 }
  tunnelWrites s k (listWrites (s.app (.pipeStart k)) ++ expoWrites d e)

/-- PIPE_START_COMMIT (R347): the start list and the initial set are written. -/
def xPipeStartCommit (k : Nat) (s : State) : State :=
  let x := s.pipe k
  if pipeSt s k = .starting && x.committed.isNone then s.setPipe k { x with committed := some s.mono } else s

/-- PIPE_START_TIMEOUT (R347): no frame start within 1 s of the commit. -/
def xPipeStartTimeout (k : Nat) (s : State) : State :=
  let x := s.pipe k
  match x.committed with
  | some t =>
    if pipeSt s k = .starting && x.next = 0 && s.past t (secT 1) then raise (pipeFault s k) (144 + k) 0 else s
  | none => s

/-- STOP (R348, R339): triggers end, the stop list is written, what has not ended is discarded. -/
def pipeStop (s : State) (k : Nat) : State :=
  let s := tunnelWrites (supersede s k 0xFFFFFFFF) k (listWrites (s.app (.pipeStop k)))
  beginStop (pipeQuiet s k) (pipeFid k)

/-- At OFF: camera power is off and the sources return (R348, R329). -/
def pipeOff (s : State) (k : Nat) : State :=
  let s := powerOff s k
  let s := s.setPipe k { s.pipe k with limited := false, done := [], committed := none, disc := 0, ign := 0 }
  returnSrc (returnSrc s (136 + k)) (144 + k)

/-- PIPE_STOP_COMPLETE (R348). -/
def xPipeStopComplete (k : Nat) (s : State) : State :=
  let f := s.fn (pipeFid k)
  if f.st = .stopping then
    finishStop (pipeCheck · k) (pipeCommit · k) (pipeFid k) (if f.toFault then s else pipeOff s k)
  else s

/-- A processor-complex reset (R349, R355). -/
def pipeReset (s : State) (k : Nat) : State :=
  let s := blockReset s (pipeFid k)
  let s := pipeOff s k
  s.setPipe k {}

/-! ## Opcodes (R337, R350 to R352) -/

/-- PIPE_CONFIG (R350). -/
def opPipeConfig : OpSpec where
  code := 0x0900
  token := true
  len := fun _ => 328
  layout := pipeChecks
  body := fun s p =>
    let k := byteAt p 0
    let a := cfgAnswer s [pipeFid k] fun s => s.setStg (.pipe k) p
    { a with s := pipeConfigured a.s k }

/-- The first value beyond the configured fields that is not 0 (Table 10.2). -/
def valuesBad (d p : Bytes) : Option Nat :=
  firstBad ((List.range 6).map fun i => (16 + 4 * i, decide (i < pcFields d ∨ rd p (16 + 4 * i) 4 = 0)))

/-- EXPOSURE_COMMIT (R337 to R339). -/
def opExposureCommit : OpSpec where
  code := 0x0901
  token := true
  len := fun _ => 40
  layout := exposureChecks
  body := fun s p =>
    let k := byteAt p 0
    let d := s.pipeCfg k
    if !(fLe f1 (rdF p 8) && fLe (rdF p 8) (periodUs d)) then badParam s 8
    else match valuesBad d p with
      | some o => badParam s o
      | none =>
        if pipeLive s k then
          let s := supersede s k (rd p 4 4)
          let x := s.pipe k
          let e : ExpSet :=
            { ident := rd p 4 4, expo := rdF p 8, gain := rdF p 12
              vals := (List.range (pcFields d)).map fun i => rd p (16 + 4 * i) 4, first := x.next + 1 }
          let x := { x with pend := some e, sets := (e :: x.sets).take 16, hist := (e :: x.hist).take 8 }
          okWith (s.setPipe k x) (le 4 e.first ++ zeros 4)
        else failAns s stWrongState 0

/-- What the sensor's answer makes of a tunnel access (R351). -/
def tunnelAns (s : State) (read : Nat) : SensorAns → Ans
  | .ack data => if read = 0 then okAns s else okWith s (fitBytes read data)
  | .nack i => failAns s 0x80 (i % 65536)

/-- One write of a start or stop list: address, count and 32 bytes. -/
def listWrite (p : Bytes) : Bytes := slice p 2 2 ++ b1 (byteAt p 4) ++ fitBytes 32 (p.drop 8)

/-- An append to a list of at most 256 writes (R351). -/
def tunnelAppend (s : State) (k : Nat) (o : Obj) (p : Bytes) : Ans :=
  if 256 * 35 ≤ (s.stg o).length then failAns s stOverCapacity 0
  else
    let a := cfgAnswer s [pipeFid k] fun s => s.setStg o (s.stg o ++ listWrite p)
    { a with s := pipeConfigured a.s k }

/-- SENSOR_TUNNEL (R351); the sensor's answer is the row's. -/
def opSensorTunnel (ans : SensorAns) : OpSpec where
  code := 0x0902
  token := true
  len := tunnelLen
  layout := tunnelChecks
  body := fun s p =>
    let k := byteAt p 0
    match byteAt p 1 with
    | 0 =>
      if pipeSt s k = .off || !(s.pipe k).link then failAns s stWrongState 0
      else tunnelAns s (byteAt p 4) ans
    | 1 =>
      if pipeSt s k = .config then tunnelAns (tunnelWrites s k [(rd p 2 2, slice p 8 (byteAt p 4))]) 0 ans
      else failAns s stWrongState 0
    | 2 => tunnelAppend s k (.pipeStart k) p
    | 3 => tunnelAppend s k (.pipeStop k) p
    | _ =>
      let a := cfgAnswer s [pipeFid k] fun s => (s.setStg (.pipeStart k) []).setStg (.pipeStop k) []
      { a with s := pipeConfigured a.s k }

/-- PIPE_STATUS (R352). -/
def opPipeStatus : OpSpec where
  code := 0x0903
  len := fun _ => 4
  layout := fun p => [ckRange p 0 1 0 7, ckZero p 1 3]
  body := fun s p =>
    let k := byteAt p 0
    let x := s.pipe k
    okWith s
      (leT s.now ++ b1 (pipeSt s k).code ++ b1 (bit x.link 0) ++ zeros 2 ++ le 4 (x.next - 1) ++
        le 4 x.lastIdent ++ leF x.current ++
        [x.missing, x.shortLn, x.longLn, x.padLn, x.cutLn, x.crcLn, x.discPk, x.ignPk, x.notProc,
          x.superseded, x.mismatches, x.tapCut].flatMap (le 4))

end Sys2Proof.Machine
end

