-- ==== Sys2Proof/Machine/Panel.lean ====
section
/-! DEFINITION. The service panel driver (chapter 16): supplies, temperature bands, rows, balance
books, journal and repair, and its opcodes. -/

namespace Sys2Proof.Machine

def fsPanel : Nat := 192
def fsRepair : Nat := 193

def panelSt (s : State) : FnState := s.st panelFid
def panelCfg (s : State) : Bytes := s.app .panel

/-! ## The fault source -/

/-- One cause of FSRC192 holds, or no longer does; the source follows all of them. -/
def panelCause (s : State) (n : Nat) (holds : Bool) : State :=
  let o := s.pnl.wrong
  let w := if holds then o ||| 2 ^ n else if o.testBit n then o - 2 ^ n else o
  let s := { s with pnl := { s.pnl with wrong := w } }
  if w = 0 then returnSrc s fsPanel else if o = 0 then raise s fsPanel n else s

/-! ## Frames and the target image (R529, R535, R539) -/

def blankFrame : Bytes := zeros 96
def frameOf (t : Tbl Nat (Bytes × Nat)) (n : Nat) : Bytes × Nat :=
  tget (blankFrame, (crc32c blankFrame).toNat) t n
def frameGood (f : Bytes × Nat) : Bool := (crc32c f.1).toNat = f.2

/-- Cells a to g of a decimal digit, a in bit 0; PRESUMED, log entry 16. -/
def digitCells (n : Nat) : Nat :=
  [0x3F, 0x06, 0x5B, 0x4F, 0x66, 0x6D, 0x7D, 0x07, 0x7F, 0x6F].getD n 0

/-- The cells of the digits of a number, most significant first, without leading zeros. -/
def overlayCells (n : Nat) : List Bool :=
  let d (on : Bool) (v : Nat) : List Bool := (List.range 7).map fun i => on && (digitCells (v % 10)).testBit i
  d (decide (100 ≤ n)) (n / 100) ++ d (decide (10 ≤ n)) (n / 10) ++ d true n

/-- One bit of a bitmap set or cleared. -/
def setCell (m : Bytes) (c g : Nat) (on : Bool) : Bytes :=
  let i := 6 * c + g / 8
  let b := byteAt m i
  let k := 2 ^ (g % 8)
  m.set i (BitVec.ofNat 8 (if on then b ||| k else if b.testBit (g % 8) then b - k else b))

/-- The number of the frame that is the target. -/
def targetNo (s : State) : Nat := if s.fcr.safeStopped then 1 else 0

/-- The target image. -/
def targetImage (s : State) : Bytes :=
  let m := (frameOf s.pnl.frames (targetNo s)).1
  let d := panelCfg s
  if s.fcr.safeStopped && pnOverlay d then
    ((List.range 21).zip (overlayCells s.fcr.ssCause)).foldl
      (fun m e => setCell m (pnDigit d e.1).1 (pnDigit d e.1).2 e.2) m
  else m

def rowBytes (m : Bytes) (c : Nat) : Bytes := slice m (6 * c) 6
def shownImage (s : State) : Bytes := s.pnl.shown.getD blankFrame

/-- There is an image to show: frame 0 has been written or is stored, or the target is frame 1. -/
def hasFrame (s : State) : Bool := s.fcr.safeStopped || (tfind s.pnl.frames 0).isSome

/-- A row is pending (R529); none before there is an image to show (DESIGN CHOICE, log entry 49). -/
def rowPending (s : State) (c : Nat) : Bool :=
  hasFrame s && (s.pnl.unknown.testBit c || decide (rowBytes (targetImage s) c ≠ rowBytes (shownImage s) c))
def pendingMask (s : State) : Nat :=
  ((List.range 16).map fun c => bit (rowPending s c) c).foldl (· + ·) 0

/-! ## Supplies and temperature (R527, R530, R538) -/

/-- The supplies are in range (R527, 02 Table 2.3). -/
def supplyRange (vph vpm vpl : F32) : Bool :=
  fLe (fOfNat 20) vph && fLe vph (fOfNat 48) && fLe (fOfNat 10) vpm && fLe vpm (fOfNat 24) &&
    fLe f0 vpl && fLe vpl (fOfNat 6) && fLt vpm vph && fLt vpl vpm &&
    fLe (fAbs (fSub vpm (fDiv (fAdd vph vpl) (fOfNat 2)))) (fMul (fDec 5 100) (fSub vph vpl))

/-- PANEL_SUPPLY_SAMPLE (R527, R538). -/
def xPanelSupplySample (vph vpm vpl : F32) (s : State) : State :=
  let p := s.pnl
  let due := match p.sampleAt with | some t => s.past t (usT 100) | none => true
  if decide (2 ≤ s.boot.phase) && due then
    let ok := supplyRange vph vpm vpl
    let s : State := { s with pnl := { p with
      vph := vph, vpm := vpm, vpl := vpl, supplyOk := ok, sampleAt := some s.mono
      okAt := if p.supplyOk then p.okAt else s.mono } }
    if !ok && p.run.isSome then
      panelCause { s with pnl := { s.pnl with run := none } } 1 true
    else s
  else s

/-- The band for a temperature, with hysteresis (R530). -/
def bandFor (d : Bytes) (b : Nat) (t : F32) : Nat :=
  let up (b i : Nat) : Nat := if b = i ∧ fLe (fAdd (pnT d i) (pnHyst d)) t = true then i + 1 else b
  let down (b i : Nat) : Nat := if b = i + 1 ∧ fLe t (fSub (pnT d i) (pnHyst d)) = true then i else b
  down (down (down (up (up (up b 0) 1) 2) 2) 1) 0

/-- PANEL_TEMPERATURE_READ (R530). -/
def xPanelTemperatureRead (ratio : F32) (s : State) : State :=
  let p := s.pnl
  let due := match p.tempAt with | some t => s.past t (msT 100) | none => true
  if decide (2 ≤ s.boot.phase ∧ s.pwr.state ≤ 1) && due then
    let d := panelCfg s
    let t := Config.ntcTemp ratio (pnNom d) (pnBeta d)
    let good := fLe (fOfInt (-45)) t && fLe t (fOfNat 90)
    let s : State := { s with pnl := { p with
      temp := t, tempAt := some s.mono, band := if good then bandFor d p.band t else 0 } }
    panelCause s 2 (!good)
  else s

/-! ## Books (R532, R533) -/

/-- The duration of a phase in ms. -/
def phaseMs (d : Bytes) (r : PRow) (n : Nat) : F32 :=
  match n with
  | 1 => r.tPlus
  | 2 => r.tMinus
  | 3 | 4 => fOfNat (pnTs d r.band)
  | _ => fOfNat (pnTx d r.band)

/-- The voltage of the selected common and of a segment in a phase (Table 16.1). -/
def comV (r : PRow) (n : Nat) : F32 := match n with | 1 => r.vph | 2 => r.vpl | _ => r.vpm
def segV (r : PRow) (n : Nat) (on : Bool) : F32 :=
  match n with
  | 1 => r.vpl
  | 2 => r.vph
  | 3 => if on then r.vpm else r.vpl
  | 4 => if on then r.vpm else r.vph
  | _ => r.vpm

/-- The voltages of the lines: of a row in progress by its latched supplies; without one VPM while RUNNING, else 0 V
(R528, R538, R541). -/
def restV (s : State) : F32 := if panelSt s = .running && s.pnl.supplyOk then s.pnl.vpm else f0
def comLine (s : State) (c : Nat) : F32 :=
  match s.pnl.run with
  | some r => if c = r.row then comV r r.phase else r.vpm
  | none => restV s
def segLine (s : State) (g : Nat) : F32 :=
  match s.pnl.run with
  | some r => segV r r.phase ((byteAt r.target (g / 8)).testBit (g % 8))
  | none => restV s

def bookAt (l : List F32) (i : Nat) : F32 := l.getD i f0

/-- Every book after a phase of a duration in ms (R532). -/
def bookPhase (l : List F32) (r : PRow) (n : Nat) (ms : F32) : List F32 :=
  (List.range 768).map fun i =>
    let g := i % 48
    let on := (byteAt r.target (g / 8)).testBit (g % 8)
    let com := if i / 48 = r.row then comV r n else r.vpm
    fAdd (bookAt l i) (fMul (fSub (segV r n on) com) ms)

/-- The reset halves of a row (R533). -/
def resetHalves (s : State) (c tr : Nat) (vr : F32) : F32 × F32 :=
  let mean := fDiv (fSum ((List.range 48).map fun g => bookAt s.pnl.books (48 * c + g))) (fOfNat 48)
  let t := fOfNat tr
  let dt := fMin (fDiv (fAbs mean) vr) (fMul t fHalf)
  (if fLt f0 mean then fAdd t dt else t, if fLt mean f0 then fAdd t dt else t)

/-- The magnitude of the largest book. -/
def largestBook (s : State) : F32 := s.pnl.books.foldl (fun m b => fMax m (fAbs b)) f0

/-! ## Rows (R528, R531, R533, R535, R536) -/

/-- The frame in use is checked before a row (R535): reloaded from MRAM where its CRC fails, and where
that copy fails too the panel is FAULTED. -/
def checkFrame (s : State) : Bool × State :=
  let n := targetNo s
  if frameGood (frameOf s.pnl.frames n) then (true, panelCause s 3 false)
  else
    let m := frameOf s.pnl.saved n
    let s := { s with pnl := { s.pnl with frames := tput s.pnl.frames n m } }
    if frameGood m then (true, panelCause (panelCause s 3 true) 3 false)
    else
      let s := panelCause s 3 true
      (false, if (panelSt s).live then changeState s panelFid .faulted else s)

/-- Phase 1 of a row begins: band and supplies latched, the journal written (R531, R536). -/
def rowBegin (s : State) (c : Nat) : State :=
  let p := s.pnl
  let d := panelCfg s
  let (tp, tm) := resetHalves s c (pnTr d p.band) (fSub p.vph p.vpl)
  let r : PRow :=
    { row := c, target := rowBytes (targetImage s) c, band := p.band, vph := p.vph, vpm := p.vpm
      vpl := p.vpl, tPlus := tp, tMinus := tm }
  { s with pnl := { p with
    run := some r, phaseAt := s.mono, noteAt := s.mono, journal := (r :: p.journal).take 4096 } }

/-- The next row: of the repair pass, else the first pending one while RUNNING; none while STOPPING (R541). -/
def nextRow (s : State) : Option Nat :=
  if s.pnl.repair ≠ 0 ∧ fwRuns s = true ∧ panelSt s ≠ .stopping then (List.range 16).find? fun c => s.pnl.repair.testBit c
  else if panelSt s = .running ∧ fwRuns s = true ∧ mayWork s 4 = true then
    (List.range 16).find? fun c => rowPending s c
  else none

/-- PANEL_ROW_START (R529, R533 to R536). -/
def xPanelRowStart (s : State) : State :=
  if s.pnl.run.isSome || !s.pnl.supplyOk || decide (1 < s.pwr.state) || s.pwr.entering.isSome then s
  else match nextRow s with
    | none => s
    | some c =>
      match checkFrame s with
      | (true, s) => rowBegin s c
      | (false, s) => s

/-- The journal entry of the row in progress is rewritten. -/
def noteRow (s : State) (r : PRow) : State :=
  { s with pnl := { s.pnl with
    noteAt := s.mono, journal := match s.pnl.journal with | [] => [r] | _ :: t => r :: t } }

/-- A row is complete (R534, R536, R537). -/
def rowDone (s : State) (r : PRow) : State :=
  let p := s.pnl
  let img := shownImage s
  let shown := img.take (6 * r.row) ++ fitBytes 6 r.target ++ img.drop (6 * r.row + 6)
  let fixed := p.repair.testBit r.row
  let s := noteRow s { r with done := true }
  let s : State := { s with pnl := { s.pnl with
    run := none, shown := some shown, booksSaved := p.books, written := satN 4 (p.written + 1)
    unknown := if p.unknown.testBit r.row then p.unknown - 2 ^ r.row else p.unknown
    repair := if fixed then p.repair - 2 ^ r.row else p.repair
    repaired := if fixed then satN 4 (p.repaired + 1) else p.repaired } }
  let s := panelCause s 4 (fLt (pnBookMax (panelCfg s)) (largestBook s))
  if fixed && decide (s.pnl.repair = 0) then
    let s := pulse s fsRepair s.pnl.repairing
    let s := { s with pnl := { s.pnl with repairing := 0 } }
    if panelSt s = .starting then changeState s panelFid .running else s
  else s

/-- PANEL_PHASE_END (R528, R532). -/
def xPanelPhaseEnd (s : State) : State :=
  match s.pnl.run with
  | none => s
  | some r =>
    let ms := phaseMs (panelCfg s) r r.phase
    if s.past s.pnl.phaseAt (fToInt (fMul ms (fOfNat 250000))).toNat then
      let s := { s with pnl := { s.pnl with
        books := bookPhase s.pnl.books r r.phase ms, phaseAt := s.mono } }
      if 5 ≤ r.phase then rowDone s r
      else
        let r := { r with phase := r.phase + 1, elapsed := 0 }
        noteRow { s with pnl := { s.pnl with run := some r } } r
    else s

/-- PANEL_JOURNAL_TICK (R536). -/
def xPanelJournalTick (s : State) : State :=
  match s.pnl.run with
  | none => s
  | some r =>
    if s.past s.pnl.noteAt (msT 1) then
      let r := { r with elapsed := s.mono - s.pnl.phaseAt }
      noteRow { s with pnl := { s.pnl with run := some r } } r
    else s

/-! ## Repair (R537, R538) -/

/-- The phases an interrupted entry shows as run are booked, the last at its recorded time plus
0.5 ms. -/
def bookEntry (d : Bytes) (l : List F32) (r : PRow) : List F32 :=
  let l := (List.range (r.phase - 1)).foldl (fun l i => bookPhase l r (i + 1) (phaseMs d r (i + 1))) l
  bookPhase l r r.phase (fAdd (fDiv (fOfNat r.elapsed) (fOfNat 250000)) fHalf)

/-- Interrupted rows: entries of the journal that are not complete. -/
def interrupted (s : State) : List PRow := if s.pnl.run.isSome then [] else s.pnl.journal.filter fun r => !r.done

/-- The repair pass begins (R534, R537): interrupted rows are booked, their state is unknown, and they are
to be written. -/
def repairPass (s : State) : State :=
  let l := interrupted s
  if l.isEmpty then s
  else
    let p := s.pnl
    let d := panelCfg s
    let books := l.foldr (fun r b => bookEntry d b r) p.booksSaved
    let mask := l.foldl (fun m r => m ||| 2 ^ r.row) 0
    let rows := ((List.range 16).filter fun c => (p.repair ||| mask).testBit c).length
    let s : State := { s with pnl := { p with
      books := books, booksSaved := books, unknown := p.unknown ||| mask, repair := p.repair ||| mask
      repairing := rows, journal := p.journal.map fun r => { r with done := true } } }
    panelCause s 4 (fLt (pnBookMax d) (largestBook s))

/-- PANEL_SUPPLY_RESTORED (R538). -/
def xPanelSupplyRestored (s : State) : State :=
  if s.pnl.supplyOk ∧ s.past s.pnl.okAt (msT 100) ∧ (s.pnl.wrong.testBit 1 = true ∨ (interrupted s).isEmpty = false) then
    repairPass (panelCause s 1 false)
  else s

/-- Event 8 of Table 1.12 (R537): frames come from MRAM where none is in use, and the pass runs with the
supplies in range. -/
def panelBoot (s : State) : State :=
  let p := s.pnl
  let keep := p.saved.foldl (fun t e => if (tfind t e.1).isSome then t else tput t e.1 e.2) p.frames
  let s := { s with pnl := { p with frames := keep } }
  if p.supplyOk then repairPass s else s

/-! ## Lifecycle (R540, R541) -/

def panelCheck (s : State) : State × Verdict :=
  (s,
    if !budgetOk s 4 then some (stOverBudget, 0)
    else if !s.pnl.supplyOk then some (stWrongState, 0)
    else if (tfind s.pnl.frames 0).isNone && (tfind s.pnl.saved 0).isNone then some (stWrongState, 0)
    else none)

/-- The commit instant: any repair first, then RUNNING (R540). -/
def panelCommit (s : State) : State :=
  let s := repairPass (beginStart s panelFid)
  if s.pnl.repair = 0 then changeState s panelFid .running else s

def panelStop (s : State) : State := beginStop s panelFid

/-- PANEL_STOP_COMPLETE (R541). -/
def xPanelStopComplete (s : State) : State :=
  if panelSt s = .stopping ∧ s.pnl.run.isNone then finishStop panelCheck panelCommit panelFid s else s

/-- A fault's reaction (R33): the row in progress completes, no further row begins. -/
def panelFault (s : State) : State :=
  match panelSt s with
  | .starting | .running => changeState s panelFid .faulted
  | .stopping => faultStopping s panelFid
  | _ => s

/-! ## Opcodes (R543 to R545) -/

/-- PANEL_CONFIG (R543). -/
def opPanelConfig : OpSpec where
  code := 0x0E00
  token := true
  len := fun _ => 100
  layout := panelChecks
  body := fun s p => cfgAnswer s [panelFid] fun s => s.setStg .panel p

/-- PANEL_FRAME (R544). -/
def opPanelFrame : OpSpec where
  code := 0x0E01
  token := true
  len := fun _ => 104
  layout := panelFrameChecks
  body := fun s p =>
    let f := (slice p 8 96, rd p 4 4)
    if frameGood f then
      let n := byteAt p 0
      okAns { s with pnl := { s.pnl with
        frames := tput s.pnl.frames n f
        saved := if tbit (byteAt p 1) 0 then tput s.pnl.saved n f else s.pnl.saved } }
    else failAns s stIntegrity 0

/-- PANEL_STATUS (R545). -/
def opPanelStatus : OpSpec where
  code := 0x0E02
  len := fun _ => 4
  layout := panelStatusChecks
  body := fun s p =>
    let c := byteAt p 0
    let x := s.pnl
    okWith s
      (leT s.now ++ b1 (panelSt s).code ++ b1 x.band ++
        b1 (bit x.supplyOk 0 + bit (targetNo s = 1) 1 + bit x.run.isSome 2 +
          bit (x.repair ≠ 0 || !(interrupted s).isEmpty) 3) ++
        b1 (match x.run with | some r => r.row | none => 0xFF) ++ le 2 (pendingMask s) ++ le 2 x.unknown ++
        leF x.temp ++ leF x.vph ++ leF x.vpm ++ leF x.vpl ++ leF (largestBook s) ++ le 4 x.written ++
        le 4 x.repaired ++
        if c ≤ 15 then (List.range 48).flatMap fun g => leF (bookAt x.books (48 * c + g)) else [])

end Sys2Proof.Machine
end

