-- ==== Sys2Proof/Machine/Planner.lean ====
section
/-! DEFINITION. The harvest planner (07 R210 to R234): cycles, feed from the headwind, manipulated
and controlled variables, modes, the plan's set-points, lifecycle and opcodes. The optimiser's
trajectories come with PLAN_SOLVED. -/

namespace Sys2Proof.Machine

def State.feedCfg (s : State) : Bytes := s.app .planFeed
def State.mvCfg (s : State) (i : Nat) : Bytes := s.app (.planMv i)
def State.cvCfg (s : State) (j : Nat) : Bytes := s.app (.planCv j)
/-- Ticks of a plan step, 0.25 s. -/
def stepTicks : Nat := 62500000
/-- Seconds as ticks. -/
def secsT (x : F32) : Nat := fScaleRound x 250000000 1
/-- Ticks as seconds. -/
def tickSecs (n : Nat) : F32 := fDiv (fOfNat n) (fOfNat 250000000)

/-- Linear interpolation between the steps of a list, at an offset in ticks; the last step holds. -/
def lerpAt (l : List F32) (t : Nat) : F32 :=
  let k := t / stepTicks
  let a := l.getD k (l.getLastD f0)
  let b := l.getD (k + 1) (l.getLastD f0)
  fFma (fDiv (fOfNat (t % stepTicks)) (fOfNat stepTicks)) (fSub b a) a

/-- The planner has been started and holds a configuration in force. -/
def planActive (s : State) : Bool := (s.st plannerFid).live && s.planner.committed
/-- The PSPs the applied map gives the planner. -/
def planPsps (s : State) : List Bytes :=
  ((List.range 64).map fun p => s.app (.planMap p)).filter fun d => decide (pmSrc d ≠ 0)

/-! ## Feed (R216, R217, R227) -/

/-- g of R216 for an age in ticks. -/
def ageFactor (s : State) (age : Nat) : F32 :=
  fAdd f1 (fDiv (fMul (tickSecs age) (fOfNat 1000)) (fOfNat (pfAgeScale s.feedCfg)))

/-- ρ and σρ at the 33 distances, σρ without g, with the distance between two of them. -/
def headRho (w : Headwind) : List F32 × List F32 × F32 :=
  let q := fMul (fDec 25 100) w.vh
  let col (m : List (List F32)) (k : Nat) : F32 := fDiv (fSum (m.map fun r => r.getD k f0)) q
  ((List.range 33).map (col w.m), (List.range 33).map (col w.s), q)

/-- ρ and σρ at a distance (R216). -/
def rhoAt (r : List F32 × List F32 × F32) (g x : F32) : F32 × F32 :=
  let (rho, sig, q) := r
  let u := fSub (fDiv x q) fHalf
  if fLe u f0 then (rho.headD f0, fMul g (sig.headD f0))
  else
    let k := (fFloorInt u).toNat
    if 32 ≤ k then
      if fLe u (fOfNat 32) then (rho.getLastD f0, fMul g (sig.getLastD f0))
      else (rho.getLastD f0, fMul (fOfNat 2) (fMul g (sig.getLastD f0)))
    else
      let fr := fSub u (fOfNat k)
      let at_ (l : List F32) : F32 := let a := l.getD k f0; fFma fr (fSub (l.getD (k + 1) f0) a) a
      (at_ rho, fMul g (at_ sig))

/-- The history's entry at a tick: the latest at or before it, else the oldest. -/
def histAt (h : List Hist) (t : Nat) : Option Hist :=
  match h.find? fun e => decide (e.tick ≤ t) with
  | some e => some e
  | none => h.getLast?

/-- The reactive feed and its deviation at the cycle's instant, from the last valid flow (R227, R213). -/
def reactive (s : State) : F32 × F32 :=
  let d := s.feedCfg
  let q := fMul (pfKFeed d) s.planner.flow
  (q, fMul (fMul (pfSigma d) q) (ageFactor s (s.planner.cycleTick - s.planner.flowTick)))

/-- The rotor feed and its deviation at a past instant, from the header feed's history (R217). -/
def rotorPast (s : State) (t : Nat) : F32 × F32 :=
  match histAt s.planner.hist (t - secsT (pfDFeed s.feedCfg)) with
  | some e => (e.q, e.sigma)
  | none => reactive s

/-! ## Variables (R218 to R221, R229) -/

def State.cv (s : State) (j : Nat) : CvSt := tget {} s.planner.cvs j
def State.setCv (s : State) (j : Nat) (v : CvSt) : State :=
  { s with planner := { s.planner with cvs := tput s.planner.cvs j v } }

def planned (d : Bytes) : Bool := mvRole d = 1 || mvRole d = 3
/-- The speed variable of a configuration. -/
def speedMv (s : State) : Nat :=
  ((List.range 8).find? fun i => let r := mvRole (s.mvCfg i); r = 1 || r = 2).getD 0

/-- A plan's value of a variable at a tick. -/
def planVal (p : PlanSol) (i t : Nat) : F32 := lerpAt (p.mvs.getD i []) (t - p.tick)

/-- A variable's measured value, while its source is valid (R218). -/
def mvMeasured (s : State) (d : Bytes) : Option F32 :=
  (inputVal s (mvType d) (mvIdx d) (mvQty d)).map fun e => fFma (mvGain d) e.1 (mvOffset d)

/-- A variable's value at a cycle instant: measured, or what Table 7.4 puts in its place. -/
def mvAt (s : State) (i : Nat) : F32 :=
  let d := s.mvCfg i
  if mvRole d = 0 then f0
  else match mvMeasured s d with
    | some v => v
    | none =>
      match s.planner.plan with
      | some p => if planned d then planVal p i s.mono else s.planner.mvNow.getD i f0
      | none => s.planner.mvNow.getD i f0

/-- The value from which a variable's trajectory starts (R218, R230). -/
def mvStart (s : State) (i : Nat) : F32 :=
  match s.planner.plan with
  | some p => if planned (s.mvCfg i) then planVal p i s.planner.cycleTick else s.planner.mvNow.getD i f0
  | none => s.planner.mvNow.getD i f0

/-- A CV's coefficient of a variable; an unused one counts with 0.0 (R220). -/
def cvCoef (s : State) (d : Bytes) (i : Nat) : F32 := if mvRole (s.mvCfg i) = 0 then f0 else cvCMv d i

/-- A CV's measurement and its tick, while it is valid but for its age (R221); a loss fraction is invalid, whatever its
source, while the flow is (Table 7.4). -/
def cvMeasured (s : State) (j : Nat) : Option (F32 × Nat) :=
  let d := s.cvCfg j
  let scaled (x : F32) : F32 := fFma (cvGain d) x (cvOffset d)
  if cvKind d = 1 && !s.planner.flowOk then none
  else match cvType d with
  | 1 =>
    let chs := (List.range 32).filter (cvMask d).testBit
    let vs := chs.map fun k => inputVal s 4 k (cvQty d)
    if vs.all (·.isSome) && !vs.isEmpty then
      let l := vs.filterMap id
      let t := l.foldl (fun a e => min a e.2) s.mono
      let m := scaled (fSum (l.map (·.1)))
      if cvKind d = 1 then
        if fLe fHalf s.planner.flow then some (fDiv m s.planner.flow, t) else none
      else some (m, t)
    else none
  | 2 => (inputVal s 1 (cvIdx d) 0).map fun e => (scaled e.1, e.2)
  | 3 =>
    let v := tget {} s.planner.cvCan j
    if v.ok then some (scaled v.value, v.tick) else none
  | _ => (qualityVal s (cvIdx d) (cvQty d)).map fun e => (scaled e.1, e.2)

/-- One minus exp of a step of 50 ms over a time constant (R220). -/
def lagCoef (tau : F32) : F32 :=
  if fIsZero tau then f1 else fSub f1 (Config.exp (fNeg (fDiv (fDec 5 100) tau)))

/-- The limit of a CV in an objectives layout, and the widening of a stale one (R229). -/
def widen (s : State) (j : Nat) : F32 :=
  match (s.cv j).invalidFrom with
  | none => f0
  | some t =>
    fMul (fMul (cvWiden (s.cvCfg j)) (fAbs (obLimit s.planner.obj j))) (tickSecs (s.planner.cycleTick - t))

/-- One CV at a cycle instant: its measurement, bias and lag (R220, R229, R246). -/
def cvCycle (s : State) (j : Nat) : State :=
  let d := s.cvCfg j
  let x := s.cv j
  if cvKind d = 0 then s
  else
    match cvMeasured s j with
    | some (m, t) =>
      if s.mono ≤ t + msT (cvStale d) then
        let td := s.mono - secsT (cvDMeas d)
        let (q, _) := rotorPast s td
        let mvs := match histAt s.planner.hist td with | some e => e.mvs | none => s.planner.mvNow
        let y := (List.range 8).foldl
          (fun y i => fFma (cvCoef s d i) (fSub (mvs.getD i f0) (mvNom (s.mvCfg i))) y)
          (fAdd (cvC0 d) (fMul (cvCQ d) q))
        let h := x.mhat.getD y
        let h := fFma (lagCoef (cvTau d)) (fSub y h) h
        let b := fFma (lagCoef (cvBiasTau d)) (fSub (fSub m h) x.b) x.b
        let above := fLt (obLimit s.planner.obj j) m
        s.setCv j { x with
          b := b, mhat := some h, meas := m, valid := true, invalidFrom := none
          overFrom := if above then some (x.overFrom.getD s.mono) else none
          overSent := above && x.overSent }
      else s.setCv j { x with
        valid := false, invalidFrom := some (x.invalidFrom.getD s.mono), overFrom := none, overSent := false }
    | none => s.setCv j { x with
        valid := false, invalidFrom := some (x.invalidFrom.getD s.mono), overFrom := none, overSent := false }

/-- CV_OVER_LIMIT_TIMEOUT (R246): 2 s above the limit. -/
def xCvOverLimitTimeout (j : Nat) (s : State) : State :=
  let x := s.cv j
  match x.overFrom with
  | some t =>
    if planActive s && !x.overSent && s.past t (secT 2) then
      emit (s.setCv j { x with overSent := true }) 0x0602 plannerFid (b1 j ++ zeros 3 ++ leF x.meas)
    else s
  | none => s

/-! ## The plan (R218, R222, R242) -/

/-- The curvature of the path at an arc length from the start of its first segment. -/
def pathKap : List Bytes → F32 → F32
  | [], _ => f0
  | d :: r, x => if fLt x (rdF d 20) || r.isEmpty then rdF d 24 else pathKap r (fSub x (rdF d 20))

/-- What guidance gives the planner now (R242). -/
def capNow (s : State) : Option PlanCap :=
  let d := s.app .guidance
  if s.st guidFid = .running && fLt f0 (gdALat d) then
    some { aLat := gdALat d, kap := s.guid.kap
           path := if gdMode d = 1 then some (s.guid.path, s.guid.sNear) else none }
  else none

/-- Guidance's speed cap after a distance, where it gives one (R242). -/
def speedCap (c : Option PlanCap) (x : F32) : Option F32 :=
  c.bind fun c =>
    let k := match c.path with | some (l, near) => pathKap l (fAdd near x) | none => c.kap
    if fIsZero k then none else some (Config.sqrt (fDiv c.aLat (fAbs k)))

/-- One planned trajectory held within its range and rates (R218). -/
def holdRates (d : Bytes) (prev : F32) : List F32 → List F32
  | [] => []
  | x :: r =>
    let q := fDec 25 100
    let v := fClamp x (fFma (fNeg q) (mvDown d) prev) (fFma q (mvUp d) prev)
    let v := fClamp v (mvMin d) (mvMax d)
    v :: holdRates d v r

/-- Distance travelled at each step of a speed trajectory. -/
def travelled (x prev : F32) : List F32 → List F32
  | [] => []
  | v :: r =>
    let x := fFma (fDec 125 1000) (fAdd prev v) x
    x :: travelled x v r


/-- The distance at the end of a step from its two speeds. -/
def stepDist (x prev v : F32) : F32 := fFma (fDec 125 1000) (fAdd prev v) x

/-- A speed held under the cap at the distance which that speed itself travels by the step (R242): lowered to the cap
there until it meets it, at most once for each segment of the path; and whether the cap binds. -/
def underCap (cap : Option PlanCap) (x prev : F32) : Nat → F32 → F32 × Bool
  | 0, v => (v, false)
  | n + 1, v =>
    match speedCap cap (stepDist x prev v) with
    | some c => if fLt c v then ((underCap cap x prev n c).1, true) else (v, fEq c v)
    | none => (v, false)

/-- The speed held under guidance's cap step by step, and whether it binds; it rises again within its rate. -/
def capSpeed (cap : Option PlanCap) (up x prev : F32) (capped : Bool) : List F32 → List F32 × Bool
  | [] => ([], capped)
  | v0 :: r =>
    let (v, b) := underCap cap x prev 257 (fMin v0 (fFma (fDec 25 100) up prev))
    let (l, b) := capSpeed cap up (stepDist x prev v) v (capped || b) r
    (v :: l, b)

/-- The trajectory of one variable over the 33 steps. -/
def trajectory (s : State) (mvs : List (List F32)) (i : Nat) : List F32 :=
  let d := s.mvCfg i
  let v0 := mvStart s i
  if planned d then
    v0 :: holdRates d v0 ((List.range 32).map fun k => (mvs.getD i []).getD (k + 1) v0)
  else List.replicate 33 v0

/-- The rotor feed and its deviation over the plan (R217, R227). -/
def rotorPlan (s : State) (v : List F32) : List F32 × List F32 :=
  let p := s.planner
  match (if p.want = 0 then p.head else none) with
  | some w =>
    let g := ageFactor s p.headAge
    let xs := f0 :: travelled f0 (v.headD f0) (v.drop 1)
    let r := headRho w
    let h := (List.range 33).map fun k =>
      let e := rhoAt r g (xs.getD k f0)
      (fMul (v.getD k f0) e.1, fMul (v.getD k f0) e.2)
    let qh := h.map (·.1)
    let sh := h.map (·.2)
    let df := secsT (pfDFeed s.feedCfg)
    let at_ (k : Nat) : F32 × F32 :=
      let t := k * stepTicks
      if df ≤ t then (lerpAt qh (t - df), lerpAt sh (t - df)) else rotorPast s (p.cycleTick + t)
    let l := (List.range 33).map at_
    (l.map (·.1), l.map (·.2))
  | none =>
    let (q, sg) := reactive s
    (List.replicate 33 q, List.replicate 33 sg)

/-- ŷ of a CV at a step (R219). -/
def cvUpper (s : State) (j k : Nat) (mvs : List (List F32)) (q sg : F32) : F32 :=
  let d := s.cvCfg j
  let y := (List.range 8).foldl
    (fun y i => fFma (cvCoef s d i) (fSub ((mvs.getD i []).getD k f0) (mvNom (s.mvCfg i))) y)
    (fAdd (cvC0 d) (fMul (cvCQ d) q))
  let y := fAdd y (s.cv j).b
  fAdd (fFma (fMul (obZBand s.planner.obj) (fAbs (cvCQ d))) sg y) (widen s j)

/-- ŷ of each CV over the plan, of an unused one 0.0 alone. -/
def cvBands (s : State) (tr : List (List F32)) (q sg : List F32) (j : Nat) : List F32 :=
  if cvKind (s.cvCfg j) ≠ 0 then
    (List.range 33).map fun k => cvUpper s j k tr (q.getD k f0) (sg.getD k f0)
  else [f0]

/-- The slacks s_j(k) that a band needs (R222). -/
def slacks (s : State) (ys : List F32) (j : Nat) : List F32 :=
  if cvKind (s.cvCfg j) ≠ 0 then ys.map fun y => fMax (fSub y (obLimit s.planner.obj j)) f0 else []

def fSq (x : F32) : F32 := fMul x x

/-- J of R222, of trajectories with their rotor feed and slacks; before step 0 an MV stands at its start. -/
def planCost (s : State) (tr : List (List F32)) (q : List F32) (sl : List (List F32)) : F32 :=
  let o := s.planner.obj
  let feed := q.map fun x => fMul (obWQ o) (fSq (fSub x (obTarget o)))
  let move := (tr.zip (List.range 8)).flatMap fun e =>
    (e.1.zip e.1.tail).map fun c => fMul (mvMove (s.mvCfg e.2)) (fSq (fSub c.2 c.1))
  let excess := (sl.zip (List.range 6)).flatMap fun e => e.1.map fun x => fMul (obSlack o e.2) (fSq x)
  fSum (feed ++ move ++ excess)

/-- The configuration a problem stands in. -/
def planCfgs (s : State) : List Bytes :=
  [s.feedCfg, s.planner.obj] ++ (List.range 8).map s.mvCfg ++ (List.range 6).map s.cvCfg ++
    match s.planner.cap with | some { path := some (l, _), .. } => l | _ => []

/-- The numbers of a problem: the variables' starts, each CV's bias and widening, the headwind with its g or the reactive
feed, the feed's history and the cap. -/
def planNums (s : State) : List F32 :=
  let p := s.planner
  (List.range 8).map (mvStart s) ++ (List.range 6).flatMap (fun j => [(s.cv j).b, widen s j]) ++
  (match (if p.want = 0 then p.head else none) with
   | some w => ageFactor s p.headAge :: w.vh :: (w.m ++ w.s).flatten
   | none => [(reactive s).1, (reactive s).2]) ++
  p.hist.flatMap (fun h => [tickSecs (p.cycleTick - h.tick), h.q, h.sigma]) ++
  match p.cap with
  | some c => [c.aLat, c.kap, match c.path with | some (_, x) => x | none => f0]
  | none => []

/-- A plan's J lies within 0.1 % of the least J (R222); no plan has less than the least, and none less than 0. -/
def nearBest (least cost : F32) : Bool :=
  !(fLe f0 least && fLt least cost) || fLe cost (fMul (fDec 1001 1000) least)

/-- The plan that trajectories give, held exactly within ranges, rates and cap (R218, R222, R242). -/
def planSol (s : State) (mvs : List (List F32)) : PlanSol :=
  let p := s.planner
  let tr := (List.range 8).map (trajectory s mvs)
  let sp := speedMv s
  let v := tr.getD sp []
  let (v', capped) :=
    if mvRole (s.mvCfg sp) = 1 then
      let r := capSpeed p.cap (mvUp (s.mvCfg sp)) f0 (v.headD f0) false (v.drop 1)
      (v.headD f0 :: r.1, r.2)
    else (v, false)
  let tr := tr.set sp v'
  let (q, sg) := rotorPlan s v'
  let ys := (List.range 6).map (cvBands s tr q sg)
  let sl := (List.range 6).map fun j => slacks s (ys.getD j []) j
  { tick := p.cycleTick, mvs := tr, q := q, sigma := sg, slack := sl.any (·.any (fLt f0)), capped := capped
    cost := planCost s tr q sl, yHi := ys.map fMaxL }

/-- PLAN_SOLVED (R222): the cycle's solution, a function of the problem, with a J within 0.1 % of the least. What the
solver is and what the least J comes to are free (log entry 59). -/
def xPlanSolved (mvs : List (List F32)) (s : State) : State :=
  let p := s.planner
  if planActive s && p.running && decide (mvs = Config.planOf (planCfgs s) (planNums s)) &&
      nearBest (Config.leastCost (planCfgs s) (planNums s)) (planSol s mvs).cost then
    { s with planner := { p with next := some (planSol s mvs), running := false } }
  else s

/-! ## Set-points (R224, R231) -/

/-- The value a map entry gives its PSP at a tick (R224). -/
def pspOf (s : State) (sol : PlanSol) (t : Nat) (d : Bytes) : F32 :=
  let off := t - sol.tick + secsT (pmLead d)
  let z := obZBand s.planner.obj
  let q := lerpAt sol.q off
  let sg := lerpAt sol.sigma off
  let x :=
    match pmSrc d with
    | 1 => f0
    | 2 => lerpAt (sol.mvs.getD (pmSel d) []) off
    | 3 => if pmSel d = 0 then q else if pmSel d = 1 then fFma z sg q else fFma (fNeg z) sg q
    | _ => fMul (fMul (fOfNat 2) z) sg
  fClamp (fFma (pmGain d) x (pmOffset d)) (pmMin d) (pmMax d)

/-- Seconds that FALLBACK_RATE counts at a cycle instant: 50 ms, or the time since the cycle before where a step of TD0
has made it shorter (R231, R214). -/
def cycleSecs (s : State) : F32 :=
  let e := s.mono - s.planner.cycleTick
  if e + usT 10 < msT 50 then tickSecs e else fDec 5 100

/-- One step of a PSP toward its fallback (R231). -/
def fallbackStep (s : State) (secs : F32) (d : Bytes) : F32 :=
  let v := pspVal s (pmPsp d)
  if pmRamp d then
    let m := fMul (pmRate d) secs
    fClamp (pmFallback d) (fSub v m) (fAdd v m)
  else v

def fallbackIssue (s : State) (secs : F32) : State :=
  pspIssue s false ((planPsps s).map fun d => (pmPsp d, fallbackStep s secs d))
/-- Every RAMP PSP stands at its fallback. -/
def atFallback (s : State) : Bool :=
  (planPsps s).all fun d => !pmRamp d || fEq (pspVal s (pmPsp d)) (pmFallback d)

/-! ## Cycles and modes (R213 to R215, R226) -/

/-- PLANNER_MODE on a change (R226). -/
def planMode (s : State) (m : Nat) : State :=
  let p := s.planner
  if p.mode = m then s
  else emit { s with planner := { p with mode := m } } 0x0601 plannerFid (b1 m ++ zeros 3)

/-- The objectives that govern a cycle (R223). -/
def objectivesNow (s : State) : Bytes := governing s.mono (s.app .planObj) s.planner.objPast

/-- A cycle takes its inputs (R213, R217, R220, R226, R227). -/
def planTake (s : State) : State :=
  let d := s.feedCfg
  let p := s.planner
  let fl := flowLast s (pfFlow d)
  let age := match s.headwind with | some w => s.mono - w.tick | none => 2 ^ 32 * 250
  let stale := s.headwind.isNone || s.st fusFid ≠ .running || decide (msT (pfStale d) < age)
  let p := { p with
    flow := match fl with | some e => e.1 | none => p.flow
    flowTick := match fl with | some e => e.2 | none => p.flowTick
    flowOk := flowValid s (pfFlow d), headAge := age, headStale := stale, want := if stale then 1 else 0
    head := s.headwind, cap := capNow s
    cycleTime := s.now, cycleTick := s.mono, next := none, obj := objectivesNow s, running := mayWork s 2 }
  let s := { s with planner := p }
  let mvs := (List.range 8).map (mvAt s)
  let s := { s with planner := { s.planner with mvNow := mvs } }
  let v0 := mvStart s (speedMv s)
  let own : F32 × F32 :=
    match (if stale then none else s.headwind) with
    | some w =>
      let e := rhoAt (headRho w) (ageFactor s age) f0
      (fMul v0 e.1, fMul v0 e.2)
    | none => reactive s
  let h : Hist := { tick := s.mono, q := own.1, sigma := own.2, mvs := mvs }
  let s := { s with planner := { s.planner with hist := (h :: s.planner.hist).take 800 } }
  let s := forN 6 cvCycle s
  let (q, sg) := if stale then reactive s else rotorPast s s.mono
  { s with planner := { s.planner with qr := q, qrHi := fFma (obZBand s.planner.obj) sg q } }

/-- The issue instant of a finished or coasted cycle (R213, R215, R224). -/
def planIssue (s : State) : State :=
  let p := s.planner
  let s :=
    match p.next with
    | some sol =>
      let p := { p with plan := some sol, next := none, solved := satN 4 (p.solved + 1), lastSolved := s.mono }
      planMode { s with planner := p } p.want
    | none => planMode { s with planner := { p with coasted := satN 4 (p.coasted + 1) } } 2
  match s.planner.plan with
  | some sol =>
    let s := pspIssue s false ((planPsps s).map fun d => (pmPsp d, pspOf s sol s.mono d))
    let s := { s with planner := { s.planner with issued := true } }
    if s.st plannerFid = .starting then changeState s plannerFid .running else s
  | none => s

/-- A cycle instant that the planner has not yet had (R213, R214). -/
def planDue (s : State) : Bool :=
  atGrid (s.tdNs 0) 0 50000000 && decide (s.planner.cycleTick + msT 25 ≤ s.mono)

/-- PLANNER_CYCLE (R213, R215, R231). -/
def xPlannerCycle (s : State) : State :=
  if planDue s then
    match s.st plannerFid with
    | .starting | .running => if s.planner.committed then planTake (planIssue s) else s
    | .stopping | .faulted =>
      let secs := cycleSecs s
      let s := { s with planner := { s.planner with cycleTick := s.mono, cycleTime := s.now } }
      if s.planner.issued then fallbackIssue s secs else s
    | _ => s
  else s

/-! ## Lifecycle (R225, R230 to R232) -/

/-- A PSP named twice by one command (R225) is held at index 64 + p of the staged map. -/
def namedTwice (s : State) : Bool :=
  (List.range 64).any fun p => s.staged.any fun e => decide (e.1 = .planMap (64 + p)) && !e.2.isEmpty

/-- Planner entries in force or staged that write a PSP. -/
def mapWrites (s : State) (p : Nat) : Bool :=
  decide (pmSrc (s.stg (.planMap p)) ≠ 0) || decide (pmSrc (s.app (.planMap p)) ≠ 0)

/-- A CV's source is configured (R230). -/
def cvSourceOk (s : State) (d : Bytes) : Bool :=
  match cvType d with
  | 1 => decide (cvMask d ≠ 0) && (List.range 32).all fun k =>
      !(cvMask d).testBit k || decide (impMode (inCfgOf (s.imp k).c) = 1)
  | 2 => decide (ainRef (inCfgOf (s.ain (cvIdx d)).c) ≠ 0)
  | 3 => !(canSt s (cvIdx d)).idle
  | _ => (pcOutputs (s.pipeCfg (cvIdx d))).testBit 2 && !(pipeSt s (cvIdx d)).idle

/-- The flow channel is in flow mode. -/
def flowMode (s : State) (k : Nat) : Bool := decide (impMode (inCfgOf (s.imp k).c) = 2)

/-- The checks of START in the order of R31 (R218, R225, R230, 14 R479, 15 R512). -/
def planCheck (s : State) : State × Verdict :=
  let mv (i : Nat) : Bytes := s.stg (.planMv i)
  let speeds := ((List.range 8).filter fun i => let r := mvRole (mv i); r = 1 || r = 2).length
  let all := (List.range 64).map fun p => s.stg (.planMap p)
  let entries := all.filter fun d => decide (pmSrc d ≠ 0)
  let guidPsp (d : Bytes) : Bool := entries.any fun e => pmPsp e = gdPsp d
  let bad :=
    decide (speeds ≠ 1) || namedTwice s ||
    entries.any (fun d => decide (pmSrc d = 2) && decide (mvRole (mv (pmSel d)) = 0)) ||
    all.any (fun d => !(fLe (pmMin d) (pmFallback d) && fLe (pmFallback d) (pmMax d))) ||
    (s.st guidFid ≠ .off && (guidPsp (s.stg .guidance) || guidPsp (s.app .guidance)))
  let cvs := ((List.range 6).map fun j => s.stg (.planCv j)).filter fun d => decide (cvKind d ≠ 0)
  (s,
    if s.fcr.safeStopped then some (stWrongState, 0)
    else if bad then some (stBadParam, noField)
    else if !budgetOk s 2 then some (stOverBudget, 0)
    else if (List.range 8).any (fun i => decide (mvRole (mv i) ≠ 0) && (mvMeasured s (mv i)).isNone) then
      some (stWrongState, 0)
    else if cvs.any (fun d => !cvSourceOk s d) || !flowMode s (pfFlow (s.stg .planFeed)) then
      some (stWrongState, 0)
    else none)

/-- START is committed at the check; the cycles begin at the commit instant. -/
def planCommit (s : State) : State :=
  let s := beginStart s plannerFid
  { s with planner := { cvCan := s.planner.cvCan, objPast := s.planner.objPast } }

/-- PLANNER_START_COMMIT (R230): the first cycle instant at least 20 ms after the check. -/
def xPlannerStartCommit (s : State) : State :=
  if s.st plannerFid = .starting && !s.planner.committed && s.past (s.fn plannerFid).since (msT 20) &&
      atGrid (s.tdNs 0) 0 50000000 then
    let mvs := (List.range 8).map (mvAt s)
    let fl := flowLast s (pfFlow s.feedCfg)
    let p := { s.planner with
      committed := true, lastSolved := s.mono, mvNow := mvs, cycleTick := s.mono
      flow := match fl with | some e => e.1 | none => f0
      flowTick := match fl with | some e => e.2 | none => s.mono }
    let s := { s with planner := p }
    let (q, sg) := reactive s
    let s := { s with planner := { s.planner with hist := [{ tick := 0, q := q, sigma := sg, mvs := mvs }] } }
    planTake s
  else s

/-- Entry to FAULTED: PLANNER_MODE with mode 3 (R246). In FAULTED the planner writes its PSPs, whether or not it has
issued before (R211, R231). -/
def planFaulted (s : State) : State :=
  let s := { s with planner := { s.planner with running := false, next := none, issued := true } }
  emitFault (changeState s plannerFid .faulted) 0x0601 plannerFid (b1 3 ++ zeros 3)

/-- A fault's reaction (01 R33, R231). -/
def planFault (s : State) : State :=
  match s.st plannerFid with
  | .starting | .running => planFaulted s
  | .stopping => faultStopping s plannerFid
  | _ => s

/-- PLANNER_COAST_TIMEOUT (R215): nothing solved for PLAN_COAST. -/
def xPlannerCoastTimeout (s : State) : State :=
  if planActive s && s.past s.planner.lastSolved (msT (pfCoast s.feedCfg)) then
    raise (planFaulted s) 128 0
  else s

/-- STOP (R231): the planner stops solving. -/
def planStop (s : State) : State :=
  let s := { s with planner := { s.planner with running := false, next := none } }
  beginStop s plannerFid

/-- PLANNER_STOP_COMPLETE (R231): every RAMP PSP at its fallback at a cycle instant, or 10 s. -/
def xPlannerStopComplete (s : State) : State :=
  let f := s.fn plannerFid
  if f.st = .stopping then
    let s := if planDue s then xPlannerCycle s else s
    let late := s.past f.since (secT 10)
    let there := !s.planner.issued || atFallback s
    if (there && s.planner.cycleTick = s.mono) || late then
      let s :=
        if s.planner.issued && late then
          pspIssue s false (((planPsps s).filter (pmRamp ·)).map fun d => (pmPsp d, pmFallback d))
        else s
      let fault := f.toFault
      let s := if fault then s else returnSrc s 128
      let s := finishStop planCheck planCommit plannerFid s
      if fault then
        emitFault { s with planner := { s.planner with issued := true } } 0x0601 plannerFid (b1 3 ++ zeros 3)
      else s
    else s
  else s

/-- A processor-complex reset (R232): OFF, history and biases lost. -/
def planReset (s : State) : State :=
  let s := returnSrc (blockReset s plannerFid) 128
  { s with planner := {} }

/-! ## Opcodes (R223, R233, R234) -/

/-- PLANNER_MODEL (R233). -/
def opPlannerModel : OpSpec where
  code := 0x0600
  token := true
  len := modelLen
  layout := modelChecks
  body := fun s p =>
    cfgAnswer s [plannerFid] fun s =>
      match byteAt p 0 with
      | 0 => s.setStg .planFeed p
      | 1 => s.setStg (.planMv (byteAt p 1)) p
      | _ =>
        { s.setStg (.planCv (byteAt p 1)) p with
          planner := { s.planner with cvCan := tdel s.planner.cvCan (byteAt p 1) } }

/-- PLANNER_OBJECTIVES (R223): staged and applied together, in every state. -/
def opPlannerObjectives : OpSpec where
  code := 0x0601
  token := true
  len := fun _ => 64
  layout := objChecks
  body := fun s p =>
    let s := { s with planner := { s.planner with objPast := changed s.mono (s.app .planObj) s.planner.objPast } }
    okAns ((s.setStg .planObj p).setApp .planObj p)

/-- PSP_MAP (R233, R225). -/
def opPspMap : OpSpec where
  code := 0x0602
  token := true
  len := fun p => 4 + 32 * byteAt p 0
  layout := mapChecks
  body := fun s p =>
    let es := mapEntries p
    cfgAnswer s [plannerFid] fun s =>
      es.foldl (fun s d =>
        let n := (es.filter fun e => pmPsp e = pmPsp d).length
        let s := s.setStg (.planMap (pmPsp d)) d
        s.setStg (.planMap (64 + pmPsp d)) (if 1 < n then d else [])) s

/-- PLANNER_STATUS (R234). -/
def opPlannerStatus : OpSpec where
  code := 0x0603
  len := fun _ => 0
  body := fun s _ =>
    let p := s.planner
    let lim (j : Nat) : F32 := obLimit (s.app .planObj) j
    let used (j : Nat) : Bool := cvKind (s.cvCfg j) ≠ 0
    let fl := bit (match p.plan with | some x => x.capped | none => false) 0 +
      bit (match p.plan with | some x => x.slack | none => false) 1 +
      bit ((List.range 6).any fun j => used j && (s.cv j).valid && fLt (lim j) (s.cv j).meas) 2
    let st := (List.range 6).foldl (fun a j => a + bit (used j && !(s.cv j).valid) j) 0 +
      bit p.headStale 8 + bit (!p.flowOk) 9
    okWith s
      (leT p.cycleTime ++ b1 p.mode ++ b1 fl ++ le 2 st ++ le 4 (satN 4 (p.headAge / 250)) ++ le 4 p.solved ++
        le 4 p.coasted ++ leF p.qr ++ leF p.qrHi ++
        (List.range 8).flatMap (fun i => leF (p.mvNow.getD i f0)) ++
        (List.range 6).flatMap (fun j =>
          leF (match p.plan with | some x => x.yHi.getD j f0 | none => f0) ++ leF (s.cv j).meas ++ leF (s.cv j).b) ++
        (List.range 64).flatMap fun q => leF (pspVal s q))

end Sys2Proof.Machine
end

