-- ==== Sys2Proof/Machine/Gnss.lean ====
section
/-! DEFINITION. The satellite baseband (chapter 11): antenna, notches and interference, the
acquisition sweeps, tracking, navigation words, measurement epochs, pips, and their opcodes. -/

namespace Sys2Proof.Machine

def fsAntenna : Nat := 152
def fsJam : Nat := 153

def gnssSt (s : State) : FnState := s.st gnssFid
/-- The settings in force; in CONFIG the staged ones (R357). -/
def gnssCfg (s : State) : Bytes := if gnssSt s = .config then s.stg .gnss else s.app .gnss
/-- RUNNING in mode 0. -/
def gnssFull (s : State) : Bool := gnssSt s = .running && gcMode (s.app .gnss) = 0
/-- The notch settings in effect (R359). -/
def notchNow (s : State) : Bytes := s.gns.notchCfg.getD (s.app (.notch 0))

def State.track (s : State) (c : Nat) : Track := tget {} s.gns.chans c
def State.setTrack (s : State) (c : Nat) (t : Track) : State :=
  { s with gns := { s.gns with chans := tput s.gns.chans c t } }
def State.notch (s : State) (n : Nat) : Notch := tget {} s.gns.notches n
def State.setNotch (s : State) (n : Nat) (x : Notch) : State :=
  { s with gns := { s.gns with notches := tput s.gns.notches n x } }

/-! ## Antenna (R357) -/

def biasWanted (s : State) : Bool := gnssSt s ≠ .off && gcBias (gnssCfg s) = 1

/-- A capture in progress: begun, and its samples not all taken. -/
def capRuns (s : State) (c : PipCap) : Bool :=
  match c.begun with | none => false | some t => !s.past t (msT c.len)

/-- The antenna state changes (R357): the event, the source, the flag of a capture in progress. -/
def antennaTo (s : State) (n : Nat) (current : F32) : State :=
  let o := s.gns.antenna
  let s := { s with gns := { s.gns with
    antenna := n, biasA := current, antennaAt := s.mono
    caps := s.gns.caps.map fun c =>
      if capRuns s c ∧ n ≠ 1 then { c with flags := c.flags ||| 2 } else c } }
  if o = n then s
  else
    let data := b1 o ++ b1 n ++ zeros 2 ++ leF current
    if n = 2 ∨ n = 3 then raise (emitFault s 0x0A01 gnssFid data) fsAntenna n
    else returnSrc (emit s 0x0A01 gnssFid data) fsAntenna

/-- The bias follows the settings and the state of GNSS. -/
def antennaUpdate (s : State) : State :=
  if biasWanted s then (if s.gns.antenna = 0 then antennaTo s 1 s.gns.biasA else s)
  else antennaTo s 0 f0

/-- The state before has lasted long enough for a condition to have held that long in it. -/
def antennaHeld (s : State) (len : Nat) : Bool := s.past s.gns.antennaAt len

/-- ANTENNA_BIAS_CHANGE (R357): the current held for 100 ms, or the limit for 10 ms. -/
def xAntennaBiasChange (n : Nat) (current : F32) (s : State) : State :=
  let o := s.gns.antenna
  if n = 1 ∧ o = 2 ∧ fLe (fDec 3 1000) current ∧ antennaHeld s (msT 100) then antennaTo s 1 current
  else if n = 1 ∧ o = 1 ∧ fLe (fDec 3 1000) current then { s with gns := { s.gns with biasA := current } }
  else if n = 2 ∧ o = 1 ∧ fLt current (fDec 3 1000) ∧ antennaHeld s (msT 100) then antennaTo s 2 current
  else if n = 3 ∧ (o = 1 ∨ o = 2) ∧ antennaHeld s (msT 10) then
    let s := antennaTo s 3 current
    { s with gns := { s.gns with shortAt := s.mono, biasA := f0 } }
  else s

/-- ANTENNA_BIAS_RETRY (R357): 1 s after the bias went off it is tried again, and has held 3 to 90 mA for 100 ms or not. -/
def xAntennaBiasRetry (ok : Bool) (current : F32) (s : State) : State :=
  if s.gns.antenna = 3 ∧ s.past s.gns.shortAt (secT 1) then
    if ok then
      if fLe (fDec 3 1000) current ∧ fLe current (fDec 90 1000) ∧ s.past s.gns.shortAt (secT 1 + msT 100) then
        antennaTo s 1 current
      else s
    else { s with gns := { s.gns with shortAt := s.mono } }
  else s

/-! ## Interference (R358 to R360) -/

def engagedMask (s : State) : Nat :=
  ((List.range 4).map fun n => bit ((s.notch n).st = 2) n).foldl (· + ·) 0

/-- The level of Table 11.2. -/
def jamLevel (s : State) : Nat :=
  let d := notchNow s
  match s.gns.jamAt with
  | some t => if s.past t (secT 1) then 3 else if fLe (nfWarn d) s.gns.ji then 2
    else if engagedMask s ≠ 0 then 1 else 0
  | none => if fLe (nfWarn d) s.gns.ji then 2 else if engagedMask s ≠ 0 then 1 else 0

/-- The interference level changes (R360). -/
def levelTo (s : State) (n : Nat) : State :=
  let o := s.gns.level
  if o = n then s
  else
    let s := { s with gns := { s.gns with level := n } }
    let data := b1 o ++ b1 n ++ b1 (engagedMask s) ++ b1 0 ++ leF s.gns.ji
    if n = 3 then
      raise (emitFault s 0x0A02 gnssFid data) fsJam (fToInt (fMul s.gns.ji (fOfNat 10))).toNat
    else
      let s := emit s 0x0A02 gnssFid data
      if o = 3 then returnSrc s fsJam else s

/-- A line lies within 2 × WIDTH of an engaged notch below n (R359); DESIGN CHOICE: of that notch's own WIDTH (log
entry 63). -/
def lineTaken (s : State) (d : Bytes) (n : Nat) (f : F32) : Bool :=
  (List.range n).any fun m =>
    (s.notch m).st = 2 &&
      fLe (fAbs (fSub f (s.notch m).freq)) (fMul (fOfNat 2) (nfWidth d m))

/-- The strongest of a list of lines. -/
def strongest : List NotchLine → Option NotchLine
  | [] => none
  | l :: r => match strongest r with
    | none => some l
    | some m => if fLt l.level m.level then some m else some l

/-- The nearest of a list of lines to a frequency. -/
def nearest (f : F32) : List NotchLine → Option NotchLine
  | [] => none
  | l :: r => match nearest f r with
    | none => some l
    | some m => if fLt (fAbs (fSub m.freq f)) (fAbs (fSub l.freq f)) then some m else some l

/-- One adaptive notch at one epoch (R358). DESIGN CHOICE (log entry 63): the line that has stood is the strongest in the
band, the same one while it moves by no more than 100 Hz an epoch; an engaged notch follows the nearest line within half
its WIDTH. -/
def notchAdapt (s : State) (d : Bytes) (n : Nat) (lines : List NotchLine) : Notch :=
  let x := s.notch n
  let seen := lines.filter fun l =>
    fLe (fAbs (fSub l.freq (nfCentre d n))) (nfHalf d n) && !lineTaken s d n l.freq
  let step : F32 := fOfNat 100
  if x.st = 2 then
    let near := seen.filter fun l => fLe (fAbs (fSub l.freq x.freq)) (fMul (nfWidth d n) fHalf)
    match nearest x.freq near with
    | some l =>
      let f := fAdd x.freq (fClamp (fSub l.freq x.freq) (fNeg step) step)
      if fLt l.level (fSub (nfTh d) (fOfNat 3)) then
        (if x.run + 1 ≥ 100 then { st := 1 } else { x with freq := f, run := x.run + 1 })
      else { x with freq := f, run := 0 }
    | none => if x.run + 1 ≥ 100 then { st := 1 } else { x with run := x.run + 1 }
  else
    match strongest seen with
    | some l =>
      if fLe (nfTh d) l.level then
        let same := x.run ≠ 0 && fLe (fAbs (fSub l.freq x.freq)) step
        let run := if same then x.run + 1 else 1
        if run ≥ 10 then { st := 2, freq := l.freq } else { st := 1, freq := l.freq, run := run }
      else { st := 1 }
    | none => { st := 1 }

/-- The four notches at one epoch, in ascending order. -/
def notchEpoch (lines : List NotchLine) (s : State) : State :=
  let held := s.gns.caps.any fun c => capRuns s c && !tbit c.flags 0
  let fresh := s.app (.notch 0)
  let old := notchNow s
  let s := if held then { s with gns := { s.gns with notchCfg := some old } }
    else { s with gns := { s.gns with notchCfg := some fresh } }
  let d := notchNow s
  forN 4 (fun s n =>
    if !held && slice fresh (16 * n) 16 ≠ slice old (16 * n) 16 then
      s.setNotch n { st := if nfMode d n = 2 then 2 else if nfMode d n = 1 then 1 else 0
                     freq := if nfMode d n = 2 then nfCentre d n else f0 }
    else if nfMode d n = 0 then s.setNotch n {}
    else if nfMode d n = 2 then s.setNotch n { st := 2, freq := nfCentre d n }
    else s.setNotch n (notchAdapt s d n lines)) s

/-- JAMMING_ALARM_TIMEOUT (R360). -/
def xJammingAlarmTimeout (s : State) : State :=
  match s.gns.jamAt with
  | some t => if (gnssSt s).live && s.past t (secT 1) then levelTo s 3 else s
  | none => s

/-! ## Acquisition (R361 to R363) -/

/-- Windows that cover ± DOPPLER_SPAN (R361). -/
def windowCount (d : Bytes) : Nat :=
  let n := (gcSpan d + gcBin d - 1) / gcBin d
  let up := (n - 15 + 31) / 32
  let down := (n - 16 + 31) / 32
  1 + max (2 * up - 1) (2 * down)

/-- The search centre of R361. -/
def searchCentre (s : State) : F32 :=
  match s.gns.data.tcxo with
  | none => f0
  | some t => fNeg (fMul t (fDec 157542 100000))

def prnTracked (s : State) (p : Nat) : Bool :=
  (List.range 48).any fun c => (s.track c).st ≠ 0 && (s.track c).prn = p
def prnExcluded (s : State) (p : Nat) : Bool := (gcExclude (s.app .gnss)).testBit (p - 1)

/-- A new sweep (R363). -/
def newSweep (s : State) : List Search :=
  let lost := (s.gns.lost.filter fun l => !s.past l.at_ (secT 60)).map fun l =>
    ({ prn := l.prn, centre := l.doppler, windows := 1 } : Search)
  let pred := match s.gns.saved.fix with
    | none => []
    | some f => (Config.predicted s.gns.saved.alm f s.now).map fun e =>
        ({ prn := e.1, centre := e.2, windows := 1 } : Search)
  lost ++ pred ++ (List.range 32).map fun i =>
    { prn := i + 1, centre := searchCentre s, windows := windowCount (s.app .gnss) }

/-- What is left of a sweep, past PRNs that are tracked or excluded. -/
def skipPrns (s : State) (l : List Search) : List Search :=
  l.dropWhile fun x => prnTracked s x.prn || prnExcluded s x.prn

def freeChannel (s : State) : Option Nat := (List.range 48).find? fun c => (s.track c).st = 0

/-- A detection is handed to the lowest idle channel (R362, R364); with none idle it is not followed (log entry 63). -/
def handOver (s : State) (prn : Nat) (doppler code : F32) : State :=
  match freeChannel s with
  | none => s
  | some c => s.setTrack c
      { st := 1, prn := prn, doppler := doppler, code := code, pullAt := s.mono, left := (s.track c).left }

/-- The lowest bin of a window (R361). -/
def windowLow (w : Nat) : Int :=
  if w = 0 then -16 else if w % 2 = 1 then 16 + 32 * (w / 2 : Nat) else -(16 + 32 * (w / 2 : Nat))

/-- Two lists summed entry by entry, the longer one's tail as it stands. -/
def sumRows : List Nat → List Nat → List Nat
  | [], b => b
  | a, [] => a
  | x :: a, y :: b => (x + y) :: sumRows a b
def sumCells : List (List Nat) → List (List Nat) → List (List Nat)
  | [], b => b
  | a, [] => a
  | x :: a, y :: b => sumRows x y :: sumCells a b

/-- The cells of a window as (bin, hypothesis, sum), bins counted from the lowest. -/
def cellsOf (l : List (List Nat)) : List (Nat × Nat × Nat) :=
  l.zipIdx.flatMap fun r => r.1.zipIdx.map fun c => (r.2, c.2, c.1)

/-- The highest cell, the first of equals. -/
def highest : List (Nat × Nat × Nat) → Option (Nat × Nat × Nat)
  | [] => none
  | c :: r => match highest r with
    | none => some c
    | some d => if c.2.2 < d.2.2 then some d else some c

/-- The peak of a window's sums and its ratio to the mean of the cells more than one hypothesis or one bin away (R362),
as one binary32 quotient. -/
def peakOf (l : List (List Nat)) : Option (Nat × Nat × F32) :=
  let cells := cellsOf l
  match highest cells with
  | none => none
  | some p =>
    let far (a b : Nat) : Bool := decide (a + 1 < b ∨ b + 1 < a)
    let rest := cells.filter fun c => far c.1 p.1 || far c.2.1 p.2.1
    let sum := (rest.map fun c => c.2.2).foldl (· + ·) 0
    some (p.1, p.2.1, fDiv (fOfNat (p.2.2 * rest.length)) (fOfNat sum))

/-- One epoch of a sweep (R361, R362): the window sums; at DWELL epochs its peak is judged. -/
def searchEpoch (b : BankEpoch) (s : State) : State :=
  let l := skipPrns s s.gns.sweep
  let (l, fresh) := if l.isEmpty then (skipPrns s (newSweep s), true)
    else (l, decide (l.length ≠ s.gns.sweep.length))
  let s := { s with gns := { s.gns with
    sweep := l
    window := if fresh then 0 else s.gns.window
    dwell := if fresh then 0 else s.gns.dwell } }
  match l with
  | [] => s
  | x :: rest =>
    let n := s.gns.dwell + 1
    let sums := if n = 1 then b.cells else sumCells s.gns.sums b.cells
    let done : State := { s with gns := { s.gns with sweep := rest, window := 0, dwell := 0, sums := [] } }
    let next : State :=
      if s.gns.window + 1 < x.windows then
        { s with gns := { s.gns with window := s.gns.window + 1, dwell := 0, sums := [] } }
      else done
    if n < gcDwell (s.app .gnss) then { s with gns := { s.gns with dwell := n, sums := sums } }
    else
      match peakOf sums with
      | none => next
      | some (bin, hyp, ratio) =>
        if fLe (gcAcqTh (s.app .gnss)) ratio then
          let off := fOfInt ((windowLow s.gns.window + bin) * gcBin (s.app .gnss))
          handOver done x.prn (fAdd x.centre off) (fOfQ ((hyp % 2046 : Nat) : Int) 1)
        else next

/-- The pip being processed. -/
def jobPip (s : State) : Option Pip :=
  match s.gns.jobs with
  | [] => none
  | j :: _ => s.gns.pips.find? fun p => decide (p.id = j)

/-- Processing may take a bank epoch: a unit in progress goes on, a new one needs balance (15 R510). -/
def jobAdmitted (s : State) : Bool :=
  !s.gns.jobs.isEmpty && (s.gns.jobEpochs ≠ 0 || mayWork s 3)

/-- What the tracking loops of a channel estimate (R364, R365), C/N0 at every 20th epoch; an attenuation lowers C/N0
(18 R575). -/
def trackEpoch (s : State) (t : TrackIn) : State :=
  let x := s.track t.ch
  if x.st = 0 then s
  else
    let cn0 := match perturb s 7 0 with
      | none => t.cn0
      | some (_, p) => fSub t.cn0 (BitVec.ofNat 32 p.mag)
    let x := { x with doppler := t.doppler, code := t.code }
    s.setTrack t.ch (
      if s.gns.bank % 20 = 0 then
        { x with cn0 := cn0
                 lowAt := if fLt cn0 (gcCn0Loss (s.app .gnss)) then some (x.lowAt.getD s.mono) else none }
      else x)

/-- The tone a perturbation of kind 7 adds (18 Table 18.2). -/
def toneLines (s : State) : List NotchLine :=
  match perturb s 7 0 with
  | none => []
  | some (_, p) =>
    if p.opt / 65536 = 0 then []
    else
      let k := p.opt % 65536
      let khz : Int := if k < 32768 then k else (k : Int) - 65536
      [{ freq := fOfInt (khz * 1000), level := fOfNat (p.opt / 65536) }]

/-- The front end and the notches at one epoch, while GNSS is STARTING or RUNNING. -/
def frontEpoch (b : BankEpoch) (s : State) : State :=
  let s := { s with gns := { s.gns with ji := b.ji, agc := b.agc } }
  let s := notchEpoch (b.lines ++ toneLines s) s
  let at_ := if fLe (nfAlarm (notchNow s)) b.ji then some (s.gns.jamAt.getD s.mono) else none
  let s := { s with gns := { s.gns with jamAt := at_ } }
  levelTo s (jamLevel s)

/-- GNSS_BANK_EPOCH (R358 to R364, R378). -/
def xGnssBankEpoch (b : BankEpoch) (s : State) : State :=
  if !fwRuns s then s
  else
    let s := if (gnssSt s).live then frontEpoch b s else s
    let job := jobAdmitted s
    if gnssFull s then
      let n := s.gns.bank
      let s := { s with gns := { s.gns with bank := n + 1 } }
      let s := b.chans.foldl trackEpoch s
      let s := match b.tcxo with
        | none => s
        | some t => { s with gns := { s.gns with data := { s.gns.data with tcxo := some t } } }
      if job && n % 4 = 3 then { s with gns := { s.gns with jobEpochs := s.gns.jobEpochs + 1 } }
      else searchEpoch b s
    else if job then { s with gns := { s.gns with jobEpochs := s.gns.jobEpochs + 1 } }
    else s

/-! ## Tracking (R362, R364, R365) -/

/-- ACQUISITION_FALSE_ALARM (R362). -/
def xAcquisitionFalseAlarm (c : Nat) (s : State) : State :=
  let t := s.track c
  if t.st = 1 ∧ s.past t.pullAt (msT 100) then
    let s := s.setTrack c {}
    { s with gns := { s.gns with falseAlarms := satN 4 (s.gns.falseAlarms + 1) } }
  else s

/-- The subframe whose record a channel that leaves FRAME_SYNC still sends (R367). -/
def leftOf (t : Track) : Option Nat := if t.st = 5 then some t.prn else none

/-- A loss (R365): the channel is IDLE and its PRN joins the lost list. -/
def trackLost (s : State) (c : Nat) : State :=
  let t := s.track c
  let s := s.setTrack c { left := leftOf t }
  { s with gns := { s.gns with
    lost := (s.gns.lost.filter fun l => decide (l.prn ≠ t.prn)) ++
      [{ prn := t.prn, doppler := t.doppler, at_ := s.mono }]
    losses := satN 4 (s.gns.losses + 1) } }

/-- TRACKING_LOCK_CHANGE (R364, R365). -/
def xTrackingLockChange (c : Nat) (code phase : Bool) (s : State) : State :=
  let t := s.track c
  if !gnssFull s ∨ t.st = 0 then s
  else if t.st = 1 then
    if code ∧ !s.past (t.pullAt + 1) (msT 100) then
      let s := { s with gns := { s.gns with lost := s.gns.lost.filter fun l => decide (l.prn ≠ t.prn) } }
      s.setTrack c (if phase then { t with st := 3, phaseAt := s.mono } else { t with st := 2 })
    else s
  else if !code then trackLost s c
  else if t.st = 2 then
    if phase then s.setTrack c { t with st := 3, phaseAt := s.mono, unlockAt := none } else s
  else if phase then s.setTrack c { t with unlockAt := none }
  else s.setTrack c { t with unlockAt := some (t.unlockAt.getD s.mono) }

/-- TRACKING_LOSS_TIMEOUT (R365). -/
def xTrackingLossTimeout (c : Nat) (byCn0 : Bool) (s : State) : State :=
  let t := s.track c
  if byCn0 then
    match t.lowAt with
    | some a => if t.st ≠ 0 ∧ s.past a (secT 1) then trackLost s c else s
    | none => s
  else
    match t.unlockAt with
    | some a =>
      if 3 ≤ t.st ∧ s.past a (msT 200) then
        s.setTrack c { t with
          st := 2, unlockAt := none, prevId := none, tow := none, bad := 0, left := leftOf t }
      else s
    | none => s

/-- BIT_SYNC_TIMEOUT (R364). -/
def xBitSyncTimeout (c : Nat) (s : State) : State :=
  let t := s.track c
  if t.st = 3 ∧ s.past t.phaseAt (secT 1) then s.setTrack c { t with st := 4 } else s

/-- LOST_PRN_EXPIRY (R365). -/
def xLostPrnExpiry (prn : Nat) (s : State) : State :=
  { s with gns := { s.gns with
    lost := s.gns.lost.filter fun l => decide (l.prn ≠ prn) || !s.past l.at_ (secT 60) } }

/-! ## Navigation words (R366, R367); the parity and the fields of the interface specification are
PRESUMED, log entry 14 -/

def xorBits (n : Nat) : Nat → Bool
  | 0 => false
  | k + 1 => (n.testBit k).xor (xorBits n k)

/-- The parity masks of D25 to D30 over d1 to d24, d1 in bit 23, and whether D29* enters, otherwise D30*. -/
def parityRows : List (Nat × Bool) :=
  [(0xEC7CD2, true), (0x763E69, false), (0xBB1F34, true), (0x5D8F9A, false), (0xAEC7CD, false),
   (0x2DEA27, true)]

/-- D1 to D24 of a received word with D30* removed. -/
def dataBits (prev w : Nat) : Nat :=
  let d := w / 64 % 2 ^ 24
  if prev.testBit 0 then d ^^^ 0xFFFFFF else d

/-- Whether a received word passes parity after the word before it, whose D29 is bit 1 and D30 bit 0. -/
def parityOk (prev w : Nat) : Bool :=
  let d := dataBits prev w
  (List.range 6).all fun i =>
    let r := parityRows.getD i (0, false)
    let star := if r.2 then prev.testBit 1 else prev.testBit 0
    w.testBit (5 - i) = (xorBits (d &&& r.1) 24).xor star

/-- Each received word with its predecessor. -/
def withPrev (prev : Nat) : List Nat → List (Nat × Nat)
  | [] => []
  | w :: r => (prev, w) :: withPrev (w % 4) r

/-- The word as the record gives it (Table 11.4). -/
def wordOut (e : Nat × Nat) : Nat := dataBits e.1 e.2 * 64 + e.2 % 64

/-- A subframe as the channel sees it. -/
structure Subframe where
  pre : Bool
  inverted : Bool
  headOk : Bool
  id : Nat
  tow : Nat
  parity : Nat
  words : List Nat

def readSubframe (words : List Nat) (prevBits : Nat) : Subframe :=
  let l := withPrev (prevBits % 4) (words.take 10)
  let ok := l.map fun e => parityOk e.1 e.2
  let top := words.headD 0 / 2 ^ 22 % 256
  let out := l.map wordOut
  let how := out.getD 1 0
  { pre := decide (top = 0x8B ∨ top = 0x74)
    inverted := decide (top = 0x74)
    headOk := ok.getD 0 false && ok.getD 1 false
    id := how / 2 ^ 8 % 8
    tow := how / 2 ^ 13 % 2 ^ 17
    parity := ((List.range 10).map fun i => bit (ok.getD i false) i).foldl (· + ·) 0
    words := (List.range 10).map fun i => out.getD i 0 }

/-- The subframe ID that follows another. -/
def nextId (n : Nat) : Nat := n % 5 + 1

/-- The navigation word record (Table 11.4). -/
def wordRecord (prn c : Nat) (f : Subframe) (full : Bool) (tow : Option Nat) (start : T96) : Bytes :=
  let howOk := f.parity.testBit 1
  let jump := match tow with | some t => howOk && decide (f.tow ≠ (t + 1) % 100800) | none => false
  b1 prn ++ b1 c ++ b1 (if howOk then f.id else 0) ++
    b1 (bit f.inverted 0 + bit full 1 + bit jump 2) ++ le 2 f.parity ++ zeros 2 ++ le 4 f.tow ++
    leT start ++ f.words.flatMap (le 4)

def sendWords (s : State) (body : Bytes) : State :=
  pushAll s sWords fun _ => { time := s.now, fault := false, pos := none, body := body }

/-- What a whole subframe, all of whose words passed, adds to the navigation data (R366, R371). -/
def takeData (s : State) (prn : Nat) (f : Subframe) : State :=
  if f.parity ≠ 1023 then s
  else
    let g := s.gns.data
    if 1 ≤ f.id ∧ f.id ≤ 3 then
      { s with gns := { s.gns with data := { g with eph := tput g.eph (prn, f.id) f.words } } }
    else
      let page := f.words.getD 2 0 / 2 ^ 22 % 64
      let leap : Int := (f.words.getD 8 0 / 2 ^ 22 % 256 : Nat)
      let s := { s with gns := { s.gns with data := { g with alm := tput g.alm (f.id * 64 + page) f.words } } }
      if f.id = 4 ∧ page = 56 then
        { s with gns := { s.gns with leap := some (if leap < 128 then leap else leap - 256) } }
      else s

/-- SUBFRAME_RECEIVED (R366, R367), at the instant of the subframe's last bit received, whose TD0 time the prefix
carries. `follows`: this preamble stands 300 bits after the one before. -/
def xSubframeReceived (c : Nat) (words : List Nat) (prevBits : Nat) (follows : Bool) (start : T96)
    (s : State) : State :=
  let t := s.track c
  let f := readSubframe words prevBits
  let full := decide (10 ≤ words.length)
  match t.left with
  | some prn => sendWords (s.setTrack c { t with left := none }) (wordRecord prn c f false none start)
  | none =>
    if t.st = 4 then
      if !f.pre || words.length < 2 then s.setTrack c { t with prevId := none }
      else if f.headOk && follows && (t.prevId.map nextId == some f.id) then
        let s := s.setTrack c { t with st := 5, prevId := none, tow := some ((f.tow + 100799) % 100800), bad := 0 }
        if full then
          let s := sendWords s (wordRecord t.prn c f true none start)
          takeData (s.setTrack c { s.track c with tow := some f.tow }) t.prn f
        else s
      else s.setTrack c { t with prevId := if f.headOk && 1 ≤ f.id && f.id ≤ 5 then some f.id else none }
    else if t.st = 5 ∧ full then
      let s := sendWords s (wordRecord t.prn c f true t.tow start)
      let bad := if f.headOk then 0 else t.bad + 1
      let tow := if f.parity.testBit 1 then some f.tow else t.tow.map fun n => (n + 1) % 100800
      let s := s.setTrack c
        (if 2 ≤ bad then { t with st := 4, bad := 0, tow := none, prevId := none }
         else { t with bad := bad, tow := tow })
      takeData s t.prn f
    else s

/-! ## Epochs and the fix (R368 to R372) -/

def epochTicks (d : Bytes) : Nat :=
  match gcPeriod d with | 0 => msT 100 | 1 => msT 200 | 2 => msT 500 | _ => secT 1

/-- The time-stamp of the epoch strobe (R368, 18 R575). -/
def strobe (s : State) : T96 := T96.shift s.now (stampShift s 8)

/-- C/N0 in 0.01 dB-Hz. -/
def cn0Code (x : F32) : Nat := satN 2 (fToInt (fMul x (fOfNat 100))).toNat

/-- Bits Da to Db of word n of a subframe, D1 in bit 29. -/
def navField (words : List Nat) (n a b : Nat) : Nat := words.getD (n - 1) 0 / 2 ^ (30 - b) % 2 ^ (b + 1 - a)

/-- The seconds from the reference time of an ephemeris to an epoch, in the ring of 1,024 weeks; the places of its fields
are the interface specification's, PRESUMED (log entry 14). -/
def ephAge (w1 w2 : List Nat) (m : EpochIn) : Nat :=
  let ring : Int := 1024 * 604800
  let toe : Int := (navField w2 10 1 16 * 16 : Nat)
  let sent : Int := (navField w1 2 1 17 * 6 : Nat)
  let week : Int := (navField w1 3 1 10 : Nat)
  let week := if 302400 < toe - sent then week - 1 else if 302400 < sent - toe then week + 1 else week
  let d := ((m.week : Int) * 604800 + (T96.toNs m.gps / 1000000000 : Nat) - (week * 604800 + toe)) % ring
  min d.toNat (ring - d).toNat

/-- Subframes 1 to 3 of a PRN agree in issue of data and report health 0, and the reference time lies within 4 h of the
epoch (R370). -/
def ephValid (s : State) (m : EpochIn) (prn : Nat) : Bool :=
  match tfind s.gns.data.eph (prn, 1), tfind s.gns.data.eph (prn, 2), tfind s.gns.data.eph (prn, 3) with
  | some w1, some w2, some w3 =>
    navField w1 8 1 8 = navField w2 3 1 8 && navField w2 3 1 8 = navField w3 10 1 8 &&
      navField w1 3 17 22 = 0 && decide (ephAge w1 w2 m ≤ 14400)
  | _, _, _ => false

/-- A satellite is used (R370). -/
def satUsed (s : State) (m : EpochIn) (o : ObsIn) : Bool :=
  let t := s.track o.ch
  t.st = 5 && ephValid s m t.prn && fLe (gcElevMask (s.app .gnss)) o.elev && fLe (gcFixCn0 (s.app .gnss)) t.cn0

/-- An observables entry (Table 11.6). -/
def obsEntry (s : State) (m : EpochIn) (c : Nat) : Bytes :=
  let t := s.track c
  let o := (m.obs.find? fun o => decide (o.ch = c)).getD { ch := c, slip := false, elev := fNaN, pseudorange := 0, carrier := 0 }
  let fl := bit (2 ≤ t.st) 0 + bit (3 ≤ t.st && t.unlockAt.isNone) 1 + bit (t.st = 5) 2 +
    bit (t.st = 5) 3 + bit o.slip 4 + bit (s.gns.fix && satUsed s m o) 5 + bit (ephValid s m t.prn) 6
  b1 t.prn ++ b1 c ++ b1 t.st ++ b1 fl ++ le 2 (cn0Code t.cn0) ++ zeros 2 ++
    le 8 (if t.st = 5 then o.pseudorange else 0) ++ le 8 (if 3 ≤ t.st then o.carrier else 0) ++
    leF t.doppler ++ le 4 (if 3 ≤ t.st then (s.mono - t.phaseAt) / 250000 else 0)

/-- The observables of an epoch, in one or two records (R369). -/
def sendObs (s : State) (m : EpochIn) (num : Nat) (time : T96) : State :=
  let l := (List.range 48).filter fun c => decide ((s.track c).st ≠ 0)
  let parts := if 24 < l.length then [l.take 24, l.drop 24] else [l]
  (List.range parts.length).foldl (fun s i =>
    let p := parts.getD i []
    let body := le 4 num ++ b1 parts.length ++ b1 i ++ b1 p.length ++
      b1 (bit s.gns.fix 0 + bit s.gns.hadFix 1 + bit s.gns.stepped 2) ++ le 2 s.gns.week ++ zeros 2 ++
      le 8 m.tow ++ le 8 (if s.gns.fix then m.td0LessGps else 0) ++ p.flatMap (obsEntry s m)
    pushAll s sObs fun _ => { time := time, fault := false, pos := none, body := body }) s

/-- The 10-bit week resolved from the build week on (R371). -/
def fullWeek (w : Nat) : Nat := Config.buildWeek + (w + 1024 - Config.buildWeek % 1024) % 1024

/-- The position solution of an epoch (R370, R371). -/
def solveFix (s : State) (m : EpochIn) : State :=
  let used := (m.obs.filter (satUsed s m)).length
  let g := s.gns
  let fix := 4 ≤ used && fLe m.pdop (gcPdopMax (s.app .gnss))
  let was := g.fix
  let s : State := { s with gns := { g with
    fix := fix, used := used, hadFix := g.hadFix || fix
    noFix := if fix then 0 else min 3 (g.noFix + 1)
    tow := m.tow
    week := if fix then fullWeek m.week else g.week } }
  let g := s.gns
  let s : State := if fix then
      { s with gns := { g with
        pdop := m.pdop, lat := m.lat, lon := m.lon, height := m.height, sigmaH := m.sigmaH
        td0LessGps := m.td0LessGps, sigma := m.sigma
        data := { g.data with fix := some (m.lat, m.lon, m.height) } } }
    else s
  if fix = was then s
  else emit s 0x0A03 gnssFid (b1 (bit fix 0) ++ b1 used ++ zeros 2)

/-- The epoch may come (R368): no sooner than a steering by up to half a period makes it, and once a fix exists within
31 ns of a multiple of the epoch period in GPS time. The TCXO, on which the period is counted, is no clock of State (log
entry 63). -/
def epochDue (s : State) (m : EpochIn) : Bool :=
  let period := epochTicks (s.app .gnss)
  let r := T96.toNs m.gps % (period * 4)
  let due := match s.gns.epochAt with
    | none => s.past (s.fn gnssFid).since 0
    | some t => s.past t (period / 2)
  due && (!s.gns.fix || decide (r ≤ 31 ∨ period * 4 ≤ r + 31))

/-- The part of MEASUREMENT_EPOCH that is GNSS's own (R368 to R371). -/
def gnssEpoch (m : EpochIn) (s : State) : State :=
  let num := s.gns.epoch
  let time := strobe s
  let s := { s with gns := { s.gns with epoch := (num + 1) % 2 ^ 32, epochAt := some s.mono } }
  let s := if gnssFull s then sendObs (solveFix s m) m num time else s
  { s with gns := { s.gns with stepped := false } }

/-- The navigation data go to MRAM (R372). -/
def gnssSave (s : State) : State :=
  { s with gns := { s.gns with saved := s.gns.data, storeAt := s.mono } }

/-- GNSS_DATA_STORE (R372). -/
def xGnssDataStore (s : State) : State :=
  if gnssSt s = .running && s.past s.gns.storeAt (secT 600) then gnssSave s else s

/-- TD0 has stepped (R369, R373). -/
def gnssStepped (s : State) : State :=
  { s with gns := { s.gns with
    stepped := true
    caps := s.gns.caps.map fun c => if c.begun.isNone then { c with flags := c.flags ||| 16 } else c } }

/-! ## Pips (R373 to R379) -/

/-- A snapshot capture notice (Table 11.9). -/
def pipNotice (s : State) (id kind : Nat) (start : T96) (found : List (Nat × Nat × Nat × Int)) : State :=
  let body := le 4 id ++ b1 kind ++ b1 found.length ++ zeros 2 ++ leT start ++
    found.flatMap fun e => b1 e.1 ++ b1 0 ++ le 2 e.2.1 ++ le 2 e.2.2.1 ++ leI 2 e.2.2.2
  pushAll s sPips fun _ => { time := s.now, fault := false, pos := none, body := body }

def pipBytes (len : Nat) : Nat := 8184 * len
def storedBytes (s : State) : Nat := (s.gns.pips.map fun p => pipBytes p.len).foldl (· + ·) 0
def pipMax : Nat := 268435456

/-- The ID after another (R375). -/
def pipAfter (n : Nat) : Nat := if n + 1 ≥ 0xFFFFFFFF then 1 else n + 1

/-- A capture is scheduled or in progress (R383). -/
def capBusy (s : State) : Bool := s.gns.caps.any fun c => c.begun.isNone || capRuns s c

/-- PIP_CAPTURE_BEGIN (R373): at the first sample at or after the start instant, a sample being 15.3 ticks. -/
def xPipCaptureBegin (s : State) : State :=
  if !(gnssSt s).live then s
  else
    { s with gns := { s.gns with caps := s.gns.caps.map fun c =>
        if c.begun.isNone && decide (c.due ≤ s.mono ∧ s.mono ≤ c.due + 16) then
          { c with begun := some s.mono, start := strobe s, ji := s.gns.ji
                   tcxo := s.gns.data.tcxo.getD f0
                   flags := if s.gns.antenna = 1 then c.flags else c.flags ||| 2 }
        else c } }

/-- A processing request joins the queue (R377). -/
def pipRequest (s : State) (id : Nat) : State :=
  { s with gns := { s.gns with
    jobs := s.gns.jobs ++ [id]
    pips := s.gns.pips.map fun p => if p.id = id then { p with flags := p.flags ||| 4 } else p } }

/-- PIP_STORED (R375): the oldest capture whose samples are all taken. -/
def xPipStored (samples : Bytes) (s : State) : State :=
  match s.gns.caps.find? fun c => c.begun.isSome && !capRuns s c with
  | none => s
  | some c =>
    let p : Pip := { id := c.id, len := c.len, start := c.start, tcxo := c.tcxo, ji := c.ji
                     flags := bit (tbit c.flags 0) 0 + bit (tbit c.flags 1) 1 + bit (tbit c.flags 4) 4
                     samples := fitBytes (pipBytes c.len) samples }
    let s := { s with gns := { s.gns with
      caps := s.gns.caps.filter fun x => decide (x.id ≠ c.id)
      pips := s.gns.pips ++ [p] } }
    let s := pipNotice s c.id 0 c.start []
    if tbit c.flags 2 then pipRequest s c.id else s

/-- The next PRN a job searches, from one on (R377). -/
def jobNext (s : State) (from_ : Nat) : Nat :=
  match ((List.range 33).filter fun p => decide (from_ ≤ p ∧ 1 ≤ p) && !prnExcluded s p).head? with
  | some p => p
  | none => 33

/-- The job at the front ends. -/
def jobDone (s : State) : State :=
  { s with gns := { s.gns with jobs := s.gns.jobs.drop 1, jobPrn := 1, jobEpochs := 0, found := [] } }

/-- The front job's last PRN is done: the notice of kind 1 (R378). -/
def jobFinish (s : State) (p : Pip) : State :=
  let s := { s with gns := { s.gns with
    pips := s.gns.pips.map fun q => if q.id = p.id then { q with flags := q.flags ||| 8 } else q } }
  jobDone (pipNotice s p.id 1 p.start s.gns.found)

/-- PIP_PROCESSING_UNIT (R377 to R379): one PRN once it has had an epoch for each millisecond of each
window. -/
def xPipProcessingUnit (ratio : F32) (code64 : Nat) (doppler : Int) (s : State) : State :=
  match s.gns.jobs with
  | [] => s
  | _ :: _ =>
    match jobPip s with
    | none => if s.gns.jobEpochs = 0 then s else jobDone s
    | some p =>
      let prn := jobNext s s.gns.jobPrn
      if 32 < prn then jobFinish s p
      else if s.gns.jobEpochs < windowCount (s.app .gnss) * p.len then s
      else
        let hit := fLe (gcAcqTh (s.app .gnss)) ratio
        let e := (prn, satN 2 (fToInt (fMul ratio (fOfNat 100))).toNat, code64 % 65536, doppler)
        let s := { s with gns := { s.gns with
          found := if hit then s.gns.found ++ [e] else s.gns.found
          jobPrn := prn + 1, jobEpochs := 0 } }
        if 32 < jobNext s (prn + 1) then jobFinish s p else s

/-- Pips are deleted; processing of one in progress ends at its unit's boundary (R379). -/
def pipDelete (s : State) (gone : Pip → Bool) : State :=
  let kept := s.gns.pips.filter fun p => !gone p
  let jobs := match s.gns.jobs with
    | [] => []
    | j :: r =>
      let r := r.filter fun x => kept.any fun p => decide (p.id = x)
      if s.gns.jobEpochs ≠ 0 || kept.any (fun p => decide (p.id = j)) then j :: r else r
  let s := { s with gns := { s.gns with pips := kept } }
  if jobs.head? = s.gns.jobs.head? then { s with gns := { s.gns with jobs := jobs } }
  else { s with gns := { s.gns with jobs := jobs, jobPrn := 1, jobEpochs := 0, found := [] } }

/-- LOG_ERASE of area 2 or 3 (R379). -/
def pipErase (s : State) : State := pipNotice (pipDelete s fun _ => true) 0xFFFFFFFF 2 .zero []

/-- Captures not yet stored are discarded, each with a notice of kind 3 (R375). -/
def capDiscard (s : State) : State :=
  let l := s.gns.caps
  l.foldl (fun s c => pipNotice s c.id 3 .zero []) { s with gns := { s.gns with caps := [] } }

/-! ## Lifecycle (R380) -/

def gnssCheck (s : State) : State × Verdict := (s, none)

/-- What a new run of GNSS keeps of the block (R380): antenna, pips, MRAM. -/
def gnssClear (g : Gns) : Gns :=
  { antenna := g.antenna, biasA := g.biasA, antennaAt := g.antennaAt, shortAt := g.shortAt, ji := g.ji, agc := g.agc
    level := g.level, jamAt := g.jamAt, notchCfg := g.notchCfg, notches := g.notches
    data := g.saved, saved := g.saved, storeAt := g.storeAt, pips := g.pips, pipNext := g.pipNext
    jobs := g.jobs, jobPrn := g.jobPrn, jobEpochs := g.jobEpochs, found := g.found, leap := g.leap }

/-- START has passed its check: the commit instant (R380). -/
def gnssCommit (s : State) : State :=
  let s := beginStart s gnssFid
  antennaUpdate { s with gns := { gnssClear s.gns with epochAt := none } }

/-- GNSS_START_COMMIT (R380): 10 ms after the check. -/
def xGnssStartCommit (s : State) : State :=
  if gnssSt s = .starting ∧ s.past (s.fn gnssFid).since (msT 10) then
    changeState { s with gns := { s.gns with storeAt := s.mono } } gnssFid .running
  else s

/-- Acquisition, tracking, epochs and records stop, captures are discarded, MRAM is written, and
the front end falls still (R380). -/
def gnssHalt (s : State) : State :=
  let s := capDiscard (gnssSave s)
  let s := if s.gns.fix then emit s 0x0A03 gnssFid (b1 0 ++ b1 0 ++ zeros 2) else s
  let g := gnssClear s.gns
  let s := { s with gns := { g with ji := f0, agc := f0, jamAt := none, notches := [] } }
  levelTo s 0

/-- STOP (R380): OFF with the bias off; nothing in it waits. -/
def gnssStop (s : State) : State :=
  let s := gnssHalt (beginStop s gnssFid)
  antennaUpdate (finishStop gnssCheck gnssCommit gnssFid s)

/-- A fault's reaction stops GNSS (R33, 14 R463). -/
def gnssFault (s : State) : State :=
  if (gnssSt s).live then changeState (gnssHalt s) gnssFid .faulted else s

/-- A processor-complex reset (R375, R378, R388): OFF, captures discarded with no notice, requests
kept, their unit begun again. -/
def gnssReset (s : State) : State :=
  let s := blockReset s gnssFid
  let s := returnSrc (returnSrc s fsAntenna) fsJam
  { s with gns := { saved := s.gns.saved, data := s.gns.saved, pips := s.gns.pips
                    pipNext := s.gns.pipNext, jobs := s.gns.jobs } }

/-! ## Opcodes (R381 to R386) -/

/-- GNSS_CONFIG (R381). -/
def opGnssConfig : OpSpec where
  code := 0x0A00
  token := true
  len := fun _ => 40
  layout := gnssChecks
  body := fun s p =>
    let a := cfgAnswer s [gnssFid] fun s => s.setStg .gnss p
    if a.st = stOk then { a with s := antennaUpdate a.s } else a

/-- NOTCH_CONFIG (R382). -/
def opNotchConfig : OpSpec where
  code := 0x0A01
  token := true
  len := fun _ => 76
  layout := notchChecks
  body := fun s p => okAns ((s.setStg (.notch 0) p).setApp (.notch 0) p)

/-- PIP_CAPTURE (R373, R383). -/
def opPipCapture : OpSpec where
  code := 0x0A02
  token := true
  len := fun _ => 16
  layout := pipCaptureChecks
  body := fun s p =>
    let t := rdT p 4
    let at_ := T96.toNs t
    let now := s.tdNs 0
    let atOnce := rd p 4 12 = 0
    if !atOnce && (at_ < now + 1000000 || now + 60000000000 < at_) then badParam s 4
    else if !(gnssSt s).live then failAns s stWrongState 0
    else if capBusy s then failAns s stBusy 0
    else if 1024 ≤ s.gns.pips.length + s.gns.caps.length ∨
        pipMax < storedBytes s + ((s.gns.caps.map fun c => pipBytes c.len).foldl (· + ·) 0) + pipBytes (byteAt p 0)
      then failAns s 0x80 0
    else
      let id := s.gns.pipNext
      let due := if atOnce then s.mono + msT 1 else tickOfNs s at_
      let c : PipCap := { id := id, len := byteAt p 0, due := due
                          flags := bit (tbit (byteAt p 1) 0) 0 + bit (tbit (byteAt p 1) 1) 2 }
      okWith { s with gns := { s.gns with caps := s.gns.caps ++ [c], pipNext := pipAfter id } }
        (le 4 id ++ zeros 4)

/-- The header of a pip (Table 11.8). -/
def pipHeader (p : Pip) : Bytes :=
  le 4 p.id ++ b1 p.len ++ b1 p.flags ++ zeros 2 ++ leT p.start ++ le 4 (pipBytes p.len) ++ leF p.tcxo ++
    leF p.ji ++ le 4 (crc32c p.samples).toNat ++ zeros 4

/-- PIP_EXPORT (R379, R384): the four operations. -/
def opPipExport : OpSpec where
  code := 0x0A03
  token := true
  len := fun _ => 16
  layout := pipExportChecks
  reply := fun p => if byteAt p 4 = 0 then 40 else if byteAt p 4 = 1 then rd p 12 2 else 0
  body := fun s p =>
    let id := rd p 0 4
    match s.gns.pips.find? fun q => decide (q.id = id) with
    | none => failAns s 0x81 0
    | some q =>
      match byteAt p 4 with
      | 0 => okWith s (pipHeader q)
      | 1 =>
        let o := rd p 8 4
        let n := rd p 12 2
        if pipBytes q.len < o then badParam s 8
        else if pipBytes q.len < o + n then badParam s 12
        else okWith s (slice q.samples o n)
      | 2 => if tbit q.flags 2 then okAns s else okAns (pipRequest s id)
      | _ => okAns (pipNotice (pipDelete s fun x => decide (x.id = id)) id 2 q.start [])

/-- GNSS_STATUS (R385). -/
def opGnssStatus : OpSpec where
  code := 0x0A04
  len := fun _ => 0
  body := fun s _ =>
    let g := s.gns
    let tracked := ((List.range 48).filter fun c => decide ((s.track c).st ≠ 0)).length
    let prn := if gnssFull s then (match skipPrns s g.sweep with | x :: _ => x.prn | [] => 0) else 0
    okWith s
      (leT s.now ++ b1 (gnssSt s).code ++ b1 (gcMode (s.app .gnss)) ++ b1 g.antenna ++ b1 g.level ++
        leF g.ji ++ leF g.agc ++ leF (g.data.tcxo.getD f0) ++ b1 (bit g.fix 0) ++ b1 g.used ++ b1 tracked ++
        b1 prn ++ leF g.pdop ++ le 8 g.lat ++ le 8 g.lon ++ leF g.height ++ leF g.sigmaH ++ le 2 g.week ++
        leI 1 (g.leap.getD 0) ++
        b1 (bit g.leap.isSome 0 + bit (!g.saved.alm.isEmpty) 1 + bit (!g.saved.eph.isEmpty) 2) ++
        le 8 g.tow ++ le 8 g.td0LessGps ++ leF g.sigma ++
        (List.range 4).flatMap (fun n => b1 (s.notch n).st ++ zeros 3 ++ leF (s.notch n).freq) ++
        le 4 g.pips.length ++ le 4 (storedBytes s) ++ le 4 g.falseAlarms ++ le 4 g.losses ++
        (List.range 48).flatMap fun c =>
          let t := s.track c
          b1 t.prn ++ b1 t.st ++ le 2 (cn0Code t.cn0) ++ leF t.doppler)

end Sys2Proof.Machine
end

