-- ==== Sys2Proof/Machine/Guidance.lean ====
section
/-! DEFINITION. Guidance (07 R235 to R242) and yield records (07 R243 to R245): poses and their propagation, the
geometry of path and edge, losses, the steering law and the records. -/

namespace Sys2Proof.Machine

/-- The pose source in force: the staged one while guidance is OFF or in CONFIG, so that a pose can
be accepted before START. -/
def poseCfg (s : State) : Bytes := if (s.st guidFid).idle then s.stg .pose else s.app .pose

/-! ## Poses (R238) -/

/-- A pose record that R238 accepts, but for its time. -/
def poseGood (d raw : Bytes) : Bool :=
  let fl := byteAt raw 3
  decide (rd raw 0 2 = 0x4B50 ∧ byteAt raw 2 = 1) && fl.testBit 2 &&
    (fl.testBit 0 || (fl.testBit 1 && psFloat d)) && fLe (rdF raw 28) (psSigma d) &&
    decide ((crc32c (raw.take 36)).toNat = rd raw 36 4)

/-- POSE_RECEIVED (R238). -/
def xPoseReceived (udp : Bool) (port ident : Nat) (raw : Bytes) (s : State) : State :=
  let d := poseCfg s
  let from_ :=
    if udp then decide (psTransport d = 2 ∧ psPort d = port ∧ psUdp d = ident ∧ raw.length = 40)
    else decide (psTransport d = 1 ∧ psPort d = port ∧ psId d = ident ∧ 40 ≤ raw.length)
  if fwRuns s && from_ && poseGood d raw then
    let t := rdT raw 4
    let g := s.guid
    let late := match g.pose with | some q => !T96.lt q.time t | none => false
    if late then { s with guid := { g with discards := g.discards + 1 } }
    else
      let h := rdF raw 24
      let (de, dn) := turn h (rdF d 8) (rdF d 12)
      let q : Pose :=
        { time := t, tick := tickOfNs s (T96.toNs t), got := s.mono, e := fSub (rdF raw 16) de
          n := fSub (rdF raw 20) dn, heading := h }
      let dr := if gdMode s.guidCfg = 1 then none else g.dr
      { s with guid := { g with pose := some q, dr := dr } }
  else s

/-- The tick of the latest accepted pose, or of the latest edge with enough confidence (R240). -/
def goodTick (s : State) : Option Nat :=
  let d := s.guidCfg
  if gdMode d = 1 then s.guid.pose.map (·.got) else s.guid.edgeTick

/-! ## Losses (R240, Table 7.15) -/

def guidLive (s : State) : Bool := (s.st guidFid).live

/-- Entry to FAULTED with a cause: GUIDANCE_LOST, and FSRC129. -/
def guidLost (s : State) (cause : Nat) : State :=
  let s := changeState { s with guid := { s.guid with angle := none } } guidFid .faulted
  let s := emitFault s 0x0603 guidFid (b1 cause ++ zeros 3 ++ leF s.guid.ey)
  raise s 129 cause

/-- A fault's reaction from elsewhere (01 R33): FAULTED with the release action. No cause of Table
7.15 holds, and the event carries 0. -/
def guidFault (s : State) : State :=
  match s.st guidFid with
  | .starting | .running => guidLost s 0
  | .stopping => faultStopping s guidFid
  | _ => s

/-- POSE_STALE_EXPIRY (R240): dead reckoning begins. -/
def xPoseStaleExpiry (s : State) : State :=
  let old := match goodTick s with
    | some t => s.past t (msT (gdPoseStale s.guidCfg)) | none => true
  if guidLive s && s.guid.committed && s.guid.dr.isNone && old then
    emit { s with guid := { s.guid with dr := some s.mono } } 0x0604 guidFid (zeros 4)
  else s

/-- DR_LIMIT_EXPIRY (R240): cause 1. -/
def xDrLimitExpiry (s : State) : State :=
  match s.guid.dr with
  | some t =>
    if guidLive s && decide (t + msT (gdDrLimit s.guidCfg) < s.mono) then guidLost s 1 else s
  | none => s

/-! ## Poses, paths and edges at an instant (R236, R237) -/

/-- A pose of the field frame carried by ego-motion from one estimate to another: the way between them, as the machine
frame of the first sees it, laid along the pose's heading. -/
def carried (q : F32 × F32 × F32) (a b : EgoEst) : F32 × F32 × F32 :=
  let (dx, dy) := turn (fNeg a.yaw) (egoM (b.x - a.x)) (egoM (b.y - a.y))
  let (de, dn) := turn q.2.2 dx dy
  (fAdd q.1 de, fAdd q.2.1 dn, fAdd q.2.2 (fSub b.yaw a.yaw))

/-- The pose in use carried to the instant of an estimate, where ego-motion had a pose at its time-stamp. -/
def poseTo (s : State) (b : EgoEst) : Option (F32 × F32 × F32) :=
  s.guid.pose.bind fun q => (egoPose s q.tick).map fun a => carried (q.e, q.n, q.heading) a b

/-- The latest estimate: the one a guidance instant works with. -/
def egoNow (s : State) : Option EgoEst := s.fus.ego.est.head?

/-- A point of the machine frame by a pose in the plane. -/
def planePoint (p : F32 × F32 × F32) (x y : F32) : F32 × F32 :=
  let (dx, dy) := turn p.2.2 x y
  (fAdd p.1 dx, fAdd p.2.1 dy)

/-- The edge line of a side as a path in W, moved by EDGE_OFFSET toward uncut crop. DEDUCED (log entry 61): the header
end follows the edge with cut ground outside it, so uncut crop lies to the right of a left edge and to the left of a
right one. -/
def edgePath (d : Bytes) (e : EdgeLine) : Bytes :=
  let o := if gdSide d = 1 then gdEdgeOffset d else fNeg (gdEdgeOffset d)
  let (x, y) := planePoint (e.x0, e.y0, e.heading) f0 o
  let k := fSub f1 (fMul e.curvature o)
  segOf x y e.heading (fMul edgeLength k) (fDiv e.curvature k)

/-- The pose of the machine, CP and the path in the frame of the mode (R236): the field frame and the ring in path mode;
W and the edge line in crop-edge mode, with CP at the header end on the edge side. None where a part of it is not
there. -/
def guidTrack (s : State) (d : Bytes) : Option ((F32 × F32 × F32) × (F32 × F32) × List Bytes) :=
  (egoNow s).bind fun b =>
    if gdMode d = 1 then
      (poseTo s b).map fun p => (p, planePoint p (gdCpX d) (gdCpY d), s.guid.path)
    else s.fus.edges.map fun e =>
      let p := (egoM b.x, egoM b.y, b.yaw)
      (p, planePoint p (fgCutterX s.grid) (headerEnd s.grid (gdSide d ≠ 1)), [edgePath d (sideLine d e)])

/-- The index of the segment that lies nearest a point, the first of equals. -/
def nearestSeg (l : List Bytes) (x y : F32) : Option Nat :=
  let ds := l.map fun g => Config.segDist g x y
  (List.range ds.length).find? fun i => ds.all fun v => fLe (ds.getD i f0) v

/-- What R237 and R239 take from pose and path at an instant. -/
structure GuidGeom where
  ey : F32
  ePsi : F32
  kap : F32
  sNear : F32
  beyondEnd : Bool
  retire : Nat
deriving DecidableEq, Repr

/-- The geometry of a guidance instant (R237): the offset and the heading error at the nearest point of the path, the
curvature at the look-ahead l = max(L_MIN, T_LOOK × v) from it, and the segments whose end it has passed (R239). An arc
length counts from the start of the nearest segment. -/
def guidGeom (s : State) : Option GuidGeom :=
  let d := s.guidCfg
  (guidTrack s d).map fun (p, cp, path) =>
    match nearestSeg path cp.1 cp.2 with
    | none => { ey := f0, ePsi := f0, kap := f0, sNear := f0, beyondEnd := true, retire := 0 }
    | some i =>
      let g := path.getD i []
      let (near, ey, h) := Config.segNear g cp.1 cp.2
      let l := fMax (gdLMin d) (fMul (gdTLook d) ((egoNow s).elim f0 (·.speed)))
      { ey := ey, ePsi := wrapPi (fSub p.2.2 h), kap := pathKap (path.drop i) (fAdd near l), sNear := near
        beyondEnd := i + 1 = path.length && fLt (rdF g 20) near, retire := i }

/-! ## The steering law (R235 to R237) -/

/-- The steering angle of R237. -/
def steer (d : Bytes) (ey ePsi kap : F32) : F32 :=
  let a := Config.atan (fMul (gdWheelbase d) kap)
  let a := fFma (fNeg (gdKy d)) ey a
  let a := fFma (fNeg (gdKpsi d)) ePsi a
  let a := fClamp a (fNeg (gdDelta d)) (gdDelta d)
  if gdRear d then fNeg a else a

/-- One step of the release action, 10 ms long (R240). -/
def releaseStep (s : State) : State :=
  let d := s.guidCfg
  if gdRelease d then
    let v := pspVal s (gdPsp d)
    let m := fMul (gdRate d) (fDec 1 100)
    pspIssue s true [(gdPsp d, fClamp f0 (fSub v m) (fAdd v m))]
  else s

def guidDue (s : State) : Bool := atGrid (s.tdNs 0) 0 10000000 && decide (s.guid.tick + msT 5 ≤ s.mono)

/-- The angle computed at the last instant is issued (R235); the first issue ends STARTING. -/
def guidIssue (s : State) : State :=
  match s.guid.angle with
  | some a =>
    let s := pspIssue s true [(gdPsp s.guidCfg, a)]
    let s := { s with guid := { s.guid with issued := true } }
    if s.st guidFid = .starting then changeState s guidFid .running else s
  | none => s

/-- The geometry a row brings is that of the instant. Where pose, edge or ego-motion is not there, no rule gives one and
the row's stands (log entry 61). -/
def geomOk (s : State) (g : GuidGeom) : Bool :=
  match (if s.guid.committed && guidLive s then guidGeom s else none) with
  | some x => g = x
  | none => true

/-- GUIDANCE_INSTANT (R235 to R240). -/
def xGuidanceInstant (ey ePsi kap sNear : F32) (beyondEnd : Bool) (retire : Nat) (s : State) : State :=
  if guidDue s && geomOk s { ey := ey, ePsi := ePsi, kap := kap, sNear := sNear, beyondEnd := beyondEnd, retire := retire }
  then
    let d := s.guidCfg
    match s.st guidFid with
    | .starting | .running =>
      if s.guid.committed then
        let s : State := guidIssue s
        let path : Bool := gdMode d = 1
        let g : Guid := { s.guid with
          tick := s.mono, ey := ey, kap := kap, sNear := sNear, angle := some (steer d ey ePsi kap)
          path := if path then s.guid.path.drop retire else s.guid.path
          dr := if !path && (match goodTick s with | some t => !s.past t (msT (gdPoseStale d)) | none => false)
            then none else s.guid.dr }
        let s : State := { s with guid := g }
        if s.fus.ego.mode = 0 then guidLost s 4
        else if path && beyondEnd then guidLost s 3
        else if fLt (gdXte d) (fAbs ey) then guidLost s 2
        else s
      else s
    | .stopping | .faulted => releaseStep { s with guid := { s.guid with tick := s.mono } }
    | _ => s
  else s

/-! ## Lifecycle (R241) -/

/-- The checks of START in the order of R31 (R241, 14 R479). -/
def guidCheck (s : State) : State × Verdict :=
  let d := s.stg .guidance
  let mapped := s.st plannerFid ≠ .off && mapWrites s (gdPsp d)
  let near := match guidTrack s d with
    | some (_, cp, path) => path.any fun g => fLe (Config.segDist g cp.1 cp.2) (gdXte d)
    | none => false
  let edge := s.st fusFid = .running && match s.fus.edges with
    | some e => fLt f0 (sideLine d e).conf | none => false
  (s,
    if s.fcr.safeStopped then some (stWrongState, 0)
    else if mapped then some (stBadParam, noField)
    else if gdMode d = 1 && !near then some (stWrongState, 0)
    else if gdMode d = 2 && !edge then some (stWrongState, 0)
    else if s.fus.ego.mode = 0 then some (stWrongState, 0)
    else none)

def guidCommit (s : State) : State :=
  let s := beginStart s guidFid
  let g := s.guid
  { s with guid := { pose := g.pose, path := g.path, discards := g.discards, edgeTick := g.edgeTick } }

/-- GUIDANCE_START_COMMIT (R241): the first guidance instant at least 20 ms after the check. -/
def xGuidanceStartCommit (s : State) : State :=
  if s.st guidFid = .starting && !s.guid.committed && s.past (s.fn guidFid).since (msT 20) &&
      atGrid (s.tdNs 0) 0 10000000 then
    { s with guid := { s.guid with committed := true } }
  else s

/-- STOP (R241). -/
def guidStop (s : State) : State :=
  beginStop { s with guid := { s.guid with angle := none } } guidFid

/-- GUIDANCE_STOP_COMPLETE (R241): the release action is done, or 10 s have passed. -/
def xGuidanceStopComplete (s : State) : State :=
  let f := s.fn guidFid
  if f.st = .stopping then
    let d := s.guidCfg
    let s := if guidDue s then releaseStep { s with guid := { s.guid with tick := s.mono } } else s
    let done := !gdRelease d || fEq (pspVal s (gdPsp d)) f0 || s.past f.since (secT 10)
    if done then
      let s := if f.toFault then s else returnSrc s 129
      let s := finishStop guidCheck guidCommit guidFid s
      if f.toFault then raise (emitFault s 0x0603 guidFid (b1 0 ++ zeros 3 ++ leF s.guid.ey)) 129 0 else s
    else s
  else s

/-- A processor-complex reset (R232): OFF, dead reckoning lost. -/
def guidReset (s : State) : State :=
  let s := returnSrc (blockReset s guidFid) 129
  { s with guid := {} }

/-! ## Yield records (R243, R244) -/

def yieldCfg (s : State) : Bytes := s.yield.cfg.getD []
/-- Yield is enabled and its flow channel is in flow mode. -/
def yieldRuns (s : State) : Bool := yEnable (yieldCfg s) && flowMode s (yFlow (yieldCfg s)) && fwRuns s

/-- A cut interval begins at a time and tick. -/
def cutBegin (t : T96) (tick : Nat) (s : State) : State :=
  { s with yield := { s.yield with
      cur := some { start := t, startNs := T96.toNs t, tick := tick, cfg := yieldCfg s }, distTick := tick } }

/-- The header input is read; its rise and its lowering are noted (R244). -/
def headerRead (s : State) : State :=
  let d := yieldCfg s
  let up := match yHdrType d with
    | 0 => false
    | t => match inputVal s t (yHdrIdx d) 0 with
      | some (v, _) => !fLe v (yDown d)
      | none => s.yield.headerUp
  let y := s.yield
  if y.headerUp = up then s
  else if up then { s with yield := { y with headerUp := true, upTick := some s.mono } }
  else { s with yield := { y with headerUp := false, downTick := some s.mono } }

/-- Distance driven since it was last taken, up to a tick: ground speed over each ego-motion interval
(R244). -/
def distTake (till : Nat) (s : State) : State :=
  let y := s.yield
  match y.cur with
  | none => s
  | some c =>
    let es := s.fus.ego.est.filter fun e => decide (y.distTick < e.tick ∧ e.tick ≤ till)
    let ds := es.map fun e => fMul (fAbs e.speed) (fDec 1 1000)
    { s with yield := { y with cur := some { c with dist := fAdd c.dist (fSum ds) }, distTick := max y.distTick till } }

/-- The pose at a tick, carried by ego-motion from the pose in use (R244). -/
def cutPose (s : State) (t : Nat) : Option (F32 × F32 × F32) := (egoPose s t).bind (poseTo s)

/-- A cut interval ends at a tick (R243, R244). -/
def cutEnd (tick : Nat) (s : State) : State :=
  let s := distTake tick s
  let y := s.yield
  let d := yieldCfg s
  match y.cur with
  | none => s
  | some c =>
    let len := tick - c.tick
    let pose := cutPose s (c.tick + len / 2)
    let run := s.st fusFid = .running
    let w := match (if run then s.headwind else none) with
      | some h =>
        let n := fgN s.grid
        fMul (yWidth d) (fDiv (fOfNat ((List.range n).filter (segCrop s h)).length) (fOfNat n))
      | none => yWidth d
    let within (t : Option Nat) : Bool := match t with | some t => !s.past t (msT (yFill d)) | none => false
    let fl := c.flags ||| (bit y.headerUp 0 + bit (!y.headerUp && within y.downTick) 1 +
      bit (y.headerUp && within y.upTick) 2 + bit pose.isNone 3 + bit (!run || s.headwind.isNone) 5)
    let (e, n, h) := pose.getD (f0, f0, f0)
    let c := { c with len := max 1 len, width := w, flags := fl, e := e, n := n, heading := h }
    { s with yield := { y with cur := none, done := y.done ++ [c] } }

/-- The length of an interval in ns, and D_YIELD and D_MOIST in ns. -/
def Cut.lenNs (c : Cut) : Nat := if c.len = 0 then 1000000 * yPeriod c.cfg else 4 * c.len
def delayNs (x : F32) : Nat := fScaleRound x 1000000000 1

/-- A window of the flow channel counts toward the interval that holds its end (R243). -/
def cutMass (ns : Nat) (f : Option F32) (c : Cut) : Cut :=
  let lo := c.startNs + delayNs (yDYield c.cfg)
  if lo ≤ ns ∧ ns < lo + c.lenNs then
    match f with
    | some v => { c with mass := fAdd c.mass (fMul v (fDec 1 100)) }
    | none => { c with invalid := c.invalid + 1, flags := c.flags ||| 16 }
  else c

/-- A valid moisture value counts toward the interval that holds its instant (R243). -/
def cutMoist (ns : Nat) (m : Option F32) (c : Cut) : Cut :=
  let lo := c.startNs + delayNs (yDMoist c.cfg)
  match m with
  | some v => if lo ≤ ns ∧ ns < lo + c.lenNs then { c with moistSum := fAdd c.moistSum v, moistN := c.moistN + 1 } else c
  | none => c

/-- The moisture value at present, while it is valid. -/
def moistNow (s : State) : Option F32 :=
  let d := yieldCfg s
  let scaled (x : F32) : F32 := fFma (yMoistGain d) x (yMoistOffset d)
  match yMoistType d with
  | 1 => (inputVal s 1 (yMoistIdx d) 0).map fun e => scaled e.1
  | 2 => if s.yield.moistCan.ok then some (scaled s.yield.moistCan.value) else none
  | _ => none

/-- A yield record (Table 7.18). -/
def Cut.record (c : Cut) (num : Nat) : Bytes :=
  let fl := c.flags ||| bit (decide (c.moistN = 0)) 6
  let area := if fl.testBit 0 then f0 else fMul c.width c.dist
  le 4 num ++ leT c.start ++ le 4 (satN 4 (c.len / 250)) ++ leF c.e ++ leF c.n ++ leF c.heading ++ leF c.dist ++
  leF c.width ++ leF area ++ leF c.mass ++
  leF (if c.moistN = 0 then f0 else fDiv c.moistSum (fOfNat c.moistN)) ++ le 2 fl ++ le 2 (satN 2 c.invalid)

/-- Records whose last window has been published are sent (R243). -/
def yieldSend (s : State) (ns : Nat) : State :=
  match s.yield.done with
  | c :: r =>
    if c.startNs + c.lenNs + delayNs (yDYield c.cfg) ≤ ns + 10000000 then
      let n := s.yield.num
      let s := { s with yield := { s.yield with done := r, num := n + 1 } }
      pushAll s sYield fun _ => { time := s.now, fault := false, pos := none, body := c.record n }
    else s
  | [] => s

/-- One window of the flow channel has been published. A rest of less than 1 ms after a TD0 step joins the interval
that follows (06 R181). -/
def yieldWindow (s : State) (w : WinRec) : State :=
  let d := yieldCfg s
  let s := distTake w.stopTick (headerRead s)
  let ns := T96.toNs w.stop
  let m := moistNow s
  let f := fun c => cutMoist ns m (cutMass ns (if w.valid then some w.f else none) c)
  let y := s.yield
  let s := { s with yield := { y with cur := y.cur.map f, done := y.done.map f } }
  let long := match y.cur with | some c => decide (c.tick + msT 1 ≤ w.stopTick) | none => true
  let s :=
    if ns % (1000000 * yPeriod d) < 8 && long then cutBegin w.stop w.stopTick (cutEnd w.stopTick s)
    else s
  yieldSend s ns

/-- A window that is new at the flow channel `k` gives the yield logger its counts. -/
def yieldOn (k : Nat) (before : Option Nat) (s : State) : State :=
  match (s.imp k).last with
  | some w => if yieldRuns s && some w.stopTick ≠ before then yieldWindow s w else s
  | none => s

/-- WINDOW_COUNTS_PUBLISHED (06 R180; R243). -/
def xWindowCountsPublished (s : State) : State :=
  let k := yFlow (yieldCfg s)
  yieldOn k ((s.imp k).last.map (·.stopTick)) (publishWindows s)

/-- YIELD_CONFIG_COMMIT (R245): the boundary of the cut interval in progress; with none, the first boundary of the new
PERIOD. An interval of the new PERIOD begins at its own boundaries. -/
def xYieldConfigCommit (s : State) : State :=
  let y := s.yield
  let starts (d : Bytes) : Bool := decide (s.tdNs 0 % (1000000 * yPeriod d) < 8)
  match y.pend with
  | some p =>
    if starts (match y.cur with | some c => c.cfg | none => p) then
      let was := yEnable (yieldCfg s)
      let s := if was then cutEnd s.mono s else s
      let y := { s.yield with cfg := some p, pend := none }
      if yEnable p then
        let s := { s with yield := if was then y else { y with num := 0, done := [] } }
        if starts p then cutBegin s.now s.mono s else s
      else { s with yield := { y with cur := none, done := [] } }
    else s
  | none => s

/-- INPUT_CONFIG_COMMIT (06 R198). A flow channel that leaves flow mode ends the yield intervals there are (R243). -/
def xInputConfigCommit (sel k : Nat) (s : State) : State :=
  let s := inputCommit sel k s
  if sel = 4 && k = yFlow (yieldCfg s) && !flowMode s k then
    { s with yield := { s.yield with cur := none, done := [] } }
  else s

/-- TD0 has been stepped from one time to another, in ns (R243, 06 R181): the interval in progress ends at the step,
and one begins on the new time; intervals keep their place on the monotonic tick. -/
def yieldStep (old new : Nat) (s : State) : State :=
  let mv (c : Cut) : Cut := { c with startNs := c.startNs + new - old }
  let y := s.yield
  let s := { s with yield := { y with
      cur := y.cur.map (fun c => { mv c with flags := c.flags ||| 128 }), done := y.done.map mv } }
  if y.cur.isSome then cutBegin s.now s.mono (cutEnd s.mono s) else s

/-! ## Opcodes (R236, R238, R239, R245) -/

/-- GUIDANCE_CONFIG (Table 7.16). -/
def opGuidanceConfig : OpSpec where
  code := 0x0604
  token := true
  len := fun _ => 64
  layout := guidChecks
  body := fun s p => cfgAnswer s [guidFid] fun s => s.setStg .guidance p

/-- POSE_SOURCE (R238). -/
def opPoseSource : OpSpec where
  code := 0x0606
  token := true
  len := fun _ => 24
  layout := poseChecks
  body := fun s p => cfgAnswer s [guidFid] fun s => s.setStg .pose p

/-- The segments of a PATH_LOAD. -/
def pathSegs (p : Bytes) : List Bytes := (List.range (byteAt p 0)).map fun i => slice p (4 + 28 * i) 28

/-- A segment joins the one before it: within 0.01 m and 0.002 rad (R239). -/
def joins (a b : Bytes) : Bool :=
  let (e, n, h) := Config.segEnd (rdF a 8) (rdF a 12) (rdF a 16) (rdF a 20) (rdF a 24)
  let de := fSub (rdF b 8) e
  let dn := fSub (rdF b 12) n
  let dh := fSub (rdF b 16) h
  let dh := wrapPi dh
  fLe (fAdd (fMul de de) (fMul dn dn)) (fDec 1 10000) && fLe (fAbs dh) (fDec 2 1000)

/-- The index of the first segment that does not join the one before it. -/
def breakAt (last : Option Bytes) (i : Nat) : List Bytes → Option Nat
  | [] => none
  | d :: r =>
    match last with
    | some a => if joins a d then breakAt (some d) (i + 1) r else some i
    | none => breakAt (some d) (i + 1) r

/-- PATH_LOAD (R239). -/
def opPathLoad : OpSpec where
  code := 0x0605
  token := true
  len := fun p => 4 + 28 * byteAt p 0
  layout := pathChecks
  body := fun s p =>
    let restart := (byteAt p 1).testBit 0
    let ring := if restart then [] else s.guid.path
    let segs := pathSegs p
    if restart && s.st guidFid = .running && gdMode s.guidCfg = 1 then failAns s stWrongState 0
    else if 256 < ring.length + segs.length then failAns s stOverCapacity 0
    else match breakAt ring.getLast? 0 segs with
      | some i => failAns s 0x80 (4 + 28 * i)
      | none => okAns { s with guid := { s.guid with path := ring ++ segs } }

/-- YIELD_CONFIG (R245). -/
def opYieldConfig : OpSpec where
  code := 0x0607
  token := true
  len := fun _ => 40
  layout := yieldChecks
  body := fun s p =>
    if !flowMode s (yFlow p) then failAns s stWrongState 0
    else
      let y := { s.yield with pend := some p }
      okAns { s with yield := if (byteAt p 0).testBit 1 then { y with stored := some p } else y }

end Sys2Proof.Machine
end

