-- ==== Sys2Proof/Machine/Time.lean ====
section
/-! DEFINITION. The time unit (chapter 12): domain clocks, the servo, steps, loss, holdover and
return of a source, PPS, PTP, and its opcodes. -/

namespace Sys2Proof.Machine

/-! Offsets in 2^-16 ns. -/
def offNs (n : Int) : Int := n * 65536
def offMs : Int := offNs 1000000
def offUs : Int := offNs 1000
def absI (i : Int) : Int := if i < 0 then -i else i
/-- One second of a clock, and its largest phase term, in 2^-32 ns (R390). -/
def fineSec : Nat := 1000000000 * 2 ^ 32
def phaseMax : Int := 85899

/-- The settings of a domain; in CONFIG the staged ones. -/
def tdCfg (s : State) (d : Nat) : Bytes := if s.st (tdFid d) = .config then s.stg (.td d) else s.app (.td d)
/-- STARTING or RUNNING. -/
def domLive (s : State) (d : Nat) : Bool := (s.st (tdFid d)).live
/-- The source a domain is served by. -/
def domSource (s : State) (d : Nat) : Nat := if domLive s d then tdSource (s.app (.td d)) else 0
def State.portCfg (s : State) (p : Nat) : Bytes := (s.port p).cfg.getD (portDefault p)

/-! ## The clocks (R389, R390) -/

/-- What the phase term adds at a tick. -/
def Domain.slew (x : Domain) : Int :=
  let m := if x.phaseLeft < 0 then -(min (absI x.phase) (-x.phaseLeft)) else min (absI x.phase) x.phaseLeft
  let v := (x.freq : Int) + m
  (max (incLo : Int) (min (incHi : Int) v)) - x.freq
/-- The increment in force. -/
def Domain.inc (x : Domain) : Nat := ((x.freq : Int) + x.slew).toNat
/-- One tick of a clock. -/
def Domain.tick (x : Domain) : Domain :=
  let m := x.slew
  { x.setFine (x.fine + x.inc) with phaseLeft := x.phaseLeft - m }

/-- The terms in force since a tick, newest first; the last of them was in force at it. -/
def termsSince (lo : Nat) : List (Nat × Nat) → List (Nat × Nat)
  | [] => []
  | (t, f) :: r => if t ≤ lo then [(t, f)] else (t, f) :: termsSince lo r

/-- A change of the frequency term, kept for the mean of R403. -/
def Domain.setFreq (x : Domain) (f now : Nat) : Domain :=
  { x with freq := f, freqHist := (now, f) :: termsSince (now - secT 10) x.freqHist }

/-- The frequency term's mean over the last 10 s (R403): a list of terms, newest first, each in force
from its tick until the one before it. -/
def meanOver (lo : Nat) (until_ : Nat) : List (Nat × Nat) → Nat × Nat
  | [] => (0, 0)
  | (t, f) :: r =>
    let a := max t lo
    let w := until_ - a
    if t ≤ lo then (w * f, w)
    else let (x, y) := meanOver lo t r; (x + w * f, y + w)

def Domain.freqMean (x : Domain) (now : Nat) : Nat :=
  let (n, w) := meanOver (now - secT 10) now x.freqHist
  if w = 0 then x.freq else n / w

/-- A slew by an offset (R399). -/
def Domain.slewBy (x : Domain) (o : Int) : Domain :=
  { x with phaseLeft := -(o * 65536), phase := if o < 0 then phaseMax else if o = 0 then 0 else -phaseMax }

/-! ## Quality (R397, R398) -/

def natUp (x : F32) : Nat := (-(fFloorInt (fNeg x))).toNat

/-- The LOCKED bound of R398. -/
def lockedBound (src : Nat) (x : Domain) : Nat :=
  if src = 1 then 50 else if src = 3 then 20 else x.sigma + 31

/-- 50 ns for each second since the tick a bound grows from. -/
def Domain.growth (x : Domain) (now : Nat) : Nat := 50 * (now - x.boundAt) / 250000000

/-- The error bound of R398 in ns, none where unknown, for any state but BACKUP. -/
def Domain.ownBound (x : Domain) (src now : Nat) : Option Nat :=
  match x.clk with
  | 1 =>
    if x.acqFrom = 0 then none
    else if x.acqFrom = 1 then some (x.lockBound + 100 + x.growth now)
    else if x.stepMade then some (x.lockBound + x.growth now)
    else some (x.lockBound + (absI (x.step.getD 0) / 65536).toNat)
  | 2 => some (lockedBound src x)
  | 3 => some (x.lockBound + 100 + x.growth now)
  | _ => none

def bound (s : State) (d : Nat) : Option Nat :=
  let e := if (s.dom d).clk = 4 then 1 else d
  (s.dom e).ownBound (domSource s e) s.mono

/-- clockClass of Table 12.2, for any state but BACKUP. -/
def ownClass (s : State) (d : Nat) : Nat :=
  let x := s.dom d
  let hold := match x.ownBound (domSource s d) s.mono with
    | some e => decide (e ≤ tdSpec (s.app (.td d)))
    | none => false
  let h := if x.ptpScale then (if hold then 7 else 52) else (if hold then 14 else 58)
  match x.clk with
  | 1 => if x.acqFrom = 0 then 248 else h
  | 2 => if domSource s d = 1 then x.gmClass else if x.ptpScale then 6 else 13
  | 3 => h
  | _ => 248

def clockClass (s : State) (d : Nat) : Nat := ownClass s (if (s.dom d).clk = 4 then 1 else d)

/-- The accuracies of IEEE 1588 in ns from 0x20 on; PRESUMED, log entry 15. -/
def accuracies : List Nat :=
  [25, 100, 250, 1000, 2500, 10000, 25000, 100000, 250000, 1000000, 2500000, 10000000, 25000000, 100000000,
   250000000, 1000000000, 10000000000]

def accuracy : Option Nat → Nat
  | none => 0xFE
  | some e => 0x20 + (accuracies.takeWhile fun a => decide (a < e)).length

/-- CLOCK_STATE (R397, Table 12.12). -/
def clockEvent (s : State) (d old : Nat) : State :=
  let n := (s.dom d).clk
  let data := b1 old ++ b1 n ++ b1 (clockClass s d) ++ b1 0 ++ le 4 ((bound s d).getD 0xFFFFFFFF)
  if old ≠ n ∧ (n = 3 ∨ n = 4) then emitFault s 0x0B01 (tdFid d) data else emit s 0x0B01 (tdFid d) data

/-- A domain's record with a new clock state, the change reported. -/
def setClock (s : State) (d : Nat) (x : Domain) : State :=
  let old := (s.dom d).clk
  let s := s.setDom d x
  if x.clk = old then s else clockEvent s d old

/-! ## Steps (R400, R401) -/

/-- A locked channel follows the new time: its period in progress, and its commit instant where its START waits. -/
def chanStepped (d old new : Nat) (s : State) (k : Nat) : State :=
  let s := match (s.chan k).carrier with
    | some (e, _) => if e = d && (s.chan k).committed then periodStretch s k else s
    | none => s
  let c := s.chan k
  match c.carrier, c.commitNs with
  | some (e, ph), some n =>
    if e = d then
      s.setChan k { c with commitNs := some (carrierFrom (new + (n - old)) ph (cT (s.chCfg k))) }
    else s
  | _, _ => s

/-- A port's gate cycle follows its domain. -/
def portStepped (d old new : Nat) (s : State) (p : Nat) : State :=
  let x := s.port p
  match x.gate with
  | some g => if gtDomain g = d then s.setPort p { x with entryNs := x.entryNs + new - old } else s
  | none => s

/-- What a step of a domain does to what follows it (R401, 04 R110, 06 R181, 07 R243, 11 R369, R373,
R422). -/
def domainStepped (d : Nat) (was : T96) (s : State) : State :=
  let old := T96.toNs was
  let new := s.tdNs d
  let s := (List.range 64).foldl (gridStep d old new) s
  let s := forN 24 (chanStepped d old new) s
  let s := forN 9 (portStepped d old new) s
  if d = 0 then gnssStepped (fusStepped old (yieldStep old new (windowStep was s))) else s

/-- A clock is set: TIME_STEP, and everything that follows a step. -/
def setTime (s : State) (d : Nat) (v : Nat) : State :=
  let old := s.td d
  let x := (s.dom d).setFine v
  let s := s.setDom d
    { x with
      phase := 0, phaseLeft := 0, step := none, decide := true
      steps := satN 4 (x.steps + 1), stepsTotal := satN 4 (x.stepsTotal + 1) }
  let s := emit s 0x0B02 (tdFid d) (leT old ++ leT (s.td d))
  domainStepped d old s

/-- The clock has passed a whole second, moved by an offset in ns, at this tick. -/
def passed (x : Domain) (off : Int) : Bool :=
  let v : Int := (x.fine : Int) - off * 2 ^ 32
  decide ((v % fineSec).toNat < x.inc)

/-- TIME_STEP_MADE (R401). -/
def xTimeStepMade (d : Nat) (s : State) : State :=
  let x := s.dom d
  match x.step with
  | some o =>
    if passed x 0 ∧ x.stepAt < s.mono then
      let x := { x with
        stepMade := true, boundAt := if x.acqFrom = 2 then s.mono else x.boundAt
        ppsMute := some (max (s.mono + 1) ((x.lastPps.getD 0) + secT 1)) }
      let s := s.setDom d x
      setTime s d ((x.fine : Int) - o * 65536).toNat
    else s
  | none => s

/-! ## Offsets (R399, R400) -/

/-- An offset feeds the servo (R399). -/
def Domain.feed (x : Domain) (bw : F32) (o : Int) (now : Nat) : Domain :=
  let x := x.slewBy o
  match x.override with
  | some _ => x
  | none =>
    let since := match x.freqHist with | [] => now | (t, _) :: _ => t
    x.setFreq (max incLo (min incHi (Config.servoFreq bw x.freq o (now - since)))) now

/-- An offset that decides (R400): slewed, or a step. -/
def Domain.judge (x : Domain) (bw : F32) (o : Int) (now : Nat) : Domain :=
  if offMs ≤ absI o then { x with step := some o, stepAt := now, phase := 0, phaseLeft := 0, good := 0, decide := false }
  else { x.feed bw o now with decide := false, good := if absI o ≤ offUs then x.good + 1 else 0 }

/-- What an offset from a domain's source does to the clock (R399, R400). -/
def offsetTake (d : Nat) (o : Int) (s : State) : State :=
  let bw := tdBw (s.app (.td d))
  let x := { s.dom d with lastOff := o, srcUp := true, srcLost := false }
  if x.step.isSome then s.setDom d { x with outliers := satN 4 (x.outliers + 1) }
  else match x.clk with
    | 1 =>
      if x.decide || (x.phaseLeft ≠ 0 && decide (offMs ≤ absI o)) then s.setDom d (x.judge bw o s.mono)
      else
        let x := { x.feed bw o s.mono with good := if absI o ≤ offUs then x.good + 1 else 0 }
        if 10 ≤ x.good then setClock s d { x with clk := 2, cand := none, specSent := false } else s.setDom d x
    | 2 =>
      let agree := match x.cand with | some c => decide (absI (o - c) ≤ offUs) | none => false
      if offMs ≤ absI o ∧ agree = true then
        setClock s d
          { x with clk := 1, acqFrom := 2, good := 0, cand := none, step := some o, stepAt := s.mono
                   stepMade := false, boundAt := s.mono, phase := 0, phaseLeft := 0
                   lockBound := lockedBound (domSource s d) x }
      else
        let x := if x.cand.isSome then { x with outliers := satN 4 (x.outliers + 1) } else x
        if offMs ≤ absI o then s.setDom d { x with cand := some o }
        else s.setDom d { x.feed bw o s.mono with cand := none }
    | 0 => setClock s d { (x.judge bw o s.mono) with clk := 1, acqFrom := 0, stepMade := false, cand := none }
    | _ =>
      let e := (bound s d).getD 0
      let x := if x.clk = 4 then { x with lockBound := e, boundAt := s.mono } else x
      setClock s d { (x.judge bw o s.mono) with clk := 1, acqFrom := 1, stepMade := false, cand := none }

/-- An offset from a domain's source, whose own return rule holds or has nothing to wait for (R404): the
fault source of the loss returns with it. -/
def offsetIn (d : Nat) (o : Int) (s : State) : State :=
  if (s.dom d).srcLost then returnSrc (offsetTake d o s) (160 + d) else offsetTake d o s

/-! ## Loss (R403, R405, R406) -/

/-- The clock of a domain that loses its source: the servo stops and the state is that of Table 12.2; a
pending step is cancelled. `backupOk`: TD1 has not lost its own at the same instant (R406). -/
def loseClock (s : State) (d : Nat) (backupOk : Bool) : State :=
  let x := s.dom d
  let e := (bound s d).getD 0
  let f := match x.override with | some v => v | none => if x.srcUp then x.freqMean s.mono else x.freq
  let x1 := { x.setFreq f s.mono with
    phase := 0, phaseLeft := 0, step := none, decide := false, cand := none, good := 0, twoStep := none
    srcUp := false, srcLost := true, slave := none, syncAt := none, annAt := none, ppsEdge := none }
  let backup := backupOk && decide (d = 0) && tdBackup (s.app (.td 0)) && decide ((s.dom 1).clk = 2)
  match x.clk with
  | 0 | 3 => s.setDom d x1
  | 4 => s.setDom d { x1 with freq := x.freq, phase := x.phase, phaseLeft := x.phaseLeft }
  | _ =>
    if backup then setClock s d { x1 with clk := 4 }
    else if x.clk = 1 ∧ x.acqFrom = 0 then setClock s d { x1 with clk := 0 }
    else setClock s d
      { x1 with clk := 3, lockBound := e, boundAt := s.mono, specSent := decide (x.clk = 1) && x.specSent }

/-- A domain loses its source: FSRC160 to FSRC163, with the clock state it takes (14 Table 14.4). -/
def loseSource (s : State) (d : Nat) (backupOk : Bool) : State :=
  let t := loseClock s d backupOk
  if (s.dom d).srcLost then t else raise t (160 + d) (t.dom d).clk

/-- TD0 stands in BACKUP no longer: HOLDOVER at its present frequency term (R405). -/
def backupEnd (s : State) (e : Nat) : State :=
  if (s.dom 0).clk = 4 then
    setClock s 0 { s.dom 0 with
      clk := 3, lockBound := e, boundAt := s.mono, specSent := false, phase := 0, phaseLeft := 0 }
  else s

/-- A loss on a domain, and what it means for TD0 where the domain is its backup. -/
def sourceLost (s : State) (d : Nat) : State :=
  let e := (bound s d).getD 0
  let s := loseSource s d true
  if d = 1 then backupEnd s e else s

/-! ## GNSS as a source (R394, 11 R371) -/

/-- MEASUREMENT_EPOCH: what GNSS gives the time unit. -/
def timeGnss (m : EpochIn) (was : Nat) (s : State) (d : Nat) : State :=
  if domSource s d ≠ 2 then s
  else if s.gns.fix then
    let gps := fullWeek m.week * 604800 + m.gps.sec + 315964819
    let src : Int := T96.toSub { m.gps with sec := gps }
    let o : Int := (T96.toSub (T96.shift (s.td d) (stampShift s 8)) : Int) - src
    let x := s.dom d
    let x := { x with ptpScale := true, sigma := natUp m.sigma, utcValid := s.gns.leap.isSome
                      utc := 19 + s.gns.leap.getD 0 }
    offsetIn d o (s.setDom d x)
  else if was = 2 ∧ s.gns.noFix = 3 ∧ (s.dom d).srcUp then sourceLost s d
  else s

/-- MEASUREMENT_EPOCH (11 R368 to R371). -/
def xMeasurementEpoch (m : EpochIn) (s : State) : State :=
  if fwRuns s ∧ gnssSt s = .running ∧ epochDue s m then
    let was := s.gns.noFix
    let s := gnssEpoch m s
    if gnssFull s then forN 4 (timeGnss m was) s else s
  else s

/-- GNSS no longer runs in mode 0: a domain it serves has lost its source (11 R380). -/
def gnssGone (s : State) : State :=
  if gnssFull s then s
  else forN 4 (fun s d => if domSource s d = 2 ∧ (s.dom d).srcUp then sourceLost s d else s) s

/-! ## PPS (R407, R408) -/

/-- PPS_OUT_PULSE (R407; not in CALM, 15 R497). -/
def xPpsOutPulse (d : Nat) (s : State) : State :=
  let c := tdCfg s d
  let x := s.dom d
  if s.st (tdFid d) ≠ .off ∧ s.pwr.state ≠ 3 ∧ tdPps c = true ∧ passed x (tdPpsOffset c) = true ∧ x.lastPps ≠ some s.mono then
    let due := x.step.isSome && (decide (tdPpsOffset c < 0) || passed x 0)
    let muted := match x.ppsMute with | some t => decide (s.mono < t) | none => false
    if due || muted then s
    else { s.setDom d { x with lastPps := some s.mono, ppsMute := none } with sent := .pps d (tdPpsWidth c) :: s.sent }
  else s

/-- PPS_IN_EDGE (R404, R408): an edge that has held high, at the instant of the edge. -/
def xPpsInEdge (highNs : Nat) (s : State) : State :=
  if highNs < 1000 then s
  else
    let s := { s with tsu := { s.tsu with ppsIn := some s.mono } }
    forN 4 (fun s d =>
      if domSource s d ≠ 3 then s
      else
        let x := s.dom d
        let early := match x.ppsEdge with | some t => decide (s.mono < t + msT 500) | none => false
        let outl := s.setDom d { x with outliers := satN 4 (x.outliers + 1) }
        let t : Int := (T96.toSub (s.td d) : Int) + offNs (stampShift s 7)
        let sec : Int := offNs 1000000000
        let r := t % sec
        let o := if r * 2 < sec then r else r - sec
        if early then outl
        else if offNs 400000000 < absI o then outl
        else
          let back := !x.srcLost || match x.ppsEdge with
            | some e => decide (e + secT 1 ≤ s.mono + usT 1 ∧ s.mono ≤ e + secT 1 + usT 1)
            | none => false
          let s := s.setDom d { x with ppsEdge := some s.mono }
          if back then offsetIn d o s else s) s

/-- PPS_IN_TIMEOUT (R403). -/
def xPpsInTimeout (d : Nat) (s : State) : State :=
  match s.tsu.ppsIn with
  | some t => if domSource s d = 3 ∧ (s.dom d).srcUp = true ∧ s.past t (msT 1100) = true then sourceLost s d else s
  | none => s

/-- SLEW_COMPLETE (R399): the phase term returns to zero. -/
def xSlewComplete (d : Nat) (s : State) : State :=
  let x := s.dom d
  if x.phaseLeft = 0 then s.setDom d { x with phase := 0 } else s

/-- HOLDOVER_SPEC_EXCEEDED (R397). -/
def xHoldoverSpecExceeded (d : Nat) (s : State) : State :=
  let x := s.dom d
  if (x.clk = 3 ∨ (x.clk = 1 ∧ x.acqFrom ≠ 0)) ∧ x.specSent = false then
    match bound s d with
    | some e =>
      if tdSpec (s.app (.td d)) < e then clockEvent (s.setDom d { x with specSent := true }) d x.clk else s
    | none => s
  else s

/-! ## PTP (R412 to R415) -/

/-- A domain terminates a domainNumber on a port. -/
def terminates (s : State) (d port number : Nat) : Bool :=
  s.st (tdFid d) ≠ .off && decide (port ≤ 6) && (tdMask (tdCfg s d)).testBit port && tdNumber (tdCfg s d) = number

/-- An interval of 2^k s in ticks. -/
def logTicks (k : Int) : Nat := if k < 0 then secT 1 / 2 ^ k.natAbs else secT 1 * 2 ^ k.natAbs

def State.ptpPort (s : State) (d p : Nat) : PtpPort := tget {} (s.dom d).ports p
def setPtpPort (s : State) (d p : Nat) (v : PtpPort) : State :=
  s.setDom d { s.dom d with ports := tput (s.dom d).ports p v }

/-- portState as 1588 numbers it: 3 disabled, 4 listening, 6 master, 9 slave; in trunk a port on which no
master is announced becomes master. Log entry 15. -/
def portState (s : State) (d p : Nat) : Nat :=
  let c := tdCfg s d
  if s.st (tdFid d) = .off ∨ (tdMask c).testBit p = false then 3
  else if (s.dom d).slave = some p then 9
  else if (tdMasters c).testBit p then 6
  else
    let n := s.portCfg p
    let alone := s.past (s.fn (tdFid d)).since (prAnnTimeout n * logTicks (prLogAnn n))
    if tdTrunk c = true ∧ (tdSource c ≠ 1 ∨ (s.dom d).slave.isSome ∨ (s.dom d).srcLost = true ∨ alone = true) then 6
    else 4

/-- A Sync, or the Follow_Up of one, has been accepted from the selected master (R404, R414). -/
def syncOffset (d port : Nat) (m : PtpMsg) (s : State) : State :=
  let x := s.dom d
  let delay := fAdd (s.ptpPort d port).delay (prAsym (s.portCfg port))
  let o := m.offset + offNs (stampShift s port) - fToInt (fMul delay (fOfNat 65536))
  if x.srcLost then
    match x.cand with
    | some c =>
      if absI (o - c) ≤ offUs then offsetIn d o (s.setDom d { x with cand := none })
      else s.setDom d { x with cand := some o, lastOff := o }
    | none => s.setDom d { x with cand := some o, lastOff := o }
  else offsetIn d o s

/-- A Sync arrives: the missed intervals since the last, and its tick. -/
def syncSeen (d port : Nat) (s : State) : State :=
  let x := s.dom d
  let iv := logTicks (prLogSync (s.portCfg port))
  let p := s.ptpPort d port
  let gone := match x.syncAt with | some t => (s.mono - t + iv / 2) / iv - 1 | none => 0
  let s := setPtpPort s d port { p with missed := satN 4 (p.missed + gone) }
  s.setDom d { s.dom d with syncAt := some s.mono }

/-- An Announce (R397): the BMCA's selection, and what the grandmaster announces. -/
def announce (d port : Nat) (m : PtpMsg) (s : State) : State :=
  let x := s.dom d
  if m.selected then
    if (tdMasters (s.app (.td d))).testBit port then s
    else
      let s := s.setDom d { x with
        slave := some port, annAt := some s.mono, gmId := some m.gmId, gmClass := m.gmClass
        ptpScale := m.ptpScale, utc := m.utcOffset, utcValid := m.utcValid, leap61 := m.leap61
        leap59 := m.leap59
        syncAt := if x.slave = some port then x.syncAt else some s.mono }
      if x.clk = 2 ∧ x.gmClass ≠ m.gmClass then clockEvent s d 2 else s
  else if x.slave = some port then sourceLost s d
  else s

/-- One domain takes a message (R412 to R414); an 802.1AS peer delay serves every domain of its port. -/
def ptpTake (port : Nat) (m : PtpMsg) (s : State) (d : Nat) : State :=
  let shared := decide (m.kind = 4) && decide (tdProfile (tdCfg s d) = 0) && (tdMask (tdCfg s d)).testBit port
  if !((terminates s d port m.domainNumber || shared) && domLive s d) then s
  else
    let x := s.dom d
    let mine := domSource s d = 1 && x.slave == some port && m.selected
    match m.kind with
    | 0 => if mine then syncOffset d port m (syncSeen d port s) else s
    | 1 => if mine then let s := syncSeen d port s; s.setDom d { s.dom d with twoStep := some port } else s
    | 2 =>
      if mine && x.twoStep == some port then syncOffset d port m (s.setDom d { x with twoStep := none }) else s
    | 3 => if domSource s d = 1 then announce d port m s else s
    | _ => setPtpPort s d port { s.ptpPort d port with delay := m.linkDelay, ratio := m.rateRatio }

/-- PTP_MESSAGE_RECEIVED (R412 to R414). -/
def xPtpMessageReceived (port : Nat) (m : PtpMsg) (s : State) : State :=
  if !(fwRuns s && decide (port ≤ 6) && (s.port port).link) then s
  else
    let x := s.port port
    let x := { x with rx := satN 4 (x.rx + 1) }
    if 5 ≤ m.kind then
      let s := s.setPort port { x with drop := satN 4 (x.drop + 1) }
      { s with tsu := { s.tsu with badPtp := s.tsu.badPtp + 1 } }
    else forN 4 (ptpTake port m) (s.setPort port x)

/-- A port has sent a frame (Table 12.13). -/
def portSent (s : State) (p : Nat) : State :=
  let x := s.port p
  s.setPort p { x with tx := satN 4 (x.tx + 1) }

/-- The module's own clock identity: an EUI-64 made of its MAC address; log entry 15. -/
def ownIdentity : Bytes :=
  let m := Config.mac.toNat
  b1 (m / 2 ^ 40) ++ b1 (m / 2 ^ 32) ++ b1 (m / 2 ^ 24) ++ [0xFF#8, 0xFE#8] ++ b1 (m / 2 ^ 16) ++
    b1 (m / 2 ^ 8) ++ b1 m

/-- The grandmaster's identity: the module's own where it is grandmaster (R424). -/
def gmIdentity (s : State) (d : Nat) : Bytes :=
  match (s.dom d).gmId with
  | some i => if domSource s d = 1 then (le 8 i).reverse else ownIdentity
  | none => ownIdentity

/-- Timescale, UTC validity and leap seconds as GET_TIME numbers them (Table 12.8). -/
def scaleFlags (x : Domain) : Nat := bit x.ptpScale 0 + bit x.utcValid 1 + bit x.leap61 2 + bit x.leap59 3

/-- What the messages of a domain carry (R397, R412): the class and accuracy of its state, its priorities. -/
def ptpOut (s : State) (d : Nat) : PtpOut :=
  let x := s.dom d
  { time := s.td d, number := tdNumber (s.app (.td d)), prio1 := tdPrio1 (s.app (.td d)), cls := clockClass s d
    acc := accuracy (bound s d), prio2 := tdPrio2 (s.app (.td d)), gm := gmIdentity s d, utc := x.utc
    flags := scaleFlags x }

/-- PTP_MESSAGE_SEND (R411, R414): kind 0 Sync, 1 Announce, both from a master port in trunk; 2 a delay
message. -/
def xPtpMessageSend (d port kind : Nat) (s : State) : State :=
  let st := portState s d port
  let p := s.ptpPort d port
  let c := s.portCfg port
  let iv := logTicks (if kind = 0 then prLogSync c else if kind = 1 then prLogAnn c else prLogDelay c)
  let due := match tfind p.sent kind with | some t => decide (t + iv ≤ s.mono) | none => true
  if fwRuns s ∧ domLive s d = true ∧ port ≤ 6 ∧ (s.port port).link = true ∧ due = true ∧
      ((kind ≤ 1 ∧ st = 6 ∧ tdTrunk (s.app (.td d)) = true) ∨ (kind = 2 ∧ st ≠ 3)) then
    let s := setPtpPort s d port { p with sent := tput p.sent kind s.mono }
    { portSent s port with sent := .ptp d port kind (ptpOut s d) :: s.sent }
  else s

/-- Two ports take part in a common VLAN (R418). -/
def shareVlan (s : State) (p q : Nat) : Bool :=
  (List.range 4).any fun i => (List.range 4).any fun j =>
    prVlan (s.portCfg p) i ≠ 0 && prVlan (s.portCfg p) i = prVlan (s.portCfg q) j

/-- PTP_EVENT_FORWARDED (R415): residence and correction in 2^-16 ns. -/
def xPtpEventForwarded (inPort outPort number : Nat) (residence correction : Int) (s : State) : State :=
  let ours := (List.range 4).any fun d => terminates s d inPort number
  if decide (2 ≤ s.boot.phase) && !ours && decide (inPort ≤ 6 ∧ outPort ≤ 6 ∧ inPort ≠ outPort) &&
      (s.port inPort).link && (s.port outPort).link && shareVlan s inPort outPort then
    let p2p := (List.range 4).find? fun d =>
      s.st (tdFid d) ≠ .off && (tdMask (tdCfg s d)).testBit inPort && tdProfile (tdCfg s d) = 2
    let delay := match p2p with
      | some d => fToInt (fMul (fAdd (s.ptpPort d inPort).delay (prAsym (s.portCfg inPort))) (fOfNat 65536))
      | none => 0
    let a := s.port inPort
    let s := s.setPort inPort { a with rx := satN 4 (a.rx + 1) }
    { portSent s outPort with sent := .ptpForward outPort (correction + residence + delay) :: s.sent }
  else s

/-- PTP_SOURCE_TIMEOUT (R403). -/
def xPtpSourceTimeout (d : Nat) (s : State) : State :=
  let x := s.dom d
  match x.slave with
  | some p =>
    let c := s.portCfg p
    let noSync := match x.syncAt with
      | some t => s.past t (3 * logTicks (prLogSync c)) | none => false
    let noAnn := match x.annAt with
      | some t => s.past t (prAnnTimeout c * logTicks (prLogAnn c)) | none => false
    if domSource s d = 1 ∧ (noSync = true ∨ noAnn = true) then
      let q := s.ptpPort d p
      let s := if noSync then setPtpPort s d p { q with missed := satN 4 (q.missed + 3) } else s
      sourceLost s d
    else s
  | none => s

/-! ## Lifecycle (R395, R396, R409 to R411) -/

/-- How many of P0 to P6 a mask names. -/
def portCount (m : Nat) : Nat := ((List.range 7).filter m.testBit).length

/-- The checks of R395 and R396 on a staged configuration; in edge every port of a mask may be a slave
port. -/
def tdCheck (d : Nat) (s : State) : State × Verdict :=
  let c := s.stg (.td d)
  let others := ((List.range 4).filter fun e => decide (e ≠ d) && s.st (tdFid e) ≠ .off).map (tdCfg s)
  let claim (f : Bytes → Bool) : Bool := f c && others.any f
  let bad :=
    others.any (fun o => tdTrunk o ≠ tdTrunk c) ||
    (!tdTrunk c && (decide (2 ≤ d) || decide (2 ≤ tdSource c) ||
      decide (2 < portCount (others.foldl (fun m o => m ||| tdMask o) (tdMask c))))) ||
    (tdBackup c && (tdTrunk c || decide (d ≠ 0))) ||
    claim (fun o => tdSource o = 2) || claim (fun o => tdSource o = 3) || claim tdPps ||
    decide (tdMasters c &&& tdMask c ≠ tdMasters c)
  (s,
    if bad then some (stBadParam, noField)
    else if tdBackup c && s.st (tdFid 1) ≠ .running then some (stWrongState, 0)
    else none)

/-- The commit instant (R409): any preset at once, its pulse not suppressed. -/
def tdCommit (d : Nat) (s : State) : State :=
  let s := beginStart s (tdFid d)
  let c := s.app (.td d)
  let x := s.dom d
  let s := s.setDom d
    { x with
      steps := 0, outliers := 0, good := 0, step := none, decide := false, cand := none, srcUp := false
      srcLost := false, slave := none, syncAt := none, annAt := none, twoStep := none, ppsEdge := none
      gmId := none, ports := [], freqHist := [(s.mono, x.freq)] }
  if tdPreset c then
    let s := setTime s d (T96.toSub (tdPresetTime c) * 65536)
    s.setDom d { s.dom d with decide := false }
  else s

/-- DOMAIN_START_COMMIT (R409): RUNNING 1 ms after the commit. -/
def xDomainStartCommit (d : Nat) (s : State) : State :=
  if s.st (tdFid d) = .starting ∧ s.past (s.fn (tdFid d)).since (msT 1) then
    changeState s (tdFid d) .running
  else s

/-- The source is released and the clock runs on, FREE (R410). -/
def tdRelease (s : State) (d : Nat) : State :=
  let e := (bound s d).getD 0
  let x := s.dom d
  let s := setClock s d
    { x with
      clk := 0, phase := 0, phaseLeft := 0, step := none, decide := false, cand := none, good := 0
      srcUp := false, srcLost := false, slave := none, syncAt := none, annAt := none, twoStep := none
      ppsEdge := none, gmId := none, ppsMute := none }
  let s := returnSrc s (160 + d)
  if d = 1 then backupEnd s e else s

/-- STOP (R410); nothing in it waits. -/
def tdStop (d : Nat) (s : State) : State :=
  finishStop (tdCheck d) (tdCommit d) (tdFid d) (tdRelease (beginStop s (tdFid d)) d)

/-- A processor-complex reset (R406, R411): PTP and GNSS lose their source, PPS_IN does not. -/
def tdCoreReset (s : State) : State :=
  let lose (s : State) (d : Nat) : State :=
    let k := domSource s d
    if k = 1 ∨ k = 2 then
      let e := (bound s d).getD 0
      if (s.dom d).clk = 4 then backupEnd s e else loseSource s d false
    else s
  forN 4 lose s

/-- BACKUP (R405): the difference to TD1 is slewed, its frequency term followed. -/
def backupTick (s : State) : State :=
  let x := s.dom 0
  if x.clk = 4 then
    let y := s.dom 1
    let diff : Int := (x.fine : Int) - y.fine
    let f := match x.override with | some v => v | none => y.freq
    s.setDom 0
      { x with freq := f, phaseLeft := -diff, phase := if diff < 0 then phaseMax else -phaseMax
               lastOff := diff / 65536 }
  else s

/-- One tick of the four clocks. -/
def domainsTick (s : State) : State :=
  forN 4 (fun s d => s.setDom d (s.dom d).tick) (backupTick s)

/-! ## Opcodes (R423 to R425, R428) -/

/-- TD_CONFIG (R423). -/
def opTdConfig : OpSpec where
  code := 0x0B00
  token := true
  len := fun _ => 44
  layout := tdChecks
  body := fun s p =>
    let d := byteAt p 0
    cfgAnswer s [tdFid d] fun s => s.setStg (.td d) p

/-- The error bound as four bytes. -/
def boundField (s : State) (d : Nat) : Bytes :=
  le 4 (match bound s d with | some e => min e 0xFFFFFFFE | none => 0xFFFFFFFF)

def ppsHold (s : State) (d : Nat) : Bool :=
  s.st (tdFid d) ≠ .off && tdPps (tdCfg s d) && decide ((s.dom d).clk = 3)

/-- GET_TIME (R392, R424). -/
def opGetTime : OpSpec where
  code := 0x0B01
  len := fun _ => 4
  layout := fun p => [ckRange p 0 1 0 3, ckZero p 1 3]
  body := fun s p =>
    let d := byteAt p 0
    let x := s.dom d
    okWith s
      (leT (s.td d) ++ le 8 s.mono ++ b1 x.clk ++ b1 (clockClass s d) ++ b1 (accuracy (bound s d)) ++
        b1 (scaleFlags x + bit x.override.isSome 4 + bit x.step.isSome 5 + bit (ppsHold s d) 6) ++
        leI 2 x.utc ++ zeros 2 ++ boundField s d ++ gmIdentity s d)

/-- RATE_OVERRIDE (R425). -/
def opRateOverride : OpSpec where
  code := 0x0B02
  token := true
  len := fun _ => 12
  layout := rateChecks
  body := fun s p =>
    let d := byteAt p 0
    let x := s.dom d
    if tbit (byteAt p 1) 0 then okAns (s.setDom d { x with override := none })
    else okAns (s.setDom d { x.setFreq (rd p 4 8) s.mono with override := some (rd p 4 8) })

/-- An offset in ns. -/
def offF (o : Int) : F32 := fOfQ o 16
/-- A frequency term in ppb from nominal. -/
def ppb (f : Nat) : F32 := fDiv (fMul (fOfInt ((f : Int) - 0x400000000)) (fOfNat 1000000000)) (fOfNat 0x400000000)

/-- TIME_STATUS (R428). -/
def opTimeStatus : OpSpec where
  code := 0x0B05
  len := fun _ => 4
  layout := fun p => [ckRange p 0 1 0 3, ckZero p 1 3]
  body := fun s p =>
    let d := byteAt p 0
    let x := s.dom d
    let held := if x.clk = 3 ∨ (x.clk = 1 ∧ x.acqFrom = 1) then (s.mono - x.boundAt) / 250000000 else 0
    okWith s
      (leT s.now ++ b1 (s.st (tdFid d)).code ++ b1 x.clk ++ b1 (tdSource (tdCfg s d)) ++ b1 (x.slave.getD 0xFF) ++
        leF (offF x.lastOff) ++ leF (ppb x.freq) ++ le 8 x.inc ++ le 4 held ++ boundField s d ++ le 4 x.steps ++
        le 4 x.outliers ++
        (List.range 7).flatMap fun q =>
          let t := s.ptpPort d q
          b1 q ++ b1 (portState s d q) ++ zeros 2 ++ leF t.delay ++ leF t.ratio ++ le 4 t.missed)

end Sys2Proof.Machine
end

