-- ==== Sys2Proof/Machine/Switch.lean ====
section
/-! DEFINITION. The network switch (12 R416 to R422, R426, R427): ports, bridging, egress queues and
gates, and their opcodes. -/

namespace Sys2Proof.Machine

/-- A port is enabled. -/
def portOn (s : State) (p : Nat) : Bool := prEnable (s.portCfg p)

/-- PORT_LINK (Table 12.12). -/
def linkTo (s : State) (p : Nat) (up : Bool) : State :=
  let x := s.port p
  if x.link = up then s
  else
    let s := s.setPort p { x with link := up }
    let data := b1 p ++ b1 (bit up 0) ++ zeros 2
    if up then emit s 0x0B03 0xFFFF data
    else
      let s := emitFault s 0x0B03 0xFFFF data
      [1, 0, 2, 3].foldl (fun s d =>
        if domSource s d = 1 ∧ (s.dom d).slave = some p then sourceLost s d else s) s

/-- PORT_LINK_CHANGE (R403, R416); in LULL and CALM every link is down (15 R497). -/
def xPortLinkChange (p : Nat) (up : Bool) (s : State) : State :=
  if p ≤ 8 ∧ 2 ≤ s.boot.phase ∧ (up = false ∨ (portOn s p = true ∧ s.pwr.state ≤ 1)) then linkTo s p up else s

/-- PORT_CONFIG_APPLY (R426): 10 ms after the reply; a change of enable or role retrains the link. -/
def xPortConfigApply (p : Nat) (s : State) : State :=
  let x := s.port p
  match x.pend with
  | [] => s
  | (due, c) :: r =>
    if due ≤ s.mono then
      let old := s.portCfg p
      let s := s.setPort p { x with cfg := some c, pend := r }
      if prEnable old ≠ prEnable c ∨ prRole old ≠ prRole c then linkTo s p false else s
    else s

/-! ## Gates (R419 to R422) -/

/-- ns from an entry on during which a queue's gate stays open; `fuel` entries are looked at. -/
def openRun (g : Bytes) (q : Nat) (i : Nat) : Nat → Nat
  | 0 => gtCycle g
  | fuel + 1 =>
    if (gtMask g i).testBit q then
      gtInterval g i + openRun g q (if i + 1 < gtCount g then i + 1 else 0) fuel
    else 0

/-- How long a queue's gate stays open from now, in ns; none where no list closes it. While a list is
about to be replaced its last entry is held (R421). -/
def openFor (s : State) (p q : Nat) : Option Nat :=
  let x := s.port p
  match x.gate with
  | none => none
  | some g =>
    let run := openRun g q x.entry (gtCount g)
    if gtCycle g + gtCycle g ≤ run + gtInterval g x.entry then none
    else some (run - (s.tdNs (gtDomain g) - x.entryNs))

/-- The time a frame takes on a port's line, in ns. -/
def lineNs (p len : Nat) : Nat := if p = 0 then (len * 8 + 9) / 10 else if p ≤ 6 then len * 8 else len * 800

/-- A frame may start on its queue (R420). -/
def mayStart (s : State) (p q len : Nat) : Bool :=
  match openFor s p q with
  | none => true
  | some t => decide (lineNs p len ≤ t)

/-- The next frame of strict priority that may start: the highest queue's oldest. -/
def nextFrame (s : State) (p : Nat) : Option (Nat × EthFrame) :=
  let l := (s.port p).queue
  ([7, 6, 5, 4, 3, 2, 1, 0].filterMap fun q => l.find? fun e => decide (e.1 = q)).find?
    fun e => mayStart s p e.1 e.2.length

/-- A port whose line is free sends its next frame. -/
def portSend (s : State) (p : Nat) : State :=
  let x := s.port p
  if x.queue.isEmpty || decide (s.mono < x.txFree) || !x.link then s
  else match nextFrame s p with
    | none => s
    | some e =>
      let s := s.setPort p
        { x with queue := x.queue.erase e, tx := satN 4 (x.tx + 1)
                 txFree := s.mono + (lineNs p e.2.length + 3) / 4 }
      { s with sent := .eth p e.1 e.2 :: s.sent }

/-- Every port at a tick. -/
def portsTick (s : State) : State := forN 9 portSend s

/-- The number of a list's cycle instant at or before now, and that instant, in ns of its domain. -/
def cycleIndex (s : State) (g : Bytes) : Nat := (s.tdNs (gtDomain g) + gtCycle g - gtPhase g) / gtCycle g
def cycleAt (s : State) (g : Bytes) : Nat := cycleIndex s g * gtCycle g + gtPhase g - gtCycle g

/-- GATE_ENTRY_EXPIRY (R419, R421, R422). -/
def xGateEntryExpiry (p : Nat) (s : State) : State :=
  let x := s.port p
  match x.gate with
  | none => s
  | some g =>
    if s.tdNs (gtDomain g) < x.entryNs + gtInterval g x.entry then s
    else if x.entry + 1 < gtCount g then
      portSend (s.setPort p { x with entry := x.entry + 1, entryNs := x.entryNs + gtInterval g x.entry }) p
    else if x.gatePend.isSome then s
    else
      let c := cycleAt s g
      let tick := s.mono - (s.tdNs (gtDomain g) - c) / 4
      if x.cycleTick + gtCycle g / 8 ≤ tick then
        portSend (s.setPort p { x with entry := 0, entryNs := c, cycle := c, cycleTick := tick }) p
      else s

/-- GATE_LIST_START (R421): a cycle instant of the new list, 1 ms after its command and not before the
old cycle's end. -/
def xGateListStart (p : Nat) (s : State) : State :=
  let x := s.port p
  match x.gatePend with
  | none => s
  | some (t, g) =>
    let c := cycleAt s g
    let near := decide (s.tdNs (gtDomain g) - c < 8)
    let above := match x.gate with
      | none => true
      | some o => decide (x.entry + 1 = gtCount o ∧ x.entryNs + gtInterval o x.entry ≤ s.tdNs (gtDomain o))
    if near && above && s.past t (msT 1) then
      let s := s.setPort p
        { x with gate := if gtEnable g then some g else none, gatePend := none, entry := 0, entryNs := c
                 cycle := c, cycleTick := s.mono }
      portSend (emit s 0x0B04 0xFFFF (b1 p ++ zeros 3 ++ le 4 (gtCycle g))) p
    else s

/-! ## Bridging (R417, R418) -/

/-- A port takes part in a VLAN, and with which entry. -/
def vlanEntry (s : State) (p v : Nat) : Option Nat :=
  (List.range 4).find? fun k => v ≠ 0 && prVlan (s.portCfg p) k = v

/-- A frame's egress on a port: tagged or not by the port's VLAN entry. -/
def egress (v : Nat) (f : EthFrame) (s : State) (p : Nat) : State :=
  match vlanEntry s p v with
  | none => s
  | some k =>
    let x := s.port p
    let g := { f with vlan := if (prUntagged (s.portCfg p)).testBit k then none else some v }
    portSend (s.setPort p { x with queue := x.queue ++ [(if f.vlan.isSome then f.pcp % 8 else 0, g)] }) p

/-- Forget what has aged out (R418). -/
def fdbFresh (s : State) : List Fdb := s.eth.fdb.filter fun e => !s.past e.tick (secT 300)

/-- An address has been seen on a port. -/
def learn (s : State) (mac v p : Nat) : State :=
  let l := (fdbFresh s).filter fun e => decide (e.mac ≠ mac ∨ e.vlan ≠ v)
  if mac / 2 ^ 40 % 2 = 1 ∨ 4096 ≤ l.length then { s with eth := { s.eth with fdb := l } }
  else { s with eth := { s.eth with fdb := l ++ [{ mac := mac, vlan := v, port := p, tick := s.mono }] } }

/-- Addresses a bridge does not forward: 01-80-C2-00-00-00 to -0F (R415; IEEE 802.1Q). -/
def reservedMac (m : Nat) : Bool := decide (m / 16 = 0x0180C200000)

/-- ETH_FRAME_RECEIVED (R412, R417, R418). -/
def xEthFrameReceived (p : Nat) (f : EthFrame) (s : State) : State :=
  let x := s.port p
  if !(decide (p ≤ 8 ∧ 2 ≤ s.boot.phase) && portOn s p && x.link) then s
  else
    let s := s.setPort p { x with rx := satN 4 (x.rx + 1), err := if f.fcsOk then x.err else satN 4 (x.err + 1) }
    let lost := { s.port p with drop := satN 4 (x.drop + 1) }
    let v := f.vlan.getD (prPvid (s.portCfg p))
    if !f.fcsOk || (vlanEntry s p v).isNone then s.setPort p lost
    else
      let s := learn s f.src v p
      if reservedMac f.dst || f.dst = Config.mac.toNat then s
      else
        let outs := (List.range 9).filter fun q => q ≠ p && portOn s q && (s.port q).link
        match s.eth.fdb.find? fun e => e.mac = f.dst && e.vlan = v with
        | some e => if outs.contains e.port then egress v f s e.port else s
        | none => outs.foldl (egress v f) s

/-! ## Opcodes (R426, R427) -/

/-- PORT_CONFIG (R426). -/
def opPortConfig : OpSpec where
  code := 0x0B03
  token := true
  len := fun _ => 28
  layout := portChecks
  body := fun s p =>
    let k := byteAt p 0
    let x := s.port k
    okAns (s.setPort k
      { x with pend := x.pend ++ [(s.mono + msT 10, p)], stored := if prStore p then some p else x.stored })

/-- GATE_CONFIG (R421, R427). -/
def opGateConfig : OpSpec where
  code := 0x0B04
  token := true
  len := fun p => 16 + 8 * byteAt p 3
  layout := gateChecks
  body := fun s p =>
    let k := byteAt p 0
    let x := s.port k
    okAns (s.setPort k
      { x with gatePend := some (s.mono, p), gateStored := if gtStore p then some p else x.gateStored })

end Sys2Proof.Machine
end

