-- ==== Sys2Proof/Machine/Functions.lean ====
section
/-! DEFINITION. Every function's START check, commit, stop and fault reaction by its identifier
(01 R28 to R33, R43; 15 R496; 17 R553). -/

namespace Sys2Proof.Machine

def fnCheck (f : Nat) (s : State) : State × Verdict :=
  let i := f % 256
  match f / 256 with
  | 0x03 => grpCheck s i
  | 0x06 => if i = 0 then planCheck s else guidCheck s
  | 0x07 => chanCheck s i
  | 0x08 => fusCheck s
  | 0x09 => pipeCheck s i
  | 0x0A => gnssCheck s
  | 0x0B => tdCheck i s
  | 0x0C => canCheck s i
  | _ => panelCheck s

def fnCommit (f : Nat) (s : State) : State :=
  let i := f % 256
  match f / 256 with
  | 0x03 => grpBegin s i
  | 0x06 => if i = 0 then planCommit s else guidCommit s
  | 0x07 => chanCommit s i
  | 0x08 => fusCommit s
  | 0x09 => pipeCommit s i
  | 0x0A => gnssCommit s
  | 0x0B => tdCommit i s
  | 0x0C => canCommit s i
  | _ => panelCommit s

/-- STOP of a function that is STARTING, RUNNING or FAULTED. -/
def fnStop (f : Nat) (s : State) : State :=
  let i := f % 256
  match f / 256 with
  | 0x03 => grpStop s i
  | 0x06 => if i = 0 then planStop s else guidStop s
  | 0x07 => chanStop s i
  | 0x08 => fusStop s
  | 0x09 => pipeStop s i
  | 0x0A => gnssStop s
  | 0x0B => tdStop i s
  | 0x0C => canStop s i
  | _ => panelStop s

/-- The reaction FAILOVER of a fault source that names a function (R33, 14 R463). -/
def fnFault (f : Nat) (s : State) : State :=
  let i := f % 256
  match f / 256 with
  | 0x03 => grpFault s i
  | 0x06 => if i = 0 then planFault s else guidFault s
  | 0x07 => chanFault s i
  | 0x08 => fusFault s
  | 0x09 => pipeFault s i
  | 0x0A => gnssFault s
  | 0x0B => s
  | 0x0C => canFault s i
  | _ => panelFault s

def activePairs (s : State) : Nat := ((List.range 4).filter fun i => decide ((s.pair i).role = .active)).length
def sparePairs (s : State) : Nat := ((List.range 4).filter fun i => decide ((s.pair i).role = .spare)).length
/-- Limited service: the state that event 7 set, or that of the loader (R43, 17 R565). -/
def limited (s : State) : Bool := s.boot.loaderServes || s.boot.limited

/-- A function that BREEZE admits (15 Table 15.1). -/
def breezeFid (f : Nat) : Bool := [0x07, 0x0B, 0x0C, 0x0A, 0x0E].contains (f / 256)
/-- A function that LULL and CALM leave running. -/
def lullFid (f : Nat) : Bool := [0x0B, 0x0C, 0x0E].contains (f / 256)
/-- A time domain or a CAN controller (17 R552, R553). -/
def timeOrCan (f : Nat) : Bool := f / 256 = 0x0B || f / 256 = 0x0C

/-- POWER_STATE (15 Table 15.9). -/
def powerEvent (s : State) (old new : Nat) : State :=
  emit s 0x0201 0xFFFF (b1 old ++ b1 new ++ b1 s.pwr.cause ++ b1 0)

/-- Any exit ends in RUN with its wake cause (15 R505). -/
def toRun (s : State) (cause : Nat) : State :=
  let old := s.pwr.state
  let s := { s with pwr := { s.pwr with state := 0, cause := cause, since := s.mono, wakeAt := none } }
  if old = 1 then powerEvent s 1 0 else s

/-- A START that needs RUN while the module is in BREEZE (15 R496); while entry to BREEZE is in
progress, entry completes first (15 R518). -/
def runFor (f : Nat) (s : State) : State :=
  if breezeFid f then s
  else
    let s := if s.pwr.entering = some 1 then
        powerEvent { s with pwr := { s.pwr with state := 1, entering := none, since := s.mono } } 0 1
      else s
    if s.pwr.state = 1 then toRun s 5 else s

/-- START (R30 to R32): the state, the status and its detail. -/
def startAny (f : Nat) (s : State) : State × Nat × Nat :=
  if limited s then (s, stWrongState, 0)
  else if decide (s.upd.journal = 2 ∨ s.upd.journal = 3) && !timeOrCan f then (s, stWrongState, 0)
  else startFn (fnCheck f) (fnCommit f) f (if (s.st f).idle then runFor f s else s)

/-- STOP (Table 1.9). -/
def stopAny (f : Nat) (s : State) : State :=
  match s.st f with
  | .off | .config => s
  | .stopping => cancelPend s f
  | _ => fnStop f s

/-- The lowest function that is not OFF and that does not pass a test. -/
def lowestNotOff (s : State) (admits : Nat → Bool) : Option Nat :=
  allFids.find? fun f => s.st f ≠ .off && !admits f

end Sys2Proof.Machine
end

