-- ==== Sys2Proof/Machine/Update.lean ====
section
/-! DEFINITION. The resident loader and image update (chapter 17): the journal, the header checks,
copy and check, and the opcodes of subsystem 0x0F. -/

namespace Sys2Proof.Machine

def State.setUpd (s : State) (u : Upd) : State := { s with upd := u }

/-! ## Images (R549 to R551) -/

def ihFlags (h : Bytes) : Nat := byteAt h 20
def ihSlot (h : Bytes) : Nat := byteAt h 21
def ihSchema (h : Bytes) : Nat := rd h 22 2
def ihVersion (h : Bytes) : Nat := rd h 24 4
def ihSecurity (h : Bytes) : Nat := rd h 28 2
def ihBody (h : Bytes) : Nat := rd h 32 4
def ihDigest (h : Bytes) : Bytes := slice h 48 48
def hardwareType : Nat := 0x0960A001

/-- The signature over header bytes 0 to 95 verifies against the key in the named slot (R550). -/
def signatureOk (h : Bytes) : Bool :=
  decide (ihSlot h ≤ 3) && Config.keyHeld (ihSlot h) && Config.ecdsaVerify (ihSlot h) (slice h 0 96) (slice h 96 96)

/-- The body of an image, header first. -/
def bodyOf (img : Bytes) : Bytes := (img.drop 256).take (ihBody img)
/-- A verified header and a matching body digest verify an image (R550). -/
def imageOk (img : Bytes) : Bool :=
  signatureOk (img.take 256) && decide (Config.sha384 (bodyOf img) = ihDigest img)

/-- The image region of NOR. -/
def norImage (s : State) : Bytes := s.upd.nor.getD Config.shippedImage

/-- Step 1 of Table 17.3: the failing header offset. -/
def headerFields (h : Bytes) : Option Nat :=
  let bound := tbit (ihFlags h) 0
  firstBad
    [(0, decide (rd h 0 2 = 0x4B49)), (2, decide (rd h 2 2 = 1)), (20, decide (ihFlags h ≤ 1)),
     ckZero h 30 2, (192, decide (slice h 192 64 = zeros 64)), ckRange h 32 4 1 268435200,
     (8, bound = decide (rd h 8 12 ≠ 0))]

/-- The checks of R551: the failing status and its detail, which counts from the parameters' start. -/
def headerCheck (s : State) (h : Bytes) : Option (Nat × Nat) :=
  match headerFields h with
  | some o => some (stBadParam, 4 + o)
  | none =>
    if rd h 4 4 ≠ hardwareType then some (stBinding, 0)
    else if tbit (ihFlags h) 0 ∧ rd h 8 12 ≠ Config.unitId.toNat then some (stBinding, 0)
    else if !signatureOk h then some (stIntegrity, 0)
    else if ihSecurity h < s.upd.floor then some (0x80, 0)
    else none

/-- Sectors of an image with a body of a length. -/
def sectorSize : Nat := 262144
def sectorsTotal (h : Bytes) : Nat := if h.isEmpty then 0 else (256 + ihBody h + sectorSize - 1) / sectorSize

/-! ## Copy and check (R557, R560 to R563) -/

/-- Copying: R553. -/
def updating (s : State) : Bool := s.upd.journal = 2 || s.upd.journal = 3

/-- UPDATE_COPY_BEGIN (R557). -/
def xUpdateCopyBegin (s : State) : State :=
  let u := s.upd
  if u.journal = 2 ∧ u.busy.isNone then s.setUpd { u with busy := some s.mono } else s

/-- UPDATE_SECTOR_DONE (R560): a sector is erased, programmed and read back. What the read-back of the flash gives is
the row's fact (log entry 50); a sector that does not match is written again. -/
def xUpdateSectorDone (readBackOk : Bool) (s : State) : State :=
  let u := s.upd
  if u.journal = 2 ∧ u.busy.isSome then
    let new := u.header ++ u.staging
    let n := u.sectors
    let old := norImage s
    let img := old.take (n * sectorSize) ++ slice new (n * sectorSize) sectorSize ++ old.drop ((n + 1) * sectorSize)
    let u := { u with nor := some img, busy := some s.mono }
    if readBackOk then
      if n + 1 < sectorsTotal u.header then s.setUpd { u with sectors := n + 1 }
      else s.setUpd { u with sectors := n + 1, journal := 3, nor := some (new.take ((n + 1) * sectorSize)) }
    else s.setUpd u
  else s

/-- UPDATE_CHECK_COMPLETE (R561 to R563). Whether the digest of the flash as the loader reads it matches is the row's
fact: `Upd.nor` holds what was programmed, not what a failing cell reads as (log entry 50). -/
def xUpdateCheckComplete (digestOk : Bool) (s : State) : State :=
  let u := s.upd
  if u.journal = 3 ∧ u.busy.isSome then
    if digestOk then
      let data := le 4 (ihVersion u.header) ++ le 4 u.sectors
      let again := s.boot.resumed
      let s := s.setUpd
        { u with
          journal := 0, header := [], next := 0, sectors := 0, retried := false, staging := [], busy := none
          floor := max u.floor (ihSecurity u.header), result := if again then 2 else 1 }
      let s := emit s 0x0F01 0xFFFF data
      if again then { s with boot := { s.boot with resumed := false } }
      else { s with boot := { s.boot with coreDue := some 4 } }
    else if u.retried then
      let s := s.setUpd { u with journal := 4, busy := none, result := 3 }
      let s := { s with boot := { s.boot with resumed := false } }
      raise s 14 0
    else s.setUpd { u with journal := 2, sectors := 0, retried := true, busy := some s.mono }
  else s

/-! ## Opcodes (R552, R555 to R559) -/

/-- R552. -/
def updateBlocked (s : State) : Option Nat := lowestNotOff s timeOrCan

/-- UPDATE_BEGIN (R555). -/
def opUpdateBegin : OpSpec where
  code := 0x0F00
  token := true
  len := fun _ => 260
  layout := fun p =>
    [ckMask p 0 1 1, ckZero p 1 3, (4, !tbit (byteAt p 0) 0 || decide (slice p 4 256 = zeros 256))]
  body := fun s p =>
    let u := s.upd
    let h := slice p 4 256
    match updateBlocked s with
    | some f => failAns s stWrongState f
    | none =>
      if updating s then failAns s stWrongState 0
      else if tbit (byteAt p 0) 0 then
        okWith (s.setUpd { u with journal := 0, header := [], next := 0, sectors := 0, staging := [] }) (zeros 8)
      else if u.journal = 1 ∧ u.header = h then okWith s (le 4 u.next ++ zeros 4)
      else match headerCheck s h with
        | some (st, d) => failAns s st d
        | none =>
          okWith (s.setUpd { u with
            journal := 1, header := h, next := 0, sectors := 0, retried := false, staging := [], busy := none })
            (zeros 8)

/-- UPDATE_BLOCK (R556). -/
def opUpdateBlock : OpSpec where
  code := 0x0F01
  token := true
  len := fun p => 8 + rd p 4 2
  layout := fun p => [ckRange p 4 2 1 65535, ckZero p 6 2]
  body := fun s p =>
    let u := s.upd
    let n := rd p 4 2
    match updateBlocked s with
    | some f => failAns s stWrongState f
    | none =>
      if u.journal ≠ 1 then failAns s stWrongState 0
      else if rd p 0 4 ≠ u.next then { s := s, st := 0x81, data := le 4 u.next ++ zeros 4 }
      else if ihBody u.header < u.next + n then badParam s 4
      else
        okWith (s.setUpd { u with staging := u.staging ++ slice p 8 n, next := u.next + n })
          (le 4 (u.next + n) ++ zeros 4)

/-- UPDATE_COMMIT (R557); while a perturbation is active it is answered WRONG_STATE (18 R579). -/
def opUpdateCommit : OpSpec where
  code := 0x0F02
  token := true
  len := fun _ => 4
  layout := fun p => [(0, decide (rd p 0 2 = 0x5AA5)), ckZero p 2 2]
  body := fun s _ =>
    let u := s.upd
    match updateBlocked s with
    | some f => failAns s stWrongState f
    | none =>
      if u.journal ≠ 1 ∨ s.tst.slots.isEmpty = false then failAns s stWrongState 0
      else if u.next < ihBody u.header then { s := s, st := 0x82, data := le 4 u.next }
      else if Config.sha384 u.staging ≠ ihDigest u.header then
        failAns (s.setUpd { u with journal := 0, header := [], next := 0, sectors := 0, staging := [] }) stIntegrity 0
      else okAns (s.setUpd { u with journal := 2, sectors := 0, retried := false, busy := none })

/-- The settings schema in MRAM. -/
def schemaNow (s : State) : Nat := s.upd.schema.getD (ihSchema (Config.shippedImage.take 256))

/-- UPDATE_STATUS (R558). -/
def opUpdateStatus : OpSpec where
  code := 0x0F03
  len := fun _ => 0
  body := fun s _ =>
    let u := s.upd
    okWith s
      (b1 u.journal ++ b1 u.result ++ le 2 (schemaNow s) ++ le 4 (ihVersion u.header) ++ le 4 (ihBody u.header) ++
        le 4 u.next ++ le 4 u.sectors ++ le 4 (sectorsTotal u.header) ++ le 2 u.floor ++ zeros 2)

end Sys2Proof.Machine
end

