-- ==== Sys2Proof/Machine/Reset.lean ====
section
/-! DEFINITION. What the resets do (01 R35 to R41, Table 1.10), the actuation-domain reset and the safe
stop (14 R478 to R480). -/

namespace Sys2Proof.Machine

/-! ## Power-on reset and RESET_N -/

/-- What MRAM, NOR and managed flash keep of a sensing input. -/
def InCfg.kept (c : InCfg) : InCfg := { stored := c.stored }

/-- What the sensing block keeps. -/
def Cse.kept (c : Cse) : Cse :=
  { imps := c.imps.map fun e => (e.1, { c := e.2.c.kept })
    ains := c.ains.map fun e => (e.1, { c := e.2.c.kept })
    fins := c.fins.map fun e => (e.1, { c := e.2.c.kept })
    poss := c.poss.map fun e => (e.1, { c := e.2.c.kept })
    imu := { c := c.imu.c.kept }
    sets := c.sets.map fun e => (e.1, { stored := e.2.stored }) }

/-- What the load switches keep: the switching cycles as last stored (08 Table 8.8). -/
def Lsw.kept (l : Lsw) : Lsw :=
  { chans := l.chans.map fun e => (e.1, { cycles := e.2.cyclesStored, cyclesStored := e.2.cyclesStored }) }

def Fus.kept (f : Fus) : Fus :=
  { ego := { stored := f.ego.stored }, slots := f.slots.map fun e => (e.1, { e.2 with busy := none }) }

def Gns.kept (g : Gns) : Gns :=
  { saved := g.saved, data := g.saved, pips := g.pips, pipNext := g.pipNext, jobs := g.jobs }

def Eth.kept (e : Eth) : Eth :=
  { ports := e.ports.map fun x => (x.1, { stored := x.2.stored, gateStored := x.2.gateStored }) }

def Pwr.kept (p : Pwr) : Pwr :=
  { stored := p.stored, capStored := p.capStored, allowStored := p.allowStored, ign := p.ign, ignAt := p.ignAt
    holders := p.holders.map fun e => (e.1, { reqStored := e.2.reqStored }) }

def Pnl.kept (p : Pnl) : Pnl :=
  { saved := p.saved, shown := p.shown, journal := p.journal, books := p.booksSaved, booksSaved := p.booksSaved
    unknown := p.unknown, run := none }

def Upd.kept (u : Upd) : Upd := { u with busy := none, result := 0, wp := false }

def Fcr.kept (f : Fcr) : Fcr :=
  { sevStored := f.sevStored, thresholdStored := f.thresholdStored, flog := f.flog, flogPos := f.flogPos
    recNum := f.recNum }

def Net.kept (n : Net) : Net := { counter := n.counter, slog := n.slog, slogNext := n.slogNext }

/-- The bytes of MRAM; SRAM and DRAM are lost. -/
def memKept (m : List Host.Cell) : List Host.Cell := memLose (memLose m 0 0x5FFFFFFF) 0x61000000 0xFFFFFFFFFFFF

/-- The module after power-on reset or RESET_N (Table 1.10): everything at reset but what MRAM, NOR and
managed flash keep. Phase 0 while the reset is held, 1 once the power-up sequence has begun. -/
def powerReset (phase : Nat) (bench : Bool) (s : State) : State :=
  { nonce := s.nonce
    boot :=
      { phase := phase, bench := bench, resetLow := s.boot.resetLow, refclk := s.boot.refclk
        feedA := s.boot.feedA, feedB := s.boot.feedB, kam := s.boot.kam, storeEmpty := s.boot.storeEmpty
        store := s.boot.store
        vlogA := s.boot.vlogA, vlogB := s.boot.vlogB, vkam := s.boot.vkam }
    net := s.net.kept
    fcr := s.fcr.kept
    stored := s.stored
    autoStart := s.autoStart
    mem := memKept s.mem
    cle := { slotsStored := s.cle.slotsStored }
    cse := s.cse.kept
    lsw := s.lsw.kept
    yield := { stored := s.yield.stored }
    fus := s.fus.kept
    gns := s.gns.kept
    eth := s.eth.kept
    pwr := s.pwr.kept
    pnl := s.pnl.kept
    upd := s.upd.kept
    sent := s.sent
    pending := s.pending }

/-- A supply, the clock and RESET_N let the power-up sequence begin (R41, R42). -/
def mayPowerUp (s : State) : Bool :=
  !s.boot.resetLow && s.boot.refclk && (s.boot.feedA || s.boot.feedB)

/-- POWER_ON_RESET (R42, 02 R54): MODE_BENCH is read as the reset is released. -/
def xPowerOnReset (bench : Bool) (s : State) : State :=
  if mayPowerUp s then powerReset 1 bench s else s

/-- RESET_N_FALL (R41): a low pulse, or its first part. Between 1 µs and 2 µs it either resets or does
nothing. -/
def xResetNFall (lowNs : Nat) (s : State) : State :=
  if s.pwr.state = 5 ∨ lowNs < 1000 then s
  else
    let (n, t) := s.draw
    let s := if lowNs < 2000 then t else s
    if lowNs < 2000 && !Config.freeBit n then s
    else powerReset 0 false { s with boot := { s.boot with resetLow := true } }

/-- RESET_N_RISE (R42). -/
def xResetNRise (bench : Bool) (s : State) : State :=
  if s.boot.resetLow then
    let s := { s with boot := { s.boot with resetLow := false } }
    if mayPowerUp s then powerReset 1 bench s else s
  else s

/-- REFCLK_LOSS (R41): as RESET_N held low, where the clock monitor runs; in OFF it does not (15 R500). -/
def xRefclkLoss (s : State) : State :=
  let s := { s with boot := { s.boot with refclk := false } }
  if s.pwr.state = 5 then s else powerReset 0 false s

/-- REFCLK_RETURN (R41). -/
def xRefclkReturn (bench : Bool) (s : State) : State :=
  if s.boot.refclk then s
  else
    let s := { s with boot := { s.boot with refclk := true } }
    if mayPowerUp s ∧ s.pwr.state ≠ 5 then powerReset 1 bench s else s

/-! ## The hold-up store (02 R59) -/

/-- 1.3 J. -/
def storeJ : F32 := 0x3FA66666
/-- The power the store carries: as last metered, and the 85 W of Table 2.6 before the first metering. Log
entry 53. -/
def storeW (s : State) : F32 := if fIsZero s.pwr.elec then fOfNat 85 else s.pwr.elec
/-- What the store has given since it began to carry the logic: its power times the seconds passed. -/
def storeGiven (s : State) : F32 :=
  match s.boot.storeFrom with
  | none => f0
  | some t => fDiv (fMul (storeW s) (fOfNat (s.mono - t))) (fOfNat 250000000)
/-- The energy in the store: full 50 ms after a feed has returned. -/
def storeNow (s : State) : F32 :=
  match s.boot.storeFrom with
  | some _ => fSub s.boot.store (storeGiven s)
  | none => if s.past s.boot.storeBack (msT 50) then storeJ else s.boot.store

/-- The higher of VLOG_A and VLOG_B is below 6.0 V. -/
def Boot.logicLow (b : Boot) : Bool := fLt b.vlogA (fOfNat 6) && fLt b.vlogB (fOfNat 6)
/-- The keep-alive rail, fed from the highest of the three feeds, is at 6.0 V or more (02 R58). -/
def Boot.keepAlive (b : Boot) : Bool := fLe (fOfNat 6) (fMax b.vkam (fMax b.vlogA b.vlogB))

/-- The store begins or ceases to carry the logic as the feeds' voltages change. -/
def storeStep (b : Boot) (s : State) : Boot :=
  match b.logicLow, b.storeFrom with
  | true, none => { b with store := storeNow s, storeFrom := some s.mono }
  | false, some _ => { b with store := fMax f0 (storeNow s), storeFrom := none, storeBack := s.mono }
  | _, _ => b

/-- HOLDUP_STORE_EXHAUSTED (02 R59): no logic feed has returned, and the store has given all it held. CALM and OFF
are kept by the keep-alive rail while it is up (02 R58). -/
def xHoldupStoreExhausted (s : State) : State :=
  if s.boot.logicLow ∧ fLe (storeNow s) f0 ∧ ¬ (3 ≤ s.pwr.state ∧ s.boot.keepAlive) then
    powerReset 0 false { s with boot := { s.boot with storeEmpty := true, store := f0 } }
  else s

/-! ## The actuation domain (01 R40, 04 R139, 08 R277) -/

/-- The actuation domain resets; its cause is the detail of FSRC19. -/
def actuationReset (cause : Nat) (s : State) : State :=
  let s := forN 24 chanReset (cleReset s)
  let s := forN 10 canLoopStop s
  pulse s 19 cause

/-- SUPERVISOR_CHECK_FAILED (01 R40): FSRC20, whose reaction makes the reset. -/
def xSupervisorCheckFailed (check : Nat) (s : State) : State :=
  if 2 ≤ s.boot.phase then pulse s 20 check else s

/-! ## Safe stop (14 R478 to R480) -/

/-- A channel takes its safe action and is FAULTED. -/
def chanSafeStop (s : State) (k : Nat) : State :=
  if s.st (chFid k) = .faulted then chanSafe s k else chanFault s k

/-- A raising at SAFE-STOP; for FSRC20 and FSRC51 the actuation-domain reset takes the place of the
loops' and channels' safe actions. -/
def safeStop (src : Nat) (s : State) : State :=
  let s :=
    if src = 20 then actuationReset 2 s
    else if src = 51 then actuationReset 3 s
    else forN 24 chanSafeStop (forN 64 grpFault s)
  let s := guidFault (planFault s)
  let f := s.fcr
  let srcs := if f.ssSrcs.contains src then f.ssSrcs else f.ssSrcs ++ [src]
  if f.safeStopped then { s with fcr := { f with ssSrcs := srcs } }
  else
    let s := { s with fcr := { f with safeStopped := true, ssSrcs := srcs, ssCause := src } }
    emitFault s 0x0D02 0xFFFF (b1 1 ++ b1 src ++ zeros 2)

/-- The condition ends once the latch of every source that holds it has been cleared (R479). -/
def safeStopLeave (s : State) : State :=
  let f := s.fcr
  if f.safeStopped then
    let rest := f.ssSrcs.filter fun n => (s.src n).latched
    let s := { s with fcr := { f with safeStopped := !rest.isEmpty, ssSrcs := rest } }
    if rest.isEmpty then emit s 0x0D02 0xFFFF (b1 0 ++ b1 f.ssCause ++ zeros 2) else s
  else s

/-! ## The processor complex (01 R36 to R38, Table 1.10) -/

/-- What of Baline a core reset ends (R36, 03 R89, R100): sessions, the token, commands taken up and not yet
completed, none of whose effect is applied, and the log entries that wait. The closing of each session is then logged
with cause 0, for which 03 Table 3.10 has none (DESIGN CHOICE, log entry 56). -/
def coreNet (s : State) : State :=
  let t : State := { s with net := { s.net with
    sessions := [], token := none, openReplies := [], isoRx := none, isoMsg := [], isoTx := [], held := [], swait := [] } }
  s.net.sessions.foldl (fun t x => logClosing t x 0) t

/-- What else of the firmware's own state a core reset loses: restores and checkpoints, holders' balances, an entry in
progress. No session is left open. -/
def coreLose (s : State) : State :=
  let idle : List (Nat × Holder) := s.pwr.holders.map fun e => (e.1, { e.2 with balance := f0 })
  let prs : List (Nat × Pair) := s.pairs.map fun e => (e.1, { e.2 with restores := none, checkpoint := none })
  { s with
    pairs := prs
    net := { s.net with sessions := [], token := none }
    pwr := { s.pwr with entering := none, heldWake := none, ignSeq := 0, holders := idle }
    upd := { s.upd with busy := if updating s then some s.mono else none } }

/-- The sequence begins again at the boot core's event 3 (R46). -/
def coreRestart (cause : Nat) (s : State) : State :=
  { s with boot := { s.boot with
      phase := 3, afterCore := true, afterCalm := false, coreDue := none, cause := cause
      coreResets := satN 4 (s.boot.coreResets + 1), loaderServes := false
      resumed := updating s } }

/-- The processor complex resets. -/
def coreReset (cause : Nat) (s : State) : State :=
  let s := slogAdd (coreNet (pairOutcomes s 4)) 4 (b1 cause ++ zeros 3)
  let s := forN 24 chanCoreReset (forN 64 grpCoreReset s)
  let s := gnssReset (fusReset (forN 8 pipeReset s))
  coreRestart cause (coreLose (tdCoreReset (guidReset (planReset s))))

/-- PROCESSOR_COMPLEX_RESET (R36): a reset that is due begins. -/
def xProcessorComplexReset (s : State) : State :=
  match s.boot.coreDue with
  | some c => if 3 ≤ s.boot.phase then coreReset c s else s
  | none => s

end Sys2Proof.Machine
end

