-- ==== Sys2Proof/Machine/Sparing.lean ====
section
/-! DEFINITION. Lockstep sparing (14 R481 to R488), the epoch firewall and refused accesses (01 R21 to
R23), checkpoints, the watchdog and the heartbeat (01 R18, 14 R467, R471). -/

namespace Sys2Proof.Machine

def Role.code : Role → Nat
  | .active => 0 | .spare => 1 | .fenced => 2 | .quarantine => 3

/-- PAIR_ROLE (Table 14.9). -/
def roleEvent (s : State) (i old : Nat) : State :=
  let n := (s.pair i).role.code
  let data := b1 i ++ b1 old ++ b1 n ++ b1 0 ++ le 4 s.fcr.epoch
  if n = 2 ∧ old ≠ 2 then emitFault s 0x0D01 0xFFFF data else emit s 0x0D01 0xFFFF data

/-- A pair changes role, and the change is reported. -/
def setRole (s : State) (i : Nat) (r : Role) : State :=
  let old := (s.pair i).role
  if old = r then s else roleEvent (s.setPair i { s.pair i with role := r }) i old.code

/-- The system epoch rises, and every pair in ACTIVE or SPARE but the declared one is granted it
(R482). -/
def raiseEpoch (s : State) (dead : Nat) : State :=
  let s := { s with fcr := { s.fcr with epoch := s.fcr.epoch + 1 } }
  forN 4 (fun s i =>
    let p := s.pair i
    if i ≠ dead ∧ (p.role = .active ∨ p.role = .spare) then s.setPair i { p with tag := s.fcr.epoch } else s) s

/-- FSRC5 follows the spares of a module that runs (R43, R486). -/
def spareSource (s : State) : State :=
  if sparePairs s = 0 then raise s 5 0 else returnSrc s 5

/-- A declaration ends in a processor-complex reset: the open records get that outcome (R484). -/
def lostPairs (s : State) : State :=
  { pairOutcomes s 4 with boot := { s.boot with coreDue := some 3 } }

/-- The first SPARE that may restore a pair's tasks and is not restoring another's (R483, R486). -/
def usableSpare (s : State) (tasks : Option Nat) : Option Nat :=
  (List.range 4).find? fun i =>
    let p := s.pair i
    p.role = .spare && p.restores.isNone && !(p.dead && p.lostTasks == tasks)

/-- A pair is declared dead (R482 to R484, R488). -/
def declareDead (i : Nat) (s : State) : State :=
  let p := s.pair i
  match p.role with
  | .quarantine => pairOutcome (setRole (raise (s.setPair i { p with failed := true }) 7 (i + 1)) i .fenced) i 0
  | .fenced =>
    let s := if p.dead then s
      else let s := raiseEpoch s i; s.setPair i { p with dead := true, declared := s.mono }
    pairOutcome s i 0
  | .spare =>
    let s := raiseEpoch s i
    let s := s.setPair i { p with dead := true, declared := s.mono, lostTasks := p.tasks, restores := none }
    let s := setRole s i .fenced
    if p.restores.isSome then lostPairs s else spareSource (pairOutcome s i 0)
  | .active =>
    let s := raiseEpoch s i
    let s := s.setPair i { p with dead := true, declared := s.mono, lostTasks := p.tasks }
    let s := setRole s i .fenced
    match usableSpare s p.tasks with
    | none => lostPairs s
    | some j => s.setPair j { s.pair j with restores := some i }

/-- LOCKSTEP_MISCOMPARE (R481, R472): the cores of a running pair differ at a fetch. -/
def xLockstepMiscompare (i address : Nat) (s : State) : State :=
  if i < 4 ∧ 7 ≤ s.boot.phase ∧ (s.pair i).role ≠ .fenced then
    raiseEnc s i 2 (address % 2 ^ 32) (i + 1, 3, address)
  else s

/-- FAILOVER_RESTORE_COMPLETE (R483, R484): the first spare that restores has the dead pair's tasks, from
its latest complete checkpoint, or has failed to. -/
def xFailoverRestoreComplete (ok : Bool) (s : State) : State :=
  match (List.range 4).find? fun j => (s.pair j).restores.isSome with
  | none => s
  | some j =>
    let p := s.pair j
    let i := p.restores.getD 0
    if ok then
      let d := s.pair i
      let s := s.setPair j
        { p with
          restores := none, tasks := d.tasks, checkpoint := d.checkpoint, buffer := d.buffer, image := d.image
          older := d.older, serviced := s.mono }
      let s := s.setPair i { s.pair i with tasks := none }
      spareSource (pairOutcome (setRole s j .active) i 2)
    else lostPairs (s.setPair j { p with restores := none })

/-- DEAD_PAIR_RESET (R486): 5 ms after its declaration the pair is reset alone; its source shows no error
again. -/
def xDeadPairReset (i : Nat) (s : State) : State :=
  let p := s.pair i
  if i < 4 ∧ p.dead = true ∧ p.role = .fenced ∧ p.failed = false ∧ s.past p.declared (msT 5) = true then
    returnSrc (setRole (s.setPair i { p with tasks := none, checkpoint := none, image := [], older := [] }) i
      .quarantine) i
  else s

/-- QUARANTINE_SELF_TEST_END (R486). -/
def xQuarantineSelfTestEnd (i : Nat) (pass : Bool) (s : State) : State :=
  let p := s.pair i
  if i < 4 ∧ p.role = .quarantine then
    if pass then spareSource (setRole (s.setPair i { p with tag := s.fcr.epoch }) i .spare)
    else setRole (raise (s.setPair i { p with failed := true }) 7 (i + 1)) i .fenced
  else s

/-! ## Refused transactions -/

/-- A write or an atomic access (14 Table 14.5). -/
def storing (access : Nat) : Bool := decide (access = 2 ∨ access = 4)

/-- The firewall passes a transaction of a pair (01 Table 1.3). Where the spare's own region and the self-test region
lie in SRAM is not given: Config, log entry 54. -/
def passes (s : State) (i tag access a : Nat) : Bool :=
  match (s.pair i).role with
  | .active => decide (tag = s.fcr.epoch)
  | .spare => decide (tag = s.fcr.epoch) && (!storing access || Config.inOwnRegion i a)
  | .fenced => false
  | .quarantine => decide (0x40B00000 ≤ a ∧ a ≤ 0x40BFFFFF) || Config.inTestRegion i a

/-- FIREWALL_DROP (01 R21, R485): a transaction that the pair's role does not pass. One dropped for its tag, or because
its pair is FENCED, raises FSRC6; one dropped for its target alone is counted as an occurrence of FSRC6. -/
def xFirewallDrop (i tag access address : Nat) (s : State) : State :=
  if i < 4 ∧ 2 ≤ s.boot.phase ∧ passes s i tag access address = false then
    let role := (s.pair i).role
    if role = .fenced ∨ (role ≠ .quarantine ∧ tag ≠ s.fcr.epoch) then
      returnSrc (raiseEnc s 6 2 (i + 1) (i + 1, access, address)) 6
    else s.setSrc 6 { s.src 6 with count := satN 4 ((s.src 6).count + 1) }
  else s

/-- The region of Table 1.4 that holds an address, by its base. -/
def regionBase (a : Nat) : Option Nat := (regions.find? fun r => decide (r.1 ≤ a ∧ a ≤ r.2.1)).map (·.1)

/-- A master reaches an address (Tables 1.4, 1.5). -/
def reaches (s : State) (master access a : Nat) : Bool :=
  match regionBase a with
  | none => false
  | some b =>
    let sram := b = 0x10000000
    let dram := b = 0x100000000
    let nor := b = 0x80000000
    match master with
    | 0x10 | 0x15 => sram
    | 0x11 | 0x12 | 0x14 | 0x16 => sram || dram
    | 0x13 => sram || dram || decide (b = 0x40700000)
    | 0x17 => !nor || !storing access || updating s
    | 0x1F => s.boot.bench
    | m => decide (1 ≤ m ∧ m ≤ 4) && (!nor || !storing access)

/-- ACCESS_REFUSED (01 R23): FSRC8, with the capture of the access. -/
def xAccessRefused (master access address : Nat) (s : State) : State :=
  if 2 ≤ s.boot.phase ∧ reaches s master access address = false then
    returnSrc (raiseEnc s 8 2 master (master, access, address)) 8
  else s

/-! ## Checkpoints, watchdog, heartbeat -/

/-- CHECKPOINT_WRITE (01 R18, R483): every 1 ms, the state of the pair's tasks into the buffer not used last. -/
def xCheckpointWrite (c : Checkpoint) (s : State) : State :=
  let i := c.pair
  let p := s.pair i
  let due := match p.checkpoint with | some t => s.past t (msT 1) | none => true
  if i < 4 ∧ fwRuns s = true ∧ p.role = .active ∧ due = true then
    s.setPair i { p with checkpoint := some s.mono, buffer := !p.buffer, image := c.task, older := p.image }
  else s

/-- WATCHDOG_SERVICE (R467). -/
def xWatchdogService (i : Nat) (s : State) : State :=
  let p := s.pair i
  if i < 4 ∧ fwRuns s = true ∧ p.role = .active then s.setPair i { p with serviced := s.mono } else s

/-- The active pair that has gone longest without servicing the watchdog. -/
def latePair (s : State) : Nat :=
  let l := (List.range 4).filter fun i => decide ((s.pair i).role = .active)
  l.foldl (fun m i => if (s.pair i).serviced < (s.pair m).serviced then i else m) (l.headD 0)

/-- WATCHDOG_EXPIRY (R467, R472): no pair has serviced it for 50 ms. -/
def xWatchdogExpiry (s : State) : State :=
  let l := (List.range 4).filter fun i => decide ((s.pair i).role = .active)
  if fwRuns s && decide (s.pwr.state ≤ 1) && l.all fun i => s.past (s.pair i).serviced (msT 50) then
    let m := latePair s + 1
    returnSrc (raiseEnc s 4 2 m (m, 0, 0)) 4
  else s

/-- HEARTBEAT_WRITE (R471): by an active pair, in RUN and BREEZE. -/
def xHeartbeatWrite (i : Nat) (s : State) : State :=
  if i < 4 ∧ fwRuns s = true ∧ s.pwr.state ≤ 1 ∧ (s.pair i).role = .active then
    { s with fcr := { s.fcr with beat := s.mono, aliveOn := true } }
  else s

/-- ALIVE_HEARTBEAT_TIMEOUT (R471). -/
def xAliveHeartbeatTimeout (s : State) : State :=
  if s.fcr.aliveOn ∧ s.past s.fcr.beat (msT 5) then { s with fcr := { s.fcr with aliveOn := false } } else s

end Sys2Proof.Machine
end

