-- ==== Sys2Proof/Machine/Boot.lean ====
section
/-! DEFINITION. Power-up and the restart after a processor-complex reset (01 R42 to R46, Table 1.12): one
row per event, the stored settings and their schema (17 R563, R565, R567). -/

namespace Sys2Proof.Machine

def State.phase (s : State) (n : Nat) : State := { s with boot := { s.boot with phase := n } }

/-- PLLS_LOCKED (event 2): the hardware blocks run; the stored severities and FCR_THRESHOLD are loaded
(14 R469, R491). -/
def xPllsLocked (s : State) : State :=
  if s.boot.phase = 1 then
    let f := s.fcr
    resample { s.phase 2 with
      mono := 0
      fcr := { f with sev := f.sevStored, threshold := f.thresholdStored.getD 2, epoch := 1, winStart := 0 } }
  else s

/-- LOADER_START (event 3): the loader region is write-protected from here on (17 R547). With a wrong
CRC-32C the boot core does not run the loader, and the sequence stands still. -/
def xLoaderStart (crcOk : Bool) (s : State) : State :=
  if s.boot.phase = 2 ∧ s.pwr.state ≤ 1 ∧ crcOk then
    let s := s.phase 3
    { s with upd := { s.upd with wp := true } }
  else s

/-- UPDATE_JOURNAL_READ (event 4): an update in progress holds the sequence here (17 R563). -/
def xUpdateJournalRead (s : State) : State :=
  if s.boot.phase = 3 ∧ s.boot.afterCore = false then
    let s := s.phase 4
    if updating s then
      { s with boot := { s.boot with resumed := true }, upd := { s.upd with busy := some s.mono } }
    else s
  else s

/-- DRAM_TRAINED (event 5). -/
def xDramTrained (s : State) : State :=
  if s.boot.phase = 4 ∧ s.boot.resumed = false then s.phase 5 else s

/-- FIRMWARE_IMAGE_VERIFIED (event 6, 17 R565). -/
def xFirmwareImageVerified (s : State) : State :=
  if s.boot.phase = 5 ∧ s.boot.loaderServes = false then
    let u := s.upd
    if imageOk (norImage s) ∧ u.journal ≠ 4 then
      let s : State := { s with boot := { s.boot with phase := 6, image := norImage s } }
      if (s.src 14).detail = 0 then returnSrc s 14 else s
    else if imageOk (u.header ++ u.staging) ∧ u.journal ≠ 4 then
      { s with
        boot := { s.boot with phase := 4, resumed := true, afterCore := false }
        upd := { u with journal := 2, sectors := 0, retried := false, busy := some s.mono } }
    else raise { s with boot := { s.boot with loaderServes := true } } 14 0
  else s

/-- CORE_RESET_DIGEST_CHECK (R46): the copy in DRAM against the header in NOR, once any update has been
resumed; where it does not match, the sequence runs from event 6. -/
def xCoreResetDigestCheck (s : State) : State :=
  if s.boot.phase = 3 ∧ s.boot.afterCore = true ∧ s.boot.resumed = false then
    if Config.sha384 (bodyOf s.boot.image) = ihDigest ((norImage s).take 256) ∧ s.boot.image ≠ [] then s.phase 6
    else { s with boot := { s.boot with phase := 5, afterCore := false } }
  else s

/-- The role of each pair, in the order PA to PD, and the number of ACTIVE pairs before it (R43). -/
def assignRoles (s : State) (pass : Nat → Bool) : Nat → Nat → List (Nat × Role × Nat)
  | _, 0 => []
  | n, k + 1 =>
    let i := 3 - k
    if !pass i then (i, .fenced, 0) :: assignRoles s pass n k
    else if n < 3 ∧ (s.pair i).dead = false then (i, .active, n) :: assignRoles s pass (n + 1) k
    else (i, .spare, 0) :: assignRoles s pass n k

/-- PAIR_ROLES_ASSIGNED (event 7, R43, 14 R486, R493). A pair FENCED since its quarantine self-test failed, and that
passes here after a processor-complex reset, is dead-marked and so becomes SPARE as R43 lets it, although 14 R486
keeps it FENCED until power-on reset: the spec settles the two nowhere, and the model follows R43 (DESIGN CHOICE,
log entry 54). -/
def xPairRolesAssigned (pa pb pc pd : Bool) (s : State) : State :=
  if s.boot.phase = 6 then
    let pass (i : Nat) : Bool := match i with | 0 => pa | 1 => pb | 2 => pc | _ => pd
    let s := s.phase 7
    let s := (assignRoles s pass 0 4).foldl (fun s e =>
      let p := s.pair e.1
      let s := s.setPair e.1
        { p with
          role := e.2.1, tag := s.fcr.epoch, tasks := if e.2.1 = .active then some e.2.2 else none
          serviced := s.mono, failed := decide (e.2.1 = .fenced), restores := none, checkpoint := none }
      roleEvent s e.1 p.role.code) s
    let s := match (List.range 4).find? fun i => !pass i with
      | some i => raise s 7 (i + 1)
      | none => returnSrc s 7
    let s := if activePairs s = 3 ∨ 0 < sparePairs s then spareSource s else s
    { s with boot := { s.boot with noActive := decide (activePairs s = 0), limited := decide (activePairs s < 3) } }
  else s

/-! ## Stored settings -/

/-- Every setting at its shipped value (17 R567). A time domain or CAN controller that runs keeps what it
runs by. -/
def shipped (s : State) : State :=
  let live (t : Tbl Obj Bytes) : Tbl Obj Bytes :=
    t.filter fun e => match objFid e.1 e.2 with | some f => decide (s.st f ≠ .off) | none => false
  let fns : List (Nat × Fn) := s.fns.map fun e =>
    (e.1, { e.2 with everApplied := e.2.everApplied && decide (e.2.st ≠ .off) })
  let c := s.cse
  let imps : List (Nat × Imp) := c.imps.map fun e => (e.1, { e.2 with c := {} })
  let ains : List (Nat × Ain) := c.ains.map fun e => (e.1, { e.2 with c := {} })
  let fins : List (Nat × Fin8) := c.fins.map fun e => (e.1, { e.2 with c := {} })
  let poss : List (Nat × PosIn) := c.poss.map fun e => (e.1, { e.2 with c := {} })
  let ports : List (Nat × Port) := s.eth.ports.map fun e =>
    (e.1, { e.2 with cfg := none, pend := [], stored := none, gate := none, gatePend := none, gateStored := none })
  let studs : List (Nat × Stud) := s.lsw.studs.map fun e => (e.1, { e.2 with allow := 0x43160000 })
  let hold : List (Nat × Holder) := s.pwr.holders.map fun e => (e.1, { e.2 with req := none, reqStored := none })
  { s with
    stored := [], autoStart := [(0x0C02, true)], staged := live s.staged, applied := live s.applied, fns := fns
    cle := { s.cle with slots := [], slotsStored := [] }
    cse := { c with
      imps := imps, ains := ains, fins := fins, poss := poss, imu := { c.imu with c := {} }, sets := [] }
    eth := { s.eth with ports := ports }
    lsw := { s.lsw with studs := studs }
    yield := { s.yield with cfg := none, pend := none, stored := none }
    fus := { s.fus with ego := { s.fus.ego with cfg := none, pend := none, stored := none } }
    fcr := { s.fcr with sev := [], sevStored := [], threshold := 2, thresholdStored := none }
    pwr := { s.pwr with
      latency := 50, ignAction := 0, ignDelay := 5000, stored := none, cap := 0x42AA0000, capStored := none
      allowStored := [], holders := hold }
    pnl := { s.pnl with frames := [], saved := [] } }

/-- The first start after an update: the image's schema against the stored one (17 R567). -/
def schemaCheck (s : State) : State :=
  let n := ihSchema (s.boot.image.take 256)
  let o := schemaNow s
  if n = o then s
  else
    let s := shipped s
    { s with upd := { s.upd with schema := some n, defaulted := some (o, n) } }

/-- A stored input configuration comes into force; the reset values apply where nothing is stored (06 R198). -/
def loadInput (sel : Nat) (s : State) (k : Nat) : State :=
  match (inCfg s sel k).stored with
  | some p => commitInput s sel k p
  | none => setInCfg s sel k { inCfg s sel k with cur := some (inputDefault sel k) }

/-- What is in force outside the lifecycle comes from MRAM. -/
def loadStored (s : State) : State :=
  let s := { s with cle := { s.cle with slots := s.cle.slotsStored } }
  let s := loadInput 5 (forN 32 (loadInput 4) (forN 4 (loadInput 3) (forN 8 (loadInput 2) (forN 16 (loadInput 1) s)))) 0
  let sets : List (Nat × CSet) := s.cse.sets.map fun e =>
    (e.1, { e.2 with cur := e.2.stored, old := e.2.stored, commitAt := s.mono })
  let ports : List (Nat × Port) := s.eth.ports.map fun e =>
    (e.1, { e.2 with cfg := e.2.stored, gatePend := e.2.gateStored.map fun g => (s.mono, g) })
  let hold : List (Nat × Holder) := s.pwr.holders.map fun e => (e.1, { e.2 with req := e.2.reqStored })
  let (lat, act, del) := s.pwr.stored.getD (50, 0, 5000)
  let notch := tget (defCfg (.notch 0)) s.stored (.notch 0)
  let s : State := { s with
    cse := { s.cse with sets := sets }
    eth := { s.eth with ports := ports }
    yield := { s.yield with cfg := s.yield.stored }
    pwr := { s.pwr with
      latency := lat, ignAction := act, ignDelay := del, cap := s.pwr.capStored.getD 0x42AA0000, holders := hold } }
  let s := s.pwr.allowStored.foldl (fun s e => s.setStud e.1 { s.stud e.1 with allow := e.2 }) s
  (s.setStg (.notch 0) notch).setApp (.notch 0) notch

/-- Stored settings are staged for every function that is OFF and has never been applied (R29). -/
def stageStored (s : State) : State :=
  allFids.foldl (fun s f => if s.st f = .off ∧ (s.fn f).everApplied = false then restage s f else s) s

/-- The two VREF5 supplies switched on or off (02 R63). -/
def vrefBoth (on : Bool) (s : State) : State :=
  let s := if on then s else returnSrc (returnSrc s 52) 53
  let v (now : Nat) : Nat := if on then max now 1 else 0
  { s with boot := { s.boot with vrefA := v s.boot.vrefA, vrefB := v s.boot.vrefB } }

/-- FIRMWARE_RUNNING (event 8). After a processor-complex reset what ran through it keeps what it had. -/
def xFirmwareRunning (s : State) : State :=
  if s.boot.phase = 7 ∧ 0 < activePairs s then
    let s := (schemaCheck s).phase 8
    let s := egoLoad (if s.boot.loaded then s else loadStored s)
    let s : State := { s with boot := { s.boot with loaded := true } }
    let s := vrefBoth true (stageStored s)
    let prs : List (Nat × Pair) := s.pairs.map fun e => (e.1, { e.2 with serviced := s.mono })
    let s : State := { s with pairs := prs, fcr := { s.fcr with beat := s.mono, aliveOn := true } }
    panelBoot (antennaUpdate (forN 10 firmwareTakes s))
  else s

/-- BALINE_SERVED (event 9). -/
def xBalineServed (s : State) : State := if s.boot.phase = 8 then s.phase 9 else s

/-- The command an automatic start stands for while it is pending: session 0 names no session. -/
def autoCause : Nat × Nat := (0, 0)

/-- One function with auto-start set, as if the host had sent START (R45, R46). In STOPPING it is deferred, and its
outcome comes as the stop ends (R32). -/
def autoOne (s : State) (f : Nat) : State :=
  if s.boot.afterCore && decide (s.st f ≠ .off) then s
  else if limited s || (updating s && !timeOrCan f) then startOutcome s f none stWrongState
  else match s.st f with
    | .off | .config =>
      (match fnCheck f (runFor f s) with
      | (s, some (st, _)) => startOutcome s f none st
      | (s, none) => fnCommit f (startOutcome s f none stOk))
    | .stopping =>
      if (s.fn f).pend = none then s.setFn f { s.fn f with pend := some autoCause }
      else startOutcome s f none stBusy
    | _ => startOutcome s f none stWrongState

/-- AUTO_START (event 10); a CALM exit ends with event 9 (15 R498). -/
def xAutoStart (s : State) : State :=
  if s.boot.phase = 9 ∧ s.boot.afterCalm = false then
    (allFids.filter fun f => tget false s.autoStart f).foldl autoOne (s.phase 10)
  else s

end Sys2Proof.Machine
end

