-- ==== Sys2Proof/Machine/Power.lean ====
section
/-! DEFINITION. Power states, wake, supplies and budget scheduling (chapter 15; 02 R58, R59, R63), and the
opcodes of subsystem 0x02. -/

namespace Sys2Proof.Machine

def State.setPwr (s : State) (p : Pwr) : State := { s with pwr := p }

/-! ## Wake (R498, R499, R505) -/

/-- The module leaves LULL or CALM, or BREEZE by command or IGN. After CALM the sequence goes on from
event 3 (R498). From OFF it goes through a power-on reset (R500), at which MODE_BENCH reads free. -/
def wakeNow (c : Nat) (s : State) : State :=
  match s.pwr.state with
  | 1 => if c = 1 ∨ c = 5 then toRun s c else s
  | 2 => if c = 5 then s else vrefBoth true (toRun s c)
  | 3 => if c = 5 ∨ c = 4 then s else resample (toRun s c)
  | 5 =>
    if c = 1 ∧ mayPowerUp s then
      let s := powerReset 1 (Config.freeBit s.draw.1) s.draw.2
      s.setPwr { s.pwr with cause := 1 }
    else s
  | _ => s

/-- A wake during entry is held until the state is reached (R503). -/
def wake (c : Nat) (s : State) : State :=
  match s.pwr.entering with
  | some _ => if s.pwr.heldWake.isNone then s.setPwr { s.pwr with heldWake := some c } else s
  | none => wakeNow c s

/-- CAN_WAKE_PATTERN (R505, Table 13.6). -/
def xCanWakePattern (k : Nat) (s : State) : State :=
  let low (n : Nat) : Bool := n = 2 || n = 3
  let at_ := low s.pwr.state || (match s.pwr.entering with | some t => low t | none => false)
  if k < 10 && at_ && nWake (s.canCfg k) then wake 2 s else s

/-- WAKE_TIMER_EXPIRY (R505). -/
def xWakeTimerExpiry (s : State) : State :=
  match s.pwr.wakeAt with
  | some t => if t ≤ s.mono ∧ (s.pwr.state = 2 ∨ s.pwr.state = 3) then wake 3 s else s
  | none => s

/-- A raising at or above FCR_THRESHOLD (R505): LULL only. -/
def faultWake (s : State) : State :=
  if s.pwr.state = 2 ∨ s.pwr.entering = some 2 then wake 4 s else s

/-! ## Entry (R495 to R503) -/

/-- The functions that may be other than OFF in a state (Table 15.1, R501). -/
def stateAdmits (t f : Nat) : Bool :=
  if t = 1 then breezeFid f
  else if t = 5 then !(f / 256 = 0x03 || f / 256 = 0x07)
  else lullFid f

/-- Exit latencies in µs, lowest-power state first, and the state DEEPEST selects (R502); none: RUN. -/
def deepest (s : State) : Option Nat :=
  ([(3, 400000), (2, 20000), (1, 50)].find? fun e =>
    decide (e.2 ≤ s.pwr.latency) && (lowestNotOff s (stateAdmits e.1)).isNone).map (·.1)

/-- Entry begins (R503). -/
def enter (t wakeMs : Nat) (s : State) : State :=
  if s.pwr.state = t then s
  else s.setPwr { s.pwr with entering := some t, heldWake := none, wakeMs := wakeMs }

/-- At entry to LULL, CALM or OFF every session is closed (R497). -/
def sleepSessions (s : State) : State :=
  match s.pwr.entering with
  | some t => if 2 ≤ t then (s.net.sessions.map (·.num)).foldl (fun s n => closeSession s n 2) s else s
  | none => s

/-- All Ethernet links go down, the domains the firmware serves lose their source, no controller sends
or receives, and CSE produces no values (R497, 13 R433, 06 R197). -/
def quieten (s : State) : State :=
  let s := forN 32 impPause (forN 9 (fun s p => linkTo s p false) s)
  vrefBoth false (forN 10 canSleep (tdCoreReset s))

/-- What CALM does not keep (R498, R499): SRAM, DRAM and every block but PWR, FCR, the domain clocks and the
functions CALM admits. A domain that still has a source loses it. -/
def calmLoss (s : State) : State :=
  let s := forN 4 (fun s d => if (s.dom d).srcUp then sourceLost s d else s) s
  { s with
    boot := { s.boot with phase := 2, afterCalm := true, afterCore := false, image := [], loaded := false }
    net := s.net.kept
    mem := memKept s.mem
    cle := { slotsStored := s.cle.slotsStored }
    cse := s.cse.kept
    lsw := s.lsw.kept
    planner := {}
    guid := {}
    headwind := none
    yield := { stored := s.yield.stored }
    fus := s.fus.kept
    cam := {}
    gns := s.gns.kept
    eth := s.eth.kept
    pnl := s.pnl.kept
    upd := { s.upd with busy := none }
    fcr := { s.fcr with aliveOn := false } }

/-- What the state entered does not keep. -/
def entered (s : State) (t : Nat) (at_ : State → State) : State :=
  if t = 1 then powerEvent (at_ s) s.pwr.state 1
  else if t = 2 then at_ (quieten s)
  else if t = 3 then at_ (calmLoss (quieten s))
  else
    let s := powerReset 0 false s
    s.setPwr { s.pwr with state := 5 }

/-- POWER_STATE_ENTRY_COMPLETE (R503). The panel finishes its row before LULL, CALM and OFF. -/
def xPowerStateEntryComplete (s : State) : State :=
  match s.pwr.entering with
  | none => s
  | some t =>
    if 2 ≤ t ∧ s.pnl.run.isSome = true then s
    else
      let wakeAt := if s.pwr.wakeMs = 0 then none else some (s.mono + msT s.pwr.wakeMs)
      let n := entered s t fun u =>
        u.setPwr { u.pwr with state := t, entering := none, heldWake := none, since := u.mono, wakeAt := wakeAt }
      match s.pwr.heldWake with
      | some c => wakeNow c n
      | none => n

/-! ## IGN (R504, R505) -/

/-- IGN_RISE: high for 10 ms. An IGN sequence is abandoned. -/
def xIgnRise (s : State) : State :=
  wake 1 (s.setPwr { s.pwr with ign := true, ignDone := true, ignSeq := 0 })

/-- IGN_FALL. -/
def xIgnFall (s : State) : State :=
  if s.pwr.ign then s.setPwr { s.pwr with ign := false, ignAt := s.mono, ignDone := false } else s

/-- As PWR_REQUEST_STATE DEEPEST with no wake time; a failed admission is sent (R504). -/
def ignDeepest (s : State) : State :=
  match deepest s with
  | some t => enter t 0 s
  | none => powerEvent s s.pwr.state 0xFF

/-- The functions IGN_ACTION 2 stops first, in its order, and the load channels. -/
def ignFirst : List Nat := allFids.filter fun f => f / 256 = 0x06
def ignRest : List Nat :=
  (allFids.filter fun f => f / 256 = 0x03) ++ [fusFid] ++ (List.range 8).map pipeFid ++ [gnssFid]
def grpFidList : List Nat := (List.range 64).map gFid
def chanFids : List Nat := (List.range 24).map chFid

/-- The next stage of the stop sequence: the channels once every loop group is OFF, and the state once
everything it stopped has stopped. -/
def ignProgress (s : State) : State :=
  let idle (l : List Nat) : Bool := l.all fun f => (s.st f).idle
  if s.pwr.ignSeq = 1 ∧ idle grpFidList then
    chanFids.foldl (fun s f => stopAny f s) (s.setPwr { s.pwr with ignSeq := 2 })
  else if s.pwr.ignSeq = 2 ∧ idle (ignFirst ++ ignRest ++ chanFids) then
    ignDeepest (s.setPwr { s.pwr with ignSeq := 0 })
  else s

/-- IGN_OFF_DELAY_EXPIRY (R504); held while an update copies or checks (17 R553). -/
def xIgnOffDelayExpiry (s : State) : State :=
  let p := s.pwr
  if !p.ign && !p.ignDone && s.past p.ignAt (msT p.ignDelay) && !updating s && fwRuns s &&
      decide (p.state ≤ 1) && p.entering.isNone then
    let s := s.setPwr { p with ignDone := true }
    match p.ignAction with
    | 0 => s
    | 1 => ignDeepest s
    | _ =>
      let s := (ignFirst ++ ignRest).foldl (fun s f => stopAny f s) s
      s.setPwr { s.pwr with ignSeq := 1 }
  else s

/-! ## Supplies (02 R58, R63) -/

/-- The state of a feed: 0 VLOG_A, 1 VLOG_B, 2 VKAM. -/
def Boot.fed (b : Boot) (feed : Nat) : Bool := if feed = 0 then b.feedA else if feed = 1 then b.feedB else b.kam
/-- The range of VLOG_A, VLOG_B and VKAM (02 Table 2.6). -/
def feedInRange (volts : F32) : Bool := fLe (fOfNat 6) volts && fLe volts (fOfNat 36)
def Boot.feedTo (b : Boot) (feed : Nat) (volts : F32) : Boot :=
  if feed = 0 then { b with feedA := feedInRange volts, vlogA := volts }
  else if feed = 1 then { b with feedB := feedInRange volts, vlogB := volts }
  else { b with kam := feedInRange volts, vkam := volts }

/-- Another feed is in range: for VKAM one of the logic feeds. -/
def Boot.fedElse (b : Boot) (feed : Nat) : Bool :=
  if feed = 0 then b.feedB else if feed = 1 then b.feedA else b.feedA || b.feedB

/-- A change of a feed is reported, as a fault event where another feed holds; FSRC50 shows a logic feed that is out
of range (R58). -/
def feedReport (feed : Nat) (inRange : Bool) (volts : F32) (s : State) : State :=
  let data := b1 feed ++ b1 (bit inRange 0) ++ zeros 2 ++ leF volts
  let s :=
    if inRange then emit s 0x0205 0xFFFF data
    else if s.boot.fedElse feed then emitFault s 0x0205 0xFFFF data else s
  if feed = 2 then s
  else setErr s 50 (!(s.boot.feedA && s.boot.feedB)) (if s.boot.feedA then 2 else 1)

/-- LOGIC_FEED_RANGE_CHANGE (02 R58, R59): the voltage of a feed, which says whether the feed is in range, and which
the store follows. -/
def xLogicFeedRangeChange (feed : Nat) (inRange : Bool) (volts : F32) (s : State) : State :=
  if inRange ≠ feedInRange volts then s
  else
    let b := storeStep (s.boot.feedTo feed volts) s
    let t : State := { s with boot := { b with storeEmpty := b.storeEmpty && !(b.feedA || b.feedB) } }
    if 2 < feed ∨ s.boot.phase < 2 ∨ s.boot.fed feed = inRange then t else feedReport feed inRange volts t

/-- VREF5_LIMIT_TIMEOUT (02 R63). -/
def xVref5LimitTimeout (v : Nat) (s : State) : State :=
  if v = 0 ∧ s.boot.vrefA = 1 then
    raise { s with boot := { s.boot with vrefA := 2, vrefAt := s.mono } } 52 0
  else if v = 1 ∧ s.boot.vrefB = 1 then
    raise { s with boot := { s.boot with vrefB := 2, vrefBt := s.mono } } 53 0
  else s

/-- VREF5_RETRY (02 R63). -/
def xVref5Retry (v : Nat) (ok : Bool) (s : State) : State :=
  if v = 0 ∧ s.boot.vrefA = 2 ∧ s.past s.boot.vrefAt (secT 1) then
    if ok then returnSrc { s with boot := { s.boot with vrefA := 1 } } 52
    else { s with boot := { s.boot with vrefAt := s.mono } }
  else if v = 1 ∧ s.boot.vrefB = 2 ∧ s.past s.boot.vrefBt (secT 1) then
    if ok then returnSrc { s with boot := { s.boot with vrefB := 1 } } 53
    else { s with boot := { s.boot with vrefBt := s.mono } }
  else s

/-! ## Heat (02 R67, R508) -/

/-- P_HEAT at a base temperature. -/
def pHeatAt (t : F32) : F32 :=
  if fLt (fOfNat 95) t then fOfNat 40
  else if fLt (fOfNat 80) t then fSub (fOfNat 85) (fMul (fOfNat 3) (fSub t (fOfNat 80)))
  else fOfNat 85

/-- HEAT_ALLOWANCE (Table 15.9): at most once a second. -/
def heatReport (s : State) : State :=
  let p := s.pwr
  let step := (fFloorInt (fDiv p.pHeat (fOfNat 5))).toNat
  let due := match p.heatSent with | some t => s.past t (secT 1) | none => true
  if (p.heat = p.heatRep ∧ step = p.heatStep) ∨ due = false then s
  else
    let s := s.setPwr { p with heatSent := some s.mono, heatRep := p.heat, heatStep := step }
    emit s 0x0203 0xFFFF (leF p.pHeat ++ leF p.base)

/-- BASE_TEMPERATURE_SAMPLE (02 R67, R508). -/
def xBaseTemperatureSample (t0 t1 t2 t3 : F32) (s : State) : State :=
  if s.boot.phase < 2 ∨ 3 ≤ s.pwr.state then s
  else
    let base := fMax (fMax t0 t1) (fMax t2 t3)
    let s := s.setPwr
      { s.pwr with temps := [t0, t1, t2, t3], base := base, pHeat := pHeatAt base, heat := fLt (fOfNat 80) base }
    setErr (heatReport s) 51 (fLe (fOfNat 100) base) (fToInt (fMul base (fOfNat 10))).toNat

/-! ## Budgets (R509 to R513) -/

/-- A grant comes into force at a window start (R509 to R512). -/
def grantTo (s : State) (h : Nat) (g : Option F32) : State :=
  let x := s.holder h
  let w := g.getD f0
  let full := fDiv w (fOfNat 10)
  let s := s.setHolder h { x with grant := w, balance := fMin (fAdd x.balance full) full, stopped := x.stopped && g.isNone }
  match g, holderFid h with
  | none, some f =>
    match s.st f with
    | .starting | .running | .faulted =>
      let s := emitFault s 0x0202 f (b1 h ++ zeros 3 ++ leF w)
      stopAny f (s.setHolder h { s.holder h with stopped := true })
    | _ => s
  | _, _ => s

/-- A holder in a window: what it is granted, or nothing where it is not present. -/
def grantStep (l : List (Nat × Option F32)) (s : State) (h : Nat) : State :=
  match l.find? fun e => e.1 = h with
  | some e => grantTo s h e.2
  | none => s.setHolder h { s.holder h with grant := f0, balance := fMin (s.holder h).balance f0 }

/-- A stud's allowance comes into force (R515). -/
def allowStep (s : State) (e : Nat × F32) : State :=
  admitStud (s.setStud e.1 { s.stud e.1 with allow := e.2 }) e.1

/-- BUDGET_WINDOW (R509): at the start of every window of 100 ms. -/
def xBudgetWindow (s : State) : State :=
  let w := s.mono / msT 100 + 1
  if fwRuns s ∧ s.pwr.state ≤ 1 ∧ s.pwr.window ≠ w then
    let s := s.setPwr { s.pwr with window := w, cap := s.pwr.capNext.getD s.pwr.cap, capNext := none }
    let s := s.pwr.allowNext.foldl allowStep s
    let s := s.setPwr { s.pwr with allowNext := [] }
    let l := grantsFor s (present s)
    let s := holderCodes.foldl (grantStep l) s
    let s := if present s 1 then { s with fus := { s.fus with rateWant := rateWithin s (s.holder 1).grant } } else s
    heatReport s
  else s

/-- ENERGY_METER (R510): what each holder has consumed in 1 ms, in J, and the powers measured. -/
def xEnergyMeter (use : List (Nat × F32)) (elec diss : F32) (s : State) : State :=
  if fwRuns s ∧ s.past s.pwr.meter (msT 1) then
    let s := s.setPwr
      { s.pwr with
        meter := s.mono, elec := elec, diss := diss
        elecs := (s.mono, elec) :: s.pwr.elecs.filter fun r => decide (s.mono < r.1 + secT 1) }
    (use.filter fun e => holderCodes.contains e.1).foldl (fun s e =>
      let x := s.holder e.1
      s.setHolder e.1
        { x with
          balance := fSub x.balance e.2
          recent := (s.mono, e.2) :: x.recent.filter fun r => decide (s.mono < r.1 + secT 1) }) s
  else s

/-- A holder's use over the last 1 s, and its debt. -/
def useOf (s : State) (h : Nat) : F32 := fSum (lastSecond s (s.holder h).recent)
def debtOf (s : State) (h : Nat) : F32 :=
  let b := (s.holder h).balance
  if fLt b f0 then fNeg b else f0

/-- Table 15.7: 0 not present, 1 running, 2 paused, 3 stopped by budget. -/
def holderState (s : State) (h : Nat) : Nat :=
  if (s.holder h).stopped then 3
  else if !present s h then 0
  else if fIsZero (s.holder h).grant then 2 else 1

/-- The least inrush allowance of a stud (R515). -/
def allowMin (s : State) (v : Nat) : F32 :=
  ((studChans v).filter (chanCounts s)).foldl (fun m k => fMax m (cILim (s.chCfg k))) f0

/-! ## Opcodes (R519 to R523) -/

/-- PWR_SET_LATENCY (R519). -/
def opPwrSetLatency : OpSpec where
  code := 0x0200
  token := true
  len := fun _ => 8
  layout := fun p =>
    [ckRange p 0 4 50 4000000000, ckRange p 4 1 0 2, ckMask p 5 1 1, ckRange p 6 2 0 60000]
  body := fun s p =>
    let v := (rd p 0 4, byteAt p 4, rd p 6 2)
    okAns (s.setPwr
      { s.pwr with
        latency := v.1, ignAction := v.2.1, ignDelay := v.2.2
        stored := if (byteAt p 5).testBit 0 then some v else s.pwr.stored })

/-- PWR_REQUEST_STATE (R501 to R503, R520; 17 R553). While an entry is in progress RUN is a wake that is held,
and another entry is BUSY. -/
def opPwrRequestState : OpSpec where
  code := 0x0201
  token := true
  len := fun _ => 8
  layout := fun p => [ckRange p 0 1 0 5, ckZero p 1 3, ckRange p 4 4 0 4000000000]
  body := fun s p =>
    let t := byteAt p 0
    let data (n : Nat) : Bytes := b1 n ++ zeros 3
    if t ≠ 0 ∧ updating s then failAns s stWrongState 0xFFFD
    else if t = 0 then okWith (wake 5 s) (data 0)
    else if s.pwr.entering.isSome then failAns s stBusy 0
    else if t = 4 then
      match deepest s with
      | some n => okWith (enter n (rd p 4 4) s) (data n)
      | none => okWith s (data 0)
    else
      match lowestNotOff s (stateAdmits t) with
      | some f => failAns s stWrongState f
      | none =>
        if t = 5 ∧ s.pwr.ign then failAns s stWrongState 0xFFFE
        else okWith (enter t (rd p 4 4) s) (data t)

/-- PWR_SET_BUDGET (R513, R515, R521): the value governs from the next window start. -/
def opPwrSetBudget : OpSpec where
  code := 0x0202
  token := true
  len := fun _ => 8
  layout := fun p =>
    let h := byteAt p 0
    [(0, decide (h = 0 ∨ h = 16 ∨ h = 17) || holderCodes.contains h), ckMask p 1 1 1, ckZero p 2 2, ckF p 4]
  body := fun s p =>
    let h := byteAt p 0
    let v := rdF p 4
    let store := (byteAt p 1).testBit 0
    if h = 0 then
      if fLt v (fOfNat 20) then failAns s stOverBudget 0
      else if fLt (fOfNat 85) v then badParam s 4
      else
        okWith (s.setPwr
          { s.pwr with capNext := some v, capStored := if store then some v else s.pwr.capStored }) (leF s.pwr.cap)
    else if 16 ≤ h then
      let i := h - 16
      if fLt f0 (allowMin s i) && fLt v (allowMin s i) then failAns s stOverBudget 0
      else if fLt v (fOfNat 25) || fLt (fOfNat 150) v then badParam s 4
      else
        okWith (s.setPwr
          { s.pwr with
            allowNext := tput s.pwr.allowNext i v
            allowStored := if store then tput s.pwr.allowStored i v else s.pwr.allowStored }) (leF (s.stud i).allow)
    else if fLt v f0 || fLt (nominal s h) v then badParam s 4
    else
      let x := s.holder h
      okWith (s.setHolder h { x with req := some v, reqStored := if store then some v else x.reqStored })
        (leF x.grant)

/-- PWR_GET_BUDGET (R522). -/
def opPwrGetBudget : OpSpec where
  code := 0x0203
  len := fun _ => 0
  body := fun s _ =>
    let holder (h : Nat) : Bytes :=
      b1 h ++ b1 (holderState s h) ++ zeros 2 ++ leF (requested s h) ++ leF (s.holder h).grant ++ leF (minimum s h) ++
        leF (useOf s h) ++ leF (debtOf s h)
    let stud (v : Nat) : Bytes :=
      let x := s.stud v
      let waiting := (x.queue.map fun e => 2 ^ e.2).foldl (· + ·) 0
      b1 v ++ b1 (bit x.closed 0) ++ zeros 2 ++ leF x.allow ++ leF (allowMin s v) ++ leF x.meanA ++ le 4 waiting
    okWith s
      (leT s.now ++ leF (pAvail s) ++ leF s.pwr.pHeat ++ leF s.pwr.cap ++ leF (elecMean s) ++
        holderCodes.flatMap holder ++ stud 0 ++ stud 1)

/-- PWR_STATUS (R523). -/
def opPwrStatus : OpSpec where
  code := 0x0204
  len := fun _ => 0
  body := fun s _ =>
    let p := s.pwr
    let b := s.boot
    okWith s
      (leT s.now ++ b1 p.state ++ b1 p.cause ++ b1 (bit p.ign 0) ++
        b1 (bit p.heat 0 + bit b.feedA 1 + bit b.feedB 2 + bit b.kam 3) ++
        leF b.vlogA ++ leF b.vlogB ++ leF b.vkam ++ leF (studNow s 0) ++ leF (studNow s 1) ++ leF p.base ++
        (List.range 4).flatMap (fun i => leF (p.temps.getD i f0)) ++ leF p.elec ++ leF p.diss ++
        le 4 p.latency ++ le 4 (satN 4 ((s.mono - p.since) / secT 1)))

end Sys2Proof.Machine
end

