-- ==== Sys2Proof/Machine/Test.lean ====
section
/-! DEFINITION. The test block (chapter 18): test unlock, perturbation slots and the opcodes of subsystem
0x10. Kinds 1 and 2 only delay transactions on the network, and a command takes no time here; the other
kinds act where their inputs are taken. -/

namespace Sys2Proof.Machine

/-- The session of the command being executed. -/
def curSession (s : State) : Nat := match s.cur with | some (n, _) => n | none => 0

/-- The unlock ends (R572): every slot with no duration is cleared. -/
def unlockEnd (s : State) : State :=
  let s := { s with tst := { s.tst with unlock := none } }
  let l := (s.tst.slots.filter fun e => e.2.till.isNone).map (·.1)
  (sortNat l).foldl (fun s i => slotEnd s i 3) s

/-- The unlock ends with its session (R572). -/
def unlockFollow (s : State) : State :=
  match s.tst.unlock with
  | some n => if s.net.sessions.any fun x => x.num = n then s else unlockEnd s
  | none => s

/-- PERTURBATION_EXPIRY (R577). -/
def xPerturbationExpiry (i : Nat) (s : State) : State :=
  match tfind s.tst.slots i with
  | some p => match p.till with
    | some t => if t ≤ s.mono then slotEnd s i 2 else s
    | none => s
  | none => s

/-- The master IDs of Table 1.5. -/
def masters : List Nat := [1, 2, 3, 4, 0x10, 0x11, 0x12, 0x13, 0x14, 0x15, 0x16, 0x17, 0x1F]

/-- Target, magnitude and option of a kind (Table 18.2). -/
def perturbFields (p : Bytes) : List FieldChk :=
  let t := rd p 2 2
  let m := rd p 4 4
  let o := rd p 8 4
  let every (n : Nat) : Bool := n = 0 || decide (2 ≤ n ∧ n ≤ 1000)
  let none_ : FieldChk := (8, decide (o = 0))
  match byteAt p 1 with
  | 1 => [(2, masters.contains (t / 256) && decide (1 ≤ t % 256 ∧ t % 256 ≤ 3)), (4, decide (1 ≤ m ∧ m ≤ 100000)), none_]
  | 2 => [(2, decide (t ≤ 18)), (4, decide (1 ≤ m ∧ m ≤ 990)), (8, decide (o &&& 0xE = o))]
  | 3 => [(2, decide (t ≤ 7)), (4, decide (m ≤ 10000)), (8, every (o % 65536) && every (o / 65536))]
  | 4 => [(2, decide (t ≤ 9)), (4, decide (1 ≤ m ∧ m ≤ 1000)), none_]
  | 5 => [(2, decide (t ≤ 8)), (4, decide ((rdI p 4 4).natAbs ≤ 10000000)), none_]
  | 6 => [(2, decide (t ≤ 23)), (4, decide (m = 0)), none_]
  | 7 => [(2, decide (t = 0)), ckFR p 4 f0 (fOfNat 40),
      (8, decide ((rdI p 8 2).natAbs ≤ 2000) && decide (o / 65536 ≤ 40))]
  | _ => [(2, (srcInfo t).isSome), (4, decide (m = 0 ∨ m = 2 ∨ m = 3)), none_]

/-- TEST_UNLOCK (R571). The lock flag from a session that does not hold the unlock changes nothing. -/
def opTestUnlock : OpSpec where
  code := 0x1000
  token := true
  bench := true
  len := fun _ => 16
  layout := fun p =>
    [(0, decide (rd p 0 2 = 0x5445)), ckMask p 2 1 1, ckZero p 3 1, (4, decide (rd p 4 12 = Config.unitId.toNat))]
  body := fun s p =>
    let me := curSession s
    let lock := (byteAt p 2).testBit 0
    match s.tst.unlock with
    | some n =>
      if n ≠ me then failAns s stLocked 0
      else if lock then okAns (unlockEnd s) else okAns s
    | none => if lock then okAns s else okAns { s with tst := { s.tst with unlock := some me } }

/-- PERTURB_SET (R572, R574, R575). -/
def opPerturbSet : OpSpec where
  code := 0x1001
  token := true
  bench := true
  len := fun _ => 20
  layout := fun p =>
    [ckRange p 0 1 0 15, ckRange p 1 1 1 8] ++ perturbFields p ++ [ckRange p 12 4 0 3600000, ckZero p 16 4]
  body := fun s p =>
    let i := byteAt p 0
    let k := byteAt p 1
    let t := rd p 2 2
    if s.tst.unlock ≠ some (curSession s) then failAns s stWrongState 0
    else if (tfind s.tst.slots i).isSome || (perturb s k t).isSome then failAns s stBusy 0
    else
      let d := rd p 12 4
      let slot : TSlot :=
        { kind := k, target := t, mag := rd p 4 4, opt := rd p 8 4, till := if d = 0 then none else some (s.mono + msT d) }
      let s := { s with tst := { s.tst with slots := tput s.tst.slots i slot } }
      let s := emit s 0x1001 0xFFFF (b1 i ++ b1 k ++ b1 1 ++ b1 0)
      let s := if k = 6 then simShort s t else if k = 8 then seeEnc s t (rd p 4 4) else s
      okWith s (leT s.now)

/-- PERTURB_CLEAR (R577). -/
def opPerturbClear : OpSpec where
  code := 0x1002
  token := true
  bench := true
  len := fun _ => 4
  layout := fun p => [ckZero p 2 2]
  body := fun s p =>
    if s.tst.unlock ≠ some (curSession s) then failAns s stWrongState 0
    else okAns (forN 16 (fun s i => if (rd p 0 2).testBit i then slotEnd s i 1 else s) s)

/-- Remaining time of a slot in ms, a part of one counted whole. -/
def slotRemain (s : State) (p : TSlot) : Nat :=
  match p.till with
  | none => 0xFFFFFFFF
  | some t => (t - s.mono + msT 1 - 1) / msT 1

/-- The active slots (R580, Table 18.6). -/
def slotMask (s : State) : Nat := ((List.range 16).map fun i => bit (tfind s.tst.slots i).isSome i).foldl (· + ·) 0

/-- TEST_STATUS (R580). -/
def opTestStatus : OpSpec where
  code := 0x1003
  len := fun _ => 0
  body := fun s _ =>
    let slot (i : Nat) : Bytes :=
      match tfind s.tst.slots i with
      | none => zeros 16
      | some p => b1 p.kind ++ b1 0 ++ le 2 p.target ++ le 4 p.mag ++ le 4 p.opt ++ le 4 (slotRemain s p)
    okWith s
      (leT s.now ++ b1 (bit s.boot.bench 0) ++ b1 (bit s.tst.unlock.isSome 0) ++ le 2 (s.tst.unlock.getD 0) ++
        le 2 (slotMask s) ++ zeros 2 ++ (List.range 16).flatMap slot)

end Sys2Proof.Machine
end

