-- ==== Sys2Proof/Machine/FaultOps.lean ====
section
/-! DEFINITION. The rows of the fault collector and the opcodes of subsystem 0x0D (14 R489 to R492). -/

namespace Sys2Proof.Machine

/-- The master, access type and address that a source's raising carries (R472). -/
def accessOf (src master access address : Nat) : Nat × Nat × Nat :=
  if src ≤ 3 then (src + 1, 3, address)
  else if src = 4 then (master, 0, 0)
  else if src = 6 ∨ src = 8 ∨ (9 ≤ src ∧ src ≤ 13) then (master, access, address)
  else if src = 21 then (0x10, 1, 0)
  else (0, 0, 0)

/-- The cells that FSRC133 reports are counted (09 R294). -/
def noteCells (src detail : Nat) (s : State) : State :=
  if src = 133 then
    let (n, s) := s.draw
    let hit (c : FCells) : FCells := { c with hits := n :: c.hits }
    { s with fus := { s.fus with ecc := satN 4 (s.fus.ecc + detail), cells := s.fus.cells.map hit } }
  else s
/-- With a panel journal that cannot be read every row is pending (16 R537). -/
def noteJournal (src detail : Nat) (s : State) : State :=
  if src = 192 ∧ detail = 5 then { s with pnl := { s.pnl with unknown := 0xFFFF } } else s

/-- An encoding that both rails have held for 3 time-domain cycles; a shorter one is a transition (01 R27). -/
def settled (held : Nat) : Bool := decide (3 ≤ held)

/-- FAULT_SOURCE_RAISED (R461, R462): the pair leaves 01 for an encoding, with the detail and the access it
carries. -/
def xFaultSourceRaised (src : Nat) (enc : Rails) (detail master access address : Nat) (s : State) : State :=
  if settled enc.held = true ∧ src < 256 ∧ (enc.code = 0 ∨ enc.code = 2 ∨ enc.code = 3) then
    raiseEnc (noteJournal src detail (noteCells src detail s)) src enc.code detail (accessOf src master access address)
  else s

/-- FAULT_SOURCE_RETURNED (R461). -/
def xFaultSourceReturned (r : SrcRails) (s : State) : State := if settled r.held then returnSrc s r.src else s

/-- FAULT_LINK_RESTORED (R462): a broken link shows 01 or 10 again. -/
def xFaultLinkRestored (src : Nat) (enc : Rails) (s : State) : State :=
  if settled enc.held && (s.src src).link then
    if enc.code = 2 then linkToError s src else if enc.code = 1 then returnSrc s src else s
  else s

/-- SQUALL_WINDOW_END (R473). -/
def xSquallWindowEnd (s : State) : State :=
  if s.fcr.winStart < s.mono / squallTicks then squallEnd s else s

/-- FAULT_LOG_ENTRY_QUEUED (03 R95): waiting records of a session enter its queues. -/
def xFaultLogEntryQueued (n : Nat) (s : State) : State :=
  { s with net := { s.net with sessions := s.net.sessions.map fun x =>
      if x.num = n then { x with streams := x.streams.map Stream.refill } else x } }

/-! ## Opcodes -/

/-- An entry of FAULT_READ selector 0. -/
def srcEntry (s : State) (n : Nat) : Bytes :=
  let x := s.src n
  b1 n ++ b1 (bit x.inErr 0 + bit x.latched 1 + bit x.link 2) ++ b1 (severity s n) ++ b1 x.latchSev ++ le 4 x.count

/-- A service-log entry (Table 14.12). -/
def LogE.bytes (e : LogE) : Bytes :=
  leT e.time ++ le 4 e.num ++ b1 e.kind ++ b1 0 ++ le 2 e.body.length ++ le 4 e.lost ++ e.body

/-- Up to `count` of a list held newest first whose numbers are not below `first`, oldest first. -/
def fromNumber {α : Type} (num : α → Nat) (first count : Nat) (l : List α) : List α :=
  (l.reverse.filter fun e => decide (first ≤ num e)).take count

/-- FAULT_READ (R489). -/
def opFaultRead : OpSpec where
  code := 0x0D00
  len := fun _ => 10
  layout := fun p =>
    let sel := byteAt p 0
    let first := rd p 2 4
    let n := rd p 6 2
    [ckRange p 0 1 0 2, ckZero p 1 1, (2, decide (sel ≠ 0 ∨ first ≤ 255)),
     (6, decide (1 ≤ n ∧ n ≤ (if sel = 0 then 256 else 16)) && decide (sel ≠ 0 ∨ first + n ≤ 256)), ckZero p 8 2]
  body := fun s p =>
    let first := rd p 2 4
    let n := rd p 6 2
    match byteAt p 0 with
    | 0 => okWith s ((List.range n).flatMap fun i => srcEntry s (first + i))
    | 1 =>
      let recs := s.fcr.flog.filterMap fun e => e.num.map fun k => (k, e)
      okWith s ((fromNumber (·.1) first n recs).flatMap fun e => leT e.2.time ++ e.2.body)
    | _ => okWith s ((fromNumber LogE.num first n s.net.slog).flatMap LogE.bytes)

/-- A source's latch is cleared while it is not in error (R468); a raising in the same tick keeps it set (R488). -/
def clearLatch (s : State) (n : Nat) : State :=
  let x := s.src n
  if x.inErr || !x.latched || decide (x.raisedAt = s.mono) then s else s.setSrc n { x with latched := false, latchSev := 0 }

/-- 32 bytes with bit n of byte n ÷ 8 for each number that a test admits. -/
def mask256 (f : Nat → Bool) : Bytes :=
  (List.range 32).flatMap fun i => b1 (((List.range 8).map fun j => bit (f (8 * i + j)) j).foldl (· + ·) 0)

/-- FAULT_CLEAR (R479, R490). -/
def opFaultClear : OpSpec where
  code := 0x0D01
  token := true
  len := fun _ => 36
  layout := fun p => [ckMask p 0 1 3, ckZero p 1 3]
  body := fun s p =>
    let named (n : Nat) : Bool := (byteAt p 0).testBit 1 || (byteAt p (4 + n / 8)).testBit (n % 8)
    let s := if (byteAt p 0).testBit 0 then { s with fcr := { s.fcr with cap := none, later := 0 } } else s
    let s := forN 256 (fun s n => if named n then clearLatch s n else s) s
    okWith (safeStopLeave s) (mask256 fun n => named n && (s.src n).latched)

/-- FAULT_SOURCE_CONFIG (R464, R488, R491). -/
def opFaultSourceConfig : OpSpec where
  code := 0x0D02
  token := true
  len := fun _ => 4
  layout := fun p =>
    let sev := byteAt p 1
    match srcInfo (byteAt p 0) with
    | none => [(0, false)]
    | some i =>
      [(1, decide (i.floor ≤ sev ∧ sev ≤ 4) && (!i.fixed || decide (sev = i.reset)) && (decide (sev ≠ 3) || i.failover)),
       ckMask p 2 1 1, ckZero p 3 1]
  body := fun s p =>
    let n := byteAt p 0
    let sev := byteAt p 1
    let f := s.fcr
    okAns { s with fcr := { f with
      sev := tput f.sev n sev
      sevStored := if (byteAt p 2).testBit 0 then tput f.sevStored n sev else f.sevStored } }

/-- FAULT_THRESHOLD (R469, R492). -/
def opFaultThreshold : OpSpec where
  code := 0x0D03
  token := true
  len := fun _ => 4
  layout := fun p => [ckRange p 0 1 0 4, ckMask p 1 1 1, ckZero p 2 2]
  body := fun s p =>
    let v := byteAt p 0
    let f := s.fcr
    okAns { s with fcr := { f with
      threshold := v, thresholdStored := if (byteAt p 1).testBit 0 then some v else f.thresholdStored } }

/-- CAPTURE_READ (R492, Table 14.5). -/
def opCaptureRead : OpSpec where
  code := 0x0D04
  len := fun _ => 0
  body := fun s _ =>
    match s.fcr.cap with
    | none => okWith s (zeros 48)
    | some c =>
      okWith s
        (b1 1 ++ b1 c.source ++ b1 c.master ++ b1 c.access ++ le 8 c.address ++ leT c.time ++ le 8 c.tick ++
          le 4 s.fcr.later ++ le 4 c.epoch ++ le 4 c.detail ++ zeros 4)

end Sys2Proof.Machine
end

