-- ==== Sys2Proof/Machine/Settle.lean ====
section
/-! DEFINITION. What follows from a command within the same step: the reactions of the sources it raised
(14 R463, R465), and what hangs on another block's state. -/

namespace Sys2Proof.Machine

/-- One reaction (14 R463, R478; 15 R505). The reaction FAILOVER of FSRC16 to FSRC18 stops the group of the
loop that the detail names. -/
def carry (s : State) : React → State
  | .stopFn f => fnFault f s
  | .stopLoopGroup n => match appGroup s n with | some g => fnFault (gFid g) s | none => s
  | .safeStop n => safeStop n s
  | .actReset c => actuationReset c s
  | .coreReset c => if s.boot.coreDue.isNone then { s with boot := { s.boot with coreDue := some c } } else s
  | .pairDead i => declareDead i s
  | .wake => faultWake s

/-- The reactions ordered so far, in their order. -/
def carryAll (s : State) : State :=
  match s.fcr.react with
  | [] => s
  | l => l.foldl carry { s with fcr := { s.fcr with react := [] } }

/-- What hangs on another block's state: the sources of the studs (08 R265, R266), GNSS as a time source (12
R403), the sessions at a power state's entry (15 R497), the IGN sequence (15 R504), the test unlock of a
session that has closed (18 R572). -/
def follow (s : State) : State :=
  unlockFollow (ignProgress (sleepSessions (gnssGone (supplySource (supplySource s 0) 1))))

/-- The end of a step. A reaction may itself raise a source, so reactions are carried out in rounds. -/
def settle (s : State) : State :=
  carryAll (carryAll (carryAll (follow (carryAll (carryAll (carryAll s))))))

end Sys2Proof.Machine
end

