-- ==== Sys2Proof/Machine/Flags.lean ====
section
/-! DEFINITION. The status words and the register maps of the blocks' windows, as READ_MEM sees them
(Tables 4.9, 5.7, 6.18, 7.1, 8.11, 9.18, 10.10, 11.14, 12.13, 13.11, 14.10, 15.10, 16.7, 17.9, 18.5).
Every register is read-only and 32 bits wide; an offset that no table lists reads 0. -/

namespace Sys2Proof.Machine

/-- An ID register: 0x0960, the instance count, the revision of the block (log entry 1). -/
def idReg (n w : Nat) : Nat := 0x09600000 + n * 256 + (Config.revision w).toNat

/-- The bits of a test over the numbers below n. -/
def maskOf (n : Nat) (f : Nat → Bool) : Nat := ((List.range n).map fun i => bit (f i) i).foldl (· + ·) 0

/-- A bank of equal blocks: the instance and the offset within its block. -/
def bank (base size count off : Nat) : Option (Nat × Nat) :=
  if base ≤ off ∧ off < base + size * count then some ((off - base) / size, (off - base) % size) else none

/-- A binary32 value as a register holds it. -/
def fReg (x : F32) : Nat := x.toNat

/-! ## CLE (Tables 4.9, 4.10, 5.7, 5.8, 7.1) -/

/-- CLE_STATUS. SUPERVISOR_OK follows what the supervisor's own pair carries. -/
def cleStatus (s : State) : Nat :=
  bit ((List.range 64).any fun g => s.st (gFid g) ≠ .off) 0 +
    bit (decide (2 ≤ s.boot.phase) && decide ((s.src 20).pair ≠ 2)) 1 +
    bit ((List.range 64).any fun g => (s.grp g).hold.isSome) 2

def compInv (s : State) (n : Nat) : Nat :=
  let l := s.loop n
  min l.compInv (2 ^ 30 - 1) + bit l.zeroed 30 + bit l.dirNeg 31

def gcfg (s : State) (g : Nat) : Nat :=
  let d := s.grpCfg g
  gHold d % 2048 + gDomain d % 4 * 2 ^ 14 + (s.st (gFid g)).code * 2 ^ 16

def cleReg (s : State) (off : Nat) : Nat :=
  match bank 0x10000 0x20 512 off with
  | some (n, o) =>
    let l := s.loop n
    match o with
    | 0x00 => fReg l.y | 0x04 => fReg l.r | 0x08 => fReg l.u | 0x0C => fReg l.acc
    | 0x10 => l.st + l.flags * 256 | 0x14 => l.inv | 0x18 => l.miss | _ => 0
  | none => match bank 0x20000 0x10 512 off with
    | some (n, o) =>
      let l := s.loop n
      (match o with | 0x0 => fReg l.posx | 0x4 => fReg l.cFric | 0x8 => fReg l.cCog | _ => compInv s n)
    | none => match bank 0x30000 0x10 64 off with
      | some (g, o) =>
        (match o with | 0x0 => gPhase (s.grpCfg g) | 0x4 => gcfg s g | 0x8 => gMask (s.grpCfg g) | _ => 0)
      | none => match bank 0x40000 0x4 64 off with
        | some (p, _) => fReg (pspVal s p)
        | none => match off with
          | 0x40100 => maskOf 32 fun p => s.cle.pspGuid.contains p
          | 0x40104 => maskOf 32 fun p => s.cle.pspGuid.contains (32 + p)
          | 0x0 => idReg 4 0 | 0x4 => evalsUsed s | 0x8 => marginNow s | 0xC => s.cle.missed
          | 0x10 => cleStatus s | _ => 0

/-! ## LSW (Tables 8.11, 8.12) -/

def lswSupply (s : State) : Nat :=
  bit (uvBit s 0) 0 + bit (s.stud 0).ov 1 + bit (s.stud 0).quietOpen 2 + bit (uvBit s 1) 3 + bit (s.stud 1).ov 4 +
    bit (s.stud 1).quietOpen 5

/-- The applied mode, 0 before the first START. -/
def lswMode (s : State) (k : Nat) : Nat := match s.appOpt (.chan k) with | some d => cMode d | none => 0

def lswState (s : State) (k : Nat) : Nat :=
  outState s k + lswMode s k * 16 + chanFlags s k * 256 + outCause s k * 65536

def lswReg (s : State) (off : Nat) : Nat :=
  match bank 0x10000 0x20 24 off with
  | some (k, o) =>
    let c := s.chan k
    match o with
    | 0x00 => lswState s k | 0x04 => fReg (ampsNow s k) | 0x08 => fReg (voutNow s k) | 0x0C => fReg c.duty
    | 0x10 => fReg c.cmd | 0x14 => fReg (clampWindow s k) | 0x18 => c.charged % 256 + c.uncharged % 256 * 256
    | _ => c.cycles
  | none => match bank 0x10 0x4 12 off with
    | some (d, _) => fReg (dieNow s d)
    | none => match off with
      | 0x0 => idReg 24 1 | 0x4 => fReg (studMean s 0) | 0x8 => fReg (studMean s 1) | 0xC => lswSupply s
      | _ => 0

/-! ## FCR (Tables 14.10, 14.11) -/

def fcrStatus (s : State) : Nat :=
  bit (faultLow s) 0 + bit s.fcr.safeStopped 1 +
    bit (decide (s.fcr.winStart = s.mono / squallTicks ∧ 64 < s.fcr.winCount)) 2 + bit s.fcr.aliveOn 3 +
    highestSev s * 16 + bit (anyLatched s) 7

/-- FCR_ROLES: 0 until event 7 has assigned roles for the first time since power-on reset. -/
def fcrRoles (s : State) : Nat :=
  if s.pairs.isEmpty then 0
  else ((List.range 4).map fun i => (s.pair i).role.code * 4 ^ i + bit (s.pair i).dead (8 + i)).foldl (· + ·) 0

def srcStat (s : State) (n : Nat) : Nat :=
  let x := s.src n
  let fixed := match srcInfo n with | some i => i.fixed | none => false
  severity s n + x.latchSev * 16 + bit x.latched 8 + bit x.inErr 9 + bit x.link 10 + x.rails * 4096 + bit fixed 14

def capReg (c : Cap) (off : Nat) : Nat :=
  match off with
  | 0x20 => c.address % 2 ^ 32 | 0x24 => c.address / 2 ^ 32
  | 0x28 => 2 ^ 31 + c.source * 65536 + c.master * 256 + c.access
  | 0x2C => c.time.sec % 2 ^ 32 | 0x30 => c.time.sec / 2 ^ 32 | 0x34 => c.time.ns
  | 0x38 => c.tick % 2 ^ 32 | 0x3C => c.tick / 2 ^ 32 | _ => 0

def fcrReg (s : State) (off : Nat) : Nat :=
  match bank 0x10000 0x8 256 off with
  | some (n, o) => if o = 0 then srcStat s n else (s.src n).count
  | none => match off with
    | 0x0 => idReg 4 2 | 0x4 => fcrStatus s | 0x8 => s.fcr.epoch | 0xC => s.fcr.threshold | 0x10 => fcrRoles s
    | 0x14 => s.fcr.squalls | 0x40 => s.fcr.later
    | _ => match s.fcr.cap with | some c => capReg c off | none => 0

/-! ## CAN (Tables 13.11, 13.13) -/

def canReg (s : State) (off : Nat) : Nat :=
  match bank 0x10000 0x10000 10 off with
  | some (k, o) =>
    let x := s.can1 k
    let applied := s.appOpt (.can k)
    match o with
    | 0x00 => canStat s k | 0x04 => canErrc s k
    | 0x08 => (match applied with | some d => 80000000 / nDiv d | none => 0)
    | 0x0C => (match applied with | some d => 80000000 / nDDiv d | none => 0)
    | 0x10 => x.tdcv
    | _ => if 0x14 ≤ o ∧ o ≤ 0x34 then (canCounters x).getD ((o - 0x14) / 4) 0 else 0
  | none => if off = 0 then idReg 10 3 else 0

/-! ## TSU and ETH (Tables 12.13, 12.14) -/

def tsuStat (s : State) (d : Nat) : Nat :=
  let x := s.dom d
  (s.st (tdFid d)).code + x.clk * 16 + bit x.ptpScale 8 + bit x.step.isSome 9 + bit x.override.isSome 10 +
    bit (ppsHold s d) 11 + clockClass s d * 65536

def tsuReg (s : State) (off : Nat) : Nat :=
  match bank 0x10000 0x40 4 off with
  | some (d, o) =>
    let x := s.dom d
    let t := x.time
    match o with
    | 0x00 => t.sec % 2 ^ 32 | 0x04 => t.sec / 2 ^ 32 | 0x08 => t.ns | 0x0C => t.sub
    | 0x10 => x.inc % 2 ^ 32 | 0x14 => x.inc / 2 ^ 32 | 0x18 => fReg (offF x.lastOff) | 0x1C => tsuStat s d
    | 0x20 => x.stepsTotal | _ => 0
  | none => match off with
    | 0x0 => idReg 4 4 | 0x8 => s.mono % 2 ^ 32 | 0xC => s.mono / 2 ^ 32 | _ => 0

/-- ETHp_STAT. Before the firmware or the loader has loaded a port's configuration no port is enabled. -/
def ethStat (s : State) (p : Nat) : Nat :=
  let x := s.port p
  let d := s.portCfg p
  let on := s.boot.loaded || s.boot.loaderServes
  bit x.link 0 + bit (on && prEnable d) 1 +
    bit (on && (if p ≤ 6 then decide (prRole d = 1) else decide (prRole d ≠ 255))) 2 + bit x.gate.isSome 3

def ethReg (s : State) (off : Nat) : Nat :=
  match bank 0x10000 0x40 9 off with
  | some (p, o) =>
    let x := s.port p
    match o with
    | 0x00 => ethStat s p | 0x04 => x.rx | 0x08 => x.tx | 0x0C => x.err | 0x10 => x.drop | _ => 0
  | none => if off = 0 then idReg 9 13 else 0

/-! ## CAM (Tables 10.10, 10.11) -/

def camStat (s : State) (k : Nat) : Nat :=
  let x := s.pipe k
  (s.st (pipeFid k)).code + bit (pcTriggered (s.app (.pipe k))) 4 + bit x.link 5 + bit x.power 6 +
    bit x.limited 7

/-- The newest set whose first frame has not begun. -/
def camPending (x : Pipe) : Nat :=
  match x.pend, x.writing with
  | some e, _ => e.ident
  | none, some e => e.ident
  | none, none => match x.sets.find? fun e => decide (x.next ≤ e.first) with | some e => e.ident | none => 0xFFFFFFFF

def camReg (s : State) (off : Nat) : Nat :=
  match bank 0x10000 0x10000 8 off with
  | some (k, o) =>
    let x := s.pipe k
    match o with
    | 0x00 => camStat s k | 0x04 => x.next - 1 | 0x08 => x.lastIdent | 0x0C => camPending x | 0x10 => x.missing
    | 0x14 => x.shortLn | 0x18 => x.longLn | 0x1C => x.padLn | 0x20 => x.cutLn | 0x24 => x.crcLn
    | 0x28 => fReg x.current | _ => 0
  | none => if off = 0 then idReg 8 5 else 0

/-! ## FUS (Tables 9.18, 9.19) -/

def fusStat (s : State) : Nat :=
  let f := s.fus
  (s.st fusFid).code + f.rate % 4 * 32 + f.slot % 2 * 128 + f.ego.mode % 4 * 256 + contraBits s * 1024

/-- A signed value in 32 bits. -/
def iReg (i : Int) : Nat := (i % (2 ^ 32 : Nat)).toNat

def fusReg (s : State) (off : Nat) : Nat :=
  let f := s.fus
  match bank 0x10000 0x8 12 off with
  | some (k, o) => if o = 0 then tget 0 f.late k else tget 0 f.dropped k
  | none => match off with
    | 0x0 => idReg 32 6 | 0x4 => fusStat s | 0x8 => f.issued | 0xC => f.skipped | 0x10 => iReg f.ci
    | 0x14 => iReg f.cj | _ => 0

/-! ## GNS (Tables 11.14, 11.15) -/

def gnsStat (s : State) : Nat :=
  let g := s.gns
  (s.st gnssFid).code + g.antenna * 16 + g.level * 64 + (maskOf 4 fun n => decide ((s.notch n).st = 2)) * 256 +
    bit g.fix 12 + bit (g.caps.any (capRuns s)) 13 + bit (!g.jobs.isEmpty) 14

def gnsReg (s : State) (off : Nat) : Nat :=
  let g := s.gns
  match bank 0x10000 0x10 48 off with
  | some (c, o) =>
    let t := s.track c
    (match o with
      | 0x0 => t.st + (if t.st = 0 then 0 else t.prn * 256) | 0x4 => fReg t.cn0 | 0x8 => fReg t.doppler
      | _ => fReg t.code)
  | none => match bank 0x20 0x4 4 off with
    | some (n, _) => fReg (s.notch n).freq
    | none => match off with
      | 0x0 => idReg 48 7 | 0x4 => gnsStat s | 0x8 => fReg g.ji | 0xC => fReg g.agc
      | 0x10 => fReg (g.data.tcxo.getD f0) | 0x14 => g.epoch - 1 | 0x18 => fReg g.biasA | _ => 0

/-! ## PNL (Tables 16.7, 16.8) -/

def pnlStat (s : State) : Nat :=
  let x := s.pnl
  (s.st panelFid).code + bit x.run.isSome 3 + bit x.supplyOk 8 + bit (decide (targetNo s = 1)) 9 + x.band * 1024 +
    (match x.run with | some r => r.row | none => 15) * 4096 + pendingMask s * 65536

def pnlReg (s : State) (off : Nat) : Nat :=
  let x := s.pnl
  match bank 0x10000 0x4 768 off with
  | some (i, _) => fReg (bookAt x.books i)
  | none => match off with
    | 0x0 => idReg 16 8 | 0x4 => pnlStat s | 0x8 => fReg x.temp | 0xC => fReg x.vph | 0x10 => fReg x.vpm
    | 0x14 => fReg x.vpl | _ => 0

/-! ## PWR (Tables 15.10, 15.11) -/

def pwrState (s : State) : Nat :=
  let p := s.pwr
  p.state % 8 + bit p.ign 6 + bit p.heat 7 + p.cause * 256

def pwrGate (s : State) : Nat :=
  (maskOf 24 fun k => (s.stud (studOf k)).queue.any fun e => decide (e.2 = k)) + bit (s.stud 0).closed 24 +
    bit (s.stud 1).closed 25

def pwrReg (s : State) (off : Nat) : Nat :=
  let p := s.pwr
  match bank 0x10000 0x10 16 off with
  | some (h, o) =>
    if holderCodes.contains h then
      (match o with | 0x0 => fReg (s.holder h).grant | 0x4 => fReg (debtOf s h) | _ => 0)
    else 0
  | none => match bank 0x18 0x4 4 off with
    | some (i, _) => fReg (p.temps.getD i f0)
    | none => match off with
      | 0x0 => idReg 13 9 | 0x4 => pwrState s | 0x8 => fReg (pAvail s) | 0xC => fReg p.pHeat | 0x10 => fReg (elecMean s)
      | 0x14 => fReg p.base | 0x28 => pwrGate s | _ => 0

/-! ## UPD (Tables 17.9, 17.10) -/

/-- UPD_STAT: 0 until the loader has read the journal (event 4). -/
def updStat (s : State) : Nat :=
  let u := s.upd
  if s.boot.phase < 4 ∧ s.boot.afterCore = false ∧ s.boot.afterCalm = false then bit u.wp 7
  else u.journal + u.result * 32 + bit u.wp 7 + maskOf 4 Config.keyHeld <<< 8

def updReg (s : State) (off : Nat) : Nat :=
  let u := s.upd
  match off with
  | 0x0 => idReg 4 10 | 0x4 => updStat s | 0x8 => u.next | 0xC => u.sectors + sectorsTotal u.header * 65536
  | 0x10 => u.floor + schemaNow s * 65536 | _ => 0

/-! ## TST (Tables 18.5, 18.6) -/

def tstReg (s : State) (off : Nat) : Nat :=
  match bank 0x10000 0x10 16 off with
  | some (i, o) =>
    (match tfind s.tst.slots i with
      | none => 0
      | some p =>
        match o with
        | 0x0 => p.kind + p.target * 65536 | 0x4 => p.mag | 0x8 => p.opt | _ => slotRemain s p)
  | none => match off with
    | 0x0 => idReg 16 11
    | 0x4 => bit s.boot.bench 0 + bit s.tst.unlock.isSome 1 + slotMask s * 65536
    | 0x8 => s.tst.unlock.getD 0 | _ => 0

/-! ## CSE (Tables 6.18, 6.19) -/

def cseStatus (s : State) : Nat :=
  bit (producing s) 0 + bit (vrefOk s 1) 1 + bit (vrefOk s 2) 2 +
    (maskOf 4 fun n => (s.cset n).cur.isSome) * 16

def impReg (s : State) (k o : Nat) : Nat :=
  let x := s.imp k
  let w := x.last.getD {}
  match o with
  | 0x00 => w.n.kern | 0x04 => w.n.straw | 0x08 => w.n.other | 0x0C => w.n.merged | 0x10 => fReg w.f
  | 0x14 => fReg w.s | 0x18 => impWord s k | _ => x.lastSeq

def cseReg (s : State) (off : Nat) : Nat :=
  match bank 0x10000 0x20 32 off with
  | some (k, o) => impReg s k o
  | none => match bank 0x20000 0x10 16 off with
    | some (k, o) =>
      let x := s.ain k
      (match o with | 0x0 => fReg x.value | 0x4 => fReg x.ratio | 0x8 => fReg x.volts | _ => ainWord s k)
    | none => match bank 0x30000 0x10 8 off with
      | some (k, o) =>
        let x := s.fin k
        (match o with | 0x0 => fReg x.freq | 0x4 => fReg x.qpos | 0x8 => fReg x.speed | _ => finWord s k)
      | none => match bank 0x40000 0x10 4 off with
        | some (k, o) =>
          let x := s.pos k
          (match o with | 0x0 => fReg x.angle | 0x4 => fReg x.speed | 0x8 => fReg x.ampl | _ => posWord s k)
        | none => match bank 0x50000 0x4 7 off with
          | some (i, _) => if i = 6 then imuWord s else fReg (s.cse.imu.v.getD i f0)
          | none => match off with | 0x0 => idReg 32 12 | 0x4 => cseStatus s | _ => 0

/-! ## All windows -/

/-- The register of a window (01 Table 1.4, in its order) at a word's offset. -/
def blockReg (s : State) (w off : Nat) : Nat :=
  match w with
  | 0 => cleReg s off | 1 => lswReg s off | 2 => fcrReg s off | 3 => canReg s off | 4 => tsuReg s off
  | 5 => camReg s off | 6 => fusReg s off | 7 => gnsReg s off | 8 => pnlReg s off | 9 => pwrReg s off
  | 10 => updReg s off | 11 => tstReg s off | 12 => cseReg s off | _ => ethReg s off

/-- One byte of a window. -/
def regByte (s : State) (a : Nat) : Byte :=
  let o := a - 0x40000000
  BitVec.ofNat 8 (blockReg s (o / 0x100000) (o % 0x100000 / 4 * 4) / 256 ^ (o % 4))

end Sys2Proof.Machine
end

