-- ==== Sys2Proof/WellFormed.lean ====
section
/-! DEFINITION. What makes a command well-formed: header fields within their widths (03 Table 3.1),
instance numbers that exist, and a row of one opcode that is the row its parameters name. -/

namespace Sys2Proof

def Hdr.ok (h : Hdr) : Bool :=
  decide (h.version < 256 ∧ h.flags < 256 ∧ h.session < 65536 ∧ h.seq < 65536) &&
    !h.taken &&
    match h.ep with | .udp a p => decide (a < 2 ^ 128 ∧ p < 65536) | .can2 => true

/-- A header with parameters that its length field can hold. -/
def hostOk (h : Hdr) (p : Bytes) : Bool := h.ok && decide (p.length < 65536)

/-- The instances of each kind of sensing input, by the selector of 06 Table 6.13. -/
def inputOk (sel k : Nat) : Bool :=
  match sel with
  | 1 => decide (k < 16) | 2 => decide (k < 8) | 3 => decide (k < 4) | 4 => decide (k < 32) | 5 => decide (k = 0)
  | _ => false

/-- The opcodes of 03 Table 3.16. -/
def opcodeListed (code : Nat) : Bool :=
  let n := match code / 256 with
    | 0x01 => 16 | 0x02 => 5 | 0x03 => 6 | 0x04 => 4 | 0x05 => 8 | 0x06 => 8 | 0x07 => 4 | 0x08 => 5 | 0x09 => 4
    | 0x0A => 5 | 0x0B => 6 | 0x0C => 5 | 0x0D => 5 | 0x0E => 3 | 0x0F => 4 | 0x10 => 4 | _ => 0
  decide (code % 256 < n)

/-- The byte of the parameters that names the row of an opcode with several rows. -/
def rowByte (p : Bytes) (o : Nat) : Nat := (p.getD o 0#8).toNat

/-- A command as the outside world can send it. -/
def Instr.WellFormed (i : Instr) : Bool :=
  match i with
  | .getIdentity h p | .openSession h p | .closeSession h p | .keepalive h p | .takeOwnership h p
  | .releaseOwnership h p | .subscribe h p | .unsubscribe h p | .start h p | .stop h p | .getState h p
  | .resetCore h p | .readMem h p _ | .writeMem h p | .saveSettings h p | .logErase h p | .pwrSetLatency h p
  | .pwrRequestState h p | .pwrSetBudget h p | .pwrGetBudget h p | .pwrStatus h p | .loopConfig h p
  | .loopRead h p | .loopSetReference h p | .loopSetFeedforward h p | .loopStatus h p | .cleCapacity h p
  | .tableWrite h p | .tableRead h p | .groupConfig h p | .groupRead h p | .impConfig h p | .classifierLoad h p
  | .ainConfig h p | .finConfig h p | .posConfig h p | .imuConfig h p | .senseRead h p | .flowCalibrate h p
  | .plannerModel h p | .plannerObjectives h p | .pspMap h p | .plannerStatus h p | .guidanceConfig h p
  | .pathLoad h p | .poseSource h p | .yieldConfig h p | .lswConfig h p | .lswCommand h p | .lswStatus h p
  | .lswClear h p | .fusConfig h p | .fusWeights h p | .fusHeadPolicy h p | .fusPointStream h p
  | .fusStatus h p | .pipeConfig h p | .exposureCommit h p | .pipeStatus h p | .gnssConfig h p
  | .notchConfig h p | .pipCapture h p | .gnssStatus h p | .tdConfig h p | .getTime h p | .rateOverride h p
  | .portConfig h p | .gateConfig h p | .timeStatus h p | .canConfig h p | .canFilter h p | .canTransmit h p
  | .canStatus h p | .canAddressClaim h p | .faultRead h p | .faultClear h p | .faultSourceConfig h p
  | .faultThreshold h p | .captureRead h p | .panelConfig h p | .panelFrame h p | .panelStatus h p
  | .updateBegin h p | .updateBlock h p | .updateCommit h p | .updateStatus h p | .testUnlock h p
  | .perturbSet h p | .perturbClear h p | .testStatus h p => hostOk h p
  | .sensorTunnelRead h p _ => hostOk h p && decide (rowByte p 1 = 0)
  | .sensorTunnelWrite h p _ => hostOk h p && decide (rowByte p 1 = 1)
  | .sensorTunnelAppendStart h p => hostOk h p && decide (rowByte p 1 = 2)
  | .sensorTunnelAppendStop h p => hostOk h p && decide (rowByte p 1 = 3)
  | .sensorTunnelClearLists h p => hostOk h p && decide (rowByte p 1 = 4)
  | .pipExportReadHeader h p => hostOk h p && decide (rowByte p 4 = 0)
  | .pipExportReadSamples h p => hostOk h p && decide (rowByte p 4 = 1)
  | .pipExportProcess h p => hostOk h p && decide (rowByte p 4 = 2)
  | .pipExportDelete h p => hostOk h p && decide (rowByte p 4 = 3)
  | .undefinedOpcode h opcode p => hostOk h p && decide (opcode < 65536) && !opcodeListed opcode
  | .balinePacketDiscarded _ raw => decide (raw.length ≤ 65527)
  | .balinePortMismatchDrop port => decide (1 ≤ port ∧ port ≤ 8)
  | .neighbourDiscovery src target => decide (src < 2 ^ 128 ∧ target < 2 ^ 128)
  | .icmpv6Echo src ident seq _ => decide (src < 2 ^ 128 ∧ ident < 65536 ∧ seq < 65536)
  | .isotpFrameReceived id data => decide ((id = 0x7A0 ∨ id = 0x7A3) ∧ data.length ≤ 64)
  | .isotpTimeout _ | .serviceLogWrite | .powerOnReset _ | .resetNFall _ | .resetNRise _ | .refclkLoss
  | .pllsLocked | .loaderStart _ | .updateJournalRead | .dramTrained | .firmwareImageVerified
  | .coreResetDigestCheck | .pairRolesAssigned _ _ _ _ | .firmwareRunning | .balineServed | .autoStart
  | .processorComplexReset | .holdupStoreExhausted | .baseTemperatureSample _ _ _ _ | .windowCountsPublished
  | .imuSample _ _ _ _ _ _ _ | .plannerCycle | .planSolved _ | .plannerCoastTimeout | .plannerStartCommit
  | .plannerStopComplete | .guidanceInstant _ _ _ _ _ _ | .poseStaleExpiry | .drLimitExpiry
  | .guidanceStartCommit | .guidanceStopComplete | .yieldConfigCommit | .switchingCyclesStore | .egoInstant _
  | .egoConfigCommit | .fusionGather | .fusionResultsIssued _ _ _ | .pointPacketReceived _
  | .fusionEgoLostTimeout | .fusionStartCommit | .fusionStopComplete | .antennaBiasRetry _ _ | .gnssBankEpoch _
  | .jammingAlarmTimeout | .measurementEpoch _ | .gnssDataStore | .gnssStartCommit | .pipCaptureBegin
  | .pipStored _ | .pipProcessingUnit _ _ _ | .ppsInEdge _ | .squallWindowEnd | .watchdogExpiry
  | .failoverRestoreComplete _ | .aliveHeartbeatTimeout | .powerStateEntryComplete | .ignRise
  | .ignOffDelayExpiry | .wakeTimerExpiry | .budgetWindow | .panelTemperatureRead _ | .panelSupplySample _ _ _
  | .panelSupplyRestored | .panelRowStart | .panelPhaseEnd | .panelJournalTick | .panelStopComplete
  | .updateCopyBegin | .updateSectorDone _ | .updateCheckComplete _ | .refclkReturn _ | .ignFall => true
  | .sessionKeepaliveTimeout session | .faultLogEntryQueued session => decide (session < 65536)
  | .groupHoldExpiry g | .groupStartCommit g | .groupStopComplete g => decide (g < 64)
  | .channelHoldExpiry k | .channelStartCommit k | .channelStopComplete k | .pwmPeriodStart k _
  | .pwmOnTimeEnd k | .currentLimitEntry k _ | .shortClassifyCheck k _ _ | .shortConfirmExpiry k | .limitExit k
  | .limitTimeExpiry k | .retryOffExpiry k | .channelOverload k _ | .openLoadDetect k _ _ | .clampEventBegin k
  | .clampEventEnd k _ | .clampWindowAgeOut k => decide (k < 24)
  | .supervisorCheckFailed check => decide (check < 2 ^ 32)
  | .logicFeedRangeChange feed _ _ => decide (feed < 3)
  | .vref5LimitTimeout v | .vref5Retry v _ => decide (v < 2)
  | .firewallDrop pair tag access address => decide (pair < 4 ∧ tag < 2 ^ 32 ∧ access < 8 ∧ address < 2 ^ 48)
  | .accessRefused master access address => decide (master < 256 ∧ access < 8 ∧ address < 2 ^ 48)
  | .loopSample n | .loopSampleMissed n => decide (n < 512)
  | .hitOnset k _ _ | .mergedHit k _ _ | .hitWindowComplete k _ _ | .hitClassified k
  | .frontEndSelftest k _ | .flowCurveApply k => decide (k < 32)
  | .hitQuietEnd q => decide (q.k < 32)
  | .countingWindowEnd flow => decide (flow.length ≤ 4) && flow.all fun e => decide (e.ch < 32)
  | .ainUpdate k _ _ | .ainRangeCount k _ => decide (k < 16)
  | .finEdgeAccepted k _ _ _ | .qerrExpiry k | .finUpdate k | .cameraPowerLimit k _ | .cameraPowerRetry k _
  | .cameraLinkChange k _ _ | .cameraTrigger k | .frameStart k | .frameSlotMissing k | .csi2PacketReceived k _
  | .frameEnd k | .frameProcessed k _ | .statsRecordSent k | .exposureWritesComplete k | .pipeStartCommit k
  | .pipeStartTimeout k | .pipeStopComplete k => decide (k < 8)
  | .posUpdate k _ _ _ _ _ | .excitationLimitTimeout k | .excitationRetry k _ => decide (k < 4)
  | .inputConfigCommit sel k | .inputSettlingEnd sel k | .inputValidityReport sel k => inputOk sel k
  | .classifierSetCommit set => decide (set < 4)
  | .cvOverLimitTimeout j => decide (j < 6)
  | .poseReceived _ port ident _ => decide (port < 65536 ∧ ident < 2 ^ 29)
  | .quietWindowExpiry stud | .studUnderVoltage stud _ | .studOverVoltage stud _ _ | .studSupplySettled stud _
  | .studGateAdmit stud _ | .studCurrentGate stud _ => decide (stud < 2)
  | .dieOverTemperature d _ | .dieGateOpen d _ | .dieSensorFault d _ => decide (d < 12)
  | .weightsWriteComplete slot => decide (slot < 2)
  | .antennaBiasChange toState _ => decide (toState < 4)
  | .acquisitionFalseAlarm ch | .trackingLockChange ch _ _ | .trackingLossTimeout ch _ | .bitSyncTimeout ch
  | .subframeReceived ch _ _ _ _ => decide (ch < 48)
  | .lostPrnExpiry prn => decide (1 ≤ prn ∧ prn ≤ 32)
  | .timeStepMade d | .ppsOutPulse d | .ptpSourceTimeout d | .ppsInTimeout d | .slewComplete d
  | .holdoverSpecExceeded d | .domainStartCommit d => decide (d < 4)
  | .ptpMessageReceived port _ => decide (port < 7)
  | .ptpMessageSend d port _ => decide (d < 4 ∧ port < 7)
  | .ptpEventForwarded inPort outPort _ _ _ => decide (inPort < 9 ∧ outPort < 9)
  | .gateEntryExpiry port | .gateListStart port => decide (1 ≤ port ∧ port ≤ 6)
  | .portConfigApply port | .portLinkChange port _ | .ethFrameReceived port _ => decide (port < 9)
  | .canFrameReceived k _ | .canProtocolException k _ | .canBusError k _ _ _ | .canTxAttemptEnd k _ _
  | .canBusoffRecovered k | .canTxDominantTimeout k | .canBusDominantTimeout k | .canBusIntegrated k
  | .canStopComplete k | .addressClaimTimeout k | .cannotClaimDelayExpiry k | .hpFrameHoldoffExpiry k
  | .rxReadyHoldoffExpiry k | .canWakePattern k | .busDominantCleared k => decide (k < 10)
  | .faultSourceRaised src enc _ _ _ _ => decide (src < 256 ∧ enc.code < 4 ∧ enc.code ≠ 1)
  | .faultSourceReturned r => decide (r.src < 256)
  | .faultLinkRestored src enc => decide (src < 256 ∧ (enc.code = 1 ∨ enc.code = 2))
  | .lockstepMiscompare pair _ | .deadPairReset pair | .quarantineSelfTestEnd pair _ | .heartbeatWrite pair
  | .watchdogService pair => decide (pair < 4)
  | .checkpointWrite c => decide (c.pair < 4)
  | .energyMeter use _ _ => use.all fun e => decide (e.1 < 16)
  | .perturbationExpiry slot => decide (slot < 16)

end Sys2Proof
end

