-- ==== Sys2Proof/Machine/Transport.lean ====
section
/-! DEFINITION. Baline from the arrival of a packet to its reply (03 R70 to R92, Table 3.4): transports,
the order of checks, repeats and replies. -/

namespace Sys2Proof.Machine

/-- Baline is served on an endpoint (01 R43, R44; 15 R497; 17 R565): on P0 from event 9 or by the loader, on
CAN2 while it is RUNNING, and neither from the entry to LULL, CALM or OFF on. -/
def served (s : State) (ep : Endpoint) : Bool :=
  let fw := decide (9 ≤ s.boot.phase) && decide (0 < activePairs s)
  let awake := decide (s.pwr.state ≤ 1) && (match s.pwr.entering with | some t => decide (t ≤ 1) | none => true)
  awake && match ep with
    | .udp _ _ => fw || s.boot.loaderServes
    | .can2 => fw && decide (s.st (canFid 2) = .running)

/-- The largest packet of a transport (R74, R75). -/
def epMax : Endpoint → Nat
  | .udp _ _ => 8192
  | .can2 => 4095

def session (s : State) (n : Nat) : Option Session := s.net.sessions.find? fun x => decide (x.num = n)
/-- An open session bound to the sending endpoint (R87). -/
def boundSession (s : State) (h : Hdr) : Option Session :=
  match session s h.session with
  | some x => if x.ep = h.ep then some x else none
  | none => none

/-- The largest packet a header's session admits (R74); the transport's where it names none. -/
def packetMax (s : State) (h : Hdr) : Nat := match boundSession s h with | some x => x.maxPkt | none => epMax h.ep

def mapSession (s : State) (n : Nat) (f : Session → Session) : State :=
  { s with net := { s.net with sessions := s.net.sessions.map fun x => if x.num = n then f x else x } }

/-- A reply (R79, Table 3.5). -/
def replyOf (h : Hdr) (code st detail : Nat) (data : Bytes) : Packet :=
  { flags := 1, session := h.session, seq := h.seq, opcode := code
    params := b1 st ++ b1 0 ++ le 2 detail ++ data }

/-- The reply leaves, and joins the session's 32 latest (R85); an OPEN_SESSION's is kept for its endpoint
(R87). -/
def answer (s : State) (h : Hdr) (code st detail : Nat) (data : Bytes) : State :=
  let k := replyOf h code st detail data
  let s :=
    if h.session ≠ 0 then
      mapSession s h.session fun x => { x with answered := ((h.seq, k) :: x.answered).take 32 }
    else if code = 0x0101 then
      { s with net := { s.net with openReplies :=
          { ep := h.ep, seq := h.seq, at_ := s.mono, reply := k } :: s.net.openReplies.filter fun r => decide (r.ep ≠ h.ep) } }
    else s
  sendPacket s h.ep k

/-- A packet fails step 1 or 2 of Table 3.4: discarded and counted. -/
def discard (s : State) : State := { s with net := { s.net with discarded := s.net.discarded + 1 } }

/-- Step 8 (01 R43). -/
def servesNow (s : State) (code : Nat) : Bool :=
  !limited s || decide (code / 256 = 0x01 ∨ code / 256 = 0x0D ∨ code / 256 = 0x0F)

/-- Steps 8 to 12 of Table 3.4: the failing status and its detail. -/
def gate (s : State) (op : OpSpec) (h : Hdr) (p : Bytes) : Option (Nat × Nat) :=
  if !servesNow s op.code then some (stWrongState, 0)
  else if op.bench && !s.boot.bench then some (stDenied, 0)
  else if op.token && s.net.token ≠ some h.session then some (stNotOwner, 0)
  else if p.length ≠ op.len p then some (stBadLength, op.len p)
  else if 8 ≤ h.flags then some (stBadParam, noField)
  else match firstBad (op.layout p) with
    | some o => some (stBadParam, o)
    | none => if packetMax s h < 20 + op.reply p then some (stBadParam, noField) else none

/-- Opcodes whose store flag ends SETTINGS_DEFAULTED (17 R568): the byte and bit of the flag. -/
def storeFlag (code : Nat) : Option (Nat × Nat) :=
  match code with
  | 0x0200 => some (5, 0) | 0x0202 => some (1, 0) | 0x0400 => some (3, 1)
  | 0x0500 | 0x0502 | 0x0503 | 0x0504 => some (1, 0) | 0x0505 => some (0, 0) | 0x0501 => some (1, 1)
  | 0x0607 => some (0, 1) | 0x0800 => some (2, 0) | 0x0B03 => some (1, 0) | 0x0B04 => some (1, 1)
  | 0x0D02 => some (2, 0) | 0x0D03 => some (1, 0) | 0x0E01 => some (1, 0) | _ => none

def storesSettings (code : Nat) (p : Bytes) : Bool :=
  code = 0x010E || match storeFlag code with
    | some (o, b) => tbit (byteAt p o) b && (code ≠ 0x0800 || byteAt p 0 = 0)
    | none => false

/-- The state a command's body sees: it knows its session and sequence number. -/
def State.within (s : State) (h : Hdr) : State :=
  { s with cur := if h.session = 0 then none else some (h.session, h.seq) }

/-- The commit record of an executed command in its session's journal (R90). A command's effect is one step, so
that the record is applied as it is written, and its number stands for all its writes. -/
def commitRecord (s : State) : State :=
  match s.cur with
  | none => s
  | some (n, q) =>
    let r : JRec := { num := s.net.journalNum, seq := q, epoch := s.fcr.epoch }
    let s := mapSession s n fun x => { x with journal := (r :: x.journal).take 32 }
    { s with net := { s.net with journalNum := s.net.journalNum + 1 } }

/-- What a body leaves; a command that stores settings ends the condition of 17 R568. -/
def finish (code : Nat) (p : Bytes) (a : Ans) : State :=
  let t : State := if a.st ≤ stDeferred then { commitRecord a.s with cur := none } else { a.s with cur := none }
  if a.st ≤ stDeferred && storesSettings code p then { t with upd := { t.upd with defaulted := none } } else t

/-- Step 13 and the effect. A reply that would be larger than the session's largest packet is refused and
leaves no effect (R74); where the opcode tells its reply's size beforehand, `gate` has refused it already. -/
def perform (s : State) (op : OpSpec) (h : Hdr) (p : Bytes) : State :=
  let a := op.body (s.within h) p
  if packetMax s h < 20 + a.data.length then answer s h op.code stBadParam noField []
  else answer (finish op.code p a) h op.code a.st a.detail a.data

/-! ## Outstanding commands (R83, R85, R86) -/

/-- The commands of a session taken up and not yet answered: their sequence numbers, oldest first, and whether one
of them has an opcode of a subsystem. -/
def outstanding (s : State) (n : Nat) : List Nat := (s.net.held.filter fun e => decide (e.session = n)).map (·.seq)
def heldOf (s : State) (n sub : Nat) : Bool :=
  s.net.held.any fun e => decide (e.session = n ∧ e.code / 256 = sub)

/-- A read through a camera's tunnel waits for the exposure writes in progress (10 R351). -/
def waits (s : State) : Instr → Bool
  | .sensorTunnelRead _ p _ => (s.pipe (byteAt p 0)).writing.isSome
  | _ => false

/-- A command taken up waits: because the module is busy with other work, behind an earlier one of its subsystem
(R83), or as CLOSE_SESSION behind every earlier one (R88). -/
def mustWait (s : State) (h : Hdr) (code : Nat) : Bool :=
  decide (h.session ≠ 0) &&
    (h.later || heldOf s h.session (code / 256) || (decide (code = 0x0102) && !(outstanding s h.session).isEmpty))

/-- A command joins those that wait; `i` is the command as it is resumed. -/
def hold (s : State) (h : Hdr) (code : Nat) (i : Instr) : State :=
  { s with net := { s.net with
    held := s.net.held ++ [{ session := h.session, seq := h.seq, code := code, cmd := i }] } }

/-- Steps 6 to 13. `op` is none for an opcode that is not defined. -/
def takeUp (s : State) (code : Nat) (op : Option OpSpec) (h : Hdr) (p : Bytes) (i : Instr) : State :=
  if h.session ≠ 0 ∧ 16 ≤ (outstanding s h.session).length then answer s h code stBusy 0 []
  else match op with
    | none => answer s h code stBadOpcode 0 []
    | some op =>
      match gate s op h p with
      | some (st, d) => answer s h code st d []
      | none => if mustWait s h code || waits s i then hold s h code i else perform s op h p

/-- A command that has waited completes; if its session has closed meanwhile its reply is discarded (R88). -/
def resume (s : State) (op : Option OpSpec) (h : Hdr) (p : Bytes) : State :=
  match op with
  | none => s
  | some op =>
    if (session s h.session).isSome then perform s op h p
    else finish op.code p (op.body (s.within h) p)

/-- Step 5 (R85): what a repeat gets, if the packet is one: nothing while the command is outstanding, the
cached reply once it is answered. -/
def repeated (s : State) (x : Session) (h : Hdr) : Option (Option Packet) :=
  if (outstanding s h.session).contains h.seq then some none
  else (x.answered.find? fun e => decide (e.1 = h.seq)).map fun e => some e.2

/-! ## A command's arrival -/

/-- A command's packet (R70, R71). -/
def commandBytes (h : Hdr) (code : Nat) (p : Bytes) : Bytes :=
  let b := le 2 0x4B46 ++ b1 h.version ++ b1 h.flags ++ le 2 h.session ++ le 2 h.seq ++ le 2 code ++ le 2 p.length ++ p
  b ++ le 4 (crc32c b).toNat

/-- A packet reaches the interpreter: on UDP a datagram in one piece with the right checksum, to the module's own
address, or to ff02::1 for a GET_IDENTITY with session 0 (R73); on CAN2 the oldest whole message received (R75). -/
def reached (s : State) (h : Hdr) (code : Nat) (p : Bytes) : Bool :=
  match h.ep with
  | .udp _ _ => h.sumOk && h.whole && (!h.toAll || decide (h.session = 0 ∧ code = 0x0100))
  | .can2 => decide (s.net.isoMsg.head? = some (commandBytes h code p))

/-- The packet is taken from where it was received. -/
def unbox (s : State) (ep : Endpoint) : State :=
  { s with net := match ep with
      | .udp _ _ => s.net
      | .can2 => { s.net with isoMsg := s.net.isoMsg.drop 1 } }

/-- A packet with session 0: the kept reply to a repeated OPEN_SESSION (R87), or the command. -/
def sessionless (s : State) (code : Nat) (op : Option OpSpec) (h : Hdr) (p : Bytes) (i : Instr) : State :=
  match s.net.openReplies.find? fun r => decide (r.ep = h.ep ∧ r.seq = h.seq) && !s.past r.at_ (secT 10) with
  | some r => if code = 0x0101 then sendPacket s h.ep r.reply else takeUp s code op h p i
  | none => takeUp s code op h p i

/-- A command that has reached the interpreter (Table 3.4). -/
def received (s : State) (code : Nat) (op : Option OpSpec) (h : Hdr) (p : Bytes) (i : Instr) : State :=
  if h.flags % 4 ≠ 0 ∨ packetMax s h < 16 + p.length then discard s
  else if h.version ≠ 1 then sendPacket s h.ep (replyOf h code stBadOpcode 0 [])
  else if h.session = 0 ∧ (code = 0x0100 ∨ code = 0x0101) then sessionless s code op h p i
  else match boundSession s h with
    | none => sendPacket s h.ep (replyOf h code stWrongState 0 [])
    | some x =>
      let s := mapSession s h.session fun x => { x with last := s.mono }
      match repeated s x h with
      | some none => s
      | some (some k) => sendPacket s h.ep k
      | none => takeUp s code op h p i

/-- A command: one that the module resumes, or one from outside; `i` is the command as it would be resumed. -/
def command (s : State) (code : Nat) (op : Option OpSpec) (h : Hdr) (p : Bytes) (i : Instr) : State :=
  if h.taken then resume s op h p
  else if served s h.ep && reached s h code p then received (unbox s h.ep) code op h p i
  else s

/-- A command whose opcode is defined. -/
def host (op : OpSpec) (h : Hdr) (p : Bytes) (i : Instr) (s : State) : State :=
  settle (command s op.code (some op) h p i)

/-- A command of an opcode from whose effect nothing follows in another block. -/
def hostOnly (op : OpSpec) (h : Hdr) (p : Bytes) (i : Instr) (s : State) : State :=
  command s op.code (some op) h p i

/-- UNDEFINED_OPCODE (R104). -/
def xUndefinedOpcode (h : Hdr) (code : Nat) (p : Bytes) (s : State) : State :=
  if opcodeListed code then s else command s code none h p (.undefinedOpcode h.resumed code p)

/-! ## What is not a command -/

/-- Step 1 and step 2 over the bytes of a packet. -/
def packetGood (s : State) (ep : Endpoint) (raw : Bytes) : Bool :=
  let n := rd raw 10 2
  let h : Hdr := { ep := ep, version := 1, flags := 0, session := rd raw 4 2, seq := 0 }
  rd raw 0 2 = 0x4B46 && raw.length = 16 + n && decide (raw.length ≤ packetMax s h) &&
    (crc32c (raw.take (12 + n))).toNat = rd raw (12 + n) 4 && byteAt raw 3 % 4 = 0

/-- BALINE_PACKET_DISCARDED (R77): a UDP payload, or on CAN2 the oldest whole message received. -/
def xBalinePacketDiscarded (ep : Endpoint) (raw : Bytes) (s : State) : State :=
  let here := match ep with | .udp _ _ => true | .can2 => decide (s.net.isoMsg.head? = some raw)
  if served s ep && here && !packetGood s ep raw then discard (unbox s ep) else s

/-- BALINE_PORT_MISMATCH_DROP (R72): a datagram to port 48620 on P1 to P8. -/
def xBalinePortMismatchDrop (port : Nat) (s : State) : State :=
  if 1 ≤ port ∧ port ≤ 8 ∧ fwRuns s = true ∧ s.pwr.state ≤ 1 then
    { s with net := { s.net with mismatch := s.net.mismatch + 1 } }
  else s

/-- The P0 address (R73): link-local, with the modified EUI-64 of the MAC (log entry 15). -/
def linkLocal (m : BitVec 48) : BitVec 128 :=
  0xFE80000000000000#64 ++ (m.extractLsb' 24 24 ^^^ 0x020000#24) ++ 0xFFFE#16 ++ m.extractLsb' 0 24
def ownAddress : BitVec 128 := linkLocal Config.mac

/-- P0 answers (R73). -/
def p0Answers (s : State) : Bool := served s (.udp 0 0)

/-- NEIGHBOUR_DISCOVERY (R73). -/
def xNeighbourDiscovery (src target : Nat) (s : State) : State :=
  if p0Answers s && target = ownAddress.toNat then { s with sent := .neighbour src target :: s.sent } else s

/-- ICMPV6_ECHO (R73). -/
def xIcmpv6Echo (src ident seq : Nat) (data : Bytes) (s : State) : State :=
  if p0Answers s then { s with sent := .echo src ident seq data :: s.sent } else s

/-! ## ISO-TP reception (R75) -/

def setIsoRx (s : State) (r : Option IsoRx) : State := { s with net := { s.net with isoRx := r } }

/-- A message has arrived whole, and waits to be taken up as a packet. -/
def isoWhole (s : State) (m : Bytes) : State :=
  { s with net := { s.net with isoRx := none, isoMsg := s.net.isoMsg ++ [m] } }

/-- STmin in ticks (ISO 15765-2; log entry 17). -/
def gapTicks (v : Nat) : Nat :=
  if v ≤ 0x7F then msT v else if 0xF1 ≤ v ∧ v ≤ 0xF9 then usT (100 * (v - 0xF0)) else msT 127

/-- The host's flow control for a message that waits for it. -/
def isoFlow (s : State) (id : Nat) (d : Bytes) : State :=
  match s.net.isoTx.find? fun t => decide (t.id = id) && t.begun && t.waiting with
  | none => s
  | some t =>
    match byteAt d 0 % 16 with
    | 0 =>
      let bs := byteAt d 1
      isoPut s { t with
        waiting := false, left := if bs = 0 then none else some bs, gap := gapTicks (byteAt d 2), due := s.mono }
    | 1 => isoPut s { t with since := s.mono }
    | _ => isoEnd s id

/-- A frame on 0x7A0 that is not flow control. -/
def isoFrameIn (s : State) (d : Bytes) : State :=
  let b0 := byteAt d 0
  match b0 / 16 with
  | 0 =>
    if b0 % 16 ≠ 0 then isoWhole s (slice d 1 (b0 % 16))
    else if 8 < d.length then isoWhole s (slice d 2 (byteAt d 1)) else s
  | 1 =>
    let n := b0 % 16 * 256 + byteAt d 1
    if n = 0 then isoSend s 0x7A1 [0x32#8, 0#8, 0#8]
    else isoSend (setIsoRx s (some { need := n, got := d.drop 2, next := 1, last := s.mono })) 0x7A1 [0x30#8, 0#8, 0#8]
  | 2 =>
    match s.net.isoRx with
    | none => s
    | some r =>
      if b0 % 16 ≠ r.next % 16 then setIsoRx s none
      else
        let got := r.got ++ d.drop 1
        if r.need ≤ got.length then isoWhole s (got.take r.need)
        else setIsoRx s (some { r with got := got, next := r.next + 1, last := s.mono })
  | _ => s

/-- ISOTP_FRAME_RECEIVED (R75, Table 3.3). -/
def xIsotpFrameReceived (id : Nat) (d : Bytes) (s : State) : State :=
  if !served s .can2 then s
  else if byteAt d 0 / 16 = 3 then
    if id = 0x7A0 then isoFlow s 0x7A1 d else if id = 0x7A3 then isoFlow s 0x7A2 d else s
  else if id = 0x7A0 then isoFrameIn s d
  else s

/-- ISOTP_TIMEOUT (R75): N_Bs, the host's flow control has not come; N_Cr, its next frame has not. -/
def xIsotpTimeout (nBs : Bool) (s : State) : State :=
  if nBs then
    let late := s.net.isoTx.filter fun t => t.begun && t.waiting && s.past t.since (msT 1000)
    late.foldl (fun s t => isoEnd s t.id) s
  else match s.net.isoRx with
    | some r => if s.past r.last (msT 1000) then setIsoRx s none else s
    | none => s

/-! ## Sessions and the service log -/

/-- SESSION_KEEPALIVE_TIMEOUT (R88). -/
def xSessionKeepaliveTimeout (n : Nat) (s : State) : State :=
  match session s n with
  | some x => if s.past x.last (msT x.keepMs) then closeSession s n 2 else s
  | none => s

/-- Insert an entry among entries in ascending order of time, after those of its own time. -/
def insertLog (e : LogE) : List LogE → List LogE
  | [] => [e]
  | x :: r => if T96.lt e.time x.time then e :: x :: r else x :: insertLog e r

/-- SERVICE_LOG_WRITE (R100): the diagnostics holder writes what waits, in the order of TIME96. -/
def xServiceLogWrite (s : State) : State :=
  if fwRuns s && mayWork s 5 && !s.net.swait.isEmpty then
    let l := s.net.swait.reverse.foldl (fun l e => insertLog e l) []
    let n := s.net.slogNext
    let l := l.zipIdx.map fun e =>
      { e.1 with num := (n + e.2) % 2 ^ 32, lost := if e.2 = 0 then s.net.slogLost else 0 }
    { s with net := { s.net with
        swait := [], slogLost := 0, slogNext := (n + l.length) % 2 ^ 32
        slog := swaitTrim 4294967296 (l.reverse ++ s.net.slog) } }
  else s

end Sys2Proof.Machine
end

