-- ==== Sys2Proof/Machine/System.lean ====
section
/-! DEFINITION. The system opcodes, subsystem 0x01 (03 R87 to R103). -/

namespace Sys2Proof.Machine

/-! ## Identity -/

/-- Firmware version of what runs (R97). -/
def fwVersion (s : State) : Nat := if s.boot.image.isEmpty then Config.noVersion.toNat else ihVersion s.boot.image

/-- The service byte of Table 3.12. -/
def serviceBits (s : State) : Nat := bit s.boot.bench 0 + bit (limited s) 1 + bit (decide (sparePairs s = 0)) 2

/-- GET_IDENTITY (R97, Table 3.12). -/
def opGetIdentity : OpSpec where
  code := 0x0100
  len := fun _ => 0
  body := fun s _ =>
    okWith s
      (le 4 hardwareType ++ le 12 Config.unitId.toNat ++ le 4 (fwVersion s) ++ le 4 Config.loaderVersion.toNat ++
        le 2 (schemaNow s) ++ b1 1 ++ b1 (serviceBits s) ++ le 4 s.fcr.epoch ++ le 4 s.boot.coreResets ++
        le 8 s.mono ++ b1 s.net.sessions.length ++ b1 (bit s.net.token.isSome 0) ++
        (le 6 Config.mac.toNat).reverse ++ b1 s.boot.cause ++ zeros 3)

/-! ## Sessions -/

/-- The session counter advances by one and skips 0x0000 and 0xFFFF (R87). -/
def nextSession (n : Nat) : Nat := if 0xFFFE ≤ n then 1 else n + 1

/-- A new session and what follows its opening (R87, R94, R100; 17 R568). Its streams start empty: records and
captures that the fault collector held through a processor-complex reset are delivered to a session opened after it on
FAULT_READ and CAPTURE_READ, and none is streamed again, which 01 R36 leaves open (DESIGN CHOICE, log entry 56). -/
def openNow (s : State) (ep : Endpoint) (p : Bytes) : State :=
  let n := s.net.counter
  let x : Session :=
    { num := n, ep := ep, maxPkt := rd p 0 2, keepMs := rd p 2 2, name := slice p 4 16, last := s.mono
      streams := [{ typ := sEvents }, { typ := sFaults }] }
  let s := { s with net := { s.net with sessions := s.net.sessions ++ [x], counter := nextSession n } }
  let s := slogAdd s 2 (le 2 n ++ zeros 2 ++ fitBytes 16 x.name)
  let s := emit s 0x0103 0xFFFF (le 2 n ++ zeros 2)
  match s.upd.defaulted with
  | none => s
  | some (o, m) =>
    let body := evBody 0x0F02 0xFFFF 2 0 (le 2 o ++ le 2 m)
    let (pos, s) := flogAdd s s.now none body
    let s := slogAdd s 0 body
    let r : Rec := { time := s.now, fault := true, pos := some pos, body := body }
    mapSession s n fun y => { y with streams := y.streams.map fun q => if q.typ = sEvents then q.push r else q }

/-- OPEN_SESSION (R87, R98), from the endpoint of its header. R98 has it sent with session 0 and names no status for one
sent on an open session: it is answered WRONG_STATE once its layout has been checked (DESIGN CHOICE, log entry 56). -/
def opOpenSession (h : Hdr) : OpSpec where
  code := 0x0101
  len := fun _ => 20
  layout := fun p =>
    [match h.ep with | .udp _ _ => ckRange p 0 2 1232 8192 | .can2 => ckRange p 0 2 64 4095, ckRange p 2 2 500 60000]
  body := fun s p =>
    if h.session ≠ 0 then failAns s stWrongState 0
    else if 4 ≤ s.net.sessions.length ∨ (h.ep = .can2 ∧ s.net.sessions.any (fun x => decide (x.ep = .can2)) = true) then
      failAns s stBusy 0
    else
      let n := s.net.counter
      okWith (openNow s h.ep p) (le 2 n ++ b1 16 ++ b1 0 ++ le 4 s.fcr.epoch)

/-- CLOSE_SESSION (R88). -/
def opCloseSession : OpSpec where
  code := 0x0102
  len := fun _ => 0
  body := fun s _ => okAns (closeSession s (curSession s) 1)

/-- KEEPALIVE (R99). -/
def opKeepalive : OpSpec where
  code := 0x0103
  len := fun _ => 0
  body := fun s _ => okWith s (leT s.now ++ le 8 s.mono)

/-- TAKE_OWNERSHIP (R91). -/
def opTakeOwnership : OpSpec where
  code := 0x0104
  len := fun _ => 0
  body := fun s _ =>
    let me := curSession s
    match s.net.token with
    | none => okAns (emitOwner { s with net := { s.net with token := some me } } me)
    | some n => if n = me then okAns s else failAns s stLocked 0

/-- RELEASE_OWNERSHIP (R91). -/
def opReleaseOwnership : OpSpec where
  code := 0x0105
  token := true
  len := fun _ => 0
  body := fun s _ => okAns (releaseToken s (curSession s))

/-- A stream type of Table 3.8. -/
def ckStream (p : Bytes) : List FieldChk := [(0, decide (streamDepth (rd p 0 2) ≠ 0)), ckZero p 2 2]

/-- Streams of the session whose command is executed. -/
def curStreams (s : State) (f : List Stream → List Stream) : State :=
  mapSession s (curSession s) fun x => { x with streams := f x.streams }

/-- SUBSCRIBE (R76, R94). A stream already subscribed goes on. -/
def opSubscribe : OpSpec where
  code := 0x0106
  len := fun _ => 4
  layout := ckStream
  body := fun s p =>
    let t := rd p 0 2
    let onCan := match session s (curSession s) with | some x => decide (x.ep = .can2) | none => false
    if onCan && t ≠ sEvents && t ≠ sFaults then badParam s 0
    else okAns (curStreams s fun l => if l.any fun q => decide (q.typ = t) then l else l ++ [{ typ := t }])

/-- UNSUBSCRIBE (R94). -/
def opUnsubscribe : OpSpec where
  code := 0x0107
  len := fun _ => 4
  layout := ckStream
  body := fun s p => okAns (curStreams s fun l => l.filter fun q => decide (q.typ ≠ rd p 0 2))

/-! ## Functions -/

/-- A function identifier and a reserved field (R28, R99). -/
def ckFunction (p : Bytes) : List FieldChk := [(0, isFid (rd p 0 2)), ckZero p 2 2]

/-- START (01 R30 to R32). -/
def opStart : OpSpec where
  code := 0x0108
  token := true
  len := fun _ => 4
  layout := ckFunction
  body := fun s p =>
    let r := startAny (rd p 0 2) s
    { s := r.1, st := r.2.1, detail := r.2.2 }

/-- STOP of a function (01 Table 1.9). A STOP of CAN2 that comes on CAN2 is answered before the stop begins: its session
closes, and the stop waits for the reply to leave (13 R451). -/
def stopHere (f : Nat) (s : State) : State :=
  let here := match session s (curSession s) with | some x => decide (x.ep = .can2) | none => false
  if here && decide (f = canFid 2) && canRunning s 2 then
    canLeft { s with net := { s.net with stopAt := s.cur.map fun c => (s.mono, c) } } 2
  else stopAny f s

/-- STOP (01 Table 1.9). -/
def opStop : OpSpec where
  code := 0x0109
  token := true
  len := fun _ => 4
  layout := ckFunction
  body := fun s p => okAns (stopHere (rd p 0 2) s)

/-- GET_STATE (R99). -/
def opGetState : OpSpec where
  code := 0x010A
  len := fun _ => 4
  layout := ckFunction
  body := fun s p =>
    let f := s.fn (rd p 0 2)
    okWith s (b1 f.st.code ++ b1 (bit f.pend.isSome 0) ++ zeros 2 ++ leT f.changed)

/-- RESET_CORE (R99). A reset already due keeps its cause. -/
def opResetCore : OpSpec where
  code := 0x010B
  token := true
  len := fun _ => 4
  layout := fun p => [(0, decide (rd p 0 2 = 0xA55A)), ckZero p 2 2]
  body := fun s _ => okAns { s with boot := { s.boot with coreDue := some (s.boot.coreDue.getD 2) } }

/-- SAVE_SETTINGS (R99). -/
def opSaveSettings : OpSpec where
  code := 0x010E
  token := true
  len := fun _ => 4
  layout := fun p => [(0, isFid (rd p 0 2)), ckMask p 2 1 1, ckZero p 3 1]
  body := fun s p =>
    let f := rd p 0 2
    okAns { s with
      stored := copyCfg s.staged s.stored f
      autoStart := tput s.autoStart f ((byteAt p 2).testBit 0) }

/-- LOG_ERASE (R99, R100; 11 R379). -/
def opLogErase : OpSpec where
  code := 0x010F
  token := true
  len := fun _ => 4
  layout := fun p => [ckRange p 0 1 1 3, ckZero p 1 3]
  body := fun s p =>
    let a := byteAt p 0
    let s := if a.testBit 0 then { s with net := { s.net with slog := [] } } else s
    okAns (if a.testBit 1 then pipErase s else s)

/-! ## Memory (R101 to R103) -/

/-- One byte of the address map (01 R22, 17 Table 17.1). -/
def busByte (s : State) (a : Nat) : Byte :=
  if 0x40000000 ≤ a ∧ a < 0x40E00000 then regByte s a
  else if 0x81000000 ≤ a ∧ a < 0x91000000 then (norImage s).getD (a - 0x81000000) 0xFF#8
  else memGet s.mem a

/-- Bytes from an address on, ascending. -/
def busRead (s : State) (a : Nat) : Nat → Bytes
  | 0 => []
  | n + 1 => busByte s a :: busRead s (a + 1) n

/-- The fields of Table 3.15, then R101's rules over them. -/
def memChecks (p : Bytes) (readOnly : Bool) : List FieldChk :=
  let a := rd p 0 8
  let w := byteAt p 8
  let n := rd p 10 2
  let inRegion := match regionOf a n with
    | none => false
    | some k => !readOnly || decide (k ≠ 1 ∧ k ≠ 2)
  [(0, decide (a < 2 ^ 48)), (8, decide (w = 1 ∨ w = 2 ∨ w = 4 ∨ w = 8)), ckZero p 9 1, ckRange p 10 2 1 1024,
   (0, decide (a % w = 0)), (10, decide (n % w = 0)), (0, inRegion)]

/-- READ_MEM (R101, R102). `eccErr`: a DRAM access meets an uncorrectable error; its address is taken as the
first of the range. -/
def opReadMem (eccErr : Bool) : OpSpec where
  code := 0x010C
  len := fun _ => 12
  layout := fun p => memChecks p false
  reply := fun p => rd p 10 2
  body := fun s p =>
    let a := rd p 0 8
    if eccErr && decide (0x100000000 ≤ a) then
      let m := ((List.range 4).find? fun i => decide ((s.pair i).role = .active)).getD 0 + 1
      failAns (returnSrc (raiseEnc s 12 2 (a % 2 ^ 32) (m, 1, a)) 12) stInternal 0
    else okWith s (busRead s a (rd p 10 2))

/-- WRITE_MEM (R101, R103). Every register of the windows is read-only (00 Table 0.5). -/
def opWriteMem : OpSpec where
  code := 0x010D
  token := true
  bench := true
  len := fun p => 12 + rd p 10 2
  layout := fun p => memChecks p true
  body := fun s p =>
    let a := rd p 0 8
    if 0x40000000 ≤ a ∧ a < 0x40E00000 then okAns s
    else okAns { s with mem := memWrite s.mem a (slice p 12 (rd p 10 2)) }

end Sys2Proof.Machine
end

