-- ==== Sys2Proof/Machine/EventMeanings.lean ====
section
/-! DEFINITION. The meanings of the rows that are not host commands, one per row. -/

namespace Sys2Proof.Machine

/-- UNDEFINED_OPCODE (R104). -/
def execUndefinedOpcode (h : Hdr) (opcode : Nat) (p : Bytes) (s : State) : Host.Outcome State Fault Refusal :=
  .next (xUndefinedOpcode h opcode p s)

/-- BALINE_PACKET_DISCARDED (R77). -/
def execBalinePacketDiscarded (ep : Endpoint) (raw : Bytes) (s : State) : Host.Outcome State Fault Refusal :=
  .next (xBalinePacketDiscarded ep raw s)

/-- BALINE_PORT_MISMATCH_DROP (R72). -/
def execBalinePortMismatchDrop (port : Nat) (s : State) : Host.Outcome State Fault Refusal :=
  .next (xBalinePortMismatchDrop port s)

/-- NEIGHBOUR_DISCOVERY (R73). -/
def execNeighbourDiscovery (src target : Nat) (s : State) : Host.Outcome State Fault Refusal :=
  .next (xNeighbourDiscovery src target s)

/-- ICMPV6_ECHO (R73). -/
def execIcmpv6Echo (src ident seq : Nat) (data : Bytes) (s : State) : Host.Outcome State Fault Refusal :=
  .next (xIcmpv6Echo src ident seq data s)

/-- ISOTP_FRAME_RECEIVED (R75). -/
def execIsotpFrameReceived (id : Nat) (data : Bytes) (s : State) : Host.Outcome State Fault Refusal :=
  .next (xIsotpFrameReceived id data s)

/-- ISOTP_TIMEOUT (R75). -/
def execIsotpTimeout (nBs : Bool) (s : State) : Host.Outcome State Fault Refusal :=
  .next (xIsotpTimeout nBs s)

/-- SESSION_KEEPALIVE_TIMEOUT (R88). -/
def execSessionKeepaliveTimeout (session : Nat) (s : State) : Host.Outcome State Fault Refusal :=
  .next (settle (xSessionKeepaliveTimeout session s))

/-- FAULT_LOG_ENTRY_QUEUED (R95). -/
def execFaultLogEntryQueued (session : Nat) (s : State) : Host.Outcome State Fault Refusal :=
  .next (xFaultLogEntryQueued session s)

/-- SERVICE_LOG_WRITE (R100). -/
def execServiceLogWrite (s : State) : Host.Outcome State Fault Refusal :=
  .next (xServiceLogWrite s)

/-- POWER_ON_RESET (R42). -/
def execPowerOnReset (bench : Bool) (s : State) : Host.Outcome State Fault Refusal :=
  .next (settle (xPowerOnReset bench s))

/-- RESET_N_FALL (R41). -/
def execResetNFall (lowNs : Nat) (s : State) : Host.Outcome State Fault Refusal :=
  .next (settle (xResetNFall lowNs s))

/-- RESET_N_RISE (R42). -/
def execResetNRise (bench : Bool) (s : State) : Host.Outcome State Fault Refusal :=
  .next (settle (xResetNRise bench s))

/-- REFCLK_LOSS (R41). -/
def execRefclkLoss (s : State) : Host.Outcome State Fault Refusal :=
  .next (settle (xRefclkLoss s))

/-- PLLS_LOCKED (R42). -/
def execPllsLocked (s : State) : Host.Outcome State Fault Refusal :=
  .next (settle (xPllsLocked s))

/-- LOADER_START (R42). -/
def execLoaderStart (crcOk : Bool) (s : State) : Host.Outcome State Fault Refusal :=
  .next (xLoaderStart crcOk s)

/-- UPDATE_JOURNAL_READ (R563). -/
def execUpdateJournalRead (s : State) : Host.Outcome State Fault Refusal :=
  .next (xUpdateJournalRead s)

/-- DRAM_TRAINED (R42). -/
def execDramTrained (s : State) : Host.Outcome State Fault Refusal :=
  .next (xDramTrained s)

/-- FIRMWARE_IMAGE_VERIFIED (R565). -/
def execFirmwareImageVerified (s : State) : Host.Outcome State Fault Refusal :=
  .next (settle (xFirmwareImageVerified s))

/-- CORE_RESET_DIGEST_CHECK (R46). -/
def execCoreResetDigestCheck (s : State) : Host.Outcome State Fault Refusal :=
  .next (xCoreResetDigestCheck s)

/-- PAIR_ROLES_ASSIGNED (R43). -/
def execPairRolesAssigned (pa pb pc pd : Bool) (s : State) : Host.Outcome State Fault Refusal :=
  .next (settle (xPairRolesAssigned pa pb pc pd s))

/-- FIRMWARE_RUNNING (R42). -/
def execFirmwareRunning (s : State) : Host.Outcome State Fault Refusal :=
  .next (settle (xFirmwareRunning s))

/-- BALINE_SERVED (R42). -/
def execBalineServed (s : State) : Host.Outcome State Fault Refusal :=
  .next (xBalineServed s)

/-- AUTO_START (R45). -/
def execAutoStart (s : State) : Host.Outcome State Fault Refusal :=
  .next (settle (xAutoStart s))

/-- PROCESSOR_COMPLEX_RESET (R36). -/
def execProcessorComplexReset (s : State) : Host.Outcome State Fault Refusal :=
  .next (settle (xProcessorComplexReset s))

/-- GROUP_HOLD_EXPIRY (R38). -/
def execGroupHoldExpiry (g : Nat) (s : State) : Host.Outcome State Fault Refusal :=
  .next (settle (xGroupHoldExpiry g s))

/-- CHANNEL_HOLD_EXPIRY (R278). -/
def execChannelHoldExpiry (k : Nat) (s : State) : Host.Outcome State Fault Refusal :=
  .next (settle (xChannelHoldExpiry k s))

/-- SUPERVISOR_CHECK_FAILED (R40). -/
def execSupervisorCheckFailed (check : Nat) (s : State) : Host.Outcome State Fault Refusal :=
  .next (settle (xSupervisorCheckFailed check s))

/-- LOGIC_FEED_RANGE_CHANGE (R58). -/
def execLogicFeedRangeChange (feed : Nat) (inRange : Bool) (volts : F32) (s : State) : Host.Outcome State Fault Refusal :=
  .next (settle (xLogicFeedRangeChange feed inRange volts s))

/-- HOLDUP_STORE_EXHAUSTED (R59). -/
def execHoldupStoreExhausted (s : State) : Host.Outcome State Fault Refusal :=
  .next (settle (xHoldupStoreExhausted s))

/-- VREF5_LIMIT_TIMEOUT (R63). -/
def execVref5LimitTimeout (v : Nat) (s : State) : Host.Outcome State Fault Refusal :=
  .next (settle (xVref5LimitTimeout v s))

/-- VREF5_RETRY (R63). -/
def execVref5Retry (v : Nat) (ok : Bool) (s : State) : Host.Outcome State Fault Refusal :=
  .next (settle (xVref5Retry v ok s))

/-- BASE_TEMPERATURE_SAMPLE (R508). -/
def execBaseTemperatureSample (t0 t1 t2 t3 : F32) (s : State) : Host.Outcome State Fault Refusal :=
  .next (settle (xBaseTemperatureSample t0 t1 t2 t3 s))

/-- FIREWALL_DROP (R485). -/
def execFirewallDrop (pair tag access address : Nat) (s : State) : Host.Outcome State Fault Refusal :=
  .next (settle (xFirewallDrop pair tag access address s))

/-- ACCESS_REFUSED (R23). -/
def execAccessRefused (master access address : Nat) (s : State) : Host.Outcome State Fault Refusal :=
  .next (settle (xAccessRefused master access address s))

/-- LOOP_SAMPLE (R122). -/
def execLoopSample (n : Nat) (s : State) : Host.Outcome State Fault Refusal :=
  .next (settle (xLoopSample n s))

/-- LOOP_SAMPLE_MISSED (R133). -/
def execLoopSampleMissed (n : Nat) (s : State) : Host.Outcome State Fault Refusal :=
  .next (settle (xLoopSampleMissed n s))

/-- GROUP_START_COMMIT (R128). -/
def execGroupStartCommit (g : Nat) (s : State) : Host.Outcome State Fault Refusal :=
  .next (settle (xGroupStartCommit g s))

/-- GROUP_STOP_COMPLETE (R135). -/
def execGroupStopComplete (g : Nat) (s : State) : Host.Outcome State Fault Refusal :=
  .next (settle (xGroupStopComplete g s))

/-- HIT_ONSET (R173). -/
def execHitOnset (k : Nat) (pre : List Int) (x : Int) (s : State) : Host.Outcome State Fault Refusal :=
  .next (xHitOnset k pre x s)

/-- MERGED_HIT (R173). -/
def execMergedHit (k : Nat) (before : List Int) (x : Int) (s : State) : Host.Outcome State Fault Refusal :=
  .next (xMergedHit k before x s)

/-- HIT_WINDOW_COMPLETE (R175). -/
def execHitWindowComplete (k : Nat) (rest : List Int) (clipped : Bool) (s : State) : Host.Outcome State Fault Refusal :=
  .next (xHitWindowComplete k rest clipped s)

/-- HIT_QUIET_END (R173). -/
def execHitQuietEnd (q : SampleRun) (s : State) : Host.Outcome State Fault Refusal :=
  .next (xHitQuietEnd q s)

/-- HIT_CLASSIFIED (R177). -/
def execHitClassified (k : Nat) (s : State) : Host.Outcome State Fault Refusal :=
  .next (xHitClassified k s)

/-- COUNTING_WINDOW_END (R180). -/
def execCountingWindowEnd (flow : List FlowSum) (s : State) : Host.Outcome State Fault Refusal :=
  .next (settle (xCountingWindowEnd flow s))

/-- WINDOW_COUNTS_PUBLISHED (R180). -/
def execWindowCountsPublished (s : State) : Host.Outcome State Fault Refusal :=
  .next (settle (xWindowCountsPublished s))

/-- FRONT_END_SELFTEST (R172). -/
def execFrontEndSelftest (k : Nat) (ok : Bool) (s : State) : Host.Outcome State Fault Refusal :=
  .next (xFrontEndSelftest k ok s)

/-- AIN_UPDATE (R187). -/
def execAinUpdate (k : Nat) (volts refs : List F32) (s : State) : Host.Outcome State Fault Refusal :=
  .next (xAinUpdate k volts refs s)

/-- AIN_RANGE_COUNT (R188). -/
def execAinRangeCount (k : Nat) (raw : AinRaw) (s : State) : Host.Outcome State Fault Refusal :=
  .next (xAinRangeCount k raw s)

/-- FIN_EDGE_ACCEPTED (R189). -/
def execFinEdgeAccepted (k : Nat) (age : Nat) (volts : F32) (both : Bool) (s : State) : Host.Outcome State Fault Refusal :=
  .next (xFinEdgeAccepted k age volts both s)

/-- QERR_EXPIRY (R191). -/
def execQerrExpiry (k : Nat) (s : State) : Host.Outcome State Fault Refusal :=
  .next (xQerrExpiry k s)

/-- FIN_UPDATE (R190). -/
def execFinUpdate (k : Nat) (s : State) : Host.Outcome State Fault Refusal :=
  .next (xFinUpdate k s)

/-- POS_UPDATE (R193). -/
def execPosUpdate (k : Nat) (theta : F32) (cycles : Int) (speed ampl trackErr : F32) (s : State) : Host.Outcome State Fault Refusal :=
  .next (xPosUpdate k theta cycles speed ampl trackErr s)

/-- EXCITATION_LIMIT_TIMEOUT (R192). -/
def execExcitationLimitTimeout (k : Nat) (s : State) : Host.Outcome State Fault Refusal :=
  .next (xExcitationLimitTimeout k s)

/-- EXCITATION_RETRY (R192). -/
def execExcitationRetry (k : Nat) (ok : Bool) (s : State) : Host.Outcome State Fault Refusal :=
  .next (xExcitationRetry k ok s)

/-- IMU_SAMPLE (R195). -/
def execImuSample (ax ay az gx gy gz : F32) (saturated : Bool) (s : State) : Host.Outcome State Fault Refusal :=
  .next (xImuSample ax ay az gx gy gz saturated s)

/-- INPUT_CONFIG_COMMIT (R198). -/
def execInputConfigCommit (sel k : Nat) (s : State) : Host.Outcome State Fault Refusal :=
  .next (settle (xInputConfigCommit sel k s))

/-- INPUT_SETTLING_END (R198). -/
def execInputSettlingEnd (sel k : Nat) (s : State) : Host.Outcome State Fault Refusal :=
  .next (settle (xInputSettlingEnd sel k s))

/-- CLASSIFIER_SET_COMMIT (R203). -/
def execClassifierSetCommit (set : Nat) (s : State) : Host.Outcome State Fault Refusal :=
  .next (xClassifierSetCommit set s)

/-- FLOW_CURVE_APPLY (R204). -/
def execFlowCurveApply (k : Nat) (s : State) : Host.Outcome State Fault Refusal :=
  .next (xFlowCurveApply k s)

/-- INPUT_VALIDITY_REPORT (R208). -/
def execInputValidityReport (sel k : Nat) (s : State) : Host.Outcome State Fault Refusal :=
  .next (settle (xInputValidityReport sel k s))

/-- PLANNER_CYCLE (R213). -/
def execPlannerCycle (s : State) : Host.Outcome State Fault Refusal :=
  .next (settle (xPlannerCycle s))

/-- PLAN_SOLVED (R222). -/
def execPlanSolved (mvs : List (List F32)) (s : State) : Host.Outcome State Fault Refusal :=
  .next (xPlanSolved mvs s)

/-- PLANNER_COAST_TIMEOUT (R215). -/
def execPlannerCoastTimeout (s : State) : Host.Outcome State Fault Refusal :=
  .next (settle (xPlannerCoastTimeout s))

/-- PLANNER_START_COMMIT (R230). -/
def execPlannerStartCommit (s : State) : Host.Outcome State Fault Refusal :=
  .next (settle (xPlannerStartCommit s))

/-- PLANNER_STOP_COMPLETE (R231). -/
def execPlannerStopComplete (s : State) : Host.Outcome State Fault Refusal :=
  .next (settle (xPlannerStopComplete s))

/-- CV_OVER_LIMIT_TIMEOUT (R246). -/
def execCvOverLimitTimeout (j : Nat) (s : State) : Host.Outcome State Fault Refusal :=
  .next (xCvOverLimitTimeout j s)

/-- GUIDANCE_INSTANT (R237). -/
def execGuidanceInstant (ey ePsi kap sNear : F32) (beyondEnd : Bool) (retire : Nat) (s : State) : Host.Outcome State Fault Refusal :=
  .next (settle (xGuidanceInstant ey ePsi kap sNear beyondEnd retire s))

/-- POSE_RECEIVED (R238). -/
def execPoseReceived (udp : Bool) (port ident : Nat) (raw : Bytes) (s : State) : Host.Outcome State Fault Refusal :=
  .next (xPoseReceived udp port ident raw s)

/-- POSE_STALE_EXPIRY (R240). -/
def execPoseStaleExpiry (s : State) : Host.Outcome State Fault Refusal :=
  .next (xPoseStaleExpiry s)

/-- DR_LIMIT_EXPIRY (R240). -/
def execDrLimitExpiry (s : State) : Host.Outcome State Fault Refusal :=
  .next (settle (xDrLimitExpiry s))

/-- GUIDANCE_START_COMMIT (R241). -/
def execGuidanceStartCommit (s : State) : Host.Outcome State Fault Refusal :=
  .next (xGuidanceStartCommit s)

/-- GUIDANCE_STOP_COMPLETE (R241). -/
def execGuidanceStopComplete (s : State) : Host.Outcome State Fault Refusal :=
  .next (settle (xGuidanceStopComplete s))

/-- YIELD_CONFIG_COMMIT (R245). -/
def execYieldConfigCommit (s : State) : Host.Outcome State Fault Refusal :=
  .next (xYieldConfigCommit s)

/-- CHANNEL_START_COMMIT (R275). -/
def execChannelStartCommit (k : Nat) (s : State) : Host.Outcome State Fault Refusal :=
  .next (settle (xChannelStartCommit k s))

/-- CHANNEL_STOP_COMPLETE (R276). -/
def execChannelStopComplete (k : Nat) (s : State) : Host.Outcome State Fault Refusal :=
  .next (settle (xChannelStopComplete k s))

/-- PWM_PERIOD_START (R254). -/
def execPwmPeriodStart (k : Nat) (vMean : F32) (s : State) : Host.Outcome State Fault Refusal :=
  .next (xPwmPeriodStart k vMean s)

/-- PWM_ON_TIME_END (R254). -/
def execPwmOnTimeEnd (k : Nat) (s : State) : Host.Outcome State Fault Refusal :=
  .next (xPwmOnTimeEnd k s)

/-- CURRENT_LIMIT_ENTRY (R259). -/
def execCurrentLimitEntry (k : Nat) (riseNs : Nat) (s : State) : Host.Outcome State Fault Refusal :=
  .next (xCurrentLimitEntry k riseNs s)

/-- SHORT_CLASSIFY_CHECK (R260). -/
def execShortClassifyCheck (k : Nat) (vOut vStud : F32) (s : State) : Host.Outcome State Fault Refusal :=
  .next (settle (xShortClassifyCheck k vOut vStud s))

/-- SHORT_CONFIRM_EXPIRY (R260). -/
def execShortConfirmExpiry (k : Nat) (s : State) : Host.Outcome State Fault Refusal :=
  .next (settle (xShortConfirmExpiry k s))

/-- QUIET_WINDOW_EXPIRY (R263). -/
def execQuietWindowExpiry (stud : Nat) (s : State) : Host.Outcome State Fault Refusal :=
  .next (xQuietWindowExpiry stud s)

/-- LIMIT_EXIT (R262). -/
def execLimitExit (k : Nat) (s : State) : Host.Outcome State Fault Refusal :=
  .next (settle (xLimitExit k s))

/-- LIMIT_TIME_EXPIRY (R262). -/
def execLimitTimeExpiry (k : Nat) (s : State) : Host.Outcome State Fault Refusal :=
  .next (settle (xLimitTimeExpiry k s))

/-- RETRY_OFF_EXPIRY (R263). -/
def execRetryOffExpiry (k : Nat) (s : State) : Host.Outcome State Fault Refusal :=
  .next (settle (xRetryOffExpiry k s))

/-- DIE_OVER_TEMPERATURE (R264). -/
def execDieOverTemperature (d : Nat) (t : F32) (s : State) : Host.Outcome State Fault Refusal :=
  .next (settle (xDieOverTemperature d t s))

/-- DIE_GATE_OPEN (R264). -/
def execDieGateOpen (d : Nat) (t : F32) (s : State) : Host.Outcome State Fault Refusal :=
  .next (settle (xDieGateOpen d t s))

/-- DIE_SENSOR_FAULT (R264). -/
def execDieSensorFault (d : Nat) (t : F32) (s : State) : Host.Outcome State Fault Refusal :=
  .next (settle (xDieSensorFault d t s))

/-- STUD_UNDER_VOLTAGE (R265). -/
def execStudUnderVoltage (stud : Nat) (v : F32) (s : State) : Host.Outcome State Fault Refusal :=
  .next (settle (xStudUnderVoltage stud v s))

/-- STUD_OVER_VOLTAGE (R266). -/
def execStudOverVoltage (stud : Nat) (v : F32) (byMean : Bool) (s : State) : Host.Outcome State Fault Refusal :=
  .next (settle (xStudOverVoltage stud v byMean s))

/-- STUD_SUPPLY_SETTLED (R267). -/
def execStudSupplySettled (stud : Nat) (q : StudSpan) (s : State) : Host.Outcome State Fault Refusal :=
  .next (settle (xStudSupplySettled stud q s))

/-- CHANNEL_OVERLOAD (R268). -/
def execChannelOverload (k : Nat) (mean : F32) (s : State) : Host.Outcome State Fault Refusal :=
  .next (settle (xChannelOverload k mean s))

/-- OPEN_LOAD_DETECT (R269). -/
def execOpenLoadDetect (k : Nat) (isOpen : Bool) (current : F32) (s : State) : Host.Outcome State Fault Refusal :=
  .next (settle (xOpenLoadDetect k isOpen current s))

/-- CLAMP_EVENT_BEGIN (R271). -/
def execClampEventBegin (k : Nat) (s : State) : Host.Outcome State Fault Refusal :=
  .next (xClampEventBegin k s)

/-- CLAMP_EVENT_END (R272). -/
def execClampEventEnd (k : Nat) (samples : List ClampSample) (s : State) : Host.Outcome State Fault Refusal :=
  .next (settle (xClampEventEnd k samples s))

/-- CLAMP_WINDOW_AGE_OUT (R271). -/
def execClampWindowAgeOut (k : Nat) (s : State) : Host.Outcome State Fault Refusal :=
  .next (xClampWindowAgeOut k s)

/-- STUD_GATE_ADMIT (R514). -/
def execStudGateAdmit (stud : Nat) (means : List F32) (s : State) : Host.Outcome State Fault Refusal :=
  .next (settle (xStudGateAdmit stud means s))

/-- STUD_CURRENT_GATE (R516). -/
def execStudCurrentGate (stud : Nat) (mean : F32) (s : State) : Host.Outcome State Fault Refusal :=
  .next (settle (xStudCurrentGate stud mean s))

/-- SWITCHING_CYCLES_STORE (R283). -/
def execSwitchingCyclesStore (s : State) : Host.Outcome State Fault Refusal :=
  .next (xSwitchingCyclesStore s)

/-- EGO_INSTANT (R288). -/
def execEgoInstant (e : EgoIn) (s : State) : Host.Outcome State Fault Refusal :=
  .next (settle (xEgoInstant e s))

/-- EGO_CONFIG_COMMIT (R291). -/
def execEgoConfigCommit (s : State) : Host.Outcome State Fault Refusal :=
  .next (settle (xEgoConfigCommit s))

/-- FUSION_GATHER (R296). -/
def execFusionGather (s : State) : Host.Outcome State Fault Refusal :=
  .next (xFusionGather s)

/-- FUSION_RESULTS_ISSUED (R296). -/
def execFusionResultsIssued (cells : List CellOut) (edgeL edgeR : EdgeLine) (s : State) : Host.Outcome State Fault Refusal :=
  .next (settle (xFusionResultsIssued cells edgeL edgeR s))

/-- POINT_PACKET_RECEIVED (R302). -/
def execPointPacketReceived (pk : PointPacket) (s : State) : Host.Outcome State Fault Refusal :=
  .next (xPointPacketReceived pk s)

/-- FUSION_EGO_LOST_TIMEOUT (R319). -/
def execFusionEgoLostTimeout (s : State) : Host.Outcome State Fault Refusal :=
  .next (settle (xFusionEgoLostTimeout s))

/-- FUSION_START_COMMIT (R317). -/
def execFusionStartCommit (s : State) : Host.Outcome State Fault Refusal :=
  .next (xFusionStartCommit s)

/-- FUSION_STOP_COMPLETE (R318). -/
def execFusionStopComplete (s : State) : Host.Outcome State Fault Refusal :=
  .next (settle (xFusionStopComplete s))

/-- WEIGHTS_WRITE_COMPLETE (R316). -/
def execWeightsWriteComplete (slot : Nat) (s : State) : Host.Outcome State Fault Refusal :=
  .next (xWeightsWriteComplete slot s)

/-- CAMERA_POWER_LIMIT (R329). -/
def execCameraPowerLimit (k : Nat) (current : F32) (s : State) : Host.Outcome State Fault Refusal :=
  .next (settle (xCameraPowerLimit k current s))

/-- CAMERA_POWER_RETRY (R329). -/
def execCameraPowerRetry (k : Nat) (ok : Bool) (s : State) : Host.Outcome State Fault Refusal :=
  .next (settle (xCameraPowerRetry k ok s))

/-- CAMERA_LINK_CHANGE (R329). -/
def execCameraLinkChange (k : Nat) (up : Bool) (sensorId : Nat) (s : State) : Host.Outcome State Fault Refusal :=
  .next (settle (xCameraLinkChange k up sensorId s))

/-- CAMERA_TRIGGER (R335). -/
def execCameraTrigger (k : Nat) (s : State) : Host.Outcome State Fault Refusal :=
  .next (xCameraTrigger k s)

/-- FRAME_START (R330). -/
def execFrameStart (k : Nat) (s : State) : Host.Outcome State Fault Refusal :=
  .next (settle (xFrameStart k s))

/-- FRAME_SLOT_MISSING (R331). -/
def execFrameSlotMissing (k : Nat) (s : State) : Host.Outcome State Fault Refusal :=
  .next (settle (xFrameSlotMissing k s))

/-- CSI2_PACKET_RECEIVED (R328). -/
def execCsi2PacketReceived (k : Nat) (pk : Csi2) (s : State) : Host.Outcome State Fault Refusal :=
  .next (settle (xCsi2PacketReceived k pk s))

/-- FRAME_END (R333). -/
def execFrameEnd (k : Nat) (s : State) : Host.Outcome State Fault Refusal :=
  .next (settle (xFrameEnd k s))

/-- FRAME_PROCESSED (R342). -/
def execFrameProcessed (k : Nat) (st : FrameStats) (s : State) : Host.Outcome State Fault Refusal :=
  .next (xFrameProcessed k st s)

/-- STATS_RECORD_SENT (R346). -/
def execStatsRecordSent (k : Nat) (s : State) : Host.Outcome State Fault Refusal :=
  .next (xStatsRecordSent k s)

/-- EXPOSURE_WRITES_COMPLETE (R338). -/
def execExposureWritesComplete (k : Nat) (s : State) : Host.Outcome State Fault Refusal :=
  .next (xExposureWritesComplete k s)

/-- PIPE_START_COMMIT (R347). -/
def execPipeStartCommit (k : Nat) (s : State) : Host.Outcome State Fault Refusal :=
  .next (xPipeStartCommit k s)

/-- PIPE_START_TIMEOUT (R347). -/
def execPipeStartTimeout (k : Nat) (s : State) : Host.Outcome State Fault Refusal :=
  .next (settle (xPipeStartTimeout k s))

/-- PIPE_STOP_COMPLETE (R348). -/
def execPipeStopComplete (k : Nat) (s : State) : Host.Outcome State Fault Refusal :=
  .next (settle (xPipeStopComplete k s))

/-- ANTENNA_BIAS_CHANGE (R357). -/
def execAntennaBiasChange (toState : Nat) (current : F32) (s : State) : Host.Outcome State Fault Refusal :=
  .next (settle (xAntennaBiasChange toState current s))

/-- ANTENNA_BIAS_RETRY (R357). -/
def execAntennaBiasRetry (ok : Bool) (current : F32) (s : State) : Host.Outcome State Fault Refusal :=
  .next (settle (xAntennaBiasRetry ok current s))

/-- GNSS_BANK_EPOCH (R361). -/
def execGnssBankEpoch (b : BankEpoch) (s : State) : Host.Outcome State Fault Refusal :=
  .next (settle (xGnssBankEpoch b s))

/-- JAMMING_ALARM_TIMEOUT (R360). -/
def execJammingAlarmTimeout (s : State) : Host.Outcome State Fault Refusal :=
  .next (settle (xJammingAlarmTimeout s))

/-- ACQUISITION_FALSE_ALARM (R362). -/
def execAcquisitionFalseAlarm (ch : Nat) (s : State) : Host.Outcome State Fault Refusal :=
  .next (xAcquisitionFalseAlarm ch s)

/-- TRACKING_LOCK_CHANGE (R364). -/
def execTrackingLockChange (ch : Nat) (code phase : Bool) (s : State) : Host.Outcome State Fault Refusal :=
  .next (xTrackingLockChange ch code phase s)

/-- TRACKING_LOSS_TIMEOUT (R365). -/
def execTrackingLossTimeout (ch : Nat) (byCn0 : Bool) (s : State) : Host.Outcome State Fault Refusal :=
  .next (xTrackingLossTimeout ch byCn0 s)

/-- BIT_SYNC_TIMEOUT (R364). -/
def execBitSyncTimeout (ch : Nat) (s : State) : Host.Outcome State Fault Refusal :=
  .next (xBitSyncTimeout ch s)

/-- LOST_PRN_EXPIRY (R365). -/
def execLostPrnExpiry (prn : Nat) (s : State) : Host.Outcome State Fault Refusal :=
  .next (xLostPrnExpiry prn s)

/-- SUBFRAME_RECEIVED (R367). -/
def execSubframeReceived (ch : Nat) (words : List Nat) (prevBits : Nat) (follows : Bool) (start : T96) (s : State) : Host.Outcome State Fault Refusal :=
  .next (xSubframeReceived ch words prevBits follows start s)

/-- MEASUREMENT_EPOCH (R369). -/
def execMeasurementEpoch (m : EpochIn) (s : State) : Host.Outcome State Fault Refusal :=
  .next (settle (xMeasurementEpoch m s))

/-- GNSS_DATA_STORE (R372). -/
def execGnssDataStore (s : State) : Host.Outcome State Fault Refusal :=
  .next (xGnssDataStore s)

/-- GNSS_START_COMMIT (R380). -/
def execGnssStartCommit (s : State) : Host.Outcome State Fault Refusal :=
  .next (settle (xGnssStartCommit s))

/-- PIP_CAPTURE_BEGIN (R373). -/
def execPipCaptureBegin (s : State) : Host.Outcome State Fault Refusal :=
  .next (xPipCaptureBegin s)

/-- PIP_STORED (R375). -/
def execPipStored (samples : Bytes) (s : State) : Host.Outcome State Fault Refusal :=
  .next (xPipStored samples s)

/-- PIP_PROCESSING_UNIT (R377). -/
def execPipProcessingUnit (ratio : F32) (code64 : Nat) (doppler : Int) (s : State) : Host.Outcome State Fault Refusal :=
  .next (xPipProcessingUnit ratio code64 doppler s)

/-- TIME_STEP_MADE (R401). -/
def execTimeStepMade (d : Nat) (s : State) : Host.Outcome State Fault Refusal :=
  .next (settle (xTimeStepMade d s))

/-- PPS_OUT_PULSE (R407). -/
def execPpsOutPulse (d : Nat) (s : State) : Host.Outcome State Fault Refusal :=
  .next (xPpsOutPulse d s)

/-- PTP_MESSAGE_RECEIVED (R414). -/
def execPtpMessageReceived (port : Nat) (m : PtpMsg) (s : State) : Host.Outcome State Fault Refusal :=
  .next (settle (xPtpMessageReceived port m s))

/-- PTP_MESSAGE_SEND (R414). -/
def execPtpMessageSend (d port kind : Nat) (s : State) : Host.Outcome State Fault Refusal :=
  .next (xPtpMessageSend d port kind s)

/-- PTP_EVENT_FORWARDED (R415). -/
def execPtpEventForwarded (inPort outPort domainNumber : Nat) (residence correction : Int) (s : State) : Host.Outcome State Fault Refusal :=
  .next (xPtpEventForwarded inPort outPort domainNumber residence correction s)

/-- PTP_SOURCE_TIMEOUT (R403). -/
def execPtpSourceTimeout (d : Nat) (s : State) : Host.Outcome State Fault Refusal :=
  .next (settle (xPtpSourceTimeout d s))

/-- PPS_IN_EDGE (R408). -/
def execPpsInEdge (highNs : Nat) (s : State) : Host.Outcome State Fault Refusal :=
  .next (settle (xPpsInEdge highNs s))

/-- PPS_IN_TIMEOUT (R403). -/
def execPpsInTimeout (d : Nat) (s : State) : Host.Outcome State Fault Refusal :=
  .next (settle (xPpsInTimeout d s))

/-- SLEW_COMPLETE (R399). -/
def execSlewComplete (d : Nat) (s : State) : Host.Outcome State Fault Refusal :=
  .next (xSlewComplete d s)

/-- HOLDOVER_SPEC_EXCEEDED (R397). -/
def execHoldoverSpecExceeded (d : Nat) (s : State) : Host.Outcome State Fault Refusal :=
  .next (settle (xHoldoverSpecExceeded d s))

/-- DOMAIN_START_COMMIT (R409). -/
def execDomainStartCommit (d : Nat) (s : State) : Host.Outcome State Fault Refusal :=
  .next (settle (xDomainStartCommit d s))

/-- GATE_ENTRY_EXPIRY (R419). -/
def execGateEntryExpiry (port : Nat) (s : State) : Host.Outcome State Fault Refusal :=
  .next (xGateEntryExpiry port s)

/-- GATE_LIST_START (R421). -/
def execGateListStart (port : Nat) (s : State) : Host.Outcome State Fault Refusal :=
  .next (xGateListStart port s)

/-- PORT_CONFIG_APPLY (R426). -/
def execPortConfigApply (port : Nat) (s : State) : Host.Outcome State Fault Refusal :=
  .next (settle (xPortConfigApply port s))

/-- PORT_LINK_CHANGE (R416). -/
def execPortLinkChange (port : Nat) (up : Bool) (s : State) : Host.Outcome State Fault Refusal :=
  .next (settle (xPortLinkChange port up s))

/-- ETH_FRAME_RECEIVED (R418). -/
def execEthFrameReceived (port : Nat) (f : EthFrame) (s : State) : Host.Outcome State Fault Refusal :=
  .next (xEthFrameReceived port f s)

/-- CAN_FRAME_RECEIVED (R437). -/
def execCanFrameReceived (k : Nat) (f : CanFrame) (s : State) : Host.Outcome State Fault Refusal :=
  .next (settle (xCanFrameReceived k f s))

/-- CAN_PROTOCOL_EXCEPTION (R432). -/
def execCanProtocolException (k fmt : Nat) (s : State) : Host.Outcome State Fault Refusal :=
  .next (xCanProtocolException k fmt s)

/-- CAN_BUS_ERROR (R446). -/
def execCanBusError (k : Nat) (transmitter : Bool) (add lec : Nat) (s : State) : Host.Outcome State Fault Refusal :=
  .next (settle (xCanBusError k transmitter add lec s))

/-- CAN_TX_ATTEMPT_END (R444). -/
def execCanTxAttemptEnd (k : Nat) (result : Nat) (delay : Nat) (s : State) : Host.Outcome State Fault Refusal :=
  .next (settle (xCanTxAttemptEnd k result delay s))

/-- CAN_BUSOFF_RECOVERED (R447). -/
def execCanBusoffRecovered (k : Nat) (s : State) : Host.Outcome State Fault Refusal :=
  .next (settle (xCanBusoffRecovered k s))

/-- CAN_TX_DOMINANT_TIMEOUT (R445). -/
def execCanTxDominantTimeout (k : Nat) (s : State) : Host.Outcome State Fault Refusal :=
  .next (settle (xCanTxDominantTimeout k s))

/-- CAN_BUS_DOMINANT_TIMEOUT (R445). -/
def execCanBusDominantTimeout (k : Nat) (s : State) : Host.Outcome State Fault Refusal :=
  .next (settle (xCanBusDominantTimeout k s))

/-- CAN_BUS_INTEGRATED (R450). -/
def execCanBusIntegrated (k : Nat) (s : State) : Host.Outcome State Fault Refusal :=
  .next (settle (xCanBusIntegrated k s))

/-- CAN_STOP_COMPLETE (R451). -/
def execCanStopComplete (k : Nat) (s : State) : Host.Outcome State Fault Refusal :=
  .next (settle (xCanStopComplete k s))

/-- ADDRESS_CLAIM_TIMEOUT (R449). -/
def execAddressClaimTimeout (k : Nat) (s : State) : Host.Outcome State Fault Refusal :=
  .next (settle (xAddressClaimTimeout k s))

/-- CANNOT_CLAIM_DELAY_EXPIRY (R449). -/
def execCannotClaimDelayExpiry (k : Nat) (s : State) : Host.Outcome State Fault Refusal :=
  .next (settle (xCannotClaimDelayExpiry k s))

/-- HP_FRAME_HOLDOFF_EXPIRY (R440). -/
def execHpFrameHoldoffExpiry (k : Nat) (s : State) : Host.Outcome State Fault Refusal :=
  .next (xHpFrameHoldoffExpiry k s)

/-- RX_READY_HOLDOFF_EXPIRY (R439). -/
def execRxReadyHoldoffExpiry (k : Nat) (s : State) : Host.Outcome State Fault Refusal :=
  .next (xRxReadyHoldoffExpiry k s)

/-- FAULT_SOURCE_RAISED (R461). -/
def execFaultSourceRaised (src : Nat) (enc : Rails) (detail master access address : Nat) (s : State) : Host.Outcome State Fault Refusal :=
  .next (settle (xFaultSourceRaised src enc detail master access address s))

/-- FAULT_SOURCE_RETURNED (R461). -/
def execFaultSourceReturned (r : SrcRails) (s : State) : Host.Outcome State Fault Refusal :=
  .next (settle (xFaultSourceReturned r s))

/-- FAULT_LINK_RESTORED (R462). -/
def execFaultLinkRestored (src : Nat) (enc : Rails) (s : State) : Host.Outcome State Fault Refusal :=
  .next (settle (xFaultLinkRestored src enc s))

/-- SQUALL_WINDOW_END (R473). -/
def execSquallWindowEnd (s : State) : Host.Outcome State Fault Refusal :=
  .next (settle (xSquallWindowEnd s))

/-- WATCHDOG_EXPIRY (R467). -/
def execWatchdogExpiry (s : State) : Host.Outcome State Fault Refusal :=
  .next (settle (xWatchdogExpiry s))

/-- LOCKSTEP_MISCOMPARE (R482). -/
def execLockstepMiscompare (pair address : Nat) (s : State) : Host.Outcome State Fault Refusal :=
  .next (settle (xLockstepMiscompare pair address s))

/-- FAILOVER_RESTORE_COMPLETE (R483). -/
def execFailoverRestoreComplete (ok : Bool) (s : State) : Host.Outcome State Fault Refusal :=
  .next (settle (xFailoverRestoreComplete ok s))

/-- DEAD_PAIR_RESET (R486). -/
def execDeadPairReset (pair : Nat) (s : State) : Host.Outcome State Fault Refusal :=
  .next (settle (xDeadPairReset pair s))

/-- QUARANTINE_SELF_TEST_END (R486). -/
def execQuarantineSelfTestEnd (pair : Nat) (pass : Bool) (s : State) : Host.Outcome State Fault Refusal :=
  .next (settle (xQuarantineSelfTestEnd pair pass s))

/-- HEARTBEAT_WRITE (R471). -/
def execHeartbeatWrite (pair : Nat) (s : State) : Host.Outcome State Fault Refusal :=
  .next (xHeartbeatWrite pair s)

/-- ALIVE_HEARTBEAT_TIMEOUT (R471). -/
def execAliveHeartbeatTimeout (s : State) : Host.Outcome State Fault Refusal :=
  .next (xAliveHeartbeatTimeout s)

/-- POWER_STATE_ENTRY_COMPLETE (R503). -/
def execPowerStateEntryComplete (s : State) : Host.Outcome State Fault Refusal :=
  .next (settle (xPowerStateEntryComplete s))

/-- IGN_RISE (R505). -/
def execIgnRise (s : State) : Host.Outcome State Fault Refusal :=
  .next (settle (xIgnRise s))

/-- IGN_OFF_DELAY_EXPIRY (R504). -/
def execIgnOffDelayExpiry (s : State) : Host.Outcome State Fault Refusal :=
  .next (settle (xIgnOffDelayExpiry s))

/-- CAN_WAKE_PATTERN (R505). -/
def execCanWakePattern (k : Nat) (s : State) : Host.Outcome State Fault Refusal :=
  .next (settle (xCanWakePattern k s))

/-- WAKE_TIMER_EXPIRY (R505). -/
def execWakeTimerExpiry (s : State) : Host.Outcome State Fault Refusal :=
  .next (settle (xWakeTimerExpiry s))

/-- BUDGET_WINDOW (R509). -/
def execBudgetWindow (s : State) : Host.Outcome State Fault Refusal :=
  .next (settle (xBudgetWindow s))

/-- ENERGY_METER (R510). -/
def execEnergyMeter (use : List (Nat × F32)) (elec diss : F32) (s : State) : Host.Outcome State Fault Refusal :=
  .next (xEnergyMeter use elec diss s)

/-- PANEL_TEMPERATURE_READ (R530). -/
def execPanelTemperatureRead (ratio : F32) (s : State) : Host.Outcome State Fault Refusal :=
  .next (settle (xPanelTemperatureRead ratio s))

/-- PANEL_SUPPLY_SAMPLE (R538). -/
def execPanelSupplySample (vph vpm vpl : F32) (s : State) : Host.Outcome State Fault Refusal :=
  .next (settle (xPanelSupplySample vph vpm vpl s))

/-- PANEL_SUPPLY_RESTORED (R538). -/
def execPanelSupplyRestored (s : State) : Host.Outcome State Fault Refusal :=
  .next (settle (xPanelSupplyRestored s))

/-- PANEL_ROW_START (R533). -/
def execPanelRowStart (s : State) : Host.Outcome State Fault Refusal :=
  .next (settle (xPanelRowStart s))

/-- PANEL_PHASE_END (R528). -/
def execPanelPhaseEnd (s : State) : Host.Outcome State Fault Refusal :=
  .next (settle (xPanelPhaseEnd s))

/-- PANEL_JOURNAL_TICK (R536). -/
def execPanelJournalTick (s : State) : Host.Outcome State Fault Refusal :=
  .next (xPanelJournalTick s)

/-- PANEL_STOP_COMPLETE (R541). -/
def execPanelStopComplete (s : State) : Host.Outcome State Fault Refusal :=
  .next (settle (xPanelStopComplete s))

/-- UPDATE_COPY_BEGIN (R557). -/
def execUpdateCopyBegin (s : State) : Host.Outcome State Fault Refusal :=
  .next (xUpdateCopyBegin s)

/-- UPDATE_SECTOR_DONE (R560). -/
def execUpdateSectorDone (readBackOk : Bool) (s : State) : Host.Outcome State Fault Refusal :=
  .next (xUpdateSectorDone readBackOk s)

/-- UPDATE_CHECK_COMPLETE (R561). -/
def execUpdateCheckComplete (digestOk : Bool) (s : State) : Host.Outcome State Fault Refusal :=
  .next (settle (xUpdateCheckComplete digestOk s))

/-- PERTURBATION_EXPIRY (R577). -/
def execPerturbationExpiry (slot : Nat) (s : State) : Host.Outcome State Fault Refusal :=
  .next (settle (xPerturbationExpiry slot s))

/-- REFCLK_RETURN (R41). -/
def execRefclkReturn (bench : Bool) (s : State) : Host.Outcome State Fault Refusal :=
  .next (settle (xRefclkReturn bench s))

/-- CHECKPOINT_WRITE (R18). -/
def execCheckpointWrite (c : Checkpoint) (s : State) : Host.Outcome State Fault Refusal :=
  .next (xCheckpointWrite c s)

/-- WATCHDOG_SERVICE (R467). -/
def execWatchdogService (pair : Nat) (s : State) : Host.Outcome State Fault Refusal :=
  .next (xWatchdogService pair s)

/-- IGN_FALL (R504). -/
def execIgnFall (s : State) : Host.Outcome State Fault Refusal :=
  .next (xIgnFall s)

/-- BUS_DOMINANT_CLEARED (R445). -/
def execBusDominantCleared (k : Nat) (s : State) : Host.Outcome State Fault Refusal :=
  .next (xBusDominantCleared k s)

end Sys2Proof.Machine
end

