-- ==== Sys2Proof/Machine/HostMeanings.lean ====
section
/-! DEFINITION. The meanings of the host commands, one per row: the command goes through the checks of 03 Table 3.4 with its
opcode's own, and what follows from it in other blocks follows in the same step. -/

namespace Sys2Proof.Machine

/-- GET_IDENTITY (R97). -/
def execGetIdentity (h : Hdr) (p : Bytes) (s : State) : Host.Outcome State Fault Refusal :=
  .next (hostOnly opGetIdentity h p (.getIdentity h.resumed p) s)

/-- OPEN_SESSION (R87). -/
def execOpenSession (h : Hdr) (p : Bytes) (s : State) : Host.Outcome State Fault Refusal :=
  .next (host (opOpenSession h) h p (.openSession h.resumed p) s)

/-- CLOSE_SESSION (R88). -/
def execCloseSession (h : Hdr) (p : Bytes) (s : State) : Host.Outcome State Fault Refusal :=
  .next (host opCloseSession h p (.closeSession h.resumed p) s)

/-- KEEPALIVE (R99). -/
def execKeepalive (h : Hdr) (p : Bytes) (s : State) : Host.Outcome State Fault Refusal :=
  .next (hostOnly opKeepalive h p (.keepalive h.resumed p) s)

/-- TAKE_OWNERSHIP (R91). -/
def execTakeOwnership (h : Hdr) (p : Bytes) (s : State) : Host.Outcome State Fault Refusal :=
  .next (hostOnly opTakeOwnership h p (.takeOwnership h.resumed p) s)

/-- RELEASE_OWNERSHIP (R91). -/
def execReleaseOwnership (h : Hdr) (p : Bytes) (s : State) : Host.Outcome State Fault Refusal :=
  .next (hostOnly opReleaseOwnership h p (.releaseOwnership h.resumed p) s)

/-- SUBSCRIBE (R94). -/
def execSubscribe (h : Hdr) (p : Bytes) (s : State) : Host.Outcome State Fault Refusal :=
  .next (hostOnly opSubscribe h p (.subscribe h.resumed p) s)

/-- UNSUBSCRIBE (R94). -/
def execUnsubscribe (h : Hdr) (p : Bytes) (s : State) : Host.Outcome State Fault Refusal :=
  .next (hostOnly opUnsubscribe h p (.unsubscribe h.resumed p) s)

/-- START (R31). -/
def execStart (h : Hdr) (p : Bytes) (s : State) : Host.Outcome State Fault Refusal :=
  .next (host opStart h p (.start h.resumed p) s)

/-- STOP (R30). -/
def execStop (h : Hdr) (p : Bytes) (s : State) : Host.Outcome State Fault Refusal :=
  .next (host opStop h p (.stop h.resumed p) s)

/-- GET_STATE (R99). -/
def execGetState (h : Hdr) (p : Bytes) (s : State) : Host.Outcome State Fault Refusal :=
  .next (hostOnly opGetState h p (.getState h.resumed p) s)

/-- RESET_CORE (R99). -/
def execResetCore (h : Hdr) (p : Bytes) (s : State) : Host.Outcome State Fault Refusal :=
  .next (hostOnly opResetCore h p (.resetCore h.resumed p) s)

/-- READ_MEM (R102). -/
def execReadMem (h : Hdr) (p : Bytes) (eccErr : Bool) (s : State) : Host.Outcome State Fault Refusal :=
  .next (host (opReadMem eccErr) h p (.readMem h.resumed p eccErr) s)

/-- WRITE_MEM (R103). -/
def execWriteMem (h : Hdr) (p : Bytes) (s : State) : Host.Outcome State Fault Refusal :=
  .next (hostOnly opWriteMem h p (.writeMem h.resumed p) s)

/-- SAVE_SETTINGS (R99). -/
def execSaveSettings (h : Hdr) (p : Bytes) (s : State) : Host.Outcome State Fault Refusal :=
  .next (hostOnly opSaveSettings h p (.saveSettings h.resumed p) s)

/-- LOG_ERASE (R99). -/
def execLogErase (h : Hdr) (p : Bytes) (s : State) : Host.Outcome State Fault Refusal :=
  .next (hostOnly opLogErase h p (.logErase h.resumed p) s)

/-- PWR_SET_LATENCY (R519). -/
def execPwrSetLatency (h : Hdr) (p : Bytes) (s : State) : Host.Outcome State Fault Refusal :=
  .next (hostOnly opPwrSetLatency h p (.pwrSetLatency h.resumed p) s)

/-- PWR_REQUEST_STATE (R501). -/
def execPwrRequestState (h : Hdr) (p : Bytes) (s : State) : Host.Outcome State Fault Refusal :=
  .next (host opPwrRequestState h p (.pwrRequestState h.resumed p) s)

/-- PWR_SET_BUDGET (R521). -/
def execPwrSetBudget (h : Hdr) (p : Bytes) (s : State) : Host.Outcome State Fault Refusal :=
  .next (hostOnly opPwrSetBudget h p (.pwrSetBudget h.resumed p) s)

/-- PWR_GET_BUDGET (R522). -/
def execPwrGetBudget (h : Hdr) (p : Bytes) (s : State) : Host.Outcome State Fault Refusal :=
  .next (hostOnly opPwrGetBudget h p (.pwrGetBudget h.resumed p) s)

/-- PWR_STATUS (R523). -/
def execPwrStatus (h : Hdr) (p : Bytes) (s : State) : Host.Outcome State Fault Refusal :=
  .next (hostOnly opPwrStatus h p (.pwrStatus h.resumed p) s)

/-- LOOP_CONFIG (R140). -/
def execLoopConfig (h : Hdr) (p : Bytes) (s : State) : Host.Outcome State Fault Refusal :=
  .next (host opLoopConfig h p (.loopConfig h.resumed p) s)

/-- LOOP_READ (R142). -/
def execLoopRead (h : Hdr) (p : Bytes) (s : State) : Host.Outcome State Fault Refusal :=
  .next (hostOnly opLoopRead h p (.loopRead h.resumed p) s)

/-- LOOP_SET_REFERENCE (R143). -/
def execLoopSetReference (h : Hdr) (p : Bytes) (s : State) : Host.Outcome State Fault Refusal :=
  .next (hostOnly opLoopSetReference h p (.loopSetReference h.resumed p) s)

/-- LOOP_SET_FEEDFORWARD (R143). -/
def execLoopSetFeedforward (h : Hdr) (p : Bytes) (s : State) : Host.Outcome State Fault Refusal :=
  .next (hostOnly opLoopSetFeedforward h p (.loopSetFeedforward h.resumed p) s)

/-- LOOP_STATUS (R144). -/
def execLoopStatus (h : Hdr) (p : Bytes) (s : State) : Host.Outcome State Fault Refusal :=
  .next (hostOnly opLoopStatus h p (.loopStatus h.resumed p) s)

/-- CLE_CAPACITY (R145). -/
def execCleCapacity (h : Hdr) (p : Bytes) (s : State) : Host.Outcome State Fault Refusal :=
  .next (hostOnly opCleCapacity h p (.cleCapacity h.resumed p) s)

/-- TABLE_WRITE (R155). -/
def execTableWrite (h : Hdr) (p : Bytes) (s : State) : Host.Outcome State Fault Refusal :=
  .next (hostOnly opTableWrite h p (.tableWrite h.resumed p) s)

/-- TABLE_READ (R157). -/
def execTableRead (h : Hdr) (p : Bytes) (s : State) : Host.Outcome State Fault Refusal :=
  .next (hostOnly opTableRead h p (.tableRead h.resumed p) s)

/-- GROUP_CONFIG (R161). -/
def execGroupConfig (h : Hdr) (p : Bytes) (s : State) : Host.Outcome State Fault Refusal :=
  .next (host opGroupConfig h p (.groupConfig h.resumed p) s)

/-- GROUP_READ (R168). -/
def execGroupRead (h : Hdr) (p : Bytes) (s : State) : Host.Outcome State Fault Refusal :=
  .next (hostOnly opGroupRead h p (.groupRead h.resumed p) s)

/-- IMP_CONFIG (R198). -/
def execImpConfig (h : Hdr) (p : Bytes) (s : State) : Host.Outcome State Fault Refusal :=
  .next (hostOnly opImpConfig h p (.impConfig h.resumed p) s)

/-- CLASSIFIER_LOAD (R202). -/
def execClassifierLoad (h : Hdr) (p : Bytes) (s : State) : Host.Outcome State Fault Refusal :=
  .next (hostOnly opClassifierLoad h p (.classifierLoad h.resumed p) s)

/-- AIN_CONFIG (R198). -/
def execAinConfig (h : Hdr) (p : Bytes) (s : State) : Host.Outcome State Fault Refusal :=
  .next (hostOnly opAinConfig h p (.ainConfig h.resumed p) s)

/-- FIN_CONFIG (R198). -/
def execFinConfig (h : Hdr) (p : Bytes) (s : State) : Host.Outcome State Fault Refusal :=
  .next (hostOnly opFinConfig h p (.finConfig h.resumed p) s)

/-- POS_CONFIG (R198). -/
def execPosConfig (h : Hdr) (p : Bytes) (s : State) : Host.Outcome State Fault Refusal :=
  .next (hostOnly opPosConfig h p (.posConfig h.resumed p) s)

/-- IMU_CONFIG (R201). -/
def execImuConfig (h : Hdr) (p : Bytes) (s : State) : Host.Outcome State Fault Refusal :=
  .next (hostOnly opImuConfig h p (.imuConfig h.resumed p) s)

/-- SENSE_READ (R206). -/
def execSenseRead (h : Hdr) (p : Bytes) (s : State) : Host.Outcome State Fault Refusal :=
  .next (hostOnly opSenseRead h p (.senseRead h.resumed p) s)

/-- FLOW_CALIBRATE (R204). -/
def execFlowCalibrate (h : Hdr) (p : Bytes) (s : State) : Host.Outcome State Fault Refusal :=
  .next (hostOnly opFlowCalibrate h p (.flowCalibrate h.resumed p) s)

/-- PLANNER_MODEL (R233). -/
def execPlannerModel (h : Hdr) (p : Bytes) (s : State) : Host.Outcome State Fault Refusal :=
  .next (host opPlannerModel h p (.plannerModel h.resumed p) s)

/-- PLANNER_OBJECTIVES (R223). -/
def execPlannerObjectives (h : Hdr) (p : Bytes) (s : State) : Host.Outcome State Fault Refusal :=
  .next (hostOnly opPlannerObjectives h p (.plannerObjectives h.resumed p) s)

/-- PSP_MAP (R224). -/
def execPspMap (h : Hdr) (p : Bytes) (s : State) : Host.Outcome State Fault Refusal :=
  .next (host opPspMap h p (.pspMap h.resumed p) s)

/-- PLANNER_STATUS (R234). -/
def execPlannerStatus (h : Hdr) (p : Bytes) (s : State) : Host.Outcome State Fault Refusal :=
  .next (hostOnly opPlannerStatus h p (.plannerStatus h.resumed p) s)

/-- GUIDANCE_CONFIG (R236). -/
def execGuidanceConfig (h : Hdr) (p : Bytes) (s : State) : Host.Outcome State Fault Refusal :=
  .next (host opGuidanceConfig h p (.guidanceConfig h.resumed p) s)

/-- PATH_LOAD (R239). -/
def execPathLoad (h : Hdr) (p : Bytes) (s : State) : Host.Outcome State Fault Refusal :=
  .next (hostOnly opPathLoad h p (.pathLoad h.resumed p) s)

/-- POSE_SOURCE (R238). -/
def execPoseSource (h : Hdr) (p : Bytes) (s : State) : Host.Outcome State Fault Refusal :=
  .next (host opPoseSource h p (.poseSource h.resumed p) s)

/-- YIELD_CONFIG (R245). -/
def execYieldConfig (h : Hdr) (p : Bytes) (s : State) : Host.Outcome State Fault Refusal :=
  .next (hostOnly opYieldConfig h p (.yieldConfig h.resumed p) s)

/-- LSW_CONFIG (R281). -/
def execLswConfig (h : Hdr) (p : Bytes) (s : State) : Host.Outcome State Fault Refusal :=
  .next (host (opLswConfig s) h p (.lswConfig h.resumed p) s)

/-- LSW_COMMAND (R282). -/
def execLswCommand (h : Hdr) (p : Bytes) (s : State) : Host.Outcome State Fault Refusal :=
  .next (host opLswCommand h p (.lswCommand h.resumed p) s)

/-- LSW_STATUS (R283). -/
def execLswStatus (h : Hdr) (p : Bytes) (s : State) : Host.Outcome State Fault Refusal :=
  .next (hostOnly opLswStatus h p (.lswStatus h.resumed p) s)

/-- LSW_CLEAR (R284). -/
def execLswClear (h : Hdr) (p : Bytes) (s : State) : Host.Outcome State Fault Refusal :=
  .next (host opLswClear h p (.lswClear h.resumed p) s)

/-- FUS_CONFIG (R320). -/
def execFusConfig (h : Hdr) (p : Bytes) (s : State) : Host.Outcome State Fault Refusal :=
  .next (host opFusConfig h p (.fusConfig h.resumed p) s)

/-- FUS_WEIGHTS (R316). -/
def execFusWeights (h : Hdr) (p : Bytes) (s : State) : Host.Outcome State Fault Refusal :=
  .next (hostOnly opFusWeights h p (.fusWeights h.resumed p) s)

/-- FUS_HEAD_POLICY (R322). -/
def execFusHeadPolicy (h : Hdr) (p : Bytes) (s : State) : Host.Outcome State Fault Refusal :=
  .next (hostOnly opFusHeadPolicy h p (.fusHeadPolicy h.resumed p) s)

/-- FUS_POINT_STREAM (R321). -/
def execFusPointStream (h : Hdr) (p : Bytes) (s : State) : Host.Outcome State Fault Refusal :=
  .next (host opFusPointStream h p (.fusPointStream h.resumed p) s)

/-- FUS_STATUS (R323). -/
def execFusStatus (h : Hdr) (p : Bytes) (s : State) : Host.Outcome State Fault Refusal :=
  .next (hostOnly opFusStatus h p (.fusStatus h.resumed p) s)

/-- PIPE_CONFIG (R350). -/
def execPipeConfig (h : Hdr) (p : Bytes) (s : State) : Host.Outcome State Fault Refusal :=
  .next (host opPipeConfig h p (.pipeConfig h.resumed p) s)

/-- EXPOSURE_COMMIT (R337). -/
def execExposureCommit (h : Hdr) (p : Bytes) (s : State) : Host.Outcome State Fault Refusal :=
  .next (hostOnly opExposureCommit h p (.exposureCommit h.resumed p) s)

/-- SENSOR_TUNNEL_READ (R351). -/
def execSensorTunnelRead (h : Hdr) (p : Bytes) (ans : SensorAns) (s : State) : Host.Outcome State Fault Refusal :=
  .next (host (opSensorTunnel ans) h p (.sensorTunnelRead h.resumed p ans) s)

/-- SENSOR_TUNNEL_WRITE (R351). -/
def execSensorTunnelWrite (h : Hdr) (p : Bytes) (ans : SensorAns) (s : State) : Host.Outcome State Fault Refusal :=
  .next (host (opSensorTunnel ans) h p (.sensorTunnelWrite h.resumed p ans) s)

/-- SENSOR_TUNNEL_APPEND_START (R351). -/
def execSensorTunnelAppendStart (h : Hdr) (p : Bytes) (s : State) : Host.Outcome State Fault Refusal :=
  .next (host (opSensorTunnel (.ack [])) h p (.sensorTunnelAppendStart h.resumed p) s)

/-- SENSOR_TUNNEL_APPEND_STOP (R351). -/
def execSensorTunnelAppendStop (h : Hdr) (p : Bytes) (s : State) : Host.Outcome State Fault Refusal :=
  .next (host (opSensorTunnel (.ack [])) h p (.sensorTunnelAppendStop h.resumed p) s)

/-- SENSOR_TUNNEL_CLEAR_LISTS (R351). -/
def execSensorTunnelClearLists (h : Hdr) (p : Bytes) (s : State) : Host.Outcome State Fault Refusal :=
  .next (host (opSensorTunnel (.ack [])) h p (.sensorTunnelClearLists h.resumed p) s)

/-- PIPE_STATUS (R352). -/
def execPipeStatus (h : Hdr) (p : Bytes) (s : State) : Host.Outcome State Fault Refusal :=
  .next (hostOnly opPipeStatus h p (.pipeStatus h.resumed p) s)

/-- GNSS_CONFIG (R381). -/
def execGnssConfig (h : Hdr) (p : Bytes) (s : State) : Host.Outcome State Fault Refusal :=
  .next (host opGnssConfig h p (.gnssConfig h.resumed p) s)

/-- NOTCH_CONFIG (R382). -/
def execNotchConfig (h : Hdr) (p : Bytes) (s : State) : Host.Outcome State Fault Refusal :=
  .next (hostOnly opNotchConfig h p (.notchConfig h.resumed p) s)

/-- PIP_CAPTURE (R383). -/
def execPipCapture (h : Hdr) (p : Bytes) (s : State) : Host.Outcome State Fault Refusal :=
  .next (hostOnly opPipCapture h p (.pipCapture h.resumed p) s)

/-- PIP_EXPORT_READ_HEADER (R384). -/
def execPipExportReadHeader (h : Hdr) (p : Bytes) (s : State) : Host.Outcome State Fault Refusal :=
  .next (hostOnly opPipExport h p (.pipExportReadHeader h.resumed p) s)

/-- PIP_EXPORT_READ_SAMPLES (R384). -/
def execPipExportReadSamples (h : Hdr) (p : Bytes) (s : State) : Host.Outcome State Fault Refusal :=
  .next (hostOnly opPipExport h p (.pipExportReadSamples h.resumed p) s)

/-- PIP_EXPORT_PROCESS (R384). -/
def execPipExportProcess (h : Hdr) (p : Bytes) (s : State) : Host.Outcome State Fault Refusal :=
  .next (hostOnly opPipExport h p (.pipExportProcess h.resumed p) s)

/-- PIP_EXPORT_DELETE (R379). -/
def execPipExportDelete (h : Hdr) (p : Bytes) (s : State) : Host.Outcome State Fault Refusal :=
  .next (hostOnly opPipExport h p (.pipExportDelete h.resumed p) s)

/-- GNSS_STATUS (R385). -/
def execGnssStatus (h : Hdr) (p : Bytes) (s : State) : Host.Outcome State Fault Refusal :=
  .next (hostOnly opGnssStatus h p (.gnssStatus h.resumed p) s)

/-- TD_CONFIG (R423). -/
def execTdConfig (h : Hdr) (p : Bytes) (s : State) : Host.Outcome State Fault Refusal :=
  .next (host opTdConfig h p (.tdConfig h.resumed p) s)

/-- GET_TIME (R424). -/
def execGetTime (h : Hdr) (p : Bytes) (s : State) : Host.Outcome State Fault Refusal :=
  .next (hostOnly opGetTime h p (.getTime h.resumed p) s)

/-- RATE_OVERRIDE (R425). -/
def execRateOverride (h : Hdr) (p : Bytes) (s : State) : Host.Outcome State Fault Refusal :=
  .next (hostOnly opRateOverride h p (.rateOverride h.resumed p) s)

/-- PORT_CONFIG (R426). -/
def execPortConfig (h : Hdr) (p : Bytes) (s : State) : Host.Outcome State Fault Refusal :=
  .next (hostOnly opPortConfig h p (.portConfig h.resumed p) s)

/-- GATE_CONFIG (R427). -/
def execGateConfig (h : Hdr) (p : Bytes) (s : State) : Host.Outcome State Fault Refusal :=
  .next (hostOnly opGateConfig h p (.gateConfig h.resumed p) s)

/-- TIME_STATUS (R428). -/
def execTimeStatus (h : Hdr) (p : Bytes) (s : State) : Host.Outcome State Fault Refusal :=
  .next (hostOnly opTimeStatus h p (.timeStatus h.resumed p) s)

/-- CAN_CONFIG (R453). -/
def execCanConfig (h : Hdr) (p : Bytes) (s : State) : Host.Outcome State Fault Refusal :=
  .next (host opCanConfig h p (.canConfig h.resumed p) s)

/-- CAN_FILTER (R454). -/
def execCanFilter (h : Hdr) (p : Bytes) (s : State) : Host.Outcome State Fault Refusal :=
  .next (host opCanFilter h p (.canFilter h.resumed p) s)

/-- CAN_TRANSMIT (R455). -/
def execCanTransmit (h : Hdr) (p : Bytes) (s : State) : Host.Outcome State Fault Refusal :=
  .next (host opCanTransmit h p (.canTransmit h.resumed p) s)

/-- CAN_STATUS (R456). -/
def execCanStatus (h : Hdr) (p : Bytes) (s : State) : Host.Outcome State Fault Refusal :=
  .next (hostOnly opCanStatus h p (.canStatus h.resumed p) s)

/-- CAN_ADDRESS_CLAIM (R457). -/
def execCanAddressClaim (h : Hdr) (p : Bytes) (s : State) : Host.Outcome State Fault Refusal :=
  .next (host opCanAddressClaim h p (.canAddressClaim h.resumed p) s)

/-- FAULT_READ (R489). -/
def execFaultRead (h : Hdr) (p : Bytes) (s : State) : Host.Outcome State Fault Refusal :=
  .next (hostOnly opFaultRead h p (.faultRead h.resumed p) s)

/-- FAULT_CLEAR (R490). -/
def execFaultClear (h : Hdr) (p : Bytes) (s : State) : Host.Outcome State Fault Refusal :=
  .next (hostOnly opFaultClear h p (.faultClear h.resumed p) s)

/-- FAULT_SOURCE_CONFIG (R491). -/
def execFaultSourceConfig (h : Hdr) (p : Bytes) (s : State) : Host.Outcome State Fault Refusal :=
  .next (hostOnly opFaultSourceConfig h p (.faultSourceConfig h.resumed p) s)

/-- FAULT_THRESHOLD (R492). -/
def execFaultThreshold (h : Hdr) (p : Bytes) (s : State) : Host.Outcome State Fault Refusal :=
  .next (hostOnly opFaultThreshold h p (.faultThreshold h.resumed p) s)

/-- CAPTURE_READ (R492). -/
def execCaptureRead (h : Hdr) (p : Bytes) (s : State) : Host.Outcome State Fault Refusal :=
  .next (hostOnly opCaptureRead h p (.captureRead h.resumed p) s)

/-- PANEL_CONFIG (R543). -/
def execPanelConfig (h : Hdr) (p : Bytes) (s : State) : Host.Outcome State Fault Refusal :=
  .next (host opPanelConfig h p (.panelConfig h.resumed p) s)

/-- PANEL_FRAME (R544). -/
def execPanelFrame (h : Hdr) (p : Bytes) (s : State) : Host.Outcome State Fault Refusal :=
  .next (hostOnly opPanelFrame h p (.panelFrame h.resumed p) s)

/-- PANEL_STATUS (R545). -/
def execPanelStatus (h : Hdr) (p : Bytes) (s : State) : Host.Outcome State Fault Refusal :=
  .next (hostOnly opPanelStatus h p (.panelStatus h.resumed p) s)

/-- UPDATE_BEGIN (R555). -/
def execUpdateBegin (h : Hdr) (p : Bytes) (s : State) : Host.Outcome State Fault Refusal :=
  .next (hostOnly opUpdateBegin h p (.updateBegin h.resumed p) s)

/-- UPDATE_BLOCK (R556). -/
def execUpdateBlock (h : Hdr) (p : Bytes) (s : State) : Host.Outcome State Fault Refusal :=
  .next (hostOnly opUpdateBlock h p (.updateBlock h.resumed p) s)

/-- UPDATE_COMMIT (R557). -/
def execUpdateCommit (h : Hdr) (p : Bytes) (s : State) : Host.Outcome State Fault Refusal :=
  .next (hostOnly opUpdateCommit h p (.updateCommit h.resumed p) s)

/-- UPDATE_STATUS (R558). -/
def execUpdateStatus (h : Hdr) (p : Bytes) (s : State) : Host.Outcome State Fault Refusal :=
  .next (hostOnly opUpdateStatus h p (.updateStatus h.resumed p) s)

/-- TEST_UNLOCK (R571). -/
def execTestUnlock (h : Hdr) (p : Bytes) (s : State) : Host.Outcome State Fault Refusal :=
  .next (host opTestUnlock h p (.testUnlock h.resumed p) s)

/-- PERTURB_SET (R574). -/
def execPerturbSet (h : Hdr) (p : Bytes) (s : State) : Host.Outcome State Fault Refusal :=
  .next (host opPerturbSet h p (.perturbSet h.resumed p) s)

/-- PERTURB_CLEAR (R577). -/
def execPerturbClear (h : Hdr) (p : Bytes) (s : State) : Host.Outcome State Fault Refusal :=
  .next (host opPerturbClear h p (.perturbClear h.resumed p) s)

/-- TEST_STATUS (R580). -/
def execTestStatus (h : Hdr) (p : Bytes) (s : State) : Host.Outcome State Fault Refusal :=
  .next (hostOnly opTestStatus h p (.testStatus h.resumed p) s)

end Sys2Proof.Machine
end

