-- ==== Sys2Proof/Machine/Dispatch.lean ====
section
/-! DEFINITION. One arm per command: the effect of each on everything but the queue. -/

namespace Sys2Proof.Machine

def exec (i : Instr) (s : State) : Host.Outcome State Fault Refusal :=
  match i with
  | .getIdentity h p => Sys2Proof.Machine.execGetIdentity h p s
  | .openSession h p => Sys2Proof.Machine.execOpenSession h p s
  | .closeSession h p => Sys2Proof.Machine.execCloseSession h p s
  | .keepalive h p => Sys2Proof.Machine.execKeepalive h p s
  | .takeOwnership h p => Sys2Proof.Machine.execTakeOwnership h p s
  | .releaseOwnership h p => Sys2Proof.Machine.execReleaseOwnership h p s
  | .subscribe h p => Sys2Proof.Machine.execSubscribe h p s
  | .unsubscribe h p => Sys2Proof.Machine.execUnsubscribe h p s
  | .start h p => Sys2Proof.Machine.execStart h p s
  | .stop h p => Sys2Proof.Machine.execStop h p s
  | .getState h p => Sys2Proof.Machine.execGetState h p s
  | .resetCore h p => Sys2Proof.Machine.execResetCore h p s
  | .readMem h p eccErr => Sys2Proof.Machine.execReadMem h p eccErr s
  | .writeMem h p => Sys2Proof.Machine.execWriteMem h p s
  | .saveSettings h p => Sys2Proof.Machine.execSaveSettings h p s
  | .logErase h p => Sys2Proof.Machine.execLogErase h p s
  | .pwrSetLatency h p => Sys2Proof.Machine.execPwrSetLatency h p s
  | .pwrRequestState h p => Sys2Proof.Machine.execPwrRequestState h p s
  | .pwrSetBudget h p => Sys2Proof.Machine.execPwrSetBudget h p s
  | .pwrGetBudget h p => Sys2Proof.Machine.execPwrGetBudget h p s
  | .pwrStatus h p => Sys2Proof.Machine.execPwrStatus h p s
  | .loopConfig h p => Sys2Proof.Machine.execLoopConfig h p s
  | .loopRead h p => Sys2Proof.Machine.execLoopRead h p s
  | .loopSetReference h p => Sys2Proof.Machine.execLoopSetReference h p s
  | .loopSetFeedforward h p => Sys2Proof.Machine.execLoopSetFeedforward h p s
  | .loopStatus h p => Sys2Proof.Machine.execLoopStatus h p s
  | .cleCapacity h p => Sys2Proof.Machine.execCleCapacity h p s
  | .tableWrite h p => Sys2Proof.Machine.execTableWrite h p s
  | .tableRead h p => Sys2Proof.Machine.execTableRead h p s
  | .groupConfig h p => Sys2Proof.Machine.execGroupConfig h p s
  | .groupRead h p => Sys2Proof.Machine.execGroupRead h p s
  | .impConfig h p => Sys2Proof.Machine.execImpConfig h p s
  | .classifierLoad h p => Sys2Proof.Machine.execClassifierLoad h p s
  | .ainConfig h p => Sys2Proof.Machine.execAinConfig h p s
  | .finConfig h p => Sys2Proof.Machine.execFinConfig h p s
  | .posConfig h p => Sys2Proof.Machine.execPosConfig h p s
  | .imuConfig h p => Sys2Proof.Machine.execImuConfig h p s
  | .senseRead h p => Sys2Proof.Machine.execSenseRead h p s
  | .flowCalibrate h p => Sys2Proof.Machine.execFlowCalibrate h p s
  | .plannerModel h p => Sys2Proof.Machine.execPlannerModel h p s
  | .plannerObjectives h p => Sys2Proof.Machine.execPlannerObjectives h p s
  | .pspMap h p => Sys2Proof.Machine.execPspMap h p s
  | .plannerStatus h p => Sys2Proof.Machine.execPlannerStatus h p s
  | .guidanceConfig h p => Sys2Proof.Machine.execGuidanceConfig h p s
  | .pathLoad h p => Sys2Proof.Machine.execPathLoad h p s
  | .poseSource h p => Sys2Proof.Machine.execPoseSource h p s
  | .yieldConfig h p => Sys2Proof.Machine.execYieldConfig h p s
  | .lswConfig h p => Sys2Proof.Machine.execLswConfig h p s
  | .lswCommand h p => Sys2Proof.Machine.execLswCommand h p s
  | .lswStatus h p => Sys2Proof.Machine.execLswStatus h p s
  | .lswClear h p => Sys2Proof.Machine.execLswClear h p s
  | .fusConfig h p => Sys2Proof.Machine.execFusConfig h p s
  | .fusWeights h p => Sys2Proof.Machine.execFusWeights h p s
  | .fusHeadPolicy h p => Sys2Proof.Machine.execFusHeadPolicy h p s
  | .fusPointStream h p => Sys2Proof.Machine.execFusPointStream h p s
  | .fusStatus h p => Sys2Proof.Machine.execFusStatus h p s
  | .pipeConfig h p => Sys2Proof.Machine.execPipeConfig h p s
  | .exposureCommit h p => Sys2Proof.Machine.execExposureCommit h p s
  | .sensorTunnelRead h p ans => Sys2Proof.Machine.execSensorTunnelRead h p ans s
  | .sensorTunnelWrite h p ans => Sys2Proof.Machine.execSensorTunnelWrite h p ans s
  | .sensorTunnelAppendStart h p => Sys2Proof.Machine.execSensorTunnelAppendStart h p s
  | .sensorTunnelAppendStop h p => Sys2Proof.Machine.execSensorTunnelAppendStop h p s
  | .sensorTunnelClearLists h p => Sys2Proof.Machine.execSensorTunnelClearLists h p s
  | .pipeStatus h p => Sys2Proof.Machine.execPipeStatus h p s
  | .gnssConfig h p => Sys2Proof.Machine.execGnssConfig h p s
  | .notchConfig h p => Sys2Proof.Machine.execNotchConfig h p s
  | .pipCapture h p => Sys2Proof.Machine.execPipCapture h p s
  | .pipExportReadHeader h p => Sys2Proof.Machine.execPipExportReadHeader h p s
  | .pipExportReadSamples h p => Sys2Proof.Machine.execPipExportReadSamples h p s
  | .pipExportProcess h p => Sys2Proof.Machine.execPipExportProcess h p s
  | .pipExportDelete h p => Sys2Proof.Machine.execPipExportDelete h p s
  | .gnssStatus h p => Sys2Proof.Machine.execGnssStatus h p s
  | .tdConfig h p => Sys2Proof.Machine.execTdConfig h p s
  | .getTime h p => Sys2Proof.Machine.execGetTime h p s
  | .rateOverride h p => Sys2Proof.Machine.execRateOverride h p s
  | .portConfig h p => Sys2Proof.Machine.execPortConfig h p s
  | .gateConfig h p => Sys2Proof.Machine.execGateConfig h p s
  | .timeStatus h p => Sys2Proof.Machine.execTimeStatus h p s
  | .canConfig h p => Sys2Proof.Machine.execCanConfig h p s
  | .canFilter h p => Sys2Proof.Machine.execCanFilter h p s
  | .canTransmit h p => Sys2Proof.Machine.execCanTransmit h p s
  | .canStatus h p => Sys2Proof.Machine.execCanStatus h p s
  | .canAddressClaim h p => Sys2Proof.Machine.execCanAddressClaim h p s
  | .faultRead h p => Sys2Proof.Machine.execFaultRead h p s
  | .faultClear h p => Sys2Proof.Machine.execFaultClear h p s
  | .faultSourceConfig h p => Sys2Proof.Machine.execFaultSourceConfig h p s
  | .faultThreshold h p => Sys2Proof.Machine.execFaultThreshold h p s
  | .captureRead h p => Sys2Proof.Machine.execCaptureRead h p s
  | .panelConfig h p => Sys2Proof.Machine.execPanelConfig h p s
  | .panelFrame h p => Sys2Proof.Machine.execPanelFrame h p s
  | .panelStatus h p => Sys2Proof.Machine.execPanelStatus h p s
  | .updateBegin h p => Sys2Proof.Machine.execUpdateBegin h p s
  | .updateBlock h p => Sys2Proof.Machine.execUpdateBlock h p s
  | .updateCommit h p => Sys2Proof.Machine.execUpdateCommit h p s
  | .updateStatus h p => Sys2Proof.Machine.execUpdateStatus h p s
  | .testUnlock h p => Sys2Proof.Machine.execTestUnlock h p s
  | .perturbSet h p => Sys2Proof.Machine.execPerturbSet h p s
  | .perturbClear h p => Sys2Proof.Machine.execPerturbClear h p s
  | .testStatus h p => Sys2Proof.Machine.execTestStatus h p s
  | .undefinedOpcode h opcode p => Sys2Proof.Machine.execUndefinedOpcode h opcode p s
  | .balinePacketDiscarded ep raw => Sys2Proof.Machine.execBalinePacketDiscarded ep raw s
  | .balinePortMismatchDrop port => Sys2Proof.Machine.execBalinePortMismatchDrop port s
  | .neighbourDiscovery src target => Sys2Proof.Machine.execNeighbourDiscovery src target s
  | .icmpv6Echo src ident seq data => Sys2Proof.Machine.execIcmpv6Echo src ident seq data s
  | .isotpFrameReceived id data => Sys2Proof.Machine.execIsotpFrameReceived id data s
  | .isotpTimeout nBs => Sys2Proof.Machine.execIsotpTimeout nBs s
  | .sessionKeepaliveTimeout session => Sys2Proof.Machine.execSessionKeepaliveTimeout session s
  | .faultLogEntryQueued session => Sys2Proof.Machine.execFaultLogEntryQueued session s
  | .serviceLogWrite => Sys2Proof.Machine.execServiceLogWrite s
  | .powerOnReset bench => Sys2Proof.Machine.execPowerOnReset bench s
  | .resetNFall lowNs => Sys2Proof.Machine.execResetNFall lowNs s
  | .resetNRise bench => Sys2Proof.Machine.execResetNRise bench s
  | .refclkLoss => Sys2Proof.Machine.execRefclkLoss s
  | .pllsLocked => Sys2Proof.Machine.execPllsLocked s
  | .loaderStart crcOk => Sys2Proof.Machine.execLoaderStart crcOk s
  | .updateJournalRead => Sys2Proof.Machine.execUpdateJournalRead s
  | .dramTrained => Sys2Proof.Machine.execDramTrained s
  | .firmwareImageVerified => Sys2Proof.Machine.execFirmwareImageVerified s
  | .coreResetDigestCheck => Sys2Proof.Machine.execCoreResetDigestCheck s
  | .pairRolesAssigned pa pb pc pd => Sys2Proof.Machine.execPairRolesAssigned pa pb pc pd s
  | .firmwareRunning => Sys2Proof.Machine.execFirmwareRunning s
  | .balineServed => Sys2Proof.Machine.execBalineServed s
  | .autoStart => Sys2Proof.Machine.execAutoStart s
  | .processorComplexReset => Sys2Proof.Machine.execProcessorComplexReset s
  | .groupHoldExpiry g => Sys2Proof.Machine.execGroupHoldExpiry g s
  | .channelHoldExpiry k => Sys2Proof.Machine.execChannelHoldExpiry k s
  | .supervisorCheckFailed check => Sys2Proof.Machine.execSupervisorCheckFailed check s
  | .logicFeedRangeChange feed inRange volts => Sys2Proof.Machine.execLogicFeedRangeChange feed inRange volts s
  | .holdupStoreExhausted => Sys2Proof.Machine.execHoldupStoreExhausted s
  | .vref5LimitTimeout v => Sys2Proof.Machine.execVref5LimitTimeout v s
  | .vref5Retry v ok => Sys2Proof.Machine.execVref5Retry v ok s
  | .baseTemperatureSample t0 t1 t2 t3 => Sys2Proof.Machine.execBaseTemperatureSample t0 t1 t2 t3 s
  | .firewallDrop pair tag access address => Sys2Proof.Machine.execFirewallDrop pair tag access address s
  | .accessRefused master access address => Sys2Proof.Machine.execAccessRefused master access address s
  | .loopSample n => Sys2Proof.Machine.execLoopSample n s
  | .loopSampleMissed n => Sys2Proof.Machine.execLoopSampleMissed n s
  | .groupStartCommit g => Sys2Proof.Machine.execGroupStartCommit g s
  | .groupStopComplete g => Sys2Proof.Machine.execGroupStopComplete g s
  | .hitOnset k pre x => Sys2Proof.Machine.execHitOnset k pre x s
  | .mergedHit k before x => Sys2Proof.Machine.execMergedHit k before x s
  | .hitWindowComplete k rest clipped => Sys2Proof.Machine.execHitWindowComplete k rest clipped s
  | .hitQuietEnd q => Sys2Proof.Machine.execHitQuietEnd q s
  | .hitClassified k => Sys2Proof.Machine.execHitClassified k s
  | .countingWindowEnd flow => Sys2Proof.Machine.execCountingWindowEnd flow s
  | .windowCountsPublished => Sys2Proof.Machine.execWindowCountsPublished s
  | .frontEndSelftest k ok => Sys2Proof.Machine.execFrontEndSelftest k ok s
  | .ainUpdate k volts refs => Sys2Proof.Machine.execAinUpdate k volts refs s
  | .ainRangeCount k raw => Sys2Proof.Machine.execAinRangeCount k raw s
  | .finEdgeAccepted k age volts both => Sys2Proof.Machine.execFinEdgeAccepted k age volts both s
  | .qerrExpiry k => Sys2Proof.Machine.execQerrExpiry k s
  | .finUpdate k => Sys2Proof.Machine.execFinUpdate k s
  | .posUpdate k theta cycles speed ampl trackErr => Sys2Proof.Machine.execPosUpdate k theta cycles speed ampl trackErr s
  | .excitationLimitTimeout k => Sys2Proof.Machine.execExcitationLimitTimeout k s
  | .excitationRetry k ok => Sys2Proof.Machine.execExcitationRetry k ok s
  | .imuSample ax ay az gx gy gz saturated => Sys2Proof.Machine.execImuSample ax ay az gx gy gz saturated s
  | .inputConfigCommit sel k => Sys2Proof.Machine.execInputConfigCommit sel k s
  | .inputSettlingEnd sel k => Sys2Proof.Machine.execInputSettlingEnd sel k s
  | .classifierSetCommit set => Sys2Proof.Machine.execClassifierSetCommit set s
  | .flowCurveApply k => Sys2Proof.Machine.execFlowCurveApply k s
  | .inputValidityReport sel k => Sys2Proof.Machine.execInputValidityReport sel k s
  | .plannerCycle => Sys2Proof.Machine.execPlannerCycle s
  | .planSolved mvs => Sys2Proof.Machine.execPlanSolved mvs s
  | .plannerCoastTimeout => Sys2Proof.Machine.execPlannerCoastTimeout s
  | .plannerStartCommit => Sys2Proof.Machine.execPlannerStartCommit s
  | .plannerStopComplete => Sys2Proof.Machine.execPlannerStopComplete s
  | .cvOverLimitTimeout j => Sys2Proof.Machine.execCvOverLimitTimeout j s
  | .guidanceInstant ey ePsi kap sNear beyondEnd retire => Sys2Proof.Machine.execGuidanceInstant ey ePsi kap sNear beyondEnd retire s
  | .poseReceived udp port ident raw => Sys2Proof.Machine.execPoseReceived udp port ident raw s
  | .poseStaleExpiry => Sys2Proof.Machine.execPoseStaleExpiry s
  | .drLimitExpiry => Sys2Proof.Machine.execDrLimitExpiry s
  | .guidanceStartCommit => Sys2Proof.Machine.execGuidanceStartCommit s
  | .guidanceStopComplete => Sys2Proof.Machine.execGuidanceStopComplete s
  | .yieldConfigCommit => Sys2Proof.Machine.execYieldConfigCommit s
  | .channelStartCommit k => Sys2Proof.Machine.execChannelStartCommit k s
  | .channelStopComplete k => Sys2Proof.Machine.execChannelStopComplete k s
  | .pwmPeriodStart k vMean => Sys2Proof.Machine.execPwmPeriodStart k vMean s
  | .pwmOnTimeEnd k => Sys2Proof.Machine.execPwmOnTimeEnd k s
  | .currentLimitEntry k riseNs => Sys2Proof.Machine.execCurrentLimitEntry k riseNs s
  | .shortClassifyCheck k vOut vStud => Sys2Proof.Machine.execShortClassifyCheck k vOut vStud s
  | .shortConfirmExpiry k => Sys2Proof.Machine.execShortConfirmExpiry k s
  | .quietWindowExpiry stud => Sys2Proof.Machine.execQuietWindowExpiry stud s
  | .limitExit k => Sys2Proof.Machine.execLimitExit k s
  | .limitTimeExpiry k => Sys2Proof.Machine.execLimitTimeExpiry k s
  | .retryOffExpiry k => Sys2Proof.Machine.execRetryOffExpiry k s
  | .dieOverTemperature d t => Sys2Proof.Machine.execDieOverTemperature d t s
  | .dieGateOpen d t => Sys2Proof.Machine.execDieGateOpen d t s
  | .dieSensorFault d t => Sys2Proof.Machine.execDieSensorFault d t s
  | .studUnderVoltage stud v => Sys2Proof.Machine.execStudUnderVoltage stud v s
  | .studOverVoltage stud v byMean => Sys2Proof.Machine.execStudOverVoltage stud v byMean s
  | .studSupplySettled stud q => Sys2Proof.Machine.execStudSupplySettled stud q s
  | .channelOverload k mean => Sys2Proof.Machine.execChannelOverload k mean s
  | .openLoadDetect k isOpen current => Sys2Proof.Machine.execOpenLoadDetect k isOpen current s
  | .clampEventBegin k => Sys2Proof.Machine.execClampEventBegin k s
  | .clampEventEnd k samples => Sys2Proof.Machine.execClampEventEnd k samples s
  | .clampWindowAgeOut k => Sys2Proof.Machine.execClampWindowAgeOut k s
  | .studGateAdmit stud means => Sys2Proof.Machine.execStudGateAdmit stud means s
  | .studCurrentGate stud mean => Sys2Proof.Machine.execStudCurrentGate stud mean s
  | .switchingCyclesStore => Sys2Proof.Machine.execSwitchingCyclesStore s
  | .egoInstant e => Sys2Proof.Machine.execEgoInstant e s
  | .egoConfigCommit => Sys2Proof.Machine.execEgoConfigCommit s
  | .fusionGather => Sys2Proof.Machine.execFusionGather s
  | .fusionResultsIssued cells edgeL edgeR => Sys2Proof.Machine.execFusionResultsIssued cells edgeL edgeR s
  | .pointPacketReceived pk => Sys2Proof.Machine.execPointPacketReceived pk s
  | .fusionEgoLostTimeout => Sys2Proof.Machine.execFusionEgoLostTimeout s
  | .fusionStartCommit => Sys2Proof.Machine.execFusionStartCommit s
  | .fusionStopComplete => Sys2Proof.Machine.execFusionStopComplete s
  | .weightsWriteComplete slot => Sys2Proof.Machine.execWeightsWriteComplete slot s
  | .cameraPowerLimit k current => Sys2Proof.Machine.execCameraPowerLimit k current s
  | .cameraPowerRetry k ok => Sys2Proof.Machine.execCameraPowerRetry k ok s
  | .cameraLinkChange k up sensorId => Sys2Proof.Machine.execCameraLinkChange k up sensorId s
  | .cameraTrigger k => Sys2Proof.Machine.execCameraTrigger k s
  | .frameStart k => Sys2Proof.Machine.execFrameStart k s
  | .frameSlotMissing k => Sys2Proof.Machine.execFrameSlotMissing k s
  | .csi2PacketReceived k pk => Sys2Proof.Machine.execCsi2PacketReceived k pk s
  | .frameEnd k => Sys2Proof.Machine.execFrameEnd k s
  | .frameProcessed k st => Sys2Proof.Machine.execFrameProcessed k st s
  | .statsRecordSent k => Sys2Proof.Machine.execStatsRecordSent k s
  | .exposureWritesComplete k => Sys2Proof.Machine.execExposureWritesComplete k s
  | .pipeStartCommit k => Sys2Proof.Machine.execPipeStartCommit k s
  | .pipeStartTimeout k => Sys2Proof.Machine.execPipeStartTimeout k s
  | .pipeStopComplete k => Sys2Proof.Machine.execPipeStopComplete k s
  | .antennaBiasChange toState current => Sys2Proof.Machine.execAntennaBiasChange toState current s
  | .antennaBiasRetry ok current => Sys2Proof.Machine.execAntennaBiasRetry ok current s
  | .gnssBankEpoch b => Sys2Proof.Machine.execGnssBankEpoch b s
  | .jammingAlarmTimeout => Sys2Proof.Machine.execJammingAlarmTimeout s
  | .acquisitionFalseAlarm ch => Sys2Proof.Machine.execAcquisitionFalseAlarm ch s
  | .trackingLockChange ch code phase => Sys2Proof.Machine.execTrackingLockChange ch code phase s
  | .trackingLossTimeout ch byCn0 => Sys2Proof.Machine.execTrackingLossTimeout ch byCn0 s
  | .bitSyncTimeout ch => Sys2Proof.Machine.execBitSyncTimeout ch s
  | .lostPrnExpiry prn => Sys2Proof.Machine.execLostPrnExpiry prn s
  | .subframeReceived ch words prevBits follows start => Sys2Proof.Machine.execSubframeReceived ch words prevBits follows start s
  | .measurementEpoch m => Sys2Proof.Machine.execMeasurementEpoch m s
  | .gnssDataStore => Sys2Proof.Machine.execGnssDataStore s
  | .gnssStartCommit => Sys2Proof.Machine.execGnssStartCommit s
  | .pipCaptureBegin => Sys2Proof.Machine.execPipCaptureBegin s
  | .pipStored samples => Sys2Proof.Machine.execPipStored samples s
  | .pipProcessingUnit ratio code64 doppler => Sys2Proof.Machine.execPipProcessingUnit ratio code64 doppler s
  | .timeStepMade d => Sys2Proof.Machine.execTimeStepMade d s
  | .ppsOutPulse d => Sys2Proof.Machine.execPpsOutPulse d s
  | .ptpMessageReceived port m => Sys2Proof.Machine.execPtpMessageReceived port m s
  | .ptpMessageSend d port kind => Sys2Proof.Machine.execPtpMessageSend d port kind s
  | .ptpEventForwarded inPort outPort domainNumber residence correction => Sys2Proof.Machine.execPtpEventForwarded inPort outPort domainNumber residence correction s
  | .ptpSourceTimeout d => Sys2Proof.Machine.execPtpSourceTimeout d s
  | .ppsInEdge highNs => Sys2Proof.Machine.execPpsInEdge highNs s
  | .ppsInTimeout d => Sys2Proof.Machine.execPpsInTimeout d s
  | .slewComplete d => Sys2Proof.Machine.execSlewComplete d s
  | .holdoverSpecExceeded d => Sys2Proof.Machine.execHoldoverSpecExceeded d s
  | .domainStartCommit d => Sys2Proof.Machine.execDomainStartCommit d s
  | .gateEntryExpiry port => Sys2Proof.Machine.execGateEntryExpiry port s
  | .gateListStart port => Sys2Proof.Machine.execGateListStart port s
  | .portConfigApply port => Sys2Proof.Machine.execPortConfigApply port s
  | .portLinkChange port up => Sys2Proof.Machine.execPortLinkChange port up s
  | .ethFrameReceived port f => Sys2Proof.Machine.execEthFrameReceived port f s
  | .canFrameReceived k f => Sys2Proof.Machine.execCanFrameReceived k f s
  | .canProtocolException k fmt => Sys2Proof.Machine.execCanProtocolException k fmt s
  | .canBusError k transmitter add lec => Sys2Proof.Machine.execCanBusError k transmitter add lec s
  | .canTxAttemptEnd k result delay => Sys2Proof.Machine.execCanTxAttemptEnd k result delay s
  | .canBusoffRecovered k => Sys2Proof.Machine.execCanBusoffRecovered k s
  | .canTxDominantTimeout k => Sys2Proof.Machine.execCanTxDominantTimeout k s
  | .canBusDominantTimeout k => Sys2Proof.Machine.execCanBusDominantTimeout k s
  | .canBusIntegrated k => Sys2Proof.Machine.execCanBusIntegrated k s
  | .canStopComplete k => Sys2Proof.Machine.execCanStopComplete k s
  | .addressClaimTimeout k => Sys2Proof.Machine.execAddressClaimTimeout k s
  | .cannotClaimDelayExpiry k => Sys2Proof.Machine.execCannotClaimDelayExpiry k s
  | .hpFrameHoldoffExpiry k => Sys2Proof.Machine.execHpFrameHoldoffExpiry k s
  | .rxReadyHoldoffExpiry k => Sys2Proof.Machine.execRxReadyHoldoffExpiry k s
  | .faultSourceRaised src enc detail master access address => Sys2Proof.Machine.execFaultSourceRaised src enc detail master access address s
  | .faultSourceReturned r => Sys2Proof.Machine.execFaultSourceReturned r s
  | .faultLinkRestored src enc => Sys2Proof.Machine.execFaultLinkRestored src enc s
  | .squallWindowEnd => Sys2Proof.Machine.execSquallWindowEnd s
  | .watchdogExpiry => Sys2Proof.Machine.execWatchdogExpiry s
  | .lockstepMiscompare pair address => Sys2Proof.Machine.execLockstepMiscompare pair address s
  | .failoverRestoreComplete ok => Sys2Proof.Machine.execFailoverRestoreComplete ok s
  | .deadPairReset pair => Sys2Proof.Machine.execDeadPairReset pair s
  | .quarantineSelfTestEnd pair pass => Sys2Proof.Machine.execQuarantineSelfTestEnd pair pass s
  | .heartbeatWrite pair => Sys2Proof.Machine.execHeartbeatWrite pair s
  | .aliveHeartbeatTimeout => Sys2Proof.Machine.execAliveHeartbeatTimeout s
  | .powerStateEntryComplete => Sys2Proof.Machine.execPowerStateEntryComplete s
  | .ignRise => Sys2Proof.Machine.execIgnRise s
  | .ignOffDelayExpiry => Sys2Proof.Machine.execIgnOffDelayExpiry s
  | .canWakePattern k => Sys2Proof.Machine.execCanWakePattern k s
  | .wakeTimerExpiry => Sys2Proof.Machine.execWakeTimerExpiry s
  | .budgetWindow => Sys2Proof.Machine.execBudgetWindow s
  | .energyMeter use elec diss => Sys2Proof.Machine.execEnergyMeter use elec diss s
  | .panelTemperatureRead ratio => Sys2Proof.Machine.execPanelTemperatureRead ratio s
  | .panelSupplySample vph vpm vpl => Sys2Proof.Machine.execPanelSupplySample vph vpm vpl s
  | .panelSupplyRestored => Sys2Proof.Machine.execPanelSupplyRestored s
  | .panelRowStart => Sys2Proof.Machine.execPanelRowStart s
  | .panelPhaseEnd => Sys2Proof.Machine.execPanelPhaseEnd s
  | .panelJournalTick => Sys2Proof.Machine.execPanelJournalTick s
  | .panelStopComplete => Sys2Proof.Machine.execPanelStopComplete s
  | .updateCopyBegin => Sys2Proof.Machine.execUpdateCopyBegin s
  | .updateSectorDone readBackOk => Sys2Proof.Machine.execUpdateSectorDone readBackOk s
  | .updateCheckComplete digestOk => Sys2Proof.Machine.execUpdateCheckComplete digestOk s
  | .perturbationExpiry slot => Sys2Proof.Machine.execPerturbationExpiry slot s
  | .refclkReturn bench => Sys2Proof.Machine.execRefclkReturn bench s
  | .checkpointWrite c => Sys2Proof.Machine.execCheckpointWrite c s
  | .watchdogService pair => Sys2Proof.Machine.execWatchdogService pair s
  | .ignFall => Sys2Proof.Machine.execIgnFall s
  | .busDominantCleared k => Sys2Proof.Machine.execBusDominantCleared k s

end Sys2Proof.Machine
end

