-- ==== Sys2Proof/Machine/Tick.lean ====
section
/-! DEFINITION. One period of 4 ns of the monotonic tick with no command (00 R11): what happens whatever is
commanded. Log entry 8. -/

namespace Sys2Proof.Machine

/-- A domain clock carried by the increment in force (15 R499). -/
def Domain.carried (x : Domain) (ticks : Nat) : Domain := x.setFine (x.fine + ticks * x.inc)

/-- In CALM the tick advances by 10 at a time (15 R499). -/
def calmTick (s : State) : State :=
  forN 4 (fun s d => s.setDom d ((s.dom d).carried 10)) { s with mono := s.mono + 10 }

/-- A STOP of CAN2 that came on CAN2 begins once no reply is left to be sent (13 R451); with none leaving, after 1 s
(DESIGN CHOICE, log entry 48). -/
def can2Stops (s : State) : State :=
  match s.net.stopAt with
  | none => s
  | some (t, c) =>
    if (s.net.isoTx.isEmpty && isoIdle s) || s.past t (secT 1) then
      { stopAny (canFid 2) { s with net := { s.net with stopAt := none }, cur := some c } with cur := s.cur }
    else s

/-- Clocks, streams, ISO-TP, switch ports, fusion's rate, and the contradictions that have been absent for 2 s. -/
def runTick (s : State) : State :=
  forN 3 contraClear (rateStep (portsTick (can2Stops (isoTick (drainStreams (domainsTick { s with mono := s.mono + 1 }))))))

/-- The oldest command that was taken up and waits is completed (03 R83, R86). -/
def resumeOne (s : State) : State :=
  match s.net.held with
  | [] => s
  | e :: r =>
    if waits s e.cmd then s
    else match exec e.cmd { s with net := { s.net with held := r } } with
    | .next t => t
    | _ => s

/-- The clock stands still before event 2 of Table 1.12 and in OFF. -/
def tick (s : State) : State :=
  if s.boot.phase < 2 ∨ s.pwr.state = 5 then s
  else if s.pwr.state = 3 then resumeOne (calmTick s)
  else resumeOne (runTick s)

/-- The state with its first waiting command taken off the queue. -/
def State.rest (s : State) (q : List Instr) : State := { s with pending := q }

end Sys2Proof.Machine
end

