-- ==== Sys2Proof/Safety.lean ====
section
/-! DEFINITION. What the statements call safe: the invariant every step keeps, and a run that does not
stop. -/

namespace Sys2Proof

open Machine

/-- The memory of the module is in its canonical form (01 R22: one content per address). -/
def MemInv (s : State) : Prop := Memory.wf s.mem = true

/-- The step answers a next state: nothing in the specification stops the module. -/
def Runs (s : State) : Prop := ∃ t, step s = .next t

/-- The commands that reach the byte-addressed memory: WRITE_MEM, and what resets the module or may bring it
into or out of CALM and OFF. -/
def touchesMemory : Instr → Bool
  | .writeMem _ _ | .powerOnReset _ | .resetNFall _ | .resetNRise _ | .refclkLoss | .refclkReturn _
  | .holdupStoreExhausted | .powerStateEntryComplete | .ignRise => true
  | _ => false

/-- Nothing hangs on the state for the end of a step to carry out: no reaction is ordered, the studs' sources show
what the studs show (08 R265, R266), no domain that GNSS served waits for its loss (12 R403), no power state at which
sessions close is being entered (15 R497), no IGN sequence runs (15 R504), and the session that holds the test unlock,
if any, is open (18 R572). -/
structure Quiet (s : State) : Prop where
  react : s.fcr.react = []
  supply : ∀ v, v < 2 → ((s.stud v).ov || uvBit s v) = (s.src (48 + v)).inErr
  gnss : gnssFull s = false → ∀ d, d < 4 → ¬ (domSource s d = 2 ∧ (s.dom d).srcUp = true)
  entry : ∀ t, s.pwr.entering = some t → t < 2
  ign : s.pwr.ignSeq = 0
  unlock : ∀ n, s.tst.unlock = some n → (s.net.sessions.any fun x => decide (x.num = n)) = true

/-- The state a command's own effect begins from: its packet is taken from where it was received (03 R75), and its
session has been heard (03 R88). -/
def heard (s : State) (h : Hdr) : State :=
  mapSession (unbox s h.ep) h.session fun x => { x with last := s.mono }

/-- The state a command's own opcode sees: it knows the session and the sequence number (03 R96). -/
def atBody (s : State) (h : Hdr) : State := (heard s h).within h

/-- What the opcode's own chapter makes of a command is answered: the effect stands, and the reply goes to the sender
and joins the session's latest ones (03 R79, R85; 17 R568). -/
def replied (h : Hdr) (code : Nat) (p : Bytes) (a : Ans) : State :=
  answer (finish code p a) h code a.st a.detail a.data

/-- A command of a session passes every check of 03 Table 3.4 before its opcode's own, and is carried out at once:
Baline is served there and the packet reaches it, the header is in order, the session is open and bound to the sender,
the command is no repeat and not one too many, and service, bench, token, length, flags and layout are as its opcode
asks (R73, R77, R80, R81, R84). Nothing it would have to wait for is outstanding (R83, R88), and a reply with `n` bytes
of data fits the session's largest packet (R74). -/
structure Accepted (op : OpSpec) (h : Hdr) (p : Bytes) (n : Nat) (s : State) : Prop where
  fresh : h.taken = false
  served : served s h.ep = true
  reached : reached s h op.code p = true
  flags : h.flags = 0
  version : h.version = 1
  fits : 16 + p.length ≤ packetMax s h
  named : h.session ≠ 0
  session : ∃ x, boundSession s h = some x ∧ repeated s x h = none
  room : (outstanding s h.session).length < 16
  prompt : mustWait s h op.code = false
  service : servesNow s op.code = true
  bench : op.bench = true → s.boot.bench = true
  token : op.token = true → s.net.token = some h.session
  length : p.length = op.len p
  layout : firstBad (op.layout p) = none
  fixed : 20 + op.reply p ≤ packetMax s h
  reply : 20 + n ≤ packetMax s h

/-- A configuration opcode over functions: admitted while each of them is OFF or CONFIG, then staged, and each is in
CONFIG; else WRONG_STATE with no effect (01 R29, Table 1.9). -/
def Configures (i : Instr) (op : OpSpec) (h : Hdr) (p : Bytes) (fids : List Nat) (stage after : State → State)
    (s : State) : Prop :=
  ((∀ f ∈ fids, (s.st f).idle = true) → exec i s =
    .next (settle (replied h op.code p (okAns (after (fids.foldl markConfig (stage (atBody s h)))))))) ∧
  ((∃ f ∈ fids, (s.st f).idle = false) → exec i s =
    .next (settle (replied h op.code p (failAns (atBody s h) stWrongState 0))))

/-! ## What a command's own effect may change -/

/-- The parts of the state: one for each field but the queue. -/
inductive Area where
  | mono | nonce | cur | boot | pairs | net | fcr | fns | staged | applied | stored | autoStart | mem | cle | cse | lsw
  | planner | guid | yield | headwind | fus | cam | gns | tsu | eth | can | pwr | pnl | upd | tst | sent
deriving DecidableEq, Repr

/-- All of the state but the parts listed is as it was, and so is the queue. -/
structure SameBut (l : List Area) (s t : State) : Prop where
  mono : Area.mono ∉ l → t.mono = s.mono
  nonce : Area.nonce ∉ l → t.nonce = s.nonce
  cur : Area.cur ∉ l → t.cur = s.cur
  boot : Area.boot ∉ l → t.boot = s.boot
  pairs : Area.pairs ∉ l → t.pairs = s.pairs
  net : Area.net ∉ l → t.net = s.net
  fcr : Area.fcr ∉ l → t.fcr = s.fcr
  fns : Area.fns ∉ l → t.fns = s.fns
  staged : Area.staged ∉ l → t.staged = s.staged
  applied : Area.applied ∉ l → t.applied = s.applied
  stored : Area.stored ∉ l → t.stored = s.stored
  autoStart : Area.autoStart ∉ l → t.autoStart = s.autoStart
  mem : Area.mem ∉ l → t.mem = s.mem
  cle : Area.cle ∉ l → t.cle = s.cle
  cse : Area.cse ∉ l → t.cse = s.cse
  lsw : Area.lsw ∉ l → t.lsw = s.lsw
  planner : Area.planner ∉ l → t.planner = s.planner
  guid : Area.guid ∉ l → t.guid = s.guid
  yield : Area.yield ∉ l → t.yield = s.yield
  headwind : Area.headwind ∉ l → t.headwind = s.headwind
  fus : Area.fus ∉ l → t.fus = s.fus
  cam : Area.cam ∉ l → t.cam = s.cam
  gns : Area.gns ∉ l → t.gns = s.gns
  tsu : Area.tsu ∉ l → t.tsu = s.tsu
  eth : Area.eth ∉ l → t.eth = s.eth
  can : Area.can ∉ l → t.can = s.can
  pwr : Area.pwr ∉ l → t.pwr = s.pwr
  pnl : Area.pnl ∉ l → t.pnl = s.pnl
  upd : Area.upd ∉ l → t.upd = s.upd
  tst : Area.tst ∉ l → t.tst = s.tst
  sent : Area.sent ∉ l → t.sent = s.sent
  pending : t.pending = s.pending

/-- What every Baline command may change: who sent it, sessions and logs, the flag that settings stand at
shipped values (17 R568), what has been sent, and, where it came on CAN2, the frames that wait for its bus (03 R75). -/
def hostAreas (h : Hdr) : List Area :=
  [.cur, .net, .upd, .sent] ++ if h.ep = .can2 then [.can] else []

/-- The parts of the state a command's own effect may change, before what follows from it in other blocks. -/
def touches : Instr → List Area
  | .getIdentity h _ | .closeSession h _ | .keepalive h _ | .takeOwnership h _ | .releaseOwnership h _
  | .subscribe h _ | .unsubscribe h _ | .getState h _ | .pwrGetBudget h _ | .pwrStatus h _ | .loopRead h _
  | .loopStatus h _ | .cleCapacity h _ | .tableRead h _ | .groupRead h _ | .senseRead h _ | .plannerStatus h _
  | .lswStatus h _ | .fusStatus h _ | .pipeStatus h _ | .gnssStatus h _ | .getTime h _ | .timeStatus h _
  | .faultRead h _ | .captureRead h _ | .panelStatus h _ | .updateBegin h _ | .updateBlock h _
  | .updateCommit h _ | .updateStatus h _ | .testStatus h _ | .undefinedOpcode h _ _ => hostAreas h
  | .openSession h _ | .readMem h _ _ | .faultClear h _ | .faultSourceConfig h _ | .faultThreshold h _ =>
    hostAreas h ++ [.fcr]
  | .start h _ =>
    hostAreas h ++ [.fcr, .fns, .applied, .cle, .cse, .lsw, .planner, .guid, .yield, .fus, .cam, .gns, .tsu,
     .eth, .can, .pwr, .pnl]
  | .stop h _ =>
    hostAreas h ++ [.fcr, .fns, .staged, .applied, .cle, .cse, .lsw, .planner, .guid, .yield, .fus, .cam, .gns,
     .tsu, .eth, .can]
  | .resetCore h _ => hostAreas h ++ [.boot]
  | .writeMem h _ => hostAreas h ++ [.mem]
  | .saveSettings h _ => hostAreas h ++ [.stored, .autoStart]
  | .logErase h _ | .pipCapture h _ | .pipExportReadHeader h _ | .pipExportReadSamples h _
  | .pipExportProcess h _ | .pipExportDelete h _ => hostAreas h ++ [.gns]
  | .pwrSetLatency h _ | .pwrSetBudget h _ => hostAreas h ++ [.pwr]
  | .pwrRequestState h _ => hostAreas h ++ [.nonce, .boot, .fcr, .pwr]
  | .loopConfig h _ => hostAreas h ++ [.fns, .staged, .cle]
  | .loopSetReference h _ | .loopSetFeedforward h _ | .tableWrite h _ => hostAreas h ++ [.cle]
  | .groupConfig h _ | .pspMap h _ | .guidanceConfig h _ | .poseSource h _ | .fusPointStream h _ | .tdConfig h _
  | .canConfig h _ | .canFilter h _ | .panelConfig h _ => hostAreas h ++ [.fns, .staged]
  | .impConfig h _ | .classifierLoad h _ | .ainConfig h _ | .finConfig h _ | .posConfig h _ | .imuConfig h _
  | .flowCalibrate h _ => hostAreas h ++ [.cse]
  | .plannerModel h _ => hostAreas h ++ [.fns, .staged, .planner]
  | .plannerObjectives h _ => hostAreas h ++ [.staged, .applied, .planner]
  | .pathLoad h _ => hostAreas h ++ [.guid]
  | .yieldConfig h _ => hostAreas h ++ [.yield]
  | .lswConfig h _ => hostAreas h ++ [.fns, .staged, .lsw]
  | .lswCommand h _ | .lswClear h _ => hostAreas h ++ [.fcr, .lsw]
  | .fusConfig h _ => hostAreas h ++ [.fns, .staged, .fus]
  | .fusWeights h _ => hostAreas h ++ [.fus]
  | .fusHeadPolicy h _ => hostAreas h ++ [.staged, .applied, .fus]
  | .pipeConfig h _ | .sensorTunnelRead h _ _ | .sensorTunnelWrite h _ _ | .sensorTunnelAppendStart h _
  | .sensorTunnelAppendStop h _ | .sensorTunnelClearLists h _ => hostAreas h ++ [.nonce, .fns, .staged, .cam]
  | .exposureCommit h _ => hostAreas h ++ [.cam]
  | .gnssConfig h _ => hostAreas h ++ [.fcr, .fns, .staged, .gns]
  | .notchConfig h _ => hostAreas h ++ [.staged, .applied]
  | .rateOverride h _ => hostAreas h ++ [.tsu]
  | .portConfig h _ | .gateConfig h _ => hostAreas h ++ [.eth]
  | .canTransmit h _ => hostAreas h ++ [.nonce, .can]
  | .canStatus h _ => hostAreas h ++ [.can]
  | .canAddressClaim h _ => hostAreas h ++ [.fcr, .staged, .applied, .can]
  | .panelFrame h _ => hostAreas h ++ [.pnl]
  | .testUnlock h _ | .perturbClear h _ => hostAreas h ++ [.fcr, .tst]
  | .perturbSet h _ => hostAreas h ++ [.fcr, .lsw, .tst]
  | .balinePacketDiscarded _ _ | .balinePortMismatchDrop _ | .sessionKeepaliveTimeout _ | .faultLogEntryQueued _
  | .serviceLogWrite => [.net]
  | .neighbourDiscovery _ _ | .icmpv6Echo _ _ _ _ => [.sent]
  | .isotpFrameReceived _ _ | .isotpTimeout _ | .hpFrameHoldoffExpiry _ | .rxReadyHoldoffExpiry _
  | .busDominantCleared _ => [.net, .can]
  | .powerOnReset _ | .resetNRise _ | .refclkLoss | .holdupStoreExhausted | .refclkReturn _ =>
    [.mono, .cur, .boot, .pairs, .net, .fcr, .fns, .staged, .applied, .mem, .cle, .cse, .lsw, .planner, .guid,
     .yield, .headwind, .fus, .cam, .gns, .tsu, .eth, .can, .pwr, .pnl, .upd, .tst]
  | .resetNFall _ | .powerStateEntryComplete | .ignRise =>
    [.mono, .nonce, .cur, .boot, .pairs, .net, .fcr, .fns, .staged, .applied, .mem, .cle, .cse, .lsw, .planner,
     .guid, .yield, .headwind, .fus, .cam, .gns, .tsu, .eth, .can, .pwr, .pnl, .upd, .tst]
  | .pllsLocked => [.mono, .boot, .net, .fcr]
  | .loaderStart _ | .updateJournalRead => [.boot, .upd]
  | .dramTrained | .coreResetDigestCheck | .balineServed => [.boot]
  | .firmwareImageVerified | .updateCheckComplete _ => [.boot, .net, .fcr, .upd]
  | .pairRolesAssigned _ _ _ _ | .failoverRestoreComplete _ => [.boot, .pairs, .net, .fcr]
  | .firmwareRunning =>
    [.boot, .pairs, .net, .fcr, .fns, .staged, .applied, .stored, .autoStart, .cle, .cse, .lsw, .planner,
     .yield, .fus, .gns, .eth, .can, .pwr, .pnl, .upd]
  | .autoStart =>
    [.boot, .net, .fcr, .fns, .applied, .cle, .cse, .lsw, .planner, .guid, .yield, .fus, .cam, .gns, .tsu,
     .eth, .can, .pwr, .pnl, .sent]
  | .processorComplexReset =>
    [.boot, .pairs, .net, .fcr, .fns, .staged, .cle, .lsw, .planner, .guid, .headwind, .fus, .cam, .gns, .tsu,
     .pwr, .upd]
  | .groupHoldExpiry _ => [.net, .fns, .cle]
  | .channelHoldExpiry _ | .channelStartCommit _ => [.net, .fcr, .fns, .lsw]
  | .supervisorCheckFailed _ | .firewallDrop _ _ _ _ | .accessRefused _ _ _ | .faultSourceReturned _
  | .faultLinkRestored _ _ | .squallWindowEnd | .watchdogExpiry | .lockstepMiscompare _ _ => [.net, .fcr]
  | .logicFeedRangeChange _ _ _ | .vref5LimitTimeout _ | .vref5Retry _ _ => [.boot, .net, .fcr]
  | .baseTemperatureSample _ _ _ _ => [.net, .fcr, .pwr]
  | .loopSample _ => [.nonce, .net, .fcr, .fns, .cle, .lsw, .can]
  | .loopSampleMissed _ => [.net, .fcr, .cle]
  | .groupStartCommit _ => [.net, .fns, .cle, .lsw]
  | .groupStopComplete _ => [.cur, .net, .fcr, .fns, .staged, .applied, .cle, .lsw, .can]
  | .hitOnset _ _ _ | .mergedHit _ _ _ | .hitWindowComplete _ _ _ | .hitQuietEnd _ | .countingWindowEnd _
  | .frontEndSelftest _ _ | .ainUpdate _ _ _ | .ainRangeCount _ _ | .finEdgeAccepted _ _ _ _ | .qerrExpiry _
  | .finUpdate _ | .posUpdate _ _ _ _ _ _ | .excitationLimitTimeout _ | .excitationRetry _ _
  | .imuSample _ _ _ _ _ _ _ | .inputSettlingEnd _ _ => [.cse]
  | .hitClassified _ => [.nonce, .cse]
  | .windowCountsPublished => [.net, .cse, .yield]
  | .inputConfigCommit _ _ => [.cse, .yield]
  | .classifierSetCommit _ | .flowCurveApply _ => [.net, .cse]
  | .inputValidityReport _ _ => [.net, .fcr, .cse]
  | .plannerCycle => [.net, .fns, .cle, .planner]
  | .planSolved _ | .plannerStartCommit => [.planner]
  | .plannerCoastTimeout => [.net, .fcr, .fns, .planner]
  | .plannerStopComplete => [.cur, .net, .fcr, .fns, .staged, .applied, .cle, .planner]
  | .cvOverLimitTimeout _ => [.net, .planner]
  | .guidanceInstant _ _ _ _ _ _ => [.net, .fcr, .fns, .cle, .guid]
  | .poseReceived _ _ _ _ | .guidanceStartCommit => [.guid]
  | .poseStaleExpiry => [.net, .guid]
  | .drLimitExpiry => [.net, .fcr, .fns, .guid]
  | .guidanceStopComplete => [.cur, .net, .fcr, .fns, .staged, .applied, .cle, .guid]
  | .yieldConfigCommit => [.yield]
  | .channelStopComplete _ => [.cur, .net, .fcr, .fns, .staged, .applied, .lsw]
  | .pwmPeriodStart _ _ => [.nonce, .lsw]
  | .pwmOnTimeEnd _ | .currentLimitEntry _ _ | .quietWindowExpiry _ | .clampEventBegin _ | .clampWindowAgeOut _
  | .switchingCyclesStore => [.lsw]
  | .shortClassifyCheck _ _ _ | .shortConfirmExpiry _ => [.net, .fcr, .lsw, .tst]
  | .limitExit _ | .limitTimeExpiry _ | .retryOffExpiry _ | .dieOverTemperature _ _ | .dieGateOpen _ _
  | .dieSensorFault _ _ | .studUnderVoltage _ _ | .studOverVoltage _ _ _ | .studSupplySettled _ _
  | .channelOverload _ _ | .openLoadDetect _ _ _ | .clampEventEnd _ _ | .studGateAdmit _ _
  | .studCurrentGate _ _ => [.net, .fcr, .lsw]
  | .egoInstant _ | .egoConfigCommit => [.net, .fcr, .fus]
  | .fusionGather => [.nonce, .fus]
  | .fusionResultsIssued _ _ _ => [.nonce, .net, .fcr, .fns, .guid, .headwind, .fus]
  | .pointPacketReceived _ | .fusionStartCommit => [.fus]
  | .fusionEgoLostTimeout => [.net, .fns, .fus]
  | .fusionStopComplete => [.cur, .net, .fns, .staged, .applied, .fus]
  | .weightsWriteComplete _ => [.net, .fus]
  | .cameraPowerLimit _ _ | .pipeStartTimeout _ => [.net, .fcr, .fns, .cam]
  | .cameraPowerRetry _ _ => [.nonce, .net, .fcr, .cam]
  | .cameraLinkChange _ _ _ => [.net, .fcr, .cam]
  | .cameraTrigger _ => [.cam, .sent]
  | .frameStart _ | .csi2PacketReceived _ _ => [.nonce, .net, .fns, .cam, .tst, .sent]
  | .frameSlotMissing _ => [.net, .fns, .cam, .sent]
  | .frameEnd _ => [.net, .fns, .cam]
  | .frameProcessed _ _ => [.nonce, .fus, .cam, .sent]
  | .statsRecordSent _ => [.net, .cam]
  | .exposureWritesComplete _ | .pipeStartCommit _ => [.cam]
  | .pipeStopComplete _ => [.cur, .net, .fcr, .fns, .staged, .applied, .cam, .sent]
  | .antennaBiasChange _ _ | .antennaBiasRetry _ _ | .gnssBankEpoch _ | .jammingAlarmTimeout => [.net, .fcr, .gns]
  | .acquisitionFalseAlarm _ | .trackingLockChange _ _ _ | .trackingLossTimeout _ _ | .bitSyncTimeout _
  | .lostPrnExpiry _ | .gnssDataStore | .pipCaptureBegin => [.gns]
  | .subframeReceived _ _ _ _ _ | .pipStored _ | .pipProcessingUnit _ _ _ => [.net, .gns]
  | .measurementEpoch _ => [.net, .fcr, .gns, .tsu]
  | .gnssStartCommit => [.net, .fns, .gns]
  | .timeStepMade _ => [.net, .cle, .cse, .lsw, .yield, .fus, .gns, .tsu, .eth]
  | .ppsOutPulse _ => [.tsu, .sent]
  | .ptpMessageReceived _ _ | .portConfigApply _ | .portLinkChange _ _ => [.net, .fcr, .tsu, .eth]
  | .ptpMessageSend _ _ _ => [.tsu, .eth, .sent]
  | .ptpEventForwarded _ _ _ _ _ | .gateEntryExpiry _ | .ethFrameReceived _ _ => [.eth, .sent]
  | .ptpSourceTimeout _ | .ppsInEdge _ | .ppsInTimeout _ | .holdoverSpecExceeded _ => [.net, .fcr, .tsu]
  | .slewComplete _ => [.tsu]
  | .domainStartCommit _ => [.net, .fns]
  | .gateListStart _ => [.net, .eth, .sent]
  | .canFrameReceived _ _ => [.nonce, .net, .fcr, .cle, .planner, .yield, .can]
  | .canProtocolException _ _ => []
  | .canBusError _ _ _ _ | .canBusoffRecovered _ | .canTxDominantTimeout _ | .canBusDominantTimeout _
  | .addressClaimTimeout _ | .cannotClaimDelayExpiry _ => [.net, .fcr, .can]
  | .canTxAttemptEnd _ _ _ => [.nonce, .net, .fcr, .can, .tst, .sent]
  | .canBusIntegrated _ => [.net, .fns, .can]
  | .canStopComplete _ => [.cur, .net, .fcr, .fns, .staged, .applied, .can]
  | .faultSourceRaised _ _ _ _ _ _ => [.nonce, .net, .fcr, .fus, .pnl]
  | .deadPairReset _ | .quarantineSelfTestEnd _ _ => [.pairs, .net, .fcr]
  | .heartbeatWrite _ | .aliveHeartbeatTimeout => [.fcr]
  | .ignOffDelayExpiry | .budgetWindow =>
    [.cur, .net, .fcr, .fns, .staged, .applied, .cle, .cse, .lsw, .planner, .guid, .yield, .fus, .cam, .gns,
     .tsu, .eth, .can, .pwr, .sent]
  | .canWakePattern _ | .wakeTimerExpiry => [.nonce, .boot, .net, .fcr, .pwr]
  | .energyMeter _ _ _ | .ignFall => [.pwr]
  | .panelTemperatureRead _ | .panelSupplySample _ _ _ | .panelSupplyRestored => [.net, .fcr, .pnl]
  | .panelRowStart | .panelPhaseEnd => [.net, .fcr, .fns, .pnl]
  | .panelJournalTick => [.pnl]
  | .panelStopComplete => [.cur, .net, .fcr, .fns, .staged, .applied, .pnl]
  | .updateCopyBegin | .updateSectorDone _ => [.upd]
  | .perturbationExpiry _ => [.net, .fcr, .tst]
  | .checkpointWrite _ | .watchdogService _ => [.pairs]

end Sys2Proof
end

