-- ==== Sys2Proof/Certificates/Slice0/Obligations.lean ====
section
/-! DEFINITION. The statements for the provers. A host command's statement supposes `Accepted`: the command passes
the checks of 03 Table 3.4 that precede its opcode's own. `replied` is the state with the reply sent and kept; `settle`
carries out, at the end of the step, what a command has brought about in other blocks (it changes nothing of a quiet
state: `Obligations.QuietStateSettles`). Numbers of log entries are those of notes/assumptions. -/

open Sys2Proof Sys2Proof.Machine

/-! ## The block as a machine -/

/-- The command at the front of the queue runs on the state with the queue's rest. -/
def Obligations.FrontCommandRuns : Prop :=
  ∀ (s : State) (c : Instr) (q : List Instr), s.pending = c :: q → step s = exec c { s with pending := q }

/-- With no command waiting one period of the tick passes (model's choice, log entry 8): the clock stands still before
event 2 of Table 1.12 and in OFF, counts by ten in CALM (15 R499), and by one otherwise (00 R11); then the oldest
command that was taken up and waits is completed (03 R83), unless it waits on. -/
def Obligations.EmptyQueueIsOneTick : Prop :=
  (∀ s : State, s.pending = [] → step s = .next (tick s)) ∧
  (∀ s : State, s.boot.phase < 2 ∨ s.pwr.state = 5 → tick s = s) ∧
  (∀ s : State, 2 ≤ s.boot.phase → s.pwr.state = 3 →
    tick s = resumeOne (calmTick s) ∧ (calmTick s).mono = s.mono + 10) ∧
  (∀ s : State, 2 ≤ s.boot.phase → s.pwr.state ≠ 3 → s.pwr.state ≠ 5 →
    tick s = resumeOne (runTick s) ∧ (runTick s).mono = s.mono + 1) ∧
  (∀ s : State, s.net.held = [] → resumeOne s = s) ∧
  (∀ (s : State) (e : Held) (r : List Held), s.net.held = e :: r →
    (waits s e.cmd = true → resumeOne s = s) ∧
    (∀ t, waits s e.cmd = false → exec e.cmd { s with net := { s.net with held := r } } = .next t → resumeOne s = t))

/-- What reset leaves: the tick at zero, every function OFF, auto-start for CAN2 only, no session, no token, no reply, no
fault latched, and an empty queue (00 R11, 01 R30, R45, 03 R87). -/
def Obligations.ResetState : Prop :=
  State.reset.mono = 0 ∧ (∀ f, State.reset.st f = .off) ∧
  (∀ f, tget false State.reset.autoStart f = decide (f = 0x0C02)) ∧
  State.reset.net.sessions = [] ∧ State.reset.net.token = none ∧ State.reset.sent = [] ∧
  (∀ n, (State.reset.src n).latched = false ∧ (State.reset.src n).inErr = false) ∧ State.reset.pending = []

/-- The memory after reset is in its canonical form. -/
def Obligations.ResetInv : Prop :=
  MemInv State.reset

/-- Every step keeps the memory in its canonical form. -/
def Obligations.StepKeepsInv : Prop :=
  ∀ s s' : State, MemInv s → step s = .next s' → MemInv s'

/-- Every step answers a next state, and no command touches the queue: what waits behind it waits on. -/
def Obligations.EveryStepCompletes : Prop :=
  (∀ s : State, ∃ t, step s = .next t) ∧
  (∀ (i : Instr) (s s' : State), exec i s = .next s' → s'.pending = s.pending) ∧
  (∀ (s : State) (c : Instr) (q : List Instr) (s' : State), s.pending = c :: q → step s = .next s' → s'.pending = q)

/-! ## Frames -/

/-- A command changes nothing beyond the parts of the state listed for it, its own effect apart from what follows in other
blocks at the end of the step (`settle`), and never the queue. `touches` lists those parts for each command. -/
def Obligations.FrameOfEveryCommand : Prop :=
  ∀ (i : Instr) (s : State), ∃ u, (exec i s = .next u ∨ exec i s = .next (settle u)) ∧ SameBut (touches i) s u

/-! ## The block as a machine -/

/-- Every byte of memory is as before after any command but WRITE_MEM, a reset, and the entry to and the wake from a power
state that loses memory. -/
def Obligations.MemoryFrame : Prop :=
  ∀ (i : Instr) (s s' : State), touchesMemory i = false → exec i s = .next s' →
    ∀ a, memGet s'.mem a = memGet s.mem a

/-- Where nothing hangs on the state, the end of a command's step changes nothing; and it never changes the tick, what is
stored, memory, the headwind, the panel, the update, or the queue. Reactions send nothing, and neither does what
follows them while no IGN sequence runs. -/
def Obligations.QuietStateSettles : Prop :=
  (∀ s : State, Quiet s → settle s = s) ∧
  (∀ s : State, (settle s).mono = s.mono ∧ (settle s).stored = s.stored ∧ (settle s).autoStart = s.autoStart ∧
    (settle s).mem = s.mem ∧ (settle s).headwind = s.headwind ∧ (settle s).pnl = s.pnl ∧ (settle s).upd = s.upd ∧
    (settle s).pending = s.pending) ∧
  (∀ s : State, (carryAll s).sent = s.sent ∧ (s.pwr.ignSeq = 0 → (follow s).sent = s.sent))

/-! ## Baline -/

/-- The order of checks 1 to 5 and what each leaves: nothing where Baline is not served or the packet does not reach it (a
datagram reaches it in one piece, with its checksum right, sent to the module's own address, or to ff02::1 as a
GET_IDENTITY with session 0; on CAN2 it is the oldest message received whole); a count where the packet is no
command; a reply of BAD_OPCODE to another version and of WRONG_STATE to a session that is not the sender's. A repeat
of a command is never executed again: while the command is outstanding nothing is sent, and once it has been answered
the same reply is sent. Only the session's last-heard tick and what is sent change. The order of checks 6 to 12 (Table
3.4) on a command of an open session that is no repeat: the first that fails decides the reply, and nothing else of
the module changes; one that passes them is carried out, or joins those that wait (R83). A command of a session that
does not hold the ownership token, whose opcode asks for it, changes nothing but sessions, their answers and, on CAN2,
the frames that wait for its bus; so does a bench command outside bench mode. -/
def Obligations.CommandChecks : Prop :=
  (∀ (s : State) (code : Nat) (op : Option OpSpec) (h : Hdr) (p : Bytes) (i : Instr), h.taken = false →
    let u := unbox s h.ep
    let comes := served s h.ep = true ∧ reached s h code p = true
    (served s h.ep = false ∨ reached s h code p = false → command s code op h p i = s) ∧
    (comes → (h.flags % 4 ≠ 0 ∨ packetMax s h < 16 + p.length) →
      command s code op h p i = { u with net := { u.net with discarded := u.net.discarded + 1 } }) ∧
    (comes → h.flags % 4 = 0 → 16 + p.length ≤ packetMax s h → h.version ≠ 1 →
      command s code op h p i = sendPacket u h.ep (replyOf h code stBadOpcode 0 [])) ∧
    (comes → h.flags % 4 = 0 → 16 + p.length ≤ packetMax s h → h.version = 1 →
      h.session ≠ 0 ∨ code ≠ 0x0100 ∧ code ≠ 0x0101 → boundSession s h = none →
      command s code op h p i = sendPacket u h.ep (replyOf h code stWrongState 0 []))) ∧
  (∀ (s : State) (h : Hdr) (code : Nat) (p : Bytes),
    (∀ a b, h.ep = .udp a b → (reached s h code p = true ↔
      h.sumOk = true ∧ h.whole = true ∧ (h.toAll = true → h.session = 0 ∧ code = 0x0100))) ∧
    (h.ep = .can2 → (reached s h code p = true ↔ ∃ r, s.net.isoMsg = commandBytes h code p :: r))) ∧
  (∀ (s : State) (code : Nat) (op : Option OpSpec) (h : Hdr) (p : Bytes) (i : Instr) (x : Session) (r : Option Packet),
    h.taken = false → served s h.ep = true → reached s h code p = true → h.flags % 4 = 0 → h.version = 1 →
    16 + p.length ≤ packetMax s h → h.session ≠ 0 → boundSession s h = some x → repeated s x h = some r →
    command s code op h p i = match r with
      | none => heard s h
      | some k => sendPacket (heard s h) h.ep k) ∧
  (∀ (s : State) (x : Session) (h : Hdr),
    (h.seq ∈ outstanding s h.session → repeated s x h = some none) ∧
    (∀ e, h.seq ∉ outstanding s h.session → x.answered.find? (fun e => decide (e.1 = h.seq)) = some e →
      repeated s x h = some (some e.2)) ∧
    (h.seq ∉ outstanding s h.session → (∀ e ∈ x.answered, e.1 ≠ h.seq) → repeated s x h = none)) ∧
  (∀ (s : State) (op : OpSpec) (h : Hdr) (p : Bytes) (i : Instr),
    let c := takeUp s op.code (some op) h p i
    let no (st detail : Nat) : State := answer s h op.code st detail []
    let room := h.session = 0 ∨ (outstanding s h.session).length < 16
    let benchOk := op.bench = true → s.boot.bench = true
    let owns := op.token = true → s.net.token = some h.session
    (¬ room → c = no stBusy 0) ∧
    (room → takeUp s op.code none h p i = no stBadOpcode 0) ∧
    (room → servesNow s op.code = false → c = no stWrongState 0) ∧
    (room → servesNow s op.code = true → ¬ benchOk → c = no stDenied 0) ∧
    (room → servesNow s op.code = true → benchOk → ¬ owns → c = no stNotOwner 0) ∧
    (room → servesNow s op.code = true → benchOk → owns → p.length ≠ op.len p → c = no stBadLength (op.len p)) ∧
    (room → servesNow s op.code = true → benchOk → owns → p.length = op.len p →
      (8 ≤ h.flags → c = no stBadParam noField) ∧
      (∀ o, h.flags < 8 → firstBad (op.layout p) = some o → c = no stBadParam o) ∧
      (h.flags < 8 → firstBad (op.layout p) = none →
        (packetMax s h < 20 + op.reply p → c = no stBadParam noField) ∧
        (20 + op.reply p ≤ packetMax s h →
          c = if mustWait s h op.code || waits s i then hold s h op.code i else perform s op h p)))) ∧
  (∀ (s : State) (op : OpSpec) (h : Hdr) (p : Bytes) (i : Instr),
    (op.token = true ∧ s.net.token ≠ some h.session) ∨ (op.bench = true ∧ s.boot.bench = false) →
    SameBut ([.net, .sent] ++ if h.ep = .can2 then [.can] else []) s (takeUp s op.code (some op) h p i))

/-- A reply repeats session, sequence and opcode, has the reply flag, status, a reserved byte, detail and data; it is sent
to the command's endpoint, and it becomes the newest of the session's answered commands, of which 32 are kept. A reply
larger than the session's largest packet is refused, with no effect of the command. CRC-32C: the check value of the
nine digits, and that of an empty string. -/
def Obligations.Replies : Prop :=
  (∀ (h : Hdr) (code st detail : Nat) (data : Bytes),
    replyOf h code st detail data =
      { flags := 1, session := h.session, seq := h.seq, opcode := code, params := b1 st ++ b1 0 ++ le 2 detail ++ data }) ∧
  (∀ (s : State) (h : Hdr) (x : Session) (code st detail : Nat) (data : Bytes),
    h.session ≠ 0 → session s h.session = some x →
    ∃ y, session (answer s h code st detail data) h.session = some y ∧
      y.answered = ((h.seq, replyOf h code st detail data) :: x.answered).take 32) ∧
  (∀ (s : State) (h : Hdr) (a b : Nat) (code st detail : Nat) (data : Bytes), h.ep = .udp a b →
    (answer s h code st detail data).sent = .packet h.ep (replyOf h code st detail data) :: s.sent) ∧
  (∀ (s : State) (h : Hdr) (code st detail : Nat) (data : Bytes), h.ep = .can2 → ∃ v,
    v.sent = .packet h.ep (replyOf h code st detail data) :: s.sent ∧
    answer s h code st detail data = isoQueue v 0x7A1 (replyOf h code st detail data).bytes) ∧
  (∀ (s : State) (op : OpSpec) (h : Hdr) (p : Bytes),
    packetMax s h < 20 + (op.body (s.within h) p).data.length →
      perform s op h p = answer s h op.code stBadParam 0xFFFF []) ∧
  crc32c (List.map (BitVec.ofNat 8) [0x31, 0x32, 0x33, 0x34, 0x35, 0x36, 0x37, 0x38, 0x39]) = 0xE3069283#32 ∧
  crc32c [] = 0#32

/-! ## System opcodes (chapter 03) -/

/-- GET_IDENTITY, KEEPALIVE and GET_STATE have no effect beyond the session's (it has been heard, and holds the command's
record and reply): the reply gives the identity of Table 3.12, the time of TD0 and the tick, and a function's state,
pending start and last change. -/
def Obligations.IdentityAndStateReads : Prop :=
  (∀ (h : Hdr) (p : Bytes) (s : State), Accepted opGetIdentity h p 56 s →
    exec (.getIdentity h p) s = .next (replied h 0x0100 p (okWith (atBody s h)
      (le 4 0x0960A001 ++ le 12 Config.unitId.toNat ++ le 4 (fwVersion s) ++ le 4 Config.loaderVersion.toNat ++
        le 2 (schemaNow s) ++ b1 1 ++
        b1 (bit s.boot.bench 0 + bit (limited s) 1 + bit (decide (sparePairs s = 0)) 2) ++ le 4 s.fcr.epoch ++
        le 4 s.boot.coreResets ++ le 8 s.mono ++ b1 s.net.sessions.length ++ b1 (bit s.net.token.isSome 0) ++
        (le 6 Config.mac.toNat).reverse ++ b1 s.boot.cause ++ zeros 3)))) ∧
  (∀ (h : Hdr) (p : Bytes) (s : State), Accepted opKeepalive h p 20 s →
    exec (.keepalive h p) s = .next (replied h 0x0103 p (okWith (atBody s h) (leT s.now ++ le 8 s.mono)))) ∧
  (∀ (h : Hdr) (p : Bytes) (s : State), Accepted opGetState h p 16 s →
    exec (.getState h p) s = .next (replied h 0x010A p (okWith (atBody s h)
      (b1 (match s.st (rd p 0 2) with
          | .off => 0 | .config => 1 | .starting => 2 | .running => 3 | .stopping => 4 | .faulted => 5) ++
        b1 (bit (s.fn (rd p 0 2)).pend.isSome 0) ++ zeros 2 ++ leT (s.fn (rd p 0 2)).changed))))

/-- OPEN_SESSION with session 0, not a repeat, within the packet sizes of its transport: with four sessions open, or on
CAN2 with one open there, it is BUSY; else the session opens. A repeat within 10 s from the same endpoint gets the reply
kept for it; on an open session it is WRONG_STATE (model's choice, log entry 56). An opening session takes the
counter's number, is bound to the sender, and has the two streams every session has; the counter skips 0x0000 and
0xFFFF; the opening is logged and reported; while settings stand at shipped values, SETTINGS_DEFAULTED follows on its
events stream (17 R568). CLOSE_SESSION closes its own session with cause 1; TAKE_OWNERSHIP takes a free token with an
event, is OK for its holder and LOCKED while another holds it; RELEASE_OWNERSHIP frees it, with an event whose new
holder is 0. What closing a session does: it is no longer open, what waits for it on CAN2 is dropped, the closing is
logged and reported with its cause, and its token is released. SUBSCRIBE adds a stream of Table 3.8 to the session that
does not have it, empty; on CAN2 only events and fault records; UNSUBSCRIBE removes it. -/
def Obligations.SessionsAndToken : Prop :=
  (∀ (h : Hdr) (p : Bytes) (s : State), h.taken = false → served s h.ep = true → reached s h 0x0101 p = true →
    h.flags = 0 → h.version = 1 → h.session = 0 → p.length = 20 → 36 ≤ packetMax s h →
    (match h.ep with | .udp _ _ => 1232 ≤ rd p 0 2 ∧ rd p 0 2 ≤ 8192 | .can2 => 64 ≤ rd p 0 2 ∧ rd p 0 2 ≤ 4095) →
    500 ≤ rd p 2 2 → rd p 2 2 ≤ 60000 →
    let n := s.net.counter
    let full := 4 ≤ s.net.sessions.length ∨ (h.ep = .can2 ∧ ∃ x ∈ s.net.sessions, x.ep = .can2)
    let begun : State := (unbox s h.ep).within h
    let again (r : OpenReply) : Bool := decide (r.ep = h.ep ∧ r.seq = h.seq) && !s.past r.at_ (secT 10)
    (∀ r, s.net.openReplies.find? again = some r →
      exec (.openSession h p) s = .next (settle (sendPacket (unbox s h.ep) h.ep r.reply))) ∧
    ((∀ r ∈ s.net.openReplies, again r = false) →
      (full → exec (.openSession h p) s = .next (settle (replied h 0x0101 p (failAns begun stBusy 0)))) ∧
      (¬ full → exec (.openSession h p) s = .next (settle (replied h 0x0101 p
        (okWith (openNow begun h.ep p) (le 2 n ++ b1 16 ++ b1 0 ++ le 4 s.fcr.epoch))))))) ∧
  (∀ (h : Hdr) (p : Bytes) (s : State), Accepted (opOpenSession h) h p 0 s →
    exec (.openSession h p) s = .next (settle (replied h 0x0101 p (failAns (atBody s h) stWrongState 0)))) ∧
  (∀ (s : State) (ep : Endpoint) (p : Bytes),
    let n := s.net.counter
    let x : Session :=
      { num := n, ep := ep, maxPkt := rd p 0 2, keepMs := rd p 2 2, name := slice p 4 16, last := s.mono
        streams := [{ typ := 0xF001 }, { typ := 0xF002 }] }
    let opened : State := { s with net := { s.net with
      sessions := s.net.sessions ++ [x], counter := if 0xFFFE ≤ n then 1 else n + 1 } }
    let told := emit (slogAdd opened 2 (le 2 n ++ zeros 2 ++ fitBytes 16 (slice p 4 16))) 0x0103 0xFFFF (le 2 n ++ zeros 2)
    (s.upd.defaulted = none → openNow s ep p = told) ∧
    (∀ o m, s.upd.defaulted = some (o, m) →
      let body := evBody 0x0F02 0xFFFF 2 0 (le 2 o ++ le 2 m)
      let logged := flogAdd told told.now none body
      let kept := slogAdd logged.2 0 body
      let r : Rec := { time := kept.now, fault := true, pos := some logged.1, body := body }
      openNow s ep p = mapSession kept n fun y =>
        { y with streams := y.streams.map fun q => if q.typ = 0xF001 then q.push r else q })) ∧
  (∀ (h : Hdr) (p : Bytes) (s : State), Accepted opCloseSession h p 0 s →
    exec (.closeSession h p) s = .next (settle (replied h 0x0102 p (okAns (closeSession (atBody s h) h.session 1))))) ∧
  (∀ (h : Hdr) (p : Bytes) (s : State), Accepted opTakeOwnership h p 0 s →
    let b := atBody s h
    (s.net.token = none → exec (.takeOwnership h p) s = .next (replied h 0x0104 p (okAns
      (emit { b with net := { b.net with token := some h.session } } 0x0105 0xFFFF (le 2 h.session ++ zeros 2))))) ∧
    (s.net.token = some h.session → exec (.takeOwnership h p) s = .next (replied h 0x0104 p (okAns b))) ∧
    (∀ n, s.net.token = some n → n ≠ h.session →
      exec (.takeOwnership h p) s = .next (replied h 0x0104 p (failAns b stLocked 0)))) ∧
  (∀ (h : Hdr) (p : Bytes) (s : State), Accepted opReleaseOwnership h p 0 s →
    let b := atBody s h
    exec (.releaseOwnership h p) s = .next (replied h 0x0105 p (okAns
      (emit { b with net := { b.net with token := none } } 0x0105 0xFFFF (le 2 0 ++ zeros 2))))) ∧
  (∀ (s : State) (n cause : Nat) (x : Session), session s n = some x →
    let gone : State := { s with net := { s.net with
      sessions := s.net.sessions.filter fun y => decide (y.num ≠ n)
      isoTx := if x.ep = .can2 then s.net.isoTx.filter fun t => decide (t.id ≠ 0x7A2) else s.net.isoTx } }
    let told := emit (slogAdd gone 3 (le 2 n ++ b1 cause ++ b1 0 ++ fitBytes 16 x.name)) 0x0104 0xFFFF
      (le 2 n ++ b1 cause ++ b1 0)
    (s.net.token ≠ some n → closeSession s n cause = told) ∧
    (s.net.token = some n → closeSession s n cause =
      emit { told with net := { told.net with token := none } } 0x0105 0xFFFF (le 2 0 ++ zeros 2)) ∧
    session (closeSession s n cause) n = none) ∧
  (∀ (h : Hdr) (p : Bytes) (s : State) (x : Session), Accepted opSubscribe h p 0 s → session s h.session = some x →
    let t := rd p 0 2
    (x.ep = .can2 → t ≠ 0xF001 → t ≠ 0xF002 →
      exec (.subscribe h p) s = .next (replied h 0x0106 p (badParam (atBody s h) 0))) ∧
    (x.ep ≠ .can2 ∨ t = 0xF001 ∨ t = 0xF002 →
      exec (.subscribe h p) s = .next (replied h 0x0106 p (okAns (mapSession (atBody s h) h.session fun y =>
        { y with streams := if y.streams.any fun q => decide (q.typ = t) then y.streams else y.streams ++ [{ typ := t }] }))))) ∧
  (∀ (h : Hdr) (p : Bytes) (s : State), Accepted opUnsubscribe h p 0 s →
    exec (.unsubscribe h p) s = .next (replied h 0x0107 p (okAns (mapSession (atBody s h) h.session fun y =>
      { y with streams := y.streams.filter fun q => decide (q.typ ≠ rd p 0 2) }))))

/-- START in full service with no update in progress: in OFF or CONFIG its checks decide, and the reply is the first that
fails, or OK with the commit; in BREEZE, or while it is being entered, a function that BREEZE does not admit first
brings the module to RUN; in STOPPING with no start pending it is DEFERRED and pends; with one pending BUSY; in
STARTING, RUNNING and FAULTED WRONG_STATE. In limited service, or while an update copies or checks and the function is
no time domain or CAN controller, it is WRONG_STATE. STOP is always answered OK: nothing changes in OFF and CONFIG, a
pending start is cancelled in STOPPING, and in STARTING, RUNNING and FAULTED the function's own stop begins; but a
running CAN2 that is stopped on CAN2 first has its session closed and its reply sent (13 R451). -/
def Obligations.StartAndStop : Prop :=
  (∀ (h : Hdr) (p : Bytes) (s : State), Accepted opStart h p 0 s →
    let f := rd p 0 2
    let b := atBody s h
    let ans (a : Ans) : Prop := exec (.start h p) s = .next (settle (replied h 0x0108 p a))
    let copying := s.upd.journal = 2 ∨ s.upd.journal = 3
    (limited s = true → ans (failAns b stWrongState 0)) ∧
    (copying → timeOrCan f = false → ans (failAns b stWrongState 0)) ∧
    (limited s = false → (copying → timeOrCan f = true) →
      ((s.st f).idle = true →
        (∀ t st d, fnCheck f (runFor f b) = (t, some (st, d)) → ans (failAns t st d)) ∧
        (∀ t, fnCheck f (runFor f b) = (t, none) → ans (okAns (fnCommit f t)))) ∧
      (s.st f = .stopping → (s.fn f).pend = none →
        ans (failAns (b.setFn f { s.fn f with pend := some (h.session, h.seq) }) stDeferred 0)) ∧
      (s.st f = .stopping → (s.fn f).pend ≠ none → ans (failAns b stBusy 0)) ∧
      (s.st f = .starting ∨ s.st f = .running ∨ s.st f = .faulted → ans (failAns b stWrongState 0)))) ∧
  (∀ (f : Nat) (s : State),
    let entered : State := { s with pwr := { s.pwr with state := 1, entering := none, since := s.mono } }
    (breezeFid f = true ∨ s.pwr.state ≠ 1 ∧ s.pwr.entering ≠ some 1 → runFor f s = s) ∧
    (breezeFid f = false → s.pwr.entering = some 1 → runFor f s = toRun (powerEvent entered 0 1) 5) ∧
    (breezeFid f = false → s.pwr.entering ≠ some 1 → s.pwr.state = 1 → runFor f s = toRun s 5)) ∧
  (∀ (h : Hdr) (p : Bytes) (s : State), Accepted opStop h p 0 s →
    let f := rd p 0 2
    let b := atBody s h
    let ans (t : State) : Prop := exec (.stop h p) s = .next (settle (replied h 0x0109 p (okAns t)))
    (s.st f = .off ∨ s.st f = .config → ans b) ∧
    (s.st f = .stopping → (s.fn f).pend = none → ans b) ∧
    (∀ c, s.st f = .stopping → (s.fn f).pend = some c →
      ans (emitTo (b.setFn f { s.fn f with pend := none }) (some c) false none 0x0102 f (b1 stWrongState ++ zeros 3))) ∧
    let here := h.ep = .can2 ∧ f = canFid 2 ∧ s.st f = .running
    (s.st f = .starting ∨ s.st f = .running ∨ s.st f = .faulted → ¬ here → ans (fnStop f b)) ∧
    (here → ans (canLeft { b with net := { b.net with stopAt := some (s.mono, h.session, h.seq) } } 2)))

/-- RESET_CORE makes a processor-complex reset due with cause 2, or leaves one that is due as it is; SAVE_SETTINGS stores the staged configuration and the
auto-start flag of the function in any state; LOG_ERASE empties the service log with area 1, the
captures with area 2, and both with area 3. -/
def Obligations.ResetSaveErase : Prop :=
  (∀ (h : Hdr) (p : Bytes) (s : State), Accepted opResetCore h p 0 s →
    exec (.resetCore h p) s = .next (replied h 0x010B p (okAns
      { atBody s h with boot := { s.boot with coreDue := some (s.boot.coreDue.getD 2) } }))) ∧
  (∀ (h : Hdr) (p : Bytes) (s : State), Accepted opSaveSettings h p 0 s →
    exec (.saveSettings h p) s = .next (replied h 0x010E p (okAns
      { atBody s h with
        stored := copyCfg s.staged s.stored (rd p 0 2)
        autoStart := tput s.autoStart (rd p 0 2) ((byteAt p 2).testBit 0) }))) ∧
  (∀ (h : Hdr) (p : Bytes) (s : State), Accepted opLogErase h p 0 s →
    let b := atBody s h
    let bare : State := { b with net := { b.net with slog := [] } }
    (byteAt p 0 = 1 → exec (.logErase h p) s = .next (replied h 0x010F p (okAns bare))) ∧
    (byteAt p 0 = 2 → exec (.logErase h p) s = .next (replied h 0x010F p (okAns (pipErase b)))) ∧
    (byteAt p 0 = 3 → exec (.logErase h p) s = .next (replied h 0x010F p (okAns (pipErase bare)))))

/-- READ_MEM answers the bytes of the range, ascending, with no effect; a DRAM read that meets an uncorrectable error is
INTERNAL, and FSRC12 is raised, with the address and the reading pair captured, and returns. WRITE_MEM writes exactly
the bytes of its range (registers of the windows are read-only, 00 Table 0.5); every other byte of memory reads as
before. Bytes of the module's register windows, of the image in NOR, and of memory. -/
def Obligations.MemoryCommands : Prop :=
  (∀ (h : Hdr) (p : Bytes) (s : State) (ecc : Bool), Accepted (opReadMem ecc) h p (rd p 10 2) s →
    (ecc = false ∨ rd p 0 8 < 0x100000000 →
      exec (.readMem h p ecc) s = .next (settle (replied h 0x010C p (okWith (atBody s h)
        ((List.range (rd p 10 2)).map fun i => busByte (atBody s h) (rd p 0 8 + i))))))) ∧
  (∀ (h : Hdr) (p : Bytes) (s : State), Accepted (opReadMem true) h p 0 s → 0x100000000 ≤ rd p 0 8 →
    let reader := ((List.range 4).find? fun i => decide ((s.pair i).role = .active)).getD 0 + 1
    exec (.readMem h p true) s = .next (settle (replied h 0x010C p (failAns
      (returnSrc (raiseEnc (atBody s h) 12 2 (rd p 0 8 % 2 ^ 32) (reader, 1, rd p 0 8)) 12) stInternal 0)))) ∧
  (∀ (h : Hdr) (p : Bytes) (s : State), Accepted opWriteMem h p 0 s →
    let registers := 0x40000000 ≤ rd p 0 8 ∧ rd p 0 8 < 0x40E00000
    let b := atBody s h
    let t := replied h 0x010D p (okAns
      (if registers then b else { b with mem := memWrite s.mem (rd p 0 8) (slice p 12 (rd p 10 2)) }))
    exec (.writeMem h p) s = .next t ∧
    (MemInv s → ∀ a, memGet t.mem a =
      if ¬ registers ∧ rd p 0 8 ≤ a ∧ a < rd p 0 8 + rd p 10 2 then p.getD (12 + (a - rd p 0 8)) 0#8
      else memGet s.mem a)) ∧
  (∀ (s : State) (a : Nat),
    (0x40000000 ≤ a → a < 0x40E00000 → busByte s a = regByte s a) ∧
    (0x81000000 ≤ a → a < 0x91000000 → busByte s a = (norImage s).getD (a - 0x81000000) 0xFF#8) ∧
    (a < 0x40000000 ∨ (0x40E00000 ≤ a ∧ a < 0x81000000) ∨ 0x91000000 ≤ a → busByte s a = memGet s.mem a))

/-! ## Resets, power-up and the restart (chapter 01) -/

/-- What power-on reset and RESET_N leave (Table 1.10): the tick at zero, every function OFF, no session and no token,
SRAM and DRAM as if never written; MRAM and what it holds (stored settings, auto-start flags, the session counter) and
the fault log keep what they had. The queue is the model's and stays. RESET_N, REFCLK and the feeds: a low pulse
shorter than 1 µs is ignored; one of 2 µs or more resets; one between either resets the whole module or does nothing;
none is seen in OFF; a lost clock resets, but is not monitored in OFF (15 R500); so does a hold-up store that has given
all it held with no logic feed back, unless the keep-alive rail keeps CALM or OFF (02 R58, R59); power-up begins when
RESET_N is high, the clock runs and a logic feed is in range, and not before. -/
def Obligations.Resets : Prop :=
  (∀ (phase : Nat) (bench : Bool) (s : State),
    let t := powerReset phase bench s
    t.mono = 0 ∧ t.boot.phase = phase ∧ t.boot.bench = bench ∧ (∀ f, t.st f = .off ∧ (t.fn f).everApplied = false) ∧
    t.net.sessions = [] ∧ t.net.token = none ∧ t.tst.unlock = none ∧ t.tst.slots = [] ∧
    t.stored = s.stored ∧ t.autoStart = s.autoStart ∧ t.net.counter = s.net.counter ∧ t.fcr.flog = s.fcr.flog ∧
    (∀ a, a < 2 ^ 48 →
      memGet t.mem a = if 0x60000000 ≤ a ∧ a ≤ 0x60FFFFFF then memGet s.mem a else memDefault a) ∧
    t.pending = s.pending) ∧
  (∀ (b : Bool) (s : State),
    let ready := s.boot.resetLow = false ∧ s.boot.refclk = true ∧ (s.boot.feedA = true ∨ s.boot.feedB = true)
    (ready → exec (.powerOnReset b) s = .next (settle (powerReset 1 b s))) ∧
    (¬ ready → exec (.powerOnReset b) s = .next (settle s))) ∧
  (∀ (ns : Nat) (s : State), ns < 1000 ∨ s.pwr.state = 5 → exec (.resetNFall ns) s = .next (settle s)) ∧
  (∀ (ns : Nat) (s : State), 2000 ≤ ns → s.pwr.state ≠ 5 → exec (.resetNFall ns) s =
    .next (settle (powerReset 0 false { s with boot := { s.boot with resetLow := true } }))) ∧
  (∀ (ns : Nat) (s : State), 1000 ≤ ns → ns < 2000 → s.pwr.state ≠ 5 →
    exec (.resetNFall ns) s = .next (settle { s with nonce := s.nonce + 1 }) ∨
    exec (.resetNFall ns) s = .next (settle (powerReset 0 false
      { s with nonce := s.nonce + 1, boot := { s.boot with resetLow := true } }))) ∧
  (∀ (b : Bool) (s : State),
    let high : State := { s with boot := { s.boot with resetLow := false } }
    let fed := s.boot.refclk = true ∧ (s.boot.feedA = true ∨ s.boot.feedB = true)
    (s.boot.resetLow = true → fed → exec (.resetNRise b) s = .next (settle (powerReset 1 b high))) ∧
    (s.boot.resetLow = true → ¬ fed → exec (.resetNRise b) s = .next (settle high)) ∧
    (s.boot.resetLow = false → exec (.resetNRise b) s = .next (settle s))) ∧
  (∀ s : State, let lost : State := { s with boot := { s.boot with refclk := false } }
    (s.pwr.state ≠ 5 → exec .refclkLoss s = .next (settle (powerReset 0 false lost))) ∧
    (s.pwr.state = 5 → exec .refclkLoss s = .next (settle lost))) ∧
  (∀ (b : Bool) (s : State), s.boot.refclk = false →
    let back : State := { s with boot := { s.boot with refclk := true } }
    let ready := s.boot.resetLow = false ∧ (s.boot.feedA = true ∨ s.boot.feedB = true) ∧ s.pwr.state ≠ 5
    (ready → exec (.refclkReturn b) s = .next (settle (powerReset 1 b back))) ∧
    (¬ ready → exec (.refclkReturn b) s = .next (settle back))) ∧
  (∀ s : State,
    let empty := s.boot.logicLow = true ∧ fLe (storeNow s) f0 = true ∧ ¬ (3 ≤ s.pwr.state ∧ s.boot.keepAlive = true)
    (empty → exec .holdupStoreExhausted s =
      .next (settle (powerReset 0 false { s with boot := { s.boot with storeEmpty := true, store := f0 } }))) ∧
    (¬ empty → exec .holdupStoreExhausted s = .next (settle s)))

/-- Events 2 to 6 of Table 1.12 and the check of R46: each takes the sequence to its next event. At event 2 the tick and
the epoch start, and the stored severities and threshold come into force; at event 3 the loader runs if its CRC-32C is
right, and its region is write-protected; at event 4 an update in progress holds the sequence; at event 6 a NOR image that verifies is copied
to DRAM, else a verified staging copy is written again, else the loader serves Baline and FSRC14 is raised; the check
of R46 goes on from event 6 where the copy in DRAM matches the header in NOR, else from event 5. Roles at event 7
(R43): a failing pair is FENCED, the first three passing pairs that are not dead-marked are ACTIVE, every other passing
pair is SPARE; each pair takes its role, and service is limited with fewer than three ACTIVE. -/
def Obligations.PowerUp : Prop :=
  (∀ s : State, s.boot.phase = 1 → exec .pllsLocked s = .next (settle (resample { s.phase 2 with
    mono := 0
    fcr := { s.fcr with
      sev := s.fcr.sevStored, threshold := s.fcr.thresholdStored.getD 2, epoch := 1, winStart := 0 } }))) ∧
  (∀ s : State, s.boot.phase = 2 → s.pwr.state ≤ 1 →
    exec (.loaderStart true) s = .next { s.phase 3 with upd := { s.upd with wp := true } } ∧
    exec (.loaderStart false) s = .next s) ∧
  (∀ s : State, s.boot.phase = 3 → s.boot.afterCore = false →
    (updating s = false → exec .updateJournalRead s = .next (s.phase 4)) ∧
    (updating s = true → ∃ t, exec .updateJournalRead s = .next t ∧ t.boot.phase = 4 ∧ t.boot.resumed = true ∧
      t.upd.busy = some s.mono)) ∧
  (∀ s : State, s.boot.phase = 4 → s.boot.resumed = false → exec .dramTrained s = .next (s.phase 5)) ∧
  (∀ s : State, s.boot.phase = 5 → s.boot.loaderServes = false →
    let good := imageOk (norImage s) = true ∧ s.upd.journal ≠ 4
    let spare := imageOk (s.upd.header ++ s.upd.staging) = true ∧ s.upd.journal ≠ 4
    (good → ∃ u, exec .firmwareImageVerified s = .next (settle u) ∧ u.boot.phase = 6 ∧ u.boot.image = norImage s) ∧
    (¬ good → spare → ∃ u, exec .firmwareImageVerified s = .next (settle u) ∧ u.boot.phase = 4 ∧
      u.boot.resumed = true ∧ u.upd.journal = 2 ∧ u.upd.sectors = 0) ∧
    (¬ good → ¬ spare → exec .firmwareImageVerified s =
      .next (settle (raise { s with boot := { s.boot with loaderServes := true } } 14 0)))) ∧
  (∀ s : State, s.boot.phase = 3 → s.boot.afterCore = true → s.boot.resumed = false →
    let same := s.boot.image ≠ [] ∧ Config.sha384 (bodyOf s.boot.image) = ihDigest ((norImage s).take 256)
    (same → exec .coreResetDigestCheck s = .next (s.phase 6)) ∧
    (¬ same → exec .coreResetDigestCheck s = .next { s with boot := { s.boot with phase := 5, afterCore := false } })) ∧
  (∀ (s : State) (pass : Nat → Bool),
    assignRoles s pass 3 0 = [] ∧
    (∀ n k, k < 4 → pass (3 - k) = false →
      assignRoles s pass n (k + 1) = (3 - k, .fenced, 0) :: assignRoles s pass n k) ∧
    (∀ n k, k < 4 → pass (3 - k) = true → n < 3 → (s.pair (3 - k)).dead = false →
      assignRoles s pass n (k + 1) = (3 - k, .active, n) :: assignRoles s pass (n + 1) k) ∧
    (∀ n k, k < 4 → pass (3 - k) = true → 3 ≤ n ∨ (s.pair (3 - k)).dead = true →
      assignRoles s pass n (k + 1) = (3 - k, .spare, 0) :: assignRoles s pass n k)) ∧
  (∀ (a b c d : Bool) (s : State), s.boot.phase = 6 →
    let pass (i : Nat) : Bool := match i with | 0 => a | 1 => b | 2 => c | _ => d
    ∃ u, exec (.pairRolesAssigned a b c d) s = .next (settle u) ∧ u.boot.phase = 7 ∧
      (assignRoles s pass 0 4).map (·.1) = [0, 1, 2, 3] ∧
      (∀ e ∈ assignRoles s pass 0 4, (u.pair e.1).role = e.2.1 ∧ (u.pair e.1).tag = s.fcr.epoch ∧
        (u.pair e.1).dead = (s.pair e.1).dead) ∧
      (u.boot.limited = true ↔ activePairs u < 3) ∧ (u.boot.noActive = true ↔ activePairs u = 0))

/-- Events 8 to 10: firmware runs once an ACTIVE pair exists (ALIVE toggles, both sensor supplies are on, one switched off
by its limit staying so; the panel and the antenna follow), Baline is served, and every function whose stored settings
have auto-start set is started, in ascending order; none is after CALM. A processor-complex reset that is due (R36):
every session closes and the token is free, the cause is kept and counted, an entry to a power state ends, and the
sequence goes on from the loader; the tick, memory, what is stored, the applied settings and the Ethernet ports are not
touched; with none due nothing happens. A live group with no hold running begins its hold, or with a HOLD_TIME of 0
takes its safe action at once (R37, R38); so does a live channel that no loop drives (08 R278). -/
def Obligations.FirmwareAndCoreReset : Prop :=
  (∀ s : State, s.boot.phase = 7 → 0 < activePairs s →
    ∃ v, exec .firmwareRunning s = .next (settle (panelBoot (antennaUpdate v))) ∧
    v.boot.phase = 8 ∧ v.fcr.aliveOn = true ∧ v.fcr.beat = s.mono ∧ v.boot.loaded = true ∧
    v.boot.vrefA = max s.boot.vrefA 1 ∧ v.boot.vrefB = max s.boot.vrefB 1) ∧
  (∀ s : State, s.boot.phase = 7 → activePairs s = 0 → exec .firmwareRunning s = .next (settle s)) ∧
  (∀ s : State, s.boot.phase = 8 → exec .balineServed s = .next (s.phase 9)) ∧
  (∀ s : State, s.boot.phase = 9 → s.boot.afterCalm = false → exec .autoStart s =
    .next (settle ((allFids.filter fun f => tget false s.autoStart f).foldl autoOne (s.phase 10)))) ∧
  (∀ s : State, s.boot.phase = 9 → s.boot.afterCalm = true → exec .autoStart s = .next (settle s)) ∧
  (∀ (s : State) (c : Nat), s.boot.coreDue = some c → 3 ≤ s.boot.phase →
    exec .processorComplexReset s = .next (settle (coreReset c s)) ∧
    let u := coreReset c s
    u.net.sessions = [] ∧ u.net.token = none ∧ u.mono = s.mono ∧ u.mem = s.mem ∧ u.stored = s.stored ∧
      u.applied = s.applied ∧ u.upd.journal = s.upd.journal ∧
    u.boot.phase = 3 ∧ u.boot.cause = c ∧ u.boot.coreDue = none ∧ u.boot.afterCore = true ∧
    u.boot.coreResets = min (s.boot.coreResets + 1) 0xFFFFFFFF ∧ u.pwr.entering = none ∧ u.eth.ports = s.eth.ports) ∧
  (∀ s : State, s.boot.coreDue = none → exec .processorComplexReset s = .next (settle s)) ∧
  (∀ (s : State) (g : Nat), (s.st (gFid g)).live = true → (s.grp g).hold = none →
    (gHold (s.grpCfg g) = 0 → grpCoreReset s g = grpFault s g) ∧
    (gHold (s.grpCfg g) ≠ 0 → grpCoreReset s g = s.setGrp g { s.grp g with hold := some s.mono })) ∧
  (∀ (s : State) (k : Nat), (s.st (chFid k)).live = true → (s.chan k).hold = none →
    ((lockGroup s k).isSome = true ∨ cSrc (s.chCfg k) = 0) →
    let held := s.setChan k { s.chan k with hold := some s.mono }
    (chanHoldMs held k = 0 → chanCoreReset s k = chanHoldEnd held k) ∧
    (chanHoldMs held k ≠ 0 → chanCoreReset s k = held))

/-! ## Power states, wake, supplies and budgets (chapters 02 and 15) -/

/-- PWR_SET_LATENCY sets the latency limit and the IGN action, and stores them when asked. PWR_REQUEST_STATE: RUN wakes,
during an entry by a wake that is held unless one is; while an update copies any other state is WRONG_STATE with the
detail 0xFFFD. With no update copying and no entry under way DEEPEST enters the state it selects and answers it, or
answers RUN; BREEZE, LULL, CALM and OFF are entered when every function they exclude is OFF, OFF only with IGN low,
else WRONG_STATE names the lowest such function, or 0xFFFE for IGN. (BUSY for an entry while another is under way is
the model's choice, log entry 43.) DEEPEST selects the lowest-power state whose exit latency (CALM 400 ms, LULL 20 ms,
BREEZE 50 µs) is within the limit and for which every function that is not OFF is one it admits. An entry begins by
being the one under way, and is none where the module is in that state. -/
def Obligations.PowerStates : Prop :=
  (∀ (h : Hdr) (p : Bytes) (s : State), Accepted opPwrSetLatency h p 0 s →
    let v := (rd p 0 4, byteAt p 4, rd p 6 2)
    exec (.pwrSetLatency h p) s = .next (replied h 0x0200 p (okAns { atBody s h with pwr := { s.pwr with
      latency := v.1, ignAction := v.2.1, ignDelay := v.2.2
      stored := if (byteAt p 5).testBit 0 then some v else s.pwr.stored } }))) ∧
  (∀ (h : Hdr) (p : Bytes) (s : State), Accepted opPwrRequestState h p 4 s →
    let t := byteAt p 0
    let b := atBody s h
    let ans (a : Ans) : Prop := exec (.pwrRequestState h p) s = .next (settle (replied h 0x0201 p a))
    (updating s = true → t ≠ 0 → ans (failAns b stWrongState 0xFFFD)) ∧
    (t = 0 → s.pwr.entering = none → ans (okWith (wakeNow 5 b) [0x00#8, 0x00#8, 0x00#8, 0x00#8])) ∧
    (t = 0 → (∃ x, s.pwr.entering = some x) → s.pwr.heldWake = none →
      ans (okWith { b with pwr := { s.pwr with heldWake := some 5 } } [0x00#8, 0x00#8, 0x00#8, 0x00#8])) ∧
    (t = 0 → (∃ x, s.pwr.entering = some x) → s.pwr.heldWake ≠ none →
      ans (okWith b [0x00#8, 0x00#8, 0x00#8, 0x00#8])) ∧
    (t ≠ 0 → updating s = false → (∃ x, s.pwr.entering = some x) → ans (failAns b stBusy 0)) ∧
    (t ≠ 0 → updating s = false → s.pwr.entering = none →
      (∀ n, t = 4 → deepest b = some n → ans (okWith (enter n (rd p 4 4) b) (b1 n ++ zeros 3))) ∧
      (t = 4 → deepest b = none → ans (okWith b [0x00#8, 0x00#8, 0x00#8, 0x00#8])) ∧
      (∀ f, t ≠ 0 → t ≠ 4 → lowestNotOff b (stateAdmits t) = some f → ans (failAns b stWrongState f)) ∧
      (t = 5 → lowestNotOff b (stateAdmits 5) = none → s.pwr.ign = true → ans (failAns b stWrongState 0xFFFE)) ∧
      (t ≠ 0 → t ≠ 4 → lowestNotOff b (stateAdmits t) = none → (t = 5 → s.pwr.ign = false) →
        ans (okWith (enter t (rd p 4 4) b) (b1 t ++ zeros 3))))) ∧
  (∀ s : State,
    let fits (t us : Nat) : Prop := us ≤ s.pwr.latency ∧ lowestNotOff s (stateAdmits t) = none
    (fits 3 400000 → deepest s = some 3) ∧
    (¬ fits 3 400000 → fits 2 20000 → deepest s = some 2) ∧
    (¬ fits 3 400000 → ¬ fits 2 20000 → fits 1 50 → deepest s = some 1) ∧
    (¬ fits 3 400000 → ¬ fits 2 20000 → ¬ fits 1 50 → deepest s = none) ∧
    (∀ t f, lowestNotOff s (stateAdmits t) = some f → s.st f ≠ .off ∧ stateAdmits t f = false) ∧
    (∀ t, lowestNotOff s (stateAdmits t) = none ↔ ∀ f ∈ allFids, s.st f = .off ∨ stateAdmits t f = true) ∧
    (∀ t ms, s.pwr.state ≠ t → enter t ms s =
      { s with pwr := { s.pwr with entering := some t, heldWake := none, wakeMs := ms } }) ∧
    (∀ t ms, s.pwr.state = t → enter t ms s = s))

/-- PWR_SET_BUDGET: the module's cap (20 W to 85 W), a stud's inrush allowance (25 A to 150 A) and a holder's request
(0 W to its nominal) are kept, and stored when asked; the reply is the value in force, the cap and allowance set govern
from the next window. A value out of range is BAD_PARAM; a cap below 20 W, and an allowance below what the stud's
channels need, are OVER_BUDGET. A scheduling window, once in each 100 ms: caps and allowances set since the last one
come into force, and each holder takes its step by the grants of the window; the fusion grid, if present, wants the
rate its grant allows. A holder that is granted power has it, and its balance grows by a tenth of the grant and is at
most that; one not among the grants has none and no positive balance; one whose minimum is not granted gets nothing and
is stopped, and the stop is reported, if it is a function that is STARTING, RUNNING or FAULTED. ENERGY_METER, not
within 1 ms of the last, keeps the powers measured and takes from the balance of each holder it names what it used. -/
def Obligations.Budget : Prop :=
  (∀ (h : Hdr) (p : Bytes) (s : State), Accepted opPwrSetBudget h p 4 s →
    let w := byteAt p 0
    let v := rdF p 4
    let store := (byteAt p 1).testBit 0
    let b := atBody s h
    let ans (a : Ans) : Prop := exec (.pwrSetBudget h p) s = .next (replied h 0x0202 p a)
    (w = 0 → fLt v (fOfNat 20) = true → ans (failAns b stOverBudget 0)) ∧
    (w = 0 → fLt v (fOfNat 20) = false → fLt (fOfNat 85) v = true → ans (badParam b 4)) ∧
    (w = 0 → fLt v (fOfNat 20) = false → fLt (fOfNat 85) v = false →
      ans (okWith { b with pwr := { s.pwr with
        capNext := some v, capStored := if store then some v else s.pwr.capStored } } (leF s.pwr.cap))) ∧
    let short := fLt f0 (allowMin b (w - 16)) && fLt v (allowMin b (w - 16))
    (16 ≤ w → short = true → ans (failAns b stOverBudget 0)) ∧
    (16 ≤ w → short = false → (fLt v (fOfNat 25) || fLt (fOfNat 150) v) = true → ans (badParam b 4)) ∧
    (16 ≤ w → short = false → (fLt v (fOfNat 25) || fLt (fOfNat 150) v) = false →
      ans (okWith { b with pwr := { s.pwr with
        allowNext := tput s.pwr.allowNext (w - 16) v
        allowStored := if store then tput s.pwr.allowStored (w - 16) v else s.pwr.allowStored } }
        (leF (s.stud (w - 16)).allow))) ∧
    (0 < w → w < 16 → (fLt v f0 || fLt (nominal b w) v) = true → ans (badParam b 4)) ∧
    (0 < w → w < 16 → (fLt v f0 || fLt (nominal b w) v) = false →
      ans (okWith (b.setHolder w { s.holder w with
        req := some v, reqStored := if store then some v else (s.holder w).reqStored }) (leF (s.holder w).grant)))) ∧
  (∀ s : State, fwRuns s = true → s.pwr.state ≤ 1 →
    let w := s.mono / 25000000 + 1
    let a : State := { s with pwr := { s.pwr with window := w, cap := s.pwr.capNext.getD s.pwr.cap, capNext := none } }
    let b := s.pwr.allowNext.foldl allowStep a
    let c : State := { b with pwr := { b.pwr with allowNext := [] } }
    let d := holderCodes.foldl (grantStep (grantsFor c (present c))) c
    (s.pwr.window ≠ w → exec .budgetWindow s = .next (settle (heatReport
      (if present d 1 then { d with fus := { d.fus with rateWant := rateWithin d (d.holder 1).grant } } else d)))) ∧
    (s.pwr.window = w → exec .budgetWindow s = .next (settle s))) ∧
  (∀ (s : State) (v : Nat) (x : F32), allowStep s (v, x) = admitStud (s.setStud v { s.stud v with allow := x }) v) ∧
  (∀ (l : List (Nat × Option F32)) (s : State) (h : Nat),
    (∀ g, (l.find? fun e => e.1 = h) = some (h, g) → grantStep l s h = grantTo s h g) ∧
    ((l.find? fun e => e.1 = h) = none → grantStep l s h = s.setHolder h { s.holder h with
      grant := f0, balance := fMin (s.holder h).balance f0 })) ∧
  (∀ (s : State) (h : Nat) (g : F32),
    grantTo s h (some g) = s.setHolder h { s.holder h with
      grant := g, balance := fMin (fAdd (s.holder h).balance (fDiv g (fOfNat 10))) (fDiv g (fOfNat 10)), stopped := false }) ∧
  (∀ (s : State) (h : Nat),
    let none0 : State := s.setHolder h { s.holder h with
      grant := f0, balance := fMin (fAdd (s.holder h).balance (fDiv f0 (fOfNat 10))) (fDiv f0 (fOfNat 10)) }
    (∀ f, holderFid h = some f → s.st f = .starting ∨ s.st f = .running ∨ s.st f = .faulted →
      let u := emitFault none0 0x0202 f (b1 h ++ zeros 3 ++ leF f0)
      grantTo s h none = stopAny f (u.setHolder h { u.holder h with stopped := true })) ∧
    (∀ f, holderFid h = some f → s.st f = .off ∨ s.st f = .config ∨ s.st f = .stopping →
      grantTo s h none = none0) ∧
    (holderFid h = none → grantTo s h none = none0)) ∧
  (∀ (s : State) (use : List (Nat × F32)) (a d : F32), fwRuns s = true →
    (s.mono < s.pwr.meter + 250000 → exec (.energyMeter use a d) s = .next s) ∧
    (s.pwr.meter + 250000 ≤ s.mono → ∃ u, exec (.energyMeter use a d) s = .next u ∧ u.pwr.elec = a ∧ u.pwr.diss = d ∧
      u.pwr.meter = s.mono ∧ (∀ x, (∀ e ∈ use, e.1 ≠ x) → u.holder x = s.holder x) ∧
      ∀ h e, h ∈ holderCodes → use = [(h, e)] → (u.holder h).balance = fSub (s.holder h).balance e))

/-- PWR_GET_BUDGET and PWR_STATUS change nothing of the module. The first answers the available power (the lower of the
cap and P_HEAT), P_HEAT, the cap, the mean electronics power, then for each holder of Table 15.7 its state, request,
grant, minimum, use and debt, and both studs; the second the power state, wake cause, IGN, feeds, studs, temperatures,
powers, latency and the seconds in the state. -/
def Obligations.PowerReads : Prop :=
  (∀ (h : Hdr) (p : Bytes) (s : State), Accepted opPwrGetBudget h p 380 s →
    let b := atBody s h
    exec (.pwrGetBudget h p) s = .next (replied h 0x0203 p (okWith b
      (leT s.now ++ leF (fMin s.pwr.cap s.pwr.pHeat) ++ leF s.pwr.pHeat ++ leF s.pwr.cap ++ leF (elecMean s) ++
        ([1, 2, 3, 4, 5, 8, 9, 10, 11, 12, 13, 14, 15].flatMap fun n =>
          b1 n ++ b1 (holderState b n) ++ zeros 2 ++ leF (requested b n) ++ leF (s.holder n).grant ++
            leF (minimum b n) ++ leF (useOf b n) ++ leF (debtOf b n)) ++
        ([0, 1].flatMap fun v =>
          b1 v ++ b1 (bit (s.stud v).closed 0) ++ zeros 2 ++ leF (s.stud v).allow ++ leF (allowMin b v) ++
            leF (s.stud v).meanA ++ le 4 (((s.stud v).queue.map fun e => 2 ^ e.2).foldl (· + ·) 0)))))) ∧
  (∀ (h : Hdr) (p : Bytes) (s : State), Accepted opPwrStatus h p 72 s →
    exec (.pwrStatus h p) s = .next (replied h 0x0204 p (okWith (atBody s h)
      (leT s.now ++ b1 s.pwr.state ++ b1 s.pwr.cause ++ b1 (bit s.pwr.ign 0) ++
        b1 (bit s.pwr.heat 0 + bit s.boot.feedA 1 + bit s.boot.feedB 2 + bit s.boot.kam 3) ++
        leF s.boot.vlogA ++ leF s.boot.vlogB ++ leF s.boot.vkam ++ leF (studNow s 0) ++ leF (studNow s 1) ++
        leF s.pwr.base ++ (leF (s.pwr.temps.getD 0 f0) ++ leF (s.pwr.temps.getD 1 f0) ++
          leF (s.pwr.temps.getD 2 f0) ++ leF (s.pwr.temps.getD 3 f0)) ++ leF s.pwr.elec ++ leF s.pwr.diss ++
        le 4 s.pwr.latency ++ le 4 (satN 4 ((s.mono - s.pwr.since) / 250000000))))))

/-- POWER_STATE_ENTRY_COMPLETE: the state under way is reached once the panel has finished its row; CALM and OFF leave
no session, and SRAM and DRAM as if never written in CALM; a wake held back during the entry follows. IGN_RISE, a CAN
wake pattern and the wake timer wake the module where their state listens to them (to RUN from BREEZE, LULL or CALM by
IGN; from LULL or CALM by a controller whose wake flag is set and by the timer); during an entry the first of them is
held. IGN_FALL begins the delay. Once IGN has been low for the delay, in RUN or BREEZE with firmware running, no entry
under way and no update copying, action 0 does nothing, action 1 is DEEPEST, a failed one being reported, and action 2
stops planner and guidance, then the loop groups, the fusion grid, the pipelines and GNSS, and begins a sequence that
stops the load channels once every group is OFF, and is DEEPEST once all it stopped are OFF. -/
def Obligations.PowerStateChanges : Prop :=
  (∀ (s : State) (t : Nat), s.pwr.entering = some t → t = 1 ∨ t = 2 ∨ t = 3 ∨ t = 5 → (2 ≤ t → s.pnl.run = none) →
    s.pwr.heldWake = none → ∃ u, exec .powerStateEntryComplete s = .next (settle u) ∧
      u.pwr.state = t ∧ u.pwr.entering = none ∧
      (t ≠ 5 → u.pwr.since = s.mono ∧
        u.pwr.wakeAt = if s.pwr.wakeMs = 0 then none else some (s.mono + 250000 * s.pwr.wakeMs)) ∧
      (t = 3 → u.net.sessions = [] ∧ u.boot.afterCalm = true ∧ ∀ a, a < 0x60000000 → memGet u.mem a = memDefault a) ∧
      (t = 5 → u.net.sessions = [] ∧ u.boot.phase = 0)) ∧
  (∀ (s : State) (t : Nat), s.pwr.entering = some t → 2 ≤ t → s.pnl.run ≠ none →
    exec .powerStateEntryComplete s = .next (settle s)) ∧
  (∀ (s : State) (t c : Nat), s.pwr.entering = some t → t = 1 ∨ t = 2 ∨ t = 3 ∨ t = 5 → (2 ≤ t → s.pnl.run = none) →
    s.pwr.heldWake = some c → ∃ n, exec .powerStateEntryComplete s = .next (settle (wakeNow c n)) ∧
      n.pwr.state = t ∧ n.pwr.entering = none) ∧
  (∀ s : State, s.pwr.entering = none → exec .powerStateEntryComplete s = .next (settle s)) ∧
  (∀ s : State, let i : State := { s with pwr := { s.pwr with ign := true, ignDone := true, ignSeq := 0 } }
    (s.pwr.entering = none → exec .ignRise s = .next (settle (wakeNow 1 i))) ∧
    (s.pwr.entering = none → 1 ≤ s.pwr.state → s.pwr.state ≤ 3 →
      (wakeNow 1 i).pwr.state = 0 ∧ (wakeNow 1 i).pwr.cause = 1) ∧
    (s.pwr.entering = none → s.pwr.state = 0 → wakeNow 1 i = i) ∧
    (s.pwr.entering ≠ none → s.pwr.heldWake = none → exec .ignRise s =
      .next (settle { i with pwr := { i.pwr with heldWake := some 1 } })) ∧
    (s.pwr.entering ≠ none → s.pwr.heldWake ≠ none → exec .ignRise s = .next (settle i))) ∧
  (∀ s : State,
    (s.pwr.ign = true → exec .ignFall s =
      .next { s with pwr := { s.pwr with ign := false, ignAt := s.mono, ignDone := false } }) ∧
    (s.pwr.ign = false → exec .ignFall s = .next s)) ∧
  (∀ (k : Nat) (s : State), k < 10 → nWake (s.canCfg k) = true → s.pwr.entering = some 2 ∨ s.pwr.entering = some 3 →
    s.pwr.heldWake = none →
    exec (.canWakePattern k) s = .next (settle { s with pwr := { s.pwr with heldWake := some 2 } })) ∧
  (∀ (k : Nat) (s : State), k < 10 → s.pwr.state = 2 ∨ s.pwr.state = 3 → s.pwr.entering = none →
    (nWake (s.canCfg k) = true → ∃ u, exec (.canWakePattern k) s = .next (settle u) ∧ u.pwr.state = 0 ∧
      u.pwr.cause = 2) ∧
    (nWake (s.canCfg k) = false → exec (.canWakePattern k) s = .next (settle s))) ∧
  (∀ (t : Nat) (s : State), s.pwr.wakeAt = some t → s.pwr.state = 2 ∨ s.pwr.state = 3 → s.pwr.entering = none →
    (t ≤ s.mono → ∃ u, exec .wakeTimerExpiry s = .next (settle u) ∧ u.pwr.state = 0 ∧ u.pwr.cause = 3) ∧
    (s.mono < t → exec .wakeTimerExpiry s = .next (settle s))) ∧
  (∀ s : State, s.pwr.ign = false → s.pwr.ignDone = false → s.pwr.ignAt + 250000 * s.pwr.ignDelay ≤ s.mono →
    updating s = false → fwRuns s = true → s.pwr.state ≤ 1 → s.pwr.entering = none →
    let d : State := { s with pwr := { s.pwr with ignDone := true } }
    (s.pwr.ignAction = 0 → exec .ignOffDelayExpiry s = .next (settle d)) ∧
    (∀ n, s.pwr.ignAction = 1 → deepest d = some n → exec .ignOffDelayExpiry s = .next (settle (enter n 0 d))) ∧
    (s.pwr.ignAction = 1 → deepest d = none →
      exec .ignOffDelayExpiry s = .next (settle (powerEvent d s.pwr.state 0xFF))) ∧
    (s.pwr.ignAction = 2 →
      let u := (ignFirst ++ ignRest).foldl (fun s f => stopAny f s) d
      exec .ignOffDelayExpiry s = .next (settle { u with pwr := { u.pwr with ignSeq := 1 } }))) ∧
  (∀ s : State, ¬ (s.pwr.ign = false ∧ s.pwr.ignDone = false ∧ s.pwr.ignAt + 250000 * s.pwr.ignDelay ≤ s.mono ∧
      updating s = false ∧ fwRuns s = true ∧ s.pwr.state ≤ 1 ∧ s.pwr.entering = none) →
    exec .ignOffDelayExpiry s = .next (settle s)) ∧
  ignFirst = [0x0600, 0x0601] ∧ (∀ g, g < 64 → 0x0300 + g ∈ ignRest) ∧
  (∀ s : State, s.pwr.ignSeq = 1 → (∀ g, g < 64 → (s.st (gFid g)).idle = true) → ignProgress s =
    chanFids.foldl (fun s f => stopAny f s) { s with pwr := { s.pwr with ignSeq := 2 } }) ∧
  (∀ s : State, s.pwr.ignSeq = 2 → (∀ f ∈ ignFirst ++ ignRest ++ chanFids, (s.st f).idle = true) →
    ignProgress s = ignDeepest { s with pwr := { s.pwr with ignSeq := 0 } })

/-- Supplies: a feed's row keeps its voltage and whether that is in range (a row that contradicts 6 V to 36 V does
nothing); when the feed leaves or enters its range from event 2 on, the change is reported, out of range as a fault
event and only while another feed holds (for VKAM: a logic feed), and FSRC50 shows a logic feed that is out of range. A
reference supply in limit for its time is switched off and raises FSRC52 or FSRC53; its retry after 1 s returns the
source, or waits again. BASE_TEMPERATURE_SAMPLE, from event 2 on and not in CALM or OFF: the base temperature is the
highest of the four; above 80 °C P_HEAT falls by 3 W per kelvin from 85 W, above 95 °C it is 40 W; at 100 °C or more
FSRC51 is raised with the temperature in tenths, below it returns. -/
def Obligations.SuppliesAndTemperature : Prop :=
  (∀ (s : State) (feed : Nat) (v : F32), feed ≤ 2 →
    let t : State := { s with boot :=
      let b := storeStep (s.boot.feedTo feed v) s
      { b with storeEmpty := b.storeEmpty && !(b.feedA || b.feedB) } }
    let r := feedInRange v
    (∀ x, x ≠ r → exec (.logicFeedRangeChange feed x v) s = .next (settle s)) ∧
    (s.boot.phase < 2 ∨ s.boot.fed feed = r → exec (.logicFeedRangeChange feed r v) s = .next (settle t)) ∧
    (2 ≤ s.boot.phase → s.boot.fed feed ≠ r →
      exec (.logicFeedRangeChange feed r v) s = .next (settle (feedReport feed r v t)))) ∧
  (∀ v : F32, feedInRange v = (fLe (fOfNat 6) v && fLe v (fOfNat 36))) ∧
  (∀ (s : State) (feed : Nat) (v : F32),
    let data (x : Nat) := b1 feed ++ b1 x ++ zeros 2 ++ leF v
    let shown (t : State) : State :=
      if feed = 2 then t
      else if (t.boot.feedA && t.boot.feedB) = true then returnSrc t 50
      else raise t 50 (if t.boot.feedA then 2 else 1)
    feedReport feed true v s = shown (emit s 0x0205 0xFFFF (data 1)) ∧
    (s.boot.fedElse feed = true → feedReport feed false v s = shown (emitFault s 0x0205 0xFFFF (data 0))) ∧
    (s.boot.fedElse feed = false → feedReport feed false v s = shown s)) ∧
  (∀ s : State,
    (s.boot.vrefA = 1 → exec (.vref5LimitTimeout 0) s =
      .next (settle (raise { s with boot := { s.boot with vrefA := 2, vrefAt := s.mono } } 52 0))) ∧
    (s.boot.vrefB = 1 → exec (.vref5LimitTimeout 1) s =
      .next (settle (raise { s with boot := { s.boot with vrefB := 2, vrefBt := s.mono } } 53 0))) ∧
    (s.boot.vrefA = 2 → s.boot.vrefAt + 250000000 ≤ s.mono →
      exec (.vref5Retry 0 true) s = .next (settle (returnSrc { s with boot := { s.boot with vrefA := 1 } } 52)) ∧
      exec (.vref5Retry 0 false) s = .next (settle { s with boot := { s.boot with vrefAt := s.mono } })) ∧
    (s.boot.vrefB = 2 → s.boot.vrefBt + 250000000 ≤ s.mono →
      exec (.vref5Retry 1 true) s = .next (settle (returnSrc { s with boot := { s.boot with vrefB := 1 } } 53)) ∧
      exec (.vref5Retry 1 false) s = .next (settle { s with boot := { s.boot with vrefBt := s.mono } }))) ∧
  (∀ (a b c d : F32) (s : State),
    let base := fMax (fMax a b) (fMax c d)
    let u := heatReport { s with pwr := { s.pwr with
      temps := [a, b, c, d], base := base, pHeat := pHeatAt base, heat := fLt (fOfNat 80) base } }
    (s.boot.phase < 2 ∨ 3 ≤ s.pwr.state → exec (.baseTemperatureSample a b c d) s = .next (settle s)) ∧
    (2 ≤ s.boot.phase → s.pwr.state < 3 → fLe (fOfNat 100) base = true →
      exec (.baseTemperatureSample a b c d) s =
        .next (settle (raise u 51 (fToInt (fMul base (fOfNat 10))).toNat))) ∧
    (2 ≤ s.boot.phase → s.pwr.state < 3 → fLe (fOfNat 100) base = false →
      exec (.baseTemperatureSample a b c d) s = .next (settle (returnSrc u 51)))) ∧
  (∀ t : F32,
    (fLt (fOfNat 95) t = true → pHeatAt t = fOfNat 40) ∧
    (fLt (fOfNat 95) t = false → fLt (fOfNat 80) t = true →
      pHeatAt t = fSub (fOfNat 85) (fMul (fOfNat 3) (fSub t (fOfNat 80)))) ∧
    (fLt (fOfNat 95) t = false → fLt (fOfNat 80) t = false → pHeatAt t = fOfNat 85))

/-! ## What reaches the transports (chapter 03) -/

/-- A command with an undefined opcode that passes steps 1 to 6 is answered BAD_OPCODE; one whose opcode is defined is
no such row. A packet that fails step 1 or 2 is counted and not answered; a datagram to the Baline port of P1 to P8 is
counted; P0 answers a neighbour solicitation for its own address and every echo. ISO-TP on CAN2: a single frame is a
message; a first frame is answered with flow control (0x30, block size 0, STmin 0), or with overflow where its length
is the escape; a consecutive frame in order is kept, and completes the message once all of it is there; one out of
order ends it; the host's flow control lets a message that waits for it go on, by its block size and STmin, begin its
wait again, or end; the host's next frame missing for 1 s ends reception, its flow control missing for 1 s the message
being sent. A session that has heard nothing for its keep-alive time closes with cause 2; records that wait behind a
full queue enter it; the waiting service-log entries are written by the diagnostics holder, which needs a balance. -/
def Obligations.Transport : Prop :=
  (∀ (h : Hdr) (code : Nat) (p : Bytes) (s : State) (x : Session), opcodeListed code = false → h.taken = false →
    served s h.ep = true → reached s h code p = true → h.flags % 4 = 0 → h.version = 1 → h.session ≠ 0 →
    16 + p.length ≤ packetMax s h → boundSession s h = some x → repeated s x h = none →
    (outstanding s h.session).length < 16 →
    exec (.undefinedOpcode h code p) s = .next (answer (heard s h) h code stBadOpcode 0 [])) ∧
  (∀ (h : Hdr) (code : Nat) (p : Bytes) (s : State), opcodeListed code = true →
    exec (.undefinedOpcode h code p) s = .next s) ∧
  (∀ (ep : Endpoint) (raw : Bytes) (s : State), served s ep = true →
    (ep = .can2 → s.net.isoMsg.head? = some raw) →
    (packetGood s ep raw = false → exec (.balinePacketDiscarded ep raw) s =
      .next { unbox s ep with net := { (unbox s ep).net with discarded := s.net.discarded + 1 } }) ∧
    (packetGood s ep raw = true → exec (.balinePacketDiscarded ep raw) s = .next s) ∧
    (rd raw 0 2 ≠ 0x4B46 ∨ raw.length ≠ 16 + rd raw 10 2 ∨ byteAt raw 3 % 4 ≠ 0 ∨
      (crc32c (raw.take (12 + rd raw 10 2))).toNat ≠ rd raw (12 + rd raw 10 2) 4 → packetGood s ep raw = false)) ∧
  (∀ (k : Nat) (s : State), 1 ≤ k → k ≤ 8 → fwRuns s = true → s.pwr.state ≤ 1 →
    exec (.balinePortMismatchDrop k) s = .next { s with net := { s.net with mismatch := s.net.mismatch + 1 } }) ∧
  (∀ (src : Nat) (s : State), p0Answers s = true →
    exec (.neighbourDiscovery src ownAddress.toNat) s =
      .next { s with sent := .neighbour src ownAddress.toNat :: s.sent } ∧
    ∀ t, t ≠ ownAddress.toNat → exec (.neighbourDiscovery src t) s = .next s) ∧
  (∀ (src ident seq : Nat) (data : Bytes) (s : State), p0Answers s = true →
    exec (.icmpv6Echo src ident seq data) s = .next { s with sent := .echo src ident seq data :: s.sent }) ∧
  (∀ s : State, served s .can2 = true →
    let whole (m : Bytes) : State := { s with net := { s.net with isoRx := none, isoMsg := s.net.isoMsg ++ [m] } }
    let rx (r : Option IsoRx) : State := { s with net := { s.net with isoRx := r } }
    (∀ d, 1 ≤ byteAt d 0 → byteAt d 0 ≤ 7 →
      exec (.isotpFrameReceived 0x7A0 d) s = .next (whole (slice d 1 (byteAt d 0)))) ∧
    (∀ d, byteAt d 0 = 0 → 8 < d.length →
      exec (.isotpFrameReceived 0x7A0 d) s = .next (whole (slice d 2 (byteAt d 1)))) ∧
    (∀ d, byteAt d 0 / 16 = 1 → byteAt d 0 % 16 * 256 + byteAt d 1 ≠ 0 → exec (.isotpFrameReceived 0x7A0 d) s =
      .next (isoSend (rx (some { need := byteAt d 0 % 16 * 256 + byteAt d 1, got := d.drop 2, next := 1, last := s.mono }))
        0x7A1 [0x30#8, 0x00#8, 0x00#8])) ∧
    (∀ d, byteAt d 0 = 0x10 → byteAt d 1 = 0 → exec (.isotpFrameReceived 0x7A0 d) s =
      .next (isoSend s 0x7A1 [0x32#8, 0x00#8, 0x00#8])) ∧
    (∀ d r, s.net.isoRx = some r → byteAt d 0 = 0x20 + r.next % 16 →
      let got := r.got ++ d.drop 1
      (r.need ≤ got.length → exec (.isotpFrameReceived 0x7A0 d) s = .next (whole (got.take r.need))) ∧
      (got.length < r.need → exec (.isotpFrameReceived 0x7A0 d) s =
        .next (rx (some { r with got := got, next := r.next + 1, last := s.mono })))) ∧
    (∀ d r, s.net.isoRx = some r → byteAt d 0 / 16 = 2 → byteAt d 0 % 16 ≠ r.next % 16 →
      exec (.isotpFrameReceived 0x7A0 d) s = .next (rx none)) ∧
    (∀ id d t, id = 0x7A0 ∧ t.id = 0x7A1 ∨ id = 0x7A3 ∧ t.id = 0x7A2 → s.net.isoTx = [t] → t.begun = true →
      t.waiting = true →
      let tx (l : List IsoTx) : State := { s with net := { s.net with isoTx := l } }
      let go : IsoTx := { t with waiting := false, left := if byteAt d 1 = 0 then none else some (byteAt d 1),
                                 gap := gapTicks (byteAt d 2), due := s.mono }
      (byteAt d 0 = 0x30 → exec (.isotpFrameReceived id d) s = .next (tx [go])) ∧
      (byteAt d 0 = 0x31 → exec (.isotpFrameReceived id d) s = .next (tx [{ t with since := s.mono }])) ∧
      (byteAt d 0 = 0x32 → exec (.isotpFrameReceived id d) s = .next (tx []))) ∧
    (∀ r, s.net.isoRx = some r → r.last + 250000000 ≤ s.mono →
      exec (.isotpTimeout false) s = .next (rx none)) ∧
    (∀ t, s.net.isoTx = [t] → t.begun = true → t.waiting = true → t.since + 250000000 ≤ s.mono →
      exec (.isotpTimeout true) s = .next { s with net := { s.net with isoTx := [] } })) ∧
  (∀ (n : Nat) (s : State) (x : Session), session s n = some x → x.last + 250000 * x.keepMs ≤ s.mono →
    exec (.sessionKeepaliveTimeout n) s = .next (settle (closeSession s n 2))) ∧
  (∀ (n : Nat) (s : State) (x : Session), session s n = some x → s.mono < x.last + 250000 * x.keepMs →
    exec (.sessionKeepaliveTimeout n) s = .next (settle s)) ∧
  (∀ (s : State), fwRuns s = true → mayWork s 5 = false → exec .serviceLogWrite s = .next s) ∧
  (∀ (n : Nat) (s : State), exec (.faultLogEntryQueued n) s =
    .next (mapSession s n fun x => { x with streams := x.streams.map Stream.refill })) ∧
  (∀ (s : State), fwRuns s = true → mayWork s 5 = true → s.net.swait ≠ [] →
    ∃ u, exec .serviceLogWrite s = .next u ∧ u.net.swait = [] ∧ u.net.slogLost = 0 ∧
      u.net.slogNext = (s.net.slogNext + s.net.swait.length) % 2 ^ 32 ∧ u.net.sessions = s.net.sessions ∧ u.fcr = s.fcr)

/-! ## Configuration opcodes (chapters 01, 04, 05, 07 to 13, 16) -/

/-- Every configuration opcode of a function is staged while the functions it names are OFF or CONFIG, and they are then
in CONFIG; else it is WRONG_STATE and changes nothing; the latest CAN value of a loop or CV configured anew is discarded. The channel mask of a group may not name a channel of another
group's mask. Entering CONFIG powers a camera and the antenna where their settings ask for it. -/
def Obligations.ConfigurationCommands : Prop :=
  (∀ (s : State) (f : Nat), (s.st f = .off → (markConfig s f).st f = .config) ∧ (s.st f ≠ .off → markConfig s f = s)) ∧
  (∀ (h : Hdr) (p : Bytes) (s : State), Accepted opLoopConfig h p 0 s →
    Configures (.loopConfig h p) opLoopConfig h p (groupFids (s.stg (.loop (dLoop p))) ++ groupFids p)
      (fun t => { t.setStg (.loop (dLoop p)) p with cle := { t.cle with canIn := tdel t.cle.canIn (dLoop p) } }) id s) ∧
  (∀ (h : Hdr) (p : Bytes) (s : State), Accepted opGroupConfig h p 0 s →
    let g := byteAt p 0
    let taken := ∃ x, x < 64 ∧ x ≠ g ∧ (gMask (s.stg (.group x)) ||| gMask (s.app (.group x))) &&& gMask p ≠ 0
    (taken → exec (.groupConfig h p) s = .next (settle (replied h 0x0402 p (badParam (atBody s h) 8)))) ∧
    (¬ taken → Configures (.groupConfig h p) opGroupConfig h p
      (gFid g :: (maskChans (gMask (s.stg (.group g)) ||| gMask p)).map chFid) (·.setStg (.group g) p) id s)) ∧
  (∀ (h : Hdr) (p : Bytes) (s : State), Accepted (opLswConfig s) h p 0 s →
    Configures (.lswConfig h p) (opLswConfig s) h p [chFid (byteAt p 0)] (fun t =>
      if cMode (s.stg (.chan (byteAt p 0))) = cMode p then t.setStg (.chan (byteAt p 0)) p
      else (t.setStg (.chan (byteAt p 0)) p).setChan (byteAt p 0) { s.chan (byteAt p 0) with host := f0 }) id s) ∧
  (∀ (h : Hdr) (p : Bytes) (s : State), Accepted opPlannerModel h p 0 s →
    Configures (.plannerModel h p) opPlannerModel h p [plannerFid] (fun t =>
      if byteAt p 0 = 0 then t.setStg .planFeed p
      else if byteAt p 0 = 1 then t.setStg (.planMv (byteAt p 1)) p
      else { t.setStg (.planCv (byteAt p 1)) p with
        planner := { t.planner with cvCan := tdel t.planner.cvCan (byteAt p 1) } }) id s) ∧
  (∀ (h : Hdr) (p : Bytes) (s : State), Accepted opPspMap h p 0 s →
    Configures (.pspMap h p) opPspMap h p [plannerFid] (fun t => (mapEntries p).foldl (fun u d =>
      (u.setStg (.planMap (pmPsp d)) d).setStg (.planMap (64 + pmPsp d))
        (if 1 < ((mapEntries p).filter fun e => pmPsp e = pmPsp d).length then d else [])) t) id s) ∧
  (∀ (h : Hdr) (p : Bytes) (s : State), Accepted opGuidanceConfig h p 0 s →
    Configures (.guidanceConfig h p) opGuidanceConfig h p [guidFid] (·.setStg .guidance p) id s) ∧
  (∀ (h : Hdr) (p : Bytes) (s : State), Accepted opPoseSource h p 0 s →
    Configures (.poseSource h p) opPoseSource h p [guidFid] (·.setStg .pose p) id s) ∧
  (∀ (h : Hdr) (p : Bytes) (s : State), Accepted opFusConfig h p 0 s → byteAt p 0 ≠ 0 →
    Configures (.fusConfig h p) opFusConfig h p [fusFid]
      (·.setStg (if byteAt p 0 = 1 then .fusGrid else .fusCam (byteAt p 1)) p) id s) ∧
  (∀ (h : Hdr) (p : Bytes) (s : State), Accepted opFusPointStream h p 0 s →
    Configures (.fusPointStream h p) opFusPointStream h p [fusFid] (·.setStg (.fusStream (byteAt p 0)) p) id s) ∧
  (∀ (h : Hdr) (p : Bytes) (s : State), Accepted opPipeConfig h p 0 s →
    Configures (.pipeConfig h p) opPipeConfig h p [pipeFid (byteAt p 0)] (·.setStg (.pipe (byteAt p 0)) p)
      (pipeConfigured · (byteAt p 0)) s) ∧
  (∀ (h : Hdr) (p : Bytes) (s : State), Accepted opGnssConfig h p 0 s →
    Configures (.gnssConfig h p) opGnssConfig h p [gnssFid] (·.setStg .gnss p) antennaUpdate s) ∧
  (∀ (h : Hdr) (p : Bytes) (s : State), Accepted opTdConfig h p 0 s →
    Configures (.tdConfig h p) opTdConfig h p [tdFid (byteAt p 0)] (·.setStg (.td (byteAt p 0)) p) id s) ∧
  (∀ (h : Hdr) (p : Bytes) (s : State), Accepted opCanConfig h p 0 s →
    Configures (.canConfig h p) opCanConfig h p [canFid (byteAt p 0)] (·.setStg (.can (byteAt p 0)) p) id s) ∧
  (∀ (h : Hdr) (p : Bytes) (s : State), Accepted opCanFilter h p 0 s →
    Configures (.canFilter h p) opCanFilter h p [canFid (byteAt p 0)] (fun t => (List.range (byteAt p 2)).foldl
      (fun u i => u.setStg (.canFilter (byteAt p 0) (byteAt p 1 + i)) (slice p (4 + 20 * i) 20)) t) id s) ∧
  (∀ (h : Hdr) (p : Bytes) (s : State), Accepted opPanelConfig h p 0 s →
    Configures (.panelConfig h p) opPanelConfig h p [panelFid] (·.setStg .panel p) id s)

/-! ## Loops, groups and tables (chapters 04 and 05) -/

/-- LOOP_READ answers a loop's staged descriptor, or its applied one, WRONG_STATE where no group's applied
configuration holds it. GROUP_READ answers a group's staged or applied settings with the number of its loops and their
evaluations, WRONG_STATE where nothing has been applied. LOOP_STATUS, CLE_CAPACITY and TABLE_READ answer what stands;
none of the five changes anything. LOOP_SET_REFERENCE and LOOP_SET_FEEDFORWARD store the host values of every loop
named, in every state, and end the hold of the loops' groups; a loop named twice, or one whose type is not host staged
or applied, is BAD_PARAM at the first such entry, with nothing stored. TABLE_WRITE: a table named by a loop of a group
that is not OFF or CONFIG is not written (WRONG_STATE); kind 0 empties the slot; a first block begins the table with its
header; a later one needs a table begun and not loaded, and the same header; a block's entries are written; a last
block that leaves entries unwritten is TABLE_INCOMPLETE with the first of them, its entries written; a complete one
is loaded, and stored where asked. (That a loop staged out of its group is still answered, and that kind 0 keeps no X0,
is the model's choice, log entry 57.) -/
def Obligations.LoopCommands : Prop :=
  (∀ (h : Hdr) (p : Bytes) (s : State),
    let n := rd p 0 2
    let ans (a : Ans) : Prop := exec (.loopRead h p) s = .next (replied h 0x0301 p a)
    (byteAt p 2 = 0 → Accepted opLoopRead h p (s.stg (.loop n)).length s →
      ans (okWith (atBody s h) (s.stg (.loop n)))) ∧
    (byteAt p 2 = 1 → (∃ g, appGroup s n = some g) → Accepted opLoopRead h p (s.loopCfg n).length s →
      ans (okWith (atBody s h) (s.loopCfg n))) ∧
    (byteAt p 2 = 1 → appGroup s n = none → Accepted opLoopRead h p 0 s →
      ans (failAns (atBody s h) stWrongState 0))) ∧
  (∀ (h : Hdr) (p : Bytes) (s : State),
    let g := byteAt p 0
    let ans (a : Ans) : Prop := exec (.groupRead h p) s = .next (replied h 0x0403 p a)
    let data (d : Bytes) (l : List (Nat × Bytes)) : Bytes := d ++ le 2 l.length ++ zeros 2 ++ le 4 (evalsOf l)
    (byteAt p 1 = 0 → Accepted opGroupRead h p (8 + (s.stg (.group g)).length) s →
      ans (okWith (atBody s h) (data (s.stg (.group g)) (stgLoops s g)))) ∧
    (byteAt p 1 = 1 → (s.fn (gFid g)).everApplied = true → Accepted opGroupRead h p (8 + (s.grpCfg g).length) s →
      ans (okWith (atBody s h) (data (s.grpCfg g) ((grpLoops s g).map fun n => (n, s.loopCfg n))))) ∧
    (byteAt p 1 = 1 → (s.fn (gFid g)).everApplied = false → Accepted opGroupRead h p 0 s →
      ans (failAns (atBody s h) stWrongState 0))) ∧
  (∀ (h : Hdr) (p : Bytes) (s : State), Accepted opLoopStatus h p (12 + 28 * rd p 2 2) s →
    exec (.loopStatus h p) s = .next (replied h 0x0304 p (okWith (atBody s h)
      (leT s.now ++ (List.range (rd p 2 2)).flatMap fun i =>
        let n := rd p 0 2 + i
        let l := s.loop n
        le 2 n ++ b1 l.st ++ b1 l.flags ++ leF l.y ++ leF l.r ++ leF l.u ++ leF l.acc ++ le 4 l.inv ++ le 4 l.miss)))) ∧
  (∀ (h : Hdr) (p : Bytes) (s : State), Accepted opCleCapacity h p 24 s →
    exec (.cleCapacity h p) s = .next (replied h 0x0305 p (okWith (atBody s h)
      (le 4 (evalsUsed s) ++ le 4 (6400000 - evalsUsed s) ++
        ([0, 1, 2, 3, 4].flatMap fun c =>
          le 2 ((appLoops s (grpCounts s) 64).filter fun e => dRate e.2 = c).length) ++ zeros 2 ++
        le 4 (marginNow s))))) ∧
  (∀ (h : Hdr) (p : Bytes) (s : State), Accepted opTableRead h p (20 + 4 * rd p 4 2) s →
    let t := s.slot (rd p 0 2)
    let v := imageVals t.entries 256
    exec (.tableRead h p) s = .next (replied h 0x0401 p (okWith (atBody s h)
      (b1 t.kind ++ b1 (bit t.loaded 0 + bit (tfind s.cle.slotsStored (rd p 0 2)).isSome 1 + bit t.periodic 2) ++
        zeros 2 ++ leF t.x0 ++ leF t.span ++ leF t.hyst ++ le 4 (crc32c (v.flatMap leF)).toNat ++
        ((v.drop (rd p 2 2)).take (rd p 4 2)).flatMap leF)))) ∧
  (∀ (h : Hdr) (p : Bytes) (s : State),
    let b := atBody s h
    let e := setEntries p
    (Accepted opLoopSetReference h p 0 s →
      (∀ o, setBad s (fun d => dRefType d = 0) p = some o →
        exec (.loopSetReference h p) s = .next (replied h 0x0302 p (badParam b o))) ∧
      (setBad s (fun d => dRefType d = 0) p = none → exec (.loopSetReference h p) s = .next (replied h 0x0302 p (okAns
        (e.foldl (fun t x => holdWritten t x.1) { b with cle := { s.cle with
          hostRef := e.foldl (fun t x => tput t x.1 x.2) s.cle.hostRef } }))))) ∧
    (Accepted opLoopSetFeedforward h p 0 s →
      (∀ o, setBad s (fun d => dFfType d = 1) p = some o →
        exec (.loopSetFeedforward h p) s = .next (replied h 0x0303 p (badParam b o))) ∧
      (setBad s (fun d => dFfType d = 1) p = none → exec (.loopSetFeedforward h p) s = .next (replied h 0x0303 p (okAns
        (e.foldl (fun t x => holdWritten t x.1) { b with cle := { s.cle with
          hostFf := e.foldl (fun t x => tput t x.1 x.2) s.cle.hostFf } })))))) ∧
  (∀ (s : State) (isHost : Bytes → Bool) (p : Bytes),
    let name (i : Nat) : Nat := rd p (4 + 8 * i) 2
    let bad (i : Nat) : Prop := (∃ j, j < i ∧ name j = name i) ∨
      (isHost (s.stg (.loop (name i))) = false ∧ ∀ d, s.appOpt (.loop (name i)) = some d → isHost d = false)
    (setBad s isHost p = none ↔ ∀ i, i < rd p 0 2 → ¬ bad i) ∧
    (∀ o, setBad s isHost p = some o → ∃ i, i < rd p 0 2 ∧ o = 4 + 8 * i ∧ bad i ∧ ∀ j, j < i → ¬ bad j)) ∧
  (∀ (s : State) (n g : Nat), appGroup s n = some g → (s.grp g).hold ≠ none →
    holdWritten s n = s.setGrp g { s.grp g with hold := none }) ∧
  (∀ (s : State) (i n : Nat) (d : Bytes), (Obj.loop n, d) ∈ s.staged ∨ (Obj.loop n, d) ∈ s.applied →
    dFric d = i ∨ dCog d = i → dGroup d ≤ 63 → (s.st (gFid (dGroup d))).idle = false → tableUsed s i = true) ∧
  (∀ (t : Slot) (p : Bytes), headerDiff t p = none ↔ byteAt p 2 = t.kind ∧ (byteAt p 3).testBit 2 = t.periodic ∧
    rdF p 4 = t.x0 ∧ rdF p 8 = t.span ∧ rdF p 12 = t.hyst) ∧
  (∀ (h : Hdr) (p : Bytes) (s : State), Accepted opTableWrite h p 0 s →
    let i := rd p 0 2
    let first := rd p 16 2
    let b := atBody s h
    let old := s.slot i
    let begun : Slot :=
      { kind := byteAt p 2, periodic := (byteAt p 3).testBit 2, x0 := rdF p 4, span := rdF p 8, hyst := rdF p 12
        begun := true }
    let base := if first = 0 then begun else old
    let t : Slot := { base with entries := putVals base.entries first (wordsAt p 20 (rd p 18 2)) }
    let last := (byteAt p 3).testBit 0
    let store := (byteAt p 3).testBit 1
    let ans (a : Ans) : Prop := exec (.tableWrite h p) s = .next (replied h 0x0400 p a)
    let open_ := tableUsed b i = false
    let kept := store = true
    (tableUsed b i = true → ans (failAns b stWrongState 0)) ∧
    (open_ → byteAt p 2 = 0 → ¬ kept → ans (okAns (b.setSlot i {}))) ∧
    (open_ → byteAt p 2 = 0 → kept → ans (okAns (storeSlot (b.setSlot i {}) i {}))) ∧
    (open_ → byteAt p 2 ≠ 0 → first ≠ 0 → old.begun = false ∨ old.loaded = true → ans (failAns b stWrongState 0)) ∧
    (open_ → byteAt p 2 ≠ 0 → first ≠ 0 → old.begun = true → old.loaded = false →
      ∀ o, headerDiff old p = some o → ans (badParam b o)) ∧
    (open_ → byteAt p 2 ≠ 0 → first = 0 ∨ old.begun = true ∧ old.loaded = false ∧ headerDiff old p = none →
      (last = false → ans (okAns (b.setSlot i t))) ∧
      (∀ j, last = true → firstUnwritten t.entries 256 = some j → ans (failAns (b.setSlot i t) 0x80 j)) ∧
      (last = true → firstUnwritten t.entries 256 = none →
        let done : Slot := { t with loaded := true, begun := false }
        (¬ kept → ans (okAns (b.setSlot i done))) ∧ (kept → ans (okAns (storeSlot (b.setSlot i done) i done))))))

/-- The loop law (R122, R123). At the first valid sample the previous values, the derivative state, the accumulator and
the ramp are set. At a valid sample the reference moves by at most its step, and the ramp ends when it has arrived; the
accumulator is clamped to its bounds whatever the output does; the derivative state follows the change of y; the output
is the sum of all terms, clamped before its slew limit, and is kept as what the next sample issues. -/
def Obligations.LoopLaw : Prop :=
  (∀ (d : Bytes) (l : Loop) (ref : F32),
    let rc := if l.safeRamp then dSafeRef d else fFma (dRefGain d) ref (dRefOffset d)
    let step := if l.safeRamp then l.stepSf else if l.ramping then l.stepSt else l.stepSl
    (fEq step f0 = true → (lawRef d l ref).r = rc) ∧
    (fEq step f0 = false → (lawRef d l ref).r = fClamp rc (fSub l.rPrev step) (fAdd l.rPrev step)) ∧
    (lawRef d l ref).ramping = (l.ramping && !fEq (lawRef d l ref).r rc)) ∧
  (∀ (d : Bytes) (l : Loop) (y e ff : F32),
    let m := (lawOut d l y e ff).1
    let u := fClamp (fAdd (fAdd (fAdd (fFma (dFfGain d) ff (fFma (fNeg (dKd d)) m.dstate (fAdd (fMul (dKp d) e) m.acc)))
      (dFfBias d)) l.cFric) l.cCog) (dOutMin d) (dOutMax d)
    m.acc = fClamp (fFma l.kiTs e l.acc) (dIMin d) (dIMax d) ∧
    m.dstate = fFma (dDAlpha d) (fSub (fMul (fSub y l.yPrev) (fOfNat (rateHz (dRate d)))) l.dstate) l.dstate ∧
    m.u = (if fLt f0 l.duMax then fClamp u (fSub l.uPrev l.duMax) (fAdd l.uPrev l.duMax) else u) ∧
    m.next = some m.u ∧ m.uPrev = m.u ∧ m.rPrev = l.r ∧ m.yPrev = y) ∧
  (∀ (d : Bytes) (l : Loop) (y : F32), let m := lawFirst d l y
    m.rPrev = y ∧ m.yPrev = y ∧ m.dstate = f0 ∧ m.acc = dAInit d ∧ m.uPrev = dOutInit d ∧ m.ramping = true)

/-- LOOP_SAMPLE of a loop whose instant has come: the output of the sample before it is issued; a loop that has stopped
does no more; at a valid measured value with its sink there the law runs, else the sample is an invalid one
(`loopIssue` gives the output to the sink, and to none where the loop has none). Before its instant, or while its group is not
evaluated, nothing happens. A sample that is not valid leaves output, reference, accumulator, derivative state and ramp
as they are and is counted; the sample that reaches INVALID_LIMIT takes the loop to its safe action, latches it, and
tells by event and by FSRC16 (its input) or FSRC17 (its sink). LOOP_SAMPLE_MISSED at the deadline of an evaluation: the
loop's state is what it was before the sample, but for a safe action taken since, the miss is counted by the loop and
the engine, an event and FSRC18 tell, and a second one in a row makes the actuation domain reset. -/
def Obligations.LoopSamples : Prop :=
  (∀ (n g : Nat) (s : State), appGroup s n = some g →
    let d := s.loopCfg n
    (grpActive s g = false ∨ sampleDue s n g d = false → exec (.loopSample n) s = .next (settle s)) ∧
    (grpActive s g = true → sampleDue s n g d = true →
      let i := loopIssue s n d
      let l := i.loop n
      let taken := i.setLoop n { l with
        last := some s.mono, catchUp := none, missed := false, consecMiss := if l.missed then l.consecMiss else 0 }
      let t := evalArrives { taken with cle := { taken.cle with prev := tput taken.cle.prev n l } } n
        (periodNs (dRate d))
      (l.stopped = true → exec (.loopSample n) s =
        .next (settle { taken with cle := { taken.cle with prev := tdel taken.cle.prev n } })) ∧
      (∀ x, l.stopped = false → (measure t n d).1 = some x → sinkLost t d = false →
        exec (.loopSample n) s = .next (settle (grpProgress (validSample t n g d x) g))) ∧
      (l.stopped = false → (measure t n d).1 = none ∨ sinkLost t d = true → exec (.loopSample n) s =
        .next (settle (grpProgress
          (invalidSample t n g d (measure t n d).2.1 (measure t n d).2.2 (sinkLost t d)) g))) ∧
      (∀ u, (s.loop n).next = some u → dSink d = 0 → i = s.setLoop n { s.loop n with out := u, issued := true }) ∧
      ((s.loop n).next = none → i = s))) ∧
  (∀ (n : Nat) (s : State), appGroup s n = none → exec (.loopSample n) s = .next (settle s)) ∧
  (∀ (s : State) (n g : Nat) (d : Bytes) (inv stale lost : Bool),
    let l := s.loop n
    let t := invalidSample s n g d inv stale lost
    (t.loop n).inv = satN 4 (l.inv + 1) ∧ (t.loop n).acc = l.acc ∧ (t.loop n).u = l.u ∧ (t.loop n).r = l.r ∧
    (t.loop n).dstate = l.dstate ∧ (t.loop n).ramping = l.ramping ∧ (∀ m, m ≠ n → t.loop m = s.loop m) ∧
    (l.consecInv + 1 = dInvLimit d → l.latched = false → ∃ v, t = loopLost v n g d (inv || stale)) ∧
    (l.consecInv + 1 ≠ dInvLimit d → (t.loop n).latched = l.latched ∧ (t.loop n).next = l.next)) ∧
  (∀ (s : State) (n g : Nat) (d : Bytes) (byInput : Bool), loopLost s n g d byInput =
    pulse (emitFault (s.setLoop n { safeAction d (s.loop n) with latched := true }) 0x0302 (gFid g)
      (le 2 n ++ b1 (if byInput then 1 else 2) ++ b1 (dSafe d))) (if byInput then 16 else 17) n) ∧
  (∀ (n g : Nat) (l : Loop) (s : State), appGroup s n = some g → tfind s.cle.prev n = some l → grpActive s g = true →
    sampleDue s n g (s.loopCfg n) = true → (s.loop n).missed = false → (s.loop n).last ≠ none →
    let cur := s.loop n
    ∃ v,
      let w := pulse (emitFault v 0x0304 (gFid g) (le 2 n ++ zeros 2 ++ le 4 (satN 4 (cur.miss + 1)))) 18 n
      (cur.consecMiss = 0 → exec (.loopSampleMissed n) s = .next (settle w)) ∧
      (1 ≤ cur.consecMiss → exec (.loopSampleMissed n) s =
        .next (settle { w with fcr := { w.fcr with react := w.fcr.react ++ [.actReset 1] } })) ∧
      (v.loop n).acc = l.acc ∧ (v.loop n).u = l.u ∧ (v.loop n).r = l.r ∧ (v.loop n).rPrev = l.rPrev ∧
      (v.loop n).yPrev = l.yPrev ∧ (v.loop n).uPrev = l.uPrev ∧ (v.loop n).dstate = l.dstate ∧
      (cur.stopped = false → (v.loop n).next = l.next) ∧
      (v.loop n).latched = cur.latched ∧ (v.loop n).stopped = cur.stopped ∧ (v.loop n).safeRamp = cur.safeRamp ∧
      (v.loop n).miss = satN 4 (cur.miss + 1) ∧ v.cle.missed = satN 4 (s.cle.missed + 1) ∧ v.cle.margin = 0 ∧
      ∀ m, m ≠ n → v.loop m = s.loop m) ∧
  (∀ (n g : Nat) (s : State), appGroup s n = some g →
    tfind s.cle.prev n = none ∨ grpActive s g = false ∨ sampleDue s n g (s.loopCfg n) = false ∨
      (s.loop n).missed = true ∨ (s.loop n).last = none → exec (.loopSampleMissed n) s = .next (settle s))

/-- A group commits at its first shared instant at least 20 µs after its check, with every loop waiting and its counters
at zero, and not before; a stop completes at a shared instant after its own, once every RAMP loop has arrived, or 60 s
have passed, or the group had not committed, and ends as stops do (`finishStop`): the group is OFF, its loops with it,
unless a fault has come or a start waits; a hold that expires faults the group. (That the counters restart at the
commit is the model's choice, log entry 57.) -/
def Obligations.GroupLifecycle : Prop :=
  (∀ (g : Nat) (s : State), s.st (gFid g) = .starting → (s.grp g).committed = false →
    ((s.fn (gFid g)).since + 5000 ≤ s.mono → grpAt s g 1000000 = true →
      ∃ v, exec (.groupStartCommit g) s = .next (settle v) ∧ (v.grp g).committed = true ∧
        ∀ n, n ∈ grpLoops s g → (v.loop n).st = 1 ∧ (v.loop n).inv = 0 ∧ (v.loop n).miss = 0 ∧
          (v.loop n).next = none ∧ (v.loop n).latched = false) ∧
    (s.mono < (s.fn (gFid g)).since + 5000 ∨ grpAt s g 1000000 = false →
      exec (.groupStartCommit g) s = .next (settle s))) ∧
  (∀ (g : Nat) (s : State), s.st (gFid g) ≠ .starting ∨ (s.grp g).committed = true →
    exec (.groupStartCommit g) s = .next (settle s)) ∧
  (∀ (g : Nat) (s : State), s.st (gFid g) = .stopping →
    let ready := (s.fn (gFid g)).since < s.mono ∧ grpAt s g 1000000 = true ∧
      ((s.grp g).committed = false ∨ (∀ n, n ∈ grpLoops s g → arrived s n = true) ∨
        (s.fn (gFid g)).since + 15000000000 ≤ s.mono)
    let off := if (s.grp g).committed then (grpLoops s g).foldl loopOff s else s
    let ended := if (s.fn (gFid g)).toFault then s else off.setGrp g { committed := false, hold := none }
    (ready → exec (.groupStopComplete g) s =
      .next (settle (finishStop (grpCheck · g) (grpBegin · g) (gFid g) ended))) ∧
    (ready → (s.fn (gFid g)).pend = none → (s.fn (gFid g)).toFault = false →
      ∃ v, exec (.groupStopComplete g) s = .next (settle v) ∧ v.st (gFid g) = .off ∧ (v.grp g).committed = false) ∧
    (¬ ready → exec (.groupStopComplete g) s = .next (settle s))) ∧
  (∀ (g : Nat) (s : State), s.st (gFid g) ≠ .stopping → exec (.groupStopComplete g) s = .next (settle s)) ∧
  (∀ (g t : Nat) (s : State), (s.grp g).hold = some t →
    (t + 250000 * gHold (s.grpCfg g) ≤ s.mono → exec (.groupHoldExpiry g) s = .next (settle (grpFault s g))) ∧
    (s.mono < t + 250000 * gHold (s.grpCfg g) → exec (.groupHoldExpiry g) s = .next (settle s))) ∧
  (∀ (g : Nat) (s : State), (s.grp g).hold = none → exec (.groupHoldExpiry g) s = .next (settle s))

/-! ## Sensing inputs (chapter 06) -/

/-- IMP_CONFIG, AIN_CONFIG, FIN_CONFIG, POS_CONFIG and IMU_CONFIG: WRONG_STATE while the input is in use; else the
settings wait for the input's next boundary, and are stored when asked. A fifth flow channel is OVER_CAPACITY; a
quadrature pair that does not fit is BAD_PARAM. A waiting configuration comes into force at its boundary, while CSE
produces values (for an impact channel the next counting-window boundary, for another input its next update, 50 µs
after the one before), and settles for its time (an impact channel 1 ms, a position input 20 ms, the inertial unit
50 ms, a frequency input none); a flow channel of the yield map that has left flow mode ends the yield intervals.
INPUT_VALIDITY_REPORT sends the word when the valid bits have changed, at most once in 100 ms, as a fault event while
the input has a fault, and makes the input's source follow its faults. -/
def Obligations.InputConfiguration : Prop :=
  (∀ (h : Hdr) (p : Bytes) (s : State),
    let b := atBody s h
    let k := byteAt p 0
    let waits (sel n o : Nat) : State :=
      let c : InCfg := { inCfg b sel n with pend := some (if sel = 4 then s.cse.winNo else s.mono, p) }
      setInCfg b sel n (if (byteAt p o).testBit 0 then { c with stored := some p } else c)
    let five := impMode p = 2 ∧ 4 ≤ ((List.range 32).filter fun j => j ≠ k ∧ impMode (inNext b 4 j) = 2).length
    let odd := (finMode p = 3 ∧ (k % 2 = 1 ∨ finMode (inNext b 2 (k + 1)) ≠ 0)) ∨
      (finMode p ≠ 0 ∧ k % 2 = 1 ∧ finMode (inNext b 2 (k - 1)) = 3)
    (Accepted opImpConfig h p 0 s →
      (five → exec (.impConfig h p) s = .next (replied h 0x0500 p (failAns b stOverCapacity 0))) ∧
      (¬ five → inUse b 4 k = true → exec (.impConfig h p) s = .next (replied h 0x0500 p (failAns b stWrongState 0))) ∧
      (¬ five → inUse b 4 k = false → exec (.impConfig h p) s = .next (replied h 0x0500 p (okAns (waits 4 k 1))))) ∧
    (Accepted opAinConfig h p 0 s →
      (inUse b 1 k = true → exec (.ainConfig h p) s = .next (replied h 0x0502 p (failAns b stWrongState 0))) ∧
      (inUse b 1 k = false → exec (.ainConfig h p) s = .next (replied h 0x0502 p (okAns (waits 1 k 1))))) ∧
    (Accepted opFinConfig h p 0 s →
      (odd → exec (.finConfig h p) s = .next (replied h 0x0503 p (badParam b 2))) ∧
      (¬ odd → inUse b 2 k = true → exec (.finConfig h p) s = .next (replied h 0x0503 p (failAns b stWrongState 0))) ∧
      (¬ odd → inUse b 2 k = false → exec (.finConfig h p) s = .next (replied h 0x0503 p (okAns (waits 2 k 1))))) ∧
    (Accepted opPosConfig h p 0 s →
      (inUse b 3 k = true → exec (.posConfig h p) s = .next (replied h 0x0504 p (failAns b stWrongState 0))) ∧
      (inUse b 3 k = false → exec (.posConfig h p) s = .next (replied h 0x0504 p (okAns (waits 3 k 1))))) ∧
    (Accepted opImuConfig h p 0 s →
      (inUse b 5 0 = true → exec (.imuConfig h p) s = .next (replied h 0x0505 p (failAns b stWrongState 0))) ∧
      (inUse b 5 0 = false → exec (.imuConfig h p) s = .next (replied h 0x0505 p (okAns (waits 5 0 0)))))) ∧
  (∀ (sel k : Nat) (s : State), 1 ≤ sel → sel ≤ 5 →
    let left (u : State) : State :=
      if sel = 4 ∧ k = yFlow (yieldCfg u) ∧ flowMode u k = false then
        { u with yield := { u.yield with cur := none, done := [] } }
      else u
    ((inCfg s sel k).pend = none → exec (.inputConfigCommit sel k) s = .next (settle (left s))) ∧
    (∀ n p, (inCfg s sel k).pend = some (n, p) →
      let due := producing s = true ∧
        (sel = 4 → n < s.cse.winNo ∧ s.cse.winTick = s.mono) ∧ (sel ≠ 4 → n < s.mono ∧ atUpdate s sel k = true)
      (due → exec (.inputConfigCommit sel k) s = .next (settle (left (commitInput s sel k p)))) ∧
      (¬ due → exec (.inputConfigCommit sel k) s = .next (settle (left s))))) ∧
  (∀ (s : State) (k : Nat),
    (atUpdate s 1 k = true ↔ ∀ t, (s.ain k).tick = some t → t + 12500 ≤ s.mono) ∧
    (atUpdate s 2 k = true ↔ finMode (inCfgOf (s.fin k).c) = 0 ∨ (s.fin k).tick + 12500 ≤ s.mono) ∧
    (atUpdate s 3 k = true ↔ ∀ t, (s.pos k).tick = some t → t + 12500 ≤ s.mono)) ∧
  (∀ (sel k : Nat) (p : Bytes) (s : State), 1 ≤ sel → sel ≤ 5 →
    let c := inCfg (commitInput s sel k p) sel k
    c.cur = some p ∧ c.pend = none ∧ (sel = 1 → c.settle = s.mono + ainSettle (ainCutoff p)) ∧
    (sel = 2 → c.settle = s.mono) ∧ (sel = 3 → c.settle = s.mono + 5000000) ∧
    (sel = 4 → c.settle = s.mono + 250000) ∧ (sel = 5 → c.settle = s.mono + 12500000)) ∧
  (∀ (sel k : Nat) (s : State),
    ((inCfg s sel k).settle ≤ s.mono → exec (.inputSettlingEnd sel k) s =
      .next (settle (setInCfg s sel k { inCfg s sel k with settle := 0 }))) ∧
    (s.mono < (inCfg s sel k).settle → exec (.inputSettlingEnd sel k) s = .next (settle s))) ∧
  (∀ (sel k : Nat) (s : State),
    let w := inWord s sel k
    let last := tget (0, 0) s.cse.vsent (sel * 256 + k)
    let sent : State := { s with cse := { s.cse with vsent := tput s.cse.vsent (sel * 256 + k) (w % 8, s.mono) } }
    let data := b1 sel ++ b1 k ++ le 2 w
    let u :=
      if last.1 ≠ w % 8 ∧ (last.2 = 0 ∨ last.2 + 25000000 ≤ s.mono) then
        if inFault w then emitFault sent 0x0501 0xFFFF data else emit sent 0x0501 0xFFFF data
      else s
    (k < inCount sel → exec (.inputValidityReport sel k) s =
      .next (settle (if inFault w = (u.src (inSrc sel k)).inErr then u else setErr u (inSrc sel k) (inFault w) w))) ∧
    (inCount sel ≤ k → exec (.inputValidityReport sel k) s = .next (settle s)))

/-- CLASSIFIER_LOAD: a first block begins a set's image, a later one needs one begun; the last block, with all values
written and the image's CRC-32C right, leaves the set to wait for the next counting window, stored where asked; values
missing are SET_INCOMPLETE with the first of them, a wrong CRC is INTEGRITY. FLOW_CALIBRATE of a channel in flow mode:
an interval its history does not cover, that holds a configuration's commit, or with more than one invalid window in a
hundred is INTERVAL_UNAVAILABLE; else it answers mass, factor and windows, with the status FACTOR_OUT_OF_RANGE for a
factor outside 0.5 to 2, and when asked lets the factor wait, the curve stored where asked. The set, and the curve by
the oldest factor, come into force at the counting-window boundary after the window they were loaded in, and are
reported. SENSE_READ answers the entries of its selector, for selector 6 hit records. -/
def Obligations.SensingCommands : Prop :=
  (∀ (h : Hdr) (p : Bytes) (s : State), Accepted opClassifierLoad h p 0 s →
    let n := byteAt p 0
    let x := s.cset n
    let b := atBody s h
    let first := rd p 2 2
    let img := putVals (if first = 0 then [] else x.image) first (wordsAt p 12 (rd p 4 2))
    let v := imageVals img 676
    let crc := (crc32c (v.flatMap leF)).toNat
    let goes := first = 0 ∨ x.begun = true
    let ans (a : Ans) : Prop := exec (.classifierLoad h p) s = .next (replied h 0x0501 p a)
    (¬ goes → ans (failAns b stWrongState 0)) ∧
    (goes → (byteAt p 1).testBit 0 = false → ans (okAns (b.setCset n { x with begun := true, image := img }))) ∧
    (goes → (byteAt p 1).testBit 0 = true →
      (∀ i, firstUnwritten img 676 = some i →
        ans (failAns (b.setCset n { x with begun := true, image := img }) 0x82 i)) ∧
      (firstUnwritten img 676 = none → crc ≠ rd p 8 4 →
        ans (failAns (b.setCset n { x with begun := false, image := [] }) stIntegrity 0)) ∧
      (firstUnwritten img 676 = none → crc = rd p 8 4 → ans (okAns (b.setCset n { x with
        begun := false, image := [], pend := some (s.cse.winNo, v, crc, some (h.session, h.seq))
        stored := if (byteAt p 1).testBit 1 then some v else x.stored }))))) ∧
  (∀ (n w : Nat) (v : List F32) (crc : Nat) (cause : Option (Nat × Nat)) (s : State),
    (s.cset n).pend = some (w, v, crc, cause) →
    let due := w < s.cse.winNo ∧ s.cse.winTick = s.mono
    let t := s.setCset n { s.cset n with
      pend := none, old := (s.cset n).cur, cur := some v, commitAt := s.mono, commitTime := s.cse.winStart }
    (due → exec (.classifierSetCommit n) s =
      .next (emitTo (forN 32 windowBegun t) cause false none 0x0502 0xFFFF (b1 n ++ zeros 3 ++ le 4 crc))) ∧
    (¬ due → exec (.classifierSetCommit n) s = .next s)) ∧
  (∀ (n : Nat) (s : State), (s.cset n).pend = none → exec (.classifierSetCommit n) s = .next s) ∧
  (∀ (h : Hdr) (p : Bytes) (s : State), Accepted opFlowCalibrate h p 0 s →
    impMode (inCfgOf (s.imp (byteAt p 0)).c) ≠ 2 →
    exec (.flowCalibrate h p) s = .next (replied h 0x0507 p (badParam (atBody s h) 0))) ∧
  (∀ (h : Hdr) (p : Bytes) (s : State), impMode (inCfgOf (s.imp (byteAt p 0)).c) = 2 →
    let b := atBody s h
    let k := byteAt p 0
    let x := s.imp k
    let t0 := rdT p 4
    let t1 := rdT p 16
    let l := x.hist.filter fun e => T96.le t0 e.start && T96.le e.stop t1
    let c := flowCal (inCfgOf x.c) l (rdF p 28)
    let lacks := (x.hist.any fun e => T96.le e.start t0) = false ∨ (x.hist.any fun e => T96.le t1 e.stop) = false ∨
      (x.c.commits.any fun t => T96.le t0 t && T96.le t t1) = true ∨ c.2.2.1 < 100 * c.2.2.2
    let data := leF c.1 ++ leF c.2.1 ++ le 4 c.2.2.1 ++ le 4 c.2.2.2
    let ans (a : Ans) : Prop := exec (.flowCalibrate h p) s = .next (replied h 0x0507 p a)
    (Accepted opFlowCalibrate h p 0 s → lacks → ans (failAns b 0x81 0)) ∧
    (Accepted opFlowCalibrate h p 16 s → ¬ lacks →
      ((fLe fHalf c.2.1 && fLe c.2.1 (fOfNat 2)) = false → ans { s := b, st := 0x80, detail := 0, data := data }) ∧
      ((fLe fHalf c.2.1 && fLe c.2.1 (fOfNat 2)) = true → (byteAt p 1).testBit 0 = false → ans (okWith b data)) ∧
      ((fLe fHalf c.2.1 && fLe c.2.1 (fOfNat 2)) = true → (byteAt p 1).testBit 0 = true →
        ans (okWith (b.setImp k { x with
          factors := x.factors ++ [(s.cse.winNo, c.2.1, some (h.session, h.seq))]
          c := if (byteAt p 1).testBit 1 then
              { x.c with stored := some (scaleCurve (scaleAll (inCfgOf x.c) x.factors) c.2.1) }
            else x.c })
          data)))) ∧
  (∀ (k w : Nat) (f : F32) (cause : Option (Nat × Nat)) (r : List (Nat × F32 × Option (Nat × Nat))) (s : State),
    (s.imp k).factors = (w, f, cause) :: r →
    let due := w < s.cse.winNo ∧ s.cse.winTick = s.mono
    (due → exec (.flowCurveApply k) s = .next (emitTo (s.setImp k { s.imp k with
      factors := r, c := { (s.imp k).c with cur := some (scaleCurve (inCfgOf (s.imp k).c) f) } })
      cause false none 0x0503 0xFFFF (b1 k ++ zeros 3 ++ leF f))) ∧
    (¬ due → exec (.flowCurveApply k) s = .next s)) ∧
  (∀ (k : Nat) (s : State), (s.imp k).factors = [] → exec (.flowCurveApply k) s = .next s) ∧
  (∀ (h : Hdr) (p d : Bytes) (s : State),
    (byteAt p 0 ≠ 6 → d = ((List.range (byteAt p 2)).flatMap fun i => senseEntry s (byteAt p 0) (byteAt p 1 + i)) →
      Accepted opSenseRead h p (12 + d.length) s →
      exec (.senseRead h p) s = .next (replied h 0x0506 p (okWith (atBody s h) (leT s.now ++ d)))) ∧
    (byteAt p 0 = 6 → ∀ l, l = hitRecords (s.imp (byteAt p 1)) (rd p 4 4) (byteAt p 2) → d = l.flatten →
      Accepted opSenseRead h p (16 + d.length) s → exec (.senseRead h p) s =
        .next (replied h 0x0506 p (okWith (atBody s h) (leT s.now ++ le 2 l.length ++ zeros 2 ++ d)))))

/-- Hit detection: an armed channel in hit mode takes an onset where the filtered sample reaches T_ON; 255 raw samples
later the hit waits with its features over the window, its clipping and the next sequence number; HOLD quiet filtered
samples arm the channel again; a rise outside ARMED is counted as merged and begins the quiet run anew. The classifier
takes the oldest hit 4 µs after its features, by the set of its time (with no set loaded the class is free, log entry
37), keeps its record, and counts it in the window that holds its time-stamp. The front end's check is kept, at most
once in 10 s. Counting windows: at a 10 ms boundary of TD0 every channel's window ends with its counts, valid only if
the channel was valid throughout, and a new one begins; a rest of less than 1 ms after a step joins the next; 200 µs
after its end a window is the last completed one. Else each of these rows changes nothing. -/
def Obligations.Counting : Prop :=
  (∀ (k : Nat) (pre : List Int) (x : Int) (s : State),
    let c := s.imp k
    let raw := pre ++ [x]
    let ok := hitMode s k = true ∧ c.det = .armed ∧ 16 ≤ pre.length ∧ rawOk raw = true ∧
      impTOn (inCfgOf c.c) ≤ (filtered (inCfgOf c.c) raw).natAbs
    (ok → exec (.hitOnset k pre x) s = .next (s.setImp k { c with
      det := .inHit, onset := s.mono, onsetTime := timeLess s.now (3500 * 65536 + 2048000), raw := raw })) ∧
    (¬ ok → exec (.hitOnset k pre x) s = .next s)) ∧
  (∀ (k : Nat) (before : List Int) (x : Int) (s : State),
    let c := s.imp k
    let d := inCfgOf c.c
    let ok := hitMode s k = true ∧ c.det ≠ .armed ∧ rawOk (before ++ [x]) = true ∧
      (filtered d before).natAbs < impTOff d ∧ impTOn d ≤ (filtered d (before ++ [x])).natAbs
    (ok → exec (.mergedHit k before x) s = .next (s.setImp k { c with
      win := { c.win with merged := c.win.merged + 1 }, quietAt := s.mono })) ∧
    (¬ ok → exec (.mergedHit k before x) s = .next s)) ∧
  (∀ (k : Nat) (rest : List Int) (clip : Bool) (s : State),
    let c := s.imp k
    let d := inCfgOf c.c
    let raw := c.raw ++ rest
    let w := filteredTail d raw 272
    let ok := hitMode s k = true ∧ c.det = .inHit ∧ c.onset + 31875 ≤ s.mono ∧ rest.length = 255 ∧ rawOk rest = true ∧
      clip = (raw.drop (raw.length - 272)).any atLimit
    let hit : HitWait :=
      { time := c.onsetTime, onset := c.onset, done := s.mono, seq := c.seq, clipped := clip
        feats := features (impTOff d) (w.take 16) (w.drop 16) }
    (ok → exec (.hitWindowComplete k rest clip) s = .next (s.setImp k { c with
      det := .quiet, quietAt := s.mono, seq := (c.seq + 1) % 2 ^ 32, waiting := c.waiting ++ [hit] })) ∧
    (¬ ok → exec (.hitWindowComplete k rest clip) s = .next s)) ∧
  (∀ (q : SampleRun) (s : State),
    let c := s.imp q.k
    let d := inCfgOf c.c
    let ok := c.det = .quiet ∧ c.quietAt + 125 * impHold d ≤ s.mono ∧ q.run.length = impHold d ∧
      rawOk (q.before ++ q.run) = true ∧
      ∀ x ∈ filteredTail d (q.before ++ q.run) (impHold d), x.natAbs < impTOff d
    (ok → exec (.hitQuietEnd q) s = .next (s.setImp q.k { c with det := .armed })) ∧
    (¬ ok → exec (.hitQuietEnd q) s = .next s)) ∧
  (∀ (k : Nat) (s : State),
    let c := s.imp k
    (c.waiting = [] → exec (.hitClassified k) s = .next s) ∧
    (∀ e r, c.waiting = e :: r →
      let set := impSet (inCfgOf c.c)
      let vals := if e.before (s.cset set).commitAt (s.cset set).commitTime then (s.cset set).old else (s.cset set).cur
      let done (t : State) (a : Nat × Nat) : State :=
        let record := leT e.time ++ le 4 e.seq ++ b1 a.1 ++ b1 (a.2 + bit e.clipped 0) ++ b1 set ++ b1 0 ++
          e.feats.flatMap (leI 2)
        let c' : Imp := { c with waiting := r, ring := (record :: c.ring).take 4096, lastSeq := e.seq }
        if e.before s.cse.winTick s.cse.winStart then t.setImp k { c' with ended := countEnded e a.1 c.ended }
        else t.setImp k { c' with win := c.win.add a.1 }
      (s.mono < e.done + 1000 → exec (.hitClassified k) s = .next s) ∧
      (e.done + 1000 ≤ s.mono →
        (∀ v, vals = some v → exec (.hitClassified k) s = .next (done s (classify v e.feats))) ∧
        (vals = none → exec (.hitClassified k) s =
          .next (done { s with nonce := s.nonce + 1 } (Config.freeNat s.nonce % 3, 0)))))) ∧
  (∀ (k : Nat) (ok : Bool) (s : State),
    let c := s.imp k
    let due := producing s = true ∧ ∀ t, c.checkedAt = some t → t + 2500000000 ≤ s.mono
    (due → exec (.frontEndSelftest k ok) s = .next (s.setImp k { c with
      selftest := !ok, winBad := c.winBad || !ok, checkedAt := some s.mono })) ∧
    (¬ due → exec (.frontEndSelftest k ok) s = .next s)) ∧
  (∀ (flow : List FlowSum) (s : State),
    let g := s.tdNs 0 / 10000000
    let t := T96.ofNs (g * 10000000)
    let joins := s.cse.winOdd = true ∧ s.mono < s.cse.winTick + 250000
    (producing s = false ∨ g = s.cse.winGrid → exec (.countingWindowEnd flow) s = .next (settle s)) ∧
    (producing s = true → g ≠ s.cse.winGrid → ¬ joins →
      exec (.countingWindowEnd flow) s = .next (settle (endWindows (flowOf flow) t t s))) ∧
    (producing s = true → g ≠ s.cse.winGrid → joins → exec (.countingWindowEnd flow) s =
      .next (settle { s with cse := { s.cse with winGrid := g } }))) ∧
  (∀ (flow : Nat → Option FlowSum) (stop start : T96) (s : State),
    let v := endWindows flow stop start s
    v.cse.winNo = s.cse.winNo + 1 ∧ v.cse.winStart = start ∧ v.cse.winTick = s.mono ∧ v.cse.winOdd = false ∧
    ∀ k, k < 32 → ∃ w, (v.imp k).ended = w :: (s.imp k).ended ∧ w.n = (s.imp k).win ∧ w.start = s.cse.winStart ∧
      w.stop = stop ∧ w.stopTick = s.mono ∧
      w.odd = (if s.cse.winOdd then some (s.mono - s.cse.winTick) else none) ∧ (v.imp k).win = {} ∧
      (v.imp k).ring = (s.imp k).ring ∧ (w.valid = true → (s.imp k).winBad = false ∧ impCauses s k = 0)) ∧
  (∀ s : State, exec .windowCountsPublished s = .next (settle (yieldOn (yFlow (yieldCfg s))
    ((s.imp (yFlow (yieldCfg s))).last.map (·.stopTick)) (publishWindows s)))) ∧
  (∀ (s : State) (k : Nat), k < 32 →
    let x := s.imp k
    let y := (publishWindows s).imp k
    (x.ended = [] → y = x) ∧
    (∀ w r, x.ended = r ++ [w] →
      (w.stopTick + 50000 ≤ s.mono → y = { x with
        ended := r, last := some w, lastFlow := if w.valid && w.flow then some w else x.lastFlow }) ∧
      (s.mono < w.stopTick + 50000 → y = x)))

/-- While CSE produces values, an input that is configured and on takes its row's samples. AIN_UPDATE: five samples of
50 µs, each as a ratio, through the low-pass, and the value by gain and offset. AIN_RANGE_COUNT: a ratio outside the
window is counted; 20 in a row set the range cause, 20 inside clear it. FIN_EDGE_ACCEPTED: a new level held for
MIN_PULSE; an edge is stamped (in mode 1 a rising one only), a quadrature transition counts up or down, one of both
signals is an error. FIN_UPDATE: every 50 µs the frequency, or the speed and position. POS_UPDATE: angle, speed and
amplitude, with the signal, tracking and range flags. The excitation is off while in limit and tried again every 1 s.
IMU_SAMPLE at 3.2 kHz: its values, stamped less the filter's delay, saturated where an axis stands at its limit. Else
each of these rows changes nothing. (Before the update, a configuration that waits for it commits.) -/
def Obligations.InputValues : Prop :=
  (∀ (k : Nat) (volts refs : List F32) (s : State),
    let x := s.ain k
    let d := inCfgOf x.c
    let ok := producing s = true ∧ x.c.cur ≠ none ∧ ainRef d ≠ 0 ∧ volts.length = 5 ∧ refs.length = 5 ∧
      (∀ t, x.tick = some t → t + 12500 ≤ s.mono) ∧ commitDue s 1 k = false
    let f := (volts.zip refs).foldl (fun a e =>
      some (ainFilter d a (fDiv e.1 (if ainRef d = 3 then fOfNat 5 else e.2)))) x.filt
    (ok → exec (.ainUpdate k volts refs) s = .next (s.setAin k { x with
      filt := f, ratio := f.getD f0, value := fFma (rdF d 8) (f.getD f0) (rdF d 12), volts := volts.getD 4 f0
      time := s.now, tick := some s.mono })) ∧
    (¬ ok → exec (.ainUpdate k volts refs) s = .next s)) ∧
  (∀ (k : Nat) (raw : AinRaw) (s : State),
    let x := s.ain k
    let d := inCfgOf x.c
    let ok := producing s = true ∧ x.c.cur ≠ none ∧ ainRef d ≠ 0
    let r := fDiv raw.volts (if ainRef d = 3 then fOfNat 5 else raw.ref)
    let inside := fLe (rdF d 16) r && fLe r (rdF d 20)
    (ok → inside = true → exec (.ainRangeCount k raw) s = .next (s.setAin k { x with
      inRun := x.inRun + 1, outRun := 0, bad := x.bad && decide (x.inRun + 1 < 20) })) ∧
    (ok → inside = false → exec (.ainRangeCount k raw) s = .next (s.setAin k { x with
      outRun := x.outRun + 1, inRun := 0, bad := x.bad || decide (20 ≤ x.outRun + 1), count := satN 4 (x.count + 1) })) ∧
    (¬ ok → exec (.ainRangeCount k raw) s = .next s)) ∧
  (∀ (k age : Nat) (volts : F32) (s : State), quadPartner s k = false →
    let x := s.fin k
    let d := inCfgOf x.c
    let level := finLevel d volts x.level
    let t := stampNs (s.mono * 4 - age)
    let ok := producing s = true ∧ x.c.cur ≠ none ∧ level ≠ x.level ∧ 1000 * finPulse d ≤ age
    (ok → finMode d = 2 ∨ finMode d = 1 ∧ level = true → ∀ both, exec (.finEdgeAccepted k age volts both) s =
      .next (s.setFin k { x with level := level, edges := (t :: x.edges).take 66 })) ∧
    (ok → finMode d = 1 → level = false → ∀ both, exec (.finEdgeAccepted k age volts both) s =
      .next (s.setFin k { x with level := level })) ∧
    (ok → finMode d = 3 → exec (.finEdgeAccepted k age volts true) s =
      .next ((s.setFin (k + 1) { s.fin (k + 1) with level := !(s.fin (k + 1)).level }).setFin k { x with
        level := !x.level, count := satN 4 (x.count + 1), qerr := some s.mono })) ∧
    (ok → finMode d = 3 →
      let up := (level != (s.fin (k + 1)).level) == Config.quadAleads
      exec (.finEdgeAccepted k age volts false) s = .next (s.setFin k { x with
        level := level, counter := wrap32 (if up then x.counter + 1 else x.counter - 1), dirPos := up
        edges := (t :: if up = x.dirPos then x.edges else []).take 66 })) ∧
    (¬ ok → ∀ both, exec (.finEdgeAccepted k age volts both) s = .next s)) ∧
  (∀ (k age : Nat) (volts : F32) (s : State), quadPartner s k = true →
    let o := s.fin k
    let x := s.fin (k - 1)
    let level := finLevel (inCfgOf o.c) volts o.level
    let ok := producing s = true ∧ x.c.cur ≠ none ∧ level ≠ o.level ∧ 1000 * finPulse (inCfgOf o.c) ≤ age
    (ok → exec (.finEdgeAccepted k age volts true) s =
      .next ((s.setFin k { o with level := !o.level }).setFin (k - 1) { x with
        level := !x.level, count := satN 4 (x.count + 1), qerr := some s.mono })) ∧
    (ok →
      let up := (level == x.level) == Config.quadAleads
      exec (.finEdgeAccepted k age volts false) s = .next ((s.setFin k { o with level := level }).setFin (k - 1) { x with
        counter := wrap32 (if up then x.counter + 1 else x.counter - 1), dirPos := up
        edges := (stampNs (s.mono * 4 - age) :: if up = x.dirPos then x.edges else []).take 66 })) ∧
    (¬ ok → ∀ both, exec (.finEdgeAccepted k age volts both) s = .next s)) ∧
  (∀ (k : Nat) (s : State),
    let x := s.fin k
    (∀ t, x.qerr = some t → t + 250000 ≤ s.mono →
      exec (.qerrExpiry k) s = .next (s.setFin k { x with qerr := none })) ∧
    (x.qerr = none ∨ (∃ t, x.qerr = some t ∧ s.mono < t + 250000) → exec (.qerrExpiry k) s = .next s)) ∧
  (∀ (k : Nat) (s : State),
    let x := s.fin k
    let d := inCfgOf x.c
    let ok := producing s = true ∧ x.c.cur ≠ none ∧ finMode d ≠ 0 ∧ x.tick + 12500 ≤ s.mono ∧ commitDue s 2 k = false
    let f := edgeRate x.edges (s.mono * 4) (if finMode d = 2 then 2 else 1) (finAvg d) (rdF d 16)
    (ok → finMode d ≠ 3 → exec (.finUpdate k) s = .next (s.setFin k { x with
      time := s.now, tick := s.mono, qpos := fOfInt x.counter, freq := f })) ∧
    (ok → finMode d = 3 → exec (.finUpdate k) s = .next (s.setFin k { x with
      time := s.now, tick := s.mono, qpos := fOfInt x.counter, freq := f0
      speed := if x.dirPos then f else fNeg f })) ∧
    (¬ ok → exec (.finUpdate k) s = .next s)) ∧
  (∀ (k : Nat) (theta : F32) (cyc : Int) (sp am er : F32) (s : State),
    let x := s.pos k
    let d := inCfgOf x.c
    let ok := producing s = true ∧ x.c.cur ≠ none ∧ posMode d ≠ 0 ∧ x.excOff = none ∧
      (∀ t, x.tick = some t → t + 12500 ≤ s.mono) ∧ commitDue s 3 k = false ∧ fLe f0 theta = true ∧
      fLt theta fTwoPi = true
    let p := fOfNat (posPairs d)
    let u := fSub theta (posOffset d)
    let base := x.base.getD (if fLt u f0 then cyc - 1 else cyc)
    let el := if posMulti d then fAdd u (fMul fTwoPi (fOfInt (cyc - base))) else wrapAngle u
    let a := fDiv am (posNominal d)
    let track := fLt (fDec 1 10) (fAbs er)
    (ok → exec (.posUpdate k theta cyc sp am er) s = .next (s.setPos k { x with
      angle := fDiv el p, speed := fDiv sp p, ampl := a, time := s.now, tick := some s.mono, base := some base
      signal := fLt a fHalf || fLt (fDec 15 10) a, track := track
      range := x.range || (posMulti d && turnsOut (cyc - base) u)
      count := if track && !x.track then satN 4 (x.count + 1) else x.count })) ∧
    (¬ ok → exec (.posUpdate k theta cyc sp am er) s = .next s)) ∧
  (∀ (k : Nat) (s : State),
    let x := s.pos k
    let ok := x.c.cur ≠ none ∧ posMode (inCfgOf x.c) = 1 ∧ x.excOff = none
    (ok → exec (.excitationLimitTimeout k) s = .next (s.setPos k { x with excOff := some s.mono })) ∧
    (¬ ok → exec (.excitationLimitTimeout k) s = .next s)) ∧
  (∀ (k : Nat) (ok : Bool) (s : State),
    let x := s.pos k
    (∀ t, x.excOff = some t → t + 250000000 ≤ s.mono → exec (.excitationRetry k ok) s =
      .next (s.setPos k { x with excOff := if ok then none else some s.mono })) ∧
    (x.excOff = none ∨ (∃ t, x.excOff = some t ∧ s.mono < t + 250000000) →
      exec (.excitationRetry k ok) s = .next s)) ∧
  (∀ (ax ay az gx gy gz : F32) (sat : Bool) (s : State),
    let d := s.cse.imu.c.cur.getD imuDefault
    let ok := producing s = true ∧ (∀ t, s.cse.imu.tick = some t → t + 78125 ≤ s.mono) ∧ commitDue s 5 0 = false
    (ok → exec (.imuSample ax ay az gx gy gz sat) s = .next { s with cse := { s.cse with imu := { s.cse.imu with
      v := [ax, ay, az, gx, gy, gz], time := timeLess s.now (Config.imuDelay (imuFilter d) * 65536)
      tick := some s.mono
      sat := sat || [ax, ay, az].any (fun v => fLe (imuAccelMax d) (fAbs v)) ||
        [gx, gy, gz].any (fun v => fLe (imuRateMax d) (fAbs v)) } } }) ∧
    (¬ ok → exec (.imuSample ax ay az gx gy gz sat) s = .next s))

/-! ## Planner, guidance and yield (chapter 07) -/

/-- PLANNER_OBJECTIVES is staged and applied together, in every state; for 1 ms the cycles go on with what governed
before. PATH_LOAD, with a restart from an empty ring, adds segments that join, within 256: too many are OVER_CAPACITY,
the first that does not join the one before it is status 0x80 with its offset, and a restart in path mode while guidance
is RUNNING is WRONG_STATE, with the ring as it was. YIELD_CONFIG of a channel that is not in flow mode is WRONG_STATE;
else it waits for a cut interval's boundary, stored where asked. PLANNER_STATUS answers, among the rest, the cycle's
time, the mode and the 64 PSPs, and changes nothing. -/
def Obligations.PlannerCommands : Prop :=
  (∀ (h : Hdr) (p : Bytes) (s : State), Accepted opPlannerObjectives h p 0 s →
    exec (.plannerObjectives h p) s = .next (replied h 0x0601 p (okAns { atBody s h with
      staged := tput s.staged .planObj p, applied := tput s.applied .planObj p
      planner := { s.planner with objPast := changed s.mono (s.app .planObj) s.planner.objPast } }))) ∧
  (∀ (new old : Bytes) (l : List (Nat × Bytes)) (t n : Nat), t ≤ n →
    governing n new (changed t old l) = if t + 250000 ≤ n then new else governing n old l) ∧
  (∀ (h : Hdr) (p : Bytes) (s : State), Accepted opPathLoad h p 0 s →
    let b := atBody s h
    let restart := (byteAt p 1).testBit 0 = true
    let ring := if (byteAt p 1).testBit 0 then [] else s.guid.path
    let ans (a : Ans) : Prop := exec (.pathLoad h p) s = .next (replied h 0x0605 p a)
    let held := restart ∧ s.st guidFid = .running ∧ gdMode s.guidCfg = 1
    (held → ans (failAns b stWrongState 0)) ∧
    (¬ held → 256 < ring.length + (pathSegs p).length → ans (failAns b stOverCapacity 0)) ∧
    (¬ held → ring.length + (pathSegs p).length ≤ 256 →
      (∀ i, breakAt ring.getLast? 0 (pathSegs p) = some i → ans (failAns b 0x80 (4 + 28 * i))) ∧
      (breakAt ring.getLast? 0 (pathSegs p) = none →
        ans (okAns { b with guid := { s.guid with path := ring ++ pathSegs p } })))) ∧
  (∀ (l : List Bytes) (a : Option Bytes),
    (breakAt a 0 l = none ↔ ∀ (i : Nat) (d : Bytes), l[i]? = some d → ∀ c, (a :: l.map some)[i]? = some (some c) →
      joins c d = true) ∧
    (∀ i, breakAt a 0 l = some i → ∃ c d, l[i]? = some d ∧ (a :: l.map some)[i]? = some (some c) ∧ joins c d = false ∧
      breakAt a 0 (l.take i) = none)) ∧
  (∀ (h : Hdr) (p : Bytes) (s : State), Accepted opYieldConfig h p 0 s →
    (flowMode s (yFlow p) = false →
      exec (.yieldConfig h p) s = .next (replied h 0x0607 p (failAns (atBody s h) stWrongState 0))) ∧
    (flowMode s (yFlow p) = true → exec (.yieldConfig h p) s = .next (replied h 0x0607 p (okAns { atBody s h with
      yield := { s.yield with pend := some p, stored := if (byteAt p 0).testBit 1 then some p else s.yield.stored } })))) ∧
  (∀ (h : Hdr) (p : Bytes) (s : State), Accepted opPlannerStatus h p 396 s → ∃ d, d.length = 396 ∧
    exec (.plannerStatus h p) s = .next (replied h 0x0603 p (okWith (atBody s h) d)) ∧
    d.take 13 = leT s.planner.cycleTime ++ b1 s.planner.mode ∧
    d.drop 140 = (List.range 64).flatMap fun q => leF (pspVal s q))

/-- An issue sets the PSPs it names and no other (R210, R211). PLANNER_CYCLE, at a cycle instant not yet had: in STARTING
and RUNNING, once committed, the planner issues what the last cycle solved, or coasts on the plan before, and takes the
inputs of the next cycle; in STOPPING and FAULTED it moves the PSPs it has issued a step to their fallback.
PLAN_SOLVED stands for the cycle that asked for it, where the row is the solver's answer (free, log entry 59) and its J
lies within 0.1 % of the least; its planned trajectories are held within their ranges. Nothing solved for PLAN_COAST
faults the planner. The cycles begin 20 ms after START's check; a stop completes at a cycle instant with every RAMP PSP
at its fallback, or after 10 s, which puts them there. A CV above its limit for 2 s is reported once. Else each of these
rows changes nothing of its own. -/
def Obligations.Planner : Prop :=
  (∀ (s : State) (byGuid : Bool) (l : List (Nat × F32)) (p : Nat),
    ((∀ e ∈ l, e.1 ≠ p) → pspVal (pspIssue s byGuid l) p = pspVal s p) ∧
    (∀ v, (p, v) ∈ l → (∀ e ∈ l, e.1 = p → e.2 = v) → pspVal (pspIssue s byGuid l) p = v)) ∧
  (∀ s : State,
    let stays := exec .plannerCycle s = .next (settle s)
    let d : State := { s with planner := { s.planner with cycleTick := s.mono, cycleTime := s.now } }
    (planDue s = false ∨ (s.st plannerFid).idle = true → stays) ∧
    (planDue s = true → (s.st plannerFid).live = true →
      (s.planner.committed = true → exec .plannerCycle s = .next (settle (planTake (planIssue s)))) ∧
      (s.planner.committed = false → stays)) ∧
    (planDue s = true → s.st plannerFid = .stopping ∨ s.st plannerFid = .faulted →
      (s.planner.issued = true → exec .plannerCycle s = .next (settle (pspIssue d false
        ((planPsps s).map fun e => (pmPsp e, fallbackStep s (cycleSecs s) e))))) ∧
      (s.planner.issued = false → exec .plannerCycle s = .next (settle d)))) ∧
  (∀ s : State, let v := planIssue s
    (∀ sol, s.planner.next = some sol → v.planner.plan = some sol ∧ v.planner.lastSolved = s.mono ∧
      v.planner.solved = satN 4 (s.planner.solved + 1)) ∧
    (s.planner.next = none → v.planner.plan = s.planner.plan ∧ v.planner.coasted = satN 4 (s.planner.coasted + 1)) ∧
    (v.planner.plan = none → v.cle = s.cle) ∧
    (∀ sol, v.planner.plan = some sol → v.planner.issued = true ∧ ∀ d ∈ planPsps s,
      (∀ e ∈ planPsps s, pmPsp e = pmPsp d → e = d) → pspVal v (pmPsp d) = pspOf s sol s.mono d)) ∧
  (∀ s : State, let v := planTake s
    v.planner.cycleTick = s.mono ∧ v.planner.cycleTime = s.now ∧ v.planner.next = none ∧
    v.planner.obj = objectivesNow s ∧ v.planner.running = mayWork s 2 ∧ v.planner.head = s.headwind ∧
    v.planner.cap = capNow s ∧ v.planner.plan = s.planner.plan ∧ v.cle = s.cle) ∧
  (∀ (mvs : List (List F32)) (s : State),
    let least := Config.leastCost (planCfgs s) (planNums s)
    let ok := planActive s = true ∧ s.planner.running = true ∧ mvs = Config.planOf (planCfgs s) (planNums s) ∧
      (fLe f0 least = true → fLt least (planSol s mvs).cost = true →
        fLe (planSol s mvs).cost (fMul (fDec 1001 1000) least) = true)
    (ok → exec (.planSolved mvs) s = .next { s with
      planner := { s.planner with next := some (planSol s mvs), running := false } }) ∧
    (¬ ok → exec (.planSolved mvs) s = .next s)) ∧
  (∀ (mvs : List (List F32)) (s : State), (planSol s mvs).tick = s.planner.cycleTick ∧
    ∀ i, i < 8 → mvRole (s.mvCfg i) ≠ 1 → (planSol s mvs).mvs.getD i [] = trajectory s mvs i) ∧
  (∀ (s : State) (mvs : List (List F32)) (i : Nat),
    (planned (s.mvCfg i) = false → trajectory s mvs i = List.replicate 33 (mvStart s i)) ∧
    (planned (s.mvCfg i) = true → ∃ r, trajectory s mvs i = mvStart s i :: r ∧ r.length = 32 ∧
      ∀ v ∈ r, ∃ x, v = fClamp x (mvMin (s.mvCfg i)) (mvMax (s.mvCfg i)))) ∧
  (∀ s : State,
    let ok := planActive s = true ∧ s.planner.lastSolved + 250000 * pfCoast s.feedCfg ≤ s.mono
    (ok → exec .plannerCoastTimeout s = .next (settle (raise (planFaulted s) 128 0))) ∧
    (¬ ok → exec .plannerCoastTimeout s = .next (settle s)) ∧
    (planFaulted s).st plannerFid = .faulted ∧ (planFaulted s).planner.running = false ∧
    (planFaulted s).planner.next = none) ∧
  (∀ s : State,
    let ok := s.st plannerFid = .starting ∧ s.planner.committed = false ∧
      (s.fn plannerFid).since + 5000000 ≤ s.mono ∧ atGrid (s.tdNs 0) 0 50000000 = true
    (ok → ∃ v, exec .plannerStartCommit s = .next (settle v) ∧ v.planner.committed = true ∧
      v.planner.lastSolved = s.mono ∧ v.planner.cycleTick = s.mono) ∧
    (¬ ok → exec .plannerStartCommit s = .next (settle s))) ∧
  (∀ s : State,
    let u := if planDue s then xPlannerCycle s else s
    let late := (s.fn plannerFid).since + 2500000000 ≤ s.mono
    let done := late ∨ (u.planner.issued = false ∨ atFallback u = true) ∧ u.planner.cycleTick = s.mono
    let v := if u.planner.issued = true ∧ late then
        pspIssue u false (((planPsps u).filter (pmRamp ·)).map fun d => (pmPsp d, pmFallback d)) else u
    let fin (w : State) : State := finishStop planCheck planCommit plannerFid w
    let ends (w : State) : Prop := exec .plannerStopComplete s = .next (settle w)
    (s.st plannerFid ≠ .stopping → ends s) ∧
    (s.st plannerFid = .stopping → ¬ done → ends u) ∧
    (s.st plannerFid = .stopping → done → (s.fn plannerFid).toFault = false → ends (fin (returnSrc v 128))) ∧
    (s.st plannerFid = .stopping → done → (s.fn plannerFid).toFault = true →
      ends (emitFault { fin v with planner := { (fin v).planner with issued := true } } 0x0601 plannerFid
        (b1 3 ++ zeros 3)))) ∧
  (∀ (j : Nat) (s : State),
    let ok := planActive s = true ∧ (s.cv j).overSent = false ∧ ∃ t, (s.cv j).overFrom = some t ∧ t + 500000000 ≤ s.mono
    (ok → exec (.cvOverLimitTimeout j) s = .next (emit (s.setCv j { s.cv j with overSent := true })
      0x0602 plannerFid (b1 j ++ zeros 3 ++ leF (s.cv j).meas))) ∧
    (¬ ok → exec (.cvOverLimitTimeout j) s = .next s))

/-- The steering angle of R237 (its arc tangent is opaque, log entry 5). GUIDANCE_INSTANT, at an instant not yet had,
brings the geometry of pose and path, or of edge and ego-motion, where they are there (else the row's stands, log entry
61): once committed, guidance issues the angle of the instant before, which ends STARTING, and computes the next; a loss
of ego-motion, the end of the path, or too much lateral offset then faults it with causes 4, 3 and 2; in STOPPING and
FAULTED it takes a step of the release action. Dead reckoning begins when pose or edge is stale and ends in cause 1. The
instants begin 20 ms after START's check; a stop completes with its release action done, or after 10 s. A pose of the
source in force that R238 accepts becomes the pose in use, moved to the machine frame's origin, and in path mode ends
dead reckoning; one not later than it is discarded and counted. YIELD_CONFIG takes force at a boundary of the cut
interval in progress, with none at one of its own; disabled, yield has no interval. Else each of these rows changes
nothing of its own. -/
def Obligations.GuidanceAndYield : Prop :=
  (∀ (d : Bytes) (ey ePsi kap : F32),
    let a := fClamp (fFma (fNeg (gdKpsi d)) ePsi (fFma (fNeg (gdKy d)) ey (Config.atan (fMul (gdWheelbase d) kap))))
      (fNeg (gdDelta d)) (gdDelta d)
    steer d ey ePsi kap = if gdRear d then fNeg a else a) ∧
  (∀ (ey ePsi kap sNear : F32) (past : Bool) (n : Nat) (s : State),
    let row : GuidGeom := { ey := ey, ePsi := ePsi, kap := kap, sNear := sNear, beyondEnd := past, retire := n }
    let d := s.guidCfg
    let live := (s.st guidFid).live = true
    let ok := guidDue s = true ∧ (s.guid.committed = true → live → ∀ x, guidGeom s = some x → row = x)
    let fresh := (goodTick s).any fun t => decide (s.mono < t + 250000 * gdPoseStale d)
    let u := guidIssue s
    let v : State := { u with guid := { u.guid with
      tick := s.mono, ey := ey, kap := kap, sNear := sNear, angle := some (steer d ey ePsi kap)
      path := if gdMode d = 1 then s.guid.path.drop n else s.guid.path
      dr := if gdMode d ≠ 1 ∧ fresh = true then none else s.guid.dr } }
    (¬ ok ∨ (s.st guidFid).idle = true ∨ live ∧ s.guid.committed = false →
      exec (.guidanceInstant ey ePsi kap sNear past n) s = .next (settle s)) ∧
    (ok → live → s.guid.committed = true → exec (.guidanceInstant ey ePsi kap sNear past n) s = .next (settle
      (if s.fus.ego.mode = 0 then guidLost v 4
       else if gdMode d = 1 ∧ past = true then guidLost v 3
       else if fLt (gdXte d) (fAbs ey) then guidLost v 2 else v))) ∧
    (ok → s.st guidFid = .stopping ∨ s.st guidFid = .faulted →
      exec (.guidanceInstant ey ePsi kap sNear past n) s =
        .next (settle (releaseStep { s with guid := { s.guid with tick := s.mono } })))) ∧
  (∀ s : State, (s.guid.angle = none → guidIssue s = s) ∧
    (∀ a, s.guid.angle = some a → let u := guidIssue s
      u.guid.issued = true ∧ pspVal u (gdPsp s.guidCfg) = a ∧ (∀ p, p ≠ gdPsp s.guidCfg → pspVal u p = pspVal s p) ∧
      u.st guidFid = if s.st guidFid = .starting then .running else s.st guidFid)) ∧
  (∀ s : State,
    let ok := guidLive s = true ∧ s.guid.committed = true ∧ s.guid.dr = none ∧
      ∀ t, goodTick s = some t → t + 250000 * gdPoseStale s.guidCfg ≤ s.mono
    (ok → exec .poseStaleExpiry s =
      .next (emit { s with guid := { s.guid with dr := some s.mono } } 0x0604 guidFid (zeros 4))) ∧
    (¬ ok → exec .poseStaleExpiry s = .next s)) ∧
  (∀ s : State,
    let ok := guidLive s = true ∧ ∃ t, s.guid.dr = some t ∧ t + 250000 * gdDrLimit s.guidCfg < s.mono
    (ok → exec .drLimitExpiry s = .next (settle (guidLost s 1))) ∧
    (¬ ok → exec .drLimitExpiry s = .next (settle s))) ∧
  (∀ (s : State) (c : Nat), (guidLost s c).st guidFid = .faulted ∧ (guidLost s c).guid.angle = none) ∧
  (∀ s : State,
    let ok := s.st guidFid = .starting ∧ s.guid.committed = false ∧ (s.fn guidFid).since + 5000000 ≤ s.mono ∧
      atGrid (s.tdNs 0) 0 10000000 = true
    (ok → exec .guidanceStartCommit s = .next { s with guid := { s.guid with committed := true } }) ∧
    (¬ ok → exec .guidanceStartCommit s = .next s)) ∧
  (∀ s : State,
    let u := if guidDue s then releaseStep { s with guid := { s.guid with tick := s.mono } } else s
    let done := gdRelease s.guidCfg = false ∨ fEq (pspVal u (gdPsp s.guidCfg)) f0 = true ∨
      (s.fn guidFid).since + 2500000000 ≤ s.mono
    let fin (w : State) : State := finishStop guidCheck guidCommit guidFid w
    let ends (w : State) : Prop := exec .guidanceStopComplete s = .next (settle w)
    (s.st guidFid ≠ .stopping → ends s) ∧
    (s.st guidFid = .stopping → ¬ done → ends u) ∧
    (s.st guidFid = .stopping → done → (s.fn guidFid).toFault = false → ends (fin (returnSrc u 129))) ∧
    (s.st guidFid = .stopping → done → (s.fn guidFid).toFault = true →
      ends (raise (emitFault (fin u) 0x0603 guidFid (b1 0 ++ zeros 3 ++ leF (fin u).guid.ey)) 129 0))) ∧
  (∀ (udp : Bool) (port ident : Nat) (raw : Bytes) (s : State),
    let d := poseCfg s
    let t := rdT raw 4
    let ofSource := if udp then psTransport d = 2 ∧ psPort d = port ∧ psUdp d = ident ∧ raw.length = 40
      else psTransport d = 1 ∧ psPort d = port ∧ psId d = ident ∧ 40 ≤ raw.length
    let ok := fwRuns s = true ∧ ofSource ∧ poseGood d raw = true
    let later := ∀ q, s.guid.pose = some q → T96.lt q.time t = true
    let o := turn (rdF raw 24) (rdF d 8) (rdF d 12)
    let q : Pose :=
      { time := t, tick := tickOfNs s (T96.toNs t), got := s.mono, e := fSub (rdF raw 16) o.1
        n := fSub (rdF raw 20) o.2, heading := rdF raw 24 }
    (ok → ¬ later → exec (.poseReceived udp port ident raw) s =
      .next { s with guid := { s.guid with discards := s.guid.discards + 1 } }) ∧
    (ok → later → exec (.poseReceived udp port ident raw) s = .next { s with
      guid := { s.guid with pose := some q, dr := if gdMode s.guidCfg = 1 then none else s.guid.dr } }) ∧
    (¬ ok → exec (.poseReceived udp port ident raw) s = .next s)) ∧
  (∀ s : State, s.yield.pend = none → exec .yieldConfigCommit s = .next s) ∧
  (∀ (p : Bytes) (s : State), s.yield.pend = some p →
    let at_ (d : Bytes) : Prop := s.tdNs 0 % (1000000 * yPeriod d) < 8
    let ok := at_ (s.yield.cur.elim p (·.cfg))
    let was := yEnable (yieldCfg s) = true
    let u := if yEnable (yieldCfg s) then cutEnd s.mono s else s
    let v : State := { u with yield := { u.yield with
      cfg := some p, pend := none, num := if yEnable (yieldCfg s) then u.yield.num else 0
      done := if yEnable (yieldCfg s) then u.yield.done else [] } }
    (¬ ok → exec .yieldConfigCommit s = .next s) ∧
    (ok → yEnable p = false → exec .yieldConfigCommit s = .next { u with
      yield := { u.yield with cfg := some p, pend := none, cur := none, done := [] } }) ∧
    (ok → yEnable p = true → at_ p → exec .yieldConfigCommit s = .next (cutBegin s.now s.mono v)) ∧
    (ok → yEnable p = true → ¬ at_ p → exec .yieldConfigCommit s = .next v))

/-! ## Protected load channels (chapter 08) -/

/-- LSW_COMMAND: the first entry of a channel named twice, of a loop source or of a value outside its mode makes the whole
command BAD_PARAM; else every value is taken, in ascending channel order: it ends the channel's own hold, and comes into
force on a committed channel that neither a loop nor a safe action commands. LSW_STATUS answers the entries and changes
nothing. LSW_CLEAR: status 0x80 with the wait when a named locked channel is above half its budget, and nothing
released; else every named latch and lock is released, with the command at 0.0 and the gust and THERMAL counts reset. -/
def Obligations.ChannelCommands : Prop :=
  (∀ (h : Hdr) (p : Bytes) (s : State), Accepted opLswCommand h p 0 s →
    let b := atBody s h
    (∀ o, cmdBad b [] (cmdEntries p) = some o →
      exec (.lswCommand h p) s = .next (settle (replied h 0x0701 p (badParam b o)))) ∧
    (cmdBad b [] (cmdEntries p) = none → exec (.lswCommand h p) s = .next (settle (replied h 0x0701 p
      (okAns ((((cmdEntries p).map fun e => (e.1, e.2.1)).foldr insertCmd []).foldl cmdTo b)))))) ∧
  (∀ (s : State) (l : List (Nat × F32 × Nat)),
    let bad (i : Nat) (e : Nat × F32 × Nat) : Prop := (∃ (j : Nat) (f : Nat × F32 × Nat), j < i ∧ l[j]? = some f ∧
      f.1 = e.1) ∨ cSrc (s.stg (.chan e.1)) = 1 ∨ cmdValid (s.stg (.chan e.1)) e.2.1 = false
    (cmdBad s [] l = none ↔ ∀ (i : Nat) (e : Nat × F32 × Nat), l[i]? = some e → ¬ bad i e) ∧
    (∀ o, cmdBad s [] l = some o → ∃ (i : Nat) (e : Nat × F32 × Nat), l[i]? = some e ∧ e.2.2 = o ∧ bad i e ∧
      ∀ (j : Nat) (f : Nat × F32 × Nat), j < i → l[j]? = some f → ¬ bad j f)) ∧
  (∀ (s : State) (k : Nat) (v : F32),
    let c := s.chan k
    let x := { c with hold := if lockGroup s k = none then none else c.hold, host := v }
    let acts := c.committed = true ∧ cSrc (s.chCfg k) = 0 ∧ c.forced = none
    (acts → cmdTo s (k, v) = setCmd (s.setChan k x) k v) ∧
    (¬ acts → cmdTo s (k, v) = s.setChan k x)) ∧
  (∀ (h : Hdr) (p : Bytes) (s : State), Accepted opLswStatus h p (12 + 32 * byteAt p 1) s →
    exec (.lswStatus h p) s = .next (replied h 0x0702 p (okWith (atBody s h)
      (leT s.now ++ (List.range (byteAt p 1)).flatMap fun i => chanEntry s (byteAt p 0 + i))))) ∧
  (∀ (h : Hdr) (p : Bytes) (s : State), Accepted opLswClear h p 0 s →
    let b := atBody s h
    let l := (List.range 24).filter fun k => (rd p 0 4).testBit k
    let wait (k : Nat) : Nat := hotTicks b (halfBudget b k) (clampsNow b k).reverse
    ((∀ k ∈ l, clampHot b k = false) →
      exec (.lswClear h p) s = .next (settle (replied h 0x0703 p (okAns (l.foldl clearChan b))))) ∧
    ((∃ k ∈ l, clampHot b k = true) → ∃ t, (∀ k ∈ l, clampHot b k = true → wait k ≤ t) ∧
      (∃ j ∈ l, clampHot b j = true ∧ wait j = t) ∧ exec (.lswClear h p) s =
        .next (settle (replied h 0x0703 p (failAns b 0x80 (min 10000 ((t + 249999) / 250000))))))) ∧
  (∀ (s : State) (k : Nat),
    let c := s.chan k
    (c.latch = none → c.lock = none → clearChan s k = s) ∧
    (c.latch ≠ none ∨ c.lock ≠ none →
      let x := (clearChan s k).chan k
      x.latch = none ∧ x.lock = none ∧ x.charged = 0 ∧ x.uncharged = 0 ∧ x.cmd = f0 ∧
      x.drive = (if c.committed then .off else .idle) ∧ x.committed = c.committed ∧
      (cSrc (s.chCfg k) ≠ 1 → x.host = f0) ∧ (cSrc (s.chCfg k) = 1 → x.waitCommit = true) ∧
      ((clearChan s k).die (dieOf k)).trips = [])) ∧
  (∀ (s : State) (half : F32), hotTicks s half [] = 0 ∧ ∀ (e : Nat × F32) (l : List (Nat × F32)),
    (fLe (fSum ((e :: l).map (·.2))) half = true → hotTicks s half (e :: l) = 0) ∧
    (fLe (fSum ((e :: l).map (·.2))) half = false →
      hotTicks s half (e :: l) = max (e.1 + 2500000000 - s.mono) (hotTicks s half l)))

/-- A channel's commit, stop and hold. At the commit instant it is RUNNING and acts on its command, the host value for a
host source and 0 A for a loop; before it the row does nothing. A stop ends with the clamp event or 50 ms after STOP,
and OFF clears the host value. A hold that runs out takes the safe action and FAULTED. Turn-ons and PWM: a turn-on
waits at the die gate while it is closed, then at the stud gate in the order of requests; modes 1 and 4 begin a gust.
A period's duty and on-time are taken at its start, a carrier instant; mode 4 holds the lamp's power constant, capped
at 1.0; what mode 2 does before its first period is the model's choice (log entry 35), and mode 3's effective duty is
the regulator's and free. At its end the output goes off. The gates' rows take their mean currents. The switching
counts are stored every 10 min. Else each of these rows changes nothing of its own. -/
def Obligations.ChannelLifecycle : Prop :=
  (∀ (k : Nat) (s : State),
    let due := match (s.chan k).carrier, (s.chan k).commitNs with
      | some (d, _), some n => decide (n ≤ s.tdNs d)
      | _, _ => decide ((s.chan k).commitTick ≤ s.mono)
    (s.st (chFid k) ≠ .starting ∨ due = false → exec (.channelStartCommit k) s = .next (settle s)) ∧
    (s.st (chFid k) = .starting → due = true → ∃ u, exec (.channelStartCommit k) s = .next (settle u) ∧
      u.st (chFid k) = .running ∧ (u.chan k).committed = true ∧
      (u.chan k).cmd = (if cSrc (s.chCfg k) = 0 then (s.chan k).host else f0))) ∧
  (∀ (k : Nat) (s : State),
    let f := s.fn (chFid k)
    let ok := f.st = .stopping ∧ ((s.chan k).clamping = false ∨ f.since + 12500000 ≤ s.mono)
    (ok → f.toFault = true → exec (.channelStopComplete k) s =
      .next (settle (finishStop (chanCheck · k) (chanCommit · k) (chFid k) s))) ∧
    (ok → f.toFault = false → exec (.channelStopComplete k) s =
      .next (settle (finishStop (chanCheck · k) (chanCommit · k) (chFid k) (chanOff s k)))) ∧
    (¬ ok → exec (.channelStopComplete k) s = .next (settle s))) ∧
  (∀ (k : Nat) (s : State), ((chanOff s k).chan k).host = f0 ∧ ((chanOff s k).chan k).committed = false) ∧
  (∀ (chk : State → State × Verdict) (cmt : State → State) (f : Nat) (s : State), (s.fn f).pend = none →
    (finishStop chk cmt f s).st f = if (s.fn f).toFault then .faulted else .off) ∧
  (∀ (k : Nat) (s : State),
    let ok := (s.st (chFid k)).live = true ∧ ∃ t, (s.chan k).hold = some t ∧ t + 250000 * chanHoldMs s k ≤ s.mono
    (ok → exec (.channelHoldExpiry k) s = .next (settle (changeState (chanSafe
      (s.setChan k { s.chan k with hold := none }) k) (chFid k) .faulted))) ∧
    (¬ ok → exec (.channelHoldExpiry k) s = .next (settle s))) ∧
  (∀ (k : Nat) (s : State),
    (cSafe (s.chCfg k) = 0 → chanSafe s k = setCmd (s.setChan k { s.chan k with forced := some f0 }) k f0) ∧
    (cSafe (s.chCfg k) = 1 → chanSafe s k = s) ∧
    (cSafe (s.chCfg k) = 2 → chanSafe s k =
      setCmd (s.setChan k { s.chan k with forced := some (cSafeV (s.chCfg k)) }) k (cSafeV (s.chCfg k)))) ∧
  (∀ (k : Nat) (v : F32) (s : State),
    let d := s.chCfg k
    let ok := chanFree s k = true ∧ 2 ≤ cMode d ∧ periodDue s k = true
    let x := { s.chan k with periodAt := s.mono, periodNone := false, onFrom := s.mono, periodLen := cT d }
    let w := s.setChan k x
    let runs := x.drive = .on ∧ x.gust = false
    let dc := periodDuty d x.cmd v
    let u := onTime k d dc.1
    (¬ ok → exec (.pwmPeriodStart k v) s = .next s) ∧
    (ok → ¬ runs → exec (.pwmPeriodStart k v) s = .next w) ∧
    (ok → runs → cMode d ≠ 3 → exec (.pwmPeriodStart k v) s = .next (w.setChan k
      { x with onUnits := u, conducting := decide (0 < u), turnOn := false, capped := dc.2
               duty := fDiv (fOfNat (5 * u)) (fOfNat (2 * cT d)) })) ∧
    (ok → runs → cMode d = 3 → exec (.pwmPeriodStart k v) s = .next ({ w with nonce := s.nonce + 1 }.setChan k
      { x with conducting := true, turnOn := false, duty := Config.freeF32 s.nonce }))) ∧
  (∀ (d : Bytes) (cmd v : F32), (cMode d = 2 → periodDuty d cmd v = (cmd, false)) ∧
    (cMode d = 4 → periodDuty d cmd v =
      (fMin (fMul cmd (fMul (fDiv (cVnom d) v) (fDiv (cVnom d) v))) f1,
       fLt f1 (fMul cmd (fMul (fDiv (cVnom d) v) (fDiv (cVnom d) v)))))) ∧
  (∀ (k : Nat) (d : Bytes) (dc : F32), (fLe dc f0 = true → onTime k d dc = 0) ∧
    (fLe dc f0 = false → fLe f1 dc = true → onTime k d dc = cT d * 2 / 5) ∧
    (fLe dc f0 = false → fLe f1 dc = false → onTime k d dc =
      min (max (fScaleRound dc (cT d * 2) 5) (tMin k)) (cT d * 2 / 5 - tMin k))) ∧
  (∀ (k : Nat) (s : State),
    let c := s.chan k
    let d := s.chCfg k
    let ok := c.drive = .on ∧ c.conducting = true ∧ c.gust = false ∧ 2 ≤ cMode d ∧
      (cMode d = 3 ∨ 5 * c.onUnits < 2 * c.periodLen ∧ 5 * c.onUnits ≤ (s.mono - c.onFrom) * 8)
    (ok → exec (.pwmOnTimeEnd k) s = .next (s.setChan k { c with conducting := false })) ∧
    (¬ ok → exec (.pwmOnTimeEnd k) s = .next s)) ∧
  (∀ (k : Nat) (s : State),
    let c := s.chan k
    let m := cMode (s.chCfg k)
    let ok := chanFree s k = true ∧ (c.drive = .off ∨ c.drive = .idle) ∧ fEq c.cmd f0 = false
    let g := s.setChan k { c with gust := true, gustAt := s.mono, charged := 0, uncharged := 0 }
    (ok → m = 1 ∨ m = 4 → turnOn s k = requestOn g k) ∧
    (ok → m ≠ 1 → m ≠ 4 → turnOn s k = requestOn s k) ∧
    (¬ ok → turnOn s k = s)) ∧
  (∀ (k : Nat) (s : State),
    let c := s.chan k
    let v := studOf k
    let x := s.stud v
    (dieOpen s k = false → requestOn s k =
      s.setChan k { c with drive := if c.drive = .retryWait then .retryWait else .gateWait, dieWait := true }) ∧
    (dieOpen s k = true → x.queue = [] → gateAdmits s k = true → requestOn s k = grantOn s k) ∧
    (dieOpen s k = true → x.queue ≠ [] ∨ gateAdmits s k = false → requestOn s k =
      (s.setStud v { x with queue := insertReq (s.mono, k) x.queue }).setChan k
        { c with drive := .gateWait, dieWait := false, studWait := true, retryFrom := none })) ∧
  (∀ (k : Nat) (s : State),
    let c := (grantOn s k).chan k
    (perturb s 6 k = none → c.drive = .on ∧ c.conducting = decide (0 < firstUnits s k) ∧
      c.onUnits = firstUnits s k ∧ c.turnOn = true ∧ c.cycles = satN 4 ((s.chan k).cycles + 1)) ∧
    (perturb s 6 k ≠ none → c.drive = .limit ∧ c.conducting = false ∧ c.didt = fOfNat 50 ∧ c.limitAt = s.mono)) ∧
  (∀ (k : Nat) (s : State), let d := s.chCfg k
    (cMode d = 2 → firstUnits s k = onTime k d (s.chan k).cmd) ∧ (cMode d = 3 → firstUnits s k = 0) ∧
    (cMode d ≠ 2 → cMode d ≠ 3 → firstUnits s k = cT d * 2 / 5)) ∧
  (∀ (v : Nat) (ms : List F32) (s : State), exec (.studGateAdmit v ms) s = .next (settle (admitStud
    (((studChans v).zip ms).foldl (fun s e => s.setChan e.1 { s.chan e.1 with meanA := e.2 }) s) v))) ∧
  (∀ s : State, admitQueue s [] = s ∧ ∀ (t k : Nat) (r : List (Nat × Nat)),
    (dieOpen s k = true → gateAdmits s k = true →
      admitQueue s ((t, k) :: r) = admitQueue (chanDo s k fun s => grantOn s k) r) ∧
    (dieOpen s k = true → gateAdmits s k = false → admitQueue s ((t, k) :: r) = s) ∧
    (dieOpen s k = false → admitQueue s ((t, k) :: r) = admitQueue
      ((unqueue s k).setChan k { s.chan k with dieWait := true, studWait := false }) r)) ∧
  (∀ (v : Nat) (m : F32) (s : State),
    let x := { s.stud v with meanA := m }
    let event (b : Nat) (t : State) : State := emit t 0x0204 0xFFFF (b1 v ++ b1 b ++ zeros 2 ++ leF m)
    (x.closed = false → fLt (fOfNat 70) m = true → exec (.studCurrentGate v m) s =
      .next (settle (event 1 ((s.setStud v x).setStud v { x with closed := true })))) ∧
    (x.closed = false → fLt (fOfNat 70) m = false → exec (.studCurrentGate v m) s = .next (settle (s.setStud v x))) ∧
    (x.closed = true → fLe m (fDec 665 10) = true → exec (.studCurrentGate v m) s =
      .next (settle (admitStud (event 0 ((s.setStud v x).setStud v { x with closed := false })) v))) ∧
    (x.closed = true → fLe m (fDec 665 10) = false → exec (.studCurrentGate v m) s =
      .next (settle (s.setStud v x)))) ∧
  (∀ s : State,
    let ok := s.lsw.storeAt + 150000000000 ≤ s.mono
    (ok → ∃ u, exec .switchingCyclesStore s = .next u ∧
      u.lsw.storeAt = s.mono ∧ ∀ k, k < 24 → (u.chan k).cyclesStored = (s.chan k).cycles) ∧
    (¬ ok → exec .switchingCyclesStore s = .next s))

/-- Current limit and shorts: a conducting channel in ON at I_LIMIT enters LIMIT with its di/dt; the sample 10 µs later
with a low output and a fast rise latches it SHORT, as does an output low for SHORT_CONFIRM, also where LIMIT_TIME or a
trip has ended the LIMIT at that instant; the latch opens a quiet window of 2 ms on the stud, during which the limit and
retry timers are paused. Leaving LIMIT in time ends the gust in success; so does a turn-on that never reached I_LIMIT
(log entry 30, the model's). LIMIT_TIME outside a gust latches OVERCURRENT, in a gust it ends the attempt: charged,
unless a quiet window fell into it and fewer than 8 were spared; the last allowed one latches GUST, else the next waits
RETRY_OFF. A die at +170 °C trips its channels, and the 16th trip in 60 s latches them; at +140 °C they go on; a sensor
fault latches them. Under- and over-voltage of the stud hold its channels off until it has stood right for UV_SETTLE.
Overload latches; open load is flagged and reported; clamp energy is summed over the event's samples, and one event or
the window of 10 s above its limit locks the channel; a missing free-wheel path is reported at most once in 10 s. Else
each of these rows changes nothing of its own. -/
def Obligations.ChannelProtection : Prop :=
  (∀ (k n : Nat) (s : State),
    let x := s.chan k
    let quiet := (s.stud (studOf k)).quietOpen
    let ok := chanFree s k = true ∧ x.drive = .on ∧ x.conducting = true
    (ok → exec (.currentLimitEntry k n) s = .next (s.setChan k { x with
      current := cILim (s.chCfg k), currentAt := some (s.mono / 250), drive := .limit
      didt := fDiv (fMul (fDec 8 10) (cILim (s.chCfg k))) (fDiv (fOfNat n) (fOfNat 1000)), limitAt := s.mono
      limRun := 0, limFrom := if quiet then none else some s.mono, shortTested := false, notLow := false
      quietSeen := x.quietSeen || quiet })) ∧
    (¬ ok → exec (.currentLimitEntry k n) s = .next s)) ∧
  (∀ (k : Nat) (s : State), inLimit s k = true ↔ (s.chan k).drive = .limit ∨ (s.chan k).limitLeft = some s.mono) ∧
  (∀ (k : Nat) (o v : F32) (s : State),
    let c := s.chan k
    let d := s.chCfg k
    let ok := inLimit s k = true ∧ c.shortTested = false ∧ c.limitAt + 2500 ≤ s.mono ∧ s.mono < c.limitAt + 2750
    let out := if (perturb s 6 k).isSome then f0 else o
    let low := fLt out (fMul (cFrac d) v)
    let t := (s.setStud (studOf k) { s.stud (studOf k) with volts := v, voltsAt := some (s.mono / 250) }).setChan k
      { c with vout := out, voutAt := some (s.mono / 250), shortTested := true, notLow := !low }
    (ok → (low && fLe (cDidt d) c.didt) = true →
      exec (.shortClassifyCheck k o v) s = .next (settle (shorted t k))) ∧
    (ok → (low && fLe (cDidt d) c.didt) = false → exec (.shortClassifyCheck k o v) s = .next (settle t)) ∧
    (¬ ok → exec (.shortClassifyCheck k o v) s = .next (settle s))) ∧
  (∀ (k : Nat) (s : State),
    let c := s.chan k
    let ok := inLimit s k = true ∧ c.notLow = false ∧ c.limitAt + 250 * cConfirm (s.chCfg k) ≤ s.mono
    (ok → exec (.shortConfirmExpiry k) s = .next (settle (shorted s k))) ∧
    (¬ ok → exec (.shortConfirmExpiry k) s = .next (settle s))) ∧
  (∀ (k : Nat) (s : State),
    let latch (t : State) : State := (latchNow t k 1).setChan k { (latchNow t k 1).chan k with latch := some 1 }
    let w := quietOpen (chanDo s k latch) (studOf k)
    (perturb w 6 k = none → shorted s k = w) ∧
    (∀ i x, perturb w 6 k = some (i, x) → shorted s k = slotEnd w i 4) ∧
    (w.chan k).latch = some 1 ∧ (w.chan k).conducting = false ∧ outState w k = 7) ∧
  (∀ (k c : Nat) (s : State), let x := (latchOff s k c).chan k
    x.latch = some ((s.chan k).latch.getD c) ∧ x.conducting = false ∧ x.gust = false ∧
    outState (latchOff s k c) k = 7) ∧
  (∀ (v : Nat) (s : State), ((quietOpen s v).stud v).quietOpen = true ∧
    ((quietOpen s v).stud v).quietUntil = s.mono + 500000 ∧
    ∀ k, k ∈ studChans v → ((quietOpen s v).chan k).limFrom = none ∧ ((quietOpen s v).chan k).retryFrom = none ∧
      ((quietOpen s v).chan k).limRun = ran s (s.chan k).limRun (s.chan k).limFrom) ∧
  (∀ (v : Nat) (s : State),
    let ok := (s.stud v).quietOpen = true ∧ (s.stud v).quietUntil ≤ s.mono
    (ok → ∃ u, exec (.quietWindowExpiry v) s = .next u ∧ (u.stud v).quietOpen = false ∧
      ∀ k, k ∈ studChans v → ((s.chan k).drive = .limit → (u.chan k).limFrom = some s.mono) ∧
        ((s.chan k).drive = .retryWait → (s.chan k).dieWait = false → (u.chan k).retryFrom = some s.mono)) ∧
    (¬ ok → exec (.quietWindowExpiry v) s = .next s)) ∧
  (∀ (k : Nat) (s : State),
    let c := s.chan k
    let ok := c.drive = .limit ∨ c.drive = .on ∧ c.turnOn = true
    (ok → exec (.limitExit k) s = .next (settle (gustEnd (s.setChan k { c with
      drive := .on, turnOn := false, attempt := false, limFrom := none, limRun := 0 }) k 0))) ∧
    (¬ ok → exec (.limitExit k) s = .next (settle s))) ∧
  (∀ (k : Nat) (s : State),
    let c := s.chan k
    let ok := c.drive = .limit ∧ 250000 * cLimTime (s.chCfg k) ≤ ran s c.limRun c.limFrom
    let t := s.setChan k { c with limitLeft := some s.mono }
    (ok → c.gust = false → exec (.limitTimeExpiry k) s = .next (settle (latchOff t k 3))) ∧
    (ok → c.gust = true → exec (.limitTimeExpiry k) s = .next (settle (chanDo t k fun s => attemptEnd s k))) ∧
    (¬ ok → exec (.limitTimeExpiry k) s = .next (settle s))) ∧
  (∀ (k : Nat) (s : State),
    let c := s.chan k
    let x := (attemptEnd s k).chan k
    let spared := c.quietSeen = true ∧ c.uncharged < 8
    let waits := x.drive = .retryWait ∧ x.retryFrom = if (s.stud (studOf k)).quietOpen then none else some s.mono
    (spared → x.uncharged = c.uncharged + 1 ∧ x.charged = c.charged ∧ waits) ∧
    (¬ spared → x.charged = c.charged + 1 ∧ x.uncharged = c.uncharged ∧
      (1 + cRetries (s.chCfg k) ≤ c.charged + 1 → x.latch = some (c.latch.getD 2)) ∧
      (c.charged + 1 < 1 + cRetries (s.chCfg k) → waits))) ∧
  (∀ (k : Nat) (s : State),
    let c := s.chan k
    let ok := c.drive = .retryWait ∧ c.dieWait = false ∧
      250000 * cRetryOff (s.chCfg k) ≤ ran s c.retryRun c.retryFrom
    (ok → chanFree s k = true → exec (.retryOffExpiry k) s = .next (settle (chanDo s k fun s => requestOn s k))) ∧
    (ok → chanFree s k = false → exec (.retryOffExpiry k) s =
      .next (settle (s.setChan k { c with dieWait := true, retryFrom := none }))) ∧
    (¬ ok → exec (.retryOffExpiry k) s = .next (settle s))) ∧
  (∀ (d : Nat) (t : F32) (s : State),
    let x := s.die d
    let w := s.setDie d { x with temp := t, sampled := true, sampleNo := s.mono / 2500 }
    let hot := fLe (fOfNat 170) t = true ∧ x.tooHot = false
    let recent := x.trips.filter fun y => decide (s.mono < y + 15000000000)
    let trip := w.setDie d { w.die d with tooHot := true, trips := s.mono :: recent }
    let bad := fLt t (fOfInt (-55)) || fLt (fOfNat 200) t || fIsNaN t ||
      fLt (fOfNat 20) (fAbs (fSub t (dieAt s d (s.mono / 2500 - 1))))
    (¬ hot → exec (.dieOverTemperature d t) s = .next (settle w)) ∧
    (hot → 15 ≤ recent.length → exec (.dieOverTemperature d t) s =
      .next (settle (latchOff (latchOff trip (2 * d) 5) (2 * d + 1) 5))) ∧
    (hot → recent.length < 15 → exec (.dieOverTemperature d t) s =
      .next (settle (tripChan (tripChan trip (2 * d)) (2 * d + 1)))) ∧
    (fLe t (fOfNat 140) = true → exec (.dieGateOpen d t) s = .next (settle
      (coolChan (coolChan (w.setDie d { w.die d with tooHot := false }) (2 * d)) (2 * d + 1)))) ∧
    (fLe t (fOfNat 140) = false → exec (.dieGateOpen d t) s = .next (settle w)) ∧
    (bad = true → exec (.dieSensorFault d t) s = .next (settle (latchOff (latchOff w (2 * d) 6) (2 * d + 1) 6))) ∧
    (bad = false → exec (.dieSensorFault d t) s = .next (settle w))) ∧
  (∀ (k : Nat) (s : State),
    let c := s.chan k
    let x := (tripChan s k).chan k
    (c.latch ≠ none ∨ c.lock ≠ none → tripChan s k = s) ∧
    (c.latch = none → c.lock = none → x.thermal = true ∧
      (c.gust = true ∧ (c.drive = .on ∨ c.drive = .limit) ∨ c.gust = false ∧ c.committed = true →
        x.conducting = false) ∧
      (c.gust = true → c.drive = .gateWait → x.dieWait = true ∧ x.studWait = false))) ∧
  (∀ (v : Nat) (x : F32) (s : State), ∃ u, exec (.studUnderVoltage v x) s = .next (settle u) ∧
    (u.stud v).volts = x ∧ (u.stud v).voltsAt = some (s.mono / 250) ∧ (u.stud v).level = some x ∧
    ∀ k, k ∈ studChans v →
      let below := (s.chan k).committed = true ∧ (s.chan k).uv = false ∧ fLt x (cUvOff (s.chCfg k)) = true
      (below → (u.chan k).uv = true ∧ (u.chan k).conducting = false ∧ (u.chan k).gust = false ∧
        (u.chan k).supplyAt = s.mono) ∧
      (¬ below → u.chan k = s.chan k)) ∧
  (∀ (v : Nat) (x : F32) (m : Bool) (s : State),
    (fLt (fOfNat (if m then 34 else 40)) x = true → ∃ u, exec (.studOverVoltage v x m) s = .next (settle u) ∧
      (u.stud v).ov = true ∧ (u.stud v).ovAt = s.mono ∧
      ∀ k, k ∈ studChans v → (s.chan k).committed = true → (s.chan k).ov = false →
        (u.chan k).ov = true ∧ (u.chan k).conducting = false) ∧
    (fLt (fOfNat (if m then 34 else 40)) x = false → exec (.studOverVoltage v x m) s = .next (settle
      (if m then s else s.setStud v { s.stud v with volts := x, voltsAt := some (s.mono / 250) })))) ∧
  (∀ (v : Nat) (q : StudSpan) (s : State),
    let noOver := fLe q.mean (fOfNat 33) && fLe q.high (fOfNat 40)
    let lasts (since ms : Nat) : Bool := decide (q.ns ≤ 4 * (s.mono - since)) && decide (1000000 * ms ≤ q.ns)
    let held := (studChans v).filter fun k => (s.chan k).ov
    let wait := held.foldl (fun m k => max m (cUvSettle (s.chCfg k))) (if held.isEmpty then 50 else 0)
    ∃ u, exec (.studSupplySettled v q) s = .next (settle u) ∧ (u.stud v).level = some q.low ∧
      (u.stud v).ov = ((s.stud v).ov && !(noOver && lasts (s.stud v).ovAt wait)) ∧
      ∀ k, k ∈ studChans v →
        let c := s.chan k
        let t := cUvSettle (s.chCfg k)
        let right := (c.uv = true ∨ c.ov = true) ∧ (c.uv = true → fLe (cUvOn (s.chCfg k)) q.low = true) ∧
          (c.ov = true → noOver = true ∧ lasts (s.stud v).ovAt t = true) ∧ lasts c.supplyAt t = true
        (right → (u.chan k).uv = false ∧ (u.chan k).ov = false) ∧ (¬ right → u.chan k = c)) ∧
  (∀ (k : Nat) (m : F32) (s : State),
    let c := s.chan k
    let ok := c.committed = true ∧ c.latch = none ∧ c.lock = none ∧
      fLt (fMul (fDec 11 10) (cICont (s.chCfg k))) m = true
    (ok → exec (.channelOverload k m) s = .next (settle (latchOff s k 4))) ∧
    (¬ ok → exec (.channelOverload k m) s = .next (settle s))) ∧
  (∀ (k : Nat) (b : Bool) (i : F32) (s : State),
    let c := s.chan k
    let io := cIOpen (s.chCfg k)
    let ok := outState s k = 2 ∧ fLt f0 io = true ∧
      (cMode (s.chCfg k) ≠ 3 ∨ fLe (fMul (fOfNat 2) io) c.cmd = true)
    let w := s.setChan k { c with current := i, currentAt := some (s.mono / 250) }
    let opens := b = true ∧ fLt i io = true ∧ c.openLoad = false
    let closes := b = false ∧ fLe io i = true
    (ok → opens → exec (.openLoadDetect k b i) s = .next (settle (emitFault
      (w.setChan k { w.chan k with openLoad := true }) 0x0704 (chFid k) (leF i)))) ∧
    (ok → closes → exec (.openLoadDetect k b i) s =
      .next (settle (w.setChan k { w.chan k with openLoad := false }))) ∧
    (ok → ¬ opens → ¬ closes → exec (.openLoadDetect k b i) s = .next (settle w)) ∧
    (¬ ok → exec (.openLoadDetect k b i) s = .next (settle s))) ∧
  (∀ (k : Nat) (s : State),
    let c := s.chan k
    let ok := c.conducting = false ∧ c.clamping = false
    (ok → exec (.clampEventBegin k) s = .next (s.setChan k { c with clamping := true, clampAt := s.mono })) ∧
    (¬ ok → exec (.clampEventBegin k) s = .next s)) ∧
  (∀ (k : Nat) (l : List ClampSample) (s : State),
    let c := s.chan k
    let d := s.chCfg k
    let e := clampEnergy l
    let ok := c.clamping = true ∧ clampWhole s k l = true
    let w := s.setChan k { c with clamping := false, clamps := (s.mono, e) :: clampsNow s k }
    let missing := decide (cKind d = 1) && fLt (fDec 1 1000) e
    let first := c.freeAt.all fun t => decide (t + 2500000000 ≤ s.mono)
    let seen := if missing then w.setChan k { w.chan k with freeSeen := some s.mono } else w
    let v := if missing && first then
        emitFault (seen.setChan k { seen.chan k with freeAt := some s.mono }) 0x0703 (chFid k) (leF e)
      else seen
    (ok → fLt (eSingle k) e = true → exec (.clampEventEnd k l) s = .next (settle (lockOff v k 8))) ∧
    (ok → fLt (eSingle k) e = false → fLe (cEBudget d) (clampWindow v k) = true →
      exec (.clampEventEnd k l) s = .next (settle (lockOff v k 7))) ∧
    (ok → fLt (eSingle k) e = false → fLe (cEBudget d) (clampWindow v k) = false →
      exec (.clampEventEnd k l) s = .next (settle v)) ∧
    (¬ ok → exec (.clampEventEnd k l) s = .next (settle s))) ∧
  (∀ l : List ClampSample, clampEnergy l =
    fSum (l.map fun x => fMul (fMul (fSub x.stud x.out) x.current) (fDec 1 1000000))) ∧
  (∀ (k c : Nat) (s : State), let x := (lockOff s k c).chan k
    x.lock = some ((s.chan k).lock.getD c) ∧ x.conducting = false ∧
    outState (lockOff s k c) k = if (s.chan k).latch.isSome then 7 else 8) ∧
  (∀ (k : Nat) (s : State), exec (.clampWindowAgeOut k) s = .next (s.setChan k { s.chan k with
    clamps := (s.chan k).clamps.filter fun e => decide (s.mono < e.1 + 2500000000) }))

/-! ## Alignment and fusion grid (chapter 09) -/

/-- The fusion opcodes. FUS_CONFIG part 0 waits for the next ego instant, while grid and guidance are OFF or CONFIG; else
it is WRONG_STATE. FUS_WEIGHTS takes contiguous blocks of a slot that the grid does not use, and on the last checks
length, CRC-32C and header before it is DEFERRED; a block answered with an error has no effect (that a slot on its way
to flash is BUSY, and how an offset above 0xFFFF shows, is the model's choice, log entry 60). The image in flash loads
the slot with WEIGHTS_STORED. FUS_HEAD_POLICY is staged and applied together; for 1 ms what governed before goes on.
FUS_STATUS answers what stands and changes nothing. -/
def Obligations.FusionCommands : Prop :=
  (∀ (h : Hdr) (p : Bytes) (s : State), Accepted opFusConfig h p 0 s → byteAt p 0 = 0 →
    let b := atBody s h
    let e := { s.fus.ego with pend := some p }
    (egoFree s = true → exec (.fusConfig h p) s = .next (settle (replied h 0x0800 p (okAns (b.setEgo
      (if (byteAt p 2).testBit 0 then { e with stored := some p } else e)))))) ∧
    (egoFree s = false → exec (.fusConfig h p) s = .next (settle (replied h 0x0800 p (failAns b stWrongState 0))))) ∧
  (∀ s : State, egoFree s = true ↔ (s.st fusFid = .off ∨ s.st fusFid = .config) ∧
    (s.st guidFid = .off ∨ s.st guidFid = .config)) ∧
  (∀ (h : Hdr) (p : Bytes) (s : State), Accepted opFusWeights h p 0 s →
    let b := atBody s h
    let i := byteAt p 0
    let w := s.wslot i
    let off := rd p 4 4
    let img := (if off = 0 then [] else w.image) ++ p.drop 16
    let used := s.st fusFid ≠ .off ∧ fgSlot s.grid = i
    let contig := off = 0 ∨ off = w.image.length
    let goes := ¬ used ∧ w.busy = none ∧ contig ∧ img.length ≤ 33554432
    let last := (byteAt p 1).testBit 0
    let ans (a : Ans) : Prop := exec (.fusWeights h p) s = .next (replied h 0x0801 p a)
    (used → ans (failAns b stWrongState 0)) ∧
    (¬ used → w.busy ≠ none → ans (failAns b stBusy 0)) ∧
    (¬ used → w.busy = none → ¬ contig → ans (badParam b (min 0xFFFF w.image.length))) ∧
    (¬ used → w.busy = none → contig → 33554432 < img.length → ans (badParam b 4)) ∧
    (goes → last = false → ans (okAns (b.setWslot i { image := img }))) ∧
    (goes → last = true → img.length ≠ rd img 8 4 → ans (failAns b 0x80 (min 0xFFFF (rd img 8 4 - img.length)))) ∧
    (goes → last = true → img.length = rd img 8 4 → (crc32c img).toNat ≠ rd p 12 4 → ans (failAns b stIntegrity 0)) ∧
    (goes → last = true → img.length = rd img 8 4 → (crc32c img).toNat = rd p 12 4 → weightsHeaderOk img = false →
      ans (failAns b 0x81 0)) ∧
    (goes → last = true → img.length = rd img 8 4 → (crc32c img).toNat = rd p 12 4 → weightsHeaderOk img = true →
      ans { s := b.setWslot i { image := img, busy := some (some (h.session, h.seq)) }, st := stDeferred })) ∧
  (∀ (i : Nat) (s : State),
    let w := s.wslot i
    (w.busy = none → exec (.weightsWriteComplete i) s = .next s) ∧
    (∀ c, w.busy = some c → exec (.weightsWriteComplete i) s = .next (emitTo
      (s.setWslot i { w with busy := none, loaded := true })
      c false none 0x0804 fusFid (b1 i ++ b1 0 ++ zeros 2 ++ le 4 (rd w.image 4 4))))) ∧
  (∀ (h : Hdr) (p : Bytes) (s : State), Accepted opFusHeadPolicy h p 0 s →
    let n := byteAt p 0
    let past := changed s.mono (s.app (.fusHead n)) (tget [] s.fus.polPast n)
    let t : State := { atBody s h with fus := { s.fus with polPast := tput s.fus.polPast n past } }
    exec (.fusHeadPolicy h p) s = .next (replied h 0x0802 p (okAns ((t.setStg (.fusHead n) p).setApp (.fusHead n) p)))) ∧
  (∀ (s : State) (n : Nat), policyNow s n = governing s.mono (s.app (.fusHead n)) (tget [] s.fus.polPast n)) ∧
  (∀ (new old : Bytes) (l : List (Nat × Bytes)) (t n : Nat), t ≤ n →
    governing n new (changed t old l) = if t + 250000 ≤ n then new else governing n old l) ∧
  (∀ (h : Hdr) (p : Bytes) (s : State), Accepted opFusStatus h p 220 s →
    let f := s.fus
    exec (.fusStatus h p) s = .next (replied h 0x0804 p (okWith (atBody s h)
      (leT f.issuedCut ++ le 4 f.issued ++ le 4 f.skipped ++ b1 f.rate ++ b1 f.slot ++
        le 2 (contraBits s) ++ le 4 f.weights ++ leI 4 f.ci ++ leI 4 f.cj ++
        le 4 f.scrolls ++ le 4 f.objects ++ le 4 f.truncated ++ leF f.vh ++ leF f.kap ++
        (match f.edges with | some e => leF e.left.conf ++ leF e.right.conf | none => zeros 8) ++
        le 4 f.superseded ++ le 4 f.filtered ++ le 4 f.ecc ++
        (List.range 12).flatMap (fun k => le 4 (tget 0 f.late k) ++ le 4 (tget 0 f.dropped k)) ++
        match f.ego.est.head? with
        | some e => e.bytes f.ego.mode
        | none => zeros 44 ++ b1 f.ego.mode ++ zeros 3))))

/-- Ego-motion: at an ego instant, once per instant while the firmware runs in RUN or BREEZE and it is enabled, the mode
is that of Table 9.3, and an estimate is published in modes 1 to 3, its position going on from the last one where it
leaves LOST; beyond 2,000 km it is LOST. Entering LOST is a fault event, and raises FSRC134 while enabled. A committed
configuration sets W anew. Fusion cycles: a gather instant begins a cycle with its samples and the scrolled centre, or,
while a cycle is under way or the budget gives it no work, skips the cut. The issue, with edge lines that R310 gives,
publishes headwind, lines and at most 256 objects and makes the grid RUNNING. Packets of a matching stream are taken;
a sample more than 1 s ahead, or too late for the cuts, is dropped. LOST ego-motion for 100 ms makes the grid FAULTED.
The cuts begin 250 ms after START's check, the centre at the tracked cell (with no estimate at 0, log entry 60); a stop
discards the grid's state. Else each of these rows changes nothing of its own. -/
def Obligations.Fusion : Prop :=
  (∀ (i : EgoIn) (s : State),
    let e := s.fus.ego
    let ok := fwRuns s = true ∧ s.pwr.state ≤ 1 ∧ egEnable (egoCfg s) = true ∧ atGrid (s.tdNs 0) 0 1000000 = true ∧
      ∀ x, e.est.head? = some x → x.tick + 250 ≤ s.mono
    let o := egoOff e i
    let v := if imuWord s = 1 then Config.imuVelocity (egoCfg s) s.cse.imu.v e.vImu else e.vImu
    let e1 := { e with
      far := e.far || farOut (i.x + o.1) (i.y + o.2.1) (i.z + o.2.2), vImu := v
      wheels := (List.range 4).filterMap (wheelSpeed s v)
      noWheel := if (wheelsValid s).isEmpty then some (e.noWheel.getD s.mono) else none
      noImu := if imuWord s = 1 then none else some (e.noImu.getD s.mono) }
    let m := egoMode s e1
    let r : EgoEst :=
      { time := T96.ofNs (s.tdNs 0 / 1000000 * 1000000), tick := s.mono, x := i.x + o.1, y := i.y + o.2.1, z := i.z + o.2.2
        roll := i.roll, pitch := i.pitch, yaw := wrapPi i.yaw, speed := i.speed, yawRate := i.yawRate, mode := m }
    (ok → m = 0 → exec (.egoInstant i) s = .next (settle (egoSetMode (s.setEgo e1) m))) ∧
    (ok → m ≠ 0 → exec (.egoInstant i) s =
      .next (settle (egoSetMode (s.setEgo { e1 with off := o, est := (r :: e.est).take 4096 }) m))) ∧
    (¬ ok → exec (.egoInstant i) s = .next (settle s))) ∧
  (∀ (e : Ego) (i : EgoIn), (e.mode ≠ 0 ∨ e.est = [] → egoOff e i = e.off) ∧
    (∀ l r, e.mode = 0 → e.est = l :: r → egoOff e i = (l.x - i.x, l.y - i.y, l.z - i.z))) ∧
  (∀ x y z : Int, farOut x y z = true ↔ 2048000000 < x.natAbs ∨ 2048000000 < y.natAbs ∨ 2048000000 < z.natAbs) ∧
  (∀ (s : State) (e : Ego),
    let w := wheelsValid s
    let sides := w.map fun x => x.2.2 % 2
    let turns := 0 ∈ sides ∧ 1 ∈ sides ∨ w ≠ [] ∧ steerValid s = true
    (e.far = true ∨ egEnable (egoCfg s) = false → egoMode s e = 0) ∧
    (egEnable (egoCfg s) = true → e.far = false →
      (imuWord s = 1 → w ≠ [] → egoMode s e = 1) ∧
      (imuWord s = 1 → w = [] → egoMode s e = if e.noWheel.all fun t => decide (s.mono ≤ t + 125000000) then 2 else 0) ∧
      (imuWord s ≠ 1 → turns → egoMode s e = if e.noImu.all fun t => decide (s.mono ≤ t + 50000000) then 3 else 0) ∧
      (imuWord s ≠ 1 → ¬ turns → egoMode s e = 0))) ∧
  (∀ (s : State) (m : Nat),
    let e := s.fus.ego
    let t := s.setEgo { e with mode := m, lostAt := if m = 0 then some s.mono else none }
    let d := b1 e.mode ++ b1 m ++ zeros 2
    (e.mode = m → egoSetMode s m = s) ∧
    (e.mode ≠ m → m ≠ 0 → egoSetMode s m = returnSrc (emit t 0x0803 0xFFFF d) 134) ∧
    (e.mode ≠ m → m = 0 → egEnable (egoCfg s) = true → egoSetMode s m = raise (emitFault t 0x0803 0xFFFF d) 134 0) ∧
    (e.mode ≠ m → m = 0 → egEnable (egoCfg s) = false →
      egoSetMode s m = returnSrc (emitFault t 0x0803 0xFFFF d) 134)) ∧
  (∀ s : State, s.fus.ego.pend = none → exec .egoConfigCommit s = .next (settle s)) ∧
  (∀ (p : Bytes) (s : State), s.fus.ego.pend = some p →
    let at_ := atGrid (s.tdNs 0) 0 1000000 = true
    let t := s.setEgo { s.fus.ego with
      cfg := some p, pend := none, est := [], off := (0, 0, 0), far := false, noWheel := none, noImu := none }
    (at_ → egEnable p = true → exec .egoConfigCommit s = .next (settle t)) ∧
    (at_ → egEnable p = false → exec .egoConfigCommit s = .next (settle (returnSrc (egoSetMode t 0) 134))) ∧
    (¬ at_ → exec .egoConfigCommit s = .next (settle s))) ∧
  (∀ s : State,
    let f := s.fus
    let runs := f.committed = true ∧ (s.st fusFid).live = true
    let p := fusPeriod f.rate
    (¬ runs ∨ cutNow s = none → exec .fusionGather s = .next s) ∧
    (∀ cut time, runs → cutNow s = some (cut, time) →
      let n := max 1 ((cut - f.cutTick + p / 8) / (p / 4))
      let idle := f.cycle = none ∧ mayWork s 1 = true
      let t (k : Nat) : State := { s with fus := { f with
        num := f.num + n, cutTick := cut, gatherTick := s.mono, owed := none, skipped := satN 4 (f.skipped + k) } }
      (idle → exec .fusionGather s = .next (cycleBegin (t (n - 1)) cut time)) ∧
      (¬ idle → exec .fusionGather s = .next (t n)))) ∧
  (∀ s : State,
    let f := s.fus
    let p := fusPeriod f.rate
    let g := fgGather s.grid
    let at_ := atGrid (s.tdNs 0) (1000000 * g) p = true ∧ f.cutTick + p / 8 ≤ s.mono - 250000 * g
    (∀ due tick time, f.owed = some (due, tick, time) → cutNow s = if due ≤ s.mono then some (tick, time) else none) ∧
    (f.owed = none → at_ →
      cutNow s = some (s.mono - 250000 * g, T96.ofNs ((s.tdNs 0 - 1000000 * g) / p * p))) ∧
    (f.owed = none → ¬ at_ → cutNow s = none)) ∧
  (∀ (s : State) (cut : Nat) (time : T96), let u := cycleBegin s cut time
    (∃ c, u.fus.cycle = some c ∧ c.tick = cut ∧ c.time = time ∧ c.num = s.fus.num ∧ c.ego = egoAt s cut ∧
      c.ci = u.fus.ci ∧ c.cj = u.fus.cj ∧ c.pols = (List.range 3).map (policyNow s)) ∧
    (∀ x ∈ u.fus.samples, x ∈ s.fus.samples) ∧
    (∀ t, trackedCell s cut = some t →
      u.fus.ci = (scrollAxis s.fus.ci t.1).1 ∧ u.fus.cj = (scrollAxis s.fus.cj t.2).1)) ∧
  (∀ c p : Int, let r := (scrollAxis c p).1
    (r - c) % 32 = 0 ∧ p - r ≤ 32 ∧ r - p ≤ 32 ∧ (p - c ≤ 32 → c - p ≤ 32 → r = c)) ∧
  (∀ (cells : List CellOut) (l r : EdgeLine) (s : State), s.fus.cycle = none →
    exec (.fusionResultsIssued cells l r) s = .next (settle s)) ∧
  (∀ (cells : List CellOut) (l r : EdgeLine) (cy : FCycle) (s : State), s.fus.cycle = some cy →
    let ok := (s.st fusFid).live = true ∧ edgeOk s.grid cy true cells l = true ∧ edgeOk s.grid cy false cells r = true
    (ok → ∃ u, exec (.fusionResultsIssued cells l r) s = .next (settle u) ∧
      u.headwind = some (headwindOf s cy cells) ∧ u.fus.cycle = none ∧ u.fus.issued = cy.num ∧
      u.fus.issuedCut = cy.time ∧ u.fus.edges = some { time := cy.time, tick := cy.tick, left := l, right := r } ∧
      u.fus.objects ≤ 256 ∧ u.st fusFid = .running) ∧
    (¬ ok → exec (.fusionResultsIssued cells l r) s = .next (settle s))) ∧
  (∀ c : CellOut, c.camSeen = true → c.lidSeen = true →
    let d := fMin (fDiv (fAbs (fSub c.c c.l)) (fMax (fMax (fAbs c.c) (fAbs c.l)) (headEps c.head))) f1
    disagree c = d ∧ headOut 0 c = (c.f, c.conf, c.sigma) ∧ headOut 1 c = (fMax c.c c.l, c.conf, c.sigma) ∧
    headOut 2 c = (c.f, fMul c.conf (fSub f1 d), fDiv c.sigma (fMax (fSub f1 d) (fDec 1 10))) ∧
    headOut 3 c = (c.c, c.conf, c.sigma) ∧ headOut 4 c = (c.l, c.conf, c.sigma)) ∧
  (∀ (pk : PointPacket) (s : State),
    ((s.st fusFid).live = false → exec (.pointPacketReceived pk) s = .next s) ∧
    ((s.st fusFid).live = true → exec (.pointPacketReceived pk) s = .next (forN 4 (streamTake pk) s)) ∧
    (∀ i, streamMatch s pk i = false → streamTake pk s i = s)) ∧
  (∀ (s : State) (x : FSample),
    let late := (∃ c, s.fus.cuts.head? = some c ∧ x.tick ≤ c) ∧ ∀ l, lateLimit s x.tick = some l → l < x.arrival
    let drops := x.arrival + 250000000 < x.tick ∨ late
    (drops → fusSample s x = fusDrop s x.inp 1) ∧
    (¬ drops → fusSample s x = { s with fus := { s.fus with samples := s.fus.samples ++ [x] } })) ∧
  (∀ s : State,
    let ok := s.fus.ego.mode = 0 ∧ (∃ t, s.fus.ego.lostAt = some t ∧ t + 25000000 ≤ s.mono) ∧ (s.st fusFid).live = true
    (ok → exec .fusionEgoLostTimeout s = .next (settle (changeState (fusDiscard s) fusFid .faulted))) ∧
    (¬ ok → exec .fusionEgoLostTimeout s = .next (settle s))) ∧
  (∀ s : State,
    let p := fusPeriod s.fus.rate
    let ok := s.st fusFid = .starting ∧ s.fus.committed = false ∧ (s.fn fusFid).since + 62500000 ≤ s.mono ∧
      atGrid (s.tdNs 0) 0 p = true
    let down (x : Int) : Int := x.fdiv 32 * 32
    let c := (trackedCell s s.mono).elim (0, 0) fun t => (down t.1, down t.2)
    (ok → exec .fusionStartCommit s = .next { s with fus := { s.fus with
      committed := true, ci := c.1, cj := c.2, cutTick := s.mono - p / 4, cuts := [s.mono - p / 4], cells := none
      nextId := 1 } }) ∧
    (¬ ok → exec .fusionStartCommit s = .next s)) ∧
  (∀ s : State,
    (s.st fusFid = .stopping →
      exec .fusionStopComplete s = .next (settle (finishStop fusCheck fusCommit fusFid (fusDiscard s)))) ∧
    (s.st fusFid ≠ .stopping → exec .fusionStopComplete s = .next (settle s)) ∧
    (fusDiscard s).fus.committed = false ∧ (fusDiscard s).fus.samples = [] ∧ (fusDiscard s).fus.objs = [])

/-! ## Camera links and image pipelines (chapter 10) -/

/-- The camera opcodes. EXPOSURE_COMMIT in STARTING or RUNNING gives the frame from which its set applies, and replaces
the set that waits; a value out of range is BAD_PARAM, and in any other state it is WRONG_STATE. SENSOR_TUNNEL reads the
sensor while the pipeline is not OFF and its link stands, writes it in CONFIG, appends to the lists of at most 256
writes in OFF and CONFIG, and clears them; the sensor's refusal is status 0x80 with its byte. PIPE_STATUS answers what
stands and changes nothing. -/
def Obligations.CameraCommands : Prop :=
  (∀ (h : Hdr) (p : Bytes) (s : State),
    let b := atBody s h
    let k := byteAt p 0
    let d := s.pipeCfg k
    let inRange := (fLe f1 (rdF p 8) && fLe (rdF p 8) (periodUs d))
    let u := supersede b k (rd p 4 4)
    let x := u.pipe k
    let e : ExpSet := { ident := rd p 4 4, expo := rdF p 8, gain := rdF p 12
                        vals := (List.range (pcFields d)).map fun i => rd p (16 + 4 * i) 4, first := (s.pipe k).next + 1 }
    let ans (a : Ans) : Prop := exec (.exposureCommit h p) s = .next (replied h 0x0901 p a)
    (Accepted opExposureCommit h p 0 s → inRange = false → ans (badParam b 8)) ∧
    (∀ o, Accepted opExposureCommit h p 0 s → inRange = true → valuesBad d p = some o → ans (badParam b o)) ∧
    (Accepted opExposureCommit h p 0 s → inRange = true → valuesBad d p = none → pipeLive s k = false →
      ans (failAns b stWrongState 0)) ∧
    (Accepted opExposureCommit h p 8 s → inRange = true → valuesBad d p = none → pipeLive s k = true →
      ans (okWith (u.setPipe k { x with pend := some e, sets := (e :: x.sets).take 16, hist := (e :: x.hist).take 8 })
        (le 4 ((s.pipe k).next + 1) ++ zeros 4)))) ∧
  (∀ (s : State) (k by_ : Nat),
    ((s.pipe k).pend = none → supersede s k by_ = s) ∧
    (∀ e, (s.pipe k).pend = some e → supersede s k by_ = emit (s.setPipe k { s.pipe k with
      pend := none, superseded := satN 4 ((s.pipe k).superseded + 1)
      sets := (s.pipe k).sets.filter fun q => decide (q ≠ e) }) 0x0902 (pipeFid k) (le 4 e.ident ++ le 4 by_))) ∧
  (∀ (h : Hdr) (p : Bytes) (a : SensorAns) (s : State),
    let b := atBody s h
    let k := byteAt p 0
    let reads := pipeSt s k ≠ .off ∧ (s.pipe k).link = true
    (byteAt p 1 = 0 → Accepted (opSensorTunnel a) h p 0 s → ¬ reads →
      exec (.sensorTunnelRead h p a) s = .next (settle (replied h 0x0902 p (failAns b stWrongState 0)))) ∧
    (∀ data, byteAt p 1 = 0 → a = .ack data → Accepted (opSensorTunnel a) h p (byteAt p 4) s → reads →
      exec (.sensorTunnelRead h p a) s =
        .next (settle (replied h 0x0902 p (okWith b (fitBytes (byteAt p 4) data))))) ∧
    (∀ i, byteAt p 1 = 0 → a = .nack i → Accepted (opSensorTunnel a) h p 0 s → reads →
      exec (.sensorTunnelRead h p a) s = .next (settle (replied h 0x0902 p (failAns b 0x80 (i % 65536))))) ∧
    let sent := tunnelWrites b k [(rd p 2 2, slice p 8 (byteAt p 4))]
    (byteAt p 1 = 1 → Accepted (opSensorTunnel a) h p 0 s →
      (pipeSt s k ≠ .config →
        exec (.sensorTunnelWrite h p a) s = .next (settle (replied h 0x0902 p (failAns b stWrongState 0)))) ∧
      (∀ data, pipeSt s k = .config → a = .ack data →
        exec (.sensorTunnelWrite h p a) s = .next (settle (replied h 0x0902 p (okAns sent)))) ∧
      (∀ i, pipeSt s k = .config → a = .nack i →
        exec (.sensorTunnelWrite h p a) s =
          .next (settle (replied h 0x0902 p (failAns sent 0x80 (i % 65536))))))) ∧
  (∀ (h : Hdr) (p : Bytes) (s : State),
    let k := byteAt p 0
    let room (o : Obj) : Prop := (s.stg o).length < 8960
    let app (o : Obj) (t : State) : State := t.setStg o (t.stg o ++ listWrite p)
    Accepted (opSensorTunnel (.ack [])) h p 0 s →
    (byteAt p 1 = 2 →
      (room (.pipeStart k) → Configures (.sensorTunnelAppendStart h p) (opSensorTunnel (.ack [])) h p [pipeFid k]
        (app (.pipeStart k)) (pipeConfigured · k) s) ∧
      (¬ room (.pipeStart k) → exec (.sensorTunnelAppendStart h p) s =
        .next (settle (replied h 0x0902 p (failAns (atBody s h) stOverCapacity 0))))) ∧
    (byteAt p 1 = 3 →
      (room (.pipeStop k) → Configures (.sensorTunnelAppendStop h p) (opSensorTunnel (.ack [])) h p [pipeFid k]
        (app (.pipeStop k)) (pipeConfigured · k) s) ∧
      (¬ room (.pipeStop k) → exec (.sensorTunnelAppendStop h p) s =
        .next (settle (replied h 0x0902 p (failAns (atBody s h) stOverCapacity 0))))) ∧
    (byteAt p 1 = 4 → Configures (.sensorTunnelClearLists h p) (opSensorTunnel (.ack [])) h p [pipeFid k]
      (fun t => (t.setStg (.pipeStart k) []).setStg (.pipeStop k) []) (pipeConfigured · k) s)) ∧
  (∀ (h : Hdr) (p : Bytes) (s : State), Accepted opPipeStatus h p 76 s →
    let k := byteAt p 0
    let x := s.pipe k
    exec (.pipeStatus h p) s = .next (replied h 0x0903 p (okWith (atBody s h) (leT s.now ++ b1 (pipeSt s k).code ++
      b1 (bit x.link 0) ++ zeros 2 ++ le 4 (x.next - 1) ++ le 4 x.lastIdent ++ leF x.current ++
      [x.missing, x.shortLn, x.longLn, x.padLn, x.cutLn, x.crcLn, x.discPk, x.ignPk, x.notProc,
        x.superseded, x.mismatches, x.tapCut].flatMap (le 4)))))

/-- Camera power and link: a supply in limit for 10 ms switches off with CAMERA_POWER and its source, and its pipeline is
FAULTED, in CONFIG too (the model's choice, log entry 62); a retry each second while not OFF returns the source or
waits. A link change is LINK_STATE. START's writes end at the commit; no frame start within 1 s is FAULTED with the link
source; a stop ends with power off. Frame slots: a received frame start takes the next number, ends an open frame as one
without a frame end, and begins the writes of a set that applies from the next frame; a slot not started by its expected
start plus TOLERANCE is missing, with its record. A frame ends padded to H lines with its identity decided: predicted,
read back or mismatched, as its embedded line shows. Processing and records: the oldest frame that waits takes the
statistics that the stages make of its pixels, and goes to fusion and the tap; records go out in frame-number order,
none before its frame is processed. The trigger fires at its phase; exposure writes end. Else each of these rows changes
nothing of its own. -/
def Obligations.Cameras : Prop :=
  (∀ (k : Nat) (c : F32) (s : State),
    let w := powerOff s k
    let t := emitFault (raise (w.setPipe k { w.pipe k with limited := true, limitAt := s.mono })
      (136 + k) (fToInt (fMul c (fOfNat 1000))).toNat) 0x0904 (pipeFid k) (leF c)
    let ends (u : State) : Prop := exec (.cameraPowerLimit k c) s = .next (settle u)
    ((s.pipe k).power = false → ends s) ∧
    ((s.pipe k).power = true → (w.pipe k).power = false ∧ (w.pipe k).link = false ∧
      (pipeSt s k = .config → ends (changeState t (pipeFid k) .faulted)) ∧
      ((pipeSt s k).live = true → ends (changeState (pipeQuiet t k) (pipeFid k) .faulted)) ∧
      (pipeSt s k = .stopping → ends (faultStopping t (pipeFid k))) ∧
      (pipeSt s k = .off ∨ pipeSt s k = .faulted → ends t))) ∧
  (∀ (k : Nat) (s : State),
    let x := s.pipe k
    let due := x.limited = true ∧ pipeSt s k ≠ .off ∧ x.limitAt + 250000000 ≤ s.mono
    (due → exec (.cameraPowerRetry k false) s = .next (settle (s.setPipe k { x with limitAt := s.mono })) ∧
      exec (.cameraPowerRetry k true) s = .next (settle (returnSrc ({ s with nonce := s.nonce + 1 }.setPipe k { x with
        power := true, limited := false, current := Config.freeF32 s.nonce }) (136 + k)))) ∧
    (¬ due → ∀ ok, exec (.cameraPowerRetry k ok) s = .next (settle s))) ∧
  (∀ (k id : Nat) (s : State),
    let x := s.pipe k
    (x.power = true → exec (.cameraLinkChange k true id) s =
      .next (settle (linkSet (s.setPipe k { x with sensorId := id % 65536 }) k true))) ∧
    (x.power = false → exec (.cameraLinkChange k true id) s = .next (settle s)) ∧
    exec (.cameraLinkChange k false id) s = .next (settle (linkSet s k false))) ∧
  (∀ (k : Nat) (up : Bool) (s : State),
    let t := s.setPipe k { s.pipe k with link := up }
    ((s.pipe k).link = up → linkSet s k up = s) ∧
    ((s.pipe k).link ≠ up → up = true → linkSet s k up = emit t 0x0901 (pipeFid k) [0x01#8, 0#8, 0#8, 0#8]) ∧
    ((s.pipe k).link ≠ up → up = false → linkSet s k up = emitFault t 0x0901 (pipeFid k) (zeros 4))) ∧
  (∀ (k : Nat) (s : State),
    let ok := pipeSt s k = .starting ∧ (s.pipe k).committed = none
    (ok → exec (.pipeStartCommit k) s = .next (s.setPipe k { s.pipe k with committed := some s.mono })) ∧
    (¬ ok → exec (.pipeStartCommit k) s = .next s)) ∧
  (∀ (k : Nat) (s : State),
    let ok := pipeSt s k = .starting ∧ (s.pipe k).next = 0 ∧
      ∃ t, (s.pipe k).committed = some t ∧ t + 250000000 ≤ s.mono
    (ok → exec (.pipeStartTimeout k) s = .next (settle (raise
      (changeState (pipeQuiet s k) (pipeFid k) .faulted) (144 + k) 0))) ∧
    (¬ ok → exec (.pipeStartTimeout k) s = .next (settle s))) ∧
  (∀ (k : Nat) (s : State),
    let fault := (s.fn (pipeFid k)).toFault
    (pipeSt s k = .stopping → exec (.pipeStopComplete k) s = .next (settle
      (finishStop (pipeCheck · k) (pipeCommit · k) (pipeFid k) (if fault then s else pipeOff s k)))) ∧
    (pipeSt s k ≠ .stopping → exec (.pipeStopComplete k) s = .next (settle s)) ∧
    ((pipeOff s k).pipe k).power = false ∧ ((pipeOff s k).pipe k).done = []) ∧
  (∀ (k : Nat) (s : State),
    let start (u : State) (j : Int) : State :=
      let t := expoBegin (frameClose u k true) k (u.pipe k).next
      let x := t.pipe k
      let at_ := subPlus t.now (j * 65536)
      let d := s.pipeCfg k
      t.setPipe k { x with
        frame := some
          { num := x.next, early := x.expected.any fun e => decide (T96.toNs at_ + 1000 * pcTol d < e), time := at_
            tick := ((t.mono : Int) + j / 4).toNat }
        next := (x.next + 1) % 2 ^ 32, expected := some (T96.toNs at_ + pcPeriod d) }
    let ends (u : State) : Prop := exec (.frameStart k) s = .next (settle u)
    (capturing s k = false → ends s) ∧
    (capturing s k = true → perturb s 3 k = none → ends (start s 0)) ∧
    (∀ i p, capturing s k = true → perturb s 3 k = some (i, p) →
      let u : State := { s with tst := { s.tst with slots := tput s.tst.slots i { p with seen := p.seen + 1 } } }
      let skip := p.opt % 65536 ≠ 0 ∧ (p.seen + 1) % (p.opt % 65536) = 0
      (skip → ends u) ∧
      (¬ skip → p.mag = 0 → ends (start u 0)) ∧
      (¬ skip → p.mag ≠ 0 → ends (start { u with nonce := s.nonce + 1 }
        ((Config.freeNat s.nonce % (2000 * p.mag + 1) : Nat) - (1000 * p.mag : Nat)))))) ∧
  (∀ (k : Nat) (s : State),
    (capturing s k = true → exec (.frameEnd k) s = .next (settle (frameClose s k false))) ∧
    (capturing s k = false → exec (.frameEnd k) s = .next (settle s))) ∧
  (∀ (k : Nat) (s : State),
    let d := s.pipeCfg k
    let t := expoBegin (frameClose s k true) k (s.pipe k).next
    let x := t.pipe k
    let p := predicted x d x.next
    let ok (e : Nat) : Prop := pipeLive s k = true ∧ e + 1000 * pcTol d ≤ s.tdNs 0
    ((s.pipe k).expected = none → exec (.frameSlotMissing k) s = .next (settle s)) ∧
    (∀ e, (s.pipe k).expected = some e → ok e → exec (.frameSlotMissing k) s = .next (settle (t.setPipe k { x with
      done := x.done ++ [{ num := x.next, kind := 1, ident := p.ident, idFlags := 2, expo := p.expo, gain := p.gain
                           ended := t.mono }]
      next := (x.next + 1) % 2 ^ 32, expected := some (e + pcPeriod d), missing := satN 4 (x.missing + 1)
      lastIdent := p.ident }))) ∧
    (∀ e, (s.pipe k).expected = some e → ¬ ok e → exec (.frameSlotMissing k) s = .next (settle s))) ∧
  (∀ (k : Nat) (noEnd : Bool) (s : State), (s.pipe k).frame = none → frameClose s k noEnd = s) ∧
  (∀ (k : Nat) (noEnd : Bool) (f : Machine.Frm) (s : State), (s.pipe k).frame = some f →
    let t := frameClose s k noEnd
    let d := s.pipeCfg k
    (t.pipe k).frame = none ∧ (t.pipe k).next = (s.pipe k).next ∧ (t.pipe k).lastIdent = (identOf (s.pipe k) d f).1 ∧
    pipeSt t k = (if pipeSt s k = .starting ∧ f.num = 0 then .running else pipeSt s k) ∧
    ∃ g, (t.pipe k).done = (s.pipe k).done ++ [g] ∧ g.num = f.num ∧ g.noEnd = noEnd ∧ g.img = paddedFrame d f.img ∧
      g.pad = pcH d - f.lines ∧ g.ident = (identOf (s.pipe k) d f).1 ∧
      g.short = f.short ∧ g.long = f.long ∧ g.cut = f.cut ∧ g.crc = f.crc ∧ g.disc = (s.pipe k).disc ∧
      g.ign = (s.pipe k).ign ∧ g.mid = subPlus f.time (midOffset d (identOf (s.pipe k) d f).2.2.1) ∧
      g.kind = (if mayWork s (8 + k) then 0 else 2) ∧ g.waiting = mayWork s (8 + k)) ∧
  (∀ (x : Pipe) (d : Bytes) (f : Machine.Frm),
    let p := predicted x d f.num
    (pcIdOff d = 0xFFFF ∨ f.embedded = none → identOf x d f = (p.ident, 2, p, none)) ∧
    (∀ e, pcIdOff d ≠ 0xFFFF → f.embedded = some e →
      (rd e (pcIdOff d) 2 = p.ident % 65536 → identOf x d f = (p.ident, 1, p, none)) ∧
      (∀ q, rd e (pcIdOff d) 2 ≠ p.ident % 65536 →
        (x.hist.find? fun q => decide (q.ident % 65536 = rd e (pcIdOff d) 2)) = some q →
        identOf x d f = (q.ident, 5, q, some (rd e (pcIdOff d) 2))) ∧
      (rd e (pcIdOff d) 2 ≠ p.ident % 65536 → (∀ q ∈ x.hist, q.ident % 65536 ≠ rd e (pcIdOff d) 2) →
        identOf x d f = (0xFFFF0000 + rd e (pcIdOff d) 2, 4, p, some (rd e (pcIdOff d) 2))))) ∧
  (∀ (k : Nat) (pk : Csi2) (s : State),
    let x := s.pipe k
    let ends (u : State) : Prop := exec (.csi2PacketReceived k pk) s = .next (settle u)
    let goes := capturing s k = true ∧ pk.ecc < 2 ∧ pk.vc = 0
    let isLine := pk.dt = 0x2B ∨ pk.dt = 0x2C
    (capturing s k = false → ends s) ∧
    (capturing s k = true → 2 ≤ pk.ecc → ends (s.setPipe k { x with disc := satN 2 (x.disc + 1) })) ∧
    (capturing s k = true → pk.ecc < 2 → pk.vc ≠ 0 ∨ pk.dt ∉ [0x00, 0x01, 0x02, 0x03, 0x12, 0x2B, 0x2C] →
      ends (s.setPipe k { x with ign := satN 2 (x.ign + 1) })) ∧
    (goes → pk.dt = 0x00 → exec (.csi2PacketReceived k pk) s = exec (.frameStart k) s) ∧
    (goes → pk.dt = 0x01 → exec (.csi2PacketReceived k pk) s = exec (.frameEnd k) s) ∧
    (goes → pk.dt = 0x02 ∨ pk.dt = 0x03 → ends s) ∧
    (goes → pk.dt = 0x12 ∨ isLine → x.frame = none → ends s) ∧
    (∀ f, goes → pk.dt = 0x12 → x.frame = some f → ends (s.setPipe k { x with
      frame := some (if f.embedded.isSome then f else { f with embedded := some pk.data }) })) ∧
    (∀ f, goes → isLine → x.frame = some f →
      let d := s.pipeCfg k
      let every := (perturb s 3 k).elim 0 fun e => e.2.opt / 65536
      let cutShort := every ≠ 0 ∧ (f.lines + f.cut + 1) % every = 0
      let crc := satN 2 (f.crc + (if pk.crcOk then 0 else 1))
      let takes (px : List Nat) : Prop := ends (s.setPipe k { x with frame := some { f with
        crc := crc, lines := f.lines + 1, img := f.img ++ [lineOf d px]
        short := satN 2 (f.short + (if px.length < pcW d then 1 else 0))
        long := satN 2 (f.long + (if pcW d < px.length then 1 else 0)) } })
      (pcH d ≤ f.lines → ends (s.setPipe k { x with frame := some { f with crc := crc, cut := satN 2 (f.cut + 1) } })) ∧
      (f.lines < pcH d → ¬ cutShort → takes pk.pixels) ∧
      (f.lines < pcH d → cutShort → takes (pk.pixels.take (pk.pixels.length - 64))))) ∧
  (∀ (k : Nat) (st : FrameStats) (s : State), (s.pipe k).done.find? (·.waiting) = none →
    exec (.frameProcessed k st) s = .next s) ∧
  (∀ (k : Nat) (st : FrameStats) (f : Machine.Frm) (s : State), (s.pipe k).done.find? (·.waiting) = some f →
    let d := s.pipeCfg k
    let x := s.pipe k
    let q := frameQuality s k st
    let good := q.1.isSome && decide (pcMinBlobs d ≤ st.blobs)
    let t := q.2.setPipe k { x with
      done := putStats st q.1 x.done, quality := if good then some (q.1.getD [], f.mid, f.midTick) else x.quality }
    let u := if (pcOutputs d).testBit 0 then fusFrame t k f.midTick (pcH d / pcDown d) (outLineNs d) else t
    (st = statsOf d f.img st.tapLost → exec (.frameProcessed k st) s = .next (frameTap k f st u)) ∧
    (st ≠ statsOf d f.img st.tapLost → exec (.frameProcessed k st) s = .next s)) ∧
  (∀ (k : Nat) (st : FrameStats) (s : State),
    let sum := st.areas.foldl (· + ·) 0
    ((pcOutputs (s.pipeCfg k)).testBit 2 = false → frameQuality s k st = (none, s)) ∧
    ((pcOutputs (s.pipeCfg k)).testBit 2 = true → ∃ q, (frameQuality s k st).1 = some q ∧ q.length = 4 ∧
      (∀ j, j < 3 → sum ≠ 0 → q.getD j f0 = fDiv (fOfNat (st.areas.getD (j + 1) 0)) (fOfNat sum)) ∧
      q.getD 3 f0 = fOfNat st.blobs)) ∧
  (∀ (k : Nat) (s : State),
    ((s.pipe k).done = [] → exec (.statsRecordSent k) s = .next s) ∧
    (∀ (f : Machine.Frm) (r : List Machine.Frm), (s.pipe k).done = f :: r →
      (f.waiting = true → exec (.statsRecordSent k) s = .next s) ∧
      (f.waiting = false → exec (.statsRecordSent k) s = .next (pushAll (s.setPipe k { s.pipe k with done := r })
        sCamera fun _ =>
          { time := s.now, fault := false, pos := none, body := f.record k (pcMinBlobs (s.pipeCfg k)) })))) ∧
  (∀ (f : Machine.Frm) (k m : Nat), (f.record k m).length = 388) ∧
  (∀ (k : Nat) (s : State),
    let d := s.pipeCfg k
    let x := s.pipe k
    let ok := pipeLive s k = true ∧ pcTriggered d = true ∧ atGrid (s.tdNs 0) (pcPhase d) (pcPeriod d) = true ∧
      x.trigAt + pcPeriod d / 8 ≤ s.mono
    (ok → exec (.cameraTrigger k) s =
      .next { s.setPipe k { x with trigAt := s.mono } with sent := .trigger k :: s.sent }) ∧
    (¬ ok → exec (.cameraTrigger k) s = .next s)) ∧
  (∀ (k : Nat) (s : State), exec (.exposureWritesComplete k) s = .next (s.setPipe k { s.pipe k with writing := none })) ∧
  (∀ (s : State) (k n : Nat),
    let x := s.pipe k
    (x.pend = none → expoBegin s k n = s) ∧
    (∀ e, x.pend = some e →
      (e.first ≤ n + 1 → expoBegin s k n =
        tunnelWrites (s.setPipe k { x with pend := none, writing := some e }) k (expoWrites (s.pipeCfg k) e)) ∧
      (n + 1 < e.first → expoBegin s k n = s))) ∧
  (∀ (s : State) (k : Nat) (l : List (Nat × Bytes)), tunnelWrites s k l =
    { s with sent := (l.map fun e => .sensor k e.1 e.2).reverse ++ s.sent })

/-! ## Satellite baseband (chapter 11) -/

/-- The GNSS opcodes. NOTCH_CONFIG is staged and applied together. PIP_CAPTURE: a start that is neither at once nor 1 ms
to 60 s ahead is BAD_PARAM; else in STARTING or RUNNING it takes the next pip ID and a start on the monotonic tick, one
capture at a time (BUSY) and within the store (status 0x80); in any other state it is WRONG_STATE. PIP_EXPORT of an
unknown pip is status 0x81; else it answers the header, or samples within the pip, requests processing once, or deletes
with its notice. GNSS_STATUS answers what stands and changes nothing. -/
def Obligations.GnssCommands : Prop :=
  (∀ (h : Hdr) (p : Bytes) (s : State), Accepted opNotchConfig h p 0 s → exec (.notchConfig h p) s =
    .next (replied h 0x0A01 p (okAns (((atBody s h).setStg (.notch 0) p).setApp (.notch 0) p)))) ∧
  (∀ (h : Hdr) (p : Bytes) (s : State),
    let b := atBody s h
    let at_ := T96.toNs (rdT p 4)
    let atOnce := rd p 4 12 = 0
    let wrong := ¬ atOnce ∧ (at_ < s.tdNs 0 + 1000000 ∨ s.tdNs 0 + 60000000000 < at_)
    let taken := storedBytes s + ((s.gns.caps.map fun c => pipBytes c.len).foldl (· + ·) 0) + pipBytes (byteAt p 0)
    let full := 1024 ≤ s.gns.pips.length + s.gns.caps.length ∨ 268435456 < taken
    let ans (a : Ans) : Prop := exec (.pipCapture h p) s = .next (replied h 0x0A02 p a)
    (Accepted opPipCapture h p 0 s →
      (wrong → ans (badParam b 4)) ∧
      (¬ wrong → (gnssSt s).live = false → ans (failAns b stWrongState 0)) ∧
      (¬ wrong → (gnssSt s).live = true → capBusy s = true → ans (failAns b stBusy 0)) ∧
      (¬ wrong → (gnssSt s).live = true → capBusy s = false → full → ans (failAns b 0x80 0))) ∧
    (Accepted opPipCapture h p 8 s → ¬ wrong → (gnssSt s).live = true → capBusy s = false → ¬ full →
      ans (okWith { b with gns := { s.gns with
        caps := s.gns.caps ++ [{
          id := s.gns.pipNext, len := byteAt p 0, due := if rd p 4 12 = 0 then s.mono + 250000 else tickOfNs s at_
          flags := bit ((byteAt p 1).testBit 0) 0 + bit ((byteAt p 1).testBit 1) 2 }]
        pipNext := pipAfter s.gns.pipNext } } (le 4 s.gns.pipNext ++ zeros 4)))) ∧
  (∀ (h : Hdr) (p : Bytes) (s : State),
    let b := atBody s h
    let id := rd p 0 4
    let found := s.gns.pips.find? fun q => decide (q.id = id)
    (found = none → Accepted opPipExport h p 0 s →
      ∀ i ∈ [Instr.pipExportReadHeader h p, .pipExportReadSamples h p, .pipExportProcess h p, .pipExportDelete h p],
        exec i s = .next (replied h 0x0A03 p (failAns b 0x81 0))) ∧
    (∀ q, found = some q → byteAt p 4 = 0 → Accepted opPipExport h p 40 s →
      exec (.pipExportReadHeader h p) s = .next (replied h 0x0A03 p (okWith b (pipHeader q)))) ∧
    (∀ q, found = some q → byteAt p 4 = 1 → rd p 8 4 + rd p 12 2 ≤ 8184 * q.len →
      Accepted opPipExport h p (rd p 12 2) s →
      exec (.pipExportReadSamples h p) s =
        .next (replied h 0x0A03 p (okWith b (slice q.samples (rd p 8 4) (rd p 12 2))))) ∧
    (∀ q, found = some q → byteAt p 4 = 1 → 8184 * q.len < rd p 8 4 + rd p 12 2 → Accepted opPipExport h p 0 s →
      exec (.pipExportReadSamples h p) s =
        .next (replied h 0x0A03 p (badParam b (if 8184 * q.len < rd p 8 4 then 8 else 12)))) ∧
    (∀ q, found = some q → byteAt p 4 = 2 → Accepted opPipExport h p 0 s →
      exec (.pipExportProcess h p) s =
        .next (replied h 0x0A03 p (okAns (if tbit q.flags 2 then b else pipRequest b id)))) ∧
    (∀ q, found = some q → byteAt p 4 = 3 → Accepted opPipExport h p 0 s →
      exec (.pipExportDelete h p) s = .next (replied h 0x0A03 p
        (okAns (pipNotice (pipDelete b fun x => decide (x.id = id)) id 2 q.start []))))) ∧
  (∀ (n : Nat), n < 0xFFFFFFFE → pipAfter n = n + 1) ∧ pipAfter 0xFFFFFFFE = 1 ∧
  (∀ (h : Hdr) (p : Bytes) (s : State), Accepted opGnssStatus h p 516 s →
    let g := s.gns
    let tracked := ((List.range 48).filter fun c => decide ((s.track c).st ≠ 0)).length
    let prn := if gnssFull s then (match skipPrns s g.sweep with | x :: _ => x.prn | [] => 0) else 0
    exec (.gnssStatus h p) s = .next (replied h 0x0A04 p (okWith (atBody s h)
      (leT s.now ++ b1 (gnssSt s).code ++ b1 (gcMode (s.app .gnss)) ++ b1 g.antenna ++ b1 g.level ++
        leF g.ji ++ leF g.agc ++ leF (g.data.tcxo.getD f0) ++ b1 (bit g.fix 0) ++ b1 g.used ++ b1 tracked ++
        b1 prn ++ leF g.pdop ++ le 8 g.lat ++ le 8 g.lon ++ leF g.height ++ leF g.sigmaH ++ le 2 g.week ++
        leI 1 (g.leap.getD 0) ++
        b1 (bit g.leap.isSome 0 + bit (!g.saved.alm.isEmpty) 1 + bit (!g.saved.eph.isEmpty) 2) ++
        le 8 g.tow ++ le 8 g.td0LessGps ++ leF g.sigma ++
        (List.range 4).flatMap (fun n => b1 (s.notch n).st ++ zeros 3 ++ leF (s.notch n).freq) ++
        le 4 g.pips.length ++ le 4 (storedBytes s) ++ le 4 g.falseAlarms ++ le 4 g.losses ++
        (List.range 48).flatMap fun c => b1 (s.track c).prn ++ b1 (s.track c).st ++ le 2 (cn0Code (s.track c).cn0) ++
          leF (s.track c).doppler))))

/-- Antenna and interference: Table 11.1's changes, once the current has stood so long, with their events and source; a
short retried 1 s after the bias went off. The level of Table 11.2, ALARM after 1 s at JAM_ALARM, with its source. A
bank epoch runs the front end in STARTING and RUNNING, and in RUNNING of mode 0 tracks and searches, one epoch in four
going to admitted pip processing; outside, all of them go there. Acquisition and tracking: at DWELL epochs a window's
peak is judged; a detection goes to the lowest idle channel in PULL_IN (with none idle it is not followed, log entry
63); no lock within 100 ms is a counted false alarm; locks raise the channel's state and losses lower it, a loss of code
joining the lost list for 60 s. Else each of these rows changes nothing of its own. -/
def Obligations.GnssSignals : Prop :=
  (∀ (n : Nat) (c : F32) (s : State),
    let o := s.gns.antenna
    let held (len : Nat) : Prop := s.gns.antennaAt + len ≤ s.mono
    let good := fLe (fDec 3 1000) c = true
    let found := n = 1 ∧ o = 2 ∧ good ∧ held 25000000
    let stays := n = 1 ∧ o = 1 ∧ good
    let opens := n = 2 ∧ o = 1 ∧ fLt c (fDec 3 1000) = true ∧ held 25000000
    let shorts := n = 3 ∧ (o = 1 ∨ o = 2) ∧ held 2500000
    let ends (u : State) : Prop := exec (.antennaBiasChange n c) s = .next (settle u)
    (found → ends (antennaTo s 1 c)) ∧
    (stays → ends { s with gns := { s.gns with biasA := c } }) ∧
    (opens → ends (antennaTo s 2 c)) ∧
    (shorts → ends { antennaTo s 3 c with gns := { (antennaTo s 3 c).gns with shortAt := s.mono, biasA := f0 } }) ∧
    (¬ found → ¬ stays → ¬ opens → ¬ shorts → ends s)) ∧
  (∀ (c : F32) (s : State),
    let off := s.gns.antenna = 3 ∧ s.gns.shortAt + 250000000 ≤ s.mono
    let good := off ∧ fLe (fDec 3 1000) c = true ∧ fLe c (fDec 90 1000) = true ∧ s.gns.shortAt + 275000000 ≤ s.mono
    (good → exec (.antennaBiasRetry true c) s = .next (settle (antennaTo s 1 c))) ∧
    (¬ good → exec (.antennaBiasRetry true c) s = .next (settle s)) ∧
    (off → exec (.antennaBiasRetry false c) s = .next (settle { s with gns := { s.gns with shortAt := s.mono } })) ∧
    (¬ off → exec (.antennaBiasRetry false c) s = .next (settle s))) ∧
  (∀ (n : Nat) (c : F32) (s : State),
    let o := s.gns.antenna
    let data := b1 o ++ b1 n ++ zeros 2 ++ leF c
    let u : State := { s with gns := { s.gns with
      antenna := n, biasA := c, antennaAt := s.mono
      caps := s.gns.caps.map fun x => if capRuns s x ∧ n ≠ 1 then { x with flags := x.flags ||| 2 } else x } }
    (o = n → antennaTo s n c = u) ∧
    (o ≠ n → n = 2 ∨ n = 3 → antennaTo s n c = raise (emitFault u 0x0A01 gnssFid data) 152 n) ∧
    (o ≠ n → n ≠ 2 → n ≠ 3 → antennaTo s n c = returnSrc (emit u 0x0A01 gnssFid data) 152)) ∧
  (∀ s : State,
    let ok := (gnssSt s).live = true ∧ ∃ t, s.gns.jamAt = some t ∧ t + 250000000 ≤ s.mono
    (ok → exec .jammingAlarmTimeout s = .next (settle (levelTo s 3))) ∧
    (¬ ok → exec .jammingAlarmTimeout s = .next (settle s))) ∧
  (∀ s : State,
    let alarm := ∃ t, s.gns.jamAt = some t ∧ t + 250000000 ≤ s.mono
    (alarm → jamLevel s = 3) ∧
    (¬ alarm → jamLevel s = if fLe (nfWarn (notchNow s)) s.gns.ji then 2 else if engagedMask s = 0 then 0 else 1)) ∧
  (∀ (n : Nat) (s : State),
    let o := s.gns.level
    let u : State := { s with gns := { s.gns with level := n } }
    let data := b1 o ++ b1 n ++ b1 (engagedMask s) ++ b1 0 ++ leF s.gns.ji
    (o = n → levelTo s n = s) ∧
    (o ≠ n → n = 3 → levelTo s n =
      raise (emitFault u 0x0A02 gnssFid data) 153 (fToInt (fMul s.gns.ji (fOfNat 10))).toNat) ∧
    (o ≠ n → n ≠ 3 → o = 3 → levelTo s n = returnSrc (emit u 0x0A02 gnssFid data) 153) ∧
    (o ≠ n → n ≠ 3 → o ≠ 3 → levelTo s n = emit u 0x0A02 gnssFid data)) ∧
  (∀ (b : BankEpoch) (s : State),
    let t := if (gnssSt s).live then frontEpoch b s else s
    let job := jobAdmitted t = true
    let more (v : State) : State := { v with gns := { v.gns with jobEpochs := v.gns.jobEpochs + 1 } }
    let tracked := b.chans.foldl trackEpoch { t with gns := { t.gns with bank := t.gns.bank + 1 } }
    let v := match b.tcxo with
      | none => tracked
      | some x => { tracked with gns := { tracked.gns with data := { tracked.gns.data with tcxo := some x } } }
    let ends (w : State) : Prop := exec (.gnssBankEpoch b) s = .next (settle w)
    (fwRuns s = false → ends s) ∧
    (fwRuns s = true → gnssFull t = false → (job → ends (more t)) ∧ (¬ job → ends t)) ∧
    (fwRuns s = true → gnssFull t = true →
      (job ∧ t.gns.bank % 4 = 3 → ends (more v)) ∧ (¬ (job ∧ t.gns.bank % 4 = 3) → ends (searchEpoch b v))) ∧
    (frontEpoch b s).gns.ji = b.ji ∧ (frontEpoch b s).gns.agc = b.agc) ∧
  (∀ (s : State) (d : Bytes) (n : Nat) (x : NotchLine) (l : List NotchLine), (s.notch n).st ≠ 2 →
    strongest (l.filter fun y => fLe (fAbs (fSub y.freq (nfCentre d n))) (nfHalf d n) && !lineTaken s d n y.freq) = some x →
    (fLe (nfTh d) x.level = false → notchAdapt s d n l = { st := 1 }) ∧
    (fLe (nfTh d) x.level = true → (s.notch n).run = 9 → fLe (fAbs (fSub x.freq (s.notch n).freq)) (fOfNat 100) = true →
      notchAdapt s d n l = { st := 2, freq := x.freq })) ∧
  (∀ (b : BankEpoch) (x : Search) (r : List Search) (s : State), s.gns.sweep = x :: r → skipPrns s (x :: r) = x :: r →
    let g := s.gns
    let sums := if g.dwell = 0 then b.cells else sumCells g.sums b.cells
    let done : State := { s with gns := { g with sweep := r, window := 0, dwell := 0, sums := [] } }
    let next := if g.window + 1 < x.windows
      then { s with gns := { g with window := g.window + 1, dwell := 0, sums := [] } } else done
    let judged := gcDwell (s.app .gnss) ≤ g.dwell + 1
    (¬ judged → searchEpoch b s = { s with gns := { g with dwell := g.dwell + 1, sums := sums } }) ∧
    (judged → peakOf sums = none → searchEpoch b s = next) ∧
    (∀ bin hyp ratio, judged → peakOf sums = some (bin, hyp, ratio) →
      (fLe (gcAcqTh (s.app .gnss)) ratio = false → searchEpoch b s = next) ∧
      (fLe (gcAcqTh (s.app .gnss)) ratio = true → searchEpoch b s = handOver done x.prn
        (fAdd x.centre (fOfInt ((windowLow g.window + bin) * gcBin (s.app .gnss)))) (fOfQ ((hyp % 2046 : Nat) : Int) 1)))) ∧
  (∀ (prn : Nat) (dop code : F32) (s : State),
    (∀ c, c < 48 → (s.track c).st = 0 → (∀ j, j < c → (s.track j).st ≠ 0) → handOver s prn dop code = s.setTrack c
      { st := 1, prn := prn, doppler := dop, code := code, pullAt := s.mono, left := (s.track c).left }) ∧
    ((∀ c, c < 48 → (s.track c).st ≠ 0) → handOver s prn dop code = s)) ∧
  (∀ d : Bytes, gcBin d = 500 → gcSpan d = 10000 → windowCount d = 3) ∧
  (∀ (c : Nat) (s : State),
    let ok := (s.track c).st = 1 ∧ (s.track c).pullAt + 25000000 ≤ s.mono
    (ok → ∃ u, exec (.acquisitionFalseAlarm c) s = .next u ∧
      u.track c = {} ∧ u.gns.falseAlarms = satN 4 (s.gns.falseAlarms + 1) ∧ u.gns.lost = s.gns.lost) ∧
    (¬ ok → exec (.acquisitionFalseAlarm c) s = .next s)) ∧
  (∀ (c : Nat) (code phase : Bool) (s : State),
    let t := s.track c
    let ends (u : State) : Prop := exec (.trackingLockChange c code phase) s = .next u
    let pulls := code = true ∧ s.mono ≤ t.pullAt + 25000000
    let found : State := { s with gns := { s.gns with lost := s.gns.lost.filter fun l => decide (l.prn ≠ t.prn) } }
    (gnssFull s = false ∨ t.st = 0 → ends s) ∧
    (gnssFull s = true → t.st = 1 →
      (pulls → phase = true → ends (found.setTrack c { t with st := 3, phaseAt := s.mono })) ∧
      (pulls → phase = false → ends (found.setTrack c { t with st := 2 })) ∧ (¬ pulls → ends s)) ∧
    (gnssFull s = true → 2 ≤ t.st → code = false → ends (trackLost s c)) ∧
    (gnssFull s = true → t.st = 2 → code = true →
      (phase = true → ends (s.setTrack c { t with st := 3, phaseAt := s.mono, unlockAt := none })) ∧
      (phase = false → ends s)) ∧
    (gnssFull s = true → 2 < t.st → code = true →
      (phase = true → ends (s.setTrack c { t with unlockAt := none })) ∧
      (phase = false → ends (s.setTrack c { t with unlockAt := some (t.unlockAt.getD s.mono) })))) ∧
  (∀ (c : Nat) (s : State), ((trackLost s c).track c).st = 0 ∧
    (trackLost s c).gns.losses = satN 4 (s.gns.losses + 1) ∧
    { prn := (s.track c).prn, doppler := (s.track c).doppler, at_ := s.mono } ∈ (trackLost s c).gns.lost) ∧
  (∀ (c : Nat) (s : State),
    let t := s.track c
    let weak := t.st ≠ 0 ∧ ∃ a, t.lowAt = some a ∧ a + 250000000 ≤ s.mono
    let slips := 3 ≤ t.st ∧ ∃ a, t.unlockAt = some a ∧ a + 50000000 ≤ s.mono
    (weak → exec (.trackingLossTimeout c true) s = .next (trackLost s c)) ∧
    (¬ weak → exec (.trackingLossTimeout c true) s = .next s) ∧
    (slips → exec (.trackingLossTimeout c false) s = .next (s.setTrack c { t with
      st := 2, unlockAt := none, prevId := none, tow := none, bad := 0
      left := if t.st = 5 then some t.prn else none })) ∧
    (¬ slips → exec (.trackingLossTimeout c false) s = .next s)) ∧
  (∀ (c : Nat) (s : State),
    let ok := (s.track c).st = 3 ∧ (s.track c).phaseAt + 250000000 ≤ s.mono
    (ok → exec (.bitSyncTimeout c) s = .next (s.setTrack c { s.track c with st := 4 })) ∧
    (¬ ok → exec (.bitSyncTimeout c) s = .next s)) ∧
  (∀ (prn : Nat) (s : State), exec (.lostPrnExpiry prn) s = .next { s with gns := { s.gns with
    lost := s.gns.lost.filter fun l => decide (l.prn ≠ prn) || decide (s.mono < l.at_ + 15000000000) } })

/-- Navigation words, epochs and the fix: frame sync after two preambles 300 bits apart with TLM and HOW good and the ID
advanced; a record for each whole subframe of a channel in FRAME_SYNC, and one for the subframe under way as it leaves;
two bad subframes return it to BIT_SYNC. An epoch in mode 0 solves a fix from at least four used satellites within
PDOP_MAX, sends the observables and serves the time domains. Word parity and word fields are those of log entry 14. The
navigation data are stored every 10 min; GNSS is RUNNING 10 ms after START. Pips: a capture begins at its tick with the
strobe's stamp, JI and TCXO offset; once its samples are taken it is stored with its notice, and processing asked for
joins the queue; one PRN ends after an epoch for each millisecond of each window, and the last one sends the notice of
kind 1. Else each of these rows changes nothing of its own. -/
def Obligations.WordsEpochsAndPips : Prop :=
  (∀ (c prev prn : Nat) (ws : List Nat) (follows : Bool) (start : T96) (s : State), (s.track c).left = some prn →
    exec (.subframeReceived c ws prev follows start) s = .next (sendWords (s.setTrack c { s.track c with left := none })
      (wordRecord prn c (readSubframe ws prev) false none start))) ∧
  (∀ (c prev : Nat) (ws : List Nat) (follows : Bool) (start : T96) (s : State), (s.track c).left = none →
    let f := readSubframe ws prev
    let t := s.track c
    let ends (u : State) : Prop := exec (.subframeReceived c ws prev follows start) s = .next u
    let begins := f.pre = true ∧ 2 ≤ ws.length
    let sync := begins ∧ f.headOk = true ∧ follows = true ∧ t.prevId.map nextId = some f.id
    let v := { t with st := 5, prevId := none, tow := some ((f.tow + 100799) % 100800), bad := 0 }
    let bad := if f.headOk then 0 else t.bad + 1
    let sent := sendWords s (wordRecord t.prn c f true t.tow start)
    (t.st ≠ 4 → t.st ≠ 5 → ends s) ∧
    (t.st = 4 → ¬ begins → ends (s.setTrack c { t with prevId := none })) ∧
    (t.st = 4 → begins → ¬ sync → ends (s.setTrack c { t with
      prevId := if f.headOk && decide (1 ≤ f.id) && decide (f.id ≤ 5) then some f.id else none })) ∧
    (t.st = 4 → sync → ws.length < 10 → ends (s.setTrack c v)) ∧
    (t.st = 4 → sync → 10 ≤ ws.length → ends (takeData
      ((sendWords (s.setTrack c v) (wordRecord t.prn c f true none start)).setTrack c { v with tow := some f.tow })
      t.prn f)) ∧
    (t.st = 5 → ws.length < 10 → ends s) ∧
    (t.st = 5 → 10 ≤ ws.length → 2 ≤ bad → ends (takeData
      (sent.setTrack c { t with st := 4, bad := 0, tow := none, prevId := none }) t.prn f)) ∧
    (t.st = 5 → 10 ≤ ws.length → bad < 2 → ends (takeData (sent.setTrack c { t with
      bad := bad, tow := if f.parity.testBit 1 then some f.tow else t.tow.map fun n => (n + 1) % 100800 }) t.prn f))) ∧
  (∀ (s : State) (prn : Nat) (f : Subframe), f.parity ≠ 1023 → takeData s prn f = s) ∧
  (∀ (prn c prev : Nat) (ws : List Nat) (full : Bool) (t : Option Nat) (start : T96),
    (wordRecord prn c (readSubframe ws prev) full t start).length = 64) ∧
  (∀ (m : EpochIn) (s : State),
    let ok := fwRuns s = true ∧ gnssSt s = .running ∧ epochDue s m = true
    let num := (s.gns.epoch + 1) % 2 ^ 32
    let t : State := { s with gns := { s.gns with epoch := num, epochAt := some s.mono } }
    let u := sendObs (solveFix t m) m s.gns.epoch (strobe s)
    (ok → gcMode (s.app .gnss) ≠ 0 → exec (.measurementEpoch m) s =
      .next (settle { t with gns := { t.gns with stepped := false } })) ∧
    (ok → gcMode (s.app .gnss) = 0 → exec (.measurementEpoch m) s =
      .next (settle (forN 4 (timeGnss m s.gns.noFix) { u with gns := { u.gns with stepped := false } }))) ∧
    (¬ ok → exec (.measurementEpoch m) s = .next (settle s))) ∧
  (∀ (m : EpochIn) (s : State),
    let used := (m.obs.filter (satUsed s m)).length
    let g := (solveFix s m).gns
    g.fix = (decide (4 ≤ used) && fLe m.pdop (gcPdopMax (s.app .gnss))) ∧ g.used = used ∧
    (g.fix = true → g.noFix = 0 ∧ g.lat = m.lat ∧ g.lon = m.lon ∧ g.week = fullWeek m.week) ∧
    (g.fix = false → g.noFix = min 3 (s.gns.noFix + 1) ∧ g.lat = s.gns.lat)) ∧
  (∀ s : State,
    let ok := gnssSt s = .running ∧ s.gns.storeAt + 150000000000 ≤ s.mono
    (ok → exec .gnssDataStore s =
      .next { s with gns := { s.gns with saved := s.gns.data, storeAt := s.mono } }) ∧
    (¬ ok → exec .gnssDataStore s = .next s)) ∧
  (∀ s : State,
    let ok := gnssSt s = .starting ∧ (s.fn gnssFid).since + 2500000 ≤ s.mono
    (ok → exec .gnssStartCommit s = .next (settle (changeState
      { s with gns := { s.gns with storeAt := s.mono } } gnssFid .running))) ∧
    (¬ ok → exec .gnssStartCommit s = .next (settle s))) ∧
  (∀ s : State,
    ((gnssSt s).live = false → exec .pipCaptureBegin s = .next s) ∧
    ((gnssSt s).live = true → exec .pipCaptureBegin s = .next { s with gns := { s.gns with
      caps := s.gns.caps.map fun c => if c.begun.isNone && decide (c.due ≤ s.mono ∧ s.mono ≤ c.due + 16) then
        { c with begun := some s.mono, start := strobe s, ji := s.gns.ji, tcxo := s.gns.data.tcxo.getD f0
                 flags := if s.gns.antenna = 1 then c.flags else c.flags ||| 2 } else c } })) ∧
  (∀ (b : Bytes) (s : State),
    let taken := s.gns.caps.find? fun c => c.begun.isSome && !capRuns s c
    (taken = none → exec (.pipStored b) s = .next s) ∧
    (∀ c, taken = some c →
      let t := pipNotice { s with gns := { s.gns with
        caps := s.gns.caps.filter fun x => decide (x.id ≠ c.id)
        pips := s.gns.pips ++ [{
          id := c.id, len := c.len, start := c.start, tcxo := c.tcxo, ji := c.ji
          flags := bit (c.flags.testBit 0) 0 + bit (c.flags.testBit 1) 1 + bit (c.flags.testBit 4) 4
          samples := fitBytes (8184 * c.len) b }] } } c.id 0 c.start []
      (c.flags.testBit 2 = false → exec (.pipStored b) s = .next t) ∧
      (c.flags.testBit 2 = true → exec (.pipStored b) s = .next (pipRequest t c.id)))) ∧
  (∀ (c : PipCap) (s : State), capRuns s c = true ↔ ∃ t, c.begun = some t ∧ s.mono < t + 250000 * c.len) ∧
  (∀ (id : Nat) (s : State), (pipRequest s id).gns.jobs = s.gns.jobs ++ [id]) ∧
  (∀ (r : F32) (code : Nat) (dop : Int) (s : State),
    let ends (u : State) : Prop := exec (.pipProcessingUnit r code dop) s = .next u
    let prn := jobNext s s.gns.jobPrn
    (s.gns.jobs = [] → ends s) ∧
    (s.gns.jobs ≠ [] → jobPip s = none →
      (s.gns.jobEpochs = 0 → ends s) ∧ (s.gns.jobEpochs ≠ 0 → ends (jobDone s))) ∧
    (∀ p, s.gns.jobs ≠ [] → jobPip s = some p →
      let e := (prn, satN 2 (fToInt (fMul r (fOfNat 100))).toNat, code % 65536, dop)
      let u : State := { s with gns := { s.gns with
        found := if fLe (gcAcqTh (s.app .gnss)) r then s.gns.found ++ [e] else s.gns.found
        jobPrn := prn + 1, jobEpochs := 0 } }
      let whole := windowCount (s.app .gnss) * p.len ≤ s.gns.jobEpochs
      (32 < prn → ends (jobFinish s p)) ∧
      (prn ≤ 32 → ¬ whole → ends s) ∧
      (prn ≤ 32 → whole → jobNext s (prn + 1) ≤ 32 → ends u) ∧
      (prn ≤ 32 → whole → 32 < jobNext s (prn + 1) → ends (jobFinish u p)))) ∧
  (∀ (p : Pip) (s : State), (jobFinish s p).gns.jobs = s.gns.jobs.drop 1 ∧ (jobFinish s p).gns.found = [] ∧
    (jobFinish s p).gns.jobPrn = 1)

/-! ## Time unit and network switch (chapter 12) -/

/-- The time opcodes, once accepted. GET_TIME answers the domain's time and the tick of the same instant, its clock
state, class, accuracy, flags, offset to UTC, error bound and grandmaster, and TIME_STATUS the fields of Table 12.11;
both change no state but the session's and the reply's. RATE_OVERRIDE clears the override, or sets it and the frequency
term, which is then within 1,000 ppm of nominal. PORT_CONFIG joins those that wait 10 ms and GATE_CONFIG waits for its
list's start; each is stored at once where its flag asks for it. The grandmaster identity and the accuracies are the
model's choice (log entry 15). -/
def Obligations.TimeCommands : Prop :=
  (∀ (h : Hdr) (p : Bytes) (s : State), Accepted opGetTime h p 40 s →
    let d := byteAt p 0
    let x := s.dom d
    let flags := bit x.ptpScale 0 + bit x.utcValid 1 + bit x.leap61 2 + bit x.leap59 3 + bit x.override.isSome 4 +
      bit x.step.isSome 5 + bit (ppsHold s d) 6
    exec (.getTime h p) s = .next (replied h 0x0B01 p (okWith (atBody s h) (leT (s.td d) ++ le 8 s.mono ++ b1 x.clk ++
      b1 (clockClass s d) ++ b1 (accuracy (bound s d)) ++ b1 flags ++ leI 2 x.utc ++ zeros 2 ++ boundField s d ++
      gmIdentity s d)))) ∧
  (∀ (s : State) (d : Nat),
    boundField s d = le 4 (match bound s d with | some e => min e 0xFFFFFFFE | none => 0xFFFFFFFF) ∧
    ((s.dom d).gmId = none → gmIdentity s d = ownIdentity) ∧
    (∀ i, (s.dom d).gmId = some i → gmIdentity s d = if domSource s d = 1 then (le 8 i).reverse else ownIdentity)) ∧
  (∀ (h : Hdr) (p : Bytes) (s : State), Accepted opRateOverride h p 0 s →
    let b := atBody s h
    let d := byteAt p 0
    let f := rd p 4 8
    let set := { s.dom d with
      freq := f, freqHist := (s.mono, f) :: termsSince (s.mono - 2500000000) (s.dom d).freqHist, override := some f }
    ((byteAt p 1).testBit 0 = true → exec (.rateOverride h p) s =
      .next (replied h 0x0B02 p (okAns (b.setDom d { s.dom d with override := none })))) ∧
    ((byteAt p 1).testBit 0 = false → 0x3FEF9DB23 ≤ f ∧ f ≤ 0x4010624DD ∧
      exec (.rateOverride h p) s = .next (replied h 0x0B02 p (okAns (b.setDom d set))))) ∧
  (∀ (h : Hdr) (p : Bytes) (s : State), Accepted opPortConfig h p 0 s →
    let k := byteAt p 0
    exec (.portConfig h p) s = .next (replied h 0x0B03 p (okAns ((atBody s h).setPort k { s.port k with
      pend := (s.port k).pend ++ [(s.mono + 2500000, p)]
      stored := if prStore p then some p else (s.port k).stored })))) ∧
  (∀ (h : Hdr) (p : Bytes) (s : State), Accepted opGateConfig h p 0 s →
    let k := byteAt p 0
    exec (.gateConfig h p) s = .next (replied h 0x0B04 p (okAns ((atBody s h).setPort k { s.port k with
      gatePend := some (s.mono, p), gateStored := if gtStore p then some p else (s.port k).gateStored })))) ∧
  (∀ (h : Hdr) (p : Bytes) (s : State), Accepted opTimeStatus h p 160 s →
    let d := byteAt p 0
    let x := s.dom d
    let held := if x.clk = 3 ∨ (x.clk = 1 ∧ x.acqFrom = 1) then (s.mono - x.boundAt) / 250000000 else 0
    exec (.timeStatus h p) s = .next (replied h 0x0B05 p (okWith (atBody s h) (leT s.now ++ b1 (s.st (tdFid d)).code ++
      b1 x.clk ++ b1 (tdSource (tdCfg s d)) ++ b1 (x.slave.getD 0xFF) ++ leF (offF x.lastOff) ++ leF (ppb x.freq) ++
      le 8 x.inc ++ le 4 held ++ boundField s d ++ le 4 x.steps ++ le 4 x.outliers ++
      (List.range 7).flatMap fun q => b1 q ++ b1 (portState s d q) ++ zeros 2 ++ leF (s.ptpPort d q).delay ++
        leF (s.ptpPort d q).ratio ++ le 4 (s.ptpPort d q).missed))))

/-- Clocks. Every tick adds the increment, which stays within 1,000 ppm of nominal, so no slew stops or turns a clock. A
decided step is made where the clock passes a whole second, and no pulse leaves there for a second; else a pulse leaves
as the clock passes a whole second plus PPS_OFFSET. A slew that has ended clears the phase term; a bound over
HOLDOVER_SPEC is reported once; a domain is RUNNING 1 ms after its commit. Sources: what an offset does in each clock
state (while a step is pending it is only counted, log entry 64; from FREE, HOLDOVER and BACKUP it enters ACQUIRING and
decides; ten consecutive small ones are LOCKED; in LOCKED a large one needs a second that agrees), what a loss leaves
(TD0 in BACKUP where TD1 is locked, and HOLDOVER when TD1 is lost too), and the rows that bring offsets, losses and PTP
messages: where the conditions of one do not hold it changes nothing of its own. The servo's new frequency is a free
value (log entry 7). -/
def Obligations.Clocks : Prop :=
  (∀ x : Domain, x.tick.fine = x.fine + x.inc ∧ x.tick.phaseLeft = x.phaseLeft - x.slew ∧
    0x3FEF9DB23 ≤ x.inc ∧ x.inc ≤ 0x4010624DD) ∧
  (∀ (d : Nat) (s : State),
    let x := s.dom d
    let due := passed x 0 = true ∧ x.stepAt < s.mono
    let y : Domain := { x with
      stepMade := true, boundAt := if x.acqFrom = 2 then s.mono else x.boundAt
      ppsMute := some (max (s.mono + 1) (x.lastPps.getD 0 + 250000000)) }
    (∀ o, x.step = some o → due → exec (.timeStepMade d) s =
      .next (settle (setTime (s.setDom d y) d ((x.fine : Int) - o * 65536).toNat))) ∧
    (x.step = none ∨ ¬ due → exec (.timeStepMade d) s = .next (settle s))) ∧
  (∀ (s : State) (d v : Nat), (setTime s d v).dom d = { (s.dom d).setFine v with
    phase := 0, phaseLeft := 0, step := none, decide := true, steps := satN 4 ((s.dom d).steps + 1)
    stepsTotal := satN 4 ((s.dom d).stepsTotal + 1) }) ∧
  (∀ (d : Nat) (s : State),
    let c := tdCfg s d
    let x := s.dom d
    let ok := s.st (tdFid d) ≠ .off ∧ s.pwr.state ≠ 3 ∧ tdPps c = true ∧ passed x (tdPpsOffset c) = true ∧
      x.lastPps ≠ some s.mono
    let mute := (x.step ≠ none ∧ (tdPpsOffset c < 0 ∨ passed x 0 = true)) ∨ ∃ t, x.ppsMute = some t ∧ s.mono < t
    let u := s.setDom d { x with lastPps := some s.mono, ppsMute := none }
    (ok → ¬ mute → exec (.ppsOutPulse d) s = .next { u with sent := .pps d (tdPpsWidth c) :: s.sent }) ∧
    (¬ ok ∨ mute → exec (.ppsOutPulse d) s = .next s)) ∧
  (∀ (d : Nat) (s : State),
    ((s.dom d).phaseLeft = 0 → exec (.slewComplete d) s = .next (s.setDom d { s.dom d with phase := 0 })) ∧
    ((s.dom d).phaseLeft ≠ 0 → exec (.slewComplete d) s = .next s)) ∧
  (∀ (d : Nat) (s : State),
    let x := s.dom d
    let ok (e : Nat) : Prop := (x.clk = 3 ∨ (x.clk = 1 ∧ x.acqFrom ≠ 0)) ∧ x.specSent = false ∧
      bound s d = some e ∧ tdSpec (s.app (.td d)) < e
    (∀ e, ok e → exec (.holdoverSpecExceeded d) s =
      .next (settle (clockEvent (s.setDom d { x with specSent := true }) d x.clk))) ∧
    ((∀ e, ¬ ok e) → exec (.holdoverSpecExceeded d) s = .next (settle s))) ∧
  (∀ (d : Nat) (s : State),
    let ok := s.st (tdFid d) = .starting ∧ (s.fn (tdFid d)).since + 250000 ≤ s.mono
    (ok → exec (.domainStartCommit d) s = .next (settle (changeState s (tdFid d) .running))) ∧
    (¬ ok → exec (.domainStartCommit d) s = .next (settle s))) ∧
  (∀ (d : Nat) (o : Int) (s : State), (s.dom d).step ≠ none →
    offsetTake d o s = s.setDom d { s.dom d with
      lastOff := o, srcUp := true, srcLost := false, outliers := satN 4 ((s.dom d).outliers + 1) }) ∧
  (∀ (d : Nat) (o : Int) (s : State), (s.dom d).step = none →
    let x := s.dom d
    let y := (offsetTake d o s).dom d
    let large := 65536000000 ≤ o.natAbs
    let decides := x.decide = true ∨ (x.phaseLeft ≠ 0 ∧ large)
    let slews := y.step = none ∧ y.phaseLeft = -(o * 65536)
    let steps := y.step = some o ∧ y.phaseLeft = 0 ∧ y.freq = x.freq
    y.lastOff = o ∧ y.srcUp = true ∧ y.srcLost = false ∧
    (x.clk ≠ 1 → x.clk ≠ 2 → y.clk = 1 ∧ y.acqFrom = (if x.clk = 0 then 0 else 1) ∧ (large → steps) ∧
      (¬ large → slews)) ∧
    (x.clk = 1 → decides → y.clk = 1 ∧ y.decide = false ∧ (large → steps) ∧ (¬ large → slews)) ∧
    (x.clk = 1 → ¬ decides → slews ∧
      (o.natAbs ≤ 65536000 → 9 ≤ x.good → y.clk = 2) ∧
      (o.natAbs ≤ 65536000 → x.good < 9 → y.clk = 1 ∧ y.good = x.good + 1) ∧
      (65536000 < o.natAbs → y.clk = 1 ∧ y.good = 0)) ∧
    (x.clk = 2 → ¬ large → y.clk = 2 ∧ slews ∧ y.cand = none) ∧
    (x.clk = 2 → large → x.cand = none → y.clk = 2 ∧ y.cand = some o ∧ y.freq = x.freq) ∧
    (∀ c, x.clk = 2 → large → x.cand = some c → (o - c).natAbs ≤ 65536000 →
      y.clk = 1 ∧ y.step = some o ∧ y.acqFrom = 2) ∧
    (∀ c, x.clk = 2 → large → x.cand = some c → 65536000 < (o - c).natAbs →
      y.clk = 2 ∧ y.cand = some o ∧ y.outliers = satN 4 (x.outliers + 1))) ∧
  (∀ (d : Nat) (o : Int) (s : State),
    ((s.dom d).srcLost = false → offsetIn d o s = offsetTake d o s) ∧
    ((s.dom d).srcLost = true → offsetIn d o s = returnSrc (offsetTake d o s) (160 + d))) ∧
  (∀ (s : State) (d : Nat), d ≠ 0 → d < 4 →
    let x := s.dom d
    let t := sourceLost s d
    let y := t.dom d
    (x.clk = 2 → y.clk = 3 ∧ y.lockBound = (bound s d).getD 0 ∧ y.boundAt = s.mono) ∧
    (x.clk = 1 → x.acqFrom = 0 → y.clk = 0) ∧ (x.clk = 1 → x.acqFrom ≠ 0 → y.clk = 3) ∧
    (x.clk = 0 → y.clk = 0) ∧ (x.clk = 3 → y.clk = 3 ∧ y.lockBound = x.lockBound) ∧
    (x.srcLost = false → (t.src (160 + d)).pair = 2) ∧
    (x.clk < 4 → y.step = none ∧ y.phase = 0 ∧ y.srcUp = false ∧ y.srcLost = true ∧
      (x.override = none → x.srcUp = true → y.freq = x.freqMean s.mono))) ∧
  (∀ s : State, (s.dom 0).clk = 1 ∨ (s.dom 0).clk = 2 →
    (tdBackup (s.app (.td 0)) = true → (s.dom 1).clk = 2 → ((sourceLost s 0).dom 0).clk = 4) ∧
    ((s.dom 0).clk = 2 → tdBackup (s.app (.td 0)) = false ∨ (s.dom 1).clk ≠ 2 →
      ((sourceLost s 0).dom 0).clk = 3)) ∧
  (∀ s : State, (s.dom 0).clk = 4 →
    ((sourceLost s 1).dom 0).clk = 3 ∧ ((sourceLost s 1).dom 0).lockBound = (bound s 1).getD 0 ∧
    ((sourceLost s 1).dom 0).freq = (s.dom 0).freq) ∧
  (∀ (port : Nat) (m : PtpMsg) (s : State),
    let ok := fwRuns s = true ∧ port ≤ 6 ∧ (s.port port).link = true
    let x := { s.port port with rx := satN 4 ((s.port port).rx + 1) }
    (ok → 5 ≤ m.kind → exec (.ptpMessageReceived port m) s =
      .next (settle { s.setPort port { x with drop := satN 4 (x.drop + 1) } with
        tsu := { s.tsu with badPtp := s.tsu.badPtp + 1 } })) ∧
    (ok → m.kind < 5 → exec (.ptpMessageReceived port m) s =
      .next (settle (forN 4 (ptpTake port m) (s.setPort port x)))) ∧
    (¬ ok → exec (.ptpMessageReceived port m) s = .next (settle s))) ∧
  (∀ (port d : Nat) (m : PtpMsg) (s : State),
    let x := s.dom d
    let shared := m.kind = 4 ∧ tdProfile (tdCfg s d) = 0 ∧ (tdMask (tdCfg s d)).testBit port = true
    let takes := (terminates s d port m.domainNumber = true ∨ shared) ∧ domLive s d = true
    let mine := domSource s d = 1 ∧ x.slave = some port ∧ m.selected = true
    let t := syncSeen d port s
    let follows := mine ∧ x.twoStep = some port
    (¬ takes → ptpTake port m s d = s) ∧
    (takes → m.kind = 0 → mine → ptpTake port m s d = syncOffset d port m t) ∧
    (takes → m.kind = 1 → mine → ptpTake port m s d = t.setDom d { t.dom d with twoStep := some port }) ∧
    (takes → m.kind = 2 → follows →
      ptpTake port m s d = syncOffset d port m (s.setDom d { x with twoStep := none })) ∧
    (takes → m.kind < 2 → ¬ mine → ptpTake port m s d = s) ∧
    (takes → m.kind = 2 → ¬ follows → ptpTake port m s d = s) ∧
    (takes → m.kind = 3 → ptpTake port m s d = if domSource s d = 1 then announce d port m s else s) ∧
    (takes → 4 ≤ m.kind → ptpTake port m s d =
      setPtpPort s d port { s.ptpPort d port with delay := m.linkDelay, ratio := m.rateRatio })) ∧
  (∀ (d port : Nat) (m : PtpMsg) (s : State),
    let x := s.dom d
    let delay := fAdd (s.ptpPort d port).delay (prAsym (s.portCfg port))
    let o : Int := m.offset + stampShift s port * 65536 - fToInt (fMul delay (fOfNat 65536))
    let waits := s.setDom d { x with cand := some o, lastOff := o }
    (x.srcLost = false → syncOffset d port m s = offsetIn d o s) ∧
    (x.srcLost = true → x.cand = none → syncOffset d port m s = waits) ∧
    (∀ c, x.srcLost = true → x.cand = some c → 65536000 < (o - c).natAbs → syncOffset d port m s = waits) ∧
    (∀ c, x.srcLost = true → x.cand = some c → (o - c).natAbs ≤ 65536000 →
      syncOffset d port m s = offsetIn d o (s.setDom d { x with cand := none }))) ∧
  (∀ (d port kind : Nat) (s : State),
    let p := s.ptpPort d port
    let c := s.portCfg port
    let iv := logTicks (if kind = 0 then prLogSync c else if kind = 1 then prLogAnn c else prLogDelay c)
    let st := portState s d port
    let ok := fwRuns s = true ∧ domLive s d = true ∧ port ≤ 6 ∧ (s.port port).link = true ∧
      (∀ t, tfind p.sent kind = some t → t + iv ≤ s.mono) ∧
      ((kind ≤ 1 ∧ st = 6 ∧ tdTrunk (s.app (.td d)) = true) ∨ (kind = 2 ∧ st ≠ 3))
    let t := setPtpPort s d port { p with sent := tput p.sent kind s.mono }
    let out : Sent := .ptp d port kind (ptpOut t d)
    (ok → exec (.ptpMessageSend d port kind) s = .next { portSent t port with sent := out :: s.sent }) ∧
    (¬ ok → exec (.ptpMessageSend d port kind) s = .next s)) ∧
  (∀ (a b n : Nat) (r c : Int) (s : State),
    let ok := 2 ≤ s.boot.phase ∧ (∀ d, d < 4 → terminates s d a n = false) ∧ a ≤ 6 ∧ b ≤ 6 ∧ a ≠ b ∧
      (s.port a).link = true ∧ (s.port b).link = true ∧ shareVlan s a b = true
    let peer (d : Nat) : Prop := s.st (tdFid d) ≠ .off ∧ (tdMask (tdCfg s d)).testBit a = true ∧
      tdProfile (tdCfg s d) = 2
    let t := s.setPort a { s.port a with rx := satN 4 ((s.port a).rx + 1) }
    let sends (v : Int) : Prop :=
      exec (.ptpEventForwarded a b n r c) s = .next { portSent t b with sent := .ptpForward b v :: s.sent }
    (ok → (∀ d, d < 4 → ¬ peer d) → sends (c + r)) ∧
    (∀ d, ok → d < 4 → peer d → (∀ e, e < d → ¬ peer e) →
      sends (c + r + fToInt (fMul (fAdd (s.ptpPort d a).delay (prAsym (s.portCfg a))) (fOfNat 65536)))) ∧
    (¬ ok → exec (.ptpEventForwarded a b n r c) s = .next s)) ∧
  (∀ (d : Nat) (s : State),
    let x := s.dom d
    let ends (u : State) : Prop := exec (.ptpSourceTimeout d) s = .next (settle u)
    (x.slave = none → ends s) ∧
    (∀ p, x.slave = some p →
      let c := s.portCfg p
      let q := s.ptpPort d p
      let noSync := ∃ t, x.syncAt = some t ∧ t + 3 * logTicks (prLogSync c) ≤ s.mono
      let noAnn := ∃ t, x.annAt = some t ∧ t + prAnnTimeout c * logTicks (prLogAnn c) ≤ s.mono
      (domSource s d = 1 → noSync →
        ends (sourceLost (setPtpPort s d p { q with missed := satN 4 (q.missed + 3) }) d)) ∧
      (domSource s d = 1 → ¬ noSync → noAnn → ends (sourceLost s d)) ∧
      (domSource s d ≠ 1 ∨ (¬ noSync ∧ ¬ noAnn) → ends s))) ∧
  (∀ (n : Nat) (s : State),
    let takes (u : State) (d : Nat) : State :=
      let x := u.dom d
      let r := ((T96.toSub (u.td d) : Int) + stampShift u 7 * 65536) % 65536000000000
      let o := if r * 2 < 65536000000000 then r else r - 65536000000000
      let v := u.setDom d { x with ppsEdge := some u.mono }
      let back (e : Nat) : Bool := decide (e + 250000000 ≤ u.mono + 250 ∧ u.mono ≤ e + 250000000 + 250)
      if domSource u d ≠ 3 then u
      else if (x.ppsEdge.any fun e => decide (u.mono < e + 125000000)) ∨ 26214400000000 < o.natAbs then
        u.setDom d { x with outliers := satN 4 (x.outliers + 1) }
      else if x.srcLost = false ∨ x.ppsEdge.any back then offsetIn d o v
      else v
    (n < 1000 → exec (.ppsInEdge n) s = .next (settle s)) ∧
    (1000 ≤ n → exec (.ppsInEdge n) s =
      .next (settle (forN 4 takes { s with tsu := { s.tsu with ppsIn := some s.mono } })))) ∧
  (∀ (d : Nat) (s : State),
    let ok := (∃ t, s.tsu.ppsIn = some t ∧ t + 275000000 ≤ s.mono) ∧ domSource s d = 3 ∧ (s.dom d).srcUp = true
    (ok → exec (.ppsInTimeout d) s = .next (settle (sourceLost s d))) ∧
    (¬ ok → exec (.ppsInTimeout d) s = .next (settle s)))

/-- The switch: a port configuration is applied 10 ms after its command, the link retrained where enable or role changes;
a link change is an event, and a link that goes down is the loss of the source of each PTP domain whose slave port it
is; a gate list follows its entries, and a new one starts at its cycle instant at least 1 ms after its command, when the
old one has ended; a frame starts only where its queue's gate stays open for the whole of it. A frame with a bad FCS or
outside the port's VLANs is dropped and counted; of any other the source is learned, where the table has room (log entry
64), and it leaves on its learned port or, with none, on all others of its VLAN. Where the conditions of a row do not
hold it changes nothing of its own. -/
def Obligations.SwitchEvents : Prop :=
  (∀ (p : Nat) (s : State), (s.port p).pend = [] → exec (.portConfigApply p) s = .next (settle s)) ∧
  (∀ (p due : Nat) (c : Bytes) (r : List (Nat × Bytes)) (s : State), (s.port p).pend = (due, c) :: r →
    let t := s.setPort p { s.port p with cfg := some c, pend := r }
    let same := prEnable (s.portCfg p) = prEnable c ∧ prRole (s.portCfg p) = prRole c
    (s.mono < due → exec (.portConfigApply p) s = .next (settle s)) ∧
    (due ≤ s.mono → same → exec (.portConfigApply p) s = .next (settle t)) ∧
    (due ≤ s.mono → ¬ same → exec (.portConfigApply p) s = .next (settle (linkTo t p false)))) ∧
  (∀ (p : Nat) (up : Bool) (s : State),
    let ok := p ≤ 8 ∧ 2 ≤ s.boot.phase ∧ (up = false ∨ (portOn s p = true ∧ s.pwr.state ≤ 1))
    (ok → exec (.portLinkChange p up) s = .next (settle (linkTo s p up))) ∧
    (¬ ok → exec (.portLinkChange p up) s = .next (settle s))) ∧
  (∀ (p : Nat) (s : State),
    let t (up : Bool) : State := s.setPort p { s.port p with link := up }
    let lose (u : State) (d : Nat) : State :=
      if domSource u d = 1 ∧ (u.dom d).slave = some p then sourceLost u d else u
    linkTo s p (s.port p).link = s ∧
    ((s.port p).link = false → linkTo s p true = emit (t true) 0x0B03 0xFFFF (b1 p ++ b1 1 ++ zeros 2)) ∧
    ((s.port p).link = true →
      linkTo s p false = [1, 0, 2, 3].foldl lose (emitFault (t false) 0x0B03 0xFFFF (b1 p ++ b1 0 ++ zeros 2)))) ∧
  (∀ (p : Nat) (s : State), (s.port p).gate = none → exec (.gateEntryExpiry p) s = .next s) ∧
  (∀ (p : Nat) (g : Bytes) (s : State), (s.port p).gate = some g →
    let x := s.port p
    let ends (u : State) : Prop := exec (.gateEntryExpiry p) s = .next u
    let expired := x.entryNs + gtInterval g x.entry ≤ s.tdNs (gtDomain g)
    let c := cycleAt s g
    let tick := s.mono - (s.tdNs (gtDomain g) - c) / 4
    let again := x.gatePend = none ∧ x.cycleTick + gtCycle g / 8 ≤ tick
    (¬ expired → ends s) ∧
    (expired → x.entry + 1 < gtCount g →
      ends (portSend (s.setPort p { x with entry := x.entry + 1, entryNs := x.entryNs + gtInterval g x.entry }) p)) ∧
    (expired → gtCount g ≤ x.entry + 1 → again →
      ends (portSend (s.setPort p { x with entry := 0, entryNs := c, cycle := c, cycleTick := tick }) p)) ∧
    (expired → gtCount g ≤ x.entry + 1 → ¬ again → ends s)) ∧
  (∀ (p : Nat) (s : State), (s.port p).gatePend = none → exec (.gateListStart p) s = .next s) ∧
  (∀ (p t : Nat) (g : Bytes) (s : State), (s.port p).gatePend = some (t, g) →
    let x := s.port p
    let c := cycleAt s g
    let past := ∀ o, x.gate = some o →
      x.entry + 1 = gtCount o ∧ x.entryNs + gtInterval o x.entry ≤ s.tdNs (gtDomain o)
    let ok := s.tdNs (gtDomain g) - c < 8 ∧ past ∧ t + 250000 ≤ s.mono
    let u := s.setPort p { x with
      gate := if gtEnable g then some g else none, gatePend := none, entry := 0, entryNs := c, cycle := c
      cycleTick := s.mono }
    (ok → exec (.gateListStart p) s =
      .next (portSend (emit u 0x0B04 0xFFFF (b1 p ++ zeros 3 ++ le 4 (gtCycle g))) p)) ∧
    (¬ ok → exec (.gateListStart p) s = .next s)) ∧
  (∀ (s : State) (p q n : Nat), ((s.port p).gate = none → mayStart s p q n = true) ∧
    (openFor s p q = none → mayStart s p q n = true) ∧
    (∀ t, openFor s p q = some t → (mayStart s p q n = true ↔ lineNs p n ≤ t))) ∧
  (∀ (p : Nat) (s : State),
    let x := s.port p
    let free := x.queue ≠ [] ∧ x.txFree ≤ s.mono ∧ x.link = true
    (∀ e, free → nextFrame s p = some e →
      let t := s.setPort p { x with
        queue := x.queue.erase e, tx := satN 4 (x.tx + 1), txFree := s.mono + (lineNs p e.2.length + 3) / 4 }
      portSend s p = { t with sent := .eth p e.1 e.2 :: s.sent }) ∧
    (¬ free ∨ nextFrame s p = none → portSend s p = s)) ∧
  (∀ (p : Nat) (f : EthFrame) (s : State),
    let ends (u : State) : Prop := exec (.ethFrameReceived p f) s = .next u
    let ok := p ≤ 8 ∧ 2 ≤ s.boot.phase ∧ portOn s p = true ∧ (s.port p).link = true
    let x := { s.port p with rx := satN 4 ((s.port p).rx + 1) }
    let v := f.vlan.getD (prPvid (s.portCfg p))
    let good := ok ∧ f.fcsOk = true ∧ vlanEntry s p v ≠ none
    let own := reservedMac f.dst = true ∨ f.dst = Config.mac.toNat
    let t := learn (s.setPort p x) f.src v p
    let learned := t.eth.fdb.find? fun e => e.mac = f.dst && e.vlan = v
    let leaves (q : Nat) : Prop := q < 9 ∧ q ≠ p ∧ portOn t q = true ∧ (t.port q).link = true
    (¬ ok → ends s) ∧
    (ok → f.fcsOk = false → ends (s.setPort p { x with err := satN 4 (x.err + 1), drop := satN 4 (x.drop + 1) })) ∧
    (ok → f.fcsOk = true → vlanEntry s p v = none → ends (s.setPort p { x with drop := satN 4 (x.drop + 1) })) ∧
    (good → own → ends t) ∧
    (∀ e, good → ¬ own → learned = some e → leaves e.port → ends (egress v f t e.port)) ∧
    (∀ e, good → ¬ own → learned = some e → ¬ leaves e.port → ends t) ∧
    (good → ¬ own → learned = none →
      ends (((List.range 9).filter fun q => decide (leaves q)).foldl (egress v f) t))) ∧
  (∀ (s : State) (p v : Nat) (f : EthFrame),
    (vlanEntry s p v = none → egress v f s p = s) ∧
    (∀ k, vlanEntry s p v = some k →
      let g := { f with vlan := if (prUntagged (s.portCfg p)).testBit k then none else some v }
      let pcp := if f.vlan = none then 0 else f.pcp % 8
      egress v f s p = portSend (s.setPort p { s.port p with queue := (s.port p).queue ++ [(pcp, g)] }) p)) ∧
  (∀ (s : State) (mac v p : Nat),
    let l := (fdbFresh s).filter fun e => decide (e.mac ≠ mac ∨ e.vlan ≠ v)
    (mac / 2 ^ 40 % 2 = 1 ∨ 4096 ≤ l.length → (learn s mac v p).eth.fdb = l) ∧
    (mac / 2 ^ 40 % 2 = 0 → l.length < 4096 →
      (learn s mac v p).eth.fdb = l ++ [{ mac := mac, vlan := v, port := p, tick := s.mono }]) ∧
    (s.eth.fdb.length ≤ 4096 → (learn s mac v p).eth.fdb.length ≤ 4096))

/-! ## CAN controllers (chapter 13) -/

/-- The CAN opcodes outside CONFIG, once accepted. CAN_TRANSMIT answers BAD_PARAM for a format that is not set or, on an
ISO 11783 controller, for any but an extended classical frame; WRONG_STATE unless its controller is RUNNING, not bus-off
and in normal mode; BUSY with 16 frames queued; ADDRESS_NOT_CLAIMED where it inserts an address that is not claimed;
else the frame is queued with its deadline. Whether the bus let an attempt begin just before is a free value (log entry
31). CAN_STATUS answers its three selectors, the second taking whole records, oldest first, while they fit.
CAN_ADDRESS_CLAIM sets both tables, and on a RUNNING ISO 11783 controller a claim of the preferred address begins. -/
def Obligations.CanCommands : Prop :=
  (∀ (h : Hdr) (p : Bytes) (s : State), Accepted opCanTransmit h p 0 s →
    let b := atBody s h
    let k := byteAt p 0
    let d := s.canCfg k
    let fl := byteAt p 1
    let ends (a : Ans) : Prop := exec (.canTransmit h p) s = .next (settle (replied h 0x0C02 p a))
    let typeOk := formatOn d (byteAt p 2) = true ∧ (nIso d = true → byteAt p 2 = 0)
    let idOk := nIso d = true → (rd p 4 4).testBit 29 = true
    let ready := s.st (canFid k) = .running ∧ (s.can1 k).off = none ∧ nMode d = 0
    let room := (s.can1 k).host.length < 16
    let claimed := fl.testBit 2 = true → (s.can1 k).addrSt = 2
    (¬ typeOk → ends (badParam b 2)) ∧
    (typeOk → ¬ idOk → ends (badParam b 4)) ∧
    (typeOk → idOk → ¬ ready → ends (failAns b stWrongState 0)) ∧
    (typeOk → idOk → ready → ¬ room → ends (failAns b stBusy 0)) ∧
    (typeOk → idOk → ready → room → ¬ claimed → ends (failAns b 0x80 0)) ∧
    (typeOk → idOk → ready → room → claimed →
      let t := canMayBegin b k
      let x := t.can1 k
      let dl := if rd p 12 2 = 0 then none else some (s.mono + rd p 12 2 * 250000)
      let q : CanTx := { ser := x.ser, frame := txFrame p, tag := rd p 8 4, oneShot := fl.testBit 0
                         report := fl.testBit 1, insertSa := fl.testBit 2, deadline := dl }
      ends (okAns (t.setCan k { x with host := x.host ++ [q], ser := x.ser + 1 })))) ∧
  (∀ (s : State) (k : Nat),
    let may := canSends s k = true ∧ (s.can1 k).att = none ∧ lowest (canPending (s.can1 k)) ≠ none
    (may → canMayBegin s k = if Config.freeBit s.nonce then canBegin s.draw.2 k else s.draw.2) ∧
    (¬ may → canMayBegin s k = s)) ∧
  (∀ p : Bytes, txFrame p = {
    id := rd p 4 4 % 2 ^ 29, ide := (rd p 4 4).testBit 29, fmt := byteAt p 2, remote := (byteAt p 1).testBit 4
    brs := (byteAt p 1).testBit 3, esi := false, sdu := byteAt p 16, vcid := byteAt p 17, af := rd p 20 4
    data := p.drop 24 }) ∧
  (∀ (h : Hdr) (p : Bytes) (n : Nat) (s : State), Accepted opCanStatus h p n s →
    let b := atBody s h
    let k := byteAt p 0
    let x := s.can1 k
    let room := curMax b - 28
    let r := takeRecs room (byteAt p 2) room x.queue
    let addr := if x.addrSt = 2 then x.addr else 0xFE
    let left := { x with queue := r.2.2, dropped := 0, rxdrop := satN 4 (x.rxdrop + r.2.1) }
    let ends (a : Ans) : Prop := exec (.canStatus h p) s = .next (replied h 0x0C03 p a)
    (byteAt p 1 = 0 → n = 56 → ends (okWith b (leT s.now ++
      le 4 (addr * 65536 + x.addrSt * 16384 + bit (nXl (s.canCfg k)) 13 + bit (nFd (s.canCfg k)) 12 +
        bit x.dominant 11 + x.lec * 256 + x.errState * 16 + (s.st (canFid k)).code) ++
      le 4 (min x.tec 511 * 65536 + x.rxe * 256) ++
      [x.rxfrm, x.txfrm, x.errfrm, x.busoff, x.unmatched, x.rxdrop, x.loopovr, x.fwdrop, x.hpovr].flatMap (le 4)))) ∧
    (byteAt p 1 = 1 → n = 8 + (r.1.flatMap CanRec.bytes).length → ends (okWith (b.setCan k left)
      (le 2 r.2.2.length ++ le 2 r.1.length ++ le 4 (satN 4 (x.dropped + r.2.1)) ++ r.1.flatMap CanRec.bytes))) ∧
    (∀ e, byteAt p 1 = 2 → x.hp = some e → n = e.bytes.length → ends (okWith b e.bytes)) ∧
    (byteAt p 1 = 2 → x.hp = none → n = 28 → ends (okWith b (zeros 28)))) ∧
  (∀ (whole n room : Nat) (q : List CanRec),
    let r := takeRecs whole n room q
    r.1.length ≤ n ∧ (r.1.flatMap CanRec.bytes).length ≤ room ∧ r.1.length + r.2.1 + r.2.2.length = q.length ∧
    (∃ l, q = l ++ r.2.2 ∧ r.1 = l.filter fun e => decide (e.bytes.length ≤ whole)) ∧
    (∀ e c, r.2.2 = e :: c → r.1.length < n → e.bytes.length ≤ whole ∧
      room < (r.1.flatMap CanRec.bytes).length + e.bytes.length)) ∧
  (∀ (h : Hdr) (p : Bytes) (s : State), Accepted opCanAddressClaim h p 0 s →
    let k := byteAt p 0
    let t := ((atBody s h).setStg (.canClaim k) p).setApp (.canClaim k) p
    let claims := s.st (canFid k) = .running ∧ nIso (s.canCfg k) = true
    let y := (claimBegin t k).can1 k
    (claims → exec (.canAddressClaim h p) s = .next (settle (replied h 0x0C04 p (okAns (claimBegin t k))))) ∧
    (¬ claims → exec (.canAddressClaim h p) s = .next (settle (replied h 0x0C04 p (okAns t)))) ∧
    y.addr = clPref p ∧ y.addrSt = 1 ∧ y.claimAt = s.mono ∧ y.cannot = false ∧
    y.fw = (s.can1 k).fw ++ [claimFrame t k (clPref p)])

/-- Receiving. A frame received by a controller that is on its bus, in a format its configuration sets, is counted, lowers
REC, and is offered to loops, to the firmware and to the host: a loop whose input descriptor names it takes its field;
the first enabled filter that matches queues it, puts it in the high-priority buffer or discards it. Any other frame
changes nothing of its own. A full queue drops the oldest; RX_READY and HP_FRAME keep their holdoffs. Log entry 48 holds
what the model chose of them. The address claim and the lifecycle: 250 ms without contention since it was sent make the
claim CLAIMED; a lower NAME for the same address takes it, and the module tries the next of its range or, with none
left, becomes LOST at the end of the delay; a higher NAME is answered with the claim again, and so is a request. A
controller is RUNNING once it has seen 11 recessive bits, and stops when the frame on the bus has completed or at 20 ms,
with its counters cleared. Where the conditions of a row do not hold it changes nothing of its own. -/
def Obligations.CanReceptionAndClaim : Prop :=
  (∀ (k : Nat) (f : CanFrame) (s : State),
    let ok := canActive s k = true ∧ formatOn (s.canCfg k) f.fmt = true
    let t := recDown (s.setCan k { s.can1 k with rxfrm := satN 4 ((s.can1 k).rxfrm + 1) }) k
    (ok → exec (.canFrameReceived k f) s =
      .next (settle (acceptPath (claimMatch (firmwarePath (loopInputs t k f) k f) k f) k f))) ∧
    (¬ ok → exec (.canFrameReceived k f) s = .next (settle s))) ∧
  (∀ (k fmt : Nat) (s : State), exec (.canProtocolException k fmt) s = .next s) ∧
  (∀ (k : Nat) (s : State),
    let x := s.can1 k
    let y := (recDown s k).can1 k
    (x.tec ≤ 255 → y.tec = x.tec) ∧ (x.tec ≤ 255 → x.rxe ≤ 127 → y.rxe = x.rxe - 1) ∧
    (x.tec ≤ 255 → 127 < x.rxe → 119 ≤ y.rxe ∧ y.rxe ≤ 127)) ∧
  (∀ (k n : Nat) (f : CanFrame) (d : Bytes) (a c : Tbl Obj Bytes) (s : State),
    let u := loopInputs s k f
    let reads := dInType d = 5 ∧ dInIdx d = k ∧ idMatches (dInId d) f = true
    s.staged = a ++ (.loop n, d) :: c → (∀ e ∈ a ++ c, e.1 ≠ .loop n) →
    (∀ v, reads → canField (dInQty d) (dInOff d) f.data = some v →
      tget {} u.cle.canIn n = { value := v, tick := s.mono, ok := true }) ∧
    (reads → canField (dInQty d) (dInOff d) f.data = none →
      tget {} u.cle.canIn n = { tget {} s.cle.canIn n with ok := false }) ∧
    (¬ reads → tget {} u.cle.canIn n = tget {} s.cle.canIn n)) ∧
  (∀ (k : Nat) (f : CanFrame) (s : State),
    let x := s.can1 k
    let waits := s.boot.afterCore = true ∧ s.boot.phase < 8
    (¬ waits → firmwarePath s k f = firmwareFields s k f s.mono) ∧
    (waits → firmwareWants s k f = false → firmwarePath s k f = s) ∧
    (waits → firmwareWants s k f = true → x.fwRx.length < Config.fwBuffers k →
      firmwarePath s k f = s.setCan k { x with fwRx := x.fwRx ++ [(f, s.mono)] }) ∧
    (waits → firmwareWants s k f = true → Config.fwBuffers k ≤ x.fwRx.length →
      firmwarePath s k f = s.setCan k { x with fwdrop := satN 4 (x.fwdrop + 1) })) ∧
  (∀ (k : Nat) (f : CanFrame) (s : State),
    let x := s.can1 k
    let u := acceptPath s k f
    let y := u.can1 k
    let missed := u = s.setCan k { x with unmatched := satN 4 (x.unmatched + 1) }
    (firstFilter s k f = none → missed) ∧
    (∀ i, firstFilter s k f = some i →
      let dest := flDest (s.app (.canFilter k i))
      let r : CanRec := { time := s.now, frame := f, filter := i }
      let full := 256 ≤ x.queue.length
      (dest ≠ 1 → dest ≠ 2 → missed) ∧
      (dest = 2 → y.hp = some r ∧
        ((∀ t, x.hpAt = some t → t + 250000 ≤ s.mono) → y.hpDue = true ∧ y.hpovr = x.hpovr) ∧
        (∀ t, x.hpAt = some t → s.mono < t + 250000 → y.hpovr = satN 4 (x.hpovr + 1) ∧ y.hpDue = x.hpDue)) ∧
      (dest = 1 →
        y.queue = (if full then x.queue.drop 1 else x.queue) ++ [r] ∧
        y.rxdrop = (if full then satN 4 (x.rxdrop + 1) else x.rxdrop) ∧
        y.dropped = (if full then satN 4 (x.dropped + 1) else x.dropped) ∧
        (x.queue ≠ [] → y.rxAt = x.rxAt ∧ y.rxDue = x.rxDue) ∧
        (x.queue = [] → (∀ t, x.rxAt = some t → t + 2500000 ≤ s.mono) → y.rxAt = some s.mono ∧ y.rxDue = false) ∧
        (∀ t, x.queue = [] → x.rxAt = some t → s.mono < t + 2500000 → y.rxDue = true ∧ y.rxAt = some t)))) ∧
  (∀ (k i : Nat) (f : CanFrame) (s : State), firstFilter s k f = some i →
    i < 64 ∧ filterHit (s.app (.canFilter k i)) f = true ∧ ∀ j, j < i → filterHit (s.app (.canFilter k j)) f = false) ∧
  (∀ (k : Nat) (s : State),
    let x := s.can1 k
    (∀ r, x.hp = some r → x.hpDue = true → exec (.hpFrameHoldoffExpiry k) s =
      .next (emit (s.setCan k { x with hpDue := false, hpAt := some s.mono }) 0x0C03 (canFid k)
        (le 4 (r.frame.id + bit r.frame.ide 29) ++ b1 r.frame.fmt ++
          b1 (bit r.frame.brs 0 + bit r.frame.esi 1 + bit r.frame.remote 2) ++ le 2 r.frame.data.length ++
          fitBytes 56 r.frame.data))) ∧
    (x.hp = none ∨ x.hpDue = false → exec (.hpFrameHoldoffExpiry k) s = .next s) ∧
    (∀ t, x.rxAt = some t → x.rxDue = true → t + 2500000 ≤ s.mono → x.queue ≠ [] →
      exec (.rxReadyHoldoffExpiry k) s = .next (emit (s.setCan k { x with rxAt := some s.mono, rxDue := false }) 0x0C04
        (canFid k) (le 2 x.queue.length ++ zeros 2))) ∧
    ((∀ t, x.rxAt = some t → x.rxDue = false ∨ s.mono < t + 2500000 ∨ x.queue = []) →
      exec (.rxReadyHoldoffExpiry k) s = .next s)) ∧
  (∀ (k : Nat) (s : State),
    let x := s.can1 k
    let ok := x.addrSt = 1 ∧ x.cannot = false ∧ claimWaits s k = false ∧ x.claimAt + 62500000 ≤ s.mono
    (ok → exec (.addressClaimTimeout k) s = .next (settle (emit (s.setCan k { x with addrSt := 2 }) 0x0C05 (canFid k)
      (b1 1 ++ b1 2 ++ b1 x.addr ++ b1 0)))) ∧
    (¬ ok → exec (.addressClaimTimeout k) s = .next (settle s)) ∧
    (x.cannot = true → ∃ u, exec (.cannotClaimDelayExpiry k) s = .next (settle u) ∧
      (u.can1 k).addrSt = 3 ∧ (u.can1 k).addr = 0xFE ∧ (u.can1 k).fw = x.fw ++ [claimFrame s k 254] ∧
      (u.can1 k).cannot = false ∧ ∀ t ∈ (u.can1 k).host, t.insertSa = false) ∧
    (x.cannot = false → exec (.cannotClaimDelayExpiry k) s = .next (settle s))) ∧
  (∀ (k : Nat) (f : CanFrame) (s : State),
    let pf := f.id / 65536 % 256
    let ps := f.id / 256 % 256
    let iso := nIso (s.canCfg k) = true ∧ f.ide = true ∧ f.fmt = 0 ∧ f.remote = false
    let claim := pf = 0xEE ∧ ps = 0xFF ∧ f.data.length = 8
    let request := pf = 0xEA ∧ f.data.take 3 = [0x00#8, 0xEE#8, 0x00#8]
    (iso → claim → claimMatch s k f = claimHeard s k (f.id % 256) (leVal f.data)) ∧
    (iso → request → claimMatch s k f = claimRequest s k ps) ∧
    (¬ iso ∨ (¬ claim ∧ ¬ request) → claimMatch s k f = s)) ∧
  (∀ (k a name : Nat) (s : State),
    let x := s.can1 k
    let own := clName (s.app (.canClaim k))
    let t := s.setCan k { x with seen := tput x.seen a name }
    let u := claimHeard s k a name
    let y := u.can1 k
    let contends := (x.addrSt = 1 ∨ x.addrSt = 2) ∧ x.cannot = false ∧ a = x.addr
    (name = own → u = s) ∧
    (name ≠ own → ¬ contends → u = t) ∧
    (contends → own < name →
      y = { x with seen := tput x.seen a name, fw := x.fw ++ [claimFrame s k x.addr], claimAt := s.mono }) ∧
    (∀ b, contends → name < own → claimNext t k = some b → u = claimSend t k b) ∧
    (contends → name < own → claimNext t k = none → y = { x with
      seen := tput x.seen a name, cannot := true, addrSt := 1, addr := 0xFE })) ∧
  (∀ (k b : Nat) (s : State),
    let x := s.can1 k
    let y := (claimSend s k b).can1 k
    y = { x with addr := b, addrSt := 1, fw := x.fw ++ [claimFrame s k b], claimAt := s.mono, cannot := false }) ∧
  (∀ (k dest : Nat) (s : State),
    let x := s.can1 k
    let u := claimRequest s k dest
    let asked := (x.addrSt = 1 ∨ x.addrSt = 2) ∧ x.cannot = false ∧ (dest = 255 ∨ dest = x.addr)
    let lost := x.addrSt = 3 ∧ dest = 255
    (asked → u = s.setCan k { x with fw := x.fw ++ [claimFrame s k x.addr] }) ∧
    (lost → u = s.setCan k { x with cannot := true }) ∧ (¬ asked → ¬ lost → u = s)) ∧
  (∀ (k b : Nat) (s : State), claimNext s k = some b →
    let d := s.app (.canClaim k)
    2 ^ 63 ≤ clName d ∧ clLow d ≤ b ∧ b < clLow d + (clHigh d + 1 - clLow d) ∧
      b ≠ (s.can1 k).addr ∧ tfind (s.can1 k).seen b = none) ∧
  (∀ (k : Nat) (s : State),
    let x := s.can1 k
    let n := s.fn (canFid k)
    let t := s.setCan k { x with onBus := true }
    let bus := s.pwr.state ≤ 1 ∧ x.onBus = false
    let seen := n.since + canBits (s.canCfg k) 11 ≤ s.mono
    let ends (u : State) : Prop := exec (.canBusIntegrated k) s = .next (settle u)
    (bus → n.st = .running → ends t) ∧
    (bus → n.st = .starting → seen → ends (changeState t (canFid k) .running)) ∧
    (bus → n.st = .starting → ¬ seen → ends s) ∧
    (¬ bus ∨ (n.st ≠ .running ∧ n.st ≠ .starting) → ends s)) ∧
  (∀ (k : Nat) (s : State),
    let x := s.can1 k
    let n := s.fn (canFid k)
    let ok := n.st = .stopping ∧ (x.att = none ∨ n.since + 5000000 ≤ s.mono)
    let t := canOff s k
    let y := t.can1 k
    (ok → exec (.canStopComplete k) s =
      .next (settle (finishStop (canCheck · k) (canCommit · k) (canFid k) t))) ∧
    (¬ ok → exec (.canStopComplete k) s = .next (settle s)) ∧
    y.tec = 0 ∧ y.rxe = 0 ∧ y.off = none ∧ y.onBus = false ∧ y.host = [] ∧ y.slots = [] ∧ y.fw = [] ∧ y.att = none ∧
    y.addrSt = 0 ∧ y.addr = 0xFE ∧ (k < 10 → (t.src (168 + k)).pair = 1))

/-- Transmit attempts. With no attempt under way, one begins with the frame of the lowest arbitration field of those
pending, the host buffers past their deadlines having ended; with nothing pending the row does nothing more. An attempt
that goes out whole is sent, counted, lowers TEC and ends its host buffer; one that loses arbitration is pending again
with the counters as they were; one that fails is pending again, unless its loop's slot holds a newer frame, and adds 8
to TEC, but for a missing acknowledge while error passive. A one-shot frame, and any while stopping, ends after its
attempt whatever the result. A perturbation fails every Nth attempt, and a measured delay over 127 is a bit error; which
of the codes of its kind an error shows is a free value (log entry 31). Error states: above 255 the controller is
bus-off: every host buffer ends, the loop slots empty, the firmware's frames stay and its bus-off source is raised.
Automatic recovery returns it error active with both counters zero, after BOFF_DELAY and 128 times 11 bits; manual
recovery does not. A stuck transmitter releases the bus; a dominant bus is reported, and again when cleared. -/
def Obligations.CanTransmission : Prop :=
  (∀ (k r delay : Nat) (s : State),
    let begins := canSends s k = true ∧ (s.can1 k).att = none ∧ s.st (canFid k) = .running
    let ends (u : State) : Prop := exec (.canTxAttemptEnd k r delay) s = .next (settle u)
    (∀ p f, (s.can1 k).att = some (p, f) → ends (canAttempt k r delay s p f)) ∧
    (∀ p f, begins → ((canBegin s k).can1 k).att = some (p, f) → ends (canAttempt k r delay (canBegin s k) p f)) ∧
    (begins → ((canBegin s k).can1 k).att = none → ends (canBegin s k)) ∧
    ((s.can1 k).att = none → ¬ begins → ends s)) ∧
  (∀ (k : Nat) (s : State),
    let t := canDeadlines s k
    let x := t.can1 k
    let tried (i : Nat) (e : CanTx) : CanTx := if e.ser = i then { e with attempts := e.attempts + 1 } else e
    (lowest (canPending x) = none → canBegin s k = t) ∧
    (∀ n f, lowest (canPending x) = some (.loop n, f) →
      canBegin s k = t.setCan k { x with att := some (.loop n, f), slots := tdel x.slots n }) ∧
    (∀ f, lowest (canPending x) = some (.fw, f) →
      canBegin s k = t.setCan k { x with att := some (.fw, f), fw := x.fw.erase f }) ∧
    (∀ i f, lowest (canPending x) = some (.host i, f) →
      canBegin s k = t.setCan k { x with att := some (.host i, f), host := x.host.map (tried i) })) ∧
  (∀ (l : List (CanPath × CanFrame)) (e : CanPath × CanFrame), lowest l = some e →
    e ∈ l ∧ (∀ g ∈ l, arbKey e.2 ≤ arbKey g.2) ∧ ∃ a c, l = a ++ e :: c ∧ ∀ g ∈ a, arbKey e.2 < arbKey g.2) ∧
  (∀ (k r delay : Nat) (p : CanPath) (f : CanFrame) (s : State),
    let n := match perturb s 4 k with | some (_, q) => q.mag | none => 0
    let e := if r = 1 then (false, s) else everyNth s 4 k n
    let c := canDelay (s.canCfg k) (e.2.can1 k) f delay (if e.1 && decide (r = 0) then 2 else r)
    let t := e.2.setCan k { c.1 with att := none }
    let ht : Option CanTx := match p with
      | .host i => (t.can1 k).host.find? fun x => x.ser = i
      | _ => none
    (c.2 = 0 → canAttempt k r delay s p f = canGood t k f ht) ∧
    (c.2 ≠ 0 → canAttempt k r delay s p f = canBad t k p f c.2 ht)) ∧
  (∀ (k n : Nat) (s : State),
    (perturb s 4 k = none → everyNth s 4 k n = (false, s)) ∧
    (∀ i q, perturb s 4 k = some (i, q) → (everyNth s 4 k n).1 = decide (n ≠ 0 ∧ (q.seen + 1) % n = 0))) ∧
  (∀ (d : Bytes) (x : Can) (f : CanFrame) (delay r : Nat),
    let measured := nTdc d = true ∧ f.fmt ≠ 0 ∧ (f.brs = true ∨ f.fmt = 2) ∧ r ≠ 1
    (measured → canDelay d x f delay r = ({ x with tdcv := delay }, if 127 < delay then 3 else r)) ∧
    (¬ measured → canDelay d x f delay r = (x, r))) ∧
  (∀ (k : Nat) (f : CanFrame) (ht : Option CanTx) (s : State), (s.can1 k).tec ≤ 256 →
    let x := s.can1 k
    let u := canGood s k f ht
    u.sent = .canFrame k f :: s.sent ∧
    u.can1 k = { x with
      txfrm := satN 4 (x.txfrm + 1), tec := x.tec - 1, rxe := min x.rxe 255
      claimAt := if x.addrSt = 1 ∧ f = claimFrame s k x.addr then s.mono else x.claimAt
      host := match ht with | some t => x.host.filter fun e => e.ser ≠ t.ser | none => x.host }) ∧
  (∀ (k r : Nat) (p : CanPath) (f : CanFrame) (ht : Option CanTx) (s : State),
    let t := canAgain s k p f r
    let u := if r = 1 then t else canFail t k r
    let ended (h : CanTx) : Prop := (∃ e ∈ (u.can1 k).host, e.ser = h.ser) ∧
      (h.oneShot = true ∨ u.st (canFid k) = .stopping)
    (ht = none → canBad s k p f r ht = u) ∧
    (∀ h, ht = some h → ended h → canBad s k p f r ht = canTxEnd u k h r) ∧
    (∀ h, ht = some h → ¬ ended h → canBad s k p f r ht = u)) ∧
  (∀ (k r : Nat) (f : CanFrame) (s : State),
    let x := s.can1 k
    let failed (i : Nat) (e : CanTx) : CanTx := if e.ser = i ∧ r ≠ 0 ∧ r ≠ 1 then { e with failed := r } else e
    canAgain s k .fw f r = s.setCan k { x with fw := f :: x.fw } ∧
    (∀ n, tfind x.slots n = none → canAgain s k (.loop n) f r = s.setCan k { x with slots := tput x.slots n f }) ∧
    (∀ n, tfind x.slots n ≠ none →
      canAgain s k (.loop n) f r = s.setCan k { x with loopovr := satN 4 (x.loopovr + 1) }) ∧
    (∀ i, canAgain s k (.host i) f r = s.setCan k { x with host := x.host.map (failed i) })) ∧
  (∀ (k r : Nat) (s : State), (s.can1 k).tec + 8 ≤ 255 →
    let x := s.can1 k
    let y := (canFail s k r).can1 k
    y.errfrm = satN 4 (x.errfrm + 1) ∧ y.tec = (if r = 2 ∧ x.errState = 1 then x.tec else x.tec + 8) ∧
    (r = 2 → y.lec = 3) ∧ (r = 3 → y.lec = 4 ∨ y.lec = 5) ∧ (r = 4 → y.lec = 1 ∨ y.lec = 2 ∨ y.lec = 6) ∧
    y.slots = x.slots ∧ y.fw = x.fw ∧ y.host = x.host) ∧
  (∀ (k c : Nat) (t : CanTx) (s : State),
    let u := s.setCan k { s.can1 k with host := (s.can1 k).host.filter fun e => e.ser ≠ t.ser }
    let told := t.report = true ∨ t.oneShot = true
    (told → canTxEnd s k t c = emit u 0x0C02 (canFid k) (le 4 t.tag ++ b1 c ++ b1 0 ++ le 2 (satN 2 t.attempts))) ∧
    (¬ told → canTxEnd s k t c = u)) ∧
  (∀ x : Can, (x.off ≠ none → x.errState = 2) ∧
    (x.off = none → (x.tec < 128 ∧ x.rxe < 128 → x.errState = 0) ∧ (128 ≤ x.tec ∨ 128 ≤ x.rxe → x.errState = 1))) ∧
  (∀ (k add lec : Nat) (tx : Bool) (s : State),
    let x := s.can1 k
    let t := s.setCan k { x with lec := lec % 7, errfrm := satN 4 (x.errfrm + 1) }
    let counted := if tx then canCount t k (x.tec + add) x.rxe else canCount t k x.tec (x.rxe + add)
    (canActive s k = true → exec (.canBusError k tx add lec) s = .next (settle counted)) ∧
    (canActive s k = false → exec (.canBusError k tx add lec) s = .next (settle s))) ∧
  (∀ (k tec rxc : Nat) (s : State),
    let x := s.can1 k
    let u := canCount s k tec rxc
    let y := u.can1 k
    (tec ≤ 255 ∨ x.off ≠ none → y = { x with tec := tec, rxe := min rxc 255 }) ∧
    (255 < tec → x.off = none → y.errState = 2 ∧ y.off = some s.mono ∧ y.host = [] ∧ y.slots = [] ∧ y.att = none ∧
      y.fw = (match x.att with | some (.fw, f) => f :: x.fw | _ => x.fw) ∧ y.busoff = satN 4 (x.busoff + 1) ∧
      canSinkOk u k = false ∧ (k < 10 → (u.src (168 + k)).pair = 2))) ∧
  (∀ (k : Nat) (s : State),
    let x := s.can1 k
    let t := s.setCan k { x with off := none, tec := 0, rxe := 0 }
    let wait := nBoff (s.canCfg k) * 250000 + canBits (s.canCfg k) 1408
    let ok := (∃ t, x.off = some t ∧ t + wait ≤ s.mono) ∧ s.st (canFid k) = .running ∧ nManual (s.canCfg k) = false
    let u := returnSrc (canErrReport 2 t k) (168 + k)
    (ok → exec (.canBusoffRecovered k) s = .next (settle u)) ∧
    (¬ ok → exec (.canBusoffRecovered k) s = .next (settle s)) ∧
    u.can1 k = { x with off := none, tec := 0, rxe := 0 } ∧ (k < 10 → (u.src (168 + k)).pair = 1)) ∧
  (∀ (k : Nat) (s : State),
    let x := s.can1 k
    let live := (s.st (canFid k)).idle = false ∧ x.dominant = false
    let t (b : Bool) : State := s.setCan k { x with dominant := b }
    (canActive s k = true → exec (.canTxDominantTimeout k) s =
      .next (settle (raise (s.setCan k { x with stuck := true }) (178 + k) 0))) ∧
    (canActive s k = false → exec (.canTxDominantTimeout k) s = .next (settle s)) ∧
    (live → exec (.canBusDominantTimeout k) s =
      .next (settle (emitFault (t true) 0x0C06 (canFid k) (b1 1 ++ zeros 3)))) ∧
    (¬ live → exec (.canBusDominantTimeout k) s = .next (settle s)) ∧
    (x.dominant = true → exec (.busDominantCleared k) s = .next (emit (t false) 0x0C06 (canFid k) (zeros 4))) ∧
    (x.dominant = false → exec (.busDominantCleared k) s = .next s))

/-! ## Faults and sparing (chapters 1 and 14) -/

/-- The fault opcodes, once accepted. FAULT_READ answers the sources, the records of the fault log or the entries of the
service log asked for; FAULT_CLEAR clears the capture if asked and the latch of every named source that is not in error
and was not raised at this tick, answers the named sources left latched, and ends a safe stop once no source of it is
latched; a severity, never below its source's floor nor changed where that is fixed, and the threshold apply at once and
are stored where asked; CAPTURE_READ answers Table 14.5. -/
def Obligations.FaultCommands : Prop :=
  (∀ (h : Hdr) (p : Bytes) (n : Nat) (s : State), Accepted opFaultRead h p n s →
    let b := atBody s h
    let first := rd p 2 4
    let k := rd p 6 2
    let recs := s.fcr.flog.filterMap fun e => e.num.map fun q => (q, e)
    let entry (i : Nat) : Bytes :=
      let x := s.src (first + i)
      b1 (first + i) ++ b1 (bit x.inErr 0 + bit x.latched 1 + bit x.link 2) ++ b1 (severity s (first + i)) ++
        b1 x.latchSev ++ le 4 x.count
    let sources := (List.range k).flatMap entry
    let faults := (fromNumber (·.1) first k recs).flatMap fun e => leT e.2.time ++ e.2.body
    let service := (fromNumber LogE.num first k b.net.slog).flatMap fun e =>
      leT e.time ++ le 4 e.num ++ b1 e.kind ++ b1 0 ++ le 2 e.body.length ++ le 4 e.lost ++ e.body
    let ends (d : Bytes) : Prop := exec (.faultRead h p) s = .next (replied h 0x0D00 p (okWith b d))
    (byteAt p 0 = 0 → n = 8 * k → first + k ≤ 256 ∧ ends sources) ∧
    (byteAt p 0 = 1 → n = faults.length → ends faults) ∧
    (byteAt p 0 = 2 → n = service.length → ends service)) ∧
  (∀ (first k : Nat) (l : List LogE), fromNumber LogE.num first k l =
    (l.reverse.filter fun e => decide (first ≤ e.num)).take k) ∧
  (∀ (h : Hdr) (p : Bytes) (s : State), Accepted opFaultClear h p 32 s →
    let b := atBody s h
    let flags := byteAt p 0
    let named (n : Nat) : Bool := flags.testBit 1 || (byteAt p (4 + n / 8)).testBit (n % 8)
    let t := if flags.testBit 0 then { b with fcr := { b.fcr with cap := none, later := 0 } } else b
    let c := forN 256 (fun s n => if named n then clearLatch s n else s) t
    let u := safeStopLeave c
    let clears (n : Nat) : Prop := named n = true ∧ (s.src n).inErr = false ∧ (s.src n).latched = true ∧
      (s.src n).raisedAt ≠ s.mono
    exec (.faultClear h p) s =
      .next (replied h 0x0D01 p (okWith u (mask256 fun n => named n && (c.src n).latched))) ∧
    (∀ n, n < 256 → (clears n → u.src n = { s.src n with latched := false, latchSev := 0 }) ∧
      (¬ clears n → u.src n = s.src n)) ∧
    (flags.testBit 0 = true → u.fcr.cap = none ∧ u.fcr.later = 0) ∧
    (flags.testBit 0 = false → u.fcr.cap = s.fcr.cap ∧ u.fcr.later = s.fcr.later) ∧
    (s.fcr.safeStopped = true → u.fcr.ssSrcs = s.fcr.ssSrcs.filter (fun n => (u.src n).latched) ∧
      u.fcr.safeStopped = !u.fcr.ssSrcs.isEmpty) ∧
    (s.fcr.safeStopped = false → u.fcr.safeStopped = false)) ∧
  (∀ (f : Nat → Bool) (n : Nat), n < 256 → (byteAt (mask256 f) (n / 8)).testBit (n % 8) = f n) ∧
  (∀ (h : Hdr) (p : Bytes) (s : State), Accepted opFaultSourceConfig h p 0 s →
    let b := atBody s h
    let n := byteAt p 0
    let v := byteAt p 1
    let stored := if (byteAt p 2).testBit 0 then tput s.fcr.sevStored n v else s.fcr.sevStored
    let u : State := { b with fcr := { b.fcr with sev := tput s.fcr.sev n v, sevStored := stored } }
    exec (.faultSourceConfig h p) s = .next (replied h 0x0D02 p (okAns u)) ∧ severity u n = v ∧
    (∀ m, m ≠ n → severity u m = severity s m) ∧
    ∃ i, srcInfo n = some i ∧ i.floor ≤ v ∧ v ≤ 4 ∧ (i.fixed = true → v = i.reset) ∧ (v = 3 → i.failover = true)) ∧
  (∀ (h : Hdr) (p : Bytes) (s : State), Accepted opFaultThreshold h p 0 s →
    let b := atBody s h
    let stored := if (byteAt p 1).testBit 0 then some (byteAt p 0) else s.fcr.thresholdStored
    let u : State := { b with fcr := { b.fcr with threshold := byteAt p 0, thresholdStored := stored } }
    byteAt p 0 ≤ 4 ∧ exec (.faultThreshold h p) s = .next (replied h 0x0D03 p (okAns u))) ∧
  (∀ (h : Hdr) (p : Bytes) (s : State), Accepted opCaptureRead h p 48 s →
    let ends (d : Bytes) : Prop := exec (.captureRead h p) s = .next (replied h 0x0D04 p (okWith (atBody s h) d))
    (s.fcr.cap = none → ends (zeros 48)) ∧
    (∀ c, s.fcr.cap = some c → ends (b1 1 ++ b1 c.source ++ b1 c.master ++ b1 c.access ++ le 8 c.address ++ leT c.time ++
      le 8 c.tick ++ le 4 s.fcr.later ++ le 4 c.epoch ++ le 4 c.detail ++ zeros 4)))

/-- Raising. An encoding other than 01 that both rails have held for three cycles raises its source, unless a
perturbation forces it or the collector does not sample. A source that was not in error is, at its programmed severity,
latched, counted, captured when the capture is clear and reacted to: a raising at or above the threshold wakes, and a
safe stop or a FAILOVER is ordered. One already in error is not raised again; a broken link then marks it, with a record. Returning. A source whose pair shows 01 is no longer in error, with
its latch and counts kept; a broken link that shows 10 stays in error with one record. Squall: the first 64 raisings and
returns of a 10 ms window get their own record, and so does every raising at FAILOVER and above; a window that left some
without one ends with one summary. Refused transactions: those that a pair's role does not pass are dropped and raise
FSRC6, or are counted there, and an access outside a master's reach raises FSRC8 (the regions of log entry 54). Only an
active pair under running firmware writes its checkpoint, once a millisecond, and services the watchdog, and the
heartbeat only in RUN and BREEZE; 50 ms without service raise FSRC4 and 5 ms without a heartbeat stop ALIVE. Where the
conditions of a row do not hold it changes nothing of its own. -/
def Obligations.FaultCollection : Prop :=
  (∀ (n detail m a ad : Nat) (enc : Rails) (s : State),
    let ok := 3 ≤ enc.held ∧ n < 256 ∧ (enc.code = 0 ∨ enc.code = 2 ∨ enc.code = 3)
    let t := noteJournal n detail (noteCells n detail s)
    let ends (u : State) : Prop := exec (.faultSourceRaised n enc detail m a ad) s = .next (settle u)
    (ok → ends (raiseEnc t n enc.code detail (accessOf n m a ad))) ∧ (¬ ok → ends s) ∧
    (n ≠ 133 → ¬ (n = 192 ∧ detail = 5) → t = s) ∧ (n = 192 → detail = 5 → t.pnl.unknown = 0xFFFF) ∧
    (n = 133 → t.fus.ecc = satN 4 (s.fus.ecc + detail))) ∧
  (∀ n m a ad, accessOf n m a ad = if n ≤ 3 then (n + 1, 3, ad) else if n = 4 then (m, 0, 0)
    else if n = 6 ∨ n = 8 ∨ (9 ≤ n ∧ n ≤ 13) then (m, a, ad) else if n = 21 then (0x10, 1, 0) else (0, 0, 0)) ∧
  (∀ (n enc detail : Nat) (acc : Nat × Nat × Nat) (s : State),
    let t := s.setSrc n { s.src n with pair := enc, pairDetail := detail }
    let seen := perturb s 8 n = none ∧ s.pwr.state ≠ 3 ∧ 2 ≤ s.boot.phase
    (srcInfo n = none → raiseEnc s n enc detail acc = s) ∧
    (srcInfo n ≠ none → seen → raiseEnc s n enc detail acc = seeRaise t n enc detail acc) ∧
    (srcInfo n ≠ none → ¬ seen → raiseEnc s n enc detail acc = t)) ∧
  (∀ (n enc detail : Nat) (acc : Nat × Nat × Nat) (s : State), srcInfo n ≠ none →
    let x := s.src n
    let v := severity s n
    let u := seeRaise s n enc detail acc
    let new := x.inErr = false
    let here := s.fcr.winStart = s.mono / 2500000
    let cap : Cap := { source := n, master := acc.1, access := acc.2.1, address := acc.2.2 % 2 ^ 48, time := s.now
                       tick := s.mono, epoch := s.fcr.epoch, detail := detail % 2 ^ 32 }
    (new → u.src n = { x with
      rails := enc, inErr := true, link := decide (enc ≠ 2), latched := true, latchSev := max x.latchSev v
      count := satN 4 (x.count + 1), detail := detail, raisedAt := s.mono }) ∧
    (new → v = 0 → u.fcr.cap = s.fcr.cap ∧ u.fcr.later = s.fcr.later) ∧
    (new → v ≠ 0 → s.fcr.cap = none → u.fcr.cap = some cap ∧ u.fcr.later = s.fcr.later) ∧
    (new → v ≠ 0 → s.fcr.cap ≠ none → u.fcr.cap = s.fcr.cap ∧ u.fcr.later = satN 4 (s.fcr.later + 1)) ∧
    (new → u.fcr.react = s.fcr.react ++ (if s.fcr.threshold ≤ v then [.wake] else []) ++
      (if n ≤ 3 then [.pairDead n] else reactsOf n v detail)) ∧
    (new → u.fcr.winStart = s.mono / 2500000) ∧ (new → here → u.fcr.winCount = s.fcr.winCount + 1) ∧
    (new → ¬ here → u.fcr.winCount = 1) ∧
    (new → here → 3 < n → s.fcr.winCount < 64 ∨ 3 ≤ v →
      u.fcr.recNum = (s.fcr.recNum + 1) % 2 ^ 32 ∧ u.fcr.unrec = s.fcr.unrec) ∧
    (new → here → 3 < n → 64 ≤ s.fcr.winCount → v < 3 →
      u.fcr.recNum = s.fcr.recNum ∧ u.fcr.unrec = tput s.fcr.unrec n (tget 0 s.fcr.unrec n + 1)) ∧
    (¬ new → enc ≠ 2 → x.link = false → u = faultRecord (s.setSrc n { x with link := true, rails := enc }) 2 n v 0
      x.detail s.mono s.now x.count []) ∧
    (¬ new → enc = 2 ∨ x.link = true → u = s)) ∧
  (∀ n d, reactsOf n 4 d = [.safeStop n]) ∧ (∀ n v d, v ≤ 2 → reactsOf n v d = []) ∧
  (∀ d, reactsOf 4 3 d = [.coreReset 1] ∧ ∀ n, 16 ≤ n → n ≤ 18 → reactsOf n 3 d = [.stopLoopGroup d]) ∧
  (∀ n f d, n ≠ 4 → (n < 16 ∨ 18 < n) → srcFid n = some f → reactsOf n 3 d = [.stopFn f]) ∧
  (∀ (n : Nat) (s : State), carry s (.stopFn n) = fnFault n s ∧ carry s (.safeStop n) = safeStop n s ∧
    carry s (.pairDead n) = declareDead n s ∧ carry s .wake = faultWake s ∧
    (∀ g, appGroup s n = some g → carry s (.stopLoopGroup n) = fnFault (gFid g) s) ∧
    (appGroup s n = none → carry s (.stopLoopGroup n) = s) ∧
    (s.boot.coreDue = none → carry s (.coreReset n) = { s with boot := { s.boot with coreDue := some n } }) ∧
    (s.boot.coreDue ≠ none → carry s (.coreReset n) = s)) ∧
  (∀ (r : SrcRails) (s : State),
    (3 ≤ r.held → exec (.faultSourceReturned r) s = .next (settle (returnSrc s r.src))) ∧
    (r.held < 3 → exec (.faultSourceReturned r) s = .next (settle s))) ∧
  (∀ (n : Nat) (enc : Rails) (s : State),
    let ok := 3 ≤ enc.held ∧ (s.src n).link = true
    let ends (u : State) : Prop := exec (.faultLinkRestored n enc) s = .next (settle u)
    (ok → enc.code = 2 → ends (linkToError s n)) ∧ (ok → enc.code = 1 → ends (returnSrc s n)) ∧
    (¬ ok ∨ (enc.code ≠ 1 ∧ enc.code ≠ 2) → ends s)) ∧
  (∀ (n : Nat) (s : State),
    let t (v : Nat) : State := s.setSrc n { s.src n with pair := v }
    let seen := perturb s 8 n = none ∧ s.pwr.state ≠ 3 ∧ 2 ≤ s.boot.phase
    let well := (s.src n).inErr = false ∧ (s.src n).pair = 1
    (well → returnSrc s n = s) ∧ (¬ well → seen → returnSrc s n = seeReturn (t 1) n) ∧
    (¬ well → ¬ seen → returnSrc s n = t 1) ∧
    (seen → linkToError s n = seeRestore (t 2) n) ∧ (¬ seen → linkToError s n = t 2)) ∧
  (∀ (n : Nat) (s : State),
    let x := s.src n
    let u := seeReturn s n
    let own := if s.fcr.winCount < 64 then 1 else 0
    (x.inErr = false → u = s) ∧
    (x.inErr = true → u.src n = { x with rails := 1, inErr := false, link := false } ∧
      u.fcr.react = s.fcr.react ∧ u.fcr.cap = s.fcr.cap ∧
      (s.fcr.recNum < 2 ^ 32 - 2 → s.fcr.winStart = s.mono / 2500000 →
        u.fcr.recNum = s.fcr.recNum + bit x.link 0 + own)) ∧
    (x.link = true → seeRestore s n =
      faultRecord (s.setSrc n { x with rails := 2, link := false }) 3 n 0 0 x.detail s.mono s.now x.count []) ∧
    (x.link = false → seeRestore s n = s)) ∧
  (∀ s : State,
    let u := squallEnd s
    let left := s.fcr.unrec ≠ []
    (s.fcr.winStart < s.mono / 2500000 → exec .squallWindowEnd s = .next (settle u)) ∧
    (s.mono / 2500000 ≤ s.fcr.winStart → exec .squallWindowEnd s = .next (settle s)) ∧
    u.fcr.winCount = 0 ∧ u.fcr.unrec = [] ∧ u.fcr.react = s.fcr.react ∧
    u.fcr.squalls = satN 4 (if 64 < s.fcr.winCount then s.fcr.squalls + 1 else s.fcr.squalls) ∧
    (left → u.fcr.recNum = (s.fcr.recNum + 1) % 2 ^ 32) ∧ (¬ left → u.fcr.recNum = s.fcr.recNum)) ∧
  (∀ (i tag a ad : Nat) (s : State),
    let ends (u : State) : Prop := exec (.firewallDrop i tag a ad) s = .next (settle u)
    let role := (s.pair i).role
    let drops := i < 4 ∧ 2 ≤ s.boot.phase ∧ passes s i tag a ad = false
    let stale := role = .fenced ∨ (role ≠ .quarantine ∧ tag ≠ s.fcr.epoch)
    (drops → stale → ends (returnSrc (raiseEnc s 6 2 (i + 1) (i + 1, a, ad)) 6)) ∧
    (drops → ¬ stale → ends (s.setSrc 6 { s.src 6 with count := satN 4 ((s.src 6).count + 1) })) ∧
    (¬ drops → ends s)) ∧
  (∀ (i tag a ad : Nat) (s : State),
    ((s.pair i).role = .active → (passes s i tag a ad = true ↔ tag = s.fcr.epoch)) ∧
    ((s.pair i).role = .spare →
      (passes s i tag a ad = true ↔ tag = s.fcr.epoch ∧ ((a ≠ 2 ∧ a ≠ 4) ∨ Config.inOwnRegion i ad = true))) ∧
    ((s.pair i).role = .fenced → passes s i tag a ad = false) ∧
    ((s.pair i).role = .quarantine → (passes s i tag a ad = true ↔
      (0x40B00000 ≤ ad ∧ ad ≤ 0x40BFFFFF) ∨ Config.inTestRegion i ad = true))) ∧
  (∀ (m a ad : Nat) (s : State),
    let ok := 2 ≤ s.boot.phase ∧ reaches s m a ad = false
    let nor := regionBase ad = some 0x80000000
    let sram := regionBase ad = some 0x10000000
    let dram := regionBase ad = some 0x100000000
    let stores := a = 2 ∨ a = 4
    (ok → exec (.accessRefused m a ad) s = .next (settle (returnSrc (raiseEnc s 8 2 m (m, a, ad)) 8))) ∧
    (¬ ok → exec (.accessRefused m a ad) s = .next (settle s)) ∧
    (regionBase ad = none → reaches s m a ad = false) ∧
    (regionBase ad ≠ none →
      (1 ≤ m → m ≤ 4 → (reaches s m a ad = true ↔ ¬ (nor ∧ stores))) ∧
      (m = 0x10 ∨ m = 0x15 → (reaches s m a ad = true ↔ sram)) ∧
      (m = 0x11 ∨ m = 0x12 ∨ m = 0x14 ∨ m = 0x16 → (reaches s m a ad = true ↔ sram ∨ dram)) ∧
      (m = 0x13 → (reaches s m a ad = true ↔ sram ∨ dram ∨ regionBase ad = some 0x40700000)) ∧
      (m = 0x17 → (reaches s m a ad = true ↔ ¬ (nor ∧ stores) ∨ updating s = true)) ∧
      (m = 0x1F → (reaches s m a ad = true ↔ s.boot.bench = true)))) ∧
  (∀ (i : Nat) (s : State),
    let p := s.pair i
    let active := i < 4 ∧ fwRuns s = true ∧ p.role = .active
    let spins := active ∧ s.pwr.state ≤ 1
    (active → exec (.watchdogService i) s = .next (s.setPair i { p with serviced := s.mono })) ∧
    (¬ active → exec (.watchdogService i) s = .next s) ∧
    (spins → exec (.heartbeatWrite i) s = .next { s with fcr := { s.fcr with beat := s.mono, aliveOn := true } }) ∧
    (¬ spins → exec (.heartbeatWrite i) s = .next s)) ∧
  (∀ (c : Checkpoint) (s : State),
    let p := s.pair c.pair
    let ok := c.pair < 4 ∧ fwRuns s = true ∧ p.role = .active ∧ ∀ t, p.checkpoint = some t → t + 250000 ≤ s.mono
    (ok → exec (.checkpointWrite c) s = .next (s.setPair c.pair { p with
      checkpoint := some s.mono, buffer := !p.buffer, image := c.task, older := p.image })) ∧
    (¬ ok → exec (.checkpointWrite c) s = .next s)) ∧
  (∀ s : State,
    let quiet := s.fcr.aliveOn = true ∧ s.fcr.beat + 1250000 ≤ s.mono
    let late := fwRuns s = true ∧ s.pwr.state ≤ 1 ∧
      ∀ i, i < 4 → (s.pair i).role = .active → (s.pair i).serviced + 12500000 ≤ s.mono
    let m := latePair s
    (quiet → exec .aliveHeartbeatTimeout s = .next { s with fcr := { s.fcr with aliveOn := false } }) ∧
    (¬ quiet → exec .aliveHeartbeatTimeout s = .next s) ∧
    (late → exec .watchdogExpiry s = .next (settle (returnSrc (raiseEnc s 4 2 (m + 1) (m + 1, 0, 0)) 4))) ∧
    (¬ late → exec .watchdogExpiry s = .next (settle s)) ∧
    (∀ i, i < 4 → (s.pair i).role = .active →
      (s.pair m).role = .active ∧ (s.pair m).serviced ≤ (s.pair i).serviced))

/-- Safe stop. Every loop group and channel takes its safe action, or the actuation-domain reset takes their place for
FSRC20 and FSRC51; planner and guidance are FAULTED; the module is SAFE_STOPPED, and a further source joins those that
must be cleared. While so, START of a loop group, a channel, the planner or guidance is refused. Lockstep sparing. A
declaration raises the epoch by one, grants it to the other active and spare pairs, fences the dead pair, and has the
first usable spare restore its tasks from its latest checkpoint; with none, or with the spare itself restoring or
failing to, it ends in a processor-complex reset. After 5 ms the dead pair is reset alone in QUARANTINE; a passed
self-test makes it SPARE at the current epoch, a failed one leaves it FENCED and raises FSRC7. What the model chose of
them is in log entries 27 and 54. Where the conditions of a row do not hold it changes nothing of its own. -/
def Obligations.SafeStopAndSparing : Prop :=
  (∀ (n : Nat) (s : State),
    let t := guidFault (planFault (if n = 20 then actuationReset 2 s
      else if n = 51 then actuationReset 3 s else forN 24 chanSafeStop (forN 64 grpFault s)))
    let srcs := if t.fcr.ssSrcs.contains n then t.fcr.ssSrcs else t.fcr.ssSrcs ++ [n]
    (t.fcr.safeStopped = false → safeStop n s =
      emitFault { t with fcr := { t.fcr with safeStopped := true, ssCause := n, ssSrcs := srcs } } 0x0D02 0xFFFF
        (b1 1 ++ b1 n ++ zeros 2)) ∧
    (t.fcr.safeStopped = true → safeStop n s = { t with fcr := { t.fcr with ssSrcs := srcs } }) ∧
    (safeStop n s).fcr.safeStopped = true ∧ n ∈ (safeStop n s).fcr.ssSrcs) ∧
  (∀ (n f : Nat) (s : State),
    let was := s.st f
    let u := safeStop n s
    let kind := (∃ g, g < 64 ∧ f = gFid g) ∨ (∃ k, k < 24 ∧ f = chFid k) ∨ f = plannerFid ∨ f = guidFid
    (n ≠ 20 → n ≠ 51 → kind → was = .starting ∨ was = .running → u.st f = .faulted) ∧
    (f = plannerFid ∨ f = guidFid → was.idle = true → u.st f = was)) ∧
  (∀ (f : Nat) (s : State), s.fcr.safeStopped = true → f / 256 = 3 ∨ f / 256 = 6 ∨ f / 256 = 7 →
    (fnCheck f s).2 = some (stWrongState, 0) ∧
    (f / 256 = 3 → (fnCheck f s).1 = emit s 0x0301 (gFid (f % 256)) (le 2 0xFFFF ++ b1 9 ++ b1 0))) ∧
  (∀ (c : Nat) (s : State),
    (2 ≤ s.boot.phase → exec (.supervisorCheckFailed c) s = .next (settle (pulse s 20 c))) ∧
    (s.boot.phase < 2 → exec (.supervisorCheckFailed c) s = .next (settle s))) ∧
  (∀ (i a : Nat) (s : State),
    let ok := i < 4 ∧ 7 ≤ s.boot.phase ∧ (s.pair i).role ≠ .fenced
    (ok → exec (.lockstepMiscompare i a) s = .next (settle (raiseEnc s i 2 (a % 2 ^ 32) (i + 1, 3, a)))) ∧
    (¬ ok → exec (.lockstepMiscompare i a) s = .next (settle s))) ∧
  (∀ (i : Nat) (s : State), i < 4 →
    let u := declareDead i s
    let p := s.pair i
    let serves (j : Nat) : Prop := (s.pair j).role = .active ∨ (s.pair j).role = .spare
    let reset := { s.boot with coreDue := some 3 }
    (serves i → u.fcr.epoch = s.fcr.epoch + 1 ∧ (u.pair i).role = .fenced ∧ (u.pair i).dead = true ∧
      (u.pair i).declared = s.mono ∧ (u.pair i).lostTasks = p.tasks) ∧
    (∀ j, serves i → j < 4 → j ≠ i → serves j →
      (u.pair j).tag = s.fcr.epoch + 1 ∧ (u.pair j).role = (s.pair j).role) ∧
    (∀ j, p.role = .active → usableSpare s p.tasks = some j → (u.pair j).restores = some i ∧ u.boot = s.boot) ∧
    (p.role = .active → usableSpare s p.tasks = none → u.boot = reset) ∧
    (p.role = .spare → p.restores = none → u.boot = s.boot) ∧
    (p.role = .spare → p.restores ≠ none → u.boot = reset) ∧
    (p.role = .quarantine → u.fcr.epoch = s.fcr.epoch ∧ (u.pair i).role = .fenced ∧ (u.pair i).failed = true) ∧
    (p.role = .fenced → (u.pair i).role = .fenced ∧
      u.fcr.epoch = (if p.dead then s.fcr.epoch else s.fcr.epoch + 1))) ∧
  (∀ (j : Nat) (t : Option Nat) (s : State), usableSpare s t = some j → j < 4 ∧ (s.pair j).role = .spare ∧
    (s.pair j).restores = none ∧ ((s.pair j).dead = true → (s.pair j).lostTasks ≠ t)) ∧
  (∀ (ok : Bool) (s : State), (∀ j, j < 4 → (s.pair j).restores = none) →
    exec (.failoverRestoreComplete ok) s = .next (settle s)) ∧
  (∀ (i j : Nat) (ok : Bool) (s : State), j < 4 → (s.pair j).restores = some i →
    (∀ q, q < j → (s.pair q).restores = none) →
    let p := s.pair j
    let d := s.pair i
    let a := s.setPair j { p with
      restores := none, tasks := d.tasks, checkpoint := d.checkpoint, buffer := d.buffer, image := d.image
      older := d.older, serviced := s.mono }
    let b := a.setPair i { a.pair i with tasks := none }
    (ok = true → exec (.failoverRestoreComplete ok) s =
      .next (settle (spareSource (pairOutcome (setRole b j .active) i 2)))) ∧
    (ok = false → exec (.failoverRestoreComplete ok) s =
      .next (settle (lostPairs (s.setPair j { p with restores := none }))))) ∧
  (∀ s : State, (lostPairs s).boot = { s.boot with coreDue := some 3 }) ∧
  (∀ (i : Nat) (r : Role) (s : State), i < 4 → ((setRole s i r).pair i) = { s.pair i with role := r }) ∧
  (∀ (i : Nat) (s : State),
    let p := s.pair i
    let ok := i < 4 ∧ p.dead = true ∧ p.role = .fenced ∧ p.failed = false ∧ p.declared + 1250000 ≤ s.mono
    let t := s.setPair i { p with tasks := none, checkpoint := none, image := [], older := [] }
    (ok → exec (.deadPairReset i) s = .next (settle (returnSrc (setRole t i .quarantine) i))) ∧
    (¬ ok → exec (.deadPairReset i) s = .next (settle s))) ∧
  (∀ (i : Nat) (b : Bool) (s : State),
    let p := s.pair i
    let ok := i < 4 ∧ p.role = .quarantine
    let ends (u : State) : Prop := exec (.quarantineSelfTestEnd i b) s = .next (settle u)
    (ok → b = true → ends (spareSource (setRole (s.setPair i { p with tag := s.fcr.epoch }) i .spare))) ∧
    (ok → b = false → ends (setRole (raise (s.setPair i { p with failed := true }) 7 (i + 1)) i .fenced)) ∧
    (¬ ok → ends s))

/-! ## The service panel (chapter 16) -/

/-- PANEL_FRAME takes a bitmap whose CRC matches, in every state, and stores it where asked; on a mismatch it changes
nothing. PANEL_STATUS answers Table 16.6. Supplies and temperature: a sample every 100 µs judges the supplies and
interrupts a row that loses them; a reading every 100 ms picks the band, band 0 outside -45 to +90 °C (the temperature
of a reading is opaque, log entry 5); supplies back in range for 100 ms begin the repair. The panel is OFF once
its row has completed. Where the conditions of a row do not hold it changes nothing of its own. -/
def Obligations.PanelCommands : Prop :=
  (∀ (h : Hdr) (p : Bytes) (s : State), Accepted opPanelFrame h p 0 s →
    let b := atBody s h
    let f := (slice p 8 96, rd p 4 4)
    let saved := if (byteAt p 1).testBit 0 then tput b.pnl.saved (byteAt p 0) f else b.pnl.saved
    let u : State := { b with pnl := { b.pnl with frames := tput b.pnl.frames (byteAt p 0) f, saved := saved } }
    ((crc32c f.1).toNat = f.2 → exec (.panelFrame h p) s = .next (replied h 0x0E01 p (okAns u))) ∧
    ((crc32c f.1).toNat ≠ f.2 → exec (.panelFrame h p) s = .next (replied h 0x0E01 p (failAns b stIntegrity 0)))) ∧
  (∀ (h : Hdr) (p : Bytes) (n : Nat) (s : State), Accepted opPanelStatus h p n s →
    let x := s.pnl
    let c := byteAt p 0
    let repairing : Bool := x.repair ≠ 0 || !(interrupted s).isEmpty
    let row := match x.run with | some r => r.row | none => 0xFF
    let books := if c ≤ 15 then (List.range 48).flatMap fun g => leF (bookAt x.books (48 * c + g)) else []
    n = (if c ≤ 15 then 240 else 48) →
    exec (.panelStatus h p) s = .next (replied h 0x0E02 p (okWith (atBody s h) (leT s.now ++ b1 (s.st panelFid).code ++
      b1 x.band ++ b1 (bit x.supplyOk 0 + bit s.fcr.safeStopped 1 + bit x.run.isSome 2 + bit repairing 3) ++ b1 row ++
      le 2 (pendingMask s) ++ le 2 x.unknown ++ leF x.temp ++ leF x.vph ++ leF x.vpm ++ leF x.vpl ++
      leF (largestBook s) ++ le 4 x.written ++ le 4 x.repaired ++ books)))) ∧
  (∀ (vph vpm vpl : F32) (s : State),
    let p := s.pnl
    let due := 2 ≤ s.boot.phase ∧ ∀ a, p.sampleAt = some a → a + 25000 ≤ s.mono
    let lost := supplyRange vph vpm vpl = false ∧ p.run ≠ none
    let x := { p with
      vph := vph, vpm := vpm, vpl := vpl, supplyOk := supplyRange vph vpm vpl, sampleAt := some s.mono
      okAt := if p.supplyOk then p.okAt else s.mono }
    let ends (u : State) : Prop := exec (.panelSupplySample vph vpm vpl) s = .next (settle u)
    (due → ¬ lost → ends { s with pnl := x }) ∧
    (due → lost → ends (panelCause { s with pnl := { x with run := none } } 1 true)) ∧ (¬ due → ends s)) ∧
  (∀ (ratio : F32) (s : State),
    let p := s.pnl
    let d := s.app .panel
    let t := Config.ntcTemp ratio (pnNom d) (pnBeta d)
    let good := fLe (fOfInt (-45)) t && fLe t (fOfNat 90)
    let due := 2 ≤ s.boot.phase ∧ s.pwr.state ≤ 1 ∧ ∀ a, p.tempAt = some a → a + 25000000 ≤ s.mono
    let u : State := { s with pnl := { p with
      temp := t, tempAt := some s.mono, band := if good then bandFor d p.band t else 0 } }
    (due → exec (.panelTemperatureRead ratio) s = .next (settle (panelCause u 2 (!good)))) ∧
    (¬ due → exec (.panelTemperatureRead ratio) s = .next (settle s))) ∧
  (∀ s : State,
    let ok := s.pnl.supplyOk = true ∧ s.pnl.okAt + 25000000 ≤ s.mono ∧
      (s.pnl.wrong.testBit 1 = true ∨ interrupted s ≠ [])
    (ok → exec .panelSupplyRestored s = .next (settle (repairPass (panelCause s 1 false)))) ∧
    (¬ ok → exec .panelSupplyRestored s = .next (settle s))) ∧
  (∀ s : State,
    let ok := s.st panelFid = .stopping ∧ s.pnl.run = none
    (ok → exec .panelStopComplete s = .next (settle (finishStop panelCheck panelCommit panelFid s))) ∧
    (¬ ok → exec .panelStopComplete s = .next (settle s)))

/-- Rows. A row begins only between rows, with the supplies in range, in RUN or BREEZE, with no entry under way and its
frame good: the repair pass's rows first, unless the panel is stopping, else the first pending row of a running panel.
Band and supplies are latched, and the reset halves pull the mean book towards zero. Each phase books its volt-time on
all 768 cells; the fifth completes the row. The journal is written as the row begins, as a phase ends and every
millisecond. An interrupted row is booked, its state is unknown, and it is to be repaired. No row is pending before there
is an image to show (log entry 49). Where the conditions of a row command do not hold it changes nothing of its own. -/
def Obligations.PanelRows : Prop :=
  (∀ s : State,
    let ready := s.pnl.run = none ∧ s.pnl.supplyOk = true ∧ s.pwr.state ≤ 1 ∧ s.pwr.entering = none
    let ends (u : State) : Prop := exec .panelRowStart s = .next (settle u)
    (¬ ready ∨ nextRow s = none → ends s) ∧
    (∀ c, ready → nextRow s = some c → (checkFrame s).1 = false → ends (checkFrame s).2) ∧
    (∀ c, ready → nextRow s = some c → (checkFrame s).1 = true → ends (rowBegin (checkFrame s).2 c))) ∧
  (∀ s : State,
    let n := if s.fcr.safeStopped then 1 else 0
    let good (f : Bytes × Nat) : Prop := (crc32c f.1).toNat = f.2
    let f := frameOf s.pnl.frames n
    let m := frameOf s.pnl.saved n
    let t : State := { s with pnl := { s.pnl with frames := tput s.pnl.frames n m } }
    let u := panelCause t 3 true
    (good f → checkFrame s = (true, panelCause s 3 false)) ∧
    (¬ good f → good m → checkFrame s = (true, panelCause u 3 false)) ∧
    (¬ good f → ¬ good m → checkFrame s =
      (false, if (u.st panelFid).live then changeState u panelFid .faulted else u))) ∧
  (∀ (c : Nat) (s : State),
    let x := s.pnl
    let halves := resetHalves s c (pnTr (s.app .panel) x.band) (fSub x.vph x.vpl)
    let r : PRow := { row := c, target := slice (targetImage s) (6 * c) 6, band := x.band, vph := x.vph, vpm := x.vpm
                      vpl := x.vpl, tPlus := halves.1, tMinus := halves.2 }
    rowBegin s c = { s with pnl := { x with
      run := some r, phaseAt := s.mono, noteAt := s.mono, journal := (r :: x.journal).take 4096 } } ∧
    r.phase = 1 ∧ r.done = false) ∧
  (∀ (c : Nat) (s : State),
    let repairs := s.pnl.repair ≠ 0 ∧ fwRuns s = true ∧ s.st panelFid ≠ .stopping
    let runs := s.st panelFid = .running ∧ fwRuns s = true ∧ mayWork s 4 = true
    (repairs → (nextRow s = some c ↔
      c < 16 ∧ s.pnl.repair.testBit c = true ∧ ∀ b, b < c → s.pnl.repair.testBit b = false)) ∧
    (¬ repairs → runs → (nextRow s = some c ↔
      c < 16 ∧ rowPending s c = true ∧ ∀ b, b < c → rowPending s b = false)) ∧
    (¬ repairs → ¬ runs → nextRow s = none)) ∧
  (∀ (c : Nat) (s : State),
    let row (m : Bytes) : Bytes := slice m (6 * c) 6
    rowPending s c = true ↔ (s.fcr.safeStopped = true ∨ tfind s.pnl.frames 0 ≠ none) ∧
      (s.pnl.unknown.testBit c = true ∨ row (targetImage s) ≠ row (s.pnl.shown.getD (zeros 96)))) ∧
  (∀ (c tr : Nat) (vr : F32) (s : State),
    let mean := fDiv (fSum ((List.range 48).map fun g => bookAt s.pnl.books (48 * c + g))) (fOfNat 48)
    let t := fOfNat tr
    let dt := fMin (fDiv (fAbs mean) vr) (fMul t fHalf)
    (fLt f0 mean = true → fLt mean f0 = false → resetHalves s c tr vr = (fAdd t dt, t)) ∧
    (fLt mean f0 = true → fLt f0 mean = false → resetHalves s c tr vr = (t, fAdd t dt)) ∧
    (fLt f0 mean = false → fLt mean f0 = false → resetHalves s c tr vr = (t, t))) ∧
  (∀ s : State, s.pnl.run = none → exec .panelPhaseEnd s = .next (settle s) ∧ exec .panelJournalTick s = .next s) ∧
  (∀ (r : PRow) (s : State), s.pnl.run = some r →
    let ms := phaseMs (s.app .panel) r r.phase
    let due := s.pnl.phaseAt + (fToInt (fMul ms (fOfNat 250000))).toNat ≤ s.mono
    let note := s.pnl.noteAt + 250000 ≤ s.mono
    let noted (e : PRow) : List PRow := match s.pnl.journal with | [] => [e] | _ :: l => e :: l
    let x := { s.pnl with books := bookPhase s.pnl.books r r.phase ms, phaseAt := s.mono }
    let e := { r with phase := r.phase + 1, elapsed := 0 }
    let g := { r with elapsed := s.mono - s.pnl.phaseAt }
    let ends (u : State) : Prop := exec .panelPhaseEnd s = .next (settle u)
    (¬ due → ends s) ∧
    (due → r.phase < 5 → ends { s with pnl := { x with run := some e, noteAt := s.mono, journal := noted e } }) ∧
    (due → 5 ≤ r.phase → ends (rowDone { s with pnl := x } r)) ∧
    (note → exec .panelJournalTick s =
      .next { s with pnl := { s.pnl with run := some g, noteAt := s.mono, journal := noted g } }) ∧
    (¬ note → exec .panelJournalTick s = .next s)) ∧
  (∀ (r : PRow) (s : State),
    let x := s.pnl
    let y := (rowDone s r).pnl
    let img := shownImage s
    let without (m : Nat) : Nat := if m.testBit r.row then m - 2 ^ r.row else m
    y.run = none ∧ y.books = x.books ∧ y.booksSaved = x.books ∧ y.written = satN 4 (x.written + 1) ∧
    y.unknown = without x.unknown ∧ y.repair = without x.repair ∧
    y.repaired = (if x.repair.testBit r.row then satN 4 (x.repaired + 1) else x.repaired) ∧
    y.journal.head? = some { r with done := true } ∧ y.journal.drop 1 = x.journal.drop 1 ∧
    y.shown = some (img.take (6 * r.row) ++ fitBytes 6 r.target ++ img.drop (6 * r.row + 6))) ∧
  (∀ (l : List F32) (r : PRow) (ms : F32) (i : Nat), i < 768 →
    let on := (byteAt r.target (i % 48 / 8)).testBit (i % 48 % 8)
    let com (v : F32) := if i / 48 = r.row then v else r.vpm
    let book (seg v : F32) := fAdd (bookAt l i) (fMul (fSub seg (com v)) ms)
    bookAt (bookPhase l r 1 ms) i = book r.vpl r.vph ∧ bookAt (bookPhase l r 2 ms) i = book r.vph r.vpl ∧
    bookAt (bookPhase l r 3 ms) i = book (if on then r.vpm else r.vpl) r.vpm ∧
    bookAt (bookPhase l r 4 ms) i = book (if on then r.vpm else r.vph) r.vpm ∧
    bookAt (bookPhase l r 5 ms) i = book r.vpm r.vpm) ∧
  (∀ s : State,
    (s.fcr.safeStopped = false → targetImage s = (frameOf s.pnl.frames 0).1) ∧
    (s.fcr.safeStopped = true → pnOverlay (s.app .panel) = false → targetImage s = (frameOf s.pnl.frames 1).1) ∧
    (s.fcr.safeStopped = true → pnOverlay (s.app .panel) = true → targetImage s =
      ((List.range 21).zip (overlayCells s.fcr.ssCause)).foldl
        (fun m e => setCell m (pnDigit (s.app .panel) e.1).1 (pnDigit (s.app .panel) e.1).2 e.2)
        (frameOf s.pnl.frames 1).1)) ∧
  (∀ s : State,
    let x := s.pnl
    let y := (repairPass s).pnl
    let d := s.app .panel
    let marked (m : Nat) : Nat := (interrupted s).foldl (fun m r => m ||| 2 ^ r.row) m
    (s.pnl.run ≠ none → interrupted s = []) ∧
    (s.pnl.run = none → interrupted s = x.journal.filter fun r => !r.done) ∧
    (interrupted s = [] → repairPass s = s) ∧
    (interrupted s ≠ [] → y.repair = marked x.repair ∧ y.unknown = marked x.unknown ∧
      y.books = (interrupted s).foldr (fun r b => bookEntry d b r) x.booksSaved ∧ y.booksSaved = y.books ∧
      y.journal = x.journal.map fun r => { r with done := true }))

/-! ## The resident loader (chapter 17) -/

/-- The update opcodes, once accepted. All but UPDATE_STATUS are answered WRONG_STATE, naming it, while a function other
than a time domain or a CAN controller is not OFF. UPDATE_BEGIN abandons, resumes the same header where it stood, or
checks a new one; a block is taken only at the next offset and within the body; UPDATE_COMMIT needs the whole body and
its digest, and no active perturbation. The signature and the digest are opaque (log entry 2). Copy and check. A sector
that reads back advances the sector count, the last one begins the check, and one that does not is written again. A
match raises the security floor, empties the journal and leads to a processor-complex reset, or lets a held power-up go
on; a first mismatch copies again and a second one fails and raises FSRC14. What the read-back and the digest of the
flash give are the rows' facts (log entry 50). Where the journal does not stand for a row it changes nothing of its
own. -/
def Obligations.Update : Prop :=
  (∀ (h : Hdr) (p : Bytes) (f : Nat) (s : State), updateBlocked s = some f →
    let no := failAns (atBody s h) stWrongState f
    (Accepted opUpdateBegin h p 0 s → exec (.updateBegin h p) s = .next (replied h 0x0F00 p no)) ∧
    (Accepted opUpdateBlock h p 0 s → exec (.updateBlock h p) s = .next (replied h 0x0F01 p no)) ∧
    (Accepted opUpdateCommit h p 0 s → exec (.updateCommit h p) s = .next (replied h 0x0F02 p no))) ∧
  (∀ (s : State) (f : Nat), updateBlocked s = some f → s.st f ≠ .off ∧ timeOrCan f = false) ∧
  (∀ (h : Hdr) (p : Bytes) (n : Nat) (s : State), Accepted opUpdateBegin h p n s → updateBlocked s = none →
    let b := atBody s h
    let u := s.upd
    let hd := slice p 4 256
    let abandons := (byteAt p 0).testBit 0 = true
    let resumes := u.journal = 1 ∧ u.header = hd
    let ends (a : Ans) : Prop := exec (.updateBegin h p) s = .next (replied h 0x0F00 p a)
    let left := { u with journal := 0, header := [], next := 0, sectors := 0, staging := [] }
    let new := { u with journal := 1, header := hd, next := 0, sectors := 0, retried := false, staging := [], busy := none }
    (updating s = true → n = 0 → ends (failAns b stWrongState 0)) ∧
    (updating s = false → abandons → n = 8 → ends (okWith { b with upd := left } (zeros 8))) ∧
    (updating s = false → ¬ abandons → resumes → n = 8 → ends (okWith b (le 4 u.next ++ zeros 4))) ∧
    (∀ st d, updating s = false → ¬ abandons → ¬ resumes → headerCheck s hd = some (st, d) → n = 0 →
      ends (failAns b st d)) ∧
    (updating s = false → ¬ abandons → ¬ resumes → headerCheck s hd = none → n = 8 →
      ends (okWith { b with upd := new } (zeros 8)))) ∧
  (∀ (hd : Bytes) (s : State),
    let fields := headerFields hd = none
    let type := rd hd 4 4 = 0x0960A001
    let unit := (ihFlags hd).testBit 0 = true → rd hd 8 12 = Config.unitId.toNat
    (∀ o, headerFields hd = some o → headerCheck s hd = some (stBadParam, 4 + o)) ∧
    (fields → ¬ (type ∧ unit) → headerCheck s hd = some (stBinding, 0)) ∧
    (fields → type → unit → signatureOk hd = false → headerCheck s hd = some (stIntegrity, 0)) ∧
    (fields → type → unit → signatureOk hd = true → ihSecurity hd < s.upd.floor → headerCheck s hd = some (0x80, 0)) ∧
    (fields → type → unit → signatureOk hd = true → s.upd.floor ≤ ihSecurity hd → headerCheck s hd = none) ∧
    (fields ↔ rd hd 0 2 = 0x4B49 ∧ rd hd 2 2 = 1 ∧ ihFlags hd ≤ 1 ∧ slice hd 30 2 = zeros 2 ∧
      slice hd 192 64 = zeros 64 ∧ 1 ≤ ihBody hd ∧ ihBody hd ≤ 268435200 ∧
      ((ihFlags hd).testBit 0 = true ↔ rd hd 8 12 ≠ 0))) ∧
  (∀ (h : Hdr) (p : Bytes) (n : Nat) (s : State), Accepted opUpdateBlock h p n s → updateBlocked s = none →
    let b := atBody s h
    let u := s.upd
    let k := rd p 4 2
    let next := rd p 0 4 = u.next
    let fits := u.next + k ≤ ihBody u.header
    let ends (a : Ans) : Prop := exec (.updateBlock h p) s = .next (replied h 0x0F01 p a)
    let taken := { u with staging := u.staging ++ slice p 8 k, next := u.next + k }
    (u.journal ≠ 1 → n = 0 → ends (failAns b stWrongState 0)) ∧
    (u.journal = 1 → ¬ next → n = 8 → ends { s := b, st := 0x81, data := le 4 u.next ++ zeros 4 }) ∧
    (u.journal = 1 → next → ¬ fits → n = 0 → ends (badParam b 4)) ∧
    (u.journal = 1 → next → fits → n = 8 →
      ends (okWith { b with upd := taken } (le 4 (u.next + k) ++ zeros 4)))) ∧
  (∀ (h : Hdr) (p : Bytes) (n : Nat) (s : State), Accepted opUpdateCommit h p n s → updateBlocked s = none →
    let b := atBody s h
    let u := s.upd
    let ready := u.journal = 1 ∧ s.tst.slots = []
    let whole := ihBody u.header ≤ u.next
    let same := Config.sha384 u.staging = ihDigest u.header
    let ends (a : Ans) : Prop := exec (.updateCommit h p) s = .next (replied h 0x0F02 p a)
    let left := { u with journal := 0, header := [], next := 0, sectors := 0, staging := [] }
    (¬ ready → n = 0 → ends (failAns b stWrongState 0)) ∧
    (ready → ¬ whole → n = 4 → ends { s := b, st := 0x82, data := le 4 u.next }) ∧
    (ready → whole → ¬ same → n = 0 → ends (failAns { b with upd := left } stIntegrity 0)) ∧
    (ready → whole → same → n = 0 →
      ends (okAns { b with upd := { u with journal := 2, sectors := 0, retried := false, busy := none } }))) ∧
  (∀ (h : Hdr) (p : Bytes) (s : State), Accepted opUpdateStatus h p 28 s →
    let u := s.upd
    exec (.updateStatus h p) s = .next (replied h 0x0F03 p (okWith (atBody s h) (b1 u.journal ++ b1 u.result ++
      le 2 (schemaNow s) ++ le 4 (ihVersion u.header) ++ le 4 (ihBody u.header) ++ le 4 u.next ++ le 4 u.sectors ++
      le 4 (sectorsTotal u.header) ++ le 2 u.floor ++ zeros 2)))) ∧
  (∀ s : State,
    let ok := s.upd.journal = 2 ∧ s.upd.busy = none
    (ok → exec .updateCopyBegin s = .next { s with upd := { s.upd with busy := some s.mono } }) ∧
    (¬ ok → exec .updateCopyBegin s = .next s)) ∧
  (∀ (good : Bool) (s : State),
    let u := s.upd
    let n := u.sectors
    let new := u.header ++ u.staging
    let img := (norImage s).take (n * 262144) ++ slice new (n * 262144) 262144 ++ (norImage s).drop ((n + 1) * 262144)
    let v := { u with nor := some img, busy := some s.mono }
    let last := sectorsTotal u.header ≤ n + 1
    let ok := u.journal = 2 ∧ u.busy ≠ none
    let ends (t : Upd) : Prop := exec (.updateSectorDone good) s = .next { s with upd := t }
    (¬ ok → exec (.updateSectorDone good) s = .next s) ∧
    (ok → good = false → ends v) ∧
    (ok → good = true → ¬ last → ends { v with sectors := n + 1 }) ∧
    (ok → good = true → last →
      ends { v with sectors := n + 1, journal := 3, nor := some (new.take ((n + 1) * 262144)) })) ∧
  (∀ (good : Bool) (s : State),
    let u := s.upd
    let ok := u.journal = 3 ∧ u.busy ≠ none
    let passed : Upd := { u with
      journal := 0, header := [], next := 0, sectors := 0, retried := false, staging := [], busy := none
      floor := max u.floor (ihSecurity u.header), result := if s.boot.resumed then 2 else 1 }
    let told := emit { s with upd := passed } 0x0F01 0xFFFF (le 4 (ihVersion u.header) ++ le 4 u.sectors)
    let again := { u with journal := 2, sectors := 0, retried := true, busy := some s.mono }
    let failed : State := { s with
      upd := { u with journal := 4, busy := none, result := 3 }, boot := { s.boot with resumed := false } }
    let ends (t : State) : Prop := exec (.updateCheckComplete good) s = .next (settle t)
    (¬ ok → ends s) ∧
    (ok → good = true → s.boot.resumed = true → ends { told with boot := { told.boot with resumed := false } }) ∧
    (ok → good = true → s.boot.resumed = false → ends { told with boot := { told.boot with coreDue := some 4 } }) ∧
    (ok → good = false → u.retried = false → ends { s with upd := again }) ∧
    (ok → good = false → u.retried = true → ends (raise failed 14 0)))

/-! ## The test block (chapter 18) -/

/-- The test opcodes, once accepted. TEST_UNLOCK gives the unlock to the sending session, is LOCKED while another holds
it and ends it with the lock flag; PERTURB_SET and PERTURB_CLEAR need the unlock; a slot or a kind and target in use is
BUSY; a slot set runs for its duration and acts at once where its kind does; clearing ends the named slots, and a
duration ends its own. An unlock ends with its session, and with it every slot without a duration. TEST_STATUS answers
Table 18.6. -/
def Obligations.TestCommands : Prop :=
  (∀ (h : Hdr) (p : Bytes) (s : State), Accepted opTestUnlock h p 0 s →
    let b := atBody s h
    let me := curSession b
    let lock := (byteAt p 2).testBit 0 = true
    let ends (a : Ans) : Prop := exec (.testUnlock h p) s = .next (settle (replied h 0x1000 p a))
    (∀ n, s.tst.unlock = some n → n ≠ me → ends (failAns b stLocked 0)) ∧
    (s.tst.unlock = some me → ¬ lock → ends (okAns b)) ∧
    (s.tst.unlock = some me → lock → ends (okAns (unlockEnd b))) ∧
    (s.tst.unlock = none → ¬ lock → ends (okAns { b with tst := { b.tst with unlock := some me } })) ∧
    (s.tst.unlock = none → lock → ends (okAns b))) ∧
  (∀ (h : Hdr) (p : Bytes) (n : Nat) (s : State), Accepted opPerturbSet h p n s →
    let b := atBody s h
    let i := byteAt p 0
    let k := byteAt p 1
    let d := rd p 12 4
    let mine := s.tst.unlock = some (curSession b)
    let used := tfind s.tst.slots i ≠ none ∨ perturb s k (rd p 2 2) ≠ none
    let slot : TSlot := { kind := k, target := rd p 2 2, mag := rd p 4 4, opt := rd p 8 4
                          till := if d = 0 then none else some (s.mono + d * 250000) }
    let t := emit { b with tst := { b.tst with slots := tput b.tst.slots i slot } } 0x1001 0xFFFF
      (b1 i ++ b1 k ++ b1 1 ++ b1 0)
    let u := if k = 6 then simShort t (rd p 2 2) else if k = 8 then seeEnc t (rd p 2 2) (rd p 4 4) else t
    let ends (a : Ans) : Prop := exec (.perturbSet h p) s = .next (settle (replied h 0x1001 p a))
    (¬ mine → n = 0 → ends (failAns b stWrongState 0)) ∧
    (mine → used → n = 0 → ends (failAns b stBusy 0)) ∧
    (mine → ¬ used → n = 12 → ends (okWith u (leT s.now)))) ∧
  (∀ (h : Hdr) (p : Bytes) (s : State), Accepted opPerturbClear h p 0 s →
    let b := atBody s h
    let mine := s.tst.unlock = some (curSession b)
    let named (i : Nat) : Bool := (rd p 0 2).testBit i
    let u := forN 16 (fun s i => if named i then slotEnd s i 1 else s) b
    (¬ mine → exec (.perturbClear h p) s = .next (settle (replied h 0x1002 p (failAns b stWrongState 0)))) ∧
    (mine → exec (.perturbClear h p) s = .next (settle (replied h 0x1002 p (okAns u)))) ∧
    (∀ i, i < 16 → tfind u.tst.slots i = if named i then none else tfind s.tst.slots i)) ∧
  (∀ (h : Hdr) (p : Bytes) (s : State), Accepted opTestStatus h p 276 s →
    let left (q : TSlot) : Nat := match q.till with
      | none => 0xFFFFFFFF | some e => (e - s.mono + 249999) / 250000
    let slot (i : Nat) : Bytes := match tfind s.tst.slots i with
      | none => zeros 16
      | some q => b1 q.kind ++ b1 0 ++ le 2 q.target ++ le 4 q.mag ++ le 4 q.opt ++ le 4 (left q)
    exec (.testStatus h p) s = .next (replied h 0x1003 p (okWith (atBody s h) (leT s.now ++ b1 (bit s.boot.bench 0) ++
      b1 (bit s.tst.unlock.isSome 0) ++ le 2 (s.tst.unlock.getD 0) ++ le 2 (slotMask s) ++ zeros 2 ++
      (List.range 16).flatMap slot)))) ∧
  (∀ (i : Nat) (s : State),
    let passed := ∃ q e, tfind s.tst.slots i = some q ∧ q.till = some e ∧ e ≤ s.mono
    (passed → exec (.perturbationExpiry i) s = .next (settle (slotEnd s i 2))) ∧
    (¬ passed → exec (.perturbationExpiry i) s = .next (settle s)) ∧
    tfind (slotEnd s i 2).tst.slots i = none) ∧
  (∀ s : State,
    let u := unlockEnd s
    u.tst.unlock = none ∧
    (∀ i q, tfind s.tst.slots i = some q → q.till = none → tfind u.tst.slots i = none) ∧
    (∀ i, (∀ e ∈ s.tst.slots, e.1 = i → e.2.till ≠ none) → tfind u.tst.slots i = tfind s.tst.slots i) ∧
    (s.tst.unlock = none → unlockFollow s = s) ∧
    (∀ n, s.tst.unlock = some n → (∃ x ∈ s.net.sessions, x.num = n) → unlockFollow s = s) ∧
    (∀ n, s.tst.unlock = some n → (∀ x ∈ s.net.sessions, x.num ≠ n) → unlockFollow s = u))
end

