-- ==== Sys2Proof/Laws/State.lean ====
section
/-! SUPPORT. What each named update of the state leaves alone, field by field, and what reading back an
entry of a table gives. -/

namespace Sys2Proof.Machine

/-! ## Tables -/

@[simp] theorem tget_tput_same {κ α : Type} [DecidableEq κ] (d : α) (t : Tbl κ α) (k : κ) (v : α) :
    tget d (tput t k v) k = v := by
  induction t with
  | nil => simp [tput, tget]
  | cons e r ih =>
    obtain ⟨k', v'⟩ := e
    by_cases h : k' = k <;> simp [tput, tget, h, ih]

theorem tget_tput_of_ne {κ α : Type} [DecidableEq κ] (d : α) (t : Tbl κ α) {k j : κ} (v : α) (h : k ≠ j) :
    tget d (tput t k v) j = tget d t j := by
  induction t with
  | nil => simp [tput, tget, h]
  | cons e r ih =>
    obtain ⟨k', v'⟩ := e
    by_cases hk : k' = k
    · subst hk; simp [tput, tget, h]
    · by_cases hj : k' = j
      · subst hj; simp [tput, tget, hk]
      · simp [tput, tget, hk, hj, ih]

/-! ## phase -/

@[simp] theorem phase_mono (s : State) (n : Nat) : (s.phase n).mono = s.mono := rfl
@[simp] theorem phase_nonce (s : State) (n : Nat) : (s.phase n).nonce = s.nonce := rfl
@[simp] theorem phase_cur (s : State) (n : Nat) : (s.phase n).cur = s.cur := rfl
@[simp] theorem phase_pairs (s : State) (n : Nat) : (s.phase n).pairs = s.pairs := rfl
@[simp] theorem phase_net (s : State) (n : Nat) : (s.phase n).net = s.net := rfl
@[simp] theorem phase_fcr (s : State) (n : Nat) : (s.phase n).fcr = s.fcr := rfl
@[simp] theorem phase_fns (s : State) (n : Nat) : (s.phase n).fns = s.fns := rfl
@[simp] theorem phase_staged (s : State) (n : Nat) : (s.phase n).staged = s.staged := rfl
@[simp] theorem phase_applied (s : State) (n : Nat) : (s.phase n).applied = s.applied := rfl
@[simp] theorem phase_stored (s : State) (n : Nat) : (s.phase n).stored = s.stored := rfl
@[simp] theorem phase_autoStart (s : State) (n : Nat) : (s.phase n).autoStart = s.autoStart := rfl
@[simp] theorem phase_mem (s : State) (n : Nat) : (s.phase n).mem = s.mem := rfl
@[simp] theorem phase_cle (s : State) (n : Nat) : (s.phase n).cle = s.cle := rfl
@[simp] theorem phase_cse (s : State) (n : Nat) : (s.phase n).cse = s.cse := rfl
@[simp] theorem phase_lsw (s : State) (n : Nat) : (s.phase n).lsw = s.lsw := rfl
@[simp] theorem phase_planner (s : State) (n : Nat) : (s.phase n).planner = s.planner := rfl
@[simp] theorem phase_guid (s : State) (n : Nat) : (s.phase n).guid = s.guid := rfl
@[simp] theorem phase_yield (s : State) (n : Nat) : (s.phase n).yield = s.yield := rfl
@[simp] theorem phase_headwind (s : State) (n : Nat) : (s.phase n).headwind = s.headwind := rfl
@[simp] theorem phase_fus (s : State) (n : Nat) : (s.phase n).fus = s.fus := rfl
@[simp] theorem phase_cam (s : State) (n : Nat) : (s.phase n).cam = s.cam := rfl
@[simp] theorem phase_gns (s : State) (n : Nat) : (s.phase n).gns = s.gns := rfl
@[simp] theorem phase_tsu (s : State) (n : Nat) : (s.phase n).tsu = s.tsu := rfl
@[simp] theorem phase_eth (s : State) (n : Nat) : (s.phase n).eth = s.eth := rfl
@[simp] theorem phase_can (s : State) (n : Nat) : (s.phase n).can = s.can := rfl
@[simp] theorem phase_pwr (s : State) (n : Nat) : (s.phase n).pwr = s.pwr := rfl
@[simp] theorem phase_pnl (s : State) (n : Nat) : (s.phase n).pnl = s.pnl := rfl
@[simp] theorem phase_upd (s : State) (n : Nat) : (s.phase n).upd = s.upd := rfl
@[simp] theorem phase_tst (s : State) (n : Nat) : (s.phase n).tst = s.tst := rfl
@[simp] theorem phase_sent (s : State) (n : Nat) : (s.phase n).sent = s.sent := rfl
@[simp] theorem phase_pending (s : State) (n : Nat) : (s.phase n).pending = s.pending := rfl

/-! ## setPipe -/

@[simp] theorem setPipe_mono (s : State) (k : Nat) (v : Pipe) : (s.setPipe k v).mono = s.mono := rfl
@[simp] theorem setPipe_nonce (s : State) (k : Nat) (v : Pipe) : (s.setPipe k v).nonce = s.nonce := rfl
@[simp] theorem setPipe_cur (s : State) (k : Nat) (v : Pipe) : (s.setPipe k v).cur = s.cur := rfl
@[simp] theorem setPipe_boot (s : State) (k : Nat) (v : Pipe) : (s.setPipe k v).boot = s.boot := rfl
@[simp] theorem setPipe_pairs (s : State) (k : Nat) (v : Pipe) : (s.setPipe k v).pairs = s.pairs := rfl
@[simp] theorem setPipe_net (s : State) (k : Nat) (v : Pipe) : (s.setPipe k v).net = s.net := rfl
@[simp] theorem setPipe_fcr (s : State) (k : Nat) (v : Pipe) : (s.setPipe k v).fcr = s.fcr := rfl
@[simp] theorem setPipe_fns (s : State) (k : Nat) (v : Pipe) : (s.setPipe k v).fns = s.fns := rfl
@[simp] theorem setPipe_staged (s : State) (k : Nat) (v : Pipe) : (s.setPipe k v).staged = s.staged := rfl
@[simp] theorem setPipe_applied (s : State) (k : Nat) (v : Pipe) : (s.setPipe k v).applied = s.applied := rfl
@[simp] theorem setPipe_stored (s : State) (k : Nat) (v : Pipe) : (s.setPipe k v).stored = s.stored := rfl
@[simp] theorem setPipe_autoStart (s : State) (k : Nat) (v : Pipe) : (s.setPipe k v).autoStart = s.autoStart := rfl
@[simp] theorem setPipe_mem (s : State) (k : Nat) (v : Pipe) : (s.setPipe k v).mem = s.mem := rfl
@[simp] theorem setPipe_cle (s : State) (k : Nat) (v : Pipe) : (s.setPipe k v).cle = s.cle := rfl
@[simp] theorem setPipe_cse (s : State) (k : Nat) (v : Pipe) : (s.setPipe k v).cse = s.cse := rfl
@[simp] theorem setPipe_lsw (s : State) (k : Nat) (v : Pipe) : (s.setPipe k v).lsw = s.lsw := rfl
@[simp] theorem setPipe_planner (s : State) (k : Nat) (v : Pipe) : (s.setPipe k v).planner = s.planner := rfl
@[simp] theorem setPipe_guid (s : State) (k : Nat) (v : Pipe) : (s.setPipe k v).guid = s.guid := rfl
@[simp] theorem setPipe_yield (s : State) (k : Nat) (v : Pipe) : (s.setPipe k v).yield = s.yield := rfl
@[simp] theorem setPipe_headwind (s : State) (k : Nat) (v : Pipe) : (s.setPipe k v).headwind = s.headwind := rfl
@[simp] theorem setPipe_fus (s : State) (k : Nat) (v : Pipe) : (s.setPipe k v).fus = s.fus := rfl
@[simp] theorem setPipe_gns (s : State) (k : Nat) (v : Pipe) : (s.setPipe k v).gns = s.gns := rfl
@[simp] theorem setPipe_tsu (s : State) (k : Nat) (v : Pipe) : (s.setPipe k v).tsu = s.tsu := rfl
@[simp] theorem setPipe_eth (s : State) (k : Nat) (v : Pipe) : (s.setPipe k v).eth = s.eth := rfl
@[simp] theorem setPipe_can (s : State) (k : Nat) (v : Pipe) : (s.setPipe k v).can = s.can := rfl
@[simp] theorem setPipe_pwr (s : State) (k : Nat) (v : Pipe) : (s.setPipe k v).pwr = s.pwr := rfl
@[simp] theorem setPipe_pnl (s : State) (k : Nat) (v : Pipe) : (s.setPipe k v).pnl = s.pnl := rfl
@[simp] theorem setPipe_upd (s : State) (k : Nat) (v : Pipe) : (s.setPipe k v).upd = s.upd := rfl
@[simp] theorem setPipe_tst (s : State) (k : Nat) (v : Pipe) : (s.setPipe k v).tst = s.tst := rfl
@[simp] theorem setPipe_sent (s : State) (k : Nat) (v : Pipe) : (s.setPipe k v).sent = s.sent := rfl
@[simp] theorem setPipe_pending (s : State) (k : Nat) (v : Pipe) : (s.setPipe k v).pending = s.pending := rfl

/-! ## setHolder -/

@[simp] theorem setHolder_mono (s : State) (h : Nat) (v : Holder) : (s.setHolder h v).mono = s.mono := rfl
@[simp] theorem setHolder_nonce (s : State) (h : Nat) (v : Holder) : (s.setHolder h v).nonce = s.nonce := rfl
@[simp] theorem setHolder_cur (s : State) (h : Nat) (v : Holder) : (s.setHolder h v).cur = s.cur := rfl
@[simp] theorem setHolder_boot (s : State) (h : Nat) (v : Holder) : (s.setHolder h v).boot = s.boot := rfl
@[simp] theorem setHolder_pairs (s : State) (h : Nat) (v : Holder) : (s.setHolder h v).pairs = s.pairs := rfl
@[simp] theorem setHolder_net (s : State) (h : Nat) (v : Holder) : (s.setHolder h v).net = s.net := rfl
@[simp] theorem setHolder_fcr (s : State) (h : Nat) (v : Holder) : (s.setHolder h v).fcr = s.fcr := rfl
@[simp] theorem setHolder_fns (s : State) (h : Nat) (v : Holder) : (s.setHolder h v).fns = s.fns := rfl
@[simp] theorem setHolder_staged (s : State) (h : Nat) (v : Holder) : (s.setHolder h v).staged = s.staged := rfl
@[simp] theorem setHolder_applied (s : State) (h : Nat) (v : Holder) : (s.setHolder h v).applied = s.applied := rfl
@[simp] theorem setHolder_stored (s : State) (h : Nat) (v : Holder) : (s.setHolder h v).stored = s.stored := rfl
@[simp] theorem setHolder_autoStart (s : State) (h : Nat) (v : Holder) : (s.setHolder h v).autoStart = s.autoStart := rfl
@[simp] theorem setHolder_mem (s : State) (h : Nat) (v : Holder) : (s.setHolder h v).mem = s.mem := rfl
@[simp] theorem setHolder_cle (s : State) (h : Nat) (v : Holder) : (s.setHolder h v).cle = s.cle := rfl
@[simp] theorem setHolder_cse (s : State) (h : Nat) (v : Holder) : (s.setHolder h v).cse = s.cse := rfl
@[simp] theorem setHolder_lsw (s : State) (h : Nat) (v : Holder) : (s.setHolder h v).lsw = s.lsw := rfl
@[simp] theorem setHolder_planner (s : State) (h : Nat) (v : Holder) : (s.setHolder h v).planner = s.planner := rfl
@[simp] theorem setHolder_guid (s : State) (h : Nat) (v : Holder) : (s.setHolder h v).guid = s.guid := rfl
@[simp] theorem setHolder_yield (s : State) (h : Nat) (v : Holder) : (s.setHolder h v).yield = s.yield := rfl
@[simp] theorem setHolder_headwind (s : State) (h : Nat) (v : Holder) : (s.setHolder h v).headwind = s.headwind := rfl
@[simp] theorem setHolder_fus (s : State) (h : Nat) (v : Holder) : (s.setHolder h v).fus = s.fus := rfl
@[simp] theorem setHolder_cam (s : State) (h : Nat) (v : Holder) : (s.setHolder h v).cam = s.cam := rfl
@[simp] theorem setHolder_gns (s : State) (h : Nat) (v : Holder) : (s.setHolder h v).gns = s.gns := rfl
@[simp] theorem setHolder_tsu (s : State) (h : Nat) (v : Holder) : (s.setHolder h v).tsu = s.tsu := rfl
@[simp] theorem setHolder_eth (s : State) (h : Nat) (v : Holder) : (s.setHolder h v).eth = s.eth := rfl
@[simp] theorem setHolder_can (s : State) (h : Nat) (v : Holder) : (s.setHolder h v).can = s.can := rfl
@[simp] theorem setHolder_pnl (s : State) (h : Nat) (v : Holder) : (s.setHolder h v).pnl = s.pnl := rfl
@[simp] theorem setHolder_upd (s : State) (h : Nat) (v : Holder) : (s.setHolder h v).upd = s.upd := rfl
@[simp] theorem setHolder_tst (s : State) (h : Nat) (v : Holder) : (s.setHolder h v).tst = s.tst := rfl
@[simp] theorem setHolder_sent (s : State) (h : Nat) (v : Holder) : (s.setHolder h v).sent = s.sent := rfl
@[simp] theorem setHolder_pending (s : State) (h : Nat) (v : Holder) : (s.setHolder h v).pending = s.pending := rfl

/-! ## setEgo -/

@[simp] theorem setEgo_mono (s : State) (e : Ego) : (s.setEgo e).mono = s.mono := rfl
@[simp] theorem setEgo_nonce (s : State) (e : Ego) : (s.setEgo e).nonce = s.nonce := rfl
@[simp] theorem setEgo_cur (s : State) (e : Ego) : (s.setEgo e).cur = s.cur := rfl
@[simp] theorem setEgo_boot (s : State) (e : Ego) : (s.setEgo e).boot = s.boot := rfl
@[simp] theorem setEgo_pairs (s : State) (e : Ego) : (s.setEgo e).pairs = s.pairs := rfl
@[simp] theorem setEgo_net (s : State) (e : Ego) : (s.setEgo e).net = s.net := rfl
@[simp] theorem setEgo_fcr (s : State) (e : Ego) : (s.setEgo e).fcr = s.fcr := rfl
@[simp] theorem setEgo_fns (s : State) (e : Ego) : (s.setEgo e).fns = s.fns := rfl
@[simp] theorem setEgo_staged (s : State) (e : Ego) : (s.setEgo e).staged = s.staged := rfl
@[simp] theorem setEgo_applied (s : State) (e : Ego) : (s.setEgo e).applied = s.applied := rfl
@[simp] theorem setEgo_stored (s : State) (e : Ego) : (s.setEgo e).stored = s.stored := rfl
@[simp] theorem setEgo_autoStart (s : State) (e : Ego) : (s.setEgo e).autoStart = s.autoStart := rfl
@[simp] theorem setEgo_mem (s : State) (e : Ego) : (s.setEgo e).mem = s.mem := rfl
@[simp] theorem setEgo_cle (s : State) (e : Ego) : (s.setEgo e).cle = s.cle := rfl
@[simp] theorem setEgo_cse (s : State) (e : Ego) : (s.setEgo e).cse = s.cse := rfl
@[simp] theorem setEgo_lsw (s : State) (e : Ego) : (s.setEgo e).lsw = s.lsw := rfl
@[simp] theorem setEgo_planner (s : State) (e : Ego) : (s.setEgo e).planner = s.planner := rfl
@[simp] theorem setEgo_guid (s : State) (e : Ego) : (s.setEgo e).guid = s.guid := rfl
@[simp] theorem setEgo_yield (s : State) (e : Ego) : (s.setEgo e).yield = s.yield := rfl
@[simp] theorem setEgo_headwind (s : State) (e : Ego) : (s.setEgo e).headwind = s.headwind := rfl
@[simp] theorem setEgo_cam (s : State) (e : Ego) : (s.setEgo e).cam = s.cam := rfl
@[simp] theorem setEgo_gns (s : State) (e : Ego) : (s.setEgo e).gns = s.gns := rfl
@[simp] theorem setEgo_tsu (s : State) (e : Ego) : (s.setEgo e).tsu = s.tsu := rfl
@[simp] theorem setEgo_eth (s : State) (e : Ego) : (s.setEgo e).eth = s.eth := rfl
@[simp] theorem setEgo_can (s : State) (e : Ego) : (s.setEgo e).can = s.can := rfl
@[simp] theorem setEgo_pwr (s : State) (e : Ego) : (s.setEgo e).pwr = s.pwr := rfl
@[simp] theorem setEgo_pnl (s : State) (e : Ego) : (s.setEgo e).pnl = s.pnl := rfl
@[simp] theorem setEgo_upd (s : State) (e : Ego) : (s.setEgo e).upd = s.upd := rfl
@[simp] theorem setEgo_tst (s : State) (e : Ego) : (s.setEgo e).tst = s.tst := rfl
@[simp] theorem setEgo_sent (s : State) (e : Ego) : (s.setEgo e).sent = s.sent := rfl
@[simp] theorem setEgo_pending (s : State) (e : Ego) : (s.setEgo e).pending = s.pending := rfl

/-! ## setHead -/

@[simp] theorem setHead_mono (s : State) (h : Nat) (v : FHead) : (s.setHead h v).mono = s.mono := rfl
@[simp] theorem setHead_nonce (s : State) (h : Nat) (v : FHead) : (s.setHead h v).nonce = s.nonce := rfl
@[simp] theorem setHead_cur (s : State) (h : Nat) (v : FHead) : (s.setHead h v).cur = s.cur := rfl
@[simp] theorem setHead_boot (s : State) (h : Nat) (v : FHead) : (s.setHead h v).boot = s.boot := rfl
@[simp] theorem setHead_pairs (s : State) (h : Nat) (v : FHead) : (s.setHead h v).pairs = s.pairs := rfl
@[simp] theorem setHead_net (s : State) (h : Nat) (v : FHead) : (s.setHead h v).net = s.net := rfl
@[simp] theorem setHead_fcr (s : State) (h : Nat) (v : FHead) : (s.setHead h v).fcr = s.fcr := rfl
@[simp] theorem setHead_fns (s : State) (h : Nat) (v : FHead) : (s.setHead h v).fns = s.fns := rfl
@[simp] theorem setHead_staged (s : State) (h : Nat) (v : FHead) : (s.setHead h v).staged = s.staged := rfl
@[simp] theorem setHead_applied (s : State) (h : Nat) (v : FHead) : (s.setHead h v).applied = s.applied := rfl
@[simp] theorem setHead_stored (s : State) (h : Nat) (v : FHead) : (s.setHead h v).stored = s.stored := rfl
@[simp] theorem setHead_autoStart (s : State) (h : Nat) (v : FHead) : (s.setHead h v).autoStart = s.autoStart := rfl
@[simp] theorem setHead_mem (s : State) (h : Nat) (v : FHead) : (s.setHead h v).mem = s.mem := rfl
@[simp] theorem setHead_cle (s : State) (h : Nat) (v : FHead) : (s.setHead h v).cle = s.cle := rfl
@[simp] theorem setHead_cse (s : State) (h : Nat) (v : FHead) : (s.setHead h v).cse = s.cse := rfl
@[simp] theorem setHead_lsw (s : State) (h : Nat) (v : FHead) : (s.setHead h v).lsw = s.lsw := rfl
@[simp] theorem setHead_planner (s : State) (h : Nat) (v : FHead) : (s.setHead h v).planner = s.planner := rfl
@[simp] theorem setHead_guid (s : State) (h : Nat) (v : FHead) : (s.setHead h v).guid = s.guid := rfl
@[simp] theorem setHead_yield (s : State) (h : Nat) (v : FHead) : (s.setHead h v).yield = s.yield := rfl
@[simp] theorem setHead_headwind (s : State) (h : Nat) (v : FHead) : (s.setHead h v).headwind = s.headwind := rfl
@[simp] theorem setHead_cam (s : State) (h : Nat) (v : FHead) : (s.setHead h v).cam = s.cam := rfl
@[simp] theorem setHead_gns (s : State) (h : Nat) (v : FHead) : (s.setHead h v).gns = s.gns := rfl
@[simp] theorem setHead_tsu (s : State) (h : Nat) (v : FHead) : (s.setHead h v).tsu = s.tsu := rfl
@[simp] theorem setHead_eth (s : State) (h : Nat) (v : FHead) : (s.setHead h v).eth = s.eth := rfl
@[simp] theorem setHead_can (s : State) (h : Nat) (v : FHead) : (s.setHead h v).can = s.can := rfl
@[simp] theorem setHead_pwr (s : State) (h : Nat) (v : FHead) : (s.setHead h v).pwr = s.pwr := rfl
@[simp] theorem setHead_pnl (s : State) (h : Nat) (v : FHead) : (s.setHead h v).pnl = s.pnl := rfl
@[simp] theorem setHead_upd (s : State) (h : Nat) (v : FHead) : (s.setHead h v).upd = s.upd := rfl
@[simp] theorem setHead_tst (s : State) (h : Nat) (v : FHead) : (s.setHead h v).tst = s.tst := rfl
@[simp] theorem setHead_sent (s : State) (h : Nat) (v : FHead) : (s.setHead h v).sent = s.sent := rfl
@[simp] theorem setHead_pending (s : State) (h : Nat) (v : FHead) : (s.setHead h v).pending = s.pending := rfl

/-! ## setWslot -/

@[simp] theorem setWslot_mono (s : State) (i : Nat) (v : WSlot) : (s.setWslot i v).mono = s.mono := rfl
@[simp] theorem setWslot_nonce (s : State) (i : Nat) (v : WSlot) : (s.setWslot i v).nonce = s.nonce := rfl
@[simp] theorem setWslot_cur (s : State) (i : Nat) (v : WSlot) : (s.setWslot i v).cur = s.cur := rfl
@[simp] theorem setWslot_boot (s : State) (i : Nat) (v : WSlot) : (s.setWslot i v).boot = s.boot := rfl
@[simp] theorem setWslot_pairs (s : State) (i : Nat) (v : WSlot) : (s.setWslot i v).pairs = s.pairs := rfl
@[simp] theorem setWslot_net (s : State) (i : Nat) (v : WSlot) : (s.setWslot i v).net = s.net := rfl
@[simp] theorem setWslot_fcr (s : State) (i : Nat) (v : WSlot) : (s.setWslot i v).fcr = s.fcr := rfl
@[simp] theorem setWslot_fns (s : State) (i : Nat) (v : WSlot) : (s.setWslot i v).fns = s.fns := rfl
@[simp] theorem setWslot_staged (s : State) (i : Nat) (v : WSlot) : (s.setWslot i v).staged = s.staged := rfl
@[simp] theorem setWslot_applied (s : State) (i : Nat) (v : WSlot) : (s.setWslot i v).applied = s.applied := rfl
@[simp] theorem setWslot_stored (s : State) (i : Nat) (v : WSlot) : (s.setWslot i v).stored = s.stored := rfl
@[simp] theorem setWslot_autoStart (s : State) (i : Nat) (v : WSlot) : (s.setWslot i v).autoStart = s.autoStart := rfl
@[simp] theorem setWslot_mem (s : State) (i : Nat) (v : WSlot) : (s.setWslot i v).mem = s.mem := rfl
@[simp] theorem setWslot_cle (s : State) (i : Nat) (v : WSlot) : (s.setWslot i v).cle = s.cle := rfl
@[simp] theorem setWslot_cse (s : State) (i : Nat) (v : WSlot) : (s.setWslot i v).cse = s.cse := rfl
@[simp] theorem setWslot_lsw (s : State) (i : Nat) (v : WSlot) : (s.setWslot i v).lsw = s.lsw := rfl
@[simp] theorem setWslot_planner (s : State) (i : Nat) (v : WSlot) : (s.setWslot i v).planner = s.planner := rfl
@[simp] theorem setWslot_guid (s : State) (i : Nat) (v : WSlot) : (s.setWslot i v).guid = s.guid := rfl
@[simp] theorem setWslot_yield (s : State) (i : Nat) (v : WSlot) : (s.setWslot i v).yield = s.yield := rfl
@[simp] theorem setWslot_headwind (s : State) (i : Nat) (v : WSlot) : (s.setWslot i v).headwind = s.headwind := rfl
@[simp] theorem setWslot_cam (s : State) (i : Nat) (v : WSlot) : (s.setWslot i v).cam = s.cam := rfl
@[simp] theorem setWslot_gns (s : State) (i : Nat) (v : WSlot) : (s.setWslot i v).gns = s.gns := rfl
@[simp] theorem setWslot_tsu (s : State) (i : Nat) (v : WSlot) : (s.setWslot i v).tsu = s.tsu := rfl
@[simp] theorem setWslot_eth (s : State) (i : Nat) (v : WSlot) : (s.setWslot i v).eth = s.eth := rfl
@[simp] theorem setWslot_can (s : State) (i : Nat) (v : WSlot) : (s.setWslot i v).can = s.can := rfl
@[simp] theorem setWslot_pwr (s : State) (i : Nat) (v : WSlot) : (s.setWslot i v).pwr = s.pwr := rfl
@[simp] theorem setWslot_pnl (s : State) (i : Nat) (v : WSlot) : (s.setWslot i v).pnl = s.pnl := rfl
@[simp] theorem setWslot_upd (s : State) (i : Nat) (v : WSlot) : (s.setWslot i v).upd = s.upd := rfl
@[simp] theorem setWslot_tst (s : State) (i : Nat) (v : WSlot) : (s.setWslot i v).tst = s.tst := rfl
@[simp] theorem setWslot_sent (s : State) (i : Nat) (v : WSlot) : (s.setWslot i v).sent = s.sent := rfl
@[simp] theorem setWslot_pending (s : State) (i : Nat) (v : WSlot) : (s.setWslot i v).pending = s.pending := rfl

/-! ## setTrack -/

@[simp] theorem setTrack_mono (s : State) (c : Nat) (t : Track) : (s.setTrack c t).mono = s.mono := rfl
@[simp] theorem setTrack_nonce (s : State) (c : Nat) (t : Track) : (s.setTrack c t).nonce = s.nonce := rfl
@[simp] theorem setTrack_cur (s : State) (c : Nat) (t : Track) : (s.setTrack c t).cur = s.cur := rfl
@[simp] theorem setTrack_boot (s : State) (c : Nat) (t : Track) : (s.setTrack c t).boot = s.boot := rfl
@[simp] theorem setTrack_pairs (s : State) (c : Nat) (t : Track) : (s.setTrack c t).pairs = s.pairs := rfl
@[simp] theorem setTrack_net (s : State) (c : Nat) (t : Track) : (s.setTrack c t).net = s.net := rfl
@[simp] theorem setTrack_fcr (s : State) (c : Nat) (t : Track) : (s.setTrack c t).fcr = s.fcr := rfl
@[simp] theorem setTrack_fns (s : State) (c : Nat) (t : Track) : (s.setTrack c t).fns = s.fns := rfl
@[simp] theorem setTrack_staged (s : State) (c : Nat) (t : Track) : (s.setTrack c t).staged = s.staged := rfl
@[simp] theorem setTrack_applied (s : State) (c : Nat) (t : Track) : (s.setTrack c t).applied = s.applied := rfl
@[simp] theorem setTrack_stored (s : State) (c : Nat) (t : Track) : (s.setTrack c t).stored = s.stored := rfl
@[simp] theorem setTrack_autoStart (s : State) (c : Nat) (t : Track) : (s.setTrack c t).autoStart = s.autoStart := rfl
@[simp] theorem setTrack_mem (s : State) (c : Nat) (t : Track) : (s.setTrack c t).mem = s.mem := rfl
@[simp] theorem setTrack_cle (s : State) (c : Nat) (t : Track) : (s.setTrack c t).cle = s.cle := rfl
@[simp] theorem setTrack_cse (s : State) (c : Nat) (t : Track) : (s.setTrack c t).cse = s.cse := rfl
@[simp] theorem setTrack_lsw (s : State) (c : Nat) (t : Track) : (s.setTrack c t).lsw = s.lsw := rfl
@[simp] theorem setTrack_planner (s : State) (c : Nat) (t : Track) : (s.setTrack c t).planner = s.planner := rfl
@[simp] theorem setTrack_guid (s : State) (c : Nat) (t : Track) : (s.setTrack c t).guid = s.guid := rfl
@[simp] theorem setTrack_yield (s : State) (c : Nat) (t : Track) : (s.setTrack c t).yield = s.yield := rfl
@[simp] theorem setTrack_headwind (s : State) (c : Nat) (t : Track) : (s.setTrack c t).headwind = s.headwind := rfl
@[simp] theorem setTrack_fus (s : State) (c : Nat) (t : Track) : (s.setTrack c t).fus = s.fus := rfl
@[simp] theorem setTrack_cam (s : State) (c : Nat) (t : Track) : (s.setTrack c t).cam = s.cam := rfl
@[simp] theorem setTrack_tsu (s : State) (c : Nat) (t : Track) : (s.setTrack c t).tsu = s.tsu := rfl
@[simp] theorem setTrack_eth (s : State) (c : Nat) (t : Track) : (s.setTrack c t).eth = s.eth := rfl
@[simp] theorem setTrack_can (s : State) (c : Nat) (t : Track) : (s.setTrack c t).can = s.can := rfl
@[simp] theorem setTrack_pwr (s : State) (c : Nat) (t : Track) : (s.setTrack c t).pwr = s.pwr := rfl
@[simp] theorem setTrack_pnl (s : State) (c : Nat) (t : Track) : (s.setTrack c t).pnl = s.pnl := rfl
@[simp] theorem setTrack_upd (s : State) (c : Nat) (t : Track) : (s.setTrack c t).upd = s.upd := rfl
@[simp] theorem setTrack_tst (s : State) (c : Nat) (t : Track) : (s.setTrack c t).tst = s.tst := rfl
@[simp] theorem setTrack_sent (s : State) (c : Nat) (t : Track) : (s.setTrack c t).sent = s.sent := rfl
@[simp] theorem setTrack_pending (s : State) (c : Nat) (t : Track) : (s.setTrack c t).pending = s.pending := rfl

/-! ## setNotch -/

@[simp] theorem setNotch_mono (s : State) (n : Nat) (x : Notch) : (s.setNotch n x).mono = s.mono := rfl
@[simp] theorem setNotch_nonce (s : State) (n : Nat) (x : Notch) : (s.setNotch n x).nonce = s.nonce := rfl
@[simp] theorem setNotch_cur (s : State) (n : Nat) (x : Notch) : (s.setNotch n x).cur = s.cur := rfl
@[simp] theorem setNotch_boot (s : State) (n : Nat) (x : Notch) : (s.setNotch n x).boot = s.boot := rfl
@[simp] theorem setNotch_pairs (s : State) (n : Nat) (x : Notch) : (s.setNotch n x).pairs = s.pairs := rfl
@[simp] theorem setNotch_net (s : State) (n : Nat) (x : Notch) : (s.setNotch n x).net = s.net := rfl
@[simp] theorem setNotch_fcr (s : State) (n : Nat) (x : Notch) : (s.setNotch n x).fcr = s.fcr := rfl
@[simp] theorem setNotch_fns (s : State) (n : Nat) (x : Notch) : (s.setNotch n x).fns = s.fns := rfl
@[simp] theorem setNotch_staged (s : State) (n : Nat) (x : Notch) : (s.setNotch n x).staged = s.staged := rfl
@[simp] theorem setNotch_applied (s : State) (n : Nat) (x : Notch) : (s.setNotch n x).applied = s.applied := rfl
@[simp] theorem setNotch_stored (s : State) (n : Nat) (x : Notch) : (s.setNotch n x).stored = s.stored := rfl
@[simp] theorem setNotch_autoStart (s : State) (n : Nat) (x : Notch) : (s.setNotch n x).autoStart = s.autoStart := rfl
@[simp] theorem setNotch_mem (s : State) (n : Nat) (x : Notch) : (s.setNotch n x).mem = s.mem := rfl
@[simp] theorem setNotch_cle (s : State) (n : Nat) (x : Notch) : (s.setNotch n x).cle = s.cle := rfl
@[simp] theorem setNotch_cse (s : State) (n : Nat) (x : Notch) : (s.setNotch n x).cse = s.cse := rfl
@[simp] theorem setNotch_lsw (s : State) (n : Nat) (x : Notch) : (s.setNotch n x).lsw = s.lsw := rfl
@[simp] theorem setNotch_planner (s : State) (n : Nat) (x : Notch) : (s.setNotch n x).planner = s.planner := rfl
@[simp] theorem setNotch_guid (s : State) (n : Nat) (x : Notch) : (s.setNotch n x).guid = s.guid := rfl
@[simp] theorem setNotch_yield (s : State) (n : Nat) (x : Notch) : (s.setNotch n x).yield = s.yield := rfl
@[simp] theorem setNotch_headwind (s : State) (n : Nat) (x : Notch) : (s.setNotch n x).headwind = s.headwind := rfl
@[simp] theorem setNotch_fus (s : State) (n : Nat) (x : Notch) : (s.setNotch n x).fus = s.fus := rfl
@[simp] theorem setNotch_cam (s : State) (n : Nat) (x : Notch) : (s.setNotch n x).cam = s.cam := rfl
@[simp] theorem setNotch_tsu (s : State) (n : Nat) (x : Notch) : (s.setNotch n x).tsu = s.tsu := rfl
@[simp] theorem setNotch_eth (s : State) (n : Nat) (x : Notch) : (s.setNotch n x).eth = s.eth := rfl
@[simp] theorem setNotch_can (s : State) (n : Nat) (x : Notch) : (s.setNotch n x).can = s.can := rfl
@[simp] theorem setNotch_pwr (s : State) (n : Nat) (x : Notch) : (s.setNotch n x).pwr = s.pwr := rfl
@[simp] theorem setNotch_pnl (s : State) (n : Nat) (x : Notch) : (s.setNotch n x).pnl = s.pnl := rfl
@[simp] theorem setNotch_upd (s : State) (n : Nat) (x : Notch) : (s.setNotch n x).upd = s.upd := rfl
@[simp] theorem setNotch_tst (s : State) (n : Nat) (x : Notch) : (s.setNotch n x).tst = s.tst := rfl
@[simp] theorem setNotch_sent (s : State) (n : Nat) (x : Notch) : (s.setNotch n x).sent = s.sent := rfl
@[simp] theorem setNotch_pending (s : State) (n : Nat) (x : Notch) : (s.setNotch n x).pending = s.pending := rfl

/-! ## setFn -/

@[simp] theorem setFn_mono (s : State) (f : Nat) (v : Fn) : (s.setFn f v).mono = s.mono := rfl
@[simp] theorem setFn_nonce (s : State) (f : Nat) (v : Fn) : (s.setFn f v).nonce = s.nonce := rfl
@[simp] theorem setFn_cur (s : State) (f : Nat) (v : Fn) : (s.setFn f v).cur = s.cur := rfl
@[simp] theorem setFn_boot (s : State) (f : Nat) (v : Fn) : (s.setFn f v).boot = s.boot := rfl
@[simp] theorem setFn_pairs (s : State) (f : Nat) (v : Fn) : (s.setFn f v).pairs = s.pairs := rfl
@[simp] theorem setFn_net (s : State) (f : Nat) (v : Fn) : (s.setFn f v).net = s.net := rfl
@[simp] theorem setFn_fcr (s : State) (f : Nat) (v : Fn) : (s.setFn f v).fcr = s.fcr := rfl
@[simp] theorem setFn_staged (s : State) (f : Nat) (v : Fn) : (s.setFn f v).staged = s.staged := rfl
@[simp] theorem setFn_applied (s : State) (f : Nat) (v : Fn) : (s.setFn f v).applied = s.applied := rfl
@[simp] theorem setFn_stored (s : State) (f : Nat) (v : Fn) : (s.setFn f v).stored = s.stored := rfl
@[simp] theorem setFn_autoStart (s : State) (f : Nat) (v : Fn) : (s.setFn f v).autoStart = s.autoStart := rfl
@[simp] theorem setFn_mem (s : State) (f : Nat) (v : Fn) : (s.setFn f v).mem = s.mem := rfl
@[simp] theorem setFn_cle (s : State) (f : Nat) (v : Fn) : (s.setFn f v).cle = s.cle := rfl
@[simp] theorem setFn_cse (s : State) (f : Nat) (v : Fn) : (s.setFn f v).cse = s.cse := rfl
@[simp] theorem setFn_lsw (s : State) (f : Nat) (v : Fn) : (s.setFn f v).lsw = s.lsw := rfl
@[simp] theorem setFn_planner (s : State) (f : Nat) (v : Fn) : (s.setFn f v).planner = s.planner := rfl
@[simp] theorem setFn_guid (s : State) (f : Nat) (v : Fn) : (s.setFn f v).guid = s.guid := rfl
@[simp] theorem setFn_yield (s : State) (f : Nat) (v : Fn) : (s.setFn f v).yield = s.yield := rfl
@[simp] theorem setFn_headwind (s : State) (f : Nat) (v : Fn) : (s.setFn f v).headwind = s.headwind := rfl
@[simp] theorem setFn_fus (s : State) (f : Nat) (v : Fn) : (s.setFn f v).fus = s.fus := rfl
@[simp] theorem setFn_cam (s : State) (f : Nat) (v : Fn) : (s.setFn f v).cam = s.cam := rfl
@[simp] theorem setFn_gns (s : State) (f : Nat) (v : Fn) : (s.setFn f v).gns = s.gns := rfl
@[simp] theorem setFn_tsu (s : State) (f : Nat) (v : Fn) : (s.setFn f v).tsu = s.tsu := rfl
@[simp] theorem setFn_eth (s : State) (f : Nat) (v : Fn) : (s.setFn f v).eth = s.eth := rfl
@[simp] theorem setFn_can (s : State) (f : Nat) (v : Fn) : (s.setFn f v).can = s.can := rfl
@[simp] theorem setFn_pwr (s : State) (f : Nat) (v : Fn) : (s.setFn f v).pwr = s.pwr := rfl
@[simp] theorem setFn_pnl (s : State) (f : Nat) (v : Fn) : (s.setFn f v).pnl = s.pnl := rfl
@[simp] theorem setFn_upd (s : State) (f : Nat) (v : Fn) : (s.setFn f v).upd = s.upd := rfl
@[simp] theorem setFn_tst (s : State) (f : Nat) (v : Fn) : (s.setFn f v).tst = s.tst := rfl
@[simp] theorem setFn_sent (s : State) (f : Nat) (v : Fn) : (s.setFn f v).sent = s.sent := rfl
@[simp] theorem setFn_pending (s : State) (f : Nat) (v : Fn) : (s.setFn f v).pending = s.pending := rfl

/-! ## setPair -/

@[simp] theorem setPair_mono (s : State) (i : Nat) (v : Pair) : (s.setPair i v).mono = s.mono := rfl
@[simp] theorem setPair_nonce (s : State) (i : Nat) (v : Pair) : (s.setPair i v).nonce = s.nonce := rfl
@[simp] theorem setPair_cur (s : State) (i : Nat) (v : Pair) : (s.setPair i v).cur = s.cur := rfl
@[simp] theorem setPair_boot (s : State) (i : Nat) (v : Pair) : (s.setPair i v).boot = s.boot := rfl
@[simp] theorem setPair_net (s : State) (i : Nat) (v : Pair) : (s.setPair i v).net = s.net := rfl
@[simp] theorem setPair_fcr (s : State) (i : Nat) (v : Pair) : (s.setPair i v).fcr = s.fcr := rfl
@[simp] theorem setPair_fns (s : State) (i : Nat) (v : Pair) : (s.setPair i v).fns = s.fns := rfl
@[simp] theorem setPair_staged (s : State) (i : Nat) (v : Pair) : (s.setPair i v).staged = s.staged := rfl
@[simp] theorem setPair_applied (s : State) (i : Nat) (v : Pair) : (s.setPair i v).applied = s.applied := rfl
@[simp] theorem setPair_stored (s : State) (i : Nat) (v : Pair) : (s.setPair i v).stored = s.stored := rfl
@[simp] theorem setPair_autoStart (s : State) (i : Nat) (v : Pair) : (s.setPair i v).autoStart = s.autoStart := rfl
@[simp] theorem setPair_mem (s : State) (i : Nat) (v : Pair) : (s.setPair i v).mem = s.mem := rfl
@[simp] theorem setPair_cle (s : State) (i : Nat) (v : Pair) : (s.setPair i v).cle = s.cle := rfl
@[simp] theorem setPair_cse (s : State) (i : Nat) (v : Pair) : (s.setPair i v).cse = s.cse := rfl
@[simp] theorem setPair_lsw (s : State) (i : Nat) (v : Pair) : (s.setPair i v).lsw = s.lsw := rfl
@[simp] theorem setPair_planner (s : State) (i : Nat) (v : Pair) : (s.setPair i v).planner = s.planner := rfl
@[simp] theorem setPair_guid (s : State) (i : Nat) (v : Pair) : (s.setPair i v).guid = s.guid := rfl
@[simp] theorem setPair_yield (s : State) (i : Nat) (v : Pair) : (s.setPair i v).yield = s.yield := rfl
@[simp] theorem setPair_headwind (s : State) (i : Nat) (v : Pair) : (s.setPair i v).headwind = s.headwind := rfl
@[simp] theorem setPair_fus (s : State) (i : Nat) (v : Pair) : (s.setPair i v).fus = s.fus := rfl
@[simp] theorem setPair_cam (s : State) (i : Nat) (v : Pair) : (s.setPair i v).cam = s.cam := rfl
@[simp] theorem setPair_gns (s : State) (i : Nat) (v : Pair) : (s.setPair i v).gns = s.gns := rfl
@[simp] theorem setPair_tsu (s : State) (i : Nat) (v : Pair) : (s.setPair i v).tsu = s.tsu := rfl
@[simp] theorem setPair_eth (s : State) (i : Nat) (v : Pair) : (s.setPair i v).eth = s.eth := rfl
@[simp] theorem setPair_can (s : State) (i : Nat) (v : Pair) : (s.setPair i v).can = s.can := rfl
@[simp] theorem setPair_pwr (s : State) (i : Nat) (v : Pair) : (s.setPair i v).pwr = s.pwr := rfl
@[simp] theorem setPair_pnl (s : State) (i : Nat) (v : Pair) : (s.setPair i v).pnl = s.pnl := rfl
@[simp] theorem setPair_upd (s : State) (i : Nat) (v : Pair) : (s.setPair i v).upd = s.upd := rfl
@[simp] theorem setPair_tst (s : State) (i : Nat) (v : Pair) : (s.setPair i v).tst = s.tst := rfl
@[simp] theorem setPair_sent (s : State) (i : Nat) (v : Pair) : (s.setPair i v).sent = s.sent := rfl
@[simp] theorem setPair_pending (s : State) (i : Nat) (v : Pair) : (s.setPair i v).pending = s.pending := rfl

/-! ## setSrc -/

@[simp] theorem setSrc_mono (s : State) (n : Nat) (v : Src) : (s.setSrc n v).mono = s.mono := rfl
@[simp] theorem setSrc_nonce (s : State) (n : Nat) (v : Src) : (s.setSrc n v).nonce = s.nonce := rfl
@[simp] theorem setSrc_cur (s : State) (n : Nat) (v : Src) : (s.setSrc n v).cur = s.cur := rfl
@[simp] theorem setSrc_boot (s : State) (n : Nat) (v : Src) : (s.setSrc n v).boot = s.boot := rfl
@[simp] theorem setSrc_pairs (s : State) (n : Nat) (v : Src) : (s.setSrc n v).pairs = s.pairs := rfl
@[simp] theorem setSrc_net (s : State) (n : Nat) (v : Src) : (s.setSrc n v).net = s.net := rfl
@[simp] theorem setSrc_fns (s : State) (n : Nat) (v : Src) : (s.setSrc n v).fns = s.fns := rfl
@[simp] theorem setSrc_staged (s : State) (n : Nat) (v : Src) : (s.setSrc n v).staged = s.staged := rfl
@[simp] theorem setSrc_applied (s : State) (n : Nat) (v : Src) : (s.setSrc n v).applied = s.applied := rfl
@[simp] theorem setSrc_stored (s : State) (n : Nat) (v : Src) : (s.setSrc n v).stored = s.stored := rfl
@[simp] theorem setSrc_autoStart (s : State) (n : Nat) (v : Src) : (s.setSrc n v).autoStart = s.autoStart := rfl
@[simp] theorem setSrc_mem (s : State) (n : Nat) (v : Src) : (s.setSrc n v).mem = s.mem := rfl
@[simp] theorem setSrc_cle (s : State) (n : Nat) (v : Src) : (s.setSrc n v).cle = s.cle := rfl
@[simp] theorem setSrc_cse (s : State) (n : Nat) (v : Src) : (s.setSrc n v).cse = s.cse := rfl
@[simp] theorem setSrc_lsw (s : State) (n : Nat) (v : Src) : (s.setSrc n v).lsw = s.lsw := rfl
@[simp] theorem setSrc_planner (s : State) (n : Nat) (v : Src) : (s.setSrc n v).planner = s.planner := rfl
@[simp] theorem setSrc_guid (s : State) (n : Nat) (v : Src) : (s.setSrc n v).guid = s.guid := rfl
@[simp] theorem setSrc_yield (s : State) (n : Nat) (v : Src) : (s.setSrc n v).yield = s.yield := rfl
@[simp] theorem setSrc_headwind (s : State) (n : Nat) (v : Src) : (s.setSrc n v).headwind = s.headwind := rfl
@[simp] theorem setSrc_fus (s : State) (n : Nat) (v : Src) : (s.setSrc n v).fus = s.fus := rfl
@[simp] theorem setSrc_cam (s : State) (n : Nat) (v : Src) : (s.setSrc n v).cam = s.cam := rfl
@[simp] theorem setSrc_gns (s : State) (n : Nat) (v : Src) : (s.setSrc n v).gns = s.gns := rfl
@[simp] theorem setSrc_tsu (s : State) (n : Nat) (v : Src) : (s.setSrc n v).tsu = s.tsu := rfl
@[simp] theorem setSrc_eth (s : State) (n : Nat) (v : Src) : (s.setSrc n v).eth = s.eth := rfl
@[simp] theorem setSrc_can (s : State) (n : Nat) (v : Src) : (s.setSrc n v).can = s.can := rfl
@[simp] theorem setSrc_pwr (s : State) (n : Nat) (v : Src) : (s.setSrc n v).pwr = s.pwr := rfl
@[simp] theorem setSrc_pnl (s : State) (n : Nat) (v : Src) : (s.setSrc n v).pnl = s.pnl := rfl
@[simp] theorem setSrc_upd (s : State) (n : Nat) (v : Src) : (s.setSrc n v).upd = s.upd := rfl
@[simp] theorem setSrc_tst (s : State) (n : Nat) (v : Src) : (s.setSrc n v).tst = s.tst := rfl
@[simp] theorem setSrc_sent (s : State) (n : Nat) (v : Src) : (s.setSrc n v).sent = s.sent := rfl
@[simp] theorem setSrc_pending (s : State) (n : Nat) (v : Src) : (s.setSrc n v).pending = s.pending := rfl

/-! ## setLoop -/

@[simp] theorem setLoop_mono (s : State) (n : Nat) (v : Loop) : (s.setLoop n v).mono = s.mono := rfl
@[simp] theorem setLoop_nonce (s : State) (n : Nat) (v : Loop) : (s.setLoop n v).nonce = s.nonce := rfl
@[simp] theorem setLoop_cur (s : State) (n : Nat) (v : Loop) : (s.setLoop n v).cur = s.cur := rfl
@[simp] theorem setLoop_boot (s : State) (n : Nat) (v : Loop) : (s.setLoop n v).boot = s.boot := rfl
@[simp] theorem setLoop_pairs (s : State) (n : Nat) (v : Loop) : (s.setLoop n v).pairs = s.pairs := rfl
@[simp] theorem setLoop_net (s : State) (n : Nat) (v : Loop) : (s.setLoop n v).net = s.net := rfl
@[simp] theorem setLoop_fcr (s : State) (n : Nat) (v : Loop) : (s.setLoop n v).fcr = s.fcr := rfl
@[simp] theorem setLoop_fns (s : State) (n : Nat) (v : Loop) : (s.setLoop n v).fns = s.fns := rfl
@[simp] theorem setLoop_staged (s : State) (n : Nat) (v : Loop) : (s.setLoop n v).staged = s.staged := rfl
@[simp] theorem setLoop_applied (s : State) (n : Nat) (v : Loop) : (s.setLoop n v).applied = s.applied := rfl
@[simp] theorem setLoop_stored (s : State) (n : Nat) (v : Loop) : (s.setLoop n v).stored = s.stored := rfl
@[simp] theorem setLoop_autoStart (s : State) (n : Nat) (v : Loop) : (s.setLoop n v).autoStart = s.autoStart := rfl
@[simp] theorem setLoop_mem (s : State) (n : Nat) (v : Loop) : (s.setLoop n v).mem = s.mem := rfl
@[simp] theorem setLoop_cse (s : State) (n : Nat) (v : Loop) : (s.setLoop n v).cse = s.cse := rfl
@[simp] theorem setLoop_lsw (s : State) (n : Nat) (v : Loop) : (s.setLoop n v).lsw = s.lsw := rfl
@[simp] theorem setLoop_planner (s : State) (n : Nat) (v : Loop) : (s.setLoop n v).planner = s.planner := rfl
@[simp] theorem setLoop_guid (s : State) (n : Nat) (v : Loop) : (s.setLoop n v).guid = s.guid := rfl
@[simp] theorem setLoop_yield (s : State) (n : Nat) (v : Loop) : (s.setLoop n v).yield = s.yield := rfl
@[simp] theorem setLoop_headwind (s : State) (n : Nat) (v : Loop) : (s.setLoop n v).headwind = s.headwind := rfl
@[simp] theorem setLoop_fus (s : State) (n : Nat) (v : Loop) : (s.setLoop n v).fus = s.fus := rfl
@[simp] theorem setLoop_cam (s : State) (n : Nat) (v : Loop) : (s.setLoop n v).cam = s.cam := rfl
@[simp] theorem setLoop_gns (s : State) (n : Nat) (v : Loop) : (s.setLoop n v).gns = s.gns := rfl
@[simp] theorem setLoop_tsu (s : State) (n : Nat) (v : Loop) : (s.setLoop n v).tsu = s.tsu := rfl
@[simp] theorem setLoop_eth (s : State) (n : Nat) (v : Loop) : (s.setLoop n v).eth = s.eth := rfl
@[simp] theorem setLoop_can (s : State) (n : Nat) (v : Loop) : (s.setLoop n v).can = s.can := rfl
@[simp] theorem setLoop_pwr (s : State) (n : Nat) (v : Loop) : (s.setLoop n v).pwr = s.pwr := rfl
@[simp] theorem setLoop_pnl (s : State) (n : Nat) (v : Loop) : (s.setLoop n v).pnl = s.pnl := rfl
@[simp] theorem setLoop_upd (s : State) (n : Nat) (v : Loop) : (s.setLoop n v).upd = s.upd := rfl
@[simp] theorem setLoop_tst (s : State) (n : Nat) (v : Loop) : (s.setLoop n v).tst = s.tst := rfl
@[simp] theorem setLoop_sent (s : State) (n : Nat) (v : Loop) : (s.setLoop n v).sent = s.sent := rfl
@[simp] theorem setLoop_pending (s : State) (n : Nat) (v : Loop) : (s.setLoop n v).pending = s.pending := rfl

/-! ## setGrp -/

@[simp] theorem setGrp_mono (s : State) (g : Nat) (v : Grp) : (s.setGrp g v).mono = s.mono := rfl
@[simp] theorem setGrp_nonce (s : State) (g : Nat) (v : Grp) : (s.setGrp g v).nonce = s.nonce := rfl
@[simp] theorem setGrp_cur (s : State) (g : Nat) (v : Grp) : (s.setGrp g v).cur = s.cur := rfl
@[simp] theorem setGrp_boot (s : State) (g : Nat) (v : Grp) : (s.setGrp g v).boot = s.boot := rfl
@[simp] theorem setGrp_pairs (s : State) (g : Nat) (v : Grp) : (s.setGrp g v).pairs = s.pairs := rfl
@[simp] theorem setGrp_net (s : State) (g : Nat) (v : Grp) : (s.setGrp g v).net = s.net := rfl
@[simp] theorem setGrp_fcr (s : State) (g : Nat) (v : Grp) : (s.setGrp g v).fcr = s.fcr := rfl
@[simp] theorem setGrp_fns (s : State) (g : Nat) (v : Grp) : (s.setGrp g v).fns = s.fns := rfl
@[simp] theorem setGrp_staged (s : State) (g : Nat) (v : Grp) : (s.setGrp g v).staged = s.staged := rfl
@[simp] theorem setGrp_applied (s : State) (g : Nat) (v : Grp) : (s.setGrp g v).applied = s.applied := rfl
@[simp] theorem setGrp_stored (s : State) (g : Nat) (v : Grp) : (s.setGrp g v).stored = s.stored := rfl
@[simp] theorem setGrp_autoStart (s : State) (g : Nat) (v : Grp) : (s.setGrp g v).autoStart = s.autoStart := rfl
@[simp] theorem setGrp_mem (s : State) (g : Nat) (v : Grp) : (s.setGrp g v).mem = s.mem := rfl
@[simp] theorem setGrp_cse (s : State) (g : Nat) (v : Grp) : (s.setGrp g v).cse = s.cse := rfl
@[simp] theorem setGrp_lsw (s : State) (g : Nat) (v : Grp) : (s.setGrp g v).lsw = s.lsw := rfl
@[simp] theorem setGrp_planner (s : State) (g : Nat) (v : Grp) : (s.setGrp g v).planner = s.planner := rfl
@[simp] theorem setGrp_guid (s : State) (g : Nat) (v : Grp) : (s.setGrp g v).guid = s.guid := rfl
@[simp] theorem setGrp_yield (s : State) (g : Nat) (v : Grp) : (s.setGrp g v).yield = s.yield := rfl
@[simp] theorem setGrp_headwind (s : State) (g : Nat) (v : Grp) : (s.setGrp g v).headwind = s.headwind := rfl
@[simp] theorem setGrp_fus (s : State) (g : Nat) (v : Grp) : (s.setGrp g v).fus = s.fus := rfl
@[simp] theorem setGrp_cam (s : State) (g : Nat) (v : Grp) : (s.setGrp g v).cam = s.cam := rfl
@[simp] theorem setGrp_gns (s : State) (g : Nat) (v : Grp) : (s.setGrp g v).gns = s.gns := rfl
@[simp] theorem setGrp_tsu (s : State) (g : Nat) (v : Grp) : (s.setGrp g v).tsu = s.tsu := rfl
@[simp] theorem setGrp_eth (s : State) (g : Nat) (v : Grp) : (s.setGrp g v).eth = s.eth := rfl
@[simp] theorem setGrp_can (s : State) (g : Nat) (v : Grp) : (s.setGrp g v).can = s.can := rfl
@[simp] theorem setGrp_pwr (s : State) (g : Nat) (v : Grp) : (s.setGrp g v).pwr = s.pwr := rfl
@[simp] theorem setGrp_pnl (s : State) (g : Nat) (v : Grp) : (s.setGrp g v).pnl = s.pnl := rfl
@[simp] theorem setGrp_upd (s : State) (g : Nat) (v : Grp) : (s.setGrp g v).upd = s.upd := rfl
@[simp] theorem setGrp_tst (s : State) (g : Nat) (v : Grp) : (s.setGrp g v).tst = s.tst := rfl
@[simp] theorem setGrp_sent (s : State) (g : Nat) (v : Grp) : (s.setGrp g v).sent = s.sent := rfl
@[simp] theorem setGrp_pending (s : State) (g : Nat) (v : Grp) : (s.setGrp g v).pending = s.pending := rfl

/-! ## setSlot -/

@[simp] theorem setSlot_mono (s : State) (i : Nat) (v : Slot) : (s.setSlot i v).mono = s.mono := rfl
@[simp] theorem setSlot_nonce (s : State) (i : Nat) (v : Slot) : (s.setSlot i v).nonce = s.nonce := rfl
@[simp] theorem setSlot_cur (s : State) (i : Nat) (v : Slot) : (s.setSlot i v).cur = s.cur := rfl
@[simp] theorem setSlot_boot (s : State) (i : Nat) (v : Slot) : (s.setSlot i v).boot = s.boot := rfl
@[simp] theorem setSlot_pairs (s : State) (i : Nat) (v : Slot) : (s.setSlot i v).pairs = s.pairs := rfl
@[simp] theorem setSlot_net (s : State) (i : Nat) (v : Slot) : (s.setSlot i v).net = s.net := rfl
@[simp] theorem setSlot_fcr (s : State) (i : Nat) (v : Slot) : (s.setSlot i v).fcr = s.fcr := rfl
@[simp] theorem setSlot_fns (s : State) (i : Nat) (v : Slot) : (s.setSlot i v).fns = s.fns := rfl
@[simp] theorem setSlot_staged (s : State) (i : Nat) (v : Slot) : (s.setSlot i v).staged = s.staged := rfl
@[simp] theorem setSlot_applied (s : State) (i : Nat) (v : Slot) : (s.setSlot i v).applied = s.applied := rfl
@[simp] theorem setSlot_stored (s : State) (i : Nat) (v : Slot) : (s.setSlot i v).stored = s.stored := rfl
@[simp] theorem setSlot_autoStart (s : State) (i : Nat) (v : Slot) : (s.setSlot i v).autoStart = s.autoStart := rfl
@[simp] theorem setSlot_mem (s : State) (i : Nat) (v : Slot) : (s.setSlot i v).mem = s.mem := rfl
@[simp] theorem setSlot_cse (s : State) (i : Nat) (v : Slot) : (s.setSlot i v).cse = s.cse := rfl
@[simp] theorem setSlot_lsw (s : State) (i : Nat) (v : Slot) : (s.setSlot i v).lsw = s.lsw := rfl
@[simp] theorem setSlot_planner (s : State) (i : Nat) (v : Slot) : (s.setSlot i v).planner = s.planner := rfl
@[simp] theorem setSlot_guid (s : State) (i : Nat) (v : Slot) : (s.setSlot i v).guid = s.guid := rfl
@[simp] theorem setSlot_yield (s : State) (i : Nat) (v : Slot) : (s.setSlot i v).yield = s.yield := rfl
@[simp] theorem setSlot_headwind (s : State) (i : Nat) (v : Slot) : (s.setSlot i v).headwind = s.headwind := rfl
@[simp] theorem setSlot_fus (s : State) (i : Nat) (v : Slot) : (s.setSlot i v).fus = s.fus := rfl
@[simp] theorem setSlot_cam (s : State) (i : Nat) (v : Slot) : (s.setSlot i v).cam = s.cam := rfl
@[simp] theorem setSlot_gns (s : State) (i : Nat) (v : Slot) : (s.setSlot i v).gns = s.gns := rfl
@[simp] theorem setSlot_tsu (s : State) (i : Nat) (v : Slot) : (s.setSlot i v).tsu = s.tsu := rfl
@[simp] theorem setSlot_eth (s : State) (i : Nat) (v : Slot) : (s.setSlot i v).eth = s.eth := rfl
@[simp] theorem setSlot_can (s : State) (i : Nat) (v : Slot) : (s.setSlot i v).can = s.can := rfl
@[simp] theorem setSlot_pwr (s : State) (i : Nat) (v : Slot) : (s.setSlot i v).pwr = s.pwr := rfl
@[simp] theorem setSlot_pnl (s : State) (i : Nat) (v : Slot) : (s.setSlot i v).pnl = s.pnl := rfl
@[simp] theorem setSlot_upd (s : State) (i : Nat) (v : Slot) : (s.setSlot i v).upd = s.upd := rfl
@[simp] theorem setSlot_tst (s : State) (i : Nat) (v : Slot) : (s.setSlot i v).tst = s.tst := rfl
@[simp] theorem setSlot_sent (s : State) (i : Nat) (v : Slot) : (s.setSlot i v).sent = s.sent := rfl
@[simp] theorem setSlot_pending (s : State) (i : Nat) (v : Slot) : (s.setSlot i v).pending = s.pending := rfl

/-! ## setChan -/

@[simp] theorem setChan_mono (s : State) (k : Nat) (v : Chan) : (s.setChan k v).mono = s.mono := rfl
@[simp] theorem setChan_nonce (s : State) (k : Nat) (v : Chan) : (s.setChan k v).nonce = s.nonce := rfl
@[simp] theorem setChan_cur (s : State) (k : Nat) (v : Chan) : (s.setChan k v).cur = s.cur := rfl
@[simp] theorem setChan_boot (s : State) (k : Nat) (v : Chan) : (s.setChan k v).boot = s.boot := rfl
@[simp] theorem setChan_pairs (s : State) (k : Nat) (v : Chan) : (s.setChan k v).pairs = s.pairs := rfl
@[simp] theorem setChan_net (s : State) (k : Nat) (v : Chan) : (s.setChan k v).net = s.net := rfl
@[simp] theorem setChan_fcr (s : State) (k : Nat) (v : Chan) : (s.setChan k v).fcr = s.fcr := rfl
@[simp] theorem setChan_fns (s : State) (k : Nat) (v : Chan) : (s.setChan k v).fns = s.fns := rfl
@[simp] theorem setChan_staged (s : State) (k : Nat) (v : Chan) : (s.setChan k v).staged = s.staged := rfl
@[simp] theorem setChan_applied (s : State) (k : Nat) (v : Chan) : (s.setChan k v).applied = s.applied := rfl
@[simp] theorem setChan_stored (s : State) (k : Nat) (v : Chan) : (s.setChan k v).stored = s.stored := rfl
@[simp] theorem setChan_autoStart (s : State) (k : Nat) (v : Chan) : (s.setChan k v).autoStart = s.autoStart := rfl
@[simp] theorem setChan_mem (s : State) (k : Nat) (v : Chan) : (s.setChan k v).mem = s.mem := rfl
@[simp] theorem setChan_cle (s : State) (k : Nat) (v : Chan) : (s.setChan k v).cle = s.cle := rfl
@[simp] theorem setChan_cse (s : State) (k : Nat) (v : Chan) : (s.setChan k v).cse = s.cse := rfl
@[simp] theorem setChan_planner (s : State) (k : Nat) (v : Chan) : (s.setChan k v).planner = s.planner := rfl
@[simp] theorem setChan_guid (s : State) (k : Nat) (v : Chan) : (s.setChan k v).guid = s.guid := rfl
@[simp] theorem setChan_yield (s : State) (k : Nat) (v : Chan) : (s.setChan k v).yield = s.yield := rfl
@[simp] theorem setChan_headwind (s : State) (k : Nat) (v : Chan) : (s.setChan k v).headwind = s.headwind := rfl
@[simp] theorem setChan_fus (s : State) (k : Nat) (v : Chan) : (s.setChan k v).fus = s.fus := rfl
@[simp] theorem setChan_cam (s : State) (k : Nat) (v : Chan) : (s.setChan k v).cam = s.cam := rfl
@[simp] theorem setChan_gns (s : State) (k : Nat) (v : Chan) : (s.setChan k v).gns = s.gns := rfl
@[simp] theorem setChan_tsu (s : State) (k : Nat) (v : Chan) : (s.setChan k v).tsu = s.tsu := rfl
@[simp] theorem setChan_eth (s : State) (k : Nat) (v : Chan) : (s.setChan k v).eth = s.eth := rfl
@[simp] theorem setChan_can (s : State) (k : Nat) (v : Chan) : (s.setChan k v).can = s.can := rfl
@[simp] theorem setChan_pwr (s : State) (k : Nat) (v : Chan) : (s.setChan k v).pwr = s.pwr := rfl
@[simp] theorem setChan_pnl (s : State) (k : Nat) (v : Chan) : (s.setChan k v).pnl = s.pnl := rfl
@[simp] theorem setChan_upd (s : State) (k : Nat) (v : Chan) : (s.setChan k v).upd = s.upd := rfl
@[simp] theorem setChan_tst (s : State) (k : Nat) (v : Chan) : (s.setChan k v).tst = s.tst := rfl
@[simp] theorem setChan_sent (s : State) (k : Nat) (v : Chan) : (s.setChan k v).sent = s.sent := rfl
@[simp] theorem setChan_pending (s : State) (k : Nat) (v : Chan) : (s.setChan k v).pending = s.pending := rfl

/-! ## setDie -/

@[simp] theorem setDie_mono (s : State) (d : Nat) (v : Die) : (s.setDie d v).mono = s.mono := rfl
@[simp] theorem setDie_nonce (s : State) (d : Nat) (v : Die) : (s.setDie d v).nonce = s.nonce := rfl
@[simp] theorem setDie_cur (s : State) (d : Nat) (v : Die) : (s.setDie d v).cur = s.cur := rfl
@[simp] theorem setDie_boot (s : State) (d : Nat) (v : Die) : (s.setDie d v).boot = s.boot := rfl
@[simp] theorem setDie_pairs (s : State) (d : Nat) (v : Die) : (s.setDie d v).pairs = s.pairs := rfl
@[simp] theorem setDie_net (s : State) (d : Nat) (v : Die) : (s.setDie d v).net = s.net := rfl
@[simp] theorem setDie_fcr (s : State) (d : Nat) (v : Die) : (s.setDie d v).fcr = s.fcr := rfl
@[simp] theorem setDie_fns (s : State) (d : Nat) (v : Die) : (s.setDie d v).fns = s.fns := rfl
@[simp] theorem setDie_staged (s : State) (d : Nat) (v : Die) : (s.setDie d v).staged = s.staged := rfl
@[simp] theorem setDie_applied (s : State) (d : Nat) (v : Die) : (s.setDie d v).applied = s.applied := rfl
@[simp] theorem setDie_stored (s : State) (d : Nat) (v : Die) : (s.setDie d v).stored = s.stored := rfl
@[simp] theorem setDie_autoStart (s : State) (d : Nat) (v : Die) : (s.setDie d v).autoStart = s.autoStart := rfl
@[simp] theorem setDie_mem (s : State) (d : Nat) (v : Die) : (s.setDie d v).mem = s.mem := rfl
@[simp] theorem setDie_cle (s : State) (d : Nat) (v : Die) : (s.setDie d v).cle = s.cle := rfl
@[simp] theorem setDie_cse (s : State) (d : Nat) (v : Die) : (s.setDie d v).cse = s.cse := rfl
@[simp] theorem setDie_planner (s : State) (d : Nat) (v : Die) : (s.setDie d v).planner = s.planner := rfl
@[simp] theorem setDie_guid (s : State) (d : Nat) (v : Die) : (s.setDie d v).guid = s.guid := rfl
@[simp] theorem setDie_yield (s : State) (d : Nat) (v : Die) : (s.setDie d v).yield = s.yield := rfl
@[simp] theorem setDie_headwind (s : State) (d : Nat) (v : Die) : (s.setDie d v).headwind = s.headwind := rfl
@[simp] theorem setDie_fus (s : State) (d : Nat) (v : Die) : (s.setDie d v).fus = s.fus := rfl
@[simp] theorem setDie_cam (s : State) (d : Nat) (v : Die) : (s.setDie d v).cam = s.cam := rfl
@[simp] theorem setDie_gns (s : State) (d : Nat) (v : Die) : (s.setDie d v).gns = s.gns := rfl
@[simp] theorem setDie_tsu (s : State) (d : Nat) (v : Die) : (s.setDie d v).tsu = s.tsu := rfl
@[simp] theorem setDie_eth (s : State) (d : Nat) (v : Die) : (s.setDie d v).eth = s.eth := rfl
@[simp] theorem setDie_can (s : State) (d : Nat) (v : Die) : (s.setDie d v).can = s.can := rfl
@[simp] theorem setDie_pwr (s : State) (d : Nat) (v : Die) : (s.setDie d v).pwr = s.pwr := rfl
@[simp] theorem setDie_pnl (s : State) (d : Nat) (v : Die) : (s.setDie d v).pnl = s.pnl := rfl
@[simp] theorem setDie_upd (s : State) (d : Nat) (v : Die) : (s.setDie d v).upd = s.upd := rfl
@[simp] theorem setDie_tst (s : State) (d : Nat) (v : Die) : (s.setDie d v).tst = s.tst := rfl
@[simp] theorem setDie_sent (s : State) (d : Nat) (v : Die) : (s.setDie d v).sent = s.sent := rfl
@[simp] theorem setDie_pending (s : State) (d : Nat) (v : Die) : (s.setDie d v).pending = s.pending := rfl

/-! ## setStud -/

@[simp] theorem setStud_mono (s : State) (v : Nat) (x : Stud) : (s.setStud v x).mono = s.mono := rfl
@[simp] theorem setStud_nonce (s : State) (v : Nat) (x : Stud) : (s.setStud v x).nonce = s.nonce := rfl
@[simp] theorem setStud_cur (s : State) (v : Nat) (x : Stud) : (s.setStud v x).cur = s.cur := rfl
@[simp] theorem setStud_boot (s : State) (v : Nat) (x : Stud) : (s.setStud v x).boot = s.boot := rfl
@[simp] theorem setStud_pairs (s : State) (v : Nat) (x : Stud) : (s.setStud v x).pairs = s.pairs := rfl
@[simp] theorem setStud_net (s : State) (v : Nat) (x : Stud) : (s.setStud v x).net = s.net := rfl
@[simp] theorem setStud_fcr (s : State) (v : Nat) (x : Stud) : (s.setStud v x).fcr = s.fcr := rfl
@[simp] theorem setStud_fns (s : State) (v : Nat) (x : Stud) : (s.setStud v x).fns = s.fns := rfl
@[simp] theorem setStud_staged (s : State) (v : Nat) (x : Stud) : (s.setStud v x).staged = s.staged := rfl
@[simp] theorem setStud_applied (s : State) (v : Nat) (x : Stud) : (s.setStud v x).applied = s.applied := rfl
@[simp] theorem setStud_stored (s : State) (v : Nat) (x : Stud) : (s.setStud v x).stored = s.stored := rfl
@[simp] theorem setStud_autoStart (s : State) (v : Nat) (x : Stud) : (s.setStud v x).autoStart = s.autoStart := rfl
@[simp] theorem setStud_mem (s : State) (v : Nat) (x : Stud) : (s.setStud v x).mem = s.mem := rfl
@[simp] theorem setStud_cle (s : State) (v : Nat) (x : Stud) : (s.setStud v x).cle = s.cle := rfl
@[simp] theorem setStud_cse (s : State) (v : Nat) (x : Stud) : (s.setStud v x).cse = s.cse := rfl
@[simp] theorem setStud_planner (s : State) (v : Nat) (x : Stud) : (s.setStud v x).planner = s.planner := rfl
@[simp] theorem setStud_guid (s : State) (v : Nat) (x : Stud) : (s.setStud v x).guid = s.guid := rfl
@[simp] theorem setStud_yield (s : State) (v : Nat) (x : Stud) : (s.setStud v x).yield = s.yield := rfl
@[simp] theorem setStud_headwind (s : State) (v : Nat) (x : Stud) : (s.setStud v x).headwind = s.headwind := rfl
@[simp] theorem setStud_fus (s : State) (v : Nat) (x : Stud) : (s.setStud v x).fus = s.fus := rfl
@[simp] theorem setStud_cam (s : State) (v : Nat) (x : Stud) : (s.setStud v x).cam = s.cam := rfl
@[simp] theorem setStud_gns (s : State) (v : Nat) (x : Stud) : (s.setStud v x).gns = s.gns := rfl
@[simp] theorem setStud_tsu (s : State) (v : Nat) (x : Stud) : (s.setStud v x).tsu = s.tsu := rfl
@[simp] theorem setStud_eth (s : State) (v : Nat) (x : Stud) : (s.setStud v x).eth = s.eth := rfl
@[simp] theorem setStud_can (s : State) (v : Nat) (x : Stud) : (s.setStud v x).can = s.can := rfl
@[simp] theorem setStud_pwr (s : State) (v : Nat) (x : Stud) : (s.setStud v x).pwr = s.pwr := rfl
@[simp] theorem setStud_pnl (s : State) (v : Nat) (x : Stud) : (s.setStud v x).pnl = s.pnl := rfl
@[simp] theorem setStud_upd (s : State) (v : Nat) (x : Stud) : (s.setStud v x).upd = s.upd := rfl
@[simp] theorem setStud_tst (s : State) (v : Nat) (x : Stud) : (s.setStud v x).tst = s.tst := rfl
@[simp] theorem setStud_sent (s : State) (v : Nat) (x : Stud) : (s.setStud v x).sent = s.sent := rfl
@[simp] theorem setStud_pending (s : State) (v : Nat) (x : Stud) : (s.setStud v x).pending = s.pending := rfl

/-! ## setDom -/

@[simp] theorem setDom_mono (s : State) (d : Nat) (v : Domain) : (s.setDom d v).mono = s.mono := rfl
@[simp] theorem setDom_nonce (s : State) (d : Nat) (v : Domain) : (s.setDom d v).nonce = s.nonce := rfl
@[simp] theorem setDom_cur (s : State) (d : Nat) (v : Domain) : (s.setDom d v).cur = s.cur := rfl
@[simp] theorem setDom_boot (s : State) (d : Nat) (v : Domain) : (s.setDom d v).boot = s.boot := rfl
@[simp] theorem setDom_pairs (s : State) (d : Nat) (v : Domain) : (s.setDom d v).pairs = s.pairs := rfl
@[simp] theorem setDom_net (s : State) (d : Nat) (v : Domain) : (s.setDom d v).net = s.net := rfl
@[simp] theorem setDom_fcr (s : State) (d : Nat) (v : Domain) : (s.setDom d v).fcr = s.fcr := rfl
@[simp] theorem setDom_fns (s : State) (d : Nat) (v : Domain) : (s.setDom d v).fns = s.fns := rfl
@[simp] theorem setDom_staged (s : State) (d : Nat) (v : Domain) : (s.setDom d v).staged = s.staged := rfl
@[simp] theorem setDom_applied (s : State) (d : Nat) (v : Domain) : (s.setDom d v).applied = s.applied := rfl
@[simp] theorem setDom_stored (s : State) (d : Nat) (v : Domain) : (s.setDom d v).stored = s.stored := rfl
@[simp] theorem setDom_autoStart (s : State) (d : Nat) (v : Domain) : (s.setDom d v).autoStart = s.autoStart := rfl
@[simp] theorem setDom_mem (s : State) (d : Nat) (v : Domain) : (s.setDom d v).mem = s.mem := rfl
@[simp] theorem setDom_cle (s : State) (d : Nat) (v : Domain) : (s.setDom d v).cle = s.cle := rfl
@[simp] theorem setDom_cse (s : State) (d : Nat) (v : Domain) : (s.setDom d v).cse = s.cse := rfl
@[simp] theorem setDom_lsw (s : State) (d : Nat) (v : Domain) : (s.setDom d v).lsw = s.lsw := rfl
@[simp] theorem setDom_planner (s : State) (d : Nat) (v : Domain) : (s.setDom d v).planner = s.planner := rfl
@[simp] theorem setDom_guid (s : State) (d : Nat) (v : Domain) : (s.setDom d v).guid = s.guid := rfl
@[simp] theorem setDom_yield (s : State) (d : Nat) (v : Domain) : (s.setDom d v).yield = s.yield := rfl
@[simp] theorem setDom_headwind (s : State) (d : Nat) (v : Domain) : (s.setDom d v).headwind = s.headwind := rfl
@[simp] theorem setDom_fus (s : State) (d : Nat) (v : Domain) : (s.setDom d v).fus = s.fus := rfl
@[simp] theorem setDom_cam (s : State) (d : Nat) (v : Domain) : (s.setDom d v).cam = s.cam := rfl
@[simp] theorem setDom_gns (s : State) (d : Nat) (v : Domain) : (s.setDom d v).gns = s.gns := rfl
@[simp] theorem setDom_eth (s : State) (d : Nat) (v : Domain) : (s.setDom d v).eth = s.eth := rfl
@[simp] theorem setDom_can (s : State) (d : Nat) (v : Domain) : (s.setDom d v).can = s.can := rfl
@[simp] theorem setDom_pwr (s : State) (d : Nat) (v : Domain) : (s.setDom d v).pwr = s.pwr := rfl
@[simp] theorem setDom_pnl (s : State) (d : Nat) (v : Domain) : (s.setDom d v).pnl = s.pnl := rfl
@[simp] theorem setDom_upd (s : State) (d : Nat) (v : Domain) : (s.setDom d v).upd = s.upd := rfl
@[simp] theorem setDom_tst (s : State) (d : Nat) (v : Domain) : (s.setDom d v).tst = s.tst := rfl
@[simp] theorem setDom_sent (s : State) (d : Nat) (v : Domain) : (s.setDom d v).sent = s.sent := rfl
@[simp] theorem setDom_pending (s : State) (d : Nat) (v : Domain) : (s.setDom d v).pending = s.pending := rfl

/-! ## setPort -/

@[simp] theorem setPort_mono (s : State) (p : Nat) (v : Port) : (s.setPort p v).mono = s.mono := rfl
@[simp] theorem setPort_nonce (s : State) (p : Nat) (v : Port) : (s.setPort p v).nonce = s.nonce := rfl
@[simp] theorem setPort_cur (s : State) (p : Nat) (v : Port) : (s.setPort p v).cur = s.cur := rfl
@[simp] theorem setPort_boot (s : State) (p : Nat) (v : Port) : (s.setPort p v).boot = s.boot := rfl
@[simp] theorem setPort_pairs (s : State) (p : Nat) (v : Port) : (s.setPort p v).pairs = s.pairs := rfl
@[simp] theorem setPort_net (s : State) (p : Nat) (v : Port) : (s.setPort p v).net = s.net := rfl
@[simp] theorem setPort_fcr (s : State) (p : Nat) (v : Port) : (s.setPort p v).fcr = s.fcr := rfl
@[simp] theorem setPort_fns (s : State) (p : Nat) (v : Port) : (s.setPort p v).fns = s.fns := rfl
@[simp] theorem setPort_staged (s : State) (p : Nat) (v : Port) : (s.setPort p v).staged = s.staged := rfl
@[simp] theorem setPort_applied (s : State) (p : Nat) (v : Port) : (s.setPort p v).applied = s.applied := rfl
@[simp] theorem setPort_stored (s : State) (p : Nat) (v : Port) : (s.setPort p v).stored = s.stored := rfl
@[simp] theorem setPort_autoStart (s : State) (p : Nat) (v : Port) : (s.setPort p v).autoStart = s.autoStart := rfl
@[simp] theorem setPort_mem (s : State) (p : Nat) (v : Port) : (s.setPort p v).mem = s.mem := rfl
@[simp] theorem setPort_cle (s : State) (p : Nat) (v : Port) : (s.setPort p v).cle = s.cle := rfl
@[simp] theorem setPort_cse (s : State) (p : Nat) (v : Port) : (s.setPort p v).cse = s.cse := rfl
@[simp] theorem setPort_lsw (s : State) (p : Nat) (v : Port) : (s.setPort p v).lsw = s.lsw := rfl
@[simp] theorem setPort_planner (s : State) (p : Nat) (v : Port) : (s.setPort p v).planner = s.planner := rfl
@[simp] theorem setPort_guid (s : State) (p : Nat) (v : Port) : (s.setPort p v).guid = s.guid := rfl
@[simp] theorem setPort_yield (s : State) (p : Nat) (v : Port) : (s.setPort p v).yield = s.yield := rfl
@[simp] theorem setPort_headwind (s : State) (p : Nat) (v : Port) : (s.setPort p v).headwind = s.headwind := rfl
@[simp] theorem setPort_fus (s : State) (p : Nat) (v : Port) : (s.setPort p v).fus = s.fus := rfl
@[simp] theorem setPort_cam (s : State) (p : Nat) (v : Port) : (s.setPort p v).cam = s.cam := rfl
@[simp] theorem setPort_gns (s : State) (p : Nat) (v : Port) : (s.setPort p v).gns = s.gns := rfl
@[simp] theorem setPort_tsu (s : State) (p : Nat) (v : Port) : (s.setPort p v).tsu = s.tsu := rfl
@[simp] theorem setPort_can (s : State) (p : Nat) (v : Port) : (s.setPort p v).can = s.can := rfl
@[simp] theorem setPort_pwr (s : State) (p : Nat) (v : Port) : (s.setPort p v).pwr = s.pwr := rfl
@[simp] theorem setPort_pnl (s : State) (p : Nat) (v : Port) : (s.setPort p v).pnl = s.pnl := rfl
@[simp] theorem setPort_upd (s : State) (p : Nat) (v : Port) : (s.setPort p v).upd = s.upd := rfl
@[simp] theorem setPort_tst (s : State) (p : Nat) (v : Port) : (s.setPort p v).tst = s.tst := rfl
@[simp] theorem setPort_sent (s : State) (p : Nat) (v : Port) : (s.setPort p v).sent = s.sent := rfl
@[simp] theorem setPort_pending (s : State) (p : Nat) (v : Port) : (s.setPort p v).pending = s.pending := rfl

/-! ## setCan -/

@[simp] theorem setCan_mono (s : State) (k : Nat) (v : Can) : (s.setCan k v).mono = s.mono := rfl
@[simp] theorem setCan_nonce (s : State) (k : Nat) (v : Can) : (s.setCan k v).nonce = s.nonce := rfl
@[simp] theorem setCan_cur (s : State) (k : Nat) (v : Can) : (s.setCan k v).cur = s.cur := rfl
@[simp] theorem setCan_boot (s : State) (k : Nat) (v : Can) : (s.setCan k v).boot = s.boot := rfl
@[simp] theorem setCan_pairs (s : State) (k : Nat) (v : Can) : (s.setCan k v).pairs = s.pairs := rfl
@[simp] theorem setCan_net (s : State) (k : Nat) (v : Can) : (s.setCan k v).net = s.net := rfl
@[simp] theorem setCan_fcr (s : State) (k : Nat) (v : Can) : (s.setCan k v).fcr = s.fcr := rfl
@[simp] theorem setCan_fns (s : State) (k : Nat) (v : Can) : (s.setCan k v).fns = s.fns := rfl
@[simp] theorem setCan_staged (s : State) (k : Nat) (v : Can) : (s.setCan k v).staged = s.staged := rfl
@[simp] theorem setCan_applied (s : State) (k : Nat) (v : Can) : (s.setCan k v).applied = s.applied := rfl
@[simp] theorem setCan_stored (s : State) (k : Nat) (v : Can) : (s.setCan k v).stored = s.stored := rfl
@[simp] theorem setCan_autoStart (s : State) (k : Nat) (v : Can) : (s.setCan k v).autoStart = s.autoStart := rfl
@[simp] theorem setCan_mem (s : State) (k : Nat) (v : Can) : (s.setCan k v).mem = s.mem := rfl
@[simp] theorem setCan_cle (s : State) (k : Nat) (v : Can) : (s.setCan k v).cle = s.cle := rfl
@[simp] theorem setCan_cse (s : State) (k : Nat) (v : Can) : (s.setCan k v).cse = s.cse := rfl
@[simp] theorem setCan_lsw (s : State) (k : Nat) (v : Can) : (s.setCan k v).lsw = s.lsw := rfl
@[simp] theorem setCan_planner (s : State) (k : Nat) (v : Can) : (s.setCan k v).planner = s.planner := rfl
@[simp] theorem setCan_guid (s : State) (k : Nat) (v : Can) : (s.setCan k v).guid = s.guid := rfl
@[simp] theorem setCan_yield (s : State) (k : Nat) (v : Can) : (s.setCan k v).yield = s.yield := rfl
@[simp] theorem setCan_headwind (s : State) (k : Nat) (v : Can) : (s.setCan k v).headwind = s.headwind := rfl
@[simp] theorem setCan_fus (s : State) (k : Nat) (v : Can) : (s.setCan k v).fus = s.fus := rfl
@[simp] theorem setCan_cam (s : State) (k : Nat) (v : Can) : (s.setCan k v).cam = s.cam := rfl
@[simp] theorem setCan_gns (s : State) (k : Nat) (v : Can) : (s.setCan k v).gns = s.gns := rfl
@[simp] theorem setCan_tsu (s : State) (k : Nat) (v : Can) : (s.setCan k v).tsu = s.tsu := rfl
@[simp] theorem setCan_eth (s : State) (k : Nat) (v : Can) : (s.setCan k v).eth = s.eth := rfl
@[simp] theorem setCan_pwr (s : State) (k : Nat) (v : Can) : (s.setCan k v).pwr = s.pwr := rfl
@[simp] theorem setCan_pnl (s : State) (k : Nat) (v : Can) : (s.setCan k v).pnl = s.pnl := rfl
@[simp] theorem setCan_upd (s : State) (k : Nat) (v : Can) : (s.setCan k v).upd = s.upd := rfl
@[simp] theorem setCan_tst (s : State) (k : Nat) (v : Can) : (s.setCan k v).tst = s.tst := rfl
@[simp] theorem setCan_sent (s : State) (k : Nat) (v : Can) : (s.setCan k v).sent = s.sent := rfl
@[simp] theorem setCan_pending (s : State) (k : Nat) (v : Can) : (s.setCan k v).pending = s.pending := rfl

/-! ## setStg -/

@[simp] theorem setStg_mono (s : State) (o : Obj) (b : Bytes) : (s.setStg o b).mono = s.mono := rfl
@[simp] theorem setStg_nonce (s : State) (o : Obj) (b : Bytes) : (s.setStg o b).nonce = s.nonce := rfl
@[simp] theorem setStg_cur (s : State) (o : Obj) (b : Bytes) : (s.setStg o b).cur = s.cur := rfl
@[simp] theorem setStg_boot (s : State) (o : Obj) (b : Bytes) : (s.setStg o b).boot = s.boot := rfl
@[simp] theorem setStg_pairs (s : State) (o : Obj) (b : Bytes) : (s.setStg o b).pairs = s.pairs := rfl
@[simp] theorem setStg_net (s : State) (o : Obj) (b : Bytes) : (s.setStg o b).net = s.net := rfl
@[simp] theorem setStg_fcr (s : State) (o : Obj) (b : Bytes) : (s.setStg o b).fcr = s.fcr := rfl
@[simp] theorem setStg_fns (s : State) (o : Obj) (b : Bytes) : (s.setStg o b).fns = s.fns := rfl
@[simp] theorem setStg_applied (s : State) (o : Obj) (b : Bytes) : (s.setStg o b).applied = s.applied := rfl
@[simp] theorem setStg_stored (s : State) (o : Obj) (b : Bytes) : (s.setStg o b).stored = s.stored := rfl
@[simp] theorem setStg_autoStart (s : State) (o : Obj) (b : Bytes) : (s.setStg o b).autoStart = s.autoStart := rfl
@[simp] theorem setStg_mem (s : State) (o : Obj) (b : Bytes) : (s.setStg o b).mem = s.mem := rfl
@[simp] theorem setStg_cle (s : State) (o : Obj) (b : Bytes) : (s.setStg o b).cle = s.cle := rfl
@[simp] theorem setStg_cse (s : State) (o : Obj) (b : Bytes) : (s.setStg o b).cse = s.cse := rfl
@[simp] theorem setStg_lsw (s : State) (o : Obj) (b : Bytes) : (s.setStg o b).lsw = s.lsw := rfl
@[simp] theorem setStg_planner (s : State) (o : Obj) (b : Bytes) : (s.setStg o b).planner = s.planner := rfl
@[simp] theorem setStg_guid (s : State) (o : Obj) (b : Bytes) : (s.setStg o b).guid = s.guid := rfl
@[simp] theorem setStg_yield (s : State) (o : Obj) (b : Bytes) : (s.setStg o b).yield = s.yield := rfl
@[simp] theorem setStg_headwind (s : State) (o : Obj) (b : Bytes) : (s.setStg o b).headwind = s.headwind := rfl
@[simp] theorem setStg_fus (s : State) (o : Obj) (b : Bytes) : (s.setStg o b).fus = s.fus := rfl
@[simp] theorem setStg_cam (s : State) (o : Obj) (b : Bytes) : (s.setStg o b).cam = s.cam := rfl
@[simp] theorem setStg_gns (s : State) (o : Obj) (b : Bytes) : (s.setStg o b).gns = s.gns := rfl
@[simp] theorem setStg_tsu (s : State) (o : Obj) (b : Bytes) : (s.setStg o b).tsu = s.tsu := rfl
@[simp] theorem setStg_eth (s : State) (o : Obj) (b : Bytes) : (s.setStg o b).eth = s.eth := rfl
@[simp] theorem setStg_can (s : State) (o : Obj) (b : Bytes) : (s.setStg o b).can = s.can := rfl
@[simp] theorem setStg_pwr (s : State) (o : Obj) (b : Bytes) : (s.setStg o b).pwr = s.pwr := rfl
@[simp] theorem setStg_pnl (s : State) (o : Obj) (b : Bytes) : (s.setStg o b).pnl = s.pnl := rfl
@[simp] theorem setStg_upd (s : State) (o : Obj) (b : Bytes) : (s.setStg o b).upd = s.upd := rfl
@[simp] theorem setStg_tst (s : State) (o : Obj) (b : Bytes) : (s.setStg o b).tst = s.tst := rfl
@[simp] theorem setStg_sent (s : State) (o : Obj) (b : Bytes) : (s.setStg o b).sent = s.sent := rfl
@[simp] theorem setStg_pending (s : State) (o : Obj) (b : Bytes) : (s.setStg o b).pending = s.pending := rfl

/-! ## setApp -/

@[simp] theorem setApp_mono (s : State) (o : Obj) (b : Bytes) : (s.setApp o b).mono = s.mono := rfl
@[simp] theorem setApp_nonce (s : State) (o : Obj) (b : Bytes) : (s.setApp o b).nonce = s.nonce := rfl
@[simp] theorem setApp_cur (s : State) (o : Obj) (b : Bytes) : (s.setApp o b).cur = s.cur := rfl
@[simp] theorem setApp_boot (s : State) (o : Obj) (b : Bytes) : (s.setApp o b).boot = s.boot := rfl
@[simp] theorem setApp_pairs (s : State) (o : Obj) (b : Bytes) : (s.setApp o b).pairs = s.pairs := rfl
@[simp] theorem setApp_net (s : State) (o : Obj) (b : Bytes) : (s.setApp o b).net = s.net := rfl
@[simp] theorem setApp_fcr (s : State) (o : Obj) (b : Bytes) : (s.setApp o b).fcr = s.fcr := rfl
@[simp] theorem setApp_fns (s : State) (o : Obj) (b : Bytes) : (s.setApp o b).fns = s.fns := rfl
@[simp] theorem setApp_staged (s : State) (o : Obj) (b : Bytes) : (s.setApp o b).staged = s.staged := rfl
@[simp] theorem setApp_stored (s : State) (o : Obj) (b : Bytes) : (s.setApp o b).stored = s.stored := rfl
@[simp] theorem setApp_autoStart (s : State) (o : Obj) (b : Bytes) : (s.setApp o b).autoStart = s.autoStart := rfl
@[simp] theorem setApp_mem (s : State) (o : Obj) (b : Bytes) : (s.setApp o b).mem = s.mem := rfl
@[simp] theorem setApp_cle (s : State) (o : Obj) (b : Bytes) : (s.setApp o b).cle = s.cle := rfl
@[simp] theorem setApp_cse (s : State) (o : Obj) (b : Bytes) : (s.setApp o b).cse = s.cse := rfl
@[simp] theorem setApp_lsw (s : State) (o : Obj) (b : Bytes) : (s.setApp o b).lsw = s.lsw := rfl
@[simp] theorem setApp_planner (s : State) (o : Obj) (b : Bytes) : (s.setApp o b).planner = s.planner := rfl
@[simp] theorem setApp_guid (s : State) (o : Obj) (b : Bytes) : (s.setApp o b).guid = s.guid := rfl
@[simp] theorem setApp_yield (s : State) (o : Obj) (b : Bytes) : (s.setApp o b).yield = s.yield := rfl
@[simp] theorem setApp_headwind (s : State) (o : Obj) (b : Bytes) : (s.setApp o b).headwind = s.headwind := rfl
@[simp] theorem setApp_fus (s : State) (o : Obj) (b : Bytes) : (s.setApp o b).fus = s.fus := rfl
@[simp] theorem setApp_cam (s : State) (o : Obj) (b : Bytes) : (s.setApp o b).cam = s.cam := rfl
@[simp] theorem setApp_gns (s : State) (o : Obj) (b : Bytes) : (s.setApp o b).gns = s.gns := rfl
@[simp] theorem setApp_tsu (s : State) (o : Obj) (b : Bytes) : (s.setApp o b).tsu = s.tsu := rfl
@[simp] theorem setApp_eth (s : State) (o : Obj) (b : Bytes) : (s.setApp o b).eth = s.eth := rfl
@[simp] theorem setApp_can (s : State) (o : Obj) (b : Bytes) : (s.setApp o b).can = s.can := rfl
@[simp] theorem setApp_pwr (s : State) (o : Obj) (b : Bytes) : (s.setApp o b).pwr = s.pwr := rfl
@[simp] theorem setApp_pnl (s : State) (o : Obj) (b : Bytes) : (s.setApp o b).pnl = s.pnl := rfl
@[simp] theorem setApp_upd (s : State) (o : Obj) (b : Bytes) : (s.setApp o b).upd = s.upd := rfl
@[simp] theorem setApp_tst (s : State) (o : Obj) (b : Bytes) : (s.setApp o b).tst = s.tst := rfl
@[simp] theorem setApp_sent (s : State) (o : Obj) (b : Bytes) : (s.setApp o b).sent = s.sent := rfl
@[simp] theorem setApp_pending (s : State) (o : Obj) (b : Bytes) : (s.setApp o b).pending = s.pending := rfl

/-! ## setCv -/

@[simp] theorem setCv_mono (s : State) (j : Nat) (v : CvSt) : (s.setCv j v).mono = s.mono := rfl
@[simp] theorem setCv_nonce (s : State) (j : Nat) (v : CvSt) : (s.setCv j v).nonce = s.nonce := rfl
@[simp] theorem setCv_cur (s : State) (j : Nat) (v : CvSt) : (s.setCv j v).cur = s.cur := rfl
@[simp] theorem setCv_boot (s : State) (j : Nat) (v : CvSt) : (s.setCv j v).boot = s.boot := rfl
@[simp] theorem setCv_pairs (s : State) (j : Nat) (v : CvSt) : (s.setCv j v).pairs = s.pairs := rfl
@[simp] theorem setCv_net (s : State) (j : Nat) (v : CvSt) : (s.setCv j v).net = s.net := rfl
@[simp] theorem setCv_fcr (s : State) (j : Nat) (v : CvSt) : (s.setCv j v).fcr = s.fcr := rfl
@[simp] theorem setCv_fns (s : State) (j : Nat) (v : CvSt) : (s.setCv j v).fns = s.fns := rfl
@[simp] theorem setCv_staged (s : State) (j : Nat) (v : CvSt) : (s.setCv j v).staged = s.staged := rfl
@[simp] theorem setCv_applied (s : State) (j : Nat) (v : CvSt) : (s.setCv j v).applied = s.applied := rfl
@[simp] theorem setCv_stored (s : State) (j : Nat) (v : CvSt) : (s.setCv j v).stored = s.stored := rfl
@[simp] theorem setCv_autoStart (s : State) (j : Nat) (v : CvSt) : (s.setCv j v).autoStart = s.autoStart := rfl
@[simp] theorem setCv_mem (s : State) (j : Nat) (v : CvSt) : (s.setCv j v).mem = s.mem := rfl
@[simp] theorem setCv_cle (s : State) (j : Nat) (v : CvSt) : (s.setCv j v).cle = s.cle := rfl
@[simp] theorem setCv_cse (s : State) (j : Nat) (v : CvSt) : (s.setCv j v).cse = s.cse := rfl
@[simp] theorem setCv_lsw (s : State) (j : Nat) (v : CvSt) : (s.setCv j v).lsw = s.lsw := rfl
@[simp] theorem setCv_guid (s : State) (j : Nat) (v : CvSt) : (s.setCv j v).guid = s.guid := rfl
@[simp] theorem setCv_yield (s : State) (j : Nat) (v : CvSt) : (s.setCv j v).yield = s.yield := rfl
@[simp] theorem setCv_headwind (s : State) (j : Nat) (v : CvSt) : (s.setCv j v).headwind = s.headwind := rfl
@[simp] theorem setCv_fus (s : State) (j : Nat) (v : CvSt) : (s.setCv j v).fus = s.fus := rfl
@[simp] theorem setCv_cam (s : State) (j : Nat) (v : CvSt) : (s.setCv j v).cam = s.cam := rfl
@[simp] theorem setCv_gns (s : State) (j : Nat) (v : CvSt) : (s.setCv j v).gns = s.gns := rfl
@[simp] theorem setCv_tsu (s : State) (j : Nat) (v : CvSt) : (s.setCv j v).tsu = s.tsu := rfl
@[simp] theorem setCv_eth (s : State) (j : Nat) (v : CvSt) : (s.setCv j v).eth = s.eth := rfl
@[simp] theorem setCv_can (s : State) (j : Nat) (v : CvSt) : (s.setCv j v).can = s.can := rfl
@[simp] theorem setCv_pwr (s : State) (j : Nat) (v : CvSt) : (s.setCv j v).pwr = s.pwr := rfl
@[simp] theorem setCv_pnl (s : State) (j : Nat) (v : CvSt) : (s.setCv j v).pnl = s.pnl := rfl
@[simp] theorem setCv_upd (s : State) (j : Nat) (v : CvSt) : (s.setCv j v).upd = s.upd := rfl
@[simp] theorem setCv_tst (s : State) (j : Nat) (v : CvSt) : (s.setCv j v).tst = s.tst := rfl
@[simp] theorem setCv_sent (s : State) (j : Nat) (v : CvSt) : (s.setCv j v).sent = s.sent := rfl
@[simp] theorem setCv_pending (s : State) (j : Nat) (v : CvSt) : (s.setCv j v).pending = s.pending := rfl

/-! ## setPwr -/

@[simp] theorem setPwr_mono (s : State) (p : Pwr) : (s.setPwr p).mono = s.mono := rfl
@[simp] theorem setPwr_nonce (s : State) (p : Pwr) : (s.setPwr p).nonce = s.nonce := rfl
@[simp] theorem setPwr_cur (s : State) (p : Pwr) : (s.setPwr p).cur = s.cur := rfl
@[simp] theorem setPwr_boot (s : State) (p : Pwr) : (s.setPwr p).boot = s.boot := rfl
@[simp] theorem setPwr_pairs (s : State) (p : Pwr) : (s.setPwr p).pairs = s.pairs := rfl
@[simp] theorem setPwr_net (s : State) (p : Pwr) : (s.setPwr p).net = s.net := rfl
@[simp] theorem setPwr_fcr (s : State) (p : Pwr) : (s.setPwr p).fcr = s.fcr := rfl
@[simp] theorem setPwr_fns (s : State) (p : Pwr) : (s.setPwr p).fns = s.fns := rfl
@[simp] theorem setPwr_staged (s : State) (p : Pwr) : (s.setPwr p).staged = s.staged := rfl
@[simp] theorem setPwr_applied (s : State) (p : Pwr) : (s.setPwr p).applied = s.applied := rfl
@[simp] theorem setPwr_stored (s : State) (p : Pwr) : (s.setPwr p).stored = s.stored := rfl
@[simp] theorem setPwr_autoStart (s : State) (p : Pwr) : (s.setPwr p).autoStart = s.autoStart := rfl
@[simp] theorem setPwr_mem (s : State) (p : Pwr) : (s.setPwr p).mem = s.mem := rfl
@[simp] theorem setPwr_cle (s : State) (p : Pwr) : (s.setPwr p).cle = s.cle := rfl
@[simp] theorem setPwr_cse (s : State) (p : Pwr) : (s.setPwr p).cse = s.cse := rfl
@[simp] theorem setPwr_lsw (s : State) (p : Pwr) : (s.setPwr p).lsw = s.lsw := rfl
@[simp] theorem setPwr_planner (s : State) (p : Pwr) : (s.setPwr p).planner = s.planner := rfl
@[simp] theorem setPwr_guid (s : State) (p : Pwr) : (s.setPwr p).guid = s.guid := rfl
@[simp] theorem setPwr_yield (s : State) (p : Pwr) : (s.setPwr p).yield = s.yield := rfl
@[simp] theorem setPwr_headwind (s : State) (p : Pwr) : (s.setPwr p).headwind = s.headwind := rfl
@[simp] theorem setPwr_fus (s : State) (p : Pwr) : (s.setPwr p).fus = s.fus := rfl
@[simp] theorem setPwr_cam (s : State) (p : Pwr) : (s.setPwr p).cam = s.cam := rfl
@[simp] theorem setPwr_gns (s : State) (p : Pwr) : (s.setPwr p).gns = s.gns := rfl
@[simp] theorem setPwr_tsu (s : State) (p : Pwr) : (s.setPwr p).tsu = s.tsu := rfl
@[simp] theorem setPwr_eth (s : State) (p : Pwr) : (s.setPwr p).eth = s.eth := rfl
@[simp] theorem setPwr_can (s : State) (p : Pwr) : (s.setPwr p).can = s.can := rfl
@[simp] theorem setPwr_pnl (s : State) (p : Pwr) : (s.setPwr p).pnl = s.pnl := rfl
@[simp] theorem setPwr_upd (s : State) (p : Pwr) : (s.setPwr p).upd = s.upd := rfl
@[simp] theorem setPwr_tst (s : State) (p : Pwr) : (s.setPwr p).tst = s.tst := rfl
@[simp] theorem setPwr_sent (s : State) (p : Pwr) : (s.setPwr p).sent = s.sent := rfl
@[simp] theorem setPwr_pending (s : State) (p : Pwr) : (s.setPwr p).pending = s.pending := rfl

/-! ## setImp -/

@[simp] theorem setImp_mono (s : State) (k : Nat) (v : Imp) : (s.setImp k v).mono = s.mono := rfl
@[simp] theorem setImp_nonce (s : State) (k : Nat) (v : Imp) : (s.setImp k v).nonce = s.nonce := rfl
@[simp] theorem setImp_cur (s : State) (k : Nat) (v : Imp) : (s.setImp k v).cur = s.cur := rfl
@[simp] theorem setImp_boot (s : State) (k : Nat) (v : Imp) : (s.setImp k v).boot = s.boot := rfl
@[simp] theorem setImp_pairs (s : State) (k : Nat) (v : Imp) : (s.setImp k v).pairs = s.pairs := rfl
@[simp] theorem setImp_net (s : State) (k : Nat) (v : Imp) : (s.setImp k v).net = s.net := rfl
@[simp] theorem setImp_fcr (s : State) (k : Nat) (v : Imp) : (s.setImp k v).fcr = s.fcr := rfl
@[simp] theorem setImp_fns (s : State) (k : Nat) (v : Imp) : (s.setImp k v).fns = s.fns := rfl
@[simp] theorem setImp_staged (s : State) (k : Nat) (v : Imp) : (s.setImp k v).staged = s.staged := rfl
@[simp] theorem setImp_applied (s : State) (k : Nat) (v : Imp) : (s.setImp k v).applied = s.applied := rfl
@[simp] theorem setImp_stored (s : State) (k : Nat) (v : Imp) : (s.setImp k v).stored = s.stored := rfl
@[simp] theorem setImp_autoStart (s : State) (k : Nat) (v : Imp) : (s.setImp k v).autoStart = s.autoStart := rfl
@[simp] theorem setImp_mem (s : State) (k : Nat) (v : Imp) : (s.setImp k v).mem = s.mem := rfl
@[simp] theorem setImp_cle (s : State) (k : Nat) (v : Imp) : (s.setImp k v).cle = s.cle := rfl
@[simp] theorem setImp_lsw (s : State) (k : Nat) (v : Imp) : (s.setImp k v).lsw = s.lsw := rfl
@[simp] theorem setImp_planner (s : State) (k : Nat) (v : Imp) : (s.setImp k v).planner = s.planner := rfl
@[simp] theorem setImp_guid (s : State) (k : Nat) (v : Imp) : (s.setImp k v).guid = s.guid := rfl
@[simp] theorem setImp_yield (s : State) (k : Nat) (v : Imp) : (s.setImp k v).yield = s.yield := rfl
@[simp] theorem setImp_headwind (s : State) (k : Nat) (v : Imp) : (s.setImp k v).headwind = s.headwind := rfl
@[simp] theorem setImp_fus (s : State) (k : Nat) (v : Imp) : (s.setImp k v).fus = s.fus := rfl
@[simp] theorem setImp_cam (s : State) (k : Nat) (v : Imp) : (s.setImp k v).cam = s.cam := rfl
@[simp] theorem setImp_gns (s : State) (k : Nat) (v : Imp) : (s.setImp k v).gns = s.gns := rfl
@[simp] theorem setImp_tsu (s : State) (k : Nat) (v : Imp) : (s.setImp k v).tsu = s.tsu := rfl
@[simp] theorem setImp_eth (s : State) (k : Nat) (v : Imp) : (s.setImp k v).eth = s.eth := rfl
@[simp] theorem setImp_can (s : State) (k : Nat) (v : Imp) : (s.setImp k v).can = s.can := rfl
@[simp] theorem setImp_pwr (s : State) (k : Nat) (v : Imp) : (s.setImp k v).pwr = s.pwr := rfl
@[simp] theorem setImp_pnl (s : State) (k : Nat) (v : Imp) : (s.setImp k v).pnl = s.pnl := rfl
@[simp] theorem setImp_upd (s : State) (k : Nat) (v : Imp) : (s.setImp k v).upd = s.upd := rfl
@[simp] theorem setImp_tst (s : State) (k : Nat) (v : Imp) : (s.setImp k v).tst = s.tst := rfl
@[simp] theorem setImp_sent (s : State) (k : Nat) (v : Imp) : (s.setImp k v).sent = s.sent := rfl
@[simp] theorem setImp_pending (s : State) (k : Nat) (v : Imp) : (s.setImp k v).pending = s.pending := rfl

/-! ## setAin -/

@[simp] theorem setAin_mono (s : State) (k : Nat) (v : Ain) : (s.setAin k v).mono = s.mono := rfl
@[simp] theorem setAin_nonce (s : State) (k : Nat) (v : Ain) : (s.setAin k v).nonce = s.nonce := rfl
@[simp] theorem setAin_cur (s : State) (k : Nat) (v : Ain) : (s.setAin k v).cur = s.cur := rfl
@[simp] theorem setAin_boot (s : State) (k : Nat) (v : Ain) : (s.setAin k v).boot = s.boot := rfl
@[simp] theorem setAin_pairs (s : State) (k : Nat) (v : Ain) : (s.setAin k v).pairs = s.pairs := rfl
@[simp] theorem setAin_net (s : State) (k : Nat) (v : Ain) : (s.setAin k v).net = s.net := rfl
@[simp] theorem setAin_fcr (s : State) (k : Nat) (v : Ain) : (s.setAin k v).fcr = s.fcr := rfl
@[simp] theorem setAin_fns (s : State) (k : Nat) (v : Ain) : (s.setAin k v).fns = s.fns := rfl
@[simp] theorem setAin_staged (s : State) (k : Nat) (v : Ain) : (s.setAin k v).staged = s.staged := rfl
@[simp] theorem setAin_applied (s : State) (k : Nat) (v : Ain) : (s.setAin k v).applied = s.applied := rfl
@[simp] theorem setAin_stored (s : State) (k : Nat) (v : Ain) : (s.setAin k v).stored = s.stored := rfl
@[simp] theorem setAin_autoStart (s : State) (k : Nat) (v : Ain) : (s.setAin k v).autoStart = s.autoStart := rfl
@[simp] theorem setAin_mem (s : State) (k : Nat) (v : Ain) : (s.setAin k v).mem = s.mem := rfl
@[simp] theorem setAin_cle (s : State) (k : Nat) (v : Ain) : (s.setAin k v).cle = s.cle := rfl
@[simp] theorem setAin_lsw (s : State) (k : Nat) (v : Ain) : (s.setAin k v).lsw = s.lsw := rfl
@[simp] theorem setAin_planner (s : State) (k : Nat) (v : Ain) : (s.setAin k v).planner = s.planner := rfl
@[simp] theorem setAin_guid (s : State) (k : Nat) (v : Ain) : (s.setAin k v).guid = s.guid := rfl
@[simp] theorem setAin_yield (s : State) (k : Nat) (v : Ain) : (s.setAin k v).yield = s.yield := rfl
@[simp] theorem setAin_headwind (s : State) (k : Nat) (v : Ain) : (s.setAin k v).headwind = s.headwind := rfl
@[simp] theorem setAin_fus (s : State) (k : Nat) (v : Ain) : (s.setAin k v).fus = s.fus := rfl
@[simp] theorem setAin_cam (s : State) (k : Nat) (v : Ain) : (s.setAin k v).cam = s.cam := rfl
@[simp] theorem setAin_gns (s : State) (k : Nat) (v : Ain) : (s.setAin k v).gns = s.gns := rfl
@[simp] theorem setAin_tsu (s : State) (k : Nat) (v : Ain) : (s.setAin k v).tsu = s.tsu := rfl
@[simp] theorem setAin_eth (s : State) (k : Nat) (v : Ain) : (s.setAin k v).eth = s.eth := rfl
@[simp] theorem setAin_can (s : State) (k : Nat) (v : Ain) : (s.setAin k v).can = s.can := rfl
@[simp] theorem setAin_pwr (s : State) (k : Nat) (v : Ain) : (s.setAin k v).pwr = s.pwr := rfl
@[simp] theorem setAin_pnl (s : State) (k : Nat) (v : Ain) : (s.setAin k v).pnl = s.pnl := rfl
@[simp] theorem setAin_upd (s : State) (k : Nat) (v : Ain) : (s.setAin k v).upd = s.upd := rfl
@[simp] theorem setAin_tst (s : State) (k : Nat) (v : Ain) : (s.setAin k v).tst = s.tst := rfl
@[simp] theorem setAin_sent (s : State) (k : Nat) (v : Ain) : (s.setAin k v).sent = s.sent := rfl
@[simp] theorem setAin_pending (s : State) (k : Nat) (v : Ain) : (s.setAin k v).pending = s.pending := rfl

/-! ## setFin -/

@[simp] theorem setFin_mono (s : State) (k : Nat) (v : Fin8) : (s.setFin k v).mono = s.mono := rfl
@[simp] theorem setFin_nonce (s : State) (k : Nat) (v : Fin8) : (s.setFin k v).nonce = s.nonce := rfl
@[simp] theorem setFin_cur (s : State) (k : Nat) (v : Fin8) : (s.setFin k v).cur = s.cur := rfl
@[simp] theorem setFin_boot (s : State) (k : Nat) (v : Fin8) : (s.setFin k v).boot = s.boot := rfl
@[simp] theorem setFin_pairs (s : State) (k : Nat) (v : Fin8) : (s.setFin k v).pairs = s.pairs := rfl
@[simp] theorem setFin_net (s : State) (k : Nat) (v : Fin8) : (s.setFin k v).net = s.net := rfl
@[simp] theorem setFin_fcr (s : State) (k : Nat) (v : Fin8) : (s.setFin k v).fcr = s.fcr := rfl
@[simp] theorem setFin_fns (s : State) (k : Nat) (v : Fin8) : (s.setFin k v).fns = s.fns := rfl
@[simp] theorem setFin_staged (s : State) (k : Nat) (v : Fin8) : (s.setFin k v).staged = s.staged := rfl
@[simp] theorem setFin_applied (s : State) (k : Nat) (v : Fin8) : (s.setFin k v).applied = s.applied := rfl
@[simp] theorem setFin_stored (s : State) (k : Nat) (v : Fin8) : (s.setFin k v).stored = s.stored := rfl
@[simp] theorem setFin_autoStart (s : State) (k : Nat) (v : Fin8) : (s.setFin k v).autoStart = s.autoStart := rfl
@[simp] theorem setFin_mem (s : State) (k : Nat) (v : Fin8) : (s.setFin k v).mem = s.mem := rfl
@[simp] theorem setFin_cle (s : State) (k : Nat) (v : Fin8) : (s.setFin k v).cle = s.cle := rfl
@[simp] theorem setFin_lsw (s : State) (k : Nat) (v : Fin8) : (s.setFin k v).lsw = s.lsw := rfl
@[simp] theorem setFin_planner (s : State) (k : Nat) (v : Fin8) : (s.setFin k v).planner = s.planner := rfl
@[simp] theorem setFin_guid (s : State) (k : Nat) (v : Fin8) : (s.setFin k v).guid = s.guid := rfl
@[simp] theorem setFin_yield (s : State) (k : Nat) (v : Fin8) : (s.setFin k v).yield = s.yield := rfl
@[simp] theorem setFin_headwind (s : State) (k : Nat) (v : Fin8) : (s.setFin k v).headwind = s.headwind := rfl
@[simp] theorem setFin_fus (s : State) (k : Nat) (v : Fin8) : (s.setFin k v).fus = s.fus := rfl
@[simp] theorem setFin_cam (s : State) (k : Nat) (v : Fin8) : (s.setFin k v).cam = s.cam := rfl
@[simp] theorem setFin_gns (s : State) (k : Nat) (v : Fin8) : (s.setFin k v).gns = s.gns := rfl
@[simp] theorem setFin_tsu (s : State) (k : Nat) (v : Fin8) : (s.setFin k v).tsu = s.tsu := rfl
@[simp] theorem setFin_eth (s : State) (k : Nat) (v : Fin8) : (s.setFin k v).eth = s.eth := rfl
@[simp] theorem setFin_can (s : State) (k : Nat) (v : Fin8) : (s.setFin k v).can = s.can := rfl
@[simp] theorem setFin_pwr (s : State) (k : Nat) (v : Fin8) : (s.setFin k v).pwr = s.pwr := rfl
@[simp] theorem setFin_pnl (s : State) (k : Nat) (v : Fin8) : (s.setFin k v).pnl = s.pnl := rfl
@[simp] theorem setFin_upd (s : State) (k : Nat) (v : Fin8) : (s.setFin k v).upd = s.upd := rfl
@[simp] theorem setFin_tst (s : State) (k : Nat) (v : Fin8) : (s.setFin k v).tst = s.tst := rfl
@[simp] theorem setFin_sent (s : State) (k : Nat) (v : Fin8) : (s.setFin k v).sent = s.sent := rfl
@[simp] theorem setFin_pending (s : State) (k : Nat) (v : Fin8) : (s.setFin k v).pending = s.pending := rfl

/-! ## setPos -/

@[simp] theorem setPos_mono (s : State) (k : Nat) (v : PosIn) : (s.setPos k v).mono = s.mono := rfl
@[simp] theorem setPos_nonce (s : State) (k : Nat) (v : PosIn) : (s.setPos k v).nonce = s.nonce := rfl
@[simp] theorem setPos_cur (s : State) (k : Nat) (v : PosIn) : (s.setPos k v).cur = s.cur := rfl
@[simp] theorem setPos_boot (s : State) (k : Nat) (v : PosIn) : (s.setPos k v).boot = s.boot := rfl
@[simp] theorem setPos_pairs (s : State) (k : Nat) (v : PosIn) : (s.setPos k v).pairs = s.pairs := rfl
@[simp] theorem setPos_net (s : State) (k : Nat) (v : PosIn) : (s.setPos k v).net = s.net := rfl
@[simp] theorem setPos_fcr (s : State) (k : Nat) (v : PosIn) : (s.setPos k v).fcr = s.fcr := rfl
@[simp] theorem setPos_fns (s : State) (k : Nat) (v : PosIn) : (s.setPos k v).fns = s.fns := rfl
@[simp] theorem setPos_staged (s : State) (k : Nat) (v : PosIn) : (s.setPos k v).staged = s.staged := rfl
@[simp] theorem setPos_applied (s : State) (k : Nat) (v : PosIn) : (s.setPos k v).applied = s.applied := rfl
@[simp] theorem setPos_stored (s : State) (k : Nat) (v : PosIn) : (s.setPos k v).stored = s.stored := rfl
@[simp] theorem setPos_autoStart (s : State) (k : Nat) (v : PosIn) : (s.setPos k v).autoStart = s.autoStart := rfl
@[simp] theorem setPos_mem (s : State) (k : Nat) (v : PosIn) : (s.setPos k v).mem = s.mem := rfl
@[simp] theorem setPos_cle (s : State) (k : Nat) (v : PosIn) : (s.setPos k v).cle = s.cle := rfl
@[simp] theorem setPos_lsw (s : State) (k : Nat) (v : PosIn) : (s.setPos k v).lsw = s.lsw := rfl
@[simp] theorem setPos_planner (s : State) (k : Nat) (v : PosIn) : (s.setPos k v).planner = s.planner := rfl
@[simp] theorem setPos_guid (s : State) (k : Nat) (v : PosIn) : (s.setPos k v).guid = s.guid := rfl
@[simp] theorem setPos_yield (s : State) (k : Nat) (v : PosIn) : (s.setPos k v).yield = s.yield := rfl
@[simp] theorem setPos_headwind (s : State) (k : Nat) (v : PosIn) : (s.setPos k v).headwind = s.headwind := rfl
@[simp] theorem setPos_fus (s : State) (k : Nat) (v : PosIn) : (s.setPos k v).fus = s.fus := rfl
@[simp] theorem setPos_cam (s : State) (k : Nat) (v : PosIn) : (s.setPos k v).cam = s.cam := rfl
@[simp] theorem setPos_gns (s : State) (k : Nat) (v : PosIn) : (s.setPos k v).gns = s.gns := rfl
@[simp] theorem setPos_tsu (s : State) (k : Nat) (v : PosIn) : (s.setPos k v).tsu = s.tsu := rfl
@[simp] theorem setPos_eth (s : State) (k : Nat) (v : PosIn) : (s.setPos k v).eth = s.eth := rfl
@[simp] theorem setPos_can (s : State) (k : Nat) (v : PosIn) : (s.setPos k v).can = s.can := rfl
@[simp] theorem setPos_pwr (s : State) (k : Nat) (v : PosIn) : (s.setPos k v).pwr = s.pwr := rfl
@[simp] theorem setPos_pnl (s : State) (k : Nat) (v : PosIn) : (s.setPos k v).pnl = s.pnl := rfl
@[simp] theorem setPos_upd (s : State) (k : Nat) (v : PosIn) : (s.setPos k v).upd = s.upd := rfl
@[simp] theorem setPos_tst (s : State) (k : Nat) (v : PosIn) : (s.setPos k v).tst = s.tst := rfl
@[simp] theorem setPos_sent (s : State) (k : Nat) (v : PosIn) : (s.setPos k v).sent = s.sent := rfl
@[simp] theorem setPos_pending (s : State) (k : Nat) (v : PosIn) : (s.setPos k v).pending = s.pending := rfl

/-! ## setCset -/

@[simp] theorem setCset_mono (s : State) (k : Nat) (v : CSet) : (s.setCset k v).mono = s.mono := rfl
@[simp] theorem setCset_nonce (s : State) (k : Nat) (v : CSet) : (s.setCset k v).nonce = s.nonce := rfl
@[simp] theorem setCset_cur (s : State) (k : Nat) (v : CSet) : (s.setCset k v).cur = s.cur := rfl
@[simp] theorem setCset_boot (s : State) (k : Nat) (v : CSet) : (s.setCset k v).boot = s.boot := rfl
@[simp] theorem setCset_pairs (s : State) (k : Nat) (v : CSet) : (s.setCset k v).pairs = s.pairs := rfl
@[simp] theorem setCset_net (s : State) (k : Nat) (v : CSet) : (s.setCset k v).net = s.net := rfl
@[simp] theorem setCset_fcr (s : State) (k : Nat) (v : CSet) : (s.setCset k v).fcr = s.fcr := rfl
@[simp] theorem setCset_fns (s : State) (k : Nat) (v : CSet) : (s.setCset k v).fns = s.fns := rfl
@[simp] theorem setCset_staged (s : State) (k : Nat) (v : CSet) : (s.setCset k v).staged = s.staged := rfl
@[simp] theorem setCset_applied (s : State) (k : Nat) (v : CSet) : (s.setCset k v).applied = s.applied := rfl
@[simp] theorem setCset_stored (s : State) (k : Nat) (v : CSet) : (s.setCset k v).stored = s.stored := rfl
@[simp] theorem setCset_autoStart (s : State) (k : Nat) (v : CSet) : (s.setCset k v).autoStart = s.autoStart := rfl
@[simp] theorem setCset_mem (s : State) (k : Nat) (v : CSet) : (s.setCset k v).mem = s.mem := rfl
@[simp] theorem setCset_cle (s : State) (k : Nat) (v : CSet) : (s.setCset k v).cle = s.cle := rfl
@[simp] theorem setCset_lsw (s : State) (k : Nat) (v : CSet) : (s.setCset k v).lsw = s.lsw := rfl
@[simp] theorem setCset_planner (s : State) (k : Nat) (v : CSet) : (s.setCset k v).planner = s.planner := rfl
@[simp] theorem setCset_guid (s : State) (k : Nat) (v : CSet) : (s.setCset k v).guid = s.guid := rfl
@[simp] theorem setCset_yield (s : State) (k : Nat) (v : CSet) : (s.setCset k v).yield = s.yield := rfl
@[simp] theorem setCset_headwind (s : State) (k : Nat) (v : CSet) : (s.setCset k v).headwind = s.headwind := rfl
@[simp] theorem setCset_fus (s : State) (k : Nat) (v : CSet) : (s.setCset k v).fus = s.fus := rfl
@[simp] theorem setCset_cam (s : State) (k : Nat) (v : CSet) : (s.setCset k v).cam = s.cam := rfl
@[simp] theorem setCset_gns (s : State) (k : Nat) (v : CSet) : (s.setCset k v).gns = s.gns := rfl
@[simp] theorem setCset_tsu (s : State) (k : Nat) (v : CSet) : (s.setCset k v).tsu = s.tsu := rfl
@[simp] theorem setCset_eth (s : State) (k : Nat) (v : CSet) : (s.setCset k v).eth = s.eth := rfl
@[simp] theorem setCset_can (s : State) (k : Nat) (v : CSet) : (s.setCset k v).can = s.can := rfl
@[simp] theorem setCset_pwr (s : State) (k : Nat) (v : CSet) : (s.setCset k v).pwr = s.pwr := rfl
@[simp] theorem setCset_pnl (s : State) (k : Nat) (v : CSet) : (s.setCset k v).pnl = s.pnl := rfl
@[simp] theorem setCset_upd (s : State) (k : Nat) (v : CSet) : (s.setCset k v).upd = s.upd := rfl
@[simp] theorem setCset_tst (s : State) (k : Nat) (v : CSet) : (s.setCset k v).tst = s.tst := rfl
@[simp] theorem setCset_sent (s : State) (k : Nat) (v : CSet) : (s.setCset k v).sent = s.sent := rfl
@[simp] theorem setCset_pending (s : State) (k : Nat) (v : CSet) : (s.setCset k v).pending = s.pending := rfl

/-! ## rest -/

@[simp] theorem rest_mono (s : State) (q : List Instr) : (s.rest q).mono = s.mono := rfl
@[simp] theorem rest_nonce (s : State) (q : List Instr) : (s.rest q).nonce = s.nonce := rfl
@[simp] theorem rest_cur (s : State) (q : List Instr) : (s.rest q).cur = s.cur := rfl
@[simp] theorem rest_boot (s : State) (q : List Instr) : (s.rest q).boot = s.boot := rfl
@[simp] theorem rest_pairs (s : State) (q : List Instr) : (s.rest q).pairs = s.pairs := rfl
@[simp] theorem rest_net (s : State) (q : List Instr) : (s.rest q).net = s.net := rfl
@[simp] theorem rest_fcr (s : State) (q : List Instr) : (s.rest q).fcr = s.fcr := rfl
@[simp] theorem rest_fns (s : State) (q : List Instr) : (s.rest q).fns = s.fns := rfl
@[simp] theorem rest_staged (s : State) (q : List Instr) : (s.rest q).staged = s.staged := rfl
@[simp] theorem rest_applied (s : State) (q : List Instr) : (s.rest q).applied = s.applied := rfl
@[simp] theorem rest_stored (s : State) (q : List Instr) : (s.rest q).stored = s.stored := rfl
@[simp] theorem rest_autoStart (s : State) (q : List Instr) : (s.rest q).autoStart = s.autoStart := rfl
@[simp] theorem rest_mem (s : State) (q : List Instr) : (s.rest q).mem = s.mem := rfl
@[simp] theorem rest_cle (s : State) (q : List Instr) : (s.rest q).cle = s.cle := rfl
@[simp] theorem rest_cse (s : State) (q : List Instr) : (s.rest q).cse = s.cse := rfl
@[simp] theorem rest_lsw (s : State) (q : List Instr) : (s.rest q).lsw = s.lsw := rfl
@[simp] theorem rest_planner (s : State) (q : List Instr) : (s.rest q).planner = s.planner := rfl
@[simp] theorem rest_guid (s : State) (q : List Instr) : (s.rest q).guid = s.guid := rfl
@[simp] theorem rest_yield (s : State) (q : List Instr) : (s.rest q).yield = s.yield := rfl
@[simp] theorem rest_headwind (s : State) (q : List Instr) : (s.rest q).headwind = s.headwind := rfl
@[simp] theorem rest_fus (s : State) (q : List Instr) : (s.rest q).fus = s.fus := rfl
@[simp] theorem rest_cam (s : State) (q : List Instr) : (s.rest q).cam = s.cam := rfl
@[simp] theorem rest_gns (s : State) (q : List Instr) : (s.rest q).gns = s.gns := rfl
@[simp] theorem rest_tsu (s : State) (q : List Instr) : (s.rest q).tsu = s.tsu := rfl
@[simp] theorem rest_eth (s : State) (q : List Instr) : (s.rest q).eth = s.eth := rfl
@[simp] theorem rest_can (s : State) (q : List Instr) : (s.rest q).can = s.can := rfl
@[simp] theorem rest_pwr (s : State) (q : List Instr) : (s.rest q).pwr = s.pwr := rfl
@[simp] theorem rest_pnl (s : State) (q : List Instr) : (s.rest q).pnl = s.pnl := rfl
@[simp] theorem rest_upd (s : State) (q : List Instr) : (s.rest q).upd = s.upd := rfl
@[simp] theorem rest_tst (s : State) (q : List Instr) : (s.rest q).tst = s.tst := rfl
@[simp] theorem rest_sent (s : State) (q : List Instr) : (s.rest q).sent = s.sent := rfl

/-! ## setUpd -/

@[simp] theorem setUpd_mono (s : State) (u : Upd) : (s.setUpd u).mono = s.mono := rfl
@[simp] theorem setUpd_nonce (s : State) (u : Upd) : (s.setUpd u).nonce = s.nonce := rfl
@[simp] theorem setUpd_cur (s : State) (u : Upd) : (s.setUpd u).cur = s.cur := rfl
@[simp] theorem setUpd_boot (s : State) (u : Upd) : (s.setUpd u).boot = s.boot := rfl
@[simp] theorem setUpd_pairs (s : State) (u : Upd) : (s.setUpd u).pairs = s.pairs := rfl
@[simp] theorem setUpd_net (s : State) (u : Upd) : (s.setUpd u).net = s.net := rfl
@[simp] theorem setUpd_fcr (s : State) (u : Upd) : (s.setUpd u).fcr = s.fcr := rfl
@[simp] theorem setUpd_fns (s : State) (u : Upd) : (s.setUpd u).fns = s.fns := rfl
@[simp] theorem setUpd_staged (s : State) (u : Upd) : (s.setUpd u).staged = s.staged := rfl
@[simp] theorem setUpd_applied (s : State) (u : Upd) : (s.setUpd u).applied = s.applied := rfl
@[simp] theorem setUpd_stored (s : State) (u : Upd) : (s.setUpd u).stored = s.stored := rfl
@[simp] theorem setUpd_autoStart (s : State) (u : Upd) : (s.setUpd u).autoStart = s.autoStart := rfl
@[simp] theorem setUpd_mem (s : State) (u : Upd) : (s.setUpd u).mem = s.mem := rfl
@[simp] theorem setUpd_cle (s : State) (u : Upd) : (s.setUpd u).cle = s.cle := rfl
@[simp] theorem setUpd_cse (s : State) (u : Upd) : (s.setUpd u).cse = s.cse := rfl
@[simp] theorem setUpd_lsw (s : State) (u : Upd) : (s.setUpd u).lsw = s.lsw := rfl
@[simp] theorem setUpd_planner (s : State) (u : Upd) : (s.setUpd u).planner = s.planner := rfl
@[simp] theorem setUpd_guid (s : State) (u : Upd) : (s.setUpd u).guid = s.guid := rfl
@[simp] theorem setUpd_yield (s : State) (u : Upd) : (s.setUpd u).yield = s.yield := rfl
@[simp] theorem setUpd_headwind (s : State) (u : Upd) : (s.setUpd u).headwind = s.headwind := rfl
@[simp] theorem setUpd_fus (s : State) (u : Upd) : (s.setUpd u).fus = s.fus := rfl
@[simp] theorem setUpd_cam (s : State) (u : Upd) : (s.setUpd u).cam = s.cam := rfl
@[simp] theorem setUpd_gns (s : State) (u : Upd) : (s.setUpd u).gns = s.gns := rfl
@[simp] theorem setUpd_tsu (s : State) (u : Upd) : (s.setUpd u).tsu = s.tsu := rfl
@[simp] theorem setUpd_eth (s : State) (u : Upd) : (s.setUpd u).eth = s.eth := rfl
@[simp] theorem setUpd_can (s : State) (u : Upd) : (s.setUpd u).can = s.can := rfl
@[simp] theorem setUpd_pwr (s : State) (u : Upd) : (s.setUpd u).pwr = s.pwr := rfl
@[simp] theorem setUpd_pnl (s : State) (u : Upd) : (s.setUpd u).pnl = s.pnl := rfl
@[simp] theorem setUpd_tst (s : State) (u : Upd) : (s.setUpd u).tst = s.tst := rfl
@[simp] theorem setUpd_sent (s : State) (u : Upd) : (s.setUpd u).sent = s.sent := rfl
@[simp] theorem setUpd_pending (s : State) (u : Upd) : (s.setUpd u).pending = s.pending := rfl

/-! ## Reading back -/

@[simp] theorem setPipe_pipe (s : State) (k : Nat) (v : Pipe) : (s.setPipe k v).pipe k = v := by
  simp [State.setPipe, State.pipe]
theorem setPipe_pipe_of_ne (s : State) {k j : Nat} (v : Pipe) (hne : k ≠ j) : (s.setPipe k v).pipe j = s.pipe j := by
  simp [State.setPipe, State.pipe, tget_tput_of_ne _ _ _ hne]
@[simp] theorem setHolder_holder (s : State) (h : Nat) (v : Holder) : (s.setHolder h v).holder h = v := by
  simp [State.setHolder, State.holder]
theorem setHolder_holder_of_ne (s : State) {h j : Nat} (v : Holder) (hne : h ≠ j) : (s.setHolder h v).holder j = s.holder j := by
  simp [State.setHolder, State.holder, tget_tput_of_ne _ _ _ hne]
@[simp] theorem setHead_head (s : State) (h : Nat) (v : FHead) : (s.setHead h v).head h = v := by
  simp [State.setHead, State.head]
theorem setHead_head_of_ne (s : State) {h j : Nat} (v : FHead) (hne : h ≠ j) : (s.setHead h v).head j = s.head j := by
  simp [State.setHead, State.head, tget_tput_of_ne _ _ _ hne]
@[simp] theorem setWslot_wslot (s : State) (i : Nat) (v : WSlot) : (s.setWslot i v).wslot i = v := by
  simp [State.setWslot, State.wslot]
theorem setWslot_wslot_of_ne (s : State) {i j : Nat} (v : WSlot) (hne : i ≠ j) : (s.setWslot i v).wslot j = s.wslot j := by
  simp [State.setWslot, State.wslot, tget_tput_of_ne _ _ _ hne]
@[simp] theorem setTrack_track (s : State) (c : Nat) (t : Track) : (s.setTrack c t).track c = t := by
  simp [State.setTrack, State.track]
theorem setTrack_track_of_ne (s : State) {c j : Nat} (t : Track) (hne : c ≠ j) : (s.setTrack c t).track j = s.track j := by
  simp [State.setTrack, State.track, tget_tput_of_ne _ _ _ hne]
@[simp] theorem setNotch_notch (s : State) (n : Nat) (x : Notch) : (s.setNotch n x).notch n = x := by
  simp [State.setNotch, State.notch]
theorem setNotch_notch_of_ne (s : State) {n j : Nat} (x : Notch) (hne : n ≠ j) : (s.setNotch n x).notch j = s.notch j := by
  simp [State.setNotch, State.notch, tget_tput_of_ne _ _ _ hne]
@[simp] theorem setFn_fn (s : State) (f : Nat) (v : Fn) : (s.setFn f v).fn f = v := by
  simp [State.setFn, State.fn]
theorem setFn_fn_of_ne (s : State) {f j : Nat} (v : Fn) (hne : f ≠ j) : (s.setFn f v).fn j = s.fn j := by
  simp [State.setFn, State.fn, tget_tput_of_ne _ _ _ hne]
@[simp] theorem setPair_pair (s : State) (i : Nat) (v : Pair) : (s.setPair i v).pair i = v := by
  simp [State.setPair, State.pair]
theorem setPair_pair_of_ne (s : State) {i j : Nat} (v : Pair) (hne : i ≠ j) : (s.setPair i v).pair j = s.pair j := by
  simp [State.setPair, State.pair, tget_tput_of_ne _ _ _ hne]
@[simp] theorem setSrc_src (s : State) (n : Nat) (v : Src) : (s.setSrc n v).src n = v := by
  simp [State.setSrc, State.src]
theorem setSrc_src_of_ne (s : State) {n j : Nat} (v : Src) (hne : n ≠ j) : (s.setSrc n v).src j = s.src j := by
  simp [State.setSrc, State.src, tget_tput_of_ne _ _ _ hne]
@[simp] theorem setLoop_loop (s : State) (n : Nat) (v : Loop) : (s.setLoop n v).loop n = v := by
  simp [State.setLoop, State.loop]
theorem setLoop_loop_of_ne (s : State) {n j : Nat} (v : Loop) (hne : n ≠ j) : (s.setLoop n v).loop j = s.loop j := by
  simp [State.setLoop, State.loop, tget_tput_of_ne _ _ _ hne]
@[simp] theorem setGrp_grp (s : State) (g : Nat) (v : Grp) : (s.setGrp g v).grp g = v := by
  simp [State.setGrp, State.grp]
theorem setGrp_grp_of_ne (s : State) {g j : Nat} (v : Grp) (hne : g ≠ j) : (s.setGrp g v).grp j = s.grp j := by
  simp [State.setGrp, State.grp, tget_tput_of_ne _ _ _ hne]
@[simp] theorem setSlot_slot (s : State) (i : Nat) (v : Slot) : (s.setSlot i v).slot i = v := by
  simp [State.setSlot, State.slot]
theorem setSlot_slot_of_ne (s : State) {i j : Nat} (v : Slot) (hne : i ≠ j) : (s.setSlot i v).slot j = s.slot j := by
  simp [State.setSlot, State.slot, tget_tput_of_ne _ _ _ hne]
@[simp] theorem setChan_chan (s : State) (k : Nat) (v : Chan) : (s.setChan k v).chan k = v := by
  simp [State.setChan, State.chan]
theorem setChan_chan_of_ne (s : State) {k j : Nat} (v : Chan) (hne : k ≠ j) : (s.setChan k v).chan j = s.chan j := by
  simp [State.setChan, State.chan, tget_tput_of_ne _ _ _ hne]
@[simp] theorem setDie_die (s : State) (d : Nat) (v : Die) : (s.setDie d v).die d = v := by
  simp [State.setDie, State.die]
theorem setDie_die_of_ne (s : State) {d j : Nat} (v : Die) (hne : d ≠ j) : (s.setDie d v).die j = s.die j := by
  simp [State.setDie, State.die, tget_tput_of_ne _ _ _ hne]
@[simp] theorem setStud_stud (s : State) (v : Nat) (x : Stud) : (s.setStud v x).stud v = x := by
  simp [State.setStud, State.stud]
theorem setStud_stud_of_ne (s : State) {v j : Nat} (x : Stud) (hne : v ≠ j) : (s.setStud v x).stud j = s.stud j := by
  simp [State.setStud, State.stud, tget_tput_of_ne _ _ _ hne]
@[simp] theorem setDom_dom (s : State) (d : Nat) (v : Domain) : (s.setDom d v).dom d = v := by
  simp [State.setDom, State.dom]
theorem setDom_dom_of_ne (s : State) {d j : Nat} (v : Domain) (hne : d ≠ j) : (s.setDom d v).dom j = s.dom j := by
  simp [State.setDom, State.dom, tget_tput_of_ne _ _ _ hne]
@[simp] theorem setPort_port (s : State) (p : Nat) (v : Port) : (s.setPort p v).port p = v := by
  simp [State.setPort, State.port]
theorem setPort_port_of_ne (s : State) {p j : Nat} (v : Port) (hne : p ≠ j) : (s.setPort p v).port j = s.port j := by
  simp [State.setPort, State.port, tget_tput_of_ne _ _ _ hne]
@[simp] theorem setCan_can1 (s : State) (k : Nat) (v : Can) : (s.setCan k v).can1 k = v := by
  simp [State.setCan, State.can1]
theorem setCan_can1_of_ne (s : State) {k j : Nat} (v : Can) (hne : k ≠ j) : (s.setCan k v).can1 j = s.can1 j := by
  simp [State.setCan, State.can1, tget_tput_of_ne _ _ _ hne]
@[simp] theorem setCv_cv (s : State) (i : Nat) (v : CvSt) : (s.setCv i v).cv i = v := by
  simp [State.setCv, State.cv]
theorem setCv_cv_of_ne (s : State) {i j : Nat} (v : CvSt) (hne : i ≠ j) : (s.setCv i v).cv j = s.cv j := by
  simp [State.setCv, State.cv, tget_tput_of_ne _ _ _ hne]
@[simp] theorem setImp_imp (s : State) (k : Nat) (v : Imp) : (s.setImp k v).imp k = v := by
  simp [State.setImp, State.imp]
theorem setImp_imp_of_ne (s : State) {k j : Nat} (v : Imp) (hne : k ≠ j) : (s.setImp k v).imp j = s.imp j := by
  simp [State.setImp, State.imp, tget_tput_of_ne _ _ _ hne]
@[simp] theorem setAin_ain (s : State) (k : Nat) (v : Ain) : (s.setAin k v).ain k = v := by
  simp [State.setAin, State.ain]
theorem setAin_ain_of_ne (s : State) {k j : Nat} (v : Ain) (hne : k ≠ j) : (s.setAin k v).ain j = s.ain j := by
  simp [State.setAin, State.ain, tget_tput_of_ne _ _ _ hne]
@[simp] theorem setFin_fin (s : State) (k : Nat) (v : Fin8) : (s.setFin k v).fin k = v := by
  simp [State.setFin, State.fin]
theorem setFin_fin_of_ne (s : State) {k j : Nat} (v : Fin8) (hne : k ≠ j) : (s.setFin k v).fin j = s.fin j := by
  simp [State.setFin, State.fin, tget_tput_of_ne _ _ _ hne]
@[simp] theorem setPos_pos (s : State) (k : Nat) (v : PosIn) : (s.setPos k v).pos k = v := by
  simp [State.setPos, State.pos]
theorem setPos_pos_of_ne (s : State) {k j : Nat} (v : PosIn) (hne : k ≠ j) : (s.setPos k v).pos j = s.pos j := by
  simp [State.setPos, State.pos, tget_tput_of_ne _ _ _ hne]
@[simp] theorem setCset_cset (s : State) (k : Nat) (v : CSet) : (s.setCset k v).cset k = v := by
  simp [State.setCset, State.cset]
theorem setCset_cset_of_ne (s : State) {k j : Nat} (v : CSet) (hne : k ≠ j) : (s.setCset k v).cset j = s.cset j := by
  simp [State.setCset, State.cset, tget_tput_of_ne _ _ _ hne]

@[simp] theorem setStg_stg (s : State) (o : Obj) (b : Bytes) : (s.setStg o b).stg o = b := by
  simp [State.setStg, State.stg]
@[simp] theorem setApp_app (s : State) (o : Obj) (b : Bytes) : (s.setApp o b).app o = b := by
  simp [State.setApp, State.app]

end Sys2Proof.Machine
end

