-- ==== Sys2Proof/Laws/Frame.lean ====
section
/-! SUPPORT. Frames: what an operation leaves alone. `State.off w s` is the state with the fields of the set `w`
put aside; an operation changes at most the fields of `w` when it leaves `State.off w` as it was. The 32 fields of
`State` are numbered in their order. -/

namespace Sys2Proof.Machine

/-- The second value where bit i of a set of fields is clear. -/
def pick {α : Type} (w i : Nat) (d x : α) : α := if w.testBit i then d else x

theorem pick_of_bit {α : Type} {w i : Nat} (h : 2 ^ i &&& w = 2 ^ i) (d x y : α) : pick w i d x = pick w i d y := by
  have hb : w.testBit i = true := by
    have := congrArg (fun n => n.testBit i) h
    simpa [Nat.testBit_and] using this
  simp [pick, hb]

theorem pick_pick {α : Type} {m w : Nat} (hw : m &&& w = m) (i : Nat) (d x : α) :
    pick w i d (pick m i d x) = pick w i d x := by
  have hb : m.testBit i = true → w.testBit i = true := by
    intro h
    have := congrArg (fun n => n.testBit i) hw
    simp [Nat.testBit_and, h] at this
    exact this
  unfold pick
  split
  · rfl
  · split
    · rename_i h1 h2
      exact absurd (hb h2) h1
    · rfl

theorem sub_of {a b w : Nat} (h : a &&& b = a) (hw : b &&& w = b) : a &&& w = a := by
  rw [← h, Nat.and_assoc, hw]

/-- The state with the fields of a set put aside. -/
def State.off (w : Nat) (s : State) : State where
  mono := pick w 0 State.reset.mono s.mono
  nonce := pick w 1 State.reset.nonce s.nonce
  cur := pick w 2 State.reset.cur s.cur
  boot := pick w 3 State.reset.boot s.boot
  pairs := pick w 4 State.reset.pairs s.pairs
  net := pick w 5 State.reset.net s.net
  fcr := pick w 6 State.reset.fcr s.fcr
  fns := pick w 7 State.reset.fns s.fns
  staged := pick w 8 State.reset.staged s.staged
  applied := pick w 9 State.reset.applied s.applied
  stored := pick w 10 State.reset.stored s.stored
  autoStart := pick w 11 State.reset.autoStart s.autoStart
  mem := pick w 12 State.reset.mem s.mem
  cle := pick w 13 State.reset.cle s.cle
  cse := pick w 14 State.reset.cse s.cse
  lsw := pick w 15 State.reset.lsw s.lsw
  planner := pick w 16 State.reset.planner s.planner
  guid := pick w 17 State.reset.guid s.guid
  yield := pick w 18 State.reset.yield s.yield
  headwind := pick w 19 State.reset.headwind s.headwind
  fus := pick w 20 State.reset.fus s.fus
  cam := pick w 21 State.reset.cam s.cam
  gns := pick w 22 State.reset.gns s.gns
  tsu := pick w 23 State.reset.tsu s.tsu
  eth := pick w 24 State.reset.eth s.eth
  can := pick w 25 State.reset.can s.can
  pwr := pick w 26 State.reset.pwr s.pwr
  pnl := pick w 27 State.reset.pnl s.pnl
  upd := pick w 28 State.reset.upd s.upd
  tst := pick w 29 State.reset.tst s.tst
  sent := pick w 30 State.reset.sent s.sent
  pending := pick w 31 State.reset.pending s.pending

/-- Fields put aside in a smaller set are put aside in a larger one. -/
theorem off_of_subset {a b : State} {m w : Nat} (hw : m &&& w = m) (h : a.off m = b.off m) : a.off w = b.off w := by
  have ha : ∀ s : State, (s.off m).off w = s.off w := fun s => by
    simp only [State.off, pick_pick hw]
  rw [← ha a, h, ha b]

theorem mono_of_off {a b : State} {w : Nat} (h : a.off w = b.off w) (hw : w.testBit 0 = false) : a.mono = b.mono := by
  have h := congrArg State.mono h
  simpa [State.off, pick, hw] using h

theorem nonce_of_off {a b : State} {w : Nat} (h : a.off w = b.off w) (hw : w.testBit 1 = false) : a.nonce = b.nonce := by
  have h := congrArg State.nonce h
  simpa [State.off, pick, hw] using h

theorem cur_of_off {a b : State} {w : Nat} (h : a.off w = b.off w) (hw : w.testBit 2 = false) : a.cur = b.cur := by
  have h := congrArg State.cur h
  simpa [State.off, pick, hw] using h

theorem boot_of_off {a b : State} {w : Nat} (h : a.off w = b.off w) (hw : w.testBit 3 = false) : a.boot = b.boot := by
  have h := congrArg State.boot h
  simpa [State.off, pick, hw] using h

theorem pairs_of_off {a b : State} {w : Nat} (h : a.off w = b.off w) (hw : w.testBit 4 = false) : a.pairs = b.pairs := by
  have h := congrArg State.pairs h
  simpa [State.off, pick, hw] using h

theorem net_of_off {a b : State} {w : Nat} (h : a.off w = b.off w) (hw : w.testBit 5 = false) : a.net = b.net := by
  have h := congrArg State.net h
  simpa [State.off, pick, hw] using h

theorem fcr_of_off {a b : State} {w : Nat} (h : a.off w = b.off w) (hw : w.testBit 6 = false) : a.fcr = b.fcr := by
  have h := congrArg State.fcr h
  simpa [State.off, pick, hw] using h

theorem fns_of_off {a b : State} {w : Nat} (h : a.off w = b.off w) (hw : w.testBit 7 = false) : a.fns = b.fns := by
  have h := congrArg State.fns h
  simpa [State.off, pick, hw] using h

theorem staged_of_off {a b : State} {w : Nat} (h : a.off w = b.off w) (hw : w.testBit 8 = false) : a.staged = b.staged := by
  have h := congrArg State.staged h
  simpa [State.off, pick, hw] using h

theorem applied_of_off {a b : State} {w : Nat} (h : a.off w = b.off w) (hw : w.testBit 9 = false) : a.applied = b.applied := by
  have h := congrArg State.applied h
  simpa [State.off, pick, hw] using h

theorem stored_of_off {a b : State} {w : Nat} (h : a.off w = b.off w) (hw : w.testBit 10 = false) : a.stored = b.stored := by
  have h := congrArg State.stored h
  simpa [State.off, pick, hw] using h

theorem autoStart_of_off {a b : State} {w : Nat} (h : a.off w = b.off w) (hw : w.testBit 11 = false) : a.autoStart = b.autoStart := by
  have h := congrArg State.autoStart h
  simpa [State.off, pick, hw] using h

theorem mem_of_off {a b : State} {w : Nat} (h : a.off w = b.off w) (hw : w.testBit 12 = false) : a.mem = b.mem := by
  have h := congrArg State.mem h
  simpa [State.off, pick, hw] using h

theorem cle_of_off {a b : State} {w : Nat} (h : a.off w = b.off w) (hw : w.testBit 13 = false) : a.cle = b.cle := by
  have h := congrArg State.cle h
  simpa [State.off, pick, hw] using h

theorem cse_of_off {a b : State} {w : Nat} (h : a.off w = b.off w) (hw : w.testBit 14 = false) : a.cse = b.cse := by
  have h := congrArg State.cse h
  simpa [State.off, pick, hw] using h

theorem lsw_of_off {a b : State} {w : Nat} (h : a.off w = b.off w) (hw : w.testBit 15 = false) : a.lsw = b.lsw := by
  have h := congrArg State.lsw h
  simpa [State.off, pick, hw] using h

theorem planner_of_off {a b : State} {w : Nat} (h : a.off w = b.off w) (hw : w.testBit 16 = false) : a.planner = b.planner := by
  have h := congrArg State.planner h
  simpa [State.off, pick, hw] using h

theorem guid_of_off {a b : State} {w : Nat} (h : a.off w = b.off w) (hw : w.testBit 17 = false) : a.guid = b.guid := by
  have h := congrArg State.guid h
  simpa [State.off, pick, hw] using h

theorem yield_of_off {a b : State} {w : Nat} (h : a.off w = b.off w) (hw : w.testBit 18 = false) : a.yield = b.yield := by
  have h := congrArg State.yield h
  simpa [State.off, pick, hw] using h

theorem headwind_of_off {a b : State} {w : Nat} (h : a.off w = b.off w) (hw : w.testBit 19 = false) : a.headwind = b.headwind := by
  have h := congrArg State.headwind h
  simpa [State.off, pick, hw] using h

theorem fus_of_off {a b : State} {w : Nat} (h : a.off w = b.off w) (hw : w.testBit 20 = false) : a.fus = b.fus := by
  have h := congrArg State.fus h
  simpa [State.off, pick, hw] using h

theorem cam_of_off {a b : State} {w : Nat} (h : a.off w = b.off w) (hw : w.testBit 21 = false) : a.cam = b.cam := by
  have h := congrArg State.cam h
  simpa [State.off, pick, hw] using h

theorem gns_of_off {a b : State} {w : Nat} (h : a.off w = b.off w) (hw : w.testBit 22 = false) : a.gns = b.gns := by
  have h := congrArg State.gns h
  simpa [State.off, pick, hw] using h

theorem tsu_of_off {a b : State} {w : Nat} (h : a.off w = b.off w) (hw : w.testBit 23 = false) : a.tsu = b.tsu := by
  have h := congrArg State.tsu h
  simpa [State.off, pick, hw] using h

theorem eth_of_off {a b : State} {w : Nat} (h : a.off w = b.off w) (hw : w.testBit 24 = false) : a.eth = b.eth := by
  have h := congrArg State.eth h
  simpa [State.off, pick, hw] using h

theorem can_of_off {a b : State} {w : Nat} (h : a.off w = b.off w) (hw : w.testBit 25 = false) : a.can = b.can := by
  have h := congrArg State.can h
  simpa [State.off, pick, hw] using h

theorem pwr_of_off {a b : State} {w : Nat} (h : a.off w = b.off w) (hw : w.testBit 26 = false) : a.pwr = b.pwr := by
  have h := congrArg State.pwr h
  simpa [State.off, pick, hw] using h

theorem pnl_of_off {a b : State} {w : Nat} (h : a.off w = b.off w) (hw : w.testBit 27 = false) : a.pnl = b.pnl := by
  have h := congrArg State.pnl h
  simpa [State.off, pick, hw] using h

theorem upd_of_off {a b : State} {w : Nat} (h : a.off w = b.off w) (hw : w.testBit 28 = false) : a.upd = b.upd := by
  have h := congrArg State.upd h
  simpa [State.off, pick, hw] using h

theorem tst_of_off {a b : State} {w : Nat} (h : a.off w = b.off w) (hw : w.testBit 29 = false) : a.tst = b.tst := by
  have h := congrArg State.tst h
  simpa [State.off, pick, hw] using h

theorem sent_of_off {a b : State} {w : Nat} (h : a.off w = b.off w) (hw : w.testBit 30 = false) : a.sent = b.sent := by
  have h := congrArg State.sent h
  simpa [State.off, pick, hw] using h

theorem pending_of_off {a b : State} {w : Nat} (h : a.off w = b.off w) (hw : w.testBit 31 = false) : a.pending = b.pending := by
  have h := congrArg State.pending h
  simpa [State.off, pick, hw] using h

@[simp] theorem off_set_mono (w : Nat) (s : State) (x0) (hw : 1 &&& w = 1) :
    (State.mk x0 s.nonce s.cur s.boot s.pairs s.net s.fcr s.fns s.staged s.applied s.stored s.autoStart s.mem s.cle s.cse s.lsw s.planner s.guid s.yield s.headwind s.fus s.cam s.gns s.tsu s.eth s.can s.pwr s.pnl s.upd s.tst s.sent s.pending).off w = s.off w := by
  refine off_of_subset hw ?_
  simp [State.off, pick, Nat.testBit]

@[simp] theorem off_set_many27 (w : Nat) (s : State) (x0 x2 x3 x4 x5 x6 x7 x8 x9 x12 x13 x14 x15 x16 x17 x18 x19 x20 x21 x22 x23 x24 x25 x26 x27 x28 x29) (hw : 1073738749 &&& w = 1073738749) :
    (State.mk x0 s.nonce x2 x3 x4 x5 x6 x7 x8 x9 s.stored s.autoStart x12 x13 x14 x15 x16 x17 x18 x19 x20 x21 x22 x23 x24 x25 x26 x27 x28 x29 s.sent s.pending).off w = s.off w := by
  refine off_of_subset hw ?_
  simp [State.off, pick, Nat.testBit]

@[simp] theorem off_set_mono_fcr (w : Nat) (s : State) (x0 x6) (hw : 65 &&& w = 65) :
    (State.mk x0 s.nonce s.cur s.boot s.pairs s.net x6 s.fns s.staged s.applied s.stored s.autoStart s.mem s.cle s.cse s.lsw s.planner s.guid s.yield s.headwind s.fus s.cam s.gns s.tsu s.eth s.can s.pwr s.pnl s.upd s.tst s.sent s.pending).off w = s.off w := by
  refine off_of_subset hw ?_
  simp [State.off, pick, Nat.testBit]

@[simp] theorem off_set_nonce (w : Nat) (s : State) (x1) (hw : 2 &&& w = 2) :
    (State.mk s.mono x1 s.cur s.boot s.pairs s.net s.fcr s.fns s.staged s.applied s.stored s.autoStart s.mem s.cle s.cse s.lsw s.planner s.guid s.yield s.headwind s.fus s.cam s.gns s.tsu s.eth s.can s.pwr s.pnl s.upd s.tst s.sent s.pending).off w = s.off w := by
  refine off_of_subset hw ?_
  simp [State.off, pick, Nat.testBit]

@[simp] theorem off_set_cur (w : Nat) (s : State) (x2) (hw : 4 &&& w = 4) :
    (State.mk s.mono s.nonce x2 s.boot s.pairs s.net s.fcr s.fns s.staged s.applied s.stored s.autoStart s.mem s.cle s.cse s.lsw s.planner s.guid s.yield s.headwind s.fus s.cam s.gns s.tsu s.eth s.can s.pwr s.pnl s.upd s.tst s.sent s.pending).off w = s.off w := by
  refine off_of_subset hw ?_
  simp [State.off, pick, Nat.testBit]

@[simp] theorem off_set_cur_net (w : Nat) (s : State) (x2 x5) (hw : 36 &&& w = 36) :
    (State.mk s.mono s.nonce x2 s.boot s.pairs x5 s.fcr s.fns s.staged s.applied s.stored s.autoStart s.mem s.cle s.cse s.lsw s.planner s.guid s.yield s.headwind s.fus s.cam s.gns s.tsu s.eth s.can s.pwr s.pnl s.upd s.tst s.sent s.pending).off w = s.off w := by
  refine off_of_subset hw ?_
  simp [State.off, pick, Nat.testBit]

@[simp] theorem off_set_boot (w : Nat) (s : State) (x3) (hw : 8 &&& w = 8) :
    (State.mk s.mono s.nonce s.cur x3 s.pairs s.net s.fcr s.fns s.staged s.applied s.stored s.autoStart s.mem s.cle s.cse s.lsw s.planner s.guid s.yield s.headwind s.fus s.cam s.gns s.tsu s.eth s.can s.pwr s.pnl s.upd s.tst s.sent s.pending).off w = s.off w := by
  refine off_of_subset hw ?_
  simp [State.off, pick, Nat.testBit]

@[simp] theorem off_set_many17 (w : Nat) (s : State) (x3 x5 x6 x12 x13 x14 x15 x16 x17 x18 x19 x20 x21 x22 x24 x27 x28) (hw : 427815016 &&& w = 427815016) :
    (State.mk s.mono s.nonce s.cur x3 s.pairs x5 x6 s.fns s.staged s.applied s.stored s.autoStart x12 x13 x14 x15 x16 x17 x18 x19 x20 x21 x22 s.tsu x24 s.can s.pwr x27 x28 s.tst s.sent s.pending).off w = s.off w := by
  refine off_of_subset hw ?_
  simp [State.off, pick, Nat.testBit]

@[simp] theorem off_set_boot_upd (w : Nat) (s : State) (x3 x28) (hw : 268435464 &&& w = 268435464) :
    (State.mk s.mono s.nonce s.cur x3 s.pairs s.net s.fcr s.fns s.staged s.applied s.stored s.autoStart s.mem s.cle s.cse s.lsw s.planner s.guid s.yield s.headwind s.fus s.cam s.gns s.tsu s.eth s.can s.pwr s.pnl x28 s.tst s.sent s.pending).off w = s.off w := by
  refine off_of_subset hw ?_
  simp [State.off, pick, Nat.testBit]

@[simp] theorem off_set_pairs (w : Nat) (s : State) (x4) (hw : 16 &&& w = 16) :
    (State.mk s.mono s.nonce s.cur s.boot x4 s.net s.fcr s.fns s.staged s.applied s.stored s.autoStart s.mem s.cle s.cse s.lsw s.planner s.guid s.yield s.headwind s.fus s.cam s.gns s.tsu s.eth s.can s.pwr s.pnl s.upd s.tst s.sent s.pending).off w = s.off w := by
  refine off_of_subset hw ?_
  simp [State.off, pick, Nat.testBit]

@[simp] theorem off_set_pairs_fcr (w : Nat) (s : State) (x4 x6) (hw : 80 &&& w = 80) :
    (State.mk s.mono s.nonce s.cur s.boot x4 s.net x6 s.fns s.staged s.applied s.stored s.autoStart s.mem s.cle s.cse s.lsw s.planner s.guid s.yield s.headwind s.fus s.cam s.gns s.tsu s.eth s.can s.pwr s.pnl s.upd s.tst s.sent s.pending).off w = s.off w := by
  refine off_of_subset hw ?_
  simp [State.off, pick, Nat.testBit]

@[simp] theorem off_set_pairs_pwr_upd (w : Nat) (s : State) (x4 x26 x28) (hw : 335544336 &&& w = 335544336) :
    (State.mk s.mono s.nonce s.cur s.boot x4 s.net s.fcr s.fns s.staged s.applied s.stored s.autoStart s.mem s.cle s.cse s.lsw s.planner s.guid s.yield s.headwind s.fus s.cam s.gns s.tsu s.eth s.can x26 s.pnl x28 s.tst s.sent s.pending).off w = s.off w := by
  refine off_of_subset hw ?_
  simp [State.off, pick, Nat.testBit]

@[simp] theorem off_set_net (w : Nat) (s : State) (x5) (hw : 32 &&& w = 32) :
    (State.mk s.mono s.nonce s.cur s.boot s.pairs x5 s.fcr s.fns s.staged s.applied s.stored s.autoStart s.mem s.cle s.cse s.lsw s.planner s.guid s.yield s.headwind s.fus s.cam s.gns s.tsu s.eth s.can s.pwr s.pnl s.upd s.tst s.sent s.pending).off w = s.off w := by
  refine off_of_subset hw ?_
  simp [State.off, pick, Nat.testBit]

@[simp] theorem off_set_fcr (w : Nat) (s : State) (x6) (hw : 64 &&& w = 64) :
    (State.mk s.mono s.nonce s.cur s.boot s.pairs s.net x6 s.fns s.staged s.applied s.stored s.autoStart s.mem s.cle s.cse s.lsw s.planner s.guid s.yield s.headwind s.fus s.cam s.gns s.tsu s.eth s.can s.pwr s.pnl s.upd s.tst s.sent s.pending).off w = s.off w := by
  refine off_of_subset hw ?_
  simp [State.off, pick, Nat.testBit]

@[simp] theorem off_set_many14 (w : Nat) (s : State) (x6 x7 x8 x9 x10 x11 x13 x14 x15 x18 x20 x24 x26 x27) (hw : 219475904 &&& w = 219475904) :
    (State.mk s.mono s.nonce s.cur s.boot s.pairs s.net x6 x7 x8 x9 x10 x11 s.mem x13 x14 x15 s.planner s.guid x18 s.headwind x20 s.cam s.gns s.tsu x24 s.can x26 x27 s.upd s.tst s.sent s.pending).off w = s.off w := by
  refine off_of_subset hw ?_
  simp [State.off, pick, Nat.testBit]

@[simp] theorem off_set_fns (w : Nat) (s : State) (x7) (hw : 128 &&& w = 128) :
    (State.mk s.mono s.nonce s.cur s.boot s.pairs s.net s.fcr x7 s.staged s.applied s.stored s.autoStart s.mem s.cle s.cse s.lsw s.planner s.guid s.yield s.headwind s.fus s.cam s.gns s.tsu s.eth s.can s.pwr s.pnl s.upd s.tst s.sent s.pending).off w = s.off w := by
  refine off_of_subset hw ?_
  simp [State.off, pick, Nat.testBit]

@[simp] theorem off_set_staged (w : Nat) (s : State) (x8) (hw : 256 &&& w = 256) :
    (State.mk s.mono s.nonce s.cur s.boot s.pairs s.net s.fcr s.fns x8 s.applied s.stored s.autoStart s.mem s.cle s.cse s.lsw s.planner s.guid s.yield s.headwind s.fus s.cam s.gns s.tsu s.eth s.can s.pwr s.pnl s.upd s.tst s.sent s.pending).off w = s.off w := by
  refine off_of_subset hw ?_
  simp [State.off, pick, Nat.testBit]

@[simp] theorem off_set_applied (w : Nat) (s : State) (x9) (hw : 512 &&& w = 512) :
    (State.mk s.mono s.nonce s.cur s.boot s.pairs s.net s.fcr s.fns s.staged x9 s.stored s.autoStart s.mem s.cle s.cse s.lsw s.planner s.guid s.yield s.headwind s.fus s.cam s.gns s.tsu s.eth s.can s.pwr s.pnl s.upd s.tst s.sent s.pending).off w = s.off w := by
  refine off_of_subset hw ?_
  simp [State.off, pick, Nat.testBit]

@[simp] theorem off_set_stored_autoStart (w : Nat) (s : State) (x10 x11) (hw : 3072 &&& w = 3072) :
    (State.mk s.mono s.nonce s.cur s.boot s.pairs s.net s.fcr s.fns s.staged s.applied x10 x11 s.mem s.cle s.cse s.lsw s.planner s.guid s.yield s.headwind s.fus s.cam s.gns s.tsu s.eth s.can s.pwr s.pnl s.upd s.tst s.sent s.pending).off w = s.off w := by
  refine off_of_subset hw ?_
  simp [State.off, pick, Nat.testBit]

@[simp] theorem off_set_mem (w : Nat) (s : State) (x12) (hw : 4096 &&& w = 4096) :
    (State.mk s.mono s.nonce s.cur s.boot s.pairs s.net s.fcr s.fns s.staged s.applied s.stored s.autoStart x12 s.cle s.cse s.lsw s.planner s.guid s.yield s.headwind s.fus s.cam s.gns s.tsu s.eth s.can s.pwr s.pnl s.upd s.tst s.sent s.pending).off w = s.off w := by
  refine off_of_subset hw ?_
  simp [State.off, pick, Nat.testBit]

@[simp] theorem off_set_cle (w : Nat) (s : State) (x13) (hw : 8192 &&& w = 8192) :
    (State.mk s.mono s.nonce s.cur s.boot s.pairs s.net s.fcr s.fns s.staged s.applied s.stored s.autoStart s.mem x13 s.cse s.lsw s.planner s.guid s.yield s.headwind s.fus s.cam s.gns s.tsu s.eth s.can s.pwr s.pnl s.upd s.tst s.sent s.pending).off w = s.off w := by
  refine off_of_subset hw ?_
  simp [State.off, pick, Nat.testBit]

@[simp] theorem off_set_cse (w : Nat) (s : State) (x14) (hw : 16384 &&& w = 16384) :
    (State.mk s.mono s.nonce s.cur s.boot s.pairs s.net s.fcr s.fns s.staged s.applied s.stored s.autoStart s.mem s.cle x14 s.lsw s.planner s.guid s.yield s.headwind s.fus s.cam s.gns s.tsu s.eth s.can s.pwr s.pnl s.upd s.tst s.sent s.pending).off w = s.off w := by
  refine off_of_subset hw ?_
  simp [State.off, pick, Nat.testBit]

@[simp] theorem off_set_many4 (w : Nat) (s : State) (x14 x18 x24 x26) (hw : 84164608 &&& w = 84164608) :
    (State.mk s.mono s.nonce s.cur s.boot s.pairs s.net s.fcr s.fns s.staged s.applied s.stored s.autoStart s.mem s.cle x14 s.lsw s.planner s.guid x18 s.headwind s.fus s.cam s.gns s.tsu x24 s.can x26 s.pnl s.upd s.tst s.sent s.pending).off w = s.off w := by
  refine off_of_subset hw ?_
  simp [State.off, pick, Nat.testBit]

@[simp] theorem off_set_lsw (w : Nat) (s : State) (x15) (hw : 32768 &&& w = 32768) :
    (State.mk s.mono s.nonce s.cur s.boot s.pairs s.net s.fcr s.fns s.staged s.applied s.stored s.autoStart s.mem s.cle s.cse x15 s.planner s.guid s.yield s.headwind s.fus s.cam s.gns s.tsu s.eth s.can s.pwr s.pnl s.upd s.tst s.sent s.pending).off w = s.off w := by
  refine off_of_subset hw ?_
  simp [State.off, pick, Nat.testBit]

@[simp] theorem off_set_planner (w : Nat) (s : State) (x16) (hw : 65536 &&& w = 65536) :
    (State.mk s.mono s.nonce s.cur s.boot s.pairs s.net s.fcr s.fns s.staged s.applied s.stored s.autoStart s.mem s.cle s.cse s.lsw x16 s.guid s.yield s.headwind s.fus s.cam s.gns s.tsu s.eth s.can s.pwr s.pnl s.upd s.tst s.sent s.pending).off w = s.off w := by
  refine off_of_subset hw ?_
  simp [State.off, pick, Nat.testBit]

@[simp] theorem off_set_guid (w : Nat) (s : State) (x17) (hw : 131072 &&& w = 131072) :
    (State.mk s.mono s.nonce s.cur s.boot s.pairs s.net s.fcr s.fns s.staged s.applied s.stored s.autoStart s.mem s.cle s.cse s.lsw s.planner x17 s.yield s.headwind s.fus s.cam s.gns s.tsu s.eth s.can s.pwr s.pnl s.upd s.tst s.sent s.pending).off w = s.off w := by
  refine off_of_subset hw ?_
  simp [State.off, pick, Nat.testBit]

@[simp] theorem off_set_guid_headwind (w : Nat) (s : State) (x17 x19) (hw : 655360 &&& w = 655360) :
    (State.mk s.mono s.nonce s.cur s.boot s.pairs s.net s.fcr s.fns s.staged s.applied s.stored s.autoStart s.mem s.cle s.cse s.lsw s.planner x17 s.yield x19 s.fus s.cam s.gns s.tsu s.eth s.can s.pwr s.pnl s.upd s.tst s.sent s.pending).off w = s.off w := by
  refine off_of_subset hw ?_
  simp [State.off, pick, Nat.testBit]

@[simp] theorem off_set_yield (w : Nat) (s : State) (x18) (hw : 262144 &&& w = 262144) :
    (State.mk s.mono s.nonce s.cur s.boot s.pairs s.net s.fcr s.fns s.staged s.applied s.stored s.autoStart s.mem s.cle s.cse s.lsw s.planner s.guid x18 s.headwind s.fus s.cam s.gns s.tsu s.eth s.can s.pwr s.pnl s.upd s.tst s.sent s.pending).off w = s.off w := by
  refine off_of_subset hw ?_
  simp [State.off, pick, Nat.testBit]

@[simp] theorem off_set_headwind_fus (w : Nat) (s : State) (x19 x20) (hw : 1572864 &&& w = 1572864) :
    (State.mk s.mono s.nonce s.cur s.boot s.pairs s.net s.fcr s.fns s.staged s.applied s.stored s.autoStart s.mem s.cle s.cse s.lsw s.planner s.guid s.yield x19 x20 s.cam s.gns s.tsu s.eth s.can s.pwr s.pnl s.upd s.tst s.sent s.pending).off w = s.off w := by
  refine off_of_subset hw ?_
  simp [State.off, pick, Nat.testBit]

@[simp] theorem off_set_fus (w : Nat) (s : State) (x20) (hw : 1048576 &&& w = 1048576) :
    (State.mk s.mono s.nonce s.cur s.boot s.pairs s.net s.fcr s.fns s.staged s.applied s.stored s.autoStart s.mem s.cle s.cse s.lsw s.planner s.guid s.yield s.headwind x20 s.cam s.gns s.tsu s.eth s.can s.pwr s.pnl s.upd s.tst s.sent s.pending).off w = s.off w := by
  refine off_of_subset hw ?_
  simp [State.off, pick, Nat.testBit]

@[simp] theorem off_set_cam (w : Nat) (s : State) (x21) (hw : 2097152 &&& w = 2097152) :
    (State.mk s.mono s.nonce s.cur s.boot s.pairs s.net s.fcr s.fns s.staged s.applied s.stored s.autoStart s.mem s.cle s.cse s.lsw s.planner s.guid s.yield s.headwind s.fus x21 s.gns s.tsu s.eth s.can s.pwr s.pnl s.upd s.tst s.sent s.pending).off w = s.off w := by
  refine off_of_subset hw ?_
  simp [State.off, pick, Nat.testBit]

@[simp] theorem off_set_gns (w : Nat) (s : State) (x22) (hw : 4194304 &&& w = 4194304) :
    (State.mk s.mono s.nonce s.cur s.boot s.pairs s.net s.fcr s.fns s.staged s.applied s.stored s.autoStart s.mem s.cle s.cse s.lsw s.planner s.guid s.yield s.headwind s.fus s.cam x22 s.tsu s.eth s.can s.pwr s.pnl s.upd s.tst s.sent s.pending).off w = s.off w := by
  refine off_of_subset hw ?_
  simp [State.off, pick, Nat.testBit]

@[simp] theorem off_set_tsu (w : Nat) (s : State) (x23) (hw : 8388608 &&& w = 8388608) :
    (State.mk s.mono s.nonce s.cur s.boot s.pairs s.net s.fcr s.fns s.staged s.applied s.stored s.autoStart s.mem s.cle s.cse s.lsw s.planner s.guid s.yield s.headwind s.fus s.cam s.gns x23 s.eth s.can s.pwr s.pnl s.upd s.tst s.sent s.pending).off w = s.off w := by
  refine off_of_subset hw ?_
  simp [State.off, pick, Nat.testBit]

@[simp] theorem off_set_eth (w : Nat) (s : State) (x24) (hw : 16777216 &&& w = 16777216) :
    (State.mk s.mono s.nonce s.cur s.boot s.pairs s.net s.fcr s.fns s.staged s.applied s.stored s.autoStart s.mem s.cle s.cse s.lsw s.planner s.guid s.yield s.headwind s.fus s.cam s.gns s.tsu x24 s.can s.pwr s.pnl s.upd s.tst s.sent s.pending).off w = s.off w := by
  refine off_of_subset hw ?_
  simp [State.off, pick, Nat.testBit]

@[simp] theorem off_set_can (w : Nat) (s : State) (x25) (hw : 33554432 &&& w = 33554432) :
    (State.mk s.mono s.nonce s.cur s.boot s.pairs s.net s.fcr s.fns s.staged s.applied s.stored s.autoStart s.mem s.cle s.cse s.lsw s.planner s.guid s.yield s.headwind s.fus s.cam s.gns s.tsu s.eth x25 s.pwr s.pnl s.upd s.tst s.sent s.pending).off w = s.off w := by
  refine off_of_subset hw ?_
  simp [State.off, pick, Nat.testBit]

@[simp] theorem off_set_pwr (w : Nat) (s : State) (x26) (hw : 67108864 &&& w = 67108864) :
    (State.mk s.mono s.nonce s.cur s.boot s.pairs s.net s.fcr s.fns s.staged s.applied s.stored s.autoStart s.mem s.cle s.cse s.lsw s.planner s.guid s.yield s.headwind s.fus s.cam s.gns s.tsu s.eth s.can x26 s.pnl s.upd s.tst s.sent s.pending).off w = s.off w := by
  refine off_of_subset hw ?_
  simp [State.off, pick, Nat.testBit]

@[simp] theorem off_set_pnl (w : Nat) (s : State) (x27) (hw : 134217728 &&& w = 134217728) :
    (State.mk s.mono s.nonce s.cur s.boot s.pairs s.net s.fcr s.fns s.staged s.applied s.stored s.autoStart s.mem s.cle s.cse s.lsw s.planner s.guid s.yield s.headwind s.fus s.cam s.gns s.tsu s.eth s.can s.pwr x27 s.upd s.tst s.sent s.pending).off w = s.off w := by
  refine off_of_subset hw ?_
  simp [State.off, pick, Nat.testBit]

@[simp] theorem off_set_upd (w : Nat) (s : State) (x28) (hw : 268435456 &&& w = 268435456) :
    (State.mk s.mono s.nonce s.cur s.boot s.pairs s.net s.fcr s.fns s.staged s.applied s.stored s.autoStart s.mem s.cle s.cse s.lsw s.planner s.guid s.yield s.headwind s.fus s.cam s.gns s.tsu s.eth s.can s.pwr s.pnl x28 s.tst s.sent s.pending).off w = s.off w := by
  refine off_of_subset hw ?_
  simp [State.off, pick, Nat.testBit]

@[simp] theorem off_set_tst (w : Nat) (s : State) (x29) (hw : 536870912 &&& w = 536870912) :
    (State.mk s.mono s.nonce s.cur s.boot s.pairs s.net s.fcr s.fns s.staged s.applied s.stored s.autoStart s.mem s.cle s.cse s.lsw s.planner s.guid s.yield s.headwind s.fus s.cam s.gns s.tsu s.eth s.can s.pwr s.pnl s.upd x29 s.sent s.pending).off w = s.off w := by
  refine off_of_subset hw ?_
  simp [State.off, pick, Nat.testBit]

@[simp] theorem off_set_sent (w : Nat) (s : State) (x30) (hw : 1073741824 &&& w = 1073741824) :
    (State.mk s.mono s.nonce s.cur s.boot s.pairs s.net s.fcr s.fns s.staged s.applied s.stored s.autoStart s.mem s.cle s.cse s.lsw s.planner s.guid s.yield s.headwind s.fus s.cam s.gns s.tsu s.eth s.can s.pwr s.pnl s.upd s.tst x30 s.pending).off w = s.off w := by
  refine off_of_subset hw ?_
  simp [State.off, pick, Nat.testBit]

@[simp] theorem off_set_pending (w : Nat) (s : State) (x31) (hw : 2147483648 &&& w = 2147483648) :
    (State.mk s.mono s.nonce s.cur s.boot s.pairs s.net s.fcr s.fns s.staged s.applied s.stored s.autoStart s.mem s.cle s.cse s.lsw s.planner s.guid s.yield s.headwind s.fus s.cam s.gns s.tsu s.eth s.can s.pwr s.pnl s.upd s.tst s.sent x31).off w = s.off w := by
  refine off_of_subset hw ?_
  simp [State.off, pick, Nat.testBit]

@[simp] theorem off_ite (w : Nat) (c : Prop) [Decidable c] (a b : State) :
    (if c then a else b).off w = if c then a.off w else b.off w := apply_ite _ c a b

@[simp] theorem foldl_off {α : Type} (w : Nat) (g : State → α → State) (l : List α) (s : State)
    (hg : ∀ t a, (g t a).off w = t.off w) : (l.foldl g s).off w = s.off w := by
  induction l generalizing s with
  | nil => rfl
  | cons x r ih => rw [List.foldl_cons, ih, hg]

/-- A fold that carries more than the state. -/
theorem foldl_off_of {α β : Type} (w : Nat) (p : β → State) (g : β → α → β) (l : List α) (b : β)
    (hg : ∀ b a, (p (g b a)).off w = (p b).off w) : (p (l.foldl g b)).off w = (p b).off w := by
  induction l generalizing b with
  | nil => rfl
  | cons x r ih => rw [List.foldl_cons, ih, hg]

end Sys2Proof.Machine
end

