-- ==== Sys2Proof/Laws/FrameOps.lean ====
section
/-! SUPPORT. What each operation of Machine/Ops.lean leaves alone: one lemma per operation, with the set of fields it
may change. -/

set_option linter.unusedSimpArgs false

namespace Sys2Proof.Machine

@[simp] theorem State_setFn_off (s : State) (f : Nat) (v : Fn) (ws : Nat) (hw : 128 &&& ws = 128) : (State.setFn s f v).off ws = s.off ws := by
  refine off_of_subset hw ?_
  simp [State.setFn]

@[simp] theorem State_setPair_off (s : State) (i : Nat) (v : Pair) (ws : Nat) (hw : 16 &&& ws = 16) : (State.setPair s i v).off ws = s.off ws := by
  refine off_of_subset hw ?_
  simp [State.setPair]

@[simp] theorem State_setSrc_off (s : State) (n : Nat) (v : Src) (ws : Nat) (hw : 64 &&& ws = 64) : (State.setSrc s n v).off ws = s.off ws := by
  refine off_of_subset hw ?_
  simp [State.setSrc]

@[simp] theorem State_setLoop_off (s : State) (n : Nat) (v : Loop) (ws : Nat) (hw : 8192 &&& ws = 8192) : (State.setLoop s n v).off ws = s.off ws := by
  refine off_of_subset hw ?_
  simp [State.setLoop]

@[simp] theorem State_setGrp_off (s : State) (g : Nat) (v : Grp) (ws : Nat) (hw : 8192 &&& ws = 8192) : (State.setGrp s g v).off ws = s.off ws := by
  refine off_of_subset hw ?_
  simp [State.setGrp]

@[simp] theorem State_setSlot_off (s : State) (i : Nat) (v : Slot) (ws : Nat) (hw : 8192 &&& ws = 8192) : (State.setSlot s i v).off ws = s.off ws := by
  refine off_of_subset hw ?_
  simp [State.setSlot]

@[simp] theorem State_setChan_off (s : State) (k : Nat) (v : Chan) (ws : Nat) (hw : 32768 &&& ws = 32768) : (State.setChan s k v).off ws = s.off ws := by
  refine off_of_subset hw ?_
  simp [State.setChan]

@[simp] theorem State_setDie_off (s : State) (d : Nat) (v : Die) (ws : Nat) (hw : 32768 &&& ws = 32768) : (State.setDie s d v).off ws = s.off ws := by
  refine off_of_subset hw ?_
  simp [State.setDie]

@[simp] theorem State_setStud_off (s : State) (v : Nat) (x : Stud) (ws : Nat) (hw : 32768 &&& ws = 32768) : (State.setStud s v x).off ws = s.off ws := by
  refine off_of_subset hw ?_
  simp [State.setStud]

@[simp] theorem State_setDom_off (s : State) (d : Nat) (v : Domain) (ws : Nat) (hw : 8388608 &&& ws = 8388608) : (State.setDom s d v).off ws = s.off ws := by
  refine off_of_subset hw ?_
  simp [State.setDom]

@[simp] theorem State_setPort_off (s : State) (p : Nat) (v : Port) (ws : Nat) (hw : 16777216 &&& ws = 16777216) : (State.setPort s p v).off ws = s.off ws := by
  refine off_of_subset hw ?_
  simp [State.setPort]

@[simp] theorem State_setCan_off (s : State) (k : Nat) (v : Can) (ws : Nat) (hw : 33554432 &&& ws = 33554432) : (State.setCan s k v).off ws = s.off ws := by
  refine off_of_subset hw ?_
  simp [State.setCan]

@[simp] theorem everyNth_off (s : State) (kind target n : Nat) (ws : Nat) (hw : 536870912 &&& ws = 536870912) : (everyNth s kind target n).2.off ws = s.off ws := by
  refine off_of_subset hw ?_
  unfold everyNth; split <;> simp

@[simp] theorem State_setStg_off (s : State) (o : Obj) (b : Bytes) (ws : Nat) (hw : 256 &&& ws = 256) : (State.setStg s o b).off ws = s.off ws := by
  refine off_of_subset hw ?_
  simp [State.setStg]

@[simp] theorem State_setApp_off (s : State) (o : Obj) (b : Bytes) (ws : Nat) (hw : 512 &&& ws = 512) : (State.setApp s o b).off ws = s.off ws := by
  refine off_of_subset hw ?_
  simp [State.setApp]

@[simp] theorem State_draw_off (s : State) (ws : Nat) (hw : 2 &&& ws = 2) : (State.draw s).2.off ws = s.off ws := by
  refine off_of_subset hw ?_
  simp [State.draw]

end Sys2Proof.Machine
end

