-- ==== Sys2Proof/Laws/FrameStreams.lean ====
section
/-! SUPPORT. What each operation of Machine/Streams.lean leaves alone: one lemma per operation, with the set of fields it
may change. -/

set_option linter.unusedSimpArgs false

namespace Sys2Proof.Machine

@[simp] theorem pushAll_off (s : State) (typ : Nat) (mk : Session → Rec) (ws : Nat) (hw : 32 &&& ws = 32) : (pushAll s typ mk).off ws = s.off ws := by
  refine off_of_subset hw ?_
  simp [pushAll]

@[simp] theorem slogAdd_off (s : State) (kind : Nat) (body : Bytes) (ws : Nat) (hw : 32 &&& ws = 32) : (slogAdd s kind body).off ws = s.off ws := by
  refine off_of_subset hw ?_
  simp [slogAdd]

@[simp] theorem emitTo_off (s : State) (cause : Option (Nat × Nat)) (fault : Bool) (pos : Option Nat) (code func : Nat) (data : Bytes) (ws : Nat) (hw : 32 &&& ws = 32) : (emitTo s cause fault pos code func data).off ws = s.off ws := by
  refine off_of_subset hw ?_
  simp [emitTo]

@[simp] theorem emit_off (s : State) (code func : Nat) (data : Bytes) (ws : Nat) (hw : 32 &&& ws = 32) : (emit s code func data).off ws = s.off ws := by
  refine off_of_subset hw ?_
  simp [emit]

@[simp] theorem emitOwner_off (s : State) (n : Nat) (ws : Nat) (hw : 32 &&& ws = 32) : (emitOwner s n).off ws = s.off ws := by
  refine off_of_subset hw ?_
  simp [emitOwner]

@[simp] theorem releaseToken_off (s : State) (n : Nat) (ws : Nat) (hw : 32 &&& ws = 32) : (releaseToken s n).off ws = s.off ws := by
  refine off_of_subset hw ?_
  simp [releaseToken]

@[simp] theorem logClosing_off (s : State) (x : Session) (cause : Nat) (ws : Nat) (hw : 32 &&& ws = 32) : (logClosing s x cause).off ws = s.off ws := by
  refine off_of_subset hw ?_
  simp [logClosing]

@[simp] theorem closeSession_off (s : State) (n cause : Nat) (ws : Nat) (hw : 32 &&& ws = 32) : (closeSession s n cause).off ws = s.off ws := by
  refine off_of_subset hw ?_
  unfold closeSession; split <;> simp

@[simp] theorem flogAdd_off (s : State) (time : T96) (num : Option Nat) (body : Bytes) (ws : Nat) (hw : 96 &&& ws = 96) : (flogAdd s time num body).2.off ws = s.off ws := by
  refine off_of_subset hw ?_
  simp [flogAdd]

@[simp] theorem emitFault_off (s : State) (code func : Nat) (data : Bytes) (ws : Nat) (hw : 96 &&& ws = 96) : (emitFault s code func data).off ws = s.off ws := by
  refine off_of_subset hw ?_
  simp [emitFault]

@[simp] theorem isoSend_off (s : State) (id : Nat) (d : Bytes) (ws : Nat) (hw : 33554432 &&& ws = 33554432) : (isoSend s id d).off ws = s.off ws := by
  refine off_of_subset hw ?_
  simp [isoSend]

@[simp] theorem isoBegin_off (s : State) (id : Nat) (m : Bytes) (ws : Nat) (hw : 33554432 &&& ws = 33554432) : (isoBegin s id m).1.off ws = s.off ws := by
  refine off_of_subset hw ?_
  unfold isoBegin; (repeat' (first | split | dsimp only)) <;> simp

@[simp] theorem isoQueue_off (s : State) (id : Nat) (m : Bytes) (ws : Nat) (hw : 33554464 &&& ws = 33554464) : (isoQueue s id m).off ws = s.off ws := by
  refine off_of_subset hw ?_
  unfold isoQueue; (repeat' (first | split | dsimp only)) <;> (first | (simp; done) | (rename_i h; have hh := congrArg (fun r => State.off 33554464 r.1) h; simp at hh; simp [hh]))

@[simp] theorem sendPacket_off (s : State) (ep : Endpoint) (k : Packet) (ws : Nat) (hw : 1107296288 &&& ws = 1107296288) : (sendPacket s ep k).off ws = s.off ws := by
  refine off_of_subset hw ?_
  unfold sendPacket; split <;> simp

@[simp] theorem isoNext_off (s : State) (id : Nat) (ws : Nat) (hw : 33554464 &&& ws = 33554464) : (isoNext s id).off ws = s.off ws := by
  refine off_of_subset hw ?_
  unfold isoNext; (repeat' (first | split | dsimp only)) <;> (first | (simp; done) | (rename_i h; have hh := congrArg (fun r => State.off 33554464 r.1) h; simp at hh; simp [hh]))

@[simp] theorem isoEnd_off (s : State) (id : Nat) (ws : Nat) (hw : 33554464 &&& ws = 33554464) : (isoEnd s id).off ws = s.off ws := by
  refine off_of_subset hw ?_
  simp [isoEnd]

@[simp] theorem isoPut_off (s : State) (t : IsoTx) (ws : Nat) (hw : 32 &&& ws = 32) : (isoPut s t).off ws = s.off ws := by
  refine off_of_subset hw ?_
  simp [isoPut]

@[simp] theorem isoFrame_off (s : State) (t : IsoTx) (ws : Nat) (hw : 33554464 &&& ws = 33554464) : (isoFrame s t).off ws = s.off ws := by
  refine off_of_subset hw ?_
  simp [isoFrame]

@[simp] theorem isoTick_off (s : State) (ws : Nat) (hw : 33554464 &&& ws = 33554464) : (isoTick s).off ws = s.off ws := by
  refine off_of_subset hw ?_
  simp [isoTick]

@[simp] theorem drainStreams_off (s : State) (ws : Nat) (hw : 1107296288 &&& ws = 1107296288) : (drainStreams s).off ws = s.off ws := by
  refine off_of_subset hw ?_
  unfold drainStreams; (repeat' (first | (refine (forN_off _ _ _ _ ?_).trans ?_) | (refine (foldl_off _ _ _ _ ?_).trans ?_) | intro _ | split | dsimp only)) <;> simp

end Sys2Proof.Machine
end

