-- ==== Sys2Proof/Laws/FrameLife.lean ====
section
/-! SUPPORT. What each operation of Machine/Life.lean leaves alone: one lemma per operation, with the set of fields it
may change. -/

set_option linter.unusedSimpArgs false

namespace Sys2Proof.Machine

@[simp] theorem changeState_off (s : State) (f : Nat) (n : FnState) (ws : Nat) (hw : 160 &&& ws = 160) : (changeState s f n).off ws = s.off ws := by
  refine off_of_subset hw ?_
  simp [changeState]

@[simp] theorem startOutcome_off (s : State) (f : Nat) (cause : Option (Nat × Nat)) (status : Nat) (ws : Nat) (hw : 32 &&& ws = 32) : (startOutcome s f cause status).off ws = s.off ws := by
  refine off_of_subset hw ?_
  simp [startOutcome]

@[simp] theorem cancelPend_off (s : State) (f : Nat) (ws : Nat) (hw : 160 &&& ws = 160) : (cancelPend s f).off ws = s.off ws := by
  refine off_of_subset hw ?_
  unfold cancelPend; split <;> simp

@[simp] theorem restage_off (s : State) (f : Nat) (ws : Nat) (hw : 256 &&& ws = 256) : (restage s f).off ws = s.off ws := by
  refine off_of_subset hw ?_
  simp [restage]

@[simp] theorem applyCfg_off (s : State) (f : Nat) (ws : Nat) (hw : 640 &&& ws = 640) : (applyCfg s f).off ws = s.off ws := by
  refine off_of_subset hw ?_
  simp [applyCfg]

@[simp] theorem beginStart_off (s : State) (f : Nat) (ws : Nat) (hw : 672 &&& ws = 672) : (beginStart s f).off ws = s.off ws := by
  refine off_of_subset hw ?_
  simp [beginStart]

@[simp] theorem markConfig_off (s : State) (f : Nat) (ws : Nat) (hw : 160 &&& ws = 160) : (markConfig s f).off ws = s.off ws := by
  refine off_of_subset hw ?_
  simp [markConfig]

@[simp] theorem startFn_off (check : State → State × Verdict) (commit : State → State) (f : Nat) (s : State) (ws : Nat) (hcheck : ∀ t, (check t).1.off ws = t.off ws) (hcommit : ∀ t, (commit t).off ws = t.off ws) (hw : 128 &&& ws = 128) : (startFn check commit f s).1.off ws = s.off ws := by
  have k128 : 128 &&& ws = 128 := sub_of (b := 128) (by decide) hw
  unfold startFn; (repeat' (first | split | dsimp only)) <;> first | (simp [k128]; done) | (rename_i h; have hh := congrArg (fun r => State.off ws r.1) h; simp [hcheck] at hh; simp [hh, hcommit])

@[simp] theorem finishStop_off (check : State → State × Verdict) (commit : State → State) (f : Nat) (s : State) (ws : Nat) (hcheck : ∀ t, (check t).1.off ws = t.off ws) (hcommit : ∀ t, (commit t).off ws = t.off ws) (hw : 420 &&& ws = 420) : (finishStop check commit f s).off ws = s.off ws := by
  have k4 : 4 &&& ws = 4 := sub_of (b := 420) (by decide) hw
  have k32 : 32 &&& ws = 32 := sub_of (b := 420) (by decide) hw
  have k128 : 128 &&& ws = 128 := sub_of (b := 420) (by decide) hw
  have k160 : 160 &&& ws = 160 := sub_of (b := 420) (by decide) hw
  have k256 : 256 &&& ws = 256 := sub_of (b := 420) (by decide) hw
  unfold finishStop; (repeat' (first | split | dsimp only)) <;> first | (simp [k4, k32, k128, k160, k256]; done) | (rename_i h; have hh := congrArg (fun r => State.off ws r.1) h; simp [hcheck, k4, k32, k128, k160, k256] at hh; simp [hh, hcommit, k4, k32, k128, k160, k256])

@[simp] theorem beginStop_off (s : State) (f : Nat) (ws : Nat) (hw : 160 &&& ws = 160) : (beginStop s f).off ws = s.off ws := by
  refine off_of_subset hw ?_
  simp [beginStop]

@[simp] theorem faultStopping_off (s : State) (f : Nat) (ws : Nat) (hw : 160 &&& ws = 160) : (faultStopping s f).off ws = s.off ws := by
  refine off_of_subset hw ?_
  simp [faultStopping]

@[simp] theorem blockReset_off (s : State) (f : Nat) (ws : Nat) (hw : 416 &&& ws = 416) : (blockReset s f).off ws = s.off ws := by
  refine off_of_subset hw ?_
  simp [blockReset]

end Sys2Proof.Machine
end

