-- ==== Sys2Proof/Laws/FrameFaults.lean ====
section
/-! SUPPORT. What each operation of Machine/Faults.lean leaves alone: one lemma per operation, with the set of fields it
may change. -/

set_option linter.unusedSimpArgs false

namespace Sys2Proof.Machine

@[simp] theorem faultRecord_off (s : State) (kind src sev reaction detail tick : Nat) (time : T96) (occ : Nat) (entries : List (Nat × Nat)) (ws : Nat) (hw : 96 &&& ws = 96) : (faultRecord s kind src sev reaction detail tick time occ entries).off ws = s.off ws := by
  refine off_of_subset hw ?_
  simp [faultRecord]

@[simp] theorem squallEnd_off (s : State) (ws : Nat) (hw : 96 &&& ws = 96) : (squallEnd s).off ws = s.off ws := by
  refine off_of_subset hw ?_
  simp [squallEnd]

@[simp] theorem tally_off (s : State) (n : Nat) (always : Bool) (ws : Nat) (hw : 96 &&& ws = 96) : (tally s n always).2.off ws = s.off ws := by
  refine off_of_subset hw ?_
  unfold tally; (repeat' (first | split | dsimp only)) <;> simp

@[simp] theorem capture_off (s : State) (n sev detail : Nat) (acc : Nat × Nat × Nat) (ws : Nat) (hw : 64 &&& ws = 64) : (capture s n sev detail acc).off ws = s.off ws := by
  refine off_of_subset hw ?_
  unfold capture; (repeat' (first | split | dsimp only)) <;> simp

@[simp] theorem seeRaise_off (s : State) (n enc detail : Nat) (acc : Nat × Nat × Nat) (ws : Nat) (hw : 96 &&& ws = 96) : (seeRaise s n enc detail acc).off ws = s.off ws := by
  refine off_of_subset hw ?_
  unfold seeRaise; split <;> simp

@[simp] theorem seeReturn_off (s : State) (n : Nat) (ws : Nat) (hw : 96 &&& ws = 96) : (seeReturn s n).off ws = s.off ws := by
  refine off_of_subset hw ?_
  unfold seeReturn; (repeat' (first | split | dsimp only)) <;> simp

@[simp] theorem seeRestore_off (s : State) (n : Nat) (ws : Nat) (hw : 96 &&& ws = 96) : (seeRestore s n).off ws = s.off ws := by
  refine off_of_subset hw ?_
  simp [seeRestore]

@[simp] theorem raiseEnc_off (s : State) (n enc detail : Nat) (acc : Nat × Nat × Nat) (ws : Nat) (hw : 96 &&& ws = 96) : (raiseEnc s n enc detail acc).off ws = s.off ws := by
  refine off_of_subset hw ?_
  unfold raiseEnc; split <;> simp

@[simp] theorem returnSrc_off (s : State) (n : Nat) (ws : Nat) (hw : 96 &&& ws = 96) : (returnSrc s n).off ws = s.off ws := by
  refine off_of_subset hw ?_
  simp [returnSrc]

@[simp] theorem linkToError_off (s : State) (n : Nat) (ws : Nat) (hw : 96 &&& ws = 96) : (linkToError s n).off ws = s.off ws := by
  refine off_of_subset hw ?_
  simp [linkToError]

@[simp] theorem seeEnc_off (s : State) (n enc : Nat) (ws : Nat) (hw : 96 &&& ws = 96) : (seeEnc s n enc).off ws = s.off ws := by
  refine off_of_subset hw ?_
  simp [seeEnc]

@[simp] theorem resample_off (s : State) (ws : Nat) (hw : 96 &&& ws = 96) : (resample s).off ws = s.off ws := by
  refine off_of_subset hw ?_
  simp [resample]

@[simp] theorem raise_off (s : State) (n detail : Nat) (ws : Nat) (hw : 96 &&& ws = 96) : (raise s n detail).off ws = s.off ws := by
  refine off_of_subset hw ?_
  simp [raise]

@[simp] theorem pulse_off (s : State) (n detail : Nat) (ws : Nat) (hw : 96 &&& ws = 96) : (pulse s n detail).off ws = s.off ws := by
  refine off_of_subset hw ?_
  simp [pulse]

@[simp] theorem setErr_off (s : State) (n : Nat) (err : Bool) (detail : Nat) (ws : Nat) (hw : 96 &&& ws = 96) : (setErr s n err detail).off ws = s.off ws := by
  refine off_of_subset hw ?_
  simp [setErr]

@[simp] theorem pairOutcome_off (s : State) (n reaction : Nat) (ws : Nat) (hw : 96 &&& ws = 96) : (pairOutcome s n reaction).off ws = s.off ws := by
  refine off_of_subset hw ?_
  unfold pairOutcome; split <;> simp

@[simp] theorem pairOutcomes_off (s : State) (reaction : Nat) (ws : Nat) (hw : 96 &&& ws = 96) : (pairOutcomes s reaction).off ws = s.off ws := by
  refine off_of_subset hw ?_
  simp [pairOutcomes]

end Sys2Proof.Machine
end

