-- ==== Sys2Proof/Laws/FrameProto.lean ====
section
/-! SUPPORT. What each operation of Machine/Proto.lean leaves alone: one lemma per operation, with the set of fields it
may change. -/

set_option linter.unusedSimpArgs false

namespace Sys2Proof.Machine

@[simp] theorem okWith_off (s : State) (d : Bytes) (ws : Nat) (hw : 0 &&& ws = 0) : (okWith s d).s.off ws = s.off ws := by
  refine off_of_subset hw ?_
  simp [okWith]

@[simp] theorem okAns_off (s : State) (ws : Nat) (hw : 0 &&& ws = 0) : (okAns s).s.off ws = s.off ws := by
  refine off_of_subset hw ?_
  simp [okAns]

@[simp] theorem failAns_off (s : State) (st detail : Nat) (ws : Nat) (hw : 0 &&& ws = 0) : (failAns s st detail).s.off ws = s.off ws := by
  refine off_of_subset hw ?_
  simp [failAns]

@[simp] theorem badParam_off (s : State) (off : Nat) (ws : Nat) (hw : 0 &&& ws = 0) : (badParam s off).s.off ws = s.off ws := by
  refine off_of_subset hw ?_
  simp [badParam]

@[simp] theorem cfgAnswer_off (s : State) (fids : List Nat) (stage : State → State) (ws : Nat) (hstage : ∀ t, (stage t).off ws = t.off ws) (hw : 160 &&& ws = 160) : (cfgAnswer s fids stage).s.off ws = s.off ws := by
  unfold cfgAnswer; (repeat' (first | split | dsimp only)) <;> simp_all [hstage]

@[simp] theorem forN_off (n : Nat) (f : State → Nat → State) (s : State) (ws : Nat) (hf : ∀ t a, (f t a).off ws = t.off ws) : (forN n f s).off ws = s.off ws := by
  simp [forN, hf]

end Sys2Proof.Machine
end

