-- ==== Sys2Proof/Laws/FrameBudget.lean ====
section
/-! SUPPORT. What each operation of Machine/Budget.lean leaves alone: one lemma per operation, with the set of fields it
may change. -/

set_option linter.unusedSimpArgs false

namespace Sys2Proof.Machine

@[simp] theorem State_setPipe_off (s : State) (k : Nat) (v : Pipe) (ws : Nat) (hw : 2097152 &&& ws = 2097152) : (State.setPipe s k v).off ws = s.off ws := by
  refine off_of_subset hw ?_
  simp [State.setPipe]

@[simp] theorem State_setHolder_off (s : State) (h : Nat) (v : Holder) (ws : Nat) (hw : 67108864 &&& ws = 67108864) : (State.setHolder s h v).off ws = s.off ws := by
  refine off_of_subset hw ?_
  simp [State.setHolder]

end Sys2Proof.Machine
end

