-- ==== Sys2Proof/Laws/FrameLsw.lean ====
section
/-! SUPPORT. What each operation of Machine/Lsw.lean leaves alone: one lemma per operation, with the set of fields it
may change. -/

set_option linter.unusedSimpArgs false

namespace Sys2Proof.Machine

@[simp] theorem chanReport_off (s0 s : State) (k : Nat) (ws : Nat) (hw : 96 &&& ws = 96) : (chanReport s0 s k).off ws = s.off ws := by
  refine off_of_subset hw ?_
  simp [chanReport]

@[simp] theorem chanDo_off (s : State) (k : Nat) (f : State → State) (ws : Nat) (hf : ∀ t, (f t).off ws = t.off ws) (hw : 96 &&& ws = 96) : (chanDo s k f).off ws = s.off ws := by
  unfold chanDo; (repeat' (first | split | dsimp only)) <;> simp_all [hf]

@[simp] theorem gustEnd_off (s : State) (k outcome : Nat) (ws : Nat) (hw : 32864 &&& ws = 32864) : (gustEnd s k outcome).off ws = s.off ws := by
  refine off_of_subset hw ?_
  simp [gustEnd]

@[simp] theorem unqueue_off (s : State) (k : Nat) (ws : Nat) (hw : 32768 &&& ws = 32768) : (unqueue s k).off ws = s.off ws := by
  refine off_of_subset hw ?_
  simp [unqueue]

@[simp] theorem switchOff_off (s : State) (k : Nat) (d : Drive) (ws : Nat) (hw : 32768 &&& ws = 32768) : (switchOff s k d).off ws = s.off ws := by
  refine off_of_subset hw ?_
  simp [switchOff]

@[simp] theorem latchNow_off (s : State) (k cause : Nat) (ws : Nat) (hw : 32864 &&& ws = 32864) : (latchNow s k cause).off ws = s.off ws := by
  refine off_of_subset hw ?_
  simp [latchNow]

@[simp] theorem latchOff_off (s : State) (k cause : Nat) (ws : Nat) (hw : 32864 &&& ws = 32864) : (latchOff s k cause).off ws = s.off ws := by
  refine off_of_subset hw ?_
  simp [latchOff]

@[simp] theorem lockOff_off (s : State) (k cause : Nat) (ws : Nat) (hw : 32864 &&& ws = 32864) : (lockOff s k cause).off ws = s.off ws := by
  refine off_of_subset hw ?_
  simp [lockOff]

@[simp] theorem grantOn_off (s : State) (k : Nat) (ws : Nat) (hw : 32768 &&& ws = 32768) : (grantOn s k).off ws = s.off ws := by
  refine off_of_subset hw ?_
  simp [grantOn]

@[simp] theorem simShort_off (s : State) (k : Nat) (ws : Nat) (hw : 32768 &&& ws = 32768) : (simShort s k).off ws = s.off ws := by
  refine off_of_subset hw ?_
  simp [simShort]

@[simp] theorem requestStud_off (s : State) (k : Nat) (ws : Nat) (hw : 32768 &&& ws = 32768) : (requestStud s k).off ws = s.off ws := by
  refine off_of_subset hw ?_
  simp [requestStud]

@[simp] theorem requestOn_off (s : State) (k : Nat) (ws : Nat) (hw : 32768 &&& ws = 32768) : (requestOn s k).off ws = s.off ws := by
  refine off_of_subset hw ?_
  simp [requestOn]

@[simp] theorem turnOn_off (s : State) (k : Nat) (ws : Nat) (hw : 32768 &&& ws = 32768) : (turnOn s k).off ws = s.off ws := by
  refine off_of_subset hw ?_
  simp [turnOn]

@[simp] theorem setCmd_off (s : State) (k : Nat) (v : F32) (ws : Nat) (hw : 32864 &&& ws = 32864) : (setCmd s k v).off ws = s.off ws := by
  refine off_of_subset hw ?_
  simp [setCmd]

@[simp] theorem hostCmd_off (s : State) (k : Nat) (v : F32) (ws : Nat) (hw : 32864 &&& ws = 32864) : (hostCmd s k v).off ws = s.off ws := by
  refine off_of_subset hw ?_
  simp [hostCmd]

@[simp] theorem loopCmdTo_off (s : State) (k n : Nat) (amps : F32) (ws : Nat) (hw : 32864 &&& ws = 32864) : (loopCmdTo s k n amps).off ws = s.off ws := by
  refine off_of_subset hw ?_
  simp [loopCmdTo]

@[simp] theorem chanSafe_off (s : State) (k : Nat) (ws : Nat) (hw : 32864 &&& ws = 32864) : (chanSafe s k).off ws = s.off ws := by
  refine off_of_subset hw ?_
  unfold chanSafe; (repeat' (first | split | dsimp only)) <;> simp

@[simp] theorem quietOpen_off (s : State) (v : Nat) (ws : Nat) (hw : 32768 &&& ws = 32768) : (quietOpen s v).off ws = s.off ws := by
  refine off_of_subset hw ?_
  simp [quietOpen]

@[simp] theorem quietClose_off (s : State) (v : Nat) (ws : Nat) (hw : 32768 &&& ws = 32768) : (quietClose s v).off ws = s.off ws := by
  refine off_of_subset hw ?_
  simp [quietClose]

@[simp] theorem slotEnd_off (s : State) (i cause : Nat) (ws : Nat) (hw : 536871008 &&& ws = 536871008) : (slotEnd s i cause).off ws = s.off ws := by
  refine off_of_subset hw ?_
  unfold slotEnd; split <;> simp

@[simp] theorem shorted_off (s : State) (k : Nat) (ws : Nat) (hw : 536903776 &&& ws = 536903776) : (shorted s k).off ws = s.off ws := by
  refine off_of_subset hw ?_
  unfold shorted; (repeat' (first | split | dsimp only)) <;> simp

@[simp] theorem leaveLimit_off (s : State) (k : Nat) (ws : Nat) (hw : 32768 &&& ws = 32768) : (leaveLimit s k).off ws = s.off ws := by
  refine off_of_subset hw ?_
  simp [leaveLimit]

@[simp] theorem attemptEnd_off (s : State) (k : Nat) (ws : Nat) (hw : 32864 &&& ws = 32864) : (attemptEnd s k).off ws = s.off ws := by
  refine off_of_subset hw ?_
  simp [attemptEnd]

@[simp] theorem xCurrentLimitEntry_off (k riseNs : Nat) (s : State) (ws : Nat) (hw : 32768 &&& ws = 32768) : (xCurrentLimitEntry k riseNs s).off ws = s.off ws := by
  refine off_of_subset hw ?_
  simp [xCurrentLimitEntry]

@[simp] theorem setVolts_off (s : State) (v : Nat) (x : F32) (ws : Nat) (hw : 32768 &&& ws = 32768) : (setVolts s v x).off ws = s.off ws := by
  refine off_of_subset hw ?_
  simp [setVolts]

@[simp] theorem xShortClassifyCheck_off (k : Nat) (vOut vStud : F32) (s : State) (ws : Nat) (hw : 536903776 &&& ws = 536903776) : (xShortClassifyCheck k vOut vStud s).off ws = s.off ws := by
  refine off_of_subset hw ?_
  simp [xShortClassifyCheck]

@[simp] theorem xShortConfirmExpiry_off (k : Nat) (s : State) (ws : Nat) (hw : 536903776 &&& ws = 536903776) : (xShortConfirmExpiry k s).off ws = s.off ws := by
  refine off_of_subset hw ?_
  simp [xShortConfirmExpiry]

@[simp] theorem xQuietWindowExpiry_off (v : Nat) (s : State) (ws : Nat) (hw : 32768 &&& ws = 32768) : (xQuietWindowExpiry v s).off ws = s.off ws := by
  refine off_of_subset hw ?_
  simp [xQuietWindowExpiry]

@[simp] theorem xLimitExit_off (k : Nat) (s : State) (ws : Nat) (hw : 32864 &&& ws = 32864) : (xLimitExit k s).off ws = s.off ws := by
  refine off_of_subset hw ?_
  simp [xLimitExit]

@[simp] theorem xLimitTimeExpiry_off (k : Nat) (s : State) (ws : Nat) (hw : 32864 &&& ws = 32864) : (xLimitTimeExpiry k s).off ws = s.off ws := by
  refine off_of_subset hw ?_
  simp [xLimitTimeExpiry]

@[simp] theorem xRetryOffExpiry_off (k : Nat) (s : State) (ws : Nat) (hw : 32864 &&& ws = 32864) : (xRetryOffExpiry k s).off ws = s.off ws := by
  refine off_of_subset hw ?_
  simp [xRetryOffExpiry]

@[simp] theorem setTemp_off (s : State) (d : Nat) (t : F32) (ws : Nat) (hw : 32768 &&& ws = 32768) : (setTemp s d t).off ws = s.off ws := by
  refine off_of_subset hw ?_
  simp [setTemp]

@[simp] theorem tripChan_off (s : State) (k : Nat) (ws : Nat) (hw : 32864 &&& ws = 32864) : (tripChan s k).off ws = s.off ws := by
  refine off_of_subset hw ?_
  simp [tripChan]

@[simp] theorem xDieOverTemperature_off (d : Nat) (t : F32) (s : State) (ws : Nat) (hw : 32864 &&& ws = 32864) : (xDieOverTemperature d t s).off ws = s.off ws := by
  refine off_of_subset hw ?_
  simp [xDieOverTemperature]

@[simp] theorem coolChan_off (s : State) (k : Nat) (ws : Nat) (hw : 32864 &&& ws = 32864) : (coolChan s k).off ws = s.off ws := by
  refine off_of_subset hw ?_
  simp [coolChan]

@[simp] theorem xDieGateOpen_off (d : Nat) (t : F32) (s : State) (ws : Nat) (hw : 32864 &&& ws = 32864) : (xDieGateOpen d t s).off ws = s.off ws := by
  refine off_of_subset hw ?_
  simp [xDieGateOpen]

@[simp] theorem xDieSensorFault_off (d : Nat) (t : F32) (s : State) (ws : Nat) (hw : 32864 &&& ws = 32864) : (xDieSensorFault d t s).off ws = s.off ws := by
  refine off_of_subset hw ?_
  simp [xDieSensorFault]

@[simp] theorem supplyOff_off (s : State) (k : Nat) (under : Bool) (ws : Nat) (hw : 32864 &&& ws = 32864) : (supplyOff s k under).off ws = s.off ws := by
  refine off_of_subset hw ?_
  simp [supplyOff]

@[simp] theorem supplySource_off (s : State) (v : Nat) (ws : Nat) (hw : 96 &&& ws = 96) : (supplySource s v).off ws = s.off ws := by
  refine off_of_subset hw ?_
  simp [supplySource]

@[simp] theorem xStudUnderVoltage_off (v : Nat) (x : F32) (s : State) (ws : Nat) (hw : 32864 &&& ws = 32864) : (xStudUnderVoltage v x s).off ws = s.off ws := by
  refine off_of_subset hw ?_
  simp [xStudUnderVoltage]

@[simp] theorem xStudOverVoltage_off (v : Nat) (x : F32) (byMean : Bool) (s : State) (ws : Nat) (hw : 32864 &&& ws = 32864) : (xStudOverVoltage v x byMean s).off ws = s.off ws := by
  refine off_of_subset hw ?_
  simp [xStudOverVoltage]

@[simp] theorem settleChan_off (s : State) (k : Nat) (q : StudSpan) (ws : Nat) (hw : 32864 &&& ws = 32864) : (settleChan s k q).off ws = s.off ws := by
  refine off_of_subset hw ?_
  simp [settleChan]

@[simp] theorem xStudSupplySettled_off (v : Nat) (q : StudSpan) (s : State) (ws : Nat) (hw : 32864 &&& ws = 32864) : (xStudSupplySettled v q s).off ws = s.off ws := by
  refine off_of_subset hw ?_
  simp [xStudSupplySettled]

@[simp] theorem xChannelOverload_off (k : Nat) (mean : F32) (s : State) (ws : Nat) (hw : 32864 &&& ws = 32864) : (xChannelOverload k mean s).off ws = s.off ws := by
  refine off_of_subset hw ?_
  simp [xChannelOverload]

@[simp] theorem xOpenLoadDetect_off (k : Nat) (isOpen : Bool) (current : F32) (s : State) (ws : Nat) (hw : 32864 &&& ws = 32864) : (xOpenLoadDetect k isOpen current s).off ws = s.off ws := by
  refine off_of_subset hw ?_
  simp [xOpenLoadDetect]

@[simp] theorem xClampEventBegin_off (k : Nat) (s : State) (ws : Nat) (hw : 32768 &&& ws = 32768) : (xClampEventBegin k s).off ws = s.off ws := by
  refine off_of_subset hw ?_
  simp [xClampEventBegin]

@[simp] theorem xClampEventEnd_off (k : Nat) (samples : List ClampSample) (s : State) (ws : Nat) (hw : 32864 &&& ws = 32864) : (xClampEventEnd k samples s).off ws = s.off ws := by
  refine off_of_subset hw ?_
  simp [xClampEventEnd]

@[simp] theorem xClampWindowAgeOut_off (k : Nat) (s : State) (ws : Nat) (hw : 32768 &&& ws = 32768) : (xClampWindowAgeOut k s).off ws = s.off ws := by
  refine off_of_subset hw ?_
  simp [xClampWindowAgeOut]

@[simp] theorem admitQueue_off (s : State) (l : List (Nat × Nat)) (ws : Nat) (hw : 32864 &&& ws = 32864) : (admitQueue s l).off ws = s.off ws := by
  refine off_of_subset hw ?_
  induction l generalizing s with
  | nil => rfl
  | cons e r ih =>
    unfold admitQueue
    (repeat' (first | split | dsimp only)) <;> simp [ih]

@[simp] theorem admitStud_off (s : State) (v : Nat) (ws : Nat) (hw : 32864 &&& ws = 32864) : (admitStud s v).off ws = s.off ws := by
  refine off_of_subset hw ?_
  simp [admitStud]

@[simp] theorem xStudGateAdmit_off (v : Nat) (means : List F32) (s : State) (ws : Nat) (hw : 32864 &&& ws = 32864) : (xStudGateAdmit v means s).off ws = s.off ws := by
  refine off_of_subset hw ?_
  simp [xStudGateAdmit]

@[simp] theorem xStudCurrentGate_off (v : Nat) (mean : F32) (s : State) (ws : Nat) (hw : 32864 &&& ws = 32864) : (xStudCurrentGate v mean s).off ws = s.off ws := by
  refine off_of_subset hw ?_
  simp [xStudCurrentGate]

@[simp] theorem xPwmPeriodStart_off (k : Nat) (vMean : F32) (s : State) (ws : Nat) (hw : 32770 &&& ws = 32770) : (xPwmPeriodStart k vMean s).off ws = s.off ws := by
  refine off_of_subset hw ?_
  simp [xPwmPeriodStart]

@[simp] theorem xPwmOnTimeEnd_off (k : Nat) (s : State) (ws : Nat) (hw : 32768 &&& ws = 32768) : (xPwmOnTimeEnd k s).off ws = s.off ws := by
  refine off_of_subset hw ?_
  simp [xPwmOnTimeEnd]

@[simp] theorem chanCheck_off (s : State) (k : Nat) (ws : Nat) (hw : 0 &&& ws = 0) : (chanCheck s k).1.off ws = s.off ws := by
  refine off_of_subset hw ?_
  simp [chanCheck]

@[simp] theorem chanCommit_off (s : State) (k : Nat) (ws : Nat) (hw : 33440 &&& ws = 33440) : (chanCommit s k).off ws = s.off ws := by
  refine off_of_subset hw ?_
  simp [chanCommit]

@[simp] theorem xChannelStartCommit_off (k : Nat) (s : State) (ws : Nat) (hw : 32992 &&& ws = 32992) : (xChannelStartCommit k s).off ws = s.off ws := by
  refine off_of_subset hw ?_
  simp [xChannelStartCommit]

@[simp] theorem chanStop_off (s : State) (k : Nat) (ws : Nat) (hw : 32992 &&& ws = 32992) : (chanStop s k).off ws = s.off ws := by
  refine off_of_subset hw ?_
  simp [chanStop]

@[simp] theorem chanOff_off (s : State) (k : Nat) (ws : Nat) (hw : 32864 &&& ws = 32864) : (chanOff s k).off ws = s.off ws := by
  refine off_of_subset hw ?_
  simp [chanOff]

@[simp] theorem periodStretch_off (s : State) (k : Nat) (ws : Nat) (hw : 32768 &&& ws = 32768) : (periodStretch s k).off ws = s.off ws := by
  refine off_of_subset hw ?_
  unfold periodStretch; (repeat' (first | split | dsimp only)) <;> simp

@[simp] theorem xChannelStopComplete_off (k : Nat) (s : State) (ws : Nat) (hw : 33764 &&& ws = 33764) : (xChannelStopComplete k s).off ws = s.off ws := by
  refine off_of_subset hw ?_
  simp [xChannelStopComplete]

@[simp] theorem chanFault_off (s : State) (k : Nat) (ws : Nat) (hw : 32992 &&& ws = 32992) : (chanFault s k).off ws = s.off ws := by
  refine off_of_subset hw ?_
  unfold chanFault; split <;> simp

@[simp] theorem chanReset_off (s : State) (k : Nat) (ws : Nat) (hw : 33248 &&& ws = 33248) : (chanReset s k).off ws = s.off ws := by
  refine off_of_subset hw ?_
  simp [chanReset]

@[simp] theorem chanHoldEnd_off (s : State) (k : Nat) (ws : Nat) (hw : 32992 &&& ws = 32992) : (chanHoldEnd s k).off ws = s.off ws := by
  refine off_of_subset hw ?_
  simp [chanHoldEnd]

@[simp] theorem chanCoreReset_off (s : State) (k : Nat) (ws : Nat) (hw : 32992 &&& ws = 32992) : (chanCoreReset s k).off ws = s.off ws := by
  refine off_of_subset hw ?_
  simp [chanCoreReset]

@[simp] theorem xChannelHoldExpiry_off (k : Nat) (s : State) (ws : Nat) (hw : 32992 &&& ws = 32992) : (xChannelHoldExpiry k s).off ws = s.off ws := by
  refine off_of_subset hw ?_
  unfold xChannelHoldExpiry; split <;> simp

@[simp] theorem xSwitchingCyclesStore_off (s : State) (ws : Nat) (hw : 32768 &&& ws = 32768) : (xSwitchingCyclesStore s).off ws = s.off ws := by
  refine off_of_subset hw ?_
  simp [xSwitchingCyclesStore]

@[simp] theorem opLswConfig_off (s0 : State) (t : State) (q : Bytes) (ws : Nat) (hw : 33184 &&& ws = 33184) : ((opLswConfig s0).body t q).s.off ws = t.off ws := by
  refine off_of_subset hw ?_
  simp [opLswConfig]

@[simp] theorem cmdTo_off (s : State) (e : Nat × F32) (ws : Nat) (hw : 32864 &&& ws = 32864) : (cmdTo s e).off ws = s.off ws := by
  refine off_of_subset hw ?_
  simp [cmdTo]

@[simp] theorem opLswCommand_off  (t : State) (q : Bytes) (ws : Nat) (hw : 32864 &&& ws = 32864) : ((opLswCommand).body t q).s.off ws = t.off ws := by
  refine off_of_subset hw ?_
  unfold opLswCommand; (repeat' (first | split | dsimp only)) <;> simp

@[simp] theorem opLswStatus_off  (t : State) (q : Bytes) (ws : Nat) (hw : 0 &&& ws = 0) : ((opLswStatus).body t q).s.off ws = t.off ws := by
  refine off_of_subset hw ?_
  simp [opLswStatus]

@[simp] theorem clearChan_off (s : State) (k : Nat) (ws : Nat) (hw : 32864 &&& ws = 32864) : (clearChan s k).off ws = s.off ws := by
  refine off_of_subset hw ?_
  simp [clearChan]

@[simp] theorem opLswClear_off  (t : State) (q : Bytes) (ws : Nat) (hw : 32864 &&& ws = 32864) : ((opLswClear).body t q).s.off ws = t.off ws := by
  refine off_of_subset hw ?_
  unfold opLswClear; (repeat' (first | split | dsimp only)) <;> simp

end Sys2Proof.Machine
end

