-- ==== Sys2Proof/Laws/FrameSensing.lean ====
section
/-! SUPPORT. What each operation of Machine/Sensing.lean leaves alone: one lemma per operation, with the set of fields it
may change. -/

set_option linter.unusedSimpArgs false

namespace Sys2Proof.Machine

@[simp] theorem State_setImp_off (s : State) (k : Nat) (v : Imp) (ws : Nat) (hw : 16384 &&& ws = 16384) : (State.setImp s k v).off ws = s.off ws := by
  refine off_of_subset hw ?_
  simp [State.setImp]

@[simp] theorem State_setAin_off (s : State) (k : Nat) (v : Ain) (ws : Nat) (hw : 16384 &&& ws = 16384) : (State.setAin s k v).off ws = s.off ws := by
  refine off_of_subset hw ?_
  simp [State.setAin]

@[simp] theorem State_setFin_off (s : State) (k : Nat) (v : Fin8) (ws : Nat) (hw : 16384 &&& ws = 16384) : (State.setFin s k v).off ws = s.off ws := by
  refine off_of_subset hw ?_
  simp [State.setFin]

@[simp] theorem State_setPos_off (s : State) (k : Nat) (v : PosIn) (ws : Nat) (hw : 16384 &&& ws = 16384) : (State.setPos s k v).off ws = s.off ws := by
  refine off_of_subset hw ?_
  simp [State.setPos]

@[simp] theorem State_setCset_off (s : State) (k : Nat) (v : CSet) (ws : Nat) (hw : 16384 &&& ws = 16384) : (State.setCset s k v).off ws = s.off ws := by
  refine off_of_subset hw ?_
  simp [State.setCset]

@[simp] theorem endWindow_off (flow : Nat → Option FlowSum) (odd : Option Nat) (stop : T96) (s : State) (k : Nat) (ws : Nat) (hw : 16384 &&& ws = 16384) : (endWindow flow odd stop s k).off ws = s.off ws := by
  refine off_of_subset hw ?_
  simp [endWindow]

@[simp] theorem impPause_off (s : State) (k : Nat) (ws : Nat) (hw : 16384 &&& ws = 16384) : (impPause s k).off ws = s.off ws := by
  refine off_of_subset hw ?_
  simp [impPause]

@[simp] theorem endWindows_off (flow : Nat → Option FlowSum) (stop start : T96) (s : State) (ws : Nat) (hw : 16384 &&& ws = 16384) : (endWindows flow stop start s).off ws = s.off ws := by
  refine off_of_subset hw ?_
  simp [endWindows]

@[simp] theorem xCountingWindowEnd_off (flow : List FlowSum) (s : State) (ws : Nat) (hw : 16384 &&& ws = 16384) : (xCountingWindowEnd flow s).off ws = s.off ws := by
  refine off_of_subset hw ?_
  unfold xCountingWindowEnd; (repeat' (first | split | dsimp only)) <;> simp

@[simp] theorem windowStep_off (old : T96) (s : State) (ws : Nat) (hw : 16384 &&& ws = 16384) : (windowStep old s).off ws = s.off ws := by
  refine off_of_subset hw ?_
  simp [windowStep]

@[simp] theorem publishWindow_off (s : State) (k : Nat) (ws : Nat) (hw : 16384 &&& ws = 16384) : (publishWindow s k).off ws = s.off ws := by
  refine off_of_subset hw ?_
  unfold publishWindow; (repeat' (first | split | dsimp only)) <;> simp

@[simp] theorem publishWindows_off (s : State) (ws : Nat) (hw : 16384 &&& ws = 16384) : (publishWindows s).off ws = s.off ws := by
  refine off_of_subset hw ?_
  unfold publishWindows; (repeat' (first | (refine (forN_off _ _ _ _ ?_).trans ?_) | (refine (foldl_off _ _ _ _ ?_).trans ?_) | intro _ | split | dsimp only)) <;> simp

@[simp] theorem xHitOnset_off (k : Nat) (pre : List Int) (x : Int) (s : State) (ws : Nat) (hw : 16384 &&& ws = 16384) : (xHitOnset k pre x s).off ws = s.off ws := by
  refine off_of_subset hw ?_
  simp [xHitOnset]

@[simp] theorem xMergedHit_off (k : Nat) (before : List Int) (x : Int) (s : State) (ws : Nat) (hw : 16384 &&& ws = 16384) : (xMergedHit k before x s).off ws = s.off ws := by
  refine off_of_subset hw ?_
  simp [xMergedHit]

@[simp] theorem xHitWindowComplete_off (k : Nat) (rest : List Int) (clipped : Bool) (s : State) (ws : Nat) (hw : 16384 &&& ws = 16384) : (xHitWindowComplete k rest clipped s).off ws = s.off ws := by
  refine off_of_subset hw ?_
  simp [xHitWindowComplete]

@[simp] theorem xHitQuietEnd_off (q : SampleRun) (s : State) (ws : Nat) (hw : 16384 &&& ws = 16384) : (xHitQuietEnd q s).off ws = s.off ws := by
  refine off_of_subset hw ?_
  simp [xHitQuietEnd]

@[simp] theorem xHitClassified_off (k : Nat) (s : State) (ws : Nat) (hw : 16386 &&& ws = 16386) : (xHitClassified k s).off ws = s.off ws := by
  refine off_of_subset hw ?_
  unfold xHitClassified; (repeat' (first | split | dsimp only)) <;> simp

@[simp] theorem xFrontEndSelftest_off (k : Nat) (ok : Bool) (s : State) (ws : Nat) (hw : 16384 &&& ws = 16384) : (xFrontEndSelftest k ok s).off ws = s.off ws := by
  refine off_of_subset hw ?_
  simp [xFrontEndSelftest]

@[simp] theorem xAinUpdate_off (k : Nat) (volts refs : List F32) (s : State) (ws : Nat) (hw : 16384 &&& ws = 16384) : (xAinUpdate k volts refs s).off ws = s.off ws := by
  refine off_of_subset hw ?_
  simp [xAinUpdate]

@[simp] theorem xAinRangeCount_off (k : Nat) (raw : AinRaw) (s : State) (ws : Nat) (hw : 16384 &&& ws = 16384) : (xAinRangeCount k raw s).off ws = s.off ws := by
  refine off_of_subset hw ?_
  simp [xAinRangeCount]

@[simp] theorem xFinEdgeAccepted_off (k age : Nat) (volts : F32) (both : Bool) (s : State) (ws : Nat) (hw : 16384 &&& ws = 16384) : (xFinEdgeAccepted k age volts both s).off ws = s.off ws := by
  refine off_of_subset hw ?_
  simp [xFinEdgeAccepted]

@[simp] theorem xQerrExpiry_off (k : Nat) (s : State) (ws : Nat) (hw : 16384 &&& ws = 16384) : (xQerrExpiry k s).off ws = s.off ws := by
  refine off_of_subset hw ?_
  simp [xQerrExpiry]

@[simp] theorem xFinUpdate_off (k : Nat) (s : State) (ws : Nat) (hw : 16384 &&& ws = 16384) : (xFinUpdate k s).off ws = s.off ws := by
  refine off_of_subset hw ?_
  simp [xFinUpdate]

@[simp] theorem xPosUpdate_off (k : Nat) (theta : F32) (cycles : Int) (speed ampl err : F32) (s : State) (ws : Nat) (hw : 16384 &&& ws = 16384) : (xPosUpdate k theta cycles speed ampl err s).off ws = s.off ws := by
  refine off_of_subset hw ?_
  simp [xPosUpdate]

@[simp] theorem xExcitationLimitTimeout_off (k : Nat) (s : State) (ws : Nat) (hw : 16384 &&& ws = 16384) : (xExcitationLimitTimeout k s).off ws = s.off ws := by
  refine off_of_subset hw ?_
  simp [xExcitationLimitTimeout]

@[simp] theorem xExcitationRetry_off (k : Nat) (ok : Bool) (s : State) (ws : Nat) (hw : 16384 &&& ws = 16384) : (xExcitationRetry k ok s).off ws = s.off ws := by
  refine off_of_subset hw ?_
  unfold xExcitationRetry; (repeat' (first | split | dsimp only)) <;> simp

@[simp] theorem xImuSample_off (ax ay az gx gy gz : F32) (sat : Bool) (s : State) (ws : Nat) (hw : 16384 &&& ws = 16384) : (xImuSample ax ay az gx gy gz sat s).off ws = s.off ws := by
  refine off_of_subset hw ?_
  simp [xImuSample]

@[simp] theorem commitInput_off (s : State) (sel k : Nat) (p : Bytes) (ws : Nat) (hw : 16384 &&& ws = 16384) : (commitInput s sel k p).off ws = s.off ws := by
  refine off_of_subset hw ?_
  unfold commitInput; split <;> simp

@[simp] theorem setInCfg_off (s : State) (sel k : Nat) (c : InCfg) (ws : Nat) (hw : 16384 &&& ws = 16384) : (setInCfg s sel k c).off ws = s.off ws := by
  refine off_of_subset hw ?_
  unfold setInCfg; split <;> simp

@[simp] theorem inputCommit_off (sel k : Nat) (s : State) (ws : Nat) (hw : 16384 &&& ws = 16384) : (inputCommit sel k s).off ws = s.off ws := by
  refine off_of_subset hw ?_
  unfold inputCommit; split <;> simp

@[simp] theorem xInputSettlingEnd_off (sel k : Nat) (s : State) (ws : Nat) (hw : 16384 &&& ws = 16384) : (xInputSettlingEnd sel k s).off ws = s.off ws := by
  refine off_of_subset hw ?_
  simp [xInputSettlingEnd]

@[simp] theorem inputCfg_off (s : State) (sel k : Nat) (p : Bytes) (flagOff : Nat) (ws : Nat) (hw : 16384 &&& ws = 16384) : (inputCfg s sel k p flagOff).s.off ws = s.off ws := by
  refine off_of_subset hw ?_
  unfold inputCfg; split <;> simp

@[simp] theorem opImpConfig_off  (t : State) (q : Bytes) (ws : Nat) (hw : 16384 &&& ws = 16384) : ((opImpConfig).body t q).s.off ws = t.off ws := by
  refine off_of_subset hw ?_
  unfold opImpConfig; (repeat' (first | split | dsimp only)) <;> simp

@[simp] theorem opAinConfig_off  (t : State) (q : Bytes) (ws : Nat) (hw : 16384 &&& ws = 16384) : ((opAinConfig).body t q).s.off ws = t.off ws := by
  refine off_of_subset hw ?_
  simp [opAinConfig]

@[simp] theorem opFinConfig_off  (t : State) (q : Bytes) (ws : Nat) (hw : 16384 &&& ws = 16384) : ((opFinConfig).body t q).s.off ws = t.off ws := by
  refine off_of_subset hw ?_
  unfold opFinConfig; (repeat' (first | split | dsimp only)) <;> simp

@[simp] theorem opPosConfig_off  (t : State) (q : Bytes) (ws : Nat) (hw : 16384 &&& ws = 16384) : ((opPosConfig).body t q).s.off ws = t.off ws := by
  refine off_of_subset hw ?_
  simp [opPosConfig]

@[simp] theorem opImuConfig_off  (t : State) (q : Bytes) (ws : Nat) (hw : 16384 &&& ws = 16384) : ((opImuConfig).body t q).s.off ws = t.off ws := by
  refine off_of_subset hw ?_
  simp [opImuConfig]

@[simp] theorem opClassifierLoad_off  (t : State) (q : Bytes) (ws : Nat) (hw : 16384 &&& ws = 16384) : ((opClassifierLoad).body t q).s.off ws = t.off ws := by
  refine off_of_subset hw ?_
  unfold opClassifierLoad; (repeat' (first | split | dsimp only)) <;> simp

@[simp] theorem windowBegun_off (s : State) (k : Nat) (ws : Nat) (hw : 16384 &&& ws = 16384) : (windowBegun s k).off ws = s.off ws := by
  refine off_of_subset hw ?_
  simp [windowBegun]

@[simp] theorem xClassifierSetCommit_off (n : Nat) (s : State) (ws : Nat) (hw : 16416 &&& ws = 16416) : (xClassifierSetCommit n s).off ws = s.off ws := by
  refine off_of_subset hw ?_
  unfold xClassifierSetCommit; (repeat' (first | split | dsimp only)) <;> simp

@[simp] theorem opFlowCalibrate_off  (t : State) (q : Bytes) (ws : Nat) (hw : 16384 &&& ws = 16384) : ((opFlowCalibrate).body t q).s.off ws = t.off ws := by
  refine off_of_subset hw ?_
  unfold opFlowCalibrate; (repeat' (first | split | dsimp only)) <;> simp

@[simp] theorem xFlowCurveApply_off (k : Nat) (s : State) (ws : Nat) (hw : 16416 &&& ws = 16416) : (xFlowCurveApply k s).off ws = s.off ws := by
  refine off_of_subset hw ?_
  unfold xFlowCurveApply; (repeat' (first | split | dsimp only)) <;> simp

@[simp] theorem xInputValidityReport_off (sel k : Nat) (s : State) (ws : Nat) (hw : 16480 &&& ws = 16480) : (xInputValidityReport sel k s).off ws = s.off ws := by
  refine off_of_subset hw ?_
  simp [xInputValidityReport]

@[simp] theorem opSenseRead_off  (t : State) (q : Bytes) (ws : Nat) (hw : 0 &&& ws = 0) : ((opSenseRead).body t q).s.off ws = t.off ws := by
  refine off_of_subset hw ?_
  unfold opSenseRead; (repeat' (first | split | dsimp only)) <;> simp

end Sys2Proof.Machine
end

