-- ==== Sys2Proof/Laws/FrameCan.lean ====
section
/-! SUPPORT. What each operation of Machine/Can.lean leaves alone: one lemma per operation, with the set of fields it
may change. -/

set_option linter.unusedSimpArgs false

namespace Sys2Proof.Machine

@[simp] theorem canErrReport_off (a : Nat) (s : State) (k : Nat) (ws : Nat) (hw : 96 &&& ws = 96) : (canErrReport a s k).off ws = s.off ws := by
  refine off_of_subset hw ?_
  simp [canErrReport]

@[simp] theorem canTxEnd_off (s : State) (k : Nat) (t : CanTx) (cause : Nat) (ws : Nat) (hw : 33554464 &&& ws = 33554464) : (canTxEnd s k t cause).off ws = s.off ws := by
  refine off_of_subset hw ?_
  simp [canTxEnd]

@[simp] theorem canTxAll_off (s : State) (k : Nat) (keep : Option Nat) (cause : CanTx → Nat) (ws : Nat) (hw : 33554464 &&& ws = 33554464) : (canTxAll s k keep cause).off ws = s.off ws := by
  refine off_of_subset hw ?_
  simp [canTxAll]

@[simp] theorem canBusOff_off (s : State) (k : Nat) (ws : Nat) (hw : 33554528 &&& ws = 33554528) : (canBusOff s k).off ws = s.off ws := by
  refine off_of_subset hw ?_
  simp [canBusOff]

@[simp] theorem canCount_off (s : State) (k tec rxc : Nat) (ws : Nat) (hw : 33554528 &&& ws = 33554528) : (canCount s k tec rxc).off ws = s.off ws := by
  refine off_of_subset hw ?_
  simp [canCount]

@[simp] theorem canFwPut_off (s : State) (k : Nat) (f : CanFrame) (ws : Nat) (hw : 33554432 &&& ws = 33554432) : (canFwPut s k f).off ws = s.off ws := by
  refine off_of_subset hw ?_
  simp [canFwPut]

@[simp] theorem canAddr_off (s : State) (k st addr : Nat) (ws : Nat) (hw : 33554528 &&& ws = 33554528) : (canAddr s k st addr).off ws = s.off ws := by
  refine off_of_subset hw ?_
  simp [canAddr]

@[simp] theorem claimSend_off (s : State) (k a : Nat) (ws : Nat) (hw : 33554528 &&& ws = 33554528) : (claimSend s k a).off ws = s.off ws := by
  refine off_of_subset hw ?_
  simp [claimSend]

@[simp] theorem claimBegin_off (s : State) (k : Nat) (ws : Nat) (hw : 33554528 &&& ws = 33554528) : (claimBegin s k).off ws = s.off ws := by
  refine off_of_subset hw ?_
  simp [claimBegin]

@[simp] theorem claimHeard_off (s : State) (k a name : Nat) (ws : Nat) (hw : 33554528 &&& ws = 33554528) : (claimHeard s k a name).off ws = s.off ws := by
  refine off_of_subset hw ?_
  unfold claimHeard; (repeat' (first | split | dsimp only)) <;> simp

@[simp] theorem claimRequest_off (s : State) (k dest : Nat) (ws : Nat) (hw : 33554432 &&& ws = 33554432) : (claimRequest s k dest).off ws = s.off ws := by
  refine off_of_subset hw ?_
  simp [claimRequest]

@[simp] theorem claimMatch_off (s : State) (k : Nat) (f : CanFrame) (ws : Nat) (hw : 33554528 &&& ws = 33554528) : (claimMatch s k f).off ws = s.off ws := by
  refine off_of_subset hw ?_
  simp [claimMatch]

@[simp] theorem xAddressClaimTimeout_off (k : Nat) (s : State) (ws : Nat) (hw : 33554528 &&& ws = 33554528) : (xAddressClaimTimeout k s).off ws = s.off ws := by
  refine off_of_subset hw ?_
  simp [xAddressClaimTimeout]

@[simp] theorem insertEnd_off (s : State) (k : Nat) (ws : Nat) (hw : 33554464 &&& ws = 33554464) : (insertEnd s k).off ws = s.off ws := by
  refine off_of_subset hw ?_
  simp [insertEnd]

@[simp] theorem xCannotClaimDelayExpiry_off (k : Nat) (s : State) (ws : Nat) (hw : 33554528 &&& ws = 33554528) : (xCannotClaimDelayExpiry k s).off ws = s.off ws := by
  refine off_of_subset hw ?_
  simp [xCannotClaimDelayExpiry]

@[simp] theorem canDeadlines_off (s : State) (k : Nat) (ws : Nat) (hw : 33554464 &&& ws = 33554464) : (canDeadlines s k).off ws = s.off ws := by
  refine off_of_subset hw ?_
  simp [canDeadlines]

@[simp] theorem canBegin_off (s : State) (k : Nat) (ws : Nat) (hw : 33554464 &&& ws = 33554464) : (canBegin s k).off ws = s.off ws := by
  refine off_of_subset hw ?_
  unfold canBegin; (repeat' (first | split | dsimp only)) <;> simp

@[simp] theorem canMayBegin_off (s : State) (k : Nat) (ws : Nat) (hw : 33554466 &&& ws = 33554466) : (canMayBegin s k).off ws = s.off ws := by
  refine off_of_subset hw ?_
  simp [canMayBegin]

@[simp] theorem canLoopIssue_off (s : State) (k n : Nat) (f : CanFrame) (ws : Nat) (hw : 33554466 &&& ws = 33554466) : (canLoopIssue s k n f).off ws = s.off ws := by
  refine off_of_subset hw ?_
  simp [canLoopIssue]

@[simp] theorem canAgain_off (s : State) (k : Nat) (p : CanPath) (f : CanFrame) (failed : Nat) (ws : Nat) (hw : 33554432 &&& ws = 33554432) : (canAgain s k p f failed).off ws = s.off ws := by
  refine off_of_subset hw ?_
  unfold canAgain; split <;> simp

@[simp] theorem canFail_off (s : State) (k result : Nat) (ws : Nat) (hw : 33554530 &&& ws = 33554530) : (canFail s k result).off ws = s.off ws := by
  refine off_of_subset hw ?_
  simp [canFail]

@[simp] theorem canGood_off (s : State) (k : Nat) (f : CanFrame) (ht : Option CanTx) (ws : Nat) (hw : 1107296352 &&& ws = 1107296352) : (canGood s k f ht).off ws = s.off ws := by
  refine off_of_subset hw ?_
  unfold canGood; (repeat' (first | split | dsimp only)) <;> (first | (simp; done) | (simp; simp [State.off, pick, Nat.testBit]; done) | (simp [State.off, pick, Nat.testBit]; done))

@[simp] theorem canBad_off (s : State) (k : Nat) (p : CanPath) (f : CanFrame) (result : Nat) (ht : Option CanTx) (ws : Nat) (hw : 33554530 &&& ws = 33554530) : (canBad s k p f result ht).off ws = s.off ws := by
  refine off_of_subset hw ?_
  unfold canBad; (repeat' (first | split | dsimp only)) <;> simp

@[simp] theorem canAttempt_off (k result delay : Nat) (s : State) (p : CanPath) (f : CanFrame) (ws : Nat) (hw : 1644167266 &&& ws = 1644167266) : (canAttempt k result delay s p f).off ws = s.off ws := by
  refine off_of_subset hw ?_
  unfold canAttempt; (repeat' (first | split | dsimp only)) <;> simp_all

@[simp] theorem xCanTxAttemptEnd_off (k result delay : Nat) (s : State) (ws : Nat) (hw : 1644167266 &&& ws = 1644167266) : (xCanTxAttemptEnd k result delay s).off ws = s.off ws := by
  refine off_of_subset hw ?_
  unfold xCanTxAttemptEnd; (repeat' (first | split | dsimp only)) <;> simp

@[simp] theorem rxReady_off (s : State) (k : Nat) (ws : Nat) (hw : 33554464 &&& ws = 33554464) : (rxReady s k).off ws = s.off ws := by
  refine off_of_subset hw ?_
  simp [rxReady]

@[simp] theorem hostQueue_off (s : State) (k : Nat) (r : CanRec) (ws : Nat) (hw : 33554464 &&& ws = 33554464) : (hostQueue s k r).off ws = s.off ws := by
  refine off_of_subset hw ?_
  unfold hostQueue; (repeat' (first | split | dsimp only)) <;> simp

@[simp] theorem hpBuffer_off (s : State) (k : Nat) (r : CanRec) (ws : Nat) (hw : 33554432 &&& ws = 33554432) : (hpBuffer s k r).off ws = s.off ws := by
  refine off_of_subset hw ?_
  simp [hpBuffer]

@[simp] theorem acceptPath_off (s : State) (k : Nat) (f : CanFrame) (ws : Nat) (hw : 33554464 &&& ws = 33554464) : (acceptPath s k f).off ws = s.off ws := by
  refine off_of_subset hw ?_
  unfold acceptPath; (repeat' (first | split | dsimp only)) <;> simp

@[simp] theorem loopInputs_off (s : State) (k : Nat) (f : CanFrame) (ws : Nat) (hw : 8192 &&& ws = 8192) : (loopInputs s k f).off ws = s.off ws := by
  refine off_of_subset hw ?_
  unfold loopInputs; (repeat' (first | (refine (forN_off _ _ _ _ ?_).trans ?_) | (refine (foldl_off _ _ _ _ ?_).trans ?_) | intro _ | split | dsimp only)) <;> simp

@[simp] theorem firmwareFields_off (s : State) (k : Nat) (f : CanFrame) (at_ : Nat) (ws : Nat) (hw : 327680 &&& ws = 327680) : (firmwareFields s k f at_).off ws = s.off ws := by
  refine off_of_subset hw ?_
  simp [firmwareFields]

@[simp] theorem firmwarePath_off (s : State) (k : Nat) (f : CanFrame) (ws : Nat) (hw : 33882112 &&& ws = 33882112) : (firmwarePath s k f).off ws = s.off ws := by
  refine off_of_subset hw ?_
  simp [firmwarePath]

@[simp] theorem firmwareTakes_off (s : State) (k : Nat) (ws : Nat) (hw : 33882112 &&& ws = 33882112) : (firmwareTakes s k).off ws = s.off ws := by
  refine off_of_subset hw ?_
  simp [firmwareTakes]

@[simp] theorem recDown_off (s : State) (k : Nat) (ws : Nat) (hw : 33554530 &&& ws = 33554530) : (recDown s k).off ws = s.off ws := by
  refine off_of_subset hw ?_
  simp [recDown]

@[simp] theorem xCanFrameReceived_off (k : Nat) (f : CanFrame) (s : State) (ws : Nat) (hw : 33890402 &&& ws = 33890402) : (xCanFrameReceived k f s).off ws = s.off ws := by
  refine off_of_subset hw ?_
  simp [xCanFrameReceived]

@[simp] theorem xCanProtocolException_off (k fmt : Nat) (s : State) (ws : Nat) (hw : 0 &&& ws = 0) : (xCanProtocolException k fmt s).off ws = s.off ws := by
  refine off_of_subset hw ?_
  simp [xCanProtocolException]

@[simp] theorem xCanBusError_off (k : Nat) (transmitter : Bool) (add lec : Nat) (s : State) (ws : Nat) (hw : 33554528 &&& ws = 33554528) : (xCanBusError k transmitter add lec s).off ws = s.off ws := by
  refine off_of_subset hw ?_
  simp [xCanBusError]

@[simp] theorem xCanBusoffRecovered_off (k : Nat) (s : State) (ws : Nat) (hw : 33554528 &&& ws = 33554528) : (xCanBusoffRecovered k s).off ws = s.off ws := by
  refine off_of_subset hw ?_
  unfold xCanBusoffRecovered; (repeat' (first | split | dsimp only)) <;> simp

@[simp] theorem xCanTxDominantTimeout_off (k : Nat) (s : State) (ws : Nat) (hw : 33554528 &&& ws = 33554528) : (xCanTxDominantTimeout k s).off ws = s.off ws := by
  refine off_of_subset hw ?_
  simp [xCanTxDominantTimeout]

@[simp] theorem xCanBusDominantTimeout_off (k : Nat) (s : State) (ws : Nat) (hw : 33554528 &&& ws = 33554528) : (xCanBusDominantTimeout k s).off ws = s.off ws := by
  refine off_of_subset hw ?_
  simp [xCanBusDominantTimeout]

@[simp] theorem xBusDominantCleared_off (k : Nat) (s : State) (ws : Nat) (hw : 33554464 &&& ws = 33554464) : (xBusDominantCleared k s).off ws = s.off ws := by
  refine off_of_subset hw ?_
  simp [xBusDominantCleared]

@[simp] theorem xHpFrameHoldoffExpiry_off (k : Nat) (s : State) (ws : Nat) (hw : 33554464 &&& ws = 33554464) : (xHpFrameHoldoffExpiry k s).off ws = s.off ws := by
  refine off_of_subset hw ?_
  unfold xHpFrameHoldoffExpiry; (repeat' (first | split | dsimp only)) <;> simp

@[simp] theorem xRxReadyHoldoffExpiry_off (k : Nat) (s : State) (ws : Nat) (hw : 33554464 &&& ws = 33554464) : (xRxReadyHoldoffExpiry k s).off ws = s.off ws := by
  refine off_of_subset hw ?_
  unfold xRxReadyHoldoffExpiry; (repeat' (first | split | dsimp only)) <;> simp

@[simp] theorem canCheck_off (s : State) (k : Nat) (ws : Nat) (hw : 0 &&& ws = 0) : (canCheck s k).1.off ws = s.off ws := by
  refine off_of_subset hw ?_
  simp [canCheck]

@[simp] theorem canCommit_off (s : State) (k : Nat) (ws : Nat) (hw : 33555168 &&& ws = 33555168) : (canCommit s k).off ws = s.off ws := by
  refine off_of_subset hw ?_
  simp [canCommit]

@[simp] theorem xCanBusIntegrated_off (k : Nat) (s : State) (ws : Nat) (hw : 33554592 &&& ws = 33554592) : (xCanBusIntegrated k s).off ws = s.off ws := by
  refine off_of_subset hw ?_
  unfold xCanBusIntegrated; split <;> simp

@[simp] theorem canLeft_off (s : State) (k : Nat) (ws : Nat) (hw : 32 &&& ws = 32) : (canLeft s k).off ws = s.off ws := by
  refine off_of_subset hw ?_
  simp [canLeft]

@[simp] theorem canStop_off (s : State) (k : Nat) (ws : Nat) (hw : 33554592 &&& ws = 33554592) : (canStop s k).off ws = s.off ws := by
  refine off_of_subset hw ?_
  simp [canStop]

@[simp] theorem canOff_off (s : State) (k : Nat) (ws : Nat) (hw : 33554528 &&& ws = 33554528) : (canOff s k).off ws = s.off ws := by
  refine off_of_subset hw ?_
  simp [canOff]

@[simp] theorem xCanStopComplete_off (k : Nat) (s : State) (ws : Nat) (hw : 33555428 &&& ws = 33555428) : (xCanStopComplete k s).off ws = s.off ws := by
  refine off_of_subset hw ?_
  simp [xCanStopComplete]

@[simp] theorem canFault_off (s : State) (k : Nat) (ws : Nat) (hw : 33554592 &&& ws = 33554592) : (canFault s k).off ws = s.off ws := by
  refine off_of_subset hw ?_
  unfold canFault; split <;> simp

@[simp] theorem canLoopStop_off (s : State) (k : Nat) (ws : Nat) (hw : 33554432 &&& ws = 33554432) : (canLoopStop s k).off ws = s.off ws := by
  refine off_of_subset hw ?_
  simp [canLoopStop]

@[simp] theorem canSleep_off (s : State) (k : Nat) (ws : Nat) (hw : 33554528 &&& ws = 33554528) : (canSleep s k).off ws = s.off ws := by
  refine off_of_subset hw ?_
  unfold canSleep; split <;> simp

@[simp] theorem opCanConfig_off  (t : State) (q : Bytes) (ws : Nat) (hw : 416 &&& ws = 416) : ((opCanConfig).body t q).s.off ws = t.off ws := by
  refine off_of_subset hw ?_
  simp [opCanConfig]

@[simp] theorem opCanFilter_off  (t : State) (q : Bytes) (ws : Nat) (hw : 416 &&& ws = 416) : ((opCanFilter).body t q).s.off ws = t.off ws := by
  refine off_of_subset hw ?_
  simp (maxDischargeDepth := 5) [opCanFilter]

@[simp] theorem opCanTransmit_off  (t : State) (q : Bytes) (ws : Nat) (hw : 33554466 &&& ws = 33554466) : ((opCanTransmit).body t q).s.off ws = t.off ws := by
  refine off_of_subset hw ?_
  unfold opCanTransmit; (repeat' (first | split | dsimp only)) <;> simp

@[simp] theorem opCanStatus_off  (t : State) (q : Bytes) (ws : Nat) (hw : 33554432 &&& ws = 33554432) : ((opCanStatus).body t q).s.off ws = t.off ws := by
  refine off_of_subset hw ?_
  unfold opCanStatus; (repeat' (first | split | dsimp only)) <;> simp

@[simp] theorem opCanAddressClaim_off  (t : State) (q : Bytes) (ws : Nat) (hw : 33555296 &&& ws = 33555296) : ((opCanAddressClaim).body t q).s.off ws = t.off ws := by
  refine off_of_subset hw ?_
  simp [opCanAddressClaim]

end Sys2Proof.Machine
end

