-- ==== Sys2Proof/Laws/FrameCle.lean ====
section
/-! SUPPORT. What each operation of Machine/Cle.lean leaves alone: one lemma per operation, with the set of fields it
may change. -/

set_option linter.unusedSimpArgs false

namespace Sys2Proof.Machine

@[simp] theorem evalArrives_off (s : State) (n p : Nat) (ws : Nat) (hw : 8192 &&& ws = 8192) : (evalArrives s n p).off ws = s.off ws := by
  refine off_of_subset hw ?_
  simp [evalArrives]

@[simp] theorem loopIssue_off (s : State) (n : Nat) (d : Bytes) (ws : Nat) (hw : 33595490 &&& ws = 33595490) : (loopIssue s n d).off ws = s.off ws := by
  refine off_of_subset hw ?_
  unfold loopIssue; (repeat' (first | split | dsimp only)) <;> simp

@[simp] theorem grpSafe_off (s : State) (g : Nat) (ws : Nat) (hw : 8192 &&& ws = 8192) : (grpSafe s g).off ws = s.off ws := by
  refine off_of_subset hw ?_
  simp [grpSafe]

@[simp] theorem loopLost_off (s : State) (n g : Nat) (d : Bytes) (byInput : Bool) (ws : Nat) (hw : 8288 &&& ws = 8288) : (loopLost s n g d byInput).off ws = s.off ws := by
  refine off_of_subset hw ?_
  simp [loopLost]

@[simp] theorem invalidSample_off (s : State) (n g : Nat) (d : Bytes) (inv stale lost : Bool) (ws : Nat) (hw : 8288 &&& ws = 8288) : (invalidSample s n g d inv stale lost).off ws = s.off ws := by
  refine off_of_subset hw ?_
  simp [invalidSample]

@[simp] theorem validSample_off (s : State) (n g : Nat) (d : Bytes) (x : F32) (ws : Nat) (hw : 8288 &&& ws = 8288) : (validSample s n g d x).off ws = s.off ws := by
  refine off_of_subset hw ?_
  simp [validSample]

@[simp] theorem grpProgress_off (s : State) (g : Nat) (ws : Nat) (hw : 160 &&& ws = 160) : (grpProgress s g).off ws = s.off ws := by
  refine off_of_subset hw ?_
  simp [grpProgress]

@[simp] theorem xLoopSample_off (n : Nat) (s : State) (ws : Nat) (hw : 33595618 &&& ws = 33595618) : (xLoopSample n s).off ws = s.off ws := by
  refine off_of_subset hw ?_
  unfold xLoopSample; (repeat' (first | split | dsimp only)) <;> simp

@[simp] theorem xLoopSampleMissed_off (n : Nat) (s : State) (ws : Nat) (hw : 8288 &&& ws = 8288) : (xLoopSampleMissed n s).off ws = s.off ws := by
  refine off_of_subset hw ?_
  unfold xLoopSampleMissed; split <;> simp

@[simp] theorem grpCheck_off (s : State) (g : Nat) (ws : Nat) (hw : 32 &&& ws = 32) : (grpCheck s g).1.off ws = s.off ws := by
  refine off_of_subset hw ?_
  unfold grpCheck; split <;> simp

@[simp] theorem grpBegin_off (s : State) (g : Nat) (ws : Nat) (hw : 8864 &&& ws = 8864) : (grpBegin s g).off ws = s.off ws := by
  refine off_of_subset hw ?_
  simp [grpBegin]

@[simp] theorem loopCommit_off (s : State) (n : Nat) (ws : Nat) (hw : 40960 &&& ws = 40960) : (loopCommit s n).off ws = s.off ws := by
  refine off_of_subset hw ?_
  unfold loopCommit; (repeat' (first | split | dsimp only)) <;> simp

@[simp] theorem xGroupStartCommit_off (g : Nat) (s : State) (ws : Nat) (hw : 41120 &&& ws = 41120) : (xGroupStartCommit g s).off ws = s.off ws := by
  refine off_of_subset hw ?_
  simp [xGroupStartCommit]

@[simp] theorem loopAbort_off (s : State) (n : Nat) (ws : Nat) (hw : 8192 &&& ws = 8192) : (loopAbort s n).off ws = s.off ws := by
  refine off_of_subset hw ?_
  simp [loopAbort]

@[simp] theorem grpStop_off (s : State) (g : Nat) (ws : Nat) (hw : 8352 &&& ws = 8352) : (grpStop s g).off ws = s.off ws := by
  refine off_of_subset hw ?_
  simp [grpStop]

@[simp] theorem loopOff_off (s : State) (n : Nat) (ws : Nat) (hw : 33595488 &&& ws = 33595488) : (loopOff s n).off ws = s.off ws := by
  refine off_of_subset hw ?_
  unfold loopOff; (repeat' (first | split | dsimp only)) <;> simp

@[simp] theorem xGroupStopComplete_off (g : Nat) (s : State) (ws : Nat) (hw : 33596388 &&& ws = 33596388) : (xGroupStopComplete g s).off ws = s.off ws := by
  refine off_of_subset hw ?_
  simp [xGroupStopComplete]

@[simp] theorem grpFault_off (s : State) (g : Nat) (ws : Nat) (hw : 8352 &&& ws = 8352) : (grpFault s g).off ws = s.off ws := by
  refine off_of_subset hw ?_
  unfold grpFault; split <;> simp

@[simp] theorem grpReset_off (s : State) (g : Nat) (ws : Nat) (hw : 416 &&& ws = 416) : (grpReset s g).off ws = s.off ws := by
  refine off_of_subset hw ?_
  simp [grpReset]

@[simp] theorem cleReset_off (s : State) (ws : Nat) (hw : 8608 &&& ws = 8608) : (cleReset s).off ws = s.off ws := by
  refine off_of_subset hw ?_
  simp [cleReset]

@[simp] theorem grpCoreReset_off (s : State) (g : Nat) (ws : Nat) (hw : 8352 &&& ws = 8352) : (grpCoreReset s g).off ws = s.off ws := by
  refine off_of_subset hw ?_
  simp [grpCoreReset]

@[simp] theorem xGroupHoldExpiry_off (g : Nat) (s : State) (ws : Nat) (hw : 8352 &&& ws = 8352) : (xGroupHoldExpiry g s).off ws = s.off ws := by
  refine off_of_subset hw ?_
  unfold xGroupHoldExpiry; split <;> simp

@[simp] theorem holdWritten_off (s : State) (n : Nat) (ws : Nat) (hw : 8192 &&& ws = 8192) : (holdWritten s n).off ws = s.off ws := by
  refine off_of_subset hw ?_
  unfold holdWritten; split <;> simp

@[simp] theorem pspIssue_off (s : State) (byGuid : Bool) (l : List (Nat × F32)) (ws : Nat) (hw : 8192 &&& ws = 8192) : (pspIssue s byGuid l).off ws = s.off ws := by
  refine off_of_subset hw ?_
  simp [pspIssue]

@[simp] theorem loopStepped_off (new g : Nat) (s : State) (n : Nat) (ws : Nat) (hw : 8192 &&& ws = 8192) : (loopStepped new g s n).off ws = s.off ws := by
  refine off_of_subset hw ?_
  unfold loopStepped; (repeat' (first | split | dsimp only)) <;> simp

@[simp] theorem gridStep_off (d old new : Nat) (s : State) (g : Nat) (ws : Nat) (hw : 8224 &&& ws = 8224) : (gridStep d old new s g).off ws = s.off ws := by
  refine off_of_subset hw ?_
  simp [gridStep]

@[simp] theorem opLoopConfig_off  (t : State) (q : Bytes) (ws : Nat) (hw : 8608 &&& ws = 8608) : ((opLoopConfig).body t q).s.off ws = t.off ws := by
  refine off_of_subset hw ?_
  simp only [opLoopConfig]
  refine cfgAnswer_off _ _ _ _ ?_ (by decide)
  intro t
  simp [State.off, pick, Nat.testBit]

@[simp] theorem opLoopRead_off  (t : State) (q : Bytes) (ws : Nat) (hw : 0 &&& ws = 0) : ((opLoopRead).body t q).s.off ws = t.off ws := by
  refine off_of_subset hw ?_
  unfold opLoopRead; (repeat' (first | split | dsimp only)) <;> simp

@[simp] theorem opLoopSetReference_off  (t : State) (q : Bytes) (ws : Nat) (hw : 8192 &&& ws = 8192) : ((opLoopSetReference).body t q).s.off ws = t.off ws := by
  refine off_of_subset hw ?_
  unfold opLoopSetReference; (repeat' (first | split | dsimp only)) <;> simp

@[simp] theorem opLoopSetFeedforward_off  (t : State) (q : Bytes) (ws : Nat) (hw : 8192 &&& ws = 8192) : ((opLoopSetFeedforward).body t q).s.off ws = t.off ws := by
  refine off_of_subset hw ?_
  unfold opLoopSetFeedforward; (repeat' (first | split | dsimp only)) <;> simp

@[simp] theorem opLoopStatus_off  (t : State) (q : Bytes) (ws : Nat) (hw : 0 &&& ws = 0) : ((opLoopStatus).body t q).s.off ws = t.off ws := by
  refine off_of_subset hw ?_
  simp [opLoopStatus]

@[simp] theorem opCleCapacity_off  (t : State) (q : Bytes) (ws : Nat) (hw : 0 &&& ws = 0) : ((opCleCapacity).body t q).s.off ws = t.off ws := by
  refine off_of_subset hw ?_
  simp [opCleCapacity]

@[simp] theorem storeSlot_off (s : State) (i : Nat) (t : Slot) (ws : Nat) (hw : 8192 &&& ws = 8192) : (storeSlot s i t).off ws = s.off ws := by
  refine off_of_subset hw ?_
  simp [storeSlot]

@[simp] theorem opTableWrite_off  (t : State) (q : Bytes) (ws : Nat) (hw : 8192 &&& ws = 8192) : ((opTableWrite).body t q).s.off ws = t.off ws := by
  refine off_of_subset hw ?_
  unfold opTableWrite; (repeat' (first | split | dsimp only)) <;> simp

@[simp] theorem opTableRead_off  (t : State) (q : Bytes) (ws : Nat) (hw : 0 &&& ws = 0) : ((opTableRead).body t q).s.off ws = t.off ws := by
  refine off_of_subset hw ?_
  simp [opTableRead]

@[simp] theorem opGroupConfig_off  (t : State) (q : Bytes) (ws : Nat) (hw : 416 &&& ws = 416) : ((opGroupConfig).body t q).s.off ws = t.off ws := by
  refine off_of_subset hw ?_
  unfold opGroupConfig; (repeat' (first | split | dsimp only)) <;> simp

@[simp] theorem opGroupRead_off  (t : State) (q : Bytes) (ws : Nat) (hw : 0 &&& ws = 0) : ((opGroupRead).body t q).s.off ws = t.off ws := by
  refine off_of_subset hw ?_
  unfold opGroupRead; (repeat' (first | split | dsimp only)) <;> simp

end Sys2Proof.Machine
end

