-- ==== Sys2Proof/Laws/FrameFusion.lean ====
section
/-! SUPPORT. What each operation of Machine/Fusion.lean leaves alone: one lemma per operation, with the set of fields it
may change. -/

set_option linter.unusedSimpArgs false

namespace Sys2Proof.Machine

@[simp] theorem State_setEgo_off (s : State) (e : Ego) (ws : Nat) (hw : 1048576 &&& ws = 1048576) : (State.setEgo s e).off ws = s.off ws := by
  refine off_of_subset hw ?_
  simp [State.setEgo]

@[simp] theorem egoSetMode_off (s : State) (m : Nat) (ws : Nat) (hw : 1048672 &&& ws = 1048672) : (egoSetMode s m).off ws = s.off ws := by
  refine off_of_subset hw ?_
  simp [egoSetMode]

@[simp] theorem xEgoInstant_off (i : EgoIn) (s : State) (ws : Nat) (hw : 1048672 &&& ws = 1048672) : (xEgoInstant i s).off ws = s.off ws := by
  refine off_of_subset hw ?_
  simp [xEgoInstant]

@[simp] theorem xEgoConfigCommit_off (s : State) (ws : Nat) (hw : 1048672 &&& ws = 1048672) : (xEgoConfigCommit s).off ws = s.off ws := by
  refine off_of_subset hw ?_
  unfold xEgoConfigCommit; (repeat' (first | split | dsimp only)) <;> simp

@[simp] theorem fusDrop_off (s : State) (i n : Nat) (ws : Nat) (hw : 1048576 &&& ws = 1048576) : (fusDrop s i n).off ws = s.off ws := by
  refine off_of_subset hw ?_
  simp [fusDrop]

@[simp] theorem fusSample_off (s : State) (x : FSample) (ws : Nat) (hw : 1048576 &&& ws = 1048576) : (fusSample s x).off ws = s.off ws := by
  refine off_of_subset hw ?_
  simp [fusSample]

@[simp] theorem streamTake_off (pk : PointPacket) (s : State) (i : Nat) (ws : Nat) (hw : 1048576 &&& ws = 1048576) : (streamTake pk s i).off ws = s.off ws := by
  refine off_of_subset hw ?_
  simp [streamTake]

@[simp] theorem xPointPacketReceived_off (pk : PointPacket) (s : State) (ws : Nat) (hw : 1048576 &&& ws = 1048576) : (xPointPacketReceived pk s).off ws = s.off ws := by
  refine off_of_subset hw ?_
  simp [xPointPacketReceived]

@[simp] theorem fusFrame_off (s : State) (k tick rows lineNs : Nat) (ws : Nat) (hw : 1048576 &&& ws = 1048576) : (fusFrame s k tick rows lineNs).off ws = s.off ws := by
  refine off_of_subset hw ?_
  simp [fusFrame]

@[simp] theorem scroll_off (s : State) (t : Nat) (ws : Nat) (hw : 1048576 &&& ws = 1048576) : (scroll s t).off ws = s.off ws := by
  refine off_of_subset hw ?_
  unfold scroll; split <;> simp

@[simp] theorem takeSamples_off (s : State) (cut : Nat) (ws : Nat) (hw : 1048576 &&& ws = 1048576) : (takeSamples s cut).off ws = s.off ws := by
  refine off_of_subset hw ?_
  simp [takeSamples]

@[simp] theorem rateStep_off (s : State) (ws : Nat) (hw : 1048608 &&& ws = 1048608) : (rateStep s).off ws = s.off ws := by
  refine off_of_subset hw ?_
  simp [rateStep]

@[simp] theorem cycleBegin_off (s : State) (cut : Nat) (time : T96) (ws : Nat) (hw : 1048578 &&& ws = 1048578) : (cycleBegin s cut time).off ws = s.off ws := by
  refine off_of_subset hw ?_
  simp [cycleBegin]

@[simp] theorem xFusionGather_off (s : State) (ws : Nat) (hw : 1048578 &&& ws = 1048578) : (xFusionGather s).off ws = s.off ws := by
  refine off_of_subset hw ?_
  unfold xFusionGather; (repeat' (first | split | dsimp only)) <;> simp

@[simp] theorem fusStepped_off (old : Nat) (s : State) (ws : Nat) (hw : 1048576 &&& ws = 1048576) : (fusStepped old s).off ws = s.off ws := by
  refine off_of_subset hw ?_
  simp [fusStepped]

@[simp] theorem State_setHead_off (s : State) (h : Nat) (v : FHead) (ws : Nat) (hw : 1048576 &&& ws = 1048576) : (State.setHead s h v).off ws = s.off ws := by
  refine off_of_subset hw ?_
  simp [State.setHead]

@[simp] theorem contraClear_off (s : State) (h : Nat) (ws : Nat) (hw : 1048672 &&& ws = 1048672) : (contraClear s h).off ws = s.off ws := by
  refine off_of_subset hw ?_
  simp [contraClear]

@[simp] theorem contraCycle_off (cy : FCycle) (cells : List CellOut) (s : State) (h : Nat) (ws : Nat) (hw : 1048672 &&& ws = 1048672) : (contraCycle cy cells s h).off ws = s.off ws := by
  refine off_of_subset hw ?_
  simp [contraCycle]

@[simp] theorem objOf_off (cy : FCycle) (l : List HeadCell) (s : State) (code : Nat) (ws : Nat) (hw : 1048578 &&& ws = 1048578) : (objOf cy l s code).1.off ws = s.off ws := by
  refine off_of_subset hw ?_
  have ho : ∀ t cs o x y vx vy new, (objOf.out cy t cs o x y vx vy new).1.off 1048578 = t.off 1048578 := by
    intros; simp [objOf.out]
  unfold objOf; (repeat' (first | split | dsimp only)) <;> simp [ho]

@[simp] theorem objStep_off (cy : FCycle) (l : List (CellOut × F32 × F32 × F32)) (a : State × List ObjOut × Nat) (c : Nat)
    (ws : Nat) (hw : 1048578 &&& ws = 1048578) : (objStep cy l a c).1.off ws = a.1.off ws := by
  refine off_of_subset hw ?_
  have h := objOf_off cy l a.1 c 1048578 (by decide)
  unfold objStep
  split <;> simp_all

@[simp] theorem objectCycle_off (cy : FCycle) (cells : List CellOut) (s : State) (ws : Nat) (hw : 1048610 &&& ws = 1048610) : (objectCycle cy cells s).off ws = s.off ws := by
  refine off_of_subset hw ?_
  unfold objectCycle
  dsimp only
  refine (forN_off _ _ _ _ (fun t a => ?_)).trans ?_
  · simp
  · simp
    refine (foldl_off_of 1048610 (fun a => a.1) _ _ _ (fun b a => objStep_off cy _ b a 1048610 (by decide))).trans ?_
    simp

@[simp] theorem xFusionResultsIssued_off (cells : List CellOut) (edgeL edgeR : EdgeLine) (s : State) (ws : Nat) (hw : 1704162 &&& ws = 1704162) : (xFusionResultsIssued cells edgeL edgeR s).off ws = s.off ws := by
  refine off_of_subset hw ?_
  unfold xFusionResultsIssued; (repeat' (first | split | dsimp only)) <;> (first | (simp; done) | (simp; simp [State.off, pick, Nat.testBit]; done) | (simp [State.off, pick, Nat.testBit]; done))

@[simp] theorem State_setWslot_off (s : State) (i : Nat) (v : WSlot) (ws : Nat) (hw : 1048576 &&& ws = 1048576) : (State.setWslot s i v).off ws = s.off ws := by
  refine off_of_subset hw ?_
  simp [State.setWslot]

@[simp] theorem fusCheck_off (s : State) (ws : Nat) (hw : 0 &&& ws = 0) : (fusCheck s).1.off ws = s.off ws := by
  refine off_of_subset hw ?_
  simp [fusCheck]

@[simp] theorem fusCommit_off (s : State) (ws : Nat) (hw : 1049248 &&& ws = 1049248) : (fusCommit s).off ws = s.off ws := by
  refine off_of_subset hw ?_
  simp [fusCommit]

@[simp] theorem xFusionStartCommit_off (s : State) (ws : Nat) (hw : 1048576 &&& ws = 1048576) : (xFusionStartCommit s).off ws = s.off ws := by
  refine off_of_subset hw ?_
  simp [xFusionStartCommit]

@[simp] theorem fusDiscard_off (s : State) (ws : Nat) (hw : 1048576 &&& ws = 1048576) : (fusDiscard s).off ws = s.off ws := by
  refine off_of_subset hw ?_
  simp [fusDiscard]

@[simp] theorem fusStop_off (s : State) (ws : Nat) (hw : 1048736 &&& ws = 1048736) : (fusStop s).off ws = s.off ws := by
  refine off_of_subset hw ?_
  simp [fusStop]

@[simp] theorem xFusionStopComplete_off (s : State) (ws : Nat) (hw : 1049508 &&& ws = 1049508) : (xFusionStopComplete s).off ws = s.off ws := by
  refine off_of_subset hw ?_
  simp [xFusionStopComplete]

@[simp] theorem fusFault_off (s : State) (ws : Nat) (hw : 1048736 &&& ws = 1048736) : (fusFault s).off ws = s.off ws := by
  refine off_of_subset hw ?_
  unfold fusFault; split <;> simp

@[simp] theorem xFusionEgoLostTimeout_off (s : State) (ws : Nat) (hw : 1048736 &&& ws = 1048736) : (xFusionEgoLostTimeout s).off ws = s.off ws := by
  refine off_of_subset hw ?_
  simp [xFusionEgoLostTimeout]

@[simp] theorem fusReset_off (s : State) (ws : Nat) (hw : 1573344 &&& ws = 1573344) : (fusReset s).off ws = s.off ws := by
  refine off_of_subset hw ?_
  simp [fusReset]

@[simp] theorem egoLoad_off (s : State) (ws : Nat) (hw : 1048576 &&& ws = 1048576) : (egoLoad s).off ws = s.off ws := by
  refine off_of_subset hw ?_
  unfold egoLoad; (repeat' (first | split | dsimp only)) <;> simp

@[simp] theorem xWeightsWriteComplete_off (i : Nat) (s : State) (ws : Nat) (hw : 1048608 &&& ws = 1048608) : (xWeightsWriteComplete i s).off ws = s.off ws := by
  refine off_of_subset hw ?_
  unfold xWeightsWriteComplete; (repeat' (first | split | dsimp only)) <;> simp

@[simp] theorem opFusConfig_off  (t : State) (q : Bytes) (ws : Nat) (hw : 1048992 &&& ws = 1048992) : ((opFusConfig).body t q).s.off ws = t.off ws := by
  refine off_of_subset hw ?_
  unfold opFusConfig; (repeat' (first | split | dsimp only)) <;> simp

@[simp] theorem opFusWeights_off  (t : State) (q : Bytes) (ws : Nat) (hw : 1048576 &&& ws = 1048576) : ((opFusWeights).body t q).s.off ws = t.off ws := by
  refine off_of_subset hw ?_
  unfold opFusWeights; (repeat' (first | split | dsimp only)) <;> simp

@[simp] theorem opFusHeadPolicy_off  (t : State) (q : Bytes) (ws : Nat) (hw : 1049344 &&& ws = 1049344) : ((opFusHeadPolicy).body t q).s.off ws = t.off ws := by
  refine off_of_subset hw ?_
  simp [opFusHeadPolicy]

@[simp] theorem opFusPointStream_off  (t : State) (q : Bytes) (ws : Nat) (hw : 416 &&& ws = 416) : ((opFusPointStream).body t q).s.off ws = t.off ws := by
  refine off_of_subset hw ?_
  simp [opFusPointStream]

@[simp] theorem opFusStatus_off  (t : State) (q : Bytes) (ws : Nat) (hw : 0 &&& ws = 0) : ((opFusStatus).body t q).s.off ws = t.off ws := by
  refine off_of_subset hw ?_
  simp [opFusStatus]

end Sys2Proof.Machine
end

