-- ==== Sys2Proof/Laws/FrameCamera.lean ====
section
/-! SUPPORT. What each operation of Machine/Camera.lean leaves alone: one lemma per operation, with the set of fields it
may change. -/

set_option linter.unusedSimpArgs false

namespace Sys2Proof.Machine

@[simp] theorem linkSet_off (s : State) (k : Nat) (up : Bool) (ws : Nat) (hw : 2097248 &&& ws = 2097248) : (linkSet s k up).off ws = s.off ws := by
  refine off_of_subset hw ?_
  simp [linkSet]

@[simp] theorem powerOn_off (s : State) (k : Nat) (ws : Nat) (hw : 2097154 &&& ws = 2097154) : (powerOn s k).off ws = s.off ws := by
  refine off_of_subset hw ?_
  simp [powerOn]

@[simp] theorem powerOff_off (s : State) (k : Nat) (ws : Nat) (hw : 2097248 &&& ws = 2097248) : (powerOff s k).off ws = s.off ws := by
  refine off_of_subset hw ?_
  simp [powerOff]

@[simp] theorem pipeConfigured_off (s : State) (k : Nat) (ws : Nat) (hw : 2097154 &&& ws = 2097154) : (pipeConfigured s k).off ws = s.off ws := by
  refine off_of_subset hw ?_
  simp [pipeConfigured]

@[simp] theorem pipeQuiet_off (s : State) (k : Nat) (ws : Nat) (hw : 2097152 &&& ws = 2097152) : (pipeQuiet s k).off ws = s.off ws := by
  refine off_of_subset hw ?_
  simp [pipeQuiet]

@[simp] theorem pipeFault_off (s : State) (k : Nat) (ws : Nat) (hw : 2097312 &&& ws = 2097312) : (pipeFault s k).off ws = s.off ws := by
  refine off_of_subset hw ?_
  unfold pipeFault; split <;> simp

@[simp] theorem xCameraPowerLimit_off (k : Nat) (current : F32) (s : State) (ws : Nat) (hw : 2097376 &&& ws = 2097376) : (xCameraPowerLimit k current s).off ws = s.off ws := by
  refine off_of_subset hw ?_
  simp [xCameraPowerLimit]

@[simp] theorem xCameraPowerRetry_off (k : Nat) (ok : Bool) (s : State) (ws : Nat) (hw : 2097250 &&& ws = 2097250) : (xCameraPowerRetry k ok s).off ws = s.off ws := by
  refine off_of_subset hw ?_
  simp [xCameraPowerRetry]

@[simp] theorem xCameraLinkChange_off (k : Nat) (up : Bool) (sensorId : Nat) (s : State) (ws : Nat) (hw : 2097248 &&& ws = 2097248) : (xCameraLinkChange k up sensorId s).off ws = s.off ws := by
  refine off_of_subset hw ?_
  simp [xCameraLinkChange]

@[simp] theorem supersede_off (s : State) (k by_ : Nat) (ws : Nat) (hw : 2097184 &&& ws = 2097184) : (supersede s k by_).off ws = s.off ws := by
  refine off_of_subset hw ?_
  unfold supersede; (repeat' (first | split | dsimp only)) <;> simp

@[simp] theorem tunnelWrites_off (s : State) (k : Nat) (l : List (Nat × Bytes)) (ws : Nat) (hw : 1073741824 &&& ws = 1073741824) : (tunnelWrites s k l).off ws = s.off ws := by
  refine off_of_subset hw ?_
  simp [tunnelWrites]

@[simp] theorem expoBegin_off (s : State) (k num : Nat) (ws : Nat) (hw : 1075838976 &&& ws = 1075838976) : (expoBegin s k num).off ws = s.off ws := by
  refine off_of_subset hw ?_
  unfold expoBegin; (repeat' (first | split | dsimp only)) <;> simp

@[simp] theorem xExposureWritesComplete_off (k : Nat) (s : State) (ws : Nat) (hw : 2097152 &&& ws = 2097152) : (xExposureWritesComplete k s).off ws = s.off ws := by
  refine off_of_subset hw ?_
  simp [xExposureWritesComplete]

@[simp] theorem frameClose_off (s : State) (k : Nat) (noEnd : Bool) (ws : Nat) (hw : 2097312 &&& ws = 2097312) : (frameClose s k noEnd).off ws = s.off ws := by
  refine off_of_subset hw ?_
  unfold frameClose; (repeat' (first | split | dsimp only)) <;> simp

@[simp] theorem xFrameStart_off (k : Nat) (s : State) (ws : Nat) (hw : 1612710050 &&& ws = 1612710050) : (xFrameStart k s).off ws = s.off ws := by
  refine off_of_subset hw ?_
  unfold xFrameStart; (repeat' (first | split | dsimp only)) <;> simp

@[simp] theorem xFrameSlotMissing_off (k : Nat) (s : State) (ws : Nat) (hw : 1075839136 &&& ws = 1075839136) : (xFrameSlotMissing k s).off ws = s.off ws := by
  refine off_of_subset hw ?_
  unfold xFrameSlotMissing; split <;> simp

@[simp] theorem xFrameEnd_off (k : Nat) (s : State) (ws : Nat) (hw : 2097312 &&& ws = 2097312) : (xFrameEnd k s).off ws = s.off ws := by
  refine off_of_subset hw ?_
  simp [xFrameEnd]

@[simp] theorem lineIn_off (s : State) (k : Nat) (pixels : List Nat) (crcOk : Bool) (ws : Nat) (hw : 2097152 &&& ws = 2097152) : (lineIn s k pixels crcOk).off ws = s.off ws := by
  refine off_of_subset hw ?_
  unfold lineIn; (repeat' (first | split | dsimp only)) <;> simp

@[simp] theorem xCsi2PacketReceived_off (k : Nat) (pk : Csi2) (s : State) (ws : Nat) (hw : 1612710050 &&& ws = 1612710050) : (xCsi2PacketReceived k pk s).off ws = s.off ws := by
  refine off_of_subset hw ?_
  unfold xCsi2PacketReceived; (repeat' (first | split | dsimp only)) <;> simp

@[simp] theorem qualityOf_off (s : State) (st : FrameStats) (ws : Nat) (hw : 2 &&& ws = 2) : (qualityOf s st).2.off ws = s.off ws := by
  refine off_of_subset hw ?_
  simp [qualityOf]

@[simp] theorem frameQuality_off (s : State) (k : Nat) (st : FrameStats) (ws : Nat) (hw : 2 &&& ws = 2) : (frameQuality s k st).2.off ws = s.off ws := by
  refine off_of_subset hw ?_
  unfold frameQuality; split <;> simp

@[simp] theorem frameTap_off (k : Nat) (f : Frm) (st : FrameStats) (s : State) (ws : Nat) (hw : 1075838976 &&& ws = 1075838976) : (frameTap k f st s).off ws = s.off ws := by
  refine off_of_subset hw ?_
  simp [frameTap]

@[simp] theorem xFrameProcessed_off (k : Nat) (st : FrameStats) (s : State) (ws : Nat) (hw : 1076887554 &&& ws = 1076887554) : (xFrameProcessed k st s).off ws = s.off ws := by
  refine off_of_subset hw ?_
  unfold xFrameProcessed; split <;> simp

@[simp] theorem xStatsRecordSent_off (k : Nat) (s : State) (ws : Nat) (hw : 2097184 &&& ws = 2097184) : (xStatsRecordSent k s).off ws = s.off ws := by
  refine off_of_subset hw ?_
  unfold xStatsRecordSent; (repeat' (first | split | dsimp only)) <;> simp

@[simp] theorem xCameraTrigger_off (k : Nat) (s : State) (ws : Nat) (hw : 1075838976 &&& ws = 1075838976) : (xCameraTrigger k s).off ws = s.off ws := by
  refine off_of_subset hw ?_
  unfold xCameraTrigger; (repeat' (first | split | dsimp only)) <;> (first | (simp; done) | (simp; simp [State.off, pick, Nat.testBit]; done) | (simp [State.off, pick, Nat.testBit]; done))

@[simp] theorem pipeCheck_off (s : State) (k : Nat) (ws : Nat) (hw : 0 &&& ws = 0) : (pipeCheck s k).1.off ws = s.off ws := by
  refine off_of_subset hw ?_
  simp [pipeCheck]

@[simp] theorem pipeCommit_off (s : State) (k : Nat) (ws : Nat) (hw : 1075839648 &&& ws = 1075839648) : (pipeCommit s k).off ws = s.off ws := by
  refine off_of_subset hw ?_
  simp [pipeCommit]

@[simp] theorem xPipeStartCommit_off (k : Nat) (s : State) (ws : Nat) (hw : 2097152 &&& ws = 2097152) : (xPipeStartCommit k s).off ws = s.off ws := by
  refine off_of_subset hw ?_
  simp [xPipeStartCommit]

@[simp] theorem xPipeStartTimeout_off (k : Nat) (s : State) (ws : Nat) (hw : 2097376 &&& ws = 2097376) : (xPipeStartTimeout k s).off ws = s.off ws := by
  refine off_of_subset hw ?_
  unfold xPipeStartTimeout; (repeat' (first | split | dsimp only)) <;> simp

@[simp] theorem pipeStop_off (s : State) (k : Nat) (ws : Nat) (hw : 1075839136 &&& ws = 1075839136) : (pipeStop s k).off ws = s.off ws := by
  refine off_of_subset hw ?_
  simp [pipeStop]

@[simp] theorem pipeOff_off (s : State) (k : Nat) (ws : Nat) (hw : 2097248 &&& ws = 2097248) : (pipeOff s k).off ws = s.off ws := by
  refine off_of_subset hw ?_
  simp [pipeOff]

@[simp] theorem xPipeStopComplete_off (k : Nat) (s : State) (ws : Nat) (hw : 1075839972 &&& ws = 1075839972) : (xPipeStopComplete k s).off ws = s.off ws := by
  refine off_of_subset hw ?_
  simp [xPipeStopComplete]

@[simp] theorem pipeReset_off (s : State) (k : Nat) (ws : Nat) (hw : 2097632 &&& ws = 2097632) : (pipeReset s k).off ws = s.off ws := by
  refine off_of_subset hw ?_
  simp [pipeReset]

@[simp] theorem opPipeConfig_off  (t : State) (q : Bytes) (ws : Nat) (hw : 2097570 &&& ws = 2097570) : ((opPipeConfig).body t q).s.off ws = t.off ws := by
  refine off_of_subset hw ?_
  simp [opPipeConfig]

@[simp] theorem opExposureCommit_off  (t : State) (q : Bytes) (ws : Nat) (hw : 2097184 &&& ws = 2097184) : ((opExposureCommit).body t q).s.off ws = t.off ws := by
  refine off_of_subset hw ?_
  unfold opExposureCommit; (repeat' (first | split | dsimp only)) <;> simp

@[simp] theorem tunnelAns_off (s : State) (read : Nat) (a : SensorAns) (ws : Nat) (hw : 0 &&& ws = 0) : (tunnelAns s read a).s.off ws = s.off ws := by
  refine off_of_subset hw ?_
  unfold tunnelAns; (repeat' (first | split | dsimp only)) <;> simp

@[simp] theorem tunnelAppend_off (s : State) (k : Nat) (o : Obj) (p : Bytes) (ws : Nat) (hw : 2097570 &&& ws = 2097570) : (tunnelAppend s k o p).s.off ws = s.off ws := by
  refine off_of_subset hw ?_
  unfold tunnelAppend; split <;> simp

@[simp] theorem opSensorTunnel_off (ans : SensorAns) (t : State) (q : Bytes) (ws : Nat) (hw : 1075839394 &&& ws = 1075839394) : ((opSensorTunnel ans).body t q).s.off ws = t.off ws := by
  refine off_of_subset hw ?_
  unfold opSensorTunnel; (repeat' (first | split | dsimp only)) <;> simp

@[simp] theorem opPipeStatus_off  (t : State) (q : Bytes) (ws : Nat) (hw : 0 &&& ws = 0) : ((opPipeStatus).body t q).s.off ws = t.off ws := by
  refine off_of_subset hw ?_
  simp [opPipeStatus]

end Sys2Proof.Machine
end

