-- ==== Sys2Proof/Laws/FramePlanner.lean ====
section
/-! SUPPORT. What each operation of Machine/Planner.lean leaves alone: one lemma per operation, with the set of fields it
may change. -/

set_option linter.unusedSimpArgs false

namespace Sys2Proof.Machine

@[simp] theorem State_setCv_off (s : State) (j : Nat) (v : CvSt) (ws : Nat) (hw : 65536 &&& ws = 65536) : (State.setCv s j v).off ws = s.off ws := by
  refine off_of_subset hw ?_
  simp [State.setCv]

@[simp] theorem cvCycle_off (s : State) (j : Nat) (ws : Nat) (hw : 65536 &&& ws = 65536) : (cvCycle s j).off ws = s.off ws := by
  refine off_of_subset hw ?_
  unfold cvCycle; split <;> simp

@[simp] theorem xCvOverLimitTimeout_off (j : Nat) (s : State) (ws : Nat) (hw : 65568 &&& ws = 65568) : (xCvOverLimitTimeout j s).off ws = s.off ws := by
  refine off_of_subset hw ?_
  unfold xCvOverLimitTimeout; (repeat' (first | split | dsimp only)) <;> simp

@[simp] theorem xPlanSolved_off (mvs : List (List F32)) (s : State) (ws : Nat) (hw : 65536 &&& ws = 65536) : (xPlanSolved mvs s).off ws = s.off ws := by
  refine off_of_subset hw ?_
  simp [xPlanSolved]

@[simp] theorem fallbackIssue_off (s : State) (secs : F32) (ws : Nat) (hw : 8192 &&& ws = 8192) : (fallbackIssue s secs).off ws = s.off ws := by
  refine off_of_subset hw ?_
  simp [fallbackIssue]

@[simp] theorem planMode_off (s : State) (m : Nat) (ws : Nat) (hw : 65568 &&& ws = 65568) : (planMode s m).off ws = s.off ws := by
  refine off_of_subset hw ?_
  simp [planMode]

@[simp] theorem planTake_off (s : State) (ws : Nat) (hw : 65536 &&& ws = 65536) : (planTake s).off ws = s.off ws := by
  refine off_of_subset hw ?_
  simp [planTake]

@[simp] theorem planIssue_off (s : State) (ws : Nat) (hw : 73888 &&& ws = 73888) : (planIssue s).off ws = s.off ws := by
  refine off_of_subset hw ?_
  unfold planIssue; (repeat' (first | split | dsimp only)) <;> simp

@[simp] theorem xPlannerCycle_off (s : State) (ws : Nat) (hw : 73888 &&& ws = 73888) : (xPlannerCycle s).off ws = s.off ws := by
  refine off_of_subset hw ?_
  unfold xPlannerCycle; (repeat' (first | split | dsimp only)) <;> simp

@[simp] theorem planCheck_off (s : State) (ws : Nat) (hw : 0 &&& ws = 0) : (planCheck s).1.off ws = s.off ws := by
  refine off_of_subset hw ?_
  simp [planCheck]

@[simp] theorem planCommit_off (s : State) (ws : Nat) (hw : 66208 &&& ws = 66208) : (planCommit s).off ws = s.off ws := by
  refine off_of_subset hw ?_
  simp [planCommit]

@[simp] theorem xPlannerStartCommit_off (s : State) (ws : Nat) (hw : 65536 &&& ws = 65536) : (xPlannerStartCommit s).off ws = s.off ws := by
  refine off_of_subset hw ?_
  simp [xPlannerStartCommit]

@[simp] theorem planFaulted_off (s : State) (ws : Nat) (hw : 65760 &&& ws = 65760) : (planFaulted s).off ws = s.off ws := by
  refine off_of_subset hw ?_
  simp [planFaulted]

@[simp] theorem planFault_off (s : State) (ws : Nat) (hw : 65760 &&& ws = 65760) : (planFault s).off ws = s.off ws := by
  refine off_of_subset hw ?_
  unfold planFault; split <;> simp

@[simp] theorem xPlannerCoastTimeout_off (s : State) (ws : Nat) (hw : 65760 &&& ws = 65760) : (xPlannerCoastTimeout s).off ws = s.off ws := by
  refine off_of_subset hw ?_
  simp [xPlannerCoastTimeout]

@[simp] theorem planStop_off (s : State) (ws : Nat) (hw : 65696 &&& ws = 65696) : (planStop s).off ws = s.off ws := by
  refine off_of_subset hw ?_
  simp [planStop]

@[simp] theorem xPlannerStopComplete_off (s : State) (ws : Nat) (hw : 74724 &&& ws = 74724) : (xPlannerStopComplete s).off ws = s.off ws := by
  refine off_of_subset hw ?_
  simp [xPlannerStopComplete]

@[simp] theorem planReset_off (s : State) (ws : Nat) (hw : 66016 &&& ws = 66016) : (planReset s).off ws = s.off ws := by
  refine off_of_subset hw ?_
  simp [planReset]

@[simp] theorem opPlannerModel_off  (t : State) (q : Bytes) (ws : Nat) (hw : 65952 &&& ws = 65952) : ((opPlannerModel).body t q).s.off ws = t.off ws := by
  refine off_of_subset hw ?_
  simp only [opPlannerModel]
  refine cfgAnswer_off _ _ _ _ ?_ (by decide)
  intro t
  split <;> simp [State.setStg, State.off, pick, Nat.testBit]

@[simp] theorem opPlannerObjectives_off  (t : State) (q : Bytes) (ws : Nat) (hw : 66304 &&& ws = 66304) : ((opPlannerObjectives).body t q).s.off ws = t.off ws := by
  refine off_of_subset hw ?_
  simp [opPlannerObjectives]

@[simp] theorem opPspMap_off  (t : State) (q : Bytes) (ws : Nat) (hw : 416 &&& ws = 416) : ((opPspMap).body t q).s.off ws = t.off ws := by
  refine off_of_subset hw ?_
  simp (maxDischargeDepth := 5) [opPspMap]

@[simp] theorem opPlannerStatus_off  (t : State) (q : Bytes) (ws : Nat) (hw : 0 &&& ws = 0) : ((opPlannerStatus).body t q).s.off ws = t.off ws := by
  refine off_of_subset hw ?_
  simp [opPlannerStatus]

end Sys2Proof.Machine
end

