-- ==== Sys2Proof/Laws/FrameGnss.lean ====
section
/-! SUPPORT. What each operation of Machine/Gnss.lean leaves alone: one lemma per operation, with the set of fields it
may change. -/

set_option linter.unusedSimpArgs false

namespace Sys2Proof.Machine

@[simp] theorem State_setTrack_off (s : State) (c : Nat) (t : Track) (ws : Nat) (hw : 4194304 &&& ws = 4194304) : (State.setTrack s c t).off ws = s.off ws := by
  refine off_of_subset hw ?_
  simp [State.setTrack]

@[simp] theorem State_setNotch_off (s : State) (n : Nat) (x : Notch) (ws : Nat) (hw : 4194304 &&& ws = 4194304) : (State.setNotch s n x).off ws = s.off ws := by
  refine off_of_subset hw ?_
  simp [State.setNotch]

@[simp] theorem antennaTo_off (s : State) (n : Nat) (current : F32) (ws : Nat) (hw : 4194400 &&& ws = 4194400) : (antennaTo s n current).off ws = s.off ws := by
  refine off_of_subset hw ?_
  simp [antennaTo]

@[simp] theorem antennaUpdate_off (s : State) (ws : Nat) (hw : 4194400 &&& ws = 4194400) : (antennaUpdate s).off ws = s.off ws := by
  refine off_of_subset hw ?_
  simp [antennaUpdate]

@[simp] theorem xAntennaBiasChange_off (n : Nat) (current : F32) (s : State) (ws : Nat) (hw : 4194400 &&& ws = 4194400) : (xAntennaBiasChange n current s).off ws = s.off ws := by
  refine off_of_subset hw ?_
  simp [xAntennaBiasChange]

@[simp] theorem xAntennaBiasRetry_off (ok : Bool) (current : F32) (s : State) (ws : Nat) (hw : 4194400 &&& ws = 4194400) : (xAntennaBiasRetry ok current s).off ws = s.off ws := by
  refine off_of_subset hw ?_
  simp [xAntennaBiasRetry]

@[simp] theorem levelTo_off (s : State) (n : Nat) (ws : Nat) (hw : 4194400 &&& ws = 4194400) : (levelTo s n).off ws = s.off ws := by
  refine off_of_subset hw ?_
  simp [levelTo]

@[simp] theorem notchEpoch_off (lines : List NotchLine) (s : State) (ws : Nat) (hw : 4194304 &&& ws = 4194304) : (notchEpoch lines s).off ws = s.off ws := by
  refine off_of_subset hw ?_
  simp [notchEpoch]

@[simp] theorem xJammingAlarmTimeout_off (s : State) (ws : Nat) (hw : 4194400 &&& ws = 4194400) : (xJammingAlarmTimeout s).off ws = s.off ws := by
  refine off_of_subset hw ?_
  unfold xJammingAlarmTimeout; split <;> simp

@[simp] theorem handOver_off (s : State) (prn : Nat) (doppler code : F32) (ws : Nat) (hw : 4194304 &&& ws = 4194304) : (handOver s prn doppler code).off ws = s.off ws := by
  refine off_of_subset hw ?_
  unfold handOver; split <;> simp

@[simp] theorem searchEpoch_off (b : BankEpoch) (s : State) (ws : Nat) (hw : 4194304 &&& ws = 4194304) : (searchEpoch b s).off ws = s.off ws := by
  refine off_of_subset hw ?_
  unfold searchEpoch; (repeat' (first | split | dsimp only)) <;> simp

@[simp] theorem trackEpoch_off (s : State) (t : TrackIn) (ws : Nat) (hw : 4194304 &&& ws = 4194304) : (trackEpoch s t).off ws = s.off ws := by
  refine off_of_subset hw ?_
  simp [trackEpoch]

@[simp] theorem frontEpoch_off (b : BankEpoch) (s : State) (ws : Nat) (hw : 4194400 &&& ws = 4194400) : (frontEpoch b s).off ws = s.off ws := by
  refine off_of_subset hw ?_
  simp [frontEpoch]

@[simp] theorem xGnssBankEpoch_off (b : BankEpoch) (s : State) (ws : Nat) (hw : 4194400 &&& ws = 4194400) : (xGnssBankEpoch b s).off ws = s.off ws := by
  refine off_of_subset hw ?_
  unfold xGnssBankEpoch; (repeat' (first | split | dsimp only)) <;> simp

@[simp] theorem xAcquisitionFalseAlarm_off (c : Nat) (s : State) (ws : Nat) (hw : 4194304 &&& ws = 4194304) : (xAcquisitionFalseAlarm c s).off ws = s.off ws := by
  refine off_of_subset hw ?_
  simp [xAcquisitionFalseAlarm]

@[simp] theorem trackLost_off (s : State) (c : Nat) (ws : Nat) (hw : 4194304 &&& ws = 4194304) : (trackLost s c).off ws = s.off ws := by
  refine off_of_subset hw ?_
  simp [trackLost]

@[simp] theorem xTrackingLockChange_off (c : Nat) (code phase : Bool) (s : State) (ws : Nat) (hw : 4194304 &&& ws = 4194304) : (xTrackingLockChange c code phase s).off ws = s.off ws := by
  refine off_of_subset hw ?_
  simp [xTrackingLockChange]

@[simp] theorem xTrackingLossTimeout_off (c : Nat) (byCn0 : Bool) (s : State) (ws : Nat) (hw : 4194304 &&& ws = 4194304) : (xTrackingLossTimeout c byCn0 s).off ws = s.off ws := by
  refine off_of_subset hw ?_
  unfold xTrackingLossTimeout; (repeat' (first | split | dsimp only)) <;> simp

@[simp] theorem xBitSyncTimeout_off (c : Nat) (s : State) (ws : Nat) (hw : 4194304 &&& ws = 4194304) : (xBitSyncTimeout c s).off ws = s.off ws := by
  refine off_of_subset hw ?_
  simp [xBitSyncTimeout]

@[simp] theorem xLostPrnExpiry_off (prn : Nat) (s : State) (ws : Nat) (hw : 4194304 &&& ws = 4194304) : (xLostPrnExpiry prn s).off ws = s.off ws := by
  refine off_of_subset hw ?_
  simp [xLostPrnExpiry]

@[simp] theorem sendWords_off (s : State) (body : Bytes) (ws : Nat) (hw : 32 &&& ws = 32) : (sendWords s body).off ws = s.off ws := by
  refine off_of_subset hw ?_
  simp [sendWords]

@[simp] theorem takeData_off (s : State) (prn : Nat) (f : Subframe) (ws : Nat) (hw : 4194304 &&& ws = 4194304) : (takeData s prn f).off ws = s.off ws := by
  refine off_of_subset hw ?_
  simp [takeData]

@[simp] theorem xSubframeReceived_off (c : Nat) (words : List Nat) (prevBits : Nat) (follows : Bool) (start : T96) (s : State) (ws : Nat) (hw : 4194336 &&& ws = 4194336) : (xSubframeReceived c words prevBits follows start s).off ws = s.off ws := by
  refine off_of_subset hw ?_
  unfold xSubframeReceived; (repeat' (first | split | dsimp only)) <;> simp

@[simp] theorem sendObs_off (s : State) (m : EpochIn) (num : Nat) (time : T96) (ws : Nat) (hw : 32 &&& ws = 32) : (sendObs s m num time).off ws = s.off ws := by
  refine off_of_subset hw ?_
  simp [sendObs]

@[simp] theorem solveFix_off (s : State) (m : EpochIn) (ws : Nat) (hw : 4194336 &&& ws = 4194336) : (solveFix s m).off ws = s.off ws := by
  refine off_of_subset hw ?_
  simp [solveFix]

@[simp] theorem gnssEpoch_off (m : EpochIn) (s : State) (ws : Nat) (hw : 4194336 &&& ws = 4194336) : (gnssEpoch m s).off ws = s.off ws := by
  refine off_of_subset hw ?_
  simp [gnssEpoch]

@[simp] theorem gnssSave_off (s : State) (ws : Nat) (hw : 4194304 &&& ws = 4194304) : (gnssSave s).off ws = s.off ws := by
  refine off_of_subset hw ?_
  simp [gnssSave]

@[simp] theorem xGnssDataStore_off (s : State) (ws : Nat) (hw : 4194304 &&& ws = 4194304) : (xGnssDataStore s).off ws = s.off ws := by
  refine off_of_subset hw ?_
  simp [xGnssDataStore]

@[simp] theorem gnssStepped_off (s : State) (ws : Nat) (hw : 4194304 &&& ws = 4194304) : (gnssStepped s).off ws = s.off ws := by
  refine off_of_subset hw ?_
  simp [gnssStepped]

@[simp] theorem pipNotice_off (s : State) (id kind : Nat) (start : T96) (found : List (Nat × Nat × Nat × Int)) (ws : Nat) (hw : 32 &&& ws = 32) : (pipNotice s id kind start found).off ws = s.off ws := by
  refine off_of_subset hw ?_
  simp [pipNotice]

@[simp] theorem xPipCaptureBegin_off (s : State) (ws : Nat) (hw : 4194304 &&& ws = 4194304) : (xPipCaptureBegin s).off ws = s.off ws := by
  refine off_of_subset hw ?_
  simp [xPipCaptureBegin]

@[simp] theorem pipRequest_off (s : State) (id : Nat) (ws : Nat) (hw : 4194304 &&& ws = 4194304) : (pipRequest s id).off ws = s.off ws := by
  refine off_of_subset hw ?_
  simp [pipRequest]

@[simp] theorem xPipStored_off (samples : Bytes) (s : State) (ws : Nat) (hw : 4194336 &&& ws = 4194336) : (xPipStored samples s).off ws = s.off ws := by
  refine off_of_subset hw ?_
  unfold xPipStored; split <;> simp

@[simp] theorem jobDone_off (s : State) (ws : Nat) (hw : 4194304 &&& ws = 4194304) : (jobDone s).off ws = s.off ws := by
  refine off_of_subset hw ?_
  simp [jobDone]

@[simp] theorem jobFinish_off (s : State) (p : Pip) (ws : Nat) (hw : 4194336 &&& ws = 4194336) : (jobFinish s p).off ws = s.off ws := by
  refine off_of_subset hw ?_
  simp [jobFinish]

@[simp] theorem xPipProcessingUnit_off (ratio : F32) (code64 : Nat) (doppler : Int) (s : State) (ws : Nat) (hw : 4194336 &&& ws = 4194336) : (xPipProcessingUnit ratio code64 doppler s).off ws = s.off ws := by
  refine off_of_subset hw ?_
  unfold xPipProcessingUnit; (repeat' (first | split | dsimp only)) <;> simp

@[simp] theorem pipDelete_off (s : State) (gone : Pip → Bool) (ws : Nat) (hw : 4194304 &&& ws = 4194304) : (pipDelete s gone).off ws = s.off ws := by
  refine off_of_subset hw ?_
  simp [pipDelete]

@[simp] theorem pipErase_off (s : State) (ws : Nat) (hw : 4194336 &&& ws = 4194336) : (pipErase s).off ws = s.off ws := by
  refine off_of_subset hw ?_
  simp [pipErase]

@[simp] theorem capDiscard_off (s : State) (ws : Nat) (hw : 4194336 &&& ws = 4194336) : (capDiscard s).off ws = s.off ws := by
  refine off_of_subset hw ?_
  simp [capDiscard]

@[simp] theorem gnssCheck_off (s : State) (ws : Nat) (hw : 0 &&& ws = 0) : (gnssCheck s).1.off ws = s.off ws := by
  refine off_of_subset hw ?_
  simp [gnssCheck]

@[simp] theorem gnssCommit_off (s : State) (ws : Nat) (hw : 4195040 &&& ws = 4195040) : (gnssCommit s).off ws = s.off ws := by
  refine off_of_subset hw ?_
  simp [gnssCommit]

@[simp] theorem xGnssStartCommit_off (s : State) (ws : Nat) (hw : 4194464 &&& ws = 4194464) : (xGnssStartCommit s).off ws = s.off ws := by
  refine off_of_subset hw ?_
  simp [xGnssStartCommit]

@[simp] theorem gnssHalt_off (s : State) (ws : Nat) (hw : 4194400 &&& ws = 4194400) : (gnssHalt s).off ws = s.off ws := by
  refine off_of_subset hw ?_
  simp [gnssHalt]

@[simp] theorem gnssStop_off (s : State) (ws : Nat) (hw : 4195300 &&& ws = 4195300) : (gnssStop s).off ws = s.off ws := by
  refine off_of_subset hw ?_
  simp [gnssStop]

@[simp] theorem gnssFault_off (s : State) (ws : Nat) (hw : 4194528 &&& ws = 4194528) : (gnssFault s).off ws = s.off ws := by
  refine off_of_subset hw ?_
  simp [gnssFault]

@[simp] theorem gnssReset_off (s : State) (ws : Nat) (hw : 4194784 &&& ws = 4194784) : (gnssReset s).off ws = s.off ws := by
  refine off_of_subset hw ?_
  simp [gnssReset]

@[simp] theorem opGnssConfig_off  (t : State) (q : Bytes) (ws : Nat) (hw : 4194784 &&& ws = 4194784) : ((opGnssConfig).body t q).s.off ws = t.off ws := by
  refine off_of_subset hw ?_
  unfold opGnssConfig; (repeat' (first | split | dsimp only)) <;> simp

@[simp] theorem opNotchConfig_off  (t : State) (q : Bytes) (ws : Nat) (hw : 768 &&& ws = 768) : ((opNotchConfig).body t q).s.off ws = t.off ws := by
  refine off_of_subset hw ?_
  simp [opNotchConfig]

@[simp] theorem opPipCapture_off  (t : State) (q : Bytes) (ws : Nat) (hw : 4194304 &&& ws = 4194304) : ((opPipCapture).body t q).s.off ws = t.off ws := by
  refine off_of_subset hw ?_
  unfold opPipCapture; (repeat' (first | split | dsimp only)) <;> simp

@[simp] theorem opPipExport_off  (t : State) (q : Bytes) (ws : Nat) (hw : 4194336 &&& ws = 4194336) : ((opPipExport).body t q).s.off ws = t.off ws := by
  refine off_of_subset hw ?_
  unfold opPipExport; (repeat' (first | split | dsimp only)) <;> simp

@[simp] theorem opGnssStatus_off  (t : State) (q : Bytes) (ws : Nat) (hw : 0 &&& ws = 0) : ((opGnssStatus).body t q).s.off ws = t.off ws := by
  refine off_of_subset hw ?_
  simp [opGnssStatus]

end Sys2Proof.Machine
end

