-- ==== Sys2Proof/Laws/FrameGuidance.lean ====
section
/-! SUPPORT. What each operation of Machine/Guidance.lean leaves alone: one lemma per operation, with the set of fields it
may change. -/

set_option linter.unusedSimpArgs false

namespace Sys2Proof.Machine

@[simp] theorem xPoseReceived_off (udp : Bool) (port ident : Nat) (raw : Bytes) (s : State) (ws : Nat) (hw : 131072 &&& ws = 131072) : (xPoseReceived udp port ident raw s).off ws = s.off ws := by
  refine off_of_subset hw ?_
  simp [xPoseReceived]

@[simp] theorem guidLost_off (s : State) (cause : Nat) (ws : Nat) (hw : 131296 &&& ws = 131296) : (guidLost s cause).off ws = s.off ws := by
  refine off_of_subset hw ?_
  simp [guidLost]

@[simp] theorem guidFault_off (s : State) (ws : Nat) (hw : 131296 &&& ws = 131296) : (guidFault s).off ws = s.off ws := by
  refine off_of_subset hw ?_
  unfold guidFault; split <;> simp

@[simp] theorem xPoseStaleExpiry_off (s : State) (ws : Nat) (hw : 131104 &&& ws = 131104) : (xPoseStaleExpiry s).off ws = s.off ws := by
  refine off_of_subset hw ?_
  simp [xPoseStaleExpiry]

@[simp] theorem xDrLimitExpiry_off (s : State) (ws : Nat) (hw : 131296 &&& ws = 131296) : (xDrLimitExpiry s).off ws = s.off ws := by
  refine off_of_subset hw ?_
  unfold xDrLimitExpiry; split <;> simp

@[simp] theorem releaseStep_off (s : State) (ws : Nat) (hw : 8192 &&& ws = 8192) : (releaseStep s).off ws = s.off ws := by
  refine off_of_subset hw ?_
  simp [releaseStep]

@[simp] theorem guidIssue_off (s : State) (ws : Nat) (hw : 139424 &&& ws = 139424) : (guidIssue s).off ws = s.off ws := by
  refine off_of_subset hw ?_
  unfold guidIssue; split <;> simp

@[simp] theorem xGuidanceInstant_off (ey ePsi kap sNear : F32) (beyondEnd : Bool) (retire : Nat) (s : State) (ws : Nat) (hw : 139488 &&& ws = 139488) : (xGuidanceInstant ey ePsi kap sNear beyondEnd retire s).off ws = s.off ws := by
  refine off_of_subset hw ?_
  unfold xGuidanceInstant; (repeat' (first | split | dsimp only)) <;> simp

@[simp] theorem guidCheck_off (s : State) (ws : Nat) (hw : 0 &&& ws = 0) : (guidCheck s).1.off ws = s.off ws := by
  refine off_of_subset hw ?_
  simp [guidCheck]

@[simp] theorem guidCommit_off (s : State) (ws : Nat) (hw : 131744 &&& ws = 131744) : (guidCommit s).off ws = s.off ws := by
  refine off_of_subset hw ?_
  simp [guidCommit]

@[simp] theorem xGuidanceStartCommit_off (s : State) (ws : Nat) (hw : 131072 &&& ws = 131072) : (xGuidanceStartCommit s).off ws = s.off ws := by
  refine off_of_subset hw ?_
  simp [xGuidanceStartCommit]

@[simp] theorem guidStop_off (s : State) (ws : Nat) (hw : 131232 &&& ws = 131232) : (guidStop s).off ws = s.off ws := by
  refine off_of_subset hw ?_
  simp [guidStop]

@[simp] theorem xGuidanceStopComplete_off (s : State) (ws : Nat) (hw : 140260 &&& ws = 140260) : (xGuidanceStopComplete s).off ws = s.off ws := by
  refine off_of_subset hw ?_
  simp [xGuidanceStopComplete]

@[simp] theorem guidReset_off (s : State) (ws : Nat) (hw : 131552 &&& ws = 131552) : (guidReset s).off ws = s.off ws := by
  refine off_of_subset hw ?_
  simp [guidReset]

@[simp] theorem cutBegin_off (t : T96) (tick : Nat) (s : State) (ws : Nat) (hw : 262144 &&& ws = 262144) : (cutBegin t tick s).off ws = s.off ws := by
  refine off_of_subset hw ?_
  simp [cutBegin]

@[simp] theorem headerRead_off (s : State) (ws : Nat) (hw : 262144 &&& ws = 262144) : (headerRead s).off ws = s.off ws := by
  refine off_of_subset hw ?_
  simp [headerRead]

@[simp] theorem distTake_off (till : Nat) (s : State) (ws : Nat) (hw : 262144 &&& ws = 262144) : (distTake till s).off ws = s.off ws := by
  refine off_of_subset hw ?_
  unfold distTake; (repeat' (first | split | dsimp only)) <;> simp

@[simp] theorem cutEnd_off (tick : Nat) (s : State) (ws : Nat) (hw : 262144 &&& ws = 262144) : (cutEnd tick s).off ws = s.off ws := by
  refine off_of_subset hw ?_
  unfold cutEnd; (repeat' (first | split | dsimp only)) <;> simp

@[simp] theorem yieldSend_off (s : State) (ns : Nat) (ws : Nat) (hw : 262176 &&& ws = 262176) : (yieldSend s ns).off ws = s.off ws := by
  refine off_of_subset hw ?_
  unfold yieldSend; split <;> simp

@[simp] theorem yieldWindow_off (s : State) (w : WinRec) (ws : Nat) (hw : 262176 &&& ws = 262176) : (yieldWindow s w).off ws = s.off ws := by
  refine off_of_subset hw ?_
  simp [yieldWindow]

@[simp] theorem yieldOn_off (k : Nat) (before : Option Nat) (s : State) (ws : Nat) (hw : 262176 &&& ws = 262176) : (yieldOn k before s).off ws = s.off ws := by
  refine off_of_subset hw ?_
  unfold yieldOn; split <;> simp

@[simp] theorem xWindowCountsPublished_off (s : State) (ws : Nat) (hw : 278560 &&& ws = 278560) : (xWindowCountsPublished s).off ws = s.off ws := by
  refine off_of_subset hw ?_
  simp [xWindowCountsPublished]

@[simp] theorem xYieldConfigCommit_off (s : State) (ws : Nat) (hw : 262144 &&& ws = 262144) : (xYieldConfigCommit s).off ws = s.off ws := by
  refine off_of_subset hw ?_
  unfold xYieldConfigCommit; (repeat' (first | split | dsimp only)) <;> simp

@[simp] theorem xInputConfigCommit_off (sel k : Nat) (s : State) (ws : Nat) (hw : 278528 &&& ws = 278528) : (xInputConfigCommit sel k s).off ws = s.off ws := by
  refine off_of_subset hw ?_
  simp [xInputConfigCommit]

@[simp] theorem yieldStep_off (old new : Nat) (s : State) (ws : Nat) (hw : 262144 &&& ws = 262144) : (yieldStep old new s).off ws = s.off ws := by
  refine off_of_subset hw ?_
  simp [yieldStep]

@[simp] theorem opGuidanceConfig_off  (t : State) (q : Bytes) (ws : Nat) (hw : 416 &&& ws = 416) : ((opGuidanceConfig).body t q).s.off ws = t.off ws := by
  refine off_of_subset hw ?_
  simp [opGuidanceConfig]

@[simp] theorem opPoseSource_off  (t : State) (q : Bytes) (ws : Nat) (hw : 416 &&& ws = 416) : ((opPoseSource).body t q).s.off ws = t.off ws := by
  refine off_of_subset hw ?_
  simp [opPoseSource]

@[simp] theorem opPathLoad_off  (t : State) (q : Bytes) (ws : Nat) (hw : 131072 &&& ws = 131072) : ((opPathLoad).body t q).s.off ws = t.off ws := by
  refine off_of_subset hw ?_
  unfold opPathLoad; (repeat' (first | split | dsimp only)) <;> simp

@[simp] theorem opYieldConfig_off  (t : State) (q : Bytes) (ws : Nat) (hw : 262144 &&& ws = 262144) : ((opYieldConfig).body t q).s.off ws = t.off ws := by
  refine off_of_subset hw ?_
  unfold opYieldConfig; (repeat' (first | split | dsimp only)) <;> simp

end Sys2Proof.Machine
end

