-- ==== Sys2Proof/Laws/FrameTime.lean ====
section
/-! SUPPORT. What each operation of Machine/Time.lean leaves alone: one lemma per operation, with the set of fields it
may change. -/

set_option linter.unusedSimpArgs false

namespace Sys2Proof.Machine

@[simp] theorem clockEvent_off (s : State) (d old : Nat) (ws : Nat) (hw : 96 &&& ws = 96) : (clockEvent s d old).off ws = s.off ws := by
  refine off_of_subset hw ?_
  simp [clockEvent]

@[simp] theorem setClock_off (s : State) (d : Nat) (x : Domain) (ws : Nat) (hw : 8388704 &&& ws = 8388704) : (setClock s d x).off ws = s.off ws := by
  refine off_of_subset hw ?_
  simp [setClock]

@[simp] theorem chanStepped_off (d old new : Nat) (s : State) (k : Nat) (ws : Nat) (hw : 32768 &&& ws = 32768) : (chanStepped d old new s k).off ws = s.off ws := by
  refine off_of_subset hw ?_
  unfold chanStepped; (repeat' (first | split | dsimp only)) <;> simp

@[simp] theorem portStepped_off (d old new : Nat) (s : State) (p : Nat) (ws : Nat) (hw : 16777216 &&& ws = 16777216) : (portStepped d old new s p).off ws = s.off ws := by
  refine off_of_subset hw ?_
  unfold portStepped; (repeat' (first | split | dsimp only)) <;> simp

@[simp] theorem domainStepped_off (d : Nat) (was : T96) (s : State) (ws : Nat) (hw : 22339616 &&& ws = 22339616) : (domainStepped d was s).off ws = s.off ws := by
  refine off_of_subset hw ?_
  simp [domainStepped]

@[simp] theorem setTime_off (s : State) (d : Nat) (v : Nat) (ws : Nat) (hw : 30728224 &&& ws = 30728224) : (setTime s d v).off ws = s.off ws := by
  refine off_of_subset hw ?_
  simp [setTime]

@[simp] theorem xTimeStepMade_off (d : Nat) (s : State) (ws : Nat) (hw : 30728224 &&& ws = 30728224) : (xTimeStepMade d s).off ws = s.off ws := by
  refine off_of_subset hw ?_
  unfold xTimeStepMade; (repeat' (first | split | dsimp only)) <;> simp

@[simp] theorem offsetTake_off (d : Nat) (o : Int) (s : State) (ws : Nat) (hw : 8388704 &&& ws = 8388704) : (offsetTake d o s).off ws = s.off ws := by
  refine off_of_subset hw ?_
  unfold offsetTake; (repeat' (first | split | dsimp only)) <;> simp

@[simp] theorem offsetIn_off (d : Nat) (o : Int) (s : State) (ws : Nat) (hw : 8388704 &&& ws = 8388704) : (offsetIn d o s).off ws = s.off ws := by
  refine off_of_subset hw ?_
  simp [offsetIn]

@[simp] theorem loseClock_off (s : State) (d : Nat) (backupOk : Bool) (ws : Nat) (hw : 8388704 &&& ws = 8388704) : (loseClock s d backupOk).off ws = s.off ws := by
  refine off_of_subset hw ?_
  unfold loseClock; (repeat' (first | split | dsimp only)) <;> simp

@[simp] theorem loseSource_off (s : State) (d : Nat) (backupOk : Bool) (ws : Nat) (hw : 8388704 &&& ws = 8388704) : (loseSource s d backupOk).off ws = s.off ws := by
  refine off_of_subset hw ?_
  simp [loseSource]

@[simp] theorem backupEnd_off (s : State) (e : Nat) (ws : Nat) (hw : 8388704 &&& ws = 8388704) : (backupEnd s e).off ws = s.off ws := by
  refine off_of_subset hw ?_
  simp [backupEnd]

@[simp] theorem sourceLost_off (s : State) (d : Nat) (ws : Nat) (hw : 8388704 &&& ws = 8388704) : (sourceLost s d).off ws = s.off ws := by
  refine off_of_subset hw ?_
  simp [sourceLost]

@[simp] theorem timeGnss_off (m : EpochIn) (was : Nat) (s : State) (d : Nat) (ws : Nat) (hw : 8388704 &&& ws = 8388704) : (timeGnss m was s d).off ws = s.off ws := by
  refine off_of_subset hw ?_
  simp [timeGnss]

@[simp] theorem xMeasurementEpoch_off (m : EpochIn) (s : State) (ws : Nat) (hw : 12583008 &&& ws = 12583008) : (xMeasurementEpoch m s).off ws = s.off ws := by
  refine off_of_subset hw ?_
  simp [xMeasurementEpoch]

@[simp] theorem gnssGone_off (s : State) (ws : Nat) (hw : 8388704 &&& ws = 8388704) : (gnssGone s).off ws = s.off ws := by
  refine off_of_subset hw ?_
  simp [gnssGone]

@[simp] theorem xPpsOutPulse_off (d : Nat) (s : State) (ws : Nat) (hw : 1082130432 &&& ws = 1082130432) : (xPpsOutPulse d s).off ws = s.off ws := by
  refine off_of_subset hw ?_
  unfold xPpsOutPulse; (repeat' (first | split | dsimp only)) <;> (first | (simp; done) | (simp; simp [State.off, pick, Nat.testBit]; done) | (simp [State.off, pick, Nat.testBit]; done))

@[simp] theorem xPpsInEdge_off (highNs : Nat) (s : State) (ws : Nat) (hw : 8388704 &&& ws = 8388704) : (xPpsInEdge highNs s).off ws = s.off ws := by
  refine off_of_subset hw ?_
  simp [xPpsInEdge]

@[simp] theorem xPpsInTimeout_off (d : Nat) (s : State) (ws : Nat) (hw : 8388704 &&& ws = 8388704) : (xPpsInTimeout d s).off ws = s.off ws := by
  refine off_of_subset hw ?_
  unfold xPpsInTimeout; split <;> simp

@[simp] theorem xSlewComplete_off (d : Nat) (s : State) (ws : Nat) (hw : 8388608 &&& ws = 8388608) : (xSlewComplete d s).off ws = s.off ws := by
  refine off_of_subset hw ?_
  simp [xSlewComplete]

@[simp] theorem xHoldoverSpecExceeded_off (d : Nat) (s : State) (ws : Nat) (hw : 8388704 &&& ws = 8388704) : (xHoldoverSpecExceeded d s).off ws = s.off ws := by
  refine off_of_subset hw ?_
  unfold xHoldoverSpecExceeded; split <;> simp

@[simp] theorem setPtpPort_off (s : State) (d p : Nat) (v : PtpPort) (ws : Nat) (hw : 8388608 &&& ws = 8388608) : (setPtpPort s d p v).off ws = s.off ws := by
  refine off_of_subset hw ?_
  simp [setPtpPort]

@[simp] theorem syncOffset_off (d port : Nat) (m : PtpMsg) (s : State) (ws : Nat) (hw : 8388704 &&& ws = 8388704) : (syncOffset d port m s).off ws = s.off ws := by
  refine off_of_subset hw ?_
  unfold syncOffset; (repeat' (first | split | dsimp only)) <;> simp

@[simp] theorem syncSeen_off (d port : Nat) (s : State) (ws : Nat) (hw : 8388608 &&& ws = 8388608) : (syncSeen d port s).off ws = s.off ws := by
  refine off_of_subset hw ?_
  simp [syncSeen]

@[simp] theorem announce_off (d port : Nat) (m : PtpMsg) (s : State) (ws : Nat) (hw : 8388704 &&& ws = 8388704) : (announce d port m s).off ws = s.off ws := by
  refine off_of_subset hw ?_
  simp [announce]

@[simp] theorem ptpTake_off (port : Nat) (m : PtpMsg) (s : State) (d : Nat) (ws : Nat) (hw : 8388704 &&& ws = 8388704) : (ptpTake port m s d).off ws = s.off ws := by
  refine off_of_subset hw ?_
  unfold ptpTake; split <;> simp

@[simp] theorem xPtpMessageReceived_off (port : Nat) (m : PtpMsg) (s : State) (ws : Nat) (hw : 25165920 &&& ws = 25165920) : (xPtpMessageReceived port m s).off ws = s.off ws := by
  refine off_of_subset hw ?_
  unfold xPtpMessageReceived; (repeat' (first | split | dsimp only)) <;> (first | (simp; done) | (simp; simp [State.off, pick, Nat.testBit]; done) | (simp [State.off, pick, Nat.testBit]; done))

@[simp] theorem portSent_off (s : State) (p : Nat) (ws : Nat) (hw : 16777216 &&& ws = 16777216) : (portSent s p).off ws = s.off ws := by
  refine off_of_subset hw ?_
  simp [portSent]

@[simp] theorem xPtpMessageSend_off (d port kind : Nat) (s : State) (ws : Nat) (hw : 1098907648 &&& ws = 1098907648) : (xPtpMessageSend d port kind s).off ws = s.off ws := by
  refine off_of_subset hw ?_
  simp [xPtpMessageSend]

@[simp] theorem xPtpEventForwarded_off (inPort outPort number : Nat) (residence correction : Int) (s : State) (ws : Nat) (hw : 1090519040 &&& ws = 1090519040) : (xPtpEventForwarded inPort outPort number residence correction s).off ws = s.off ws := by
  refine off_of_subset hw ?_
  unfold xPtpEventForwarded; (repeat' (first | split | dsimp only)) <;> (first | (simp; done) | (simp; simp [State.off, pick, Nat.testBit]; done) | (simp [State.off, pick, Nat.testBit]; done))

@[simp] theorem xPtpSourceTimeout_off (d : Nat) (s : State) (ws : Nat) (hw : 8388704 &&& ws = 8388704) : (xPtpSourceTimeout d s).off ws = s.off ws := by
  refine off_of_subset hw ?_
  unfold xPtpSourceTimeout; (repeat' (first | split | dsimp only)) <;> simp

@[simp] theorem tdCheck_off (d : Nat) (s : State) (ws : Nat) (hw : 0 &&& ws = 0) : (tdCheck d s).1.off ws = s.off ws := by
  refine off_of_subset hw ?_
  simp [tdCheck]

@[simp] theorem tdCommit_off (d : Nat) (s : State) (ws : Nat) (hw : 30728864 &&& ws = 30728864) : (tdCommit d s).off ws = s.off ws := by
  refine off_of_subset hw ?_
  simp [tdCommit]

@[simp] theorem xDomainStartCommit_off (d : Nat) (s : State) (ws : Nat) (hw : 160 &&& ws = 160) : (xDomainStartCommit d s).off ws = s.off ws := by
  refine off_of_subset hw ?_
  simp [xDomainStartCommit]

@[simp] theorem tdRelease_off (s : State) (d : Nat) (ws : Nat) (hw : 8388704 &&& ws = 8388704) : (tdRelease s d).off ws = s.off ws := by
  refine off_of_subset hw ?_
  simp [tdRelease]

@[simp] theorem tdStop_off (d : Nat) (s : State) (ws : Nat) (hw : 30729188 &&& ws = 30729188) : (tdStop d s).off ws = s.off ws := by
  refine off_of_subset hw ?_
  simp [tdStop]

@[simp] theorem tdCoreReset_off (s : State) (ws : Nat) (hw : 8388704 &&& ws = 8388704) : (tdCoreReset s).off ws = s.off ws := by
  refine off_of_subset hw ?_
  simp [tdCoreReset]

@[simp] theorem backupTick_off (s : State) (ws : Nat) (hw : 8388608 &&& ws = 8388608) : (backupTick s).off ws = s.off ws := by
  refine off_of_subset hw ?_
  simp [backupTick]

@[simp] theorem domainsTick_off (s : State) (ws : Nat) (hw : 8388608 &&& ws = 8388608) : (domainsTick s).off ws = s.off ws := by
  refine off_of_subset hw ?_
  simp [domainsTick]

@[simp] theorem opTdConfig_off  (t : State) (q : Bytes) (ws : Nat) (hw : 416 &&& ws = 416) : ((opTdConfig).body t q).s.off ws = t.off ws := by
  refine off_of_subset hw ?_
  simp [opTdConfig]

@[simp] theorem opGetTime_off  (t : State) (q : Bytes) (ws : Nat) (hw : 0 &&& ws = 0) : ((opGetTime).body t q).s.off ws = t.off ws := by
  refine off_of_subset hw ?_
  simp [opGetTime]

@[simp] theorem opRateOverride_off  (t : State) (q : Bytes) (ws : Nat) (hw : 8388608 &&& ws = 8388608) : ((opRateOverride).body t q).s.off ws = t.off ws := by
  refine off_of_subset hw ?_
  unfold opRateOverride; (repeat' (first | split | dsimp only)) <;> simp

@[simp] theorem opTimeStatus_off  (t : State) (q : Bytes) (ws : Nat) (hw : 0 &&& ws = 0) : ((opTimeStatus).body t q).s.off ws = t.off ws := by
  refine off_of_subset hw ?_
  simp [opTimeStatus]

end Sys2Proof.Machine
end

