-- ==== Sys2Proof/Laws/FrameSwitch.lean ====
section
/-! SUPPORT. What each operation of Machine/Switch.lean leaves alone: one lemma per operation, with the set of fields it
may change. -/

set_option linter.unusedSimpArgs false

namespace Sys2Proof.Machine

@[simp] theorem linkTo_off (s : State) (p : Nat) (up : Bool) (ws : Nat) (hw : 25165920 &&& ws = 25165920) : (linkTo s p up).off ws = s.off ws := by
  refine off_of_subset hw ?_
  simp [linkTo]

@[simp] theorem xPortLinkChange_off (p : Nat) (up : Bool) (s : State) (ws : Nat) (hw : 25165920 &&& ws = 25165920) : (xPortLinkChange p up s).off ws = s.off ws := by
  refine off_of_subset hw ?_
  simp [xPortLinkChange]

@[simp] theorem xPortConfigApply_off (p : Nat) (s : State) (ws : Nat) (hw : 25165920 &&& ws = 25165920) : (xPortConfigApply p s).off ws = s.off ws := by
  refine off_of_subset hw ?_
  unfold xPortConfigApply; (repeat' (first | split | dsimp only)) <;> simp

@[simp] theorem portSend_off (s : State) (p : Nat) (ws : Nat) (hw : 1090519040 &&& ws = 1090519040) : (portSend s p).off ws = s.off ws := by
  refine off_of_subset hw ?_
  unfold portSend; (repeat' (first | split | dsimp only)) <;> (first | (simp; done) | (simp; simp [State.off, pick, Nat.testBit]; done) | (simp [State.off, pick, Nat.testBit]; done))

@[simp] theorem portsTick_off (s : State) (ws : Nat) (hw : 1090519040 &&& ws = 1090519040) : (portsTick s).off ws = s.off ws := by
  refine off_of_subset hw ?_
  simp [portsTick]

@[simp] theorem xGateEntryExpiry_off (p : Nat) (s : State) (ws : Nat) (hw : 1090519040 &&& ws = 1090519040) : (xGateEntryExpiry p s).off ws = s.off ws := by
  refine off_of_subset hw ?_
  unfold xGateEntryExpiry; (repeat' (first | split | dsimp only)) <;> simp

@[simp] theorem xGateListStart_off (p : Nat) (s : State) (ws : Nat) (hw : 1090519072 &&& ws = 1090519072) : (xGateListStart p s).off ws = s.off ws := by
  refine off_of_subset hw ?_
  unfold xGateListStart; (repeat' (first | split | dsimp only)) <;> simp

@[simp] theorem egress_off (v : Nat) (f : EthFrame) (s : State) (p : Nat) (ws : Nat) (hw : 1090519040 &&& ws = 1090519040) : (egress v f s p).off ws = s.off ws := by
  refine off_of_subset hw ?_
  unfold egress; split <;> simp

@[simp] theorem learn_off (s : State) (mac v p : Nat) (ws : Nat) (hw : 16777216 &&& ws = 16777216) : (learn s mac v p).off ws = s.off ws := by
  refine off_of_subset hw ?_
  simp [learn]

@[simp] theorem xEthFrameReceived_off (p : Nat) (f : EthFrame) (s : State) (ws : Nat) (hw : 1090519040 &&& ws = 1090519040) : (xEthFrameReceived p f s).off ws = s.off ws := by
  refine off_of_subset hw ?_
  unfold xEthFrameReceived; (repeat' (first | split | dsimp only)) <;> simp

@[simp] theorem opPortConfig_off  (t : State) (q : Bytes) (ws : Nat) (hw : 16777216 &&& ws = 16777216) : ((opPortConfig).body t q).s.off ws = t.off ws := by
  refine off_of_subset hw ?_
  simp [opPortConfig]

@[simp] theorem opGateConfig_off  (t : State) (q : Bytes) (ws : Nat) (hw : 16777216 &&& ws = 16777216) : ((opGateConfig).body t q).s.off ws = t.off ws := by
  refine off_of_subset hw ?_
  simp [opGateConfig]

end Sys2Proof.Machine
end

