-- ==== Sys2Proof/Laws/FramePanel.lean ====
section
/-! SUPPORT. What each operation of Machine/Panel.lean leaves alone: one lemma per operation, with the set of fields it
may change. -/

set_option linter.unusedSimpArgs false

namespace Sys2Proof.Machine

@[simp] theorem panelCause_off (s : State) (n : Nat) (holds : Bool) (ws : Nat) (hw : 134217824 &&& ws = 134217824) : (panelCause s n holds).off ws = s.off ws := by
  refine off_of_subset hw ?_
  simp [panelCause]

@[simp] theorem xPanelSupplySample_off (vph vpm vpl : F32) (s : State) (ws : Nat) (hw : 134217824 &&& ws = 134217824) : (xPanelSupplySample vph vpm vpl s).off ws = s.off ws := by
  refine off_of_subset hw ?_
  simp [xPanelSupplySample]

@[simp] theorem xPanelTemperatureRead_off (ratio : F32) (s : State) (ws : Nat) (hw : 134217824 &&& ws = 134217824) : (xPanelTemperatureRead ratio s).off ws = s.off ws := by
  refine off_of_subset hw ?_
  simp [xPanelTemperatureRead]

@[simp] theorem checkFrame_off (s : State) (ws : Nat) (hw : 134217952 &&& ws = 134217952) : (checkFrame s).2.off ws = s.off ws := by
  refine off_of_subset hw ?_
  unfold checkFrame; (repeat' (first | split | dsimp only)) <;> simp

@[simp] theorem rowBegin_off (s : State) (c : Nat) (ws : Nat) (hw : 134217728 &&& ws = 134217728) : (rowBegin s c).off ws = s.off ws := by
  refine off_of_subset hw ?_
  simp [rowBegin]

@[simp] theorem xPanelRowStart_off (s : State) (ws : Nat) (hw : 134217952 &&& ws = 134217952) : (xPanelRowStart s).off ws = s.off ws := by
  refine off_of_subset hw ?_
  unfold xPanelRowStart; (repeat' (first | split | dsimp only)) <;> (first | (simp; done) | (rename_i h; have hh := congrArg (fun r => State.off 134217952 r.2) h; simp at hh; simp [hh]))

@[simp] theorem noteRow_off (s : State) (r : PRow) (ws : Nat) (hw : 134217728 &&& ws = 134217728) : (noteRow s r).off ws = s.off ws := by
  refine off_of_subset hw ?_
  simp [noteRow]

@[simp] theorem rowDone_off (s : State) (r : PRow) (ws : Nat) (hw : 134217952 &&& ws = 134217952) : (rowDone s r).off ws = s.off ws := by
  refine off_of_subset hw ?_
  simp [rowDone]

@[simp] theorem xPanelPhaseEnd_off (s : State) (ws : Nat) (hw : 134217952 &&& ws = 134217952) : (xPanelPhaseEnd s).off ws = s.off ws := by
  refine off_of_subset hw ?_
  unfold xPanelPhaseEnd; split <;> simp

@[simp] theorem xPanelJournalTick_off (s : State) (ws : Nat) (hw : 134217728 &&& ws = 134217728) : (xPanelJournalTick s).off ws = s.off ws := by
  refine off_of_subset hw ?_
  unfold xPanelJournalTick; split <;> simp

@[simp] theorem repairPass_off (s : State) (ws : Nat) (hw : 134217824 &&& ws = 134217824) : (repairPass s).off ws = s.off ws := by
  refine off_of_subset hw ?_
  simp [repairPass]

@[simp] theorem xPanelSupplyRestored_off (s : State) (ws : Nat) (hw : 134217824 &&& ws = 134217824) : (xPanelSupplyRestored s).off ws = s.off ws := by
  refine off_of_subset hw ?_
  simp [xPanelSupplyRestored]

@[simp] theorem panelBoot_off (s : State) (ws : Nat) (hw : 134217824 &&& ws = 134217824) : (panelBoot s).off ws = s.off ws := by
  refine off_of_subset hw ?_
  simp [panelBoot]

@[simp] theorem panelCheck_off (s : State) (ws : Nat) (hw : 0 &&& ws = 0) : (panelCheck s).1.off ws = s.off ws := by
  refine off_of_subset hw ?_
  simp [panelCheck]

@[simp] theorem panelCommit_off (s : State) (ws : Nat) (hw : 134218464 &&& ws = 134218464) : (panelCommit s).off ws = s.off ws := by
  refine off_of_subset hw ?_
  simp [panelCommit]

@[simp] theorem panelStop_off (s : State) (ws : Nat) (hw : 160 &&& ws = 160) : (panelStop s).off ws = s.off ws := by
  refine off_of_subset hw ?_
  simp [panelStop]

@[simp] theorem xPanelStopComplete_off (s : State) (ws : Nat) (hw : 134218724 &&& ws = 134218724) : (xPanelStopComplete s).off ws = s.off ws := by
  refine off_of_subset hw ?_
  simp [xPanelStopComplete]

@[simp] theorem panelFault_off (s : State) (ws : Nat) (hw : 160 &&& ws = 160) : (panelFault s).off ws = s.off ws := by
  refine off_of_subset hw ?_
  unfold panelFault; split <;> simp

@[simp] theorem opPanelConfig_off  (t : State) (q : Bytes) (ws : Nat) (hw : 416 &&& ws = 416) : ((opPanelConfig).body t q).s.off ws = t.off ws := by
  refine off_of_subset hw ?_
  simp [opPanelConfig]

@[simp] theorem opPanelFrame_off  (t : State) (q : Bytes) (ws : Nat) (hw : 134217728 &&& ws = 134217728) : ((opPanelFrame).body t q).s.off ws = t.off ws := by
  refine off_of_subset hw ?_
  unfold opPanelFrame; (repeat' (first | split | dsimp only)) <;> simp

@[simp] theorem opPanelStatus_off  (t : State) (q : Bytes) (ws : Nat) (hw : 0 &&& ws = 0) : ((opPanelStatus).body t q).s.off ws = t.off ws := by
  refine off_of_subset hw ?_
  simp [opPanelStatus]

end Sys2Proof.Machine
end

