-- ==== Sys2Proof/Laws/FrameFunctions.lean ====
section
/-! SUPPORT. What each operation of Machine/Functions.lean leaves alone: one lemma per operation, with the set of fields it
may change. -/

set_option linter.unusedSimpArgs false

namespace Sys2Proof.Machine

@[simp] theorem fnCheck_off (f : Nat) (s : State) (ws : Nat) (hw : 32 &&& ws = 32) : (fnCheck f s).1.off ws = s.off ws := by
  refine off_of_subset hw ?_
  unfold fnCheck; (repeat' (first | split | dsimp only)) <;> simp

@[simp] theorem fnCommit_off (f : Nat) (s : State) (ws : Nat) (hw : 1274536672 &&& ws = 1274536672) : (fnCommit f s).off ws = s.off ws := by
  refine off_of_subset hw ?_
  unfold fnCommit; split <;> simp

@[simp] theorem fnStop_off (f : Nat) (s : State) (ws : Nat) (hw : 1140319204 &&& ws = 1140319204) : (fnStop f s).off ws = s.off ws := by
  refine off_of_subset hw ?_
  unfold fnStop; split <;> simp

@[simp] theorem fnFault_off (f : Nat) (s : State) (ws : Nat) (hw : 41132256 &&& ws = 41132256) : (fnFault f s).off ws = s.off ws := by
  refine off_of_subset hw ?_
  unfold fnFault; split <;> simp

@[simp] theorem powerEvent_off (s : State) (old new : Nat) (ws : Nat) (hw : 32 &&& ws = 32) : (powerEvent s old new).off ws = s.off ws := by
  refine off_of_subset hw ?_
  simp [powerEvent]

@[simp] theorem toRun_off (s : State) (cause : Nat) (ws : Nat) (hw : 67108896 &&& ws = 67108896) : (toRun s cause).off ws = s.off ws := by
  refine off_of_subset hw ?_
  simp [toRun]

@[simp] theorem runFor_off (f : Nat) (s : State) (ws : Nat) (hw : 67108896 &&& ws = 67108896) : (runFor f s).off ws = s.off ws := by
  refine off_of_subset hw ?_
  simp [runFor]

@[simp] theorem startAny_off (f : Nat) (s : State) (ws : Nat) (hw : 1341645536 &&& ws = 1341645536) : (startAny f s).1.off ws = s.off ws := by
  refine off_of_subset hw ?_
  unfold startAny; (repeat' (first | split | dsimp only)) <;> simp

@[simp] theorem stopAny_off (f : Nat) (s : State) (ws : Nat) (hw : 1140319204 &&& ws = 1140319204) : (stopAny f s).off ws = s.off ws := by
  refine off_of_subset hw ?_
  unfold stopAny; split <;> simp

end Sys2Proof.Machine
end

