-- ==== Sys2Proof/Laws/FrameUpdate.lean ====
section
/-! SUPPORT. What each operation of Machine/Update.lean leaves alone: one lemma per operation, with the set of fields it
may change. -/

set_option linter.unusedSimpArgs false

namespace Sys2Proof.Machine

@[simp] theorem State_setUpd_off (s : State) (u : Upd) (ws : Nat) (hw : 268435456 &&& ws = 268435456) : (State.setUpd s u).off ws = s.off ws := by
  refine off_of_subset hw ?_
  simp [State.setUpd]

@[simp] theorem xUpdateCopyBegin_off (s : State) (ws : Nat) (hw : 268435456 &&& ws = 268435456) : (xUpdateCopyBegin s).off ws = s.off ws := by
  refine off_of_subset hw ?_
  simp [xUpdateCopyBegin]

@[simp] theorem xUpdateSectorDone_off (readBackOk : Bool) (s : State) (ws : Nat) (hw : 268435456 &&& ws = 268435456) : (xUpdateSectorDone readBackOk s).off ws = s.off ws := by
  refine off_of_subset hw ?_
  simp [xUpdateSectorDone]

@[simp] theorem xUpdateCheckComplete_off (digestOk : Bool) (s : State) (ws : Nat) (hw : 268435560 &&& ws = 268435560) : (xUpdateCheckComplete digestOk s).off ws = s.off ws := by
  refine off_of_subset hw ?_
  simp [xUpdateCheckComplete]

@[simp] theorem opUpdateBegin_off  (t : State) (q : Bytes) (ws : Nat) (hw : 268435456 &&& ws = 268435456) : ((opUpdateBegin).body t q).s.off ws = t.off ws := by
  refine off_of_subset hw ?_
  unfold opUpdateBegin; (repeat' (first | split | dsimp only)) <;> simp

@[simp] theorem opUpdateBlock_off  (t : State) (q : Bytes) (ws : Nat) (hw : 268435456 &&& ws = 268435456) : ((opUpdateBlock).body t q).s.off ws = t.off ws := by
  refine off_of_subset hw ?_
  unfold opUpdateBlock; (repeat' (first | split | dsimp only)) <;> simp

@[simp] theorem opUpdateCommit_off  (t : State) (q : Bytes) (ws : Nat) (hw : 268435456 &&& ws = 268435456) : ((opUpdateCommit).body t q).s.off ws = t.off ws := by
  refine off_of_subset hw ?_
  unfold opUpdateCommit; (repeat' (first | split | dsimp only)) <;> simp

@[simp] theorem opUpdateStatus_off  (t : State) (q : Bytes) (ws : Nat) (hw : 0 &&& ws = 0) : ((opUpdateStatus).body t q).s.off ws = t.off ws := by
  refine off_of_subset hw ?_
  simp [opUpdateStatus]

end Sys2Proof.Machine
end

