-- ==== Sys2Proof/Laws/FrameReset.lean ====
section
/-! SUPPORT. What each operation of Machine/Reset.lean leaves alone: one lemma per operation, with the set of fields it
may change. -/

set_option linter.unusedSimpArgs false

namespace Sys2Proof.Machine

@[simp] theorem powerReset_off (phase : Nat) (bench : Bool) (s : State) (ws : Nat) (hw : 1073738749 &&& ws = 1073738749) : (powerReset phase bench s).off ws = s.off ws := by
  refine off_of_subset hw ?_
  simp [powerReset]

@[simp] theorem xPowerOnReset_off (bench : Bool) (s : State) (ws : Nat) (hw : 1073738749 &&& ws = 1073738749) : (xPowerOnReset bench s).off ws = s.off ws := by
  refine off_of_subset hw ?_
  simp [xPowerOnReset]

@[simp] theorem xResetNFall_off (lowNs : Nat) (s : State) (ws : Nat) (hw : 1073738751 &&& ws = 1073738751) : (xResetNFall lowNs s).off ws = s.off ws := by
  refine off_of_subset hw ?_
  simp [xResetNFall]

@[simp] theorem xResetNRise_off (bench : Bool) (s : State) (ws : Nat) (hw : 1073738749 &&& ws = 1073738749) : (xResetNRise bench s).off ws = s.off ws := by
  refine off_of_subset hw ?_
  simp [xResetNRise]

@[simp] theorem xRefclkLoss_off (s : State) (ws : Nat) (hw : 1073738749 &&& ws = 1073738749) : (xRefclkLoss s).off ws = s.off ws := by
  refine off_of_subset hw ?_
  simp [xRefclkLoss]

@[simp] theorem xRefclkReturn_off (bench : Bool) (s : State) (ws : Nat) (hw : 1073738749 &&& ws = 1073738749) : (xRefclkReturn bench s).off ws = s.off ws := by
  refine off_of_subset hw ?_
  simp [xRefclkReturn]

@[simp] theorem xHoldupStoreExhausted_off (s : State) (ws : Nat) (hw : 1073738749 &&& ws = 1073738749) : (xHoldupStoreExhausted s).off ws = s.off ws := by
  refine off_of_subset hw ?_
  simp [xHoldupStoreExhausted]

@[simp] theorem actuationReset_off (cause : Nat) (s : State) (ws : Nat) (hw : 33595872 &&& ws = 33595872) : (actuationReset cause s).off ws = s.off ws := by
  refine off_of_subset hw ?_
  simp [actuationReset]

@[simp] theorem xSupervisorCheckFailed_off (check : Nat) (s : State) (ws : Nat) (hw : 96 &&& ws = 96) : (xSupervisorCheckFailed check s).off ws = s.off ws := by
  refine off_of_subset hw ?_
  simp [xSupervisorCheckFailed]

@[simp] theorem chanSafeStop_off (s : State) (k : Nat) (ws : Nat) (hw : 32992 &&& ws = 32992) : (chanSafeStop s k).off ws = s.off ws := by
  refine off_of_subset hw ?_
  simp [chanSafeStop]

@[simp] theorem safeStop_off (src : Nat) (s : State) (ws : Nat) (hw : 33792480 &&& ws = 33792480) : (safeStop src s).off ws = s.off ws := by
  refine off_of_subset hw ?_
  simp [safeStop]

@[simp] theorem safeStopLeave_off (s : State) (ws : Nat) (hw : 96 &&& ws = 96) : (safeStopLeave s).off ws = s.off ws := by
  refine off_of_subset hw ?_
  simp [safeStopLeave]

@[simp] theorem coreNet_off (s : State) (ws : Nat) (hw : 32 &&& ws = 32) : (coreNet s).off ws = s.off ws := by
  refine off_of_subset hw ?_
  simp [coreNet]

@[simp] theorem coreLose_off (s : State) (ws : Nat) (hw : 335544368 &&& ws = 335544368) : (coreLose s).off ws = s.off ws := by
  refine off_of_subset hw ?_
  unfold coreLose; (repeat' (first | split | dsimp only)) <;> (first | (simp; done) | (simp; simp [State.off, pick, Nat.testBit]; done) | (simp [State.off, pick, Nat.testBit]; done))

@[simp] theorem coreRestart_off (cause : Nat) (s : State) (ws : Nat) (hw : 8 &&& ws = 8) : (coreRestart cause s).off ws = s.off ws := by
  refine off_of_subset hw ?_
  simp [coreRestart]

@[simp] theorem coreReset_off (cause : Nat) (s : State) (ws : Nat) (hw : 352035320 &&& ws = 352035320) : (coreReset cause s).off ws = s.off ws := by
  refine off_of_subset hw ?_
  simp [coreReset]

@[simp] theorem xProcessorComplexReset_off (s : State) (ws : Nat) (hw : 352035320 &&& ws = 352035320) : (xProcessorComplexReset s).off ws = s.off ws := by
  refine off_of_subset hw ?_
  unfold xProcessorComplexReset; split <;> simp

end Sys2Proof.Machine
end

