-- ==== Sys2Proof/Laws/FrameSparing.lean ====
section
/-! SUPPORT. What each operation of Machine/Sparing.lean leaves alone: one lemma per operation, with the set of fields it
may change. -/

set_option linter.unusedSimpArgs false

namespace Sys2Proof.Machine

@[simp] theorem roleEvent_off (s : State) (i old : Nat) (ws : Nat) (hw : 96 &&& ws = 96) : (roleEvent s i old).off ws = s.off ws := by
  refine off_of_subset hw ?_
  simp [roleEvent]

@[simp] theorem setRole_off (s : State) (i : Nat) (r : Role) (ws : Nat) (hw : 112 &&& ws = 112) : (setRole s i r).off ws = s.off ws := by
  refine off_of_subset hw ?_
  simp [setRole]

@[simp] theorem raiseEpoch_off (s : State) (dead : Nat) (ws : Nat) (hw : 80 &&& ws = 80) : (raiseEpoch s dead).off ws = s.off ws := by
  refine off_of_subset hw ?_
  simp [raiseEpoch]

@[simp] theorem spareSource_off (s : State) (ws : Nat) (hw : 96 &&& ws = 96) : (spareSource s).off ws = s.off ws := by
  refine off_of_subset hw ?_
  simp [spareSource]

@[simp] theorem lostPairs_off (s : State) (ws : Nat) (hw : 104 &&& ws = 104) : (lostPairs s).off ws = s.off ws := by
  refine off_of_subset hw ?_
  simp [lostPairs]

@[simp] theorem declareDead_off (i : Nat) (s : State) (ws : Nat) (hw : 120 &&& ws = 120) : (declareDead i s).off ws = s.off ws := by
  refine off_of_subset hw ?_
  unfold declareDead; (repeat' (first | split | dsimp only)) <;> simp

@[simp] theorem xLockstepMiscompare_off (i address : Nat) (s : State) (ws : Nat) (hw : 96 &&& ws = 96) : (xLockstepMiscompare i address s).off ws = s.off ws := by
  refine off_of_subset hw ?_
  simp [xLockstepMiscompare]

@[simp] theorem xFailoverRestoreComplete_off (ok : Bool) (s : State) (ws : Nat) (hw : 120 &&& ws = 120) : (xFailoverRestoreComplete ok s).off ws = s.off ws := by
  refine off_of_subset hw ?_
  unfold xFailoverRestoreComplete; split <;> simp

@[simp] theorem xDeadPairReset_off (i : Nat) (s : State) (ws : Nat) (hw : 112 &&& ws = 112) : (xDeadPairReset i s).off ws = s.off ws := by
  refine off_of_subset hw ?_
  simp [xDeadPairReset]

@[simp] theorem xQuarantineSelfTestEnd_off (i : Nat) (pass : Bool) (s : State) (ws : Nat) (hw : 112 &&& ws = 112) : (xQuarantineSelfTestEnd i pass s).off ws = s.off ws := by
  refine off_of_subset hw ?_
  simp [xQuarantineSelfTestEnd]

@[simp] theorem xFirewallDrop_off (i tag access address : Nat) (s : State) (ws : Nat) (hw : 96 &&& ws = 96) : (xFirewallDrop i tag access address s).off ws = s.off ws := by
  refine off_of_subset hw ?_
  simp [xFirewallDrop]

@[simp] theorem xAccessRefused_off (master access address : Nat) (s : State) (ws : Nat) (hw : 96 &&& ws = 96) : (xAccessRefused master access address s).off ws = s.off ws := by
  refine off_of_subset hw ?_
  simp [xAccessRefused]

@[simp] theorem xCheckpointWrite_off (c : Checkpoint) (s : State) (ws : Nat) (hw : 16 &&& ws = 16) : (xCheckpointWrite c s).off ws = s.off ws := by
  refine off_of_subset hw ?_
  simp [xCheckpointWrite]

@[simp] theorem xWatchdogService_off (i : Nat) (s : State) (ws : Nat) (hw : 16 &&& ws = 16) : (xWatchdogService i s).off ws = s.off ws := by
  refine off_of_subset hw ?_
  simp [xWatchdogService]

@[simp] theorem xWatchdogExpiry_off (s : State) (ws : Nat) (hw : 96 &&& ws = 96) : (xWatchdogExpiry s).off ws = s.off ws := by
  refine off_of_subset hw ?_
  simp [xWatchdogExpiry]

@[simp] theorem xHeartbeatWrite_off (i : Nat) (s : State) (ws : Nat) (hw : 64 &&& ws = 64) : (xHeartbeatWrite i s).off ws = s.off ws := by
  refine off_of_subset hw ?_
  simp [xHeartbeatWrite]

@[simp] theorem xAliveHeartbeatTimeout_off (s : State) (ws : Nat) (hw : 64 &&& ws = 64) : (xAliveHeartbeatTimeout s).off ws = s.off ws := by
  refine off_of_subset hw ?_
  simp [xAliveHeartbeatTimeout]

end Sys2Proof.Machine
end

