-- ==== Sys2Proof/Laws/FrameBoot.lean ====
section
/-! SUPPORT. What each operation of Machine/Boot.lean leaves alone: one lemma per operation, with the set of fields it
may change. -/

set_option linter.unusedSimpArgs false

namespace Sys2Proof.Machine

@[simp] theorem State_phase_off (s : State) (n : Nat) (ws : Nat) (hw : 8 &&& ws = 8) : (State.phase s n).off ws = s.off ws := by
  refine off_of_subset hw ?_
  simp [State.phase]

@[simp] theorem xPllsLocked_off (s : State) (ws : Nat) (hw : 105 &&& ws = 105) : (xPllsLocked s).off ws = s.off ws := by
  refine off_of_subset hw ?_
  unfold xPllsLocked; (repeat' (first | split | dsimp only)) <;> (first | (simp; done) | (simp; simp [State.off, pick, Nat.testBit]; done) | (simp [State.off, pick, Nat.testBit]; done))

@[simp] theorem xLoaderStart_off (crcOk : Bool) (s : State) (ws : Nat) (hw : 268435464 &&& ws = 268435464) : (xLoaderStart crcOk s).off ws = s.off ws := by
  refine off_of_subset hw ?_
  simp [xLoaderStart]

@[simp] theorem xUpdateJournalRead_off (s : State) (ws : Nat) (hw : 268435464 &&& ws = 268435464) : (xUpdateJournalRead s).off ws = s.off ws := by
  refine off_of_subset hw ?_
  simp [xUpdateJournalRead]

@[simp] theorem xDramTrained_off (s : State) (ws : Nat) (hw : 8 &&& ws = 8) : (xDramTrained s).off ws = s.off ws := by
  refine off_of_subset hw ?_
  simp [xDramTrained]

@[simp] theorem xFirmwareImageVerified_off (s : State) (ws : Nat) (hw : 268435560 &&& ws = 268435560) : (xFirmwareImageVerified s).off ws = s.off ws := by
  refine off_of_subset hw ?_
  simp [xFirmwareImageVerified]

@[simp] theorem xCoreResetDigestCheck_off (s : State) (ws : Nat) (hw : 8 &&& ws = 8) : (xCoreResetDigestCheck s).off ws = s.off ws := by
  refine off_of_subset hw ?_
  simp [xCoreResetDigestCheck]

@[simp] theorem xPairRolesAssigned_off (pa pb pc pd : Bool) (s : State) (ws : Nat) (hw : 120 &&& ws = 120) : (xPairRolesAssigned pa pb pc pd s).off ws = s.off ws := by
  refine off_of_subset hw ?_
  unfold xPairRolesAssigned; (repeat' (first | split | dsimp only)) <;> simp

@[simp] theorem shipped_off (s : State) (ws : Nat) (hw : 219475904 &&& ws = 219475904) : (shipped s).off ws = s.off ws := by
  refine off_of_subset hw ?_
  simp [shipped]

@[simp] theorem schemaCheck_off (s : State) (ws : Nat) (hw : 487911360 &&& ws = 487911360) : (schemaCheck s).off ws = s.off ws := by
  refine off_of_subset hw ?_
  simp [schemaCheck]

@[simp] theorem loadInput_off (sel : Nat) (s : State) (k : Nat) (ws : Nat) (hw : 16384 &&& ws = 16384) : (loadInput sel s k).off ws = s.off ws := by
  refine off_of_subset hw ?_
  unfold loadInput; split <;> simp

@[simp] theorem loadStored_off (s : State) (ws : Nat) (hw : 84206336 &&& ws = 84206336) : (loadStored s).off ws = s.off ws := by
  refine off_of_subset hw ?_
  simp [loadStored]

@[simp] theorem stageStored_off (s : State) (ws : Nat) (hw : 256 &&& ws = 256) : (stageStored s).off ws = s.off ws := by
  refine off_of_subset hw ?_
  simp [stageStored]

@[simp] theorem vrefBoth_off (on : Bool) (s : State) (ws : Nat) (hw : 104 &&& ws = 104) : (vrefBoth on s).off ws = s.off ws := by
  refine off_of_subset hw ?_
  simp [vrefBoth]

@[simp] theorem xFirmwareRunning_off (s : State) (ws : Nat) (hw : 525725688 &&& ws = 525725688) : (xFirmwareRunning s).off ws = s.off ws := by
  refine off_of_subset hw ?_
  simp [xFirmwareRunning]

@[simp] theorem xBalineServed_off (s : State) (ws : Nat) (hw : 8 &&& ws = 8) : (xBalineServed s).off ws = s.off ws := by
  refine off_of_subset hw ?_
  simp [xBalineServed]

@[simp] theorem autoOne_off (s : State) (f : Nat) (ws : Nat) (hw : 1341645536 &&& ws = 1341645536) : (autoOne s f).off ws = s.off ws := by
  refine off_of_subset hw ?_
  unfold autoOne; (repeat' (first | split | dsimp only)) <;> (first | (simp; done) | (rename_i h; have hh := congrArg (fun r => State.off 1341645536 r.1) h; simp at hh; simp [hh]))

@[simp] theorem xAutoStart_off (s : State) (ws : Nat) (hw : 1341645544 &&& ws = 1341645544) : (xAutoStart s).off ws = s.off ws := by
  refine off_of_subset hw ?_
  simp [xAutoStart]

end Sys2Proof.Machine
end

