-- ==== Sys2Proof/Laws/FramePower.lean ====
section
/-! SUPPORT. What each operation of Machine/Power.lean leaves alone: one lemma per operation, with the set of fields it
may change. -/

set_option linter.unusedSimpArgs false

namespace Sys2Proof.Machine

@[simp] theorem State_setPwr_off (s : State) (p : Pwr) (ws : Nat) (hw : 67108864 &&& ws = 67108864) : (State.setPwr s p).off ws = s.off ws := by
  refine off_of_subset hw ?_
  simp [State.setPwr]

theorem wakeNow_off (c : Nat) (s : State) (hc : c ≠ 1) (ws : Nat) (hw : 67108970 &&& ws = 67108970) : (wakeNow c s).off ws = s.off ws := by
  refine off_of_subset hw ?_
  unfold wakeNow; (repeat' (first | split | dsimp only)) <;> simp_all

theorem wake_off (c : Nat) (s : State) (hc : c ≠ 1) (ws : Nat) (hw : 67108970 &&& ws = 67108970) : (wake c s).off ws = s.off ws := by
  refine off_of_subset hw ?_
  unfold wake; (repeat' (first | split | dsimp only)) <;> simp [wakeNow_off, hc]

@[simp] theorem xCanWakePattern_off (k : Nat) (s : State) (ws : Nat) (hw : 67108970 &&& ws = 67108970) : (xCanWakePattern k s).off ws = s.off ws := by
  refine off_of_subset hw ?_
  unfold xCanWakePattern; (repeat' (first | split | dsimp only)) <;> simp [wake_off]

@[simp] theorem xWakeTimerExpiry_off (s : State) (ws : Nat) (hw : 67108970 &&& ws = 67108970) : (xWakeTimerExpiry s).off ws = s.off ws := by
  refine off_of_subset hw ?_
  unfold xWakeTimerExpiry; (repeat' (first | split | dsimp only)) <;> simp [wake_off]

@[simp] theorem faultWake_off (s : State) (ws : Nat) (hw : 67108970 &&& ws = 67108970) : (faultWake s).off ws = s.off ws := by
  refine off_of_subset hw ?_
  unfold faultWake; (repeat' (first | split | dsimp only)) <;> simp [wake_off]

@[simp] theorem enter_off (t wakeMs : Nat) (s : State) (ws : Nat) (hw : 67108864 &&& ws = 67108864) : (enter t wakeMs s).off ws = s.off ws := by
  refine off_of_subset hw ?_
  simp [enter]

@[simp] theorem sleepSessions_off (s : State) (ws : Nat) (hw : 32 &&& ws = 32) : (sleepSessions s).off ws = s.off ws := by
  refine off_of_subset hw ?_
  unfold sleepSessions; split <;> simp

@[simp] theorem quieten_off (s : State) (ws : Nat) (hw : 58736744 &&& ws = 58736744) : (quieten s).off ws = s.off ws := by
  refine off_of_subset hw ?_
  simp [quieten]

@[simp] theorem calmLoss_off (s : State) (ws : Nat) (hw : 436203624 &&& ws = 436203624) : (calmLoss s).off ws = s.off ws := by
  refine off_of_subset hw ?_
  simp [calmLoss]

@[simp] theorem entered_off (s : State) (t : Nat) (at_ : State → State) (ws : Nat) (hat_ : ∀ t, (at_ t).off ws = t.off ws) (hw : 1073738749 &&& ws = 1073738749) : (entered s t at_).off ws = s.off ws := by
  have k4 : 4 &&& ws = 4 := sub_of (b := 1073738749) (by decide) hw
  have k32 : 32 &&& ws = 32 := sub_of (b := 1073738749) (by decide) hw
  have k58736744 : 58736744 &&& ws = 58736744 := sub_of (b := 1073738749) (by decide) hw
  have k67108864 : 67108864 &&& ws = 67108864 := sub_of (b := 1073738749) (by decide) hw
  have k436203624 : 436203624 &&& ws = 436203624 := sub_of (b := 1073738749) (by decide) hw
  have k1073738749 : 1073738749 &&& ws = 1073738749 := sub_of (b := 1073738749) (by decide) hw
  unfold entered; (repeat' (first | split | dsimp only)) <;> simp [hat_, k4, k32, k58736744, k67108864, k436203624, k1073738749]

@[simp] theorem xPowerStateEntryComplete_off (s : State) (ws : Nat) (hw : 1073738751 &&& ws = 1073738751) : (xPowerStateEntryComplete s).off ws = s.off ws := by
  refine off_of_subset hw ?_
  have hN : ∀ c t, (wakeNow c t).off 1073738751 = t.off 1073738751 := by
    intro c t; unfold wakeNow; (repeat' (first | split | dsimp only)) <;> simp_all
  unfold xPowerStateEntryComplete; (repeat' (first | split | dsimp only)) <;> simp [hN]

@[simp] theorem xIgnRise_off (s : State) (ws : Nat) (hw : 1073738751 &&& ws = 1073738751) : (xIgnRise s).off ws = s.off ws := by
  refine off_of_subset hw ?_
  have hN : ∀ t, (wakeNow 1 t).off 1073738751 = t.off 1073738751 := by
    intro t; unfold wakeNow; (repeat' (first | split | dsimp only)) <;> simp_all
  have hW : ∀ t, (wake 1 t).off 1073738751 = t.off 1073738751 := by
    intro t; unfold wake; (repeat' (first | split | dsimp only)) <;> simp [hN]
  unfold xIgnRise
  simp [hW]

@[simp] theorem xIgnFall_off (s : State) (ws : Nat) (hw : 67108864 &&& ws = 67108864) : (xIgnFall s).off ws = s.off ws := by
  refine off_of_subset hw ?_
  simp [xIgnFall]

@[simp] theorem ignDeepest_off (s : State) (ws : Nat) (hw : 67108896 &&& ws = 67108896) : (ignDeepest s).off ws = s.off ws := by
  refine off_of_subset hw ?_
  unfold ignDeepest; split <;> simp

@[simp] theorem ignProgress_off (s : State) (ws : Nat) (hw : 1207428068 &&& ws = 1207428068) : (ignProgress s).off ws = s.off ws := by
  refine off_of_subset hw ?_
  simp [ignProgress]

@[simp] theorem xIgnOffDelayExpiry_off (s : State) (ws : Nat) (hw : 1207428068 &&& ws = 1207428068) : (xIgnOffDelayExpiry s).off ws = s.off ws := by
  refine off_of_subset hw ?_
  unfold xIgnOffDelayExpiry; (repeat' (first | split | dsimp only)) <;> simp

@[simp] theorem feedReport_off (feed : Nat) (inRange : Bool) (volts : F32) (s : State) (ws : Nat) (hw : 96 &&& ws = 96) : (feedReport feed inRange volts s).off ws = s.off ws := by
  refine off_of_subset hw ?_
  simp [feedReport]

@[simp] theorem xLogicFeedRangeChange_off (feed : Nat) (inRange : Bool) (volts : F32) (s : State) (ws : Nat) (hw : 104 &&& ws = 104) : (xLogicFeedRangeChange feed inRange volts s).off ws = s.off ws := by
  refine off_of_subset hw ?_
  simp [xLogicFeedRangeChange]

@[simp] theorem xVref5LimitTimeout_off (v : Nat) (s : State) (ws : Nat) (hw : 104 &&& ws = 104) : (xVref5LimitTimeout v s).off ws = s.off ws := by
  refine off_of_subset hw ?_
  simp [xVref5LimitTimeout]

@[simp] theorem xVref5Retry_off (v : Nat) (ok : Bool) (s : State) (ws : Nat) (hw : 104 &&& ws = 104) : (xVref5Retry v ok s).off ws = s.off ws := by
  refine off_of_subset hw ?_
  simp [xVref5Retry]

@[simp] theorem heatReport_off (s : State) (ws : Nat) (hw : 67108896 &&& ws = 67108896) : (heatReport s).off ws = s.off ws := by
  refine off_of_subset hw ?_
  simp [heatReport]

@[simp] theorem xBaseTemperatureSample_off (t0 t1 t2 t3 : F32) (s : State) (ws : Nat) (hw : 67108960 &&& ws = 67108960) : (xBaseTemperatureSample t0 t1 t2 t3 s).off ws = s.off ws := by
  refine off_of_subset hw ?_
  simp [xBaseTemperatureSample]

@[simp] theorem grantTo_off (s : State) (h : Nat) (g : Option F32) (ws : Nat) (hw : 1207428068 &&& ws = 1207428068) : (grantTo s h g).off ws = s.off ws := by
  refine off_of_subset hw ?_
  unfold grantTo; (repeat' (first | split | dsimp only)) <;> simp

@[simp] theorem grantStep_off (l : List (Nat × Option F32)) (s : State) (h : Nat) (ws : Nat) (hw : 1207428068 &&& ws = 1207428068) : (grantStep l s h).off ws = s.off ws := by
  refine off_of_subset hw ?_
  unfold grantStep; split <;> simp

@[simp] theorem allowStep_off (s : State) (e : Nat × F32) (ws : Nat) (hw : 32864 &&& ws = 32864) : (allowStep s e).off ws = s.off ws := by
  refine off_of_subset hw ?_
  simp [allowStep]

@[simp] theorem xBudgetWindow_off (s : State) (ws : Nat) (hw : 1207428068 &&& ws = 1207428068) : (xBudgetWindow s).off ws = s.off ws := by
  refine off_of_subset hw ?_
  simp [xBudgetWindow]

@[simp] theorem xEnergyMeter_off (use : List (Nat × F32)) (elec diss : F32) (s : State) (ws : Nat) (hw : 67108864 &&& ws = 67108864) : (xEnergyMeter use elec diss s).off ws = s.off ws := by
  refine off_of_subset hw ?_
  simp [xEnergyMeter]

@[simp] theorem opPwrSetLatency_off  (t : State) (q : Bytes) (ws : Nat) (hw : 67108864 &&& ws = 67108864) : ((opPwrSetLatency).body t q).s.off ws = t.off ws := by
  refine off_of_subset hw ?_
  simp [opPwrSetLatency]

@[simp] theorem opPwrRequestState_off  (t : State) (q : Bytes) (ws : Nat) (hw : 67108970 &&& ws = 67108970) : ((opPwrRequestState).body t q).s.off ws = t.off ws := by
  refine off_of_subset hw ?_
  unfold opPwrRequestState; (repeat' (first | split | dsimp only)) <;> simp [wakeNow_off, wake_off]

@[simp] theorem opPwrSetBudget_off  (t : State) (q : Bytes) (ws : Nat) (hw : 67108864 &&& ws = 67108864) : ((opPwrSetBudget).body t q).s.off ws = t.off ws := by
  refine off_of_subset hw ?_
  unfold opPwrSetBudget; (repeat' (first | split | dsimp only)) <;> simp

@[simp] theorem opPwrGetBudget_off  (t : State) (q : Bytes) (ws : Nat) (hw : 0 &&& ws = 0) : ((opPwrGetBudget).body t q).s.off ws = t.off ws := by
  refine off_of_subset hw ?_
  simp [opPwrGetBudget]

@[simp] theorem opPwrStatus_off  (t : State) (q : Bytes) (ws : Nat) (hw : 0 &&& ws = 0) : ((opPwrStatus).body t q).s.off ws = t.off ws := by
  refine off_of_subset hw ?_
  simp [opPwrStatus]

end Sys2Proof.Machine
end

