-- ==== Sys2Proof/Laws/FrameTest.lean ====
section
/-! SUPPORT. What each operation of Machine/Test.lean leaves alone: one lemma per operation, with the set of fields it
may change. -/

set_option linter.unusedSimpArgs false

namespace Sys2Proof.Machine

@[simp] theorem unlockEnd_off (s : State) (ws : Nat) (hw : 536871008 &&& ws = 536871008) : (unlockEnd s).off ws = s.off ws := by
  refine off_of_subset hw ?_
  simp [unlockEnd]

@[simp] theorem unlockFollow_off (s : State) (ws : Nat) (hw : 536871008 &&& ws = 536871008) : (unlockFollow s).off ws = s.off ws := by
  refine off_of_subset hw ?_
  unfold unlockFollow; split <;> simp

@[simp] theorem xPerturbationExpiry_off (i : Nat) (s : State) (ws : Nat) (hw : 536871008 &&& ws = 536871008) : (xPerturbationExpiry i s).off ws = s.off ws := by
  refine off_of_subset hw ?_
  unfold xPerturbationExpiry; (repeat' (first | split | dsimp only)) <;> simp

@[simp] theorem opTestUnlock_off  (t : State) (q : Bytes) (ws : Nat) (hw : 536871008 &&& ws = 536871008) : ((opTestUnlock).body t q).s.off ws = t.off ws := by
  refine off_of_subset hw ?_
  unfold opTestUnlock; (repeat' (first | split | dsimp only)) <;> simp

@[simp] theorem opPerturbSet_off  (t : State) (q : Bytes) (ws : Nat) (hw : 536903776 &&& ws = 536903776) : ((opPerturbSet).body t q).s.off ws = t.off ws := by
  refine off_of_subset hw ?_
  unfold opPerturbSet; (repeat' (first | split | dsimp only)) <;> simp

@[simp] theorem opPerturbClear_off  (t : State) (q : Bytes) (ws : Nat) (hw : 536871008 &&& ws = 536871008) : ((opPerturbClear).body t q).s.off ws = t.off ws := by
  refine off_of_subset hw ?_
  unfold opPerturbClear; (repeat' (first | split | dsimp only)) <;> simp

@[simp] theorem opTestStatus_off  (t : State) (q : Bytes) (ws : Nat) (hw : 0 &&& ws = 0) : ((opTestStatus).body t q).s.off ws = t.off ws := by
  refine off_of_subset hw ?_
  simp [opTestStatus]

end Sys2Proof.Machine
end

