-- ==== Sys2Proof/Laws/FrameFaultOps.lean ====
section
/-! SUPPORT. What each operation of Machine/FaultOps.lean leaves alone: one lemma per operation, with the set of fields it
may change. -/

set_option linter.unusedSimpArgs false

namespace Sys2Proof.Machine

@[simp] theorem noteCells_off (src detail : Nat) (s : State) (ws : Nat) (hw : 1048578 &&& ws = 1048578) : (noteCells src detail s).off ws = s.off ws := by
  refine off_of_subset hw ?_
  simp [noteCells]

@[simp] theorem noteJournal_off (src detail : Nat) (s : State) (ws : Nat) (hw : 134217728 &&& ws = 134217728) : (noteJournal src detail s).off ws = s.off ws := by
  refine off_of_subset hw ?_
  simp [noteJournal]

@[simp] theorem xFaultSourceRaised_off (src : Nat) (enc : Rails) (detail master access address : Nat) (s : State) (ws : Nat) (hw : 135266402 &&& ws = 135266402) : (xFaultSourceRaised src enc detail master access address s).off ws = s.off ws := by
  refine off_of_subset hw ?_
  simp [xFaultSourceRaised]

@[simp] theorem xFaultSourceReturned_off (r : SrcRails) (s : State) (ws : Nat) (hw : 96 &&& ws = 96) : (xFaultSourceReturned r s).off ws = s.off ws := by
  refine off_of_subset hw ?_
  simp [xFaultSourceReturned]

@[simp] theorem xFaultLinkRestored_off (src : Nat) (enc : Rails) (s : State) (ws : Nat) (hw : 96 &&& ws = 96) : (xFaultLinkRestored src enc s).off ws = s.off ws := by
  refine off_of_subset hw ?_
  simp [xFaultLinkRestored]

@[simp] theorem xSquallWindowEnd_off (s : State) (ws : Nat) (hw : 96 &&& ws = 96) : (xSquallWindowEnd s).off ws = s.off ws := by
  refine off_of_subset hw ?_
  simp [xSquallWindowEnd]

@[simp] theorem xFaultLogEntryQueued_off (n : Nat) (s : State) (ws : Nat) (hw : 32 &&& ws = 32) : (xFaultLogEntryQueued n s).off ws = s.off ws := by
  refine off_of_subset hw ?_
  simp [xFaultLogEntryQueued]

@[simp] theorem opFaultRead_off  (t : State) (q : Bytes) (ws : Nat) (hw : 0 &&& ws = 0) : ((opFaultRead).body t q).s.off ws = t.off ws := by
  refine off_of_subset hw ?_
  unfold opFaultRead; (repeat' (first | split | dsimp only)) <;> simp

@[simp] theorem clearLatch_off (s : State) (n : Nat) (ws : Nat) (hw : 64 &&& ws = 64) : (clearLatch s n).off ws = s.off ws := by
  refine off_of_subset hw ?_
  simp [clearLatch]

@[simp] theorem opFaultClear_off  (t : State) (q : Bytes) (ws : Nat) (hw : 96 &&& ws = 96) : ((opFaultClear).body t q).s.off ws = t.off ws := by
  refine off_of_subset hw ?_
  simp [opFaultClear]

@[simp] theorem opFaultSourceConfig_off  (t : State) (q : Bytes) (ws : Nat) (hw : 64 &&& ws = 64) : ((opFaultSourceConfig).body t q).s.off ws = t.off ws := by
  refine off_of_subset hw ?_
  simp [opFaultSourceConfig]

@[simp] theorem opFaultThreshold_off  (t : State) (q : Bytes) (ws : Nat) (hw : 64 &&& ws = 64) : ((opFaultThreshold).body t q).s.off ws = t.off ws := by
  refine off_of_subset hw ?_
  simp [opFaultThreshold]

@[simp] theorem opCaptureRead_off  (t : State) (q : Bytes) (ws : Nat) (hw : 0 &&& ws = 0) : ((opCaptureRead).body t q).s.off ws = t.off ws := by
  refine off_of_subset hw ?_
  unfold opCaptureRead; (repeat' (first | split | dsimp only)) <;> simp

end Sys2Proof.Machine
end

