-- ==== Sys2Proof/Laws/FrameSettle.lean ====
section
/-! SUPPORT. What each operation of Machine/Settle.lean leaves alone: one lemma per operation, with the set of fields it
may change. -/

set_option linter.unusedSimpArgs false

namespace Sys2Proof.Machine

@[simp] theorem carry_off (s : State) (r : React) (ws : Nat) (hw : 108241402 &&& ws = 108241402) : (carry s r).off ws = s.off ws := by
  refine off_of_subset hw ?_
  cases r <;> unfold carry <;> (repeat' (first | split | dsimp only)) <;> simp

@[simp] theorem carryAll_off (s : State) (ws : Nat) (hw : 108241402 &&& ws = 108241402) : (carryAll s).off ws = s.off ws := by
  refine off_of_subset hw ?_
  have h := foldl_off 108241402 carry s.fcr.react { s with fcr := { s.fcr with react := [] } } (fun t a => carry_off t a _ (by decide))
  unfold carryAll
  split
  · rfl
  · rw [h]; simp

@[simp] theorem follow_off (s : State) (ws : Nat) (hw : 1744298980 &&& ws = 1744298980) : (follow s).off ws = s.off ws := by
  refine off_of_subset hw ?_
  simp [follow]

@[simp] theorem settle_off (s : State) (ws : Nat) (hw : 1744299006 &&& ws = 1744299006) : (settle s).off ws = s.off ws := by
  refine off_of_subset hw ?_
  simp [settle]

end Sys2Proof.Machine
end

