-- ==== Sys2Proof/Laws/FrameTransport.lean ====
section
/-! SUPPORT. What each operation of Machine/Transport.lean leaves alone: one lemma per operation, with the set of fields it
may change. -/

set_option linter.unusedSimpArgs false

namespace Sys2Proof.Machine

@[simp] theorem mapSession_off (s : State) (n : Nat) (f : Session → Session) (ws : Nat) (hw : 32 &&& ws = 32) : (mapSession s n f).off ws = s.off ws := by
  refine off_of_subset hw ?_
  simp [mapSession]

theorem answer_off (s : State) (h : Hdr) (code st detail : Nat) (data : Bytes) (ws : Nat)
    (hw : 32 &&& ws = 32) (hc : ∀ t k, (sendPacket t h.ep k).off ws = t.off ws) :
    (answer s h code st detail data).off ws = s.off ws := by
  unfold answer
  dsimp only
  rw [hc]
  (repeat' split) <;> simp [hw]

@[simp] theorem discard_off (s : State) (ws : Nat) (hw : 32 &&& ws = 32) : (discard s).off ws = s.off ws := by
  refine off_of_subset hw ?_
  simp [discard]

@[simp] theorem State_within_off (s : State) (h : Hdr) (ws : Nat) (hw : 4 &&& ws = 4) : (State.within s h).off ws = s.off ws := by
  refine off_of_subset hw ?_
  simp [State.within]

@[simp] theorem commitRecord_off (s : State) (ws : Nat) (hw : 32 &&& ws = 32) : (commitRecord s).off ws = s.off ws := by
  refine off_of_subset hw ?_
  unfold commitRecord; split <;> simp

@[simp] theorem finish_off (code : Nat) (p : Bytes) (a : Ans) (ws : Nat) (hw : 268435492 &&& ws = 268435492) : (finish code p a).off ws = a.s.off ws := by
  refine off_of_subset hw ?_
  have hu : ∀ (t : State) (u : Upd), ({ t with upd := u } : State).off 268435492 = t.off 268435492 := fun t u => by simp
  have hc : ∀ t : State, ({ t with cur := none } : State).off 268435492 = t.off 268435492 := fun t => by simp
  unfold finish
  dsimp only
  split
  · rw [hu]
    split <;> rw [hc]
    exact commitRecord_off _ _ (by decide)
  · split <;> rw [hc]
    exact commitRecord_off _ _ (by decide)

theorem perform_off (s : State) (op : OpSpec) (h : Hdr) (p : Bytes) (ws : Nat) (ho : ∀ t, (op.body t p).s.off ws = t.off ws)
    (hw : 1342177316 &&& ws = 1342177316) (hc : ∀ t k, (sendPacket t h.ep k).off ws = t.off ws) :
    (perform s op h p).off ws = s.off ws := by
  have k4 : 4 &&& ws = 4 := sub_of (b := 1342177316) (by decide) hw
  have k32 : 32 &&& ws = 32 := sub_of (b := 1342177316) (by decide) hw
  have k268435492 : 268435492 &&& ws = 268435492 := sub_of (b := 1342177316) (by decide) hw
  unfold perform; dsimp only; split <;> simp [answer_off, hc, ho, k4, k32, k268435492]

@[simp] theorem hold_off (s : State) (h : Hdr) (code : Nat) (i : Instr) (ws : Nat) (hw : 32 &&& ws = 32) : (hold s h code i).off ws = s.off ws := by
  refine off_of_subset hw ?_
  simp [hold]

theorem takeUp_off (s : State) (code : Nat) (op : Option OpSpec) (h : Hdr) (p : Bytes) (i : Instr) (ws : Nat)
    (ho : ∀ o, op = some o → ∀ t, (o.body t p).s.off ws = t.off ws)
    (hw : 1342177316 &&& ws = 1342177316) (hc : ∀ t k, (sendPacket t h.ep k).off ws = t.off ws) : (takeUp s code op h p i).off ws = s.off ws := by
  have k4 : 4 &&& ws = 4 := sub_of (b := 1342177316) (by decide) hw
  have k32 : 32 &&& ws = 32 := sub_of (b := 1342177316) (by decide) hw
  unfold takeUp
  split
  · simp [answer_off, hc, k4, k32]
  · split
    · simp [answer_off, hc, k4, k32]
    · split
      · simp [answer_off, hc, k4, k32]
      · split
        · simp [k4, k32]
        · exact perform_off _ _ _ _ _ (ho _ rfl) hw hc

theorem resume_off (s : State) (op : Option OpSpec) (h : Hdr) (p : Bytes) (ws : Nat)
    (ho : ∀ o, op = some o → ∀ t, (o.body t p).s.off ws = t.off ws)
    (hw : 1342177316 &&& ws = 1342177316) (hc : ∀ t k, (sendPacket t h.ep k).off ws = t.off ws) : (resume s op h p).off ws = s.off ws := by
  have k4 : 4 &&& ws = 4 := sub_of (b := 1342177316) (by decide) hw
  have k268435492 : 268435492 &&& ws = 268435492 := sub_of (b := 1342177316) (by decide) hw
  unfold resume
  split
  · rfl
  · split
    · exact perform_off _ _ _ _ _ (ho _ rfl) hw hc
    · simp [ho _ rfl, k4, k268435492]

@[simp] theorem unbox_off (s : State) (ep : Endpoint) (ws : Nat) (hw : 32 &&& ws = 32) : (unbox s ep).off ws = s.off ws := by
  refine off_of_subset hw ?_
  unfold unbox; split <;> simp

theorem sessionless_off (s : State) (code : Nat) (op : Option OpSpec) (h : Hdr) (p : Bytes) (i : Instr) (ws : Nat)
    (ho : ∀ o, op = some o → ∀ t, (o.body t p).s.off ws = t.off ws)
    (hw : 1342177316 &&& ws = 1342177316) (hc : ∀ t k, (sendPacket t h.ep k).off ws = t.off ws) : (sessionless s code op h p i).off ws = s.off ws := by
  have ht := takeUp_off s code op h p i ws ho hw hc
  unfold sessionless
  (repeat' (first | split | dsimp only)) <;> simp [ht, hc]

theorem received_off (s : State) (code : Nat) (op : Option OpSpec) (h : Hdr) (p : Bytes) (i : Instr) (ws : Nat)
    (ho : ∀ o, op = some o → ∀ t, (o.body t p).s.off ws = t.off ws)
    (hw : 1342177316 &&& ws = 1342177316) (hc : ∀ t k, (sendPacket t h.ep k).off ws = t.off ws) : (received s code op h p i).off ws = s.off ws := by
  have k4 : 4 &&& ws = 4 := sub_of (b := 1342177316) (by decide) hw
  have k32 : 32 &&& ws = 32 := sub_of (b := 1342177316) (by decide) hw
  have ht : ∀ t, (takeUp t code op h p i).off ws = t.off ws := fun t => takeUp_off t code op h p i ws ho hw hc
  have hs : ∀ t, (sessionless t code op h p i).off ws = t.off ws := fun t => sessionless_off t code op h p i ws ho hw hc
  unfold received
  (repeat' (first | split | dsimp only)) <;> simp [ht, hs, hc, k4, k32]

theorem command_off (s : State) (code : Nat) (op : Option OpSpec) (h : Hdr) (p : Bytes) (i : Instr) (ws : Nat)
    (ho : ∀ o, op = some o → ∀ t, (o.body t p).s.off ws = t.off ws)
    (hw : 1342177316 &&& ws = 1342177316) (hc : h.ep = .can2 → 33554432 &&& ws = 33554432) : (command s code op h p i).off ws = s.off ws := by
  have k4 : 4 &&& ws = 4 := sub_of (b := 1342177316) (by decide) hw
  have k32 : 32 &&& ws = 32 := sub_of (b := 1342177316) (by decide) hw
  have k1073741856 : 1073741856 &&& ws = 1073741856 := sub_of (b := 1342177316) (by decide) hw
  have hc : ∀ t k, (sendPacket t h.ep k).off ws = t.off ws := by
    intro t k
    rcases he : h.ep with ⟨a, b⟩ | _
    · simp [sendPacket, sub_of (a := 1073741824) (b := 1342177316) (by decide) hw]
    · refine sendPacket_off _ _ _ _ ?_
      have h1 := sub_of (a := 1073741856) (b := 1342177316) (by decide) hw
      rw [show 1107296288 = 1073741856 ||| 33554432 from rfl, Nat.and_comm, Nat.and_or_distrib_left,
        Nat.and_comm, h1, Nat.and_comm, hc he]
  unfold command
  split
  · exact resume_off _ _ _ _ _ ho hw hc
  · split
    · rw [received_off _ _ _ _ _ _ _ ho hw hc]
      simp [k4, k32, k1073741856]
    · rfl

theorem host_off (op : OpSpec) (h : Hdr) (p : Bytes) (i : Instr) (s : State) (ws : Nat) (ho : ∀ t, (op.body t p).s.off ws = t.off ws)
    (hw : 2012734462 &&& ws = 2012734462) : (host op h p i s).off ws = s.off ws := by
  unfold host
  rw [settle_off _ ws (sub_of (b := 2012734462) (by decide) hw)]
  exact command_off s _ _ h p i ws (fun o e => by cases e; exact ho) (sub_of (b := 2012734462) (by decide) hw) (fun _ => sub_of (b := 2012734462) (by decide) hw)

theorem hostOnly_off (op : OpSpec) (h : Hdr) (p : Bytes) (i : Instr) (s : State) (ws : Nat)
    (ho : ∀ t, (op.body t p).s.off ws = t.off ws) (hw : 1342177316 &&& ws = 1342177316) (hc : h.ep = .can2 → 33554432 &&& ws = 33554432) :
    (hostOnly op h p i s).off ws = s.off ws := by
  unfold hostOnly
  exact command_off s _ _ h p i ws (fun o e => by cases e; exact ho) hw hc

theorem xUndefinedOpcode_off (h : Hdr) (code : Nat) (p : Bytes) (s : State) (ws : Nat)
    (hw : 1342177316 &&& ws = 1342177316) (hc : h.ep = .can2 → 33554432 &&& ws = 33554432) :
    (xUndefinedOpcode h code p s).off ws = s.off ws := by
  unfold xUndefinedOpcode
  split
  · rfl
  · exact command_off s code none h p _ ws (fun o e => by cases e) hw hc

@[simp] theorem xBalinePacketDiscarded_off (ep : Endpoint) (raw : Bytes) (s : State) (ws : Nat) (hw : 32 &&& ws = 32) : (xBalinePacketDiscarded ep raw s).off ws = s.off ws := by
  refine off_of_subset hw ?_
  simp [xBalinePacketDiscarded]

@[simp] theorem xBalinePortMismatchDrop_off (port : Nat) (s : State) (ws : Nat) (hw : 32 &&& ws = 32) : (xBalinePortMismatchDrop port s).off ws = s.off ws := by
  refine off_of_subset hw ?_
  simp [xBalinePortMismatchDrop]

@[simp] theorem xNeighbourDiscovery_off (src target : Nat) (s : State) (ws : Nat) (hw : 1073741824 &&& ws = 1073741824) : (xNeighbourDiscovery src target s).off ws = s.off ws := by
  refine off_of_subset hw ?_
  simp [xNeighbourDiscovery]

@[simp] theorem xIcmpv6Echo_off (src ident seq : Nat) (data : Bytes) (s : State) (ws : Nat) (hw : 1073741824 &&& ws = 1073741824) : (xIcmpv6Echo src ident seq data s).off ws = s.off ws := by
  refine off_of_subset hw ?_
  simp [xIcmpv6Echo]

@[simp] theorem setIsoRx_off (s : State) (r : Option IsoRx) (ws : Nat) (hw : 32 &&& ws = 32) : (setIsoRx s r).off ws = s.off ws := by
  refine off_of_subset hw ?_
  simp [setIsoRx]

@[simp] theorem isoWhole_off (s : State) (m : Bytes) (ws : Nat) (hw : 32 &&& ws = 32) : (isoWhole s m).off ws = s.off ws := by
  refine off_of_subset hw ?_
  simp [isoWhole]

@[simp] theorem isoFlow_off (s : State) (id : Nat) (d : Bytes) (ws : Nat) (hw : 33554464 &&& ws = 33554464) : (isoFlow s id d).off ws = s.off ws := by
  refine off_of_subset hw ?_
  unfold isoFlow; (repeat' (first | split | dsimp only)) <;> simp

@[simp] theorem isoFrameIn_off (s : State) (d : Bytes) (ws : Nat) (hw : 33554464 &&& ws = 33554464) : (isoFrameIn s d).off ws = s.off ws := by
  refine off_of_subset hw ?_
  unfold isoFrameIn; (repeat' (first | split | dsimp only)) <;> simp

@[simp] theorem xIsotpFrameReceived_off (id : Nat) (d : Bytes) (s : State) (ws : Nat) (hw : 33554464 &&& ws = 33554464) : (xIsotpFrameReceived id d s).off ws = s.off ws := by
  refine off_of_subset hw ?_
  simp [xIsotpFrameReceived]

@[simp] theorem xIsotpTimeout_off (nBs : Bool) (s : State) (ws : Nat) (hw : 33554464 &&& ws = 33554464) : (xIsotpTimeout nBs s).off ws = s.off ws := by
  refine off_of_subset hw ?_
  unfold xIsotpTimeout; (repeat' (first | split | dsimp only)) <;> simp

@[simp] theorem xSessionKeepaliveTimeout_off (n : Nat) (s : State) (ws : Nat) (hw : 32 &&& ws = 32) : (xSessionKeepaliveTimeout n s).off ws = s.off ws := by
  refine off_of_subset hw ?_
  unfold xSessionKeepaliveTimeout; split <;> simp

@[simp] theorem xServiceLogWrite_off (s : State) (ws : Nat) (hw : 32 &&& ws = 32) : (xServiceLogWrite s).off ws = s.off ws := by
  refine off_of_subset hw ?_
  simp [xServiceLogWrite]

end Sys2Proof.Machine
end

