-- ==== Sys2Proof/Laws/FrameSystem.lean ====
section
/-! SUPPORT. What each operation of Machine/System.lean leaves alone: one lemma per operation, with the set of fields it
may change. -/

set_option linter.unusedSimpArgs false

namespace Sys2Proof.Machine

@[simp] theorem opGetIdentity_off  (t : State) (q : Bytes) (ws : Nat) (hw : 0 &&& ws = 0) : ((opGetIdentity).body t q).s.off ws = t.off ws := by
  refine off_of_subset hw ?_
  simp [opGetIdentity]

@[simp] theorem openNow_off (s : State) (ep : Endpoint) (p : Bytes) (ws : Nat) (hw : 96 &&& ws = 96) : (openNow s ep p).off ws = s.off ws := by
  refine off_of_subset hw ?_
  unfold openNow; (repeat' (first | split | dsimp only)) <;> simp

@[simp] theorem opOpenSession_off (h : Hdr) (t : State) (q : Bytes) (ws : Nat) (hw : 96 &&& ws = 96) : ((opOpenSession h).body t q).s.off ws = t.off ws := by
  refine off_of_subset hw ?_
  unfold opOpenSession; (repeat' (first | split | dsimp only)) <;> simp

@[simp] theorem opCloseSession_off  (t : State) (q : Bytes) (ws : Nat) (hw : 32 &&& ws = 32) : ((opCloseSession).body t q).s.off ws = t.off ws := by
  refine off_of_subset hw ?_
  simp [opCloseSession]

@[simp] theorem opKeepalive_off  (t : State) (q : Bytes) (ws : Nat) (hw : 0 &&& ws = 0) : ((opKeepalive).body t q).s.off ws = t.off ws := by
  refine off_of_subset hw ?_
  simp [opKeepalive]

@[simp] theorem opTakeOwnership_off  (t : State) (q : Bytes) (ws : Nat) (hw : 32 &&& ws = 32) : ((opTakeOwnership).body t q).s.off ws = t.off ws := by
  refine off_of_subset hw ?_
  unfold opTakeOwnership; (repeat' (first | split | dsimp only)) <;> simp

@[simp] theorem opReleaseOwnership_off  (t : State) (q : Bytes) (ws : Nat) (hw : 32 &&& ws = 32) : ((opReleaseOwnership).body t q).s.off ws = t.off ws := by
  refine off_of_subset hw ?_
  simp [opReleaseOwnership]

@[simp] theorem curStreams_off (s : State) (f : List Stream → List Stream) (ws : Nat) (hw : 32 &&& ws = 32) : (curStreams s f).off ws = s.off ws := by
  refine off_of_subset hw ?_
  simp [curStreams]

@[simp] theorem opSubscribe_off  (t : State) (q : Bytes) (ws : Nat) (hw : 32 &&& ws = 32) : ((opSubscribe).body t q).s.off ws = t.off ws := by
  refine off_of_subset hw ?_
  unfold opSubscribe; (repeat' (first | split | dsimp only)) <;> simp

@[simp] theorem opUnsubscribe_off  (t : State) (q : Bytes) (ws : Nat) (hw : 32 &&& ws = 32) : ((opUnsubscribe).body t q).s.off ws = t.off ws := by
  refine off_of_subset hw ?_
  simp [opUnsubscribe]

@[simp] theorem opStart_off  (t : State) (q : Bytes) (ws : Nat) (hw : 1341645536 &&& ws = 1341645536) : ((opStart).body t q).s.off ws = t.off ws := by
  refine off_of_subset hw ?_
  simp [opStart]

@[simp] theorem stopHere_off (f : Nat) (s : State) (ws : Nat) (hw : 1140319204 &&& ws = 1140319204) : (stopHere f s).off ws = s.off ws := by
  refine off_of_subset hw ?_
  simp [stopHere]

@[simp] theorem opStop_off  (t : State) (q : Bytes) (ws : Nat) (hw : 1140319204 &&& ws = 1140319204) : ((opStop).body t q).s.off ws = t.off ws := by
  refine off_of_subset hw ?_
  simp [opStop]

@[simp] theorem opGetState_off  (t : State) (q : Bytes) (ws : Nat) (hw : 0 &&& ws = 0) : ((opGetState).body t q).s.off ws = t.off ws := by
  refine off_of_subset hw ?_
  simp [opGetState]

@[simp] theorem opResetCore_off  (t : State) (q : Bytes) (ws : Nat) (hw : 8 &&& ws = 8) : ((opResetCore).body t q).s.off ws = t.off ws := by
  refine off_of_subset hw ?_
  simp [opResetCore]

@[simp] theorem opSaveSettings_off  (t : State) (q : Bytes) (ws : Nat) (hw : 3072 &&& ws = 3072) : ((opSaveSettings).body t q).s.off ws = t.off ws := by
  refine off_of_subset hw ?_
  simp [opSaveSettings]

@[simp] theorem opLogErase_off  (t : State) (q : Bytes) (ws : Nat) (hw : 4194336 &&& ws = 4194336) : ((opLogErase).body t q).s.off ws = t.off ws := by
  refine off_of_subset hw ?_
  simp [opLogErase]

@[simp] theorem opReadMem_off (eccErr : Bool) (t : State) (q : Bytes) (ws : Nat) (hw : 96 &&& ws = 96) : ((opReadMem eccErr).body t q).s.off ws = t.off ws := by
  refine off_of_subset hw ?_
  unfold opReadMem; (repeat' (first | split | dsimp only)) <;> simp

@[simp] theorem opWriteMem_off  (t : State) (q : Bytes) (ws : Nat) (hw : 4096 &&& ws = 4096) : ((opWriteMem).body t q).s.off ws = t.off ws := by
  refine off_of_subset hw ?_
  unfold opWriteMem; (repeat' (first | split | dsimp only)) <;> simp

end Sys2Proof.Machine
end

