-- ==== Sys2Proof/Laws/ExecA.lean ====
section
/-! SUPPORT. What a command leaves alone, part one: one lemma per meaning, with the set of fields it may change. -/

namespace Sys2Proof.Machine

theorem execGetIdentity_off (h : Hdr) (p : Bytes) (s : State) {s' : State} (e : execGetIdentity h p s = .next s') (ws : Nat) (hw : 1342177316 &&& ws = 1342177316)
    (hc : h.ep = .can2 → 33554432 &&& ws = 33554432) : s'.off ws = s.off ws := by
  have e := Host.Outcome.next.inj e
  rw [← e]
  exact hostOnly_off _ h p _ s ws (fun t => opGetIdentity_off t p _ (sub_of (b := 1342177316) (by decide) hw)) (sub_of (b := 1342177316) (by decide) hw) hc

theorem execOpenSession_off (h : Hdr) (p : Bytes) (s : State) {s' : State} (e : execOpenSession h p s = .next s') (ws : Nat) (hw : 2012734462 &&& ws = 2012734462) :
    s'.off ws = s.off ws := by
  have e := Host.Outcome.next.inj e
  refine off_of_subset hw ?_
  rw [← e]
  exact host_off _ h p _ s 2012734462 (fun t => opOpenSession_off h t p _ (by decide)) (by decide)

theorem execCloseSession_off (h : Hdr) (p : Bytes) (s : State) {s' : State} (e : execCloseSession h p s = .next s') (ws : Nat) (hw : 2012734462 &&& ws = 2012734462) :
    s'.off ws = s.off ws := by
  have e := Host.Outcome.next.inj e
  refine off_of_subset hw ?_
  rw [← e]
  exact host_off _ h p _ s 2012734462 (fun t => opCloseSession_off t p _ (by decide)) (by decide)

theorem execKeepalive_off (h : Hdr) (p : Bytes) (s : State) {s' : State} (e : execKeepalive h p s = .next s') (ws : Nat) (hw : 1342177316 &&& ws = 1342177316)
    (hc : h.ep = .can2 → 33554432 &&& ws = 33554432) : s'.off ws = s.off ws := by
  have e := Host.Outcome.next.inj e
  rw [← e]
  exact hostOnly_off _ h p _ s ws (fun t => opKeepalive_off t p _ (sub_of (b := 1342177316) (by decide) hw)) (sub_of (b := 1342177316) (by decide) hw) hc

theorem execTakeOwnership_off (h : Hdr) (p : Bytes) (s : State) {s' : State} (e : execTakeOwnership h p s = .next s') (ws : Nat) (hw : 1342177316 &&& ws = 1342177316)
    (hc : h.ep = .can2 → 33554432 &&& ws = 33554432) : s'.off ws = s.off ws := by
  have e := Host.Outcome.next.inj e
  rw [← e]
  exact hostOnly_off _ h p _ s ws (fun t => opTakeOwnership_off t p _ (sub_of (b := 1342177316) (by decide) hw)) (sub_of (b := 1342177316) (by decide) hw) hc

theorem execReleaseOwnership_off (h : Hdr) (p : Bytes) (s : State) {s' : State} (e : execReleaseOwnership h p s = .next s') (ws : Nat) (hw : 1342177316 &&& ws = 1342177316)
    (hc : h.ep = .can2 → 33554432 &&& ws = 33554432) : s'.off ws = s.off ws := by
  have e := Host.Outcome.next.inj e
  rw [← e]
  exact hostOnly_off _ h p _ s ws (fun t => opReleaseOwnership_off t p _ (sub_of (b := 1342177316) (by decide) hw)) (sub_of (b := 1342177316) (by decide) hw) hc

theorem execSubscribe_off (h : Hdr) (p : Bytes) (s : State) {s' : State} (e : execSubscribe h p s = .next s') (ws : Nat) (hw : 1342177316 &&& ws = 1342177316)
    (hc : h.ep = .can2 → 33554432 &&& ws = 33554432) : s'.off ws = s.off ws := by
  have e := Host.Outcome.next.inj e
  rw [← e]
  exact hostOnly_off _ h p _ s ws (fun t => opSubscribe_off t p _ (sub_of (b := 1342177316) (by decide) hw)) (sub_of (b := 1342177316) (by decide) hw) hc

theorem execUnsubscribe_off (h : Hdr) (p : Bytes) (s : State) {s' : State} (e : execUnsubscribe h p s = .next s') (ws : Nat) (hw : 1342177316 &&& ws = 1342177316)
    (hc : h.ep = .can2 → 33554432 &&& ws = 33554432) : s'.off ws = s.off ws := by
  have e := Host.Outcome.next.inj e
  rw [← e]
  exact hostOnly_off _ h p _ s ws (fun t => opUnsubscribe_off t p _ (sub_of (b := 1342177316) (by decide) hw)) (sub_of (b := 1342177316) (by decide) hw) hc

theorem execStart_off (h : Hdr) (p : Bytes) (s : State) {s' : State} (e : execStart h p s = .next s') (ws : Nat) (hw : 2146952190 &&& ws = 2146952190) :
    s'.off ws = s.off ws := by
  have e := Host.Outcome.next.inj e
  refine off_of_subset hw ?_
  rw [← e]
  exact host_off _ h p _ s 2146952190 (fun t => opStart_off t p _ (by decide)) (by decide)

theorem execStop_off (h : Hdr) (p : Bytes) (s : State) {s' : State} (e : execStop h p s = .next s') (ws : Nat) (hw : 2012734462 &&& ws = 2012734462) :
    s'.off ws = s.off ws := by
  have e := Host.Outcome.next.inj e
  refine off_of_subset hw ?_
  rw [← e]
  exact host_off _ h p _ s 2012734462 (fun t => opStop_off t p _ (by decide)) (by decide)

theorem execGetState_off (h : Hdr) (p : Bytes) (s : State) {s' : State} (e : execGetState h p s = .next s') (ws : Nat) (hw : 1342177316 &&& ws = 1342177316)
    (hc : h.ep = .can2 → 33554432 &&& ws = 33554432) : s'.off ws = s.off ws := by
  have e := Host.Outcome.next.inj e
  rw [← e]
  exact hostOnly_off _ h p _ s ws (fun t => opGetState_off t p _ (sub_of (b := 1342177316) (by decide) hw)) (sub_of (b := 1342177316) (by decide) hw) hc

theorem execResetCore_off (h : Hdr) (p : Bytes) (s : State) {s' : State} (e : execResetCore h p s = .next s') (ws : Nat) (hw : 1342177324 &&& ws = 1342177324)
    (hc : h.ep = .can2 → 33554432 &&& ws = 33554432) : s'.off ws = s.off ws := by
  have e := Host.Outcome.next.inj e
  rw [← e]
  exact hostOnly_off _ h p _ s ws (fun t => opResetCore_off t p _ (sub_of (b := 1342177324) (by decide) hw)) (sub_of (b := 1342177324) (by decide) hw) hc

theorem execReadMem_off (h : Hdr) (p : Bytes) (eccErr : Bool) (s : State) {s' : State} (e : execReadMem h p eccErr s = .next s') (ws : Nat) (hw : 2012734462 &&& ws = 2012734462) :
    s'.off ws = s.off ws := by
  have e := Host.Outcome.next.inj e
  refine off_of_subset hw ?_
  rw [← e]
  exact host_off _ h p _ s 2012734462 (fun t => opReadMem_off eccErr t p _ (by decide)) (by decide)

theorem execWriteMem_off (h : Hdr) (p : Bytes) (s : State) {s' : State} (e : execWriteMem h p s = .next s') (ws : Nat) (hw : 1342181412 &&& ws = 1342181412)
    (hc : h.ep = .can2 → 33554432 &&& ws = 33554432) : s'.off ws = s.off ws := by
  have e := Host.Outcome.next.inj e
  rw [← e]
  exact hostOnly_off _ h p _ s ws (fun t => opWriteMem_off t p _ (sub_of (b := 1342181412) (by decide) hw)) (sub_of (b := 1342181412) (by decide) hw) hc

theorem execSaveSettings_off (h : Hdr) (p : Bytes) (s : State) {s' : State} (e : execSaveSettings h p s = .next s') (ws : Nat) (hw : 1342180388 &&& ws = 1342180388)
    (hc : h.ep = .can2 → 33554432 &&& ws = 33554432) : s'.off ws = s.off ws := by
  have e := Host.Outcome.next.inj e
  rw [← e]
  exact hostOnly_off _ h p _ s ws (fun t => opSaveSettings_off t p _ (sub_of (b := 1342180388) (by decide) hw)) (sub_of (b := 1342180388) (by decide) hw) hc

theorem execLogErase_off (h : Hdr) (p : Bytes) (s : State) {s' : State} (e : execLogErase h p s = .next s') (ws : Nat) (hw : 1346371620 &&& ws = 1346371620)
    (hc : h.ep = .can2 → 33554432 &&& ws = 33554432) : s'.off ws = s.off ws := by
  have e := Host.Outcome.next.inj e
  rw [← e]
  exact hostOnly_off _ h p _ s ws (fun t => opLogErase_off t p _ (sub_of (b := 1346371620) (by decide) hw)) (sub_of (b := 1346371620) (by decide) hw) hc

theorem execPwrSetLatency_off (h : Hdr) (p : Bytes) (s : State) {s' : State} (e : execPwrSetLatency h p s = .next s') (ws : Nat) (hw : 1409286180 &&& ws = 1409286180)
    (hc : h.ep = .can2 → 33554432 &&& ws = 33554432) : s'.off ws = s.off ws := by
  have e := Host.Outcome.next.inj e
  rw [← e]
  exact hostOnly_off _ h p _ s ws (fun t => opPwrSetLatency_off t p _ (sub_of (b := 1409286180) (by decide) hw)) (sub_of (b := 1409286180) (by decide) hw) hc

theorem execPwrRequestState_off (h : Hdr) (p : Bytes) (s : State) {s' : State} (e : execPwrRequestState h p s = .next s') (ws : Nat) (hw : 2012734462 &&& ws = 2012734462) :
    s'.off ws = s.off ws := by
  have e := Host.Outcome.next.inj e
  refine off_of_subset hw ?_
  rw [← e]
  exact host_off _ h p _ s 2012734462 (fun t => opPwrRequestState_off t p _ (by decide)) (by decide)

theorem execPwrSetBudget_off (h : Hdr) (p : Bytes) (s : State) {s' : State} (e : execPwrSetBudget h p s = .next s') (ws : Nat) (hw : 1409286180 &&& ws = 1409286180)
    (hc : h.ep = .can2 → 33554432 &&& ws = 33554432) : s'.off ws = s.off ws := by
  have e := Host.Outcome.next.inj e
  rw [← e]
  exact hostOnly_off _ h p _ s ws (fun t => opPwrSetBudget_off t p _ (sub_of (b := 1409286180) (by decide) hw)) (sub_of (b := 1409286180) (by decide) hw) hc

theorem execPwrGetBudget_off (h : Hdr) (p : Bytes) (s : State) {s' : State} (e : execPwrGetBudget h p s = .next s') (ws : Nat) (hw : 1342177316 &&& ws = 1342177316)
    (hc : h.ep = .can2 → 33554432 &&& ws = 33554432) : s'.off ws = s.off ws := by
  have e := Host.Outcome.next.inj e
  rw [← e]
  exact hostOnly_off _ h p _ s ws (fun t => opPwrGetBudget_off t p _ (sub_of (b := 1342177316) (by decide) hw)) (sub_of (b := 1342177316) (by decide) hw) hc

theorem execPwrStatus_off (h : Hdr) (p : Bytes) (s : State) {s' : State} (e : execPwrStatus h p s = .next s') (ws : Nat) (hw : 1342177316 &&& ws = 1342177316)
    (hc : h.ep = .can2 → 33554432 &&& ws = 33554432) : s'.off ws = s.off ws := by
  have e := Host.Outcome.next.inj e
  rw [← e]
  exact hostOnly_off _ h p _ s ws (fun t => opPwrStatus_off t p _ (sub_of (b := 1342177316) (by decide) hw)) (sub_of (b := 1342177316) (by decide) hw) hc

theorem execLoopConfig_off (h : Hdr) (p : Bytes) (s : State) {s' : State} (e : execLoopConfig h p s = .next s') (ws : Nat) (hw : 2012734462 &&& ws = 2012734462) :
    s'.off ws = s.off ws := by
  have e := Host.Outcome.next.inj e
  refine off_of_subset hw ?_
  rw [← e]
  exact host_off _ h p _ s 2012734462 (fun t => opLoopConfig_off t p _ (by decide)) (by decide)

theorem execLoopRead_off (h : Hdr) (p : Bytes) (s : State) {s' : State} (e : execLoopRead h p s = .next s') (ws : Nat) (hw : 1342177316 &&& ws = 1342177316)
    (hc : h.ep = .can2 → 33554432 &&& ws = 33554432) : s'.off ws = s.off ws := by
  have e := Host.Outcome.next.inj e
  rw [← e]
  exact hostOnly_off _ h p _ s ws (fun t => opLoopRead_off t p _ (sub_of (b := 1342177316) (by decide) hw)) (sub_of (b := 1342177316) (by decide) hw) hc

theorem execLoopSetReference_off (h : Hdr) (p : Bytes) (s : State) {s' : State} (e : execLoopSetReference h p s = .next s') (ws : Nat) (hw : 1342185508 &&& ws = 1342185508)
    (hc : h.ep = .can2 → 33554432 &&& ws = 33554432) : s'.off ws = s.off ws := by
  have e := Host.Outcome.next.inj e
  rw [← e]
  exact hostOnly_off _ h p _ s ws (fun t => opLoopSetReference_off t p _ (sub_of (b := 1342185508) (by decide) hw)) (sub_of (b := 1342185508) (by decide) hw) hc

theorem execLoopSetFeedforward_off (h : Hdr) (p : Bytes) (s : State) {s' : State} (e : execLoopSetFeedforward h p s = .next s') (ws : Nat) (hw : 1342185508 &&& ws = 1342185508)
    (hc : h.ep = .can2 → 33554432 &&& ws = 33554432) : s'.off ws = s.off ws := by
  have e := Host.Outcome.next.inj e
  rw [← e]
  exact hostOnly_off _ h p _ s ws (fun t => opLoopSetFeedforward_off t p _ (sub_of (b := 1342185508) (by decide) hw)) (sub_of (b := 1342185508) (by decide) hw) hc

theorem execLoopStatus_off (h : Hdr) (p : Bytes) (s : State) {s' : State} (e : execLoopStatus h p s = .next s') (ws : Nat) (hw : 1342177316 &&& ws = 1342177316)
    (hc : h.ep = .can2 → 33554432 &&& ws = 33554432) : s'.off ws = s.off ws := by
  have e := Host.Outcome.next.inj e
  rw [← e]
  exact hostOnly_off _ h p _ s ws (fun t => opLoopStatus_off t p _ (sub_of (b := 1342177316) (by decide) hw)) (sub_of (b := 1342177316) (by decide) hw) hc

theorem execCleCapacity_off (h : Hdr) (p : Bytes) (s : State) {s' : State} (e : execCleCapacity h p s = .next s') (ws : Nat) (hw : 1342177316 &&& ws = 1342177316)
    (hc : h.ep = .can2 → 33554432 &&& ws = 33554432) : s'.off ws = s.off ws := by
  have e := Host.Outcome.next.inj e
  rw [← e]
  exact hostOnly_off _ h p _ s ws (fun t => opCleCapacity_off t p _ (sub_of (b := 1342177316) (by decide) hw)) (sub_of (b := 1342177316) (by decide) hw) hc

theorem execTableWrite_off (h : Hdr) (p : Bytes) (s : State) {s' : State} (e : execTableWrite h p s = .next s') (ws : Nat) (hw : 1342185508 &&& ws = 1342185508)
    (hc : h.ep = .can2 → 33554432 &&& ws = 33554432) : s'.off ws = s.off ws := by
  have e := Host.Outcome.next.inj e
  rw [← e]
  exact hostOnly_off _ h p _ s ws (fun t => opTableWrite_off t p _ (sub_of (b := 1342185508) (by decide) hw)) (sub_of (b := 1342185508) (by decide) hw) hc

theorem execTableRead_off (h : Hdr) (p : Bytes) (s : State) {s' : State} (e : execTableRead h p s = .next s') (ws : Nat) (hw : 1342177316 &&& ws = 1342177316)
    (hc : h.ep = .can2 → 33554432 &&& ws = 33554432) : s'.off ws = s.off ws := by
  have e := Host.Outcome.next.inj e
  rw [← e]
  exact hostOnly_off _ h p _ s ws (fun t => opTableRead_off t p _ (sub_of (b := 1342177316) (by decide) hw)) (sub_of (b := 1342177316) (by decide) hw) hc

theorem execGroupConfig_off (h : Hdr) (p : Bytes) (s : State) {s' : State} (e : execGroupConfig h p s = .next s') (ws : Nat) (hw : 2012734462 &&& ws = 2012734462) :
    s'.off ws = s.off ws := by
  have e := Host.Outcome.next.inj e
  refine off_of_subset hw ?_
  rw [← e]
  exact host_off _ h p _ s 2012734462 (fun t => opGroupConfig_off t p _ (by decide)) (by decide)

theorem execGroupRead_off (h : Hdr) (p : Bytes) (s : State) {s' : State} (e : execGroupRead h p s = .next s') (ws : Nat) (hw : 1342177316 &&& ws = 1342177316)
    (hc : h.ep = .can2 → 33554432 &&& ws = 33554432) : s'.off ws = s.off ws := by
  have e := Host.Outcome.next.inj e
  rw [← e]
  exact hostOnly_off _ h p _ s ws (fun t => opGroupRead_off t p _ (sub_of (b := 1342177316) (by decide) hw)) (sub_of (b := 1342177316) (by decide) hw) hc

theorem execImpConfig_off (h : Hdr) (p : Bytes) (s : State) {s' : State} (e : execImpConfig h p s = .next s') (ws : Nat) (hw : 1342193700 &&& ws = 1342193700)
    (hc : h.ep = .can2 → 33554432 &&& ws = 33554432) : s'.off ws = s.off ws := by
  have e := Host.Outcome.next.inj e
  rw [← e]
  exact hostOnly_off _ h p _ s ws (fun t => opImpConfig_off t p _ (sub_of (b := 1342193700) (by decide) hw)) (sub_of (b := 1342193700) (by decide) hw) hc

theorem execClassifierLoad_off (h : Hdr) (p : Bytes) (s : State) {s' : State} (e : execClassifierLoad h p s = .next s') (ws : Nat) (hw : 1342193700 &&& ws = 1342193700)
    (hc : h.ep = .can2 → 33554432 &&& ws = 33554432) : s'.off ws = s.off ws := by
  have e := Host.Outcome.next.inj e
  rw [← e]
  exact hostOnly_off _ h p _ s ws (fun t => opClassifierLoad_off t p _ (sub_of (b := 1342193700) (by decide) hw)) (sub_of (b := 1342193700) (by decide) hw) hc

theorem execAinConfig_off (h : Hdr) (p : Bytes) (s : State) {s' : State} (e : execAinConfig h p s = .next s') (ws : Nat) (hw : 1342193700 &&& ws = 1342193700)
    (hc : h.ep = .can2 → 33554432 &&& ws = 33554432) : s'.off ws = s.off ws := by
  have e := Host.Outcome.next.inj e
  rw [← e]
  exact hostOnly_off _ h p _ s ws (fun t => opAinConfig_off t p _ (sub_of (b := 1342193700) (by decide) hw)) (sub_of (b := 1342193700) (by decide) hw) hc

theorem execFinConfig_off (h : Hdr) (p : Bytes) (s : State) {s' : State} (e : execFinConfig h p s = .next s') (ws : Nat) (hw : 1342193700 &&& ws = 1342193700)
    (hc : h.ep = .can2 → 33554432 &&& ws = 33554432) : s'.off ws = s.off ws := by
  have e := Host.Outcome.next.inj e
  rw [← e]
  exact hostOnly_off _ h p _ s ws (fun t => opFinConfig_off t p _ (sub_of (b := 1342193700) (by decide) hw)) (sub_of (b := 1342193700) (by decide) hw) hc

theorem execPosConfig_off (h : Hdr) (p : Bytes) (s : State) {s' : State} (e : execPosConfig h p s = .next s') (ws : Nat) (hw : 1342193700 &&& ws = 1342193700)
    (hc : h.ep = .can2 → 33554432 &&& ws = 33554432) : s'.off ws = s.off ws := by
  have e := Host.Outcome.next.inj e
  rw [← e]
  exact hostOnly_off _ h p _ s ws (fun t => opPosConfig_off t p _ (sub_of (b := 1342193700) (by decide) hw)) (sub_of (b := 1342193700) (by decide) hw) hc

theorem execImuConfig_off (h : Hdr) (p : Bytes) (s : State) {s' : State} (e : execImuConfig h p s = .next s') (ws : Nat) (hw : 1342193700 &&& ws = 1342193700)
    (hc : h.ep = .can2 → 33554432 &&& ws = 33554432) : s'.off ws = s.off ws := by
  have e := Host.Outcome.next.inj e
  rw [← e]
  exact hostOnly_off _ h p _ s ws (fun t => opImuConfig_off t p _ (sub_of (b := 1342193700) (by decide) hw)) (sub_of (b := 1342193700) (by decide) hw) hc

theorem execSenseRead_off (h : Hdr) (p : Bytes) (s : State) {s' : State} (e : execSenseRead h p s = .next s') (ws : Nat) (hw : 1342177316 &&& ws = 1342177316)
    (hc : h.ep = .can2 → 33554432 &&& ws = 33554432) : s'.off ws = s.off ws := by
  have e := Host.Outcome.next.inj e
  rw [← e]
  exact hostOnly_off _ h p _ s ws (fun t => opSenseRead_off t p _ (sub_of (b := 1342177316) (by decide) hw)) (sub_of (b := 1342177316) (by decide) hw) hc

theorem execFlowCalibrate_off (h : Hdr) (p : Bytes) (s : State) {s' : State} (e : execFlowCalibrate h p s = .next s') (ws : Nat) (hw : 1342193700 &&& ws = 1342193700)
    (hc : h.ep = .can2 → 33554432 &&& ws = 33554432) : s'.off ws = s.off ws := by
  have e := Host.Outcome.next.inj e
  rw [← e]
  exact hostOnly_off _ h p _ s ws (fun t => opFlowCalibrate_off t p _ (sub_of (b := 1342193700) (by decide) hw)) (sub_of (b := 1342193700) (by decide) hw) hc

theorem execPlannerModel_off (h : Hdr) (p : Bytes) (s : State) {s' : State} (e : execPlannerModel h p s = .next s') (ws : Nat) (hw : 2012734462 &&& ws = 2012734462) :
    s'.off ws = s.off ws := by
  have e := Host.Outcome.next.inj e
  refine off_of_subset hw ?_
  rw [← e]
  exact host_off _ h p _ s 2012734462 (fun t => opPlannerModel_off t p _ (by decide)) (by decide)

theorem execPlannerObjectives_off (h : Hdr) (p : Bytes) (s : State) {s' : State} (e : execPlannerObjectives h p s = .next s') (ws : Nat) (hw : 1342243620 &&& ws = 1342243620)
    (hc : h.ep = .can2 → 33554432 &&& ws = 33554432) : s'.off ws = s.off ws := by
  have e := Host.Outcome.next.inj e
  rw [← e]
  exact hostOnly_off _ h p _ s ws (fun t => opPlannerObjectives_off t p _ (sub_of (b := 1342243620) (by decide) hw)) (sub_of (b := 1342243620) (by decide) hw) hc

theorem execPspMap_off (h : Hdr) (p : Bytes) (s : State) {s' : State} (e : execPspMap h p s = .next s') (ws : Nat) (hw : 2012734462 &&& ws = 2012734462) :
    s'.off ws = s.off ws := by
  have e := Host.Outcome.next.inj e
  refine off_of_subset hw ?_
  rw [← e]
  exact host_off _ h p _ s 2012734462 (fun t => opPspMap_off t p _ (by decide)) (by decide)

theorem execPlannerStatus_off (h : Hdr) (p : Bytes) (s : State) {s' : State} (e : execPlannerStatus h p s = .next s') (ws : Nat) (hw : 1342177316 &&& ws = 1342177316)
    (hc : h.ep = .can2 → 33554432 &&& ws = 33554432) : s'.off ws = s.off ws := by
  have e := Host.Outcome.next.inj e
  rw [← e]
  exact hostOnly_off _ h p _ s ws (fun t => opPlannerStatus_off t p _ (sub_of (b := 1342177316) (by decide) hw)) (sub_of (b := 1342177316) (by decide) hw) hc

theorem execGuidanceConfig_off (h : Hdr) (p : Bytes) (s : State) {s' : State} (e : execGuidanceConfig h p s = .next s') (ws : Nat) (hw : 2012734462 &&& ws = 2012734462) :
    s'.off ws = s.off ws := by
  have e := Host.Outcome.next.inj e
  refine off_of_subset hw ?_
  rw [← e]
  exact host_off _ h p _ s 2012734462 (fun t => opGuidanceConfig_off t p _ (by decide)) (by decide)

theorem execPathLoad_off (h : Hdr) (p : Bytes) (s : State) {s' : State} (e : execPathLoad h p s = .next s') (ws : Nat) (hw : 1342308388 &&& ws = 1342308388)
    (hc : h.ep = .can2 → 33554432 &&& ws = 33554432) : s'.off ws = s.off ws := by
  have e := Host.Outcome.next.inj e
  rw [← e]
  exact hostOnly_off _ h p _ s ws (fun t => opPathLoad_off t p _ (sub_of (b := 1342308388) (by decide) hw)) (sub_of (b := 1342308388) (by decide) hw) hc

theorem execPoseSource_off (h : Hdr) (p : Bytes) (s : State) {s' : State} (e : execPoseSource h p s = .next s') (ws : Nat) (hw : 2012734462 &&& ws = 2012734462) :
    s'.off ws = s.off ws := by
  have e := Host.Outcome.next.inj e
  refine off_of_subset hw ?_
  rw [← e]
  exact host_off _ h p _ s 2012734462 (fun t => opPoseSource_off t p _ (by decide)) (by decide)

theorem execYieldConfig_off (h : Hdr) (p : Bytes) (s : State) {s' : State} (e : execYieldConfig h p s = .next s') (ws : Nat) (hw : 1342439460 &&& ws = 1342439460)
    (hc : h.ep = .can2 → 33554432 &&& ws = 33554432) : s'.off ws = s.off ws := by
  have e := Host.Outcome.next.inj e
  rw [← e]
  exact hostOnly_off _ h p _ s ws (fun t => opYieldConfig_off t p _ (sub_of (b := 1342439460) (by decide) hw)) (sub_of (b := 1342439460) (by decide) hw) hc

theorem execLswConfig_off (h : Hdr) (p : Bytes) (s : State) {s' : State} (e : execLswConfig h p s = .next s') (ws : Nat) (hw : 2012734462 &&& ws = 2012734462) :
    s'.off ws = s.off ws := by
  have e := Host.Outcome.next.inj e
  refine off_of_subset hw ?_
  rw [← e]
  exact host_off _ h p _ s 2012734462 (fun t => opLswConfig_off s t p _ (by decide)) (by decide)

theorem execLswCommand_off (h : Hdr) (p : Bytes) (s : State) {s' : State} (e : execLswCommand h p s = .next s') (ws : Nat) (hw : 2012734462 &&& ws = 2012734462) :
    s'.off ws = s.off ws := by
  have e := Host.Outcome.next.inj e
  refine off_of_subset hw ?_
  rw [← e]
  exact host_off _ h p _ s 2012734462 (fun t => opLswCommand_off t p _ (by decide)) (by decide)

theorem execLswStatus_off (h : Hdr) (p : Bytes) (s : State) {s' : State} (e : execLswStatus h p s = .next s') (ws : Nat) (hw : 1342177316 &&& ws = 1342177316)
    (hc : h.ep = .can2 → 33554432 &&& ws = 33554432) : s'.off ws = s.off ws := by
  have e := Host.Outcome.next.inj e
  rw [← e]
  exact hostOnly_off _ h p _ s ws (fun t => opLswStatus_off t p _ (sub_of (b := 1342177316) (by decide) hw)) (sub_of (b := 1342177316) (by decide) hw) hc

theorem execLswClear_off (h : Hdr) (p : Bytes) (s : State) {s' : State} (e : execLswClear h p s = .next s') (ws : Nat) (hw : 2012734462 &&& ws = 2012734462) :
    s'.off ws = s.off ws := by
  have e := Host.Outcome.next.inj e
  refine off_of_subset hw ?_
  rw [← e]
  exact host_off _ h p _ s 2012734462 (fun t => opLswClear_off t p _ (by decide)) (by decide)

theorem execFusConfig_off (h : Hdr) (p : Bytes) (s : State) {s' : State} (e : execFusConfig h p s = .next s') (ws : Nat) (hw : 2012734462 &&& ws = 2012734462) :
    s'.off ws = s.off ws := by
  have e := Host.Outcome.next.inj e
  refine off_of_subset hw ?_
  rw [← e]
  exact host_off _ h p _ s 2012734462 (fun t => opFusConfig_off t p _ (by decide)) (by decide)

theorem execFusWeights_off (h : Hdr) (p : Bytes) (s : State) {s' : State} (e : execFusWeights h p s = .next s') (ws : Nat) (hw : 1343225892 &&& ws = 1343225892)
    (hc : h.ep = .can2 → 33554432 &&& ws = 33554432) : s'.off ws = s.off ws := by
  have e := Host.Outcome.next.inj e
  rw [← e]
  exact hostOnly_off _ h p _ s ws (fun t => opFusWeights_off t p _ (sub_of (b := 1343225892) (by decide) hw)) (sub_of (b := 1343225892) (by decide) hw) hc

theorem execFusHeadPolicy_off (h : Hdr) (p : Bytes) (s : State) {s' : State} (e : execFusHeadPolicy h p s = .next s') (ws : Nat) (hw : 1343226660 &&& ws = 1343226660)
    (hc : h.ep = .can2 → 33554432 &&& ws = 33554432) : s'.off ws = s.off ws := by
  have e := Host.Outcome.next.inj e
  rw [← e]
  exact hostOnly_off _ h p _ s ws (fun t => opFusHeadPolicy_off t p _ (sub_of (b := 1343226660) (by decide) hw)) (sub_of (b := 1343226660) (by decide) hw) hc

theorem execFusPointStream_off (h : Hdr) (p : Bytes) (s : State) {s' : State} (e : execFusPointStream h p s = .next s') (ws : Nat) (hw : 2012734462 &&& ws = 2012734462) :
    s'.off ws = s.off ws := by
  have e := Host.Outcome.next.inj e
  refine off_of_subset hw ?_
  rw [← e]
  exact host_off _ h p _ s 2012734462 (fun t => opFusPointStream_off t p _ (by decide)) (by decide)

theorem execFusStatus_off (h : Hdr) (p : Bytes) (s : State) {s' : State} (e : execFusStatus h p s = .next s') (ws : Nat) (hw : 1342177316 &&& ws = 1342177316)
    (hc : h.ep = .can2 → 33554432 &&& ws = 33554432) : s'.off ws = s.off ws := by
  have e := Host.Outcome.next.inj e
  rw [← e]
  exact hostOnly_off _ h p _ s ws (fun t => opFusStatus_off t p _ (sub_of (b := 1342177316) (by decide) hw)) (sub_of (b := 1342177316) (by decide) hw) hc

theorem execPipeConfig_off (h : Hdr) (p : Bytes) (s : State) {s' : State} (e : execPipeConfig h p s = .next s') (ws : Nat) (hw : 2012734462 &&& ws = 2012734462) :
    s'.off ws = s.off ws := by
  have e := Host.Outcome.next.inj e
  refine off_of_subset hw ?_
  rw [← e]
  exact host_off _ h p _ s 2012734462 (fun t => opPipeConfig_off t p _ (by decide)) (by decide)

theorem execExposureCommit_off (h : Hdr) (p : Bytes) (s : State) {s' : State} (e : execExposureCommit h p s = .next s') (ws : Nat) (hw : 1344274468 &&& ws = 1344274468)
    (hc : h.ep = .can2 → 33554432 &&& ws = 33554432) : s'.off ws = s.off ws := by
  have e := Host.Outcome.next.inj e
  rw [← e]
  exact hostOnly_off _ h p _ s ws (fun t => opExposureCommit_off t p _ (sub_of (b := 1344274468) (by decide) hw)) (sub_of (b := 1344274468) (by decide) hw) hc

theorem execSensorTunnelRead_off (h : Hdr) (p : Bytes) (ans : SensorAns) (s : State) {s' : State} (e : execSensorTunnelRead h p ans s = .next s') (ws : Nat) (hw : 2012734462 &&& ws = 2012734462) :
    s'.off ws = s.off ws := by
  have e := Host.Outcome.next.inj e
  refine off_of_subset hw ?_
  rw [← e]
  exact host_off _ h p _ s 2012734462 (fun t => opSensorTunnel_off ans t p _ (by decide)) (by decide)

theorem execSensorTunnelWrite_off (h : Hdr) (p : Bytes) (ans : SensorAns) (s : State) {s' : State} (e : execSensorTunnelWrite h p ans s = .next s') (ws : Nat) (hw : 2012734462 &&& ws = 2012734462) :
    s'.off ws = s.off ws := by
  have e := Host.Outcome.next.inj e
  refine off_of_subset hw ?_
  rw [← e]
  exact host_off _ h p _ s 2012734462 (fun t => opSensorTunnel_off ans t p _ (by decide)) (by decide)

theorem execSensorTunnelAppendStart_off (h : Hdr) (p : Bytes) (s : State) {s' : State} (e : execSensorTunnelAppendStart h p s = .next s') (ws : Nat) (hw : 2012734462 &&& ws = 2012734462) :
    s'.off ws = s.off ws := by
  have e := Host.Outcome.next.inj e
  refine off_of_subset hw ?_
  rw [← e]
  exact host_off _ h p _ s 2012734462 (fun t => opSensorTunnel_off (.ack []) t p _ (by decide)) (by decide)

theorem execSensorTunnelAppendStop_off (h : Hdr) (p : Bytes) (s : State) {s' : State} (e : execSensorTunnelAppendStop h p s = .next s') (ws : Nat) (hw : 2012734462 &&& ws = 2012734462) :
    s'.off ws = s.off ws := by
  have e := Host.Outcome.next.inj e
  refine off_of_subset hw ?_
  rw [← e]
  exact host_off _ h p _ s 2012734462 (fun t => opSensorTunnel_off (.ack []) t p _ (by decide)) (by decide)

theorem execSensorTunnelClearLists_off (h : Hdr) (p : Bytes) (s : State) {s' : State} (e : execSensorTunnelClearLists h p s = .next s') (ws : Nat) (hw : 2012734462 &&& ws = 2012734462) :
    s'.off ws = s.off ws := by
  have e := Host.Outcome.next.inj e
  refine off_of_subset hw ?_
  rw [← e]
  exact host_off _ h p _ s 2012734462 (fun t => opSensorTunnel_off (.ack []) t p _ (by decide)) (by decide)

theorem execPipeStatus_off (h : Hdr) (p : Bytes) (s : State) {s' : State} (e : execPipeStatus h p s = .next s') (ws : Nat) (hw : 1342177316 &&& ws = 1342177316)
    (hc : h.ep = .can2 → 33554432 &&& ws = 33554432) : s'.off ws = s.off ws := by
  have e := Host.Outcome.next.inj e
  rw [← e]
  exact hostOnly_off _ h p _ s ws (fun t => opPipeStatus_off t p _ (sub_of (b := 1342177316) (by decide) hw)) (sub_of (b := 1342177316) (by decide) hw) hc

theorem execGnssConfig_off (h : Hdr) (p : Bytes) (s : State) {s' : State} (e : execGnssConfig h p s = .next s') (ws : Nat) (hw : 2012734462 &&& ws = 2012734462) :
    s'.off ws = s.off ws := by
  have e := Host.Outcome.next.inj e
  refine off_of_subset hw ?_
  rw [← e]
  exact host_off _ h p _ s 2012734462 (fun t => opGnssConfig_off t p _ (by decide)) (by decide)

theorem execNotchConfig_off (h : Hdr) (p : Bytes) (s : State) {s' : State} (e : execNotchConfig h p s = .next s') (ws : Nat) (hw : 1342178084 &&& ws = 1342178084)
    (hc : h.ep = .can2 → 33554432 &&& ws = 33554432) : s'.off ws = s.off ws := by
  have e := Host.Outcome.next.inj e
  rw [← e]
  exact hostOnly_off _ h p _ s ws (fun t => opNotchConfig_off t p _ (sub_of (b := 1342178084) (by decide) hw)) (sub_of (b := 1342178084) (by decide) hw) hc

theorem execPipCapture_off (h : Hdr) (p : Bytes) (s : State) {s' : State} (e : execPipCapture h p s = .next s') (ws : Nat) (hw : 1346371620 &&& ws = 1346371620)
    (hc : h.ep = .can2 → 33554432 &&& ws = 33554432) : s'.off ws = s.off ws := by
  have e := Host.Outcome.next.inj e
  rw [← e]
  exact hostOnly_off _ h p _ s ws (fun t => opPipCapture_off t p _ (sub_of (b := 1346371620) (by decide) hw)) (sub_of (b := 1346371620) (by decide) hw) hc

theorem execPipExportReadHeader_off (h : Hdr) (p : Bytes) (s : State) {s' : State} (e : execPipExportReadHeader h p s = .next s') (ws : Nat) (hw : 1346371620 &&& ws = 1346371620)
    (hc : h.ep = .can2 → 33554432 &&& ws = 33554432) : s'.off ws = s.off ws := by
  have e := Host.Outcome.next.inj e
  rw [← e]
  exact hostOnly_off _ h p _ s ws (fun t => opPipExport_off t p _ (sub_of (b := 1346371620) (by decide) hw)) (sub_of (b := 1346371620) (by decide) hw) hc

theorem execPipExportReadSamples_off (h : Hdr) (p : Bytes) (s : State) {s' : State} (e : execPipExportReadSamples h p s = .next s') (ws : Nat) (hw : 1346371620 &&& ws = 1346371620)
    (hc : h.ep = .can2 → 33554432 &&& ws = 33554432) : s'.off ws = s.off ws := by
  have e := Host.Outcome.next.inj e
  rw [← e]
  exact hostOnly_off _ h p _ s ws (fun t => opPipExport_off t p _ (sub_of (b := 1346371620) (by decide) hw)) (sub_of (b := 1346371620) (by decide) hw) hc

theorem execPipExportProcess_off (h : Hdr) (p : Bytes) (s : State) {s' : State} (e : execPipExportProcess h p s = .next s') (ws : Nat) (hw : 1346371620 &&& ws = 1346371620)
    (hc : h.ep = .can2 → 33554432 &&& ws = 33554432) : s'.off ws = s.off ws := by
  have e := Host.Outcome.next.inj e
  rw [← e]
  exact hostOnly_off _ h p _ s ws (fun t => opPipExport_off t p _ (sub_of (b := 1346371620) (by decide) hw)) (sub_of (b := 1346371620) (by decide) hw) hc

theorem execPipExportDelete_off (h : Hdr) (p : Bytes) (s : State) {s' : State} (e : execPipExportDelete h p s = .next s') (ws : Nat) (hw : 1346371620 &&& ws = 1346371620)
    (hc : h.ep = .can2 → 33554432 &&& ws = 33554432) : s'.off ws = s.off ws := by
  have e := Host.Outcome.next.inj e
  rw [← e]
  exact hostOnly_off _ h p _ s ws (fun t => opPipExport_off t p _ (sub_of (b := 1346371620) (by decide) hw)) (sub_of (b := 1346371620) (by decide) hw) hc

theorem execGnssStatus_off (h : Hdr) (p : Bytes) (s : State) {s' : State} (e : execGnssStatus h p s = .next s') (ws : Nat) (hw : 1342177316 &&& ws = 1342177316)
    (hc : h.ep = .can2 → 33554432 &&& ws = 33554432) : s'.off ws = s.off ws := by
  have e := Host.Outcome.next.inj e
  rw [← e]
  exact hostOnly_off _ h p _ s ws (fun t => opGnssStatus_off t p _ (sub_of (b := 1342177316) (by decide) hw)) (sub_of (b := 1342177316) (by decide) hw) hc

theorem execTdConfig_off (h : Hdr) (p : Bytes) (s : State) {s' : State} (e : execTdConfig h p s = .next s') (ws : Nat) (hw : 2012734462 &&& ws = 2012734462) :
    s'.off ws = s.off ws := by
  have e := Host.Outcome.next.inj e
  refine off_of_subset hw ?_
  rw [← e]
  exact host_off _ h p _ s 2012734462 (fun t => opTdConfig_off t p _ (by decide)) (by decide)

theorem execGetTime_off (h : Hdr) (p : Bytes) (s : State) {s' : State} (e : execGetTime h p s = .next s') (ws : Nat) (hw : 1342177316 &&& ws = 1342177316)
    (hc : h.ep = .can2 → 33554432 &&& ws = 33554432) : s'.off ws = s.off ws := by
  have e := Host.Outcome.next.inj e
  rw [← e]
  exact hostOnly_off _ h p _ s ws (fun t => opGetTime_off t p _ (sub_of (b := 1342177316) (by decide) hw)) (sub_of (b := 1342177316) (by decide) hw) hc

theorem execRateOverride_off (h : Hdr) (p : Bytes) (s : State) {s' : State} (e : execRateOverride h p s = .next s') (ws : Nat) (hw : 1350565924 &&& ws = 1350565924)
    (hc : h.ep = .can2 → 33554432 &&& ws = 33554432) : s'.off ws = s.off ws := by
  have e := Host.Outcome.next.inj e
  rw [← e]
  exact hostOnly_off _ h p _ s ws (fun t => opRateOverride_off t p _ (sub_of (b := 1350565924) (by decide) hw)) (sub_of (b := 1350565924) (by decide) hw) hc

theorem execPortConfig_off (h : Hdr) (p : Bytes) (s : State) {s' : State} (e : execPortConfig h p s = .next s') (ws : Nat) (hw : 1358954532 &&& ws = 1358954532)
    (hc : h.ep = .can2 → 33554432 &&& ws = 33554432) : s'.off ws = s.off ws := by
  have e := Host.Outcome.next.inj e
  rw [← e]
  exact hostOnly_off _ h p _ s ws (fun t => opPortConfig_off t p _ (sub_of (b := 1358954532) (by decide) hw)) (sub_of (b := 1358954532) (by decide) hw) hc

theorem execGateConfig_off (h : Hdr) (p : Bytes) (s : State) {s' : State} (e : execGateConfig h p s = .next s') (ws : Nat) (hw : 1358954532 &&& ws = 1358954532)
    (hc : h.ep = .can2 → 33554432 &&& ws = 33554432) : s'.off ws = s.off ws := by
  have e := Host.Outcome.next.inj e
  rw [← e]
  exact hostOnly_off _ h p _ s ws (fun t => opGateConfig_off t p _ (sub_of (b := 1358954532) (by decide) hw)) (sub_of (b := 1358954532) (by decide) hw) hc

theorem execTimeStatus_off (h : Hdr) (p : Bytes) (s : State) {s' : State} (e : execTimeStatus h p s = .next s') (ws : Nat) (hw : 1342177316 &&& ws = 1342177316)
    (hc : h.ep = .can2 → 33554432 &&& ws = 33554432) : s'.off ws = s.off ws := by
  have e := Host.Outcome.next.inj e
  rw [← e]
  exact hostOnly_off _ h p _ s ws (fun t => opTimeStatus_off t p _ (sub_of (b := 1342177316) (by decide) hw)) (sub_of (b := 1342177316) (by decide) hw) hc

theorem execCanConfig_off (h : Hdr) (p : Bytes) (s : State) {s' : State} (e : execCanConfig h p s = .next s') (ws : Nat) (hw : 2012734462 &&& ws = 2012734462) :
    s'.off ws = s.off ws := by
  have e := Host.Outcome.next.inj e
  refine off_of_subset hw ?_
  rw [← e]
  exact host_off _ h p _ s 2012734462 (fun t => opCanConfig_off t p _ (by decide)) (by decide)

theorem execCanFilter_off (h : Hdr) (p : Bytes) (s : State) {s' : State} (e : execCanFilter h p s = .next s') (ws : Nat) (hw : 2012734462 &&& ws = 2012734462) :
    s'.off ws = s.off ws := by
  have e := Host.Outcome.next.inj e
  refine off_of_subset hw ?_
  rw [← e]
  exact host_off _ h p _ s 2012734462 (fun t => opCanFilter_off t p _ (by decide)) (by decide)

theorem execCanTransmit_off (h : Hdr) (p : Bytes) (s : State) {s' : State} (e : execCanTransmit h p s = .next s') (ws : Nat) (hw : 2012734462 &&& ws = 2012734462) :
    s'.off ws = s.off ws := by
  have e := Host.Outcome.next.inj e
  refine off_of_subset hw ?_
  rw [← e]
  exact host_off _ h p _ s 2012734462 (fun t => opCanTransmit_off t p _ (by decide)) (by decide)

theorem execCanStatus_off (h : Hdr) (p : Bytes) (s : State) {s' : State} (e : execCanStatus h p s = .next s') (ws : Nat) (hw : 1375731748 &&& ws = 1375731748)
    (hc : h.ep = .can2 → 33554432 &&& ws = 33554432) : s'.off ws = s.off ws := by
  have e := Host.Outcome.next.inj e
  rw [← e]
  exact hostOnly_off _ h p _ s ws (fun t => opCanStatus_off t p _ (sub_of (b := 1375731748) (by decide) hw)) (sub_of (b := 1375731748) (by decide) hw) hc

theorem execCanAddressClaim_off (h : Hdr) (p : Bytes) (s : State) {s' : State} (e : execCanAddressClaim h p s = .next s') (ws : Nat) (hw : 2012734462 &&& ws = 2012734462) :
    s'.off ws = s.off ws := by
  have e := Host.Outcome.next.inj e
  refine off_of_subset hw ?_
  rw [← e]
  exact host_off _ h p _ s 2012734462 (fun t => opCanAddressClaim_off t p _ (by decide)) (by decide)

theorem execFaultRead_off (h : Hdr) (p : Bytes) (s : State) {s' : State} (e : execFaultRead h p s = .next s') (ws : Nat) (hw : 1342177316 &&& ws = 1342177316)
    (hc : h.ep = .can2 → 33554432 &&& ws = 33554432) : s'.off ws = s.off ws := by
  have e := Host.Outcome.next.inj e
  rw [← e]
  exact hostOnly_off _ h p _ s ws (fun t => opFaultRead_off t p _ (sub_of (b := 1342177316) (by decide) hw)) (sub_of (b := 1342177316) (by decide) hw) hc

theorem execFaultClear_off (h : Hdr) (p : Bytes) (s : State) {s' : State} (e : execFaultClear h p s = .next s') (ws : Nat) (hw : 1342177380 &&& ws = 1342177380)
    (hc : h.ep = .can2 → 33554432 &&& ws = 33554432) : s'.off ws = s.off ws := by
  have e := Host.Outcome.next.inj e
  rw [← e]
  exact hostOnly_off _ h p _ s ws (fun t => opFaultClear_off t p _ (sub_of (b := 1342177380) (by decide) hw)) (sub_of (b := 1342177380) (by decide) hw) hc

theorem execFaultSourceConfig_off (h : Hdr) (p : Bytes) (s : State) {s' : State} (e : execFaultSourceConfig h p s = .next s') (ws : Nat) (hw : 1342177380 &&& ws = 1342177380)
    (hc : h.ep = .can2 → 33554432 &&& ws = 33554432) : s'.off ws = s.off ws := by
  have e := Host.Outcome.next.inj e
  rw [← e]
  exact hostOnly_off _ h p _ s ws (fun t => opFaultSourceConfig_off t p _ (sub_of (b := 1342177380) (by decide) hw)) (sub_of (b := 1342177380) (by decide) hw) hc

theorem execFaultThreshold_off (h : Hdr) (p : Bytes) (s : State) {s' : State} (e : execFaultThreshold h p s = .next s') (ws : Nat) (hw : 1342177380 &&& ws = 1342177380)
    (hc : h.ep = .can2 → 33554432 &&& ws = 33554432) : s'.off ws = s.off ws := by
  have e := Host.Outcome.next.inj e
  rw [← e]
  exact hostOnly_off _ h p _ s ws (fun t => opFaultThreshold_off t p _ (sub_of (b := 1342177380) (by decide) hw)) (sub_of (b := 1342177380) (by decide) hw) hc

theorem execCaptureRead_off (h : Hdr) (p : Bytes) (s : State) {s' : State} (e : execCaptureRead h p s = .next s') (ws : Nat) (hw : 1342177316 &&& ws = 1342177316)
    (hc : h.ep = .can2 → 33554432 &&& ws = 33554432) : s'.off ws = s.off ws := by
  have e := Host.Outcome.next.inj e
  rw [← e]
  exact hostOnly_off _ h p _ s ws (fun t => opCaptureRead_off t p _ (sub_of (b := 1342177316) (by decide) hw)) (sub_of (b := 1342177316) (by decide) hw) hc

theorem execPanelConfig_off (h : Hdr) (p : Bytes) (s : State) {s' : State} (e : execPanelConfig h p s = .next s') (ws : Nat) (hw : 2012734462 &&& ws = 2012734462) :
    s'.off ws = s.off ws := by
  have e := Host.Outcome.next.inj e
  refine off_of_subset hw ?_
  rw [← e]
  exact host_off _ h p _ s 2012734462 (fun t => opPanelConfig_off t p _ (by decide)) (by decide)

theorem execPanelFrame_off (h : Hdr) (p : Bytes) (s : State) {s' : State} (e : execPanelFrame h p s = .next s') (ws : Nat) (hw : 1476395044 &&& ws = 1476395044)
    (hc : h.ep = .can2 → 33554432 &&& ws = 33554432) : s'.off ws = s.off ws := by
  have e := Host.Outcome.next.inj e
  rw [← e]
  exact hostOnly_off _ h p _ s ws (fun t => opPanelFrame_off t p _ (sub_of (b := 1476395044) (by decide) hw)) (sub_of (b := 1476395044) (by decide) hw) hc

theorem execPanelStatus_off (h : Hdr) (p : Bytes) (s : State) {s' : State} (e : execPanelStatus h p s = .next s') (ws : Nat) (hw : 1342177316 &&& ws = 1342177316)
    (hc : h.ep = .can2 → 33554432 &&& ws = 33554432) : s'.off ws = s.off ws := by
  have e := Host.Outcome.next.inj e
  rw [← e]
  exact hostOnly_off _ h p _ s ws (fun t => opPanelStatus_off t p _ (sub_of (b := 1342177316) (by decide) hw)) (sub_of (b := 1342177316) (by decide) hw) hc

theorem execUpdateBegin_off (h : Hdr) (p : Bytes) (s : State) {s' : State} (e : execUpdateBegin h p s = .next s') (ws : Nat) (hw : 1342177316 &&& ws = 1342177316)
    (hc : h.ep = .can2 → 33554432 &&& ws = 33554432) : s'.off ws = s.off ws := by
  have e := Host.Outcome.next.inj e
  rw [← e]
  exact hostOnly_off _ h p _ s ws (fun t => opUpdateBegin_off t p _ (sub_of (b := 1342177316) (by decide) hw)) (sub_of (b := 1342177316) (by decide) hw) hc

theorem execUpdateBlock_off (h : Hdr) (p : Bytes) (s : State) {s' : State} (e : execUpdateBlock h p s = .next s') (ws : Nat) (hw : 1342177316 &&& ws = 1342177316)
    (hc : h.ep = .can2 → 33554432 &&& ws = 33554432) : s'.off ws = s.off ws := by
  have e := Host.Outcome.next.inj e
  rw [← e]
  exact hostOnly_off _ h p _ s ws (fun t => opUpdateBlock_off t p _ (sub_of (b := 1342177316) (by decide) hw)) (sub_of (b := 1342177316) (by decide) hw) hc

theorem execUpdateCommit_off (h : Hdr) (p : Bytes) (s : State) {s' : State} (e : execUpdateCommit h p s = .next s') (ws : Nat) (hw : 1342177316 &&& ws = 1342177316)
    (hc : h.ep = .can2 → 33554432 &&& ws = 33554432) : s'.off ws = s.off ws := by
  have e := Host.Outcome.next.inj e
  rw [← e]
  exact hostOnly_off _ h p _ s ws (fun t => opUpdateCommit_off t p _ (sub_of (b := 1342177316) (by decide) hw)) (sub_of (b := 1342177316) (by decide) hw) hc

theorem execUpdateStatus_off (h : Hdr) (p : Bytes) (s : State) {s' : State} (e : execUpdateStatus h p s = .next s') (ws : Nat) (hw : 1342177316 &&& ws = 1342177316)
    (hc : h.ep = .can2 → 33554432 &&& ws = 33554432) : s'.off ws = s.off ws := by
  have e := Host.Outcome.next.inj e
  rw [← e]
  exact hostOnly_off _ h p _ s ws (fun t => opUpdateStatus_off t p _ (sub_of (b := 1342177316) (by decide) hw)) (sub_of (b := 1342177316) (by decide) hw) hc

theorem execTestUnlock_off (h : Hdr) (p : Bytes) (s : State) {s' : State} (e : execTestUnlock h p s = .next s') (ws : Nat) (hw : 2012734462 &&& ws = 2012734462) :
    s'.off ws = s.off ws := by
  have e := Host.Outcome.next.inj e
  refine off_of_subset hw ?_
  rw [← e]
  exact host_off _ h p _ s 2012734462 (fun t => opTestUnlock_off t p _ (by decide)) (by decide)

theorem execPerturbSet_off (h : Hdr) (p : Bytes) (s : State) {s' : State} (e : execPerturbSet h p s = .next s') (ws : Nat) (hw : 2012734462 &&& ws = 2012734462) :
    s'.off ws = s.off ws := by
  have e := Host.Outcome.next.inj e
  refine off_of_subset hw ?_
  rw [← e]
  exact host_off _ h p _ s 2012734462 (fun t => opPerturbSet_off t p _ (by decide)) (by decide)

theorem execPerturbClear_off (h : Hdr) (p : Bytes) (s : State) {s' : State} (e : execPerturbClear h p s = .next s') (ws : Nat) (hw : 2012734462 &&& ws = 2012734462) :
    s'.off ws = s.off ws := by
  have e := Host.Outcome.next.inj e
  refine off_of_subset hw ?_
  rw [← e]
  exact host_off _ h p _ s 2012734462 (fun t => opPerturbClear_off t p _ (by decide)) (by decide)

theorem execTestStatus_off (h : Hdr) (p : Bytes) (s : State) {s' : State} (e : execTestStatus h p s = .next s') (ws : Nat) (hw : 1342177316 &&& ws = 1342177316)
    (hc : h.ep = .can2 → 33554432 &&& ws = 33554432) : s'.off ws = s.off ws := by
  have e := Host.Outcome.next.inj e
  rw [← e]
  exact hostOnly_off _ h p _ s ws (fun t => opTestStatus_off t p _ (sub_of (b := 1342177316) (by decide) hw)) (sub_of (b := 1342177316) (by decide) hw) hc

theorem execUndefinedOpcode_off (h : Hdr) (code : Nat) (p : Bytes) (s : State) {s' : State} (e : execUndefinedOpcode h code p s = .next s') (ws : Nat) (hw : 1342177316 &&& ws = 1342177316)
    (hc : h.ep = .can2 → 33554432 &&& ws = 33554432) : s'.off ws = s.off ws := by
  have e := Host.Outcome.next.inj e
  rw [← e]
  exact xUndefinedOpcode_off h code p s ws hw hc

theorem execBalinePacketDiscarded_off (ep : Endpoint) (raw : Bytes) (s : State) {s' : State} (e : execBalinePacketDiscarded ep raw s = .next s') (ws : Nat) (hw : 32 &&& ws = 32) :
    s'.off ws = s.off ws := by
  have e := Host.Outcome.next.inj e
  refine off_of_subset hw ?_
  rw [← e, xBalinePacketDiscarded_off]
  decide

theorem execBalinePortMismatchDrop_off (port : Nat) (s : State) {s' : State} (e : execBalinePortMismatchDrop port s = .next s') (ws : Nat) (hw : 32 &&& ws = 32) :
    s'.off ws = s.off ws := by
  have e := Host.Outcome.next.inj e
  refine off_of_subset hw ?_
  rw [← e, xBalinePortMismatchDrop_off]
  decide

theorem execNeighbourDiscovery_off (src target : Nat) (s : State) {s' : State} (e : execNeighbourDiscovery src target s = .next s') (ws : Nat) (hw : 1073741824 &&& ws = 1073741824) :
    s'.off ws = s.off ws := by
  have e := Host.Outcome.next.inj e
  refine off_of_subset hw ?_
  rw [← e, xNeighbourDiscovery_off]
  decide

theorem execIcmpv6Echo_off (src ident seq : Nat) (data : Bytes) (s : State) {s' : State} (e : execIcmpv6Echo src ident seq data s = .next s') (ws : Nat) (hw : 1073741824 &&& ws = 1073741824) :
    s'.off ws = s.off ws := by
  have e := Host.Outcome.next.inj e
  refine off_of_subset hw ?_
  rw [← e, xIcmpv6Echo_off]
  decide

theorem execIsotpFrameReceived_off (id : Nat) (data : Bytes) (s : State) {s' : State} (e : execIsotpFrameReceived id data s = .next s') (ws : Nat) (hw : 33554464 &&& ws = 33554464) :
    s'.off ws = s.off ws := by
  have e := Host.Outcome.next.inj e
  refine off_of_subset hw ?_
  rw [← e, xIsotpFrameReceived_off]
  decide

theorem execIsotpTimeout_off (nBs : Bool) (s : State) {s' : State} (e : execIsotpTimeout nBs s = .next s') (ws : Nat) (hw : 33554464 &&& ws = 33554464) :
    s'.off ws = s.off ws := by
  have e := Host.Outcome.next.inj e
  refine off_of_subset hw ?_
  rw [← e, xIsotpTimeout_off]
  decide

theorem execSessionKeepaliveTimeout_off (session : Nat) (s : State) {s' : State} (e : execSessionKeepaliveTimeout session s = .next s') (ws : Nat) (hw : 1744299006 &&& ws = 1744299006) :
    s'.off ws = s.off ws := by
  have e := Host.Outcome.next.inj e
  refine off_of_subset hw ?_
  rw [← e, settle_off _ _ (by decide), xSessionKeepaliveTimeout_off]
  decide

theorem execFaultLogEntryQueued_off (session : Nat) (s : State) {s' : State} (e : execFaultLogEntryQueued session s = .next s') (ws : Nat) (hw : 32 &&& ws = 32) :
    s'.off ws = s.off ws := by
  have e := Host.Outcome.next.inj e
  refine off_of_subset hw ?_
  rw [← e, xFaultLogEntryQueued_off]
  decide

theorem execServiceLogWrite_off (s : State) {s' : State} (e : execServiceLogWrite s = .next s') (ws : Nat) (hw : 32 &&& ws = 32) :
    s'.off ws = s.off ws := by
  have e := Host.Outcome.next.inj e
  refine off_of_subset hw ?_
  rw [← e, xServiceLogWrite_off]
  decide

theorem execPowerOnReset_off (bench : Bool) (s : State) {s' : State} (e : execPowerOnReset bench s = .next s') (ws : Nat) (hw : 2147480575 &&& ws = 2147480575) :
    s'.off ws = s.off ws := by
  have e := Host.Outcome.next.inj e
  refine off_of_subset hw ?_
  rw [← e, settle_off _ _ (by decide), xPowerOnReset_off]
  decide

theorem execResetNFall_off (lowNs : Nat) (s : State) {s' : State} (e : execResetNFall lowNs s = .next s') (ws : Nat) (hw : 2147480575 &&& ws = 2147480575) :
    s'.off ws = s.off ws := by
  have e := Host.Outcome.next.inj e
  refine off_of_subset hw ?_
  rw [← e, settle_off _ _ (by decide), xResetNFall_off]
  decide

theorem execResetNRise_off (bench : Bool) (s : State) {s' : State} (e : execResetNRise bench s = .next s') (ws : Nat) (hw : 2147480575 &&& ws = 2147480575) :
    s'.off ws = s.off ws := by
  have e := Host.Outcome.next.inj e
  refine off_of_subset hw ?_
  rw [← e, settle_off _ _ (by decide), xResetNRise_off]
  decide

theorem execRefclkLoss_off (s : State) {s' : State} (e : execRefclkLoss s = .next s') (ws : Nat) (hw : 2147480575 &&& ws = 2147480575) :
    s'.off ws = s.off ws := by
  have e := Host.Outcome.next.inj e
  refine off_of_subset hw ?_
  rw [← e, settle_off _ _ (by decide), xRefclkLoss_off]
  decide

theorem execPllsLocked_off (s : State) {s' : State} (e : execPllsLocked s = .next s') (ws : Nat) (hw : 1744299007 &&& ws = 1744299007) :
    s'.off ws = s.off ws := by
  have e := Host.Outcome.next.inj e
  refine off_of_subset hw ?_
  rw [← e, settle_off _ _ (by decide), xPllsLocked_off]
  decide

theorem execLoaderStart_off (crcOk : Bool) (s : State) {s' : State} (e : execLoaderStart crcOk s = .next s') (ws : Nat) (hw : 268435464 &&& ws = 268435464) :
    s'.off ws = s.off ws := by
  have e := Host.Outcome.next.inj e
  refine off_of_subset hw ?_
  rw [← e, xLoaderStart_off]
  decide

theorem execUpdateJournalRead_off (s : State) {s' : State} (e : execUpdateJournalRead s = .next s') (ws : Nat) (hw : 268435464 &&& ws = 268435464) :
    s'.off ws = s.off ws := by
  have e := Host.Outcome.next.inj e
  refine off_of_subset hw ?_
  rw [← e, xUpdateJournalRead_off]
  decide

theorem execDramTrained_off (s : State) {s' : State} (e : execDramTrained s = .next s') (ws : Nat) (hw : 8 &&& ws = 8) :
    s'.off ws = s.off ws := by
  have e := Host.Outcome.next.inj e
  refine off_of_subset hw ?_
  rw [← e, xDramTrained_off]
  decide

theorem execFirmwareImageVerified_off (s : State) {s' : State} (e : execFirmwareImageVerified s = .next s') (ws : Nat) (hw : 2012734462 &&& ws = 2012734462) :
    s'.off ws = s.off ws := by
  have e := Host.Outcome.next.inj e
  refine off_of_subset hw ?_
  rw [← e, settle_off _ _ (by decide), xFirmwareImageVerified_off]
  decide

theorem execCoreResetDigestCheck_off (s : State) {s' : State} (e : execCoreResetDigestCheck s = .next s') (ws : Nat) (hw : 8 &&& ws = 8) :
    s'.off ws = s.off ws := by
  have e := Host.Outcome.next.inj e
  refine off_of_subset hw ?_
  rw [← e, xCoreResetDigestCheck_off]
  decide

theorem execPairRolesAssigned_off (pa pb pc pd : Bool) (s : State) {s' : State} (e : execPairRolesAssigned pa pb pc pd s = .next s') (ws : Nat) (hw : 1744299006 &&& ws = 1744299006) :
    s'.off ws = s.off ws := by
  have e := Host.Outcome.next.inj e
  refine off_of_subset hw ?_
  rw [← e, settle_off _ _ (by decide), xPairRolesAssigned_off]
  decide

theorem execFirmwareRunning_off (s : State) {s' : State} (e : execFirmwareRunning s = .next s') (ws : Nat) (hw : 2146955262 &&& ws = 2146955262) :
    s'.off ws = s.off ws := by
  have e := Host.Outcome.next.inj e
  refine off_of_subset hw ?_
  rw [← e, settle_off _ _ (by decide), xFirmwareRunning_off]
  decide

theorem execBalineServed_off (s : State) {s' : State} (e : execBalineServed s = .next s') (ws : Nat) (hw : 8 &&& ws = 8) :
    s'.off ws = s.off ws := by
  have e := Host.Outcome.next.inj e
  refine off_of_subset hw ?_
  rw [← e, xBalineServed_off]
  decide

theorem execAutoStart_off (s : State) {s' : State} (e : execAutoStart s = .next s') (ws : Nat) (hw : 1878516734 &&& ws = 1878516734) :
    s'.off ws = s.off ws := by
  have e := Host.Outcome.next.inj e
  refine off_of_subset hw ?_
  rw [← e, settle_off _ _ (by decide), xAutoStart_off]
  decide

theorem execProcessorComplexReset_off (s : State) {s' : State} (e : execProcessorComplexReset s = .next s') (ws : Nat) (hw : 2013258750 &&& ws = 2013258750) :
    s'.off ws = s.off ws := by
  have e := Host.Outcome.next.inj e
  refine off_of_subset hw ?_
  rw [← e, settle_off _ _ (by decide), xProcessorComplexReset_off]
  decide

theorem execGroupHoldExpiry_off (g : Nat) (s : State) {s' : State} (e : execGroupHoldExpiry g s = .next s') (ws : Nat) (hw : 1744299006 &&& ws = 1744299006) :
    s'.off ws = s.off ws := by
  have e := Host.Outcome.next.inj e
  refine off_of_subset hw ?_
  rw [← e, settle_off _ _ (by decide), xGroupHoldExpiry_off]
  decide

theorem execChannelHoldExpiry_off (k : Nat) (s : State) {s' : State} (e : execChannelHoldExpiry k s = .next s') (ws : Nat) (hw : 1744299006 &&& ws = 1744299006) :
    s'.off ws = s.off ws := by
  have e := Host.Outcome.next.inj e
  refine off_of_subset hw ?_
  rw [← e, settle_off _ _ (by decide), xChannelHoldExpiry_off]
  decide

theorem execSupervisorCheckFailed_off (check : Nat) (s : State) {s' : State} (e : execSupervisorCheckFailed check s = .next s') (ws : Nat) (hw : 1744299006 &&& ws = 1744299006) :
    s'.off ws = s.off ws := by
  have e := Host.Outcome.next.inj e
  refine off_of_subset hw ?_
  rw [← e, settle_off _ _ (by decide), xSupervisorCheckFailed_off]
  decide

theorem execLogicFeedRangeChange_off (feed : Nat) (inRange : Bool) (volts : F32) (s : State) {s' : State} (e : execLogicFeedRangeChange feed inRange volts s = .next s') (ws : Nat) (hw : 1744299006 &&& ws = 1744299006) :
    s'.off ws = s.off ws := by
  have e := Host.Outcome.next.inj e
  refine off_of_subset hw ?_
  rw [← e, settle_off _ _ (by decide), xLogicFeedRangeChange_off]
  decide

theorem execHoldupStoreExhausted_off (s : State) {s' : State} (e : execHoldupStoreExhausted s = .next s') (ws : Nat) (hw : 2147480575 &&& ws = 2147480575) :
    s'.off ws = s.off ws := by
  have e := Host.Outcome.next.inj e
  refine off_of_subset hw ?_
  rw [← e, settle_off _ _ (by decide), xHoldupStoreExhausted_off]
  decide

theorem execVref5LimitTimeout_off (v : Nat) (s : State) {s' : State} (e : execVref5LimitTimeout v s = .next s') (ws : Nat) (hw : 1744299006 &&& ws = 1744299006) :
    s'.off ws = s.off ws := by
  have e := Host.Outcome.next.inj e
  refine off_of_subset hw ?_
  rw [← e, settle_off _ _ (by decide), xVref5LimitTimeout_off]
  decide

theorem execVref5Retry_off (v : Nat) (ok : Bool) (s : State) {s' : State} (e : execVref5Retry v ok s = .next s') (ws : Nat) (hw : 1744299006 &&& ws = 1744299006) :
    s'.off ws = s.off ws := by
  have e := Host.Outcome.next.inj e
  refine off_of_subset hw ?_
  rw [← e, settle_off _ _ (by decide), xVref5Retry_off]
  decide

theorem execBaseTemperatureSample_off (t0 t1 t2 t3 : F32) (s : State) {s' : State} (e : execBaseTemperatureSample t0 t1 t2 t3 s = .next s') (ws : Nat) (hw : 1744299006 &&& ws = 1744299006) :
    s'.off ws = s.off ws := by
  have e := Host.Outcome.next.inj e
  refine off_of_subset hw ?_
  rw [← e, settle_off _ _ (by decide), xBaseTemperatureSample_off]
  decide

theorem execFirewallDrop_off (pair tag access address : Nat) (s : State) {s' : State} (e : execFirewallDrop pair tag access address s = .next s') (ws : Nat) (hw : 1744299006 &&& ws = 1744299006) :
    s'.off ws = s.off ws := by
  have e := Host.Outcome.next.inj e
  refine off_of_subset hw ?_
  rw [← e, settle_off _ _ (by decide), xFirewallDrop_off]
  decide

theorem execAccessRefused_off (master access address : Nat) (s : State) {s' : State} (e : execAccessRefused master access address s = .next s') (ws : Nat) (hw : 1744299006 &&& ws = 1744299006) :
    s'.off ws = s.off ws := by
  have e := Host.Outcome.next.inj e
  refine off_of_subset hw ?_
  rw [← e, settle_off _ _ (by decide), xAccessRefused_off]
  decide

theorem execLoopSample_off (n : Nat) (s : State) {s' : State} (e : execLoopSample n s = .next s') (ws : Nat) (hw : 1744299006 &&& ws = 1744299006) :
    s'.off ws = s.off ws := by
  have e := Host.Outcome.next.inj e
  refine off_of_subset hw ?_
  rw [← e, settle_off _ _ (by decide), xLoopSample_off]
  decide

theorem execLoopSampleMissed_off (n : Nat) (s : State) {s' : State} (e : execLoopSampleMissed n s = .next s') (ws : Nat) (hw : 1744299006 &&& ws = 1744299006) :
    s'.off ws = s.off ws := by
  have e := Host.Outcome.next.inj e
  refine off_of_subset hw ?_
  rw [← e, settle_off _ _ (by decide), xLoopSampleMissed_off]
  decide

theorem execGroupStartCommit_off (g : Nat) (s : State) {s' : State} (e : execGroupStartCommit g s = .next s') (ws : Nat) (hw : 1744299006 &&& ws = 1744299006) :
    s'.off ws = s.off ws := by
  have e := Host.Outcome.next.inj e
  refine off_of_subset hw ?_
  rw [← e, settle_off _ _ (by decide), xGroupStartCommit_off]
  decide

theorem execGroupStopComplete_off (g : Nat) (s : State) {s' : State} (e : execGroupStopComplete g s = .next s') (ws : Nat) (hw : 1744299006 &&& ws = 1744299006) :
    s'.off ws = s.off ws := by
  have e := Host.Outcome.next.inj e
  refine off_of_subset hw ?_
  rw [← e, settle_off _ _ (by decide), xGroupStopComplete_off]
  decide

theorem execHitOnset_off (k : Nat) (pre : List Int) (x : Int) (s : State) {s' : State} (e : execHitOnset k pre x s = .next s') (ws : Nat) (hw : 16384 &&& ws = 16384) :
    s'.off ws = s.off ws := by
  have e := Host.Outcome.next.inj e
  refine off_of_subset hw ?_
  rw [← e, xHitOnset_off]
  decide

theorem execMergedHit_off (k : Nat) (before : List Int) (x : Int) (s : State) {s' : State} (e : execMergedHit k before x s = .next s') (ws : Nat) (hw : 16384 &&& ws = 16384) :
    s'.off ws = s.off ws := by
  have e := Host.Outcome.next.inj e
  refine off_of_subset hw ?_
  rw [← e, xMergedHit_off]
  decide

theorem execHitWindowComplete_off (k : Nat) (rest : List Int) (clipped : Bool) (s : State) {s' : State} (e : execHitWindowComplete k rest clipped s = .next s') (ws : Nat) (hw : 16384 &&& ws = 16384) :
    s'.off ws = s.off ws := by
  have e := Host.Outcome.next.inj e
  refine off_of_subset hw ?_
  rw [← e, xHitWindowComplete_off]
  decide

theorem execHitQuietEnd_off (q : SampleRun) (s : State) {s' : State} (e : execHitQuietEnd q s = .next s') (ws : Nat) (hw : 16384 &&& ws = 16384) :
    s'.off ws = s.off ws := by
  have e := Host.Outcome.next.inj e
  refine off_of_subset hw ?_
  rw [← e, xHitQuietEnd_off]
  decide

theorem execHitClassified_off (k : Nat) (s : State) {s' : State} (e : execHitClassified k s = .next s') (ws : Nat) (hw : 16386 &&& ws = 16386) :
    s'.off ws = s.off ws := by
  have e := Host.Outcome.next.inj e
  refine off_of_subset hw ?_
  rw [← e, xHitClassified_off]
  decide

theorem execCountingWindowEnd_off (flow : List FlowSum) (s : State) {s' : State} (e : execCountingWindowEnd flow s = .next s') (ws : Nat) (hw : 1744299006 &&& ws = 1744299006) :
    s'.off ws = s.off ws := by
  have e := Host.Outcome.next.inj e
  refine off_of_subset hw ?_
  rw [← e, settle_off _ _ (by decide), xCountingWindowEnd_off]
  decide

theorem execWindowCountsPublished_off (s : State) {s' : State} (e : execWindowCountsPublished s = .next s') (ws : Nat) (hw : 1744299006 &&& ws = 1744299006) :
    s'.off ws = s.off ws := by
  have e := Host.Outcome.next.inj e
  refine off_of_subset hw ?_
  rw [← e, settle_off _ _ (by decide), xWindowCountsPublished_off]
  decide

theorem execFrontEndSelftest_off (k : Nat) (ok : Bool) (s : State) {s' : State} (e : execFrontEndSelftest k ok s = .next s') (ws : Nat) (hw : 16384 &&& ws = 16384) :
    s'.off ws = s.off ws := by
  have e := Host.Outcome.next.inj e
  refine off_of_subset hw ?_
  rw [← e, xFrontEndSelftest_off]
  decide

theorem execAinUpdate_off (k : Nat) (volts refs : List F32) (s : State) {s' : State} (e : execAinUpdate k volts refs s = .next s') (ws : Nat) (hw : 16384 &&& ws = 16384) :
    s'.off ws = s.off ws := by
  have e := Host.Outcome.next.inj e
  refine off_of_subset hw ?_
  rw [← e, xAinUpdate_off]
  decide

theorem execAinRangeCount_off (k : Nat) (raw : AinRaw) (s : State) {s' : State} (e : execAinRangeCount k raw s = .next s') (ws : Nat) (hw : 16384 &&& ws = 16384) :
    s'.off ws = s.off ws := by
  have e := Host.Outcome.next.inj e
  refine off_of_subset hw ?_
  rw [← e, xAinRangeCount_off]
  decide

theorem execFinEdgeAccepted_off (k : Nat) (age : Nat) (volts : F32) (both : Bool) (s : State) {s' : State} (e : execFinEdgeAccepted k age volts both s = .next s') (ws : Nat) (hw : 16384 &&& ws = 16384) :
    s'.off ws = s.off ws := by
  have e := Host.Outcome.next.inj e
  refine off_of_subset hw ?_
  rw [← e, xFinEdgeAccepted_off]
  decide

theorem execQerrExpiry_off (k : Nat) (s : State) {s' : State} (e : execQerrExpiry k s = .next s') (ws : Nat) (hw : 16384 &&& ws = 16384) :
    s'.off ws = s.off ws := by
  have e := Host.Outcome.next.inj e
  refine off_of_subset hw ?_
  rw [← e, xQerrExpiry_off]
  decide

end Sys2Proof.Machine
end

