-- ==== Sys2Proof/Laws/ExecB.lean ====
section
/-! SUPPORT. What a command leaves alone, part two: one lemma per meaning, with the set of fields it may change. -/

namespace Sys2Proof.Machine

theorem execFinUpdate_off (k : Nat) (s : State) {s' : State} (e : execFinUpdate k s = .next s') (ws : Nat) (hw : 16384 &&& ws = 16384) :
    s'.off ws = s.off ws := by
  have e := Host.Outcome.next.inj e
  refine off_of_subset hw ?_
  rw [← e, xFinUpdate_off]
  decide

theorem execPosUpdate_off (k : Nat) (theta : F32) (cycles : Int) (speed ampl trackErr : F32) (s : State) {s' : State} (e : execPosUpdate k theta cycles speed ampl trackErr s = .next s') (ws : Nat) (hw : 16384 &&& ws = 16384) :
    s'.off ws = s.off ws := by
  have e := Host.Outcome.next.inj e
  refine off_of_subset hw ?_
  rw [← e, xPosUpdate_off]
  decide

theorem execExcitationLimitTimeout_off (k : Nat) (s : State) {s' : State} (e : execExcitationLimitTimeout k s = .next s') (ws : Nat) (hw : 16384 &&& ws = 16384) :
    s'.off ws = s.off ws := by
  have e := Host.Outcome.next.inj e
  refine off_of_subset hw ?_
  rw [← e, xExcitationLimitTimeout_off]
  decide

theorem execExcitationRetry_off (k : Nat) (ok : Bool) (s : State) {s' : State} (e : execExcitationRetry k ok s = .next s') (ws : Nat) (hw : 16384 &&& ws = 16384) :
    s'.off ws = s.off ws := by
  have e := Host.Outcome.next.inj e
  refine off_of_subset hw ?_
  rw [← e, xExcitationRetry_off]
  decide

theorem execImuSample_off (ax ay az gx gy gz : F32) (saturated : Bool) (s : State) {s' : State} (e : execImuSample ax ay az gx gy gz saturated s = .next s') (ws : Nat) (hw : 16384 &&& ws = 16384) :
    s'.off ws = s.off ws := by
  have e := Host.Outcome.next.inj e
  refine off_of_subset hw ?_
  rw [← e, xImuSample_off]
  decide

theorem execInputConfigCommit_off (sel k : Nat) (s : State) {s' : State} (e : execInputConfigCommit sel k s = .next s') (ws : Nat) (hw : 1744299006 &&& ws = 1744299006) :
    s'.off ws = s.off ws := by
  have e := Host.Outcome.next.inj e
  refine off_of_subset hw ?_
  rw [← e, settle_off _ _ (by decide), xInputConfigCommit_off]
  decide

theorem execInputSettlingEnd_off (sel k : Nat) (s : State) {s' : State} (e : execInputSettlingEnd sel k s = .next s') (ws : Nat) (hw : 1744299006 &&& ws = 1744299006) :
    s'.off ws = s.off ws := by
  have e := Host.Outcome.next.inj e
  refine off_of_subset hw ?_
  rw [← e, settle_off _ _ (by decide), xInputSettlingEnd_off]
  decide

theorem execClassifierSetCommit_off (set : Nat) (s : State) {s' : State} (e : execClassifierSetCommit set s = .next s') (ws : Nat) (hw : 16416 &&& ws = 16416) :
    s'.off ws = s.off ws := by
  have e := Host.Outcome.next.inj e
  refine off_of_subset hw ?_
  rw [← e, xClassifierSetCommit_off]
  decide

theorem execFlowCurveApply_off (k : Nat) (s : State) {s' : State} (e : execFlowCurveApply k s = .next s') (ws : Nat) (hw : 16416 &&& ws = 16416) :
    s'.off ws = s.off ws := by
  have e := Host.Outcome.next.inj e
  refine off_of_subset hw ?_
  rw [← e, xFlowCurveApply_off]
  decide

theorem execInputValidityReport_off (sel k : Nat) (s : State) {s' : State} (e : execInputValidityReport sel k s = .next s') (ws : Nat) (hw : 1744299006 &&& ws = 1744299006) :
    s'.off ws = s.off ws := by
  have e := Host.Outcome.next.inj e
  refine off_of_subset hw ?_
  rw [← e, settle_off _ _ (by decide), xInputValidityReport_off]
  decide

theorem execPlannerCycle_off (s : State) {s' : State} (e : execPlannerCycle s = .next s') (ws : Nat) (hw : 1744299006 &&& ws = 1744299006) :
    s'.off ws = s.off ws := by
  have e := Host.Outcome.next.inj e
  refine off_of_subset hw ?_
  rw [← e, settle_off _ _ (by decide), xPlannerCycle_off]
  decide

theorem execPlanSolved_off (mvs : List (List F32)) (s : State) {s' : State} (e : execPlanSolved mvs s = .next s') (ws : Nat) (hw : 65536 &&& ws = 65536) :
    s'.off ws = s.off ws := by
  have e := Host.Outcome.next.inj e
  refine off_of_subset hw ?_
  rw [← e, xPlanSolved_off]
  decide

theorem execPlannerCoastTimeout_off (s : State) {s' : State} (e : execPlannerCoastTimeout s = .next s') (ws : Nat) (hw : 1744299006 &&& ws = 1744299006) :
    s'.off ws = s.off ws := by
  have e := Host.Outcome.next.inj e
  refine off_of_subset hw ?_
  rw [← e, settle_off _ _ (by decide), xPlannerCoastTimeout_off]
  decide

theorem execPlannerStartCommit_off (s : State) {s' : State} (e : execPlannerStartCommit s = .next s') (ws : Nat) (hw : 1744299006 &&& ws = 1744299006) :
    s'.off ws = s.off ws := by
  have e := Host.Outcome.next.inj e
  refine off_of_subset hw ?_
  rw [← e, settle_off _ _ (by decide), xPlannerStartCommit_off]
  decide

theorem execPlannerStopComplete_off (s : State) {s' : State} (e : execPlannerStopComplete s = .next s') (ws : Nat) (hw : 1744299006 &&& ws = 1744299006) :
    s'.off ws = s.off ws := by
  have e := Host.Outcome.next.inj e
  refine off_of_subset hw ?_
  rw [← e, settle_off _ _ (by decide), xPlannerStopComplete_off]
  decide

theorem execCvOverLimitTimeout_off (j : Nat) (s : State) {s' : State} (e : execCvOverLimitTimeout j s = .next s') (ws : Nat) (hw : 65568 &&& ws = 65568) :
    s'.off ws = s.off ws := by
  have e := Host.Outcome.next.inj e
  refine off_of_subset hw ?_
  rw [← e, xCvOverLimitTimeout_off]
  decide

theorem execGuidanceInstant_off (ey ePsi kap sNear : F32) (beyondEnd : Bool) (retire : Nat) (s : State) {s' : State} (e : execGuidanceInstant ey ePsi kap sNear beyondEnd retire s = .next s') (ws : Nat) (hw : 1744299006 &&& ws = 1744299006) :
    s'.off ws = s.off ws := by
  have e := Host.Outcome.next.inj e
  refine off_of_subset hw ?_
  rw [← e, settle_off _ _ (by decide), xGuidanceInstant_off]
  decide

theorem execPoseReceived_off (udp : Bool) (port ident : Nat) (raw : Bytes) (s : State) {s' : State} (e : execPoseReceived udp port ident raw s = .next s') (ws : Nat) (hw : 131072 &&& ws = 131072) :
    s'.off ws = s.off ws := by
  have e := Host.Outcome.next.inj e
  refine off_of_subset hw ?_
  rw [← e, xPoseReceived_off]
  decide

theorem execPoseStaleExpiry_off (s : State) {s' : State} (e : execPoseStaleExpiry s = .next s') (ws : Nat) (hw : 131104 &&& ws = 131104) :
    s'.off ws = s.off ws := by
  have e := Host.Outcome.next.inj e
  refine off_of_subset hw ?_
  rw [← e, xPoseStaleExpiry_off]
  decide

theorem execDrLimitExpiry_off (s : State) {s' : State} (e : execDrLimitExpiry s = .next s') (ws : Nat) (hw : 1744299006 &&& ws = 1744299006) :
    s'.off ws = s.off ws := by
  have e := Host.Outcome.next.inj e
  refine off_of_subset hw ?_
  rw [← e, settle_off _ _ (by decide), xDrLimitExpiry_off]
  decide

theorem execGuidanceStartCommit_off (s : State) {s' : State} (e : execGuidanceStartCommit s = .next s') (ws : Nat) (hw : 131072 &&& ws = 131072) :
    s'.off ws = s.off ws := by
  have e := Host.Outcome.next.inj e
  refine off_of_subset hw ?_
  rw [← e, xGuidanceStartCommit_off]
  decide

theorem execGuidanceStopComplete_off (s : State) {s' : State} (e : execGuidanceStopComplete s = .next s') (ws : Nat) (hw : 1744299006 &&& ws = 1744299006) :
    s'.off ws = s.off ws := by
  have e := Host.Outcome.next.inj e
  refine off_of_subset hw ?_
  rw [← e, settle_off _ _ (by decide), xGuidanceStopComplete_off]
  decide

theorem execYieldConfigCommit_off (s : State) {s' : State} (e : execYieldConfigCommit s = .next s') (ws : Nat) (hw : 262144 &&& ws = 262144) :
    s'.off ws = s.off ws := by
  have e := Host.Outcome.next.inj e
  refine off_of_subset hw ?_
  rw [← e, xYieldConfigCommit_off]
  decide

theorem execChannelStartCommit_off (k : Nat) (s : State) {s' : State} (e : execChannelStartCommit k s = .next s') (ws : Nat) (hw : 1744299006 &&& ws = 1744299006) :
    s'.off ws = s.off ws := by
  have e := Host.Outcome.next.inj e
  refine off_of_subset hw ?_
  rw [← e, settle_off _ _ (by decide), xChannelStartCommit_off]
  decide

theorem execChannelStopComplete_off (k : Nat) (s : State) {s' : State} (e : execChannelStopComplete k s = .next s') (ws : Nat) (hw : 1744299006 &&& ws = 1744299006) :
    s'.off ws = s.off ws := by
  have e := Host.Outcome.next.inj e
  refine off_of_subset hw ?_
  rw [← e, settle_off _ _ (by decide), xChannelStopComplete_off]
  decide

theorem execPwmPeriodStart_off (k : Nat) (vMean : F32) (s : State) {s' : State} (e : execPwmPeriodStart k vMean s = .next s') (ws : Nat) (hw : 32770 &&& ws = 32770) :
    s'.off ws = s.off ws := by
  have e := Host.Outcome.next.inj e
  refine off_of_subset hw ?_
  rw [← e, xPwmPeriodStart_off]
  decide

theorem execPwmOnTimeEnd_off (k : Nat) (s : State) {s' : State} (e : execPwmOnTimeEnd k s = .next s') (ws : Nat) (hw : 32768 &&& ws = 32768) :
    s'.off ws = s.off ws := by
  have e := Host.Outcome.next.inj e
  refine off_of_subset hw ?_
  rw [← e, xPwmOnTimeEnd_off]
  decide

theorem execCurrentLimitEntry_off (k : Nat) (riseNs : Nat) (s : State) {s' : State} (e : execCurrentLimitEntry k riseNs s = .next s') (ws : Nat) (hw : 32768 &&& ws = 32768) :
    s'.off ws = s.off ws := by
  have e := Host.Outcome.next.inj e
  refine off_of_subset hw ?_
  rw [← e, xCurrentLimitEntry_off]
  decide

theorem execShortClassifyCheck_off (k : Nat) (vOut vStud : F32) (s : State) {s' : State} (e : execShortClassifyCheck k vOut vStud s = .next s') (ws : Nat) (hw : 1744299006 &&& ws = 1744299006) :
    s'.off ws = s.off ws := by
  have e := Host.Outcome.next.inj e
  refine off_of_subset hw ?_
  rw [← e, settle_off _ _ (by decide), xShortClassifyCheck_off]
  decide

theorem execShortConfirmExpiry_off (k : Nat) (s : State) {s' : State} (e : execShortConfirmExpiry k s = .next s') (ws : Nat) (hw : 1744299006 &&& ws = 1744299006) :
    s'.off ws = s.off ws := by
  have e := Host.Outcome.next.inj e
  refine off_of_subset hw ?_
  rw [← e, settle_off _ _ (by decide), xShortConfirmExpiry_off]
  decide

theorem execQuietWindowExpiry_off (stud : Nat) (s : State) {s' : State} (e : execQuietWindowExpiry stud s = .next s') (ws : Nat) (hw : 32768 &&& ws = 32768) :
    s'.off ws = s.off ws := by
  have e := Host.Outcome.next.inj e
  refine off_of_subset hw ?_
  rw [← e, xQuietWindowExpiry_off]
  decide

theorem execLimitExit_off (k : Nat) (s : State) {s' : State} (e : execLimitExit k s = .next s') (ws : Nat) (hw : 1744299006 &&& ws = 1744299006) :
    s'.off ws = s.off ws := by
  have e := Host.Outcome.next.inj e
  refine off_of_subset hw ?_
  rw [← e, settle_off _ _ (by decide), xLimitExit_off]
  decide

theorem execLimitTimeExpiry_off (k : Nat) (s : State) {s' : State} (e : execLimitTimeExpiry k s = .next s') (ws : Nat) (hw : 1744299006 &&& ws = 1744299006) :
    s'.off ws = s.off ws := by
  have e := Host.Outcome.next.inj e
  refine off_of_subset hw ?_
  rw [← e, settle_off _ _ (by decide), xLimitTimeExpiry_off]
  decide

theorem execRetryOffExpiry_off (k : Nat) (s : State) {s' : State} (e : execRetryOffExpiry k s = .next s') (ws : Nat) (hw : 1744299006 &&& ws = 1744299006) :
    s'.off ws = s.off ws := by
  have e := Host.Outcome.next.inj e
  refine off_of_subset hw ?_
  rw [← e, settle_off _ _ (by decide), xRetryOffExpiry_off]
  decide

theorem execDieOverTemperature_off (d : Nat) (t : F32) (s : State) {s' : State} (e : execDieOverTemperature d t s = .next s') (ws : Nat) (hw : 1744299006 &&& ws = 1744299006) :
    s'.off ws = s.off ws := by
  have e := Host.Outcome.next.inj e
  refine off_of_subset hw ?_
  rw [← e, settle_off _ _ (by decide), xDieOverTemperature_off]
  decide

theorem execDieGateOpen_off (d : Nat) (t : F32) (s : State) {s' : State} (e : execDieGateOpen d t s = .next s') (ws : Nat) (hw : 1744299006 &&& ws = 1744299006) :
    s'.off ws = s.off ws := by
  have e := Host.Outcome.next.inj e
  refine off_of_subset hw ?_
  rw [← e, settle_off _ _ (by decide), xDieGateOpen_off]
  decide

theorem execDieSensorFault_off (d : Nat) (t : F32) (s : State) {s' : State} (e : execDieSensorFault d t s = .next s') (ws : Nat) (hw : 1744299006 &&& ws = 1744299006) :
    s'.off ws = s.off ws := by
  have e := Host.Outcome.next.inj e
  refine off_of_subset hw ?_
  rw [← e, settle_off _ _ (by decide), xDieSensorFault_off]
  decide

theorem execStudUnderVoltage_off (stud : Nat) (v : F32) (s : State) {s' : State} (e : execStudUnderVoltage stud v s = .next s') (ws : Nat) (hw : 1744299006 &&& ws = 1744299006) :
    s'.off ws = s.off ws := by
  have e := Host.Outcome.next.inj e
  refine off_of_subset hw ?_
  rw [← e, settle_off _ _ (by decide), xStudUnderVoltage_off]
  decide

theorem execStudOverVoltage_off (stud : Nat) (v : F32) (byMean : Bool) (s : State) {s' : State} (e : execStudOverVoltage stud v byMean s = .next s') (ws : Nat) (hw : 1744299006 &&& ws = 1744299006) :
    s'.off ws = s.off ws := by
  have e := Host.Outcome.next.inj e
  refine off_of_subset hw ?_
  rw [← e, settle_off _ _ (by decide), xStudOverVoltage_off]
  decide

theorem execStudSupplySettled_off (stud : Nat) (q : StudSpan) (s : State) {s' : State} (e : execStudSupplySettled stud q s = .next s') (ws : Nat) (hw : 1744299006 &&& ws = 1744299006) :
    s'.off ws = s.off ws := by
  have e := Host.Outcome.next.inj e
  refine off_of_subset hw ?_
  rw [← e, settle_off _ _ (by decide), xStudSupplySettled_off]
  decide

theorem execChannelOverload_off (k : Nat) (mean : F32) (s : State) {s' : State} (e : execChannelOverload k mean s = .next s') (ws : Nat) (hw : 1744299006 &&& ws = 1744299006) :
    s'.off ws = s.off ws := by
  have e := Host.Outcome.next.inj e
  refine off_of_subset hw ?_
  rw [← e, settle_off _ _ (by decide), xChannelOverload_off]
  decide

theorem execOpenLoadDetect_off (k : Nat) (isOpen : Bool) (current : F32) (s : State) {s' : State} (e : execOpenLoadDetect k isOpen current s = .next s') (ws : Nat) (hw : 1744299006 &&& ws = 1744299006) :
    s'.off ws = s.off ws := by
  have e := Host.Outcome.next.inj e
  refine off_of_subset hw ?_
  rw [← e, settle_off _ _ (by decide), xOpenLoadDetect_off]
  decide

theorem execClampEventBegin_off (k : Nat) (s : State) {s' : State} (e : execClampEventBegin k s = .next s') (ws : Nat) (hw : 32768 &&& ws = 32768) :
    s'.off ws = s.off ws := by
  have e := Host.Outcome.next.inj e
  refine off_of_subset hw ?_
  rw [← e, xClampEventBegin_off]
  decide

theorem execClampEventEnd_off (k : Nat) (samples : List ClampSample) (s : State) {s' : State} (e : execClampEventEnd k samples s = .next s') (ws : Nat) (hw : 1744299006 &&& ws = 1744299006) :
    s'.off ws = s.off ws := by
  have e := Host.Outcome.next.inj e
  refine off_of_subset hw ?_
  rw [← e, settle_off _ _ (by decide), xClampEventEnd_off]
  decide

theorem execClampWindowAgeOut_off (k : Nat) (s : State) {s' : State} (e : execClampWindowAgeOut k s = .next s') (ws : Nat) (hw : 32768 &&& ws = 32768) :
    s'.off ws = s.off ws := by
  have e := Host.Outcome.next.inj e
  refine off_of_subset hw ?_
  rw [← e, xClampWindowAgeOut_off]
  decide

theorem execStudGateAdmit_off (stud : Nat) (means : List F32) (s : State) {s' : State} (e : execStudGateAdmit stud means s = .next s') (ws : Nat) (hw : 1744299006 &&& ws = 1744299006) :
    s'.off ws = s.off ws := by
  have e := Host.Outcome.next.inj e
  refine off_of_subset hw ?_
  rw [← e, settle_off _ _ (by decide), xStudGateAdmit_off]
  decide

theorem execStudCurrentGate_off (stud : Nat) (mean : F32) (s : State) {s' : State} (e : execStudCurrentGate stud mean s = .next s') (ws : Nat) (hw : 1744299006 &&& ws = 1744299006) :
    s'.off ws = s.off ws := by
  have e := Host.Outcome.next.inj e
  refine off_of_subset hw ?_
  rw [← e, settle_off _ _ (by decide), xStudCurrentGate_off]
  decide

theorem execSwitchingCyclesStore_off (s : State) {s' : State} (e : execSwitchingCyclesStore s = .next s') (ws : Nat) (hw : 32768 &&& ws = 32768) :
    s'.off ws = s.off ws := by
  have e := Host.Outcome.next.inj e
  refine off_of_subset hw ?_
  rw [← e, xSwitchingCyclesStore_off]
  decide

theorem execEgoInstant_off (e : EgoIn) (s : State) {s' : State} (e : execEgoInstant e s = .next s') (ws : Nat) (hw : 1744299006 &&& ws = 1744299006) :
    s'.off ws = s.off ws := by
  have e := Host.Outcome.next.inj e
  refine off_of_subset hw ?_
  rw [← e, settle_off _ _ (by decide), xEgoInstant_off]
  decide

theorem execEgoConfigCommit_off (s : State) {s' : State} (e : execEgoConfigCommit s = .next s') (ws : Nat) (hw : 1744299006 &&& ws = 1744299006) :
    s'.off ws = s.off ws := by
  have e := Host.Outcome.next.inj e
  refine off_of_subset hw ?_
  rw [← e, settle_off _ _ (by decide), xEgoConfigCommit_off]
  decide

theorem execFusionGather_off (s : State) {s' : State} (e : execFusionGather s = .next s') (ws : Nat) (hw : 1048578 &&& ws = 1048578) :
    s'.off ws = s.off ws := by
  have e := Host.Outcome.next.inj e
  refine off_of_subset hw ?_
  rw [← e, xFusionGather_off]
  decide

theorem execFusionResultsIssued_off (cells : List CellOut) (edgeL edgeR : EdgeLine) (s : State) {s' : State} (e : execFusionResultsIssued cells edgeL edgeR s = .next s') (ws : Nat) (hw : 1744823294 &&& ws = 1744823294) :
    s'.off ws = s.off ws := by
  have e := Host.Outcome.next.inj e
  refine off_of_subset hw ?_
  rw [← e, settle_off _ _ (by decide), xFusionResultsIssued_off]
  decide

theorem execPointPacketReceived_off (pk : PointPacket) (s : State) {s' : State} (e : execPointPacketReceived pk s = .next s') (ws : Nat) (hw : 1048576 &&& ws = 1048576) :
    s'.off ws = s.off ws := by
  have e := Host.Outcome.next.inj e
  refine off_of_subset hw ?_
  rw [← e, xPointPacketReceived_off]
  decide

theorem execFusionEgoLostTimeout_off (s : State) {s' : State} (e : execFusionEgoLostTimeout s = .next s') (ws : Nat) (hw : 1744299006 &&& ws = 1744299006) :
    s'.off ws = s.off ws := by
  have e := Host.Outcome.next.inj e
  refine off_of_subset hw ?_
  rw [← e, settle_off _ _ (by decide), xFusionEgoLostTimeout_off]
  decide

theorem execFusionStartCommit_off (s : State) {s' : State} (e : execFusionStartCommit s = .next s') (ws : Nat) (hw : 1048576 &&& ws = 1048576) :
    s'.off ws = s.off ws := by
  have e := Host.Outcome.next.inj e
  refine off_of_subset hw ?_
  rw [← e, xFusionStartCommit_off]
  decide

theorem execFusionStopComplete_off (s : State) {s' : State} (e : execFusionStopComplete s = .next s') (ws : Nat) (hw : 1744299006 &&& ws = 1744299006) :
    s'.off ws = s.off ws := by
  have e := Host.Outcome.next.inj e
  refine off_of_subset hw ?_
  rw [← e, settle_off _ _ (by decide), xFusionStopComplete_off]
  decide

theorem execWeightsWriteComplete_off (slot : Nat) (s : State) {s' : State} (e : execWeightsWriteComplete slot s = .next s') (ws : Nat) (hw : 1048608 &&& ws = 1048608) :
    s'.off ws = s.off ws := by
  have e := Host.Outcome.next.inj e
  refine off_of_subset hw ?_
  rw [← e, xWeightsWriteComplete_off]
  decide

theorem execCameraPowerLimit_off (k : Nat) (current : F32) (s : State) {s' : State} (e : execCameraPowerLimit k current s = .next s') (ws : Nat) (hw : 1744299006 &&& ws = 1744299006) :
    s'.off ws = s.off ws := by
  have e := Host.Outcome.next.inj e
  refine off_of_subset hw ?_
  rw [← e, settle_off _ _ (by decide), xCameraPowerLimit_off]
  decide

theorem execCameraPowerRetry_off (k : Nat) (ok : Bool) (s : State) {s' : State} (e : execCameraPowerRetry k ok s = .next s') (ws : Nat) (hw : 1744299006 &&& ws = 1744299006) :
    s'.off ws = s.off ws := by
  have e := Host.Outcome.next.inj e
  refine off_of_subset hw ?_
  rw [← e, settle_off _ _ (by decide), xCameraPowerRetry_off]
  decide

theorem execCameraLinkChange_off (k : Nat) (up : Bool) (sensorId : Nat) (s : State) {s' : State} (e : execCameraLinkChange k up sensorId s = .next s') (ws : Nat) (hw : 1744299006 &&& ws = 1744299006) :
    s'.off ws = s.off ws := by
  have e := Host.Outcome.next.inj e
  refine off_of_subset hw ?_
  rw [← e, settle_off _ _ (by decide), xCameraLinkChange_off]
  decide

theorem execCameraTrigger_off (k : Nat) (s : State) {s' : State} (e : execCameraTrigger k s = .next s') (ws : Nat) (hw : 1075838976 &&& ws = 1075838976) :
    s'.off ws = s.off ws := by
  have e := Host.Outcome.next.inj e
  refine off_of_subset hw ?_
  rw [← e, xCameraTrigger_off]
  decide

theorem execFrameStart_off (k : Nat) (s : State) {s' : State} (e : execFrameStart k s = .next s') (ws : Nat) (hw : 1744299006 &&& ws = 1744299006) :
    s'.off ws = s.off ws := by
  have e := Host.Outcome.next.inj e
  refine off_of_subset hw ?_
  rw [← e, settle_off _ _ (by decide), xFrameStart_off]
  decide

theorem execFrameSlotMissing_off (k : Nat) (s : State) {s' : State} (e : execFrameSlotMissing k s = .next s') (ws : Nat) (hw : 1744299006 &&& ws = 1744299006) :
    s'.off ws = s.off ws := by
  have e := Host.Outcome.next.inj e
  refine off_of_subset hw ?_
  rw [← e, settle_off _ _ (by decide), xFrameSlotMissing_off]
  decide

theorem execCsi2PacketReceived_off (k : Nat) (pk : Csi2) (s : State) {s' : State} (e : execCsi2PacketReceived k pk s = .next s') (ws : Nat) (hw : 1744299006 &&& ws = 1744299006) :
    s'.off ws = s.off ws := by
  have e := Host.Outcome.next.inj e
  refine off_of_subset hw ?_
  rw [← e, settle_off _ _ (by decide), xCsi2PacketReceived_off]
  decide

theorem execFrameEnd_off (k : Nat) (s : State) {s' : State} (e : execFrameEnd k s = .next s') (ws : Nat) (hw : 1744299006 &&& ws = 1744299006) :
    s'.off ws = s.off ws := by
  have e := Host.Outcome.next.inj e
  refine off_of_subset hw ?_
  rw [← e, settle_off _ _ (by decide), xFrameEnd_off]
  decide

theorem execFrameProcessed_off (k : Nat) (st : FrameStats) (s : State) {s' : State} (e : execFrameProcessed k st s = .next s') (ws : Nat) (hw : 1076887554 &&& ws = 1076887554) :
    s'.off ws = s.off ws := by
  have e := Host.Outcome.next.inj e
  refine off_of_subset hw ?_
  rw [← e, xFrameProcessed_off]
  decide

theorem execStatsRecordSent_off (k : Nat) (s : State) {s' : State} (e : execStatsRecordSent k s = .next s') (ws : Nat) (hw : 2097184 &&& ws = 2097184) :
    s'.off ws = s.off ws := by
  have e := Host.Outcome.next.inj e
  refine off_of_subset hw ?_
  rw [← e, xStatsRecordSent_off]
  decide

theorem execExposureWritesComplete_off (k : Nat) (s : State) {s' : State} (e : execExposureWritesComplete k s = .next s') (ws : Nat) (hw : 2097152 &&& ws = 2097152) :
    s'.off ws = s.off ws := by
  have e := Host.Outcome.next.inj e
  refine off_of_subset hw ?_
  rw [← e, xExposureWritesComplete_off]
  decide

theorem execPipeStartCommit_off (k : Nat) (s : State) {s' : State} (e : execPipeStartCommit k s = .next s') (ws : Nat) (hw : 2097152 &&& ws = 2097152) :
    s'.off ws = s.off ws := by
  have e := Host.Outcome.next.inj e
  refine off_of_subset hw ?_
  rw [← e, xPipeStartCommit_off]
  decide

theorem execPipeStartTimeout_off (k : Nat) (s : State) {s' : State} (e : execPipeStartTimeout k s = .next s') (ws : Nat) (hw : 1744299006 &&& ws = 1744299006) :
    s'.off ws = s.off ws := by
  have e := Host.Outcome.next.inj e
  refine off_of_subset hw ?_
  rw [← e, settle_off _ _ (by decide), xPipeStartTimeout_off]
  decide

theorem execPipeStopComplete_off (k : Nat) (s : State) {s' : State} (e : execPipeStopComplete k s = .next s') (ws : Nat) (hw : 1744299006 &&& ws = 1744299006) :
    s'.off ws = s.off ws := by
  have e := Host.Outcome.next.inj e
  refine off_of_subset hw ?_
  rw [← e, settle_off _ _ (by decide), xPipeStopComplete_off]
  decide

theorem execAntennaBiasChange_off (toState : Nat) (current : F32) (s : State) {s' : State} (e : execAntennaBiasChange toState current s = .next s') (ws : Nat) (hw : 1744299006 &&& ws = 1744299006) :
    s'.off ws = s.off ws := by
  have e := Host.Outcome.next.inj e
  refine off_of_subset hw ?_
  rw [← e, settle_off _ _ (by decide), xAntennaBiasChange_off]
  decide

theorem execAntennaBiasRetry_off (ok : Bool) (current : F32) (s : State) {s' : State} (e : execAntennaBiasRetry ok current s = .next s') (ws : Nat) (hw : 1744299006 &&& ws = 1744299006) :
    s'.off ws = s.off ws := by
  have e := Host.Outcome.next.inj e
  refine off_of_subset hw ?_
  rw [← e, settle_off _ _ (by decide), xAntennaBiasRetry_off]
  decide

theorem execGnssBankEpoch_off (b : BankEpoch) (s : State) {s' : State} (e : execGnssBankEpoch b s = .next s') (ws : Nat) (hw : 1744299006 &&& ws = 1744299006) :
    s'.off ws = s.off ws := by
  have e := Host.Outcome.next.inj e
  refine off_of_subset hw ?_
  rw [← e, settle_off _ _ (by decide), xGnssBankEpoch_off]
  decide

theorem execJammingAlarmTimeout_off (s : State) {s' : State} (e : execJammingAlarmTimeout s = .next s') (ws : Nat) (hw : 1744299006 &&& ws = 1744299006) :
    s'.off ws = s.off ws := by
  have e := Host.Outcome.next.inj e
  refine off_of_subset hw ?_
  rw [← e, settle_off _ _ (by decide), xJammingAlarmTimeout_off]
  decide

theorem execAcquisitionFalseAlarm_off (ch : Nat) (s : State) {s' : State} (e : execAcquisitionFalseAlarm ch s = .next s') (ws : Nat) (hw : 4194304 &&& ws = 4194304) :
    s'.off ws = s.off ws := by
  have e := Host.Outcome.next.inj e
  refine off_of_subset hw ?_
  rw [← e, xAcquisitionFalseAlarm_off]
  decide

theorem execTrackingLockChange_off (ch : Nat) (code phase : Bool) (s : State) {s' : State} (e : execTrackingLockChange ch code phase s = .next s') (ws : Nat) (hw : 4194304 &&& ws = 4194304) :
    s'.off ws = s.off ws := by
  have e := Host.Outcome.next.inj e
  refine off_of_subset hw ?_
  rw [← e, xTrackingLockChange_off]
  decide

theorem execTrackingLossTimeout_off (ch : Nat) (byCn0 : Bool) (s : State) {s' : State} (e : execTrackingLossTimeout ch byCn0 s = .next s') (ws : Nat) (hw : 4194304 &&& ws = 4194304) :
    s'.off ws = s.off ws := by
  have e := Host.Outcome.next.inj e
  refine off_of_subset hw ?_
  rw [← e, xTrackingLossTimeout_off]
  decide

theorem execBitSyncTimeout_off (ch : Nat) (s : State) {s' : State} (e : execBitSyncTimeout ch s = .next s') (ws : Nat) (hw : 4194304 &&& ws = 4194304) :
    s'.off ws = s.off ws := by
  have e := Host.Outcome.next.inj e
  refine off_of_subset hw ?_
  rw [← e, xBitSyncTimeout_off]
  decide

theorem execLostPrnExpiry_off (prn : Nat) (s : State) {s' : State} (e : execLostPrnExpiry prn s = .next s') (ws : Nat) (hw : 4194304 &&& ws = 4194304) :
    s'.off ws = s.off ws := by
  have e := Host.Outcome.next.inj e
  refine off_of_subset hw ?_
  rw [← e, xLostPrnExpiry_off]
  decide

theorem execSubframeReceived_off (ch : Nat) (words : List Nat) (prevBits : Nat) (follows : Bool) (start : T96) (s : State) {s' : State} (e : execSubframeReceived ch words prevBits follows start s = .next s') (ws : Nat) (hw : 4194336 &&& ws = 4194336) :
    s'.off ws = s.off ws := by
  have e := Host.Outcome.next.inj e
  refine off_of_subset hw ?_
  rw [← e, xSubframeReceived_off]
  decide

theorem execMeasurementEpoch_off (m : EpochIn) (s : State) {s' : State} (e : execMeasurementEpoch m s = .next s') (ws : Nat) (hw : 1744299006 &&& ws = 1744299006) :
    s'.off ws = s.off ws := by
  have e := Host.Outcome.next.inj e
  refine off_of_subset hw ?_
  rw [← e, settle_off _ _ (by decide), xMeasurementEpoch_off]
  decide

theorem execGnssDataStore_off (s : State) {s' : State} (e : execGnssDataStore s = .next s') (ws : Nat) (hw : 4194304 &&& ws = 4194304) :
    s'.off ws = s.off ws := by
  have e := Host.Outcome.next.inj e
  refine off_of_subset hw ?_
  rw [← e, xGnssDataStore_off]
  decide

theorem execGnssStartCommit_off (s : State) {s' : State} (e : execGnssStartCommit s = .next s') (ws : Nat) (hw : 1744299006 &&& ws = 1744299006) :
    s'.off ws = s.off ws := by
  have e := Host.Outcome.next.inj e
  refine off_of_subset hw ?_
  rw [← e, settle_off _ _ (by decide), xGnssStartCommit_off]
  decide

theorem execPipCaptureBegin_off (s : State) {s' : State} (e : execPipCaptureBegin s = .next s') (ws : Nat) (hw : 4194304 &&& ws = 4194304) :
    s'.off ws = s.off ws := by
  have e := Host.Outcome.next.inj e
  refine off_of_subset hw ?_
  rw [← e, xPipCaptureBegin_off]
  decide

theorem execPipStored_off (samples : Bytes) (s : State) {s' : State} (e : execPipStored samples s = .next s') (ws : Nat) (hw : 4194336 &&& ws = 4194336) :
    s'.off ws = s.off ws := by
  have e := Host.Outcome.next.inj e
  refine off_of_subset hw ?_
  rw [← e, xPipStored_off]
  decide

theorem execPipProcessingUnit_off (ratio : F32) (code64 : Nat) (doppler : Int) (s : State) {s' : State} (e : execPipProcessingUnit ratio code64 doppler s = .next s') (ws : Nat) (hw : 4194336 &&& ws = 4194336) :
    s'.off ws = s.off ws := by
  have e := Host.Outcome.next.inj e
  refine off_of_subset hw ?_
  rw [← e, xPipProcessingUnit_off]
  decide

theorem execTimeStepMade_off (d : Nat) (s : State) {s' : State} (e : execTimeStepMade d s = .next s') (ws : Nat) (hw : 1744299006 &&& ws = 1744299006) :
    s'.off ws = s.off ws := by
  have e := Host.Outcome.next.inj e
  refine off_of_subset hw ?_
  rw [← e, settle_off _ _ (by decide), xTimeStepMade_off]
  decide

theorem execPpsOutPulse_off (d : Nat) (s : State) {s' : State} (e : execPpsOutPulse d s = .next s') (ws : Nat) (hw : 1082130432 &&& ws = 1082130432) :
    s'.off ws = s.off ws := by
  have e := Host.Outcome.next.inj e
  refine off_of_subset hw ?_
  rw [← e, xPpsOutPulse_off]
  decide

theorem execPtpMessageReceived_off (port : Nat) (m : PtpMsg) (s : State) {s' : State} (e : execPtpMessageReceived port m s = .next s') (ws : Nat) (hw : 1744299006 &&& ws = 1744299006) :
    s'.off ws = s.off ws := by
  have e := Host.Outcome.next.inj e
  refine off_of_subset hw ?_
  rw [← e, settle_off _ _ (by decide), xPtpMessageReceived_off]
  decide

theorem execPtpMessageSend_off (d port kind : Nat) (s : State) {s' : State} (e : execPtpMessageSend d port kind s = .next s') (ws : Nat) (hw : 1098907648 &&& ws = 1098907648) :
    s'.off ws = s.off ws := by
  have e := Host.Outcome.next.inj e
  refine off_of_subset hw ?_
  rw [← e, xPtpMessageSend_off]
  decide

theorem execPtpEventForwarded_off (inPort outPort domainNumber : Nat) (residence correction : Int) (s : State) {s' : State} (e : execPtpEventForwarded inPort outPort domainNumber residence correction s = .next s') (ws : Nat) (hw : 1090519040 &&& ws = 1090519040) :
    s'.off ws = s.off ws := by
  have e := Host.Outcome.next.inj e
  refine off_of_subset hw ?_
  rw [← e, xPtpEventForwarded_off]
  decide

theorem execPtpSourceTimeout_off (d : Nat) (s : State) {s' : State} (e : execPtpSourceTimeout d s = .next s') (ws : Nat) (hw : 1744299006 &&& ws = 1744299006) :
    s'.off ws = s.off ws := by
  have e := Host.Outcome.next.inj e
  refine off_of_subset hw ?_
  rw [← e, settle_off _ _ (by decide), xPtpSourceTimeout_off]
  decide

theorem execPpsInEdge_off (highNs : Nat) (s : State) {s' : State} (e : execPpsInEdge highNs s = .next s') (ws : Nat) (hw : 1744299006 &&& ws = 1744299006) :
    s'.off ws = s.off ws := by
  have e := Host.Outcome.next.inj e
  refine off_of_subset hw ?_
  rw [← e, settle_off _ _ (by decide), xPpsInEdge_off]
  decide

theorem execPpsInTimeout_off (d : Nat) (s : State) {s' : State} (e : execPpsInTimeout d s = .next s') (ws : Nat) (hw : 1744299006 &&& ws = 1744299006) :
    s'.off ws = s.off ws := by
  have e := Host.Outcome.next.inj e
  refine off_of_subset hw ?_
  rw [← e, settle_off _ _ (by decide), xPpsInTimeout_off]
  decide

theorem execSlewComplete_off (d : Nat) (s : State) {s' : State} (e : execSlewComplete d s = .next s') (ws : Nat) (hw : 8388608 &&& ws = 8388608) :
    s'.off ws = s.off ws := by
  have e := Host.Outcome.next.inj e
  refine off_of_subset hw ?_
  rw [← e, xSlewComplete_off]
  decide

theorem execHoldoverSpecExceeded_off (d : Nat) (s : State) {s' : State} (e : execHoldoverSpecExceeded d s = .next s') (ws : Nat) (hw : 1744299006 &&& ws = 1744299006) :
    s'.off ws = s.off ws := by
  have e := Host.Outcome.next.inj e
  refine off_of_subset hw ?_
  rw [← e, settle_off _ _ (by decide), xHoldoverSpecExceeded_off]
  decide

theorem execDomainStartCommit_off (d : Nat) (s : State) {s' : State} (e : execDomainStartCommit d s = .next s') (ws : Nat) (hw : 1744299006 &&& ws = 1744299006) :
    s'.off ws = s.off ws := by
  have e := Host.Outcome.next.inj e
  refine off_of_subset hw ?_
  rw [← e, settle_off _ _ (by decide), xDomainStartCommit_off]
  decide

theorem execGateEntryExpiry_off (port : Nat) (s : State) {s' : State} (e : execGateEntryExpiry port s = .next s') (ws : Nat) (hw : 1090519040 &&& ws = 1090519040) :
    s'.off ws = s.off ws := by
  have e := Host.Outcome.next.inj e
  refine off_of_subset hw ?_
  rw [← e, xGateEntryExpiry_off]
  decide

theorem execGateListStart_off (port : Nat) (s : State) {s' : State} (e : execGateListStart port s = .next s') (ws : Nat) (hw : 1090519072 &&& ws = 1090519072) :
    s'.off ws = s.off ws := by
  have e := Host.Outcome.next.inj e
  refine off_of_subset hw ?_
  rw [← e, xGateListStart_off]
  decide

theorem execPortConfigApply_off (port : Nat) (s : State) {s' : State} (e : execPortConfigApply port s = .next s') (ws : Nat) (hw : 1744299006 &&& ws = 1744299006) :
    s'.off ws = s.off ws := by
  have e := Host.Outcome.next.inj e
  refine off_of_subset hw ?_
  rw [← e, settle_off _ _ (by decide), xPortConfigApply_off]
  decide

theorem execPortLinkChange_off (port : Nat) (up : Bool) (s : State) {s' : State} (e : execPortLinkChange port up s = .next s') (ws : Nat) (hw : 1744299006 &&& ws = 1744299006) :
    s'.off ws = s.off ws := by
  have e := Host.Outcome.next.inj e
  refine off_of_subset hw ?_
  rw [← e, settle_off _ _ (by decide), xPortLinkChange_off]
  decide

theorem execEthFrameReceived_off (port : Nat) (f : EthFrame) (s : State) {s' : State} (e : execEthFrameReceived port f s = .next s') (ws : Nat) (hw : 1090519040 &&& ws = 1090519040) :
    s'.off ws = s.off ws := by
  have e := Host.Outcome.next.inj e
  refine off_of_subset hw ?_
  rw [← e, xEthFrameReceived_off]
  decide

theorem execCanFrameReceived_off (k : Nat) (f : CanFrame) (s : State) {s' : State} (e : execCanFrameReceived k f s = .next s') (ws : Nat) (hw : 1744299006 &&& ws = 1744299006) :
    s'.off ws = s.off ws := by
  have e := Host.Outcome.next.inj e
  refine off_of_subset hw ?_
  rw [← e, settle_off _ _ (by decide), xCanFrameReceived_off]
  decide

theorem execCanProtocolException_off (k fmt : Nat) (s : State) {s' : State} (e : execCanProtocolException k fmt s = .next s') (ws : Nat) (hw : 0 &&& ws = 0) :
    s'.off ws = s.off ws := by
  have e := Host.Outcome.next.inj e
  refine off_of_subset hw ?_
  rw [← e, xCanProtocolException_off]
  decide

theorem execCanBusError_off (k : Nat) (transmitter : Bool) (add lec : Nat) (s : State) {s' : State} (e : execCanBusError k transmitter add lec s = .next s') (ws : Nat) (hw : 1744299006 &&& ws = 1744299006) :
    s'.off ws = s.off ws := by
  have e := Host.Outcome.next.inj e
  refine off_of_subset hw ?_
  rw [← e, settle_off _ _ (by decide), xCanBusError_off]
  decide

theorem execCanTxAttemptEnd_off (k : Nat) (result : Nat) (delay : Nat) (s : State) {s' : State} (e : execCanTxAttemptEnd k result delay s = .next s') (ws : Nat) (hw : 1744299006 &&& ws = 1744299006) :
    s'.off ws = s.off ws := by
  have e := Host.Outcome.next.inj e
  refine off_of_subset hw ?_
  rw [← e, settle_off _ _ (by decide), xCanTxAttemptEnd_off]
  decide

theorem execCanBusoffRecovered_off (k : Nat) (s : State) {s' : State} (e : execCanBusoffRecovered k s = .next s') (ws : Nat) (hw : 1744299006 &&& ws = 1744299006) :
    s'.off ws = s.off ws := by
  have e := Host.Outcome.next.inj e
  refine off_of_subset hw ?_
  rw [← e, settle_off _ _ (by decide), xCanBusoffRecovered_off]
  decide

theorem execCanTxDominantTimeout_off (k : Nat) (s : State) {s' : State} (e : execCanTxDominantTimeout k s = .next s') (ws : Nat) (hw : 1744299006 &&& ws = 1744299006) :
    s'.off ws = s.off ws := by
  have e := Host.Outcome.next.inj e
  refine off_of_subset hw ?_
  rw [← e, settle_off _ _ (by decide), xCanTxDominantTimeout_off]
  decide

theorem execCanBusDominantTimeout_off (k : Nat) (s : State) {s' : State} (e : execCanBusDominantTimeout k s = .next s') (ws : Nat) (hw : 1744299006 &&& ws = 1744299006) :
    s'.off ws = s.off ws := by
  have e := Host.Outcome.next.inj e
  refine off_of_subset hw ?_
  rw [← e, settle_off _ _ (by decide), xCanBusDominantTimeout_off]
  decide

theorem execCanBusIntegrated_off (k : Nat) (s : State) {s' : State} (e : execCanBusIntegrated k s = .next s') (ws : Nat) (hw : 1744299006 &&& ws = 1744299006) :
    s'.off ws = s.off ws := by
  have e := Host.Outcome.next.inj e
  refine off_of_subset hw ?_
  rw [← e, settle_off _ _ (by decide), xCanBusIntegrated_off]
  decide

theorem execCanStopComplete_off (k : Nat) (s : State) {s' : State} (e : execCanStopComplete k s = .next s') (ws : Nat) (hw : 1744299006 &&& ws = 1744299006) :
    s'.off ws = s.off ws := by
  have e := Host.Outcome.next.inj e
  refine off_of_subset hw ?_
  rw [← e, settle_off _ _ (by decide), xCanStopComplete_off]
  decide

theorem execAddressClaimTimeout_off (k : Nat) (s : State) {s' : State} (e : execAddressClaimTimeout k s = .next s') (ws : Nat) (hw : 1744299006 &&& ws = 1744299006) :
    s'.off ws = s.off ws := by
  have e := Host.Outcome.next.inj e
  refine off_of_subset hw ?_
  rw [← e, settle_off _ _ (by decide), xAddressClaimTimeout_off]
  decide

theorem execCannotClaimDelayExpiry_off (k : Nat) (s : State) {s' : State} (e : execCannotClaimDelayExpiry k s = .next s') (ws : Nat) (hw : 1744299006 &&& ws = 1744299006) :
    s'.off ws = s.off ws := by
  have e := Host.Outcome.next.inj e
  refine off_of_subset hw ?_
  rw [← e, settle_off _ _ (by decide), xCannotClaimDelayExpiry_off]
  decide

theorem execHpFrameHoldoffExpiry_off (k : Nat) (s : State) {s' : State} (e : execHpFrameHoldoffExpiry k s = .next s') (ws : Nat) (hw : 33554464 &&& ws = 33554464) :
    s'.off ws = s.off ws := by
  have e := Host.Outcome.next.inj e
  refine off_of_subset hw ?_
  rw [← e, xHpFrameHoldoffExpiry_off]
  decide

theorem execRxReadyHoldoffExpiry_off (k : Nat) (s : State) {s' : State} (e : execRxReadyHoldoffExpiry k s = .next s') (ws : Nat) (hw : 33554464 &&& ws = 33554464) :
    s'.off ws = s.off ws := by
  have e := Host.Outcome.next.inj e
  refine off_of_subset hw ?_
  rw [← e, xRxReadyHoldoffExpiry_off]
  decide

theorem execFaultSourceRaised_off (src : Nat) (enc : Rails) (detail master access address : Nat) (s : State) {s' : State} (e : execFaultSourceRaised src enc detail master access address s = .next s') (ws : Nat) (hw : 1878516734 &&& ws = 1878516734) :
    s'.off ws = s.off ws := by
  have e := Host.Outcome.next.inj e
  refine off_of_subset hw ?_
  rw [← e, settle_off _ _ (by decide), xFaultSourceRaised_off]
  decide

theorem execFaultSourceReturned_off (r : SrcRails) (s : State) {s' : State} (e : execFaultSourceReturned r s = .next s') (ws : Nat) (hw : 1744299006 &&& ws = 1744299006) :
    s'.off ws = s.off ws := by
  have e := Host.Outcome.next.inj e
  refine off_of_subset hw ?_
  rw [← e, settle_off _ _ (by decide), xFaultSourceReturned_off]
  decide

theorem execFaultLinkRestored_off (src : Nat) (enc : Rails) (s : State) {s' : State} (e : execFaultLinkRestored src enc s = .next s') (ws : Nat) (hw : 1744299006 &&& ws = 1744299006) :
    s'.off ws = s.off ws := by
  have e := Host.Outcome.next.inj e
  refine off_of_subset hw ?_
  rw [← e, settle_off _ _ (by decide), xFaultLinkRestored_off]
  decide

theorem execSquallWindowEnd_off (s : State) {s' : State} (e : execSquallWindowEnd s = .next s') (ws : Nat) (hw : 1744299006 &&& ws = 1744299006) :
    s'.off ws = s.off ws := by
  have e := Host.Outcome.next.inj e
  refine off_of_subset hw ?_
  rw [← e, settle_off _ _ (by decide), xSquallWindowEnd_off]
  decide

theorem execWatchdogExpiry_off (s : State) {s' : State} (e : execWatchdogExpiry s = .next s') (ws : Nat) (hw : 1744299006 &&& ws = 1744299006) :
    s'.off ws = s.off ws := by
  have e := Host.Outcome.next.inj e
  refine off_of_subset hw ?_
  rw [← e, settle_off _ _ (by decide), xWatchdogExpiry_off]
  decide

theorem execLockstepMiscompare_off (pair address : Nat) (s : State) {s' : State} (e : execLockstepMiscompare pair address s = .next s') (ws : Nat) (hw : 1744299006 &&& ws = 1744299006) :
    s'.off ws = s.off ws := by
  have e := Host.Outcome.next.inj e
  refine off_of_subset hw ?_
  rw [← e, settle_off _ _ (by decide), xLockstepMiscompare_off]
  decide

theorem execFailoverRestoreComplete_off (ok : Bool) (s : State) {s' : State} (e : execFailoverRestoreComplete ok s = .next s') (ws : Nat) (hw : 1744299006 &&& ws = 1744299006) :
    s'.off ws = s.off ws := by
  have e := Host.Outcome.next.inj e
  refine off_of_subset hw ?_
  rw [← e, settle_off _ _ (by decide), xFailoverRestoreComplete_off]
  decide

theorem execDeadPairReset_off (pair : Nat) (s : State) {s' : State} (e : execDeadPairReset pair s = .next s') (ws : Nat) (hw : 1744299006 &&& ws = 1744299006) :
    s'.off ws = s.off ws := by
  have e := Host.Outcome.next.inj e
  refine off_of_subset hw ?_
  rw [← e, settle_off _ _ (by decide), xDeadPairReset_off]
  decide

theorem execQuarantineSelfTestEnd_off (pair : Nat) (pass : Bool) (s : State) {s' : State} (e : execQuarantineSelfTestEnd pair pass s = .next s') (ws : Nat) (hw : 1744299006 &&& ws = 1744299006) :
    s'.off ws = s.off ws := by
  have e := Host.Outcome.next.inj e
  refine off_of_subset hw ?_
  rw [← e, settle_off _ _ (by decide), xQuarantineSelfTestEnd_off]
  decide

theorem execHeartbeatWrite_off (pair : Nat) (s : State) {s' : State} (e : execHeartbeatWrite pair s = .next s') (ws : Nat) (hw : 64 &&& ws = 64) :
    s'.off ws = s.off ws := by
  have e := Host.Outcome.next.inj e
  refine off_of_subset hw ?_
  rw [← e, xHeartbeatWrite_off]
  decide

theorem execAliveHeartbeatTimeout_off (s : State) {s' : State} (e : execAliveHeartbeatTimeout s = .next s') (ws : Nat) (hw : 64 &&& ws = 64) :
    s'.off ws = s.off ws := by
  have e := Host.Outcome.next.inj e
  refine off_of_subset hw ?_
  rw [← e, xAliveHeartbeatTimeout_off]
  decide

theorem execPowerStateEntryComplete_off (s : State) {s' : State} (e : execPowerStateEntryComplete s = .next s') (ws : Nat) (hw : 2147480575 &&& ws = 2147480575) :
    s'.off ws = s.off ws := by
  have e := Host.Outcome.next.inj e
  refine off_of_subset hw ?_
  rw [← e, settle_off _ _ (by decide), xPowerStateEntryComplete_off]
  decide

theorem execIgnRise_off (s : State) {s' : State} (e : execIgnRise s = .next s') (ws : Nat) (hw : 2147480575 &&& ws = 2147480575) :
    s'.off ws = s.off ws := by
  have e := Host.Outcome.next.inj e
  refine off_of_subset hw ?_
  rw [← e, settle_off _ _ (by decide), xIgnRise_off]
  decide

theorem execIgnOffDelayExpiry_off (s : State) {s' : State} (e : execIgnOffDelayExpiry s = .next s') (ws : Nat) (hw : 1744299006 &&& ws = 1744299006) :
    s'.off ws = s.off ws := by
  have e := Host.Outcome.next.inj e
  refine off_of_subset hw ?_
  rw [← e, settle_off _ _ (by decide), xIgnOffDelayExpiry_off]
  decide

theorem execCanWakePattern_off (k : Nat) (s : State) {s' : State} (e : execCanWakePattern k s = .next s') (ws : Nat) (hw : 1744299006 &&& ws = 1744299006) :
    s'.off ws = s.off ws := by
  have e := Host.Outcome.next.inj e
  refine off_of_subset hw ?_
  rw [← e, settle_off _ _ (by decide), xCanWakePattern_off]
  decide

theorem execWakeTimerExpiry_off (s : State) {s' : State} (e : execWakeTimerExpiry s = .next s') (ws : Nat) (hw : 1744299006 &&& ws = 1744299006) :
    s'.off ws = s.off ws := by
  have e := Host.Outcome.next.inj e
  refine off_of_subset hw ?_
  rw [← e, settle_off _ _ (by decide), xWakeTimerExpiry_off]
  decide

theorem execBudgetWindow_off (s : State) {s' : State} (e : execBudgetWindow s = .next s') (ws : Nat) (hw : 1744299006 &&& ws = 1744299006) :
    s'.off ws = s.off ws := by
  have e := Host.Outcome.next.inj e
  refine off_of_subset hw ?_
  rw [← e, settle_off _ _ (by decide), xBudgetWindow_off]
  decide

theorem execEnergyMeter_off (use : List (Nat × F32)) (elec diss : F32) (s : State) {s' : State} (e : execEnergyMeter use elec diss s = .next s') (ws : Nat) (hw : 67108864 &&& ws = 67108864) :
    s'.off ws = s.off ws := by
  have e := Host.Outcome.next.inj e
  refine off_of_subset hw ?_
  rw [← e, xEnergyMeter_off]
  decide

theorem execPanelTemperatureRead_off (ratio : F32) (s : State) {s' : State} (e : execPanelTemperatureRead ratio s = .next s') (ws : Nat) (hw : 1878516734 &&& ws = 1878516734) :
    s'.off ws = s.off ws := by
  have e := Host.Outcome.next.inj e
  refine off_of_subset hw ?_
  rw [← e, settle_off _ _ (by decide), xPanelTemperatureRead_off]
  decide

theorem execPanelSupplySample_off (vph vpm vpl : F32) (s : State) {s' : State} (e : execPanelSupplySample vph vpm vpl s = .next s') (ws : Nat) (hw : 1878516734 &&& ws = 1878516734) :
    s'.off ws = s.off ws := by
  have e := Host.Outcome.next.inj e
  refine off_of_subset hw ?_
  rw [← e, settle_off _ _ (by decide), xPanelSupplySample_off]
  decide

theorem execPanelSupplyRestored_off (s : State) {s' : State} (e : execPanelSupplyRestored s = .next s') (ws : Nat) (hw : 1878516734 &&& ws = 1878516734) :
    s'.off ws = s.off ws := by
  have e := Host.Outcome.next.inj e
  refine off_of_subset hw ?_
  rw [← e, settle_off _ _ (by decide), xPanelSupplyRestored_off]
  decide

theorem execPanelRowStart_off (s : State) {s' : State} (e : execPanelRowStart s = .next s') (ws : Nat) (hw : 1878516734 &&& ws = 1878516734) :
    s'.off ws = s.off ws := by
  have e := Host.Outcome.next.inj e
  refine off_of_subset hw ?_
  rw [← e, settle_off _ _ (by decide), xPanelRowStart_off]
  decide

theorem execPanelPhaseEnd_off (s : State) {s' : State} (e : execPanelPhaseEnd s = .next s') (ws : Nat) (hw : 1878516734 &&& ws = 1878516734) :
    s'.off ws = s.off ws := by
  have e := Host.Outcome.next.inj e
  refine off_of_subset hw ?_
  rw [← e, settle_off _ _ (by decide), xPanelPhaseEnd_off]
  decide

theorem execPanelJournalTick_off (s : State) {s' : State} (e : execPanelJournalTick s = .next s') (ws : Nat) (hw : 134217728 &&& ws = 134217728) :
    s'.off ws = s.off ws := by
  have e := Host.Outcome.next.inj e
  refine off_of_subset hw ?_
  rw [← e, xPanelJournalTick_off]
  decide

theorem execPanelStopComplete_off (s : State) {s' : State} (e : execPanelStopComplete s = .next s') (ws : Nat) (hw : 1878516734 &&& ws = 1878516734) :
    s'.off ws = s.off ws := by
  have e := Host.Outcome.next.inj e
  refine off_of_subset hw ?_
  rw [← e, settle_off _ _ (by decide), xPanelStopComplete_off]
  decide

theorem execUpdateCopyBegin_off (s : State) {s' : State} (e : execUpdateCopyBegin s = .next s') (ws : Nat) (hw : 268435456 &&& ws = 268435456) :
    s'.off ws = s.off ws := by
  have e := Host.Outcome.next.inj e
  refine off_of_subset hw ?_
  rw [← e, xUpdateCopyBegin_off]
  decide

theorem execUpdateSectorDone_off (readBackOk : Bool) (s : State) {s' : State} (e : execUpdateSectorDone readBackOk s = .next s') (ws : Nat) (hw : 268435456 &&& ws = 268435456) :
    s'.off ws = s.off ws := by
  have e := Host.Outcome.next.inj e
  refine off_of_subset hw ?_
  rw [← e, xUpdateSectorDone_off]
  decide

theorem execUpdateCheckComplete_off (digestOk : Bool) (s : State) {s' : State} (e : execUpdateCheckComplete digestOk s = .next s') (ws : Nat) (hw : 2012734462 &&& ws = 2012734462) :
    s'.off ws = s.off ws := by
  have e := Host.Outcome.next.inj e
  refine off_of_subset hw ?_
  rw [← e, settle_off _ _ (by decide), xUpdateCheckComplete_off]
  decide

theorem execPerturbationExpiry_off (slot : Nat) (s : State) {s' : State} (e : execPerturbationExpiry slot s = .next s') (ws : Nat) (hw : 1744299006 &&& ws = 1744299006) :
    s'.off ws = s.off ws := by
  have e := Host.Outcome.next.inj e
  refine off_of_subset hw ?_
  rw [← e, settle_off _ _ (by decide), xPerturbationExpiry_off]
  decide

theorem execRefclkReturn_off (bench : Bool) (s : State) {s' : State} (e : execRefclkReturn bench s = .next s') (ws : Nat) (hw : 2147480575 &&& ws = 2147480575) :
    s'.off ws = s.off ws := by
  have e := Host.Outcome.next.inj e
  refine off_of_subset hw ?_
  rw [← e, settle_off _ _ (by decide), xRefclkReturn_off]
  decide

theorem execCheckpointWrite_off (c : Checkpoint) (s : State) {s' : State} (e : execCheckpointWrite c s = .next s') (ws : Nat) (hw : 16 &&& ws = 16) :
    s'.off ws = s.off ws := by
  have e := Host.Outcome.next.inj e
  refine off_of_subset hw ?_
  rw [← e, xCheckpointWrite_off]
  decide

theorem execWatchdogService_off (pair : Nat) (s : State) {s' : State} (e : execWatchdogService pair s = .next s') (ws : Nat) (hw : 16 &&& ws = 16) :
    s'.off ws = s.off ws := by
  have e := Host.Outcome.next.inj e
  refine off_of_subset hw ?_
  rw [← e, xWatchdogService_off]
  decide

theorem execIgnFall_off (s : State) {s' : State} (e : execIgnFall s = .next s') (ws : Nat) (hw : 67108864 &&& ws = 67108864) :
    s'.off ws = s.off ws := by
  have e := Host.Outcome.next.inj e
  refine off_of_subset hw ?_
  rw [← e, xIgnFall_off]
  decide

theorem execBusDominantCleared_off (k : Nat) (s : State) {s' : State} (e : execBusDominantCleared k s = .next s') (ws : Nat) (hw : 33554464 &&& ws = 33554464) :
    s'.off ws = s.off ws := by
  have e := Host.Outcome.next.inj e
  refine off_of_subset hw ?_
  rw [← e, xBusDominantCleared_off]
  decide

end Sys2Proof.Machine
end

