-- ==== Sys2Proof/Laws/Memory.lean ====
section
/-! SUPPORT. The memory's basic laws: every operation keeps the canonical form, a read after a write gives
what was written, and a write leaves every other byte alone. -/

namespace Sys2Proof.Machine

theorem memWfFrom_mono {lo lo' : Nat} (h : lo' ≤ lo) {m : List Host.Cell} (w : memWfFrom lo m = true) :
    memWfFrom lo' m = true := by
  cases m with
  | nil => rfl
  | cons c r =>
    simp only [memWfFrom, Bool.and_eq_true, decide_eq_true_eq] at w ⊢
    exact ⟨⟨by omega, w.1.2⟩, w.2⟩

theorem memGet_below {lo a : Nat} {m : List Host.Cell} (w : memWfFrom lo m = true) (h : a < lo) :
    memGet m a = memDefault a := by
  induction m generalizing lo with
  | nil => rfl
  | cons c r ih =>
    simp only [memWfFrom, Bool.and_eq_true, decide_eq_true_eq] at w
    have hc : c.1 ≠ a := by omega
    simp only [memGet, if_neg hc]
    exact ih w.2 (by omega)

theorem memPut_wf {lo a : Nat} {m : List Host.Cell} (b : Byte) (h : lo ≤ a) (w : memWfFrom lo m = true) :
    memWfFrom lo (memPut m a b) = true := by
  induction m generalizing lo with
  | nil =>
    unfold memPut
    split
    · rfl
    · simp [memWfFrom, *]
  | cons c r ih =>
    simp only [memWfFrom, Bool.and_eq_true, decide_eq_true_eq] at w
    obtain ⟨⟨w1, w2⟩, w3⟩ := w
    unfold memPut
    split
    · split
      · simp [memWfFrom, *]
      · have : a + 1 ≤ c.1 := by omega
        simp [memWfFrom, *]
    · split
      · rename_i h1 h2
        subst h2
        split
        · exact memWfFrom_mono (by omega) w3
        · simp [memWfFrom, *]
      · have : c.1 + 1 ≤ a := by omega
        simp [memWfFrom, *]

/-- Writing a byte keeps the canonical form. -/
theorem wf_memPut {m : List Host.Cell} (a : Nat) (b : Byte) (w : Memory.wf m = true) :
    Memory.wf (memPut m a b) = true := memPut_wf b (Nat.zero_le a) w

/-- Writing a string of bytes keeps the canonical form. -/
theorem wf_memWrite (l : Bytes) {m : List Host.Cell} (a : Nat) (w : Memory.wf m = true) :
    Memory.wf (memWrite m a l) = true := by
  induction l generalizing m a with
  | nil => exact w
  | cons b r ih => exact ih (a + 1) (wf_memPut a b w)

theorem memWfFrom_filter (p : Host.Cell → Bool) {lo : Nat} {m : List Host.Cell} (w : memWfFrom lo m = true) :
    memWfFrom lo (m.filter p) = true := by
  induction m generalizing lo with
  | nil => rfl
  | cons c r ih =>
    simp only [memWfFrom, Bool.and_eq_true, decide_eq_true_eq] at w
    obtain ⟨⟨w1, w2⟩, w3⟩ := w
    rw [List.filter_cons]
    split
    · simp [memWfFrom, *]
    · exact memWfFrom_mono (by omega) (ih w3)

/-- Losing a range keeps the canonical form. -/
theorem wf_memLose (lo hi : Nat) {m : List Host.Cell} (w : Memory.wf m = true) :
    Memory.wf (memLose m lo hi) = true := memWfFrom_filter _ w

theorem wf_memKept {m : List Host.Cell} (w : Memory.wf m = true) : Memory.wf (memKept m) = true :=
  wf_memLose _ _ (wf_memLose _ _ w)

/-- What a byte reads as after a write. -/
theorem memGet_memPut {lo a : Nat} {m : List Host.Cell} (b : Byte) (w : memWfFrom lo m = true) (x : Nat) :
    memGet (memPut m a b) x = if x = a then b else memGet m x := by
  induction m generalizing lo with
  | nil =>
    unfold memPut
    split
    · split
      · simp [memGet, *]
      · rfl
    · simp only [memGet, eq_comm]
  | cons c r ih =>
    simp only [memWfFrom, Bool.and_eq_true, decide_eq_true_eq] at w
    obtain ⟨⟨w1, w2⟩, w3⟩ := w
    unfold memPut
    split
    · rename_i h1
      have hb : memGet (c :: r) a = memDefault a := memGet_below (lo := c.1)
        (by simp [memWfFrom, w2, w3]) h1
      split
      · split
        · rename_i h2 h3
          subst h3; rw [hb, h2]
        · rfl
      · rw [memGet]
        simp only [eq_comm]
    · split
      · rename_i h1 h2
        subst h2
        split
        · rename_i h3
          split
          · rename_i h4
            subst h4; rw [memGet_below w3 (by omega), h3]
          · rename_i h4
            rw [memGet, if_neg (Ne.symm h4)]
        · simp only [memGet, eq_comm]
          split <;> rfl
      · rename_i h1 h2
        simp only [memGet]
        rw [ih w3]
        split
        · rename_i h3
          rw [if_neg (by omega)]
        · rfl

/-- A read of the byte just written. -/
theorem memGet_put_same {m : List Host.Cell} (a : Nat) (b : Byte) (w : Memory.wf m = true) :
    memGet (memPut m a b) a = b := by rw [memGet_memPut b w, if_pos rfl]

/-- A read of any other byte. -/
theorem memGet_put_of_ne {m : List Host.Cell} {a x : Nat} (b : Byte) (w : Memory.wf m = true) (h : x ≠ a) :
    memGet (memPut m a b) x = memGet m x := by rw [memGet_memPut b w, if_neg h]

/-- What a byte reads as after a string of bytes is written. -/
theorem memGet_memWrite (l : Bytes) {m : List Host.Cell} (a x : Nat) (w : Memory.wf m = true) :
    memGet (memWrite m a l) x = if a ≤ x ∧ x < a + l.length then l.getD (x - a) 0#8 else memGet m x := by
  induction l generalizing m a with
  | nil => simp [memWrite] <;> (intros; omega)
  | cons b r ih =>
    rw [memWrite, ih (a + 1) (wf_memPut a b w), memGet_memPut b w]
    by_cases h : x = a
    · subst h; simp <;> (intros; omega)
    · by_cases h2 : a + 1 ≤ x ∧ x < a + 1 + r.length
      · have h3 : a ≤ x ∧ x < a + (b :: r).length := by simp; omega
        rw [if_pos h2, if_pos h3, show x - a = (x - (a + 1)) + 1 by omega]
        simp
      · have h3 : ¬ (a ≤ x ∧ x < a + (b :: r).length) := by simp; omega
        rw [if_neg h2, if_neg h3, if_neg h]

end Sys2Proof.Machine
end

