-- ==== Sys2Proof/Laws/Exec.lean ====
section
/-! SUPPORT. Every command leaves the queue alone and keeps the memory canonical; all but WRITE_MEM, the
resets and the entry to and the wake from CALM and OFF leave the whole memory alone. -/

namespace Sys2Proof.Machine

/-- The memory and the queue. -/
def State.core (s : State) : List Host.Cell × List Instr := (s.mem, s.pending)

theorem core_of_off {a b : State} {w : Nat} (h : a.off w = b.off w) (h1 : w.testBit 12 = false)
    (h2 : w.testBit 31 = false) : a.core = b.core := by
  unfold State.core
  rw [mem_of_off h h1, pending_of_off h h2]

/-- A canonical memory stays canonical. -/
def MemKeeps (a b : State) : Prop := Memory.wf a.mem = true → Memory.wf b.mem = true

theorem memKeeps_of_off {a b : State} {w : Nat} (h : b.off w = a.off w) (h1 : w.testBit 12 = false) : MemKeeps a b := by
  unfold MemKeeps
  rw [mem_of_off h h1]
  exact id

theorem MemKeeps.trans {a b c : State} (h : MemKeeps a b) (k : MemKeeps b c) : MemKeeps a c := fun w => k (h w)

theorem powerReset_memKeeps (phase : Nat) (bench : Bool) (s : State) : MemKeeps s (powerReset phase bench s) := wf_memKept

theorem calmLoss_memKeeps (s : State) : MemKeeps s (calmLoss s) := by
  have h : (forN 4 (fun s d => if (s.dom d).srcUp then sourceLost s d else s) s).off (8388704) = s.off (8388704) :=
    forN_off _ _ _ _ (fun t d => by simp)
  exact (memKeeps_of_off h rfl).trans wf_memKept

theorem wakeNow_memKeeps (c : Nat) (s : State) : MemKeeps s (wakeNow c s) := by
  by_cases hc : c = 1
  · subst hc
    unfold wakeNow
    dsimp only
    split
    · exact memKeeps_of_off (w := 67108970) (by simp) rfl
    · exact memKeeps_of_off (w := 67108970) (by simp) rfl
    · exact memKeeps_of_off (w := 67108970) (by simp) rfl
    · split
      · exact (memKeeps_of_off (w := 67108970) (by simp) rfl).trans
          ((powerReset_memKeeps 1 (Config.freeBit s.draw.1) s.draw.2).trans (memKeeps_of_off (w := 67108970) (by simp) rfl))
      · exact id
    · exact id
  · exact memKeeps_of_off (wakeNow_off c s hc _ (Nat.and_self _)) rfl

theorem wake_memKeeps (c : Nat) (s : State) : MemKeeps s (wake c s) := by
  unfold wake
  split
  · exact memKeeps_of_off (w := 67108970) (by split <;> simp) rfl
  · exact wakeNow_memKeeps c s

theorem xPowerOnReset_memKeeps (bench : Bool) (s : State) : MemKeeps s (xPowerOnReset bench s) := by
  unfold xPowerOnReset
  split
  · exact powerReset_memKeeps _ _ _
  · exact id

theorem xResetNFall_memKeeps (lowNs : Nat) (s : State) : MemKeeps s (xResetNFall lowNs s) := by
  unfold xResetNFall
  dsimp only
  repeat' split
  all_goals first
    | exact fun w => w
    | exact fun w => wf_memKept w

theorem xResetNRise_memKeeps (bench : Bool) (s : State) : MemKeeps s (xResetNRise bench s) := by
  unfold xResetNRise
  dsimp only
  repeat' split
  all_goals first
    | exact fun w => w
    | exact fun w => wf_memKept w

theorem xRefclkReturn_memKeeps (bench : Bool) (s : State) : MemKeeps s (xRefclkReturn bench s) := by
  unfold xRefclkReturn
  dsimp only
  repeat' split
  all_goals first
    | exact fun w => w
    | exact fun w => wf_memKept w

theorem xHoldupStoreExhausted_memKeeps (s : State) : MemKeeps s (xHoldupStoreExhausted s) := by
  unfold xHoldupStoreExhausted
  repeat' split
  all_goals first
    | exact fun w => w
    | exact fun w => wf_memKept w

theorem xRefclkLoss_memKeeps (s : State) : MemKeeps s (xRefclkLoss s) := by
  unfold xRefclkLoss
  dsimp only
  split
  · exact fun w => w
  · exact fun w => wf_memKept w

theorem xIgnRise_memKeeps (s : State) : MemKeeps s (xIgnRise s) := by
  unfold xIgnRise
  exact (memKeeps_of_off (w := 67108864) (by simp) rfl).trans (wake_memKeeps 1 _)

theorem entered_memKeeps (s : State) (t : Nat) (at_ : State → State) (ha : ∀ u, (at_ u).off 67108864 = u.off 67108864) :
    MemKeeps s (entered s t at_) := by
  have hm : ∀ u, MemKeeps u (at_ u) := fun u => memKeeps_of_off (ha u) rfl
  unfold entered
  dsimp only
  split
  · exact (hm s).trans (memKeeps_of_off (powerEvent_off _ _ _ _ (Nat.and_self _)) rfl)
  · split
    · exact (memKeeps_of_off (quieten_off s _ (Nat.and_self _)) rfl).trans (hm _)
    · split
      · exact ((memKeeps_of_off (quieten_off s _ (Nat.and_self _)) rfl).trans (calmLoss_memKeeps _)).trans (hm _)
      · exact fun w => wf_memKept w

theorem xPowerStateEntryComplete_memKeeps (s : State) : MemKeeps s (xPowerStateEntryComplete s) := by
  unfold xPowerStateEntryComplete
  split
  · exact id
  · split
    · exact id
    · dsimp only
      split
      · exact (entered_memKeeps s _ _ fun u => by simp).trans (wakeNow_memKeeps _ _)
      · exact entered_memKeeps s _ _ fun u => by simp

/-- A host command whose body keeps the memory canonical keeps it so. -/
theorem command_memKeeps (s : State) (code : Nat) (op : OpSpec) (h : Hdr) (p : Bytes) (i : Instr)
    (ho : ∀ t, MemKeeps t (op.body t p).s) : MemKeeps s (command s code (some op) h p i) := by
  have hp : ∀ (t : State) e k, MemKeeps t (sendPacket t e k) := fun t e k =>
    memKeeps_of_off (sendPacket_off t e k _ (Nat.and_self _)) rfl
  have hs : ∀ (t : State) c a b d, MemKeeps t (answer t h c a b d) := fun t c a b d =>
    memKeeps_of_off (answer_off t h c a b d 1107296288 rfl fun t k => sendPacket_off t h.ep k 1107296288 rfl) rfl
  have hm : ∀ (t : State) f, MemKeeps t (mapSession t h.session f) := fun t f =>
    memKeeps_of_off (mapSession_off t h.session f _ (Nat.and_self _)) rfl
  have hf : ∀ t : State, MemKeeps t (finish op.code p (op.body (t.within h) p)) := fun t =>
    ((memKeeps_of_off (State_within_off t h _ (Nat.and_self _)) rfl).trans (ho _)).trans
      (memKeeps_of_off (finish_off _ _ _ _ (Nat.and_self _)) rfl)
  have hk : ∀ t : State, MemKeeps t (perform t op h p) := by
    intro t
    unfold perform
    dsimp only
    split
    · exact hs _ _ _ _ _
    · exact (hf t).trans (hs _ _ _ _ _)
  have ht : ∀ t : State, MemKeeps t (takeUp t code (some op) h p i) := by
    intro t
    unfold takeUp
    dsimp only
    repeat' split
    all_goals first
      | exact hs _ _ _ _ _
      | exact hk _
      | exact memKeeps_of_off (hold_off t h code i _ (Nat.and_self _)) rfl
  have hl : ∀ t : State, MemKeeps t (sessionless t code (some op) h p i) := by
    intro t
    unfold sessionless
    repeat' split
    all_goals first
      | exact hp _ _ _
      | exact ht _
  have hr : ∀ t : State, MemKeeps t (received t code (some op) h p i) := by
    intro t
    unfold received
    dsimp only
    repeat' split
    all_goals first
      | exact memKeeps_of_off (discard_off t _ (Nat.and_self _)) rfl
      | exact hp _ _ _
      | exact hl _
      | exact hm _ _
      | exact (hm _ _).trans (hp _ _ _)
      | exact (hm _ _).trans (ht _)
  unfold command
  split
  · unfold resume
    dsimp only
    split
    · exact hk _
    · exact hf _
  · split
    · exact (memKeeps_of_off (unbox_off s h.ep _ (Nat.and_self _)) rfl).trans (hr _)
    · exact id

theorem opWriteMem_memKeeps (t : State) (p : Bytes) : MemKeeps t (opWriteMem.body t p).s := by
  unfold opWriteMem
  dsimp only
  split
  · exact id
  · exact fun w => wf_memWrite _ _ w

/-- All but these leave the whole memory alone. -/
theorem exec_core (i : Instr) (s : State) {s' : State} (hi : touchesMemory i = false) (he : exec i s = .next s') :
    s'.core = s.core := by
  cases i with
  | getIdentity h p => exact core_of_off (execGetIdentity_off h p s he 1375731748 rfl fun _ => rfl) rfl rfl
  | openSession h p => exact core_of_off (execOpenSession_off h p s he _ (Nat.and_self _)) (by decide) (by decide)
  | closeSession h p => exact core_of_off (execCloseSession_off h p s he _ (Nat.and_self _)) (by decide) (by decide)
  | keepalive h p => exact core_of_off (execKeepalive_off h p s he 1375731748 rfl fun _ => rfl) rfl rfl
  | takeOwnership h p => exact core_of_off (execTakeOwnership_off h p s he 1375731748 rfl fun _ => rfl) rfl rfl
  | releaseOwnership h p => exact core_of_off (execReleaseOwnership_off h p s he 1375731748 rfl fun _ => rfl) rfl rfl
  | subscribe h p => exact core_of_off (execSubscribe_off h p s he 1375731748 rfl fun _ => rfl) rfl rfl
  | unsubscribe h p => exact core_of_off (execUnsubscribe_off h p s he 1375731748 rfl fun _ => rfl) rfl rfl
  | start h p => exact core_of_off (execStart_off h p s he _ (Nat.and_self _)) (by decide) (by decide)
  | stop h p => exact core_of_off (execStop_off h p s he _ (Nat.and_self _)) (by decide) (by decide)
  | getState h p => exact core_of_off (execGetState_off h p s he 1375731748 rfl fun _ => rfl) rfl rfl
  | resetCore h p => exact core_of_off (execResetCore_off h p s he 1375731756 rfl fun _ => rfl) rfl rfl
  | readMem h p eccErr => exact core_of_off (execReadMem_off h p eccErr s he _ (Nat.and_self _)) (by decide) (by decide)
  | writeMem _ _ => cases hi
  | saveSettings h p => exact core_of_off (execSaveSettings_off h p s he 1375734820 rfl fun _ => rfl) rfl rfl
  | logErase h p => exact core_of_off (execLogErase_off h p s he 1379926052 rfl fun _ => rfl) rfl rfl
  | pwrSetLatency h p => exact core_of_off (execPwrSetLatency_off h p s he 1442840612 rfl fun _ => rfl) rfl rfl
  | pwrRequestState h p => exact core_of_off (execPwrRequestState_off h p s he _ (Nat.and_self _)) (by decide) (by decide)
  | pwrSetBudget h p => exact core_of_off (execPwrSetBudget_off h p s he 1442840612 rfl fun _ => rfl) rfl rfl
  | pwrGetBudget h p => exact core_of_off (execPwrGetBudget_off h p s he 1375731748 rfl fun _ => rfl) rfl rfl
  | pwrStatus h p => exact core_of_off (execPwrStatus_off h p s he 1375731748 rfl fun _ => rfl) rfl rfl
  | loopConfig h p => exact core_of_off (execLoopConfig_off h p s he _ (Nat.and_self _)) (by decide) (by decide)
  | loopRead h p => exact core_of_off (execLoopRead_off h p s he 1375731748 rfl fun _ => rfl) rfl rfl
  | loopSetReference h p => exact core_of_off (execLoopSetReference_off h p s he 1375739940 rfl fun _ => rfl) rfl rfl
  | loopSetFeedforward h p => exact core_of_off (execLoopSetFeedforward_off h p s he 1375739940 rfl fun _ => rfl) rfl rfl
  | loopStatus h p => exact core_of_off (execLoopStatus_off h p s he 1375731748 rfl fun _ => rfl) rfl rfl
  | cleCapacity h p => exact core_of_off (execCleCapacity_off h p s he 1375731748 rfl fun _ => rfl) rfl rfl
  | tableWrite h p => exact core_of_off (execTableWrite_off h p s he 1375739940 rfl fun _ => rfl) rfl rfl
  | tableRead h p => exact core_of_off (execTableRead_off h p s he 1375731748 rfl fun _ => rfl) rfl rfl
  | groupConfig h p => exact core_of_off (execGroupConfig_off h p s he _ (Nat.and_self _)) (by decide) (by decide)
  | groupRead h p => exact core_of_off (execGroupRead_off h p s he 1375731748 rfl fun _ => rfl) rfl rfl
  | impConfig h p => exact core_of_off (execImpConfig_off h p s he 1375748132 rfl fun _ => rfl) rfl rfl
  | classifierLoad h p => exact core_of_off (execClassifierLoad_off h p s he 1375748132 rfl fun _ => rfl) rfl rfl
  | ainConfig h p => exact core_of_off (execAinConfig_off h p s he 1375748132 rfl fun _ => rfl) rfl rfl
  | finConfig h p => exact core_of_off (execFinConfig_off h p s he 1375748132 rfl fun _ => rfl) rfl rfl
  | posConfig h p => exact core_of_off (execPosConfig_off h p s he 1375748132 rfl fun _ => rfl) rfl rfl
  | imuConfig h p => exact core_of_off (execImuConfig_off h p s he 1375748132 rfl fun _ => rfl) rfl rfl
  | senseRead h p => exact core_of_off (execSenseRead_off h p s he 1375731748 rfl fun _ => rfl) rfl rfl
  | flowCalibrate h p => exact core_of_off (execFlowCalibrate_off h p s he 1375748132 rfl fun _ => rfl) rfl rfl
  | plannerModel h p => exact core_of_off (execPlannerModel_off h p s he _ (Nat.and_self _)) (by decide) (by decide)
  | plannerObjectives h p => exact core_of_off (execPlannerObjectives_off h p s he 1375798052 rfl fun _ => rfl) rfl rfl
  | pspMap h p => exact core_of_off (execPspMap_off h p s he _ (Nat.and_self _)) (by decide) (by decide)
  | plannerStatus h p => exact core_of_off (execPlannerStatus_off h p s he 1375731748 rfl fun _ => rfl) rfl rfl
  | guidanceConfig h p => exact core_of_off (execGuidanceConfig_off h p s he _ (Nat.and_self _)) (by decide) (by decide)
  | pathLoad h p => exact core_of_off (execPathLoad_off h p s he 1375862820 rfl fun _ => rfl) rfl rfl
  | poseSource h p => exact core_of_off (execPoseSource_off h p s he _ (Nat.and_self _)) (by decide) (by decide)
  | yieldConfig h p => exact core_of_off (execYieldConfig_off h p s he 1375993892 rfl fun _ => rfl) rfl rfl
  | lswConfig h p => exact core_of_off (execLswConfig_off h p s he _ (Nat.and_self _)) (by decide) (by decide)
  | lswCommand h p => exact core_of_off (execLswCommand_off h p s he _ (Nat.and_self _)) (by decide) (by decide)
  | lswStatus h p => exact core_of_off (execLswStatus_off h p s he 1375731748 rfl fun _ => rfl) rfl rfl
  | lswClear h p => exact core_of_off (execLswClear_off h p s he _ (Nat.and_self _)) (by decide) (by decide)
  | fusConfig h p => exact core_of_off (execFusConfig_off h p s he _ (Nat.and_self _)) (by decide) (by decide)
  | fusWeights h p => exact core_of_off (execFusWeights_off h p s he 1376780324 rfl fun _ => rfl) rfl rfl
  | fusHeadPolicy h p => exact core_of_off (execFusHeadPolicy_off h p s he 1376781092 rfl fun _ => rfl) rfl rfl
  | fusPointStream h p => exact core_of_off (execFusPointStream_off h p s he _ (Nat.and_self _)) (by decide) (by decide)
  | fusStatus h p => exact core_of_off (execFusStatus_off h p s he 1375731748 rfl fun _ => rfl) rfl rfl
  | pipeConfig h p => exact core_of_off (execPipeConfig_off h p s he _ (Nat.and_self _)) (by decide) (by decide)
  | exposureCommit h p => exact core_of_off (execExposureCommit_off h p s he 1377828900 rfl fun _ => rfl) rfl rfl
  | sensorTunnelRead h p ans => exact core_of_off (execSensorTunnelRead_off h p ans s he _ (Nat.and_self _)) (by decide) (by decide)
  | sensorTunnelWrite h p ans => exact core_of_off (execSensorTunnelWrite_off h p ans s he _ (Nat.and_self _)) (by decide) (by decide)
  | sensorTunnelAppendStart h p => exact core_of_off (execSensorTunnelAppendStart_off h p s he _ (Nat.and_self _)) (by decide) (by decide)
  | sensorTunnelAppendStop h p => exact core_of_off (execSensorTunnelAppendStop_off h p s he _ (Nat.and_self _)) (by decide) (by decide)
  | sensorTunnelClearLists h p => exact core_of_off (execSensorTunnelClearLists_off h p s he _ (Nat.and_self _)) (by decide) (by decide)
  | pipeStatus h p => exact core_of_off (execPipeStatus_off h p s he 1375731748 rfl fun _ => rfl) rfl rfl
  | gnssConfig h p => exact core_of_off (execGnssConfig_off h p s he _ (Nat.and_self _)) (by decide) (by decide)
  | notchConfig h p => exact core_of_off (execNotchConfig_off h p s he 1375732516 rfl fun _ => rfl) rfl rfl
  | pipCapture h p => exact core_of_off (execPipCapture_off h p s he 1379926052 rfl fun _ => rfl) rfl rfl
  | pipExportReadHeader h p => exact core_of_off (execPipExportReadHeader_off h p s he 1379926052 rfl fun _ => rfl) rfl rfl
  | pipExportReadSamples h p => exact core_of_off (execPipExportReadSamples_off h p s he 1379926052 rfl fun _ => rfl) rfl rfl
  | pipExportProcess h p => exact core_of_off (execPipExportProcess_off h p s he 1379926052 rfl fun _ => rfl) rfl rfl
  | pipExportDelete h p => exact core_of_off (execPipExportDelete_off h p s he 1379926052 rfl fun _ => rfl) rfl rfl
  | gnssStatus h p => exact core_of_off (execGnssStatus_off h p s he 1375731748 rfl fun _ => rfl) rfl rfl
  | tdConfig h p => exact core_of_off (execTdConfig_off h p s he _ (Nat.and_self _)) (by decide) (by decide)
  | getTime h p => exact core_of_off (execGetTime_off h p s he 1375731748 rfl fun _ => rfl) rfl rfl
  | rateOverride h p => exact core_of_off (execRateOverride_off h p s he 1384120356 rfl fun _ => rfl) rfl rfl
  | portConfig h p => exact core_of_off (execPortConfig_off h p s he 1392508964 rfl fun _ => rfl) rfl rfl
  | gateConfig h p => exact core_of_off (execGateConfig_off h p s he 1392508964 rfl fun _ => rfl) rfl rfl
  | timeStatus h p => exact core_of_off (execTimeStatus_off h p s he 1375731748 rfl fun _ => rfl) rfl rfl
  | canConfig h p => exact core_of_off (execCanConfig_off h p s he _ (Nat.and_self _)) (by decide) (by decide)
  | canFilter h p => exact core_of_off (execCanFilter_off h p s he _ (Nat.and_self _)) (by decide) (by decide)
  | canTransmit h p => exact core_of_off (execCanTransmit_off h p s he _ (Nat.and_self _)) (by decide) (by decide)
  | canStatus h p => exact core_of_off (execCanStatus_off h p s he 1375731748 rfl fun _ => rfl) rfl rfl
  | canAddressClaim h p => exact core_of_off (execCanAddressClaim_off h p s he _ (Nat.and_self _)) (by decide) (by decide)
  | faultRead h p => exact core_of_off (execFaultRead_off h p s he 1375731748 rfl fun _ => rfl) rfl rfl
  | faultClear h p => exact core_of_off (execFaultClear_off h p s he 1375731812 rfl fun _ => rfl) rfl rfl
  | faultSourceConfig h p => exact core_of_off (execFaultSourceConfig_off h p s he 1375731812 rfl fun _ => rfl) rfl rfl
  | faultThreshold h p => exact core_of_off (execFaultThreshold_off h p s he 1375731812 rfl fun _ => rfl) rfl rfl
  | captureRead h p => exact core_of_off (execCaptureRead_off h p s he 1375731748 rfl fun _ => rfl) rfl rfl
  | panelConfig h p => exact core_of_off (execPanelConfig_off h p s he _ (Nat.and_self _)) (by decide) (by decide)
  | panelFrame h p => exact core_of_off (execPanelFrame_off h p s he 1509949476 rfl fun _ => rfl) rfl rfl
  | panelStatus h p => exact core_of_off (execPanelStatus_off h p s he 1375731748 rfl fun _ => rfl) rfl rfl
  | updateBegin h p => exact core_of_off (execUpdateBegin_off h p s he 1375731748 rfl fun _ => rfl) rfl rfl
  | updateBlock h p => exact core_of_off (execUpdateBlock_off h p s he 1375731748 rfl fun _ => rfl) rfl rfl
  | updateCommit h p => exact core_of_off (execUpdateCommit_off h p s he 1375731748 rfl fun _ => rfl) rfl rfl
  | updateStatus h p => exact core_of_off (execUpdateStatus_off h p s he 1375731748 rfl fun _ => rfl) rfl rfl
  | testUnlock h p => exact core_of_off (execTestUnlock_off h p s he _ (Nat.and_self _)) (by decide) (by decide)
  | perturbSet h p => exact core_of_off (execPerturbSet_off h p s he _ (Nat.and_self _)) (by decide) (by decide)
  | perturbClear h p => exact core_of_off (execPerturbClear_off h p s he _ (Nat.and_self _)) (by decide) (by decide)
  | testStatus h p => exact core_of_off (execTestStatus_off h p s he 1375731748 rfl fun _ => rfl) rfl rfl
  | undefinedOpcode h opcode p => exact core_of_off (execUndefinedOpcode_off h opcode p s he 1375731748 rfl fun _ => rfl) rfl rfl
  | balinePacketDiscarded ep raw => exact core_of_off (execBalinePacketDiscarded_off ep raw s he _ (Nat.and_self _)) (by decide) (by decide)
  | balinePortMismatchDrop port => exact core_of_off (execBalinePortMismatchDrop_off port s he _ (Nat.and_self _)) (by decide) (by decide)
  | neighbourDiscovery src target => exact core_of_off (execNeighbourDiscovery_off src target s he _ (Nat.and_self _)) (by decide) (by decide)
  | icmpv6Echo src ident seq data => exact core_of_off (execIcmpv6Echo_off src ident seq data s he _ (Nat.and_self _)) (by decide) (by decide)
  | isotpFrameReceived id data => exact core_of_off (execIsotpFrameReceived_off id data s he _ (Nat.and_self _)) (by decide) (by decide)
  | isotpTimeout nBs => exact core_of_off (execIsotpTimeout_off nBs s he _ (Nat.and_self _)) (by decide) (by decide)
  | sessionKeepaliveTimeout session => exact core_of_off (execSessionKeepaliveTimeout_off session s he _ (Nat.and_self _)) (by decide) (by decide)
  | faultLogEntryQueued session => exact core_of_off (execFaultLogEntryQueued_off session s he _ (Nat.and_self _)) (by decide) (by decide)
  | serviceLogWrite => exact core_of_off (execServiceLogWrite_off s he _ (Nat.and_self _)) (by decide) (by decide)
  | powerOnReset _ => cases hi
  | resetNFall _ => cases hi
  | resetNRise _ => cases hi
  | refclkLoss => cases hi
  | pllsLocked => exact core_of_off (execPllsLocked_off s he _ (Nat.and_self _)) (by decide) (by decide)
  | loaderStart crcOk => exact core_of_off (execLoaderStart_off crcOk s he _ (Nat.and_self _)) (by decide) (by decide)
  | updateJournalRead => exact core_of_off (execUpdateJournalRead_off s he _ (Nat.and_self _)) (by decide) (by decide)
  | dramTrained => exact core_of_off (execDramTrained_off s he _ (Nat.and_self _)) (by decide) (by decide)
  | firmwareImageVerified => exact core_of_off (execFirmwareImageVerified_off s he _ (Nat.and_self _)) (by decide) (by decide)
  | coreResetDigestCheck => exact core_of_off (execCoreResetDigestCheck_off s he _ (Nat.and_self _)) (by decide) (by decide)
  | pairRolesAssigned pa pb pc pd => exact core_of_off (execPairRolesAssigned_off pa pb pc pd s he _ (Nat.and_self _)) (by decide) (by decide)
  | firmwareRunning => exact core_of_off (execFirmwareRunning_off s he _ (Nat.and_self _)) (by decide) (by decide)
  | balineServed => exact core_of_off (execBalineServed_off s he _ (Nat.and_self _)) (by decide) (by decide)
  | autoStart => exact core_of_off (execAutoStart_off s he _ (Nat.and_self _)) (by decide) (by decide)
  | processorComplexReset => exact core_of_off (execProcessorComplexReset_off s he _ (Nat.and_self _)) (by decide) (by decide)
  | groupHoldExpiry g => exact core_of_off (execGroupHoldExpiry_off g s he _ (Nat.and_self _)) (by decide) (by decide)
  | channelHoldExpiry k => exact core_of_off (execChannelHoldExpiry_off k s he _ (Nat.and_self _)) (by decide) (by decide)
  | supervisorCheckFailed check => exact core_of_off (execSupervisorCheckFailed_off check s he _ (Nat.and_self _)) (by decide) (by decide)
  | logicFeedRangeChange feed inRange volts => exact core_of_off (execLogicFeedRangeChange_off feed inRange volts s he _ (Nat.and_self _)) (by decide) (by decide)
  | holdupStoreExhausted => cases hi
  | vref5LimitTimeout v => exact core_of_off (execVref5LimitTimeout_off v s he _ (Nat.and_self _)) (by decide) (by decide)
  | vref5Retry v ok => exact core_of_off (execVref5Retry_off v ok s he _ (Nat.and_self _)) (by decide) (by decide)
  | baseTemperatureSample t0 t1 t2 t3 => exact core_of_off (execBaseTemperatureSample_off t0 t1 t2 t3 s he _ (Nat.and_self _)) (by decide) (by decide)
  | firewallDrop pair tag access address => exact core_of_off (execFirewallDrop_off pair tag access address s he _ (Nat.and_self _)) (by decide) (by decide)
  | accessRefused master access address => exact core_of_off (execAccessRefused_off master access address s he _ (Nat.and_self _)) (by decide) (by decide)
  | loopSample n => exact core_of_off (execLoopSample_off n s he _ (Nat.and_self _)) (by decide) (by decide)
  | loopSampleMissed n => exact core_of_off (execLoopSampleMissed_off n s he _ (Nat.and_self _)) (by decide) (by decide)
  | groupStartCommit g => exact core_of_off (execGroupStartCommit_off g s he _ (Nat.and_self _)) (by decide) (by decide)
  | groupStopComplete g => exact core_of_off (execGroupStopComplete_off g s he _ (Nat.and_self _)) (by decide) (by decide)
  | hitOnset k pre x => exact core_of_off (execHitOnset_off k pre x s he _ (Nat.and_self _)) (by decide) (by decide)
  | mergedHit k before x => exact core_of_off (execMergedHit_off k before x s he _ (Nat.and_self _)) (by decide) (by decide)
  | hitWindowComplete k rest clipped => exact core_of_off (execHitWindowComplete_off k rest clipped s he _ (Nat.and_self _)) (by decide) (by decide)
  | hitQuietEnd q => exact core_of_off (execHitQuietEnd_off q s he _ (Nat.and_self _)) (by decide) (by decide)
  | hitClassified k => exact core_of_off (execHitClassified_off k s he _ (Nat.and_self _)) (by decide) (by decide)
  | countingWindowEnd flow => exact core_of_off (execCountingWindowEnd_off flow s he _ (Nat.and_self _)) (by decide) (by decide)
  | windowCountsPublished => exact core_of_off (execWindowCountsPublished_off s he _ (Nat.and_self _)) (by decide) (by decide)
  | frontEndSelftest k ok => exact core_of_off (execFrontEndSelftest_off k ok s he _ (Nat.and_self _)) (by decide) (by decide)
  | ainUpdate k volts refs => exact core_of_off (execAinUpdate_off k volts refs s he _ (Nat.and_self _)) (by decide) (by decide)
  | ainRangeCount k raw => exact core_of_off (execAinRangeCount_off k raw s he _ (Nat.and_self _)) (by decide) (by decide)
  | finEdgeAccepted k age volts both => exact core_of_off (execFinEdgeAccepted_off k age volts both s he _ (Nat.and_self _)) (by decide) (by decide)
  | qerrExpiry k => exact core_of_off (execQerrExpiry_off k s he _ (Nat.and_self _)) (by decide) (by decide)
  | finUpdate k => exact core_of_off (execFinUpdate_off k s he _ (Nat.and_self _)) (by decide) (by decide)
  | posUpdate k theta cycles speed ampl trackErr => exact core_of_off (execPosUpdate_off k theta cycles speed ampl trackErr s he _ (Nat.and_self _)) (by decide) (by decide)
  | excitationLimitTimeout k => exact core_of_off (execExcitationLimitTimeout_off k s he _ (Nat.and_self _)) (by decide) (by decide)
  | excitationRetry k ok => exact core_of_off (execExcitationRetry_off k ok s he _ (Nat.and_self _)) (by decide) (by decide)
  | imuSample ax ay az gx gy gz saturated => exact core_of_off (execImuSample_off ax ay az gx gy gz saturated s he _ (Nat.and_self _)) (by decide) (by decide)
  | inputConfigCommit sel k => exact core_of_off (execInputConfigCommit_off sel k s he _ (Nat.and_self _)) (by decide) (by decide)
  | inputSettlingEnd sel k => exact core_of_off (execInputSettlingEnd_off sel k s he _ (Nat.and_self _)) (by decide) (by decide)
  | classifierSetCommit set => exact core_of_off (execClassifierSetCommit_off set s he _ (Nat.and_self _)) (by decide) (by decide)
  | flowCurveApply k => exact core_of_off (execFlowCurveApply_off k s he _ (Nat.and_self _)) (by decide) (by decide)
  | inputValidityReport sel k => exact core_of_off (execInputValidityReport_off sel k s he _ (Nat.and_self _)) (by decide) (by decide)
  | plannerCycle => exact core_of_off (execPlannerCycle_off s he _ (Nat.and_self _)) (by decide) (by decide)
  | planSolved mvs => exact core_of_off (execPlanSolved_off mvs s he _ (Nat.and_self _)) (by decide) (by decide)
  | plannerCoastTimeout => exact core_of_off (execPlannerCoastTimeout_off s he _ (Nat.and_self _)) (by decide) (by decide)
  | plannerStartCommit => exact core_of_off (execPlannerStartCommit_off s he _ (Nat.and_self _)) (by decide) (by decide)
  | plannerStopComplete => exact core_of_off (execPlannerStopComplete_off s he _ (Nat.and_self _)) (by decide) (by decide)
  | cvOverLimitTimeout j => exact core_of_off (execCvOverLimitTimeout_off j s he _ (Nat.and_self _)) (by decide) (by decide)
  | guidanceInstant ey ePsi kap sNear beyondEnd retire => exact core_of_off (execGuidanceInstant_off ey ePsi kap sNear beyondEnd retire s he _ (Nat.and_self _)) (by decide) (by decide)
  | poseReceived udp port ident raw => exact core_of_off (execPoseReceived_off udp port ident raw s he _ (Nat.and_self _)) (by decide) (by decide)
  | poseStaleExpiry => exact core_of_off (execPoseStaleExpiry_off s he _ (Nat.and_self _)) (by decide) (by decide)
  | drLimitExpiry => exact core_of_off (execDrLimitExpiry_off s he _ (Nat.and_self _)) (by decide) (by decide)
  | guidanceStartCommit => exact core_of_off (execGuidanceStartCommit_off s he _ (Nat.and_self _)) (by decide) (by decide)
  | guidanceStopComplete => exact core_of_off (execGuidanceStopComplete_off s he _ (Nat.and_self _)) (by decide) (by decide)
  | yieldConfigCommit => exact core_of_off (execYieldConfigCommit_off s he _ (Nat.and_self _)) (by decide) (by decide)
  | channelStartCommit k => exact core_of_off (execChannelStartCommit_off k s he _ (Nat.and_self _)) (by decide) (by decide)
  | channelStopComplete k => exact core_of_off (execChannelStopComplete_off k s he _ (Nat.and_self _)) (by decide) (by decide)
  | pwmPeriodStart k vMean => exact core_of_off (execPwmPeriodStart_off k vMean s he _ (Nat.and_self _)) (by decide) (by decide)
  | pwmOnTimeEnd k => exact core_of_off (execPwmOnTimeEnd_off k s he _ (Nat.and_self _)) (by decide) (by decide)
  | currentLimitEntry k riseNs => exact core_of_off (execCurrentLimitEntry_off k riseNs s he _ (Nat.and_self _)) (by decide) (by decide)
  | shortClassifyCheck k vOut vStud => exact core_of_off (execShortClassifyCheck_off k vOut vStud s he _ (Nat.and_self _)) (by decide) (by decide)
  | shortConfirmExpiry k => exact core_of_off (execShortConfirmExpiry_off k s he _ (Nat.and_self _)) (by decide) (by decide)
  | quietWindowExpiry stud => exact core_of_off (execQuietWindowExpiry_off stud s he _ (Nat.and_self _)) (by decide) (by decide)
  | limitExit k => exact core_of_off (execLimitExit_off k s he _ (Nat.and_self _)) (by decide) (by decide)
  | limitTimeExpiry k => exact core_of_off (execLimitTimeExpiry_off k s he _ (Nat.and_self _)) (by decide) (by decide)
  | retryOffExpiry k => exact core_of_off (execRetryOffExpiry_off k s he _ (Nat.and_self _)) (by decide) (by decide)
  | dieOverTemperature d t => exact core_of_off (execDieOverTemperature_off d t s he _ (Nat.and_self _)) (by decide) (by decide)
  | dieGateOpen d t => exact core_of_off (execDieGateOpen_off d t s he _ (Nat.and_self _)) (by decide) (by decide)
  | dieSensorFault d t => exact core_of_off (execDieSensorFault_off d t s he _ (Nat.and_self _)) (by decide) (by decide)
  | studUnderVoltage stud v => exact core_of_off (execStudUnderVoltage_off stud v s he _ (Nat.and_self _)) (by decide) (by decide)
  | studOverVoltage stud v byMean => exact core_of_off (execStudOverVoltage_off stud v byMean s he _ (Nat.and_self _)) (by decide) (by decide)
  | studSupplySettled stud q => exact core_of_off (execStudSupplySettled_off stud q s he _ (Nat.and_self _)) (by decide) (by decide)
  | channelOverload k mean => exact core_of_off (execChannelOverload_off k mean s he _ (Nat.and_self _)) (by decide) (by decide)
  | openLoadDetect k isOpen current => exact core_of_off (execOpenLoadDetect_off k isOpen current s he _ (Nat.and_self _)) (by decide) (by decide)
  | clampEventBegin k => exact core_of_off (execClampEventBegin_off k s he _ (Nat.and_self _)) (by decide) (by decide)
  | clampEventEnd k samples => exact core_of_off (execClampEventEnd_off k samples s he _ (Nat.and_self _)) (by decide) (by decide)
  | clampWindowAgeOut k => exact core_of_off (execClampWindowAgeOut_off k s he _ (Nat.and_self _)) (by decide) (by decide)
  | studGateAdmit stud means => exact core_of_off (execStudGateAdmit_off stud means s he _ (Nat.and_self _)) (by decide) (by decide)
  | studCurrentGate stud mean => exact core_of_off (execStudCurrentGate_off stud mean s he _ (Nat.and_self _)) (by decide) (by decide)
  | switchingCyclesStore => exact core_of_off (execSwitchingCyclesStore_off s he _ (Nat.and_self _)) (by decide) (by decide)
  | egoInstant e => exact core_of_off (execEgoInstant_off e s he _ (Nat.and_self _)) (by decide) (by decide)
  | egoConfigCommit => exact core_of_off (execEgoConfigCommit_off s he _ (Nat.and_self _)) (by decide) (by decide)
  | fusionGather => exact core_of_off (execFusionGather_off s he _ (Nat.and_self _)) (by decide) (by decide)
  | fusionResultsIssued cells edgeL edgeR => exact core_of_off (execFusionResultsIssued_off cells edgeL edgeR s he _ (Nat.and_self _)) (by decide) (by decide)
  | pointPacketReceived pk => exact core_of_off (execPointPacketReceived_off pk s he _ (Nat.and_self _)) (by decide) (by decide)
  | fusionEgoLostTimeout => exact core_of_off (execFusionEgoLostTimeout_off s he _ (Nat.and_self _)) (by decide) (by decide)
  | fusionStartCommit => exact core_of_off (execFusionStartCommit_off s he _ (Nat.and_self _)) (by decide) (by decide)
  | fusionStopComplete => exact core_of_off (execFusionStopComplete_off s he _ (Nat.and_self _)) (by decide) (by decide)
  | weightsWriteComplete slot => exact core_of_off (execWeightsWriteComplete_off slot s he _ (Nat.and_self _)) (by decide) (by decide)
  | cameraPowerLimit k current => exact core_of_off (execCameraPowerLimit_off k current s he _ (Nat.and_self _)) (by decide) (by decide)
  | cameraPowerRetry k ok => exact core_of_off (execCameraPowerRetry_off k ok s he _ (Nat.and_self _)) (by decide) (by decide)
  | cameraLinkChange k up sensorId => exact core_of_off (execCameraLinkChange_off k up sensorId s he _ (Nat.and_self _)) (by decide) (by decide)
  | cameraTrigger k => exact core_of_off (execCameraTrigger_off k s he _ (Nat.and_self _)) (by decide) (by decide)
  | frameStart k => exact core_of_off (execFrameStart_off k s he _ (Nat.and_self _)) (by decide) (by decide)
  | frameSlotMissing k => exact core_of_off (execFrameSlotMissing_off k s he _ (Nat.and_self _)) (by decide) (by decide)
  | csi2PacketReceived k pk => exact core_of_off (execCsi2PacketReceived_off k pk s he _ (Nat.and_self _)) (by decide) (by decide)
  | frameEnd k => exact core_of_off (execFrameEnd_off k s he _ (Nat.and_self _)) (by decide) (by decide)
  | frameProcessed k st => exact core_of_off (execFrameProcessed_off k st s he _ (Nat.and_self _)) (by decide) (by decide)
  | statsRecordSent k => exact core_of_off (execStatsRecordSent_off k s he _ (Nat.and_self _)) (by decide) (by decide)
  | exposureWritesComplete k => exact core_of_off (execExposureWritesComplete_off k s he _ (Nat.and_self _)) (by decide) (by decide)
  | pipeStartCommit k => exact core_of_off (execPipeStartCommit_off k s he _ (Nat.and_self _)) (by decide) (by decide)
  | pipeStartTimeout k => exact core_of_off (execPipeStartTimeout_off k s he _ (Nat.and_self _)) (by decide) (by decide)
  | pipeStopComplete k => exact core_of_off (execPipeStopComplete_off k s he _ (Nat.and_self _)) (by decide) (by decide)
  | antennaBiasChange toState current => exact core_of_off (execAntennaBiasChange_off toState current s he _ (Nat.and_self _)) (by decide) (by decide)
  | antennaBiasRetry ok current => exact core_of_off (execAntennaBiasRetry_off ok current s he _ (Nat.and_self _)) (by decide) (by decide)
  | gnssBankEpoch b => exact core_of_off (execGnssBankEpoch_off b s he _ (Nat.and_self _)) (by decide) (by decide)
  | jammingAlarmTimeout => exact core_of_off (execJammingAlarmTimeout_off s he _ (Nat.and_self _)) (by decide) (by decide)
  | acquisitionFalseAlarm ch => exact core_of_off (execAcquisitionFalseAlarm_off ch s he _ (Nat.and_self _)) (by decide) (by decide)
  | trackingLockChange ch code phase => exact core_of_off (execTrackingLockChange_off ch code phase s he _ (Nat.and_self _)) (by decide) (by decide)
  | trackingLossTimeout ch byCn0 => exact core_of_off (execTrackingLossTimeout_off ch byCn0 s he _ (Nat.and_self _)) (by decide) (by decide)
  | bitSyncTimeout ch => exact core_of_off (execBitSyncTimeout_off ch s he _ (Nat.and_self _)) (by decide) (by decide)
  | lostPrnExpiry prn => exact core_of_off (execLostPrnExpiry_off prn s he _ (Nat.and_self _)) (by decide) (by decide)
  | subframeReceived ch words prevBits follows start => exact core_of_off (execSubframeReceived_off ch words prevBits follows start s he _ (Nat.and_self _)) (by decide) (by decide)
  | measurementEpoch m => exact core_of_off (execMeasurementEpoch_off m s he _ (Nat.and_self _)) (by decide) (by decide)
  | gnssDataStore => exact core_of_off (execGnssDataStore_off s he _ (Nat.and_self _)) (by decide) (by decide)
  | gnssStartCommit => exact core_of_off (execGnssStartCommit_off s he _ (Nat.and_self _)) (by decide) (by decide)
  | pipCaptureBegin => exact core_of_off (execPipCaptureBegin_off s he _ (Nat.and_self _)) (by decide) (by decide)
  | pipStored samples => exact core_of_off (execPipStored_off samples s he _ (Nat.and_self _)) (by decide) (by decide)
  | pipProcessingUnit ratio code64 doppler => exact core_of_off (execPipProcessingUnit_off ratio code64 doppler s he _ (Nat.and_self _)) (by decide) (by decide)
  | timeStepMade d => exact core_of_off (execTimeStepMade_off d s he _ (Nat.and_self _)) (by decide) (by decide)
  | ppsOutPulse d => exact core_of_off (execPpsOutPulse_off d s he _ (Nat.and_self _)) (by decide) (by decide)
  | ptpMessageReceived port m => exact core_of_off (execPtpMessageReceived_off port m s he _ (Nat.and_self _)) (by decide) (by decide)
  | ptpMessageSend d port kind => exact core_of_off (execPtpMessageSend_off d port kind s he _ (Nat.and_self _)) (by decide) (by decide)
  | ptpEventForwarded inPort outPort domainNumber residence correction => exact core_of_off (execPtpEventForwarded_off inPort outPort domainNumber residence correction s he _ (Nat.and_self _)) (by decide) (by decide)
  | ptpSourceTimeout d => exact core_of_off (execPtpSourceTimeout_off d s he _ (Nat.and_self _)) (by decide) (by decide)
  | ppsInEdge highNs => exact core_of_off (execPpsInEdge_off highNs s he _ (Nat.and_self _)) (by decide) (by decide)
  | ppsInTimeout d => exact core_of_off (execPpsInTimeout_off d s he _ (Nat.and_self _)) (by decide) (by decide)
  | slewComplete d => exact core_of_off (execSlewComplete_off d s he _ (Nat.and_self _)) (by decide) (by decide)
  | holdoverSpecExceeded d => exact core_of_off (execHoldoverSpecExceeded_off d s he _ (Nat.and_self _)) (by decide) (by decide)
  | domainStartCommit d => exact core_of_off (execDomainStartCommit_off d s he _ (Nat.and_self _)) (by decide) (by decide)
  | gateEntryExpiry port => exact core_of_off (execGateEntryExpiry_off port s he _ (Nat.and_self _)) (by decide) (by decide)
  | gateListStart port => exact core_of_off (execGateListStart_off port s he _ (Nat.and_self _)) (by decide) (by decide)
  | portConfigApply port => exact core_of_off (execPortConfigApply_off port s he _ (Nat.and_self _)) (by decide) (by decide)
  | portLinkChange port up => exact core_of_off (execPortLinkChange_off port up s he _ (Nat.and_self _)) (by decide) (by decide)
  | ethFrameReceived port f => exact core_of_off (execEthFrameReceived_off port f s he _ (Nat.and_self _)) (by decide) (by decide)
  | canFrameReceived k f => exact core_of_off (execCanFrameReceived_off k f s he _ (Nat.and_self _)) (by decide) (by decide)
  | canProtocolException k fmt => exact core_of_off (execCanProtocolException_off k fmt s he _ (Nat.and_self _)) (by decide) (by decide)
  | canBusError k transmitter add lec => exact core_of_off (execCanBusError_off k transmitter add lec s he _ (Nat.and_self _)) (by decide) (by decide)
  | canTxAttemptEnd k result delay => exact core_of_off (execCanTxAttemptEnd_off k result delay s he _ (Nat.and_self _)) (by decide) (by decide)
  | canBusoffRecovered k => exact core_of_off (execCanBusoffRecovered_off k s he _ (Nat.and_self _)) (by decide) (by decide)
  | canTxDominantTimeout k => exact core_of_off (execCanTxDominantTimeout_off k s he _ (Nat.and_self _)) (by decide) (by decide)
  | canBusDominantTimeout k => exact core_of_off (execCanBusDominantTimeout_off k s he _ (Nat.and_self _)) (by decide) (by decide)
  | canBusIntegrated k => exact core_of_off (execCanBusIntegrated_off k s he _ (Nat.and_self _)) (by decide) (by decide)
  | canStopComplete k => exact core_of_off (execCanStopComplete_off k s he _ (Nat.and_self _)) (by decide) (by decide)
  | addressClaimTimeout k => exact core_of_off (execAddressClaimTimeout_off k s he _ (Nat.and_self _)) (by decide) (by decide)
  | cannotClaimDelayExpiry k => exact core_of_off (execCannotClaimDelayExpiry_off k s he _ (Nat.and_self _)) (by decide) (by decide)
  | hpFrameHoldoffExpiry k => exact core_of_off (execHpFrameHoldoffExpiry_off k s he _ (Nat.and_self _)) (by decide) (by decide)
  | rxReadyHoldoffExpiry k => exact core_of_off (execRxReadyHoldoffExpiry_off k s he _ (Nat.and_self _)) (by decide) (by decide)
  | faultSourceRaised src enc detail master access address => exact core_of_off (execFaultSourceRaised_off src enc detail master access address s he _ (Nat.and_self _)) (by decide) (by decide)
  | faultSourceReturned r => exact core_of_off (execFaultSourceReturned_off r s he _ (Nat.and_self _)) (by decide) (by decide)
  | faultLinkRestored src enc => exact core_of_off (execFaultLinkRestored_off src enc s he _ (Nat.and_self _)) (by decide) (by decide)
  | squallWindowEnd => exact core_of_off (execSquallWindowEnd_off s he _ (Nat.and_self _)) (by decide) (by decide)
  | watchdogExpiry => exact core_of_off (execWatchdogExpiry_off s he _ (Nat.and_self _)) (by decide) (by decide)
  | lockstepMiscompare pair address => exact core_of_off (execLockstepMiscompare_off pair address s he _ (Nat.and_self _)) (by decide) (by decide)
  | failoverRestoreComplete ok => exact core_of_off (execFailoverRestoreComplete_off ok s he _ (Nat.and_self _)) (by decide) (by decide)
  | deadPairReset pair => exact core_of_off (execDeadPairReset_off pair s he _ (Nat.and_self _)) (by decide) (by decide)
  | quarantineSelfTestEnd pair pass => exact core_of_off (execQuarantineSelfTestEnd_off pair pass s he _ (Nat.and_self _)) (by decide) (by decide)
  | heartbeatWrite pair => exact core_of_off (execHeartbeatWrite_off pair s he _ (Nat.and_self _)) (by decide) (by decide)
  | aliveHeartbeatTimeout => exact core_of_off (execAliveHeartbeatTimeout_off s he _ (Nat.and_self _)) (by decide) (by decide)
  | powerStateEntryComplete => cases hi
  | ignRise => cases hi
  | ignOffDelayExpiry => exact core_of_off (execIgnOffDelayExpiry_off s he _ (Nat.and_self _)) (by decide) (by decide)
  | canWakePattern k => exact core_of_off (execCanWakePattern_off k s he _ (Nat.and_self _)) (by decide) (by decide)
  | wakeTimerExpiry => exact core_of_off (execWakeTimerExpiry_off s he _ (Nat.and_self _)) (by decide) (by decide)
  | budgetWindow => exact core_of_off (execBudgetWindow_off s he _ (Nat.and_self _)) (by decide) (by decide)
  | energyMeter use elec diss => exact core_of_off (execEnergyMeter_off use elec diss s he _ (Nat.and_self _)) (by decide) (by decide)
  | panelTemperatureRead ratio => exact core_of_off (execPanelTemperatureRead_off ratio s he _ (Nat.and_self _)) (by decide) (by decide)
  | panelSupplySample vph vpm vpl => exact core_of_off (execPanelSupplySample_off vph vpm vpl s he _ (Nat.and_self _)) (by decide) (by decide)
  | panelSupplyRestored => exact core_of_off (execPanelSupplyRestored_off s he _ (Nat.and_self _)) (by decide) (by decide)
  | panelRowStart => exact core_of_off (execPanelRowStart_off s he _ (Nat.and_self _)) (by decide) (by decide)
  | panelPhaseEnd => exact core_of_off (execPanelPhaseEnd_off s he _ (Nat.and_self _)) (by decide) (by decide)
  | panelJournalTick => exact core_of_off (execPanelJournalTick_off s he _ (Nat.and_self _)) (by decide) (by decide)
  | panelStopComplete => exact core_of_off (execPanelStopComplete_off s he _ (Nat.and_self _)) (by decide) (by decide)
  | updateCopyBegin => exact core_of_off (execUpdateCopyBegin_off s he _ (Nat.and_self _)) (by decide) (by decide)
  | updateSectorDone readBackOk => exact core_of_off (execUpdateSectorDone_off readBackOk s he _ (Nat.and_self _)) (by decide) (by decide)
  | updateCheckComplete digestOk => exact core_of_off (execUpdateCheckComplete_off digestOk s he _ (Nat.and_self _)) (by decide) (by decide)
  | perturbationExpiry slot => exact core_of_off (execPerturbationExpiry_off slot s he _ (Nat.and_self _)) (by decide) (by decide)
  | refclkReturn _ => cases hi
  | checkpointWrite c => exact core_of_off (execCheckpointWrite_off c s he _ (Nat.and_self _)) (by decide) (by decide)
  | watchdogService pair => exact core_of_off (execWatchdogService_off pair s he _ (Nat.and_self _)) (by decide) (by decide)
  | ignFall => exact core_of_off (execIgnFall_off s he _ (Nat.and_self _)) (by decide) (by decide)
  | busDominantCleared k => exact core_of_off (execBusDominantCleared_off k s he _ (Nat.and_self _)) (by decide) (by decide)

theorem execWriteMem_memKeeps (h : Hdr) (p : Bytes) (s : State) {s' : State} (e : execWriteMem h p s = .next s') :
    MemKeeps s s' := by
  have e := Host.Outcome.next.inj e
  rw [← e]
  exact command_memKeeps s _ opWriteMem h p _ fun t => opWriteMem_memKeeps t p

theorem execPowerOnReset_memKeeps (bench : Bool) (s : State) {s' : State} (e : execPowerOnReset bench s = .next s') :
    MemKeeps s s' := by
  have e := Host.Outcome.next.inj e
  rw [← e]
  exact (xPowerOnReset_memKeeps bench s).trans (memKeeps_of_off (settle_off _ _ (Nat.and_self _)) rfl)

theorem execResetNFall_memKeeps (lowNs : Nat) (s : State) {s' : State} (e : execResetNFall lowNs s = .next s') :
    MemKeeps s s' := by
  have e := Host.Outcome.next.inj e
  rw [← e]
  exact (xResetNFall_memKeeps lowNs s).trans (memKeeps_of_off (settle_off _ _ (Nat.and_self _)) rfl)

theorem execResetNRise_memKeeps (bench : Bool) (s : State) {s' : State} (e : execResetNRise bench s = .next s') :
    MemKeeps s s' := by
  have e := Host.Outcome.next.inj e
  rw [← e]
  exact (xResetNRise_memKeeps bench s).trans (memKeeps_of_off (settle_off _ _ (Nat.and_self _)) rfl)

theorem execRefclkLoss_memKeeps (s : State) {s' : State} (e : execRefclkLoss s = .next s') :
    MemKeeps s s' := by
  have e := Host.Outcome.next.inj e
  rw [← e]
  exact (xRefclkLoss_memKeeps s).trans (memKeeps_of_off (settle_off _ _ (Nat.and_self _)) rfl)

theorem execHoldupStoreExhausted_memKeeps (s : State) {s' : State} (e : execHoldupStoreExhausted s = .next s') :
    MemKeeps s s' := by
  have e := Host.Outcome.next.inj e
  rw [← e]
  exact (xHoldupStoreExhausted_memKeeps s).trans (memKeeps_of_off (settle_off _ _ (Nat.and_self _)) rfl)

theorem execPowerStateEntryComplete_memKeeps (s : State) {s' : State} (e : execPowerStateEntryComplete s = .next s') :
    MemKeeps s s' := by
  have e := Host.Outcome.next.inj e
  rw [← e]
  exact (xPowerStateEntryComplete_memKeeps s).trans (memKeeps_of_off (settle_off _ _ (Nat.and_self _)) rfl)

theorem execIgnRise_memKeeps (s : State) {s' : State} (e : execIgnRise s = .next s') :
    MemKeeps s s' := by
  have e := Host.Outcome.next.inj e
  rw [← e]
  exact (xIgnRise_memKeeps s).trans (memKeeps_of_off (settle_off _ _ (Nat.and_self _)) rfl)

theorem execRefclkReturn_memKeeps (bench : Bool) (s : State) {s' : State} (e : execRefclkReturn bench s = .next s') :
    MemKeeps s s' := by
  have e := Host.Outcome.next.inj e
  rw [← e]
  exact (xRefclkReturn_memKeeps bench s).trans (memKeeps_of_off (settle_off _ _ (Nat.and_self _)) rfl)

/-- Every command keeps the memory canonical. -/
theorem exec_memKeeps (i : Instr) (s : State) {s' : State} (he : exec i s = .next s') : MemKeeps s s' := by
  cases hi : touchesMemory i with
  | false =>
    have hm : s'.mem = s.mem := congrArg Prod.fst (exec_core i s hi he)
    unfold MemKeeps
    rw [hm]
    exact id
  | true =>
    unfold touchesMemory at hi
    split at hi
    · exact execWriteMem_memKeeps _ _ s he
    · exact execPowerOnReset_memKeeps _ s he
    · exact execResetNFall_memKeeps _ s he
    · exact execResetNRise_memKeeps _ s he
    · exact execRefclkLoss_memKeeps s he
    · exact execRefclkReturn_memKeeps _ s he
    · exact execHoldupStoreExhausted_memKeeps s he
    · exact execPowerStateEntryComplete_memKeeps s he
    · exact execIgnRise_memKeeps s he
    · cases hi

/-- Every command leaves the queue alone. -/
theorem exec_pending (i : Instr) (s : State) {s' : State} (he : exec i s = .next s') : s'.pending = s.pending := by
  cases i with
  | getIdentity h p => exact pending_of_off (execGetIdentity_off h p s he 1375731748 rfl fun _ => rfl) rfl
  | openSession h p => exact pending_of_off (execOpenSession_off h p s he _ (Nat.and_self _)) (by decide)
  | closeSession h p => exact pending_of_off (execCloseSession_off h p s he _ (Nat.and_self _)) (by decide)
  | keepalive h p => exact pending_of_off (execKeepalive_off h p s he 1375731748 rfl fun _ => rfl) rfl
  | takeOwnership h p => exact pending_of_off (execTakeOwnership_off h p s he 1375731748 rfl fun _ => rfl) rfl
  | releaseOwnership h p => exact pending_of_off (execReleaseOwnership_off h p s he 1375731748 rfl fun _ => rfl) rfl
  | subscribe h p => exact pending_of_off (execSubscribe_off h p s he 1375731748 rfl fun _ => rfl) rfl
  | unsubscribe h p => exact pending_of_off (execUnsubscribe_off h p s he 1375731748 rfl fun _ => rfl) rfl
  | start h p => exact pending_of_off (execStart_off h p s he _ (Nat.and_self _)) (by decide)
  | stop h p => exact pending_of_off (execStop_off h p s he _ (Nat.and_self _)) (by decide)
  | getState h p => exact pending_of_off (execGetState_off h p s he 1375731748 rfl fun _ => rfl) rfl
  | resetCore h p => exact pending_of_off (execResetCore_off h p s he 1375731756 rfl fun _ => rfl) rfl
  | readMem h p eccErr => exact pending_of_off (execReadMem_off h p eccErr s he _ (Nat.and_self _)) (by decide)
  | writeMem h p => exact pending_of_off (execWriteMem_off h p s he 1375735844 rfl fun _ => rfl) rfl
  | saveSettings h p => exact pending_of_off (execSaveSettings_off h p s he 1375734820 rfl fun _ => rfl) rfl
  | logErase h p => exact pending_of_off (execLogErase_off h p s he 1379926052 rfl fun _ => rfl) rfl
  | pwrSetLatency h p => exact pending_of_off (execPwrSetLatency_off h p s he 1442840612 rfl fun _ => rfl) rfl
  | pwrRequestState h p => exact pending_of_off (execPwrRequestState_off h p s he _ (Nat.and_self _)) (by decide)
  | pwrSetBudget h p => exact pending_of_off (execPwrSetBudget_off h p s he 1442840612 rfl fun _ => rfl) rfl
  | pwrGetBudget h p => exact pending_of_off (execPwrGetBudget_off h p s he 1375731748 rfl fun _ => rfl) rfl
  | pwrStatus h p => exact pending_of_off (execPwrStatus_off h p s he 1375731748 rfl fun _ => rfl) rfl
  | loopConfig h p => exact pending_of_off (execLoopConfig_off h p s he _ (Nat.and_self _)) (by decide)
  | loopRead h p => exact pending_of_off (execLoopRead_off h p s he 1375731748 rfl fun _ => rfl) rfl
  | loopSetReference h p => exact pending_of_off (execLoopSetReference_off h p s he 1375739940 rfl fun _ => rfl) rfl
  | loopSetFeedforward h p => exact pending_of_off (execLoopSetFeedforward_off h p s he 1375739940 rfl fun _ => rfl) rfl
  | loopStatus h p => exact pending_of_off (execLoopStatus_off h p s he 1375731748 rfl fun _ => rfl) rfl
  | cleCapacity h p => exact pending_of_off (execCleCapacity_off h p s he 1375731748 rfl fun _ => rfl) rfl
  | tableWrite h p => exact pending_of_off (execTableWrite_off h p s he 1375739940 rfl fun _ => rfl) rfl
  | tableRead h p => exact pending_of_off (execTableRead_off h p s he 1375731748 rfl fun _ => rfl) rfl
  | groupConfig h p => exact pending_of_off (execGroupConfig_off h p s he _ (Nat.and_self _)) (by decide)
  | groupRead h p => exact pending_of_off (execGroupRead_off h p s he 1375731748 rfl fun _ => rfl) rfl
  | impConfig h p => exact pending_of_off (execImpConfig_off h p s he 1375748132 rfl fun _ => rfl) rfl
  | classifierLoad h p => exact pending_of_off (execClassifierLoad_off h p s he 1375748132 rfl fun _ => rfl) rfl
  | ainConfig h p => exact pending_of_off (execAinConfig_off h p s he 1375748132 rfl fun _ => rfl) rfl
  | finConfig h p => exact pending_of_off (execFinConfig_off h p s he 1375748132 rfl fun _ => rfl) rfl
  | posConfig h p => exact pending_of_off (execPosConfig_off h p s he 1375748132 rfl fun _ => rfl) rfl
  | imuConfig h p => exact pending_of_off (execImuConfig_off h p s he 1375748132 rfl fun _ => rfl) rfl
  | senseRead h p => exact pending_of_off (execSenseRead_off h p s he 1375731748 rfl fun _ => rfl) rfl
  | flowCalibrate h p => exact pending_of_off (execFlowCalibrate_off h p s he 1375748132 rfl fun _ => rfl) rfl
  | plannerModel h p => exact pending_of_off (execPlannerModel_off h p s he _ (Nat.and_self _)) (by decide)
  | plannerObjectives h p => exact pending_of_off (execPlannerObjectives_off h p s he 1375798052 rfl fun _ => rfl) rfl
  | pspMap h p => exact pending_of_off (execPspMap_off h p s he _ (Nat.and_self _)) (by decide)
  | plannerStatus h p => exact pending_of_off (execPlannerStatus_off h p s he 1375731748 rfl fun _ => rfl) rfl
  | guidanceConfig h p => exact pending_of_off (execGuidanceConfig_off h p s he _ (Nat.and_self _)) (by decide)
  | pathLoad h p => exact pending_of_off (execPathLoad_off h p s he 1375862820 rfl fun _ => rfl) rfl
  | poseSource h p => exact pending_of_off (execPoseSource_off h p s he _ (Nat.and_self _)) (by decide)
  | yieldConfig h p => exact pending_of_off (execYieldConfig_off h p s he 1375993892 rfl fun _ => rfl) rfl
  | lswConfig h p => exact pending_of_off (execLswConfig_off h p s he _ (Nat.and_self _)) (by decide)
  | lswCommand h p => exact pending_of_off (execLswCommand_off h p s he _ (Nat.and_self _)) (by decide)
  | lswStatus h p => exact pending_of_off (execLswStatus_off h p s he 1375731748 rfl fun _ => rfl) rfl
  | lswClear h p => exact pending_of_off (execLswClear_off h p s he _ (Nat.and_self _)) (by decide)
  | fusConfig h p => exact pending_of_off (execFusConfig_off h p s he _ (Nat.and_self _)) (by decide)
  | fusWeights h p => exact pending_of_off (execFusWeights_off h p s he 1376780324 rfl fun _ => rfl) rfl
  | fusHeadPolicy h p => exact pending_of_off (execFusHeadPolicy_off h p s he 1376781092 rfl fun _ => rfl) rfl
  | fusPointStream h p => exact pending_of_off (execFusPointStream_off h p s he _ (Nat.and_self _)) (by decide)
  | fusStatus h p => exact pending_of_off (execFusStatus_off h p s he 1375731748 rfl fun _ => rfl) rfl
  | pipeConfig h p => exact pending_of_off (execPipeConfig_off h p s he _ (Nat.and_self _)) (by decide)
  | exposureCommit h p => exact pending_of_off (execExposureCommit_off h p s he 1377828900 rfl fun _ => rfl) rfl
  | sensorTunnelRead h p ans => exact pending_of_off (execSensorTunnelRead_off h p ans s he _ (Nat.and_self _)) (by decide)
  | sensorTunnelWrite h p ans => exact pending_of_off (execSensorTunnelWrite_off h p ans s he _ (Nat.and_self _)) (by decide)
  | sensorTunnelAppendStart h p => exact pending_of_off (execSensorTunnelAppendStart_off h p s he _ (Nat.and_self _)) (by decide)
  | sensorTunnelAppendStop h p => exact pending_of_off (execSensorTunnelAppendStop_off h p s he _ (Nat.and_self _)) (by decide)
  | sensorTunnelClearLists h p => exact pending_of_off (execSensorTunnelClearLists_off h p s he _ (Nat.and_self _)) (by decide)
  | pipeStatus h p => exact pending_of_off (execPipeStatus_off h p s he 1375731748 rfl fun _ => rfl) rfl
  | gnssConfig h p => exact pending_of_off (execGnssConfig_off h p s he _ (Nat.and_self _)) (by decide)
  | notchConfig h p => exact pending_of_off (execNotchConfig_off h p s he 1375732516 rfl fun _ => rfl) rfl
  | pipCapture h p => exact pending_of_off (execPipCapture_off h p s he 1379926052 rfl fun _ => rfl) rfl
  | pipExportReadHeader h p => exact pending_of_off (execPipExportReadHeader_off h p s he 1379926052 rfl fun _ => rfl) rfl
  | pipExportReadSamples h p => exact pending_of_off (execPipExportReadSamples_off h p s he 1379926052 rfl fun _ => rfl) rfl
  | pipExportProcess h p => exact pending_of_off (execPipExportProcess_off h p s he 1379926052 rfl fun _ => rfl) rfl
  | pipExportDelete h p => exact pending_of_off (execPipExportDelete_off h p s he 1379926052 rfl fun _ => rfl) rfl
  | gnssStatus h p => exact pending_of_off (execGnssStatus_off h p s he 1375731748 rfl fun _ => rfl) rfl
  | tdConfig h p => exact pending_of_off (execTdConfig_off h p s he _ (Nat.and_self _)) (by decide)
  | getTime h p => exact pending_of_off (execGetTime_off h p s he 1375731748 rfl fun _ => rfl) rfl
  | rateOverride h p => exact pending_of_off (execRateOverride_off h p s he 1384120356 rfl fun _ => rfl) rfl
  | portConfig h p => exact pending_of_off (execPortConfig_off h p s he 1392508964 rfl fun _ => rfl) rfl
  | gateConfig h p => exact pending_of_off (execGateConfig_off h p s he 1392508964 rfl fun _ => rfl) rfl
  | timeStatus h p => exact pending_of_off (execTimeStatus_off h p s he 1375731748 rfl fun _ => rfl) rfl
  | canConfig h p => exact pending_of_off (execCanConfig_off h p s he _ (Nat.and_self _)) (by decide)
  | canFilter h p => exact pending_of_off (execCanFilter_off h p s he _ (Nat.and_self _)) (by decide)
  | canTransmit h p => exact pending_of_off (execCanTransmit_off h p s he _ (Nat.and_self _)) (by decide)
  | canStatus h p => exact pending_of_off (execCanStatus_off h p s he 1375731748 rfl fun _ => rfl) rfl
  | canAddressClaim h p => exact pending_of_off (execCanAddressClaim_off h p s he _ (Nat.and_self _)) (by decide)
  | faultRead h p => exact pending_of_off (execFaultRead_off h p s he 1375731748 rfl fun _ => rfl) rfl
  | faultClear h p => exact pending_of_off (execFaultClear_off h p s he 1375731812 rfl fun _ => rfl) rfl
  | faultSourceConfig h p => exact pending_of_off (execFaultSourceConfig_off h p s he 1375731812 rfl fun _ => rfl) rfl
  | faultThreshold h p => exact pending_of_off (execFaultThreshold_off h p s he 1375731812 rfl fun _ => rfl) rfl
  | captureRead h p => exact pending_of_off (execCaptureRead_off h p s he 1375731748 rfl fun _ => rfl) rfl
  | panelConfig h p => exact pending_of_off (execPanelConfig_off h p s he _ (Nat.and_self _)) (by decide)
  | panelFrame h p => exact pending_of_off (execPanelFrame_off h p s he 1509949476 rfl fun _ => rfl) rfl
  | panelStatus h p => exact pending_of_off (execPanelStatus_off h p s he 1375731748 rfl fun _ => rfl) rfl
  | updateBegin h p => exact pending_of_off (execUpdateBegin_off h p s he 1375731748 rfl fun _ => rfl) rfl
  | updateBlock h p => exact pending_of_off (execUpdateBlock_off h p s he 1375731748 rfl fun _ => rfl) rfl
  | updateCommit h p => exact pending_of_off (execUpdateCommit_off h p s he 1375731748 rfl fun _ => rfl) rfl
  | updateStatus h p => exact pending_of_off (execUpdateStatus_off h p s he 1375731748 rfl fun _ => rfl) rfl
  | testUnlock h p => exact pending_of_off (execTestUnlock_off h p s he _ (Nat.and_self _)) (by decide)
  | perturbSet h p => exact pending_of_off (execPerturbSet_off h p s he _ (Nat.and_self _)) (by decide)
  | perturbClear h p => exact pending_of_off (execPerturbClear_off h p s he _ (Nat.and_self _)) (by decide)
  | testStatus h p => exact pending_of_off (execTestStatus_off h p s he 1375731748 rfl fun _ => rfl) rfl
  | undefinedOpcode h opcode p => exact pending_of_off (execUndefinedOpcode_off h opcode p s he 1375731748 rfl fun _ => rfl) rfl
  | balinePacketDiscarded ep raw => exact pending_of_off (execBalinePacketDiscarded_off ep raw s he _ (Nat.and_self _)) (by decide)
  | balinePortMismatchDrop port => exact pending_of_off (execBalinePortMismatchDrop_off port s he _ (Nat.and_self _)) (by decide)
  | neighbourDiscovery src target => exact pending_of_off (execNeighbourDiscovery_off src target s he _ (Nat.and_self _)) (by decide)
  | icmpv6Echo src ident seq data => exact pending_of_off (execIcmpv6Echo_off src ident seq data s he _ (Nat.and_self _)) (by decide)
  | isotpFrameReceived id data => exact pending_of_off (execIsotpFrameReceived_off id data s he _ (Nat.and_self _)) (by decide)
  | isotpTimeout nBs => exact pending_of_off (execIsotpTimeout_off nBs s he _ (Nat.and_self _)) (by decide)
  | sessionKeepaliveTimeout session => exact pending_of_off (execSessionKeepaliveTimeout_off session s he _ (Nat.and_self _)) (by decide)
  | faultLogEntryQueued session => exact pending_of_off (execFaultLogEntryQueued_off session s he _ (Nat.and_self _)) (by decide)
  | serviceLogWrite => exact pending_of_off (execServiceLogWrite_off s he _ (Nat.and_self _)) (by decide)
  | powerOnReset bench => exact pending_of_off (execPowerOnReset_off bench s he _ (Nat.and_self _)) (by decide)
  | resetNFall lowNs => exact pending_of_off (execResetNFall_off lowNs s he _ (Nat.and_self _)) (by decide)
  | resetNRise bench => exact pending_of_off (execResetNRise_off bench s he _ (Nat.and_self _)) (by decide)
  | refclkLoss => exact pending_of_off (execRefclkLoss_off s he _ (Nat.and_self _)) (by decide)
  | pllsLocked => exact pending_of_off (execPllsLocked_off s he _ (Nat.and_self _)) (by decide)
  | loaderStart crcOk => exact pending_of_off (execLoaderStart_off crcOk s he _ (Nat.and_self _)) (by decide)
  | updateJournalRead => exact pending_of_off (execUpdateJournalRead_off s he _ (Nat.and_self _)) (by decide)
  | dramTrained => exact pending_of_off (execDramTrained_off s he _ (Nat.and_self _)) (by decide)
  | firmwareImageVerified => exact pending_of_off (execFirmwareImageVerified_off s he _ (Nat.and_self _)) (by decide)
  | coreResetDigestCheck => exact pending_of_off (execCoreResetDigestCheck_off s he _ (Nat.and_self _)) (by decide)
  | pairRolesAssigned pa pb pc pd => exact pending_of_off (execPairRolesAssigned_off pa pb pc pd s he _ (Nat.and_self _)) (by decide)
  | firmwareRunning => exact pending_of_off (execFirmwareRunning_off s he _ (Nat.and_self _)) (by decide)
  | balineServed => exact pending_of_off (execBalineServed_off s he _ (Nat.and_self _)) (by decide)
  | autoStart => exact pending_of_off (execAutoStart_off s he _ (Nat.and_self _)) (by decide)
  | processorComplexReset => exact pending_of_off (execProcessorComplexReset_off s he _ (Nat.and_self _)) (by decide)
  | groupHoldExpiry g => exact pending_of_off (execGroupHoldExpiry_off g s he _ (Nat.and_self _)) (by decide)
  | channelHoldExpiry k => exact pending_of_off (execChannelHoldExpiry_off k s he _ (Nat.and_self _)) (by decide)
  | supervisorCheckFailed check => exact pending_of_off (execSupervisorCheckFailed_off check s he _ (Nat.and_self _)) (by decide)
  | logicFeedRangeChange feed inRange volts => exact pending_of_off (execLogicFeedRangeChange_off feed inRange volts s he _ (Nat.and_self _)) (by decide)
  | holdupStoreExhausted => exact pending_of_off (execHoldupStoreExhausted_off s he _ (Nat.and_self _)) (by decide)
  | vref5LimitTimeout v => exact pending_of_off (execVref5LimitTimeout_off v s he _ (Nat.and_self _)) (by decide)
  | vref5Retry v ok => exact pending_of_off (execVref5Retry_off v ok s he _ (Nat.and_self _)) (by decide)
  | baseTemperatureSample t0 t1 t2 t3 => exact pending_of_off (execBaseTemperatureSample_off t0 t1 t2 t3 s he _ (Nat.and_self _)) (by decide)
  | firewallDrop pair tag access address => exact pending_of_off (execFirewallDrop_off pair tag access address s he _ (Nat.and_self _)) (by decide)
  | accessRefused master access address => exact pending_of_off (execAccessRefused_off master access address s he _ (Nat.and_self _)) (by decide)
  | loopSample n => exact pending_of_off (execLoopSample_off n s he _ (Nat.and_self _)) (by decide)
  | loopSampleMissed n => exact pending_of_off (execLoopSampleMissed_off n s he _ (Nat.and_self _)) (by decide)
  | groupStartCommit g => exact pending_of_off (execGroupStartCommit_off g s he _ (Nat.and_self _)) (by decide)
  | groupStopComplete g => exact pending_of_off (execGroupStopComplete_off g s he _ (Nat.and_self _)) (by decide)
  | hitOnset k pre x => exact pending_of_off (execHitOnset_off k pre x s he _ (Nat.and_self _)) (by decide)
  | mergedHit k before x => exact pending_of_off (execMergedHit_off k before x s he _ (Nat.and_self _)) (by decide)
  | hitWindowComplete k rest clipped => exact pending_of_off (execHitWindowComplete_off k rest clipped s he _ (Nat.and_self _)) (by decide)
  | hitQuietEnd q => exact pending_of_off (execHitQuietEnd_off q s he _ (Nat.and_self _)) (by decide)
  | hitClassified k => exact pending_of_off (execHitClassified_off k s he _ (Nat.and_self _)) (by decide)
  | countingWindowEnd flow => exact pending_of_off (execCountingWindowEnd_off flow s he _ (Nat.and_self _)) (by decide)
  | windowCountsPublished => exact pending_of_off (execWindowCountsPublished_off s he _ (Nat.and_self _)) (by decide)
  | frontEndSelftest k ok => exact pending_of_off (execFrontEndSelftest_off k ok s he _ (Nat.and_self _)) (by decide)
  | ainUpdate k volts refs => exact pending_of_off (execAinUpdate_off k volts refs s he _ (Nat.and_self _)) (by decide)
  | ainRangeCount k raw => exact pending_of_off (execAinRangeCount_off k raw s he _ (Nat.and_self _)) (by decide)
  | finEdgeAccepted k age volts both => exact pending_of_off (execFinEdgeAccepted_off k age volts both s he _ (Nat.and_self _)) (by decide)
  | qerrExpiry k => exact pending_of_off (execQerrExpiry_off k s he _ (Nat.and_self _)) (by decide)
  | finUpdate k => exact pending_of_off (execFinUpdate_off k s he _ (Nat.and_self _)) (by decide)
  | posUpdate k theta cycles speed ampl trackErr => exact pending_of_off (execPosUpdate_off k theta cycles speed ampl trackErr s he _ (Nat.and_self _)) (by decide)
  | excitationLimitTimeout k => exact pending_of_off (execExcitationLimitTimeout_off k s he _ (Nat.and_self _)) (by decide)
  | excitationRetry k ok => exact pending_of_off (execExcitationRetry_off k ok s he _ (Nat.and_self _)) (by decide)
  | imuSample ax ay az gx gy gz saturated => exact pending_of_off (execImuSample_off ax ay az gx gy gz saturated s he _ (Nat.and_self _)) (by decide)
  | inputConfigCommit sel k => exact pending_of_off (execInputConfigCommit_off sel k s he _ (Nat.and_self _)) (by decide)
  | inputSettlingEnd sel k => exact pending_of_off (execInputSettlingEnd_off sel k s he _ (Nat.and_self _)) (by decide)
  | classifierSetCommit set => exact pending_of_off (execClassifierSetCommit_off set s he _ (Nat.and_self _)) (by decide)
  | flowCurveApply k => exact pending_of_off (execFlowCurveApply_off k s he _ (Nat.and_self _)) (by decide)
  | inputValidityReport sel k => exact pending_of_off (execInputValidityReport_off sel k s he _ (Nat.and_self _)) (by decide)
  | plannerCycle => exact pending_of_off (execPlannerCycle_off s he _ (Nat.and_self _)) (by decide)
  | planSolved mvs => exact pending_of_off (execPlanSolved_off mvs s he _ (Nat.and_self _)) (by decide)
  | plannerCoastTimeout => exact pending_of_off (execPlannerCoastTimeout_off s he _ (Nat.and_self _)) (by decide)
  | plannerStartCommit => exact pending_of_off (execPlannerStartCommit_off s he _ (Nat.and_self _)) (by decide)
  | plannerStopComplete => exact pending_of_off (execPlannerStopComplete_off s he _ (Nat.and_self _)) (by decide)
  | cvOverLimitTimeout j => exact pending_of_off (execCvOverLimitTimeout_off j s he _ (Nat.and_self _)) (by decide)
  | guidanceInstant ey ePsi kap sNear beyondEnd retire => exact pending_of_off (execGuidanceInstant_off ey ePsi kap sNear beyondEnd retire s he _ (Nat.and_self _)) (by decide)
  | poseReceived udp port ident raw => exact pending_of_off (execPoseReceived_off udp port ident raw s he _ (Nat.and_self _)) (by decide)
  | poseStaleExpiry => exact pending_of_off (execPoseStaleExpiry_off s he _ (Nat.and_self _)) (by decide)
  | drLimitExpiry => exact pending_of_off (execDrLimitExpiry_off s he _ (Nat.and_self _)) (by decide)
  | guidanceStartCommit => exact pending_of_off (execGuidanceStartCommit_off s he _ (Nat.and_self _)) (by decide)
  | guidanceStopComplete => exact pending_of_off (execGuidanceStopComplete_off s he _ (Nat.and_self _)) (by decide)
  | yieldConfigCommit => exact pending_of_off (execYieldConfigCommit_off s he _ (Nat.and_self _)) (by decide)
  | channelStartCommit k => exact pending_of_off (execChannelStartCommit_off k s he _ (Nat.and_self _)) (by decide)
  | channelStopComplete k => exact pending_of_off (execChannelStopComplete_off k s he _ (Nat.and_self _)) (by decide)
  | pwmPeriodStart k vMean => exact pending_of_off (execPwmPeriodStart_off k vMean s he _ (Nat.and_self _)) (by decide)
  | pwmOnTimeEnd k => exact pending_of_off (execPwmOnTimeEnd_off k s he _ (Nat.and_self _)) (by decide)
  | currentLimitEntry k riseNs => exact pending_of_off (execCurrentLimitEntry_off k riseNs s he _ (Nat.and_self _)) (by decide)
  | shortClassifyCheck k vOut vStud => exact pending_of_off (execShortClassifyCheck_off k vOut vStud s he _ (Nat.and_self _)) (by decide)
  | shortConfirmExpiry k => exact pending_of_off (execShortConfirmExpiry_off k s he _ (Nat.and_self _)) (by decide)
  | quietWindowExpiry stud => exact pending_of_off (execQuietWindowExpiry_off stud s he _ (Nat.and_self _)) (by decide)
  | limitExit k => exact pending_of_off (execLimitExit_off k s he _ (Nat.and_self _)) (by decide)
  | limitTimeExpiry k => exact pending_of_off (execLimitTimeExpiry_off k s he _ (Nat.and_self _)) (by decide)
  | retryOffExpiry k => exact pending_of_off (execRetryOffExpiry_off k s he _ (Nat.and_self _)) (by decide)
  | dieOverTemperature d t => exact pending_of_off (execDieOverTemperature_off d t s he _ (Nat.and_self _)) (by decide)
  | dieGateOpen d t => exact pending_of_off (execDieGateOpen_off d t s he _ (Nat.and_self _)) (by decide)
  | dieSensorFault d t => exact pending_of_off (execDieSensorFault_off d t s he _ (Nat.and_self _)) (by decide)
  | studUnderVoltage stud v => exact pending_of_off (execStudUnderVoltage_off stud v s he _ (Nat.and_self _)) (by decide)
  | studOverVoltage stud v byMean => exact pending_of_off (execStudOverVoltage_off stud v byMean s he _ (Nat.and_self _)) (by decide)
  | studSupplySettled stud q => exact pending_of_off (execStudSupplySettled_off stud q s he _ (Nat.and_self _)) (by decide)
  | channelOverload k mean => exact pending_of_off (execChannelOverload_off k mean s he _ (Nat.and_self _)) (by decide)
  | openLoadDetect k isOpen current => exact pending_of_off (execOpenLoadDetect_off k isOpen current s he _ (Nat.and_self _)) (by decide)
  | clampEventBegin k => exact pending_of_off (execClampEventBegin_off k s he _ (Nat.and_self _)) (by decide)
  | clampEventEnd k samples => exact pending_of_off (execClampEventEnd_off k samples s he _ (Nat.and_self _)) (by decide)
  | clampWindowAgeOut k => exact pending_of_off (execClampWindowAgeOut_off k s he _ (Nat.and_self _)) (by decide)
  | studGateAdmit stud means => exact pending_of_off (execStudGateAdmit_off stud means s he _ (Nat.and_self _)) (by decide)
  | studCurrentGate stud mean => exact pending_of_off (execStudCurrentGate_off stud mean s he _ (Nat.and_self _)) (by decide)
  | switchingCyclesStore => exact pending_of_off (execSwitchingCyclesStore_off s he _ (Nat.and_self _)) (by decide)
  | egoInstant e => exact pending_of_off (execEgoInstant_off e s he _ (Nat.and_self _)) (by decide)
  | egoConfigCommit => exact pending_of_off (execEgoConfigCommit_off s he _ (Nat.and_self _)) (by decide)
  | fusionGather => exact pending_of_off (execFusionGather_off s he _ (Nat.and_self _)) (by decide)
  | fusionResultsIssued cells edgeL edgeR => exact pending_of_off (execFusionResultsIssued_off cells edgeL edgeR s he _ (Nat.and_self _)) (by decide)
  | pointPacketReceived pk => exact pending_of_off (execPointPacketReceived_off pk s he _ (Nat.and_self _)) (by decide)
  | fusionEgoLostTimeout => exact pending_of_off (execFusionEgoLostTimeout_off s he _ (Nat.and_self _)) (by decide)
  | fusionStartCommit => exact pending_of_off (execFusionStartCommit_off s he _ (Nat.and_self _)) (by decide)
  | fusionStopComplete => exact pending_of_off (execFusionStopComplete_off s he _ (Nat.and_self _)) (by decide)
  | weightsWriteComplete slot => exact pending_of_off (execWeightsWriteComplete_off slot s he _ (Nat.and_self _)) (by decide)
  | cameraPowerLimit k current => exact pending_of_off (execCameraPowerLimit_off k current s he _ (Nat.and_self _)) (by decide)
  | cameraPowerRetry k ok => exact pending_of_off (execCameraPowerRetry_off k ok s he _ (Nat.and_self _)) (by decide)
  | cameraLinkChange k up sensorId => exact pending_of_off (execCameraLinkChange_off k up sensorId s he _ (Nat.and_self _)) (by decide)
  | cameraTrigger k => exact pending_of_off (execCameraTrigger_off k s he _ (Nat.and_self _)) (by decide)
  | frameStart k => exact pending_of_off (execFrameStart_off k s he _ (Nat.and_self _)) (by decide)
  | frameSlotMissing k => exact pending_of_off (execFrameSlotMissing_off k s he _ (Nat.and_self _)) (by decide)
  | csi2PacketReceived k pk => exact pending_of_off (execCsi2PacketReceived_off k pk s he _ (Nat.and_self _)) (by decide)
  | frameEnd k => exact pending_of_off (execFrameEnd_off k s he _ (Nat.and_self _)) (by decide)
  | frameProcessed k st => exact pending_of_off (execFrameProcessed_off k st s he _ (Nat.and_self _)) (by decide)
  | statsRecordSent k => exact pending_of_off (execStatsRecordSent_off k s he _ (Nat.and_self _)) (by decide)
  | exposureWritesComplete k => exact pending_of_off (execExposureWritesComplete_off k s he _ (Nat.and_self _)) (by decide)
  | pipeStartCommit k => exact pending_of_off (execPipeStartCommit_off k s he _ (Nat.and_self _)) (by decide)
  | pipeStartTimeout k => exact pending_of_off (execPipeStartTimeout_off k s he _ (Nat.and_self _)) (by decide)
  | pipeStopComplete k => exact pending_of_off (execPipeStopComplete_off k s he _ (Nat.and_self _)) (by decide)
  | antennaBiasChange toState current => exact pending_of_off (execAntennaBiasChange_off toState current s he _ (Nat.and_self _)) (by decide)
  | antennaBiasRetry ok current => exact pending_of_off (execAntennaBiasRetry_off ok current s he _ (Nat.and_self _)) (by decide)
  | gnssBankEpoch b => exact pending_of_off (execGnssBankEpoch_off b s he _ (Nat.and_self _)) (by decide)
  | jammingAlarmTimeout => exact pending_of_off (execJammingAlarmTimeout_off s he _ (Nat.and_self _)) (by decide)
  | acquisitionFalseAlarm ch => exact pending_of_off (execAcquisitionFalseAlarm_off ch s he _ (Nat.and_self _)) (by decide)
  | trackingLockChange ch code phase => exact pending_of_off (execTrackingLockChange_off ch code phase s he _ (Nat.and_self _)) (by decide)
  | trackingLossTimeout ch byCn0 => exact pending_of_off (execTrackingLossTimeout_off ch byCn0 s he _ (Nat.and_self _)) (by decide)
  | bitSyncTimeout ch => exact pending_of_off (execBitSyncTimeout_off ch s he _ (Nat.and_self _)) (by decide)
  | lostPrnExpiry prn => exact pending_of_off (execLostPrnExpiry_off prn s he _ (Nat.and_self _)) (by decide)
  | subframeReceived ch words prevBits follows start => exact pending_of_off (execSubframeReceived_off ch words prevBits follows start s he _ (Nat.and_self _)) (by decide)
  | measurementEpoch m => exact pending_of_off (execMeasurementEpoch_off m s he _ (Nat.and_self _)) (by decide)
  | gnssDataStore => exact pending_of_off (execGnssDataStore_off s he _ (Nat.and_self _)) (by decide)
  | gnssStartCommit => exact pending_of_off (execGnssStartCommit_off s he _ (Nat.and_self _)) (by decide)
  | pipCaptureBegin => exact pending_of_off (execPipCaptureBegin_off s he _ (Nat.and_self _)) (by decide)
  | pipStored samples => exact pending_of_off (execPipStored_off samples s he _ (Nat.and_self _)) (by decide)
  | pipProcessingUnit ratio code64 doppler => exact pending_of_off (execPipProcessingUnit_off ratio code64 doppler s he _ (Nat.and_self _)) (by decide)
  | timeStepMade d => exact pending_of_off (execTimeStepMade_off d s he _ (Nat.and_self _)) (by decide)
  | ppsOutPulse d => exact pending_of_off (execPpsOutPulse_off d s he _ (Nat.and_self _)) (by decide)
  | ptpMessageReceived port m => exact pending_of_off (execPtpMessageReceived_off port m s he _ (Nat.and_self _)) (by decide)
  | ptpMessageSend d port kind => exact pending_of_off (execPtpMessageSend_off d port kind s he _ (Nat.and_self _)) (by decide)
  | ptpEventForwarded inPort outPort domainNumber residence correction => exact pending_of_off (execPtpEventForwarded_off inPort outPort domainNumber residence correction s he _ (Nat.and_self _)) (by decide)
  | ptpSourceTimeout d => exact pending_of_off (execPtpSourceTimeout_off d s he _ (Nat.and_self _)) (by decide)
  | ppsInEdge highNs => exact pending_of_off (execPpsInEdge_off highNs s he _ (Nat.and_self _)) (by decide)
  | ppsInTimeout d => exact pending_of_off (execPpsInTimeout_off d s he _ (Nat.and_self _)) (by decide)
  | slewComplete d => exact pending_of_off (execSlewComplete_off d s he _ (Nat.and_self _)) (by decide)
  | holdoverSpecExceeded d => exact pending_of_off (execHoldoverSpecExceeded_off d s he _ (Nat.and_self _)) (by decide)
  | domainStartCommit d => exact pending_of_off (execDomainStartCommit_off d s he _ (Nat.and_self _)) (by decide)
  | gateEntryExpiry port => exact pending_of_off (execGateEntryExpiry_off port s he _ (Nat.and_self _)) (by decide)
  | gateListStart port => exact pending_of_off (execGateListStart_off port s he _ (Nat.and_self _)) (by decide)
  | portConfigApply port => exact pending_of_off (execPortConfigApply_off port s he _ (Nat.and_self _)) (by decide)
  | portLinkChange port up => exact pending_of_off (execPortLinkChange_off port up s he _ (Nat.and_self _)) (by decide)
  | ethFrameReceived port f => exact pending_of_off (execEthFrameReceived_off port f s he _ (Nat.and_self _)) (by decide)
  | canFrameReceived k f => exact pending_of_off (execCanFrameReceived_off k f s he _ (Nat.and_self _)) (by decide)
  | canProtocolException k fmt => exact pending_of_off (execCanProtocolException_off k fmt s he _ (Nat.and_self _)) (by decide)
  | canBusError k transmitter add lec => exact pending_of_off (execCanBusError_off k transmitter add lec s he _ (Nat.and_self _)) (by decide)
  | canTxAttemptEnd k result delay => exact pending_of_off (execCanTxAttemptEnd_off k result delay s he _ (Nat.and_self _)) (by decide)
  | canBusoffRecovered k => exact pending_of_off (execCanBusoffRecovered_off k s he _ (Nat.and_self _)) (by decide)
  | canTxDominantTimeout k => exact pending_of_off (execCanTxDominantTimeout_off k s he _ (Nat.and_self _)) (by decide)
  | canBusDominantTimeout k => exact pending_of_off (execCanBusDominantTimeout_off k s he _ (Nat.and_self _)) (by decide)
  | canBusIntegrated k => exact pending_of_off (execCanBusIntegrated_off k s he _ (Nat.and_self _)) (by decide)
  | canStopComplete k => exact pending_of_off (execCanStopComplete_off k s he _ (Nat.and_self _)) (by decide)
  | addressClaimTimeout k => exact pending_of_off (execAddressClaimTimeout_off k s he _ (Nat.and_self _)) (by decide)
  | cannotClaimDelayExpiry k => exact pending_of_off (execCannotClaimDelayExpiry_off k s he _ (Nat.and_self _)) (by decide)
  | hpFrameHoldoffExpiry k => exact pending_of_off (execHpFrameHoldoffExpiry_off k s he _ (Nat.and_self _)) (by decide)
  | rxReadyHoldoffExpiry k => exact pending_of_off (execRxReadyHoldoffExpiry_off k s he _ (Nat.and_self _)) (by decide)
  | faultSourceRaised src enc detail master access address => exact pending_of_off (execFaultSourceRaised_off src enc detail master access address s he _ (Nat.and_self _)) (by decide)
  | faultSourceReturned r => exact pending_of_off (execFaultSourceReturned_off r s he _ (Nat.and_self _)) (by decide)
  | faultLinkRestored src enc => exact pending_of_off (execFaultLinkRestored_off src enc s he _ (Nat.and_self _)) (by decide)
  | squallWindowEnd => exact pending_of_off (execSquallWindowEnd_off s he _ (Nat.and_self _)) (by decide)
  | watchdogExpiry => exact pending_of_off (execWatchdogExpiry_off s he _ (Nat.and_self _)) (by decide)
  | lockstepMiscompare pair address => exact pending_of_off (execLockstepMiscompare_off pair address s he _ (Nat.and_self _)) (by decide)
  | failoverRestoreComplete ok => exact pending_of_off (execFailoverRestoreComplete_off ok s he _ (Nat.and_self _)) (by decide)
  | deadPairReset pair => exact pending_of_off (execDeadPairReset_off pair s he _ (Nat.and_self _)) (by decide)
  | quarantineSelfTestEnd pair pass => exact pending_of_off (execQuarantineSelfTestEnd_off pair pass s he _ (Nat.and_self _)) (by decide)
  | heartbeatWrite pair => exact pending_of_off (execHeartbeatWrite_off pair s he _ (Nat.and_self _)) (by decide)
  | aliveHeartbeatTimeout => exact pending_of_off (execAliveHeartbeatTimeout_off s he _ (Nat.and_self _)) (by decide)
  | powerStateEntryComplete => exact pending_of_off (execPowerStateEntryComplete_off s he _ (Nat.and_self _)) (by decide)
  | ignRise => exact pending_of_off (execIgnRise_off s he _ (Nat.and_self _)) (by decide)
  | ignOffDelayExpiry => exact pending_of_off (execIgnOffDelayExpiry_off s he _ (Nat.and_self _)) (by decide)
  | canWakePattern k => exact pending_of_off (execCanWakePattern_off k s he _ (Nat.and_self _)) (by decide)
  | wakeTimerExpiry => exact pending_of_off (execWakeTimerExpiry_off s he _ (Nat.and_self _)) (by decide)
  | budgetWindow => exact pending_of_off (execBudgetWindow_off s he _ (Nat.and_self _)) (by decide)
  | energyMeter use elec diss => exact pending_of_off (execEnergyMeter_off use elec diss s he _ (Nat.and_self _)) (by decide)
  | panelTemperatureRead ratio => exact pending_of_off (execPanelTemperatureRead_off ratio s he _ (Nat.and_self _)) (by decide)
  | panelSupplySample vph vpm vpl => exact pending_of_off (execPanelSupplySample_off vph vpm vpl s he _ (Nat.and_self _)) (by decide)
  | panelSupplyRestored => exact pending_of_off (execPanelSupplyRestored_off s he _ (Nat.and_self _)) (by decide)
  | panelRowStart => exact pending_of_off (execPanelRowStart_off s he _ (Nat.and_self _)) (by decide)
  | panelPhaseEnd => exact pending_of_off (execPanelPhaseEnd_off s he _ (Nat.and_self _)) (by decide)
  | panelJournalTick => exact pending_of_off (execPanelJournalTick_off s he _ (Nat.and_self _)) (by decide)
  | panelStopComplete => exact pending_of_off (execPanelStopComplete_off s he _ (Nat.and_self _)) (by decide)
  | updateCopyBegin => exact pending_of_off (execUpdateCopyBegin_off s he _ (Nat.and_self _)) (by decide)
  | updateSectorDone readBackOk => exact pending_of_off (execUpdateSectorDone_off readBackOk s he _ (Nat.and_self _)) (by decide)
  | updateCheckComplete digestOk => exact pending_of_off (execUpdateCheckComplete_off digestOk s he _ (Nat.and_self _)) (by decide)
  | perturbationExpiry slot => exact pending_of_off (execPerturbationExpiry_off slot s he _ (Nat.and_self _)) (by decide)
  | refclkReturn bench => exact pending_of_off (execRefclkReturn_off bench s he _ (Nat.and_self _)) (by decide)
  | checkpointWrite c => exact pending_of_off (execCheckpointWrite_off c s he _ (Nat.and_self _)) (by decide)
  | watchdogService pair => exact pending_of_off (execWatchdogService_off pair s he _ (Nat.and_self _)) (by decide)
  | ignFall => exact pending_of_off (execIgnFall_off s he _ (Nat.and_self _)) (by decide)
  | busDominantCleared k => exact pending_of_off (execBusDominantCleared_off k s he _ (Nat.and_self _)) (by decide)

end Sys2Proof.Machine
end

