-- ==== Sys2Proof/Laws/Host.lean ====
section
/-! SUPPORT. What the end of a step and the Baline pipeline do, said once: a quiet state settles as it is, and an
accepted command has its opcode's effect and is answered. -/

namespace Sys2Proof

open Machine

theorem carryAll_of_none {s : State} (h : s.fcr.react = []) : carryAll s = s := by
  unfold carryAll
  rw [h]

theorem forN_id {n : Nat} {f : State → Nat → State} {s : State} (h : ∀ d, d < n → f s d = s) : forN n f s = s := by
  unfold forN
  have : ∀ l : List Nat, (∀ d ∈ l, d < n) → l.foldl f s = s := by
    intro l
    induction l with
    | nil => intro _; rfl
    | cons x r ih =>
      intro hl
      rw [List.foldl_cons, h x (hl x (by simp)), ih fun d hd => hl d (by simp [hd])]
  exact this _ fun d hd => List.mem_range.mp hd

theorem follow_of_quiet {s : State} (q : Quiet s) : follow s = s := by
  have h0 : supplySource s 0 = s := by
    have h := q.supply 0 (by decide)
    unfold supplySource
    simp only [h, if_true]
  have h1 : supplySource s 1 = s := by
    have h := q.supply 1 (by decide)
    unfold supplySource
    simp only [h, if_true]
  have hg : gnssGone s = s := by
    unfold gnssGone
    split
    · rfl
    · rename_i h
      exact forN_id fun d hd => if_neg (q.gnss (by simpa using h) d hd)
  have hs : sleepSessions s = s := by
    unfold sleepSessions
    split
    · rename_i t h
      have := q.entry t h
      rw [if_neg (by omega)]
    · rfl
  have hi : ignProgress s = s := by
    unfold ignProgress
    simp [q.ign]
  have hu : unlockFollow s = s := by
    unfold unlockFollow
    split
    · rename_i n h
      rw [if_pos (q.unlock n h)]
    · rfl
  unfold follow
  rw [h0, h1, hg, hs, hi, hu]

/-- Where nothing hangs on the state, the end of a step changes nothing. -/
theorem settle_of_quiet {s : State} (q : Quiet s) : settle s = s := by
  unfold settle
  rw [carryAll_of_none q.react, carryAll_of_none q.react, carryAll_of_none q.react, follow_of_quiet q,
    carryAll_of_none q.react, carryAll_of_none q.react, carryAll_of_none q.react]

theorem heard_off (s : State) (h : Hdr) (ws : Nat) (hw : 32 &&& ws = 32) : (heard s h).off ws = s.off ws := by
  unfold heard
  rw [mapSession_off _ _ _ _ hw]
  exact unbox_off _ _ _ hw

/-- Taking a packet from where it was received changes no session, no held command and no token. -/
theorem unbox_sessions (s : State) (ep : Endpoint) : (unbox s ep).net.sessions = s.net.sessions := by cases ep <;> rfl
theorem unbox_held (s : State) (ep : Endpoint) : (unbox s ep).net.held = s.net.held := by cases ep <;> rfl
theorem unbox_token (s : State) (ep : Endpoint) : (unbox s ep).net.token = s.net.token := by cases ep <;> rfl
theorem unbox_boot (s : State) (ep : Endpoint) : (unbox s ep).boot = s.boot := by cases ep <;> rfl
theorem unbox_mono (s : State) (ep : Endpoint) : (unbox s ep).mono = s.mono := by cases ep <;> rfl
theorem heard_held (s : State) (h : Hdr) : (heard s h).net.held = s.net.held := unbox_held s h.ep
theorem heard_token (s : State) (h : Hdr) : (heard s h).net.token = s.net.token := unbox_token s h.ep
theorem heard_boot (s : State) (h : Hdr) : (heard s h).boot = s.boot := unbox_boot s h.ep

theorem boundSession_unbox (s : State) (ep : Endpoint) (h : Hdr) : boundSession (unbox s ep) h = boundSession s h := by
  unfold boundSession Machine.session
  rw [unbox_sessions]

theorem packetMax_unbox (s : State) (ep : Endpoint) (h : Hdr) : packetMax (unbox s ep) h = packetMax s h := by
  unfold packetMax
  rw [boundSession_unbox]

theorem outstanding_heard (s : State) (h : Hdr) (n : Nat) : outstanding (heard s h) n = outstanding s n := by
  unfold outstanding
  rw [heard_held]

theorem mustWait_heard (s : State) (h : Hdr) (code : Nat) : mustWait (heard s h) h code = mustWait s h code := by
  unfold mustWait heldOf
  rw [heard_held, outstanding_heard]

theorem limited_heard (s : State) (h : Hdr) : limited (heard s h) = limited s := by
  unfold limited
  rw [heard_boot]

theorem boundSession_heard (s : State) (h : Hdr) :
    boundSession (heard s h) h = (boundSession s h).map fun x => { x with last := s.mono } := by
  have hn : ∀ x : Session, (if x.num = h.session then { x with last := s.mono } else x).num = x.num := by
    intro x; split <;> rfl
  unfold boundSession Machine.session heard mapSession
  rw [unbox_sessions]
  simp only [List.find?_map, Function.comp_def, hn]
  cases hf : s.net.sessions.find? fun x => decide (x.num = h.session) with
  | none => simp
  | some x =>
    have hx : x.num = h.session := by
      have := List.find?_some hf
      simpa using this
    simp only [Option.map_some, hx, if_true]
    split <;> simp [hx]

theorem packetMax_heard (s : State) (h : Hdr) : packetMax (heard s h) h = packetMax s h := by
  unfold packetMax
  rw [boundSession_heard]
  cases boundSession s h <;> rfl

theorem packetMax_within (s : State) (h : Hdr) : packetMax (s.within h) h = packetMax s h := rfl

theorem takeUp_of_accepted {op : OpSpec} {h : Hdr} {p : Bytes} {n : Nat} {s : State} {i : Instr}
    (ok : Accepted op h p n s) (hw : waits (heard s h) i = false) :
    takeUp (heard s h) op.code (some op) h p i = perform (heard s h) op h p := by
  have hs : servesNow (heard s h) op.code = true := by
    have := ok.service
    unfold servesNow at this ⊢
    rwa [limited_heard]
  have hb : (op.bench && !(heard s h).boot.bench) = false := by
    rw [heard_boot]
    cases hb : op.bench with
    | false => rfl
    | true => rw [ok.bench hb]; rfl
  have ht : (op.token && decide ((heard s h).net.token ≠ some h.session)) = false := by
    rw [heard_token]
    cases ht : op.token with
    | false => rfl
    | true => rw [ok.token ht]; simp
  have hr := ok.room
  have hf := ok.flags
  have hx := ok.fixed
  have hg : gate (heard s h) op h p = none := by
    unfold gate
    rw [hs, hb, ht, hf, packetMax_heard]
    simp [ok.length, ok.layout]
    omega
  unfold takeUp
  rw [outstanding_heard, if_neg (by omega)]
  simp only [hg]
  rw [mustWait_heard, ok.prompt, hw]
  rfl

theorem command_of_fresh {op : OpSpec} {h : Hdr} {p : Bytes} {n : Nat} {s : State} {i : Instr}
    (ok : Accepted op h p n s) :
    command s op.code (some op) h p i = takeUp (heard s h) op.code (some op) h p i := by
  obtain ⟨x, hx, hrep⟩ := ok.session
  have hrep : repeated (heard s h) x h = none := by
    unfold repeated at hrep ⊢
    rwa [outstanding_heard]
  have h1 := ok.flags
  have h2 := ok.fits
  unfold command
  rw [ok.fresh, ok.served, ok.reached]
  simp only [Bool.false_eq_true, if_false, Bool.and_self, if_true]
  unfold received
  rw [packetMax_unbox, boundSession_unbox, if_neg (by rw [h1]; omega), if_neg (by rw [ok.version]; simp),
    if_neg (fun c => ok.named c.1), hx, unbox_mono]
  simp only
  rw [show mapSession (unbox s h.ep) h.session (fun x => { x with last := s.mono }) = heard s h from rfl, hrep]

/-- An accepted command has the effect of its opcode's body, and is answered with what that gives. -/
theorem command_of_accepted {op : OpSpec} {h : Hdr} {p : Bytes} {s : State} {i : Instr} (a : Ans)
    (ha : op.body (atBody s h) p = a) (ok : Accepted op h p a.data.length s) (hw : waits (heard s h) i = false) :
    command s op.code (some op) h p i = replied h op.code p a := by
  have hr := ok.reply
  rw [command_of_fresh ok, takeUp_of_accepted ok hw]
  unfold perform
  rw [show op.body ((heard s h).within h) p = a from ha]
  simp only
  rw [packetMax_heard, if_neg (by omega)]
  rfl

/-- The step of an accepted command, with what follows from it in other blocks. -/
theorem host_of_accepted {op : OpSpec} {h : Hdr} {p : Bytes} {s : State} {i : Instr} (a : Ans)
    (ha : op.body (atBody s h) p = a) (ok : Accepted op h p a.data.length s) (hw : waits (heard s h) i = false) :
    host op h p i s = settle (replied h op.code p a) := by
  unfold host
  rw [command_of_accepted a ha ok hw]

/-- The step of an accepted command from which nothing follows in another block. -/
theorem hostOnly_of_accepted {op : OpSpec} {h : Hdr} {p : Bytes} {s : State} {i : Instr} (a : Ans)
    (ha : op.body (atBody s h) p = a) (ok : Accepted op h p a.data.length s) (hw : waits (heard s h) i = false) :
    hostOnly op h p i s = replied h op.code p a := by
  unfold hostOnly
  exact command_of_accepted a ha ok hw

@[simp] theorem le_length (n v : Nat) : (le n v).length = n := by
  induction n generalizing v with
  | zero => rfl
  | succ n ih => simp [le, ih]

@[simp] theorem leT_length (t : T96) : (leT t).length = 12 := by simp [leT]
@[simp] theorem leF_length (x : F32) : (leF x).length = 4 := by simp [leF]
@[simp] theorem b1_length (n : Nat) : (b1 n).length = 1 := by simp [b1]
@[simp] theorem zeros_length (n : Nat) : (zeros n).length = n := by simp [zeros]
@[simp] theorem leI_length (n : Nat) (v : Int) : (leI n v).length = n := by simp [leI]
@[simp] theorem tenths_length (n : Nat) (x : F32) : (tenths n x).length = n := by
  unfold tenths
  split <;> simp

end Sys2Proof
end

