-- ==== Sys2Proof/Laws/Tick.lean ====
section
/-! SUPPORT. What one period of the tick leaves alone. -/

namespace Sys2Proof.Machine

@[simp] theorem calmTick_off (s : State) (ws : Nat) (hw : 8388609 &&& ws = 8388609) : (calmTick s).off ws = s.off ws := by
  refine off_of_subset hw ?_
  simp [calmTick]

@[simp] theorem can2Stops_off (s : State) (ws : Nat) (hw : 1140319204 &&& ws = 1140319204) :
    (can2Stops s).off ws = s.off ws := by
  refine off_of_subset hw ?_
  unfold can2Stops
  split
  · rfl
  · split <;> simp

/-- What a period brings by itself: clocks, streams, ISO-TP, switch ports, fusion's rate, the contradictions of the
fusion, and the stop of CAN2 that its last reply held back. -/
@[simp] theorem runTick_off (s : State) (ws : Nat) (hw : 1140319205 &&& ws = 1140319205) : (runTick s).off ws = s.off ws := by
  refine off_of_subset hw ?_
  simp [runTick]

theorem resumeOne_of_none {s : State} (h : s.net.held = []) : resumeOne s = s := by
  unfold resumeOne
  rw [h]

/-- A command that waited is completed as `exec` has it: memory stays canonical, and the queue is left alone. -/
theorem resumeOne_keeps (s : State) : MemKeeps s (resumeOne s) ∧ (resumeOne s).pending = s.pending := by
  unfold resumeOne
  split
  · exact ⟨id, rfl⟩
  · split
    · exact ⟨id, rfl⟩
    · rename_i e r _ _
      generalize hx : exec e.cmd { s with net := { s.net with held := r } } = o
      cases o with
      | next t =>
        have h1 := exec_memKeeps _ _ hx
        have h2 := exec_pending _ _ hx
        simp only [MemKeeps] at h1 ⊢
        exact ⟨h1, h2⟩
      | fault _ => exact ⟨id, rfl⟩
      | refused _ => exact ⟨id, rfl⟩

/-- A period with no command keeps memory canonical and leaves the queue alone. -/
theorem tick_keeps (s : State) : MemKeeps s (tick s) ∧ (tick s).pending = s.pending := by
  unfold tick
  split
  · exact ⟨id, rfl⟩
  · split
    · exact ⟨(memKeeps_of_off (calmTick_off s _ (Nat.and_self _)) rfl).trans (resumeOne_keeps _).1,
        (resumeOne_keeps _).2.trans (pending_of_off (calmTick_off s _ (Nat.and_self _)) rfl)⟩
    · exact ⟨(memKeeps_of_off (runTick_off s _ (Nat.and_self _)) rfl).trans (resumeOne_keeps _).1,
        (resumeOne_keeps _).2.trans (pending_of_off (runTick_off s _ (Nat.and_self _)) rfl)⟩

end Sys2Proof.Machine
end

