-- ==== Sys2Proof/Tests/Slice0.lean ====
section
/-! SUPPORT. The model's own tests: a command refused by each check of `WellFormed`, a state and operands that
meet the hypotheses of each statement, clause by clause, and a few steps with results worked out from the spec. -/

namespace Sys2Proof.Tests

open Sys2Proof Sys2Proof.Machine

-- Each theorem is checked before the next one begins: many at once ask for too many threads.
set_option Elab.async false

/-! ## The state and the header the tests start from -/

/-- The module in RUN with firmware running: pairs 0 to 2 ACTIVE and pair 3 SPARE, the bench mark, and one session
that holds the token. -/
def up : State :=
  { State.reset with
    mono := 1000000000
    boot := { phase := 10, bench := true, limited := false }
    pairs := [(0, { role := .active }), (1, { role := .active }), (2, { role := .active }), (3, { role := .spare })]
    net :=
      { sessions := [{ num := 1, ep := .udp 1 1, maxPkt := 8192, keepMs := 10000, name := [], last := 0,
                       streams := [{ typ := 0xF001 }, { typ := 0xF002 }] }]
        token := some 1, counter := 2 } }

/-- A command's header in that session. -/
def hd : Hdr := { ep := .udp 1 1, version := 1, flags := 0, session := 1, seq := 7 }

/-- The state after a command. -/
def after (i : Instr) (s : State) : State := match exec i s with | .next t => t | _ => s

/-- The checks that `Accepted` lists, as a value. -/
def acceptedB (op : OpSpec) (h : Hdr) (p : Bytes) (n : Nat) (s : State) : Bool :=
  decide (h.taken = false ∧ Machine.served s h.ep = true ∧ reached s h op.code p = true ∧ h.flags = 0 ∧ h.version = 1 ∧
    16 + p.length ≤ packetMax s h ∧ h.session ≠ 0) &&
  (match boundSession s h with | some x => decide (repeated s x h = none) | none => false) &&
  decide ((outstanding s h.session).length < 16 ∧ mustWait s h op.code = false ∧ servesNow s op.code = true ∧
    (op.bench = true → s.boot.bench = true) ∧ (op.token = true → s.net.token = some h.session) ∧
    p.length = op.len p ∧ firstBad (op.layout p) = none ∧ 20 + op.reply p ≤ packetMax s h ∧ 20 + n ≤ packetMax s h)

theorem accepted_of {op : OpSpec} {h : Hdr} {p : Bytes} {n : Nat} {s : State} (a : acceptedB op h p n s = true) :
    Accepted op h p n s := by
  simp only [acceptedB, Bool.and_eq_true, decide_eq_true_eq] at a
  obtain ⟨⟨⟨a1, a2, a3, a4, a5, a6, a7⟩, b⟩, c1, c2, c3, c4, c5, c6, c7, c8, c9⟩ := a
  refine ⟨a1, a2, a3, a4, a5, a6, a7, ?_, c1, c2, c3, c4, c5, c6, c7, c8, c9⟩
  split at b
  · next x hx => exact ⟨x, hx, by simpa using b⟩
  · cases b

/-! ## Well-formed and ill-formed commands -/

theorem test_wellFormed :
    (Instr.keepalive hd []).WellFormed = true ∧ (Instr.sensorTunnelWrite hd [0#8, 1#8] (.ack [])).WellFormed = true ∧
    (Instr.pipExportDelete hd [0#8, 0#8, 0#8, 0#8, 3#8]).WellFormed = true ∧
    (Instr.channelHoldExpiry 23).WellFormed = true ∧ (Instr.canStopComplete 9).WellFormed = true ∧
    (Instr.undefinedOpcode hd 0x0605 []).WellFormed = false ∧
      (Instr.undefinedOpcode hd 0x0608 []).WellFormed = true := by
  decide

theorem test_illFormed_header :
    (Instr.keepalive { hd with version := 256 } []).WellFormed = false ∧
    (Instr.keepalive { hd with flags := 256 } []).WellFormed = false ∧
    (Instr.keepalive { hd with session := 65536 } []).WellFormed = false ∧
    (Instr.keepalive { hd with seq := 65536 } []).WellFormed = false ∧
    (Instr.keepalive { hd with taken := true } []).WellFormed = false ∧
    (Instr.keepalive { hd with ep := .udp (2 ^ 128) 0 } []).WellFormed = false ∧
    (Instr.keepalive { hd with ep := .udp 0 65536 } []).WellFormed = false := by
  decide

theorem test_illFormed_length (p : Bytes) (h : p.length = 65536) : (Instr.keepalive hd p).WellFormed = false := by
  simp [Instr.WellFormed, hostOk, h]

theorem test_illFormed_row :
    (Instr.sensorTunnelRead hd [0#8, 1#8] (.ack [])).WellFormed = false ∧
    (Instr.sensorTunnelWrite hd [0#8, 0#8] (.ack [])).WellFormed = false ∧
    (Instr.sensorTunnelAppendStart hd [0#8, 3#8]).WellFormed = false ∧
    (Instr.sensorTunnelAppendStop hd [0#8, 2#8]).WellFormed = false ∧
    (Instr.sensorTunnelClearLists hd [0#8, 5#8]).WellFormed = false ∧
    (Instr.pipExportReadHeader hd [0#8, 0#8, 0#8, 0#8, 1#8]).WellFormed = false ∧
    (Instr.pipExportReadSamples hd []).WellFormed = false ∧ (Instr.pipExportProcess hd []).WellFormed = false ∧
    (Instr.pipExportDelete hd []).WellFormed = false := by
  decide

theorem test_illFormed_index :
    (Instr.groupHoldExpiry 64).WellFormed = false ∧ (Instr.channelHoldExpiry 24).WellFormed = false ∧
    (Instr.supervisorCheckFailed (2 ^ 32)).WellFormed = false ∧
    (Instr.logicFeedRangeChange 3 true 0).WellFormed = false ∧ (Instr.vref5LimitTimeout 2).WellFormed = false ∧
    (Instr.firewallDrop 4 0 0 0).WellFormed = false ∧ (Instr.accessRefused 256 0 0).WellFormed = false ∧
    (Instr.loopSample 512).WellFormed = false ∧ (Instr.hitQuietEnd ⟨32, [], []⟩).WellFormed = false ∧
    (Instr.countingWindowEnd [⟨32, 0, 0⟩]).WellFormed = false ∧
    (Instr.countingWindowEnd (List.replicate 5 ⟨0, 0, 0⟩)).WellFormed = false ∧
    (Instr.ainUpdate 16 [] []).WellFormed = false ∧ (Instr.qerrExpiry 8).WellFormed = false ∧
    (Instr.excitationLimitTimeout 4).WellFormed = false ∧ (Instr.inputConfigCommit 5 1).WellFormed = false ∧
    (Instr.inputConfigCommit 0 0).WellFormed = false ∧ (Instr.classifierSetCommit 4).WellFormed = false ∧
    (Instr.cvOverLimitTimeout 6).WellFormed = false ∧ (Instr.quietWindowExpiry 2).WellFormed = false ∧
    (Instr.dieGateOpen 12 0).WellFormed = false ∧ (Instr.weightsWriteComplete 2).WellFormed = false ∧
    (Instr.antennaBiasChange 4 0).WellFormed = false ∧ (Instr.bitSyncTimeout 48).WellFormed = false ∧
    (Instr.lostPrnExpiry 0).WellFormed = false ∧ (Instr.lostPrnExpiry 33).WellFormed = false ∧
    (Instr.domainStartCommit 4).WellFormed = false ∧ (Instr.gateListStart 0).WellFormed = false ∧
    (Instr.gateListStart 7).WellFormed = false ∧ (Instr.portConfigApply 9).WellFormed = false ∧
    (Instr.canStopComplete 10).WellFormed = false ∧ (Instr.faultSourceReturned ⟨256, 3⟩).WellFormed = false ∧
    (Instr.heartbeatWrite 4).WellFormed = false ∧ (Instr.energyMeter [(16, 0)] 0 0).WellFormed = false ∧
    (Instr.perturbationExpiry 16).WellFormed = false ∧ (Instr.balinePortMismatchDrop 0).WellFormed = false ∧
    (Instr.balinePortMismatchDrop 9).WellFormed = false ∧ (Instr.neighbourDiscovery (2 ^ 128) 0).WellFormed = false ∧
    (Instr.icmpv6Echo 0 65536 0 []).WellFormed = false ∧ (Instr.isotpFrameReceived 0x7A1 []).WellFormed = false ∧
    (Instr.sessionKeepaliveTimeout 65536).WellFormed = false := by
  decide

/-! ## Every host command is accepted somewhere -/

/-- A range of memory for READ_MEM and WRITE_MEM: address, width and number of bytes. -/
def range (a w n : Nat) : Bytes := le 8 a ++ b1 w ++ b1 0 ++ le 2 n

theorem wit_system :
    Accepted opGetIdentity hd [] 56 up ∧ Accepted opKeepalive hd [] 20 up ∧ Accepted opGetState hd (le 4 0x0C09) 16 up ∧
    Accepted opCloseSession hd [] 0 up ∧ Accepted opTakeOwnership hd [] 0 up ∧ Accepted opReleaseOwnership hd [] 0 up ∧
    Accepted opSubscribe hd (le 4 0xF001) 0 up ∧ Accepted opUnsubscribe hd (le 4 0xF001) 0 up ∧
    Accepted opStart hd (le 4 0x0C09) 0 up ∧ Accepted opStop hd (le 4 0x0C09) 0 up ∧
    Accepted opResetCore hd (le 4 0xA55A) 0 up ∧ Accepted opSaveSettings hd (le 4 0x10C02) 0 up ∧
    Accepted opLogErase hd (le 4 3) 0 up ∧ Accepted (opReadMem false) hd (range 0x100000000 8 1024) 1024 up ∧
    Accepted (opReadMem true) hd (range 0x100000000 1 1) 0 up ∧
    Accepted opWriteMem hd (range 0x60000000 1 2 ++ le 2 0xBEEF) 0 up := by
  refine ⟨?_, ?_, ?_, ?_, ?_, ?_, ?_, ?_, ?_, ?_, ?_, ?_, ?_, ?_, ?_, ?_⟩ <;> exact accepted_of (by decide +kernel)

theorem wit_power :
    Accepted opPwrSetLatency hd (le 8 50) 0 up ∧ Accepted opPwrRequestState hd (le 8 5) 4 up ∧
    Accepted opPwrSetBudget hd (le 4 0 ++ leF (fOfNat 20)) 4 up ∧
      Accepted opPwrSetBudget hd (le 4 17 ++ leF (fOfNat 150)) 4 up ∧
    Accepted opPwrSetBudget hd (le 4 15 ++ leF f0) 4 up ∧
    Accepted opPwrGetBudget hd [] 380 up ∧ Accepted opPwrStatus hd [] 72 up := by
  refine ⟨?_, ?_, ?_, ?_, ?_, ?_, ?_⟩ <;> exact accepted_of (by decide +kernel)

/-- A table block of one entry, the whole of a table of kind 1, last block. -/
def tableBlock : Bytes := le 2 1023 ++ [1#8, 3#8] ++ leF f0 ++ leF f1 ++ leF f0 ++ le 2 255 ++ le 2 1 ++ leF f1

theorem wit_loops :
    Accepted opLoopConfig hd (defCfg (.loop 511)) 0 up ∧ Accepted opLoopRead hd (le 4 511) 148 up ∧
    Accepted opLoopSetReference hd (le 4 1 ++ le 4 511 ++ leF f1) 0 up ∧
    Accepted opLoopSetFeedforward hd (le 4 1 ++ le 4 0 ++ leF f1) 0 up ∧
    Accepted opLoopStatus hd (le 2 480 ++ le 2 32) 908 up ∧ Accepted opCleCapacity hd [] 24 up ∧
    Accepted opTableWrite hd tableBlock 0 up ∧ Accepted opTableRead hd (le 2 1023 ++ le 2 0 ++ le 4 256) 1044 up ∧
    Accepted opGroupConfig hd (defCfg (.group 63)) 0 up ∧ Accepted opGroupRead hd (le 4 63) 0 up := by
  refine ⟨?_, ?_, ?_, ?_, ?_, ?_, ?_, ?_, ?_, ?_⟩ <;> exact accepted_of (by decide +kernel)

/-- A bias and a gain of 0 for set 3: one weight and one image entry, the last block. -/
def setBlock : Bytes := b1 3 ++ b1 2 ++ le 2 675 ++ le 2 1 ++ zeros 6 ++ leF f1

theorem wit_sensing :
    Accepted opImpConfig hd ([31#8, 1#8, 1#8, 0#8] ++ le 2 5 ++ le 2 20 ++ le 2 100 ++ le 2 50 ++ zeros 68) 0 up ∧
    Accepted opClassifierLoad hd setBlock 0 up ∧
    Accepted opAinConfig hd (b1 15 ++ zeros 7 ++ leF f1 ++ leF f0 ++ leF f0 ++ leF f1) 0 up ∧
    Accepted opFinConfig hd (le 4 7 ++ leF (fOfNat 3) ++ leF f1 ++ le 2 1 ++ b1 1 ++ b1 0 ++ leF f1) 0 up ∧
    Accepted opPosConfig hd ([3#8, 0#8, 0#8, 0#8, 0#8, 1#8, 0#8, 0#8] ++ leF (fOfNat 5) ++ leF f1 ++ le 4 1000 ++ leF f0) 0 up ∧
    Accepted opImuConfig hd [1#8, 3#8, 3#8, 2#8] 0 up ∧
    Accepted opSenseRead hd ([1#8, 0#8, 16#8, 0#8] ++ le 4 0) 400 up ∧
    Accepted opSenseRead hd ([6#8, 31#8, 20#8, 0#8] ++ le 4 0) 400 up ∧
    Accepted opFlowCalibrate hd (le 4 31 ++ zeros 12 ++ (le 6 10 ++ zeros 6) ++ leF f1) 16 up := by
  refine ⟨?_, ?_, ?_, ?_, ?_, ?_, ?_, ?_, ?_⟩ <;> exact accepted_of (by decide +kernel)

/-- One segment of a path, straight, 10 m. -/
def segment : Bytes := zeros 20 ++ leF (fOfNat 10) ++ leF f0
/-- One entry of PSP_MAP: PSP 63 from source 0. -/
def mapEntry : Bytes := b1 63 ++ zeros 27 ++ leF f1
def yieldOff : Bytes :=
  zeros 4 ++ leF f0 ++ leF (fOfNat 10) ++ le 2 1000 ++ le 2 0 ++ leF (fOfNat 9) ++ zeros 16 ++ leF f0

theorem wit_planner :
    Accepted opPlannerModel hd planFeedDefault 0 up ∧ Accepted opPlannerModel hd (planMvDefault 7) 0 up ∧
    Accepted opPlannerModel hd (planCvDefault 5) 0 up ∧ Accepted opPlannerObjectives hd planObjDefault 0 up ∧
    Accepted opPspMap hd (le 4 1 ++ mapEntry) 0 up ∧ Accepted opPlannerStatus hd [] 396 up ∧
    Accepted opGuidanceConfig hd guidDefault 0 up ∧ Accepted opPathLoad hd (le 4 1 ++ segment) 0 up ∧
    Accepted opPoseSource hd (le 2 2 ++ le 2 48622 ++ zeros 12 ++ leF f1 ++ zeros 4) 0 up ∧
    Accepted opYieldConfig hd yieldOff 0 up := by
  refine ⟨?_, ?_, ?_, ?_, ?_, ?_, ?_, ?_, ?_, ?_⟩ <;> exact accepted_of (by decide +kernel)

theorem wit_channels :
    Accepted (opLswConfig up) hd (defCfg (.chan 23)) 0 up ∧ Accepted (opLswConfig up) hd (defCfg (.chan 0)) 0 up ∧
    Accepted opLswCommand hd (le 4 1 ++ le 4 23 ++ leF f1) 0 up ∧ Accepted opLswStatus hd [0#8, 24#8, 0#8, 0#8] 780 up ∧
    Accepted opLswClear hd (le 4 0xFFFFFF) 0 up := by
  refine ⟨?_, ?_, ?_, ?_, ?_⟩ <;> exact accepted_of (by decide +kernel)

/-- A point stream of stride 12: x, y and z as floats. -/
def streamCfg : Bytes :=
  [3#8, 6#8, 1#8, 1#8] ++ le 2 2368 ++ zeros 6 ++ le 2 0 ++ le 2 0 ++ le 2 0 ++ le 2 12 ++ le 2 100 ++ [0#8, 6#8] ++
    [0#8, 4#8, 8#8, 0xFF#8] ++ (leF f1 ++ leF f1 ++ leF f1 ++ leF f0) ++ [0#8, 0xFF#8, 0#8, 0#8] ++ zeros 28 ++
    leF f1 ++ leF (fOfNat 100) ++ le 4 1000

theorem wit_fusion :
    Accepted opFusConfig hd egoDefault 0 up ∧ Accepted opFusConfig hd fusGridDefault 0 up ∧
    Accepted opFusConfig hd (fusCamDefault 7) 0 up ∧
      Accepted opFusWeights hd (le 4 1 ++ le 4 0 ++ le 4 1 ++ le 4 0 ++ b1 5) 0 up ∧
    Accepted opFusHeadPolicy hd (fusHeadDefault 2) 0 up ∧ Accepted opFusPointStream hd streamCfg 0 up ∧
    Accepted opFusStatus hd [] 220 up := by
  refine ⟨?_, ?_, ?_, ?_, ?_, ?_, ?_⟩ <;> exact accepted_of (by decide +kernel)

theorem wit_cameras :
    Accepted opPipeConfig hd (pipeDefault 7) 0 up ∧
    Accepted opExposureCommit hd (le 4 7 ++ le 4 1 ++ leF (fOfNat 100) ++ leF f1 ++ zeros 24) 8 up ∧
    Accepted (opSensorTunnel (.ack [0#8])) hd ([7#8, 0#8, 0#8, 0#8, 32#8, 0#8, 0#8, 0#8]) 32 up ∧
    Accepted (opSensorTunnel (.nack 0)) hd ([7#8, 1#8, 0#8, 0#8, 1#8, 0#8, 0#8, 0#8, 9#8]) 0 up ∧
    Accepted (opSensorTunnel (.ack [])) hd ([7#8, 2#8, 0#8, 0#8, 1#8, 0#8, 0#8, 0#8, 9#8]) 0 up ∧
    Accepted (opSensorTunnel (.ack [])) hd ([7#8, 3#8, 0#8, 0#8, 1#8, 0#8, 0#8, 0#8, 9#8]) 0 up ∧
    Accepted (opSensorTunnel (.ack [])) hd ([7#8, 4#8, 0#8, 0#8, 0#8, 0#8, 0#8, 0#8]) 0 up ∧
    Accepted opPipeStatus hd (le 4 7) 76 up := by
  refine ⟨?_, ?_, ?_, ?_, ?_, ?_, ?_, ?_⟩ <;> exact accepted_of (by decide +kernel)

theorem wit_gnss :
    Accepted opGnssConfig hd gnssDefault 0 up ∧ Accepted opNotchConfig hd notchDefault 0 up ∧
    Accepted opPipCapture hd (le 4 32 ++ zeros 12) 8 up ∧ Accepted opPipExport hd (le 4 1 ++ zeros 12) 40 up ∧
    Accepted opPipExport hd (le 4 1 ++ le 4 1 ++ le 4 0 ++ le 4 512) 512 up ∧
    Accepted opPipExport hd (le 4 1 ++ le 4 2 ++ zeros 8) 0 up ∧
      Accepted opPipExport hd (le 4 1 ++ le 4 3 ++ zeros 8) 0 up ∧
    Accepted opGnssStatus hd [] 516 up := by
  refine ⟨?_, ?_, ?_, ?_, ?_, ?_, ?_, ?_⟩ <;> exact accepted_of (by decide +kernel)

def gateList : Bytes := [6#8, 1#8, 0#8, 1#8] ++ le 4 1000000 ++ zeros 8 ++ le 4 0xFF ++ le 4 1000000

theorem wit_time :
    Accepted opTdConfig hd (tdDefault 3) 0 up ∧ Accepted opGetTime hd (le 4 3) 40 up ∧
    Accepted opRateOverride hd (le 4 3 ++ le 8 incLo) 0 up ∧
      Accepted opPortConfig hd ([0#8, 2#8, 1#8, 0#8] ++ (portDefault 0).drop 4) 0 up ∧
    Accepted opGateConfig hd gateList 0 up ∧ Accepted opTimeStatus hd (le 4 3) 160 up := by
  refine ⟨?_, ?_, ?_, ?_, ?_, ?_⟩ <;> exact accepted_of (by decide +kernel)

theorem wit_can :
    Accepted opCanConfig hd (canDefault 9) 0 up ∧ Accepted opCanFilter hd ([9#8, 63#8, 1#8, 0#8] ++ zeros 20) 0 up ∧
    Accepted opCanTransmit hd (le 4 9 ++ le 4 0x7FF ++ zeros 16) 0 up ∧
    Accepted opCanStatus hd (le 4 9) 72 up ∧ Accepted opCanAddressClaim hd ([1#8, 0#8, 0#8, 0#8] ++ zeros 12) 0 up := by
  refine ⟨?_, ?_, ?_, ?_, ?_⟩ <;> exact accepted_of (by decide +kernel)

theorem wit_faults :
    Accepted opFaultRead hd (le 6 0 ++ le 4 1) 100 up ∧ Accepted opFaultClear hd (le 4 3 ++ zeros 32) 32 up ∧
    Accepted opFaultSourceConfig hd [0x08#8, 2#8, 0#8, 0#8] 0 up ∧ Accepted opFaultThreshold hd (le 4 4) 0 up ∧
    Accepted opCaptureRead hd [] 48 up := by
  refine ⟨?_, ?_, ?_, ?_, ?_⟩ <;> exact accepted_of (by decide +kernel)

theorem wit_panel :
    Accepted opPanelConfig hd panelDefault 0 up ∧ Accepted opPanelFrame hd (le 4 1 ++ le 4 0 ++ zeros 96) 0 up ∧
    Accepted opPanelStatus hd (le 4 0xFF) 1000 up := by
  refine ⟨?_, ?_, ?_⟩ <;> exact accepted_of (by decide +kernel)

theorem wit_update :
    Accepted opUpdateBegin hd (zeros 260) 0 up ∧ Accepted opUpdateBegin hd (le 4 1 ++ zeros 256) 0 up ∧
    Accepted opUpdateBlock hd (le 4 0 ++ le 4 1 ++ b1 9) 0 up ∧ Accepted opUpdateCommit hd (le 4 0x5AA5) 0 up ∧
    Accepted opUpdateStatus hd [] 28 up := by
  refine ⟨?_, ?_, ?_, ?_, ?_⟩ <;> exact accepted_of (by decide +kernel)

theorem wit_test :
    Accepted opPerturbSet hd ([15#8, 6#8] ++ le 2 23 ++ zeros 16) 0 up ∧
    Accepted opPerturbClear hd (le 4 0xFFFF) 0 up ∧ Accepted opTestStatus hd [] 276 up := by
  refine ⟨?_, ?_, ?_⟩ <;> exact accepted_of (by decide +kernel)

theorem wit_EmptyQueueIsOneTick :
    up.pending = [] ∧ State.reset.boot.phase < 2 ∧ ({ up with pwr := { state := 5 } } : State).pwr.state = 5 ∧
    2 ≤ up.boot.phase ∧ up.pwr.state ≠ 3 ∧ up.pwr.state ≠ 5 ∧
      ({ up with pwr := { state := 3 } } : State).pwr.state = 3 ∧
    up.net.held = [] := by
  decide +kernel

/-- A command that waited for a meter interval and one that waits for a later one. -/
def heldCmd : Held := { cmd := .pwrStatus { hd with taken := true } [], session := 1, seq := 7, code := 0x0204 }

theorem wit_EmptyQueueIsOneTick_held :
    let s : State := { up with net := { up.net with held := [heldCmd] } }
    s.net.held = heldCmd :: [] ∧ waits s heldCmd.cmd = false ∧
      (∃ t, exec heldCmd.cmd { s with net := { s.net with held := [] } } = .next t) := by
  refine ⟨rfl, by decide +kernel, ?_⟩
  exact ⟨_, rfl⟩

theorem wit_FrontCommandRuns :
    (let s : State := { up with pending := [.ignRise, .ignFall] }; s.pending = .ignRise :: [.ignFall]) := rfl

theorem wit_StepKeepsInv : MemInv up ∧ ∃ s', step up = .next s' := ⟨by unfold MemInv; decide, _, rfl⟩

theorem wit_EveryStepCompletes :
    let s : State := { up with pending := [.ignRise] }
    s.pending = .ignRise :: [] ∧ ∃ s', exec .ignRise up = .next s' := ⟨rfl, _, rfl⟩

theorem wit_MemoryFrame : touchesMemory .ignFall = false ∧ ∃ s', exec .ignFall up = .next s' := ⟨by decide, _, rfl⟩

theorem wit_QuietStateSettles : Quiet up ∧ up.pwr.ignSeq = 0 :=
  ⟨⟨by decide, by decide +kernel, by decide +kernel, by decide, by decide, by decide⟩, by decide⟩

/-- A command on CAN2, whose packet has come in whole. -/
def canHd : Hdr := { hd with ep := .can2 }
def boxed : State :=
  { up.setFn (canFid 2) { st := .running } with net := { up.net with isoMsg := [commandBytes canHd 0x0103 []] } }
/-- The session has a command that waits, or sixteen. -/
def holding (n : Nat) : State :=
  { up with net := { up.net with
      held := (List.range n).map fun k => { cmd := .keepalive hd [], session := 1, seq := k, code := 0x0103 } } }

theorem wit_CommandChecks_arrival :
    hd.taken = false ∧ Machine.served State.reset hd.ep = false ∧ Machine.served up hd.ep = true ∧
    reached up { hd with sumOk := false } 0x0103 [] = false ∧ reached up hd 0x0103 [] = true ∧
    ({ hd with flags := 1 } : Hdr).flags % 4 ≠ 0 ∧ packetMax up hd < 16 + (zeros 8177).length ∧
    16 + (zeros 8176).length ≤ packetMax up hd ∧ ({ hd with version := 2 } : Hdr).version ≠ 1 ∧
    boundSession up { hd with session := 2 } = none ∧ reached up { hd with session := 2 } 0x0103 [] = true ∧
    (let h := { hd with session := 0 }; (0x0102 ≠ 0x0100 ∧ 0x0102 ≠ 0x0101) ∧ boundSession up h = none) ∧
    canHd.ep = .can2 ∧ reached boxed canHd 0x0103 [] = true ∧ reached boxed canHd 0x0104 [] = false ∧
    reached up { hd with toAll := true, session := 0 } 0x0100 [] = true ∧
    reached up { hd with toAll := true } 0x0103 [] = false := by
  decide +kernel

theorem wit_CommandChecks_repeat :
    (∃ x, boundSession (holding 8) hd = some x ∧ repeated (holding 8) x hd = some none) ∧
    hd.seq ∈ outstanding (holding 8) hd.session ∧ hd.seq ∉ outstanding up hd.session ∧
    (let x : Session := { num := 1, ep := .udp 1 1, maxPkt := 8192, keepMs := 500, name := [], last := 0, streams := []
                          answered := [(7, replyOf hd 0x0103 0 0 [])] }
     x.answered.find? (fun e => decide (e.1 = hd.seq)) = some (7, replyOf hd 0x0103 0 0 []) ∧
     ∀ e ∈ x.answered, e.1 ≠ (8 : Nat)) := by
  exact ⟨⟨_, rfl, by decide +kernel⟩, by decide +kernel, by decide +kernel, by decide +kernel⟩

theorem wit_CommandChecks_verdict :
    hd.session ≠ 0 ∧ ¬ (outstanding (holding 16) hd.session).length < 16 ∧
      (outstanding (holding 15) hd.session).length < 16 ∧
    servesNow { up with boot := { phase := 10, bench := true, limited := true } } 0x0300 = false ∧
      servesNow up 0x0300 = true ∧
    (let s : State := { up with boot := { up.boot with bench := false } }; opPerturbSet.bench = true ∧
      s.boot.bench = false) ∧
    opLoopConfig.token = true ∧ ({ up with net := { up.net with token := none } } : State).net.token ≠ some hd.session ∧
    up.net.token = some hd.session ∧ [0#8].length ≠ opLoopRead.len [0#8] ∧ 8 ≤ ({ hd with flags := 8 } : Hdr).flags ∧
    (let p := le 4 512; p.length = opLoopRead.len p ∧ hd.flags < 8 ∧ firstBad (opLoopRead.layout p) = some 0) ∧
    (let p := range 0x100000000 8 1024; p.length = (opReadMem false).len p ∧
      firstBad ((opReadMem false).layout p) = none ∧
      20 + (opReadMem false).reply p ≤ packetMax up hd) ∧
    (let s : State := { up with net := { up.net with sessions := up.net.sessions.map fun x => { x with maxPkt := 1232 } } }
     packetMax s hd < 20 + (opReadMem false).reply (range 0x100000000 8 2048)) := by
  decide +kernel

theorem wit_Replies :
    hd.session ≠ 0 ∧ (∃ x, session up hd.session = some x) ∧ (∃ a b, hd.ep = .udp a b) ∧ canHd.ep = .can2 ∧
    (let s : State := { up with net := { up.net with sessions := up.net.sessions.map fun x => { x with maxPkt := 75 } } }
     packetMax s hd < 20 + (opGetIdentity.body (s.within hd) []).data.length) := by
  refine ⟨by decide, ⟨_, rfl⟩, ⟨_, _, rfl⟩, rfl, ?_⟩
  show 75 < 20 + _
  simp [opGetIdentity, okWith, b1, le, zeros]

theorem wit_IdentityAndStateReads :
    Accepted opGetIdentity hd [] 56 up ∧ Accepted opKeepalive hd [] 20 up ∧
      Accepted opGetState hd (le 4 0x0C09) 16 up :=
  ⟨wit_system.1, wit_system.2.1, wit_system.2.2.1⟩

/-- An OPEN_SESSION that the module takes up, over the network and over CAN2. -/
def opening : Hdr := { hd with session := 0, ep := .udp 2 2 }
def openP : Bytes := le 2 8192 ++ le 2 500 ++ zeros 16
def openCan : Hdr := { hd with session := 0, ep := .can2 }
def openCanP : Bytes := le 2 64 ++ le 2 60000 ++ zeros 16
def openBox : State :=
  { up.setFn (canFid 2) { st := .running } with net := { up.net with isoMsg := [commandBytes openCan 0x0101 openCanP] } }

theorem wit_SessionsAndToken_open :
    opening.taken = false ∧ Machine.served up opening.ep = true ∧ reached up opening 0x0101 openP = true ∧
      opening.flags = 0 ∧
    opening.version = 1 ∧ opening.session = 0 ∧ openP.length = 20 ∧ 36 ≤ packetMax up opening ∧
    (1232 ≤ rd openP 0 2 ∧ rd openP 0 2 ≤ 8192) ∧ 500 ≤ rd openP 2 2 ∧ rd openP 2 2 ≤ 60000 ∧
    up.net.openReplies = [] ∧ ¬ 4 ≤ up.net.sessions.length ∧
    (let s : State := { up with net := { up.net with sessions := List.flatten (List.replicate 4 up.net.sessions) } }
     4 ≤ s.net.sessions.length) ∧
    (openCan.taken = false ∧ Machine.served openBox openCan.ep = true ∧ reached openBox openCan 0x0101 openCanP = true ∧
      openCanP.length = 20 ∧ 36 ≤ packetMax openBox openCan ∧ (64 ≤ rd openCanP 0 2 ∧ rd openCanP 0 2 ≤ 4095) ∧
      500 ≤ rd openCanP 2 2 ∧ rd openCanP 2 2 ≤ 60000) ∧
    (let r : OpenReply := { ep := opening.ep, seq := opening.seq, at_ := 0, reply := replyOf opening 0x0101 0 0 [] }
     let s : State := { up with net := { up.net with openReplies := [r] } }
     s.net.openReplies.find? (fun r => decide (r.ep = opening.ep ∧
       r.seq = opening.seq) && !s.past r.at_ (secT 10)) = some r) := by
  decide +kernel

theorem wit_SessionsAndToken :
    Accepted (opOpenSession hd) hd openP 0 up ∧ Accepted opCloseSession hd [] 0 up ∧
      Accepted opTakeOwnership hd [] 0 up ∧
    Accepted opReleaseOwnership hd [] 0 up ∧ Accepted opSubscribe hd (le 4 0xF001) 0 up ∧
    Accepted opUnsubscribe hd (le 4 0xF001) 0 up ∧
    (up.upd.defaulted = none ∧ ({ up with upd := { defaulted := some (1, 2) } } : State).upd.defaulted = some (1, 2)) ∧
    ({ up with net := { up.net with token := none } } : State).net.token = none ∧ up.net.token = some hd.session ∧
    (∃ x, session up 1 = some x ∧ x.ep ≠ .can2) ∧
    (let s : State := { boxed with net := { boxed.net with sessions := up.net.sessions.map fun x => { x with ep := .can2 }
                                                           isoMsg := [commandBytes canHd 0x0106 (le 4 0xF003)] } }
     Accepted opSubscribe canHd (le 4 0xF003) 0 s ∧ ∃ x, session s 1 = some x ∧ x.ep = .can2) := by
  refine ⟨accepted_of (by decide +kernel), wit_system.2.2.2.1, wit_system.2.2.2.2.1, wit_system.2.2.2.2.2.1,
    wit_system.2.2.2.2.2.2.1, wit_system.2.2.2.2.2.2.2.1, ⟨by decide, by decide⟩, by decide, by decide, ⟨_, rfl, by decide⟩,
    accepted_of (by decide +kernel), ⟨_, rfl, by decide⟩⟩

/-- TAKE_OWNERSHIP while another session holds the token. -/
theorem wit_TakeOwnership_other :
    let s : State := { up with net := { up.net with token := some 2 } }
    Accepted opTakeOwnership hd [] 0 s ∧ s.net.token = some 2 ∧ 2 ≠ hd.session :=
  ⟨accepted_of (by decide +kernel), rfl, by decide⟩

/-- The first session's number is 1, and the counter skips 0x0000 and 0xFFFF (R87). -/
theorem test_open_session :
    let s : State := { up with net := { up.net with counter := 0xFFFE } }
    let t := after (.openSession opening openP) s
    t.net.counter = 1 ∧ (t.net.sessions.map fun x => x.num) = [1, 0xFFFE] := by
  decide +kernel

/-! ## Functions, memory, resets and power-up -/

/-- The module with a function in a lifecycle state. -/
def at_ (s : State) (f : Nat) (st : FnState) : State := s.setFn f { st := st }

theorem wit_StartAndStop :
    Accepted opStart hd (le 4 0x0C00) 0 up ∧ Accepted opStop hd (le 4 0x0C00) 0 up ∧
    limited { up with boot := { up.boot with limited := true } } = true ∧ limited up = false ∧
    (({ up with upd := { journal := 2 } } : State).upd.journal = 2 ∧ timeOrCan 0x0C00 = true ∧
      timeOrCan 0x0300 = false) ∧
    (up.st 0x0C00).idle = true ∧
    (fnCheck 0x0C00 (runFor 0x0C00 (atBody up hd))).2 = none ∧
      (fnCheck 0x0300 (runFor 0x0300 (atBody up hd))).2.isSome = true ∧
    (let s := at_ up 0x0C00 .stopping; s.st 0x0C00 = .stopping ∧ (s.fn 0x0C00).pend = none) ∧
    (let s := up.setFn 0x0C00 { st := .stopping, pend := some (1, 3) }; (s.fn 0x0C00).pend = some (1, 3)) ∧
    (at_ up 0x0C00 .running).st 0x0C00 = .running ∧
    breezeFid 0x0C00 = true ∧ breezeFid 0x0300 = false ∧
      ({ up with pwr := { entering := some 1 } } : State).pwr.entering = some 1 ∧
    (let s : State := { up with pwr := { state := 1 } }; s.pwr.entering ≠ some 1 ∧ s.pwr.state = 1) := by
  refine ⟨accepted_of (by decide +kernel), accepted_of (by decide +kernel), ?_⟩
  decide +kernel

/-- CAN2 is stopped by a command that arrives on it (13 R451). -/
theorem wit_StopHere :
    let s : State := { boxed with net := { boxed.net with sessions := up.net.sessions.map fun x => { x with ep := .can2 }
                                                          isoMsg := [commandBytes canHd 0x0109 (le 4 0x0C02)] } }
    Accepted opStop canHd (le 4 0x0C02) 0 s ∧ canHd.ep = .can2 ∧ rd (le 4 0x0C02) 0 2 = canFid 2 ∧
      s.st 0x0C02 = .running :=
  ⟨accepted_of (by decide +kernel), rfl, by decide, by decide⟩

theorem wit_ResetSaveErase :
    Accepted opResetCore hd (le 4 0xA55A) 0 up ∧ Accepted opSaveSettings hd (le 4 0x10C02) 0 up ∧
    Accepted opLogErase hd (le 4 1) 0 up ∧ Accepted opLogErase hd (le 4 2) 0 up ∧ Accepted opLogErase hd (le 4 3) 0 up ∧
    byteAt (le 4 1) 0 = 1 ∧ byteAt (le 4 2) 0 = 2 ∧ byteAt (le 4 3) 0 = 3 := by
  refine ⟨?_, ?_, ?_, ?_, ?_, by decide, by decide, by decide⟩ <;> exact accepted_of (by decide +kernel)

theorem wit_MemoryCommands :
    Accepted (opReadMem false) hd (range 0x100000000 8 1024) (rd (range 0x100000000 8 1024) 10 2) up ∧
    (Accepted (opReadMem true) hd (range 0x60000000 1 1) (rd (range 0x60000000 1 1) 10 2) up ∧
      rd (range 0x60000000 1 1) 0 8 < 0x100000000) ∧
    (Accepted (opReadMem true) hd (range 0x100000000 1 1) 0 up ∧ 0x100000000 ≤ rd (range 0x100000000 1 1) 0 8) ∧
    Accepted opWriteMem hd (range 0x60000000 1 2 ++ le 2 0xBEEF) 0 up ∧
    MemInv up := by
  refine ⟨?_, ⟨?_, by decide⟩, ⟨?_, by decide⟩, ?_, by unfold MemInv; decide⟩ <;> exact accepted_of (by decide +kernel)

/-- Two bytes written to MRAM are read back, and the bytes beside them are as before (00 R6, 03 R101). -/
theorem test_write_mem :
    let t := after (.writeMem hd (range 0x60000000 1 2 ++ le 2 0xBEEF)) up
    memGet t.mem 0x60000000 = 0xEF#8 ∧ memGet t.mem 0x60000001 = 0xBE#8 ∧
      memGet t.mem 0x60000002 = memGet up.mem 0x60000002 := by
  decide +kernel

theorem wit_Resets :
    let s := State.reset
    (s.boot.resetLow = false ∧ s.boot.refclk = true ∧ (s.boot.feedA = true ∨ s.boot.feedB = true)) ∧ s.pwr.state ≠ 5 ∧
    ({ s with pwr := { state := 5 } } : State).pwr.state = 5 ∧
    (let t : State := { s with boot := { s.boot with resetLow := true } }
     t.boot.resetLow = true ∧ t.boot.refclk = true ∧ t.boot.feedA = true) ∧
    ({ s with boot := { s.boot with resetLow := true, refclk := false } } : State).boot.refclk = false ∧
    (let t : State := { up with boot := { phase := 10, feedA := false, feedB := false, vlogA := f0, vlogB := f0, store := f0, storeFrom := some 1000000000 } }
     t.boot.logicLow = true ∧ fLe (storeNow t) f0 = true ∧ ¬ (3 ≤ t.pwr.state ∧ t.boot.keepAlive = true)) := by
  decide +kernel

/-- The module at an event of Table 1.12. -/
def phase_ (n : Nat) : State := { State.reset with boot := { phase := n } }

theorem wit_PowerUp :
    (phase_ 1).boot.phase = 1 ∧ (phase_ 2).boot.phase = 2 ∧ (phase_ 2).pwr.state ≤ 1 ∧
    ((phase_ 3).boot.phase = 3 ∧ (phase_ 3).boot.afterCore = false ∧ updating (phase_ 3) = false) ∧
    updating { phase_ 3 with upd := { journal := 3 } } = true ∧
    ((phase_ 4).boot.phase = 4 ∧ (phase_ 4).boot.resumed = false) ∧
    ((phase_ 5).boot.phase = 5 ∧ (phase_ 5).boot.loaderServes = false) ∧
    (let s : State := { phase_ 5 with upd := { journal := 4 } }
     s.boot.phase = 5 ∧ ¬ s.upd.journal ≠ 4) ∧
    (let s : State := { State.reset with boot := { phase := 3, afterCore := true } }
     s.boot.phase = 3 ∧ s.boot.afterCore = true ∧ s.boot.resumed = false ∧ ¬ s.boot.image ≠ []) ∧
    ((phase_ 6).boot.phase = 6 ∧ ((phase_ 6).pair 3).dead = false) := by
  decide +kernel

/-- An image in DRAM and a header in NOR that agree, for a digest of 48 bytes, as SHA-384 gives. -/
theorem wit_PowerUp_image (n : (Config.sha384 []).length = 48) :
    let s : State := { phase_ 3 with boot := { phase := 3, afterCore := true, image := zeros 256 }
                                     upd := { nor := some (zeros 48 ++ Config.sha384 []) } }
    s.boot.image ≠ [] ∧ Config.sha384 (bodyOf s.boot.image) = ihDigest ((norImage s).take 256) := by
  refine ⟨by decide, ?_⟩
  have b : bodyOf (zeros 256) = [] := by decide +kernel
  have t : (zeros 48 ++ Config.sha384 []).take 256 = zeros 48 ++ Config.sha384 [] :=
    List.take_of_length_le (by simp [n, zeros])
  show Config.sha384 (bodyOf (zeros 256)) = ((((zeros 48 ++ Config.sha384 []).take 256).drop 48).take 48)
  rw [b, t, List.drop_left' (by simp [zeros]), List.take_of_length_le (by omega)]

/-- Roles at event 7 (R43): a failing pair is FENCED, the first three that pass run. -/
theorem test_roles :
    let t := after (.pairRolesAssigned true false true true) (phase_ 6)
    (t.pair 0).role = .active ∧ (t.pair 1).role = .fenced ∧ (t.pair 2).role = .active ∧ (t.pair 3).role = .active := by
  decide +kernel

theorem wit_FirmwareAndCoreReset :
    (let s := { up with boot := { up.boot with phase := 7 } }; s.boot.phase = 7 ∧ 0 < activePairs s) ∧
    (let s := phase_ 7; s.boot.phase = 7 ∧ activePairs s = 0) ∧ (phase_ 8).boot.phase = 8 ∧
    ((phase_ 9).boot.phase = 9 ∧ (phase_ 9).boot.afterCalm = false) ∧
    (let s : State := { up with boot := { phase := 9, afterCalm := true } }; s.boot.phase = 9 ∧
      s.boot.afterCalm = true) ∧
    (let s : State := { up with boot := { phase := 10, coreDue := some 2 } }; s.boot.coreDue = some 2 ∧
      3 ≤ s.boot.phase) ∧
    up.boot.coreDue = none ∧
    (let s := at_ up (gFid 63) .running
     (s.st (gFid 63)).live = true ∧ (s.grp 63).hold = none ∧ (gHold (s.grpCfg 63) = 0 ∨ gHold (s.grpCfg 63) ≠ 0)) ∧
    (let s := at_ up (chFid 4) .running
     (s.st (chFid 4)).live = true ∧ (s.chan 4).hold = none ∧ cSrc (s.chCfg 4) = 0 ∧
       (chanHoldMs (s.setChan 4 { s.chan 4 with hold := some s.mono }) 4 = 0 ∨
        chanHoldMs (s.setChan 4 { s.chan 4 with hold := some s.mono }) 4 ≠ 0)) := by
  decide +kernel

/-! ## Power -/

theorem wit_PowerStates :
    Accepted opPwrSetLatency hd (le 8 50) 0 up ∧ Accepted opPwrRequestState hd (le 8 5) 4 up ∧
    Accepted opPwrRequestState hd (le 8 0) 4 up ∧ Accepted opPwrRequestState hd (le 8 4) 4 up ∧
    (updating { up with upd := { journal := 2 } } = true ∧ updating up = false) ∧
    (let s : State := { up with pwr := { entering := some 1 } }; s.pwr.entering = some 1 ∧ s.pwr.heldWake = none) ∧
    up.pwr.entering = none ∧ byteAt (le 8 0) 0 = 0 ∧ byteAt (le 8 4) 0 = 4 ∧ byteAt (le 8 5) 0 = 5 ∧
    deepest { up with pwr := { latency := 400000 } } = some 3 ∧
      deepest { up with pwr := { latency := 399999 } } = some 2 ∧
    deepest { up with pwr := { latency := 19999 } } = some 1 ∧ deepest { up with pwr := { latency := 49 } } = none ∧
    lowestNotOff (at_ up 0x0300 .running) (stateAdmits 1) = some 0x0300 ∧ lowestNotOff up (stateAdmits 5) = none ∧
    ({ up with pwr := { ign := true } } : State).pwr.ign = true ∧
      ({ up with pwr := { ign := false } } : State).pwr.ign = false := by
  refine ⟨accepted_of (by decide +kernel), accepted_of (by decide +kernel), accepted_of (by decide +kernel),
    accepted_of (by decide +kernel), ?_⟩
  decide +kernel

theorem wit_Budget :
    Accepted opPwrSetBudget hd (le 4 0 ++ leF (fOfNat 20)) 4 up ∧
      Accepted opPwrSetBudget hd (le 4 17 ++ leF (fOfNat 150)) 4 up ∧
    Accepted opPwrSetBudget hd (le 4 15 ++ leF f0) 4 up ∧
    fLt (fOfNat 20) (fOfNat 20) = false ∧ fLt (fOfNat 85) (fOfNat 20) = false ∧ fLt (fOfNat 19) (fOfNat 20) = true ∧
    fLt (fOfNat 85) (fOfNat 86) = true ∧ (fLt (fOfNat 24) (fOfNat 25) || fLt (fOfNat 150) (fOfNat 24)) = true ∧
    (fLt (fOfNat 150) (fOfNat 25) || fLt (fOfNat 150) (fOfNat 150)) = false ∧ fLt (fOfNat 150) (allowMin up 1) = false ∧
    (fLt (fOfNat 1) f0 || fLt (nominal up 15) (fOfNat 1)) = false ∧
      (fLt (fOfInt (-1)) f0 || fLt (nominal up 15) (fOfInt (-1))) = true ∧
    fwRuns up = true ∧ up.pwr.state ≤ 1 ∧ up.pwr.window ≠ up.mono / 25000000 + 1 ∧
    (let s : State := { up with pwr := { window := 41 } }; s.pwr.window = s.mono / 25000000 + 1) ∧
    (holderFid 15 = some (pipeFid 7) ∧ (at_ up (pipeFid 7) .running).st (pipeFid 7) = .running ∧
      up.st (pipeFid 7) = .off) ∧
    up.mono < ({ up with pwr := { meter := up.mono } } : State).pwr.meter + 250000 ∧
    up.pwr.meter + 250000 ≤ up.mono ∧ 15 ∈ holderCodes ∧ ∃ h, holderFid h = none := by
  refine ⟨accepted_of (by decide +kernel), accepted_of (by decide +kernel), accepted_of (by decide +kernel), ?_⟩
  refine ⟨by decide +kernel, by decide +kernel, by decide +kernel, by decide +kernel, by decide +kernel, by decide +kernel,
    by decide +kernel, by decide +kernel, by decide +kernel, by decide +kernel, by decide +kernel, by decide +kernel,
    by decide +kernel, by decide +kernel, by decide +kernel, by decide +kernel, by decide +kernel, 5, by decide +kernel⟩

/-- The allowance that channels of stud 0 need for their limits: class H at 100 A of limit is more than 25 A. -/
theorem wit_Budget_allowMin :
    let s := at_ up (chFid 0) .running
    (fLt f0 (allowMin s 0) && fLt (fOfNat 25) (allowMin s 0)) = true := by
  decide +kernel

theorem wit_PowerReads : Accepted opPwrGetBudget hd [] 380 up ∧ Accepted opPwrStatus hd [] 72 up := by
  refine ⟨?_, ?_⟩ <;> exact accepted_of (by decide +kernel)

/-- A row of the panel in progress. -/
def aRow : PRow := { row := 0, target := [], band := 0, vph := f0, vpm := f0, vpl := f0, tPlus := f0, tMinus := f0 }

theorem wit_PowerStateChanges :
    (let s : State := { up with pwr := { entering := some 5 } }
     s.pwr.entering = some 5 ∧ s.pnl.run = none ∧ s.pwr.heldWake = none) ∧
    (let s : State := { up with pwr := { entering := some 3, heldWake := some 1 } }
     s.pwr.entering = some 3 ∧ s.pwr.heldWake = some 1) ∧
    (let s : State := { up with pwr := { entering := some 2 }, pnl := { run := some aRow } }
     s.pwr.entering = some 2 ∧ s.pnl.run ≠ none ∧ s.pwr.heldWake = none) ∧
    (let s : State := { up with pwr := { state := 3 } }; s.pwr.entering = none ∧ 1 ≤ s.pwr.state ∧ s.pwr.state ≤ 3) ∧
    ({ up with pwr := { ign := true } } : State).pwr.ign = true ∧
      ({ up with pwr := { ign := false } } : State).pwr.ign = false ∧
    (let s : State := { up with pwr := { state := 2, wakeAt := some 5 } }
     s.pwr.wakeAt = some 5 ∧ s.pwr.state = 2 ∧ s.pwr.entering = none ∧ 5 ≤ s.mono) ∧
    (let s : State := { up with pwr := { state := 3, wakeAt := some (up.mono + 1) } } ; s.mono < up.mono + 1) ∧
    nWake (up.canCfg 0) = false ∧ nWake ((up.setApp (.can 0) (b1 0 ++ b1 8 ++ (canDefault 0).drop 2)).canCfg 0) = true ∧
    (let s : State := { up with pwr := { ign := false, ignAction := 1, ignDelay := 4000, ignDone := false, latency := 400000 } }
     s.pwr.ignAt + 250000 * s.pwr.ignDelay ≤ s.mono ∧ updating s = false ∧ fwRuns s = true ∧ s.pwr.state ≤ 1 ∧
      s.pwr.entering = none ∧ deepest { s with pwr := { s.pwr with ignDone := true } } = some 3) ∧
    (let s : State := { up with pwr := { ign := false, ignDelay := 4001, ignDone := false } }
     ¬ s.pwr.ignAt + 250000 * s.pwr.ignDelay ≤ s.mono) := by
  decide +kernel

theorem wit_PowerStateChanges_sequence :
    (let s : State := { up with pwr := { ignSeq := 1 } }
     s.pwr.ignSeq = 1 ∧ ∀ g, g < 64 → (s.st (gFid g)).idle = true) ∧
    (let s : State := { up with pwr := { ignSeq := 2 } }
     s.pwr.ignSeq = 2 ∧ ∀ f ∈ ignFirst ++ ignRest ++ chanFids, (s.st f).idle = true) := by
  decide +kernel

theorem wit_SuppliesAndTemperature :
    (2 ≤ up.boot.phase ∧ up.boot.fed 0 = true ∧ feedInRange (fOfNat 6) = true ∧ feedInRange (fOfNat 36) = true ∧
      feedInRange (fOfNat 37) = false ∧ up.boot.fedElse 0 = true) ∧
    (let s : State := { up with boot := { phase := 10, feedA := false } }; s.boot.fed 0 = false ∧
      s.boot.fedElse 1 = false) ∧
    (let s : State := { up with boot := { phase := 10, vrefA := 1, vrefB := 1 } }; s.boot.vrefA = 1 ∧
      s.boot.vrefB = 1) ∧
    (let s : State := { up with boot := { phase := 10, vrefA := 2, vrefB := 2, vrefAt := 750000000, vrefBt := 750000000 } }
     s.boot.vrefA = 2 ∧ s.boot.vrefAt + 250000000 ≤ s.mono ∧ s.boot.vrefB = 2 ∧ s.boot.vrefBt + 250000000 ≤ s.mono) ∧
    up.pwr.state < 3 ∧ State.reset.boot.phase < 2 ∧
    (fLe (fOfNat 100) (fOfNat 100) = true ∧ fLe (fOfNat 100) (fOfNat 99) = false) ∧
    fLt (fOfNat 95) (fOfNat 96) = true ∧ (fLt (fOfNat 95) (fOfNat 95) = false ∧ fLt (fOfNat 80) (fOfNat 95) = true) ∧
    fLt (fOfNat 80) (fOfNat 80) = false := by
  decide +kernel

/-! ## Transport -/

/-- CAN2 in RUNNING serves Baline. -/
def can2 : State := at_ up (canFid 2) .running
def aRx : IsoRx := { need := 8, got := zeros 6, next := 16, last := 0 }
def aTxI (id : Nat) : IsoTx := { id := id, rest := zeros 20, begun := true, waiting := true, since := 0 }

theorem wit_Transport :
    opcodeListed 0x0605 = true ∧ opcodeListed 0x0608 = false ∧
    (hd.taken = false ∧ Machine.served up hd.ep = true ∧ reached up hd 0x0608 [] = true ∧ hd.flags % 4 = 0 ∧
      hd.version = 1 ∧
      hd.session ≠ 0 ∧ 16 + ([] : Bytes).length ≤ packetMax up hd ∧
      (∃ x, boundSession up hd = some x ∧ repeated up x hd = none) ∧ (outstanding up hd.session).length < 16) ∧
    (Machine.served up (.udp 1 1) = true ∧ packetGood up (.udp 1 1) [] = false ∧ rd [] 0 2 ≠ 0x4B46) ∧
    (let s : State := { can2 with net := { can2.net with isoMsg := [[1#8]] } }
     Machine.served s .can2 = true ∧ s.net.isoMsg.head? = some [1#8]) ∧
    (fwRuns up = true ∧ up.pwr.state ≤ 1) ∧ p0Answers up = true ∧ (∃ t, t ≠ ownAddress.toNat) ∧
    Machine.served can2 .can2 = true ∧ (1 ≤ byteAt [0x07#8] 0 ∧ byteAt [0x07#8] 0 ≤ 7) ∧
    (byteAt (0x00#8 :: zeros 8) 0 = 0 ∧ 8 < (0x00#8 :: zeros 8).length) ∧
    (byteAt [0x10#8, 0x08#8] 0 / 16 = 1 ∧ byteAt [0x10#8, 0x08#8] 0 % 16 * 256 + byteAt [0x10#8, 0x08#8] 1 ≠ 0) ∧
    (byteAt [0x10#8, 0x00#8] 0 = 0x10 ∧ byteAt [0x10#8, 0x00#8] 1 = 0) := by
  exact ⟨by decide +kernel, by decide +kernel, ⟨rfl, by decide +kernel, by decide, rfl, rfl, by decide, by decide +kernel,
    ⟨_, rfl, by decide +kernel⟩, by decide⟩, by decide +kernel, by decide +kernel, by decide +kernel, by decide +kernel,
    ⟨ownAddress.toNat + 1, by omega⟩, by decide +kernel, by decide +kernel, by decide +kernel, by decide +kernel, by decide +kernel⟩

theorem wit_Transport_isotp :
    (byteAt [0x20#8, 1#8, 2#8] 0 = 0x20 + aRx.next % 16 ∧ aRx.need ≤ (aRx.got ++ [1#8, 2#8]).length ∧
      (aRx.got ++ [1#8]).length < aRx.need ∧ byteAt [0x21#8] 0 / 16 = 2 ∧ byteAt [0x21#8] 0 % 16 ≠ aRx.next % 16) ∧
    (let s : State := { can2 with net := { can2.net with isoRx := some aRx } }
     s.net.isoRx = some aRx ∧ Machine.served s .can2 = true ∧ aRx.last + 250000000 ≤ s.mono) ∧
    (let s : State := { can2 with net := { can2.net with isoTx := [aTxI 0x7A1] } }
     s.net.isoTx = [aTxI 0x7A1] ∧ (aTxI 0x7A1).begun = true ∧ (aTxI 0x7A1).waiting = true ∧
       (aTxI 0x7A1).since + 250000000 ≤ s.mono ∧ (aTxI 0x7A1).id = 0x7A1) ∧
    byteAt [0x30#8, 1#8, 127#8] 0 = 0x30 ∧ byteAt [0x31#8] 0 = 0x31 ∧ byteAt [0x32#8] 0 = 0x32 := by
  decide +kernel

theorem wit_Transport_sessions :
    (∃ x, session { up with mono := 2500000000 } 1 = some x ∧ x.last + 250000 * x.keepMs ≤ 2500000000) ∧
    (∃ x, session up 1 = some x ∧ up.mono < x.last + 250000 * x.keepMs) ∧
    (fwRuns up = true ∧ mayWork up 5 = false) ∧
    (let s : State := { up with pwr := { holders := [(5, { balance := f1 })] }
                                net := { up.net with swait := [⟨.zero, 0, 1, 0, []⟩] } }
     fwRuns s = true ∧ mayWork s 5 = true ∧ s.net.swait ≠ []) :=
  ⟨⟨_, rfl, by decide +kernel⟩, ⟨_, rfl, by decide +kernel⟩, by decide +kernel, by decide +kernel⟩

/-- A single frame on CAN2 is a message; a first frame is answered with flow control 0x30, 0, 0 (03 R75). -/
theorem test_isotp :
    (after (.isotpFrameReceived 0x7A0 [2#8, 5#8, 6#8]) can2).net.isoMsg = [[5#8, 6#8]] ∧
    (∃ r, (after (.isotpFrameReceived 0x7A0 [0x10#8, 0x14#8, 1#8, 2#8, 3#8, 4#8, 5#8, 6#8]) can2).net.isoRx = some r ∧
      r.need = 20 ∧ r.got = [1#8, 2#8, 3#8, 4#8, 5#8, 6#8]) := by
  exact ⟨by decide +kernel, _, rfl, by decide +kernel, by decide +kernel⟩

/-! ## Configuration and loops -/

theorem wit_ConfigurationCommands :
    Accepted opLoopConfig hd (defCfg (.loop 511)) 0 up ∧ Accepted opGroupConfig hd (defCfg (.group 63)) 0 up ∧
    Accepted opPipeConfig hd (defCfg (.pipe 7)) 0 up ∧ Accepted opTdConfig hd (tdDefault 3) 0 up ∧
    Accepted opFusConfig hd fusGridDefault 0 up ∧ byteAt fusGridDefault 0 ≠ 0 ∧
    up.st 0x0C00 = .off ∧ (at_ up 0x0C00 .running).st 0x0C00 ≠ .off ∧
    (∀ f ∈ groupFids (up.stg (.loop 511)) ++ groupFids (defCfg (.loop 511)), (up.st f).idle = true) ∧
    (∃ f ∈ [plannerFid], ((at_ up plannerFid .running).st f).idle = false) ∧
    (let s := up.setStg (.group 1) ([1#8] ++ zeros 7 ++ le 4 1 ++ zeros 4)
     ∃ x, x < 64 ∧ x ≠ 0 ∧ (gMask (s.stg (.group x)) ||| gMask (s.app (.group x))) &&& 1 ≠ 0) := by
  refine ⟨accepted_of (by decide +kernel), accepted_of (by decide +kernel), accepted_of (by decide +kernel),
    accepted_of (by decide +kernel), accepted_of (by decide +kernel), by decide +kernel, by decide +kernel, by decide +kernel,
    by decide +kernel, ⟨plannerFid, by decide, by decide +kernel⟩, ⟨1, by decide +kernel⟩⟩

/-- Loop 0 in group 0, at 1 kHz, with input 1 and no sink. -/
def loop0 : Bytes := le 2 0 ++ [0#8, 0#8, 1#8] ++ (loopDefault 0).drop 5
/-- Loop 0 applied, with its group committed and running. -/
def looped (l : Loop) : State :=
  at_ { up.setApp (.loop 0) loop0 with
    cle := { groups := [(0, { committed := true })], loops := [(0, l)], prev := [(0, {})] } } (gFid 0) .running

theorem wit_LoopCommands_reads :
    (byteAt (le 4 511) 2 = 0 ∧ Accepted opLoopRead hd (le 4 511) (up.stg (.loop 511)).length up) ∧
    (let p := le 2 0 ++ le 2 1
     byteAt p 2 = 1 ∧ (∃ g, appGroup (looped {}) 0 = some g) ∧
       Accepted opLoopRead hd p ((looped {}).loopCfg 0).length (looped {})) ∧
    (let p := le 2 511 ++ le 2 1; byteAt p 2 = 1 ∧ appGroup up 511 = none ∧ Accepted opLoopRead hd p 0 up) ∧
    (byteAt (le 4 63) 1 = 0 ∧ Accepted opGroupRead hd (le 4 63) (8 + (up.stg (.group 63)).length) up) ∧
    (let s := up.setFn (gFid 63) { everApplied := true }
     byteAt [63#8, 1#8, 0#8, 0#8] 1 = 1 ∧ (s.fn (gFid 63)).everApplied = true ∧
       Accepted opGroupRead hd [63#8, 1#8, 0#8, 0#8] (8 + (s.grpCfg 63).length) s) ∧
    ((up.fn (gFid 63)).everApplied = false ∧ Accepted opGroupRead hd [63#8, 1#8, 0#8, 0#8] 0 up) ∧
    (let p := le 2 480 ++ le 2 32; Accepted opLoopStatus hd p (12 + 28 * rd p 2 2) up) ∧
      Accepted opCleCapacity hd [] 24 up ∧
    (let p := le 2 1023 ++ le 2 0 ++ le 4 256; Accepted opTableRead hd p (20 + 4 * rd p 4 2) up) := by
  refine ⟨⟨by decide, accepted_of (by decide +kernel)⟩, ⟨by decide, ⟨0, by decide +kernel⟩, accepted_of (by decide +kernel)⟩,
    ⟨by decide, by decide +kernel, accepted_of (by decide +kernel)⟩, ⟨by decide, accepted_of (by decide +kernel)⟩,
    ⟨by decide, by decide +kernel, accepted_of (by decide +kernel)⟩, ⟨by decide +kernel, accepted_of (by decide +kernel)⟩,
    accepted_of (by decide +kernel), accepted_of (by decide +kernel), accepted_of (by decide +kernel)⟩

theorem wit_LoopCommands :
    Accepted opLoopSetReference hd (le 4 1 ++ le 4 511 ++ leF f1) 0 up ∧
    Accepted opLoopSetFeedforward hd (le 4 1 ++ le 4 0 ++ leF f1) 0 up ∧ Accepted opTableWrite hd tableBlock 0 up ∧
    setBad up (fun d => dRefType d = 0) (le 4 1 ++ le 4 511 ++ leF f1) = none ∧
    setBad up (fun d => dRefType d = 0) (le 4 2 ++ le 4 511 ++ leF f1 ++ le 4 511 ++ leF f1) = some 12 ∧
    setBad up (fun d => dFfType d = 1) (le 4 1 ++ le 4 0 ++ leF f1) = some 4 ∧
    (let s := up.setStg (.loop 0) ((loopDefault 0).take 25 ++ [1#8] ++ (loopDefault 0).drop 26)
     setBad s (fun d => dFfType d = 1) (le 4 1 ++ le 4 0 ++ leF f1) = none) ∧
    (let s : State := { looped {} with cle := { groups := [(0, { hold := some 0 })] } }
     appGroup s 0 = some 0 ∧ (s.grp 0).hold ≠ none) ∧
    (let d := le 2 0 ++ [0#8] ++ (loopDefault 0).drop 3 |>.take 144 |>.append (le 2 1023 ++ le 2 1023)
     let s := at_ (up.setApp (.loop 0) d) (gFid 0) .running
     (Obj.loop 0, d) ∈ s.applied ∧ (dFric d = 1023 ∨ dCog d = 1023) ∧ dGroup d ≤ 63 ∧
       (s.st (gFid (dGroup d))).idle = false ∧
       tableUsed s 1023 = true) ∧
    tableUsed up 1023 = false ∧ byteAt tableBlock 2 ≠ 0 ∧ rd tableBlock 16 2 ≠ 0 ∧
    (let t : Slot := { begun := true, kind := 1 }
     headerDiff t tableBlock = none ∧ headerDiff { t with kind := 2 } tableBlock = some 2) ∧
    firstUnwritten [(255, f1)] 256 = some 0 ∧
    firstUnwritten ((List.range 256).map fun i => (i, f1)) 256 = none := by
  refine ⟨accepted_of (by decide +kernel), accepted_of (by decide +kernel), accepted_of (by decide +kernel), ?_⟩
  decide +kernel

theorem wit_LoopLaw : fEq f1 f0 = false ∧ fEq f0 f0 = true ∧ fLt f0 f1 = true ∧ fLt f0 f0 = false := by decide +kernel

theorem wit_LoopSamples :
    (let s := looped { next := some f1 }
     appGroup s 0 = some 0 ∧ grpActive s 0 = true ∧ sampleDue s 0 0 (s.loopCfg 0) = true ∧
      (s.loop 0).next = some f1 ∧ dSink (s.loopCfg 0) = 0 ∧ (measure s 0 (s.loopCfg 0)).1 = none) ∧
    (let s := looped { stopped := true, last := some (up.mono - 125000) }
     sampleDue s 0 0 (s.loopCfg 0) = true ∧ (s.loop 0).stopped = true) ∧
    (let s := looped { last := some up.mono }; sampleDue s 0 0 (s.loopCfg 0) = false) ∧
    (let s := (looped {}).setAin 0 { c := { cur := some ([0#8, 0#8, 3#8, 0#8] ++ zeros 20) }, tick := some up.mono, value := f1 }
     (measure s 0 (s.loopCfg 0)).1 = some f1 ∧ sinkLost s (s.loopCfg 0) = false) ∧
    (let l : Loop := { consecInv := 2 }; l.consecInv + 1 = dInvLimit loop0 ∧ l.latched = false) ∧
    (let s := looped { last := some 0, consecMiss := 1 }
     tfind s.cle.prev 0 = some {} ∧ grpActive s 0 = true ∧ sampleDue s 0 0 (s.loopCfg 0) = true ∧
       (s.loop 0).missed = false ∧
      (s.loop 0).last ≠ none ∧ 1 ≤ (s.loop 0).consecMiss) := by
  decide +kernel

/-- A sample issues the output computed at the sample before (R108). -/
theorem test_loop_issue :
    let t := after (.loopSample 0) (looped { next := some f1, stopped := true })
    (t.loop 0).out = f1 ∧ (t.loop 0).last = some 1000000000 := by
  decide +kernel

theorem wit_GroupLifecycle :
    (let s := at_ (up.setApp (.loop 0) loop0) (gFid 0) .starting
     s.st (gFid 0) = .starting ∧ (s.grp 0).committed = false ∧ (s.fn (gFid 0)).since + 5000 ≤ s.mono ∧
      grpAt s 0 1000000 = true ∧ grpLoops s 0 = [0]) ∧
    (let s := up.setFn (gFid 0) { st := .starting, since := up.mono - 4999 }
     s.mono < (s.fn (gFid 0)).since + 5000) ∧
    (let s := at_ (looped {}) (gFid 0) .stopping
     s.st (gFid 0) = .stopping ∧ (s.fn (gFid 0)).since < s.mono ∧ grpAt s 0 1000000 = true ∧
      (s.fn (gFid 0)).pend = none ∧ (s.fn (gFid 0)).toFault = false ∧ (∀ n, n ∈ grpLoops s 0 → arrived s n = true)) ∧
    (let s := at_ (looped { safeRamp := true, r := f1 }) (gFid 0) .stopping
     (s.grp 0).committed = true ∧ (∃ n, n ∈ grpLoops s 0 ∧ arrived s n = false) ∧
      s.mono < (s.fn (gFid 0)).since + 15000000000) ∧
    (let s : State := { up with cle := { groups := [(0, { hold := some (up.mono - 62500000) })] } }
     (s.grp 0).hold = some 937500000 ∧ 937500000 + 250000 * gHold (s.grpCfg 0) ≤ s.mono) := by
  refine ⟨by decide +kernel, by decide +kernel, by decide +kernel, ⟨by decide +kernel, ⟨0, by decide +kernel, by decide +kernel⟩,
    by decide +kernel⟩, by decide +kernel⟩

/-! ## Sensing -/

/-- An impact channel in mode 1 with T_ON 100, T_OFF 50 and HOLD 20 samples. -/
def impP : Bytes := [0#8, 0#8, 1#8, 0#8] ++ le 2 5 ++ le 2 20 ++ le 2 100 ++ le 2 50 ++ zeros 68
def sensing (x : Imp) : State := up.setImp 0 { x with c := { cur := some impP } }
/-- The module at a counting window's start. -/
def atWindow (s : State) (n : Nat) : State := { s with cse := { s.cse with winNo := n, winTick := s.mono } }

theorem wit_InputConfiguration :
    (let p := [31#8, 1#8, 1#8, 0#8] ++ le 2 5 ++ le 2 20 ++ le 2 100 ++ le 2 50 ++ zeros 68
     Accepted opImpConfig hd p 0 up) ∧
    inUse up 4 0 = false ∧ inUse (looped {}) 1 0 = true ∧
    (let s := (List.range 4).foldl (fun s k => s.setImp (k + 1) { c := { cur := some [0#8, 0#8, 2#8] } }) up
     4 ≤ ((List.range 32).filter fun j => j ≠ 0 ∧ impMode (inNext s 4 j) = 2).length) ∧
    finMode [1#8, 0#8, 3#8] = 3 ∧
    (let s := setInCfg up 4 0 { pend := some (0, impP) }
     (inCfg s 4 0).pend = some (0, impP) ∧ producing s = true ∧ ¬ 0 < s.cse.winNo ∧ 0 < (atWindow s 1).cse.winNo ∧
       (atWindow s 1).cse.winTick = s.mono) ∧
    (let s := setInCfg up 1 15 { pend := some (0, []) }
     (inCfg s 1 15).pend = some (0, []) ∧ 0 < s.mono ∧ atUpdate s 1 15 = true) ∧
    (inCfg up 1 15).pend = none ∧ (inCfg up 1 15).settle ≤ up.mono ∧
    up.mono < (inCfg (setInCfg up 1 15 { settle := up.mono + 1 }) 1 15).settle ∧ 31 < inCount 4 ∧ inCount 5 ≤ 1 := by
  refine ⟨accepted_of (by decide +kernel), ?_⟩
  decide +kernel

theorem wit_SensingCommands :
    Accepted opClassifierLoad hd setBlock 0 up ∧ (rd setBlock 2 2 ≠ 0 ∧ (up.cset 3).begun = false) ∧
    ((up.setCset 3 { begun := true }).cset 3).begun = true ∧ (byteAt setBlock 1).testBit 0 = false ∧
    (let p := b1 3 ++ b1 3 ++ le 2 675 ++ le 2 1 ++ zeros 6 ++ leF f1; (byteAt p 1).testBit 0 = true) ∧
    firstUnwritten [(675, f1)] 676 = some 0 ∧ firstUnwritten ((List.range 676).map fun i => (i, f1)) 676 = none ∧
    (let s := up.setCset 3 { pend := some (0, [], 5, none) }
     (s.cset 3).pend = some (0, [], 5, none) ∧ 0 < (atWindow s 1).cse.winNo ∧ (atWindow s 1).cse.winTick = s.mono ∧
      ¬ 0 < s.cse.winNo) ∧ (up.cset 3).pend = none ∧
    (let s := up.setImp 31 { factors := [(0, f1, none)] }
     (s.imp 31).factors = (0, f1, none) :: [] ∧ 0 < (atWindow s 1).cse.winNo ∧ ¬ 0 < s.cse.winNo) ∧
    (up.imp 31).factors = [] ∧ impMode (inCfgOf (up.imp 31).c) ≠ 2 ∧
    Accepted opFlowCalibrate hd (le 4 31 ++ zeros 12 ++ (le 6 10 ++ zeros 6) ++ leF f1) 0 up ∧
    (let p := [4#8, 31#8, 1#8, 0#8, 0#8, 0#8, 0#8, 0#8]
     byteAt p 0 ≠ 6 ∧
     Accepted opSenseRead hd p (12 + ((List.range (byteAt p 2)).flatMap fun i => senseEntry up 4 (31 + i)).length) up) ∧
    (let p := [6#8, 31#8, 8#8, 0#8, 0xFF#8, 0xFF#8, 0xFF#8, 0xFF#8]
     byteAt p 0 = 6 ∧ Accepted opSenseRead hd p (16 + (hitRecords (up.imp 31) (rd p 4 4) 8).flatten.length) up) := by
  refine ⟨accepted_of (by decide +kernel), by decide +kernel, by decide +kernel, by decide +kernel, by decide +kernel,
    by decide +kernel, by decide +kernel, by decide +kernel, by decide +kernel, by decide +kernel, by decide +kernel,
    by decide +kernel, accepted_of (by decide +kernel), ⟨by decide, accepted_of (by decide +kernel)⟩, by decide,
    accepted_of (by decide +kernel)⟩

/-- A flow channel whose history covers ten seconds with windows of one sum. -/
def flowing : State :=
  up.setImp 31
    { c := { cur := some ([31#8, 0#8, 2#8, 0#8] ++ le 2 5 ++ le 2 20 ++ le 2 100 ++ le 2 50 ++ [0#8, 2#8, 0#8, 0#8] ++
                leF f0 ++ leF f0 ++ leF (fOfNat 10) ++ leF (fOfNat 10) ++ zeros 48)
             commits := [{ sec := 100, ns := 0, sub := 0 }] }
      hist := [{ start := { sec := 0, ns := 0, sub := 0 }, stop := { sec := 10, ns := 0, sub := 0 }, s := fOfNat 5, valid := true }] }

theorem wit_SensingCommands_flow :
    let s := flowing
    let p := le 4 31 ++ zeros 12 ++ (le 6 10 ++ zeros 6) ++ leF (fOfNat 1)
    let x := s.imp 31
    let l := x.hist.filter fun e => T96.le (rdT p 4) e.start && T96.le e.stop (rdT p 16)
    let c := flowCal (inCfgOf x.c) l f1
    Accepted opFlowCalibrate hd p 16 s ∧ impMode (inCfgOf (s.imp (byteAt p 0)).c) = 2 ∧
    (x.hist.any fun e => T96.le e.start (rdT p 4)) = true ∧ (x.hist.any fun e => T96.le (rdT p 16) e.stop) = true ∧
    (x.c.commits.any fun t => T96.le (rdT p 4) t && T96.le t (rdT p 16)) = false ∧ ¬ c.2.2.1 < 100 * c.2.2.2 ∧
    (fLe fHalf c.2.1 && fLe c.2.1 (fOfNat 2)) = false ∧ (fLe fHalf f1 && fLe f1 (fOfNat 2)) = true := by
  refine ⟨accepted_of (by decide +kernel), ?_⟩
  decide +kernel

theorem wit_Counting :
    (let s := sensing {}
     hitMode s 0 = true ∧ (s.imp 0).det = .armed ∧ 16 ≤ (List.replicate 16 (0 : Int)).length ∧
      rawOk (List.replicate 16 0 ++ [8191]) = true ∧ rawOk [8192] = false) ∧
    (let s := sensing { det := .inHit, onset := up.mono - 31875, raw := List.replicate 17 8191 }
     let raw := (s.imp 0).raw ++ List.replicate 255 0
     (s.imp 0).det ≠ .armed ∧ (s.imp 0).det = .inHit ∧ (s.imp 0).onset + 31875 ≤ s.mono ∧
      (List.replicate 255 (0 : Int)).length = 255 ∧ rawOk (List.replicate 255 0) = true ∧
      true = (raw.drop (raw.length - 272)).any atLimit) ∧
    (let s := sensing { det := .quiet, quietAt := up.mono - 2500 }
     (s.imp 0).det = .quiet ∧ (s.imp 0).quietAt + 125 * impHold (inCfgOf (s.imp 0).c) ≤ s.mono ∧
      (List.replicate 20 (0 : Int)).length = impHold (inCfgOf (s.imp 0).c) ∧ rawOk ([] ++ List.replicate 20 0) = true) ∧
    (let e : HitWait := ⟨.zero, 5000, up.mono - 1000, 0, false, []⟩
     let s := (sensing { waiting := [e] }).setCset 0 { cur := some [] }
     (s.imp 0).waiting = e :: [] ∧ e.done + 1000 ≤ s.mono ∧ (s.cset (impSet (inCfgOf (s.imp 0).c))).cur = some [] ∧
      e.before (s.cset 0).commitAt (s.cset 0).commitTime = false ∧ (up.cset 0).cur = none ∧ (up.imp 0).waiting = [] ∧
      { s with mono := up.mono - 1 }.mono < e.done + 1000) ∧
    (producing up = true ∧ (up.imp 0).checkedAt = none) ∧
    (let s := up.setImp 0 { checkedAt := some (up.mono - 1) }; (s.imp 0).checkedAt = some (up.mono - 1) ∧
      ¬ up.mono - 1 + 2500000000 ≤ s.mono) ∧
    up.tdNs 0 / 10000000 = up.cse.winGrid ∧
    (let s : State := { up with cse := { winGrid := 1 } }; s.tdNs 0 / 10000000 ≠ s.cse.winGrid ∧ s.cse.winOdd = false) ∧
    (let s : State := { up with cse := { winGrid := 1, winOdd := true, winTick := up.mono } }
     s.cse.winOdd = true ∧ s.mono < s.cse.winTick + 250000) ∧
    (let w : WinRec := { stopTick := up.mono - 50000 }
     let s := up.setImp 31 { ended := [w] }
     (s.imp 31).ended = [] ++ [w] ∧ w.stopTick + 50000 ≤ s.mono ∧ up.mono < (up.mono - 49999) + 50000) := by
  decide +kernel

/-- What the high-pass answers is not given (06 R171): whatever brings it to T_ON begins a hit or a merged one, and
whatever keeps it under T_OFF for HOLD samples ends the quiet. -/
theorem wit_Counting_filter (before : List Int) (x : Int) (low : (filtered impP before).natAbs < 50)
    (high : 100 ≤ (filtered impP (before ++ [x])).natAbs) :
    (let s := sensing {}
     impTOn (inCfgOf (s.imp 0).c) ≤ (filtered (inCfgOf (s.imp 0).c) (before ++ [x])).natAbs) ∧
    (let s := sensing { det := .quiet }
     (filtered (inCfgOf (s.imp 0).c) before).natAbs < impTOff (inCfgOf (s.imp 0).c) ∧
      impTOn (inCfgOf (s.imp 0).c) ≤ (filtered (inCfgOf (s.imp 0).c) (before ++ [x])).natAbs) := by
  have on : impTOn impP = 100 := by decide
  have off : impTOff impP = 50 := by decide
  have c (y : Imp) : inCfgOf ((sensing y).imp 0).c = impP := rfl
  simp only [c, on, off]
  exact ⟨high, low, high⟩

theorem wit_InputValues :
    (let s := up.setAin 15 { c := { cur := some ([15#8, 0#8, 1#8, 0#8] ++ zeros 4 ++ leF f1 ++ leF f0 ++ leF f0 ++ leF f1) } }
     producing s = true ∧ (s.ain 15).c.cur ≠ none ∧ ainRef (inCfgOf (s.ain 15).c) ≠ 0 ∧ (s.ain 15).tick = none ∧
      commitDue s 1 15 = false ∧ (List.replicate 5 f1).length = 5 ∧
      (fLe (rdF (inCfgOf (s.ain 15).c) 16) f1 && fLe f1 (rdF (inCfgOf (s.ain 15).c) 20)) = true ∧
      (fLe (rdF (inCfgOf (s.ain 15).c) 16) (fOfNat 2) && fLe (fOfNat 2) (rdF (inCfgOf (s.ain 15).c) 20)) = false) ∧
    (let p (m : Byte) : Bytes := [6#8, 0#8, m, 0#8] ++ leF (fOfNat 3) ++ leF f1 ++ le 2 1 ++ zeros 8
     let fin (m : Byte) := up.setFin 6 { c := { cur := some (p m) }, tick := up.mono - 12500, qerr := some 750000000 }
     ((fin 1).fin 6).c.cur ≠ none ∧ quadPartner (fin 1) 6 = false ∧ quadPartner (fin 3) 7 = true ∧
      finMode (inCfgOf ((fin 1).fin 6).c) = 1 ∧ finMode (inCfgOf ((fin 2).fin 6).c) = 2 ∧
      finMode (inCfgOf ((fin 3).fin 6).c) = 3 ∧ finLevel (p 1) (fOfNat 3) false = true ∧
        finLevel (p 1) f1 true = false ∧
      1000 * finPulse (p 1) ≤ 1000 ∧ finLevel (inCfgOf ((fin 3).fin 7).c) f1 false ≠ ((fin 3).fin 7).level ∧
      ((fin 3).fin 6).tick + 12500 ≤ up.mono ∧ commitDue (fin 3) 2 6 = false ∧
      ((fin 3).fin 6).qerr = some 750000000 ∧ 750000000 + 250000 ≤ up.mono) ∧
    (let s := up.setPos 3 { c := { cur := some [3#8, 0#8, 1#8] } }
     (s.pos 3).c.cur ≠ none ∧ posMode (inCfgOf (s.pos 3).c) = 1 ∧ (s.pos 3).excOff = none ∧ (s.pos 3).tick = none ∧
      commitDue s 3 3 = false ∧ (fLe f0 f0 = true ∧ fLt f0 fTwoPi = true) ∧ fLt fTwoPi fTwoPi = false) ∧
    (let s := up.setPos 3 { excOff := some 750000000 }; (s.pos 3).excOff = some 750000000 ∧
      750000000 + 250000000 ≤ s.mono ∧
      up.mono < 750000001 + 250000000) ∧
    (up.cse.imu.tick = none ∧ commitDue up 5 0 = false) := by
  decide +kernel

/-! ## Planner, guidance and yield -/

/-- A straight segment of 10 m. -/
def joined : Bytes := zeros 8 ++ leF (fOfNat 50) ++ zeros 8 ++ leF (fOfNat 10) ++ leF f0

theorem wit_PlannerCommands :
    Accepted opPlannerObjectives hd (defCfg .planObj) 0 up ∧ Accepted opPathLoad hd (le 4 1 ++ joined) 0 up ∧
    Accepted opYieldConfig hd yieldOff 0 up ∧ Accepted opPlannerStatus hd [] 396 up ∧ (5 : Nat) ≤ 250005 ∧
    (let s := (at_ up guidFid .running).setApp .guidance guidDefault
     s.st guidFid = .running ∧ gdMode s.guidCfg = 1 ∧ (byteAt (le 4 0x101) 1).testBit 0 = true) ∧
    (let s : State := { up with guid := { path := List.replicate 256 segment } }
     256 < s.guid.path.length + (pathSegs (le 4 1 ++ segment)).length) ∧
    (up.guid.path.length + (pathSegs (le 4 1 ++ joined)).length ≤ 256 ∧
      breakAt up.guid.path.getLast? 0 (pathSegs (le 4 1 ++ joined)) = none) ∧
    flowMode up (yFlow yieldOff) = false ∧ flowMode flowing 31 = true := by
  refine ⟨accepted_of (by decide +kernel), accepted_of (by decide +kernel), accepted_of (by decide +kernel),
    accepted_of (by decide +kernel), by decide, ?_⟩
  decide +kernel

/-- Planner or guidance in a lifecycle state, at an instant of TD0's grid. -/
def planning (st : FnState) (x : Planner) : State := at_ { up with planner := x } plannerFid st

/-- With no variable that the planner moves, a row's plan is the one plan there is. -/
theorem planSol_fixed (s : State) (mvs : List (List F32)) (h : ∀ i, i < 8 → planned (s.mvCfg i) = false) :
    planSol s mvs = planSol s [] := by
  have t : (List.range 8).map (trajectory s mvs) = (List.range 8).map (trajectory s []) :=
    List.map_congr_left fun i hi => by
      have := h i (List.mem_range.mp hi)
      simp [trajectory, this]
  simp only [planSol, t]

theorem wit_Planner_solved :
    let s := planning .running { committed := true, running := true }
    let mvs := Config.planOf (planCfgs s) (planNums s)
    let least := Config.leastCost (planCfgs s) (planNums s)
    planActive s = true ∧ s.planner.running = true ∧ (fLe f0 least = true → fLt least (planSol s mvs).cost = true →
      fLe (planSol s mvs).cost (fMul (fDec 1001 1000) least) = true) := by
  refine ⟨by decide +kernel, by decide +kernel, fun a b => ?_⟩
  rw [planSol_fixed _ _ (by decide +kernel),
    show (planSol (planning .running { committed := true, running := true }) []).cost = f0 by decide +kernel] at b
  simp only [fLe, fLt, Bool.and_eq_true, decide_eq_true_eq] at a b
  omega

def aPlan : PlanSol :=
  { tick := 0, mvs := [], q := [], sigma := [], slack := false, capped := false, cost := f0, yHi := [] }

theorem wit_Planner :
    (let s := planning .running { committed := true, next := some aPlan }
     planDue s = true ∧ (s.st plannerFid).live = true ∧ s.planner.committed = true ∧ s.planner.next = some aPlan) ∧
    planDue { up with planner := { cycleTick := up.mono } } = false ∧
    (let s := planning .stopping { issued := true }; planDue s = true ∧ s.st plannerFid = .stopping ∧
      s.planner.issued = true) ∧
    (let s := planning .faulted {}; planDue s = true ∧ s.st plannerFid = .faulted ∧ s.planner.issued = false) ∧
    (let s := planning .stopping {}
     s.st plannerFid = .stopping ∧ (s.fn plannerFid).since + 2500000000 ≤ { s with mono := 2500000000 }.mono ∧
       (s.fn plannerFid).toFault = false) ∧
    (let s := (planning .stopping {}).setFn plannerFid { st := .stopping, toFault := true }; (s.fn plannerFid).toFault = true) ∧
    (let s := planning .running { committed := true, lastSolved := 750000000 }
     planActive s = true ∧ s.planner.lastSolved + 250000 * pfCoast s.feedCfg ≤ s.mono) ∧
    (let s := planning .starting {}
     s.st plannerFid = .starting ∧ s.planner.committed = false ∧ (s.fn plannerFid).since + 5000000 ≤ s.mono ∧
      atGrid (s.tdNs 0) 0 50000000 = true) ∧
    (let s := (planning .running { committed := true }).setCv 5 { overFrom := some 500000000 }
     (s.cv 5).overFrom = some 500000000 ∧ planActive s = true ∧ (s.cv 5).overSent = false ∧
       500000000 + 500000000 ≤ s.mono) ∧
    planned (up.mvCfg 7) = false ∧ planned [1#8, 7#8, 0#8, 0#8, 3#8] = true := by
  decide +kernel

def guiding (st : FnState) (x : Guid) : State := at_ { up with guid := x } guidFid st
def aPose : Pose := { time := .zero, tick := 0, got := 0, e := f0, n := f0, heading := f0 }

theorem wit_GuidanceAndYield :
    (let s := guiding .running { committed := true, angle := some f1 }
     guidDue s = true ∧ (s.st guidFid).live = true ∧ s.guid.committed = true ∧ guidGeom s = none ∧
       s.guid.angle = some f1 ∧
      s.fus.ego.mode = 0 ∧ up.guid.angle = none) ∧
    (let s : State := { guiding .running { committed := true } with fus := { ego := { mode := 2 } } }
     s.fus.ego.mode ≠ 0 ∧ gdMode s.guidCfg = 1 ∧ fLt (gdXte s.guidCfg) (fAbs (fOfNat 1000)) = true) ∧
    guidDue (guiding .running { tick := up.mono }) = false ∧
    (let s := guiding .stopping {}; guidDue s = true ∧ s.st guidFid = .stopping) ∧
    (let s := guiding .running { committed := true }
     guidLive s = true ∧ s.guid.dr = none ∧ goodTick s = none) ∧
    (let s := guiding .running { committed := true, dr := some 0 }
     s.guid.dr = some 0 ∧ guidLive s = true ∧ 0 + 250000 * gdDrLimit s.guidCfg < s.mono) ∧
    (let s := guiding .starting {}
     s.st guidFid = .starting ∧ s.guid.committed = false ∧ (s.fn guidFid).since + 5000000 ≤ s.mono ∧
      atGrid (s.tdNs 0) 0 10000000 = true) ∧
    (let s := guiding .stopping { tick := up.mono }
     guidDue s = false ∧ gdRelease s.guidCfg = false ∧ (s.fn guidFid).toFault = false) ∧
    (let s := up.setFn guidFid { st := .stopping, toFault := true }; (s.fn guidFid).toFault = true) ∧
    (let s : State := { up with yield := { pend := some yieldOff } }
     s.yield.pend = some yieldOff ∧ s.tdNs 0 % (1000000 * yPeriod yieldOff) < 8 ∧ yEnable yieldOff = false ∧
       up.yield.pend = none) ∧
    (let p (ms : Nat) : Bytes := [1#8] ++ zeros 11 ++ le 2 ms ++ zeros 26
     let c : Cut := { start := .zero, startNs := 0, tick := 0, cfg := p 200 }
     let s : State := { up.setDom 0 { ns := 200000000 } with yield := { pend := some (p 1000), cur := some c } }
     s.tdNs 0 % (1000000 * yPeriod c.cfg) < 8 ∧ yEnable (p 1000) = true ∧
       ¬ s.tdNs 0 % (1000000 * yPeriod (p 1000)) < 8 ∧
       yPeriod (p 200) = 200) := by
  decide +kernel

/-- A pose from the source in force, not the first, and later than the one in use. -/
theorem wit_PoseReceived :
    let src : Bytes := [2#8, 4#8] ++ le 2 0x1234 ++ zeros 12 ++ leF (fDec 5 100) ++ zeros 4
    let raw := le 2 0x4B50 ++ [1#8, 5#8] ++ (le 6 5 ++ zeros 6) ++ zeros 12 ++ leF (fDec 1 100) ++ zeros 4 ++ le 4 1749823258
    let s := { up.setStg .pose src with guid := { pose := some aPose } }
    fwRuns s = true ∧ psTransport (poseCfg s) = 2 ∧ psPort (poseCfg s) = 4 ∧ psUdp (poseCfg s) = 0x1234 ∧
      raw.length = 40 ∧
    poseGood (poseCfg s) raw = true ∧ T96.lt aPose.time (rdT raw 4) = true ∧
      T96.lt (rdT raw 4) (rdT raw 4) = false := by
  decide +kernel

/-! ## Protected load channels -/

/-- Channel 4 (class M) in a lifecycle state. -/
def ch (st : FnState) (x : Chan) : State := at_ (up.setChan 4 x) (chFid 4) st
/-- A channel's layout with a mode. -/
def chP (mode : Byte) : Bytes := [4#8, mode] ++ (chanDefault 4).drop 2

theorem wit_ChannelCommands :
    Accepted opLswCommand hd (le 4 1 ++ le 4 23 ++ leF f1) 0 up ∧
      Accepted opLswStatus hd [20#8, 4#8, 0#8, 0#8] (12 + 32 * 4) up ∧
    Accepted opLswClear hd (le 4 0x10) 0 up ∧
    cmdBad up [] (cmdEntries (le 4 1 ++ le 4 23 ++ leF f1)) = none ∧
    cmdBad up [] (cmdEntries (le 4 2 ++ le 4 23 ++ leF f1 ++ le 4 23 ++ leF f1)) = some 12 ∧
    cmdBad up [] (cmdEntries (le 4 1 ++ le 4 23 ++ leF (fOfNat 2))) = some 4 ∧ lockGroup up 23 = none ∧
    (let s := ch .running { committed := true }
     (s.chan 4).committed = true ∧ cSrc (s.chCfg 4) = 0 ∧ (s.chan 4).forced = none) ∧
    (up.chan 4).committed = false ∧
    (let s := ch .running { lock := some 7, clamps := [(up.mono, f1)] }
     (rd (le 4 0x10) 0 4).testBit 4 = true ∧ clampHot s 4 = true) ∧
    clampHot up 4 = false ∧ (up.chan 4).latch = none ∧ (up.chan 4).lock = none ∧
    ((ch .running { latch := some 1 }).chan 4).latch ≠ none ∧
    fLe (fSum [f1]) f1 = true ∧ fLe (fSum [f1]) f0 = false := by
  refine ⟨accepted_of (by decide +kernel), accepted_of (by decide +kernel), accepted_of (by decide +kernel), ?_⟩
  decide +kernel

theorem wit_ChannelLifecycle :
    (let s := ch .starting { commitTick := up.mono }
     s.st (chFid 4) = .starting ∧ (s.chan 4).carrier = none ∧ (s.chan 4).commitTick ≤ s.mono) ∧
    (let s := ch .starting { carrier := some (0, 0), commitNs := some 0 }
     (s.chan 4).carrier = some (0, 0) ∧ (s.chan 4).commitNs = some 0 ∧ 0 ≤ s.tdNs 0) ∧
    (let s := ch .starting { commitTick := up.mono + 1 }; ¬ (s.chan 4).commitTick ≤ s.mono) ∧
    (let s := ch .stopping { clamping := true }
     (s.fn (chFid 4)).st = .stopping ∧ (s.chan 4).clamping = true ∧ (s.fn (chFid 4)).since + 12500000 ≤ s.mono ∧
      (s.fn (chFid 4)).toFault = false ∧ (s.fn (chFid 4)).pend = none) ∧
    (let s := (up.setChan 4 { clamping := true }).setFn (chFid 4) { st := .stopping, since := up.mono - 12499999, toFault := true }
     (s.chan 4).clamping = true ∧ s.mono < (s.fn (chFid 4)).since + 12500000 ∧ (s.fn (chFid 4)).toFault = true) ∧
    (let s := ch .running { hold := some (up.mono - 62500000) }
     (s.chan 4).hold = some 937500000 ∧ (s.st (chFid 4)).live = true ∧ 937500000 + 250000 * chanHoldMs s 4 ≤ s.mono) ∧
    cSafe ((up.setApp (.chan 4) ((chanDefault 4).take 6 ++ [1#8] ++ (chanDefault 4).drop 7)).chCfg 4) = 1 ∧
    cSafe ((up.setApp (.chan 4) ((chanDefault 4).take 6 ++ [2#8] ++ (chanDefault 4).drop 7)).chCfg 4) = 2 ∧
      cSafe (up.chCfg 4) = 0 ∧
    (let s := (ch .running { committed := true, drive := .on, cmd := fHalf }).setApp (.chan 4) (chP 2)
     chanFree s 4 = true ∧ 2 ≤ cMode (s.chCfg 4) ∧ periodDue s 4 = true ∧ (s.chan 4).drive = .on ∧
       (s.chan 4).gust = false ∧
      cMode (s.chCfg 4) ≠ 3) ∧
    (let s := (ch .running { committed := true, drive := .on, cmd := f1 }).setApp (.chan 4) (chP 3)
     chanFree s 4 = true ∧ periodDue s 4 = true ∧ cMode (s.chCfg 4) = 3) ∧
    cMode (chP 4) = 4 ∧ fLe f0 f0 = true ∧ (fLe fHalf f0 = false ∧ fLe f1 f1 = true ∧ fLe f1 fHalf = false) ∧
    (let s := (ch .running { committed := true, drive := .on, conducting := true, onUnits := 1, periodLen := 250000
                             onFrom := up.mono - 1 }).setApp (.chan 4) (chP 2)
     (s.chan 4).conducting = true ∧ 5 * (s.chan 4).onUnits < 2 * (s.chan 4).periodLen ∧
      5 * (s.chan 4).onUnits ≤ (s.mono - (s.chan 4).onFrom) * 8) ∧
    ({ up with mono := 150000000000 } : State).lsw.storeAt + 150000000000 ≤ 150000000000 := by
  decide +kernel

theorem wit_ChannelLifecycle_gates :
    (let s := ch .running { committed := true, drive := .off, cmd := f1 }
     chanFree s 4 = true ∧ (s.chan 4).drive = .off ∧ fEq (s.chan 4).cmd f0 = false ∧ cMode (s.chCfg 4) = 1 ∧
      dieOpen s 4 = true ∧ (s.stud (studOf 4)).queue = [] ∧ gateAdmits s 4 = true ∧ perturb s 6 4 = none) ∧
    (let s : State := { ch .running {} with tst := { slots := [(0, { kind := 6, target := 4, mag := 0, opt := 0, till := none })] } }; perturb s 6 4 ≠ none) ∧
    (let s := (ch .running {}).setDie 2 { sampled := true, temp := fOfNat 141 }; dieOpen s 4 = false) ∧
    (let s := (ch .running {}).setStud 0 { closed := true }; dieOpen s 4 = true ∧ gateAdmits s 4 = false) ∧
    ((up.stud 0).closed = false ∧ ((up.setStud 0 { closed := true }).stud 0).closed = true) ∧
    (fLt (fOfNat 70) (fOfNat 71) = true ∧ fLt (fOfNat 70) (fOfNat 70) = false ∧ fLe (fDec 665 10) (fDec 665 10) = true ∧
      fLe (fOfNat 67) (fDec 665 10) = false) := by
  decide +kernel

theorem wit_ChannelProtection :
    (let s := ch .running { committed := true, drive := .on, conducting := true }
     chanFree s 4 = true ∧ (s.chan 4).drive = .on ∧ (s.chan 4).conducting = true ∧ (s.chan 4).latch = none ∧
       (s.chan 4).lock = none ∧
      outState s 4 = 2 ∧ perturb s 6 4 = none) ∧
    (let s := ch .running { committed := true, drive := .limit, limitAt := up.mono - 2500, didt := fOfNat 50 }
     inLimit s 4 = true ∧ (s.chan 4).shortTested = false ∧ (s.chan 4).limitAt + 2500 ≤ s.mono ∧
      s.mono < (s.chan 4).limitAt + 2750 ∧
      (fLt f0 (fMul (cFrac (s.chCfg 4)) (fOfNat 12)) && fLe (cDidt (s.chCfg 4)) (s.chan 4).didt) = true ∧
      (fLt (fOfNat 12) (fMul (cFrac (s.chCfg 4)) (fOfNat 12)) && fLe (cDidt (s.chCfg 4)) (s.chan 4).didt) = false ∧
      s.mono < (s.chan 4).limitAt + 250 * cConfirm (s.chCfg 4)) ∧
    (let s := ch .running { drive := .off, limitLeft := some up.mono, limitAt := up.mono - 250000 }
     inLimit s 4 = true ∧ (s.chan 4).notLow = false ∧ (s.chan 4).limitAt + 250 * cConfirm (s.chCfg 4) ≤ s.mono) ∧
    (let s := up.setStud 0 { quietOpen := true, quietUntil := up.mono }
     (s.stud 0).quietOpen = true ∧ (s.stud 0).quietUntil ≤ s.mono ∧ 4 ∈ studChans 0) ∧
    (let s := ch .running { drive := .on, turnOn := true }; (s.chan 4).drive = .on ∧ (s.chan 4).turnOn = true) ∧
    (let s := ch .running { drive := .limit, limFrom := some (up.mono - 1250000) }
     250000 * cLimTime (s.chCfg 4) ≤ ran s (s.chan 4).limRun (s.chan 4).limFrom ∧ (s.chan 4).gust = false) ∧
    (let s := ch .running { drive := .limit, limFrom := some (up.mono - 1249999), gust := true }
     ran s (s.chan 4).limRun (s.chan 4).limFrom < 250000 * cLimTime (s.chCfg 4) ∧ (s.chan 4).gust = true) ∧
    (let s := ch .running { quietSeen := true, uncharged := 7 }; (s.chan 4).quietSeen = true ∧
      (s.chan 4).uncharged < 8) ∧
    (let s := ch .running { charged := 3 }
     (s.chan 4).quietSeen = false ∧ 1 + cRetries (s.chCfg 4) ≤ (s.chan 4).charged + 1) ∧
    (let s := ch .running { charged := 2 }; (s.chan 4).charged + 1 < 1 + cRetries (s.chCfg 4)) ∧
    (let s := ch .running { committed := true, drive := .retryWait, retryFrom := some (up.mono - 2500000) }
     (s.chan 4).drive = .retryWait ∧ (s.chan 4).dieWait = false ∧ chanFree s 4 = true ∧
      250000 * cRetryOff (s.chCfg 4) ≤ ran s (s.chan 4).retryRun (s.chan 4).retryFrom) ∧
    chanFree (ch .running { uv := true }) 4 = false := by
  decide +kernel

theorem wit_ChannelProtection_dies :
    (fLe (fOfNat 170) (fOfNat 170) = true ∧ fLe (fOfNat 170) (fOfNat 140) = false ∧
      fLe (fOfNat 140) (fOfNat 140) = true ∧
      fLe (fOfNat 141) (fOfNat 140) = false ∧ (up.die 11).tooHot = false) ∧
    (let s := up.setDie 11 { trips := List.replicate 15 (up.mono - 1) }
     15 ≤ ((s.die 11).trips.filter fun y => decide (s.mono < y + 15000000000)).length) ∧
    (fLt (fOfInt (-56)) (fOfInt (-55)) || fLt (fOfNat 200) (fOfInt (-56)) || fIsNaN (fOfInt (-56))) = true ∧
    (let s := up.setDie 11 { sampled := true, sampleNo := up.mono / 2500 - 1, temp := fOfNat 25 }
     (fLt (fOfNat 45) (fOfInt (-55)) || fLt (fOfNat 200) (fOfNat 45) || fIsNaN (fOfNat 45) ||
       fLt (fOfNat 20) (fAbs (fSub (fOfNat 45) (dieAt s 11 (s.mono / 2500 - 1))))) = false) ∧
    ((ch .running { gust := true, drive := .gateWait }).chan 4).drive = .gateWait := by
  decide +kernel

theorem wit_ChannelProtection_supply :
    (let s := ch .running { committed := true }
     (s.chan 4).committed = true ∧ (s.chan 4).uv = false ∧ fLt (fOfNat 8) (cUvOff (s.chCfg 4)) = true ∧
       (s.chan 4).ov = false) ∧
    (fLt (fOfNat (if true then 34 else 40)) (fOfNat 35) = true ∧ fLt (fOfNat 34) (fOfNat 34) = false) ∧
    (let s := ch .running { uv := true, supplyAt := up.mono - 12500000 }
     (s.chan 4).uv = true ∧ fLe (cUvOn (s.chCfg 4)) (fOfNat 10) = true ∧
      (decide (50000000 ≤ 4 * (s.mono - (s.chan 4).supplyAt)) && decide (1000000 * cUvSettle (s.chCfg 4) ≤ 50000000)) = true) ∧
    (fLt (fMul (fDec 11 10) (cICont (up.chCfg 4))) (fOfNat 7) = true ∧
      fLt (fMul (fDec 11 10) (cICont (up.chCfg 4))) (fOfNat 6) = false) ∧
    (let s := (ch .running { committed := true, drive := .on }).setApp (.chan 4) ((chanDefault 4).take 60 ++ leF fHalf)
     outState s 4 = 2 ∧ fLt f0 (cIOpen (s.chCfg 4)) = true ∧ fLe (cIOpen (s.chCfg 4)) fHalf = true ∧
       cMode (s.chCfg 4) ≠ 3 ∧
      (s.chan 4).openLoad = false) ∧ outState up 4 ≠ 2 ∧
    ((up.chan 4).conducting = false ∧ (up.chan 4).clamping = false) ∧
    (let l (x : F32) : List ClampSample := [{ stud := x, out := f0, current := fOfNat 100 }, { stud := f0, out := f0, current := f0 }]
     let s := ch .running { clamping := true, clampAt := up.mono - 250 }
     let w (e : F32) := s.setChan 4 { s.chan 4 with clamping := false, clamps := (s.mono, e) :: clampsNow s 4 }
     (s.chan 4).clamping = true ∧ clampWhole s 4 (l f1) = true ∧
       fLt (eSingle 4) (clampEnergy (l (fOfNat 2000))) = true ∧
      fLt (eSingle 4) (clampEnergy (l (fOfNat 1000))) = false ∧
      fLe (cEBudget (s.chCfg 4)) (clampWindow (w (clampEnergy (l (fOfNat 1000)))) 4) = false) ∧
    (let s := ch .running { clamping := true, clamps := [(up.mono - 5, fHalf)] }
     let w := s.setChan 4 { s.chan 4 with clamping := false, clamps := (s.mono, fDec 1 10) :: clampsNow s 4 }
     fLe (cEBudget (s.chCfg 4)) (clampWindow w 4) = true) ∧
    (let s := up.setApp (.chan 4) ([4#8, 1#8, 1#8] ++ (chanDefault 4).drop 3)
     cKind (s.chCfg 4) = 1 ∧ fLt (fDec 1 1000) (fDec 1 10) = true ∧ (s.chan 4).freeAt = none) := by
  decide +kernel

/-- A conducting channel at its limit goes to LIMIT; 5 ms of it outside a gust latch OVERCURRENT (R259, R263). -/
theorem test_limit :
    ((after (.currentLimitEntry 4 1000) (ch .running { committed := true, drive := .on, conducting := true })).chan 4).drive = .limit ∧
    ((after (.limitTimeExpiry 4) (ch .running { committed := true, drive := .limit, limFrom := some (up.mono - 1250000) })).chan 4).latch
      = some 3 ∧
    ((after (.limitTimeExpiry 4) (ch .running { committed := true, drive := .limit, limFrom := some (up.mono - 1249999) })).chan 4).latch
      = none := by
  decide +kernel

/-! ## Fusion and cameras -/

def ego (e : Ego) : State := { up with fus := { ego := e } }
/-- An ego configuration that is enabled. -/
def egoOn : Bytes := zeros 4 ++ [1#8] ++ egoDefault.drop 5
/-- The fusion grid in a lifecycle state. -/
def fusing (st : FnState) (f : Fus) : State := at_ { up with fus := f } fusFid st
/-- A weights image of the header's 32 bytes alone. -/
def image32 : Bytes := le 2 0x4B57 ++ le 2 1 ++ le 4 7 ++ le 4 32 ++ b1 0x0F ++ zeros 19
def lastBlock : Bytes := le 4 0x101 ++ le 4 0 ++ le 4 32 ++ le 4 (crc32c image32).toNat ++ image32

theorem wit_FusionCommands :
    Accepted opFusConfig hd egoDefault 0 up ∧ Accepted opFusWeights hd lastBlock 0 up ∧
    Accepted opFusHeadPolicy hd (defCfg (.fusHead 2)) 0 up ∧ Accepted opFusStatus hd [] 220 up ∧
      byteAt egoDefault 0 = 0 ∧
    egoFree up = true ∧ egoFree (at_ up guidFid .running) = false ∧ (up.wslot 1).busy = none ∧
    (let s := fusing .running {}; s.st fusFid ≠ .off ∧ fgSlot s.grid = 0) ∧
    (up.setWslot 1 { busy := some none } |>.wslot 1).busy = some none ∧ rd (le 8 0) 4 4 = 0 ∧
    ¬ (rd (le 4 0 ++ le 4 1) 4 4 = 0 ∨ rd (le 4 0 ++ le 4 1) 4 4 = (up.wslot 1).image.length) ∧
    ((byteAt lastBlock 1).testBit 0 = true ∧ (lastBlock.drop 16).length ≤ 33554432 ∧
      (lastBlock.drop 16).length = rd (lastBlock.drop 16) 8 4 ∧
      (crc32c (lastBlock.drop 16)).toNat = rd lastBlock 12 4 ∧ weightsHeaderOk (lastBlock.drop 16) = true) ∧
    weightsHeaderOk (zeros 32) = false ∧ [0#8].length ≠ rd [0#8] 8 4 ∧ (5 : Nat) ≤ 250005 := by
  refine ⟨accepted_of (by decide +kernel), accepted_of (by decide +kernel), accepted_of (by decide +kernel),
    accepted_of (by decide +kernel), ?_⟩
  decide +kernel

def anEst : EgoEst :=
  { time := .zero, tick := 0, x := 0, y := 0, z := 0, roll := f0, pitch := f0, yaw := f0, speed := f0, yawRate := f0, mode := 1 }
def aCycle : FCycle := { time := .zero, tick := 0, num := 5, pols := [], ego := none }
/-- TD0 at 20 ms, a gather instant of the reset configuration. -/
def gathering (c : Option FCycle) (balance : F32) : State :=
  { fusing .running { committed := true, cycle := c, ego := { est := [anEst] } } with
    tsu := { doms := [(0, { ns := 20000000 })] }
    pwr := { holders := [(1, { balance := balance })] } }

theorem wit_Fusion_ego :
    (let s := ego { cfg := some egoOn }
     fwRuns s = true ∧ s.pwr.state ≤ 1 ∧ egEnable (egoCfg s) = true ∧ atGrid (s.tdNs 0) 0 1000000 = true ∧
      s.fus.ego.est.head? = none) ∧
    egEnable (egoCfg up) = false ∧ (ego { far := true }).fus.ego.far = true ∧
    (let s : State := { ego { cfg := some egoOn, noWheel := some (up.mono - 125000000), noImu := some (up.mono - 50000000) } with
        cse := { imu := { tick := some 0 } } }
     imuWord s = 1 ∧ wheelsValid s = [] ∧ s.fus.ego.noWheel = some 875000000 ∧ s.mono ≤ 875000000 + 125000000) ∧
    imuWord up ≠ 1 ∧ (ego { mode := 1 }).fus.ego.mode ≠ 0 ∧ up.fus.ego.mode = 0 ∧
    (let e : Ego := { est := [anEst] }; e.mode = 0 ∧ e.est = anEst :: []) ∧
    (let s := ego { pend := some egoOn }
     s.fus.ego.pend = some egoOn ∧ egEnable egoOn = true ∧ egEnable (zeros 76) = false ∧ up.fus.ego.pend = none) ∧
    (let s : State := { up with tsu := { doms := [(0, { ns := 500000 })] } }; atGrid (s.tdNs 0) 0 1000000 = false) ∧
    (let s : State := { ego { cfg := some (zeros 4 ++ [1#8, 0#8] ++ zeros 38 ++ ([0#8, 0#8, 0#8, 0#8] ++ leF f1) ++ ([0xFF#8] ++ zeros 7) ++
        ([0xFF#8] ++ zeros 7) ++ ([0xFF#8] ++ zeros 7)), noWheel := none } with
        cse := { imu := { tick := some 0 }, fins := [(0, { c := { cur := some [0#8, 0#8, 1#8] } })] } }
     imuWord s = 1 ∧ wheelsValid s ≠ []) := by
  decide +kernel

theorem wit_Fusion :
    (let s := gathering (some aCycle) f1
     s.fus.committed = true ∧ (s.st fusFid).live = true ∧ s.fus.owed = none ∧ (cutNow s).isSome = true ∧
       s.fus.cycle ≠ none) ∧
    (let s := gathering none f0; mayWork s 1 = false) ∧
    (let s := gathering none f1
     s.fus.cycle = none ∧ mayWork s 1 = true ∧ (trackedCell s (s.mono - 250000 * fgGather s.grid)).isSome = true ∧
      (cutNow s).isSome = true) ∧
    (cutNow (fusing .running { committed := true, cutTick := up.mono }) = none) ∧
    (let s := fusing .running { owed := some (up.mono, 0, .zero) }; s.fus.owed = some (up.mono, 0, .zero) ∧
      up.mono ≤ s.mono) ∧
    (let e : EdgeLine := { x0 := f0, y0 := f0, heading := f0, curvature := f0, conf := f0 }
     let s := fusing .starting { cycle := some aCycle }
     s.fus.cycle = some aCycle ∧ (s.st fusFid).live = true ∧ edgeOk s.grid aCycle true [] e = true ∧
      edgeOk s.grid aCycle false [] e = true) ∧
    ((fusing .faulted { cycle := some aCycle }).st fusFid).live = false ∧
    (let s := (fusing .running {}).setApp .fusGrid ((fusGridDefault.take 9) ++ [8#8] ++ fusGridDefault.drop 10) |>.setApp (.fusStream 3) streamCfg
     let pk : PointPacket := { port := 6, udp := true, dest := 2368, mac := 0, payload := [] }
     streamMatch s pk 3 = true ∧ streamMatch s pk 2 = false) ∧
    (let x : FSample := { inp := 0, tick := 250000000, arrival := 0, points := 1 }
     ¬ x.arrival + 250000000 < x.tick ∧ up.fus.cuts.head? = none ∧
       ({ x with tick := 250000001 } : FSample).arrival + 250000000 < 250000001) ∧
    (let s := fusing .running { ego := { lostAt := some (up.mono - 25000000) } }
     s.fus.ego.mode = 0 ∧ s.fus.ego.lostAt = some 975000000 ∧ (s.st fusFid).live = true ∧
       975000000 + 25000000 ≤ s.mono) ∧
    (let s := fusing .starting { ego := { est := [anEst] } }
     s.st fusFid = .starting ∧ s.fus.committed = false ∧ (s.fn fusFid).since + 62500000 ≤ s.mono ∧
      atGrid (s.tdNs 0) 0 (fusPeriod s.fus.rate) = true ∧ (trackedCell s s.mono).isSome = true) ∧
    (fusing .stopping {}).st fusFid = .stopping := by
  decide +kernel

/-- A pipeline in a lifecycle state. -/
def cam (st : FnState) (x : Pipe) : State := at_ (up.setPipe 7 x) (pipeFid 7) st
/-- A frame in progress. -/
def aFrame : Machine.Frm := { num := 0, waiting := true }
def setE (n first : Nat) : ExpSet := { ident := n, expo := f1, gain := f1, vals := [], first := first }

theorem wit_CameraCommands :
    (let p := le 4 7 ++ le 4 1 ++ leF f1 ++ leF f1 ++ zeros 24
     Accepted opExposureCommit hd p 0 up ∧ Accepted opExposureCommit hd p 8 (cam .running {}) ∧
      (fLe f1 (rdF p 8) && fLe (rdF p 8) (periodUs (up.pipeCfg 7))) = true ∧ valuesBad (up.pipeCfg 7) p = none ∧
      pipeLive up 7 = false ∧ pipeLive (cam .running {}) 7 = true) ∧
    (let p := le 4 7 ++ le 4 1 ++ leF fHalf ++ leF f1 ++ le 4 1 ++ zeros 20
     (fLe f1 (rdF p 8) && fLe (rdF p 8) (periodUs (up.pipeCfg 7))) = false ∧ valuesBad (up.pipeCfg 7) p = some 16) ∧
    ((cam .running { pend := some (setE 1 1) }).pipe 7).pend = some (setE 1 1) ∧ ((up.pipe 7).pend = none) ∧
    (let p := [7#8, 0#8, 0#8, 0#8, 4#8, 0#8, 0#8, 0#8]
     let s := cam .config { link := true }
     byteAt p 1 = 0 ∧ Accepted (opSensorTunnel (.ack [1#8])) hd p (byteAt p 4) s ∧
       Accepted (opSensorTunnel (.nack 3)) hd p 0 s ∧
      Accepted (opSensorTunnel (.nack 3)) hd p 0 up ∧ ¬ (pipeSt up 7 ≠ .off ∧ (up.pipe 7).link = true) ∧
      pipeSt s 7 ≠ .off ∧ (s.pipe 7).link = true ∧ pipeSt s 7 = .config) ∧
    (let p (op : Byte) : Bytes := [7#8, op, 0#8, 1#8, 1#8, 0#8, 0#8, 0#8, 5#8]
     Accepted (opSensorTunnel (.ack [])) hd (p 1#8) 0 up ∧ Accepted (opSensorTunnel (.ack [])) hd (p 2#8) 0 up ∧
      Accepted (opSensorTunnel (.ack [])) hd (p 3#8) 0 up ∧ byteAt (p 2#8) 1 = 2) ∧
    pipeSt up 7 ≠ .config ∧ (up.stg (.pipeStart 7)).length < 8960 ∧
    ¬ ((up.setStg (.pipeStart 7) (zeros 8960)).stg (.pipeStart 7)).length < 8960 ∧
      Accepted opPipeStatus hd (le 4 7) 76 up := by
  refine ⟨⟨accepted_of (by decide +kernel), accepted_of (by decide +kernel), by decide +kernel⟩, by decide +kernel, by decide +kernel,
    by decide +kernel, ⟨by decide, accepted_of (by decide +kernel), accepted_of (by decide +kernel), accepted_of (by decide +kernel),
      by decide +kernel⟩, ⟨accepted_of (by decide +kernel), accepted_of (by decide +kernel), accepted_of (by decide +kernel), by decide⟩,
    by decide +kernel, by decide +kernel, by decide +kernel, accepted_of (by decide +kernel)⟩

theorem wit_Cameras_link :
    (let s := cam .config { power := true }; (s.pipe 7).power = true ∧ pipeSt s 7 = .config) ∧
    ((pipeSt (cam .running { power := true }) 7).live = true ∧ (up.pipe 7).power = false) ∧
    pipeSt (cam .stopping { power := true }) 7 = .stopping ∧ pipeSt (cam .faulted { power := true }) 7 = .faulted ∧
    (let s := cam .config { limited := true, limitAt := up.mono - 250000000 }
     (s.pipe 7).limited = true ∧ pipeSt s 7 ≠ .off ∧ (s.pipe 7).limitAt + 250000000 ≤ s.mono) ∧
    (let s := cam .starting { committed := some (up.mono - 250000000) }
     pipeSt s 7 = .starting ∧ (s.pipe 7).committed = some 750000000 ∧ (s.pipe 7).next = 0 ∧
       750000000 + 250000000 ≤ s.mono) ∧
    ((cam .starting {}).pipe 7).committed = none ∧
    (let s := cam .stopping {}; pipeSt s 7 = .stopping ∧ (s.fn (pipeFid 7)).toFault = false) ∧
    (let s := (cam .running { trigAt := 0 }).setApp (.pipe 7) ((pipeDefault 7).take 3 ++ [1#8] ++ (pipeDefault 7).drop 4)
     pipeLive s 7 = true ∧ pcTriggered (s.pipeCfg 7) = true ∧
      atGrid (s.tdNs 0) (pcPhase (s.pipeCfg 7)) (pcPeriod (s.pipeCfg 7)) = true ∧
        (s.pipe 7).trigAt + pcPeriod (s.pipeCfg 7) / 8 ≤ s.mono) ∧
    (let x : Pipe := { pend := some (setE 1 3) }; x.pend = some (setE 1 3) ∧ (setE 1 3).first ≤ 2 + 1 ∧
      1 + 1 < (setE 1 3).first) := by
  decide +kernel

theorem wit_Cameras :
    (let s := cam .running { committed := some 0, link := true, frame := some aFrame, expected := some 0 }
     capturing s 7 = true ∧ perturb s 3 7 = none ∧ (s.pipe 7).frame = some aFrame ∧ pipeLive s 7 = true ∧
      (s.pipe 7).expected = some 0 ∧ ¬ 0 + 1000 * pcTol (s.pipeCfg 7) ≤ s.tdNs 0 ∧ aFrame.embedded = none ∧
      aFrame.lines < pcH (s.pipeCfg 7)) ∧
    (let s : State := { cam .running {} with tst := { slots := [(0, { kind := 3, target := 7, mag := 1, opt := 0x20002, till := none })] } }
     perturb s 3 7 = some (0, { kind := 3, target := 7, mag := 1, opt := 0x20002, till := none })) ∧
    (let pk (vc dt ecc : Nat) : Csi2 := { vc := vc, dt := dt, ecc := ecc, pixels := [], crcOk := true, data := [] }
     2 ≤ (pk 0 0 2).ecc ∧ (pk 1 0 0).vc ≠ 0 ∧ (pk 0 0x2B 1).ecc < 2 ∧ (pk 0 0x2B 1).vc = 0 ∧
      0x13 ∉ [0x00, 0x01, 0x02, 0x03, 0x12, 0x2B, 0x2C] ∧
        pcH (up.pipeCfg 7) ≤ ({ aFrame with lines := 65535 } : Machine.Frm).lines) ∧
    (let s : State := { cam .running { committed := some 0, expected := some 0 } with tsu := { doms := [(0, { ns := 2000000 })] } }
     0 + 1000 * pcTol (s.pipeCfg 7) ≤ s.tdNs 0) ∧ capturing up 7 = false ∧
    (let s := cam .starting { frame := some aFrame }; pipeSt s 7 = .starting ∧ aFrame.num = 0) ∧
    (let d := (pipeDefault 7).take 62 ++ le 2 0 ++ (pipeDefault 7).drop 64
     let x : Pipe := { sets := [setE 5 0], hist := [setE 9 0] }
     pcIdOff d ≠ 0xFFFF ∧ rd (le 2 5) (pcIdOff d) 2 = (predicted x d 0).ident % 65536 ∧
      rd (le 2 9) (pcIdOff d) 2 ≠ (predicted x d 0).ident % 65536 ∧
      (x.hist.find? fun q => decide (q.ident % 65536 = rd (le 2 9) (pcIdOff d) 2)) = some (setE 9 0) ∧
      (∀ q ∈ x.hist, q.ident % 65536 ≠ rd (le 2 8) (pcIdOff d) 2)) ∧
    pcIdOff (pipeDefault 7) = 0xFFFF ∧
    (let s := cam .running { done := [aFrame] }
     (s.pipe 7).done.find? (·.waiting) = some aFrame ∧ pcOutputs (s.pipeCfg 7) = 0 ∧ (s.pipe 7).done = aFrame :: [] ∧
       aFrame.waiting = true) ∧
    (let s := (cam .running { done := [aFrame] }).setApp (.pipe 7) ((pipeDefault 7).take 78 ++ [4#8] ++ (pipeDefault 7).drop 79)
     (pcOutputs (s.pipeCfg 7)).testBit 2 = true ∧ pcMinBlobs (s.pipeCfg 7) ≤ 2000) ∧
    (up.pipe 7).done.find? (·.waiting) = none := by
  decide +kernel

/-! ## Satellite baseband -/

/-- The baseband in a lifecycle state. -/
def gns (st : FnState) (g : Gns) : State := at_ { up with gns := g } gnssFid st
def aPip : Pip := { id := 5, len := 1, flags := 0, start := .zero, tcxo := f0, ji := f0, samples := [] }

theorem wit_GnssCommands :
    Accepted opNotchConfig hd notchDefault 0 up ∧ Accepted opGnssStatus hd [] 516 up ∧
    Accepted opPipCapture hd (le 4 32 ++ zeros 12) 0 up ∧
      Accepted opPipCapture hd (le 4 32 ++ zeros 12) 8 (gns .running {}) ∧
    (let p := le 4 32 ++ leT { sec := 0, ns := 999999, sub := 0 }
     rd p 4 12 ≠ 0 ∧ T96.toNs (rdT p 4) < up.tdNs 0 + 1000000) ∧
    (let p := le 4 32 ++ leT { sec := 60, ns := 1, sub := 0 }; up.tdNs 0 + 60000000000 < T96.toNs (rdT p 4)) ∧
    (rd (le 4 32 ++ zeros 12) 4 12 = 0 ∧ (gnssSt up).live = false ∧ (gnssSt (gns .running {})).live = true ∧
      capBusy (gns .running {}) = false ∧
        capBusy (gns .running { caps := [{ id := 1, len := 1, flags := 0, due := 0 }] }) = true ∧
      ¬ (1024 ≤ (gns .running {}).gns.pips.length + (gns .running {}).gns.caps.length) ∧
      storedBytes up + 0 + pipBytes 32 ≤ 268435456) ∧
    (let s := gns .running { pips := List.replicate 1024 aPip }; 1024 ≤ s.gns.pips.length + s.gns.caps.length) := by
  refine ⟨accepted_of (by decide +kernel), accepted_of (by decide +kernel), accepted_of (by decide +kernel),
    accepted_of (by decide +kernel), ?_⟩
  decide +kernel

theorem wit_GnssCommands_export :
    let s := gns .running { pips := [aPip] }
    let p (kind : Byte) (off n : Nat) : Bytes := le 4 5 ++ [kind, 0#8, 0#8, 0#8] ++ le 4 off ++ le 4 n
    (s.gns.pips.find? fun q => decide (q.id = 5)) = some aPip ∧ (up.gns.pips.find? fun q => decide (q.id = 5)) = none ∧
    Accepted opPipExport hd (p 0#8 0 0) 0 up ∧ Accepted opPipExport hd (p 0#8 0 0) 40 s ∧
    Accepted opPipExport hd (p 1#8 0 2048) (rd (p 1#8 0 2048) 12 2) s ∧ 0 + 2048 ≤ 8184 * aPip.len ∧
    Accepted opPipExport hd (p 1#8 8000 200) 0 s ∧ 8184 * aPip.len < 8000 + 200 ∧
      Accepted opPipExport hd (p 2#8 0 0) 0 s ∧
    Accepted opPipExport hd (p 3#8 0 0) 0 s := by
  refine ⟨by decide +kernel, by decide +kernel, accepted_of (by decide +kernel), accepted_of (by decide +kernel),
    accepted_of (by decide +kernel), by decide, accepted_of (by decide +kernel), by decide, accepted_of (by decide +kernel),
    accepted_of (by decide +kernel)⟩

theorem wit_GnssSignals :
    ((gns .config { antenna := 1 }).gns.antenna = 1 ∧ fLt (fDec 2 1000) (fDec 3 1000) = true ∧
      (gns .config { antenna := 1 }).gns.antennaAt + 25000000 ≤ up.mono) ∧
    ((gns .config { antenna := 2 }).gns.antenna = 2 ∧ fLe (fDec 3 1000) (fDec 3 1000) = true) ∧
    (let s := gns .config { antenna := 3, shortAt := up.mono - 275000000 }
     s.gns.antenna = 3 ∧ s.gns.shortAt + 275000000 ≤ s.mono ∧ fLe (fDec 90 1000) (fDec 90 1000) = true) ∧
    (let s := gns .running { jamAt := some 750000000 }
     s.gns.jamAt = some 750000000 ∧ (gnssSt s).live = true ∧ 750000000 + 250000000 ≤ s.mono) ∧
    (up.gns.jamAt = none ∧ fLe (nfWarn (notchNow up)) up.gns.ji = false ∧
      fLe (nfWarn (notchNow up)) (gns .running { ji := fOfNat 6 }).gns.ji = true ∧ up.gns.level ≠ 3) ∧
    (fwRuns up = true ∧ (gnssSt up).live = false ∧ jobAdmitted up = false ∧
      jobAdmitted (gns .off { jobs := [5], jobEpochs := 1 }) = true ∧ gnssFull (gns .running {}) = true) ∧
    (let l : NotchLine := { freq := fOfNat 1000, level := fOfNat 15 }
     let s := gns .running { notches := [(0, { st := 1, freq := fOfNat 1100, run := 9 })] }
     (s.notch 0).st ≠ 2 ∧ strongest ([l].filter fun y => fLe (fAbs (fSub y.freq (nfCentre notchDefault 0))) (nfHalf notchDefault 0) &&
       !lineTaken s notchDefault 0 y.freq) = some l ∧ fLe (nfTh notchDefault) l.level = true ∧ (s.notch 0).run = 9 ∧
       fLe (fAbs (fSub l.freq (s.notch 0).freq)) (fOfNat 100) = true ∧ fLe (nfTh notchDefault) (fOfNat 14) = false) ∧
    (let x : Search := { prn := 7, centre := f0, windows := 3 }
     let s := gns .running { sweep := [x], dwell := 9 }
     s.gns.sweep = x :: [] ∧ skipPrns s (x :: []) = x :: [] ∧ gcDwell (s.app .gnss) ≤ s.gns.dwell + 1 ∧
      peakOf [] = none ∧ (peakOf [[1, 9, 1, 1]]).isSome = true ∧
      fLe (gcAcqTh (s.app .gnss)) (fOfNat 3) = true ∧ fLe (gcAcqTh (s.app .gnss)) f1 = false ∧
      0 + 1 < gcDwell (s.app .gnss)) ∧
    (let s := (gns .running {}).setTrack 0 { st := 1, pullAt := up.mono - 25000000 }
     (s.track 0).st = 1 ∧ (s.track 0).pullAt + 25000000 ≤ s.mono ∧ s.mono ≤ (s.track 0).pullAt + 25000000 ∧
       (s.track 1).st = 0) ∧
    (gcBin gnssDefault = 500 ∧ gcSpan gnssDefault = 10000) ∧
    (let s := (gns .running {}).setTrack 47 { st := 3, phaseAt := 750000000, lowAt := some 750000000, unlockAt := some 950000000 }
     (s.track 47).lowAt = some 750000000 ∧ (s.track 47).st ≠ 0 ∧ 750000000 + 250000000 ≤ s.mono ∧
      (s.track 47).unlockAt = some 950000000 ∧ 3 ≤ (s.track 47).st ∧ 950000000 + 50000000 ≤ s.mono ∧
        2 < (s.track 47).st ∧
      (s.track 47).phaseAt + 250000000 ≤ s.mono) ∧
    (((gns .running {}).setTrack 47 { st := 2 }).track 47).st = 2 ∧
    (∀ c, c < 48 → (((List.range 48).foldl (fun s c => s.setTrack c { st := 1 }) up).track c).st ≠ 0) := by
  refine ⟨?_, ?_, ?_, ?_, ?_, ?_, ?_, ?_, ?_, ?_, ?_, ?_, ?_⟩ <;> decide +kernel

/-- The first two words of a subframe of ID 1 at TOW count 100, with the parity of the interface specification worked out
from its six equations, and eight words of zeros. -/
def subframe1 : List Nat := [0x22C00012, 0x000C8134, 0, 0, 0, 0, 0, 0, 0, 0]
/-- The same of ID 2: D30 of the HOW is 1, so the words after it come inverted. -/
def subframe2 : List Nat :=
  [0x22C00012, 0x000C8229, 0x3FFFFFD6, 0x29, 0x3FFFFFD6, 0x29, 0x3FFFFFD6, 0x29, 0x3FFFFFD6, 0x29]

theorem test_subframe :
    let f := readSubframe subframe1 0
    let g := readSubframe subframe2 0
    f.pre = true ∧ f.inverted = false ∧ f.headOk = true ∧ f.id = 1 ∧ f.tow = 100 ∧ f.parity = 1023 ∧
    g.headOk = true ∧ g.id = 2 ∧ g.parity = 1023 ∧
      (readSubframe (0x22C00013 :: subframe1.drop 1) 0).headOk = false := by
  decide +kernel

/-- What an epoch measures with no satellite. -/
def noSky : EpochIn :=
  { obs := [], pdop := f0, lat := 0, lon := 0, height := f0, sigmaH := f0, week := 0, gps := .zero, tow := 0, td0LessGps := 0, sigma := f0 }

theorem wit_WordsEpochsAndPips :
    (let f := readSubframe (subframe2.take 2) 0
     f.pre = true ∧ f.headOk = true ∧ (some 1).map nextId = some f.id ∧ 1 ≤ f.id ∧ f.id ≤ 5 ∧
       2 ≤ (subframe2.take 2).length) ∧
    (((up.setTrack 0 { left := some 7 }).track 0).left = some 7 ∧ (up.track 0).left = none) ∧
    (((up.setTrack 0 { st := 5, bad := 1 }).track 0).st = 5 ∧ ((up.setTrack 0 { st := 4 }).track 0).st = 4) ∧
    ((readSubframe (0x22C00013 :: subframe1.drop 1) 0).headOk = false ∧
      (readSubframe (0x22C00013 :: subframe1.drop 1) 0).parity ≠ 1023 ∧ 10 ≤ subframe1.length) ∧
    (let s := gns .running {}
     fwRuns s = true ∧ gnssSt s = .running ∧ epochDue s noSky = true ∧ gcMode (s.app .gnss) = 0 ∧
      s.gns.storeAt + 150000000000 ≤ ({ s with mono := 150000000000 } : State).mono) ∧
    gcMode (((gns .running {}).setApp .gnss ([1#8] ++ gnssDefault.drop 1)).app .gnss) ≠ 0 ∧ gnssSt up ≠ .running ∧
    (let s := gns .starting {}; gnssSt s = .starting ∧ (s.fn gnssFid).since + 2500000 ≤ s.mono) ∧
    (let c : PipCap := { id := 1, len := 1, flags := 4, due := 0, begun := some (up.mono - 250000) }
     let s := gns .running { caps := [c] }
     (s.gns.caps.find? fun c => c.begun.isSome && !capRuns s c) = some c ∧ c.begun = some 999750000 ∧
       c.flags.testBit 2 = true ∧
       up.mono - 1 < 999750000 + 250000 * c.len) ∧
    (let s := gns .off { jobs := [5], pips := [aPip], jobPrn := 32, jobEpochs := 3 }
     s.gns.jobs = 5 :: [] ∧ jobPip s = some aPip ∧ jobNext s s.gns.jobPrn ≤ 32 ∧
      windowCount (s.app .gnss) * aPip.len ≤ s.gns.jobEpochs ∧ 32 < jobNext s (jobNext s s.gns.jobPrn + 1)) ∧
    jobPip (gns .off { jobs := [6], jobEpochs := 1 }) = none := by
  decide +kernel

/-! ## Time and the switch -/

/-- Domain 0 with a lifecycle state and a source. -/
def timed (st : FnState) (source : Byte) (x : Domain) : State :=
  at_ ((up.setDom 0 x).setApp (.td 0) ((tdDefault 0).take 2 ++ [source] ++ (tdDefault 0).drop 3)) (tdFid 0) st

theorem wit_TimeCommands :
    Accepted opGetTime hd (le 4 3) 40 up ∧ Accepted opTimeStatus hd (le 4 3) 160 up ∧
    Accepted opRateOverride hd (le 4 3 ++ le 8 0x3FEF9DB23) 0 up ∧
      Accepted opRateOverride hd (le 4 0x103 ++ le 8 0) 0 up ∧
    Accepted opPortConfig hd ([0#8, 2#8, 1#8, 0#8] ++ (portDefault 0).drop 4) 0 up ∧
      Accepted opGateConfig hd gateList 0 up ∧
    (up.dom 3).gmId = none ∧ (let s := timed .running 1 { gmId := some 9 }; (s.dom 0).gmId = some 9 ∧
      domSource s 0 = 1) ∧
    (byteAt (le 4 0x103) 1).testBit 0 = true ∧ (byteAt (le 4 3) 1).testBit 0 = false := by
  refine ⟨?_, ?_, ?_, ?_, ?_, ?_, by decide +kernel⟩ <;> exact accepted_of (by decide +kernel)

/-- A time-stamp that every clock adds to: 4 ns and the remainder of the increment. -/
theorem test_tick : ({} : Domain).tick.fine = 4 * 2 ^ 32 := by decide +kernel

theorem wit_Clocks_domain :
    (let s := timed .running 1 { step := some 5 }
     (s.dom 0).step = some 5 ∧ passed (s.dom 0) 0 = true ∧ (s.dom 0).stepAt < s.mono) ∧
    passed ({ ns := 4 } : Domain) 0 = false ∧ (up.dom 0).step = none ∧
    (let s := (timed .running 1 {}).setApp (.td 0) ((tdDefault 0).take 6 ++ [2#8] ++ (tdDefault 0).drop 7)
     s.st (tdFid 0) ≠ .off ∧ s.pwr.state ≠ 3 ∧ tdPps (tdCfg s 0) = true ∧ (s.dom 0).lastPps ≠ some s.mono ∧
      passed (s.dom 0) (tdPpsOffset (tdCfg s 0)) = true ∧ (s.dom 0).ppsMute = none) ∧
    ((up.dom 0).phaseLeft = 0 ∧ ({ phaseLeft := 1 } : Domain).phaseLeft ≠ 0) ∧
    (let s := timed .running 1 { clk := 3, lockBound := 100001, boundAt := up.mono }
     (s.dom 0).clk = 3 ∧ (s.dom 0).specSent = false ∧ (bound s 0).isSome = true) ∧
    (let s := timed .starting 1 {}; s.st (tdFid 0) = .starting ∧ (s.fn (tdFid 0)).since + 250000 ≤ s.mono) ∧
    (let x : Domain := { clk := 1, good := 9 }; x.clk = 1 ∧ x.decide = false ∧ x.phaseLeft = 0 ∧
      (65536000 : Int).natAbs ≤ 65536000 ∧ 9 ≤ x.good) ∧
    (let x : Domain := { clk := 2, cand := some 65536000000 }
     x.clk = 2 ∧ 65536000000 ≤ (65601536000 : Int).natAbs ∧ x.cand = some 65536000000 ∧
      ((65601536000 : Int) - 65536000000).natAbs ≤ 65536000 ∧ 65536000 < ((65601536001 : Int) - 65536000000).natAbs) ∧
    (let s := (timed .running 1 { clk := 2 }).setApp (.td 0) ((tdDefault 0).take 5 ++ [1#8] ++ (tdDefault 0).drop 6)
     (s.dom 0).clk = 2 ∧ tdBackup (s.app (.td 0)) = true ∧ (s.dom 1).clk ≠ 2 ∧
       ((s.setDom 1 { clk := 2 }).dom 1).clk = 2) ∧
    ((timed .running 1 { clk := 4 }).dom 0).clk = 4 ∧
      ((timed .running 1 { srcLost := true }).dom 0).srcLost = true := by
  refine ⟨?_, ?_, ?_, ?_, ?_, ?_, ?_, ?_, ?_, ?_, ?_, ?_⟩ <;> decide +kernel

theorem wit_Clocks_sources :
    (let s := (timed .running 1 { slave := some 6 }).setPort 6 { link := true } |>.setApp (.td 0)
        ((tdDefault 0).take 2 ++ [1#8] ++ ((tdDefault 0).drop 3 |>.take 5) ++ le 2 0x40 ++ (tdDefault 0).drop 10)
     fwRuns s = true ∧ (s.port 6).link = true ∧ terminates s 0 6 0 = true ∧ terminates s 0 6 1 = false ∧
       domLive s 0 = true ∧
      domSource s 0 = 1 ∧ (s.dom 0).slave = some 6 ∧ tfind (s.ptpPort 0 6).sent 0 = none ∧ portState s 0 6 ≠ 6 ∧
        portState s 0 6 ≠ 3) ∧
    (let s := (timed .running 0 {}).setPort 6 { link := true } |>.setApp (.td 0)
        ((tdDefault 0).take 1 ++ [1#8] ++ ((tdDefault 0).drop 2 |>.take 6) ++ le 2 0x40 ++ (tdDefault 0).drop 10)
     portState s 0 6 = 6 ∧ tdTrunk (s.app (.td 0)) = true ∧ domLive s 0 = true) ∧
    (let s := (up.setPort 0 { link := true }).setPort 6 { link := true }
     2 ≤ s.boot.phase ∧ (s.port 0).link = true ∧ (s.port 6).link = true ∧ shareVlan s 0 6 = true ∧
      ∀ d, d < 4 → terminates s d 0 0 = false ∧ (s.st (tdFid d) = .off ∨ tdProfile (tdCfg s d) ≠ 2)) ∧
    (let s := timed .running 1 { slave := some 6, annAt := some 0 }
     domSource s 0 = 1 ∧ (s.dom 0).slave = some 6 ∧ (s.dom 0).annAt = some 0 ∧ (s.dom 0).syncAt = none ∧
      0 + prAnnTimeout (s.portCfg 6) * logTicks (prLogAnn (s.portCfg 6)) ≤ s.mono) ∧
    (let s := timed .running 1 { slave := some 6, syncAt := some 0 }
     (s.dom 0).syncAt = some 0 ∧ 0 + 3 * logTicks (prLogSync (s.portCfg 6)) ≤ s.mono) ∧
    (let s := timed .running 3 {}
     domSource s 0 = 3 ∧ (∀ d, d < 4 → 0 < d → domSource s d ≠ 3) ∧ (s.dom 0).ppsEdge = none ∧
       (s.dom 0).srcLost = false ∧
      stampShift s 7 = 0 ∧ T96.toSub s.now % 65536000000000 ≤ 26214400000000) ∧
    (let s : State := { timed .running 3 { srcUp := true } with tsu := { (timed .running 3 { srcUp := true }).tsu with ppsIn := some 725000000 } }
     s.tsu.ppsIn = some 725000000 ∧ domSource s 0 = 3 ∧ (s.dom 0).srcUp = true ∧ 725000000 + 275000000 ≤ s.mono) := by
  refine ⟨?_, ?_, ?_, ?_, ?_, ?_, ?_⟩ <;> decide +kernel

/-- The bound of a locked domain in holdover, where it is over and within HOLDOVER_SPEC (100 µs). -/
theorem wit_Clocks_bound :
    (∃ e, bound (timed .running 1 { clk := 3, lockBound := 100001, boundAt := up.mono }) 0 = some e ∧
      tdSpec ((timed .running 1 {}).app (.td 0)) < e) ∧
    (∃ e, bound (timed .running 1 { clk := 3, lockBound := 0, boundAt := up.mono }) 0 = some e ∧
      e ≤ tdSpec ((timed .running 1 {}).app (.td 0))) := by
  refine ⟨⟨_, rfl, by decide +kernel⟩, ⟨_, rfl, by decide +kernel⟩⟩

def aFrameE : EthFrame := { src := 1, dst := 2, vlan := none, pcp := 0, ethertype := 0x86DD, fcsOk := true, length := 64 }

theorem wit_SwitchEvents :
    (let c := [6#8, 2#8, 0#8, 8#8] ++ (portDefault 6).drop 4
     let s := up.setPort 6 { pend := [(up.mono, c)] }
     (s.port 6).pend = (up.mono, c) :: [] ∧ up.mono ≤ s.mono ∧ prEnable (s.portCfg 6) = prEnable c ∧
       prRole (s.portCfg 6) = prRole c) ∧
    prRole (portDefault 6) ≠ prRole ([6#8, 2#8, 1#8, 8#8] ++ (portDefault 6).drop 4) ∧ (up.port 6).pend = [] ∧
    ((up.port 8).link = false ∧ portOn up 8 = true ∧ up.pwr.state ≤ 1 ∧ 2 ≤ up.boot.phase ∧
      ((up.setPort 8 { link := true }).port 8).link = true) ∧
    (let g := [6#8, 1#8, 0#8, 2#8] ++ le 4 1000000 ++ zeros 8 ++ le 4 0xFF ++ le 4 500000 ++ le 4 0x0F ++ le 4 500000
     let s : State := { up.setPort 6 { gate := some g } with tsu := { doms := [(0, { ns := 500000 })] } }
     (s.port 6).gate = some g ∧ (s.port 6).entryNs + gtInterval g (s.port 6).entry ≤ s.tdNs (gtDomain g) ∧
      (s.port 6).entry + 1 < gtCount g ∧ up.tdNs (gtDomain g) < (s.port 6).entryNs + gtInterval g (s.port 6).entry ∧
      (openFor s 6 4).isSome = true ∧ gtCount g ≤ 1 + 1) ∧
    (let g := gateList
     let s := up.setPort 6 { gatePend := some (up.mono - 250000, g) }
     (s.port 6).gatePend = some (999750000, g) ∧ (s.port 6).gate = none ∧ 999750000 + 250000 ≤ s.mono ∧
      s.tdNs (gtDomain g) - cycleAt s g < 8) ∧
    (let s := up.setPort 8 { link := true }
     portOn s 8 = true ∧ (s.port 8).link = true ∧ vlanEntry s 8 (prPvid (s.portCfg 8)) ≠ none ∧
       vlanEntry s 8 4094 = none ∧
      reservedMac aFrameE.dst = false ∧ reservedMac 0x0180C200000E = true ∧ (1 : Nat) / 2 ^ 40 % 2 = 0) ∧
    (let s := up.setPort 8 { link := true, queue := [(0, aFrameE)] }
     (s.port 8).queue ≠ [] ∧ (s.port 8).txFree ≤ s.mono ∧ nextFrame s 8 = some (0, aFrameE)) := by
  refine ⟨?_, ?_, ?_, ?_, ?_, ?_, ?_, ?_⟩ <;> decide +kernel

/-! ## CAN -/

/-- CAN0 in RUNNING, on its bus. -/
def bus (x : Can) : State := at_ (up.setCan 0 { x with onBus := true }) (canFid 0) .running
def aCan : CanFrame :=
  { id := 0x123, ide := false, fmt := 0, remote := false, brs := false, esi := false, sdu := 0, vcid := 0, af := 0,
    data := [1#8, 2#8] }
def aTx : CanTx := { ser := 0, frame := aCan, tag := 0, oneShot := false, report := false, insertSa := false, deadline := none }
def aRec : CanRec := { time := .zero, frame := aCan, filter := 0 }
/-- A filter that takes classical data frames of identifier 0x123 to a destination. -/
def aFilter (dest : Byte) : Bytes := le 4 0x123 ++ le 4 0x7FF ++ [1#8, dest] ++ zeros 10
/-- CAN0 configured for ISO 11783, as its defaults are otherwise. -/
def isoCfg : Bytes := b1 0 ++ b1 4 ++ (canDefault 0).drop 2
def iso (x : Can) : State := (bus x).setApp (.can 0) isoCfg
/-- A NAME with the self-configurable bit, preferred address 0x80 of the range 0x80 to 0x82. -/
def isoClaim : Bytes := [0#8, 0x80#8, 0x80#8, 0x82#8] ++ zeros 4 ++ zeros 7 ++ [0x80#8]
def claimOf (sa name : Nat) : CanFrame := frame29 (0x18EEFF00 + sa) (le 8 name)

/-- A payload of CAN_TRANSMIT on CAN0: a frame of identifier 0x123, flags as given. -/
def txBody (ctl fl fmt : Byte) (id : Nat) : Bytes := [ctl, fl, fmt, 0#8] ++ le 4 id ++ zeros 16

theorem wit_CanCommands :
    (let p := txBody 9#8 0#8 1#8 0x123
     Accepted opCanTransmit hd p 0 up ∧ byteAt p 0 = 9 ∧ formatOn (up.canCfg 9) (byteAt p 2) = false ∧
      formatOn (up.canCfg 9) 0 = true ∧ nIso (up.canCfg 9) = false) ∧
    (let p := txBody 0#8 0#8 0#8 0x7FF
     Accepted opCanTransmit hd p 0 (iso {}) ∧ nIso ((iso {}).canCfg 0) = true ∧ formatOn ((iso {}).canCfg 0) 0 = true ∧
      (rd p 4 4).testBit 29 = false) ∧
    (let p := txBody 0#8 0#8 0#8 0x123
     Accepted opCanTransmit hd p 0 (bus {}) ∧ (bus {}).st (canFid 0) = .running ∧ ((bus {}).can1 0).off = none ∧
      nMode ((bus {}).canCfg 0) = 0 ∧ ((bus {}).can1 0).host.length < 16 ∧ up.st (canFid 0) ≠ .running) ∧
    (let p := txBody 0#8 4#8 0#8 (2 ^ 29 + 0x18EEFF80)
     Accepted opCanTransmit hd p 0 (iso {}) ∧ (byteAt p 1).testBit 2 = true ∧ ((iso {}).can1 0).addrSt ≠ 2 ∧
      ((iso { addrSt := 2 }).can1 0).addrSt = 2 ∧ (rd p 4 4).testBit 29 = true) ∧
    16 ≤ ((bus { host := List.replicate 16 aTx }).can1 0).host.length := by
  refine ⟨⟨accepted_of ?_, ?_⟩, ⟨accepted_of ?_, ?_⟩, ⟨accepted_of ?_, ?_⟩, ⟨accepted_of ?_, ?_⟩, ?_⟩ <;> decide +kernel

theorem wit_CanCommands_begin :
    (let s := bus { fw := [aCan] }
     canSends s 0 = true ∧ (s.can1 0).att = none ∧ lowest (canPending (s.can1 0)) ≠ none) ∧
    lowest (canPending ((bus {}).can1 0)) = none ∧ ((bus { att := some (.fw, aCan) }).can1 0).att ≠ none := by
  decide +kernel

theorem wit_CanCommands_status :
    let p (sel n : Byte) : Bytes := [0#8, sel, n, 0#8]
    Accepted opCanStatus hd (p 0#8 0#8) 56 up ∧
    (let s := bus { queue := [aRec] }
     let room := curMax (atBody s hd) - 28
     Accepted opCanStatus hd (p 1#8 64#8) 40 s ∧ byteAt (p 1#8 64#8) 2 = 64 ∧
      8 + ((takeRecs room 64 room [aRec]).1.flatMap CanRec.bytes).length = 40) ∧
    (let s := bus { hp := some aRec }
     Accepted opCanStatus hd (p 2#8 0#8) 32 s ∧ (s.can1 0).hp = some aRec ∧ aRec.bytes.length = 32) ∧
    Accepted opCanStatus hd (p 2#8 0#8) 28 up ∧ (up.can1 0).hp = none ∧
    (let r := takeRecs 100 64 40 [aRec, aRec]; r.2.2 = aRec :: [] ∧ r.1.length < 64) ∧
    (takeRecs 31 64 31 [aRec]).2.1 = 1 := by
  refine ⟨accepted_of ?_, ⟨accepted_of ?_, ?_⟩, ⟨accepted_of ?_, ?_⟩, accepted_of ?_, ?_, ?_, ?_⟩ <;> decide +kernel

theorem wit_CanCommands_claim :
    Accepted opCanAddressClaim hd isoClaim 0 (iso {}) ∧ Accepted opCanAddressClaim hd isoClaim 0 up ∧
    (iso {}).st (canFid 0) = .running ∧ nIso ((iso {}).canCfg 0) = true ∧ up.st (canFid 0) ≠ .running := by
  refine ⟨accepted_of ?_, accepted_of ?_, ?_, ?_, ?_⟩ <;> decide +kernel

/-- A loop that reads two bytes of frame 0x123 on CAN0. -/
def canLoop : Bytes := (loopDefault 0).take 4 ++ [5#8, 0#8, 2#8, 0#8] ++ le 4 0x123 ++ (loopDefault 0).drop 12

theorem wit_CanReception :
    canActive up 0 = false ∧
    (canActive (bus {}) 0 = true ∧ formatOn ((bus {}).canCfg 0) aCan.fmt = true ∧ ((bus {}).can1 0).rxe ≤ 127 ∧
      127 < ((bus { rxe := 128 }).can1 0).rxe) ∧
    (let s := (bus {}).setStg (.loop 0) canLoop
     s.staged = [] ++ (.loop 0, canLoop) :: [] ∧ (∀ e ∈ ([] ++ [] : Tbl Obj Bytes), e.1 ≠ .loop 0) ∧
       dInType canLoop = 5 ∧ dInIdx canLoop = 0 ∧
      idMatches (dInId canLoop) aCan = true ∧ canField (dInQty canLoop) (dInOff canLoop) aCan.data = some (fOfNat 513) ∧
      canField (dInQty canLoop) 1 aCan.data = none) ∧
    (let s := (bus {}).setApp (.canFilter 0 63) (aFilter 1)
     firstFilter s 0 aCan = some 63 ∧ flDest (s.app (.canFilter 0 63)) = 1 ∧ (s.can1 0).queue = [] ∧
      (s.can1 0).rxAt = none ∧ firstFilter (bus {}) 0 aCan = none) ∧
    (flDest (aFilter 2) = 2 ∧ flDest (aFilter 3) ≠ 1 ∧ flDest (aFilter 3) ≠ 2) ∧
    (let s := bus { rxAt := some 997500000, hpAt := some 999750000 }
     (s.can1 0).rxAt = some 997500000 ∧ 997500000 + 2500000 ≤ s.mono ∧ 999750000 + 250000 ≤ s.mono ∧
      s.mono < 997500001 + 2500000 ∧ s.mono < 999750001 + 250000) ∧
    256 ≤ ((bus { queue := List.replicate 256 aRec }).can1 0).queue.length ∧
    (let s := bus { hp := some aRec, hpDue := true, queue := [aRec], rxAt := some 997500000, rxDue := true }
     (s.can1 0).hp = some aRec ∧ (s.can1 0).hpDue = true ∧ (s.can1 0).rxAt = some 997500000 ∧ (s.can1 0).rxDue = true ∧
      (s.can1 0).queue ≠ []) := by
  refine ⟨?_, ?_, ?_, ?_, ?_, ?_, ?_, ?_⟩ <;> decide +kernel

/-- A staged constraint that firmware reads from frame 0x123 of CAN0, as a processor-complex reset ends. -/
def cvFromCan : Bytes := (planCvDefault 5).take 5 ++ [3#8, 0#8, 2#8] ++ le 4 0x123 ++ (planCvDefault 5).drop 12
def waiting : State :=
  ({ bus {} with boot := { phase := 7, afterCore := true } }).setStg (.planCv 5) cvFromCan

theorem wit_CanReception_firmware :
    waiting.boot.afterCore = true ∧ waiting.boot.phase < 8 ∧ firmwareWants waiting 0 aCan = true ∧
    firmwareWants waiting 0 { aCan with id := 0x124 } = false ∧ ¬ up.boot.phase < 8 ∧
    ((waiting.can1 0).fwRx.length < Config.fwBuffers 0 ∨ Config.fwBuffers 0 ≤ (waiting.can1 0).fwRx.length) :=
  ⟨by decide +kernel, by decide +kernel, by decide +kernel, by decide +kernel, by decide +kernel, Nat.lt_or_ge _ _⟩

theorem wit_CanClaim :
    (let s := bus { addrSt := 1, claimAt := 937500000 }
     (s.can1 0).addrSt = 1 ∧ (s.can1 0).cannot = false ∧ claimWaits s 0 = false ∧
      (s.can1 0).claimAt + 62500000 ≤ s.mono ∧
      s.mono < 937500001 + 62500000 ∧ (up.can1 0).addrSt ≠ 1) ∧
    ((bus { cannot := true }).can1 0).cannot = true ∧
    (let s := (iso { addrSt := 1, addr := 0x80 }).setApp (.canClaim 0) isoClaim
     let f := claimOf 0x80 5
     canActive s 0 = true ∧ formatOn (s.canCfg 0) f.fmt = true ∧ nIso (s.canCfg 0) = true ∧ f.ide = true ∧ f.fmt = 0 ∧
      f.remote = false ∧ f.id / 65536 % 256 = 0xEE ∧ f.id / 256 % 256 = 0xFF ∧ f.id % 256 = 0x80 ∧ f.data.length = 8 ∧
        0x80 = (s.can1 0).addr ∧
      leVal f.data < clName (s.app (.canClaim 0)) ∧
      clName (s.app (.canClaim 0)) < leVal (claimOf 0x80 (2 ^ 63 + 1)).data ∧
      claimNext (s.setCan 0 { s.can1 0 with seen := tput (s.can1 0).seen 0x80 5 }) 0 = some 0x81) ∧
    (let s := (iso { addrSt := 1, addr := 0x82, seen := [(0x80, 1), (0x81, 1), (0x82, 1)] }).setApp (.canClaim 0) isoClaim
     claimNext s 0 = none) ∧
    (let f := frame29 0x18EAFF10 [0x00#8, 0xEE#8, 0x00#8]
     f.id / 65536 % 256 = 0xEA ∧ f.id / 256 % 256 = 255 ∧ f.data.take 3 = [0x00#8, 0xEE#8, 0x00#8] ∧
      ((iso { addrSt := 3 }).can1 0).addrSt = 3) ∧
    (let s := at_ up (canFid 9) .starting
     s.pwr.state ≤ 1 ∧ (s.can1 9).onBus = false ∧ (s.fn (canFid 9)).st = .starting ∧
      (s.fn (canFid 9)).since + canBits (s.canCfg 9) 11 ≤ s.mono ∧
      s.mono < ((s.setFn (canFid 9) { st := .starting, since := s.mono }).fn (canFid 9)).since + canBits (s.canCfg 9) 11) ∧
    (let s := at_ up (canFid 9) .running
     (s.can1 9).onBus = false ∧ (s.fn (canFid 9)).st = .running ∧ (up.fn (canFid 9)).st = .off) ∧
    (let s := up.setFn (canFid 9) { st := .stopping, since := 995000000 }
     (s.fn (canFid 9)).st = .stopping ∧ (s.can1 9).att = none ∧ (s.fn (canFid 9)).since + 5000000 ≤ s.mono ∧
      ((s.setCan 9 { att := some (.fw, aCan) }).can1 9).att ≠ none ∧ s.mono < 995000001 + 5000000) := by
  refine ⟨?_, ?_, ?_, ?_, ?_, ?_, ?_, ?_⟩ <;> decide +kernel

theorem wit_CanTransmission :
    (let s := bus { att := some (.host 0, aCan), host := [aTx], tec := 247 }
     (s.can1 0).att = some (.host 0, aCan) ∧ perturb s 4 0 = none ∧ nTdc (s.canCfg 0) = false ∧
      (s.can1 0).host.find? (fun t => t.ser = 0) = some aTx ∧ (s.can1 0).tec + 8 ≤ 255 ∧ s.st (canFid 0) = .running) ∧
    (let s := bus { att := some (.loop 5, aCan), slots := [(5, aCan)] }
     (s.can1 0).att = some (.loop 5, aCan) ∧ tfind (s.can1 0).slots 5 = some aCan ∧ tfind (s.can1 0).slots 6 = none) ∧
    ((up.can1 0).att = none ∧ up.st (canFid 0) ≠ .running) ∧
    (let s := bus { fw := [aCan] }
     canSends s 0 = true ∧ (s.can1 0).att = none ∧ s.st (canFid 0) = .running ∧
      ((canBegin s 0).can1 0).att = some (.fw, aCan) ∧ ((canBegin (bus {}) 0).can1 0).att = none ∧
      lowest (canPending ((canDeadlines s 0).can1 0)) = some (.fw, aCan) ∧
      lowest (canPending ((canDeadlines (bus {}) 0).can1 0)) = none) ∧
    lowest [(.loop 1, { aCan with ide := true, id := 0x123 * 2 ^ 18 }), (.fw, aCan)] = some (.fw, aCan) ∧
    ((({ tec := 127, rxe := 127 } : Can).off = none) ∧ 128 ≤ ({ tec := 128 } : Can).tec ∧
      ({ off := some 1 } : Can).off.isSome = true) ∧
    (canActive (bus {}) 0 = true ∧ ((bus { tec := 255 }).can1 0).tec + 0 ≤ 255 ∧
      255 < ((bus { tec := 255 }).can1 0).tec + 1 ∧
      canActive up 0 = false) ∧
    (let s := bus { off := some 997500000 }
     (s.can1 0).off = some 997500000 ∧ s.st (canFid 0) = .running ∧ nManual (s.canCfg 0) = false ∧
      997500000 + nBoff (s.canCfg 0) * 250000 ≤ s.mono ∧
      nManual ((s.setApp (.can 0) ((canDefault 0).take 3 ++ b1 1 ++ (canDefault 0).drop 4)).canCfg 0) = true) ∧
    (((bus {}).st (canFid 0)).idle = false ∧ (up.st (canFid 0)).idle = true ∧ ((bus {}).can1 0).dominant = false ∧
      ((bus { dominant := true }).can1 0).dominant = true) := by
  refine ⟨?_, ?_, ?_, ?_, ?_, ?_, ?_, ?_, ?_⟩ <;> decide +kernel

/-! ## Faults and sparing -/

/-- One record in the fault log. -/
def logged : State := { up with fcr := { up.fcr with
  flog := [{ num := some 3, pos := 0, time := .zero, body := zeros 36 }] } }

theorem wit_FaultCommands :
    (let p := le 2 0 ++ le 4 255 ++ le 2 1 ++ le 2 0
     Accepted opFaultRead hd p 8 up ∧ byteAt p 0 = 0 ∧ 8 = 8 * rd p 6 2) ∧
    (let p := le 2 1 ++ le 4 3 ++ le 2 16 ++ le 2 0
     Accepted opFaultRead hd p 48 logged ∧ byteAt p 0 = 1 ∧
      ((fromNumber (·.1) 3 16 (logged.fcr.flog.filterMap fun e => e.num.map fun q => (q, e))).flatMap
        fun e => leT e.2.time ++ e.2.body).length = 48) ∧
    (let p := le 2 2 ++ le 4 0 ++ le 2 16 ++ le 2 0
     Accepted opFaultRead hd p 0 up ∧ byteAt p 0 = 2 ∧
      ((fromNumber LogE.num 0 16 (atBody up hd).net.slog).flatMap (fun e => leT e.time ++ le 4 e.num ++ b1 e.kind ++ b1 0 ++
        le 2 e.body.length ++ le 4 e.lost ++ e.body)).length = 0) := by
  refine ⟨⟨accepted_of ?_, ?_⟩, ⟨accepted_of ?_, ?_⟩, ⟨accepted_of ?_, ?_⟩⟩ <;> decide +kernel

/-- A state with a source latched, in error or not. -/
def wrongSrc (n : Nat) (x : Src) : State := up.setSrc n { x with inErr := true, pair := 2, rails := 2 }
def stopped_ : State := { up with fcr := { up.fcr with safeStopped := true } }

theorem wit_FaultCommands_clear :
    let p : Bytes := [3#8, 0#8, 0#8, 0#8] ++ zeros 32
    let s := up.setSrc 8 { latched := true, raisedAt := 1 }
    Accepted opFaultClear hd p 32 s ∧ (byteAt p 0).testBit 0 = true ∧ (byteAt p 0).testBit 1 = true ∧
    (s.src 8).inErr = false ∧ (s.src 8).latched = true ∧ (s.src 8).raisedAt ≠ s.mono ∧
    ((wrongSrc 8 {}).src 8).inErr = true ∧ (byteAt (zeros 36) 0).testBit 0 = false ∧
    stopped_.fcr.safeStopped = true ∧ up.fcr.safeStopped = false ∧
    Accepted opFaultSourceConfig hd [8#8, 4#8, 1#8, 0#8] 0 up ∧ Accepted opFaultThreshold hd [4#8, 1#8, 0#8, 0#8] 0 up ∧
    Accepted opCaptureRead hd [] 48 up ∧ up.fcr.cap = none ∧
    (after (.accessRefused 0x10 1 0x40700000) up).fcr.cap ≠ none := by
  refine ⟨accepted_of ?_, ?_, ?_, ?_, ?_, ?_, ?_, ?_, ?_, ?_, accepted_of ?_, accepted_of ?_, accepted_of ?_, ?_, ?_⟩ <;>
    decide +kernel

/-- A pair as it is after a declaration or in quarantine. -/
def dead_ : Pair := { role := .fenced, dead := true, declared := 998750000 }
/-- The squall window of the present instant, with a number of records. -/
def squall (n : Nat) : State := { up with fcr := { up.fcr with winStart := 400, winCount := n, sev := [(8, 0)] } }

theorem wit_FaultCollection :
    (srcInfo 22 = none ∧ (22 : Nat) ≠ 133 ∧ (srcInfo 8).isSome = true ∧ (srcInfo 133).isSome = true) ∧
    (perturb up 8 8 = none ∧ up.pwr.state ≠ 3 ∧ 2 ≤ up.boot.phase ∧ ¬ 2 ≤ State.reset.boot.phase) ∧
    ((up.src 8).inErr = false ∧ severity up 8 ≠ 0 ∧ up.fcr.cap = none ∧ severity (squall 63) 8 = 0 ∧
      (after (.accessRefused 0x10 1 0x40700000) up).fcr.cap ≠ none) ∧
    ((squall 63).fcr.winStart = (squall 63).mono / 2500000 ∧ (squall 63).fcr.winCount < 64 ∧
      64 ≤ (squall 64).fcr.winCount ∧ up.fcr.winStart ≠ up.mono / 2500000) ∧
    (((wrongSrc 8 {}).src 8).inErr = true ∧ ((wrongSrc 8 {}).src 8).link = false ∧
      ((wrongSrc 8 { link := true }).src 8).link = true) ∧
    ((srcFid 40).isSome = true ∧ up.boot.coreDue = none ∧ appGroup up 0 = none ∧
      appGroup (up.setApp (.loop 0) ((loopDefault 0).take 2 ++ [5#8] ++ (loopDefault 0).drop 3)) 0 ≠ none) := by
  decide +kernel

theorem wit_FaultCollection_return :
    ((up.src 8).inErr = false ∧ (up.src 8).pair = 1 ∧ (up.src 8).link = false ∧ up.fcr.recNum < 2 ^ 32 - 2) ∧
    (up.fcr.winStart < up.mono / 2500000 ∧ State.reset.mono / 2500000 ≤ State.reset.fcr.winStart) ∧
    ({ up with fcr := { up.fcr with unrec := [(8, 1)] } } : State).fcr.unrec ≠ [] ∧ up.fcr.unrec = [] := by
  decide +kernel

theorem wit_FaultCollection_access :
    ((up.pair 0).role = .active ∧ passes up 0 2 1 0 = false ∧ up.fcr.epoch = 1 ∧ passes up 0 1 1 0 = true) ∧
    ((up.pair 3).role = .spare ∧ passes up 3 2 1 0 = false ∧ passes up 3 1 1 0 = true) ∧
    (let s := up.setPair 3 { role := .quarantine }
     (s.pair 3).role = .quarantine ∧ passes s 3 9 1 0x40BFFFFF = true) ∧
    ((up.setPair 0 dead_).pair 0).role = .fenced ∧
    (reaches up 0x10 1 0x40700000 = false ∧ reaches up 0x13 1 0x40700000 = true ∧ regionBase 0xF00000000000 = none ∧
      reaches up 1 4 0x80000000 = false ∧ regionBase 0x80000000 = some 0x80000000 ∧
        reaches up 0x17 2 0x80000000 = false) := by
  decide +kernel

/-- An access in quarantine is dropped without a fault wherever it is not the pair's self-test region. -/
theorem wit_FaultCollection_quarantine :
    let s := up.setPair 3 { role := .quarantine }
    passes s 3 9 1 0 = Config.inTestRegion 3 0 ∧ (s.pair 3).role = .quarantine := by
  constructor <;> rfl

theorem wit_FaultCollection_heart :
    (fwRuns up = true ∧ (up.pair 2).role = .active ∧ up.pwr.state ≤ 1 ∧ (up.pair 3).role ≠ .active ∧
      1 < ({ up with pwr := { up.pwr with state := 2 } } : State).pwr.state) ∧
    ((up.pair 2).checkpoint = none ∧
      (let s := up.setPair 2 { role := .active, checkpoint := some 999750000 }
       (s.pair 2).checkpoint = some 999750000 ∧ 999750000 + 250000 ≤ s.mono ∧ s.mono < 999750001 + 250000)) ∧
    (let s : State := { up with fcr := { up.fcr with aliveOn := true, beat := 998750000 } }
     s.fcr.aliveOn = true ∧ s.fcr.beat + 1250000 ≤ s.mono ∧ s.mono < s.fcr.beat + 1250001 ∧ up.fcr.aliveOn = false) ∧
    (∀ i, i < 4 → (up.pair i).role = .active → (up.pair i).serviced + 12500000 ≤ up.mono) ∧
    (let s := up.setPair 1 { role := .active, serviced := 987500001 }
     (s.pair 1).role = .active ∧ s.mono < (s.pair 1).serviced + 12500000) := by
  decide +kernel

theorem wit_SafeStopAndSparing :
    (let t := guidFault (planFault (forN 24 chanSafeStop (forN 64 grpFault up))); t.fcr.safeStopped = false) ∧
    (let t := guidFault (planFault (forN 24 chanSafeStop (forN 64 grpFault stopped_))); t.fcr.safeStopped = true) ∧
    ((at_ up (gFid 63) .running).st (gFid 63) = .running ∧ (at_ up (chFid 23) .starting).st (chFid 23) = .starting ∧
      (at_ up guidFid .running).st guidFid = .running ∧ (up.st plannerFid).idle = true) ∧
    (stopped_.fcr.safeStopped = true ∧ gFid 63 / 256 = 3) ∧
    (7 ≤ up.boot.phase ∧ (up.pair 0).role ≠ .fenced ∧ State.reset.boot.phase < 2 ∧ 2 ≤ up.boot.phase) := by
  refine ⟨?_, ?_, ?_, ?_, ?_⟩ <;> decide +kernel

theorem wit_SafeStopAndSparing_pairs :
    ((up.pair 0).role = .active ∧ (up.pair 3).role = .spare ∧ usableSpare up (up.pair 0).tasks = some 3 ∧
      usableSpare (up.setPair 3 { role := .fenced }) (up.pair 0).tasks = none ∧ (up.pair 3).restores = none ∧
      ((up.setPair 3 { role := .quarantine }).pair 3).role = .quarantine ∧
        ((up.setPair 3 dead_).pair 3).role = .fenced) ∧
    (∀ j, j < 4 → (up.pair j).restores = none) ∧
    (let s := up.setPair 3 { role := .spare, restores := some 0 }
     (s.pair 3).role = .spare ∧ (s.pair 3).restores = some 0 ∧ ∀ q, q < 3 → (s.pair q).restores = none) ∧
    (let s := up.setPair 0 dead_
     (s.pair 0).dead = true ∧ (s.pair 0).role = .fenced ∧ (s.pair 0).failed = false ∧
      (s.pair 0).declared + 1250000 ≤ s.mono ∧ s.mono < (s.pair 0).declared + 1250001 ∧
      (up.pair 0).role ≠ .quarantine ∧ (up.pair 0).dead = false) := by
  decide +kernel

/-- A master that does not reach the region raises and returns FSRC8, and the capture holds its access. -/
theorem test_refused :
    let t := after (.accessRefused 0x10 1 0x40700000) up
    (t.src 8).latched = true ∧ (t.src 8).inErr = false ∧ (t.src 8).count = 1 ∧
      (t.fcr.cap.map fun c => (c.source, c.master, c.access, c.address)) = some (8, 0x10, 1, 0x40700000) := by decide +kernel

/-- Pair 0 is declared dead: the epoch is 2, the pair FENCED, and the spare restores its tasks. -/
theorem test_declare :
    let t := after (.lockstepMiscompare 0 0x1000) up
    t.fcr.epoch = 2 ∧ (t.pair 0).role = .fenced ∧ (t.pair 1).tag = 2 ∧ (t.pair 3).restores = some 0 := by decide +kernel

/-! ## The service panel -/

/-- A panel frame with one bit set, and the CRC that goes with it. -/
def aPanelFrame : Bytes := le 4 0 ++ le 4 2506968012 ++ b1 1 ++ zeros 95
/-- Supplies in range: 30 V, 16 V and 2 V. -/
def lit (st : FnState) (x : Pnl) : State :=
  let p : Pnl := { x with supplyOk := true, vph := fOfNat 30, vpm := fOfNat 16, vpl := fOfNat 2 }
  at_ { up.setHolder 4 { balance := f1 } with pnl := { p with frames := [(0, (b1 1 ++ zeros 95, 2506968012))] } } panelFid st
def aPanelRow (n : Nat) : PRow :=
  { row := 15, target := zeros 6, band := 1, vph := fOfNat 30, vpm := fOfNat 16, vpl := fOfNat 2, tPlus := fOfNat 24,
    tMinus := fOfNat 24, phase := n }

/-- The CRC of the frame with one bit, and of a blank frame, in steps of 32 bytes. -/
theorem crc_one : (crc32c (b1 1 ++ zeros 95)).toNat = 2506968012 := by
  have a : (b1 1 ++ zeros 31).foldl crcByte 0xFFFFFFFF = 1221073310#32 := by decide +kernel
  have b : (zeros 32).foldl crcByte 1221073310#32 = 2285501338#32 := by decide +kernel
  have c : (zeros 32).foldl crcByte 2285501338#32 = 1787999283#32 := by decide +kernel
  have e : b1 1 ++ zeros 95 = (b1 1 ++ zeros 31) ++ zeros 32 ++ zeros 32 := rfl
  rw [crc32c, e, List.foldl_append, List.foldl_append, a, b, c]; rfl

theorem crc_blank : (crc32c (zeros 96)).toNat = 1374815403 := by
  have a : (zeros 32).foldl crcByte 0xFFFFFFFF = 1970194773#32 := by decide +kernel
  have b : (zeros 32).foldl crcByte 1970194773#32 = 4231468184#32 := by decide +kernel
  have c : (zeros 32).foldl crcByte 4231468184#32 = 2920151892#32 := by decide +kernel
  have e : zeros 96 = zeros 32 ++ zeros 32 ++ zeros 32 := rfl
  rw [crc32c, e, List.foldl_append, List.foldl_append, a, b, c]; rfl

theorem test_crc32c : (crc32c ((List.range 9).map fun i => BitVec.ofNat 8 (0x31 + i))).toNat = 0xE3069283 := by decide +kernel

theorem wit_PanelCommands :
    Accepted opPanelFrame hd aPanelFrame 0 up ∧
    ((crc32c (slice aPanelFrame 8 96)).toNat = rd aPanelFrame 4 4 ∧ (crc32c (zeros 96)).toNat ≠ 0) ∧
    Accepted opPanelStatus hd (le 4 15) 240 up ∧ Accepted opPanelStatus hd (le 4 0xFF) 48 up ∧
    (supplyRange (fOfNat 30) (fOfNat 16) (fOfNat 2) = true ∧ supplyRange (fOfNat 30) (fOfNat 15) f0 = true ∧
      supplyRange (fOfNat 30) (fOfNat 18) f0 = false ∧ up.pnl.run = none ∧
        (lit .running { run := some (aPanelRow 1) }).pnl.run ≠ none) ∧
    (let s := lit .running { sampleAt := some 999975000, tempAt := some 975000000 }
     s.pnl.sampleAt = some 999975000 ∧ 999975000 + 25000 ≤ s.mono ∧ s.mono < 999975001 + 25000 ∧
      975000000 + 25000000 ≤ s.mono ∧ s.mono < 975000001 + 25000000 ∧ s.pwr.state ≤ 1) ∧
    (let s := lit .running { okAt := 975000000, wrong := 2 }
     s.pnl.supplyOk = true ∧ s.pnl.okAt + 25000000 ≤ s.mono ∧ s.mono < s.pnl.okAt + 25000001 ∧
      s.pnl.wrong.testBit 1 = true ∧ interrupted (lit .running { journal := [aPanelRow 3] }) ≠ [] ∧
      up.pnl.wrong.testBit 1 = false ∧ interrupted up = [] ∧ up.pnl.supplyOk = false) ∧
    (let s := lit .stopping {}; s.st panelFid = .stopping ∧ s.pnl.run = none ∧ up.st panelFid ≠ .stopping) := by
  refine ⟨accepted_of ?_, ⟨crc_one, by rw [crc_blank]; decide⟩, accepted_of ?_, accepted_of ?_, ?_, ?_, ?_, ?_⟩ <;> decide +kernel

theorem wit_PanelRows :
    (let s := lit .running {}
     s.pnl.run = none ∧ s.pnl.supplyOk = true ∧ s.pwr.state ≤ 1 ∧ s.pwr.entering = none ∧ up.pnl.supplyOk = false ∧
      nextRow s = some 0 ∧ s.pnl.repair = 0) ∧
    (let s := lit .running { unknown := 0 }; nextRow s = some 0 ∧ nextRow (lit .off {}) = none ∧
      s.st panelFid = .running ∧ fwRuns s = true ∧ mayWork s 4 = true ∧ rowPending s 0 = true ∧
        rowPending up 0 = false) ∧
    (let s := lit .running { repair := 0x8000 }; nextRow s = some 15 ∧ s.pnl.repair ≠ 0 ∧ fwRuns s = true) ∧
    (let s : State := { lit .running {} with pnl := { (lit .running {}).pnl with frames := [(0, (zeros 96, 1))], saved := [(0, (zeros 96, 2))] } }
     nextRow s = some 0) ∧
    (fLt f0 f1 = true ∧ fLt f1 f0 = false ∧ fLt f0 f0 = false) ∧
    (let s := lit .running { run := some (aPanelRow 1), phaseAt := 994000000, noteAt := 999750000, journal := [aPanelRow 1] }
     let due := s.pnl.phaseAt + (fToInt (fMul (phaseMs (s.app .panel) (aPanelRow 1) 1) (fOfNat 250000))).toNat
     s.pnl.run = some (aPanelRow 1) ∧ due ≤ s.mono ∧ s.mono < due + 1 ∧ (aPanelRow 1).phase < 5 ∧
       s.pnl.noteAt + 250000 ≤ s.mono ∧
      s.mono < s.pnl.noteAt + 250001) ∧
    (let s := lit .running { run := some (aPanelRow 5), journal := [aPanelRow 5] }
     let due := s.pnl.phaseAt + (fToInt (fMul (phaseMs (s.app .panel) (aPanelRow 5) 5) (fOfNat 250000))).toNat
     s.pnl.run = some (aPanelRow 5) ∧ due ≤ s.mono ∧ 5 ≤ (aPanelRow 5).phase) ∧
    (let s : State := { up with fcr := { up.fcr with safeStopped := true } }
     s.fcr.safeStopped = true ∧ up.fcr.safeStopped = false ∧
      pnOverlay ((s.setApp .panel (zeros 100)).app .panel) = false) ∧
    (let s := lit .running { journal := [aPanelRow 3] }
     s.pnl.journal = [aPanelRow 3] ∧ (aPanelRow 3).done = false ∧ s.pnl.run = none ∧ interrupted up = []) := by
  refine ⟨?_, ?_, ?_, ?_, ?_, ?_, ?_, ?_, ?_⟩ <;> decide +kernel

theorem wit_PanelRows_frame :
    (checkFrame (lit .running {})).1 = true ∧
    (checkFrame { lit .running {} with
      pnl := { (lit .running {}).pnl with frames := [(0, (zeros 96, 1))], saved := [(0, (zeros 96, 2))] } }).1 = false := by
  have a : frameGood (b1 1 ++ zeros 95, 2506968012) = true := by simp only [frameGood, crc_one]; rfl
  have b (n : Nat) (h : n ≤ 2) : frameGood (zeros 96, n) = false := by
    simp only [frameGood, crc_blank, decide_eq_false_iff_not]; omega
  constructor
  · have e : frameOf (lit .running {}).pnl.frames (targetNo (lit .running {})) = (b1 1 ++ zeros 95, 2506968012) := rfl
    simp only [checkFrame, e, a, if_true]
  · unfold checkFrame
    have e : frameOf [(0, (zeros 96, 1))] 0 = (zeros 96, 1) := rfl
    have g : frameOf [(0, (zeros 96, 2))] 0 = (zeros 96, 2) := rfl
    have t : targetNo { lit .running {} with pnl := { (lit .running {}).pnl with frames := [(0, (zeros 96, 1))], saved := [(0, (zeros 96, 2))] } } = 0 := rfl
    simp only [t, e, g, b 1 (by decide), b 2 (by decide), Bool.false_eq_true, if_false]

/-! ## The resident loader -/

/-- An update of a body of one byte, received whole. -/
def updHeader : Bytes := le 32 0 ++ le 4 1 ++ zeros 220
def recv (x : Upd) : State := { up with upd := { x with header := updHeader, next := 1, staging := [9#8] } }

/-- Parameters of an UPDATE_BLOCK of one byte at an offset. -/
def aBlock (o : Nat) : Bytes := le 4 o ++ le 4 1 ++ b1 9
def receiving : State := { up with upd := { journal := 1, header := updHeader } }

theorem wit_Update :
    (let s := at_ up panelFid .running
     updateBlocked up = none ∧ updateBlocked s = some panelFid ∧ Accepted opUpdateBegin hd (le 4 0 ++ updHeader) 0 s ∧
      Accepted opUpdateBlock hd (aBlock 0) 0 s ∧ Accepted opUpdateCommit hd (le 4 0x5AA5) 0 s) ∧
    (let s := recv { journal := 2 }
     Accepted opUpdateBegin hd (le 4 0 ++ updHeader) 0 s ∧ updating s = true ∧ updateBlocked s = none) ∧
    (let s := recv { journal := 1 }
     Accepted opUpdateBegin hd (le 4 1 ++ zeros 256) 8 s ∧ updating s = false ∧
      (byteAt (le 4 1 ++ zeros 256) 0).testBit 0 = true ∧
      Accepted opUpdateBegin hd (le 4 0 ++ updHeader) 8 s ∧ s.upd.header = slice (le 4 0 ++ updHeader) 4 256) ∧
    (headerCheck up updHeader = some (stBadParam, 4) ∧ headerFields updHeader = some 0 ∧
      Accepted opUpdateBegin hd (le 4 0 ++ updHeader) 0 up ∧ up.upd.header ≠ updHeader) := by
  refine ⟨⟨?_, ?_, accepted_of ?_, accepted_of ?_, accepted_of ?_⟩, ⟨accepted_of ?_, ?_⟩,
    ⟨accepted_of ?_, ?_, ?_, accepted_of ?_, ?_⟩, ⟨?_, ?_, accepted_of ?_, ?_⟩⟩ <;> decide +kernel

theorem wit_Update_blocks :
    (Accepted opUpdateBlock hd (aBlock 0) 0 up ∧ up.upd.journal ≠ 1) ∧
    (Accepted opUpdateBlock hd (aBlock 0) 8 receiving ∧ rd (aBlock 0) 0 4 = receiving.upd.next ∧
      receiving.upd.next + rd (aBlock 0) 4 2 ≤ ihBody updHeader) ∧
    (Accepted opUpdateBlock hd (aBlock 0) 8 (recv { journal := 1 }) ∧
      rd (aBlock 0) 0 4 ≠ (recv { journal := 1 }).upd.next) ∧
    (Accepted opUpdateBlock hd (aBlock 1) 0 (recv { journal := 1 }) ∧ ihBody updHeader < 1 + rd (aBlock 1) 4 2) ∧
    (Accepted opUpdateCommit hd (le 4 0x5AA5) 0 up ∧ up.tst.slots = []) ∧
    (Accepted opUpdateCommit hd (le 4 0x5AA5) 4 receiving ∧ receiving.upd.next < ihBody updHeader) ∧
    (Accepted opUpdateCommit hd (le 4 0x5AA5) 0 (recv { journal := 1 }) ∧ ihBody updHeader ≤ (recv {}).upd.next) ∧
    Accepted opUpdateStatus hd [] 28 up := by
  refine ⟨⟨accepted_of ?_, ?_⟩, ⟨accepted_of ?_, ?_⟩, ⟨accepted_of ?_, ?_⟩, ⟨accepted_of ?_, ?_⟩, ⟨accepted_of ?_, ?_⟩,
    ⟨accepted_of ?_, ?_⟩, ⟨accepted_of ?_, ?_⟩, accepted_of ?_⟩ <;> decide +kernel

/-- A header of this module's type and unbound, whose fields are right: the signature decides. -/
def goodHeader : Bytes :=
  le 2 0x4B49 ++ le 2 1 ++ le 4 0x0960A001 ++ zeros 24 ++ le 4 1 ++ zeros 220

theorem wit_Update_header :
    headerFields goodHeader = none ∧ rd goodHeader 4 4 = 0x0960A001 ∧ (ihFlags goodHeader).testBit 0 = false ∧
    rd (le 4 0x00014B49 ++ le 4 7 ++ goodHeader.drop 8) 4 4 ≠ 0x0960A001 ∧
    headerFields (le 4 0x00014B49 ++ le 4 7 ++ goodHeader.drop 8) = none := by decide +kernel

theorem wit_Update_rows :
    ((recv { journal := 2 }).upd.busy = none ∧ (recv { journal := 2, busy := some 0 }).upd.busy ≠ none ∧
      sectorsTotal updHeader = 1 ∧ sectorsTotal (le 32 0 ++ le 4 (2 * 262144) ++ zeros 220) = 3) ∧
    ((recv { journal := 3, busy := some 0 }).upd.journal = 3 ∧
      (recv { journal := 3, busy := some 0, retried := true }).upd.retried = true ∧
      (recv { journal := 3 }).upd.retried = false ∧ up.boot.resumed = false ∧
      ({ recv { journal := 3, busy := some 0 } with boot := { up.boot with resumed := true } } : State).boot.resumed = true) := by
  decide +kernel

/-- A digest that fails twice leaves the journal FAILED with FSRC14 in error. -/
theorem test_update_failed :
    let t := after (.updateCheckComplete false) (recv { journal := 3, busy := some 0, retried := true })
    t.upd.journal = 4 ∧ t.upd.result = 3 ∧ (t.src 14).inErr = true := by decide +kernel

/-! ## The test block -/

/-- The parameters of TEST_UNLOCK, whose unit identifier is the module's own. -/
def unlockBody (fl : Byte) : Bytes := le 2 0x5445 ++ [fl, 0#8] ++ le 12 Config.unitId.toNat

theorem rd_le : ∀ (n o v : Nat) (p : Bytes), p.length = o → v < 256 ^ n → rd (p ++ le n v) o n = v
  | 0, _, v, _, _, hv => by simp only [rd]; simp at hv; omega
  | n + 1, o, v, p, hp, hv => by
    have e : p ++ le (n + 1) v = (p ++ [BitVec.ofNat 8 v]) ++ le n (v / 256) := by simp [le]
    have b : byteAt (p ++ le (n + 1) v) o = v % 256 := by simp [byteAt, le, hp]
    have r := rd_le n (o + 1) (v / 256) (p ++ [BitVec.ofNat 8 v]) (by simp [hp])
      (Nat.div_lt_of_lt_mul (by rw [Nat.pow_succ, Nat.mul_comm] at hv; exact hv))
    rw [rd, b, e, r]; omega

theorem rd_unit (fl : Byte) : rd (unlockBody fl) 4 12 = Config.unitId.toNat :=
  rd_le 12 4 _ (le 2 0x5445 ++ [fl, 0#8]) rfl Config.unitId.isLt

theorem wit_testUnlock (fl : Byte) (h : fl = 0#8 ∨ fl = 1#8) : Accepted opTestUnlock hd (unlockBody fl) 0 up := by
  have l : (unlockBody fl).length = 16 := rfl
  have g : firstBad (opTestUnlock.layout (unlockBody fl)) = none := by
    have a : ∀ o n, o + n ≤ 4 → rd (unlockBody fl) o n = rd (le 2 0x5445 ++ [fl, 0#8] ++ zeros 12) o n := by
      intro o n _
      have : o ≤ 4 := by omega
      have : n ≤ 4 := by omega
      interval_cases o <;> interval_cases n <;> first | omega | rfl
    simp only [opTestUnlock, firstBad, ckMask, ckZero, rd_unit, a 0 2 (by omega), a 2 1 (by omega), a 3 1 (by omega)]
    rcases h with rfl | rfl <;> decide
  have q : acceptedB opTestUnlock hd (unlockBody fl) 0 up =
      (acceptedB { opTestUnlock with layout := fun _ => [] } hd (zeros 16) 0 up && decide ((16 : Nat) = 16) &&
        decide (firstBad (opTestUnlock.layout (unlockBody fl)) = none)) := by
    have e : opTestUnlock.len (unlockBody fl) = 16 := rfl
    have r : reached up hd opTestUnlock.code (unlockBody fl) = reached up hd opTestUnlock.code (zeros 16) := rfl
    rw [acceptedB, acceptedB, l, g, e, r]
    rcases h with rfl | rfl <;> decide +kernel
  exact accepted_of (by rw [q, g]; decide +kernel)

/-- The unlock held by a session, with a slot in use. -/
def locked (n : Nat) (l : Tbl Nat TSlot) : State := { up with tst := { unlock := some n, slots := l } }
def aSlot : TSlot := { kind := 6, target := 23, mag := 0, opt := 0, till := some 1000000000 }

theorem wit_TestCommands :
    curSession (atBody up hd) = 1 ∧ (locked 1 []).tst.unlock = some (curSession (atBody (locked 1 []) hd)) ∧
    ((locked 2 []).tst.unlock = some 2 ∧ 2 ≠ curSession (atBody (locked 2 []) hd) ∧
      ∀ x ∈ (locked 2 []).net.sessions, x.num ≠ 2) ∧
    up.tst.unlock = none ∧ ((byteAt (unlockBody 1#8) 2).testBit 0 = true ∧
      (byteAt (unlockBody 0#8) 2).testBit 0 = false) ∧
    (Accepted opPerturbSet hd ([15#8, 6#8] ++ le 2 23 ++ zeros 16) 12 (locked 1 []) ∧
      Accepted opPerturbSet hd ([0#8, 8#8] ++ le 2 8 ++ le 4 3 ++ zeros 4 ++ le 4 3600000 ++ zeros 4) 12 (locked 1 []) ∧
      Accepted opPerturbSet hd ([0#8, 4#8] ++ le 2 9 ++ le 4 1 ++ zeros 12) 12 (locked 1 []) ∧
      Accepted opPerturbSet hd ([15#8, 6#8] ++ le 2 23 ++ zeros 16) 0 up ∧
      Accepted opPerturbSet hd ([15#8, 6#8] ++ le 2 23 ++ zeros 16) 0 (locked 1 [(15, aSlot)])) ∧
    (tfind up.tst.slots 15 = none ∧ perturb up 6 23 = none ∧ perturb (locked 1 [(15, aSlot)]) 6 23 ≠ none) ∧
    (Accepted opPerturbClear hd (le 4 0x8001) 0 (locked 1 [(15, aSlot)]) ∧ (rd (le 4 0x8001) 0 2).testBit 15 = true ∧
      Accepted opTestStatus hd [] 276 (locked 1 [(15, aSlot)])) ∧
    (let s := locked 1 [(15, aSlot)]
     tfind s.tst.slots 15 = some aSlot ∧ aSlot.till = some 1000000000 ∧ 1000000000 ≤ s.mono ∧
       tfind s.tst.slots 14 = none ∧
      s.mono < 1000000001 ∧ ({ aSlot with till := none } : TSlot).till = none) ∧
    (∃ x ∈ up.net.sessions, x.num = 1) := by
  refine ⟨?_, ?_, ?_, ?_, ?_, ⟨accepted_of ?_, accepted_of ?_, accepted_of ?_, accepted_of ?_, accepted_of ?_⟩, ?_,
    ⟨accepted_of ?_, ?_, accepted_of ?_⟩, ?_, ?_⟩ <;> decide +kernel

end Sys2Proof.Tests
end

section
/-! SUPPORT. The scope of 00_scope.md: what a step takes up, what one period of the tick does, and what reset leaves. -/

namespace Sys2Proof.Machine

/-- A period in CALM counts ten ticks (15 R499); carrying the clocks of the domains leaves that count alone. -/
@[simp] theorem calmTick_mono (s : State) : (calmTick s).mono = s.mono + 10 := by
  have outside_tsu : (calmTick s).off 8388608 = ({ s with mono := s.mono + 10 } : State).off 8388608 := by
    simp [calmTick]
  exact mono_of_off outside_tsu (by decide)

/-- Any other period counts one tick (00 R11); nothing else that it brings touches the count. -/
@[simp] theorem runTick_mono (s : State) : (runTick s).mono = s.mono + 1 := by
  have outside_effects : (runTick s).off 1140319204 = ({ s with mono := s.mono + 1 } : State).off 1140319204 := by
    simp [runTick]
  exact mono_of_off outside_effects (by decide)

/-- The clock stands still before event 2 of Table 1.12 and in OFF. -/
theorem tick_of_still {s : State} (h : s.boot.phase < 2 ∨ s.pwr.state = 5) : tick s = s := by
  unfold tick
  exact if_pos h

theorem tick_of_calm {s : State} (hp : 2 ≤ s.boot.phase) (hc : s.pwr.state = 3) : tick s = resumeOne (calmTick s) := by
  unfold tick
  rw [if_neg (by omega), if_pos hc]

theorem tick_of_running {s : State} (hp : 2 ≤ s.boot.phase) (hc : s.pwr.state ≠ 3) (ho : s.pwr.state ≠ 5) :
    tick s = resumeOne (runTick s) := by
  unfold tick
  rw [if_neg (by omega), if_neg hc]

theorem resumeOne_of_waits {s : State} {e : Held} {r : List Held} (h : s.net.held = e :: r)
    (hw : waits s e.cmd = true) : resumeOne s = s := by
  unfold resumeOne
  simp only [h, hw, if_true]

theorem resumeOne_of_exec {s t : State} {e : Held} {r : List Held} (h : s.net.held = e :: r)
    (hw : waits s e.cmd = false) (hx : exec e.cmd { s with net := { s.net with held := r } } = .next t) :
    resumeOne s = t := by
  unfold resumeOne
  simp only [h, hw, hx, Bool.false_eq_true, if_false]

theorem step_of_cons {s : State} {c : Instr} {q : List Instr} (h : s.pending = c :: q) : step s = exec c (s.rest q) := by
  unfold step
  rw [h]

theorem step_of_nil {s : State} (h : s.pending = []) : step s = .next (tick s) := by
  unfold step
  rw [h]

/-- After reset no function has a record of its own, so each has the record it starts with. -/
@[simp] theorem reset_fn (f : Nat) : State.reset.fn f = {} := rfl

/-- After reset no fault source has a record of its own either. -/
@[simp] theorem reset_src (n : Nat) : State.reset.src n = {} := rfl

/-- The only auto-start flag that reset leaves set is that of CAN2 (01 R45). -/
theorem reset_autoStart (f : Nat) : tget false State.reset.autoStart f = decide (f = 0x0C02) := by
  by_cases h : f = 0x0C02
  · simp [State.reset, tget, h]
  · simp [State.reset, tget, h, Ne.symm h]

end Sys2Proof.Machine

namespace Sys2Proof

open Machine

/-- Settles O1: the queue is the model's own frame around the commands (log entry 8). -/
theorem frontCommandRuns : Obligations.FrontCommandRuns :=
  fun _ _ _ h => step_of_cons h

/-- Settles O2: one case for each state of the clock, and one for each state of the commands that wait. -/
theorem emptyQueueIsOneTick : Obligations.EmptyQueueIsOneTick := by
  unfold Obligations.EmptyQueueIsOneTick
  refine ⟨fun _ => step_of_nil, fun _ => tick_of_still, ?calm, ?running, fun _ => resumeOne_of_none, ?held⟩
  case calm => exact fun s hp hc => ⟨tick_of_calm hp hc, calmTick_mono s⟩
  case running => exact fun s hp hc ho => ⟨tick_of_running hp hc ho, runTick_mono s⟩
  case held => exact fun _ _ _ h => ⟨resumeOne_of_waits h, fun _ => resumeOne_of_exec h⟩

/-- Settles O3: every table of functions and sources is empty at reset, and the one auto-start flag is that of CAN2. -/
theorem resetState : Obligations.ResetState := by
  unfold Obligations.ResetState
  refine ⟨rfl, fun f => ?functions, reset_autoStart, rfl, rfl, rfl, fun n => ?sources, rfl⟩
  case functions => rw [State.st, reset_fn]
  case sources => rw [reset_src]; exact ⟨rfl, rfl⟩

end Sys2Proof
end

section
/-! SUPPORT. What an accepted command of the system's opcodes finds, and what START and STOP then do (01 R29 to R32). -/

namespace Sys2Proof.Machine

/-! ## What the opcode of an accepted command sees -/

/-- Hearing a session changes none of the functions. -/
@[simp] theorem atBody_st (s : State) (h : Hdr) (f : Nat) : (atBody s h).st f = s.st f := rfl

theorem atBody_cur {op : OpSpec} {h : Hdr} {p : Bytes} {n : Nat} {s : State} (ok : Accepted op h p n s) :
    (atBody s h).cur = some (h.session, h.seq) :=
  if_neg ok.named

theorem curSession_atBody {op : OpSpec} {h : Hdr} {p : Bytes} {n : Nat} {s : State} (ok : Accepted op h p n s) :
    curSession (atBody s h) = h.session := by
  unfold curSession
  rw [atBody_cur ok]

/-- The session an accepted command names is open and bound to the endpoint it comes from (03 R87). -/
theorem session_atBody {op : OpSpec} {h : Hdr} {p : Bytes} {n : Nat} {s : State} (ok : Accepted op h p n s) :
    ∃ x, session (atBody s h) (curSession (atBody s h)) = some x ∧ x.ep = h.ep := by
  obtain ⟨x, hx, -⟩ := ok.session
  have hb : boundSession (heard s h) h = some { x with last := s.mono } := by
    rw [boundSession_heard, hx]
    rfl
  rw [curSession_atBody ok, show session (atBody s h) h.session = session (heard s h) h.session from rfl]
  unfold boundSession at hb
  cases hs : session (heard s h) h.session with
  | none => simp [hs] at hb
  | some y =>
    simp only [hs] at hb
    split at hb
    · exact ⟨y, rfl, ‹_›⟩
    · cases hb

/-! ## START -/

@[simp] theorem runFor_st (f g : Nat) (s : State) : (runFor f s).st g = s.st g := by
  unfold State.st State.fn
  rw [fns_of_off (runFor_off f s _ (Nat.and_self _)) rfl]

theorem runFor_of_awake {f : Nat} {s : State}
    (h : breezeFid f = true ∨ s.pwr.state ≠ 1 ∧ s.pwr.entering ≠ some 1) : runFor f s = s := by
  unfold runFor
  rcases h with hb | ⟨hs, he⟩
  · exact if_pos hb
  · simp [hs, he]

theorem runFor_of_entering {f : Nat} {s : State} (hb : breezeFid f = false) (he : s.pwr.entering = some 1) :
    runFor f s =
      toRun (powerEvent { s with pwr := { s.pwr with state := 1, entering := none, since := s.mono } } 0 1) 5 := by
  have hp (t : State) : (powerEvent t 0 1).pwr = t.pwr := pwr_of_off (powerEvent_off t 0 1 _ (Nat.and_self _)) rfl
  unfold runFor
  simp [hb, he, hp]

theorem runFor_of_breeze {f : Nat} {s : State} (hb : breezeFid f = false) (he : s.pwr.entering ≠ some 1)
    (hs : s.pwr.state = 1) : runFor f s = toRun s 5 := by
  unfold runFor
  simp [hb, he, hs]

section
variable {check : State → State × Verdict} {commit : State → State} {f : Nat} {s t : State}

theorem startFn_of_failed {st d : Nat} (hs : (s.st f).idle = true) (hc : check s = (t, some (st, d))) :
    startFn check commit f s = (t, st, d) := by
  unfold startFn
  cases h : s.st f <;> simp_all [FnState.idle]

theorem startFn_of_passed (hs : (s.st f).idle = true) (hc : check s = (t, none)) :
    startFn check commit f s = (commit t, stOk, 0) := by
  unfold startFn
  cases h : s.st f <;> simp_all [FnState.idle]

theorem startFn_of_stopping (hs : s.st f = .stopping) (hp : (s.fn f).pend = none) :
    startFn check commit f s = (s.setFn f { s.fn f with pend := s.cur }, stDeferred, 0) := by
  unfold startFn
  rw [hs]
  exact if_pos hp

theorem startFn_of_pending (hs : s.st f = .stopping) (hp : (s.fn f).pend ≠ none) :
    startFn check commit f s = (s, stBusy, 0) := by
  unfold startFn
  rw [hs]
  exact if_neg hp

theorem startFn_of_active (hs : s.st f = .starting ∨ s.st f = .running ∨ s.st f = .faulted) :
    startFn check commit f s = (s, stWrongState, 0) := by
  unfold startFn
  rcases hs with h | h | h <;> rw [h]

end

theorem startAny_of_limited {f : Nat} {s : State} (h : limited s = true) : startAny f s = (s, stWrongState, 0) :=
  if_pos h

theorem startAny_of_copying {f : Nat} {s : State} (hu : s.upd.journal = 2 ∨ s.upd.journal = 3)
    (hf : timeOrCan f = false) : startAny f s = (s, stWrongState, 0) := by
  unfold startAny
  simp [hu, hf]

/-- In full service, with no update in the way, START goes by the function's state. -/
theorem startAny_of_served {f : Nat} {s : State} (hl : limited s = false)
    (hu : s.upd.journal = 2 ∨ s.upd.journal = 3 → timeOrCan f = true) :
    startAny f s = startFn (fnCheck f) (fnCommit f) f (if (s.st f).idle then runFor f s else s) := by
  have hg : (decide (s.upd.journal = 2 ∨ s.upd.journal = 3) && !timeOrCan f) = false := by
    by_cases hj : s.upd.journal = 2 ∨ s.upd.journal = 3
    · simp [hu hj]
    · simp [hj]
  unfold startAny
  rw [hl, hg]
  rfl

/-! ## STOP -/

theorem stopAny_of_idle {f : Nat} {s : State} (h : s.st f = .off ∨ s.st f = .config) : stopAny f s = s := by
  unfold stopAny
  rcases h with h | h <;> rw [h]

theorem stopAny_of_stopping {f : Nat} {s : State} (h : s.st f = .stopping) : stopAny f s = cancelPend s f := by
  unfold stopAny
  rw [h]

theorem stopAny_of_active {f : Nat} {s : State} (h : s.st f = .starting ∨ s.st f = .running ∨ s.st f = .faulted) :
    stopAny f s = fnStop f s := by
  unfold stopAny
  rcases h with h | h | h <;> rw [h]

theorem cancelPend_of_none {f : Nat} {s : State} (h : (s.fn f).pend = none) : cancelPend s f = s := by
  unfold cancelPend
  rw [h]

theorem cancelPend_of_some {f : Nat} {s : State} {c : Nat × Nat} (h : (s.fn f).pend = some c) :
    cancelPend s f = startOutcome (s.setFn f { s.fn f with pend := none }) f (some c) stWrongState := by
  unfold cancelPend
  rw [h]

/-- STOP of CAN2 that comes on CAN2 is answered before the stop begins (13 R451). -/
theorem stopHere_of_here {op : OpSpec} {h : Hdr} {p : Bytes} {n : Nat} {s : State} (ok : Accepted op h p n s)
    (he : h.ep = .can2) (hr : s.st (canFid 2) = .running) :
    stopHere (canFid 2) (atBody s h) =
      canLeft { atBody s h with net := { (atBody s h).net with stopAt := some (s.mono, h.session, h.seq) } } 2 := by
  obtain ⟨x, hx, hep⟩ := session_atBody ok
  have hrun : canRunning (atBody s h) 2 = true := decide_eq_true hr
  unfold stopHere
  rw [hx]
  simp [hep, he, hrun, atBody_cur ok]
  rfl

/-- Any other STOP goes by the function's state. -/
theorem stopHere_of_elsewhere {op : OpSpec} {h : Hdr} {p : Bytes} {n : Nat} {s : State} {f : Nat}
    (ok : Accepted op h p n s) (hn : ¬ (h.ep = .can2 ∧ f = canFid 2 ∧ s.st f = .running)) :
    stopHere f (atBody s h) = stopAny f (atBody s h) := by
  obtain ⟨x, hx, hep⟩ := session_atBody ok
  unfold stopHere
  rw [hx]
  refine if_neg fun hc => hn ?_
  simp only [Bool.and_eq_true, decide_eq_true_eq, hep] at hc
  obtain ⟨⟨he, rfl⟩, hr⟩ := hc
  exact ⟨he, rfl, of_decide_eq_true hr⟩

/-! ## The two commands -/

theorem exec_start_of_accepted {h : Hdr} {p : Bytes} {s t : State} {st d : Nat} (ok : Accepted opStart h p 0 s)
    (hr : startAny (rd p 0 2) (atBody s h) = (t, st, d)) :
    exec (.start h p) s = .next (settle (replied h 0x0108 p (failAns t st d))) :=
  congrArg Host.Outcome.next (host_of_accepted (op := opStart) (failAns t st d)
    (by simp only [opStart, hr]; rfl) ok rfl)

theorem exec_stop_of_accepted {h : Hdr} {p : Bytes} {s t : State} (ok : Accepted opStop h p 0 s)
    (hr : stopHere (rd p 0 2) (atBody s h) = t) :
    exec (.stop h p) s = .next (settle (replied h 0x0109 p (okAns t))) :=
  congrArg Host.Outcome.next (host_of_accepted (op := opStop) (okAns t) (congrArg okAns hr) ok rfl)

end Sys2Proof.Machine

namespace Sys2Proof

open Machine

/-- Settles O4: nothing has been written yet. -/
theorem resetInv : Obligations.ResetInv := rfl

/-- Settles O5: a step is the front command on the state with the queue's rest, or one tick. -/
theorem stepKeepsInv : Obligations.StepKeepsInv := by
  unfold Obligations.StepKeepsInv
  intro s s' canonical stepped
  cases hq : s.pending with
  | nil =>
    rw [step_of_nil hq] at stepped
    cases stepped
    exact (tick_keeps s).1 canonical
  | cons c q =>
    rw [step_of_cons hq] at stepped
    exact exec_memKeeps c (s.rest q) stepped canonical

/-- Settles O14: one case for each state of the function, once service and update have let the command pass. -/
theorem startAndStop : Obligations.StartAndStop := by
  unfold Obligations.StartAndStop
  refine ⟨fun h p s ok => ?start, fun f s => ⟨runFor_of_awake, runFor_of_entering, runFor_of_breeze⟩,
    fun h p s ok => ?stop⟩
  case start =>
    refine ⟨fun hl => exec_start_of_accepted ok (startAny_of_limited hl),
      fun hu hf => exec_start_of_accepted ok (startAny_of_copying hu hf), fun hl hu => ?_⟩
    have go := startAny_of_served (f := rd p 0 2) (s := atBody s h) hl hu
    rw [atBody_st] at go
    refine ⟨fun hi => ?idle, fun hs hp => ?defer, fun hs hp => ?busy, fun hs => ?active⟩
    case idle =>
      rw [if_pos hi] at go
      have hi' : ((runFor (rd p 0 2) (atBody s h)).st (rd p 0 2)).idle = true := by rwa [runFor_st, atBody_st]
      exact ⟨fun t st d hc => exec_start_of_accepted ok (go.trans (startFn_of_failed hi' hc)),
        fun t hc => exec_start_of_accepted ok (go.trans (startFn_of_passed hi' hc))⟩
    case defer =>
      rw [if_neg (by simp [hs, FnState.idle]), startFn_of_stopping (s := atBody s h) hs hp, atBody_cur ok] at go
      exact exec_start_of_accepted ok go
    case busy =>
      rw [if_neg (by simp [hs, FnState.idle]), startFn_of_pending (s := atBody s h) hs hp] at go
      exact exec_start_of_accepted ok go
    case active =>
      rw [if_neg (by rcases hs with h | h | h <;> simp [h, FnState.idle]), startFn_of_active (s := atBody s h) hs] at go
      exact exec_start_of_accepted ok go
  case stop =>
    have elsewhere (t : State) (hn : s.st (rd p 0 2) ≠ .running) (hr : stopAny (rd p 0 2) (atBody s h) = t) :
        exec (.stop h p) s = .next (settle (replied h 0x0109 p (okAns t))) :=
      exec_stop_of_accepted ok ((stopHere_of_elsewhere ok fun hc => hn hc.2.2).trans hr)
    refine ⟨fun hs => ?idle, fun hs hp => ?stopping, fun c hs hp => ?pending, fun hs hn => ?active, fun hh => ?here⟩
    case idle => exact elsewhere _ (by rcases hs with h | h <;> simp [h]) (stopAny_of_idle hs)
    case stopping =>
      exact elsewhere _ (by simp [hs]) ((stopAny_of_stopping (s := atBody s h) hs).trans (cancelPend_of_none hp))
    case pending =>
      exact elsewhere _ (by simp [hs]) ((stopAny_of_stopping (s := atBody s h) hs).trans (cancelPend_of_some hp))
    case active => exact exec_stop_of_accepted ok ((stopHere_of_elsewhere ok hn).trans (stopAny_of_active hs))
    case here =>
      obtain ⟨he, hf, hr⟩ := hh
      rw [hf] at hr
      exact exec_stop_of_accepted ok (by rw [hf]; exact stopHere_of_here ok he hr)

/-- Settles O15: each of the three is its opcode's body, answered. -/
theorem resetSaveErase : Obligations.ResetSaveErase := by
  unfold Obligations.ResetSaveErase
  refine ⟨fun h p s ok => ?reset, fun h p s ok => ?save, fun h p s ok => ?erase⟩
  case reset => exact congrArg Host.Outcome.next (hostOnly_of_accepted (op := opResetCore) (okAns _) rfl ok rfl)
  case save => exact congrArg Host.Outcome.next (hostOnly_of_accepted (op := opSaveSettings) (okAns _) rfl ok rfl)
  case erase =>
    have answered (t : State) (ht : opLogErase.body (atBody s h) p = okAns t) :
        exec (.logErase h p) s = .next (replied h 0x010F p (okAns t)) :=
      congrArg Host.Outcome.next (hostOnly_of_accepted (op := opLogErase) (okAns t) ht ok rfl)
    refine ⟨fun ha => ?log, fun ha => ?captures, fun ha => ?both⟩
    all_goals
      refine answered _ ?_
      simp only [opLogErase, ha]
      rfl

end Sys2Proof
end

section
/-! SUPPORT. What power-on reset and RESET_N leave, and when the supplies, the clock and RESET_N bring one about
(01 Table 1.10, R41, R42; 02 R58, R59). -/

namespace Sys2Proof.Machine

theorem next_settle_congr {t u : State} (h : t = u) :
    (.next (settle t) : Host.Outcome State Fault Refusal) = .next (settle u) := by
  rw [h]

/-! ## What is left of the memory -/

/-- A range that is lost reads as if it had never been written; every other byte reads as before. -/
theorem memGet_memLose (m : List Host.Cell) (lo hi a : Nat) :
    memGet (memLose m lo hi) a = if lo ≤ a ∧ a ≤ hi then memDefault a else memGet m a := by
  unfold memLose
  induction m with
  | nil => simp [memGet]
  | cons c r ih =>
    obtain ⟨x, b⟩ := c
    rw [List.filter_cons]
    by_cases lost : lo ≤ x ∧ x ≤ hi
    · have hx : ¬ (x < lo ∨ hi < x) := by omega
      simp only [hx, decide_false, Bool.false_eq_true, if_false, ih, memGet]
      by_cases hxa : x = a
      · subst hxa
        rw [if_pos lost, if_pos lost]
      · rw [if_neg hxa]
    · have hx : x < lo ∨ hi < x := by omega
      simp only [hx, decide_true, if_true, memGet, ih]
      by_cases hxa : x = a
      · subst hxa
        rw [if_pos rfl, if_neg lost]
        exact (if_pos rfl).symm
      · rw [if_neg hxa, if_neg hxa]

/-- Of the memory, MRAM alone keeps what it had (01 Table 1.10). -/
theorem memGet_memKept (m : List Host.Cell) {a : Nat} (ha : a < 2 ^ 48) :
    memGet (memKept m) a = if 0x60000000 ≤ a ∧ a ≤ 0x60FFFFFF then memGet m a else memDefault a := by
  unfold memKept
  rw [memGet_memLose, memGet_memLose]
  by_cases above : 0x61000000 ≤ a ∧ a ≤ 0xFFFFFFFFFFFF
  · rw [if_pos above, if_neg (by omega)]
  · rw [if_neg above]
    by_cases below : 0 ≤ a ∧ a ≤ 0x5FFFFFFF
    · rw [if_pos below, if_neg (by omega)]
    · rw [if_neg below, if_pos (by omega)]

/-! ## When the sequence begins -/

theorem mayPowerUp_iff (s : State) : mayPowerUp s = true ↔
    s.boot.resetLow = false ∧ s.boot.refclk = true ∧ (s.boot.feedA = true ∨ s.boot.feedB = true) := by
  unfold mayPowerUp
  simp [and_assoc]

theorem xPowerOnReset_of_ready {b : Bool} {s : State} (h : mayPowerUp s = true) :
    xPowerOnReset b s = powerReset 1 b s :=
  if_pos h

theorem xPowerOnReset_of_unready {b : Bool} {s : State} (h : ¬ mayPowerUp s = true) : xPowerOnReset b s = s :=
  if_neg h

/-! ## RESET_N -/

theorem xResetNFall_of_unseen {ns : Nat} {s : State} (h : ns < 1000 ∨ s.pwr.state = 5) : xResetNFall ns s = s :=
  if_pos h.symm

theorem xResetNFall_of_long {ns : Nat} {s : State} (hn : 2000 ≤ ns) (ho : s.pwr.state ≠ 5) :
    xResetNFall ns s = powerReset 0 false { s with boot := { s.boot with resetLow := true } } := by
  have hl : ¬ ns < 2000 := by omega
  unfold xResetNFall
  rw [if_neg (by omega)]
  simp [hl]

/-- A pulse between 1 µs and 2 µs is free to reset or to do nothing (01 R41; log entry 28). -/
theorem xResetNFall_of_between {ns : Nat} {s : State} (h1 : 1000 ≤ ns) (h2 : ns < 2000) (ho : s.pwr.state ≠ 5) :
    xResetNFall ns s = if Config.freeBit s.nonce then
        powerReset 0 false { s with nonce := s.nonce + 1, boot := { s.boot with resetLow := true } }
      else { s with nonce := s.nonce + 1 } := by
  unfold xResetNFall
  rw [if_neg (by omega)]
  cases hb : Config.freeBit s.nonce <;> simp [h2, State.draw, hb]

section
variable {b : Bool} {s : State}

theorem xResetNRise_of_low (hl : s.boot.resetLow = true) :
    xResetNRise b s = xPowerOnReset b { s with boot := { s.boot with resetLow := false } } := by
  unfold xResetNRise xPowerOnReset
  exact if_pos hl

theorem xResetNRise_of_high (hl : s.boot.resetLow = false) : xResetNRise b s = s := by
  unfold xResetNRise
  exact if_neg (by simp [hl])

/-! ## The clock -/

theorem xRefclkLoss_of_monitored (ho : s.pwr.state ≠ 5) :
    xRefclkLoss s = powerReset 0 false { s with boot := { s.boot with refclk := false } } :=
  if_neg ho

theorem xRefclkLoss_of_off (ho : s.pwr.state = 5) :
    xRefclkLoss s = { s with boot := { s.boot with refclk := false } } :=
  if_pos ho

theorem xRefclkReturn_of_lost (hc : s.boot.refclk = false) :
    xRefclkReturn b s =
      if mayPowerUp { s with boot := { s.boot with refclk := true } } = true ∧ s.pwr.state ≠ 5 then
        powerReset 1 b { s with boot := { s.boot with refclk := true } }
      else { s with boot := { s.boot with refclk := true } } := by
  unfold xRefclkReturn
  exact if_neg (by simp [hc])

end

end Sys2Proof.Machine

namespace Sys2Proof

open Machine

/-- Settles O17: what is lost and kept is `powerReset`'s record; each row then has its condition, `mayPowerUp` for
those that begin the sequence. -/
theorem resets : Obligations.Resets := by
  unfold Obligations.Resets
  refine ⟨fun phase bench s => ?record, fun b s => ?powerOn, fun ns s h => ?unseen, fun ns s hn ho => ?long,
    fun ns s h1 h2 ho => ?between, fun b s => ?rise, fun s => ?loss, fun b s hc => ?clock, fun s => ?store⟩
  case record =>
    exact ⟨rfl, rfl, rfl, fun f => ⟨rfl, rfl⟩, rfl, rfl, rfl, rfl, rfl, rfl, rfl, rfl,
      fun a ha => memGet_memKept s.mem ha, rfl⟩
  case powerOn =>
    exact ⟨fun h => next_settle_congr (xPowerOnReset_of_ready ((mayPowerUp_iff s).mpr h)),
      fun h => next_settle_congr (xPowerOnReset_of_unready (mt (mayPowerUp_iff s).mp h))⟩
  case unseen => exact next_settle_congr (xResetNFall_of_unseen h)
  case long => exact next_settle_congr (xResetNFall_of_long hn ho)
  case between =>
    have pulse := xResetNFall_of_between h1 h2 ho
    cases hb : Config.freeBit s.nonce with
    | false => exact .inl (next_settle_congr (by rw [pulse, hb]; rfl))
    | true => exact .inr (next_settle_congr (by rw [pulse, hb]; rfl))
  case rise =>
    have ready := mayPowerUp_iff { s with boot := { s.boot with resetLow := false } }
    refine ⟨fun hl hf => ?_, fun hl hf => ?_, fun hl => next_settle_congr (xResetNRise_of_high hl)⟩
    · exact next_settle_congr
        ((xResetNRise_of_low hl).trans (xPowerOnReset_of_ready (ready.mpr ⟨rfl, hf⟩)))
    · exact next_settle_congr
        ((xResetNRise_of_low hl).trans (xPowerOnReset_of_unready fun h => hf (ready.mp h).2))
  case loss =>
    exact ⟨fun ho => next_settle_congr (xRefclkLoss_of_monitored ho),
      fun ho => next_settle_congr (xRefclkLoss_of_off ho)⟩
  case clock =>
    have ready := mayPowerUp_iff { s with boot := { s.boot with refclk := true } }
    refine ⟨fun ⟨hl, hf, ho⟩ => ?_, fun hn => ?_⟩
    · exact next_settle_congr
        ((xRefclkReturn_of_lost hc).trans (if_pos ⟨ready.mpr ⟨hl, rfl, hf⟩, ho⟩))
    · refine next_settle_congr ((xRefclkReturn_of_lost hc).trans (if_neg fun ⟨hm, ho⟩ => hn ?_))
      obtain ⟨hl, -, hf⟩ := ready.mp hm
      exact ⟨hl, hf, ho⟩
  case store =>
    exact ⟨fun h => next_settle_congr (if_pos h),
      fun h => next_settle_congr (if_neg h)⟩

end Sys2Proof
end

section
/-! SUPPORT. The power-up sequence, event by event, and the roles at event 7 (01 Table 1.12, R43, R46; 17 R563,
R565). -/

namespace Sys2Proof.Machine

/-! ## Events 2 to 5 -/

theorem xLoaderStart_of_good {s : State} (hp : s.boot.phase = 2) (hw : s.pwr.state ≤ 1) :
    xLoaderStart true s = { s.phase 3 with upd := { s.upd with wp := true } } :=
  if_pos ⟨hp, hw, rfl⟩

theorem xLoaderStart_of_bad (s : State) : xLoaderStart false s = s :=
  if_neg fun h => Bool.false_ne_true h.2.2

section
variable {s : State}

theorem xUpdateJournalRead_of_free (hp : s.boot.phase = 3) (hc : s.boot.afterCore = false)
    (hu : updating s = false) : xUpdateJournalRead s = s.phase 4 := by
  unfold xUpdateJournalRead
  rw [if_pos ⟨hp, hc⟩]
  exact if_neg (by simp [show updating (s.phase 4) = updating s from rfl, hu])

/-- An update in progress holds the sequence at event 4 (17 R563). -/
theorem xUpdateJournalRead_of_updating (hp : s.boot.phase = 3) (hc : s.boot.afterCore = false)
    (hu : updating s = true) : xUpdateJournalRead s =
      { s with boot := { s.boot with phase := 4, resumed := true }, upd := { s.upd with busy := some s.mono } } := by
  unfold xUpdateJournalRead
  rw [if_pos ⟨hp, hc⟩]
  exact if_pos hu

/-! ## Event 6, and the check of R46 -/

theorem xFirmwareImageVerified_of_good (hp : s.boot.phase = 5) (hl : s.boot.loaderServes = false)
    (hg : imageOk (norImage s) = true ∧ s.upd.journal ≠ 4) :
    ∃ u, xFirmwareImageVerified s = u ∧ u.boot = { s.boot with phase := 6, image := norImage s } := by
  refine ⟨_, rfl, ?_⟩
  unfold xFirmwareImageVerified
  rw [if_pos ⟨hp, hl⟩, if_pos hg]
  dsimp only
  split
  · exact boot_of_off (returnSrc_off _ 14 _ (Nat.and_self _)) rfl
  · rfl

theorem xFirmwareImageVerified_of_spare (hp : s.boot.phase = 5) (hl : s.boot.loaderServes = false)
    (hg : ¬ (imageOk (norImage s) = true ∧ s.upd.journal ≠ 4))
    (hs : imageOk (s.upd.header ++ s.upd.staging) = true ∧ s.upd.journal ≠ 4) :
    xFirmwareImageVerified s =
      { s with
        boot := { s.boot with phase := 4, resumed := true, afterCore := false }
        upd := { s.upd with journal := 2, sectors := 0, retried := false, busy := some s.mono } } := by
  unfold xFirmwareImageVerified
  rw [if_pos ⟨hp, hl⟩, if_neg hg]
  exact if_pos hs

theorem xFirmwareImageVerified_of_none (hp : s.boot.phase = 5) (hl : s.boot.loaderServes = false)
    (hg : ¬ (imageOk (norImage s) = true ∧ s.upd.journal ≠ 4))
    (hs : ¬ (imageOk (s.upd.header ++ s.upd.staging) = true ∧ s.upd.journal ≠ 4)) :
    xFirmwareImageVerified s = raise { s with boot := { s.boot with loaderServes := true } } 14 0 := by
  unfold xFirmwareImageVerified
  rw [if_pos ⟨hp, hl⟩, if_neg hg]
  exact if_neg hs

theorem xCoreResetDigestCheck_of_same (hp : s.boot.phase = 3) (ha : s.boot.afterCore = true)
    (hr : s.boot.resumed = false) (hs : Config.sha384 (bodyOf s.boot.image) = ihDigest ((norImage s).take 256))
    (hi : s.boot.image ≠ []) : xCoreResetDigestCheck s = s.phase 6 := by
  unfold xCoreResetDigestCheck
  rw [if_pos ⟨hp, ha, hr⟩]
  exact if_pos ⟨hs, hi⟩

theorem xCoreResetDigestCheck_of_other (hp : s.boot.phase = 3) (ha : s.boot.afterCore = true)
    (hr : s.boot.resumed = false)
    (hs : ¬ (Config.sha384 (bodyOf s.boot.image) = ihDigest ((norImage s).take 256) ∧ s.boot.image ≠ [])) :
    xCoreResetDigestCheck s = { s with boot := { s.boot with phase := 5, afterCore := false } } := by
  unfold xCoreResetDigestCheck
  rw [if_pos ⟨hp, ha, hr⟩]
  exact if_neg hs

end

/-! ## The roles at event 7 -/

section
variable {s : State} {pass : Nat → Bool} {n k : Nat}

theorem assignRoles_of_failing (h : pass (3 - k) = false) :
    assignRoles s pass n (k + 1) = (3 - k, .fenced, 0) :: assignRoles s pass n k := by
  simp [assignRoles, h]

theorem assignRoles_of_active (h : pass (3 - k) = true) (hn : n < 3) (hd : (s.pair (3 - k)).dead = false) :
    assignRoles s pass n (k + 1) = (3 - k, .active, n) :: assignRoles s pass (n + 1) k := by
  simp [assignRoles, h, hn, hd]

theorem assignRoles_of_spare (h : pass (3 - k) = true) (hn : 3 ≤ n ∨ (s.pair (3 - k)).dead = true) :
    assignRoles s pass n (k + 1) = (3 - k, .spare, 0) :: assignRoles s pass n k := by
  have hno : ¬ (n < 3 ∧ (s.pair (3 - k)).dead = false) := by
    rintro ⟨hlt, hd⟩
    rcases hn with hge | hd'
    · omega
    · simp [hd] at hd'
  exact (if_neg (by simp [h])).trans (if_neg hno)

end

/-- Each of the last `k` pairs is given a role once, in their order. -/
theorem assignRoles_pairs (s : State) (pass : Nat → Bool) (n k : Nat) :
    (assignRoles s pass n k).map (·.1) = (List.range k).reverse.map (3 - ·) := by
  induction k generalizing n with
  | zero => rfl
  | succ k ih =>
    rw [List.range_succ, List.reverse_append]
    by_cases hf : pass (3 - k) = true
    · by_cases ha : n < 3 ∧ (s.pair (3 - k)).dead = false
      · rw [assignRoles_of_active hf ha.1 ha.2]
        simp [ih]
      · rw [not_and_or, Nat.not_lt, Bool.not_eq_false] at ha
        rw [assignRoles_of_spare hf ha]
        simp [ih]
    · rw [assignRoles_of_failing (by simpa using hf)]
      simp [ih]

theorem assignRoles_phase (s : State) (m : Nat) (pass : Nat → Bool) (n k : Nat) :
    assignRoles (s.phase m) pass n k = assignRoles s pass n k := by
  induction k generalizing n with
  | zero => rfl
  | succ k ih =>
    unfold assignRoles
    rw [ih, ih]
    rfl

/-- A pair takes the role that event 7 gives it, and is granted the epoch (R43, 14 R493). -/
def takeRole (s : State) (e : Nat × Role × Nat) : State :=
  roleEvent
    (s.setPair e.1
      { s.pair e.1 with
        role := e.2.1, tag := s.fcr.epoch, tasks := if e.2.1 = .active then some e.2.2 else none
        serviced := s.mono, failed := decide (e.2.1 = .fenced), restores := none, checkpoint := none })
    e.1 (s.pair e.1).role.code

/-- FSRC7 shows the lowest pair that fails its self-test. -/
def selfTestSource (pass : Nat → Bool) (s : State) : State :=
  match (List.range 4).find? fun i => !pass i with
  | some i => raise s 7 (i + 1)
  | none => returnSrc s 7

/-- FSRC5 is looked at once event 7 has its three ACTIVE pairs, or a SPARE. -/
def rolesSource (s : State) : State := if activePairs s = 3 ∨ 0 < sparePairs s then spareSource s else s

/-- The self-tests of the four pairs, in their order. -/
def selfTests (a b c d : Bool) : Nat → Bool
  | 0 => a
  | 1 => b
  | 2 => c
  | _ => d

/-- Service as the number of ACTIVE pairs has it (R43). -/
def servedBy (s : State) : State :=
  { s with boot := { s.boot with noActive := decide (activePairs s = 0), limited := decide (activePairs s < 3) } }

theorem xPairRolesAssigned_eq {a b c d : Bool} {s : State} (h : s.boot.phase = 6) :
    xPairRolesAssigned a b c d s =
      servedBy (rolesSource (selfTestSource (selfTests a b c d)
        ((assignRoles (s.phase 7) (selfTests a b c d) 0 4).foldl takeRole (s.phase 7)))) := by
  unfold xPairRolesAssigned
  rw [if_pos h]
  rfl

@[simp] theorem selfTestSource_off (pass : Nat → Bool) (s : State) (ws : Nat) (hw : 96 &&& ws = 96) :
    (selfTestSource pass s).off ws = s.off ws := by
  unfold selfTestSource
  split
  · exact raise_off _ _ _ _ hw
  · exact returnSrc_off _ _ _ hw

@[simp] theorem rolesSource_off (s : State) (ws : Nat) (hw : 96 &&& ws = 96) : (rolesSource s).off ws = s.off ws := by
  unfold rolesSource
  split
  · exact spareSource_off _ _ hw
  · rfl

@[simp] theorem takeRole_off (s : State) (e : Nat × Role × Nat) (ws : Nat) (hw : 112 &&& ws = 112) :
    (takeRole s e).off ws = s.off ws := by
  refine off_of_subset hw ?_
  simp [takeRole]

/-- An event of the fault collector does not change the epoch. -/
theorem emitFault_epoch (s : State) (code func : Nat) (data : Bytes) :
    (emitFault s code func data).fcr.epoch = s.fcr.epoch := by
  have closings (l : List Nat) (t : State) : (l.foldl (fun t n => closeSession t n 2) t).fcr = t.fcr :=
    fcr_of_off (foldl_off 32 _ l t fun _ _ => closeSession_off _ _ _ _ rfl) rfl
  have sent (t : State) (c : Option (Nat × Nat)) (f : Bool) (p : Option Nat) :
      (emitTo t c f p code func data).fcr = t.fcr :=
    fcr_of_off (emitTo_off t c f p code func data 32 rfl) rfl
  unfold emitFault
  rw [sent]
  unfold flogAdd
  dsimp only
  rw [closings]

theorem roleEvent_epoch (s : State) (i old : Nat) : (roleEvent s i old).fcr.epoch = s.fcr.epoch := by
  unfold roleEvent
  dsimp only
  split
  · exact emitFault_epoch _ _ _ _
  · rw [fcr_of_off (emit_off _ _ _ _ 32 rfl) rfl]

theorem roleEvent_pair (s : State) (i old j : Nat) : (roleEvent s i old).pair j = s.pair j := by
  unfold State.pair
  rw [pairs_of_off (roleEvent_off s i old _ (Nat.and_self _)) rfl]

@[simp] theorem takeRole_epoch (s : State) (e : Nat × Role × Nat) : (takeRole s e).fcr.epoch = s.fcr.epoch :=
  roleEvent_epoch _ _ _

theorem takeRole_pair (s : State) (e : Nat × Role × Nat) :
    ((takeRole s e).pair e.1).role = e.2.1 ∧ ((takeRole s e).pair e.1).tag = s.fcr.epoch ∧
      ((takeRole s e).pair e.1).dead = (s.pair e.1).dead := by
  unfold takeRole
  rw [roleEvent_pair, setPair_pair]
  exact ⟨rfl, rfl, rfl⟩

theorem takeRole_pair_of_ne (s : State) {e : Nat × Role × Nat} {j : Nat} (h : e.1 ≠ j) :
    (takeRole s e).pair j = s.pair j := by
  unfold takeRole
  rw [roleEvent_pair, setPair_pair_of_ne _ _ h]

theorem takeRoles_pair_of_ne {l : List (Nat × Role × Nat)} {j : Nat} (h : ∀ e ∈ l, e.1 ≠ j) (s : State) :
    (l.foldl takeRole s).pair j = s.pair j := by
  induction l generalizing s with
  | nil => rfl
  | cons x r ih =>
    rw [List.foldl_cons, ih fun e he => h e (List.mem_cons_of_mem x he), takeRole_pair_of_ne s (h x List.mem_cons_self)]

/-- Where each pair is listed once, each ends with the role listed for it, in the epoch, and dead-marked as before. -/
theorem takeRoles_pair {l : List (Nat × Role × Nat)} (once : (l.map (·.1)).Nodup) (s : State) :
    ∀ e ∈ l, ((l.foldl takeRole s).pair e.1).role = e.2.1 ∧ ((l.foldl takeRole s).pair e.1).tag = s.fcr.epoch ∧
      ((l.foldl takeRole s).pair e.1).dead = (s.pair e.1).dead := by
  induction l generalizing s with
  | nil => simp
  | cons x r ih =>
    rw [List.map_cons, List.nodup_cons] at once
    obtain ⟨notAgain, rest⟩ := once
    have apart (e) (he : e ∈ r) : e.1 ≠ x.1 := fun heq => notAgain (heq ▸ List.mem_map_of_mem he)
    intro e he
    rw [List.foldl_cons]
    rcases List.mem_cons.mp he with rfl | he
    · rw [takeRoles_pair_of_ne apart]
      exact takeRole_pair s e
    · obtain ⟨role, tag, dead⟩ := ih rest (takeRole s x) e he
      refine ⟨role, tag.trans (takeRole_epoch s x), dead.trans ?_⟩
      rw [takeRole_pair_of_ne s (apart e he).symm]

/-- Event 7 changes the pairs by the roles they take, and its two sources (FSRC5, FSRC7) leave them alone. -/
theorem xPairRolesAssigned_takes {a b c d : Bool} {s : State} (h : s.boot.phase = 6) :
    ∃ v : State, xPairRolesAssigned a b c d s = servedBy v ∧ v.boot.phase = 7 ∧
      v.pairs = ((assignRoles s (selfTests a b c d) 0 4).foldl takeRole (s.phase 7)).pairs := by
  have sources (t : State) : (rolesSource (selfTestSource (selfTests a b c d) t)).off 96 = t.off 96 :=
    (rolesSource_off _ 96 rfl).trans (selfTestSource_off _ t 96 rfl)
  have taken : ((assignRoles s (selfTests a b c d) 0 4).foldl takeRole (s.phase 7)).off 112 = (s.phase 7).off 112 :=
    foldl_off 112 _ _ _ fun _ _ => takeRole_off _ _ _ rfl
  rw [← assignRoles_phase s 7] at taken ⊢
  exact ⟨_, xPairRolesAssigned_eq h, congrArg Boot.phase ((boot_of_off (sources _) rfl).trans (boot_of_off taken rfl)),
    pairs_of_off (sources _) rfl⟩

end Sys2Proof.Machine

namespace Sys2Proof

open Machine

/-- Settles O18: events 2 to 6 are one case of their row each; the roles of event 7 are assigned and then taken in one
pass over the four pairs. -/
theorem powerUp : Obligations.PowerUp := by
  unfold Obligations.PowerUp
  refine ⟨fun s hp => next_settle_congr (if_pos hp),
    fun s hp hw => ⟨congrArg Host.Outcome.next (xLoaderStart_of_good hp hw),
      congrArg Host.Outcome.next (xLoaderStart_of_bad s)⟩,
    fun s hp hc => ⟨fun hu => congrArg Host.Outcome.next (xUpdateJournalRead_of_free hp hc hu), fun hu =>
      ⟨_, congrArg Host.Outcome.next (xUpdateJournalRead_of_updating hp hc hu), rfl, rfl, rfl⟩⟩,
    fun s hp hr => congrArg Host.Outcome.next (if_pos ⟨hp, hr⟩),
    fun s hp hl => ⟨fun hg => ?image, fun hg hs =>
      ⟨_, next_settle_congr (xFirmwareImageVerified_of_spare hp hl hg hs), rfl, rfl, rfl, rfl⟩,
      fun hg hs => next_settle_congr (xFirmwareImageVerified_of_none hp hl hg hs)⟩,
    fun s hp ha hr => ⟨fun ⟨hi, hs⟩ => congrArg Host.Outcome.next (xCoreResetDigestCheck_of_same hp ha hr hs hi),
      fun hn => congrArg Host.Outcome.next (xCoreResetDigestCheck_of_other hp ha hr fun h => hn h.symm)⟩,
    fun s pass => ⟨rfl, fun n k _ h => assignRoles_of_failing h, fun n k _ h hn hd => assignRoles_of_active h hn hd,
      fun n k _ h hn => assignRoles_of_spare h hn⟩,
    fun a b c d s hp => ?roles⟩
  case image =>
    obtain ⟨u, hu, hb⟩ := xFirmwareImageVerified_of_good hp hl hg
    exact ⟨u, next_settle_congr hu, by rw [hb], by rw [hb]⟩
  case roles =>
    have listed : (assignRoles s (selfTests a b c d) 0 4).map (·.1) = [0, 1, 2, 3] := assignRoles_pairs s _ 0 4
    have taken := takeRoles_pair (l := assignRoles s (selfTests a b c d) 0 4) (by rw [listed]; decide) (s.phase 7)
    obtain ⟨v, whole, phase, pairs⟩ := xPairRolesAssigned_takes (a := a) (b := b) (c := c) (d := d) hp
    refine ⟨servedBy v, next_settle_congr whole, phase, listed, fun e he => ?_, decide_eq_true_iff, decide_eq_true_iff⟩
    have pair : (servedBy v).pair e.1 =
        ((assignRoles s (selfTests a b c d) 0 4).foldl takeRole (s.phase 7)).pair e.1 := by
      unfold State.pair
      exact congrArg (tget {} · e.1) pairs
    rw [pair]
    exact taken e he

end Sys2Proof
end

section
/-! SUPPORT. Events 8 to 10, and what a processor-complex reset leaves (01 Table 1.12, R36 to R38, R45, R46). -/

namespace Sys2Proof.Machine

/-! ## Event 8 -/

/-- The settings that come into force as the firmware starts to run (01 R29; 09 R291; 17 R567). -/
def settingsLoaded (s : State) : State :=
  let t := (schemaCheck s).phase 8
  egoLoad (if t.boot.loaded then t else loadStored t)

/-- The firmware runs: what is stored is staged, both sensor supplies are on, and ALIVE toggles. -/
def firmwareUp (s : State) : State :=
  let t := settingsLoaded s
  let u := vrefBoth true (stageStored { t with boot := { t.boot with loaded := true } })
  { u with
    pairs := u.pairs.map fun e => (e.1, { e.2 with serviced := u.mono })
    fcr := { u.fcr with beat := u.mono, aliveOn := true } }

theorem xFirmwareRunning_of_active {s : State} (hp : s.boot.phase = 7) (ha : 0 < activePairs s) :
    xFirmwareRunning s = panelBoot (antennaUpdate (forN 10 firmwareTakes (firmwareUp s))) := by
  unfold xFirmwareRunning firmwareUp settingsLoaded
  rw [if_pos ⟨hp, ha⟩]

theorem xFirmwareRunning_of_noActive {s : State} (ha : activePairs s = 0) : xFirmwareRunning s = s :=
  if_neg fun h => by omega

theorem settingsLoaded_boot (s : State) : (settingsLoaded s).boot = { s.boot with phase := 8 } := by
  have schema : (schemaCheck s).boot = s.boot := boot_of_off (schemaCheck_off s _ (Nat.and_self _)) rfl
  have stored (t : State) : (loadStored t).boot = t.boot := boot_of_off (loadStored_off t _ (Nat.and_self _)) rfl
  unfold settingsLoaded
  dsimp only
  rw [boot_of_off (egoLoad_off _ _ (Nat.and_self _)) rfl, apply_ite State.boot, stored, ite_self]
  exact congrArg (fun b : Boot => { b with phase := 8 }) schema

theorem settingsLoaded_mono (s : State) : (settingsLoaded s).mono = s.mono := by
  have schema : (schemaCheck s).mono = s.mono := mono_of_off (schemaCheck_off s _ (Nat.and_self _)) rfl
  have stored (t : State) : (loadStored t).mono = t.mono := mono_of_off (loadStored_off t _ (Nat.and_self _)) rfl
  unfold settingsLoaded
  dsimp only
  rw [mono_of_off (egoLoad_off _ _ (Nat.and_self _)) rfl, apply_ite State.mono, stored, ite_self]
  exact schema

theorem firmwareUp_boot (s : State) : (firmwareUp s).boot =
    { s.boot with phase := 8, loaded := true, vrefA := max s.boot.vrefA 1, vrefB := max s.boot.vrefB 1 } := by
  have staged (t : State) : (stageStored t).boot = t.boot := boot_of_off (stageStored_off t _ (Nat.and_self _)) rfl
  unfold firmwareUp vrefBoth
  simp only [staged, settingsLoaded_boot, if_true]

theorem firmwareUp_alive (s : State) : (firmwareUp s).fcr.aliveOn = true ∧ (firmwareUp s).fcr.beat = s.mono := by
  have staged (t : State) : (stageStored t).mono = t.mono := mono_of_off (stageStored_off t _ (Nat.and_self _)) rfl
  refine ⟨rfl, ?_⟩
  unfold firmwareUp vrefBoth
  simp only [staged, settingsLoaded_mono, if_true]

/-- Frames that waited for the firmware reach the planner and the yield records alone. -/
theorem framesTaken_off (s : State) : (forN 10 firmwareTakes s).off 33882112 = s.off 33882112 :=
  forN_off 10 firmwareTakes s _ fun t k => firmwareTakes_off t k _ rfl

/-! ## The processor-complex reset -/

/-- What the functions do at a processor-complex reset, before the firmware's own state is lost. -/
def coreFunctions (cause : Nat) (s : State) : State :=
  let t := slogAdd (coreNet (pairOutcomes s 4)) 4 (b1 cause ++ zeros 3)
  let t := gnssReset (fusReset (forN 8 pipeReset (forN 24 chanCoreReset (forN 64 grpCoreReset t))))
  tdCoreReset (guidReset (planReset t))

theorem coreReset_eq (cause : Nat) (s : State) :
    coreReset cause s = coreRestart cause (coreLose (coreFunctions cause s)) :=
  rfl

/-- The sequence's own state, what an update has reached, power and the switch are no function's. -/
theorem coreFunctions_off (cause : Nat) (s : State) : (coreFunctions cause s).off 16490976 = s.off 16490976 := by
  simp [coreFunctions]

theorem xProcessorComplexReset_of_due {s : State} {c : Nat} (hd : s.boot.coreDue = some c) (hp : 3 ≤ s.boot.phase) :
    xProcessorComplexReset s = coreReset c s := by
  unfold xProcessorComplexReset
  rw [hd]
  exact if_pos hp

theorem xProcessorComplexReset_of_none {s : State} (hd : s.boot.coreDue = none) : xProcessorComplexReset s = s := by
  unfold xProcessorComplexReset
  rw [hd]

section
variable {s : State}

theorem grpCoreReset_of_live {g : Nat} (hl : (s.st (gFid g)).live = true) (hh : (s.grp g).hold = none) :
    grpCoreReset s g =
      if gHold (s.grpCfg g) = 0 then grpFault s g else s.setGrp g { s.grp g with hold := some s.mono } :=
  if_pos (by simp [hl, hh])

theorem chanCoreReset_of_live {k : Nat} (hl : (s.st (chFid k)).live = true) (hh : (s.chan k).hold = none)
    (hf : (lockGroup s k).isSome = true ∨ cSrc (s.chCfg k) = 0) :
    chanCoreReset s k =
      let held := s.setChan k { s.chan k with hold := some s.mono }
      if chanHoldMs held k = 0 then chanHoldEnd held k else held :=
  if_pos (by simpa [hl, hh] using hf)

end

end Sys2Proof.Machine

namespace Sys2Proof

open Machine

/-- Settles O19: events 8 to 10 by their conditions; of a core reset, what the functions do leaves the rest of the
state to `coreLose` and `coreRestart`. -/
theorem firmwareAndCoreReset : Obligations.FirmwareAndCoreReset := by
  unfold Obligations.FirmwareAndCoreReset
  refine ⟨fun s hp ha => ?running, fun s _ ha => next_settle_congr (xFirmwareRunning_of_noActive ha),
    fun s hp => congrArg Host.Outcome.next (if_pos hp), fun s hp hc => next_settle_congr (if_pos ⟨hp, hc⟩),
    fun s _ hc => next_settle_congr (if_neg fun h => Bool.false_ne_true (h.2.symm.trans hc)),
    fun s c hd hp => ⟨next_settle_congr (xProcessorComplexReset_of_due hd hp), ?left⟩,
    fun s hd => next_settle_congr (xProcessorComplexReset_of_none hd),
    fun s g hl hh => ⟨fun h0 => (grpCoreReset_of_live hl hh).trans (if_pos h0),
      fun h0 => (grpCoreReset_of_live hl hh).trans (if_neg h0)⟩,
    fun s k hl hh hf => ⟨fun h0 => (chanCoreReset_of_live hl hh hf).trans (if_pos h0),
      fun h0 => (chanCoreReset_of_live hl hh hf).trans (if_neg h0)⟩⟩
  case running =>
    have boot : (forN 10 firmwareTakes (firmwareUp s)).boot = _ :=
      (boot_of_off (framesTaken_off _) rfl).trans (firmwareUp_boot s)
    have fcr : (forN 10 firmwareTakes (firmwareUp s)).fcr = (firmwareUp s).fcr := fcr_of_off (framesTaken_off _) rfl
    obtain ⟨alive, beat⟩ := firmwareUp_alive s
    refine ⟨_, next_settle_congr (xFirmwareRunning_of_active hp ha), ?_⟩
    rw [boot, fcr]
    exact ⟨rfl, alive, beat, rfl, rfl, rfl⟩
  case left =>
    have kept := coreReset_off c s _ (Nat.and_self _)
    have functions := coreFunctions_off c s
    rw [coreReset_eq] at kept ⊢
    generalize coreFunctions c s = t at kept functions ⊢
    have boot : t.boot = s.boot := boot_of_off functions rfl
    have journal : t.upd.journal = s.upd.journal := congrArg Upd.journal (upd_of_off functions rfl)
    exact ⟨rfl, rfl, mono_of_off kept rfl, mem_of_off kept rfl, stored_of_off kept rfl, applied_of_off kept rfl,
      journal, rfl, rfl, rfl, rfl, congrArg (fun b : Boot => satN 4 (b.coreResets + 1)) boot, rfl,
      congrArg Eth.ports (eth_of_off kept rfl)⟩

end Sys2Proof
end

section
/-! SUPPORT. What a configuration opcode makes of the functions it names (01 R29, Table 1.9). -/

namespace Sys2Proof.Machine

theorem changeState_st {s : State} {f : Nat} {n : FnState} (h : s.st f ≠ n) : (changeState s f n).st f = n := by
  unfold changeState
  dsimp only
  rw [if_neg (show (s.fn f).st ≠ n from h)]
  unfold State.st State.fn emit
  rw [fns_of_off (emitTo_off _ _ _ _ _ _ _ 32 rfl) rfl]
  simp [State.setFn]

theorem markConfig_of_off {s : State} {f : Nat} (h : s.st f = .off) : (markConfig s f).st f = .config := by
  unfold markConfig
  rw [if_pos h]
  exact changeState_st (by simp [h])

theorem markConfig_of_other {s : State} {f : Nat} (h : s.st f ≠ .off) : markConfig s f = s :=
  if_neg h

section
variable {s : State} {fids : List Nat} {stage stage' : State → State}

theorem cfgAnswer_of_idle (h : ∀ f ∈ fids, (s.st f).idle = true) :
    cfgAnswer s fids stage = okAns (fids.foldl markConfig (stage s)) :=
  if_pos (List.all_eq_true.mpr h)

theorem cfgAnswer_of_busy (h : ∃ f ∈ fids, (s.st f).idle = false) :
    cfgAnswer s fids stage = failAns s stWrongState 0 := by
  obtain ⟨f, hf, busy⟩ := h
  refine if_neg fun all => ?_
  have idle : (s.st f).idle = true := List.all_eq_true.mp all f hf
  rw [busy] at idle
  cases idle

theorem cfgAnswer_congr (h : stage s = stage' s) : cfgAnswer s fids stage = cfgAnswer s fids stage' := by
  unfold cfgAnswer
  rw [h]

end

/-- Only a pipe in CONFIG is powered by its configuration (10 R329). -/
theorem pipeConfigured_of_other {s : State} {k : Nat} (h : (s.st (pipeFid k)).idle = false) :
    pipeConfigured s k = s := by
  have hc : pipeSt s k ≠ .config := fun hc => by
    rw [show s.st (pipeFid k) = .config from hc] at h
    cases h
  unfold pipeConfigured
  exact if_neg (by simp [hc])

end Sys2Proof.Machine

namespace Sys2Proof

open Machine

section
variable {i j : Instr} {op : OpSpec} {h : Hdr} {p : Bytes} {fids : List Nat} {stage after : State → State} {s : State}

/-- A configuration opcode by what its body gives while the functions it names are idle, and while one is not. -/
theorem configures_of_cases (ok : Accepted op h p 0 s) (run : exec i s = .next (host op h p j s))
    (prompt : waits (heard s h) j = false)
    (idle : (∀ f ∈ fids, (s.st f).idle = true) →
      op.body (atBody s h) p = okAns (after (fids.foldl markConfig (stage (atBody s h)))))
    (busy : (∃ f ∈ fids, (s.st f).idle = false) → op.body (atBody s h) p = failAns (atBody s h) stWrongState 0) :
    Configures i op h p fids stage after s :=
  ⟨fun hi => run.trans (congrArg _ (host_of_accepted (okAns _) (idle hi) ok prompt)),
    fun hb => run.trans (congrArg _ (host_of_accepted (failAns _ _ _) (busy hb) ok prompt))⟩

/-- One whose body is the answer of `cfgAnswer`, with nothing that follows. -/
theorem configures_of_cfgAnswer (ok : Accepted op h p 0 s) (run : exec i s = .next (host op h p j s))
    (prompt : waits (heard s h) j = false)
    (body : op.body (atBody s h) p = cfgAnswer (atBody s h) fids stage) : Configures i op h p fids stage id s :=
  configures_of_cases ok run prompt (fun hi => body.trans (cfgAnswer_of_idle hi)) fun hb =>
    body.trans (cfgAnswer_of_busy hb)

end

section
variable {h : Hdr} {p : Bytes} {s : State}

/-- The channel mask of a group names a channel of another group's, staged or applied (05 R161). -/
def maskTaken (s : State) (p : Bytes) : Prop :=
  ∃ x, x < 64 ∧ x ≠ byteAt p 0 ∧ (gMask (s.stg (.group x)) ||| gMask (s.app (.group x))) &&& gMask p ≠ 0

theorem opGroupConfig_clash_iff :
    ((List.range 64).any fun x =>
      x ≠ byteAt p 0 && decide ((gMask (s.stg (.group x)) ||| gMask (s.app (.group x))) &&& gMask p ≠ 0)) = true ↔
    maskTaken s p := by
  unfold maskTaken
  simp only [List.any_eq_true, List.mem_range, Bool.and_eq_true, decide_eq_true_eq]

theorem opGroupConfig_of_taken (ht : maskTaken s p) : opGroupConfig.body s p = badParam s 8 :=
  if_pos (opGroupConfig_clash_iff.mpr ht)

theorem opGroupConfig_of_free (ht : ¬ maskTaken s p) :
    opGroupConfig.body s p =
      cfgAnswer s (gFid (byteAt p 0) :: (maskChans (gMask (s.stg (.group (byteAt p 0))) ||| gMask p)).map chFid)
        (·.setStg (.group (byteAt p 0)) p) :=
  if_neg (mt opGroupConfig_clash_iff.mp ht)

theorem opPlannerModel_body : opPlannerModel.body s p = cfgAnswer s [plannerFid] (fun t =>
    if byteAt p 0 = 0 then t.setStg .planFeed p
    else if byteAt p 0 = 1 then t.setStg (.planMv (byteAt p 1)) p
    else { t.setStg (.planCv (byteAt p 1)) p with
      planner := { t.planner with cvCan := tdel t.planner.cvCan (byteAt p 1) } }) := by
  unfold opPlannerModel
  dsimp only
  refine cfgAnswer_congr ?_
  split
  · rw [if_pos ‹_›]
  · rw [if_neg (by omega), if_pos ‹_›]
  · rw [if_neg ‹_›, if_neg ‹_›]

theorem opFusConfig_body (hk : byteAt p 0 ≠ 0) : opFusConfig.body s p =
    cfgAnswer s [fusFid] (·.setStg (if byteAt p 0 = 1 then .fusGrid else .fusCam (byteAt p 1)) p) := by
  unfold opFusConfig
  dsimp only
  split
  · exact absurd ‹_› hk
  · exact cfgAnswer_congr (by rw [if_pos ‹_›])
  · exact cfgAnswer_congr (by rw [if_neg ‹_›])

theorem opPipeConfig_of_idle (hi : ∀ f ∈ [pipeFid (byteAt p 0)], (s.st f).idle = true) :
    opPipeConfig.body s p = okAns (pipeConfigured
      ([pipeFid (byteAt p 0)].foldl markConfig (s.setStg (.pipe (byteAt p 0)) p)) (byteAt p 0)) := by
  unfold opPipeConfig
  dsimp only
  rw [cfgAnswer_of_idle hi]
  rfl

theorem opPipeConfig_of_busy (hb : ∃ f ∈ [pipeFid (byteAt p 0)], (s.st f).idle = false) :
    opPipeConfig.body s p = failAns s stWrongState 0 := by
  have pipeBusy : (s.st (pipeFid (byteAt p 0))).idle = false := by simpa using hb
  unfold opPipeConfig
  dsimp only
  rw [cfgAnswer_of_busy hb]
  exact congrArg (failAns · stWrongState 0) (pipeConfigured_of_other pipeBusy)

theorem opGnssConfig_of_idle (hi : ∀ f ∈ [gnssFid], (s.st f).idle = true) :
    opGnssConfig.body s p = okAns (antennaUpdate ([gnssFid].foldl markConfig (s.setStg .gnss p))) := by
  unfold opGnssConfig
  dsimp only
  rw [cfgAnswer_of_idle hi]
  rfl

theorem opGnssConfig_of_busy (hb : ∃ f ∈ [gnssFid], (s.st f).idle = false) :
    opGnssConfig.body s p = failAns s stWrongState 0 := by
  unfold opGnssConfig
  dsimp only
  rw [cfgAnswer_of_busy hb]
  rfl

end

/-- Settles O26: every one of the opcodes is `cfgAnswer` over its functions, beside the mask of a group, the stages that
go by a parameter, and what a camera and the antenna do in CONFIG. -/
theorem configurationCommands : Obligations.ConfigurationCommands := by
  unfold Obligations.ConfigurationCommands
  refine ⟨fun s f => ⟨markConfig_of_off, markConfig_of_other⟩,
    fun h p s ok => configures_of_cfgAnswer ok rfl rfl rfl, fun h p s ok => ?group,
    fun h p s ok => configures_of_cfgAnswer ok rfl rfl rfl,
    fun h p s ok => configures_of_cfgAnswer ok rfl rfl opPlannerModel_body,
    fun h p s ok => configures_of_cfgAnswer ok rfl rfl rfl, fun h p s ok => configures_of_cfgAnswer ok rfl rfl rfl,
    fun h p s ok => configures_of_cfgAnswer ok rfl rfl rfl,
    fun h p s ok hk => configures_of_cfgAnswer ok rfl rfl (opFusConfig_body hk),
    fun h p s ok => configures_of_cfgAnswer ok rfl rfl rfl, fun h p s ok =>
      configures_of_cases ok rfl rfl (opPipeConfig_of_idle (s := atBody s h)) (opPipeConfig_of_busy (s := atBody s h)),
    fun h p s ok =>
      configures_of_cases ok rfl rfl (opGnssConfig_of_idle (s := atBody s h)) (opGnssConfig_of_busy (s := atBody s h)),
    fun h p s ok => configures_of_cfgAnswer ok rfl rfl rfl, fun h p s ok => configures_of_cfgAnswer ok rfl rfl rfl,
    fun h p s ok => configures_of_cfgAnswer ok rfl rfl rfl, fun h p s ok => configures_of_cfgAnswer ok rfl rfl rfl⟩
  case group =>
    refine ⟨fun ht => ?_, fun ht => configures_of_cfgAnswer ok rfl rfl (opGroupConfig_of_free (s := atBody s h) ht)⟩
    exact congrArg Host.Outcome.next
      (host_of_accepted (badParam _ 8) (opGroupConfig_of_taken (s := atBody s h) ht) ok rfl)

end Sys2Proof
end

section
/-! SUPPORT. The supplies and the base temperature: what each row does under each of its conditions (02 R58, R63, R67;
15 R508). -/

namespace Sys2Proof.Machine

/-! ## Feeds -/

/-- A feed's row sets the feed's voltage, and the store follows it (02 R58, R59). -/
def feedTaken (feed : Nat) (v : F32) (s : State) : State :=
  { s with boot :=
    let b := storeStep (s.boot.feedTo feed v) s
    { b with storeEmpty := b.storeEmpty && !(b.feedA || b.feedB) } }

/-- FSRC50 shows a logic feed that is out of range; VKAM is none (02 R58). -/
def feedShown (feed : Nat) (s : State) : State :=
  if feed = 2 then s
  else if (s.boot.feedA && s.boot.feedB) = true then returnSrc s 50
  else raise s 50 (if s.boot.feedA then 2 else 1)

theorem setErr_not (s : State) (n detail : Nat) (good : Bool) :
    setErr s n (!good) detail = if good = true then returnSrc s n else raise s n detail := by
  cases good <;> rfl

section
variable {feed : Nat} {inRange : Bool} {v : F32} {s : State}

theorem xLogicFeedRangeChange_of_contradiction (hr : inRange ≠ feedInRange v) :
    xLogicFeedRangeChange feed inRange v s = s :=
  if_pos hr

theorem xLogicFeedRangeChange_of_range (hf : feed ≤ 2) :
    xLogicFeedRangeChange feed (feedInRange v) v s =
      if s.boot.phase < 2 ∨ s.boot.fed feed = feedInRange v then feedTaken feed v s
      else feedReport feed (feedInRange v) v (feedTaken feed v s) := by
  have known : ¬ 2 < feed := by omega
  unfold xLogicFeedRangeChange
  rw [if_neg (not_not.mpr rfl)]
  simp only [known, false_or]
  rfl

/-- The feed's report is its event, if any, with FSRC50 as the feeds are. -/
theorem feedReport_eq (feed : Nat) (inRange : Bool) (v : F32) (s : State) :
    let data := b1 feed ++ b1 (bit inRange 0) ++ zeros 2 ++ leF v
    feedReport feed inRange v s = feedShown feed
      (if inRange then emit s 0x0205 0xFFFF data
      else if s.boot.fedElse feed then emitFault s 0x0205 0xFFFF data else s) := by
  unfold feedReport feedShown
  simp only [setErr_not]

theorem feedReport_of_return : feedReport feed true v s =
    feedShown feed (emit s 0x0205 0xFFFF (b1 feed ++ b1 1 ++ zeros 2 ++ leF v)) :=
  feedReport_eq feed true v s

theorem feedReport_of_carried (h : s.boot.fedElse feed = true) : feedReport feed false v s =
    feedShown feed (emitFault s 0x0205 0xFFFF (b1 feed ++ b1 0 ++ zeros 2 ++ leF v)) :=
  (feedReport_eq feed false v s).trans (congrArg (feedShown feed) (if_pos h))

theorem feedReport_of_alone (h : s.boot.fedElse feed = false) :
    feedReport feed false v s = feedShown feed s :=
  (feedReport_eq feed false v s).trans (congrArg (feedShown feed) (if_neg (ne_true_of_eq_false h)))

end

/-! ## Reference supplies -/

section
variable {s : State}

theorem xVref5LimitTimeout_a (h : s.boot.vrefA = 1) : xVref5LimitTimeout 0 s =
    raise { s with boot := { s.boot with vrefA := 2, vrefAt := s.mono } } 52 0 :=
  if_pos ⟨rfl, h⟩

theorem xVref5LimitTimeout_b (h : s.boot.vrefB = 1) : xVref5LimitTimeout 1 s =
    raise { s with boot := { s.boot with vrefB := 2, vrefBt := s.mono } } 53 0 :=
  (if_neg fun ha => absurd ha.1 Nat.one_ne_zero).trans (if_pos ⟨rfl, h⟩)

/-- One second of the monotonic tick has passed since an instant. -/
theorem past_second_iff (t : Nat) : s.past t (secT 1) = true ↔ t + 250000000 ≤ s.mono :=
  decide_eq_true_iff

theorem xVref5Retry_a (h : s.boot.vrefA = 2) (ht : s.boot.vrefAt + 250000000 ≤ s.mono) (ok : Bool) :
    xVref5Retry 0 ok s =
      if ok then returnSrc { s with boot := { s.boot with vrefA := 1 } } 52
      else { s with boot := { s.boot with vrefAt := s.mono } } :=
  if_pos ⟨rfl, h, (past_second_iff _).mpr ht⟩

theorem xVref5Retry_b (h : s.boot.vrefB = 2) (ht : s.boot.vrefBt + 250000000 ≤ s.mono) (ok : Bool) :
    xVref5Retry 1 ok s =
      if ok then returnSrc { s with boot := { s.boot with vrefB := 1 } } 53
      else { s with boot := { s.boot with vrefBt := s.mono } } :=
  (if_neg fun ha => absurd ha.1 Nat.one_ne_zero).trans (if_pos ⟨rfl, h, (past_second_iff _).mpr ht⟩)

end

/-! ## Heat -/

section
variable {a b c d : F32} {s : State}

theorem xBaseTemperatureSample_of_unsampled (h : s.boot.phase < 2 ∨ 3 ≤ s.pwr.state) :
    xBaseTemperatureSample a b c d s = s :=
  if_pos h

theorem xBaseTemperatureSample_of_sampled (hp : 2 ≤ s.boot.phase) (hs : s.pwr.state < 3) :
    let base := fMax (fMax a b) (fMax c d)
    xBaseTemperatureSample a b c d s =
      setErr (heatReport { s with pwr := { s.pwr with
        temps := [a, b, c, d], base := base, pHeat := pHeatAt base, heat := fLt (fOfNat 80) base } })
        51 (fLe (fOfNat 100) base) (fToInt (fMul base (fOfNat 10))).toNat :=
  if_neg (by omega)

end

section
variable {t : F32}

theorem pHeatAt_of_over (h : fLt (fOfNat 95) t = true) : pHeatAt t = fOfNat 40 :=
  if_pos h

theorem pHeatAt_of_between (h : fLt (fOfNat 95) t = false) (h' : fLt (fOfNat 80) t = true) :
    pHeatAt t = fSub (fOfNat 85) (fMul (fOfNat 3) (fSub t (fOfNat 80))) :=
  (if_neg (ne_true_of_eq_false h)).trans (if_pos h')

theorem pHeatAt_of_full (h : fLt (fOfNat 95) t = false) (h' : fLt (fOfNat 80) t = false) : pHeatAt t = fOfNat 85 :=
  (if_neg (ne_true_of_eq_false h)).trans (if_neg (ne_true_of_eq_false h'))

end

end Sys2Proof.Machine

namespace Sys2Proof

open Machine

/-- Settles O24: each row by its conditions; a feed's report is its event with FSRC50, and FSRC51 follows the highest of
the four temperatures. -/
theorem suppliesAndTemperature : Obligations.SuppliesAndTemperature := by
  unfold Obligations.SuppliesAndTemperature
  refine ⟨fun s feed v hf => ⟨fun x hx => next_settle_congr (xLogicFeedRangeChange_of_contradiction hx), fun h => ?kept,
      fun hp hd => ?changed⟩,
    fun _ => rfl, fun _ _ _ => ⟨feedReport_of_return, feedReport_of_carried, feedReport_of_alone⟩,
    fun s => ⟨fun h => next_settle_congr (xVref5LimitTimeout_a h), fun h => next_settle_congr (xVref5LimitTimeout_b h),
      fun h ht => ⟨next_settle_congr (xVref5Retry_a h ht true), next_settle_congr (xVref5Retry_a h ht false)⟩,
      fun h ht => ⟨next_settle_congr (xVref5Retry_b h ht true), next_settle_congr (xVref5Retry_b h ht false)⟩⟩,
    fun a b c d s => ⟨fun h => next_settle_congr (xBaseTemperatureSample_of_unsampled h), fun hp hs hot => ?hot,
      fun hp hs cool => ?cool⟩,
    fun _ => ⟨pHeatAt_of_over, pHeatAt_of_between, pHeatAt_of_full⟩⟩
  case kept => exact next_settle_congr ((xLogicFeedRangeChange_of_range hf).trans (if_pos h))
  case changed =>
    have news : ¬ (s.boot.phase < 2 ∨ s.boot.fed feed = feedInRange v) := not_or.mpr ⟨by omega, hd⟩
    exact next_settle_congr ((xLogicFeedRangeChange_of_range hf).trans (if_neg news))
  case hot => exact next_settle_congr ((xBaseTemperatureSample_of_sampled hp hs).trans (if_pos hot))
  case cool => exact next_settle_congr ((xBaseTemperatureSample_of_sampled hp hs).trans (if_neg (ne_true_of_eq_false cool)))

end Sys2Proof
end

section
/-! SUPPORT. Every command's frame: the parts of the state that `touches` lists, as the set of fields that the frame
lemmas of the operations speak of (01 Table 1.10, 03 R77). -/

namespace Sys2Proof.Machine

/-! ## Parts of the state as a set of fields -/

/-- The set of fields that a list of parts names, as `State.off` takes it: a part's bit is its place among the parts. -/
def areaSet : List Area → Nat
  | [] => 0
  | a :: l => 2 ^ a.ctorIdx ||| areaSet l

theorem testBit_areaSet (l : List Area) (n : Nat) : (areaSet l).testBit n = true ↔ ∃ a ∈ l, a.ctorIdx = n := by
  induction l with
  | nil => simp [areaSet]
  | cons a l ih => simp [areaSet, Nat.testBit_or, Nat.testBit_two_pow, ih]

/-- A part that is not listed is a field outside the set. -/
theorem testBit_areaSet_of_not_mem {l : List Area} {a : Area} (h : a ∉ l) : (areaSet l).testBit a.ctorIdx = false := by
  rw [← Bool.not_eq_true, testBit_areaSet]
  rintro ⟨b, hb, hn⟩
  have same : b = a := by rw [← Area.ofNat_ctorIdx b, hn, Area.ofNat_ctorIdx]
  exact h (same ▸ hb)

/-- No list of parts names the queue. -/
theorem testBit_areaSet_queue (l : List Area) : (areaSet l).testBit 31 = false := by
  rw [← Bool.not_eq_true, testBit_areaSet]
  rintro ⟨a, -, ha⟩
  cases a <;> cases ha

/-- What is alike outside the set of fields of a list is the same but for its parts. -/
theorem sameBut_of_off {l : List Area} {s t : State} (h : t.off (areaSet l) = s.off (areaSet l)) : SameBut l s t where
  mono hn := mono_of_off h (testBit_areaSet_of_not_mem hn)
  nonce hn := nonce_of_off h (testBit_areaSet_of_not_mem hn)
  cur hn := cur_of_off h (testBit_areaSet_of_not_mem hn)
  boot hn := boot_of_off h (testBit_areaSet_of_not_mem hn)
  pairs hn := pairs_of_off h (testBit_areaSet_of_not_mem hn)
  net hn := net_of_off h (testBit_areaSet_of_not_mem hn)
  fcr hn := fcr_of_off h (testBit_areaSet_of_not_mem hn)
  fns hn := fns_of_off h (testBit_areaSet_of_not_mem hn)
  staged hn := staged_of_off h (testBit_areaSet_of_not_mem hn)
  applied hn := applied_of_off h (testBit_areaSet_of_not_mem hn)
  stored hn := stored_of_off h (testBit_areaSet_of_not_mem hn)
  autoStart hn := autoStart_of_off h (testBit_areaSet_of_not_mem hn)
  mem hn := mem_of_off h (testBit_areaSet_of_not_mem hn)
  cle hn := cle_of_off h (testBit_areaSet_of_not_mem hn)
  cse hn := cse_of_off h (testBit_areaSet_of_not_mem hn)
  lsw hn := lsw_of_off h (testBit_areaSet_of_not_mem hn)
  planner hn := planner_of_off h (testBit_areaSet_of_not_mem hn)
  guid hn := guid_of_off h (testBit_areaSet_of_not_mem hn)
  yield hn := yield_of_off h (testBit_areaSet_of_not_mem hn)
  headwind hn := headwind_of_off h (testBit_areaSet_of_not_mem hn)
  fus hn := fus_of_off h (testBit_areaSet_of_not_mem hn)
  cam hn := cam_of_off h (testBit_areaSet_of_not_mem hn)
  gns hn := gns_of_off h (testBit_areaSet_of_not_mem hn)
  tsu hn := tsu_of_off h (testBit_areaSet_of_not_mem hn)
  eth hn := eth_of_off h (testBit_areaSet_of_not_mem hn)
  can hn := can_of_off h (testBit_areaSet_of_not_mem hn)
  pwr hn := pwr_of_off h (testBit_areaSet_of_not_mem hn)
  pnl hn := pnl_of_off h (testBit_areaSet_of_not_mem hn)
  upd hn := upd_of_off h (testBit_areaSet_of_not_mem hn)
  tst hn := tst_of_off h (testBit_areaSet_of_not_mem hn)
  sent hn := sent_of_off h (testBit_areaSet_of_not_mem hn)
  pending := pending_of_off h (testBit_areaSet_queue l)

theorem sub_or_left {a b : Nat} (h : a &&& b = a) (c : Nat) : a &&& (b ||| c) = a := by
  refine Nat.eq_of_testBit_eq fun i => ?_
  have hi := congrArg (Nat.testBit · i) h
  simp only [Nat.testBit_and, Nat.testBit_or] at hi ⊢
  rw [Bool.and_or_distrib_left, hi]
  cases a.testBit i <;> rfl

theorem areaSet_append (l k : List Area) : areaSet (l ++ k) = areaSet l ||| areaSet k := by
  induction l with
  | nil => simp [areaSet]
  | cons a l ih => rw [List.cons_append, areaSet, areaSet, ih, Nat.or_assoc]

/-- The parts every Baline command may change on any endpoint. -/
def sessionAreas : List Area := [.cur, .net, .upd, .sent]

theorem areaSet_hostAreas (h : Hdr) (l : List Area) : areaSet (hostAreas h ++ l) =
    areaSet (sessionAreas ++ l) ||| areaSet (if h.ep = .can2 then [.can] else []) := by
  unfold hostAreas
  rw [areaSet_append, areaSet_append, areaSet_append, Nat.or_assoc, Nat.or_assoc]
  exact congrArg _ (Nat.or_comm _ _)

theorem sub_hostAreas {m : Nat} {l : List Area} (hm : m &&& areaSet (sessionAreas ++ l) = m) (h : Hdr) :
    m &&& areaSet (hostAreas h ++ l) = m := by
  rw [areaSet_hostAreas]
  exact sub_or_left hm _

/-- The parts of every Baline command are those that the pipeline itself may change, with CAN2's bus where it serves. -/
theorem sessionAreas_sub (h : Hdr) (l : List Area) : 1342177316 &&& areaSet (hostAreas h ++ l) = 1342177316 := by
  refine sub_hostAreas ?_ h
  rw [areaSet_append]
  exact sub_or_left (by decide) _

theorem can_sub_hostAreas {h : Hdr} (he : h.ep = .can2) (l : List Area) :
    33554432 &&& areaSet (hostAreas h ++ l) = 33554432 := by
  rw [areaSet_hostAreas, if_pos he, Nat.or_comm]
  exact sub_or_left (by decide) _

/-! ## The frame of a command -/

/-- The outcome is a state that differs from `s` in the parts listed only, as it is or with what follows from it in
other blocks. -/
def Frames (l : List Area) (s : State) (o : Host.Outcome State Fault Refusal) : Prop :=
  ∃ u, (o = .next u ∨ o = .next (settle u)) ∧ SameBut l s u

section
variable {a : Area} {l : List Area} {m : Nat} {s u : State}

/-- A row whose operation changes the fields of `m` only. -/
theorem frames_of_off (ho : ∀ w, m &&& w = m → u.off w = s.off w) (hm : m &&& areaSet (a :: l) = m) :
    Frames (a :: l) s (.next u) :=
  ⟨u, .inl rfl, sameBut_of_off (ho _ hm)⟩

/-- The same of a row from which something may follow in other blocks. -/
theorem frames_settle_of_off (ho : ∀ w, m &&& w = m → u.off w = s.off w) (hm : m &&& areaSet (a :: l) = m) :
    Frames (a :: l) s (.next (settle u)) :=
  ⟨u, .inr rfl, sameBut_of_off (ho _ hm)⟩

/-- A row whose operation changes nothing. -/
theorem frames_nil_of_off (ho : ∀ w, 0 &&& w = 0 → u.off w = s.off w) : Frames [] s (.next u) :=
  ⟨u, .inl rfl, sameBut_of_off (ho _ rfl)⟩

variable {op : OpSpec} {h : Hdr} {p : Bytes} {i : Instr}

/-- A Baline command whose opcode's body changes the fields of `m` only. -/
theorem sameBut_command {op : Option OpSpec} {code : Nat}
    (ho : ∀ o, op = some o → ∀ t w, m &&& w = m → (o.body t p).s.off w = t.off w)
    (hm : m &&& areaSet (sessionAreas ++ l) = m) : SameBut (hostAreas h ++ l) s (command s code op h p i) :=
  sameBut_of_off (command_off s code op h p i _ (fun o e t => ho o e t _ (sub_hostAreas hm h)) (sessionAreas_sub h l)
    fun he => can_sub_hostAreas he l)

theorem frames_hostOnly (ho : ∀ t w, m &&& w = m → (op.body t p).s.off w = t.off w)
    (hm : m &&& areaSet (sessionAreas ++ l) = m) : Frames (hostAreas h ++ l) s (.next (hostOnly op h p i s)) :=
  ⟨_, .inl rfl, sameBut_command (fun _ e => Option.some.inj e ▸ ho) hm⟩

theorem frames_host (ho : ∀ t w, m &&& w = m → (op.body t p).s.off w = t.off w)
    (hm : m &&& areaSet (sessionAreas ++ l) = m) : Frames (hostAreas h ++ l) s (.next (host op h p i s)) :=
  ⟨_, .inr rfl, sameBut_command (fun _ e => Option.some.inj e ▸ ho) hm⟩

/-- A command whose body changes no more than the pipeline may. -/
theorem frames_hostOnly_read (ho : ∀ t w, m &&& w = m → (op.body t p).s.off w = t.off w)
    (hm : m &&& areaSet sessionAreas = m) : Frames (hostAreas h) s (.next (hostOnly op h p i s)) := by
  rw [← List.append_nil (hostAreas h)]
  exact frames_hostOnly ho (by rwa [List.append_nil])

theorem frames_host_read (ho : ∀ t w, m &&& w = m → (op.body t p).s.off w = t.off w)
    (hm : m &&& areaSet sessionAreas = m) : Frames (hostAreas h) s (.next (host op h p i s)) := by
  rw [← List.append_nil (hostAreas h)]
  exact frames_host ho (by rwa [List.append_nil])

theorem frames_undefinedOpcode {code : Nat} : Frames (hostAreas h) s (.next (xUndefinedOpcode h code p s)) := by
  refine ⟨_, .inl rfl, sameBut_of_off (xUndefinedOpcode_off h code p s _ ?_ fun he => ?_)⟩
  · exact List.append_nil (hostAreas h) ▸ sessionAreas_sub h []
  · exact List.append_nil (hostAreas h) ▸ can_sub_hostAreas he []

end

/-- Every command has the frame of its list. -/
theorem exec_frames (i : Instr) (s : State) : Frames (touches i) s (exec i s) := by
  cases i with
  | getIdentity _ _ => exact frames_hostOnly_read (opGetIdentity_off · _) rfl
  | openSession _ _ => exact frames_host (fun t => opOpenSession_off _ t _) rfl
  | closeSession _ _ => exact frames_host_read (opCloseSession_off · _) rfl
  | keepalive _ _ => exact frames_hostOnly_read (opKeepalive_off · _) rfl
  | takeOwnership _ _ => exact frames_hostOnly_read (opTakeOwnership_off · _) rfl
  | releaseOwnership _ _ => exact frames_hostOnly_read (opReleaseOwnership_off · _) rfl
  | subscribe _ _ => exact frames_hostOnly_read (opSubscribe_off · _) rfl
  | unsubscribe _ _ => exact frames_hostOnly_read (opUnsubscribe_off · _) rfl
  | start _ _ => exact frames_host (opStart_off · _) rfl
  | stop _ _ => exact frames_host (opStop_off · _) rfl
  | getState _ _ => exact frames_hostOnly_read (opGetState_off · _) rfl
  | resetCore _ _ => exact frames_hostOnly (opResetCore_off · _) rfl
  | readMem _ _ _ => exact frames_host (fun t => opReadMem_off _ t _) rfl
  | writeMem _ _ => exact frames_hostOnly (opWriteMem_off · _) rfl
  | saveSettings _ _ => exact frames_hostOnly (opSaveSettings_off · _) rfl
  | logErase _ _ => exact frames_hostOnly (opLogErase_off · _) rfl
  | pwrSetLatency _ _ => exact frames_hostOnly (opPwrSetLatency_off · _) rfl
  | pwrRequestState _ _ => exact frames_host (opPwrRequestState_off · _) rfl
  | pwrSetBudget _ _ => exact frames_hostOnly (opPwrSetBudget_off · _) rfl
  | pwrGetBudget _ _ => exact frames_hostOnly_read (opPwrGetBudget_off · _) rfl
  | pwrStatus _ _ => exact frames_hostOnly_read (opPwrStatus_off · _) rfl
  | loopConfig _ _ => exact frames_host (opLoopConfig_off · _) rfl
  | loopRead _ _ => exact frames_hostOnly_read (opLoopRead_off · _) rfl
  | loopSetReference _ _ => exact frames_hostOnly (opLoopSetReference_off · _) rfl
  | loopSetFeedforward _ _ => exact frames_hostOnly (opLoopSetFeedforward_off · _) rfl
  | loopStatus _ _ => exact frames_hostOnly_read (opLoopStatus_off · _) rfl
  | cleCapacity _ _ => exact frames_hostOnly_read (opCleCapacity_off · _) rfl
  | tableWrite _ _ => exact frames_hostOnly (opTableWrite_off · _) rfl
  | tableRead _ _ => exact frames_hostOnly_read (opTableRead_off · _) rfl
  | groupConfig _ _ => exact frames_host (opGroupConfig_off · _) rfl
  | groupRead _ _ => exact frames_hostOnly_read (opGroupRead_off · _) rfl
  | impConfig _ _ => exact frames_hostOnly (opImpConfig_off · _) rfl
  | classifierLoad _ _ => exact frames_hostOnly (opClassifierLoad_off · _) rfl
  | ainConfig _ _ => exact frames_hostOnly (opAinConfig_off · _) rfl
  | finConfig _ _ => exact frames_hostOnly (opFinConfig_off · _) rfl
  | posConfig _ _ => exact frames_hostOnly (opPosConfig_off · _) rfl
  | imuConfig _ _ => exact frames_hostOnly (opImuConfig_off · _) rfl
  | senseRead _ _ => exact frames_hostOnly_read (opSenseRead_off · _) rfl
  | flowCalibrate _ _ => exact frames_hostOnly (opFlowCalibrate_off · _) rfl
  | plannerModel _ _ => exact frames_host (opPlannerModel_off · _) rfl
  | plannerObjectives _ _ => exact frames_hostOnly (opPlannerObjectives_off · _) rfl
  | pspMap _ _ => exact frames_host (opPspMap_off · _) rfl
  | plannerStatus _ _ => exact frames_hostOnly_read (opPlannerStatus_off · _) rfl
  | guidanceConfig _ _ => exact frames_host (opGuidanceConfig_off · _) rfl
  | pathLoad _ _ => exact frames_hostOnly (opPathLoad_off · _) rfl
  | poseSource _ _ => exact frames_host (opPoseSource_off · _) rfl
  | yieldConfig _ _ => exact frames_hostOnly (opYieldConfig_off · _) rfl
  | lswConfig _ _ => exact frames_host (fun t => opLswConfig_off _ t _) rfl
  | lswCommand _ _ => exact frames_host (opLswCommand_off · _) rfl
  | lswStatus _ _ => exact frames_hostOnly_read (opLswStatus_off · _) rfl
  | lswClear _ _ => exact frames_host (opLswClear_off · _) rfl
  | fusConfig _ _ => exact frames_host (opFusConfig_off · _) rfl
  | fusWeights _ _ => exact frames_hostOnly (opFusWeights_off · _) rfl
  | fusHeadPolicy _ _ => exact frames_hostOnly (opFusHeadPolicy_off · _) rfl
  | fusPointStream _ _ => exact frames_host (opFusPointStream_off · _) rfl
  | fusStatus _ _ => exact frames_hostOnly_read (opFusStatus_off · _) rfl
  | pipeConfig _ _ => exact frames_host (opPipeConfig_off · _) rfl
  | exposureCommit _ _ => exact frames_hostOnly (opExposureCommit_off · _) rfl
  | sensorTunnelRead _ _ _ => exact frames_host (fun t => opSensorTunnel_off _ t _) rfl
  | sensorTunnelWrite _ _ _ => exact frames_host (fun t => opSensorTunnel_off _ t _) rfl
  | sensorTunnelAppendStart _ _ => exact frames_host (fun t => opSensorTunnel_off _ t _) rfl
  | sensorTunnelAppendStop _ _ => exact frames_host (fun t => opSensorTunnel_off _ t _) rfl
  | sensorTunnelClearLists _ _ => exact frames_host (fun t => opSensorTunnel_off _ t _) rfl
  | pipeStatus _ _ => exact frames_hostOnly_read (opPipeStatus_off · _) rfl
  | gnssConfig _ _ => exact frames_host (opGnssConfig_off · _) rfl
  | notchConfig _ _ => exact frames_hostOnly (opNotchConfig_off · _) rfl
  | pipCapture _ _ => exact frames_hostOnly (opPipCapture_off · _) rfl
  | pipExportReadHeader _ _ => exact frames_hostOnly (opPipExport_off · _) rfl
  | pipExportReadSamples _ _ => exact frames_hostOnly (opPipExport_off · _) rfl
  | pipExportProcess _ _ => exact frames_hostOnly (opPipExport_off · _) rfl
  | pipExportDelete _ _ => exact frames_hostOnly (opPipExport_off · _) rfl
  | gnssStatus _ _ => exact frames_hostOnly_read (opGnssStatus_off · _) rfl
  | tdConfig _ _ => exact frames_host (opTdConfig_off · _) rfl
  | getTime _ _ => exact frames_hostOnly_read (opGetTime_off · _) rfl
  | rateOverride _ _ => exact frames_hostOnly (opRateOverride_off · _) rfl
  | portConfig _ _ => exact frames_hostOnly (opPortConfig_off · _) rfl
  | gateConfig _ _ => exact frames_hostOnly (opGateConfig_off · _) rfl
  | timeStatus _ _ => exact frames_hostOnly_read (opTimeStatus_off · _) rfl
  | canConfig _ _ => exact frames_host (opCanConfig_off · _) rfl
  | canFilter _ _ => exact frames_host (opCanFilter_off · _) rfl
  | canTransmit _ _ => exact frames_host (opCanTransmit_off · _) rfl
  | canStatus _ _ => exact frames_hostOnly (opCanStatus_off · _) rfl
  | canAddressClaim _ _ => exact frames_host (opCanAddressClaim_off · _) rfl
  | faultRead _ _ => exact frames_hostOnly_read (opFaultRead_off · _) rfl
  | faultClear _ _ => exact frames_hostOnly (opFaultClear_off · _) rfl
  | faultSourceConfig _ _ => exact frames_hostOnly (opFaultSourceConfig_off · _) rfl
  | faultThreshold _ _ => exact frames_hostOnly (opFaultThreshold_off · _) rfl
  | captureRead _ _ => exact frames_hostOnly_read (opCaptureRead_off · _) rfl
  | panelConfig _ _ => exact frames_host (opPanelConfig_off · _) rfl
  | panelFrame _ _ => exact frames_hostOnly (opPanelFrame_off · _) rfl
  | panelStatus _ _ => exact frames_hostOnly_read (opPanelStatus_off · _) rfl
  | updateBegin _ _ => exact frames_hostOnly_read (opUpdateBegin_off · _) rfl
  | updateBlock _ _ => exact frames_hostOnly_read (opUpdateBlock_off · _) rfl
  | updateCommit _ _ => exact frames_hostOnly_read (opUpdateCommit_off · _) rfl
  | updateStatus _ _ => exact frames_hostOnly_read (opUpdateStatus_off · _) rfl
  | testUnlock _ _ => exact frames_host (opTestUnlock_off · _) rfl
  | perturbSet _ _ => exact frames_host (opPerturbSet_off · _) rfl
  | perturbClear _ _ => exact frames_host (opPerturbClear_off · _) rfl
  | testStatus _ _ => exact frames_hostOnly_read (opTestStatus_off · _) rfl
  | undefinedOpcode _ _ _ => exact frames_undefinedOpcode
  | balinePacketDiscarded _ _ => exact frames_of_off (xBalinePacketDiscarded_off _ _ _) rfl
  | balinePortMismatchDrop _ => exact frames_of_off (xBalinePortMismatchDrop_off _ _) rfl
  | neighbourDiscovery _ _ => exact frames_of_off (xNeighbourDiscovery_off _ _ _) rfl
  | icmpv6Echo _ _ _ _ => exact frames_of_off (xIcmpv6Echo_off _ _ _ _ _) rfl
  | isotpFrameReceived _ _ => exact frames_of_off (xIsotpFrameReceived_off _ _ _) rfl
  | isotpTimeout _ => exact frames_of_off (xIsotpTimeout_off _ _) rfl
  | sessionKeepaliveTimeout _ => exact frames_settle_of_off (xSessionKeepaliveTimeout_off _ _) rfl
  | faultLogEntryQueued _ => exact frames_of_off (xFaultLogEntryQueued_off _ _) rfl
  | serviceLogWrite => exact frames_of_off (xServiceLogWrite_off _) rfl
  | powerOnReset _ => exact frames_settle_of_off (xPowerOnReset_off _ _) rfl
  | resetNFall _ => exact frames_settle_of_off (xResetNFall_off _ _) rfl
  | resetNRise _ => exact frames_settle_of_off (xResetNRise_off _ _) rfl
  | refclkLoss => exact frames_settle_of_off (xRefclkLoss_off _) rfl
  | pllsLocked => exact frames_settle_of_off (xPllsLocked_off _) rfl
  | loaderStart _ => exact frames_of_off (xLoaderStart_off _ _) rfl
  | updateJournalRead => exact frames_of_off (xUpdateJournalRead_off _) rfl
  | dramTrained => exact frames_of_off (xDramTrained_off _) rfl
  | firmwareImageVerified => exact frames_settle_of_off (xFirmwareImageVerified_off _) rfl
  | coreResetDigestCheck => exact frames_of_off (xCoreResetDigestCheck_off _) rfl
  | pairRolesAssigned _ _ _ _ => exact frames_settle_of_off (xPairRolesAssigned_off _ _ _ _ _) rfl
  | firmwareRunning => exact frames_settle_of_off (xFirmwareRunning_off _) rfl
  | balineServed => exact frames_of_off (xBalineServed_off _) rfl
  | autoStart => exact frames_settle_of_off (xAutoStart_off _) rfl
  | processorComplexReset => exact frames_settle_of_off (xProcessorComplexReset_off _) rfl
  | groupHoldExpiry _ => exact frames_settle_of_off (xGroupHoldExpiry_off _ _) rfl
  | channelHoldExpiry _ => exact frames_settle_of_off (xChannelHoldExpiry_off _ _) rfl
  | supervisorCheckFailed _ => exact frames_settle_of_off (xSupervisorCheckFailed_off _ _) rfl
  | logicFeedRangeChange _ _ _ => exact frames_settle_of_off (xLogicFeedRangeChange_off _ _ _ _) rfl
  | holdupStoreExhausted => exact frames_settle_of_off (xHoldupStoreExhausted_off _) rfl
  | vref5LimitTimeout _ => exact frames_settle_of_off (xVref5LimitTimeout_off _ _) rfl
  | vref5Retry _ _ => exact frames_settle_of_off (xVref5Retry_off _ _ _) rfl
  | baseTemperatureSample _ _ _ _ => exact frames_settle_of_off (xBaseTemperatureSample_off _ _ _ _ _) rfl
  | firewallDrop _ _ _ _ => exact frames_settle_of_off (xFirewallDrop_off _ _ _ _ _) rfl
  | accessRefused _ _ _ => exact frames_settle_of_off (xAccessRefused_off _ _ _ _) rfl
  | loopSample _ => exact frames_settle_of_off (xLoopSample_off _ _) rfl
  | loopSampleMissed _ => exact frames_settle_of_off (xLoopSampleMissed_off _ _) rfl
  | groupStartCommit _ => exact frames_settle_of_off (xGroupStartCommit_off _ _) rfl
  | groupStopComplete _ => exact frames_settle_of_off (xGroupStopComplete_off _ _) rfl
  | hitOnset _ _ _ => exact frames_of_off (xHitOnset_off _ _ _ _) rfl
  | mergedHit _ _ _ => exact frames_of_off (xMergedHit_off _ _ _ _) rfl
  | hitWindowComplete _ _ _ => exact frames_of_off (xHitWindowComplete_off _ _ _ _) rfl
  | hitQuietEnd _ => exact frames_of_off (xHitQuietEnd_off _ _) rfl
  | hitClassified _ => exact frames_of_off (xHitClassified_off _ _) rfl
  | countingWindowEnd _ => exact frames_settle_of_off (xCountingWindowEnd_off _ _) rfl
  | windowCountsPublished => exact frames_settle_of_off (xWindowCountsPublished_off _) rfl
  | frontEndSelftest _ _ => exact frames_of_off (xFrontEndSelftest_off _ _ _) rfl
  | ainUpdate _ _ _ => exact frames_of_off (xAinUpdate_off _ _ _ _) rfl
  | ainRangeCount _ _ => exact frames_of_off (xAinRangeCount_off _ _ _) rfl
  | finEdgeAccepted _ _ _ _ => exact frames_of_off (xFinEdgeAccepted_off _ _ _ _ _) rfl
  | qerrExpiry _ => exact frames_of_off (xQerrExpiry_off _ _) rfl
  | finUpdate _ => exact frames_of_off (xFinUpdate_off _ _) rfl
  | posUpdate _ _ _ _ _ _ => exact frames_of_off (xPosUpdate_off _ _ _ _ _ _ _) rfl
  | excitationLimitTimeout _ => exact frames_of_off (xExcitationLimitTimeout_off _ _) rfl
  | excitationRetry _ _ => exact frames_of_off (xExcitationRetry_off _ _ _) rfl
  | imuSample _ _ _ _ _ _ _ => exact frames_of_off (xImuSample_off _ _ _ _ _ _ _ _) rfl
  | inputConfigCommit _ _ => exact frames_settle_of_off (xInputConfigCommit_off _ _ _) rfl
  | inputSettlingEnd _ _ => exact frames_settle_of_off (xInputSettlingEnd_off _ _ _) rfl
  | classifierSetCommit _ => exact frames_of_off (xClassifierSetCommit_off _ _) rfl
  | flowCurveApply _ => exact frames_of_off (xFlowCurveApply_off _ _) rfl
  | inputValidityReport _ _ => exact frames_settle_of_off (xInputValidityReport_off _ _ _) rfl
  | plannerCycle => exact frames_settle_of_off (xPlannerCycle_off _) rfl
  | planSolved _ => exact frames_of_off (xPlanSolved_off _ _) rfl
  | plannerCoastTimeout => exact frames_settle_of_off (xPlannerCoastTimeout_off _) rfl
  | plannerStartCommit => exact frames_settle_of_off (xPlannerStartCommit_off _) rfl
  | plannerStopComplete => exact frames_settle_of_off (xPlannerStopComplete_off _) rfl
  | cvOverLimitTimeout _ => exact frames_of_off (xCvOverLimitTimeout_off _ _) rfl
  | guidanceInstant _ _ _ _ _ _ => exact frames_settle_of_off (xGuidanceInstant_off _ _ _ _ _ _ _) rfl
  | poseReceived _ _ _ _ => exact frames_of_off (xPoseReceived_off _ _ _ _ _) rfl
  | poseStaleExpiry => exact frames_of_off (xPoseStaleExpiry_off _) rfl
  | drLimitExpiry => exact frames_settle_of_off (xDrLimitExpiry_off _) rfl
  | guidanceStartCommit => exact frames_of_off (xGuidanceStartCommit_off _) rfl
  | guidanceStopComplete => exact frames_settle_of_off (xGuidanceStopComplete_off _) rfl
  | yieldConfigCommit => exact frames_of_off (xYieldConfigCommit_off _) rfl
  | channelStartCommit _ => exact frames_settle_of_off (xChannelStartCommit_off _ _) rfl
  | channelStopComplete _ => exact frames_settle_of_off (xChannelStopComplete_off _ _) rfl
  | pwmPeriodStart _ _ => exact frames_of_off (xPwmPeriodStart_off _ _ _) rfl
  | pwmOnTimeEnd _ => exact frames_of_off (xPwmOnTimeEnd_off _ _) rfl
  | currentLimitEntry _ _ => exact frames_of_off (xCurrentLimitEntry_off _ _ _) rfl
  | shortClassifyCheck _ _ _ => exact frames_settle_of_off (xShortClassifyCheck_off _ _ _ _) rfl
  | shortConfirmExpiry _ => exact frames_settle_of_off (xShortConfirmExpiry_off _ _) rfl
  | quietWindowExpiry _ => exact frames_of_off (xQuietWindowExpiry_off _ _) rfl
  | limitExit _ => exact frames_settle_of_off (xLimitExit_off _ _) rfl
  | limitTimeExpiry _ => exact frames_settle_of_off (xLimitTimeExpiry_off _ _) rfl
  | retryOffExpiry _ => exact frames_settle_of_off (xRetryOffExpiry_off _ _) rfl
  | dieOverTemperature _ _ => exact frames_settle_of_off (xDieOverTemperature_off _ _ _) rfl
  | dieGateOpen _ _ => exact frames_settle_of_off (xDieGateOpen_off _ _ _) rfl
  | dieSensorFault _ _ => exact frames_settle_of_off (xDieSensorFault_off _ _ _) rfl
  | studUnderVoltage _ _ => exact frames_settle_of_off (xStudUnderVoltage_off _ _ _) rfl
  | studOverVoltage _ _ _ => exact frames_settle_of_off (xStudOverVoltage_off _ _ _ _) rfl
  | studSupplySettled _ _ => exact frames_settle_of_off (xStudSupplySettled_off _ _ _) rfl
  | channelOverload _ _ => exact frames_settle_of_off (xChannelOverload_off _ _ _) rfl
  | openLoadDetect _ _ _ => exact frames_settle_of_off (xOpenLoadDetect_off _ _ _ _) rfl
  | clampEventBegin _ => exact frames_of_off (xClampEventBegin_off _ _) rfl
  | clampEventEnd _ _ => exact frames_settle_of_off (xClampEventEnd_off _ _ _) rfl
  | clampWindowAgeOut _ => exact frames_of_off (xClampWindowAgeOut_off _ _) rfl
  | studGateAdmit _ _ => exact frames_settle_of_off (xStudGateAdmit_off _ _ _) rfl
  | studCurrentGate _ _ => exact frames_settle_of_off (xStudCurrentGate_off _ _ _) rfl
  | switchingCyclesStore => exact frames_of_off (xSwitchingCyclesStore_off _) rfl
  | egoInstant _ => exact frames_settle_of_off (xEgoInstant_off _ _) rfl
  | egoConfigCommit => exact frames_settle_of_off (xEgoConfigCommit_off _) rfl
  | fusionGather => exact frames_of_off (xFusionGather_off _) rfl
  | fusionResultsIssued _ _ _ => exact frames_settle_of_off (xFusionResultsIssued_off _ _ _ _) rfl
  | pointPacketReceived _ => exact frames_of_off (xPointPacketReceived_off _ _) rfl
  | fusionEgoLostTimeout => exact frames_settle_of_off (xFusionEgoLostTimeout_off _) rfl
  | fusionStartCommit => exact frames_of_off (xFusionStartCommit_off _) rfl
  | fusionStopComplete => exact frames_settle_of_off (xFusionStopComplete_off _) rfl
  | weightsWriteComplete _ => exact frames_of_off (xWeightsWriteComplete_off _ _) rfl
  | cameraPowerLimit _ _ => exact frames_settle_of_off (xCameraPowerLimit_off _ _ _) rfl
  | cameraPowerRetry _ _ => exact frames_settle_of_off (xCameraPowerRetry_off _ _ _) rfl
  | cameraLinkChange _ _ _ => exact frames_settle_of_off (xCameraLinkChange_off _ _ _ _) rfl
  | cameraTrigger _ => exact frames_of_off (xCameraTrigger_off _ _) rfl
  | frameStart _ => exact frames_settle_of_off (xFrameStart_off _ _) rfl
  | frameSlotMissing _ => exact frames_settle_of_off (xFrameSlotMissing_off _ _) rfl
  | csi2PacketReceived _ _ => exact frames_settle_of_off (xCsi2PacketReceived_off _ _ _) rfl
  | frameEnd _ => exact frames_settle_of_off (xFrameEnd_off _ _) rfl
  | frameProcessed _ _ => exact frames_of_off (xFrameProcessed_off _ _ _) rfl
  | statsRecordSent _ => exact frames_of_off (xStatsRecordSent_off _ _) rfl
  | exposureWritesComplete _ => exact frames_of_off (xExposureWritesComplete_off _ _) rfl
  | pipeStartCommit _ => exact frames_of_off (xPipeStartCommit_off _ _) rfl
  | pipeStartTimeout _ => exact frames_settle_of_off (xPipeStartTimeout_off _ _) rfl
  | pipeStopComplete _ => exact frames_settle_of_off (xPipeStopComplete_off _ _) rfl
  | antennaBiasChange _ _ => exact frames_settle_of_off (xAntennaBiasChange_off _ _ _) rfl
  | antennaBiasRetry _ _ => exact frames_settle_of_off (xAntennaBiasRetry_off _ _ _) rfl
  | gnssBankEpoch _ => exact frames_settle_of_off (xGnssBankEpoch_off _ _) rfl
  | jammingAlarmTimeout => exact frames_settle_of_off (xJammingAlarmTimeout_off _) rfl
  | acquisitionFalseAlarm _ => exact frames_of_off (xAcquisitionFalseAlarm_off _ _) rfl
  | trackingLockChange _ _ _ => exact frames_of_off (xTrackingLockChange_off _ _ _ _) rfl
  | trackingLossTimeout _ _ => exact frames_of_off (xTrackingLossTimeout_off _ _ _) rfl
  | bitSyncTimeout _ => exact frames_of_off (xBitSyncTimeout_off _ _) rfl
  | lostPrnExpiry _ => exact frames_of_off (xLostPrnExpiry_off _ _) rfl
  | subframeReceived _ _ _ _ _ => exact frames_of_off (xSubframeReceived_off _ _ _ _ _ _) rfl
  | measurementEpoch _ => exact frames_settle_of_off (xMeasurementEpoch_off _ _) rfl
  | gnssDataStore => exact frames_of_off (xGnssDataStore_off _) rfl
  | gnssStartCommit => exact frames_settle_of_off (xGnssStartCommit_off _) rfl
  | pipCaptureBegin => exact frames_of_off (xPipCaptureBegin_off _) rfl
  | pipStored _ => exact frames_of_off (xPipStored_off _ _) rfl
  | pipProcessingUnit _ _ _ => exact frames_of_off (xPipProcessingUnit_off _ _ _ _) rfl
  | timeStepMade _ => exact frames_settle_of_off (xTimeStepMade_off _ _) rfl
  | ppsOutPulse _ => exact frames_of_off (xPpsOutPulse_off _ _) rfl
  | ptpMessageReceived _ _ => exact frames_settle_of_off (xPtpMessageReceived_off _ _ _) rfl
  | ptpMessageSend _ _ _ => exact frames_of_off (xPtpMessageSend_off _ _ _ _) rfl
  | ptpEventForwarded _ _ _ _ _ => exact frames_of_off (xPtpEventForwarded_off _ _ _ _ _ _) rfl
  | ptpSourceTimeout _ => exact frames_settle_of_off (xPtpSourceTimeout_off _ _) rfl
  | ppsInEdge _ => exact frames_settle_of_off (xPpsInEdge_off _ _) rfl
  | ppsInTimeout _ => exact frames_settle_of_off (xPpsInTimeout_off _ _) rfl
  | slewComplete _ => exact frames_of_off (xSlewComplete_off _ _) rfl
  | holdoverSpecExceeded _ => exact frames_settle_of_off (xHoldoverSpecExceeded_off _ _) rfl
  | domainStartCommit _ => exact frames_settle_of_off (xDomainStartCommit_off _ _) rfl
  | gateEntryExpiry _ => exact frames_of_off (xGateEntryExpiry_off _ _) rfl
  | gateListStart _ => exact frames_of_off (xGateListStart_off _ _) rfl
  | portConfigApply _ => exact frames_settle_of_off (xPortConfigApply_off _ _) rfl
  | portLinkChange _ _ => exact frames_settle_of_off (xPortLinkChange_off _ _ _) rfl
  | ethFrameReceived _ _ => exact frames_of_off (xEthFrameReceived_off _ _ _) rfl
  | canFrameReceived _ _ => exact frames_settle_of_off (xCanFrameReceived_off _ _ _) rfl
  | canProtocolException _ _ => exact frames_nil_of_off (xCanProtocolException_off _ _ _)
  | canBusError _ _ _ _ => exact frames_settle_of_off (xCanBusError_off _ _ _ _ _) rfl
  | canTxAttemptEnd _ _ _ => exact frames_settle_of_off (xCanTxAttemptEnd_off _ _ _ _) rfl
  | canBusoffRecovered _ => exact frames_settle_of_off (xCanBusoffRecovered_off _ _) rfl
  | canTxDominantTimeout _ => exact frames_settle_of_off (xCanTxDominantTimeout_off _ _) rfl
  | canBusDominantTimeout _ => exact frames_settle_of_off (xCanBusDominantTimeout_off _ _) rfl
  | canBusIntegrated _ => exact frames_settle_of_off (xCanBusIntegrated_off _ _) rfl
  | canStopComplete _ => exact frames_settle_of_off (xCanStopComplete_off _ _) rfl
  | addressClaimTimeout _ => exact frames_settle_of_off (xAddressClaimTimeout_off _ _) rfl
  | cannotClaimDelayExpiry _ => exact frames_settle_of_off (xCannotClaimDelayExpiry_off _ _) rfl
  | hpFrameHoldoffExpiry _ => exact frames_of_off (xHpFrameHoldoffExpiry_off _ _) rfl
  | rxReadyHoldoffExpiry _ => exact frames_of_off (xRxReadyHoldoffExpiry_off _ _) rfl
  | faultSourceRaised _ _ _ _ _ _ => exact frames_settle_of_off (xFaultSourceRaised_off _ _ _ _ _ _ _) rfl
  | faultSourceReturned _ => exact frames_settle_of_off (xFaultSourceReturned_off _ _) rfl
  | faultLinkRestored _ _ => exact frames_settle_of_off (xFaultLinkRestored_off _ _ _) rfl
  | squallWindowEnd => exact frames_settle_of_off (xSquallWindowEnd_off _) rfl
  | watchdogExpiry => exact frames_settle_of_off (xWatchdogExpiry_off _) rfl
  | lockstepMiscompare _ _ => exact frames_settle_of_off (xLockstepMiscompare_off _ _ _) rfl
  | failoverRestoreComplete _ => exact frames_settle_of_off (xFailoverRestoreComplete_off _ _) rfl
  | deadPairReset _ => exact frames_settle_of_off (xDeadPairReset_off _ _) rfl
  | quarantineSelfTestEnd _ _ => exact frames_settle_of_off (xQuarantineSelfTestEnd_off _ _ _) rfl
  | heartbeatWrite _ => exact frames_of_off (xHeartbeatWrite_off _ _) rfl
  | aliveHeartbeatTimeout => exact frames_of_off (xAliveHeartbeatTimeout_off _) rfl
  | powerStateEntryComplete => exact frames_settle_of_off (xPowerStateEntryComplete_off _) rfl
  | ignRise => exact frames_settle_of_off (xIgnRise_off _) rfl
  | ignOffDelayExpiry => exact frames_settle_of_off (xIgnOffDelayExpiry_off _) rfl
  | canWakePattern _ => exact frames_settle_of_off (xCanWakePattern_off _ _) rfl
  | wakeTimerExpiry => exact frames_settle_of_off (xWakeTimerExpiry_off _) rfl
  | budgetWindow => exact frames_settle_of_off (xBudgetWindow_off _) rfl
  | energyMeter _ _ _ => exact frames_of_off (xEnergyMeter_off _ _ _ _) rfl
  | panelTemperatureRead _ => exact frames_settle_of_off (xPanelTemperatureRead_off _ _) rfl
  | panelSupplySample _ _ _ => exact frames_settle_of_off (xPanelSupplySample_off _ _ _ _) rfl
  | panelSupplyRestored => exact frames_settle_of_off (xPanelSupplyRestored_off _) rfl
  | panelRowStart => exact frames_settle_of_off (xPanelRowStart_off _) rfl
  | panelPhaseEnd => exact frames_settle_of_off (xPanelPhaseEnd_off _) rfl
  | panelJournalTick => exact frames_of_off (xPanelJournalTick_off _) rfl
  | panelStopComplete => exact frames_settle_of_off (xPanelStopComplete_off _) rfl
  | updateCopyBegin => exact frames_of_off (xUpdateCopyBegin_off _) rfl
  | updateSectorDone _ => exact frames_of_off (xUpdateSectorDone_off _ _) rfl
  | updateCheckComplete _ => exact frames_settle_of_off (xUpdateCheckComplete_off _ _) rfl
  | perturbationExpiry _ => exact frames_settle_of_off (xPerturbationExpiry_off _ _) rfl
  | refclkReturn _ => exact frames_settle_of_off (xRefclkReturn_off _ _) rfl
  | checkpointWrite _ => exact frames_of_off (xCheckpointWrite_off _ _) rfl
  | watchdogService _ => exact frames_of_off (xWatchdogService_off _ _) rfl
  | ignFall => exact frames_of_off (xIgnFall_off _) rfl
  | busDominantCleared _ => exact frames_of_off (xBusDominantCleared_off _ _) rfl

end Sys2Proof.Machine

namespace Sys2Proof

open Machine

/-- Settles O7: the parts listed for each command are those that its own operation may change, with those of the
pipeline where it is a Baline command. -/
theorem frameOfEveryCommand : Obligations.FrameOfEveryCommand :=
  exec_frames

/-- Settles O8: a command that is not listed leaves the whole memory alone. -/
theorem memoryFrame : Obligations.MemoryFrame := by
  unfold Obligations.MemoryFrame
  intro i s s' spared stepped a
  have alike : s'.mem = s.mem := congrArg Prod.fst (exec_core i s spared stepped)
  rw [alike]

end Sys2Proof
end

section
/-! SUPPORT. The checks of 03 Table 3.4, one lemma for each way a packet or a command can go (03 R73 to R86). -/

namespace Sys2Proof.Machine

/-! ## Checks 1 to 5 -/

section
variable {s : State} {code : Nat} {op : Option OpSpec} {h : Hdr} {p : Bytes} {i : Instr}

theorem command_of_away (ht : h.taken = false) (ha : served s h.ep = false ∨ reached s h code p = false) :
    command s code op h p i = s := by
  have away : (served s h.ep && reached s h code p) = false := Bool.and_eq_false_iff.mpr ha
  unfold command
  rw [ht, away]
  rfl

theorem command_of_comes (ht : h.taken = false) (hs : served s h.ep = true) (hr : reached s h code p = true) :
    command s code op h p i = received (unbox s h.ep) code op h p i := by
  unfold command
  rw [ht, hs, hr]
  rfl

theorem received_of_malformed (hf : h.flags % 4 ≠ 0 ∨ packetMax s h < 16 + p.length) :
    received s code op h p i = discard s :=
  if_pos hf

theorem received_of_version (hf : h.flags % 4 = 0) (hl : 16 + p.length ≤ packetMax s h) (hv : h.version ≠ 1) :
    received s code op h p i = sendPacket s h.ep (replyOf h code stBadOpcode 0 []) := by
  unfold received
  rw [if_neg (by omega), if_pos hv]

theorem received_of_sessionless (hf : h.flags % 4 = 0) (hl : 16 + p.length ≤ packetMax s h) (hv : h.version = 1)
    (h0 : h.session = 0) (hc : code = 0x0100 ∨ code = 0x0101) :
    received s code op h p i = sessionless s code op h p i := by
  unfold received
  rw [if_neg (by omega), if_neg (by omega), if_pos ⟨h0, hc⟩]

theorem received_of_unbound (hf : h.flags % 4 = 0) (hl : 16 + p.length ≤ packetMax s h) (hv : h.version = 1)
    (hn : h.session ≠ 0 ∨ code ≠ 0x0100 ∧ code ≠ 0x0101) (hb : boundSession s h = none) :
    received s code op h p i = sendPacket s h.ep (replyOf h code stWrongState 0 []) := by
  unfold received
  rw [if_neg (by omega), if_neg (by omega), if_neg (by omega), hb]

/-- A command of an open session: with the session heard, it is a repeat or is taken up. -/
theorem received_of_bound {x : Session} {t : State} (hf : h.flags % 4 = 0) (hl : 16 + p.length ≤ packetMax s h)
    (hv : h.version = 1) (hn : h.session ≠ 0) (hb : boundSession s h = some x)
    (ht : mapSession s h.session (fun y => { y with last := s.mono }) = t) :
    received s code op h p i = match repeated t x h with
      | some none => t
      | some (some k) => sendPacket t h.ep k
      | none => takeUp t code op h p i := by
  subst ht
  unfold received
  rw [if_neg (by omega), if_neg (by omega), if_neg (fun c => hn c.1), hb] <;> rfl

end

theorem repeated_heard (s : State) (x : Session) (h : Hdr) : repeated (heard s h) x h = repeated s x h := by
  unfold repeated
  rw [outstanding_heard]

theorem heard_eq (s : State) (h : Hdr) :
    mapSession (unbox s h.ep) h.session (fun x => { x with last := (unbox s h.ep).mono }) = heard s h := by
  rw [unbox_mono]
  rfl

/-- A command of an open session that is no repeat is taken up once its session has been heard. -/
theorem command_of_bound {s : State} {code : Nat} {op : Option OpSpec} {h : Hdr} {p : Bytes} {i : Instr} {x : Session}
    (ht : h.taken = false) (hs : served s h.ep = true) (hr : reached s h code p = true) (hf : h.flags % 4 = 0)
    (hv : h.version = 1) (hl : 16 + p.length ≤ packetMax s h) (hn : h.session ≠ 0) (hb : boundSession s h = some x) :
    command s code op h p i = match repeated s x h with
      | some none => heard s h
      | some (some k) => sendPacket (heard s h) h.ep k
      | none => takeUp (heard s h) code op h p i := by
  rw [← packetMax_unbox s h.ep] at hl
  rw [← boundSession_unbox s h.ep] at hb
  rw [command_of_comes ht hs hr, received_of_bound hf hl hv hn hb (heard_eq s h), repeated_heard]

theorem reached_udp_iff {s : State} {h : Hdr} {code : Nat} {p : Bytes} {a b : Nat} (he : h.ep = .udp a b) :
    reached s h code p = true ↔
      h.sumOk = true ∧ h.whole = true ∧ (h.toAll = true → h.session = 0 ∧ code = 0x0100) := by
  unfold reached
  rw [he]
  cases h.toAll <;> simp [and_assoc]

theorem reached_can2_iff {s : State} {h : Hdr} {code : Nat} {p : Bytes} (he : h.ep = .can2) :
    reached s h code p = true ↔ ∃ r, s.net.isoMsg = commandBytes h code p :: r := by
  unfold reached
  rw [he]
  exact decide_eq_true_iff.trans List.head?_eq_some_iff

section
variable {s : State} {x : Session} {h : Hdr}

theorem repeated_of_outstanding (ho : h.seq ∈ outstanding s h.session) : repeated s x h = some none := by
  unfold repeated
  rw [if_pos (List.contains_iff_mem.mpr ho)]

theorem repeated_of_answered {e : Nat × Packet} (ho : h.seq ∉ outstanding s h.session)
    (ha : x.answered.find? (fun e => decide (e.1 = h.seq)) = some e) : repeated s x h = some (some e.2) := by
  unfold repeated
  rw [if_neg (fun c => ho (List.contains_iff_mem.mp c)), ha]
  rfl

theorem repeated_of_new (ho : h.seq ∉ outstanding s h.session) (ha : ∀ e ∈ x.answered, e.1 ≠ h.seq) :
    repeated s x h = none := by
  have fresh : x.answered.find? (fun e => decide (e.1 = h.seq)) = none :=
    List.find?_eq_none.mpr fun e he => by simpa using ha e he
  unfold repeated
  rw [if_neg (fun c => ho (List.contains_iff_mem.mp c)), fresh]
  rfl

end

/-! ## Checks 6 to 12 -/

section
variable {s : State} {op : OpSpec} {h : Hdr} {p : Bytes} {i : Instr}

theorem gate_of_unserved (hs : servesNow s op.code = false) : gate s op h p = some (stWrongState, 0) := by
  unfold gate
  rw [hs]
  rfl

/-- A bench command outside bench mode is refused, by check 8 or by check 9. -/
theorem gate_of_outside_bench (hb : op.bench = true) (hm : s.boot.bench = false) :
    gate s op h p = some (if servesNow s op.code then stDenied else stWrongState, 0) := by
  unfold gate
  rw [hb, hm]
  cases servesNow s op.code <;> rfl

section
variable (hs : servesNow s op.code = true) (hb : op.bench = true → s.boot.bench = true)
include hs hb

theorem gate_of_benched : gate s op h p =
    if op.token && s.net.token ≠ some h.session then some (stNotOwner, 0)
    else if p.length ≠ op.len p then some (stBadLength, op.len p)
    else if 8 ≤ h.flags then some (stBadParam, noField)
    else match firstBad (op.layout p) with
      | some o => some (stBadParam, o)
      | none => if packetMax s h < 20 + op.reply p then some (stBadParam, noField) else none := by
  have allowed : (op.bench && !s.boot.bench) = false := by
    cases ho : op.bench with
    | false => rfl
    | true => rw [hb ho]; rfl
  unfold gate
  rw [hs, allowed]
  rfl

theorem gate_of_not_owner (ht : op.token = true) (hn : s.net.token ≠ some h.session) :
    gate s op h p = some (stNotOwner, 0) := by
  rw [gate_of_benched hs hb, if_pos (by simp [ht, hn])]

variable (ho : op.token = true → s.net.token = some h.session)
include ho

theorem gate_of_owner : gate s op h p =
    if p.length ≠ op.len p then some (stBadLength, op.len p)
    else if 8 ≤ h.flags then some (stBadParam, noField)
    else match firstBad (op.layout p) with
      | some o => some (stBadParam, o)
      | none => if packetMax s h < 20 + op.reply p then some (stBadParam, noField) else none := by
  rw [gate_of_benched hs hb, if_neg (by simpa using ho)]

theorem gate_of_length (hl : p.length ≠ op.len p) : gate s op h p = some (stBadLength, op.len p) := by
  rw [gate_of_owner hs hb ho, if_pos hl]

variable (hl : p.length = op.len p)
include hl

theorem gate_of_flags (hf : 8 ≤ h.flags) : gate s op h p = some (stBadParam, noField) := by
  rw [gate_of_owner hs hb ho, if_neg (not_not.mpr hl), if_pos hf]

theorem gate_of_field {o : Nat} (hf : h.flags < 8) (hx : firstBad (op.layout p) = some o) :
    gate s op h p = some (stBadParam, o) := by
  rw [gate_of_owner hs hb ho, if_neg (not_not.mpr hl), if_neg (by omega), hx]

theorem gate_of_layout (hf : h.flags < 8) (hx : firstBad (op.layout p) = none) :
    gate s op h p = if packetMax s h < 20 + op.reply p then some (stBadParam, noField) else none := by
  rw [gate_of_owner hs hb ho, if_neg (not_not.mpr hl), if_neg (by omega), hx]

end

theorem takeUp_of_full {code : Nat} {op : Option OpSpec}
    (hf : ¬ (h.session = 0 ∨ (outstanding s h.session).length < 16)) :
    takeUp s code op h p i = answer s h code stBusy 0 [] :=
  if_pos (by omega)

section
variable (room : h.session = 0 ∨ (outstanding s h.session).length < 16)
include room

theorem takeUp_of_undefined {code : Nat} : takeUp s code none h p i = answer s h code stBadOpcode 0 [] :=
  if_neg (by omega)

theorem takeUp_of_refused {st d : Nat} (hg : gate s op h p = some (st, d)) :
    takeUp s op.code (some op) h p i = answer s h op.code st d [] := by
  unfold takeUp
  rw [if_neg (by omega)]
  simp only [hg]

theorem takeUp_of_passed (hg : gate s op h p = none) : takeUp s op.code (some op) h p i =
    if mustWait s h op.code || waits s i then hold s h op.code i else perform s op h p := by
  unfold takeUp
  rw [if_neg (by omega)]
  simp only [hg]

end

/-- Without its ownership token, or outside bench mode, a command that asks for them is refused by some check. -/
theorem gate_isSome_of_guard
    (hg : (op.token = true ∧ s.net.token ≠ some h.session) ∨ (op.bench = true ∧ s.boot.bench = false)) :
    ∃ st d, gate s op h p = some (st, d) := by
  by_cases outside : op.bench = true ∧ s.boot.bench = false
  · exact ⟨_, _, gate_of_outside_bench outside.1 outside.2⟩
  · obtain ⟨ht, hn⟩ := hg.resolve_right outside
    cases hs : servesNow s op.code with
    | false => exact ⟨_, _, gate_of_unserved hs⟩
    | true => exact ⟨_, _, gate_of_not_owner hs (fun hb => by simpa using fun hm => outside ⟨hb, hm⟩) ht hn⟩

/-- What an answer may change: the session it joins and what is sent, with the bus it goes to on CAN2. -/
def answerAreas (ep : Endpoint) : List Area := [.net, .sent] ++ if ep = .can2 then [.can] else []

theorem sameBut_answer (s : State) (h : Hdr) (code st detail : Nat) (data : Bytes) :
    SameBut (answerAreas h.ep) s (answer s h code st detail data) := by
  have net_sent : 1073741856 &&& areaSet (answerAreas h.ep) = 1073741856 := by
    unfold answerAreas
    rw [areaSet_append]
    exact sub_or_left (by decide) _
  refine sameBut_of_off (answer_off s h code st detail data _ (sub_of (b := 1073741856) (by decide) net_sent) ?_)
  intro t k
  cases he : h.ep with
  | udp a b =>
    rw [he] at net_sent
    simp [sendPacket, sub_of (a := 1073741824) (b := 1073741856) (by decide) net_sent]
  | can2 => exact sendPacket_off t .can2 k _ (by decide)

theorem sameBut_takeUp_of_guard
    (hg : (op.token = true ∧ s.net.token ≠ some h.session) ∨ (op.bench = true ∧ s.boot.bench = false)) :
    SameBut (answerAreas h.ep) s (takeUp s op.code (some op) h p i) := by
  obtain ⟨st, d, refused⟩ := gate_isSome_of_guard (p := p) hg
  by_cases room : h.session = 0 ∨ (outstanding s h.session).length < 16
  · rw [takeUp_of_refused room refused]
    exact sameBut_answer s h _ _ _ _
  · rw [takeUp_of_full room]
    exact sameBut_answer s h _ _ _ _

end

end Sys2Proof.Machine

namespace Sys2Proof

open Machine

/-- Settles O10: the checks in the order of Table 3.4, one case for each that fails; past them the command goes on. -/
theorem commandChecks : Obligations.CommandChecks := by
  unfold Obligations.CommandChecks
  refine ⟨fun s code op h p i ht => ⟨command_of_away ht, ?malformed, ?version, ?unbound⟩,
    fun s h code p => ⟨fun a b => reached_udp_iff, reached_can2_iff⟩, ?repeats,
    fun s x h => ⟨repeated_of_outstanding, fun e => repeated_of_answered, repeated_of_new⟩,
    fun s op h p i => ⟨takeUp_of_full, fun room => takeUp_of_undefined room,
      fun room hs => takeUp_of_refused room (gate_of_unserved hs), ?bench, ?owner,
      fun room hs hb ho hl => takeUp_of_refused room (gate_of_length hs hb ho hl),
      fun room hs hb ho hl => ⟨fun hf => takeUp_of_refused room (gate_of_flags hs hb ho hl hf),
        fun o hf hx => takeUp_of_refused room (gate_of_field hs hb ho hl hf hx), ?layout⟩⟩,
    fun s op h p i => sameBut_takeUp_of_guard⟩
  case malformed =>
    rintro ⟨hs, hr⟩ hf
    exact (command_of_comes ht hs hr).trans (received_of_malformed (by rwa [packetMax_unbox]))
  case version =>
    rintro ⟨hs, hr⟩ hf hl hv
    exact (command_of_comes ht hs hr).trans (received_of_version hf (by rwa [packetMax_unbox]) hv)
  case unbound =>
    rintro ⟨hs, hr⟩ hf hl hv hn hb
    exact (command_of_comes ht hs hr).trans
      (received_of_unbound hf (by rwa [packetMax_unbox]) hv hn (by rwa [boundSession_unbox]))
  case repeats =>
    intro s code op h p i x r ht hs hr hf hv hl hn hb again
    rw [command_of_bound ht hs hr hf hv hl hn hb, again]
    cases r <;> rfl
  case bench =>
    intro room hs outside
    obtain ⟨hb, hm⟩ := Classical.not_imp.mp outside
    refine takeUp_of_refused room ((gate_of_outside_bench hb (by simpa using hm)).trans ?_)
    rw [if_pos hs]
  case owner =>
    intro room hs hb stranger
    obtain ⟨ht, hn⟩ := Classical.not_imp.mp stranger
    exact takeUp_of_refused room (gate_of_not_owner hs hb ht hn)
  case layout =>
    intro hf hx
    have last := gate_of_layout hs hb ho hl hf hx
    refine ⟨fun hp => takeUp_of_refused room (last.trans (if_pos hp)), fun hp => ?_⟩
    exact takeUp_of_passed room (last.trans (if_neg (by omega)))

end Sys2Proof
end

section
/-! SUPPORT. What an answer makes of its session, and what it sends (03 R71, R74, R79, R85). -/

namespace Sys2Proof.Machine

/-! ## Sessions -/

/-- A change of one session that keeps its number leaves the others alone, and is what is then found under it. -/
theorem session_mapSession {s : State} {n : Nat} {f : Session → Session} (hf : ∀ x, (f x).num = x.num) (m : Nat) :
    session (mapSession s n f) m = (session s m).map fun x => if m = n then f x else x := by
  have kept (x : Session) : (if x.num = n then f x else x).num = x.num := by split <;> simp [hf]
  unfold session mapSession
  simp only [List.find?_map, Function.comp_def, kept]
  cases hx : s.net.sessions.find? fun x => decide (x.num = m) with
  | none => rfl
  | some x =>
    have found : x.num = m := by simpa using List.find?_some hx
    simp only [Option.map_some, found]

theorem session_congr {s t : State} (h : t.net.sessions = s.net.sessions) (n : Nat) : session t n = session s n := by
  unfold session
  rw [h]

/-- What waits for CAN2 is no session's business. -/
theorem isoQueue_sessions (s : State) (id : Nat) (m : Bytes) : (isoQueue s id m).net.sessions = s.net.sessions := by
  have begun : (isoBegin s id m).1.net = s.net := net_of_off (isoBegin_off s id m _ (Nat.and_self _)) rfl
  unfold isoQueue
  split
  · rfl
  · split
    all_goals
      rename_i hb
      rw [hb] at begun
      have alike := congrArg Net.sessions begun
      exact alike

theorem sendPacket_sessions (s : State) (ep : Endpoint) (k : Packet) :
    (sendPacket s ep k).net.sessions = s.net.sessions := by
  cases ep with
  | udp a b => rfl
  | can2 => exact isoQueue_sessions _ _ _

/-- A packet that is no stream record goes out on CAN2 with the identifier of replies (Table 3.3). -/
theorem sendPacket_can2_of_reply {s : State} {k : Packet} (hk : k.flags = 1) :
    sendPacket s .can2 k = isoQueue { s with sent := .packet .can2 k :: s.sent } 0x7A1 k.bytes := by
  unfold sendPacket
  rw [hk]
  rfl

theorem sendPacket_udp (s : State) (a b : Nat) (k : Packet) :
    sendPacket s (.udp a b) k = { s with sent := .packet (.udp a b) k :: s.sent } := rfl

/-! ## Answers -/

/-- A reply joins its session's latest ones, or is kept for the endpoint of an OPEN_SESSION. -/
def replyKept (s : State) (h : Hdr) (code : Nat) (k : Packet) : State :=
  if h.session ≠ 0 then
    mapSession s h.session fun x => { x with answered := ((h.seq, k) :: x.answered).take 32 }
  else if code = 0x0101 then
    { s with net := { s.net with openReplies :=
        { ep := h.ep, seq := h.seq, at_ := s.mono, reply := k } :: s.net.openReplies.filter fun r => decide (r.ep ≠ h.ep) } }
  else s

section
variable {s : State} {h : Hdr} {code st detail : Nat} {data : Bytes}

theorem answer_eq : answer s h code st detail data =
    sendPacket (replyKept s h code (replyOf h code st detail data)) h.ep (replyOf h code st detail data) := rfl

theorem replyKept_sent (k : Packet) : (replyKept s h code k).sent = s.sent := by
  unfold replyKept
  split
  · rfl
  · split <;> rfl

/-- A reply becomes the newest of its session's answered commands. -/
theorem session_answer {x : Session} (hn : h.session ≠ 0) (hx : session s h.session = some x) :
    session (answer s h code st detail data) h.session =
      some { x with answered := ((h.seq, replyOf h code st detail data) :: x.answered).take 32 } := by
  rw [answer_eq, session_congr (sendPacket_sessions _ _ _), replyKept, if_pos hn, session_mapSession, hx]
  · exact congrArg some (if_pos rfl)
  · exact fun _ => rfl

theorem answer_sent_udp {a b : Nat} (he : h.ep = .udp a b) :
    (answer s h code st detail data).sent = .packet h.ep (replyOf h code st detail data) :: s.sent := by
  rw [answer_eq, he, sendPacket_udp]
  exact congrArg _ (replyKept_sent _)

/-- On CAN2 a reply is a message with the identifier of replies. -/
theorem answer_can2 (he : h.ep = .can2) : answer s h code st detail data =
    isoQueue { replyKept s h code (replyOf h code st detail data) with
        sent := .packet h.ep (replyOf h code st detail data) :: s.sent }
      0x7A1 (replyOf h code st detail data).bytes := by
  rw [answer_eq, he, sendPacket_can2_of_reply rfl, replyKept_sent]

theorem perform_of_oversize {op : OpSpec} {p : Bytes}
    (hl : packetMax s h < 20 + (op.body (s.within h) p).data.length) :
    perform s op h p = answer s h op.code stBadParam 0xFFFF [] :=
  if_pos hl

end

end Sys2Proof.Machine

namespace Sys2Proof

open Machine

/-- Settles O11: the reply's fields are `replyOf`, its session's record and its sending are `answer`'s two parts. -/
theorem replies : Obligations.Replies := by
  unfold Obligations.Replies
  refine ⟨fun _ _ _ _ _ => rfl, fun s h x code st detail data hn hx => ⟨_, session_answer hn hx, rfl⟩,
    fun s h a b code st detail data => answer_sent_udp, fun s h code st detail data he => ⟨_, rfl, answer_can2 he⟩,
    fun s op h p => perform_of_oversize, ?digits, ?empty⟩
  case digits => decide +kernel
  case empty => decide

end Sys2Proof
end

section
/-! SUPPORT. What the reading commands of the system answer: identity, time and a function's state (03 R97, R99). -/

namespace Sys2Proof.Machine

section
variable {op : OpSpec} {h : Hdr} {p data : Bytes} {n : Nat} {s : State} {i : Instr}

/-- An accepted command that only answers data. -/
theorem hostOnly_read_of_accepted (ok : Accepted op h p n s) (hw : waits (heard s h) i = false)
    (hb : op.body (atBody s h) p = okWith (atBody s h) data) (hl : data.length = n) :
    hostOnly op h p i s = replied h op.code p (okWith (atBody s h) data) := by
  subst hl
  exact hostOnly_of_accepted (okWith (atBody s h) data) hb ok hw

end

/-- The identity of Table 3.12. -/
def identityBytes (s : State) : Bytes :=
  le 4 0x0960A001 ++ le 12 Config.unitId.toNat ++ le 4 (fwVersion s) ++ le 4 Config.loaderVersion.toNat ++
    le 2 (schemaNow s) ++ b1 1 ++
    b1 (bit s.boot.bench 0 + bit (limited s) 1 + bit (decide (sparePairs s = 0)) 2) ++ le 4 s.fcr.epoch ++
    le 4 s.boot.coreResets ++ le 8 s.mono ++ b1 s.net.sessions.length ++ b1 (bit s.net.token.isSome 0) ++
    (le 6 Config.mac.toNat).reverse ++ b1 s.boot.cause ++ zeros 3

theorem identityBytes_length (s : State) : (identityBytes s).length = 56 := by simp [identityBytes]

theorem opGetIdentity_body (s : State) (p : Bytes) : opGetIdentity.body s p = okWith s (identityBytes s) := rfl

/-- Hearing a session opens or closes none. -/
theorem heard_sessions_length (s : State) (h : Hdr) : (heard s h).net.sessions.length = s.net.sessions.length := by
  unfold heard mapSession
  rw [List.length_map, unbox_sessions]

/-- Hearing a session changes nothing that the identity shows. -/
theorem identityBytes_atBody (s : State) (h : Hdr) : identityBytes (atBody s h) = identityBytes s := by
  have sessions : (atBody s h).net.sessions.length = s.net.sessions.length := heard_sessions_length s h
  have token : (atBody s h).net.token = s.net.token := heard_token s h
  unfold identityBytes
  rw [sessions, token]
  rfl

theorem exec_getIdentity_of_accepted {h : Hdr} {p : Bytes} {s : State} (ok : Accepted opGetIdentity h p 56 s) :
    exec (.getIdentity h p) s = .next (replied h 0x0100 p (okWith (atBody s h) (identityBytes s))) := by
  rw [← identityBytes_atBody s h]
  exact congrArg Host.Outcome.next
    (hostOnly_read_of_accepted ok rfl (opGetIdentity_body _ p) (identityBytes_length _))

end Sys2Proof.Machine

namespace Sys2Proof

open Machine

/-- Settles O12: each of the three answers what its body reads, which hearing the session does not change. -/
theorem identityAndStateReads : Obligations.IdentityAndStateReads := by
  unfold Obligations.IdentityAndStateReads
  refine ⟨fun h p s => exec_getIdentity_of_accepted, fun h p s ok => ?keepalive, fun h p s ok => ?state⟩
  case keepalive =>
    exact congrArg Host.Outcome.next (hostOnly_read_of_accepted (op := opKeepalive) ok rfl rfl (by simp))
  case state =>
    exact congrArg Host.Outcome.next (hostOnly_read_of_accepted (op := opGetState) ok rfl rfl (by simp))

end Sys2Proof
end

section
/-! SUPPORT. Memory as Baline reads and writes it (03 R101 to R103; 01 Table 1.4). -/

namespace Sys2Proof.Machine

/-! ## Bytes of the address map -/

theorem busRead_eq_map (s : State) (a n : Nat) : busRead s a n = (List.range n).map fun i => busByte s (a + i) := by
  induction n generalizing a with
  | zero => rfl
  | succ n ih =>
    rw [busRead, ih, List.range_succ_eq_map, List.map_cons, List.map_map]
    exact congrArg _ (List.map_congr_left fun i _ => congrArg (busByte s) (by omega))

theorem busRead_length (s : State) (a n : Nat) : (busRead s a n).length = n := by simp [busRead_eq_map]

section
variable {s : State} {a : Nat}

theorem busByte_of_register (hl : 0x40000000 ≤ a) (hh : a < 0x40E00000) : busByte s a = regByte s a :=
  if_pos ⟨hl, hh⟩

theorem busByte_of_nor (hl : 0x81000000 ≤ a) (hh : a < 0x91000000) :
    busByte s a = (norImage s).getD (a - 0x81000000) 0xFF#8 := by
  unfold busByte
  rw [if_neg (by omega), if_pos ⟨hl, hh⟩]

theorem busByte_of_memory (hm : a < 0x40000000 ∨ (0x40E00000 ≤ a ∧ a < 0x81000000) ∨ 0x91000000 ≤ a) :
    busByte s a = memGet s.mem a := by
  unfold busByte
  rw [if_neg (by omega), if_neg (by omega)]

end

/-! ## READ_MEM -/

section
variable {s : State} {p : Bytes} {ecc : Bool}

theorem opReadMem_of_bytes (he : ecc = false ∨ rd p 0 8 < 0x100000000) :
    (opReadMem ecc).body s p = okWith s (busRead s (rd p 0 8) (rd p 10 2)) := by
  refine if_neg ?_
  rw [Bool.and_eq_true, decide_eq_true_eq]
  rintro ⟨uncorrectable, dram⟩
  rcases he with he | he
  · exact Bool.false_ne_true (he.symm.trans uncorrectable)
  · omega

theorem opReadMem_of_uncorrectable (hd : 0x100000000 ≤ rd p 0 8) :
    let reader := ((List.range 4).find? fun i => decide ((s.pair i).role = .active)).getD 0 + 1
    (opReadMem true).body s p =
      failAns (returnSrc (raiseEnc s 12 2 (rd p 0 8 % 2 ^ 32) (reader, 1, rd p 0 8)) 12) stInternal 0 := by
  unfold opReadMem
  dsimp only
  rw [if_pos (by simpa using hd)]

end

/-! ## WRITE_MEM -/

/-- Answering a command leaves memory as its body left it. -/
theorem replied_mem (h : Hdr) (code : Nat) (p : Bytes) (a : Ans) : (replied h code p a).mem = a.s.mem := by
  have answered : (replied h code p a).mem = (finish code p a).mem :=
    mem_of_off (answer_off _ _ _ _ _ _ 1107296288 (by decide) fun t k => sendPacket_off t h.ep k _ (Nat.and_self _)) rfl
  exact answered.trans (mem_of_off (finish_off code p a _ (Nat.and_self _)) rfl)

/-- The range that a WRITE_MEM names lies in the register windows. -/
abbrev InWindows (p : Bytes) : Prop := 0x40000000 ≤ rd p 0 8 ∧ rd p 0 8 < 0x40E00000

/-- What WRITE_MEM leaves: a register is read-only (00 Table 0.5). -/
def memWritten (s : State) (p : Bytes) : State :=
  if InWindows p then s else { s with mem := memWrite s.mem (rd p 0 8) (slice p 12 (rd p 10 2)) }

theorem opWriteMem_body (s : State) (p : Bytes) : opWriteMem.body s p = okAns (memWritten s p) := by
  unfold opWriteMem memWritten
  dsimp only
  rw [apply_ite okAns]

theorem slice_length {p : Bytes} {o n : Nat} (h : o + n ≤ p.length) : (slice p o n).length = n := by
  unfold slice
  rw [List.length_take, List.length_drop]
  omega

theorem slice_getD {p : Bytes} {o n i : Nat} (h : i < n) (d : Byte) : (slice p o n).getD i d = p.getD (o + i) d := by
  unfold slice
  simp only [List.getD_eq_getElem?_getD, List.getElem?_take_of_lt h, List.getElem?_drop]

/-- After a WRITE_MEM the bytes of its range are those it brought, and all the others are as before. -/
theorem memGet_memWritten {s : State} {p : Bytes} (hl : p.length = 12 + rd p 10 2) (hm : MemInv s) (a : Nat) :
    memGet (memWritten s p).mem a =
      if ¬ InWindows p ∧ rd p 0 8 ≤ a ∧ a < rd p 0 8 + rd p 10 2 then p.getD (12 + (a - rd p 0 8)) 0#8
      else memGet s.mem a := by
  unfold memWritten
  by_cases window : InWindows p
  · rw [if_pos window, if_neg fun c => c.1 window]
  · rw [if_neg window]
    dsimp only
    rw [memGet_memWrite _ _ _ hm, slice_length (by omega)]
    by_cases inside : rd p 0 8 ≤ a ∧ a < rd p 0 8 + rd p 10 2
    · rw [if_pos inside, if_pos ⟨window, inside⟩, slice_getD (by omega)]
    · rw [if_neg inside, if_neg fun c => inside c.2]

theorem exec_readMem_of_accepted {h : Hdr} {p : Bytes} {s : State} {ecc : Bool} (a : Ans)
    (ha : (opReadMem ecc).body (atBody s h) p = a) (ok : Accepted (opReadMem ecc) h p a.data.length s) :
    exec (.readMem h p ecc) s = .next (settle (replied h 0x010C p a)) :=
  congrArg Host.Outcome.next (host_of_accepted (op := opReadMem ecc) a ha ok rfl)

theorem exec_writeMem_of_accepted {h : Hdr} {p : Bytes} {s : State} (ok : Accepted opWriteMem h p 0 s) :
    exec (.writeMem h p) s = .next (replied h 0x010D p (okAns (memWritten (atBody s h) p))) :=
  congrArg Host.Outcome.next (hostOnly_of_accepted (okAns _) (opWriteMem_body _ p) ok rfl)

end Sys2Proof.Machine

namespace Sys2Proof

open Machine

/-- Settles O16: READ_MEM by whether its access fails, WRITE_MEM by whether its range is a register window, and each
byte by the part of the address map it lies in. -/
theorem memoryCommands : Obligations.MemoryCommands := by
  unfold Obligations.MemoryCommands
  refine ⟨fun h p s ecc ok he => ?read, fun h p s ok hd => ?uncorrectable, fun h p s ok => ?write,
    fun s a => ⟨busByte_of_register, busByte_of_nor, busByte_of_memory⟩⟩
  case read =>
    rw [← busRead_eq_map]
    refine exec_readMem_of_accepted _ (opReadMem_of_bytes he) ?_
    exact (busRead_length (atBody s h) (rd p 0 8) (rd p 10 2)).symm ▸ ok
  case uncorrectable => exact exec_readMem_of_accepted _ (opReadMem_of_uncorrectable hd) ok
  case write =>
    refine ⟨exec_writeMem_of_accepted ok, fun hm a => ?_⟩
    rw [replied_mem]
    exact memGet_memWritten (s := atBody s h) ok.length hm a

end Sys2Proof
end

section
/-! SUPPORT. What reaches the transports: packets that are no commands, IPv6, ISO-TP on CAN2, and what closes a session
or empties a log's queue (03 R72 to R77, R88, R95, R100). -/

namespace Sys2Proof.Machine

/-! ## Packets that are no commands -/

theorem xUndefinedOpcode_of_listed {h : Hdr} {code : Nat} {p : Bytes} {s : State} (hl : opcodeListed code = true) :
    xUndefinedOpcode h code p s = s :=
  if_pos hl

theorem xUndefinedOpcode_of_unlisted {h : Hdr} {code : Nat} {p : Bytes} {s : State} (hl : opcodeListed code = false) :
    xUndefinedOpcode h code p s = command s code none h p (.undefinedOpcode h.resumed code p) :=
  if_neg (ne_true_of_eq_false hl)

theorem discard_unbox (s : State) (ep : Endpoint) : discard (unbox s ep) =
    { unbox s ep with net := { (unbox s ep).net with discarded := s.net.discarded + 1 } } := by
  cases ep <;> rfl

section
variable {ep : Endpoint} {raw : Bytes} {s : State}

theorem xBalinePacketDiscarded_of_bad (hs : served s ep = true) (hm : ep = .can2 → s.net.isoMsg.head? = some raw)
    (hg : packetGood s ep raw = false) : xBalinePacketDiscarded ep raw s = discard (unbox s ep) := by
  unfold xBalinePacketDiscarded
  cases ep with
  | udp a b => simp [hs, hg]
  | can2 => simp [hs, hg, hm rfl]

theorem xBalinePacketDiscarded_of_good (hg : packetGood s ep raw = true) : xBalinePacketDiscarded ep raw s = s := by
  unfold xBalinePacketDiscarded
  simp [hg]

/-- Steps 1 and 2 ask for the magic number, the length, clear flags, and the CRC of what precedes it. -/
theorem fields_of_packetGood (hg : packetGood s ep raw = true) :
    rd raw 0 2 = 0x4B46 ∧ raw.length = 16 + rd raw 10 2 ∧ byteAt raw 3 % 4 = 0 ∧
      (crc32c (raw.take (12 + rd raw 10 2))).toNat = rd raw (12 + rd raw 10 2) 4 := by
  unfold packetGood at hg
  simp only [Bool.and_eq_true, decide_eq_true_eq] at hg
  obtain ⟨⟨⟨⟨magic, length⟩, -⟩, crc⟩, flags⟩ := hg
  exact ⟨magic, length, flags, crc⟩

theorem packetGood_of_fields (hb : rd raw 0 2 ≠ 0x4B46 ∨ raw.length ≠ 16 + rd raw 10 2 ∨ byteAt raw 3 % 4 ≠ 0 ∨
      (crc32c (raw.take (12 + rd raw 10 2))).toNat ≠ rd raw (12 + rd raw 10 2) 4) : packetGood s ep raw = false := by
  rw [← Bool.not_eq_true]
  intro hg
  obtain ⟨magic, length, flags, crc⟩ := fields_of_packetGood hg
  rcases hb with hb | hb | hb | hb
  · exact hb magic
  · exact hb length
  · exact hb flags
  · exact hb crc

end

theorem xBalinePortMismatchDrop_of_awake {k : Nat} {s : State} (hl : 1 ≤ k) (hh : k ≤ 8) (hr : fwRuns s = true)
    (hp : s.pwr.state ≤ 1) :
    xBalinePortMismatchDrop k s = { s with net := { s.net with mismatch := s.net.mismatch + 1 } } :=
  if_pos ⟨hl, hh, hr, hp⟩

/-! ## IPv6 -/

section
variable {s : State} (hs : p0Answers s = true)
include hs

theorem xNeighbourDiscovery_of_own (src : Nat) : xNeighbourDiscovery src ownAddress.toNat s =
    { s with sent := .neighbour src ownAddress.toNat :: s.sent } := by
  unfold xNeighbourDiscovery
  simp [hs]

omit hs in
theorem xNeighbourDiscovery_of_other {src t : Nat} (ht : t ≠ ownAddress.toNat) : xNeighbourDiscovery src t s = s := by
  unfold xNeighbourDiscovery
  simp [ht]

theorem xIcmpv6Echo_of_answers (src ident seq : Nat) (data : Bytes) :
    xIcmpv6Echo src ident seq data s = { s with sent := .echo src ident seq data :: s.sent } :=
  if_pos hs

end

/-! ## ISO-TP frames -/

section
variable {s : State} {d : Bytes}

theorem isoFrameIn_of_single (hl : 1 ≤ byteAt d 0) (hh : byteAt d 0 ≤ 7) :
    isoFrameIn s d = isoWhole s (slice d 1 (byteAt d 0)) := by
  have kind : byteAt d 0 / 16 = 0 := by omega
  have length : byteAt d 0 % 16 = byteAt d 0 := by omega
  unfold isoFrameIn
  simp only [kind, length]
  exact if_pos (by omega)

theorem isoFrameIn_of_single_long (h0 : byteAt d 0 = 0) (hl : 8 < d.length) :
    isoFrameIn s d = isoWhole s (slice d 2 (byteAt d 1)) := by
  unfold isoFrameIn
  simp only [h0]
  exact if_pos hl

theorem isoFrameIn_of_first (hk : byteAt d 0 / 16 = 1) (hn : byteAt d 0 % 16 * 256 + byteAt d 1 ≠ 0) :
    isoFrameIn s d = isoSend (setIsoRx s (some
      { need := byteAt d 0 % 16 * 256 + byteAt d 1, got := d.drop 2, next := 1, last := s.mono }))
        0x7A1 [0x30#8, 0x00#8, 0x00#8] := by
  unfold isoFrameIn
  simp only [hk]
  exact if_neg hn

theorem isoFrameIn_of_escape (h0 : byteAt d 0 = 0x10) (h1 : byteAt d 1 = 0) :
    isoFrameIn s d = isoSend s 0x7A1 [0x32#8, 0x00#8, 0x00#8] := by
  unfold isoFrameIn
  simp only [h0, h1]
  rfl

section
variable {r : IsoRx} (hr : s.net.isoRx = some r)
include hr

/-- A consecutive frame goes by its number. -/
theorem isoFrameIn_of_consecutive (hk : byteAt d 0 / 16 = 2) : isoFrameIn s d =
    if byteAt d 0 % 16 ≠ r.next % 16 then setIsoRx s none
    else if r.need ≤ (r.got ++ d.drop 1).length then isoWhole s ((r.got ++ d.drop 1).take r.need)
    else setIsoRx s (some { r with got := r.got ++ d.drop 1, next := r.next + 1, last := s.mono }) := by
  unfold isoFrameIn
  simp only [hk, hr]

theorem isoFrameIn_of_last (h0 : byteAt d 0 = 0x20 + r.next % 16) (hw : r.need ≤ (r.got ++ d.drop 1).length) :
    isoFrameIn s d = isoWhole s ((r.got ++ d.drop 1).take r.need) := by
  rw [isoFrameIn_of_consecutive hr (by omega), if_neg (by omega), if_pos hw]

theorem isoFrameIn_of_next (h0 : byteAt d 0 = 0x20 + r.next % 16) (hw : (r.got ++ d.drop 1).length < r.need) :
    isoFrameIn s d = setIsoRx s (some { r with got := r.got ++ d.drop 1, next := r.next + 1, last := s.mono }) := by
  rw [isoFrameIn_of_consecutive hr (by omega), if_neg (by omega), if_neg (by omega)]

theorem isoFrameIn_of_disorder (hk : byteAt d 0 / 16 = 2) (hn : byteAt d 0 % 16 ≠ r.next % 16) :
    isoFrameIn s d = setIsoRx s none := by
  rw [isoFrameIn_of_consecutive hr hk, if_pos hn]

end

/-! ## ISO-TP flow control and timeouts -/

/-- The messages under way on CAN2. -/
def isoTxSet (s : State) (l : List IsoTx) : State := { s with net := { s.net with isoTx := l } }

theorem isoNext_of_none (h : s.net.isoTx = []) (id : Nat) : isoNext s id = s := by
  unfold isoNext
  simp only [h, List.find?_nil]

section
variable {t : IsoTx} (only : s.net.isoTx = [t])
include only

/-- The only message under way ends, and none is left to begin. -/
theorem isoEnd_of_only : isoEnd s t.id = isoTxSet s [] := by
  have erased : s.net.isoTx.eraseIdx (s.net.isoTx.findIdx fun x => x.id = t.id) = [] := by
    simp [only, List.findIdx_cons]
  unfold isoEnd
  rw [erased, isoNext_of_none rfl, isoNext_of_none rfl]
  rfl

variable (begun : t.begun = true)
include begun

theorem isoPut_of_only {u : IsoTx} (hu : u.id = t.id) : isoPut s u = isoTxSet s [u] := by
  unfold isoPut isoTxSet
  simp [only, hu, begun]

variable (waiting : t.waiting = true)
include waiting

theorem find_waiting_of_only :
    s.net.isoTx.find? (fun x => decide (x.id = t.id) && x.begun && x.waiting) = some t := by
  simp [only, begun, waiting]

theorem isoFlow_of_go (hk : byteAt d 0 % 16 = 0) : isoFlow s t.id d = isoTxSet s [{ t with
    waiting := false, left := if byteAt d 1 = 0 then none else some (byteAt d 1), gap := gapTicks (byteAt d 2)
    due := s.mono }] := by
  unfold isoFlow
  simp only [find_waiting_of_only only begun waiting, hk]
  exact isoPut_of_only only begun rfl

theorem isoFlow_of_wait (hk : byteAt d 0 % 16 = 1) :
    isoFlow s t.id d = isoTxSet s [{ t with since := s.mono }] := by
  unfold isoFlow
  simp only [find_waiting_of_only only begun waiting, hk]
  exact isoPut_of_only only begun rfl

theorem isoFlow_of_abort (hk : byteAt d 0 % 16 = 2) : isoFlow s t.id d = isoTxSet s [] := by
  unfold isoFlow
  simp only [find_waiting_of_only only begun waiting, hk]
  exact isoEnd_of_only only

theorem xIsotpTimeout_of_overdue (due : t.since + 250000000 ≤ s.mono) : xIsotpTimeout true s = isoTxSet s [] := by
  have late : s.past t.since (msT 1000) = true := decide_eq_true due
  unfold xIsotpTimeout
  simp only [only, begun, waiting, late, List.filter_cons_of_pos, List.filter_nil, Bool.and_self, if_true,
    List.foldl_cons, List.foldl_nil, isoEnd_of_only only]

end

theorem xIsotpTimeout_of_silence {r : IsoRx} (hr : s.net.isoRx = some r) (due : r.last + 250000000 ≤ s.mono) :
    xIsotpTimeout false s = setIsoRx s none := by
  have late : s.past r.last (msT 1000) = true := decide_eq_true due
  unfold xIsotpTimeout
  simp [hr, late]

variable (hs : served s .can2 = true)
include hs

theorem xIsotpFrameReceived_of_data (hk : byteAt d 0 / 16 ≠ 3) : xIsotpFrameReceived 0x7A0 d s = isoFrameIn s d := by
  unfold xIsotpFrameReceived
  simp [hs, hk]

/-- The host's flow control on an identifier of Table 3.3 is for the messages of the module's that it answers. -/
theorem xIsotpFrameReceived_of_flow {id tid : Nat} (hk : byteAt d 0 / 16 = 3)
    (hi : id = 0x7A0 ∧ tid = 0x7A1 ∨ id = 0x7A3 ∧ tid = 0x7A2) :
    xIsotpFrameReceived id d s = isoFlow s tid d := by
  unfold xIsotpFrameReceived
  rcases hi with ⟨rfl, rfl⟩ | ⟨rfl, rfl⟩ <;> simp [hs, hk]

end

/-! ## Sessions and the service log -/

section
variable {n : Nat} {s : State} {x : Session} (hx : session s n = some x)
include hx

theorem xSessionKeepaliveTimeout_of_silence (due : x.last + 250000 * x.keepMs ≤ s.mono) :
    xSessionKeepaliveTimeout n s = closeSession s n 2 := by
  have late : s.past x.last (msT x.keepMs) = true := decide_eq_true due
  unfold xSessionKeepaliveTimeout
  rw [hx]
  exact if_pos late

theorem xSessionKeepaliveTimeout_of_heard (early : s.mono < x.last + 250000 * x.keepMs) :
    xSessionKeepaliveTimeout n s = s := by
  have prompt : s.past x.last (msT x.keepMs) = false := decide_eq_false (Nat.not_le.mpr early)
  unfold xSessionKeepaliveTimeout
  rw [hx]
  exact if_neg (ne_true_of_eq_false prompt)

end

theorem insertLog_length (e : LogE) (l : List LogE) : (insertLog e l).length = l.length + 1 := by
  induction l with
  | nil => rfl
  | cons x r ih =>
    unfold insertLog
    split <;> simp [ih]

/-- Sorting the waiting entries by time loses none. -/
theorem foldl_insertLog_length (w l : List LogE) :
    (w.foldl (fun l e => insertLog e l) l).length = w.length + l.length := by
  induction w generalizing l with
  | nil => simp
  | cons e w ih =>
    rw [List.foldl_cons, ih, insertLog_length, List.length_cons]
    omega

theorem xServiceLogWrite_of_spent {s : State} (hw : mayWork s 5 = false) : xServiceLogWrite s = s := by
  unfold xServiceLogWrite
  simp [hw]

/-- The diagnostics holder writes every waiting entry and numbers them on; sessions and faults have no part in it. -/
theorem xServiceLogWrite_of_waiting {s : State} (hr : fwRuns s = true) (hw : mayWork s 5 = true)
    (hn : s.net.swait ≠ []) :
    let u := xServiceLogWrite s
    u.net.swait = [] ∧ u.net.slogLost = 0 ∧
      u.net.slogNext = (s.net.slogNext + s.net.swait.length) % 2 ^ 32 ∧ u.net.sessions = s.net.sessions ∧ u.fcr = s.fcr := by
  have writes : (fwRuns s && mayWork s 5 && !s.net.swait.isEmpty) = true := by simp [hr, hw, hn]
  unfold xServiceLogWrite
  rw [if_pos writes]
  refine ⟨rfl, rfl, ?_, rfl, rfl⟩
  simp only [List.length_map, List.length_zipIdx, foldl_insertLog_length, List.length_reverse, List.length_nil,
    Nat.add_zero]

end Sys2Proof.Machine

namespace Sys2Proof

open Machine

/-- Settles O25: each row by the lemma of its case; the frames of ISO-TP by their kind. -/
theorem transport : Obligations.Transport := by
  unfold Obligations.Transport
  refine ⟨?undefined, fun h code p s hl => congrArg Host.Outcome.next (xUndefinedOpcode_of_listed hl), ?discarded,
    fun k s hl hh hr hp => congrArg Host.Outcome.next (xBalinePortMismatchDrop_of_awake hl hh hr hp),
    fun src s hs => ⟨congrArg Host.Outcome.next (xNeighbourDiscovery_of_own hs src),
      fun t ht => congrArg Host.Outcome.next (xNeighbourDiscovery_of_other ht)⟩,
    fun src ident seq data s hs => congrArg Host.Outcome.next (xIcmpv6Echo_of_answers hs src ident seq data), ?isotp,
    fun n s x hx due => next_settle_congr (xSessionKeepaliveTimeout_of_silence hx due),
    fun n s x hx early => next_settle_congr (xSessionKeepaliveTimeout_of_heard hx early),
    fun s hr hw => congrArg Host.Outcome.next (xServiceLogWrite_of_spent hw), fun _ _ => rfl,
    fun s hr hw hn => ⟨_, rfl, xServiceLogWrite_of_waiting hr hw hn⟩⟩
  case undefined =>
    intro h code p s x hc ht hs hr hf hv hn hl hb new room
    have taken : takeUp (heard s h) code none h p (.undefinedOpcode h.resumed code p) =
        answer (heard s h) h code stBadOpcode 0 [] :=
      takeUp_of_undefined (.inr (by rwa [outstanding_heard]))
    refine congrArg Host.Outcome.next ((xUndefinedOpcode_of_unlisted hc).trans ?_)
    rw [command_of_bound ht hs hr hf hv hl hn hb, new]
    exact taken
  case discarded =>
    refine fun ep raw s hs hm => ⟨fun hg => ?_, fun hg => congrArg Host.Outcome.next (xBalinePacketDiscarded_of_good hg),
      packetGood_of_fields⟩
    rw [← discard_unbox]
    exact congrArg Host.Outcome.next (xBalinePacketDiscarded_of_bad hs hm hg)
  case isotp =>
    intro s hs
    have data {d : Bytes} {t : State} (hk : byteAt d 0 / 16 ≠ 3) (ht : isoFrameIn s d = t) :
        exec (.isotpFrameReceived 0x7A0 d) s = .next t :=
      congrArg Host.Outcome.next ((xIsotpFrameReceived_of_data hs hk).trans ht)
    refine ⟨fun d hl hh => data (by omega) (isoFrameIn_of_single hl hh),
      fun d h0 hl => data (by omega) (isoFrameIn_of_single_long h0 hl),
      fun d hk hn => data (by omega) (isoFrameIn_of_first hk hn),
      fun d h0 h1 => data (by omega) (isoFrameIn_of_escape h0 h1),
      fun d r hr h0 => ⟨fun hw => data (by omega) (isoFrameIn_of_last hr h0 hw),
        fun hw => data (by omega) (isoFrameIn_of_next hr h0 hw)⟩,
      fun d r hr hk hn => data (by omega) (isoFrameIn_of_disorder hr hk hn), ?flow,
      fun r hr due => congrArg Host.Outcome.next (xIsotpTimeout_of_silence hr due),
      fun t only begun waiting due => congrArg Host.Outcome.next (xIsotpTimeout_of_overdue only begun waiting due)⟩
    case flow =>
      intro id d t hi only begun waiting
      have flow {u : State} (hk : byteAt d 0 / 16 = 3) (hu : isoFlow s t.id d = u) :
          exec (.isotpFrameReceived id d) s = .next u :=
        congrArg Host.Outcome.next ((xIsotpFrameReceived_of_flow hs hk hi).trans hu)
      exact ⟨fun h0 => flow (by omega) (isoFlow_of_go only begun waiting (by omega)),
        fun h0 => flow (by omega) (isoFlow_of_wait only begun waiting (by omega)),
        fun h0 => flow (by omega) (isoFlow_of_abort only begun waiting (by omega))⟩

end Sys2Proof
end

section
/-! SUPPORT. Opening and closing sessions, the ownership token, and streams (03 R87 to R95, R98; 17 R568). -/

namespace Sys2Proof.Machine

/-! ## OPEN_SESSION -/

section
variable {s : State} {code : Nat} {op : Option OpSpec} {h : Hdr} {p : Bytes} {i : Instr}

theorem sessionless_of_kept {r : OpenReply} (hc : code = 0x0101)
    (hr : s.net.openReplies.find? (fun r => decide (r.ep = h.ep ∧ r.seq = h.seq) && !s.past r.at_ (secT 10)) = some r) :
    sessionless s code op h p i = sendPacket s h.ep r.reply := by
  unfold sessionless
  rw [hr]
  exact if_pos hc

theorem sessionless_of_new
    (hr : ∀ r ∈ s.net.openReplies, (decide (r.ep = h.ep ∧ r.seq = h.seq) && !s.past r.at_ (secT 10)) = false) :
    sessionless s code op h p i = takeUp s code op h p i := by
  have fresh := List.find?_eq_none.mpr fun r hm => ne_true_of_eq_false (hr r hm)
  unfold sessionless
  rw [fresh]

end

theorem unbox_openReplies (s : State) (ep : Endpoint) : (unbox s ep).net.openReplies = s.net.openReplies := by
  cases ep <;> rfl
theorem unbox_counter (s : State) (ep : Endpoint) : (unbox s ep).net.counter = s.net.counter := by cases ep <;> rfl

/-- No session is left to open: four are, or the one that CAN2 may have. -/
def SessionsFull (s : State) (ep : Endpoint) : Prop :=
  4 ≤ s.net.sessions.length ∨ (ep = .can2 ∧ ∃ x ∈ s.net.sessions, x.ep = .can2)

theorem sessionsFull_iff (s : State) (ep : Endpoint) : SessionsFull s ep ↔
    4 ≤ s.net.sessions.length ∨ (ep = .can2 ∧ s.net.sessions.any (fun x => decide (x.ep = .can2)) = true) := by
  simp [SessionsFull]

/-- The layout of OPEN_SESSION on its transport (R98). -/
def openFieldsGood (ep : Endpoint) (p : Bytes) : Prop :=
  (match ep with | .udp _ _ => 1232 ≤ rd p 0 2 ∧ rd p 0 2 ≤ 8192 | .can2 => 64 ≤ rd p 0 2 ∧ rd p 0 2 ≤ 4095) ∧
    500 ≤ rd p 2 2 ∧ rd p 2 2 ≤ 60000

section
variable {s : State} {h : Hdr} {p : Bytes} {i : Instr}

theorem opOpenSession_layout (hg : openFieldsGood h.ep p) : firstBad ((opOpenSession h).layout p) = none := by
  obtain ⟨size, keep⟩ := hg
  unfold opOpenSession
  cases he : h.ep <;> rw [he] at size <;> simp only [firstBad, ckRange, decide_eq_true size, decide_eq_true keep] <;> rfl

theorem opOpenSession_of_session (hn : h.session ≠ 0) : (opOpenSession h).body s p = failAns s stWrongState 0 :=
  if_pos hn

theorem gate_openSession (hf : h.flags = 0) (hl : p.length = 20) (hm : 36 ≤ packetMax s h)
    (hg : openFieldsGood h.ep p) : gate s (opOpenSession h) h p = none := by
  have served : servesNow s (opOpenSession h).code = true := by simp [servesNow, opOpenSession]
  rw [gate_of_layout served (fun hb => absurd hb Bool.false_ne_true) (fun ht => absurd ht Bool.false_ne_true) hl
    (by omega) (opOpenSession_layout hg)]
  exact if_neg (by show ¬ packetMax s h < 20 + 0; omega)

variable (h0 : h.session = 0)
include h0

theorem opOpenSession_of_full (hf : SessionsFull s h.ep) : (opOpenSession h).body s p = failAns s stBusy 0 := by
  unfold opOpenSession
  dsimp only
  rw [if_neg (not_not.mpr h0), if_pos ((sessionsFull_iff s h.ep).mp hf)]

theorem opOpenSession_of_room (hf : ¬ SessionsFull s h.ep) : (opOpenSession h).body s p =
    okWith (openNow s h.ep p) (le 2 s.net.counter ++ b1 16 ++ b1 0 ++ le 4 s.fcr.epoch) := by
  unfold opOpenSession
  dsimp only
  rw [if_neg (not_not.mpr h0), if_neg fun c => hf ((sessionsFull_iff s h.ep).mpr c)]

/-- An OPEN_SESSION that is no repeat and has its layout is carried out at once. -/
theorem takeUp_openSession (hf : h.flags = 0) (hl : p.length = 20) (hm : 36 ≤ packetMax s h)
    (hg : openFieldsGood h.ep p) (hw : waits s i = false) {a : Ans} (ha : (opOpenSession h).body (s.within h) p = a)
    (hd : a.data.length ≤ 8) : takeUp s 0x0101 (some (opOpenSession h)) h p i = replied h 0x0101 p a := by
  have prompt : mustWait s h (opOpenSession h).code = false := by simp [mustWait, h0]
  refine (takeUp_of_passed (.inl h0) (gate_openSession hf hl hm hg)).trans ?_
  rw [prompt, hw, if_neg (by decide)]
  unfold perform
  dsimp only
  rw [ha, if_neg (by omega)]
  rfl

end

/-- What an OPEN_SESSION's own opcode sees: its packet has been taken up (R87). -/
def openBegun (s : State) (h : Hdr) : State := (unbox s h.ep).within h

theorem sessionsFull_openBegun (s : State) (h : Hdr) : SessionsFull (openBegun s h) h.ep ↔ SessionsFull s h.ep := by
  unfold SessionsFull
  rw [show (openBegun s h).net.sessions = s.net.sessions from unbox_sessions s h.ep]

/-- An OPEN_SESSION with session 0 that comes in order, within the packet sizes of its transport. -/
structure OpensSession (h : Hdr) (p : Bytes) (s : State) : Prop where
  fresh : h.taken = false
  served : served s h.ep = true
  reached : reached s h 0x0101 p = true
  flags : h.flags = 0
  version : h.version = 1
  sessionless : h.session = 0
  length : p.length = 20
  fits : 36 ≤ packetMax s h
  fields : openFieldsGood h.ep p

/-- The kept reply answers this OPEN_SESSION: it came from the same endpoint with the same number, less than 10 s ago. -/
def openAgain (s : State) (h : Hdr) (r : OpenReply) : Bool :=
  decide (r.ep = h.ep ∧ r.seq = h.seq) && !s.past r.at_ (secT 10)

section
variable {h : Hdr} {p : Bytes} {s : State} (ok : OpensSession h p s)
include ok

theorem exec_openSession (t : State)
    (ht : sessionless (unbox s h.ep) 0x0101 (some (opOpenSession h)) h p (.openSession h.resumed p) = t) :
    exec (.openSession h p) s = .next (settle t) := by
  obtain ⟨fresh, served, reached, flags, version, h0, length, fits, -⟩ := ok
  refine next_settle_congr ((command_of_comes fresh served reached).trans
    ((received_of_sessionless (by omega) ?_ version h0 (.inr rfl)).trans ht))
  rw [packetMax_unbox]
  omega

theorem exec_openSession_of_again {r : OpenReply} (hr : s.net.openReplies.find? (openAgain s h) = some r) :
    exec (.openSession h p) s = .next (settle (sendPacket (unbox s h.ep) h.ep r.reply)) :=
  exec_openSession ok _ (sessionless_of_kept rfl
    ((congrArg (List.find? (openAgain s h)) (unbox_openReplies s h.ep)).trans hr))

theorem exec_openSession_of_new (hr : ∀ r ∈ s.net.openReplies, openAgain s h r = false) {a : Ans}
    (ha : (opOpenSession h).body (openBegun s h) p = a) (hd : a.data.length ≤ 8) :
    exec (.openSession h p) s = .next (settle (replied h 0x0101 p a)) := by
  have new : ∀ r ∈ (unbox s h.ep).net.openReplies, openAgain s h r = false := by rwa [unbox_openReplies]
  refine exec_openSession ok _ ((sessionless_of_new new).trans ?_)
  exact takeUp_openSession ok.sessionless ok.flags ok.length (by rw [packetMax_unbox]; exact ok.fits) ok.fields rfl ha hd

end

/-- The session that an opening adds, with the two streams every session has, and the counter that follows it. -/
def openedState (s : State) (ep : Endpoint) (p : Bytes) : State :=
  { s with net := { s.net with
    sessions := s.net.sessions ++ [{ num := s.net.counter, ep := ep, maxPkt := rd p 0 2, keepMs := rd p 2 2
                                     name := slice p 4 16, last := s.mono
                                     streams := [{ typ := 0xF001 }, { typ := 0xF002 }] }]
    counter := nextSession s.net.counter } }

/-- An opening is logged and reported. -/
def openedTold (s : State) (ep : Endpoint) (p : Bytes) : State :=
  emit (slogAdd (openedState s ep p) 2 (le 2 s.net.counter ++ zeros 2 ++ fitBytes 16 (slice p 4 16))) 0x0103 0xFFFF
    (le 2 s.net.counter ++ zeros 2)

/-- SETTINGS_DEFAULTED, written to both logs, follows on the events stream of session `n` (17 R568). -/
def settingsTold (s : State) (n o m : Nat) : State :=
  let body := evBody 0x0F02 0xFFFF 2 0 (le 2 o ++ le 2 m)
  let logged := flogAdd s s.now none body
  let kept := slogAdd logged.2 0 body
  let r : Rec := { time := kept.now, fault := true, pos := some logged.1, body := body }
  mapSession kept n fun y => { y with streams := y.streams.map fun q => if q.typ = 0xF001 then q.push r else q }

section
variable {s : State} {ep : Endpoint} {p : Bytes}

theorem openNow_of_settings (hd : s.upd.defaulted = none) : openNow s ep p = openedTold s ep p := by
  unfold openNow
  dsimp only
  split
  · rfl
  · next h => cases hd.symm.trans h

theorem openNow_of_defaulted {o m : Nat} (hd : s.upd.defaulted = some (o, m)) :
    openNow s ep p = settingsTold (openedTold s ep p) s.net.counter o m := by
  unfold openNow
  dsimp only
  split
  · next h => cases hd.symm.trans h
  · next h =>
    cases hd.symm.trans h
    rfl

end

/-! ## CLOSE_SESSION -/

theorem session_eq_none_iff {s : State} {n : Nat} : session s n = none ↔ ∀ x ∈ s.net.sessions, x.num ≠ n := by
  unfold session
  simp [List.find?_eq_none]

/-- An event opens no session. -/
theorem session_emit_of_none {s : State} {n : Nat} (hn : session s n = none) (code func : Nat) (data : Bytes) :
    session (emit s code func data) n = none := by
  rw [session_eq_none_iff] at hn ⊢
  intro x hx
  obtain ⟨y, hy, rfl⟩ := List.mem_map.mp hx
  exact hn y hy

/-- What is left when a session is taken out. -/
def withoutSession (s : State) (n : Nat) (x : Session) : State :=
  { s with net := { s.net with
    sessions := s.net.sessions.filter fun y => decide (y.num ≠ n)
    isoTx := if x.ep = .can2 then s.net.isoTx.filter fun t => decide (t.id ≠ 0x7A2) else s.net.isoTx } }

/-- A closing is logged and reported. -/
def closedTold (s : State) (n cause : Nat) (x : Session) : State :=
  emit (slogAdd (withoutSession s n x) 3 (le 2 n ++ b1 cause ++ b1 0 ++ fitBytes 16 x.name)) 0x0104 0xFFFF
    (le 2 n ++ b1 cause ++ b1 0)

theorem logClosing_eq (s : State) (n cause : Nat) (x : Session) : logClosing s { x with num := n } cause =
    slogAdd s 3 (le 2 n ++ b1 cause ++ b1 0 ++ fitBytes 16 x.name) := rfl

section
variable {s : State} {n : Nat}

theorem releaseToken_of_holder (ht : s.net.token = some n) : releaseToken s n =
    emit { s with net := { s.net with token := none } } 0x0105 0xFFFF (le 2 0 ++ zeros 2) :=
  if_pos ht

theorem releaseToken_of_other (ht : s.net.token ≠ some n) : releaseToken s n = s :=
  if_neg ht

theorem session_releaseToken_of_none (hn : session s n = none) (m : Nat) : session (releaseToken s m) n = none := by
  by_cases ht : s.net.token = some m
  · rw [releaseToken_of_holder ht]
    exact session_emit_of_none hn _ _ _
  · rwa [releaseToken_of_other ht]

variable {cause : Nat} {x : Session} (hx : session s n = some x)
include hx

theorem closeSession_eq : closeSession s n cause = releaseToken (closedTold s n cause x) n := by
  unfold closeSession
  split
  · next h => cases hx.symm.trans h
  · next y h =>
    cases hx.symm.trans h
    exact congrArg (fun t => releaseToken (emit t 0x0104 0xFFFF (le 2 n ++ b1 cause ++ b1 0)) n)
      (logClosing_eq (withoutSession s n x) n cause x)

omit hx in
theorem session_closedTold : session (closedTold s n cause x) n = none := by
  refine session_emit_of_none (session_eq_none_iff.mpr fun y hy => ?_) _ _ _
  simpa using (List.mem_filter.mp hy).2

theorem session_closeSession : session (closeSession s n cause) n = none := by
  rw [closeSession_eq hx]
  exact session_releaseToken_of_none session_closedTold n

end

/-! ## The token -/

section
variable {s : State} {p : Bytes}

theorem opTakeOwnership_of_free (ht : s.net.token = none) : opTakeOwnership.body s p = okAns
    (emit { s with net := { s.net with token := some (curSession s) } } 0x0105 0xFFFF
      (le 2 (curSession s) ++ zeros 2)) := by
  unfold opTakeOwnership
  dsimp only
  rw [ht]
  rfl

theorem opTakeOwnership_of_holder (ht : s.net.token = some (curSession s)) : opTakeOwnership.body s p = okAns s := by
  unfold opTakeOwnership
  dsimp only
  rw [ht]
  exact if_pos rfl

theorem opTakeOwnership_of_other {n : Nat} (ht : s.net.token = some n) (hn : n ≠ curSession s) :
    opTakeOwnership.body s p = failAns s stLocked 0 := by
  unfold opTakeOwnership
  dsimp only
  rw [ht]
  exact if_neg hn

end

section
variable {h : Hdr} {p : Bytes} {s : State}

theorem token_atBody (s : State) (h : Hdr) : (atBody s h).net.token = s.net.token := heard_token s h

theorem exec_takeOwnership_of_accepted (ok : Accepted opTakeOwnership h p 0 s) {a : Ans}
    (ha : opTakeOwnership.body (atBody s h) p = a) (hd : a.data = []) :
    exec (.takeOwnership h p) s = .next (replied h 0x0104 p a) :=
  congrArg Host.Outcome.next (hostOnly_of_accepted a ha (by rwa [hd]) rfl)

theorem exec_subscribe_of_accepted (ok : Accepted opSubscribe h p 0 s) {a : Ans}
    (ha : opSubscribe.body (atBody s h) p = a) (hd : a.data = []) :
    exec (.subscribe h p) s = .next (replied h 0x0106 p a) :=
  congrArg Host.Outcome.next (hostOnly_of_accepted a ha (by rwa [hd]) rfl)

theorem opReleaseOwnership_of_accepted (ok : Accepted opReleaseOwnership h p 0 s) :
    opReleaseOwnership.body (atBody s h) p = okAns
      (emit { atBody s h with net := { (atBody s h).net with token := none } } 0x0105 0xFFFF (le 2 0 ++ zeros 2)) := by
  have holder : (atBody s h).net.token = some (curSession (atBody s h)) := by
    rw [token_atBody, curSession_atBody ok]
    exact ok.token rfl
  exact congrArg okAns (releaseToken_of_holder holder)

end

/-! ## Streams -/

/-- The session an accepted command names is bound to the endpoint it comes from. -/
theorem ep_of_accepted {op : OpSpec} {h : Hdr} {p : Bytes} {n : Nat} {s : State} {x : Session}
    (ok : Accepted op h p n s) (hx : session s h.session = some x) : x.ep = h.ep := by
  obtain ⟨y, hy, -⟩ := ok.session
  unfold boundSession at hy
  rw [hx] at hy
  by_contra hn
  simp [hn] at hy

/-- A session with a stream of a type: one that it has already goes on. -/
def Session.subscribed (y : Session) (t : Nat) : Session :=
  { y with streams := if y.streams.any fun q => decide (q.typ = t) then y.streams else y.streams ++ [{ typ := t }] }

section
variable {h : Hdr} {p : Bytes} {s : State}

theorem opSubscribe_of_refused (ok : Accepted opSubscribe h p 0 s) (he : h.ep = .can2) (h1 : rd p 0 2 ≠ 0xF001)
    (h2 : rd p 0 2 ≠ 0xF002) : opSubscribe.body (atBody s h) p = badParam (atBody s h) 0 := by
  obtain ⟨x, hx, hep⟩ := session_atBody ok
  unfold opSubscribe
  simp [hx, hep, he, h1, h2, sEvents, sFaults]

theorem opSubscribe_of_admitted (ok : Accepted opSubscribe h p 0 s)
    (ht : h.ep ≠ .can2 ∨ rd p 0 2 = 0xF001 ∨ rd p 0 2 = 0xF002) : opSubscribe.body (atBody s h) p =
      okAns (mapSession (atBody s h) h.session (Session.subscribed · (rd p 0 2))) := by
  obtain ⟨x, hx, hep⟩ := session_atBody ok
  have admitted : (decide (x.ep = .can2) && decide (rd p 0 2 ≠ sEvents) && decide (rd p 0 2 ≠ sFaults)) = false := by
    rw [hep]
    rcases ht with ht | ht | ht <;> simp [ht, sEvents, sFaults]
  unfold opSubscribe
  simp only [hx, admitted]
  unfold curStreams
  rw [curSession_atBody ok]
  rfl

end

end Sys2Proof.Machine

namespace Sys2Proof

open Machine

/-- Settles O13: an opening by whether its reply is kept and a session is left, the token by its holder, a stream by its
session's transport. -/
theorem sessionsAndToken : Obligations.SessionsAndToken := by
  unfold Obligations.SessionsAndToken
  refine ⟨?opening, fun h p s ok => ?opened, fun s ep p => ⟨openNow_of_settings, fun o m => openNow_of_defaulted⟩,
    fun h p s ok => ?closing, fun h p s ok => ⟨fun ht => ?free, fun ht => ?holder, fun n ht hn => ?other⟩,
    fun h p s ok => ?release, fun s n cause x hx => ⟨fun ht => ?closed, fun ht => ?closedHolder, session_closeSession hx⟩,
    fun h p s x ok hx => ⟨fun he h1 h2 => ?refused, fun ht => ?admitted⟩, fun h p s ok => ?unsubscribe⟩
  case opening =>
    intro h p s fresh served reached flags version h0 length fits size shortest longest
    have ok : OpensSession h p s :=
      ⟨fresh, served, reached, flags, version, h0, length, fits, size, shortest, longest⟩
    refine ⟨fun r hr => exec_openSession_of_again ok hr, fun hr => ⟨fun hf => ?_, fun hf => ?_⟩⟩
    · exact exec_openSession_of_new ok hr
        (opOpenSession_of_full h0 ((sessionsFull_openBegun s h).mpr hf)) (Nat.zero_le 8)
    · have room := opOpenSession_of_room (p := p) h0 (fun c => hf ((sessionsFull_openBegun s h).mp c))
      rw [show (openBegun s h).net.counter = s.net.counter from unbox_counter s h.ep] at room
      exact exec_openSession_of_new ok hr room (by simp [okWith])
  case opened => exact next_settle_congr (command_of_accepted _ (opOpenSession_of_session ok.named) ok rfl)
  case closing =>
    refine next_settle_congr (command_of_accepted (okAns (closeSession (atBody s h) h.session 1)) ?_ ok rfl)
    rw [← curSession_atBody ok]
    rfl
  case free =>
    rw [← curSession_atBody ok]
    exact exec_takeOwnership_of_accepted ok (opTakeOwnership_of_free (token_atBody s h ▸ ht)) rfl
  case holder =>
    refine exec_takeOwnership_of_accepted ok (opTakeOwnership_of_holder ?_) rfl
    rwa [token_atBody, curSession_atBody ok]
  case other =>
    refine exec_takeOwnership_of_accepted ok (opTakeOwnership_of_other (token_atBody s h ▸ ht) ?_) rfl
    rwa [curSession_atBody ok]
  case release =>
    exact congrArg Host.Outcome.next (hostOnly_of_accepted _ (opReleaseOwnership_of_accepted ok) ok rfl)
  case closed => exact (closeSession_eq hx).trans (releaseToken_of_other ht)
  case closedHolder => exact (closeSession_eq hx).trans (releaseToken_of_holder ht)
  case refused =>
    exact exec_subscribe_of_accepted ok (opSubscribe_of_refused ok ((ep_of_accepted ok hx).symm.trans he) h1 h2) rfl
  case admitted =>
    exact exec_subscribe_of_accepted ok (opSubscribe_of_admitted ok (ep_of_accepted ok hx ▸ ht)) rfl
  case unsubscribe =>
    refine congrArg Host.Outcome.next (hostOnly_of_accepted (okAns _) ?_ ok rfl)
    rw [← curSession_atBody ok]
    rfl

end Sys2Proof
end

section
/-! SUPPORT. The law of a loop sample, block by block (04 R122, R123). -/

namespace Sys2Proof.Machine

section
variable (d : Bytes) (l : Loop) (y e ff ref : F32)

/-- What a sample's reference works towards: SAFE_REF during a safe action, else the scaled reference (R122). -/
def refTarget : F32 := if l.safeRamp then dSafeRef d else fFma (dRefGain d) ref (dRefOffset d)

/-- The most that the reference may move at a sample; 0.0 is without a limit (R122). -/
def refStep : F32 := if l.safeRamp then l.stepSf else if l.ramping then l.stepSt else l.stepSl

theorem lawRef_r_of_unlimited (h : fEq (refStep l) f0 = true) : (lawRef d l ref).r = refTarget d l ref :=
  if_pos h

theorem lawRef_r_of_limited (h : fEq (refStep l) f0 = false) : (lawRef d l ref).r =
    fClamp (refTarget d l ref) (fSub l.rPrev (refStep l)) (fAdd l.rPrev (refStep l)) :=
  if_neg (ne_true_of_eq_false h)

theorem lawRef_ramping : (lawRef d l ref).ramping = (l.ramping && !fEq (lawRef d l ref).r (refTarget d l ref)) := rfl

theorem lawOut_acc : (lawOut d l y e ff).1.acc = fClamp (fFma l.kiTs e l.acc) (dIMin d) (dIMax d) := rfl

theorem lawOut_dstate : (lawOut d l y e ff).1.dstate =
    fFma (dDAlpha d) (fSub (fMul (fSub y l.yPrev) (fOfNat (rateHz (dRate d)))) l.dstate) l.dstate := rfl

/-- The sum of all terms of a sample, clamped to the output's bounds, before its slew limit. -/
def lawClamped (m : Loop) : F32 := fClamp (lawTerms d m e ff) (dOutMin d) (dOutMax d)

theorem lawOut_u : (lawOut d l y e ff).1.u =
    if fLt f0 l.duMax then
      fClamp (lawClamped d e ff (lawOut d l y e ff).1) (fSub l.uPrev l.duMax) (fAdd l.uPrev l.duMax)
    else lawClamped d e ff (lawOut d l y e ff).1 := rfl

/-- What the sample leaves for the next one: its output to be issued, and the previous values. -/
theorem lawOut_kept : let m := (lawOut d l y e ff).1
    m.next = some m.u ∧ m.uPrev = m.u ∧ m.rPrev = l.r ∧ m.yPrev = y := ⟨rfl, rfl, rfl, rfl⟩

end

end Sys2Proof.Machine

namespace Sys2Proof

open Machine

/-- Settles O28: the reference by whether its step is limited, then each value as its own block of the law leaves it. -/
theorem loopLaw : Obligations.LoopLaw := by
  unfold Obligations.LoopLaw
  refine ⟨fun d l ref => ?reference, fun d l y e ff => ?output, fun d l y => ?first⟩
  case reference => exact ⟨lawRef_r_of_unlimited d l ref, lawRef_r_of_limited d l ref, lawRef_ramping d l ref⟩
  case output => exact ⟨lawOut_acc d l y e ff, lawOut_dstate d l y e ff, lawOut_u d l y e ff, lawOut_kept d l y e ff⟩
  case first => exact ⟨rfl, rfl, rfl, rfl, rfl, rfl⟩

end Sys2Proof
end

section
/-! SUPPORT. What the opcodes of loops, groups and tables answer (04 R142 to R145; 05 R155 to R157, R168). -/

namespace Sys2Proof.Machine

theorem firstBad_eq_none_iff (l : List FieldChk) : firstBad l = none ↔ ∀ c ∈ l, c.2 = true := by
  induction l with
  | nil => simp [firstBad]
  | cons c r ih =>
    obtain ⟨o, ok⟩ := c
    cases ok <;> simp [firstBad, ih]

/-! ## Reading -/

section
variable {s : State} {p : Bytes}

theorem opLoopRead_of_staged (hw : byteAt p 2 = 0) : opLoopRead.body s p = okWith s (s.stg (.loop (rd p 0 2))) :=
  if_pos hw

theorem opLoopRead_of_applied (hw : byteAt p 2 = 1) (hg : ∃ g, appGroup s (rd p 0 2) = some g) :
    opLoopRead.body s p = okWith s (s.loopCfg (rd p 0 2)) := by
  unfold opLoopRead
  dsimp only
  rw [if_neg (by omega), if_pos (Option.isSome_iff_exists.mpr hg)]

theorem opLoopRead_of_unapplied (hw : byteAt p 2 = 1) (hg : appGroup s (rd p 0 2) = none) :
    opLoopRead.body s p = failAns s stWrongState 0 := by
  unfold opLoopRead
  dsimp only
  rw [if_neg (by omega), if_neg (by simp [hg])]

/-- A group's settings, with the number of its loops and their evaluations (Table 5.6). -/
def groupBytes (d : Bytes) (l : List (Nat × Bytes)) : Bytes := d ++ le 2 l.length ++ zeros 2 ++ le 4 (evalsOf l)

theorem groupBytes_length (d : Bytes) (l : List (Nat × Bytes)) : (groupBytes d l).length = 8 + d.length := by
  simp only [groupBytes, List.length_append, le_length, zeros_length]
  omega

theorem opGroupRead_of_staged (hw : byteAt p 1 = 0) : opGroupRead.body s p =
    okWith s (groupBytes (s.stg (.group (byteAt p 0))) (stgLoops s (byteAt p 0))) :=
  if_pos hw

theorem opGroupRead_of_applied (hw : byteAt p 1 = 1) (ha : (s.fn (gFid (byteAt p 0))).everApplied = true) :
    opGroupRead.body s p = okWith s
      (groupBytes (s.grpCfg (byteAt p 0)) ((grpLoops s (byteAt p 0)).map fun n => (n, s.loopCfg n))) := by
  unfold opGroupRead groupBytes
  dsimp only
  rw [if_neg (by omega), if_pos ha]

theorem opGroupRead_of_unapplied (hw : byteAt p 1 = 1) (ha : (s.fn (gFid (byteAt p 0))).everApplied = false) :
    opGroupRead.body s p = failAns s stWrongState 0 := by
  unfold opGroupRead
  dsimp only
  rw [if_neg (by omega), if_neg (ne_true_of_eq_false ha)]

theorem loopEntry_length (s : State) (n : Nat) : (loopEntry s n).length = 28 := by simp [loopEntry]

/-- The reply of LOOP_STATUS (Table 4.7). -/
def loopStatusBytes (s : State) (p : Bytes) : Bytes :=
  leT s.now ++ (List.range (rd p 2 2)).flatMap fun i => loopEntry s (rd p 0 2 + i)

theorem loopStatusBytes_length (s : State) (p : Bytes) : (loopStatusBytes s p).length = 12 + 28 * rd p 2 2 := by
  simp [loopStatusBytes, loopEntry_length, mul_comm]

/-- The loops in use that sample at a rate (04 R145). -/
def loopsAtRate (s : State) (c : Nat) : Nat := ((appLoops s (grpCounts s) 64).filter fun e => dRate e.2 = c).length

/-- The reply of CLE_CAPACITY (04 R145). -/
def capacityBytes (s : State) : Bytes :=
  le 4 (evalsUsed s) ++ le 4 (6400000 - evalsUsed s) ++ ([0, 1, 2, 3, 4].flatMap fun c => le 2 (loopsAtRate s c)) ++
    zeros 2 ++ le 4 (marginNow s)

theorem capacityBytes_length (s : State) : (capacityBytes s).length = 24 := by simp [capacityBytes]

/-- The reply of TABLE_READ (05 R157). -/
def tableBytes (s : State) (p : Bytes) : Bytes :=
  let t := s.slot (rd p 0 2)
  let v := imageVals t.entries 256
  b1 t.kind ++ b1 (bit t.loaded 0 + bit (tfind s.cle.slotsStored (rd p 0 2)).isSome 1 + bit t.periodic 2) ++
    zeros 2 ++ leF t.x0 ++ leF t.span ++ leF t.hyst ++ le 4 (crc32c (v.flatMap leF)).toNat ++
    ((v.drop (rd p 2 2)).take (rd p 4 2)).flatMap leF

/-- A TABLE_READ that passes its layout reads within the table. -/
theorem tableRead_within (hl : firstBad (opTableRead.layout p) = none) : rd p 2 2 + rd p 4 2 ≤ 256 :=
  of_decide_eq_true ((firstBad_eq_none_iff _).mp hl (4, decide (rd p 2 2 + rd p 4 2 ≤ 256)) (by simp [opTableRead]))

theorem flatMap_leF_length (l : List F32) : (l.flatMap leF).length = 4 * l.length := by
  simp [List.length_flatMap, mul_comm]

theorem tableBytes_length (s : State) (hl : rd p 2 2 + rd p 4 2 ≤ 256) :
    (tableBytes s p).length = 20 + 4 * rd p 4 2 := by
  simp only [tableBytes, imageVals, List.length_append, b1_length, zeros_length, leF_length, le_length,
    flatMap_leF_length, List.length_take, List.length_drop, List.length_map, List.length_range]
  omega

end

/-! ## Values of the host -/

/-- The loop that an entry of LOOP_SET_REFERENCE or LOOP_SET_FEEDFORWARD names. -/
abbrev setName (p : Bytes) (i : Nat) : Nat := rd p (4 + 8 * i) 2

/-- An entry is refused: its loop has been named before it, or is of another type staged and applied (04 R143). -/
abbrev SetRefused (s : State) (isHost : Bytes → Bool) (p : Bytes) (i : Nat) : Prop :=
  (∃ j, j < i ∧ setName p j = setName p i) ∨
    (isHost (s.stg (.loop (setName p i))) = false ∧ ∀ d, s.appOpt (.loop (setName p i)) = some d → isHost d = false)

/-- `setBad`'s own test of an entry. -/
def setRefuses (s : State) (isHost : Bytes → Bool) (p : Bytes) (i : Nat) : Bool :=
  let e := (setEntries p).map (·.1)
  let n := e.getD i 0
  (e.take i).contains n || !(isHost (s.stg (.loop n)) ||
    match s.appOpt (.loop n) with | some d => isHost d | none => false)

section
variable {s : State} {isHost : Bytes → Bool} {p : Bytes}

theorem setEntries_names : (setEntries p).map (·.1) = (List.range (rd p 0 2)).map (setName p) := by
  simp [setEntries, Function.comp_def]

theorem setBad_eq :
    setBad s isHost p = ((List.range (rd p 0 2)).find? (setRefuses s isHost p)).map (4 + 8 * ·) := by
  have count : ((setEntries p).map (·.1)).length = rd p 0 2 := by simp [setEntries]
  rw [← count]
  rfl

theorem setRefuses_iff {i : Nat} (hi : i < rd p 0 2) : setRefuses s isHost p i = true ↔ SetRefused s isHost p i := by
  have name : ((List.range (rd p 0 2)).map (setName p)).getD i 0 = setName p i := by simp [hi]
  have before : (((List.range (rd p 0 2)).map (setName p)).take i).contains (setName p i) = true ↔
      ∃ j, j < i ∧ setName p j = setName p i := by
    rw [← List.map_take, List.take_range, min_eq_left hi.le]
    simp
  unfold setRefuses SetRefused
  rw [setEntries_names]
  dsimp only
  rw [name, Bool.or_eq_true, before]
  cases s.appOpt (.loop (setName p i)) <;> simp

theorem setBad_eq_none_iff : setBad s isHost p = none ↔ ∀ i, i < rd p 0 2 → ¬ SetRefused s isHost p i := by
  rw [setBad_eq, Option.map_eq_none_iff, List.find?_eq_none]
  refine forall_congr' fun i => ?_
  rw [List.mem_range]
  exact forall_congr' fun hi => not_congr (setRefuses_iff hi)

theorem refused_of_setBad {o : Nat} (h : setBad s isHost p = some o) :
    ∃ i, i < rd p 0 2 ∧ o = 4 + 8 * i ∧ SetRefused s isHost p i ∧ ∀ j, j < i → ¬ SetRefused s isHost p j := by
  rw [setBad_eq, Option.map_eq_some_iff] at h
  obtain ⟨i, found, rfl⟩ := h
  rw [List.find?_range_eq_some] at found
  obtain ⟨refuses, mem, first⟩ := found
  have hi : i < rd p 0 2 := List.mem_range.mp mem
  refine ⟨i, hi, rfl, (setRefuses_iff hi).mp refuses, fun j hj refused => ?_⟩
  have passes := first j hj
  rw [(setRefuses_iff (hj.trans hi)).mpr refused] at passes
  cases passes

/-- What both opcodes answer, `set` being the state with the new values. -/
def setAnswer (s : State) (isHost : Bytes → Bool) (p : Bytes) (set : State) : Ans :=
  match setBad s isHost p with
  | some o => badParam s o
  | none => okAns ((setEntries p).foldl (fun t x => holdWritten t x.1) set)

theorem setAnswer_of_bad {set : State} {o : Nat} (hb : setBad s isHost p = some o) :
    setAnswer s isHost p set = badParam s o := by
  unfold setAnswer
  rw [hb]

theorem setAnswer_of_good {set : State} (hb : setBad s isHost p = none) :
    setAnswer s isHost p set = okAns ((setEntries p).foldl (fun t x => holdWritten t x.1) set) := by
  unfold setAnswer
  rw [hb]

theorem opLoopSetReference_body : opLoopSetReference.body s p = setAnswer s (fun d => dRefType d = 0) p
    { s with cle := { s.cle with
      hostRef := (setEntries p).foldl (fun t x => tput t x.1 x.2) s.cle.hostRef } } := rfl

theorem opLoopSetFeedforward_body : opLoopSetFeedforward.body s p = setAnswer s (fun d => dFfType d = 1) p
    { s with cle := { s.cle with
      hostFf := (setEntries p).foldl (fun t x => tput t x.1 x.2) s.cle.hostFf } } := rfl

theorem holdWritten_of_held {n g : Nat} (hg : appGroup s n = some g) (hh : (s.grp g).hold ≠ none) :
    holdWritten s n = s.setGrp g { s.grp g with hold := none } := by
  unfold holdWritten
  rw [hg]
  exact if_pos (Option.isSome_iff_ne_none.mpr hh)

end

/-! ## Tables -/

theorem tableUsed_of_named {s : State} {i n : Nat} {d : Bytes}
    (hm : (Obj.loop n, d) ∈ s.staged ∨ (Obj.loop n, d) ∈ s.applied) (hi : dFric d = i ∨ dCog d = i)
    (hg : dGroup d ≤ 63) (hb : (s.st (gFid (dGroup d))).idle = false) : tableUsed s i = true :=
  List.any_eq_true.mpr ⟨(Obj.loop n, d), List.mem_append.mpr hm, by simp [hi, hg, hb]⟩

theorem headerDiff_eq_none_iff (t : Slot) (p : Bytes) : headerDiff t p = none ↔
    byteAt p 2 = t.kind ∧ (byteAt p 3).testBit 2 = t.periodic ∧ rdF p 4 = t.x0 ∧ rdF p 8 = t.span ∧
      rdF p 12 = t.hyst := by
  unfold headerDiff
  rw [firstBad_eq_none_iff]
  simp

/-- The slot that a first block begins, with its header and no entry yet (05 R155). -/
def tableBegun (p : Bytes) : Slot :=
  { kind := byteAt p 2, periodic := (byteAt p 3).testBit 2, x0 := rdF p 4, span := rdF p 8, hyst := rdF p 12
    begun := true }

/-- The slot with a block's entries: a first block's on a new slot, a later one's on the slot as it stands. -/
def tableBlocked (old : Slot) (p : Bytes) : Slot :=
  let base := if rd p 16 2 = 0 then tableBegun p else old
  { base with entries := putVals base.entries (rd p 16 2) (wordsAt p 20 (rd p 18 2)) }

/-- A table that has all its entries. -/
def tableLoaded (t : Slot) : Slot := { t with loaded := true, begun := false }

/-- A block is taken: it is a first one, or goes on with a table that has been begun, under the same header. -/
abbrev BlockFits (old : Slot) (p : Bytes) : Prop :=
  rd p 16 2 = 0 ∨ old.begun = true ∧ old.loaded = false ∧ headerDiff old p = none

/-- What TABLE_WRITE makes of a slot is stored too where the block asks for it (05 R156). -/
def tableKept (s : State) (p : Bytes) (t : Slot) : State :=
  if (byteAt p 3).testBit 1 then storeSlot (s.setSlot (rd p 0 2) t) (rd p 0 2) t else s.setSlot (rd p 0 2) t

theorem opTableWrite_of_used {s : State} {p : Bytes} (hu : tableUsed s (rd p 0 2) = true) :
    opTableWrite.body s p = failAns s stWrongState 0 :=
  if_pos hu

section
variable {s : State} {p : Bytes} (hu : tableUsed s (rd p 0 2) = false)
include hu

theorem opTableWrite_of_empty (hk : byteAt p 2 = 0) : opTableWrite.body s p = okAns (tableKept s p {}) := by
  unfold opTableWrite
  dsimp only
  rw [if_neg (ne_true_of_eq_false hu), if_pos hk]
  rfl

variable (hk : byteAt p 2 ≠ 0)
include hk

theorem opTableWrite_of_unbegun (hf : rd p 16 2 ≠ 0)
    (ho : (s.slot (rd p 0 2)).begun = false ∨ (s.slot (rd p 0 2)).loaded = true) :
    opTableWrite.body s p = failAns s stWrongState 0 := by
  unfold opTableWrite
  dsimp only
  rw [if_neg (ne_true_of_eq_false hu), if_neg hk, if_pos ⟨hf, ho⟩]

theorem opTableWrite_of_otherHeader {o : Nat} (hf : rd p 16 2 ≠ 0) (hb : (s.slot (rd p 0 2)).begun = true)
    (hl : (s.slot (rd p 0 2)).loaded = false) (hd : headerDiff (s.slot (rd p 0 2)) p = some o) :
    opTableWrite.body s p = badParam s o := by
  unfold opTableWrite
  dsimp only
  rw [if_neg (ne_true_of_eq_false hu), if_neg hk, if_neg (by simp [hb, hl]), if_neg hf, hd]

variable (hf : BlockFits (s.slot (rd p 0 2)) p)
include hf

/-- A block that fits leaves the slot with its entries; a last one is then judged by what is still unwritten. -/
theorem opTableWrite_of_fits : opTableWrite.body s p =
    if (byteAt p 3).testBit 0 then
      match firstUnwritten (tableBlocked (s.slot (rd p 0 2)) p).entries 256 with
      | some j => failAns (s.setSlot (rd p 0 2) (tableBlocked (s.slot (rd p 0 2)) p)) 0x80 j
      | none => okAns (tableKept s p (tableLoaded (tableBlocked (s.slot (rd p 0 2)) p)))
    else okAns (s.setSlot (rd p 0 2) (tableBlocked (s.slot (rd p 0 2)) p)) := by
  have open_ : ¬ (rd p 16 2 ≠ 0 ∧ ((s.slot (rd p 0 2)).begun = false ∨ (s.slot (rd p 0 2)).loaded = true)) := by
    rcases hf with first | ⟨begun, unloaded, -⟩
    · simp [first]
    · simp [begun, unloaded]
  have header : (if rd p 16 2 = 0 then none else headerDiff (s.slot (rd p 0 2)) p) = none := by
    rcases hf with first | ⟨-, -, same⟩
    · exact if_pos first
    · rw [same, ite_self]
  unfold opTableWrite
  dsimp only
  rw [if_neg (ne_true_of_eq_false hu), if_neg hk, if_neg open_, header]
  rfl

theorem opTableWrite_of_block (hl : (byteAt p 3).testBit 0 = false) : opTableWrite.body s p =
    okAns (s.setSlot (rd p 0 2) (tableBlocked (s.slot (rd p 0 2)) p)) := by
  rw [opTableWrite_of_fits hu hk hf, if_neg (ne_true_of_eq_false hl)]

theorem opTableWrite_of_incomplete {j : Nat} (hl : (byteAt p 3).testBit 0 = true)
    (hj : firstUnwritten (tableBlocked (s.slot (rd p 0 2)) p).entries 256 = some j) :
    opTableWrite.body s p = failAns (s.setSlot (rd p 0 2) (tableBlocked (s.slot (rd p 0 2)) p)) 0x80 j := by
  rw [opTableWrite_of_fits hu hk hf, if_pos hl, hj]

theorem opTableWrite_of_complete (hl : (byteAt p 3).testBit 0 = true)
    (hj : firstUnwritten (tableBlocked (s.slot (rd p 0 2)) p).entries 256 = none) :
    opTableWrite.body s p = okAns (tableKept s p (tableLoaded (tableBlocked (s.slot (rd p 0 2)) p))) := by
  rw [opTableWrite_of_fits hu hk hf, if_pos hl, hj]

end

end Sys2Proof.Machine

namespace Sys2Proof

open Machine

section
variable {op : OpSpec} {h : Hdr} {p : Bytes} {s : State} {i j : Instr}

/-- A command from which nothing follows in another block, by what its body answers. -/
theorem exec_hostOnly_of_accepted (run : exec i s = .next (hostOnly op h p j s)) (prompt : waits (heard s h) j = false)
    {a : Ans} (ok : Accepted op h p a.data.length s) (body : op.body (atBody s h) p = a) :
    exec i s = .next (replied h op.code p a) :=
  run.trans (congrArg _ (hostOnly_of_accepted a body ok prompt))

/-- One that answers data of a known length. -/
theorem exec_read_of_accepted (run : exec i s = .next (hostOnly op h p j s)) (prompt : waits (heard s h) j = false)
    {n : Nat} (ok : Accepted op h p n s) {data : Bytes} (body : op.body (atBody s h) p = okWith (atBody s h) data)
    (size : data.length = n) : exec i s = .next (replied h op.code p (okWith (atBody s h) data)) :=
  run.trans (congrArg _ (hostOnly_read_of_accepted ok prompt body size))

end

/-- Settles O27: each of the reads answers what its body reads; a setting by whether an entry is refused; a block of a
table by its kind, its place and whether it is the last. -/
theorem loopCommands : Obligations.LoopCommands := by
  unfold Obligations.LoopCommands
  refine ⟨fun h p s => ?loopRead, fun h p s => ?groupRead, fun h p s ok => ?status, fun h p s ok => ?capacity,
    fun h p s ok => ?tableRead, fun h p s => ⟨fun ok => ?reference, fun ok => ?feedforward⟩,
    fun s isHost p => ⟨setBad_eq_none_iff, fun o => refused_of_setBad⟩, fun s n g => holdWritten_of_held,
    fun s i n d => tableUsed_of_named, headerDiff_eq_none_iff, fun h p s ok => ?tableWrite⟩
  case loopRead =>
    exact ⟨fun hw ok => exec_hostOnly_of_accepted rfl rfl ok (opLoopRead_of_staged hw),
      fun hw hg ok => exec_hostOnly_of_accepted rfl rfl ok (opLoopRead_of_applied (s := atBody s h) hw hg),
      fun hw hg ok => exec_hostOnly_of_accepted rfl rfl ok (opLoopRead_of_unapplied (s := atBody s h) hw hg)⟩
  case groupRead =>
    exact ⟨fun hw ok => exec_read_of_accepted rfl rfl ok (opGroupRead_of_staged hw) (groupBytes_length _ _),
      fun hw ha ok => exec_read_of_accepted rfl rfl ok (opGroupRead_of_applied (s := atBody s h) hw ha)
        (groupBytes_length _ _),
      fun hw ha ok => exec_hostOnly_of_accepted rfl rfl ok (opGroupRead_of_unapplied (s := atBody s h) hw ha)⟩
  case status => exact exec_read_of_accepted rfl rfl ok rfl (loopStatusBytes_length (atBody s h) p)
  case capacity => exact exec_read_of_accepted rfl rfl ok rfl (capacityBytes_length (atBody s h))
  case tableRead =>
    exact exec_read_of_accepted rfl rfl ok rfl (tableBytes_length (atBody s h) (tableRead_within ok.layout))
  case reference =>
    have body := opLoopSetReference_body (s := atBody s h) (p := p)
    exact ⟨fun o hb => exec_hostOnly_of_accepted rfl rfl ok (body.trans (setAnswer_of_bad hb)),
      fun hb => exec_hostOnly_of_accepted rfl rfl ok (body.trans (setAnswer_of_good hb))⟩
  case feedforward =>
    have body := opLoopSetFeedforward_body (s := atBody s h) (p := p)
    exact ⟨fun o hb => exec_hostOnly_of_accepted rfl rfl ok (body.trans (setAnswer_of_bad hb)),
      fun hb => exec_hostOnly_of_accepted rfl rfl ok (body.trans (setAnswer_of_good hb))⟩
  case tableWrite =>
    have answered {a : Ans} (size : a.data = []) (body : opTableWrite.body (atBody s h) p = a) :
        exec (.tableWrite h p) s = .next (replied h 0x0400 p a) :=
      exec_hostOnly_of_accepted rfl rfl (by rw [size]; exact ok) body
    have unkept (t : Slot) (hn : ¬ (byteAt p 3).testBit 1 = true) :
        tableKept (atBody s h) p t = (atBody s h).setSlot (rd p 0 2) t := if_neg hn
    have kept (t : Slot) (hy : (byteAt p 3).testBit 1 = true) :
        tableKept (atBody s h) p t = storeSlot ((atBody s h).setSlot (rd p 0 2) t) (rd p 0 2) t := if_pos hy
    refine ⟨fun hu => answered rfl (opTableWrite_of_used hu), fun hu hk hn => ?_, fun hu hk hy => ?_,
      fun hu hk hf ho => answered rfl (opTableWrite_of_unbegun hu hk hf ho),
      fun hu hk hf hb hl o hd => answered rfl (opTableWrite_of_otherHeader hu hk hf hb hl hd),
      fun hu hk hf => ⟨fun hl => answered rfl (opTableWrite_of_block hu hk hf hl),
        fun j hl hj => answered rfl (opTableWrite_of_incomplete hu hk hf hl hj),
        fun hl hj => ⟨fun hn => ?_, fun hy => ?_⟩⟩⟩
    · exact answered rfl (unkept {} hn ▸ opTableWrite_of_empty hu hk)
    · exact answered rfl (kept {} hy ▸ opTableWrite_of_empty hu hk)
    · exact answered rfl (unkept _ hn ▸ opTableWrite_of_complete hu hk hf hl hj)
    · exact answered rfl (kept _ hy ▸ opTableWrite_of_complete hu hk hf hl hj)

end Sys2Proof
end

section
/-! SUPPORT. Valid, invalid and missed samples of a loop (04 R108, R131 to R133). -/

namespace Sys2Proof.Machine

/-! ## LOOP_SAMPLE -/

section
variable (s : State) (n : Nat) (d : Bytes)

theorem loopIssue_mono : (loopIssue s n d).mono = s.mono :=
  mono_of_off (loopIssue_off s n d _ (Nat.and_self _)) rfl

/-- The sample's instant is recorded once the output of the sample before it is issued (04 R108, R110). -/
def sampleTaken : State :=
  let i := loopIssue s n d
  i.setLoop n { i.loop n with
    last := some s.mono, catchUp := none, missed := false
    consecMiss := if (i.loop n).missed then (i.loop n).consecMiss else 0 }

/-- The evaluation waits for a lane, and what a miss would go back to is kept (04 R112, R133). -/
def sampleBegun : State :=
  let t := sampleTaken s n d
  evalArrives { t with cle := { t.cle with prev := tput t.cle.prev n ((loopIssue s n d).loop n) } } n
    (periodNs (dRate d))

end

theorem loopIssue_of_none {s : State} {n : Nat} {d : Bytes} (h : (s.loop n).next = none) : loopIssue s n d = s := by
  unfold loopIssue
  dsimp only
  rw [h]

theorem loopIssue_of_sinkless {s : State} {n : Nat} {d : Bytes} {u : F32} (h : (s.loop n).next = some u)
    (hd : dSink d = 0) : loopIssue s n d = s.setLoop n { s.loop n with out := u, issued := true } := by
  unfold loopIssue
  dsimp only
  rw [h, hd]
  rfl

theorem xLoopSample_of_ungrouped {n : Nat} {s : State} (hg : appGroup s n = none) : xLoopSample n s = s := by
  unfold xLoopSample
  rw [hg]

section
variable {n g : Nat} {s : State} (hg : appGroup s n = some g)
include hg

theorem xLoopSample_of_idle (h : grpActive s g = false ∨ sampleDue s n g (s.loopCfg n) = false) :
    xLoopSample n s = s := by
  unfold xLoopSample
  rw [hg]
  exact if_neg (by rcases h with h | h <;> simp [h])

variable (ha : grpActive s g = true) (hd : sampleDue s n g (s.loopCfg n) = true)
include ha hd

/-- At its instant a loop that has stopped only issues; another runs its law or counts an invalid sample. -/
theorem xLoopSample_of_due : xLoopSample n s =
    let t := sampleBegun s n (s.loopCfg n)
    let m := measure t n (s.loopCfg n)
    if ((loopIssue s n (s.loopCfg n)).loop n).stopped then
      let taken := sampleTaken s n (s.loopCfg n)
      { taken with cle := { taken.cle with prev := tdel taken.cle.prev n } }
    else grpProgress (match m.1, sinkLost t (s.loopCfg n) with
      | some x, false => validSample t n g (s.loopCfg n) x
      | _, _ => invalidSample t n g (s.loopCfg n) m.2.1 m.2.2 (sinkLost t (s.loopCfg n))) g := by
  unfold xLoopSample sampleBegun sampleTaken
  rw [hg]
  dsimp only
  rw [ha, hd, loopIssue_mono]
  rfl

theorem xLoopSample_of_stopped (hs : ((loopIssue s n (s.loopCfg n)).loop n).stopped = true) : xLoopSample n s =
    let taken := sampleTaken s n (s.loopCfg n)
    { taken with cle := { taken.cle with prev := tdel taken.cle.prev n } } :=
  (xLoopSample_of_due hg ha hd).trans (if_pos hs)

variable (hs : ((loopIssue s n (s.loopCfg n)).loop n).stopped = false)
include hs

theorem xLoopSample_of_valid {x : F32} (hm : (measure (sampleBegun s n (s.loopCfg n)) n (s.loopCfg n)).1 = some x)
    (hl : sinkLost (sampleBegun s n (s.loopCfg n)) (s.loopCfg n) = false) :
    xLoopSample n s = grpProgress (validSample (sampleBegun s n (s.loopCfg n)) n g (s.loopCfg n) x) g := by
  rw [xLoopSample_of_due hg ha hd]
  dsimp only
  rw [if_neg (ne_true_of_eq_false hs), hm, hl]

theorem xLoopSample_of_invalid (h : (measure (sampleBegun s n (s.loopCfg n)) n (s.loopCfg n)).1 = none ∨
      sinkLost (sampleBegun s n (s.loopCfg n)) (s.loopCfg n) = true) :
    xLoopSample n s =
      let t := sampleBegun s n (s.loopCfg n)
      let m := measure t n (s.loopCfg n)
      grpProgress (invalidSample t n g (s.loopCfg n) m.2.1 m.2.2 (sinkLost t (s.loopCfg n))) g := by
  rw [xLoopSample_of_due hg ha hd]
  dsimp only
  rw [if_neg (ne_true_of_eq_false hs)]
  rcases h with unmeasured | lost
  · rw [unmeasured]
  · rw [lost]
    cases (measure (sampleBegun s n (s.loopCfg n)) n (s.loopCfg n)).1 <;> rfl

end

/-! ## Samples that are not valid -/

/-- What a loop keeps as it is while its samples are not valid (04 R131). -/
def SameValues (l m : Loop) : Prop :=
  m.acc = l.acc ∧ m.u = l.u ∧ m.r = l.r ∧ m.dstate = l.dstate ∧ m.ramping = l.ramping

/-- A safe action acts on the samples to come: it changes no value and no counter. -/
theorem safeAction_keeps (d : Bytes) (l : Loop) : SameValues l (safeAction d l) ∧ (safeAction d l).inv = l.inv := by
  unfold safeAction SameValues
  split
  · exact ⟨⟨rfl, rfl, rfl, rfl, rfl⟩, rfl⟩
  · split <;> exact ⟨⟨rfl, rfl, rfl, rfl, rfl⟩, rfl⟩

/-- Events and fault sources stand outside of the control-law engine. -/
theorem pulse_emitFault_cle (s : State) (code func src detail : Nat) (data : Bytes) :
    (pulse (emitFault s code func data) src detail).cle = s.cle :=
  (cle_of_off (pulse_off _ src detail _ (Nat.and_self _)) rfl).trans
    (cle_of_off (emitFault_off s code func data _ (Nat.and_self _)) rfl)

theorem loopLost_loop (s : State) (n g : Nat) (d : Bytes) (byInput : Bool) (m : Nat) :
    (loopLost s n g d byInput).loop m = (s.setLoop n { safeAction d (s.loop n) with latched := true }).loop m :=
  congrArg (fun c : Cle => (tget {} c.loops m : Loop)) (pulse_emitFault_cle _ _ _ _ _ _)

section
variable (s : State) (n g : Nat) (d : Bytes) (inv stale lost : Bool)

/-- The loop with one more sample that is not valid counted (04 R131). -/
def invalidCounted : Loop :=
  let l := s.loop n
  { l with
    inv := satN 4 (l.inv + 1), consecInv := l.consecInv + 1, afterInv := l.started
    flags := loopFlags s g d inv stale lost + (l.flags / 8 % 8) * 8
    st := if l.latched || l.safeRamp then 5 else if l.started then 4 else 1 }

variable {s n g d inv stale lost}

theorem invalidSample_of_limit (hc : (s.loop n).consecInv + 1 = dInvLimit d) (hl : (s.loop n).latched = false) :
    invalidSample s n g d inv stale lost =
      loopLost (s.setLoop n (invalidCounted s n g d inv stale lost)) n g d (inv || stale) :=
  if_pos (by simp [hc, hl])

theorem invalidSample_of_other (h : (s.loop n).consecInv + 1 = dInvLimit d → (s.loop n).latched = true) :
    invalidSample s n g d inv stale lost = s.setLoop n (invalidCounted s n g d inv stale lost) :=
  if_neg (by simpa using h)

/-- The loop after a sample that is not valid has been counted, and has its safe action where it is lost. -/
theorem invalidSample_loop : (invalidSample s n g d inv stale lost).loop n = invalidCounted s n g d inv stale lost ∨
    (invalidSample s n g d inv stale lost).loop n =
      { safeAction d (invalidCounted s n g d inv stale lost) with latched := true } := by
  by_cases lose : (s.loop n).consecInv + 1 = dInvLimit d ∧ (s.loop n).latched = false
  · right
    rw [invalidSample_of_limit lose.1 lose.2, loopLost_loop, setLoop_loop, setLoop_loop]
  · left
    rw [invalidSample_of_other (by simpa using lose), setLoop_loop]

theorem invalidSample_keeps : SameValues (s.loop n) ((invalidSample s n g d inv stale lost).loop n) ∧
    ((invalidSample s n g d inv stale lost).loop n).inv = satN 4 ((s.loop n).inv + 1) := by
  rcases invalidSample_loop (s := s) (n := n) (g := g) (d := d) (inv := inv) (stale := stale) (lost := lost) with h | h
  · rw [h]
    exact ⟨⟨rfl, rfl, rfl, rfl, rfl⟩, rfl⟩
  · rw [h]
    exact safeAction_keeps d (invalidCounted s n g d inv stale lost)

theorem invalidSample_loop_of_ne {m : Nat} (hm : m ≠ n) : (invalidSample s n g d inv stale lost).loop m = s.loop m := by
  by_cases lose : (s.loop n).consecInv + 1 = dInvLimit d ∧ (s.loop n).latched = false
  · rw [invalidSample_of_limit lose.1 lose.2, loopLost_loop, setLoop_loop_of_ne _ _ hm.symm,
      setLoop_loop_of_ne _ _ hm.symm]
  · rw [invalidSample_of_other (by simpa using lose), setLoop_loop_of_ne _ _ hm.symm]

end

/-! ## LOOP_SAMPLE_MISSED -/

/-- The loop at the deadline of its evaluation: `l`, the loop before the sample, with what has come since (04 R133). -/
def missedLoop (d : Bytes) (cur l : Loop) : Loop :=
  { l with
    last := cur.last, catchUp := cur.catchUp, missed := true, miss := satN 4 (cur.miss + 1)
    consecMiss := cur.consecMiss + 1, inv := cur.inv, latched := cur.latched, stopped := cur.stopped
    safeRamp := cur.safeRamp, st := if cur.latched || cur.stopped || cur.safeRamp then cur.st else l.st
    next := if cur.stopped && decide (dSafe d = 2) then cur.next else l.next }

theorem missedLoop_next_of_unstopped {d : Bytes} {cur l : Loop} (h : cur.stopped = false) :
    (missedLoop d cur l).next = l.next :=
  if_neg (by simp [h])

/-- The engine with a miss of a loop counted. -/
def missedState (s : State) (n : Nat) (l : Loop) : State :=
  let t := s.setLoop n (missedLoop (s.loopCfg n) (s.loop n) l)
  { t with cle := { t.cle with missed := satN 4 (t.cle.missed + 1), margin := 0 } }

theorem missedState_loop (s : State) (n : Nat) (l : Loop) :
    (missedState s n l).loop n = missedLoop (s.loopCfg n) (s.loop n) l :=
  setLoop_loop s n _

theorem missedState_loop_of_ne {s : State} {n : Nat} {l : Loop} {m : Nat} (hm : m ≠ n) :
    (missedState s n l).loop m = s.loop m :=
  setLoop_loop_of_ne s _ hm.symm

/-- The miss is told by an event and by FSRC18. -/
def missedTold (s : State) (n g : Nat) (l : Loop) : State :=
  pulse (emitFault (missedState s n l) 0x0304 (gFid g) (le 2 n ++ zeros 2 ++ le 4 (satN 4 ((s.loop n).miss + 1)))) 18 n

section
variable {n g : Nat} {l : Loop} {s : State} (hg : appGroup s n = some g)
include hg

theorem xLoopSampleMissed_of_other (h : tfind s.cle.prev n = none ∨ grpActive s g = false ∨
      sampleDue s n g (s.loopCfg n) = false ∨ (s.loop n).missed = true ∨ (s.loop n).last = none) :
    xLoopSampleMissed n s = s := by
  unfold xLoopSampleMissed
  rw [hg]
  cases before : tfind s.cle.prev n with
  | none => rfl
  | some l => exact if_neg (by rcases h with h | h | h | h | h <;> simp_all)

variable (hp : tfind s.cle.prev n = some l) (ha : grpActive s g = true)
  (hd : sampleDue s n g (s.loopCfg n) = true) (hm : (s.loop n).missed = false) (hl : (s.loop n).last ≠ none)
include hp ha hd hm hl

/-- A second miss in a row makes the actuation domain reset. -/
theorem xLoopSampleMissed_of_due : xLoopSampleMissed n s =
    if 2 ≤ (s.loop n).consecMiss + 1 then
      { missedTold s n g l with fcr :=
        { (missedTold s n g l).fcr with react := (missedTold s n g l).fcr.react ++ [.actReset 1] } }
    else missedTold s n g l := by
  unfold xLoopSampleMissed
  rw [hg, hp]
  exact if_pos (by simp [ha, hd, hm, Option.isSome_iff_ne_none, hl])

theorem xLoopSampleMissed_of_first (hc : (s.loop n).consecMiss = 0) : xLoopSampleMissed n s = missedTold s n g l :=
  (xLoopSampleMissed_of_due hg hp ha hd hm hl).trans (if_neg (by omega))

theorem xLoopSampleMissed_of_repeated (hc : 1 ≤ (s.loop n).consecMiss) : xLoopSampleMissed n s =
    { missedTold s n g l with fcr :=
      { (missedTold s n g l).fcr with react := (missedTold s n g l).fcr.react ++ [.actReset 1] } } :=
  (xLoopSampleMissed_of_due hg hp ha hd hm hl).trans (if_pos (by omega))

end

end Sys2Proof.Machine

namespace Sys2Proof

open Machine

/-- Settles O29: a sample by whether it is due, the loop stopped and the value there; one that is not valid by whether
it is the one that loses the loop; a miss by whether it is the first in a row. -/
theorem loopSamples : Obligations.LoopSamples := by
  unfold Obligations.LoopSamples
  refine ⟨fun n g s hg => ⟨fun h => next_settle_congr (xLoopSample_of_idle hg h), fun ha hd => ?due⟩,
    fun n s hg => next_settle_congr (xLoopSample_of_ungrouped hg), fun s n g d inv stale lost => ?invalid,
    fun s n g d byInput => rfl, fun n g l s hg hp ha hd hm hl => ?missed,
    fun n g s hg h => next_settle_congr (xLoopSampleMissed_of_other hg h)⟩
  case due =>
    exact ⟨fun hs => next_settle_congr (xLoopSample_of_stopped hg ha hd hs),
      fun x hs hm hl => next_settle_congr (xLoopSample_of_valid hg ha hd hs hm hl),
      fun hs h => next_settle_congr (xLoopSample_of_invalid hg ha hd hs h),
      fun u => loopIssue_of_sinkless, loopIssue_of_none⟩
  case invalid =>
    obtain ⟨⟨acc, u, r, dstate, ramping⟩, counted⟩ := invalidSample_keeps (s := s) (n := n) (g := g) (d := d)
      (inv := inv) (stale := stale) (lost := lost)
    refine ⟨counted, acc, u, r, dstate, ramping, fun m => invalidSample_loop_of_ne,
      fun hc hl => ⟨_, invalidSample_of_limit hc hl⟩, fun hc => ?_⟩
    rw [invalidSample_of_other fun limit => absurd limit hc, setLoop_loop]
    exact ⟨rfl, rfl⟩
  case missed =>
    refine ⟨missedState s n l, fun hc => next_settle_congr (xLoopSampleMissed_of_first hg hp ha hd hm hl hc),
      fun hc => next_settle_congr (xLoopSampleMissed_of_repeated hg hp ha hd hm hl hc), ?_⟩
    rw [missedState_loop]
    exact ⟨rfl, rfl, rfl, rfl, rfl, rfl, rfl, missedLoop_next_of_unstopped, rfl, rfl, rfl, rfl, rfl, rfl,
      fun m => missedState_loop_of_ne⟩

end Sys2Proof
end

section
/-! SUPPORT. Groups of loops from their check to OFF, and their holds (04 R128, R135, R138; 01 R38). -/

namespace Sys2Proof.Machine

/-! ## The commit -/

/-- What every loop of a group that has just committed shows: it waits, with its counters at zero (04 R128, R144). -/
structure CommittedLoop (l : Loop) : Prop where
  waiting : l.st = 1
  inv : l.inv = 0
  miss : l.miss = 0
  next : l.next = none
  latched : l.latched = false

/-- A loop as it waits for its first valid sample: what its last evaluation showed stays to be read. -/
def waitingLoop (l : Loop) : Loop :=
  { st := 1, y := l.y, r := l.r, u := l.u, acc := l.acc, out := l.out, posx := l.posx }

theorem loopCommit_loop (s : State) (n : Nat) :
    (loopCommit s n).loop n = lawCommit (s.loopCfg n) (waitingLoop (s.loop n)) := by
  unfold loopCommit
  dsimp only
  split <;> exact setLoop_loop s n _

theorem committedLoop_lawCommit (d : Bytes) (l : Loop) : CommittedLoop (lawCommit d (waitingLoop l)) :=
  ⟨rfl, rfl, rfl, rfl, rfl⟩

theorem loopCommit_loop_of_ne (s : State) {n m : Nat} (h : n ≠ m) : (loopCommit s n).loop m = s.loop m := by
  unfold loopCommit
  dsimp only
  split <;> exact setLoop_loop_of_ne s _ h

theorem loopCommit_grp (s : State) (n g : Nat) : (loopCommit s n).grp g = s.grp g := by
  unfold loopCommit
  dsimp only
  split <;> rfl

theorem foldl_loopCommit_grp (l : List Nat) (s : State) (g : Nat) : (l.foldl loopCommit s).grp g = s.grp g := by
  induction l generalizing s with
  | nil => rfl
  | cons x r ih => rw [List.foldl_cons, ih, loopCommit_grp]

/-- A loop that has committed stays so while the others of its group commit. -/
theorem foldl_loopCommit_loop {l : List Nat} {s : State} {n : Nat} (h : n ∈ l ∨ CommittedLoop (s.loop n)) :
    CommittedLoop ((l.foldl loopCommit s).loop n) := by
  induction l generalizing s with
  | nil => exact h.resolve_left (List.not_mem_nil)
  | cons x r ih =>
    rw [List.foldl_cons]
    refine ih ?_
    by_cases hx : x = n
    · subst hx
      rw [loopCommit_loop]
      exact .inr (committedLoop_lawCommit _ _)
    · rw [loopCommit_loop_of_ne s hx]
      exact h.imp_left fun mem => (List.mem_cons.mp mem).resolve_left (Ne.symm hx)

/-- Reaching RUNNING changes nothing of the control-law engine. -/
theorem grpProgress_cle (s : State) (g : Nat) : (grpProgress s g).cle = s.cle :=
  cle_of_off (grpProgress_off s g _ (Nat.and_self _)) rfl

/-- A group after its commit instant. -/
def groupCommitted (s : State) (g : Nat) : State :=
  grpProgress ((grpLoops s g).foldl loopCommit (s.setGrp g { s.grp g with committed := true })) g

theorem groupCommitted_grp (s : State) (g : Nat) : ((groupCommitted s g).grp g).committed = true := by
  unfold groupCommitted State.grp
  rw [grpProgress_cle]
  refine (congrArg Grp.committed (foldl_loopCommit_grp _ _ g)).trans ?_
  rw [setGrp_grp]

theorem groupCommitted_loop {s : State} {g n : Nat} (h : n ∈ grpLoops s g) :
    CommittedLoop ((groupCommitted s g).loop n) := by
  unfold groupCommitted State.loop
  rw [grpProgress_cle]
  exact foldl_loopCommit_loop (.inl h)

theorem past_since_check_iff (s : State) (t : Nat) : s.past t (usT 20) = true ↔ t + 5000 ≤ s.mono :=
  decide_eq_true_iff

theorem xGroupStartCommit_of_due {g : Nat} {s : State} (hs : s.st (gFid g) = .starting)
    (hc : (s.grp g).committed = false) (ht : (s.fn (gFid g)).since + 5000 ≤ s.mono) (ha : grpAt s g 1000000 = true) :
    xGroupStartCommit g s = groupCommitted s g :=
  if_pos (by simp [hs, hc, ha, (past_since_check_iff s _).mpr ht])

theorem xGroupStartCommit_of_early {g : Nat} {s : State}
    (h : s.mono < (s.fn (gFid g)).since + 5000 ∨ grpAt s g 1000000 = false) : xGroupStartCommit g s = s := by
  refine if_neg fun due => ?_
  simp only [Bool.and_eq_true, past_since_check_iff] at due
  obtain ⟨⟨-, ht⟩, ha⟩ := due
  rcases h with h | h
  · omega
  · rw [ha] at h
    cases h

theorem xGroupStartCommit_of_other {g : Nat} {s : State}
    (h : s.st (gFid g) ≠ .starting ∨ (s.grp g).committed = true) : xGroupStartCommit g s = s :=
  if_neg (by rcases h with h | h <;> simp [h])

/-! ## The end of a stop -/

/-- A stop may complete: at a shared instant after its own, with nothing of the group still on its way (04 R135,
R137). -/
abbrev StopReady (s : State) (g : Nat) : Prop :=
  (s.fn (gFid g)).since < s.mono ∧ grpAt s g 1000000 = true ∧
    ((s.grp g).committed = false ∨ (∀ n, n ∈ grpLoops s g → arrived s n = true) ∨
      (s.fn (gFid g)).since + 15000000000 ≤ s.mono)

/-- What a stop that completes leaves of the group's loops; one that ends in FAULTED leaves them their safe action. -/
def groupEnded (s : State) (g : Nat) : State :=
  if (s.fn (gFid g)).toFault then s
  else (if (s.grp g).committed then (grpLoops s g).foldl loopOff s else s).setGrp g { committed := false, hold := none }

theorem xGroupStopComplete_eq (g : Nat) (s : State) : xGroupStopComplete g s =
    if (decide (s.st (gFid g) = .stopping) && decide ((s.fn (gFid g)).since < s.mono) && grpAt s g 1000000 &&
        (!(s.grp g).committed || (grpLoops s g).all (arrived s) || s.past (s.fn (gFid g)).since (secT 60))) = true then
      finishStop (grpCheck · g) (grpBegin · g) (gFid g) (groupEnded s g)
    else s := rfl

theorem stopReady_iff {g : Nat} {s : State} (hs : s.st (gFid g) = .stopping) :
    (decide (s.st (gFid g) = .stopping) && decide ((s.fn (gFid g)).since < s.mono) && grpAt s g 1000000 &&
      (!(s.grp g).committed || (grpLoops s g).all (arrived s) || s.past (s.fn (gFid g)).since (secT 60))) = true ↔
    StopReady s g := by
  have minute : s.past (s.fn (gFid g)).since (secT 60) = true ↔ (s.fn (gFid g)).since + 15000000000 ≤ s.mono :=
    decide_eq_true_iff
  simp only [hs, Bool.and_eq_true, Bool.or_eq_true, decide_eq_true_eq, Bool.not_eq_true', List.all_eq_true, minute,
    true_and, and_assoc, or_assoc]

theorem xGroupStopComplete_of_ready {g : Nat} {s : State} (hs : s.st (gFid g) = .stopping) (hr : StopReady s g) :
    xGroupStopComplete g s = finishStop (grpCheck · g) (grpBegin · g) (gFid g) (groupEnded s g) :=
  (xGroupStopComplete_eq g s).trans (if_pos ((stopReady_iff hs).mpr hr))

theorem xGroupStopComplete_of_unready {g : Nat} {s : State} (hs : s.st (gFid g) = .stopping) (hr : ¬ StopReady s g) :
    xGroupStopComplete g s = s :=
  (xGroupStopComplete_eq g s).trans (if_neg (mt (stopReady_iff hs).mp hr))

theorem xGroupStopComplete_of_other {g : Nat} {s : State} (hs : s.st (gFid g) ≠ .stopping) :
    xGroupStopComplete g s = s :=
  (xGroupStopComplete_eq g s).trans (if_neg (by simp [hs]))

/-- What ends with the loops leaves the functions alone. -/
theorem groupEnded_fns (s : State) (g : Nat) : (groupEnded s g).fns = s.fns := by
  unfold groupEnded
  split
  · rfl
  · split
    · exact fns_of_off (foldl_off 33595488 loopOff (grpLoops s g) s fun t n => loopOff_off t n _ (Nat.and_self _)) rfl
    · rfl

theorem groupEnded_fn (s : State) (g f : Nat) : (groupEnded s g).fn f = s.fn f :=
  congrArg (fun fns => (tget {} fns f : Fn)) (groupEnded_fns s g)

theorem groupEnded_grp {s : State} {g : Nat} (hf : (s.fn (gFid g)).toFault = false) :
    (groupEnded s g).grp g = { committed := false, hold := none } := by
  unfold groupEnded
  rw [if_neg (ne_true_of_eq_false hf), setGrp_grp]

theorem changeState_cle (s : State) (f : Nat) (n : FnState) : (changeState s f n).cle = s.cle :=
  cle_of_off (changeState_off s f n _ (Nat.and_self _)) rfl

section
variable {check : State → State × Verdict} {commit : State → State} {f : Nat} {s : State}
  (hf : (s.fn f).toFault = false) (hp : (s.fn f).pend = none)
include hf hp

/-- A stop that no fault and no deferred start has met. -/
theorem finishStop_of_plain : finishStop check commit f s =
    changeState ((restage s f).setFn f { (restage s f).fn f with pend := none }) f .off := by
  unfold finishStop
  rw [if_neg (ne_true_of_eq_false hf)]
  dsimp only
  rw [hp]

theorem finishStop_st_of_plain (hs : s.st f ≠ .off) : (finishStop check commit f s).st f = .off := by
  rw [finishStop_of_plain hf hp]
  refine changeState_st ?_
  unfold State.st
  rw [setFn_fn]
  exact hs

theorem finishStop_cle_of_plain : (finishStop check commit f s).cle = s.cle := by
  rw [finishStop_of_plain hf hp, changeState_cle]
  rfl

end

/-! ## Holds -/

theorem xGroupHoldExpiry_of_none {g : Nat} {s : State} (hh : (s.grp g).hold = none) : xGroupHoldExpiry g s = s := by
  unfold xGroupHoldExpiry
  rw [hh]

section
variable {g t : Nat} {s : State} (hh : (s.grp g).hold = some t)
include hh

theorem xGroupHoldExpiry_of_expired (ht : t + 250000 * gHold (s.grpCfg g) ≤ s.mono) :
    xGroupHoldExpiry g s = grpFault s g := by
  unfold xGroupHoldExpiry
  rw [hh]
  exact if_pos (decide_eq_true ht)

theorem xGroupHoldExpiry_of_running (ht : s.mono < t + 250000 * gHold (s.grpCfg g)) : xGroupHoldExpiry g s = s := by
  unfold xGroupHoldExpiry
  rw [hh]
  exact if_neg (ne_true_of_eq_false (decide_eq_false (by unfold msT; omega)))

end

end Sys2Proof.Machine

namespace Sys2Proof

open Machine

/-- Settles O30: the commit by its instant and what its fold over the loops leaves of each, the stop by whether it is
ready, the hold by its deadline. -/
theorem groupLifecycle : Obligations.GroupLifecycle := by
  unfold Obligations.GroupLifecycle
  refine ⟨fun g s hs hc => ⟨fun ht ha => ?commit, fun h => next_settle_congr (xGroupStartCommit_of_early h)⟩,
    fun g s h => next_settle_congr (xGroupStartCommit_of_other h), fun g s hs => ?stop,
    fun g s hs => next_settle_congr (xGroupStopComplete_of_other hs),
    fun g t s hh => ⟨fun ht => next_settle_congr (xGroupHoldExpiry_of_expired hh ht),
      fun ht => next_settle_congr (xGroupHoldExpiry_of_running hh ht)⟩,
    fun g s hh => next_settle_congr (xGroupHoldExpiry_of_none hh)⟩
  case commit =>
    refine ⟨_, next_settle_congr (xGroupStartCommit_of_due hs hc ht ha), groupCommitted_grp s g, fun n hn => ?_⟩
    obtain ⟨waiting, inv, miss, next, latched⟩ := groupCommitted_loop hn
    exact ⟨waiting, inv, miss, next, latched⟩
  case stop =>
    refine ⟨fun hr => next_settle_congr (xGroupStopComplete_of_ready hs hr), fun hr hp hf => ?_,
      fun hr => next_settle_congr (xGroupStopComplete_of_unready hs hr)⟩
    rw [← groupEnded_fn] at hp
    have hf' : ((groupEnded s g).fn (gFid g)).toFault = false := by rwa [groupEnded_fn]
    have stopping : (groupEnded s g).st (gFid g) = .stopping := (congrArg Fn.st (groupEnded_fn s g _)).trans hs
    refine ⟨_, next_settle_congr (xGroupStopComplete_of_ready hs hr),
      finishStop_st_of_plain hf' hp (by simp [stopping]), ?_⟩
    unfold State.grp
    rw [finishStop_cle_of_plain hf' hp]
    exact congrArg Grp.committed (groupEnded_grp hf)

end Sys2Proof
end

section
/-! SUPPORT. A sensing input's configuration from its opcode to its boundary, its settling, and the reports of its
validity (06 R198 to R201, R208). -/

namespace Sys2Proof.Machine

/-! ## The opcodes -/

/-- An input whose new settings wait for its next boundary, and are stored where the flag at `o` asks (06 R198). -/
def waitingInput (s : State) (sel k : Nat) (p : Bytes) (o : Nat) : State :=
  let c : InCfg := { inCfg s sel k with pend := some (if sel = 4 then s.cse.winNo else s.mono, p) }
  setInCfg s sel k (if (byteAt p o).testBit 0 then { c with stored := some p } else c)

section
variable {s : State} {sel k o : Nat} {p : Bytes}

theorem inputCfg_of_used (hu : inUse s sel k = true) : inputCfg s sel k p o = failAns s stWrongState 0 :=
  if_pos hu

theorem inputCfg_of_free (hu : inUse s sel k = false) : inputCfg s sel k p o = okAns (waitingInput s sel k p o) :=
  if_neg (ne_true_of_eq_false hu)

/-- A channel would be the fifth in flow mode (06 R200). -/
abbrev FifthFlow (s : State) (p : Bytes) : Prop :=
  impMode p = 2 ∧ 4 ≤ ((List.range 32).filter fun j => j ≠ byteAt p 0 ∧ impMode (inNext s 4 j) = 2).length

theorem opImpConfig_of_fifth (h : FifthFlow s p) : opImpConfig.body s p = failAns s stOverCapacity 0 :=
  if_pos h

theorem opImpConfig_of_room (h : ¬ FifthFlow s p) : opImpConfig.body s p = inputCfg s 4 (byteAt p 0) p 1 :=
  if_neg h

/-- A quadrature pair would begin at an odd input, take in a partner that is on, or have its partner switched on
(06 R200). -/
abbrev PairMisfit (s : State) (p : Bytes) : Prop :=
  (finMode p = 3 ∧ (byteAt p 0 % 2 = 1 ∨ finMode (inNext s 2 (byteAt p 0 + 1)) ≠ 0)) ∨
    (finMode p ≠ 0 ∧ byteAt p 0 % 2 = 1 ∧ finMode (inNext s 2 (byteAt p 0 - 1)) = 3)

theorem opFinConfig_of_misfit (h : PairMisfit s p) : opFinConfig.body s p = badParam s 2 :=
  if_pos h

theorem opFinConfig_of_fit (h : ¬ PairMisfit s p) : opFinConfig.body s p = inputCfg s 2 (byteAt p 0) p 1 :=
  if_neg h

end

/-! ## The boundary -/

/-- A latest update lies a period back, or there was none. -/
theorem updateDue_iff (s : State) (t : Option Nat) (period : Nat) :
    updateDue s t period = true ↔ ∀ u, t = some u → u + period ≤ s.mono := by
  cases t <;> simp [updateDue, State.past]

/-- Settle time of a configuration in ticks (06 Table 6.6). -/
def settleTicks (sel : Nat) (p : Bytes) : Nat :=
  match sel with
  | 1 => ainSettle (ainCutoff p) | 2 => 0 | 3 => msT 20 | 4 => msT 1 | _ => msT 50

theorem inCfg_commitInput (s : State) (sel k : Nat) (p : Bytes) :
    inCfg (commitInput s sel k p) sel k = (inCfg s sel k).commit s p (settleTicks sel p) := by
  match sel with
  | 1 => exact congrArg Ain.c (setAin_ain s k _)
  | 2 => exact congrArg Fin8.c (setFin_fin s k _)
  | 3 => exact congrArg PosIn.c (setPos_pos s k _)
  | 4 => exact congrArg Imp.c (setImp_imp s k _)
  | 0 | _ + 5 => rfl

/-- A configuration that waits since a window or an instant `n` comes into force now: an impact channel's at a counting
window's boundary, another input's at its update (06 R198). -/
abbrev CommitsNow (s : State) (sel k n : Nat) : Prop :=
  producing s = true ∧ (sel = 4 → n < s.cse.winNo ∧ s.cse.winTick = s.mono) ∧
    (sel ≠ 4 → n < s.mono ∧ atUpdate s sel k = true)

section
variable {s : State} {sel k n : Nat} {p : Bytes}

theorem windowBoundary_iff : windowBoundary s n = true ↔ n < s.cse.winNo ∧ s.cse.winTick = s.mono := by
  simp [windowBoundary]

theorem commitsNow_iff :
    (producing s && (if sel = 4 then windowBoundary s n else decide (n < s.mono) && atUpdate s sel k)) = true ↔
      CommitsNow s sel k n := by
  by_cases h : sel = 4 <;> simp [CommitsNow, h, windowBoundary_iff]

theorem inputCommit_of_none (hp : (inCfg s sel k).pend = none) : inputCommit sel k s = s := by
  unfold inputCommit
  rw [hp]

theorem inputCommit_of_due (hp : (inCfg s sel k).pend = some (n, p)) (hd : CommitsNow s sel k n) :
    inputCommit sel k s = commitInput s sel k p := by
  unfold inputCommit
  rw [hp]
  exact if_pos (commitsNow_iff.mpr hd)

theorem inputCommit_of_undue (hp : (inCfg s sel k).pend = some (n, p)) (hd : ¬ CommitsNow s sel k n) :
    inputCommit sel k s = s := by
  unfold inputCommit
  rw [hp]
  exact if_neg (mt commitsNow_iff.mp hd)

end

/-- The yield intervals end where the flow channel is out of flow mode (07 R243). -/
def yieldLeft (sel k : Nat) (s : State) : State :=
  if sel = 4 ∧ k = yFlow (yieldCfg s) ∧ flowMode s k = false then
    { s with yield := { s.yield with cur := none, done := [] } }
  else s

theorem xInputConfigCommit_eq (sel k : Nat) (s : State) :
    xInputConfigCommit sel k s = yieldLeft sel k (inputCommit sel k s) :=
  if_congr (by simp [and_assoc]) rfl rfl

theorem xInputConfigCommit_congr {sel k : Nat} {s t : State} (h : inputCommit sel k s = t) :
    xInputConfigCommit sel k s = yieldLeft sel k t := by
  rw [xInputConfigCommit_eq, h]

/-! ## Settling and validity -/

section
variable {s : State} {sel k : Nat}

theorem xInputSettlingEnd_of_settled (h : (inCfg s sel k).settle ≤ s.mono) :
    xInputSettlingEnd sel k s = setInCfg s sel k { inCfg s sel k with settle := 0 } :=
  if_pos h

theorem xInputSettlingEnd_of_settling (h : s.mono < (inCfg s sel k).settle) : xInputSettlingEnd sel k s = s :=
  if_neg (Nat.not_le.mpr h)

/-- The state after an input's validity word has been sent, where its valid bits have changed since the latest report
and 100 ms have gone by (06 R208). -/
def validityTold (s : State) (sel k : Nat) : State :=
  let w := inWord s sel k
  let last := tget (0, 0) s.cse.vsent (sel * 256 + k)
  let sent : State := { s with cse := { s.cse with vsent := tput s.cse.vsent (sel * 256 + k) (w % 8, s.mono) } }
  let data := b1 sel ++ b1 k ++ le 2 w
  if last.1 ≠ w % 8 ∧ (last.2 = 0 ∨ last.2 + 25000000 ≤ s.mono) then
    if inFault w then emitFault sent 0x0501 0xFFFF data else emit sent 0x0501 0xFFFF data
  else s

theorem xInputValidityReport_of_input (h : k < inCount sel) : xInputValidityReport sel k s =
    if inFault (inWord s sel k) = ((validityTold s sel k).src (inSrc sel k)).inErr then validityTold s sel k
    else setErr (validityTold s sel k) (inSrc sel k) (inFault (inWord s sel k)) (inWord s sel k) :=
  if_neg (Nat.not_le.mpr h)

theorem xInputValidityReport_of_beyond (h : inCount sel ≤ k) : xInputValidityReport sel k s = s :=
  if_pos h

end

end Sys2Proof.Machine

namespace Sys2Proof

open Machine

/-- What an input's opcode answers once its own checks are passed: by whether the input is in use (06 R198, R199). -/
theorem exec_inputCfg_of_accepted {op : OpSpec} {h : Hdr} {p : Bytes} {s : State} {i j : Instr} {sel k o : Nat}
    (run : exec i s = .next (hostOnly op h p j s)) (prompt : waits (heard s h) j = false) (ok : Accepted op h p 0 s)
    (body : op.body (atBody s h) p = inputCfg (atBody s h) sel k p o) :
    (inUse (atBody s h) sel k = true →
      exec i s = .next (replied h op.code p (failAns (atBody s h) stWrongState 0))) ∧
    (inUse (atBody s h) sel k = false →
      exec i s = .next (replied h op.code p (okAns (waitingInput (atBody s h) sel k p o)))) :=
  ⟨fun used => exec_hostOnly_of_accepted run prompt ok (body.trans (inputCfg_of_used used)),
    fun free => exec_hostOnly_of_accepted run prompt ok (body.trans (inputCfg_of_free free))⟩

/-- Settles O31: an opcode by its own check and by whether the input is in use, a commit by whether something waits and
its boundary has come, a report by whether there is such an input. -/
theorem inputConfiguration : Obligations.InputConfiguration := by
  unfold Obligations.InputConfiguration
  refine ⟨fun h p s => ⟨fun ok => ?imp, fun ok => ?ain, fun ok => ?fin, fun ok => ?pos, fun ok => ?imu⟩,
    fun sel k s _ _ => ?boundary,
    fun s k => ⟨updateDue_iff s (s.ain k).tick 12500, ?frequency, updateDue_iff s (s.pos k).tick 12500⟩,
    fun sel k p s _ _ => ?inForce,
    fun sel k s => ⟨fun h => next_settle_congr (xInputSettlingEnd_of_settled h),
      fun h => next_settle_congr (xInputSettlingEnd_of_settling h)⟩,
    fun sel k s => ⟨fun h => next_settle_congr (xInputValidityReport_of_input h),
      fun h => next_settle_congr (xInputValidityReport_of_beyond h)⟩⟩
  case imp =>
    have passed (five : ¬ FifthFlow (atBody s h) p) :=
      exec_inputCfg_of_accepted (i := .impConfig h p) rfl rfl ok (opImpConfig_of_room five)
    exact ⟨fun five => exec_hostOnly_of_accepted rfl rfl ok (opImpConfig_of_fifth five),
      fun five => (passed five).1, fun five => (passed five).2⟩
  case ain => exact exec_inputCfg_of_accepted rfl rfl ok rfl
  case fin =>
    have passed (odd : ¬ PairMisfit (atBody s h) p) :=
      exec_inputCfg_of_accepted (i := .finConfig h p) rfl rfl ok (opFinConfig_of_fit odd)
    exact ⟨fun odd => exec_hostOnly_of_accepted rfl rfl ok (opFinConfig_of_misfit odd),
      fun odd => (passed odd).1, fun odd => (passed odd).2⟩
  case pos => exact exec_inputCfg_of_accepted rfl rfl ok rfl
  case imu => exact exec_inputCfg_of_accepted rfl rfl ok rfl
  case boundary =>
    exact ⟨fun hp => next_settle_congr (xInputConfigCommit_congr (inputCommit_of_none hp)),
      fun n p hp => ⟨fun due => next_settle_congr (xInputConfigCommit_congr (inputCommit_of_due hp due)),
        fun due => next_settle_congr (xInputConfigCommit_congr (inputCommit_of_undue hp due))⟩⟩
  case frequency =>
    exact (Bool.or_eq_true _ _).to_iff.trans (or_congr decide_eq_true_iff decide_eq_true_iff)
  case inForce =>
    rw [inCfg_commitInput]
    refine ⟨rfl, rfl, ?_, ?_, ?_, ?_, ?_⟩ <;> (rintro rfl; rfl)

end Sys2Proof
end

section
/-! SUPPORT. Classifier sets and flow curves from their opcodes to the counting-window boundary, and what SENSE_READ
answers (06 R202 to R206). -/

namespace Sys2Proof.Machine

/-! ## CLASSIFIER_LOAD -/

/-- A block is taken: it is a first one, or its set's image has been begun (06 R202). -/
abbrev SetBlockFits (x : CSet) (p : Bytes) : Prop := rd p 2 2 = 0 ∨ x.begun = true

/-- The values of a set's new image with a block's. -/
def setBlocked (x : CSet) (p : Bytes) : Tbl Nat F32 :=
  putVals (if rd p 2 2 = 0 then [] else x.image) (rd p 2 2) (wordsAt p 12 (rd p 4 2))

/-- CRC-32C over a set's values. -/
abbrev setCrc (v : List F32) : Nat := (crc32c (v.flatMap leF)).toNat

/-- The values of the image that a last block completes. -/
def setValues (x : CSet) (p : Bytes) : List F32 := imageVals (setBlocked x p) 676

/-- A set whose image is complete waits for the next counting window, and is stored where the block asks for it
(06 R203). -/
def setWaiting (s : State) (p : Bytes) : State :=
  let x := s.cset (byteAt p 0)
  let v := setValues x p
  s.setCset (byteAt p 0) { x with
    begun := false, image := [], pend := some (s.cse.winNo, v, setCrc v, s.cur)
    stored := if (byteAt p 1).testBit 1 then some v else x.stored }

/-- The set whose image has been begun and goes on. -/
def setBegun (s : State) (p : Bytes) : State :=
  s.setCset (byteAt p 0) { s.cset (byteAt p 0) with begun := true, image := setBlocked (s.cset (byteAt p 0)) p }

/-- A last block is judged by the first value that is still unwritten, then by the image's CRC (06 R202). -/
def setJudged (s : State) (p : Bytes) : Option Nat → Ans
  | some i => failAns (setBegun s p) 0x82 i
  | none =>
    if setCrc (setValues (s.cset (byteAt p 0)) p) ≠ rd p 8 4 then
      failAns (s.setCset (byteAt p 0) { s.cset (byteAt p 0) with begun := false, image := [] }) stIntegrity 0
    else okAns (setWaiting s p)

section
variable {s : State} {p : Bytes}

theorem opClassifierLoad_of_unbegun (hf : ¬ SetBlockFits (s.cset (byteAt p 0)) p) :
    opClassifierLoad.body s p = failAns s stWrongState 0 :=
  if_pos (by simpa [SetBlockFits] using hf)

variable (hf : SetBlockFits (s.cset (byteAt p 0)) p)
include hf

/-- A block that fits leaves the set with its values; a last one is then judged. -/
theorem opClassifierLoad_of_fits : opClassifierLoad.body s p =
    if (byteAt p 1).testBit 0 then
      setJudged s p (firstUnwritten (setBlocked (s.cset (byteAt p 0)) p) 676)
    else okAns (setBegun s p) := by
  refine (if_neg fun unbegun => hf.elim unbegun.1 (by simp [unbegun.2])).trans (if_congr Iff.rfl ?_ rfl)
  unfold setBlocked
  generalize firstUnwritten _ _ = unwritten
  cases unwritten <;> rfl

theorem opClassifierLoad_of_block (hl : (byteAt p 1).testBit 0 = false) :
    opClassifierLoad.body s p = okAns (setBegun s p) := by
  rw [opClassifierLoad_of_fits hf, if_neg (ne_true_of_eq_false hl)]

variable (hl : (byteAt p 1).testBit 0 = true)
include hl

theorem opClassifierLoad_of_incomplete {i : Nat}
    (hi : firstUnwritten (setBlocked (s.cset (byteAt p 0)) p) 676 = some i) :
    opClassifierLoad.body s p = failAns (setBegun s p) 0x82 i := by
  rw [opClassifierLoad_of_fits hf, if_pos hl, hi]
  rfl

variable (hi : firstUnwritten (setBlocked (s.cset (byteAt p 0)) p) 676 = none)
include hi

theorem opClassifierLoad_of_wrongCrc (hc : setCrc (setValues (s.cset (byteAt p 0)) p) ≠ rd p 8 4) :
    opClassifierLoad.body s p =
      failAns (s.setCset (byteAt p 0) { s.cset (byteAt p 0) with begun := false, image := [] }) stIntegrity 0 := by
  rw [opClassifierLoad_of_fits hf, if_pos hl, hi]
  exact if_pos hc

theorem opClassifierLoad_of_complete (hc : setCrc (setValues (s.cset (byteAt p 0)) p) = rd p 8 4) :
    opClassifierLoad.body s p = okAns (setWaiting s p) := by
  rw [opClassifierLoad_of_fits hf, if_pos hl, hi]
  exact if_neg (not_not.mpr hc)

end

/-! ## The boundary of a set and of a curve -/

section
variable {s : State} {n w : Nat}

theorem xClassifierSetCommit_of_none (hp : (s.cset n).pend = none) : xClassifierSetCommit n s = s := by
  unfold xClassifierSetCommit
  dsimp only
  rw [hp]

/-- The set with what waited for it in force, and its earlier values kept for the hits before (06 R203). -/
def setInForce (s : State) (n : Nat) (v : List F32) : State :=
  s.setCset n { s.cset n with
    pend := none, old := (s.cset n).cur, cur := some v, commitAt := s.mono, commitTime := s.cse.winStart }

variable {v : List F32} {crc : Nat} {cause : Option (Nat × Nat)}

/-- The set in force, told by an event; each channel's window is judged anew by it. -/
def setTold (s : State) (n : Nat) (v : List F32) (crc : Nat) (cause : Option (Nat × Nat)) : State :=
  emitTo (forN 32 windowBegun (setInForce s n v)) cause false none 0x0502 0xFFFF (b1 n ++ zeros 3 ++ le 4 crc)

theorem xClassifierSetCommit_of_waiting (hp : (s.cset n).pend = some (w, v, crc, cause)) :
    xClassifierSetCommit n s = if windowBoundary s w then setTold s n v crc cause else s := by
  unfold xClassifierSetCommit
  dsimp only
  rw [hp]
  rfl

theorem xClassifierSetCommit_of_due (hp : (s.cset n).pend = some (w, v, crc, cause))
    (hd : w < s.cse.winNo ∧ s.cse.winTick = s.mono) : xClassifierSetCommit n s = setTold s n v crc cause := by
  rw [xClassifierSetCommit_of_waiting hp, if_pos (windowBoundary_iff.mpr hd)]

theorem xClassifierSetCommit_of_undue (hp : (s.cset n).pend = some (w, v, crc, cause))
    (hd : ¬ (w < s.cse.winNo ∧ s.cse.winTick = s.mono)) : xClassifierSetCommit n s = s := by
  rw [xClassifierSetCommit_of_waiting hp, if_neg (mt windowBoundary_iff.mp hd)]

theorem xFlowCurveApply_of_none (hx : (s.imp n).factors = []) : xFlowCurveApply n s = s := by
  unfold xFlowCurveApply
  dsimp only
  rw [hx]

/-- The channel with its curve scaled by the oldest factor that waited, and the others still to come (06 R204). -/
def curveInForce (s : State) (n : Nat) (f : F32) (r : List (Nat × F32 × Option (Nat × Nat))) : State :=
  s.setImp n { s.imp n with
    factors := r, c := { (s.imp n).c with cur := some (scaleCurve (inCfgOf (s.imp n).c) f) } }

/-- The curve in force, told by an event. -/
def curveTold (s : State) (n : Nat) (f : F32) (r : List (Nat × F32 × Option (Nat × Nat)))
    (cause : Option (Nat × Nat)) : State :=
  emitTo (curveInForce s n f r) cause false none 0x0503 0xFFFF (b1 n ++ zeros 3 ++ leF f)

variable {f : F32} {r : List (Nat × F32 × Option (Nat × Nat))}

theorem xFlowCurveApply_of_waiting (hx : (s.imp n).factors = (w, f, cause) :: r) :
    xFlowCurveApply n s = if windowBoundary s w then curveTold s n f r cause else s := by
  unfold xFlowCurveApply
  dsimp only
  rw [hx]
  rfl

theorem xFlowCurveApply_of_due (hx : (s.imp n).factors = (w, f, cause) :: r)
    (hd : w < s.cse.winNo ∧ s.cse.winTick = s.mono) : xFlowCurveApply n s = curveTold s n f r cause := by
  rw [xFlowCurveApply_of_waiting hx, if_pos (windowBoundary_iff.mpr hd)]

theorem xFlowCurveApply_of_undue (hx : (s.imp n).factors = (w, f, cause) :: r)
    (hd : ¬ (w < s.cse.winNo ∧ s.cse.winTick = s.mono)) : xFlowCurveApply n s = s := by
  rw [xFlowCurveApply_of_waiting hx, if_neg (mt windowBoundary_iff.mp hd)]

end

/-! ## FLOW_CALIBRATE -/

/-- The windows of a channel's history that lie in a command's interval (06 R204). -/
def calWindows (x : Imp) (p : Bytes) : List FlowHist :=
  x.hist.filter fun e => T96.le (rdT p 4) e.start && T96.le e.stop (rdT p 16)

/-- What a calibration finds: the predicted mass, the factor, the windows and those not valid. -/
def calFound (x : Imp) (p : Bytes) : F32 × F32 × Nat × Nat :=
  flowCal (inCfgOf x.c) (calWindows x p) (rdF p 28)

/-- The interval is not there to calibrate by: the history does not cover it, a configuration was committed within it,
or too many of its windows are not valid (06 R205). -/
abbrev CalLacks (x : Imp) (p : Bytes) : Prop :=
  (x.hist.any fun e => T96.le e.start (rdT p 4)) = false ∨ (x.hist.any fun e => T96.le (rdT p 16) e.stop) = false ∨
    (x.c.commits.any fun t => T96.le (rdT p 4) t && T96.le t (rdT p 16)) = true ∨
    (calFound x p).2.2.1 < 100 * (calFound x p).2.2.2

/-- The factor lies within 0.5 to 2 (06 R205). -/
def calInRange (x : Imp) (p : Bytes) : Bool := fLe fHalf (calFound x p).2.1 && fLe (calFound x p).2.1 (fOfNat 2)

/-- The reply data of a calibration. -/
def calBytes (x : Imp) (p : Bytes) : Bytes :=
  let c := calFound x p
  leF c.1 ++ leF c.2.1 ++ le 4 c.2.2.1 ++ le 4 c.2.2.2

theorem calBytes_length (x : Imp) (p : Bytes) : (calBytes x p).length = 16 := by simp [calBytes]

/-- The factor waits for the next counting window, and the curve with all factors is stored where the command asks
(06 R204). -/
def calWaiting (s : State) (p : Bytes) : State :=
  let x := s.imp (byteAt p 0)
  let f := (calFound x p).2.1
  s.setImp (byteAt p 0) { x with
    factors := x.factors ++ [(s.cse.winNo, f, s.cur)]
    c := if (byteAt p 1).testBit 1 then
        { x.c with stored := some (scaleCurve (scaleAll (inCfgOf x.c) x.factors) f) }
      else x.c }

section
variable {s : State} {p : Bytes}

theorem opFlowCalibrate_of_other (hm : impMode (inCfgOf (s.imp (byteAt p 0)).c) ≠ 2) :
    opFlowCalibrate.body s p = badParam s 0 :=
  if_pos hm

theorem calLacks_iff (x : Imp) (p : Bytes) :
    (!((x.hist.any fun e => T96.le e.start (rdT p 4)) && (x.hist.any fun e => T96.le (rdT p 16) e.stop)) ||
      (x.c.commits.any fun t => T96.le (rdT p 4) t && T96.le t (rdT p 16)) ||
      decide ((calFound x p).2.2.1 < 100 * (calFound x p).2.2.2)) = true ↔ CalLacks x p := by
  simp only [Bool.or_eq_true, Bool.not_eq_true', Bool.and_eq_false_iff, decide_eq_true_eq, or_assoc]

variable (hm : impMode (inCfgOf (s.imp (byteAt p 0)).c) = 2)
include hm

/-- A channel in flow mode is judged by its history, then by the factor. -/
theorem opFlowCalibrate_of_flow [Decidable (CalLacks (s.imp (byteAt p 0)) p)] : opFlowCalibrate.body s p =
    if CalLacks (s.imp (byteAt p 0)) p then failAns s 0x81 0
    else if calInRange (s.imp (byteAt p 0)) p then
      okWith (if (byteAt p 1).testBit 0 then calWaiting s p else s) (calBytes (s.imp (byteAt p 0)) p)
    else { s := s, st := 0x80, detail := 0, data := calBytes (s.imp (byteAt p 0)) p } := by
  refine (if_neg (not_not.mpr hm)).trans ?_
  exact if_congr (calLacks_iff (s.imp (byteAt p 0)) p) rfl rfl

theorem opFlowCalibrate_of_lacking (hc : CalLacks (s.imp (byteAt p 0)) p) :
    opFlowCalibrate.body s p = failAns s 0x81 0 := by
  rw [opFlowCalibrate_of_flow hm, if_pos hc]

variable (hc : ¬ CalLacks (s.imp (byteAt p 0)) p)
include hc

theorem opFlowCalibrate_of_outside (hr : calInRange (s.imp (byteAt p 0)) p = false) :
    opFlowCalibrate.body s p = { s := s, st := 0x80, detail := 0, data := calBytes (s.imp (byteAt p 0)) p } := by
  rw [opFlowCalibrate_of_flow hm, if_neg hc, if_neg (ne_true_of_eq_false hr)]

variable (hr : calInRange (s.imp (byteAt p 0)) p = true)
include hr

theorem opFlowCalibrate_of_trial (ha : (byteAt p 1).testBit 0 = false) :
    opFlowCalibrate.body s p = okWith s (calBytes (s.imp (byteAt p 0)) p) := by
  rw [opFlowCalibrate_of_flow hm, if_neg hc, if_pos hr, if_neg (ne_true_of_eq_false ha)]

theorem opFlowCalibrate_of_applied (ha : (byteAt p 1).testBit 0 = true) :
    opFlowCalibrate.body s p = okWith (calWaiting s p) (calBytes (s.imp (byteAt p 0)) p) := by
  rw [opFlowCalibrate_of_flow hm, if_neg hc, if_pos hr, if_pos ha]

end

/-! ## SENSE_READ -/

section
variable {s : State} {p : Bytes}

/-- The hit records that a SENSE_READ of selector 6 names (06 R206). -/
def hitsRead (s : State) (p : Bytes) : List Bytes := hitRecords (s.imp (byteAt p 1)) (rd p 4 4) (byteAt p 2)

theorem opSenseRead_of_hits (hs : byteAt p 0 = 6) : opSenseRead.body s p =
    okWith s (leT s.now ++ le 2 (hitsRead s p).length ++ zeros 2 ++ (hitsRead s p).flatten) :=
  if_pos hs

/-- The entries that a SENSE_READ of another selector names. -/
def entriesRead (s : State) (p : Bytes) : Bytes :=
  (List.range (byteAt p 2)).flatMap fun i => senseEntry s (byteAt p 0) (byteAt p 1 + i)

theorem opSenseRead_of_entries (hs : byteAt p 0 ≠ 6) :
    opSenseRead.body s p = okWith s (leT s.now ++ entriesRead s p) :=
  if_neg hs

end

end Sys2Proof.Machine

namespace Sys2Proof

open Machine

/-- A command whose answer, with its effect, brings data of a known length. -/
theorem exec_answer_of_accepted {op : OpSpec} {h : Hdr} {p : Bytes} {s : State} {i j : Instr} {n : Nat} {a : Ans}
    (run : exec i s = .next (hostOnly op h p j s)) (prompt : waits (heard s h) j = false) (ok : Accepted op h p n s)
    (size : a.data.length = n) (body : op.body (atBody s h) p = a) : exec i s = .next (replied h op.code p a) := by
  subst size
  exact exec_hostOnly_of_accepted run prompt ok body

/-- Settles O32: a block of a set by its place and whether it is the last, a calibration by the channel's mode, its
history and the factor, a boundary by whether something waits for it, a read by its selector. -/
theorem sensingCommands : Obligations.SensingCommands := by
  unfold Obligations.SensingCommands
  refine ⟨fun h p s ok => ?load, fun n w v crc cause s hp => ?setBoundary,
    fun n s hp => congrArg Host.Outcome.next (xClassifierSetCommit_of_none hp),
    fun h p s ok hm => exec_hostOnly_of_accepted rfl rfl ok (opFlowCalibrate_of_other (s := atBody s h) hm),
    fun h p s hm => ⟨fun ok hc => ?lacking, fun ok hc => ?calibrate⟩, fun k w f cause r s hx => ?curveBoundary,
    fun k s hx => congrArg Host.Outcome.next (xFlowCurveApply_of_none hx),
    fun h p d s => ⟨fun hs hd ok => ?entries, fun hs l hl hd ok => ?hits⟩⟩
  case load =>
    have answered {a : Ans} (size : a.data.length = 0) (body : opClassifierLoad.body (atBody s h) p = a) :
        exec (.classifierLoad h p) s = .next (replied h 0x0501 p a) := exec_answer_of_accepted rfl rfl ok size body
    refine ⟨fun hf => answered rfl (opClassifierLoad_of_unbegun (s := atBody s h) hf),
      fun hf hl => answered rfl (opClassifierLoad_of_block (s := atBody s h) hf hl),
      fun hf hl => ⟨fun i hi => ?_, fun hi hc => ?_, fun hi hc => ?_⟩⟩
    · exact answered rfl (opClassifierLoad_of_incomplete (s := atBody s h) hf hl hi)
    · exact answered rfl (opClassifierLoad_of_wrongCrc (s := atBody s h) hf hl hi hc)
    · have complete := opClassifierLoad_of_complete (s := atBody s h) hf hl hi hc
      unfold setWaiting at complete
      rw [atBody_cur ok] at complete
      exact answered rfl complete
  case setBoundary =>
    exact ⟨fun due => congrArg Host.Outcome.next (xClassifierSetCommit_of_due hp due),
      fun due => congrArg Host.Outcome.next (xClassifierSetCommit_of_undue hp due)⟩
  case curveBoundary =>
    exact ⟨fun due => congrArg Host.Outcome.next (xFlowCurveApply_of_due hx due),
      fun due => congrArg Host.Outcome.next (xFlowCurveApply_of_undue hx due)⟩
  case lacking => exact exec_hostOnly_of_accepted rfl rfl ok (opFlowCalibrate_of_lacking (s := atBody s h) hm hc)
  case calibrate =>
    have size := calBytes_length (s.imp (byteAt p 0)) p
    have answered {a : Ans} (size : a.data.length = 16) (body : opFlowCalibrate.body (atBody s h) p = a) :
        exec (.flowCalibrate h p) s = .next (replied h 0x0507 p a) := exec_answer_of_accepted rfl rfl ok size body
    refine ⟨fun hr => answered size (opFlowCalibrate_of_outside (s := atBody s h) hm hc hr),
      fun hr ha => answered size (opFlowCalibrate_of_trial (s := atBody s h) hm hc hr ha),
      fun hr ha => ?_⟩
    have applied := opFlowCalibrate_of_applied (s := atBody s h) hm hc hr ha
    unfold calWaiting at applied
    rw [atBody_cur ok] at applied
    exact answered size applied
  case entries =>
    subst hd
    exact exec_read_of_accepted rfl rfl ok (opSenseRead_of_entries (s := atBody s h) hs)
      (by rw [List.length_append, leT_length])
  case hits =>
    subst hl hd
    refine exec_read_of_accepted rfl rfl ok (opSenseRead_of_hits (s := atBody s h) hs) ?_
    simp only [List.length_append, leT_length, le_length, zeros_length]

end Sys2Proof
end

section
/-! SUPPORT. What the rows of the analog, frequency, position and inertial inputs do under their conditions (06 R186 to
R195). -/

namespace Sys2Proof.Machine

/-- A row that acts under a condition, and else changes nothing. -/
theorem next_ite_of_guard {guard : Bool} {P : Prop} {t s : State} (hg : guard = true ↔ P) :
    (P → (.next (if guard then t else s) : Host.Outcome State Fault Refusal) = .next t) ∧
    (¬ P → (.next (if guard then t else s) : Host.Outcome State Fault Refusal) = .next s) :=
  ⟨fun h => congrArg Host.Outcome.next (if_pos (hg.mpr h)),
    fun h => congrArg Host.Outcome.next (if_neg (mt hg.mp h))⟩

/-! ## Analog inputs -/

section
variable {k : Nat} {s : State} {raw : AinRaw}

/-- A raw ratio is inside the window of valid ones (06 R188). -/
def ainInside (d : Bytes) (raw : AinRaw) : Bool :=
  fLe (rdF d 16) (rawRatio d raw.volts raw.ref) && fLe (rawRatio d raw.volts raw.ref) (rdF d 20)

/-- An analog input is on, and takes its samples. -/
abbrev AinOn (s : State) (k : Nat) : Prop :=
  producing s = true ∧ (s.ain k).c.cur ≠ none ∧ ainRef (inCfgOf (s.ain k).c) ≠ 0

theorem ainOn_iff :
    (producing s && (s.ain k).c.cur.isSome && ainRef (inCfgOf (s.ain k).c) ≠ 0) = true ↔ AinOn s k := by
  simp [AinOn, Option.isSome_iff_ne_none, and_assoc]

theorem xAinRangeCount_of_inside (ok : AinOn s k) (hi : ainInside (inCfgOf (s.ain k).c) raw = true) :
    xAinRangeCount k raw s = s.setAin k { s.ain k with
      inRun := (s.ain k).inRun + 1, outRun := 0, bad := (s.ain k).bad && decide ((s.ain k).inRun + 1 < 20) } :=
  (if_pos (ainOn_iff.mpr ok)).trans (if_pos hi)

theorem xAinRangeCount_of_outside (ok : AinOn s k) (hi : ainInside (inCfgOf (s.ain k).c) raw = false) :
    xAinRangeCount k raw s = s.setAin k { s.ain k with
      outRun := (s.ain k).outRun + 1, inRun := 0, bad := (s.ain k).bad || decide (20 ≤ (s.ain k).outRun + 1)
      count := satN 4 ((s.ain k).count + 1) } :=
  (if_pos (ainOn_iff.mpr ok)).trans (if_neg (ne_true_of_eq_false hi))

theorem xAinRangeCount_of_off (ok : ¬ AinOn s k) : xAinRangeCount k raw s = s :=
  if_neg (mt ainOn_iff.mp ok)

end

/-! ## Edges of the frequency inputs -/

/-- The input whose edges and counter a transition of input `k` moves: a quadrature pair's even one (06 R189). -/
def edgeInput (s : State) (k : Nat) : Nat := if quadPartner s k then k - 1 else k

/-- The level an input's voltage stands for now. -/
def levelNow (s : State) (k : Nat) (volts : F32) : Bool := finLevel (inCfgOf (s.fin k).c) volts (s.fin k).level

/-- A new level has held for MIN_PULSE, on an input that has a configuration (06 R189). -/
abbrev EdgeAccepted (s : State) (k e age : Nat) (volts : F32) : Prop :=
  producing s = true ∧ (s.fin e).c.cur ≠ none ∧ levelNow s k volts ≠ (s.fin k).level ∧
    1000 * finPulse (inCfgOf (s.fin k).c) ≤ age

/-- A pair's input after both signals have changed together: an error counted, and no step (06 R191). -/
def illegalStep (s : State) (x : Fin8) : Fin8 :=
  { x with level := !x.level, count := satN 4 (x.count + 1), qerr := some s.mono }

/-- A pair's input after a step up or down at a time; a change of direction begins its edges anew (06 R189, R190). -/
def quadStep (x : Fin8) (up : Bool) (t : Nat) : Fin8 :=
  { x with
    counter := wrap32 (if up then x.counter + 1 else x.counter - 1), dirPos := up
    edges := (t :: if up = x.dirPos then x.edges else []).take 66 }

section
variable {k age : Nat} {volts : F32} {both : Bool} {s : State}

theorem edgeRefused_iff {e : Nat} : (!producing s || (s.fin e).c.cur.isNone || levelNow s k volts = (s.fin k).level ||
    decide (age < 1000 * finPulse (inCfgOf (s.fin k).c))) = true ↔ ¬ EdgeAccepted s k e age volts := by
  simp only [Bool.or_eq_true, Bool.not_eq_true', Option.isNone_iff_eq_none, decide_eq_true_eq, or_assoc, EdgeAccepted,
    not_and_or, Bool.not_eq_true, not_not, ne_eq, not_le]

theorem edgeInput_of_partner (hq : quadPartner s k = true) : edgeInput s k = k - 1 := if_pos hq

theorem edgeInput_of_own (hq : quadPartner s k = false) : edgeInput s k = k := if_neg (ne_true_of_eq_false hq)

theorem xFinEdgeAccepted_of_refused (h : ¬ EdgeAccepted s k (edgeInput s k) age volts) :
    xFinEdgeAccepted k age volts both s = s :=
  if_pos (edgeRefused_iff.mpr h)

section
variable (hq : quadPartner s k = false) (h : EdgeAccepted s k k age volts)
include hq h

/-- An accepted edge of an input that is no pair's odd one, by its mode (06 R189 to R191). -/
theorem xFinEdgeAccepted_of_own : xFinEdgeAccepted k age volts both s =
    if finMode (inCfgOf (s.fin k).c) = 3 then
      if both then
        (s.setFin (k + 1) { s.fin (k + 1) with level := !(s.fin (k + 1)).level }).setFin k (illegalStep s (s.fin k))
      else
        s.setFin k { quadStep (s.fin k) ((levelNow s k volts != (s.fin (k + 1)).level) == Config.quadAleads)
          (stampNs (s.mono * 4 - age)) with level := levelNow s k volts }
    else if finMode (inCfgOf (s.fin k).c) = 1 ∧ levelNow s k volts = false then
      s.setFin k { s.fin k with level := levelNow s k volts }
    else if finMode (inCfgOf (s.fin k).c) = 1 ∨ finMode (inCfgOf (s.fin k).c) = 2 then
      s.setFin k { s.fin k with
        level := levelNow s k volts, edges := (stampNs (s.mono * 4 - age) :: (s.fin k).edges).take 66 }
    else s := by
  unfold xFinEdgeAccepted
  simp only [hq, Bool.false_eq_true, if_false, if_true]
  exact if_neg (mt edgeRefused_iff.mp (not_not.mpr h))

theorem xFinEdgeAccepted_of_edge (hm : finMode (inCfgOf (s.fin k).c) = 2 ∨
      finMode (inCfgOf (s.fin k).c) = 1 ∧ levelNow s k volts = true) :
    xFinEdgeAccepted k age volts both s = s.setFin k { s.fin k with
      level := levelNow s k volts, edges := (stampNs (s.mono * 4 - age) :: (s.fin k).edges).take 66 } := by
  rw [xFinEdgeAccepted_of_own hq h]
  rcases hm with two | ⟨one, high⟩
  · simp [two]
  · simp [one, high]

theorem xFinEdgeAccepted_of_falling (hm : finMode (inCfgOf (s.fin k).c) = 1) (low : levelNow s k volts = false) :
    xFinEdgeAccepted k age volts both s = s.setFin k { s.fin k with level := levelNow s k volts } := by
  rw [xFinEdgeAccepted_of_own hq h, if_neg (by omega), if_pos ⟨hm, low⟩]

variable (hm : finMode (inCfgOf (s.fin k).c) = 3)
include hm

theorem xFinEdgeAccepted_of_illegal : xFinEdgeAccepted k age volts true s =
    (s.setFin (k + 1) { s.fin (k + 1) with level := !(s.fin (k + 1)).level }).setFin k (illegalStep s (s.fin k)) := by
  rw [xFinEdgeAccepted_of_own hq h, if_pos hm, if_pos rfl]

theorem xFinEdgeAccepted_of_step : xFinEdgeAccepted k age volts false s =
    s.setFin k { quadStep (s.fin k) ((levelNow s k volts != (s.fin (k + 1)).level) == Config.quadAleads)
      (stampNs (s.mono * 4 - age)) with level := levelNow s k volts } := by
  rw [xFinEdgeAccepted_of_own hq h, if_pos hm, if_neg Bool.false_ne_true]

end

/-- A pair's odd input stands after its even one, which is in quadrature mode. -/
theorem quadPartner_iff : quadPartner s k = true ↔ k % 2 = 1 ∧ finMode (inCfgOf (s.fin (k - 1)).c) = 3 := by
  simp [quadPartner]

section
variable (hq : quadPartner s k = true) (h : EdgeAccepted s k (k - 1) age volts)
include hq h

/-- An accepted transition of a pair's odd input moves the even one's counter and edges. -/
theorem xFinEdgeAccepted_of_partner : xFinEdgeAccepted k age volts both s =
    if both then
      (s.setFin k { s.fin k with level := !(s.fin k).level }).setFin (k - 1) (illegalStep s (s.fin (k - 1)))
    else
      (s.setFin k { s.fin k with level := levelNow s k volts }).setFin (k - 1) (quadStep (s.fin (k - 1))
        ((levelNow s k volts == (s.fin (k - 1)).level) == Config.quadAleads) (stampNs (s.mono * 4 - age))) := by
  obtain ⟨odd, hm⟩ := quadPartner_iff.mp hq
  have after : k - 1 + 1 = k := by omega
  have apart : k ≠ k - 1 := by omega
  unfold xFinEdgeAccepted
  simp only [hq, if_true, after, apart, if_false]
  exact (if_neg (mt edgeRefused_iff.mp (not_not.mpr h))).trans (if_pos hm)

end

theorem xQerrExpiry_of_due {t : Nat} (hx : (s.fin k).qerr = some t) (ht : t + 250000 ≤ s.mono) :
    xQerrExpiry k s = s.setFin k { s.fin k with qerr := none } :=
  if_pos (by simp [qerrNow, hx, msT, ht])

theorem xQerrExpiry_of_none (hx : (s.fin k).qerr = none) : xQerrExpiry k s = s :=
  if_neg (by simp [hx])

theorem xQerrExpiry_of_running {t : Nat} (hx : (s.fin k).qerr = some t) (ht : s.mono < t + 250000) :
    xQerrExpiry k s = s :=
  if_neg (by simp [qerrNow, hx, msT, ht])

end

/-! ## Updates of the frequency inputs -/

section
variable {k : Nat} {s : State}

/-- A frequency input is on, and its update of 50 µs is due (06 R190). -/
abbrev FinUpdates (s : State) (k : Nat) : Prop :=
  producing s = true ∧ (s.fin k).c.cur ≠ none ∧ finMode (inCfgOf (s.fin k).c) ≠ 0 ∧ (s.fin k).tick + 12500 ≤ s.mono ∧
    commitDue s 2 k = false

theorem finUpdates_iff :
    (producing s && (s.fin k).c.cur.isSome && finMode (inCfgOf (s.fin k).c) ≠ 0 &&
      s.past (s.fin k).tick (usT 50) && !commitDue s 2 k) = true ↔ FinUpdates s k := by
  have past : s.past (s.fin k).tick (usT 50) = true ↔ (s.fin k).tick + 12500 ≤ s.mono :=
    decide_eq_true_iff
  simp [FinUpdates, Option.isSome_iff_ne_none, past, and_assoc]

/-- The rate of an input's edges now (06 R190). -/
def finRate (s : State) (k : Nat) : F32 :=
  let d := inCfgOf (s.fin k).c
  edgeRate (s.fin k).edges (s.mono * 4) (if finMode d = 2 then 2 else 1) (finAvg d) (rdF d 16)

/-- An input at an update, before what it delivers. -/
def finUpdated (s : State) (k : Nat) : Fin8 :=
  { s.fin k with time := s.now, tick := s.mono, qpos := fOfInt (s.fin k).counter }

theorem xFinUpdate_of_frequency (ok : FinUpdates s k) (hm : finMode (inCfgOf (s.fin k).c) ≠ 3) :
    xFinUpdate k s = s.setFin k { finUpdated s k with freq := finRate s k } :=
  (if_pos (finUpdates_iff.mpr ok)).trans (congrArg (s.setFin k) (if_neg hm))

theorem xFinUpdate_of_quadrature (ok : FinUpdates s k) (hm : finMode (inCfgOf (s.fin k).c) = 3) :
    xFinUpdate k s = s.setFin k { finUpdated s k with
      freq := f0, speed := if (s.fin k).dirPos then finRate s k else fNeg (finRate s k) } :=
  (if_pos (finUpdates_iff.mpr ok)).trans (congrArg (s.setFin k) (if_pos hm))

theorem xFinUpdate_of_off (ok : ¬ FinUpdates s k) : xFinUpdate k s = s :=
  if_neg (mt finUpdates_iff.mp ok)

end

/-! ## The excitation of the position inputs -/

section
variable {k t : Nat} {ok : Bool} {s : State}

theorem xExcitationRetry_of_none (hx : (s.pos k).excOff = none) : xExcitationRetry k ok s = s := by
  unfold xExcitationRetry
  dsimp only
  rw [hx]

variable (hx : (s.pos k).excOff = some t)
include hx

theorem xExcitationRetry_of_due (ht : t + 250000000 ≤ s.mono) :
    xExcitationRetry k ok s = s.setPos k { s.pos k with excOff := if ok then none else some s.mono } := by
  unfold xExcitationRetry
  dsimp only
  rw [hx]
  exact if_pos ((past_second_iff t).mpr ht)

theorem xExcitationRetry_of_waiting (ht : s.mono < t + 250000000) : xExcitationRetry k ok s = s := by
  unfold xExcitationRetry
  dsimp only
  rw [hx]
  exact if_neg (mt (past_second_iff t).mp (Nat.not_le.mpr ht))

end

end Sys2Proof.Machine

namespace Sys2Proof

open Machine

/-- Settles O34: each row by whether the input is on and its instant has come; an edge then by the input's place in a
pair and its mode. -/
theorem inputValues : Obligations.InputValues := by
  unfold Obligations.InputValues
  refine ⟨fun k volts refs s => ?ainUpdate, fun k raw s => ?range, fun k age volts s hq => ?edge,
    fun k age volts s hq => ?partner, fun k s => ?qerr, fun k s => ?finUpdate, fun k theta cyc sp am er s => ?posUpdate,
    fun k s => ?excitation, fun k ok s => ?retry, fun ax ay az gx gy gz sat s => ?imu⟩
  case ainUpdate =>
    refine next_ite_of_guard ?_
    simp [Option.isSome_iff_ne_none, updateDue_iff, usT, and_assoc]
  case range =>
    exact ⟨fun ok hi => congrArg Host.Outcome.next (xAinRangeCount_of_inside ok hi),
      fun ok hi => congrArg Host.Outcome.next (xAinRangeCount_of_outside ok hi),
      fun ok => congrArg Host.Outcome.next (xAinRangeCount_of_off ok)⟩
  case edge =>
    exact ⟨fun ok hm both => congrArg Host.Outcome.next (xFinEdgeAccepted_of_edge hq ok hm),
      fun ok hm low both => congrArg Host.Outcome.next (xFinEdgeAccepted_of_falling hq ok hm low),
      fun ok hm => congrArg Host.Outcome.next (xFinEdgeAccepted_of_illegal hq ok hm),
      fun ok hm => congrArg Host.Outcome.next (xFinEdgeAccepted_of_step hq ok hm),
      fun refused both => congrArg Host.Outcome.next
        (xFinEdgeAccepted_of_refused (by rw [edgeInput_of_own hq]; exact refused))⟩
  case partner =>
    exact ⟨fun ok => congrArg Host.Outcome.next ((xFinEdgeAccepted_of_partner hq ok).trans (if_pos rfl)),
      fun ok => congrArg Host.Outcome.next ((xFinEdgeAccepted_of_partner hq ok).trans (if_neg Bool.false_ne_true)),
      fun refused both => congrArg Host.Outcome.next
        (xFinEdgeAccepted_of_refused (by rw [edgeInput_of_partner hq]; exact refused))⟩
  case qerr =>
    refine ⟨fun t hx ht => congrArg Host.Outcome.next (xQerrExpiry_of_due hx ht), ?_⟩
    rintro (hx | ⟨t, hx, ht⟩)
    · exact congrArg Host.Outcome.next (xQerrExpiry_of_none hx)
    · exact congrArg Host.Outcome.next (xQerrExpiry_of_running hx ht)
  case finUpdate =>
    exact ⟨fun ok hm => congrArg Host.Outcome.next (xFinUpdate_of_frequency ok hm),
      fun ok hm => congrArg Host.Outcome.next (xFinUpdate_of_quadrature ok hm),
      fun ok => congrArg Host.Outcome.next (xFinUpdate_of_off ok)⟩
  case posUpdate =>
    refine next_ite_of_guard ?_
    simp [Option.isSome_iff_ne_none, updateDue_iff, usT, and_assoc]
  case excitation =>
    refine next_ite_of_guard ?_
    simp [Option.isSome_iff_ne_none, and_assoc]
  case retry =>
    refine ⟨fun t hx ht => congrArg Host.Outcome.next (xExcitationRetry_of_due hx ht), ?_⟩
    rintro (hx | ⟨t, hx, ht⟩)
    · exact congrArg Host.Outcome.next (xExcitationRetry_of_none hx)
    · exact congrArg Host.Outcome.next (xExcitationRetry_of_waiting hx ht)
  case imu =>
    dsimp only
    rw [Bool.or_assoc]
    refine next_ite_of_guard ?_
    simp [updateDue_iff, and_assoc]

end Sys2Proof
end

section
/-! SUPPORT. What the opcodes of the planner, of guidance's path and of yield answer (07 R223, R234, R239, R245). -/

namespace Sys2Proof.Machine

/-! ## PLANNER_OBJECTIVES -/

/-- A set replaced before the ones still remembered governs no cycle any more. -/
theorem governing_takeWhile {t n : Nat} (ht : t ≤ n) (cur : Bytes) (l : List (Nat × Bytes)) :
    governing n cur (l.takeWhile fun e => decide (t < e.1 + msT 1)) = governing n cur l := by
  induction l generalizing cur with
  | nil => rfl
  | cons e r ih =>
    obtain ⟨u, old⟩ := e
    by_cases recent : t < u + msT 1
    · simp [recent, governing, ih]
    · have lapsed : u + msT 1 ≤ n := by omega
      simp [recent, governing, lapsed]

/-- A change governs from a millisecond after it; until then what governed before it does (07 R223). -/
theorem governing_changed {t n : Nat} (ht : t ≤ n) (new old : Bytes) (l : List (Nat × Bytes)) :
    governing n new (changed t old l) = if t + 250000 ≤ n then new else governing n old l :=
  if_congr Iff.rfl rfl (governing_takeWhile ht old l)

/-! ## PATH_LOAD -/

theorem breakAt_cons (a : Option Bytes) (n : Nat) (d : Bytes) (r : List Bytes) :
    breakAt a n (d :: r) = if a.all (joins · d) then breakAt (some d) (n + 1) r else some n := by
  cases a <;> rfl

/-- The segment before the i-th of a list that goes on from `a`. -/
abbrev segBefore (a : Option Bytes) (l : List Bytes) (i : Nat) : Option (Option Bytes) := (a :: l.map some)[i]?

/-- No segment breaks the path where each joins the one before it. -/
theorem breakAt_eq_none_iff (a : Option Bytes) (n : Nat) (l : List Bytes) :
    breakAt a n l = none ↔
      ∀ (i : Nat) (d : Bytes), l[i]? = some d → ∀ c, segBefore a l i = some (some c) → joins c d = true := by
  induction l generalizing a n with
  | nil => simp [breakAt]
  | cons x r ih =>
    have first : a.all (joins · x) = true ↔ ∀ c, segBefore a (x :: r) 0 = some (some c) → joins c x = true := by
      cases a <;> simp
    have here : breakAt a n (x :: r) = none ↔ a.all (joins · x) = true ∧ breakAt (some x) (n + 1) r = none := by
      rw [breakAt_cons]
      by_cases joined : a.all (joins · x) = true
      · rw [if_pos joined, and_iff_right joined]
      · rw [if_neg joined]
        simp [joined]
    rw [here, first, ih]
    constructor
    · rintro ⟨head, tail⟩ i d hd c hc
      cases i with
      | zero =>
        cases hd
        exact head c hc
      | succ i => exact tail i d hd c hc
    · exact fun all => ⟨all 0 x rfl, fun i d hd c hc => all (i + 1) d hd c hc⟩

/-- The segment at a break does not join the one before it, and those before it go on without a break. -/
theorem breakAt_eq_some {a : Option Bytes} {n m : Nat} {l : List Bytes} (h : breakAt a n l = some m) :
    ∃ i c d, m = n + i ∧ l[i]? = some d ∧ segBefore a l i = some (some c) ∧ joins c d = false ∧
      breakAt a n (l.take i) = none := by
  induction l generalizing a n with
  | nil => cases h
  | cons x r ih =>
    rw [breakAt_cons] at h
    by_cases joined : a.all (joins · x) = true
    · rw [if_pos joined] at h
      obtain ⟨i, c, d, hm, hd, hc, apart, before⟩ := ih h
      refine ⟨i + 1, c, d, by omega, hd, hc, apart, ?_⟩
      rw [List.take_succ_cons, breakAt_cons, if_pos joined, before]
    · rw [if_neg joined] at h
      cases h
      obtain ⟨c, rfl, apart⟩ : ∃ c, a = some c ∧ joins c x = false := by
        cases a with
        | none => exact absurd rfl joined
        | some c => exact ⟨c, rfl, Bool.eq_false_of_not_eq_true joined⟩
      exact ⟨0, c, x, rfl, rfl, rfl, apart, rfl⟩

section
variable {s : State} {p : Bytes}

/-- A restart in path mode while guidance is RUNNING (07 R239). -/
abbrev RestartHeld (s : State) (p : Bytes) : Prop :=
  (byteAt p 1).testBit 0 = true ∧ s.st guidFid = .running ∧ gdMode s.guidCfg = 1

/-- The ring that a load goes on from. -/
def ringBefore (s : State) (p : Bytes) : List Bytes := if (byteAt p 1).testBit 0 then [] else s.guid.path

theorem restartHeld_iff : ((byteAt p 1).testBit 0 && decide (s.st guidFid = .running) &&
    decide (gdMode s.guidCfg = 1)) = true ↔ RestartHeld s p := by
  simp only [RestartHeld, Bool.and_eq_true, decide_eq_true_eq, and_assoc]

theorem opPathLoad_of_held (held : RestartHeld s p) : opPathLoad.body s p = failAns s stWrongState 0 :=
  if_pos (restartHeld_iff.mpr held)

section
variable (held : ¬ RestartHeld s p)
include held

theorem opPathLoad_of_free : opPathLoad.body s p =
    if 256 < (ringBefore s p).length + (pathSegs p).length then failAns s stOverCapacity 0
    else match breakAt (ringBefore s p).getLast? 0 (pathSegs p) with
      | some i => failAns s 0x80 (4 + 28 * i)
      | none => okAns { s with guid := { s.guid with path := ringBefore s p ++ pathSegs p } } :=
  if_neg (mt restartHeld_iff.mp held)

theorem opPathLoad_of_full (full : 256 < (ringBefore s p).length + (pathSegs p).length) :
    opPathLoad.body s p = failAns s stOverCapacity 0 :=
  (opPathLoad_of_free held).trans (if_pos full)

variable (room : (ringBefore s p).length + (pathSegs p).length ≤ 256)
include room

theorem opPathLoad_of_break {i : Nat} (gap : breakAt (ringBefore s p).getLast? 0 (pathSegs p) = some i) :
    opPathLoad.body s p = failAns s 0x80 (4 + 28 * i) := by
  rw [opPathLoad_of_free held, if_neg (by omega), gap]

theorem opPathLoad_of_joined (joined : breakAt (ringBefore s p).getLast? 0 (pathSegs p) = none) :
    opPathLoad.body s p = okAns { s with guid := { s.guid with path := ringBefore s p ++ pathSegs p } } := by
  rw [opPathLoad_of_free held, if_neg (by omega), joined]

end

/-! ## YIELD_CONFIG -/

theorem opYieldConfig_of_other (off : flowMode s (yFlow p) = false) :
    opYieldConfig.body s p = failAns s stWrongState 0 :=
  if_pos (by simp [off])

theorem opYieldConfig_of_flow (on : flowMode s (yFlow p) = true) : opYieldConfig.body s p = okAns { s with
    yield := { s.yield with
      pend := some p, stored := if (byteAt p 0).testBit 1 then some p else s.yield.stored } } := by
  refine (if_neg (by simp [on])).trans ?_
  cases (byteAt p 0).testBit 1 <;> rfl

/-! ## PLANNER_STATUS -/

/-- The reply has the 396 bytes of its table (07 R234). -/
theorem opPlannerStatus_length (s : State) (p : Bytes) : (opPlannerStatus.body s p).data.length = 396 := by
  simp [opPlannerStatus, okWith, List.length_flatMap]

/-- It begins with the cycle's time and the mode. -/
theorem opPlannerStatus_take (s : State) (p : Bytes) :
    (opPlannerStatus.body s p).data.take 13 = leT s.planner.cycleTime ++ b1 s.planner.mode := by
  simp only [opPlannerStatus, okWith, List.append_assoc]
  rw [← List.append_assoc]
  exact List.take_left' (by simp)

/-- It ends with the 64 PSPs. -/
theorem opPlannerStatus_drop (s : State) (p : Bytes) :
    (opPlannerStatus.body s p).data.drop 140 = (List.range 64).flatMap fun q => leF (pspVal s q) := by
  refine List.drop_left' ?_
  simp [List.length_flatMap]

end

end Sys2Proof.Machine

namespace Sys2Proof

open Machine

/-- Settles O35: each opcode by the checks of its own body; a path by the recursion that looks for its first break. -/
theorem plannerCommands : Obligations.PlannerCommands := by
  unfold Obligations.PlannerCommands
  refine ⟨fun h p s ok => exec_hostOnly_of_accepted rfl rfl ok rfl,
    fun new old l t n ht => governing_changed ht new old l, fun h p s ok => ?path,
    fun l a => ⟨breakAt_eq_none_iff a 0 l, fun i hi => ?gap⟩, fun h p s ok => ?yield, fun h p s ok => ?status⟩
  case path =>
    have answered {a : Ans} (size : a.data = []) (body : opPathLoad.body (atBody s h) p = a) :
        exec (.pathLoad h p) s = .next (replied h 0x0605 p a) :=
      exec_hostOnly_of_accepted rfl rfl (by rw [size]; exact ok) body
    exact ⟨fun held => answered rfl (opPathLoad_of_held (s := atBody s h) held),
      fun free full => answered rfl (opPathLoad_of_full (s := atBody s h) free full),
      fun free room => ⟨fun i gap => answered rfl (opPathLoad_of_break (s := atBody s h) free room gap),
        fun joined => answered rfl (opPathLoad_of_joined (s := atBody s h) free room joined)⟩⟩
  case gap =>
    obtain ⟨j, c, d, hj, hd, hc, apart, before⟩ := breakAt_eq_some hi
    obtain rfl : i = j := by omega
    exact ⟨c, d, hd, hc, apart, before⟩
  case yield =>
    exact ⟨fun off => exec_hostOnly_of_accepted rfl rfl ok (opYieldConfig_of_other (s := atBody s h) off),
      fun on => exec_hostOnly_of_accepted rfl rfl ok (opYieldConfig_of_flow (s := atBody s h) on)⟩
  case status =>
    exact ⟨_, opPlannerStatus_length (atBody s h) p,
      exec_read_of_accepted rfl rfl ok rfl (opPlannerStatus_length (atBody s h) p),
      opPlannerStatus_take (atBody s h) p, opPlannerStatus_drop (atBody s h) p⟩

end Sys2Proof
end

section
/-! SUPPORT. What an issue writes, and what a planner cycle issues and takes (07 R210, R211, R213, R215, R224). -/

namespace Sys2Proof.Machine

/-! ## An issue of set-points -/

section
variable {κ α : Type} [DecidableEq κ] {d v : α} {k : κ} {l : List (κ × α)}

/-- An entry that none of a list of writes names. -/
theorem tget_foldl_tput_of_absent (t : Tbl κ α) (absent : ∀ e ∈ l, e.1 ≠ k) :
    tget d (l.foldl (fun t e => tput t e.1 e.2) t) k = tget d t k := by
  induction l generalizing t with
  | nil => rfl
  | cons e r ih =>
    rw [List.foldl_cons, ih _ fun x hx => absent x (List.mem_cons_of_mem e hx),
      tget_tput_of_ne _ _ _ (absent e List.mem_cons_self)]

/-- An entry to which every write that names it gives one value, and that has it before or is named. -/
theorem tget_foldl_tput_of_agreed (t : Tbl κ α) (agreed : ∀ e ∈ l, e.1 = k → e.2 = v)
    (has : (k, v) ∈ l ∨ tget d t k = v) : tget d (l.foldl (fun t e => tput t e.1 e.2) t) k = v := by
  induction l generalizing t with
  | nil => exact has.resolve_left List.not_mem_nil
  | cons e r ih =>
    rw [List.foldl_cons]
    refine ih _ (fun x hx => agreed x (List.mem_cons_of_mem e hx)) ?_
    by_cases named : e.1 = k
    · right
      rw [named, tget_tput_same, agreed e List.mem_cons_self named]
    · rw [tget_tput_of_ne _ _ _ named]
      exact has.imp_left fun mem => (List.mem_cons.mp mem).resolve_left fun he => named (congrArg Prod.fst he).symm

end

/-- The end of a hold changes no PSP. -/
theorem foldl_holdWritten_psp (l : List Nat) (s : State) : (l.foldl holdWritten s).cle.psp = s.cle.psp := by
  induction l generalizing s with
  | nil => rfl
  | cons n r ih =>
    rw [List.foldl_cons, ih]
    unfold holdWritten
    split
    · split <;> rfl
    · rfl

theorem pspIssue_psp (s : State) (byGuid : Bool) (l : List (Nat × F32)) :
    (pspIssue s byGuid l).cle.psp = l.foldl (fun t e => tput t e.1 e.2) s.cle.psp :=
  foldl_holdWritten_psp _ _

section
variable (s : State) (byGuid : Bool) {l : List (Nat × F32)} {p : Nat}

theorem pspVal_pspIssue_of_absent (absent : ∀ e ∈ l, e.1 ≠ p) : pspVal (pspIssue s byGuid l) p = pspVal s p := by
  unfold pspVal
  rw [pspIssue_psp, tget_foldl_tput_of_absent _ absent]

theorem pspVal_pspIssue_of_named {v : F32} (named : (p, v) ∈ l) (agreed : ∀ e ∈ l, e.1 = p → e.2 = v) :
    pspVal (pspIssue s byGuid l) p = v := by
  unfold pspVal
  rw [pspIssue_psp, tget_foldl_tput_of_agreed _ agreed (.inl named)]

end

theorem pspVal_congr {s t : State} (h : s.cle = t.cle) (p : Nat) : pspVal s p = pspVal t p :=
  congrArg (fun c : Cle => tget f0 c.psp p) h

theorem st_congr {s t : State} (h : s.fns = t.fns) (f : Nat) : s.st f = t.st f := by
  unfold State.st State.fn
  rw [h]

/-- A function ends a change in the state it changes to, whatever state it was in. -/
theorem changeState_st_new (s : State) (f : Nat) (n : FnState) : (changeState s f n).st f = n := by
  by_cases same : s.st f = n
  · exact (congrArg (State.st · f) (if_pos same)).trans same
  · exact changeState_st same

/-- The first issue of a function ends STARTING (07 R230, R241). -/
def firstIssue (f : Nat) (s : State) : State := if s.st f = .starting then changeState s f .running else s

section
variable (f : Nat) (s : State)

/-- It changes the function's state and what sends its event alone. -/
theorem firstIssue_off : (firstIssue f s).off 160 = s.off 160 := by
  unfold firstIssue
  split
  · exact changeState_off _ _ _ _ (Nat.and_self _)
  · rfl

theorem firstIssue_cle : (firstIssue f s).cle = s.cle := cle_of_off (firstIssue_off f s) rfl
theorem firstIssue_planner : (firstIssue f s).planner = s.planner := planner_of_off (firstIssue_off f s) rfl
theorem firstIssue_guid : (firstIssue f s).guid = s.guid := guid_of_off (firstIssue_off f s) rfl

theorem firstIssue_st : (firstIssue f s).st f = if s.st f = .starting then .running else s.st f := by
  unfold firstIssue
  split
  · exact changeState_st_new s f .running
  · rfl

end

/-! ## What a cycle issues -/

theorem planMode_planner (s : State) (m : Nat) : (planMode s m).planner = { s.planner with mode := m } := by
  unfold planMode
  by_cases same : s.planner.mode = m
  · subst same
    exact congrArg State.planner (if_pos rfl)
  · exact congrArg State.planner (if_neg same)

/-- The plan by which an instant issues, and its mode: what the last cycle solved, or the plan before (07 R215). -/
def planChosen (s : State) : State :=
  match s.planner.next with
  | some sol =>
    planMode { s with planner := { s.planner with
      plan := some sol, next := none, solved := satN 4 (s.planner.solved + 1), lastSolved := s.mono } } s.planner.want
  | none => planMode { s with planner := { s.planner with coasted := satN 4 (s.planner.coasted + 1) } } 2

/-- The PSPs of the map as a plan gives them; the first issue ends STARTING (07 R224, R230). -/
def planSent (s : State) (sol : PlanSol) : State :=
  let u := pspIssue s false ((planPsps s).map fun d => (pmPsp d, pspOf s sol s.mono d))
  firstIssue plannerFid { u with planner := { u.planner with issued := true } }

theorem planIssue_eq (s : State) :
    planIssue s = (planChosen s).planner.plan.elim (planChosen s) (planSent (planChosen s)) := by
  have send : ∀ u : State, (match u.planner.plan with | some sol => planSent u sol | none => u) =
      u.planner.plan.elim u (planSent u) := fun u => by cases u.planner.plan <;> rfl
  exact send (planChosen s)

section
variable {s : State}

theorem planChosen_planner_of_solved {sol : PlanSol} (h : s.planner.next = some sol) : (planChosen s).planner =
    { s.planner with
      plan := some sol, next := none, solved := satN 4 (s.planner.solved + 1), lastSolved := s.mono
      mode := s.planner.want } := by
  unfold planChosen
  rw [h]
  exact planMode_planner _ _

theorem planChosen_planner_of_unsolved (h : s.planner.next = none) : (planChosen s).planner =
    { s.planner with coasted := satN 4 (s.planner.coasted + 1), mode := 2 } := by
  unfold planChosen
  rw [h]
  exact planMode_planner _ _

variable (s)

/-- Choosing changes the planner and what sends its event alone. -/
theorem planChosen_off : (planChosen s).off 65568 = s.off 65568 := by
  unfold planChosen
  split <;> simp

theorem planChosen_obj : (planChosen s).planner.obj = s.planner.obj := by
  cases h : s.planner.next
  · rw [planChosen_planner_of_unsolved h]
  · rw [planChosen_planner_of_solved h]

theorem planSent_planner (sol : PlanSol) : (planSent s sol).planner = { s.planner with issued := true } := by
  have issue : ∀ l, (pspIssue s false l).planner = s.planner := fun l =>
    planner_of_off (pspIssue_off s false l _ (Nat.and_self _)) rfl
  unfold planSent
  rw [firstIssue_planner, issue]

theorem planSent_cle (sol : PlanSol) : (planSent s sol).cle =
    (pspIssue s false ((planPsps s).map fun d => (pmPsp d, pspOf s sol s.mono d))).cle :=
  firstIssue_cle _ _

/-- Sending leaves the planner as it was chosen, but for the note that it has issued. -/
theorem planIssue_keeps {α : Type} (f : Planner → α) (hf : ∀ p : Planner, f { p with issued := true } = f p) :
    f (planIssue s).planner = f (planChosen s).planner := by
  rw [planIssue_eq]
  cases (planChosen s).planner.plan with
  | none => rfl
  | some sol => exact (congrArg f (planSent_planner (planChosen s) sol)).trans (hf _)

theorem planIssue_plan : (planIssue s).planner.plan = (planChosen s).planner.plan :=
  planIssue_keeps s Planner.plan fun _ => rfl

variable {s}

/-- With no plan there is nothing to send. -/
theorem planIssue_cle_of_none (h : (planIssue s).planner.plan = none) : (planIssue s).cle = s.cle := by
  rw [planIssue_plan] at h
  rw [planIssue_eq, h]
  exact cle_of_off (planChosen_off s) rfl

theorem planIssue_issued {sol : PlanSol} (h : (planIssue s).planner.plan = some sol) :
    (planIssue s).planner.issued = true := by
  rw [planIssue_plan] at h
  rw [planIssue_eq, h]
  exact congrArg Planner.issued (planSent_planner (planChosen s) sol)

theorem planPsps_congr {t : State} (h : s.applied = t.applied) : planPsps s = planPsps t := by
  unfold planPsps State.app
  rw [h]

theorem pspOf_congr {t : State} (h : s.planner.obj = t.planner.obj) (sol : PlanSol) (n : Nat) (d : Bytes) :
    pspOf s sol n d = pspOf t sol n d := by
  unfold pspOf
  rw [h]

/-- A PSP that one entry of the map names gets that entry's value of the plan (07 R224). -/
theorem pspVal_planIssue {sol : PlanSol} (h : (planIssue s).planner.plan = some sol) {d : Bytes}
    (mapped : d ∈ planPsps s) (alone : ∀ e ∈ planPsps s, pmPsp e = pmPsp d → e = d) :
    pspVal (planIssue s) (pmPsp d) = pspOf s sol s.mono d := by
  have values : ((planPsps (planChosen s)).map fun e => (pmPsp e, pspOf (planChosen s) sol (planChosen s).mono e)) =
      (planPsps s).map fun e => (pmPsp e, pspOf s sol s.mono e) := by
    rw [planPsps_congr (applied_of_off (planChosen_off s) rfl), mono_of_off (planChosen_off s) rfl]
    exact List.map_congr_left fun e _ => by rw [pspOf_congr (planChosen_obj s)]
  rw [planIssue_plan] at h
  rw [planIssue_eq, h]
  refine (pspVal_congr (planSent_cle (planChosen s) sol) _).trans ?_
  rw [values]
  refine pspVal_pspIssue_of_named _ _ (List.mem_map_of_mem mapped) fun e he named => ?_
  obtain ⟨x, hx, rfl⟩ := List.mem_map.mp he
  rw [alone x hx named]

end

/-! ## What a cycle takes -/

theorem cvCycle_keeps {α : Type} (f : Planner → α) (hf : ∀ (p : Planner) c, f { p with cvs := c } = f p)
    (s : State) (j : Nat) : f (cvCycle s j).planner = f s.planner := by
  unfold cvCycle
  dsimp only
  split
  · rfl
  · split
    · split <;> exact hf _ _
    · exact hf _ _

/-- The six CVs' turns leave the rest of the planner alone. -/
theorem forN_cvCycle_keeps {α : Type} (f : Planner → α) (hf : ∀ (p : Planner) c, f { p with cvs := c } = f p)
    (n : Nat) (s : State) : f (forN n cvCycle s).planner = f s.planner := by
  unfold forN
  induction List.range n generalizing s with
  | nil => rfl
  | cons j r ih => rw [List.foldl_cons, ih, cvCycle_keeps f hf]

/-- What a cycle's instant leaves in the planner beside its measurements (07 R213). -/
structure CycleTaken (s : State) (x : Planner) : Prop where
  cycleTick : x.cycleTick = s.mono
  cycleTime : x.cycleTime = s.now
  next : x.next = none
  obj : x.obj = objectivesNow s
  running : x.running = mayWork s 2
  head : x.head = s.headwind
  cap : x.cap = capNow s
  plan : x.plan = s.planner.plan
  committed : x.committed = s.planner.committed
  lastSolved : x.lastSolved = s.planner.lastSolved

theorem cycleTaken_planTake (s : State) : CycleTaken s (planTake s).planner := by
  unfold planTake
  constructor <;> dsimp only
  case cycleTick => exact forN_cvCycle_keeps Planner.cycleTick (fun _ _ => rfl) 6 _
  case cycleTime => exact forN_cvCycle_keeps Planner.cycleTime (fun _ _ => rfl) 6 _
  case next => exact forN_cvCycle_keeps Planner.next (fun _ _ => rfl) 6 _
  case obj => exact forN_cvCycle_keeps Planner.obj (fun _ _ => rfl) 6 _
  case running => exact forN_cvCycle_keeps Planner.running (fun _ _ => rfl) 6 _
  case head => exact forN_cvCycle_keeps Planner.head (fun _ _ => rfl) 6 _
  case cap => exact forN_cvCycle_keeps Planner.cap (fun _ _ => rfl) 6 _
  case plan => exact forN_cvCycle_keeps Planner.plan (fun _ _ => rfl) 6 _
  case committed => exact forN_cvCycle_keeps Planner.committed (fun _ _ => rfl) 6 _
  case lastSolved => exact forN_cvCycle_keeps Planner.lastSolved (fun _ _ => rfl) 6 _

/-! ## PLANNER_CYCLE -/

theorem live_iff {n : FnState} : n.live = true ↔ n = .starting ∨ n = .running := by
  cases n <;> simp [FnState.live]

theorem idle_iff {n : FnState} : n.idle = true ↔ n = .off ∨ n = .config := by
  cases n <;> simp [FnState.idle]

section
variable {s : State}

theorem xPlannerCycle_of_idle (h : planDue s = false ∨ (s.st plannerFid).idle = true) : xPlannerCycle s = s := by
  unfold xPlannerCycle
  split
  · rename_i due
    rcases idle_iff.mp (h.resolve_left (by simp [due])) with hs | hs <;> rw [hs]
  · rfl

section
variable (due : planDue s = true)
include due

theorem xPlannerCycle_of_live (hl : (s.st plannerFid).live = true) :
    xPlannerCycle s = if s.planner.committed then planTake (planIssue s) else s := by
  refine (if_pos due).trans ?_
  rcases live_iff.mp hl with hs | hs <;> rw [hs]

/-- In STOPPING and FAULTED a cycle moves the PSPs that the planner has issued a step to their fallback (07 R231). -/
theorem xPlannerCycle_of_ending (he : s.st plannerFid = .stopping ∨ s.st plannerFid = .faulted) : xPlannerCycle s =
    let d : State := { s with planner := { s.planner with cycleTick := s.mono, cycleTime := s.now } }
    if s.planner.issued then fallbackIssue d (cycleSecs s) else d := by
  refine (if_pos due).trans ?_
  rcases he with hs | hs <;> rw [hs]

end

end

end Sys2Proof.Machine
end

section
/-! SUPPORT. The planner's plans, and its rows under their conditions (07 R215, R218, R222, R230, R231, R246). -/

namespace Sys2Proof.Machine

/-- A row that acts under a condition, and else changes nothing of its own. -/
theorem next_settle_ite_of_guard {guard : Bool} {P : Prop} {t s : State} (hg : guard = true ↔ P) :
    (P → (.next (settle (if guard then t else s)) : Host.Outcome State Fault Refusal) = .next (settle t)) ∧
    (¬ P → (.next (settle (if guard then t else s)) : Host.Outcome State Fault Refusal) = .next (settle s)) :=
  ⟨fun h => next_settle_congr (if_pos (hg.mpr h)), fun h => next_settle_congr (if_neg (mt hg.mp h))⟩

/-! ## Plans -/

theorem nearBest_iff (least cost : F32) : nearBest least cost = true ↔
    (fLe f0 least = true → fLt least cost = true → fLe cost (fMul (fDec 1001 1000) least) = true) := by
  unfold nearBest
  cases fLe f0 least <;> cases fLt least cost <;> simp

theorem holdRates_length (d : Bytes) (prev : F32) (l : List F32) : (holdRates d prev l).length = l.length := by
  induction l generalizing prev with
  | nil => rfl
  | cons x r ih => exact congrArg (· + 1) (ih _)

/-- Every value of a planned trajectory lies in its variable's range (07 R218). -/
theorem clamped_of_mem_holdRates {d : Bytes} {prev v : F32} {l : List F32} (h : v ∈ holdRates d prev l) :
    ∃ x, v = fClamp x (mvMin d) (mvMax d) := by
  induction l generalizing prev with
  | nil => cases h
  | cons x r ih =>
    rcases List.mem_cons.mp h with rfl | later
    · exact ⟨_, rfl⟩
    · exact ih later

section
variable {s : State} {mvs : List (List F32)} {i : Nat}

theorem trajectory_of_unplanned (h : planned (s.mvCfg i) = false) :
    trajectory s mvs i = List.replicate 33 (mvStart s i) :=
  if_neg (ne_true_of_eq_false h)

theorem trajectory_of_planned (h : planned (s.mvCfg i) = true) : trajectory s mvs i = mvStart s i ::
    holdRates (s.mvCfg i) (mvStart s i) ((List.range 32).map fun k => (mvs.getD i []).getD (k + 1) (mvStart s i)) :=
  if_pos h

end

/-- Of the trajectories a plan changes that of a planned speed alone, which guidance's cap may lower (07 R242). -/
theorem planSol_mvs (s : State) (mvs : List (List F32)) :
    ∃ v, (planSol s mvs).mvs = ((List.range 8).map (trajectory s mvs)).set (speedMv s) v ∧
      (mvRole (s.mvCfg (speedMv s)) ≠ 1 → v = ((List.range 8).map (trajectory s mvs)).getD (speedMv s) []) := by
  by_cases speed : mvRole (s.mvCfg (speedMv s)) = 1
  · exact ⟨_, rfl, fun other => absurd speed other⟩
  · refine ⟨_, ?_, fun _ => rfl⟩
    unfold planSol
    dsimp only
    rw [if_neg speed]

theorem planSol_mvs_getD {s : State} {mvs : List (List F32)} {i : Nat} (hi : i < 8) (hr : mvRole (s.mvCfg i) ≠ 1) :
    (planSol s mvs).mvs.getD i [] = trajectory s mvs i := by
  have own : ((List.range 8).map (trajectory s mvs)).getD i [] = trajectory s mvs i := by
    simp [List.getD_eq_getElem?_getD, hi]
  obtain ⟨v, changed, same⟩ := planSol_mvs s mvs
  rw [changed]
  by_cases hs : speedMv s = i
  · subst hs
    rw [same hr, own]
    simp [List.getD_eq_getElem?_getD, hi]
  · rw [← own]
    simp [List.getD_eq_getElem?_getD, List.getElem?_set_ne hs]

/-! ## Faults -/

theorem planFaulted_st (s : State) : (planFaulted s).st plannerFid = .faulted :=
  (st_congr (fns_of_off (emitFault_off _ _ _ _ _ (Nat.and_self _)) rfl) _).trans (changeState_st_new _ _ _)

theorem planFaulted_planner (s : State) :
    (planFaulted s).planner = { s.planner with running := false, next := none, issued := true } :=
  (planner_of_off (emitFault_off _ _ _ _ _ (Nat.and_self _)) rfl).trans
    (planner_of_off (changeState_off _ _ _ _ (Nat.and_self _)) rfl)

/-! ## Start -/

/-- The first cycle instant at least 20 ms after START's check (07 R230). -/
abbrev PlanBegins (s : State) : Prop :=
  s.st plannerFid = .starting ∧ s.planner.committed = false ∧ (s.fn plannerFid).since + 5000000 ≤ s.mono ∧
    atGrid (s.tdNs 0) 0 50000000 = true

theorem planBegins_iff {s : State} : (decide (s.st plannerFid = .starting) && !s.planner.committed &&
    s.past (s.fn plannerFid).since (msT 20) && atGrid (s.tdNs 0) 0 50000000) = true ↔ PlanBegins s := by
  simp only [Bool.and_eq_true, decide_eq_true_eq, Bool.not_eq_true', State.past, and_assoc]
  rfl

/-- The cycles begin by taking the inputs of the first. -/
theorem xPlannerStartCommit_of_due {s : State} (h : PlanBegins s) : ∃ x : Planner,
    x.committed = true ∧ x.lastSolved = s.mono ∧ xPlannerStartCommit s = planTake { s with planner := x } := by
  refine ⟨_, ?_, ?_, if_pos (planBegins_iff.mpr h)⟩ <;> rfl

theorem xPlannerStartCommit_of_undue {s : State} (h : ¬ PlanBegins s) : xPlannerStartCommit s = s :=
  if_neg (mt planBegins_iff.mp h)

/-! ## Stop -/

/-- The state at a row of the stop: a cycle instant not yet had is taken first. -/
def planStopping (s : State) : State := if planDue s then xPlannerCycle s else s

theorem planStopping_eq (s : State) : planStopping s = if planDue s then xPlannerCycle s else s := rfl

/-- 10 s of a stop are over. -/
abbrev PlanStopLate (s : State) : Prop := (s.fn plannerFid).since + 2500000000 ≤ s.mono

/-- A stop may complete (07 R231). -/
abbrev PlanStopDone (s : State) : Prop :=
  PlanStopLate s ∨ ((planStopping s).planner.issued = false ∨ atFallback (planStopping s) = true) ∧
    (planStopping s).planner.cycleTick = s.mono

/-- A late stop puts what the planner has issued at its fallback. -/
def planStopped (s : State) : State :=
  let u := planStopping s
  if u.planner.issued = true ∧ PlanStopLate s then
    pspIssue u false (((planPsps u).filter (pmRamp ·)).map fun d => (pmPsp d, pmFallback d))
  else u

/-- FAULTED is reported as mode 3, and the planner writes its PSPs in it (07 R231, R246). -/
def planFaultShown (s : State) : State :=
  emitFault { s with planner := { s.planner with issued := true } } 0x0601 plannerFid (b1 3 ++ zeros 3)

/-- What a stop that may complete ends in: FAULTED again after a fault, else OFF with the source back at 01. -/
def planEnded (s : State) : State :=
  if (s.fn plannerFid).toFault then
    planFaultShown (finishStop planCheck planCommit plannerFid (planStopped s))
  else finishStop planCheck planCommit plannerFid (returnSrc (planStopped s) 128)

theorem planStopping_mono (s : State) : (planStopping s).mono = s.mono := by
  unfold planStopping
  split
  · exact mono_of_off (xPlannerCycle_off s _ (Nat.and_self _)) rfl
  · rfl

section
variable {s : State}

theorem planStopLate_iff : (planStopping s).past (s.fn plannerFid).since (secT 10) = true ↔ PlanStopLate s := by
  unfold State.past
  rw [planStopping_mono]
  exact decide_eq_true_iff

theorem planStopDone_iff :
    ((!(planStopping s).planner.issued || atFallback (planStopping s)) &&
        decide ((planStopping s).planner.cycleTick = (planStopping s).mono) ||
      (planStopping s).past (s.fn plannerFid).since (secT 10)) = true ↔ PlanStopDone s := by
  rw [Bool.or_eq_true, planStopLate_iff, planStopping_mono, Bool.and_eq_true, Bool.or_eq_true, decide_eq_true_iff,
    Bool.not_eq_true', or_comm]

theorem planStopped_eq : planStopped s =
    if (planStopping s).planner.issued && (planStopping s).past (s.fn plannerFid).since (secT 10) then
      pspIssue (planStopping s) false
        (((planPsps (planStopping s)).filter (pmRamp ·)).map fun d => (pmPsp d, pmFallback d))
    else planStopping s := by
  unfold planStopped
  dsimp only
  exact if_congr (by rw [Bool.and_eq_true, planStopLate_iff]) rfl rfl

theorem xPlannerStopComplete_of_other (hs : s.st plannerFid ≠ .stopping) : xPlannerStopComplete s = s :=
  if_neg hs

theorem xPlannerStopComplete_of_stopping (hs : s.st plannerFid = .stopping) :
    xPlannerStopComplete s = if PlanStopDone s then planEnded s else planStopping s := by
  unfold xPlannerStopComplete
  dsimp only
  rw [if_pos (show (s.fn plannerFid).st = .stopping from hs), ← planStopping_eq]
  refine if_congr planStopDone_iff ?_ rfl
  unfold planEnded
  rw [planStopped_eq]
  split <;> rfl

end

/-! ## CV_OVER_LIMIT_TIMEOUT -/

/-- A CV has stood above its limit for 2 s and has not been reported (07 R246). -/
abbrev CvOver (s : State) (j : Nat) : Prop :=
  planActive s = true ∧ (s.cv j).overSent = false ∧ ∃ t, (s.cv j).overFrom = some t ∧ t + 500000000 ≤ s.mono

section
variable {s : State} {j : Nat}

theorem xCvOverLimitTimeout_of_over (h : CvOver s j) : xCvOverLimitTimeout j s =
    emit (s.setCv j { s.cv j with overSent := true }) 0x0602 plannerFid (b1 j ++ zeros 3 ++ leF (s.cv j).meas) := by
  obtain ⟨active, unsent, t, ht, past⟩ := h
  unfold xCvOverLimitTimeout
  dsimp only
  rw [ht]
  exact if_pos (by simp [active, unsent, State.past, secT, past])

theorem xCvOverLimitTimeout_of_other (h : ¬ CvOver s j) : xCvOverLimitTimeout j s = s := by
  unfold xCvOverLimitTimeout
  dsimp only
  split
  · rename_i t ht
    refine if_neg fun guard => h ?_
    simp only [Bool.and_eq_true, Bool.not_eq_true', State.past, decide_eq_true_eq] at guard
    obtain ⟨⟨active, unsent⟩, past⟩ := guard
    exact ⟨active, unsent, t, ht, past⟩
  · rfl

end

end Sys2Proof.Machine

namespace Sys2Proof

open Machine

/-- Settles O36: an issue by the writes that name a PSP, a cycle by the planner's state, each other row by its
condition. -/
theorem planner : Obligations.Planner := by
  unfold Obligations.Planner
  refine ⟨fun s byGuid l p => ⟨pspVal_pspIssue_of_absent s byGuid, fun v => pspVal_pspIssue_of_named s byGuid⟩,
    fun s => ?cycle,
    fun s => ⟨fun sol h => ?solved, fun h => ?coasted, planIssue_cle_of_none, fun sol h =>
      ⟨planIssue_issued h, fun d mapped alone => pspVal_planIssue h mapped alone⟩⟩,
    fun s => ?take, fun mvs s => next_ite_of_guard ?answer,
    fun mvs s => ⟨rfl, fun i hi hr => planSol_mvs_getD hi hr⟩,
    fun s mvs i => ⟨trajectory_of_unplanned, fun h => ?trajectory⟩, fun s => ?coast, fun s => ?begin, fun s => ?stop,
    fun j s => ⟨fun h => congrArg Host.Outcome.next (xCvOverLimitTimeout_of_over h),
      fun h => congrArg Host.Outcome.next (xCvOverLimitTimeout_of_other h)⟩⟩
  case cycle =>
    refine ⟨fun h => next_settle_congr (xPlannerCycle_of_idle h), fun due live => ?_, fun due ending => ?_⟩
    · have run := next_settle_congr (xPlannerCycle_of_live due live)
      exact ⟨fun hc => run.trans (next_settle_congr (if_pos hc)),
        fun hc => run.trans (next_settle_congr (if_neg (ne_true_of_eq_false hc)))⟩
    · have run := next_settle_congr (xPlannerCycle_of_ending due ending)
      exact ⟨fun hi => run.trans (next_settle_congr (if_pos hi)),
        fun hi => run.trans (next_settle_congr (if_neg (ne_true_of_eq_false hi)))⟩
  case solved =>
    have chosen := planChosen_planner_of_solved h
    exact ⟨(planIssue_plan s).trans (congrArg Planner.plan chosen),
      (planIssue_keeps s Planner.lastSolved fun _ => rfl).trans (congrArg Planner.lastSolved chosen),
      (planIssue_keeps s Planner.solved fun _ => rfl).trans (congrArg Planner.solved chosen)⟩
  case coasted =>
    have chosen := planChosen_planner_of_unsolved h
    exact ⟨(planIssue_plan s).trans (by rw [chosen]),
      (planIssue_keeps s Planner.coasted fun _ => rfl).trans (by rw [chosen])⟩
  case take =>
    obtain ⟨cycleTick, cycleTime, next, obj, running, head, cap, plan, -, -⟩ := cycleTaken_planTake s
    exact ⟨cycleTick, cycleTime, next, obj, running, head, cap, plan,
      cle_of_off (planTake_off s _ (Nat.and_self _)) rfl⟩
  case answer => simp only [Bool.and_eq_true, decide_eq_true_eq, nearBest_iff, and_assoc]
  case trajectory =>
    exact ⟨_, trajectory_of_planned h, by simp [holdRates_length], fun v hv => clamped_of_mem_holdRates hv⟩
  case coast =>
    have guard : (planActive s && s.past s.planner.lastSolved (msT (pfCoast s.feedCfg))) = true ↔
        planActive s = true ∧ s.planner.lastSolved + 250000 * pfCoast s.feedCfg ≤ s.mono :=
      (Bool.and_eq_true _ _).to_iff.trans (and_congr_right' decide_eq_true_iff)
    exact ⟨(next_settle_ite_of_guard guard).1, (next_settle_ite_of_guard guard).2, planFaulted_st s,
      congrArg Planner.running (planFaulted_planner s), congrArg Planner.next (planFaulted_planner s)⟩
  case begin =>
    refine ⟨fun h => ?_, fun h => next_settle_congr (xPlannerStartCommit_of_undue h)⟩
    obtain ⟨x, hc, hl, run⟩ := xPlannerStartCommit_of_due h
    have taken := cycleTaken_planTake { s with planner := x }
    exact ⟨_, next_settle_congr run, taken.committed.trans hc, taken.lastSolved.trans hl, taken.cycleTick⟩
  case stop =>
    rw [← planStopping_eq s]
    refine ⟨fun hs => next_settle_congr (xPlannerStopComplete_of_other hs), fun hs hd => ?_, fun hs hd hf => ?_,
      fun hs hd hf => ?_⟩ <;> refine next_settle_congr ((xPlannerStopComplete_of_stopping hs).trans ?_)
    · exact if_neg hd
    · exact (if_pos hd).trans (if_neg (ne_true_of_eq_false hf))
    · exact (if_pos hd).trans ((if_pos hf).trans (congrArg planFaultShown rfl))

end Sys2Proof
end

section
/-! SUPPORT. Guidance's instants, losses, start and stop, and the poses it works with (07 R235 to R241). -/

namespace Sys2Proof.Machine

/-! ## An instant -/

section
variable {s : State} {row : GuidGeom}

theorem geomOk_iff : geomOk s row = true ↔
    (s.guid.committed = true → (s.st guidFid).live = true → ∀ x, guidGeom s = some x → row = x) := by
  unfold geomOk guidLive
  cases s.guid.committed <;> cases (s.st guidFid).live <;> cases guidGeom s <;> simp

/-- An instant not yet had, with the geometry that pose and path, or edge and ego-motion, give it. -/
abbrev InstantTaken (s : State) (row : GuidGeom) : Prop :=
  guidDue s = true ∧
    (s.guid.committed = true → (s.st guidFid).live = true → ∀ x, guidGeom s = some x → row = x)

theorem instantTaken_iff : (guidDue s && geomOk s row) = true ↔ InstantTaken s row := by
  rw [Bool.and_eq_true, geomOk_iff]

/-- The angle of the instant before as it is issued (07 R235). -/
def guidSteered (s : State) (a : F32) : State :=
  let u := pspIssue s true [(gdPsp s.guidCfg, a)]
  firstIssue guidFid { u with guid := { u.guid with issued := true } }

theorem guidIssue_of_none (h : s.guid.angle = none) : guidIssue s = s := by
  unfold guidIssue
  rw [h]

theorem guidIssue_of_some {a : F32} (h : s.guid.angle = some a) : guidIssue s = guidSteered s a := by
  unfold guidIssue
  rw [h]
  rfl

variable (s) (a : F32)

theorem guidSteered_guid : (guidSteered s a).guid = { s.guid with issued := true } := by
  have issue : (pspIssue s true [(gdPsp s.guidCfg, a)]).guid = s.guid :=
    guid_of_off (pspIssue_off _ _ _ _ (Nat.and_self _)) rfl
  unfold guidSteered
  rw [firstIssue_guid, issue]

theorem guidSteered_cle : (guidSteered s a).cle = (pspIssue s true [(gdPsp s.guidCfg, a)]).cle :=
  firstIssue_cle _ _

theorem guidSteered_st :
    (guidSteered s a).st guidFid = if s.st guidFid = .starting then .running else s.st guidFid := by
  have issue : (pspIssue s true [(gdPsp s.guidCfg, a)]).st guidFid = s.st guidFid :=
    st_congr (fns_of_off (pspIssue_off _ _ _ _ (Nat.and_self _)) rfl) _
  rw [← issue]
  exact firstIssue_st _ _

theorem pspVal_guidSteered_same : pspVal (guidSteered s a) (gdPsp s.guidCfg) = a :=
  (pspVal_congr (guidSteered_cle s a) _).trans
    (pspVal_pspIssue_of_named s true List.mem_cons_self fun _ he _ => (List.mem_singleton.mp he) ▸ rfl)

theorem pspVal_guidSteered_of_ne {p : Nat} (h : p ≠ gdPsp s.guidCfg) : pspVal (guidSteered s a) p = pspVal s p :=
  (pspVal_congr (guidSteered_cle s a) _).trans
    (pspVal_pspIssue_of_absent s true fun _ he => (List.mem_singleton.mp he) ▸ h.symm)

/-- Issuing leaves guidance as it was, but for the note that it has issued. -/
theorem guidIssue_keeps {α : Type} (f : Guid → α) (hf : ∀ g : Guid, f { g with issued := true } = f g) :
    f (guidIssue s).guid = f s.guid := by
  cases h : s.guid.angle with
  | none => rw [guidIssue_of_none h]
  | some a => rw [guidIssue_of_some h, guidSteered_guid, hf]

theorem guidIssue_mono : (guidIssue s).mono = s.mono := mono_of_off (guidIssue_off s _ (Nat.and_self _)) rfl
theorem guidIssue_fus : (guidIssue s).fus = s.fus := fus_of_off (guidIssue_off s _ (Nat.and_self _)) rfl
theorem guidIssue_path : (guidIssue s).guid.path = s.guid.path := guidIssue_keeps s Guid.path fun _ => rfl
theorem guidIssue_dr : (guidIssue s).guid.dr = s.guid.dr := guidIssue_keeps s Guid.dr fun _ => rfl

theorem guidIssue_guidCfg : (guidIssue s).guidCfg = s.guidCfg := by
  unfold State.guidCfg State.app
  rw [applied_of_off (guidIssue_off s _ (Nat.and_self _)) rfl]

theorem goodTick_guidIssue : goodTick (guidIssue s) = goodTick s := by
  unfold goodTick
  rw [guidIssue_guidCfg, guidIssue_keeps s Guid.pose fun _ => rfl, guidIssue_keeps s Guid.edgeTick fun _ => rfl]

end

/-- The latest pose or edge is not stale (07 R240). -/
def poseFresh (s : State) : Bool :=
  (goodTick s).any fun t => decide (s.mono < t + 250000 * gdPoseStale s.guidCfg)

/-- What an instant issues and computes (07 R235 to R237, R239). -/
def guidComputed (s : State) (row : GuidGeom) : State :=
  let d := s.guidCfg
  let u := guidIssue s
  { u with guid := { u.guid with
    tick := s.mono, ey := row.ey, kap := row.kap, sNear := row.sNear, angle := some (steer d row.ey row.ePsi row.kap)
    path := if gdMode d = 1 then s.guid.path.drop row.retire else s.guid.path
    dr := if gdMode d ≠ 1 ∧ poseFresh s = true then none else s.guid.dr } }

/-- The losses that an instant finds, in their order (07 Table 7.15, log entry 39). -/
def guidJudged (s : State) (row : GuidGeom) : State :=
  if s.fus.ego.mode = 0 then guidLost (guidComputed s row) 4
  else if gdMode s.guidCfg = 1 ∧ row.beyondEnd = true then guidLost (guidComputed s row) 3
  else if fLt (gdXte s.guidCfg) (fAbs row.ey) then guidLost (guidComputed s row) 2
  else guidComputed s row

section
variable {s : State} {row : GuidGeom}

/-- GUIDANCE_INSTANT with a row's geometry. -/
abbrev guidInstant (row : GuidGeom) (s : State) : State :=
  xGuidanceInstant row.ey row.ePsi row.kap row.sNear row.beyondEnd row.retire s

theorem guidInstant_of_refused (h : ¬ InstantTaken s row) : guidInstant row s = s :=
  if_neg (mt instantTaken_iff.mp h)

theorem guidInstant_of_idle (hi : (s.st guidFid).idle = true) : guidInstant row s = s := by
  unfold guidInstant xGuidanceInstant
  split
  · rcases idle_iff.mp hi with hs | hs <;> rw [hs]
  · rfl

theorem guidInstant_of_live (ok : InstantTaken s row) (hl : (s.st guidFid).live = true) :
    guidInstant row s = if s.guid.committed then guidJudged s row else s := by
  have fresh (t : Nat) : (!decide (t + msT (gdPoseStale s.guidCfg) ≤ s.mono)) =
      decide (s.mono < t + 250000 * gdPoseStale s.guidCfg) := by
    rw [← decide_not]
    exact decide_eq_decide.mpr Nat.not_le
  refine (if_pos (instantTaken_iff.mpr ok)).trans ?_
  rcases live_iff.mp hl with hs | hs
  all_goals
    simp only [hs]
    refine if_congr Iff.rfl ?_ rfl
    unfold guidJudged guidComputed poseFresh
    simp only [guidIssue_mono, guidIssue_path, guidIssue_dr, guidIssue_fus, goodTick_guidIssue, State.past,
      Bool.and_eq_true, decide_eq_true_eq, Bool.not_eq_true', decide_eq_false_iff_not]
    cases goodTick s with
    | none => simp only [Option.any_none, ne_eq]
    | some t => simp only [Option.any_some, fresh, ne_eq]

/-- Before the commit an instant changes nothing, whatever its row brings. -/
theorem guidInstant_of_uncommitted (hl : (s.st guidFid).live = true) (hc : s.guid.committed = false) :
    guidInstant row s = s := by
  by_cases ok : InstantTaken s row
  · exact (guidInstant_of_live ok hl).trans (if_neg (ne_true_of_eq_false hc))
  · exact guidInstant_of_refused ok

/-- In STOPPING and FAULTED an instant takes a step of the release action (07 R240). -/
theorem guidInstant_of_ending (ok : InstantTaken s row) (he : s.st guidFid = .stopping ∨ s.st guidFid = .faulted) :
    guidInstant row s = releaseStep { s with guid := { s.guid with tick := s.mono } } := by
  refine (if_pos (instantTaken_iff.mpr ok)).trans ?_
  rcases he with hs | hs <;> rw [hs]

end

/-! ## Losses -/

section
variable {s : State}

theorem guidLost_st (s : State) (c : Nat) : (guidLost s c).st guidFid = .faulted :=
  (st_congr ((fns_of_off (raise_off _ _ _ _ (Nat.and_self _)) rfl).trans
    (fns_of_off (emitFault_off _ _ _ _ _ (Nat.and_self _)) rfl)) _).trans (changeState_st_new _ _ _)

theorem guidLost_angle (s : State) (c : Nat) : (guidLost s c).guid.angle = none :=
  congrArg Guid.angle ((guid_of_off (raise_off _ _ _ _ (Nat.and_self _)) rfl).trans
    ((guid_of_off (emitFault_off _ _ _ _ _ (Nat.and_self _)) rfl).trans
      (guid_of_off (changeState_off _ _ _ _ (Nat.and_self _)) rfl)))

/-- Dead reckoning begins: committed, not yet in it, with no pose or edge that is not stale (07 R240). -/
abbrev PoseLost (s : State) : Prop :=
  guidLive s = true ∧ s.guid.committed = true ∧ s.guid.dr = none ∧
    ∀ t, goodTick s = some t → t + 250000 * gdPoseStale s.guidCfg ≤ s.mono

/-- Dead reckoning has lasted longer than its limit. -/
abbrev DrOver (s : State) : Prop :=
  guidLive s = true ∧ ∃ t, s.guid.dr = some t ∧ t + 250000 * gdDrLimit s.guidCfg < s.mono

theorem xPoseStaleExpiry_of_lost (h : PoseLost s) : xPoseStaleExpiry s =
    emit { s with guid := { s.guid with dr := some s.mono } } 0x0604 guidFid (zeros 4) := by
  obtain ⟨live, committed, dr, stale⟩ := h
  refine if_pos ?_
  cases ht : goodTick s with
  | none => simp [live, committed, dr]
  | some t => simp [live, committed, dr, State.past, msT, stale t ht]

theorem xPoseStaleExpiry_of_other (h : ¬ PoseLost s) : xPoseStaleExpiry s = s := by
  refine if_neg fun guard => h ?_
  rw [Bool.and_eq_true, Bool.and_eq_true, Bool.and_eq_true, Option.isNone_iff_eq_none] at guard
  obtain ⟨⟨⟨live, committed⟩, dr⟩, old⟩ := guard
  refine ⟨live, committed, dr, fun t ht => ?_⟩
  rw [ht] at old
  exact of_decide_eq_true old

theorem xDrLimitExpiry_of_over (h : DrOver s) : xDrLimitExpiry s = guidLost s 1 := by
  obtain ⟨live, t, ht, past⟩ := h
  unfold xDrLimitExpiry
  rw [ht]
  exact if_pos (by simp [live, msT, past])

theorem xDrLimitExpiry_of_other (h : ¬ DrOver s) : xDrLimitExpiry s = s := by
  unfold xDrLimitExpiry
  split
  · rename_i t ht
    refine if_neg fun guard => h ?_
    simp only [Bool.and_eq_true, decide_eq_true_eq] at guard
    exact ⟨guard.1, t, ht, guard.2⟩
  · rfl

/-! ## Stop -/

/-- The state at a row of the stop: an instant not yet had takes its step of the release action first. -/
def guidStopping (s : State) : State :=
  if guidDue s then releaseStep { s with guid := { s.guid with tick := s.mono } } else s

/-- A stop may complete (07 R241). -/
abbrev GuidStopDone (s : State) : Prop :=
  gdRelease s.guidCfg = false ∨ fEq (pspVal (guidStopping s) (gdPsp s.guidCfg)) f0 = true ∨
    (s.fn guidFid).since + 2500000000 ≤ s.mono

/-- FAULTED is reported as GUIDANCE_LOST with no cause of Table 7.15, and raises FSRC129 (07 R240). -/
def guidFaultShown (s : State) : State :=
  raise (emitFault s 0x0603 guidFid (b1 0 ++ zeros 3 ++ leF s.guid.ey)) 129 0

/-- What a stop that may complete ends in: FAULTED with GUIDANCE_LOST after a fault, else OFF with the source back at
01. -/
def guidEnded (s : State) : State :=
  if (s.fn guidFid).toFault then
    guidFaultShown (finishStop guidCheck guidCommit guidFid (guidStopping s))
  else finishStop guidCheck guidCommit guidFid (returnSrc (guidStopping s) 129)

theorem guidStopping_eq (s : State) : guidStopping s =
    if guidDue s then releaseStep { s with guid := { s.guid with tick := s.mono } } else s := rfl

theorem guidStopping_mono (s : State) : (guidStopping s).mono = s.mono := by
  unfold guidStopping
  split
  · exact (mono_of_off (releaseStep_off _ 8192 rfl) rfl).trans rfl
  · rfl

theorem guidStopDone_iff : (!gdRelease s.guidCfg || fEq (pspVal (guidStopping s) (gdPsp s.guidCfg)) f0 ||
    (guidStopping s).past (s.fn guidFid).since (secT 10)) = true ↔ GuidStopDone s := by
  unfold State.past
  rw [Bool.or_eq_true, Bool.or_eq_true, Bool.not_eq_true', guidStopping_mono, decide_eq_true_iff, or_assoc]
  rfl

theorem xGuidanceStopComplete_of_other (hs : s.st guidFid ≠ .stopping) : xGuidanceStopComplete s = s :=
  if_neg hs

theorem xGuidanceStopComplete_of_stopping (hs : s.st guidFid = .stopping) :
    xGuidanceStopComplete s = if GuidStopDone s then guidEnded s else guidStopping s := by
  unfold xGuidanceStopComplete
  dsimp only
  rw [if_pos (show (s.fn guidFid).st = .stopping from hs), ← guidStopping_eq]
  refine if_congr guidStopDone_iff ?_ rfl
  unfold guidEnded
  split <;> rfl

end

/-! ## Poses -/

section
variable {udp : Bool} {port ident : Nat} {raw : Bytes} {s : State}

/-- A pose of the source in force that R238 accepts, but for its time. -/
abbrev PoseAccepted (udp : Bool) (port ident : Nat) (raw : Bytes) (s : State) : Prop :=
  fwRuns s = true ∧
    (let d := poseCfg s
     if udp then psTransport d = 2 ∧ psPort d = port ∧ psUdp d = ident ∧ raw.length = 40
     else psTransport d = 1 ∧ psPort d = port ∧ psId d = ident ∧ 40 ≤ raw.length) ∧
    poseGood (poseCfg s) raw = true

/-- A pose is later than the one in use, where there is one. -/
abbrev PoseLater (raw : Bytes) (s : State) : Prop :=
  ∀ q, s.guid.pose = some q → T96.lt q.time (rdT raw 4) = true

/-- The pose of a record, at the machine frame's origin (07 R238). -/
def poseOf (raw : Bytes) (s : State) : Pose :=
  let d := poseCfg s
  let t := rdT raw 4
  let o := turn (rdF raw 24) (rdF d 8) (rdF d 12)
  { time := t, tick := tickOfNs s (T96.toNs t), got := s.mono, e := fSub (rdF raw 16) o.1
    n := fSub (rdF raw 20) o.2, heading := rdF raw 24 }

theorem poseAccepted_iff :
    (let d := poseCfg s
     fwRuns s &&
      (if udp then decide (psTransport d = 2 ∧ psPort d = port ∧ psUdp d = ident ∧ raw.length = 40)
       else decide (psTransport d = 1 ∧ psPort d = port ∧ psId d = ident ∧ 40 ≤ raw.length)) &&
      poseGood d raw) = true ↔ PoseAccepted udp port ident raw s := by
  cases udp <;> simp [PoseAccepted, and_assoc]

theorem xPoseReceived_of_refused (h : ¬ PoseAccepted udp port ident raw s) : xPoseReceived udp port ident raw s = s :=
  if_neg (mt poseAccepted_iff.mp h)

section
variable (ok : PoseAccepted udp port ident raw s)
include ok

theorem xPoseReceived_of_late (hl : ¬ PoseLater raw s) : xPoseReceived udp port ident raw s =
    { s with guid := { s.guid with discards := s.guid.discards + 1 } } := by
  refine (if_pos (poseAccepted_iff.mpr ok)).trans (if_pos ?_)
  cases hq : s.guid.pose with
  | none => exact absurd (fun q h => nomatch hq.symm.trans h) hl
  | some q => simpa [PoseLater, hq] using hl

theorem xPoseReceived_of_later (hl : PoseLater raw s) : xPoseReceived udp port ident raw s = { s with
    guid := { s.guid with
      pose := some (poseOf raw s), dr := if gdMode s.guidCfg = 1 then none else s.guid.dr } } := by
  refine (if_pos (poseAccepted_iff.mpr ok)).trans (if_neg ?_)
  cases hq : s.guid.pose with
  | none => simp
  | some q => simp [hl q hq]

end

end

/-! ## YIELD_CONFIG_COMMIT -/

/-- TD0 stands at a boundary of a configuration's cut intervals. -/
abbrev AtCut (s : State) (d : Bytes) : Prop := s.tdNs 0 % (1000000 * yPeriod d) < 8

/-- The boundary at which a configuration takes force has come: one of the interval in progress, with none one of its
own (07 R245, log entry 40). -/
abbrev YieldCommits (s : State) (p : Bytes) : Prop := AtCut s (s.yield.cur.elim p (·.cfg))

/-- The interval in progress ends at a commit, where yield was enabled. -/
def yieldEnded (s : State) : State := if yEnable (yieldCfg s) then cutEnd s.mono s else s

/-- A configuration in force; the records go on where yield was enabled, and else begin anew. -/
def yieldForced (s : State) (p : Bytes) : State :=
  let u := yieldEnded s
  let y := { u.yield with cfg := some p, pend := none }
  { u with yield := if yEnable (yieldCfg s) then y else { y with num := 0, done := [] } }

theorem yieldForced_eq (s : State) (p : Bytes) : yieldForced s p = { yieldEnded s with
    yield := { (yieldEnded s).yield with
      cfg := some p, pend := none, num := if yEnable (yieldCfg s) then (yieldEnded s).yield.num else 0
      done := if yEnable (yieldCfg s) then (yieldEnded s).yield.done else [] } } := by
  unfold yieldForced
  cases yEnable (yieldCfg s) <;> rfl

/-- A configuration in force that disables yield. -/
def yieldDisabled (s : State) (p : Bytes) : State :=
  let u := yieldEnded s
  { u with yield := { u.yield with cfg := some p, pend := none, cur := none, done := [] } }

theorem yieldEnded_eq (s : State) : yieldEnded s = if yEnable (yieldCfg s) then cutEnd s.mono s else s := rfl

/-- A commit changes yield alone. -/
theorem yieldForced_off (s : State) (p : Bytes) : (yieldForced s p).off 262144 = s.off 262144 := by
  unfold yieldForced yieldEnded
  split <;> simp

theorem yieldForced_mono (s : State) (p : Bytes) : (yieldForced s p).mono = s.mono :=
  mono_of_off (yieldForced_off s p) rfl

theorem yieldForced_now (s : State) (p : Bytes) : (yieldForced s p).now = s.now := by
  unfold State.now State.td State.dom
  rw [tsu_of_off (yieldForced_off s p) rfl]

theorem xYieldConfigCommit_of_none {s : State} (h : s.yield.pend = none) : xYieldConfigCommit s = s := by
  unfold xYieldConfigCommit
  dsimp only
  rw [h]

section
variable {s : State} {p : Bytes} (hp : s.yield.pend = some p)
include hp

/-- A configuration that waits takes force at its boundary; disabled, yield has no interval then. -/
theorem xYieldConfigCommit_of_pending : xYieldConfigCommit s =
    if YieldCommits s p then
      if yEnable p then if AtCut s p then cutBegin s.now s.mono (yieldForced s p) else yieldForced s p
      else yieldDisabled s p
    else s := by
  unfold xYieldConfigCommit
  dsimp only
  rw [hp, ← yieldEnded_eq]
  refine if_congr (decide_eq_true_iff.trans ?_) (if_congr Iff.rfl (if_congr decide_eq_true_iff ?_ rfl) rfl) rfl
  · unfold YieldCommits
    cases s.yield.cur <;> rfl
  · rw [← yieldForced_now s p, ← yieldForced_mono s p]
    rfl

end

end Sys2Proof.Machine

namespace Sys2Proof

open Machine

/-- Settles O37: the instant, the losses and the stop by the state of guidance and by their conditions, a pose by
whether it is accepted and later than the one in use, a yield configuration by the boundary it waits for. -/
theorem guidanceAndYield : Obligations.GuidanceAndYield := by
  unfold Obligations.GuidanceAndYield
  refine ⟨fun d ey ePsi kap => rfl, fun ey ePsi kap sNear past n s => ?instant, fun s => ?issue, fun s => ?stale,
    fun s => ⟨fun h => next_settle_congr (xDrLimitExpiry_of_over h),
      fun h => next_settle_congr (xDrLimitExpiry_of_other h)⟩,
    fun s c => ⟨guidLost_st s c, guidLost_angle s c⟩, fun s => next_ite_of_guard ?begin, fun s => ?stop,
    fun udp port ident raw s => ?pose, fun s h => congrArg Host.Outcome.next (xYieldConfigCommit_of_none h),
    fun p s hp => ?yield⟩
  case instant =>
    intro row d live ok fresh u v
    refine ⟨?_, fun ok hl hc => ?_, fun ok ending => ?_⟩
    · rintro (refused | idle | ⟨hl, hc⟩)
      · exact next_settle_congr (guidInstant_of_refused (row := row) refused)
      · exact next_settle_congr (guidInstant_of_idle (row := row) idle)
      · exact next_settle_congr (guidInstant_of_uncommitted (row := row) hl hc)
    · have run := next_settle_congr (guidInstant_of_live (row := row) ok hl)
      exact run.trans (next_settle_congr (if_pos hc))
    · exact next_settle_congr (guidInstant_of_ending (row := row) ok ending)
  case issue =>
    refine ⟨guidIssue_of_none, fun a h => ?_⟩
    rw [guidIssue_of_some h]
    exact ⟨congrArg Guid.issued (guidSteered_guid s a), pspVal_guidSteered_same s a,
      fun p hp => pspVal_guidSteered_of_ne s a hp, guidSteered_st s a⟩
  case stale =>
    exact ⟨fun h => congrArg Host.Outcome.next (xPoseStaleExpiry_of_lost h),
      fun h => congrArg Host.Outcome.next (xPoseStaleExpiry_of_other h)⟩
  case begin =>
    simp only [Bool.and_eq_true, decide_eq_true_eq, Bool.not_eq_true', State.past, and_assoc]
    rfl
  case stop =>
    rw [← guidStopping_eq s]
    refine ⟨fun hs => next_settle_congr (xGuidanceStopComplete_of_other hs), fun hs hd => ?_, fun hs hd hf => ?_,
      fun hs hd hf => ?_⟩ <;> refine next_settle_congr ((xGuidanceStopComplete_of_stopping hs).trans ?_)
    · exact if_neg hd
    · exact (if_pos hd).trans (if_neg (ne_true_of_eq_false hf))
    · exact (if_pos hd).trans ((if_pos hf).trans (congrArg guidFaultShown rfl))
  case pose =>
    exact ⟨fun ok late => congrArg Host.Outcome.next (xPoseReceived_of_late ok late),
      fun ok later => congrArg Host.Outcome.next (xPoseReceived_of_later ok later),
      fun refused => congrArg Host.Outcome.next (xPoseReceived_of_refused refused)⟩
  case yield =>
    rw [← yieldEnded_eq s]
    have run := xYieldConfigCommit_of_pending hp
    rw [yieldForced_eq] at run
    exact ⟨fun h => congrArg Host.Outcome.next (run.trans (if_neg h)),
      fun h he => congrArg Host.Outcome.next (run.trans ((if_pos h).trans (if_neg (ne_true_of_eq_false he)))),
      fun h he ha => congrArg Host.Outcome.next (run.trans ((if_pos h).trans ((if_pos he).trans (if_pos ha)))),
      fun h he ha => congrArg Host.Outcome.next (run.trans ((if_pos h).trans ((if_pos he).trans (if_neg ha))))⟩

end Sys2Proof
end

section
/-! SUPPORT. The operations of a load channel: what each makes of the channel's record and what it leaves of the others
(08 R257, R262 to R267). -/

namespace Sys2Proof.Machine

/-! ## The tables of chapter 08 -/

@[simp] theorem setStud_chan (s : State) (v : Nat) (x : Stud) (k : Nat) : (s.setStud v x).chan k = s.chan k := rfl
@[simp] theorem setChan_die (s : State) (k : Nat) (c : Chan) (d : Nat) : (s.setChan k c).die d = s.die d := rfl
@[simp] theorem setChan_chCfg (s : State) (k : Nat) (c : Chan) (j : Nat) : (s.setChan k c).chCfg j = s.chCfg j := rfl

theorem tput_tput_same {κ α : Type} [DecidableEq κ] (t : Tbl κ α) (k : κ) (v w : α) :
    tput (tput t k v) k w = tput t k w := by
  induction t with
  | nil => simp [tput]
  | cons e r ih => by_cases h : e.1 = k <;> simp [tput, h, ih]

theorem setChan_setChan (s : State) (k : Nat) (c d : Chan) : (s.setChan k c).setChan k d = s.setChan k d :=
  congrArg (fun t => ({ s with lsw := { s.lsw with chans := t } } : State)) (tput_tput_same s.lsw.chans k c d)

/-- What a block's table of channels shows depends on the block alone. -/
theorem chan_congr {s t : State} (h : t.lsw = s.lsw) (k : Nat) : t.chan k = s.chan k :=
  congrArg (fun l : Lsw => tget ({} : Chan) l.chans k) h

theorem stud_congr {s t : State} (h : t.lsw = s.lsw) (v : Nat) : t.stud v = s.stud v :=
  congrArg (fun l : Lsw => tget ({} : Stud) l.studs v) h

theorem die_congr {s t : State} (h : t.lsw = s.lsw) (d : Nat) : t.die d = s.die d :=
  congrArg (fun l : Lsw => tget ({} : Die) l.dies d) h

theorem chCfg_congr {s t : State} (h : t.applied = s.applied) (k : Nat) : t.chCfg k = s.chCfg k :=
  congrArg (fun a : Tbl Obj Bytes => tget (defCfg (.chan k)) a (.chan k)) h

/-! ## Reports -/

theorem emit_lsw (s : State) (code func : Nat) (data : Bytes) : (emit s code func data).lsw = s.lsw :=
  lsw_of_off (emit_off s code func data _ (Nat.and_self _)) rfl

theorem emitFault_lsw (s : State) (code func : Nat) (data : Bytes) : (emitFault s code func data).lsw = s.lsw :=
  lsw_of_off (emitFault_off s code func data _ (Nat.and_self _)) rfl

theorem raise_lsw (s : State) (n detail : Nat) : (raise s n detail).lsw = s.lsw :=
  lsw_of_off (raise_off s n detail _ (Nat.and_self _)) rfl

theorem chanReport_lsw (s0 s : State) (k : Nat) : (chanReport s0 s k).lsw = s.lsw :=
  lsw_of_off (chanReport_off s0 s k _ (Nat.and_self _)) rfl

theorem supplySource_lsw (s : State) (v : Nat) : (supplySource s v).lsw = s.lsw :=
  lsw_of_off (supplySource_off s v _ (Nat.and_self _)) rfl

theorem changeState_lsw (s : State) (f : Nat) (n : FnState) : (changeState s f n).lsw = s.lsw :=
  lsw_of_off (changeState_off s f n _ (Nat.and_self _)) rfl

/-- The report of an operation leaves what the operation made of the block. -/
@[simp] theorem chanDo_chan (s : State) (k : Nat) (f : State → State) (j : Nat) :
    (chanDo s k f).chan j = (f s).chan j := chan_congr (chanReport_lsw s (f s) k) j

@[simp] theorem chanDo_die (s : State) (k : Nat) (f : State → State) (d : Nat) :
    (chanDo s k f).die d = (f s).die d := die_congr (chanReport_lsw s (f s) k) d

/-! ## The output state -/

theorem outState_of_latched {s : State} {k : Nat} (h : (s.chan k).latch.isSome = true) : outState s k = 7 := if_pos h

theorem outState_of_locked {s : State} {k : Nat} (h : (s.chan k).latch = none) (hl : (s.chan k).lock.isSome = true) :
    outState s k = 8 := by
  unfold outState
  simp [h, hl]

/-! ## What an operation makes of its channel -/

/-- A channel's record with its output off, and with it whatever was under way. -/
def Chan.switchedOff (c : Chan) (d : Drive) : Chan := { c with
  drive := d, conducting := false, turnOn := false, attempt := false, dieWait := false, studWait := false
  limFrom := none, limRun := 0, retryFrom := none, retryRun := 0 }

section
variable (s : State) (k : Nat)

@[simp] theorem unqueue_chan (j : Nat) : (unqueue s k).chan j = s.chan j := rfl

@[simp] theorem switchOff_chan (d : Drive) : (switchOff s k d).chan k = (s.chan k).switchedOff d :=
  setChan_chan _ k _

@[simp] theorem gustEnd_chan (outcome : Nat) : (gustEnd s k outcome).chan k = { s.chan k with gust := false } := by
  unfold gustEnd
  dsimp only
  split
  · split
    · rw [chan_congr (emitFault_lsw _ _ _ _), setChan_chan]
    · rw [chan_congr (emit_lsw _ _ _ _), setChan_chan]
  · rename_i h
    cases hc : s.chan k
    simp_all

@[simp] theorem latchNow_chan (cause : Nat) : (latchNow s k cause).chan k =
    { (s.chan k).switchedOff .off with gust := false, latch := some ((s.chan k).latch.getD cause) } := by
  unfold latchNow
  dsimp only
  cases h : (s.chan k).latch <;> simp [Chan.switchedOff, h]

end

end Sys2Proof.Machine
end

section
/-! SUPPORT. What an operation on one load channel leaves alone, and an operation carried out on one channel after the
other (08 R261 to R267). -/

namespace Sys2Proof.Machine

/-- Beside what is sent and the collector, nothing changes but channels and the queues of the studs. -/
structure ChannelsOnly (s t : State) : Prop where
  off : t.off 32864 = s.off 32864
  stud : ∀ v, ∃ q, t.stud v = { s.stud v with queue := q }

/-- Of the channels, one alone changes. -/
structure OneChannel (k : Nat) (s t : State) : Prop extends ChannelsOnly s t where
  other : ∀ j, j ≠ k → t.chan j = s.chan j

theorem ChannelsOnly.refl (s : State) : ChannelsOnly s s := ⟨rfl, fun v => ⟨(s.stud v).queue, rfl⟩⟩

section
variable {s t u : State} {k : Nat}

theorem ChannelsOnly.trans (h : ChannelsOnly s t) (g : ChannelsOnly t u) : ChannelsOnly s u where
  off := g.off.trans h.off
  stud v := by
    obtain ⟨p, hp⟩ := h.stud v
    obtain ⟨q, hq⟩ := g.stud v
    exact ⟨q, by rw [hq, hp]⟩

theorem ChannelsOnly.mono (h : ChannelsOnly s t) : t.mono = s.mono := mono_of_off h.off rfl

theorem ChannelsOnly.chCfg (h : ChannelsOnly s t) (k : Nat) : t.chCfg k = s.chCfg k :=
  chCfg_congr (applied_of_off h.off rfl) k

theorem OneChannel.trans (h : OneChannel k s t) (g : OneChannel k t u) : OneChannel k s u where
  toChannelsOnly := h.toChannelsOnly.trans g.toChannelsOnly
  other j hj := (g.other j hj).trans (h.other j hj)

/-- A report changes no channel. -/
theorem oneChannel_of_report (h : t.off 96 = s.off 96) : OneChannel k s t where
  off := off_of_subset rfl h
  stud v := ⟨(s.stud v).queue, stud_congr (lsw_of_off h rfl) v⟩
  other j _ := chan_congr (lsw_of_off h rfl) j

end

section
variable (s : State) (k : Nat)

theorem OneChannel.refl : OneChannel k s s := ⟨.refl s, fun _ _ => rfl⟩

theorem oneChannel_setChan (c : Chan) : OneChannel k s (s.setChan k c) where
  off := State_setChan_off s k c 32864 rfl
  stud v := ⟨(s.stud v).queue, rfl⟩
  other _ hj := setChan_chan_of_ne s c hj.symm

theorem oneChannel_setQueue (v : Nat) (q : List (Nat × Nat)) :
    OneChannel k s (s.setStud v { s.stud v with queue := q }) where
  off := State_setStud_off s v _ 32864 rfl
  stud w := by
    by_cases h : v = w
    · exact ⟨q, by rw [← h, setStud_stud]⟩
    · exact ⟨(s.stud w).queue, setStud_stud_of_ne s _ h⟩
  other _ _ := rfl

theorem oneChannel_chanDo {f : State → State} (h : OneChannel k s (f s)) : OneChannel k s (chanDo s k f) :=
  h.trans (oneChannel_of_report (chanReport_off s (f s) k 96 rfl))

theorem oneChannel_unqueue : OneChannel k s (unqueue s k) := oneChannel_setQueue s k _ _

theorem oneChannel_switchOff (d : Drive) : OneChannel k s (switchOff s k d) :=
  (oneChannel_unqueue s k).trans (oneChannel_setChan _ k _)

theorem oneChannel_gustEnd (outcome : Nat) : OneChannel k s (gustEnd s k outcome) := by
  unfold gustEnd
  dsimp only
  split
  · split
    · exact (oneChannel_setChan s k _).trans (oneChannel_of_report (emitFault_off _ _ _ _ 96 rfl))
    · exact (oneChannel_setChan s k _).trans (oneChannel_of_report (emit_off _ _ _ _ 96 rfl))
  · exact .refl s k

theorem oneChannel_grantOn : OneChannel k s (grantOn s k) :=
  (oneChannel_unqueue s k).trans (oneChannel_setChan _ k _)

theorem oneChannel_requestStud : OneChannel k s (requestStud s k) := by
  unfold requestStud
  dsimp only
  split
  · exact oneChannel_grantOn s k
  · exact (oneChannel_setQueue s k _ _).trans (oneChannel_setChan _ k _)

theorem oneChannel_requestOn : OneChannel k s (requestOn s k) := by
  unfold requestOn
  split
  · exact oneChannel_requestStud s k
  · exact oneChannel_setChan s k _

theorem oneChannel_turnOn : OneChannel k s (turnOn s k) := by
  unfold turnOn
  dsimp only
  split
  · split
    · exact (oneChannel_setChan s k _).trans (oneChannel_requestOn _ k)
    · exact oneChannel_requestOn s k
  · exact .refl s k

end

/-! ## What a turn-on keeps of its channel -/

/-- A channel's command and what else a turn-on does not touch. -/
structure SameCommand (c d : Chan) : Prop where
  committed : d.committed = c.committed
  cmd : d.cmd = c.cmd
  uv : d.uv = c.uv
  ov : d.ov = c.ov

section
variable (s : State) (k : Nat)

theorem sameCommand_grantOn : SameCommand (s.chan k) ((grantOn s k).chan k) := by
  unfold grantOn
  dsimp only
  rw [setChan_chan]
  exact ⟨rfl, rfl, rfl, rfl⟩

theorem sameCommand_requestOn : SameCommand (s.chan k) ((requestOn s k).chan k) := by
  unfold requestOn requestStud
  dsimp only
  split
  · split
    · exact sameCommand_grantOn s k
    · rw [setChan_chan]
      exact ⟨rfl, rfl, rfl, rfl⟩
  · rw [setChan_chan]
    exact ⟨rfl, rfl, rfl, rfl⟩

theorem sameCommand_turnOn : SameCommand (s.chan k) ((turnOn s k).chan k) := by
  unfold turnOn
  dsimp only
  split
  · split
    · obtain ⟨committed, cmd, uv, ov⟩ := sameCommand_requestOn
        (s.setChan k { s.chan k with gust := true, gustAt := s.mono, charged := 0, uncharged := 0 }) k
      rw [setChan_chan] at committed cmd uv ov
      exact ⟨committed, cmd, uv, ov⟩
    · exact sameCommand_requestOn s k
  · exact ⟨rfl, rfl, rfl, rfl⟩

end

/-! ## One channel after the other -/

section
variable {f : State → Nat → State} (one : ∀ s k, OneChannel k s (f s k)) {l : List Nat}
include one

theorem foldl_channelsOnly (s : State) : ChannelsOnly s (l.foldl f s) := by
  induction l generalizing s with
  | nil => exact .refl s
  | cons k r ih => exact (one s k).toChannelsOnly.trans (ih (f s k))

theorem foldl_chan_of_absent {k : Nat} (hk : k ∉ l) (s : State) : (l.foldl f s).chan k = s.chan k := by
  induction l generalizing s with
  | nil => rfl
  | cons j r ih =>
    obtain ⟨hj, hr⟩ := not_or.mp (mt List.mem_cons.mpr hk)
    exact (ih hr (f s j)).trans ((one s j).other k hj)

/-- A channel named once in a list has its own turn in a state that differs from the first in other channels alone, and
keeps what its turn makes of it. -/
theorem foldl_chan (once : l.Nodup) {k : Nat} (hk : k ∈ l) (s : State) :
    ∃ t, ChannelsOnly s t ∧ t.chan k = s.chan k ∧ (l.foldl f s).chan k = (f t k).chan k := by
  induction l generalizing s with
  | nil => cases hk
  | cons j r ih =>
    obtain ⟨hj, hr⟩ := List.nodup_cons.mp once
    rcases List.mem_cons.mp hk with rfl | hk
    · refine ⟨s, .refl s, rfl, ?_⟩
      exact foldl_chan_of_absent one hj (f s k)
    · obtain ⟨t, ht, hc, he⟩ := ih hr hk (f s j)
      have hne : k ≠ j := fun e => hj (e ▸ hk)
      exact ⟨t, (one s j).toChannelsOnly.trans ht, hc.trans ((one s j).other k hne), he⟩

end

/-- The twelve channels of a stud, each once. -/
theorem nodup_studChans (v : Nat) : (studChans v).Nodup :=
  List.nodup_range.map fun _ _ h => Nat.add_left_cancel h

theorem studOf_of_mem {v k : Nat} (h : k ∈ studChans v) : studOf k = v := by
  obtain ⟨i, hi, rfl⟩ := List.mem_map.mp h
  have := List.mem_range.mp hi
  unfold studOf
  omega

theorem mem_studChans (k : Nat) : k ∈ studChans (studOf k) :=
  List.mem_map.mpr ⟨k % 12, List.mem_range.mpr (Nat.mod_lt k (by decide)), Nat.div_add_mod k 12⟩

end Sys2Proof.Machine
end

section
/-! SUPPORT. What the opcodes of the load channels check, answer and do (08 R282 to R284). -/

namespace Sys2Proof.Machine

/-! ## LSW_COMMAND -/

section
variable {s : State} {p : Bytes}

theorem opLswCommand_of_bad {o : Nat} (h : cmdBad s [] (cmdEntries p) = some o) :
    opLswCommand.body s p = badParam s o := by
  unfold opLswCommand
  dsimp only
  rw [h]

theorem opLswCommand_of_good (h : cmdBad s [] (cmdEntries p) = none) : opLswCommand.body s p =
    okAns ((((cmdEntries p).map fun e => (e.1, e.2.1)).foldr insertCmd []).foldl cmdTo s) := by
  unfold opLswCommand
  dsimp only
  rw [h]

end

/-- The entry at a place is refused: its channel is named before, is a loop's sink, or takes no such value (R282). -/
def CmdRefused (s : State) (seen : List Nat) (l : List (Nat × F32 × Nat)) (i : Nat) (e : Nat × F32 × Nat) : Prop :=
  (e.1 ∈ seen ∨ ∃ (j : Nat) (f : Nat × F32 × Nat), j < i ∧ l[j]? = some f ∧ f.1 = e.1) ∨
    cSrc (s.stg (.chan e.1)) = 1 ∨ cmdValid (s.stg (.chan e.1)) e.2.1 = false

section
variable {s : State} {seen : List Nat} {e x : Nat × F32 × Nat} {l r : List (Nat × F32 × Nat)} {i : Nat}

theorem cmdRefused_zero : CmdRefused s seen l 0 e ↔
    e.1 ∈ seen ∨ cSrc (s.stg (.chan e.1)) = 1 ∨ cmdValid (s.stg (.chan e.1)) e.2.1 = false := by
  simp [CmdRefused]

/-- A channel is named before a later entry in the first one or after it. -/
theorem cmdRefused_succ : CmdRefused s seen (x :: r) (i + 1) e ↔ CmdRefused s (x.1 :: seen) r i e := by
  have named : (∃ (j : Nat) (f : Nat × F32 × Nat), j < i + 1 ∧ (x :: r)[j]? = some f ∧ f.1 = e.1) ↔
      e.1 = x.1 ∨ ∃ (j : Nat) (f : Nat × F32 × Nat), j < i ∧ r[j]? = some f ∧ f.1 = e.1 := by
    constructor
    · rintro ⟨j, f, hj, hf, he⟩
      cases j with
      | zero => exact .inl (Option.some.inj hf ▸ he.symm)
      | succ j => exact .inr ⟨j, f, by omega, hf, he⟩
    · rintro (he | ⟨j, f, hj, hf, he⟩)
      · exact ⟨0, x, by omega, rfl, he.symm⟩
      · exact ⟨j + 1, f, by omega, hf, he⟩
  unfold CmdRefused
  rw [named, List.mem_cons, ← or_assoc (a := e.1 ∈ seen), or_comm (a := e.1 ∈ seen)]

theorem cmdBad_of_refused (h : CmdRefused s seen (x :: r) 0 x) : cmdBad s seen (x :: r) = some x.2.2 := by
  rw [cmdRefused_zero] at h
  unfold cmdBad
  exact if_pos (by simpa [or_assoc] using h)

theorem cmdBad_of_taken (h : ¬ CmdRefused s seen (x :: r) 0 x) :
    cmdBad s seen (x :: r) = cmdBad s (x.1 :: seen) r := by
  rw [cmdRefused_zero] at h
  rw [cmdBad]
  exact if_neg (by simpa [or_assoc] using h)

theorem cmdBad_eq_none_iff : cmdBad s seen l = none ↔ ∀ i e, l[i]? = some e → ¬ CmdRefused s seen l i e := by
  induction l generalizing seen with
  | nil => simp [cmdBad]
  | cons x r ih =>
    by_cases h : CmdRefused s seen (x :: r) 0 x
    · rw [cmdBad_of_refused h]
      exact ⟨fun c => (Option.some_ne_none _ c).elim, fun c => (c 0 x rfl h).elim⟩
    · rw [cmdBad_of_taken h, ih]
      constructor
      · intro c i e he
        cases i with
        | zero => exact Option.some.inj he ▸ h
        | succ i => exact mt cmdRefused_succ.mp (c i e he)
      · exact fun c i e he => mt cmdRefused_succ.mpr (c (i + 1) e he)

/-- The offset in the reply is that of the first entry that is refused. -/
theorem refused_of_cmdBad {o : Nat} (h : cmdBad s seen l = some o) : ∃ i e, l[i]? = some e ∧ e.2.2 = o ∧
    CmdRefused s seen l i e ∧ ∀ j f, j < i → l[j]? = some f → ¬ CmdRefused s seen l j f := by
  induction l generalizing seen with
  | nil => cases h
  | cons x r ih =>
    by_cases hx : CmdRefused s seen (x :: r) 0 x
    · rw [cmdBad_of_refused hx] at h
      exact ⟨0, x, rfl, Option.some.inj h, hx, fun j _ hj => absurd hj (Nat.not_lt_zero j)⟩
    · rw [cmdBad_of_taken hx] at h
      obtain ⟨i, e, he, ho, hb, first⟩ := ih h
      refine ⟨i + 1, e, he, ho, cmdRefused_succ.mpr hb, fun j f hj hf => ?_⟩
      cases j with
      | zero => exact Option.some.inj hf ▸ hx
      | succ j => exact mt cmdRefused_succ.mp (first j f (by omega) hf)

end

section
variable (s : State) (k : Nat) (v : F32)

/-- A channel's record once a command names it: its own hold ends (R278), and the value is the host's. -/
def commanded : Chan :=
  { s.chan k with hold := if lockGroup s k = none then none else (s.chan k).hold, host := v }

/-- A host's command acts on a committed channel that neither a loop nor a safe action commands. -/
abbrev CommandActs : Prop := (s.chan k).committed = true ∧ cSrc (s.chCfg k) = 0 ∧ (s.chan k).forced = none

theorem cmdTo_eq : cmdTo s (k, v) =
    if CommandActs s k then setCmd (s.setChan k (commanded s k v)) k v else s.setChan k (commanded s k v) := by
  have acts (c : Chan) : ((c.committed && decide (cSrc (s.chCfg k) = 0) && c.forced.isNone) = true) =
      (c.committed = true ∧ cSrc (s.chCfg k) = 0 ∧ c.forced = none) := by
    simp [and_assoc]
  unfold cmdTo hostCmd commanded
  by_cases hg : lockGroup s k = none
  · simp [hg, acts, setChan_setChan]
  · simp [hg, acts]

end

/-! ## LSW_STATUS -/

theorem chanEntry_length (s : State) (k : Nat) : (chanEntry s k).length = 32 := by simp [chanEntry]

theorem chanEntries_length (s : State) (a n : Nat) :
    (leT s.now ++ (List.range n).flatMap fun i => chanEntry s (a + i)).length = 12 + 32 * n := by
  simp [List.length_flatMap, chanEntry_length, Nat.mul_comm]

/-! ## LSW_CLEAR -/

/-- The channels that a mask names. -/
def clearNamed (p : Bytes) : List Nat := (List.range 24).filter fun k => (rd p 0 4).testBit k

/-- The ticks that a channel's clamp window has to wait (R284). -/
def hotWait (s : State) (k : Nat) : Nat := hotTicks s (halfBudget s k) (clampsNow s k).reverse

/-- The greatest of some values is that of one of them. -/
theorem exists_foldl_max {α : Type} (f : α → Nat) {l : List α} (nonempty : l ≠ []) :
    ∃ j ∈ l, l.foldl (fun m k => max m (f k)) 0 = f j ∧ ∀ k ∈ l, f k ≤ f j := by
  cases hm : (l.map f).max? with
  | none => exact absurd (List.map_eq_nil_iff.mp (List.max?_eq_none_iff.mp hm)) nonempty
  | some a =>
    obtain ⟨mem, greatest⟩ := List.max?_eq_some_iff.mp hm
    obtain ⟨j, hj, rfl⟩ := List.mem_map.mp mem
    refine ⟨j, hj, ?_, fun k hk => greatest _ (List.mem_map_of_mem hk)⟩
    rw [← List.foldl_map, List.foldl_max, hm]
    exact Nat.zero_max _

section
variable {s : State} {p : Bytes}

theorem opLswClear_of_cold (h : ∀ k ∈ clearNamed p, clampHot s k = false) :
    opLswClear.body s p = okAns ((clearNamed p).foldl clearChan s) := by
  have cold : (clearNamed p).filter (clampHot s) = [] := List.filter_eq_nil_iff.mpr fun k hk => by simp [h k hk]
  unfold opLswClear
  exact if_pos (List.isEmpty_iff.mpr cold)

/-- While a named channel is hot, nothing is released, and the longest wait of them is told. -/
theorem opLswClear_of_hot (h : ∃ k ∈ clearNamed p, clampHot s k = true) :
    ∃ t, (∀ k ∈ clearNamed p, clampHot s k = true → hotWait s k ≤ t) ∧
      (∃ j ∈ clearNamed p, clampHot s j = true ∧ hotWait s j = t) ∧
      opLswClear.body s p = failAns s 0x80 (min 10000 ((t + 249999) / 250000)) := by
  obtain ⟨k, hk, hot⟩ := h
  have nonempty : (clearNamed p).filter (clampHot s) ≠ [] := List.ne_nil_of_mem (List.mem_filter.mpr ⟨hk, hot⟩)
  obtain ⟨j, hj, max_eq, longest⟩ := exists_foldl_max (hotWait s) nonempty
  obtain ⟨named, hot⟩ := List.mem_filter.mp hj
  refine ⟨hotWait s j, fun i hi hot => longest i (List.mem_filter.mpr ⟨hi, hot⟩), ⟨j, named, hot, rfl⟩, ?_⟩
  rw [← max_eq]
  exact if_neg (mt List.isEmpty_iff.mp nonempty)

theorem hotTicks_cons (s : State) (half : F32) (e : Nat × F32) (l : List (Nat × F32)) : hotTicks s half (e :: l) =
    if fLe (fSum ((e :: l).map (·.2))) half then 0 else max (e.1 + 2500000000 - s.mono) (hotTicks s half l) := rfl

end

section
variable {s : State} {k : Nat}

theorem clearChan_of_free (hl : (s.chan k).latch = none) (hk : (s.chan k).lock = none) : clearChan s k = s :=
  if_neg (by simp [hl, hk])

/-- A channel's record once its latches and locks are released (R284). -/
def released (s : State) (k : Nat) : Chan := { s.chan k with
  latch := none, lock := none, charged := 0, uncharged := 0, cmd := f0
  host := if cSrc (s.chCfg k) = 1 then (s.chan k).host else f0, waitCommit := decide (cSrc (s.chCfg k) = 1)
  drive := if (s.chan k).committed then .off else .idle }

theorem clearChan_of_held (h : (s.chan k).latch ≠ none ∨ (s.chan k).lock ≠ none) :
    (clearChan s k).chan k = released s k ∧ ((clearChan s k).die (dieOf k)).trips = [] := by
  have held : ((s.chan k).latch.isSome || (s.chan k).lock.isSome) = true := by
    simpa [Option.isSome_iff_ne_none] using h
  unfold clearChan
  dsimp only
  rw [if_pos held, chanDo_chan, chanDo_die, setChan_chan, setChan_die, setDie_die]
  refine ⟨?_, rfl⟩
  simp only [released, decide_eq_true_eq]
  rfl

end

end Sys2Proof.Machine

namespace Sys2Proof

open Machine

section
variable {op : OpSpec} {h : Hdr} {p : Bytes} {s : State} {i j : Instr}

/-- A command with what follows from it in other blocks, by what its body answers. -/
theorem exec_host_of_accepted (run : exec i s = .next (host op h p j s)) (prompt : waits (heard s h) j = false) {n : Nat}
    (ok : Accepted op h p n s) {a : Ans} (body : op.body (atBody s h) p = a) (size : a.data.length = n) :
    exec i s = .next (settle (replied h op.code p a)) := by
  subst size
  exact run.trans (congrArg _ (host_of_accepted a body ok prompt))

end

/-- Settles O38: a command by the recursion that looks for its first refused entry, and by whether it acts on its
channel; a clearing by whether a named channel is hot, and by whether the channel is held at all. -/
theorem channelCommands : Obligations.ChannelCommands := by
  unfold Obligations.ChannelCommands
  refine ⟨fun h p s ok => ?command, fun s l => ?first, fun s k v => ?taken, fun h p s ok => ?status,
    fun h p s ok => ?clear, fun s k => ⟨clearChan_of_free, fun held => ?held⟩, fun s half => ⟨rfl, fun e l => ?waits⟩⟩
  case command =>
    exact ⟨fun o bad => exec_host_of_accepted rfl rfl ok (opLswCommand_of_bad bad) rfl,
      fun good => exec_host_of_accepted rfl rfl ok (opLswCommand_of_good good) rfl⟩
  case first =>
    have refused (i : Nat) (e : Nat × F32 × Nat) : CmdRefused s [] l i e ↔
        (∃ (j : Nat) (f : Nat × F32 × Nat), j < i ∧ l[j]? = some f ∧ f.1 = e.1) ∨
          cSrc (s.stg (.chan e.1)) = 1 ∨ cmdValid (s.stg (.chan e.1)) e.2.1 = false := by simp [CmdRefused]
    simp only [← refused]
    exact ⟨cmdBad_eq_none_iff, fun o => refused_of_cmdBad⟩
  case taken =>
    exact ⟨fun acts => (cmdTo_eq s k v).trans (if_pos acts), fun stays => (cmdTo_eq s k v).trans (if_neg stays)⟩
  case status => exact exec_read_of_accepted rfl rfl ok rfl (chanEntries_length (atBody s h) _ _)
  case clear =>
    refine ⟨fun cold => exec_host_of_accepted rfl rfl ok (opLswClear_of_cold (s := atBody s h) cold) rfl, fun hot => ?_⟩
    obtain ⟨t, longest, reached, body⟩ := opLswClear_of_hot (s := atBody s h) hot
    exact ⟨t, longest, reached, exec_host_of_accepted rfl rfl ok body rfl⟩
  case held =>
    obtain ⟨hc, ht⟩ := clearChan_of_held held
    dsimp only
    rw [hc]
    exact ⟨rfl, rfl, rfl, rfl, rfl, rfl, rfl, fun hs => if_neg hs, fun hs => decide_eq_true hs, ht⟩
  case waits =>
    rw [hotTicks_cons]
    exact ⟨fun h => if_pos h, fun h => if_neg (ne_true_of_eq_false h)⟩

end Sys2Proof
end

section
/-! SUPPORT. A load channel from its commit to OFF, its turn-ons at the gates, and its periods (08 R253, R254, R262,
R275 to R279; 15 R514, R516). -/

namespace Sys2Proof.Machine

/-! ## Commit -/

/-- The commit instant of a channel has come: of a locked one by its domain, of another by the tick (R275, 05 R163). -/
def chanCommitDue (k : Nat) (s : State) : Bool :=
  match (s.chan k).carrier, (s.chan k).commitNs with
  | some (d, _), some n => decide (n ≤ s.tdNs d)
  | _, _ => decide ((s.chan k).commitTick ≤ s.mono)

/-- A channel at its commit instant: it may conduct, and acts on its command. -/
def committedChan (k : Nat) (s : State) : Chan := { s.chan k with
  committed := true, drive := .off, commitTick := s.mono
  uv := (s.stud (studOf k)).level.any fun x => fLt x (cUvOff (s.chCfg k)), ov := (s.stud (studOf k)).ov
  supplyAt := s.mono, thermal := (s.die (dieOf k)).tooHot
  cmd := if cSrc (s.chCfg k) = 0 then (s.chan k).host else f0 }

/-- RUNNING, with the channel's record and its first turn-on. -/
def channelCommits (k : Nat) (s : State) : State :=
  let t := changeState s (chFid k) .running
  turnOn (t.setChan k (committedChan k t)) k

section
variable {k : Nat} {s : State}

theorem xChannelStartCommit_of_due (hs : s.st (chFid k) = .starting) (due : chanCommitDue k s = true) :
    xChannelStartCommit k s = chanDo s k (channelCommits k) :=
  if_pos (by rw [Bool.and_eq_true, decide_eq_true_eq]; exact ⟨hs, due⟩)

theorem xChannelStartCommit_of_undue (h : s.st (chFid k) ≠ .starting ∨ chanCommitDue k s = false) :
    xChannelStartCommit k s = s :=
  if_neg (by
    rw [Bool.and_eq_true, decide_eq_true_eq]
    rintro ⟨hs, due⟩
    rcases h with h | h
    · exact h hs
    · exact absurd (h.symm.trans due) Bool.false_ne_true)

theorem channelCommits_st : (chanDo s k (channelCommits k)).st (chFid k) = .running := by
  have reported : (chanDo s k (channelCommits k)).fns = (channelCommits k s).fns :=
    fns_of_off (chanReport_off s _ k 96 rfl) rfl
  have turned : (channelCommits k s).fns = (changeState s (chFid k) .running).fns :=
    fns_of_off (turnOn_off _ k 32768 rfl) rfl
  rw [st_congr (reported.trans turned), changeState_st_new]

theorem channelCommits_chan : (chanDo s k (channelCommits k)).chan k = (channelCommits k s).chan k :=
  chanDo_chan s k _ k

theorem channelCommits_sameCommand :
    SameCommand (committedChan k (changeState s (chFid k) .running)) ((channelCommits k s).chan k) := by
  have kept := sameCommand_turnOn ((changeState s (chFid k) .running).setChan k
    (committedChan k (changeState s (chFid k) .running))) k
  rwa [setChan_chan] at kept

theorem committedChan_cmd_changeState (f : Nat) (n : FnState) : (committedChan k (changeState s f n)).cmd =
    if cSrc (s.chCfg k) = 0 then (s.chan k).host else f0 := by
  unfold committedChan
  rw [chCfg_congr (applied_of_off (changeState_off s f n _ (Nat.and_self _)) rfl) k,
    chan_congr (changeState_lsw s f n) k]

end

/-! ## Stop and hold -/

/-- A stopping channel is done: its clamp event is over, or 50 ms have gone (R276). -/
abbrev ChannelStopDone (k : Nat) (s : State) : Prop := (s.fn (chFid k)).st = .stopping ∧
  ((s.chan k).clamping = false ∨ (s.fn (chFid k)).since + 12500000 ≤ s.mono)

/-- The hold of a channel runs out (R278, R279). -/
abbrev ChannelHoldOver (k : Nat) (s : State) : Prop := (s.st (chFid k)).live = true ∧
  ∃ t, (s.chan k).hold = some t ∧ t + 250000 * chanHoldMs s k ≤ s.mono

section
variable {k : Nat} {s : State}

theorem xChannelStopComplete_of_done (h : ChannelStopDone k s) : xChannelStopComplete k s =
    finishStop (chanCheck · k) (chanCommit · k) (chFid k) (if (s.fn (chFid k)).toFault then s else chanOff s k) :=
  if_pos (by
    rw [Bool.and_eq_true, decide_eq_true_eq, Bool.or_eq_true, Bool.not_eq_true']
    exact h.imp_right (Or.imp_right decide_eq_true))

theorem xChannelStopComplete_of_other (h : ¬ ChannelStopDone k s) : xChannelStopComplete k s = s :=
  if_neg (by
    rw [Bool.and_eq_true, decide_eq_true_eq, Bool.or_eq_true, Bool.not_eq_true']
    exact fun c => h (c.imp_right (Or.imp_right of_decide_eq_true)))

/-- Off, a channel has no host value any more (R252). -/
theorem chanOff_chan : ((chanOff s k).chan k).host = f0 ∧ ((chanOff s k).chan k).committed = false := by
  unfold chanOff
  rw [chanDo_chan, setChan_chan]
  exact ⟨rfl, rfl⟩

theorem xChannelHoldExpiry_of_over (h : ChannelHoldOver k s) : xChannelHoldExpiry k s = chanHoldEnd s k := by
  obtain ⟨live, t, ht, past⟩ := h
  unfold xChannelHoldExpiry
  rw [ht]
  exact if_pos (by rw [live]; exact decide_eq_true past)

theorem xChannelHoldExpiry_of_other (h : ¬ ChannelHoldOver k s) : xChannelHoldExpiry k s = s := by
  unfold xChannelHoldExpiry
  cases ht : (s.chan k).hold with
  | none => rfl
  | some t =>
    refine if_neg fun c => h ?_
    obtain ⟨live, past⟩ := Bool.and_eq_true_iff.mp c
    exact ⟨live, t, ht, of_decide_eq_true past⟩

theorem chanSafe_of_off (h : cSafe (s.chCfg k) = 0) :
    chanSafe s k = setCmd (s.setChan k { s.chan k with forced := some f0 }) k f0 := by
  simp only [chanSafe, h]

theorem chanSafe_of_keep (h : cSafe (s.chCfg k) = 1) : chanSafe s k = s := by
  simp only [chanSafe, h]

theorem chanSafe_of_value (h : cSafe (s.chCfg k) = 2) : chanSafe s k =
    setCmd (s.setChan k { s.chan k with forced := some (cSafeV (s.chCfg k)) }) k (cSafeV (s.chCfg k)) := by
  simp only [chanSafe, h]

end

section
variable {check : State → State × Verdict} {commit : State → State} {f : Nat} {s : State}

theorem changeState_fn_pend (n : FnState) : ((changeState s f n).fn f).pend = (s.fn f).pend := by
  unfold changeState
  dsimp only
  split
  · rfl
  · have told (t : State) (code : Nat) (data : Bytes) : (emit t code f data).fn f = t.fn f :=
      congrArg (fun l => tget ({} : Fn) l f) (fns_of_off (emit_off t code f data _ (Nat.and_self _)) rfl)
    rw [told, setFn_fn]

/-- A stop that no START waits for ends in OFF, or in FAULTED where a fault has met it (01 R33). -/
theorem finishStop_st (hp : (s.fn f).pend = none) :
    (finishStop check commit f s).st f = if (s.fn f).toFault then .faulted else .off := by
  cases ht : (s.fn f).toFault with
  | false => rw [finishStop_of_plain ht hp, changeState_st_new]; rfl
  | true =>
    unfold finishStop
    rw [if_pos ht, cancelPend_of_none (by rw [changeState_fn_pend, setFn_fn]; exact hp), changeState_st_new]
    rfl

end

/-! ## Periods -/

section
variable {k : Nat} {v : F32} {s : State}

/-- A period of a channel starts now (R253). -/
abbrev PeriodStarts (k : Nat) (s : State) : Prop :=
  chanFree s k = true ∧ 2 ≤ cMode (s.chCfg k) ∧ periodDue s k = true

/-- The channel's record with the period's start. -/
def periodChan (k : Nat) (s : State) : Chan := { s.chan k with
  periodAt := s.mono, periodNone := false, onFrom := s.mono, periodLen := cT (s.chCfg k) }

/-- The state with the period's start. -/
def periodBegun (k : Nat) (s : State) : State := s.setChan k (periodChan k s)

theorem xPwmPeriodStart_of_other (h : ¬ PeriodStarts k s) : xPwmPeriodStart k v s = s :=
  if_neg (by simpa [and_assoc] using h)

/-- The output that a period gives a channel with this record: none of its own while it is not ON or has its gust. -/
def periodOutput (k : Nat) (v : F32) (x : Chan) (w : State) : State :=
  let d := w.chCfg k
  let dc := periodDuty d x.cmd v
  let u := onTime k d dc.1
  if x.drive = .on ∧ x.gust = false then
    if cMode d = 3 then { w with nonce := w.nonce + 1 }.setChan k
      { x with conducting := true, turnOn := false, duty := Config.freeF32 w.nonce }
    else w.setChan k { x with
      onUnits := u, conducting := decide (0 < u), turnOn := false, capped := dc.2
      duty := fDiv (fOfNat (5 * u)) (fOfNat (2 * cT d)) }
  else w

theorem xPwmPeriodStart_of_start (h : PeriodStarts k s) :
    xPwmPeriodStart k v s = periodOutput k v (periodChan k s) (periodBegun k s) := by
  have begun : xPwmPeriodStart k v s = periodOutput k v ((periodBegun k s).chan k) (periodBegun k s) :=
    (if_pos (by simpa [and_assoc] using h)).trans (if_congr (by simp [periodBegun, periodChan]) rfl rfl)
  rw [begun, periodBegun, setChan_chan]

theorem periodDuty_of_duty {d : Bytes} {cmd : F32} (h : cMode d = 2) : periodDuty d cmd v = (cmd, false) :=
  if_neg (by omega)

theorem onTime_of_off {d : Bytes} {dc : F32} (h : fLe dc f0 = true) : onTime k d dc = 0 := if_pos h

theorem onTime_of_whole {d : Bytes} {dc : F32} (h : fLe dc f0 = false) (hw : fLe f1 dc = true) :
    onTime k d dc = cT d * 2 / 5 := (if_neg (ne_true_of_eq_false h)).trans (if_pos hw)

theorem onTime_of_part {d : Bytes} {dc : F32} (h : fLe dc f0 = false) (hw : fLe f1 dc = false) : onTime k d dc =
    min (max (fScaleRound dc (cT d * 2) 5) (tMin k)) (cT d * 2 / 5 - tMin k) :=
  (if_neg (ne_true_of_eq_false h)).trans (if_neg (ne_true_of_eq_false hw))

end

/-! ## Turn-ons -/

section
variable {k : Nat} {s : State}

/-- The record of a channel with a gust that begins (R262). -/
def gustChan (k : Nat) (s : State) : Chan :=
  { s.chan k with gust := true, gustAt := s.mono, charged := 0, uncharged := 0 }

/-- A channel that is off turns on for its command (R262). -/
abbrev TurnsOn (k : Nat) (s : State) : Prop := chanFree s k = true ∧
  ((s.chan k).drive = .off ∨ (s.chan k).drive = .idle) ∧ fEq (s.chan k).cmd f0 = false

theorem turnOn_of_stays (h : ¬ TurnsOn k s) : turnOn s k = s := if_neg (by simpa [and_assoc] using h)

theorem turnOn_of_turns (h : TurnsOn k s) : turnOn s k =
    requestOn (if cMode (s.chCfg k) = 1 ∨ cMode (s.chCfg k) = 4 then s.setChan k (gustChan k s) else s) k :=
  if_pos (by simpa [and_assoc] using h)

theorem requestOn_of_hot (h : dieOpen s k = false) : requestOn s k = s.setChan k { s.chan k with
    drive := if (s.chan k).drive = .retryWait then .retryWait else .gateWait, dieWait := true } :=
  if_neg (ne_true_of_eq_false h)

theorem requestOn_of_cool (h : dieOpen s k = true) : requestOn s k = requestStud s k := if_pos h

theorem requestStud_of_first (hq : (s.stud (studOf k)).queue = []) (hg : gateAdmits s k = true) :
    requestStud s k = grantOn s k := if_pos (by rw [hq, hg]; rfl)

theorem requestStud_of_later (h : (s.stud (studOf k)).queue ≠ [] ∨ gateAdmits s k = false) : requestStud s k =
    (s.setStud (studOf k) { s.stud (studOf k) with queue := insertReq (s.mono, k) (s.stud (studOf k)).queue }).setChan k
      { s.chan k with drive := .gateWait, dieWait := false, studWait := true, retryFrom := none } :=
  if_neg (by
    rw [Bool.and_eq_true, List.isEmpty_iff]
    rintro ⟨hq, hg⟩
    rcases h with h | h
    · exact h hq
    · exact absurd (h.symm.trans hg) Bool.false_ne_true)

/-- A turn-on that no simulated short meets. -/
theorem grantOn_of_clear (h : perturb s 6 k = none) : let c := (grantOn s k).chan k
    c.drive = .on ∧ c.conducting = decide (0 < firstUnits s k) ∧ c.onUnits = firstUnits s k ∧ c.turnOn = true ∧
      c.cycles = satN 4 ((s.chan k).cycles + 1) := by
  have short : (perturb (unqueue s k) 6 k).isSome = false := by rw [show perturb (unqueue s k) 6 k = none from h]; rfl
  unfold grantOn
  dsimp only
  rw [setChan_chan, short]
  exact ⟨rfl, rfl, rfl, rfl, rfl⟩

theorem grantOn_of_shorted (h : perturb s 6 k ≠ none) : let c := (grantOn s k).chan k
    c.drive = .limit ∧ c.conducting = false ∧ c.didt = fOfNat 50 ∧ c.limitAt = s.mono := by
  have short : (perturb (unqueue s k) 6 k).isSome = true := Option.isSome_iff_ne_none.mpr h
  unfold grantOn
  dsimp only
  rw [setChan_chan, short]
  exact ⟨rfl, rfl, rfl, rfl⟩

theorem firstUnits_of_duty (h : cMode (s.chCfg k) = 2) : firstUnits s k = onTime k (s.chCfg k) (s.chan k).cmd := by
  simp only [firstUnits, h]

theorem firstUnits_of_regulated (h : cMode (s.chCfg k) = 3) : firstUnits s k = 0 := by
  simp only [firstUnits, h]

theorem firstUnits_of_whole (h2 : cMode (s.chCfg k) ≠ 2) (h3 : cMode (s.chCfg k) ≠ 3) :
    firstUnits s k = cT (s.chCfg k) * 2 / 5 := by
  unfold firstUnits
  dsimp only
  split
  · contradiction
  · contradiction
  · rfl

end

/-! ## The stud gates -/

section
variable {t k : Nat} {r : List (Nat × Nat)} {s : State}

theorem admitQueue_of_hot (h : dieOpen s k = false) : admitQueue s ((t, k) :: r) =
    admitQueue ((unqueue s k).setChan k { s.chan k with dieWait := true, studWait := false }) r := by
  rw [admitQueue]
  exact if_pos (by rw [h]; rfl)

theorem admitQueue_of_cool (h : dieOpen s k = true) : admitQueue s ((t, k) :: r) =
    if gateAdmits s k then admitQueue (chanDo s k fun s => grantOn s k) r else s := by
  rw [admitQueue]
  exact if_neg (by rw [h]; decide)

end

section
variable {v : Nat} {m : F32} {s : State}

/-- The mean current of a stud is there. -/
def studMeasured (v : Nat) (m : F32) (s : State) : State := s.setStud v { s.stud v with meanA := m }

/-- A stud gate closes, or opens again, with its event (R516). -/
def gateMoved (v : Nat) (m : F32) (b : Bool) (s : State) : State :=
  emit ((studMeasured v m s).setStud v { s.stud v with meanA := m, closed := b }) 0x0204 0xFFFF
    (b1 v ++ b1 (bit b 0) ++ zeros 2 ++ leF m)

theorem xStudCurrentGate_eq : xStudCurrentGate v m s =
    if !(s.stud v).closed && fLt (fOfNat 70) m then gateMoved v m true s
    else if (s.stud v).closed && fLe m (fDec 665 10) then admitStud (gateMoved v m false s) v
    else studMeasured v m s := by
  unfold xStudCurrentGate
  simp only [setStud_stud]
  rfl

theorem xStudCurrentGate_of_open (hc : (s.stud v).closed = false) : xStudCurrentGate v m s =
    if fLt (fOfNat 70) m then gateMoved v m true s else studMeasured v m s := by
  rw [xStudCurrentGate_eq, hc]
  rfl

theorem xStudCurrentGate_of_closed (hc : (s.stud v).closed = true) : xStudCurrentGate v m s =
    if fLe m (fDec 665 10) then admitStud (gateMoved v m false s) v else studMeasured v m s := by
  rw [xStudCurrentGate_eq, hc]
  rfl

end

/-! ## Switching counts -/

section
variable {s : State}

/-- The switching counts of all channels, stored. -/
def countsStored (s : State) : State :=
  forN 24 (fun s k => s.setChan k { s.chan k with cyclesStored := (s.chan k).cycles }) s

theorem countsStored_mono : (countsStored s).mono = s.mono :=
  (foldl_channelsOnly (fun s k => oneChannel_setChan s k _) s).mono

theorem countsStored_chan {k : Nat} (hk : k < 24) : ((countsStored s).chan k).cyclesStored = (s.chan k).cycles := by
  obtain ⟨t, -, same, turn⟩ := foldl_chan
    (f := fun s k => s.setChan k { s.chan k with cyclesStored := (s.chan k).cycles })
    (fun s k => oneChannel_setChan s k _) List.nodup_range (List.mem_range.mpr hk) s
  refine (congrArg Chan.cyclesStored turn).trans ?_
  rw [setChan_chan, same]

/-- The present tick is that of the last storing. -/
def storeStamped (s : State) : State := { s with lsw := { s.lsw with storeAt := s.mono } }

theorem storeStamped_storeAt : (storeStamped s).lsw.storeAt = s.mono := rfl

theorem storeStamped_chan (k : Nat) : (storeStamped s).chan k = s.chan k := rfl

theorem xSwitchingCyclesStore_of_due (h : s.lsw.storeAt + 150000000000 ≤ s.mono) :
    xSwitchingCyclesStore s = storeStamped (countsStored s) := if_pos (decide_eq_true h)

theorem xSwitchingCyclesStore_storeAt (h : s.lsw.storeAt + 150000000000 ≤ s.mono) :
    (xSwitchingCyclesStore s).lsw.storeAt = s.mono := by
  rw [xSwitchingCyclesStore_of_due h, storeStamped_storeAt, countsStored_mono]

theorem xSwitchingCyclesStore_chan (h : s.lsw.storeAt + 150000000000 ≤ s.mono) {k : Nat} (hk : k < 24) :
    ((xSwitchingCyclesStore s).chan k).cyclesStored = (s.chan k).cycles := by
  rw [xSwitchingCyclesStore_of_due h, storeStamped_chan, countsStored_chan hk]

theorem xSwitchingCyclesStore_of_early (h : ¬ s.lsw.storeAt + 150000000000 ≤ s.mono) : xSwitchingCyclesStore s = s :=
  if_neg (mt of_decide_eq_true h)

end

end Sys2Proof.Machine

namespace Sys2Proof

open Machine

/-- Settles O39: each row by its condition; a commit keeps through its turn-on what the instant gives, a stop ends by
whether a fault has met it, and a turn-on passes the die gate and then the stud gate. -/
theorem channelLifecycle : Obligations.ChannelLifecycle := by
  unfold Obligations.ChannelLifecycle
  refine ⟨fun k s => ?commit, fun k s => ?stop, fun k s => chanOff_chan, fun chk cmt f s hp => finishStop_st hp,
    fun k s => ⟨fun h => next_settle_congr (xChannelHoldExpiry_of_over h),
      fun h => next_settle_congr (xChannelHoldExpiry_of_other h)⟩,
    fun k s => ⟨chanSafe_of_off, chanSafe_of_keep, chanSafe_of_value⟩, fun k v s => ?period,
    fun d cmd v => ⟨periodDuty_of_duty, fun h => if_pos h⟩, fun k d dc => ⟨onTime_of_off, onTime_of_whole, onTime_of_part⟩,
    fun k s => next_ite_of_guard ?onTimeEnd, fun k s => ?turnOn, fun k s => ?request,
    fun k s => ⟨grantOn_of_clear, grantOn_of_shorted⟩,
    fun k s => ⟨firstUnits_of_duty, firstUnits_of_regulated, firstUnits_of_whole⟩, fun v ms s => rfl,
    fun s => ⟨rfl, fun t k r => ?queue⟩, fun v m s => ?gate, fun s => ⟨fun h => ?store, fun h => ?early⟩⟩
  case commit =>
    refine ⟨fun h => next_settle_congr (xChannelStartCommit_of_undue h), fun hs due =>
      ⟨_, next_settle_congr (xChannelStartCommit_of_due hs due), channelCommits_st, ?_⟩⟩
    rw [channelCommits_chan, channelCommits_sameCommand.committed, channelCommits_sameCommand.cmd,
      committedChan_cmd_changeState]
    exact ⟨rfl, rfl⟩
  case stop =>
    refine ⟨fun ok hf => next_settle_congr ((xChannelStopComplete_of_done ok).trans ?_),
      fun ok hf => next_settle_congr ((xChannelStopComplete_of_done ok).trans ?_),
      fun h => next_settle_congr (xChannelStopComplete_of_other h)⟩
    · rw [if_pos hf]
    · rw [if_neg (ne_true_of_eq_false hf)]
  case period =>
    intro d ok x w runs dc u
    have run (h : ok) : exec (.pwmPeriodStart k v) s = .next (periodOutput k v (periodChan k s) (periodBegun k s)) :=
      congrArg Host.Outcome.next (xPwmPeriodStart_of_start h)
    exact ⟨fun h => congrArg Host.Outcome.next (xPwmPeriodStart_of_other h),
      fun h off => (run h).trans (congrArg _ (if_neg off)),
      fun h on hm => (run h).trans (congrArg _ ((if_pos on).trans (if_neg hm))),
      fun h on hm => (run h).trans (congrArg _ ((if_pos on).trans (if_pos hm)))⟩
  case onTimeEnd => simp [and_assoc]
  case turnOn =>
    exact ⟨fun ok hm => (turnOn_of_turns ok).trans (by rw [if_pos hm]; rfl),
      fun ok h1 h4 => (turnOn_of_turns ok).trans (by rw [if_neg (not_or.mpr ⟨h1, h4⟩)]), turnOn_of_stays⟩
  case request =>
    exact ⟨requestOn_of_hot, fun cool hq hg => (requestOn_of_cool cool).trans (requestStud_of_first hq hg),
      fun cool h => (requestOn_of_cool cool).trans (requestStud_of_later h)⟩
  case queue =>
    exact ⟨fun cool hg => (admitQueue_of_cool cool).trans (if_pos hg),
      fun cool hg => (admitQueue_of_cool cool).trans (if_neg (ne_true_of_eq_false hg)), admitQueue_of_hot⟩
  case gate =>
    exact ⟨fun hc hm => next_settle_congr ((xStudCurrentGate_of_open hc).trans (if_pos hm)),
      fun hc hm => next_settle_congr ((xStudCurrentGate_of_open hc).trans (if_neg (ne_true_of_eq_false hm))),
      fun hc hm => next_settle_congr ((xStudCurrentGate_of_closed hc).trans (if_pos hm)),
      fun hc hm => next_settle_congr ((xStudCurrentGate_of_closed hc).trans (if_neg (ne_true_of_eq_false hm)))⟩
  case store =>
    exact ⟨xSwitchingCyclesStore s, rfl, xSwitchingCyclesStore_storeAt h, fun k => xSwitchingCyclesStore_chan h⟩
  case early => exact congrArg Host.Outcome.next (xSwitchingCyclesStore_of_early h)

end Sys2Proof
end

section
/-! SUPPORT. What protects a load channel, row by row: its current limit and shorts, its gusts, its die, its stud's
supply, and its clamp events (08 R257 to R273). -/

namespace Sys2Proof.Machine

theorem past_iff (s : State) (t d : Nat) : s.past t d = true ↔ t + d ≤ s.mono := decide_eq_true_iff

theorem not_past_iff (s : State) (t d : Nat) : s.past t d = false ↔ s.mono < t + d :=
  decide_eq_false_iff_not.trans Nat.not_le

/-! ## Latches and locks -/

section
variable (s : State) (k cause : Nat)

theorem latchOff_chan : (latchOff s k cause).chan k = (latchNow s k cause).chan k := chanDo_chan s k _ k

theorem outState_latchOff : outState (latchOff s k cause) k = 7 :=
  outState_of_latched (by rw [latchOff_chan, latchNow_chan]; rfl)

/-- The output goes off and the channel is locked with a cause; one that is locked keeps its cause. -/
def lockNow (s : State) (k cause : Nat) : State :=
  let s := gustEnd (switchOff s k .off) k 1
  if (s.chan k).lock.isSome then s else s.setChan k { s.chan k with lock := some cause }

theorem lockNow_chan : (lockNow s k cause).chan k =
    { (s.chan k).switchedOff .off with gust := false, lock := some ((s.chan k).lock.getD cause) } := by
  unfold lockNow
  cases h : (s.chan k).lock <;> simp [Chan.switchedOff, h]

theorem lockOff_chan : (lockOff s k cause).chan k = (lockNow s k cause).chan k := by
  unfold lockOff
  dsimp only
  split
  · exact (chan_congr (raise_lsw _ _ _) k).trans (chanDo_chan s k (lockNow · k cause) k)
  · exact chanDo_chan s k (lockNow · k cause) k

/-- A channel that is latched too shows LATCHED (log entry 35). -/
theorem outState_lockOff : outState (lockOff s k cause) k = if (s.chan k).latch.isSome then 7 else 8 := by
  have hc : (lockOff s k cause).chan k = _ := (lockOff_chan s k cause).trans (lockNow_chan s k cause)
  cases hl : (s.chan k).latch with
  | none => exact outState_of_locked (by rw [hc]; exact hl) (by rw [hc]; rfl)
  | some _ => exact outState_of_latched (by rw [hc]; exact congrArg Option.isSome hl)

end

/-! ## Quiet windows -/

theorem ran_congr {s t : State} (h : t.mono = s.mono) (n : Nat) (since : Option Nat) : ran t n since = ran s n since := by
  unfold ran
  rw [h]

section
variable {s : State} {v k : Nat}

/-- The record of a channel once the quiet window of its stud has opened (R261, R263). -/
def quieted (s : State) (c : Chan) : Chan := { c with
  quietSeen := c.quietSeen || c.attempt, limRun := ran s c.limRun c.limFrom, limFrom := none
  retryRun := ran s c.retryRun c.retryFrom, retryFrom := none }

/-- The record of a channel once that window has run. -/
def resumed (now : Nat) (c : Chan) : Chan :=
  if c.drive = .limit then { c with limFrom := some now }
  else if c.drive = .retryWait && !c.dieWait then { c with retryFrom := some now } else c

theorem quietOpen_stud (s : State) (v : Nat) : ((quietOpen s v).stud v).quietOpen = true ∧
    ((quietOpen s v).stud v).quietUntil = s.mono + 500000 := by
  obtain ⟨q, hq⟩ := (foldl_channelsOnly (f := fun s k => s.setChan k (quieted s (s.chan k)))
    (fun s k => oneChannel_setChan s k _) (l := studChans v)
    (s.setStud v { s.stud v with quietOpen := true, quietUntil := s.mono + msT 2 })).stud v
  rw [setStud_stud] at hq
  exact ⟨congrArg Stud.quietOpen hq, congrArg Stud.quietUntil hq⟩

theorem quietOpen_chan (hk : k ∈ studChans v) : (quietOpen s v).chan k = quieted s (s.chan k) := by
  obtain ⟨t, only, same, turn⟩ := foldl_chan (f := fun s k => s.setChan k (quieted s (s.chan k)))
    (fun s k => oneChannel_setChan s k _) (nodup_studChans v) hk
    (s.setStud v { s.stud v with quietOpen := true, quietUntil := s.mono + msT 2 })
  refine turn.trans ?_
  rw [setChan_chan, same, setStud_chan]
  unfold quieted
  rw [ran_congr only.mono, ran_congr only.mono]
  rfl

theorem oneChannel_quietClose_turn (s : State) (k : Nat) : OneChannel k s
    (if (s.chan k).drive = .limit then s.setChan k { s.chan k with limFrom := some s.mono }
      else if (s.chan k).drive = .retryWait && !(s.chan k).dieWait then
        s.setChan k { s.chan k with retryFrom := some s.mono } else s) := by
  split
  · exact oneChannel_setChan s k _
  · split
    · exact oneChannel_setChan s k _
    · exact .refl s k

theorem quietClose_stud (s : State) (v : Nat) : ((quietClose s v).stud v).quietOpen = false := by
  obtain ⟨q, hq⟩ := (foldl_channelsOnly oneChannel_quietClose_turn (l := studChans v)
    (s.setStud v { s.stud v with quietOpen := false })).stud v
  rw [setStud_stud] at hq
  exact congrArg Stud.quietOpen hq

theorem quietClose_chan (hk : k ∈ studChans v) : (quietClose s v).chan k = resumed s.mono (s.chan k) := by
  obtain ⟨t, only, same, turn⟩ := foldl_chan oneChannel_quietClose_turn (nodup_studChans v) hk
    (s.setStud v { s.stud v with quietOpen := false })
  refine turn.trans ?_
  rw [setStud_chan] at same
  have now : t.mono = s.mono := only.mono
  rw [same, now]
  unfold resumed
  split
  · exact setChan_chan t k _
  · split
    · exact setChan_chan t k _
    · exact same

theorem resumed_limFrom {now : Nat} {c : Chan} (h : c.drive = .limit) : (resumed now c).limFrom = some now := by
  rw [resumed, if_pos h]

theorem resumed_retryFrom {now : Nat} {c : Chan} (h : c.drive = .retryWait) (hd : c.dieWait = false) :
    (resumed now c).retryFrom = some now := by
  simp [resumed, h, hd]

theorem xQuietWindowExpiry_of_over (h : (s.stud v).quietOpen = true ∧ (s.stud v).quietUntil ≤ s.mono) :
    xQuietWindowExpiry v s = quietClose s v := if_pos (by rw [h.1]; exact decide_eq_true h.2)

theorem xQuietWindowExpiry_of_other (h : ¬ ((s.stud v).quietOpen = true ∧ (s.stud v).quietUntil ≤ s.mono)) :
    xQuietWindowExpiry v s = s := if_neg (by simpa using h)

end

/-! ## Shorts -/

theorem inLimit_iff (k : Nat) (s : State) :
    inLimit s k = true ↔ (s.chan k).drive = .limit ∨ (s.chan k).limitLeft = some s.mono := by
  unfold inLimit
  simp

section
variable {s : State} {k : Nat}

/-- A channel latched for a short, whatever else latched it at the instant (R274), and its stud's quiet window. -/
def shortLatched (s : State) (k : Nat) : State :=
  quietOpen (chanDo s k fun s => (latchNow s k 1).setChan k { (latchNow s k 1).chan k with latch := some 1 }) (studOf k)

theorem shorted_of_clear (h : perturb (shortLatched s k) 6 k = none) : shorted s k = shortLatched s k := by
  unfold shortLatched at h ⊢
  simp only [shorted, h]

theorem shorted_of_simulated {i : Nat} {x : TSlot} (h : perturb (shortLatched s k) 6 k = some (i, x)) :
    shorted s k = slotEnd (shortLatched s k) i 4 := by
  unfold shortLatched at h ⊢
  simp only [shorted, h]

theorem shortLatched_chan : ((shortLatched s k).chan k).latch = some 1 ∧
    ((shortLatched s k).chan k).conducting = false := by
  unfold shortLatched
  rw [quietOpen_chan (mem_studChans k), chanDo_chan, setChan_chan, latchNow_chan]
  exact ⟨rfl, rfl⟩

end

/-- The sample 10 µs after the entry into LIMIT is due (R260). -/
abbrev ShortTestDue (k : Nat) (s : State) : Prop := inLimit s k = true ∧ (s.chan k).shortTested = false ∧
  (s.chan k).limitAt + 2500 ≤ s.mono ∧ s.mono < (s.chan k).limitAt + 2750

/-- The output has stayed low for SHORT_CONFIRM (R260). -/
abbrev ShortConfirmed (k : Nat) (s : State) : Prop := inLimit s k = true ∧ (s.chan k).notLow = false ∧
  (s.chan k).limitAt + 250 * cConfirm (s.chCfg k) ≤ s.mono

section
variable (k : Nat) (o v : F32) (s : State)

/-- The output voltage of the sample; a simulated short holds it at 0 V. -/
def shortOutput : F32 := if (perturb s 6 k).isSome then f0 else o

def shortLow : Bool := fLt (shortOutput k o s) (fMul (cFrac (s.chCfg k)) v)

/-- The state with the sample. -/
def shortSampled : State :=
  (s.setStud (studOf k) { s.stud (studOf k) with volts := v, voltsAt := some (s.mono / 250) }).setChan k { s.chan k with
    vout := shortOutput k o s, voutAt := some (s.mono / 250), shortTested := true, notLow := !shortLow k o v s }

variable {k o v s}

theorem shortTestDue_iff : (inLimit s k && !(s.chan k).shortTested && s.past (s.chan k).limitAt (usT 10) &&
    !s.past (s.chan k).limitAt (usT 11)) = true ↔ ShortTestDue k s := by
  simp only [Bool.and_eq_true, Bool.not_eq_true', past_iff, not_past_iff, and_assoc]
  rfl

theorem xShortClassifyCheck_of_due (h : ShortTestDue k s) : xShortClassifyCheck k o v s =
    if shortLow k o v s && fLe (cDidt (s.chCfg k)) (s.chan k).didt then shorted (shortSampled k o v s) k
    else shortSampled k o v s := if_pos (shortTestDue_iff.mpr h)

theorem xShortClassifyCheck_of_other (h : ¬ ShortTestDue k s) : xShortClassifyCheck k o v s = s :=
  if_neg (mt shortTestDue_iff.mp h)

theorem shortConfirmed_iff : (inLimit s k && !(s.chan k).notLow &&
    s.past (s.chan k).limitAt (usT (cConfirm (s.chCfg k)))) = true ↔ ShortConfirmed k s := by
  simp only [Bool.and_eq_true, Bool.not_eq_true', past_iff, and_assoc]
  rfl

end

/-! ## LIMIT and gusts -/

/-- LIMIT_TIME has run (R262). -/
abbrev LimitTimeOver (k : Nat) (s : State) : Prop := (s.chan k).drive = .limit ∧
  250000 * cLimTime (s.chCfg k) ≤ ran s (s.chan k).limRun (s.chan k).limFrom

/-- RETRY_OFF has run (R263). -/
abbrev RetryOffOver (k : Nat) (s : State) : Prop := (s.chan k).drive = .retryWait ∧ (s.chan k).dieWait = false ∧
  250000 * cRetryOff (s.chCfg k) ≤ ran s (s.chan k).retryRun (s.chan k).retryFrom

section
variable {s : State} {k : Nat}

theorem xLimitTimeExpiry_of_over (h : LimitTimeOver k s) : xLimitTimeExpiry k s =
    if (s.chan k).gust then chanDo (s.setChan k { s.chan k with limitLeft := some s.mono }) k fun s => attemptEnd s k
    else latchOff (s.setChan k { s.chan k with limitLeft := some s.mono }) k 3 := by
  have left : leaveLimit s k = s.setChan k { s.chan k with limitLeft := some s.mono } := if_pos h.1
  rw [← left]
  exact if_pos (by rw [Bool.and_eq_true]; exact ⟨decide_eq_true h.1, decide_eq_true h.2⟩)

theorem xLimitTimeExpiry_of_other (h : ¬ LimitTimeOver k s) : xLimitTimeExpiry k s = s :=
  if_neg (by rw [Bool.and_eq_true, decide_eq_true_eq, decide_eq_true_eq]; exact h)

theorem retryOffOver_iff : ((s.chan k).drive = .retryWait && !(s.chan k).dieWait &&
    decide (msT (cRetryOff (s.chCfg k)) ≤ ran s (s.chan k).retryRun (s.chan k).retryFrom)) = true ↔
      RetryOffOver k s := by
  simp only [Bool.and_eq_true, Bool.not_eq_true', decide_eq_true_eq, and_assoc]
  rfl

theorem xRetryOffExpiry_of_over (h : RetryOffOver k s) : xRetryOffExpiry k s =
    if chanFree s k then chanDo s k fun s => requestOn s k
    else s.setChan k { s.chan k with dieWait := true, retryFrom := none } := if_pos (retryOffOver_iff.mpr h)

theorem xRetryOffExpiry_of_other (h : ¬ RetryOffOver k s) : xRetryOffExpiry k s = s :=
  if_neg (mt retryOffOver_iff.mp h)

/-- A quiet window that fell into the attempt spares it, 8 times in a gust at most (R262). -/
abbrev AttemptSpared (k : Nat) (s : State) : Prop := (s.chan k).quietSeen = true ∧ (s.chan k).uncharged < 8

/-- The next attempt of a gust waits RETRY_OFF. -/
def retryWaits (s : State) (k : Nat) : State :=
  (switchOff s k .retryWait).setChan k { (switchOff s k .retryWait).chan k with
    retryFrom := startTimer (switchOff s k .retryWait) k }

theorem startTimer_switchOff (d : Drive) : startTimer (switchOff s k d) k = startTimer s k := by
  obtain ⟨q, hq⟩ := (oneChannel_switchOff s k d).stud (studOf k)
  unfold startTimer
  rw [hq, (oneChannel_switchOff s k d).mono]

theorem retryWaits_chan : (retryWaits s k).chan k =
    { (s.chan k).switchedOff .retryWait with retryFrom := startTimer s k } := by
  unfold retryWaits
  rw [setChan_chan, switchOff_chan, startTimer_switchOff]

theorem attemptEnd_of_spared (h : AttemptSpared k s) : attemptEnd s k =
    retryWaits (s.setChan k { s.chan k with uncharged := (s.chan k).uncharged + 1 }) k := by
  have free : ((s.chan k).quietSeen && decide ((s.chan k).uncharged < 8)) = true := by
    rw [h.1]; exact decide_eq_true h.2
  unfold attemptEnd
  simp only [free]
  rfl

theorem attemptEnd_of_charged (h : ¬ AttemptSpared k s) : attemptEnd s k =
    if 1 + cRetries (s.chCfg k) ≤ (s.chan k).charged + 1 then
      latchNow (s.setChan k { s.chan k with charged := (s.chan k).charged + 1 }) k 2
    else retryWaits (s.setChan k { s.chan k with charged := (s.chan k).charged + 1 }) k := by
  have free : ((s.chan k).quietSeen && decide ((s.chan k).uncharged < 8)) = false := by
    rwa [← Bool.not_eq_true, Bool.and_eq_true, decide_eq_true_eq]
  unfold attemptEnd
  simp only [free, Bool.not_false, Bool.true_and, decide_eq_true_eq]
  rfl

/-- However an attempt ends, the output is off and a trip of its die stands. -/
theorem attemptEnd_chan_off (s : State) (k : Nat) : ((attemptEnd s k).chan k).conducting = false ∧
    ((attemptEnd s k).chan k).thermal = (s.chan k).thermal := by
  by_cases h : AttemptSpared k s
  · rw [attemptEnd_of_spared h, retryWaits_chan, setChan_chan]
    exact ⟨rfl, rfl⟩
  · rw [attemptEnd_of_charged h]
    split
    · rw [latchNow_chan, setChan_chan]
      exact ⟨rfl, rfl⟩
    · rw [retryWaits_chan, setChan_chan]
      exact ⟨rfl, rfl⟩

end

/-! ## Dies -/

section
variable {s : State} {d : Nat} {t : F32}

/-- The trips of a die in the last 60 s. -/
def recentTrips (s : State) (d : Nat) : List Nat := (s.die d).trips.filter fun y => decide (s.mono < y + 15000000000)

/-- A die that trips, with its sample (R264). -/
def dieTrips (s : State) (d : Nat) (t : F32) : State :=
  (setTemp s d t).setDie d { (setTemp s d t).die d with tooHot := true, trips := s.mono :: recentTrips s d }

/-- A die that stood below +170 °C has reached it. -/
abbrev DieTrips (s : State) (d : Nat) (t : F32) : Prop := fLe (fOfNat 170) t = true ∧ (s.die d).tooHot = false

theorem setTemp_die : (setTemp s d t).die d =
    { s.die d with temp := t, sampled := true, sampleNo := s.mono / 2500 } := setDie_die s d _

theorem xDieOverTemperature_eq : xDieOverTemperature d t s =
    if fLe (fOfNat 170) t && !(s.die d).tooHot then
      if 15 ≤ (recentTrips s d).length then latchOff (latchOff (dieTrips s d t) (2 * d) 5) (2 * d + 1) 5
      else tripChan (tripChan (dieTrips s d t) (2 * d)) (2 * d + 1)
    else setTemp s d t := by
  unfold xDieOverTemperature dieTrips
  dsimp only
  rw [setTemp_die]
  exact if_congr Iff.rfl (if_congr (by rw [List.length_cons, Nat.succ_le_succ_iff]; rfl) rfl rfl) rfl

theorem xDieOverTemperature_of_trip (h : DieTrips s d t) : xDieOverTemperature d t s =
    if 15 ≤ (recentTrips s d).length then latchOff (latchOff (dieTrips s d t) (2 * d) 5) (2 * d + 1) 5
    else tripChan (tripChan (dieTrips s d t) (2 * d)) (2 * d + 1) :=
  xDieOverTemperature_eq.trans (if_pos (by rw [h.1, h.2]; rfl))

theorem xDieOverTemperature_of_other (h : ¬ DieTrips s d t) : xDieOverTemperature d t s = setTemp s d t :=
  xDieOverTemperature_eq.trans (if_neg (by rwa [Bool.and_eq_true, Bool.not_eq_true']))

end

section
variable {s : State} {k : Nat}

theorem tripChan_of_held (h : (s.chan k).latch ≠ none ∨ (s.chan k).lock ≠ none) : tripChan s k = s :=
  if_pos (by simpa [Option.isSome_iff_ne_none] using h)

/-- A channel whose die has tripped; in LIMIT, it leaves it at this instant. -/
def thermalChan (s : State) (k : Nat) : State := leaveLimit (s.setChan k { s.chan k with thermal := true }) k

/-- What a trip makes of a channel that is neither latched nor locked (R264). -/
def tripsOff (s : State) (k : Nat) : State :=
  if (s.chan k).gust && ((s.chan k).drive = .on || (s.chan k).drive = .limit) then attemptEnd (thermalChan s k) k
  else if (s.chan k).gust then
    let t := unqueue (thermalChan s k) k
    if (t.chan k).drive = .gateWait then t.setChan k { t.chan k with dieWait := true, studWait := false } else t
  else if (s.chan k).committed then switchOff (thermalChan s k) k .off else thermalChan s k

theorem tripChan_of_free (hl : (s.chan k).latch = none) (hk : (s.chan k).lock = none) :
    tripChan s k = chanReport s (tripsOff s k) k := if_neg (by rw [hl, hk]; decide)

theorem thermalChan_chan : ∃ left, (thermalChan s k).chan k = { s.chan k with thermal := true, limitLeft := left } := by
  unfold thermalChan leaveLimit
  dsimp only
  rw [setChan_chan]
  split
  · exact ⟨_, setChan_chan _ k _⟩
  · exact ⟨_, setChan_chan s k _⟩

/-- A trip shows on the channel; one that is ON, in LIMIT or outside a gust is off, and one that waits at a gate waits
at that of the die. -/
theorem tripsOff_chan : let x := (tripsOff s k).chan k
    x.thermal = true ∧
      ((s.chan k).gust = true ∧ ((s.chan k).drive = .on ∨ (s.chan k).drive = .limit) ∨
        (s.chan k).gust = false ∧ (s.chan k).committed = true → x.conducting = false) ∧
      ((s.chan k).gust = true → (s.chan k).drive = .gateWait → x.dieWait = true ∧ x.studWait = false) := by
  obtain ⟨left, hc⟩ := thermalChan_chan (s := s) (k := k)
  have ended := attemptEnd_chan_off (thermalChan s k) k
  unfold tripsOff
  cases hg : (s.chan k).gust with
  | true =>
    by_cases hd : (s.chan k).drive = .on ∨ (s.chan k).drive = .limit
    · rw [if_pos (by simpa using hd)]
      refine ⟨ended.2.trans (congrArg Chan.thermal hc), fun _ => ended.1, fun _ hw => ?_⟩
      rcases hd with hd | hd <;> cases hd.symm.trans hw
    · rw [if_neg (by simpa using hd), if_pos rfl]
      simp only [unqueue_chan, hc]
      refine ⟨?_, fun h => absurd h (by simpa using hd), fun _ hw => ?_⟩
      · split
        · rw [setChan_chan]
        · rw [unqueue_chan, hc]
      · rw [if_pos hw, setChan_chan]
        exact ⟨rfl, rfl⟩
  | false =>
    simp only [Bool.false_and, Bool.false_eq_true, if_false]
    split
    · rw [switchOff_chan, hc]
      exact ⟨rfl, fun _ => rfl, fun h => by cases h⟩
    · rename_i off
      rw [hc]
      exact ⟨rfl, by simpa using fun h => absurd h off, fun h => by cases h⟩

end

/-! ## The supply of a stud -/

section
variable (s : State) (k : Nat) (under : Bool)

theorem oneChannel_supplyOff : OneChannel k s (supplyOff s k under) :=
  oneChannel_chanDo s k (((oneChannel_setChan s k _).trans (oneChannel_switchOff _ k _)).trans (oneChannel_gustEnd _ k 2))

theorem supplyOff_chan : (supplyOff s k under).chan k = { (s.chan k).switchedOff .off with
    uv := (s.chan k).uv || under, ov := (s.chan k).ov || !under, supplyAt := s.mono, gust := false } := by
  unfold supplyOff
  rw [chanDo_chan]
  dsimp only
  rw [gustEnd_chan, switchOff_chan, setChan_chan]
  rfl

end

end Sys2Proof.Machine
end

section
/-! SUPPORT. The rows of a stud's supply, and of overload, open load and clamp events (08 R265 to R273). -/

namespace Sys2Proof.Machine

/-! ## Under- and over-voltage -/

section
variable {s : State} {v k : Nat} {x : F32}

/-- A channel that under-voltage of its stud holds off now (R265). -/
abbrev FallsBelow (s : State) (k : Nat) (x : F32) : Prop :=
  (s.chan k).committed = true ∧ (s.chan k).uv = false ∧ fLt x (cUvOff (s.chCfg k)) = true

/-- A channel's turn at an under-voltage of its stud. -/
def underTurn (x : F32) (s : State) (k : Nat) : State :=
  if chanLive s k && !(s.chan k).uv && fLt x (cUvOff (s.chCfg k)) then supplyOff s k true else s

/-- A channel's turn at an over-voltage of its stud (R266). -/
def overTurn (s : State) (k : Nat) : State := if chanLive s k && !(s.chan k).ov then supplyOff s k false else s

theorem oneChannel_underTurn (x : F32) (s : State) (k : Nat) : OneChannel k s (underTurn x s k) := by
  unfold underTurn
  split
  · exact oneChannel_supplyOff s k true
  · exact .refl s k

theorem oneChannel_overTurn (s : State) (k : Nat) : OneChannel k s (overTurn s k) := by
  unfold overTurn
  split
  · exact oneChannel_supplyOff s k false
  · exact .refl s k

theorem underTurn_of_below (h : FallsBelow s k x) : underTurn x s k = supplyOff s k true := by
  obtain ⟨live, above, below⟩ := h
  exact if_pos (by unfold chanLive; rw [live, above, below]; rfl)

theorem underTurn_of_other (h : ¬ FallsBelow s k x) : underTurn x s k = s :=
  if_neg fun c => h (by simpa [chanLive, and_assoc] using c)

theorem overTurn_of_live (hc : (s.chan k).committed = true) (ho : (s.chan k).ov = false) :
    overTurn s k = supplyOff s k false := if_pos (by unfold chanLive; rw [hc, ho]; rfl)

/-- The stud's voltage is there, as a sample and as the level at which it stands. -/
def studSampled (v : Nat) (x : F32) (s : State) : State :=
  let t := setVolts s v x
  t.setStud v { t.stud v with level := some x }

theorem studSampled_stud : (studSampled v x s).stud v =
    { s.stud v with volts := x, voltsAt := some (s.mono / 250), level := some x } := by
  unfold studSampled setVolts
  dsimp only
  rw [setStud_stud, setStud_stud]
  rfl

theorem xStudUnderVoltage_eq : xStudUnderVoltage v x s =
    supplySource ((studChans v).foldl (underTurn x) (studSampled v x s)) v := rfl

theorem xStudUnderVoltage_stud : ∃ q, (xStudUnderVoltage v x s).stud v =
    { s.stud v with volts := x, voltsAt := some (s.mono / 250), level := some x, queue := q } := by
  obtain ⟨q, hq⟩ := (foldl_channelsOnly (oneChannel_underTurn x) (l := studChans v) (studSampled v x s)).stud v
  exact ⟨q, by rw [xStudUnderVoltage_eq, stud_congr (supplySource_lsw _ v), hq, studSampled_stud]⟩

/-- At its turn a channel of the stud stands as before the row. -/
theorem xStudUnderVoltage_chan (hk : k ∈ studChans v) : ∃ t, t.mono = s.mono ∧ t.chan k = s.chan k ∧
    (FallsBelow t k x ↔ FallsBelow s k x) ∧ (xStudUnderVoltage v x s).chan k = (underTurn x t k).chan k := by
  obtain ⟨t, only, same, turn⟩ :=
    foldl_chan (oneChannel_underTurn x) (nodup_studChans v) hk (studSampled v x s)
  have hc : t.chan k = s.chan k := same
  have hd : t.chCfg k = s.chCfg k := only.chCfg k
  refine ⟨t, only.mono, hc, by rw [FallsBelow, hc, hd], ?_⟩
  rw [xStudUnderVoltage_eq, chan_congr (supplySource_lsw _ v), turn]

theorem xStudUnderVoltage_of_below (hk : k ∈ studChans v) (h : FallsBelow s k x) :
    let c := (xStudUnderVoltage v x s).chan k
    c.uv = true ∧ c.conducting = false ∧ c.gust = false ∧ c.supplyAt = s.mono := by
  obtain ⟨t, now, same, below, turn⟩ := xStudUnderVoltage_chan (s := s) (x := x) hk
  dsimp only
  rw [turn, underTurn_of_below (below.mpr h), supplyOff_chan]
  exact ⟨Bool.or_true _, rfl, rfl, now⟩

theorem xStudUnderVoltage_of_other (hk : k ∈ studChans v) (h : ¬ FallsBelow s k x) :
    (xStudUnderVoltage v x s).chan k = s.chan k := by
  obtain ⟨t, -, same, below, turn⟩ := xStudUnderVoltage_chan (s := s) (x := x) hk
  rw [turn, underTurn_of_other (mt below.mp h), same]

/-- The voltage above which a stud's over-voltage begins: of its mean, and of its samples (R266). -/
def overLimit (byMean : Bool) : F32 := fOfNat (if byMean then 34 else 40)

/-- The state with what an over-voltage row measured; a mean is none of the stud's samples. -/
def overSampled (v : Nat) (x : F32) (byMean : Bool) (s : State) : State :=
  if byMean then s else s.setStud v { s.stud v with volts := x, voltsAt := some (s.mono / 250) }

theorem overSampled_mono (m : Bool) : (overSampled v x m s).mono = s.mono := by cases m <;> rfl

theorem overSampled_chan (m : Bool) : (overSampled v x m s).chan k = s.chan k := by cases m <;> rfl

/-- A stud in over-voltage since now. -/
def overBegun (v : Nat) (s : State) : State := s.setStud v { s.stud v with ov := true, ovAt := s.mono }

theorem xStudOverVoltage_of_over {m : Bool} (h : fLt (overLimit m) x = true) : xStudOverVoltage v x m s =
    supplySource ((studChans v).foldl overTurn (overBegun v (overSampled v x m s))) v := if_pos h

theorem xStudOverVoltage_of_other {m : Bool} (h : fLt (overLimit m) x = false) :
    xStudOverVoltage v x m s = overSampled v x m s := if_neg (ne_true_of_eq_false h)

theorem overFolded_stud (s : State) (v : Nat) :
    let u := supplySource ((studChans v).foldl overTurn (overBegun v s)) v
    (u.stud v).ov = true ∧ (u.stud v).ovAt = s.mono := by
  obtain ⟨q, hq⟩ := (foldl_channelsOnly oneChannel_overTurn (l := studChans v) (overBegun v s)).stud v
  dsimp only
  rw [stud_congr (supplySource_lsw _ v), hq, overBegun, setStud_stud]
  exact ⟨rfl, rfl⟩

theorem overFolded_chan (hk : k ∈ studChans v) (hc : (s.chan k).committed = true) (ho : (s.chan k).ov = false) :
    let u := supplySource ((studChans v).foldl overTurn (overBegun v s)) v
    (u.chan k).ov = true ∧ (u.chan k).conducting = false := by
  obtain ⟨t, only, same, turn⟩ := foldl_chan oneChannel_overTurn (nodup_studChans v) hk (overBegun v s)
  replace same : t.chan k = s.chan k := same
  dsimp only
  rw [chan_congr (supplySource_lsw _ v), turn, overTurn_of_live (by rw [same, hc]) (by rw [same, ho]), supplyOff_chan]
  exact ⟨Bool.or_true _, rfl⟩

end

/-! ## The return of a stud -/

/-- A span of the stud begins after a tick and lasts a settle time. -/
def spanHeld (s : State) (q : StudSpan) (since ms : Nat) : Bool :=
  decide (q.ns ≤ 4 * (s.mono - since)) && decide (1000000 * ms ≤ q.ns)

theorem spanLasts_eq (s : State) (q : StudSpan) (since ms : Nat) : spanLasts s q since ms = spanHeld s q since ms :=
  Bool.decide_and _ _

/-- The stud has stood right for a channel that it holds off (R265, R266). -/
abbrev SupplyRight (s : State) (k : Nat) (q : StudSpan) : Prop :=
  ((s.chan k).uv = true ∨ (s.chan k).ov = true) ∧
    ((s.chan k).uv = true → fLe (cUvOn (s.chCfg k)) q.low = true) ∧
    ((s.chan k).ov = true → spanNoOver q = true ∧
      spanHeld s q (s.stud (studOf k)).ovAt (cUvSettle (s.chCfg k)) = true) ∧
    spanHeld s q (s.chan k).supplyAt (cUvSettle (s.chCfg k)) = true

section
variable {s : State} {v k : Nat} {q : StudSpan}

theorem supplyRight_iff : (((s.chan k).uv || (s.chan k).ov) && (!(s.chan k).uv || fLe (cUvOn (s.chCfg k)) q.low) &&
    (!(s.chan k).ov || (spanNoOver q && spanLasts s q (s.stud (studOf k)).ovAt (cUvSettle (s.chCfg k)))) &&
    spanLasts s q (s.chan k).supplyAt (cUvSettle (s.chCfg k))) = true ↔ SupplyRight s k q := by
  simp only [spanLasts_eq, SupplyRight, Bool.and_eq_true, Bool.or_eq_true, Bool.not_eq_true', ← imp_iff_not_or,
    ← Bool.not_eq_true, ← imp_iff_not_or, and_assoc]

theorem settleChan_of_right (h : SupplyRight s k q) : settleChan s k q =
    chanDo s k fun s' => turnOn (s'.setChan k { s.chan k with uv := false, ov := false }) k :=
  if_pos (supplyRight_iff.mpr h)

theorem settleChan_of_other (h : ¬ SupplyRight s k q) : settleChan s k q = s := if_neg (mt supplyRight_iff.mp h)

theorem oneChannel_settleChan (q : StudSpan) (s : State) (k : Nat) : OneChannel k s (settleChan s k q) := by
  by_cases h : SupplyRight s k q
  · rw [settleChan_of_right h]
    exact oneChannel_chanDo s k ((oneChannel_setChan s k _).trans (oneChannel_turnOn _ k))
  · rw [settleChan_of_other h]
    exact .refl s k

theorem settleChan_chan_of_right (h : SupplyRight s k q) :
    ((settleChan s k q).chan k).uv = false ∧ ((settleChan s k q).chan k).ov = false := by
  rw [settleChan_of_right h, chanDo_chan]
  have kept := sameCommand_turnOn (s.setChan k { s.chan k with uv := false, ov := false }) k
  rw [setChan_chan] at kept
  exact ⟨kept.uv, kept.ov⟩

/-- The longest UV_SETTLE of the channels that a stud's over-voltage holds off, and 50 ms with none (Table 8.12). -/
def settleWait (s : State) (v : Nat) : Nat :=
  let held := (studChans v).filter fun k => (s.chan k).ov
  held.foldl (fun m k => max m (cUvSettle (s.chCfg k))) (if held.isEmpty then 50 else 0)

/-- The stud with the level at which it has stood. -/
def levelled (s : State) (v : Nat) (q : StudSpan) : State := s.setStud v { s.stud v with level := some q.low }

theorem levelled_stud : (levelled s v q).stud v = { s.stud v with level := some q.low } := setStud_stud s v _

/-- The stud's own over-voltage has ended (Table 8.12). -/
def overEnded (s : State) (v : Nat) (q : StudSpan) : Bool :=
  spanNoOver q && spanHeld s q (s.stud v).ovAt (settleWait s v)

/-- The state after a span, before its channels have their turns. -/
def spanned (s : State) (v : Nat) (q : StudSpan) : State :=
  if (s.stud v).ov && overEnded s v q then
    (levelled s v q).setStud v { (levelled s v q).stud v with ov := false }
  else levelled s v q

theorem spanned_only : (spanned s v q).mono = s.mono ∧ (spanned s v q).chan k = s.chan k ∧
    (spanned s v q).chCfg k = s.chCfg k := by
  unfold spanned
  split <;> exact ⟨rfl, rfl, rfl⟩

theorem spanned_stud : (spanned s v q).stud v =
    { s.stud v with level := some q.low, ov := (s.stud v).ov && !overEnded s v q } := by
  unfold spanned
  cases ended : overEnded s v q with
  | false =>
    rw [Bool.and_false, if_neg Bool.false_ne_true, levelled_stud]
    simp only [Bool.not_false, Bool.and_true]
  | true =>
    cases held : (s.stud v).ov with
    | false =>
      rw [Bool.false_and, if_neg Bool.false_ne_true, levelled_stud]
      simp only [held, Bool.false_and]
    | true =>
      rw [Bool.true_and, if_pos rfl, setStud_stud, levelled_stud]
      rfl

theorem xStudSupplySettled_eq : xStudSupplySettled v q s =
    supplySource ((studChans v).foldl (fun s k => settleChan s k q) (spanned s v q)) v := by
  have ends : (((levelled s v q).stud v).ov && spanNoOver q &&
      spanLasts (levelled s v q) q ((levelled s v q).stud v).ovAt (settleWait s v)) =
        ((s.stud v).ov && overEnded s v q) := by
    rw [levelled_stud, spanLasts_eq, Bool.and_assoc]
    rfl
  unfold spanned
  rw [← ends]
  rfl

theorem xStudSupplySettled_stud : ∃ l, (xStudSupplySettled v q s).stud v =
    { s.stud v with level := some q.low, ov := (s.stud v).ov && !overEnded s v q, queue := l } := by
  obtain ⟨l, hl⟩ := (foldl_channelsOnly (oneChannel_settleChan q) (l := studChans v) (spanned s v q)).stud v
  exact ⟨l, by rw [xStudSupplySettled_eq, stud_congr (supplySource_lsw _ v), hl, spanned_stud]⟩

/-- At its turn a channel of the stud stands as before the row, and so does what it waits for. -/
theorem xStudSupplySettled_chan (hk : k ∈ studChans v) : ∃ t, t.chan k = s.chan k ∧
    (SupplyRight t k q ↔ SupplyRight s k q) ∧ (xStudSupplySettled v q s).chan k = (settleChan t k q).chan k := by
  obtain ⟨t, only, same, turn⟩ := foldl_chan (oneChannel_settleChan q) (nodup_studChans v) hk (spanned s v q)
  obtain ⟨now, same0, cfg⟩ := spanned_only (s := s) (v := v) (k := k) (q := q)
  have hc : t.chan k = s.chan k := same.trans same0
  have hd : t.chCfg k = s.chCfg k := (only.chCfg k).trans cfg
  have hm : t.mono = s.mono := only.mono.trans now
  have ho : (t.stud (studOf k)).ovAt = (s.stud (studOf k)).ovAt := by
    obtain ⟨l, hl⟩ := only.stud v
    rw [studOf_of_mem hk, hl, spanned_stud]
  refine ⟨t, hc, by rw [SupplyRight, hc, hd, ho, spanHeld, spanHeld, hm]; rfl, ?_⟩
  rw [xStudSupplySettled_eq, chan_congr (supplySource_lsw _ v), turn]

theorem xStudSupplySettled_of_right (hk : k ∈ studChans v) (h : SupplyRight s k q) :
    ((xStudSupplySettled v q s).chan k).uv = false ∧ ((xStudSupplySettled v q s).chan k).ov = false := by
  obtain ⟨t, -, right, turn⟩ := xStudSupplySettled_chan (s := s) (q := q) hk
  rw [turn]
  exact settleChan_chan_of_right (right.mpr h)

theorem xStudSupplySettled_of_other (hk : k ∈ studChans v) (h : ¬ SupplyRight s k q) :
    (xStudSupplySettled v q s).chan k = s.chan k := by
  obtain ⟨t, same, right, turn⟩ := xStudSupplySettled_chan (s := s) (q := q) hk
  rw [turn, settleChan_of_other (mt right.mp h), same]

end

/-! ## Open load -/

/-- A conducting output is tested for its load; in mode 3 only where the command is twice I_OPEN (R269). -/
abbrev OpenLoadTested (k : Nat) (s : State) : Prop := outState s k = 2 ∧ fLt f0 (cIOpen (s.chCfg k)) = true ∧
  (cMode (s.chCfg k) ≠ 3 ∨ fLe (fMul (fOfNat 2) (cIOpen (s.chCfg k))) (s.chan k).cmd = true)

section
variable {k : Nat} {b : Bool} {i : F32} {s : State}

/-- The state with the current of the test. -/
def loadMeasured (k : Nat) (i : F32) (s : State) : State :=
  s.setChan k { s.chan k with current := i, currentAt := some (s.mono / 250) }

/-- The open load of a channel, flagged or not. -/
def openFlagged (k : Nat) (flag : Bool) (s : State) : State := s.setChan k { s.chan k with openLoad := flag }

theorem openLoadTested_iff : (decide (outState s k = 2) && fLt f0 (cIOpen (s.chCfg k)) &&
    (decide (cMode (s.chCfg k) ≠ 3) || fLe (fMul (fOfNat 2) (cIOpen (s.chCfg k))) (s.chan k).cmd)) = true ↔
      OpenLoadTested k s := by
  simp only [Bool.and_eq_true, Bool.or_eq_true, decide_eq_true_eq, and_assoc]

theorem xOpenLoadDetect_of_other (h : ¬ OpenLoadTested k s) : xOpenLoadDetect k b i s = s :=
  if_neg (mt openLoadTested_iff.mp h)

theorem xOpenLoadDetect_of_tested (h : OpenLoadTested k s) : xOpenLoadDetect k b i s =
    if b = true ∧ fLt i (cIOpen (s.chCfg k)) = true ∧ (s.chan k).openLoad = false then
      emitFault (openFlagged k true (loadMeasured k i s)) 0x0704 (chFid k) (leF i)
    else if b = false ∧ fLe (cIOpen (s.chCfg k)) i = true then openFlagged k false (loadMeasured k i s)
    else loadMeasured k i s :=
  (if_pos (openLoadTested_iff.mpr h)).trans (if_congr (by simp [and_assoc]) rfl (if_congr (by simp) rfl rfl))

end

/-! ## Clamp events -/

section
variable {k : Nat} {l : List ClampSample} {s : State}

/-- An event of a kind 1 load with energy to dissipate shows that its free-wheel path is missing (R273). -/
def pathMissing (k : Nat) (l : List ClampSample) (s : State) : Bool :=
  decide (cKind (s.chCfg k) = 1) && fLt (fDec 1 1000) (clampEnergy l)

/-- None has been reported in the last 10 s. -/
def pathUntold (k : Nat) (s : State) : Bool := (s.chan k).freeAt.all fun t => decide (t + secT 10 ≤ s.mono)

/-- The event is over and counts in the window. -/
def clampCounted (k : Nat) (l : List ClampSample) (s : State) : State :=
  s.setChan k { s.chan k with clamping := false, clamps := (s.mono, clampEnergy l) :: clampsNow s k }

/-- A missing path is flagged. -/
def pathFlagged (k : Nat) (l : List ClampSample) (s : State) : State :=
  let w := clampCounted k l s
  if pathMissing k l s then w.setChan k { w.chan k with freeSeen := some s.mono } else w

/-- A missing path is reported, at most once in 10 s. -/
def pathTold (k : Nat) (l : List ClampSample) (s : State) : State :=
  let w := pathFlagged k l s
  if pathMissing k l s && pathUntold k s then
    emitFault (w.setChan k { w.chan k with freeAt := some s.mono }) 0x0703 (chFid k) (leF (clampEnergy l))
  else w

theorem all_past_eq (o : Option Nat) (now n : Nat) : (o.all fun t => decide (t + n ≤ now)) =
    !(match o with | some t => decide (now < t + n) | none => false) := by
  cases o with
  | none => rfl
  | some t => exact (decide_eq_decide.mpr Nat.not_lt.symm).trans decide_not

theorem pathFlagged_mono : (pathFlagged k l s).mono = s.mono := by
  unfold pathFlagged
  dsimp only
  split <;> rfl

/-- The event of a whole set of samples locks its channel by its own energy or by that of its window (R271, R272). -/
theorem xClampEventEnd_of_whole (h : (s.chan k).clamping = true ∧ clampWhole s k l = true) : xClampEventEnd k l s =
    if fLt (eSingle k) (clampEnergy l) then lockOff (pathTold k l s) k 8
    else if fLe (cEBudget (s.chCfg k)) (clampWindow (pathTold k l s) k) then lockOff (pathTold k l s) k 7
    else pathTold k l s := by
  have told : pathTold k l s = if pathMissing k l s && !(match (s.chan k).freeAt with
      | some t => decide (s.mono < t + secT 10) | none => false) then
        emitFault ((pathFlagged k l s).setChan k { (pathFlagged k l s).chan k with
          freeAt := some (pathFlagged k l s).mono }) 0x0703 (chFid k) (leF (clampEnergy l))
      else pathFlagged k l s := by
    rw [← all_past_eq, pathFlagged_mono]
    rfl
  rw [told]
  exact if_pos (by rw [h.1, h.2]; rfl)

theorem xClampEventEnd_of_other (h : ¬ ((s.chan k).clamping = true ∧ clampWhole s k l = true)) :
    xClampEventEnd k l s = s := if_neg (by rwa [Bool.and_eq_true])

end

end Sys2Proof.Machine

namespace Sys2Proof

open Machine

/-- Settles O40: each row by its condition. A latch and a lock are read off the channel's own record; what a row does to
the channels of a stud is what each one's own turn does, since no turn touches another channel. -/
theorem channelProtection : Obligations.ChannelProtection := by
  unfold Obligations.ChannelProtection
  refine ⟨fun k n s => next_ite_of_guard ?limitEntry, inLimit_iff, fun k o v s => ?classify,
    fun k s => next_settle_ite_of_guard shortConfirmed_iff, fun k s => ?shorted, fun k c s => ?latch, fun v s => ?quiet,
    fun v s => ?quietEnd, fun k s => next_settle_ite_of_guard ?limitExit, fun k s => ?limitTime, fun k s => ?attempt,
    fun k s => ?retry, fun d t s => ?die, fun k s => ?trip, fun v x s => ?under, fun v x m s => ?overVoltage,
    fun v q s => ?settled, fun k m s => next_settle_ite_of_guard ?overload, fun k b i s => ?openLoad,
    fun k s => next_ite_of_guard ?clampBegin, fun k l s => ?clampEnd, fun l => rfl, fun k c s => ?lock, fun k s => rfl⟩
  case limitEntry => simp [and_assoc]
  case classify =>
    exact ⟨fun due short => next_settle_congr ((xShortClassifyCheck_of_due due).trans (if_pos short)),
      fun due long => next_settle_congr ((xShortClassifyCheck_of_due due).trans (if_neg (ne_true_of_eq_false long))),
      fun other => next_settle_congr (xShortClassifyCheck_of_other other)⟩
  case shorted =>
    obtain ⟨latched, off⟩ := shortLatched_chan (s := s) (k := k)
    exact ⟨shorted_of_clear, fun i x => shorted_of_simulated, latched, off, outState_of_latched (congrArg Option.isSome latched)⟩
  case latch =>
    dsimp only
    rw [latchOff_chan, latchNow_chan]
    exact ⟨rfl, rfl, rfl, outState_latchOff s k c⟩
  case quiet =>
    obtain ⟨opened, until_⟩ := quietOpen_stud s v
    refine ⟨opened, until_, fun k hk => ?_⟩
    rw [quietOpen_chan hk]
    exact ⟨rfl, rfl, rfl⟩
  case quietEnd =>
    refine ⟨fun h => ⟨_, congrArg Host.Outcome.next (xQuietWindowExpiry_of_over h), quietClose_stud s v, fun k hk => ?_⟩,
      fun h => congrArg Host.Outcome.next (xQuietWindowExpiry_of_other h)⟩
    rw [quietClose_chan hk]
    exact ⟨resumed_limFrom, resumed_retryFrom⟩
  case limitExit => simp
  case limitTime =>
    exact ⟨fun ok hg => next_settle_congr ((xLimitTimeExpiry_of_over ok).trans (if_neg (ne_true_of_eq_false hg))),
      fun ok hg => next_settle_congr ((xLimitTimeExpiry_of_over ok).trans (if_pos hg)),
      fun other => next_settle_congr (xLimitTimeExpiry_of_other other)⟩
  case attempt =>
    refine ⟨fun spared => ?_, fun charged => ?_⟩
    · rw [attemptEnd_of_spared spared, retryWaits_chan, setChan_chan]
      exact ⟨rfl, rfl, rfl, rfl⟩
    · by_cases last : 1 + cRetries (s.chCfg k) ≤ (s.chan k).charged + 1
      · rw [attemptEnd_of_charged charged, if_pos last, latchNow_chan, setChan_chan]
        exact ⟨rfl, rfl, fun _ => rfl, fun more => absurd last (Nat.not_le.mpr more)⟩
      · rw [attemptEnd_of_charged charged, if_neg last, retryWaits_chan, setChan_chan]
        exact ⟨rfl, rfl, fun h => absurd h last, fun _ => ⟨rfl, rfl⟩⟩
  case retry =>
    exact ⟨fun ok free => next_settle_congr ((xRetryOffExpiry_of_over ok).trans (if_pos free)),
      fun ok held => next_settle_congr ((xRetryOffExpiry_of_over ok).trans (if_neg (ne_true_of_eq_false held))),
      fun other => next_settle_congr (xRetryOffExpiry_of_other other)⟩
  case die =>
    exact ⟨fun cold => next_settle_congr (xDieOverTemperature_of_other cold),
      fun hot many => next_settle_congr ((xDieOverTemperature_of_trip hot).trans (if_pos many)),
      fun hot few => next_settle_congr ((xDieOverTemperature_of_trip hot).trans (if_neg (Nat.not_le.mpr few))),
      fun cool => next_settle_congr (if_pos cool), fun warm => next_settle_congr (if_neg (ne_true_of_eq_false warm)),
      fun bad => next_settle_congr (if_pos bad), fun good => next_settle_congr (if_neg (ne_true_of_eq_false good))⟩
  case trip =>
    refine ⟨tripChan_of_held, fun hl hk => ?_⟩
    rw [tripChan_of_free hl hk, chan_congr (chanReport_lsw _ _ _)]
    exact tripsOff_chan
  case under =>
    obtain ⟨l, hs⟩ := xStudUnderVoltage_stud (s := s) (v := v) (x := x)
    exact ⟨xStudUnderVoltage v x s, rfl, congrArg Stud.volts hs, congrArg Stud.voltsAt hs, congrArg Stud.level hs,
      fun k hk => ⟨xStudUnderVoltage_of_below hk, xStudUnderVoltage_of_other hk⟩⟩
  case overVoltage =>
    refine ⟨fun h => ⟨_, next_settle_congr (xStudOverVoltage_of_over h), ?_⟩,
      fun h => next_settle_congr (xStudOverVoltage_of_other h)⟩
    obtain ⟨ov, since⟩ := overFolded_stud (overSampled v x m s) v
    refine ⟨ov, since.trans (overSampled_mono m), fun k hk hc ho => ?_⟩
    exact overFolded_chan hk (by rwa [overSampled_chan]) (by rwa [overSampled_chan])
  case settled =>
    obtain ⟨l, hs⟩ := xStudSupplySettled_stud (s := s) (v := v) (q := q)
    refine ⟨xStudSupplySettled v q s, rfl, congrArg Stud.level hs, congrArg Stud.ov hs, fun k hk => ?_⟩
    obtain rfl := studOf_of_mem hk
    exact ⟨xStudSupplySettled_of_right hk, xStudSupplySettled_of_other hk⟩
  case overload => simp [and_assoc]
  case openLoad =>
    exact ⟨fun ok opens => next_settle_congr ((xOpenLoadDetect_of_tested ok).trans (if_pos opens)),
      fun ok closes => next_settle_congr ((xOpenLoadDetect_of_tested ok).trans
        ((if_neg fun opens => Bool.false_ne_true (closes.1.symm.trans opens.1)).trans (if_pos closes))),
      fun ok stays same => next_settle_congr
        ((xOpenLoadDetect_of_tested ok).trans ((if_neg stays).trans (if_neg same))),
      fun other => next_settle_congr (xOpenLoadDetect_of_other other)⟩
  case clampBegin => simp
  case clampEnd =>
    exact ⟨fun ok single => next_settle_congr ((xClampEventEnd_of_whole ok).trans (if_pos single)),
      fun ok small full => next_settle_congr ((xClampEventEnd_of_whole ok).trans
        ((if_neg (ne_true_of_eq_false small)).trans (if_pos full))),
      fun ok small room => next_settle_congr ((xClampEventEnd_of_whole ok).trans
        ((if_neg (ne_true_of_eq_false small)).trans (if_neg (ne_true_of_eq_false room)))),
      fun other => next_settle_congr (xClampEventEnd_of_other other)⟩
  case lock =>
    rw [lockOff_chan, lockNow_chan]
    exact ⟨rfl, rfl, outState_lockOff s k c⟩

end Sys2Proof
end

section
/-! SUPPORT. What the bodies of the fusion opcodes answer, and what the arrival of an image in flash does (09 R316, R320
to R323). -/

namespace Sys2Proof.Machine

/-! ## FUS_CONFIG -/

theorem egoFree_iff (s : State) : egoFree s = true ↔ (s.st fusFid = .off ∨ s.st fusFid = .config) ∧
    (s.st guidFid = .off ∨ s.st guidFid = .config) := by
  unfold egoFree
  rw [Bool.and_eq_true, idle_iff, idle_iff]

section
variable {s : State} {p : Bytes} (part : byteAt p 0 = 0)
include part

/-- An ego-motion configuration is taken while nobody uses the estimate (09 R291). -/
theorem opFusConfig_of_ego : opFusConfig.body s p =
    if egoFree s then okAns (s.setEgo (if (byteAt p 2).testBit 0
      then { s.fus.ego with pend := some p, stored := some p } else { s.fus.ego with pend := some p }))
    else failAns s stWrongState 0 := by
  unfold opFusConfig
  dsimp only
  rw [part]
  rfl

theorem opFusConfig_of_free (free : egoFree s = true) : opFusConfig.body s p =
    okAns (s.setEgo (if (byteAt p 2).testBit 0
      then { s.fus.ego with pend := some p, stored := some p } else { s.fus.ego with pend := some p })) :=
  (opFusConfig_of_ego part).trans (if_pos free)

theorem opFusConfig_of_used (used : egoFree s = false) : opFusConfig.body s p = failAns s stWrongState 0 :=
  (opFusConfig_of_ego part).trans (if_neg (ne_true_of_eq_false used))

end

/-! ## FUS_WEIGHTS -/

section
variable {s : State} {p : Bytes}

/-- The slot of a block is the one that the grid uses (09 R316). -/
abbrev SlotUsed (s : State) (p : Bytes) : Prop := s.st fusFid ≠ .off ∧ fgSlot s.grid = byteAt p 0

/-- A block begins an image, or goes on where its slot's stands. -/
abbrev BlockJoins (s : State) (p : Bytes) : Prop :=
  rd p 4 4 = 0 ∨ rd p 4 4 = (s.wslot (byteAt p 0)).image.length

/-- A slot's image with a block. -/
def weightsImage (s : State) (p : Bytes) : Bytes :=
  (if rd p 4 4 = 0 then [] else (s.wslot (byteAt p 0)).image) ++ p.drop 16

/-- What the last block of an image is answered, by the checks of R316 in their order. -/
def weightsJudged (s : State) (p img : Bytes) : Ans :=
  if img.length ≠ rd img 8 4 then failAns s 0x80 (min 0xFFFF (rd img 8 4 - img.length))
  else if (crc32c img).toNat ≠ rd p 12 4 then failAns s stIntegrity 0
  else if weightsHeaderOk img = false then failAns s 0x81 0
  else { s := s.setWslot (byteAt p 0) { image := img, busy := some s.cur }, st := stDeferred }

theorem opFusWeights_of_used (used : SlotUsed s p) : opFusWeights.body s p = failAns s stWrongState 0 :=
  if_pos used

section
variable (free : ¬ SlotUsed s p)
include free

theorem opFusWeights_of_busy (busy : (s.wslot (byteAt p 0)).busy ≠ none) :
    opFusWeights.body s p = failAns s stBusy 0 :=
  (if_neg free).trans (if_pos (Option.isSome_iff_ne_none.mpr busy))

variable (idle : (s.wslot (byteAt p 0)).busy = none)
include idle

theorem opFusWeights_of_gap (gap : ¬ BlockJoins s p) :
    opFusWeights.body s p = badParam s (min 0xFFFF (s.wslot (byteAt p 0)).image.length) :=
  (if_neg free).trans ((if_neg (by simp [idle])).trans (if_pos (not_or.mp gap)))

variable (joins : BlockJoins s p)
include joins

/-- A block that goes on joins the image, unless that is too long; the last is judged with the whole. -/
theorem opFusWeights_of_joins : opFusWeights.body s p =
    if 33554432 < (weightsImage s p).length then badParam s 4
    else if (byteAt p 1).testBit 0 = false then okAns (s.setWslot (byteAt p 0) { image := weightsImage s p })
    else weightsJudged s p (weightsImage s p) := by
  have whole : weightsImage s p =
      if rd p 4 4 = 0 then p.drop 16 else (s.wslot (byteAt p 0)).image ++ p.drop 16 := by
    unfold weightsImage
    split <;> rfl
  rw [whole]
  refine (if_neg free).trans ((if_neg (by simp [idle])).trans ((if_neg (not_and_or.mpr ?_)).trans ?_))
  · exact joins.imp not_not.mpr not_not.mpr
  · unfold weightsJudged
    simp only [Bool.not_eq_true']

theorem opFusWeights_of_long (long : 33554432 < (weightsImage s p).length) :
    opFusWeights.body s p = badParam s 4 :=
  (opFusWeights_of_joins free idle joins).trans (if_pos long)

variable (fits : (weightsImage s p).length ≤ 33554432)
include fits

theorem opFusWeights_of_block (more : (byteAt p 1).testBit 0 = false) :
    opFusWeights.body s p = okAns (s.setWslot (byteAt p 0) { image := weightsImage s p }) :=
  (opFusWeights_of_joins free idle joins).trans ((if_neg (Nat.not_lt.mpr fits)).trans (if_pos more))

theorem opFusWeights_of_last (last : (byteAt p 1).testBit 0 = true) :
    opFusWeights.body s p = weightsJudged s p (weightsImage s p) :=
  (opFusWeights_of_joins free idle joins).trans
    ((if_neg (Nat.not_lt.mpr fits)).trans (if_neg (by simp [last])))

end

variable {img : Bytes}

theorem weightsJudged_of_short (short : img.length ≠ rd img 8 4) :
    weightsJudged s p img = failAns s 0x80 (min 0xFFFF (rd img 8 4 - img.length)) :=
  if_pos short

theorem weightsJudged_of_wrongCrc (whole : img.length = rd img 8 4) (wrong : (crc32c img).toNat ≠ rd p 12 4) :
    weightsJudged s p img = failAns s stIntegrity 0 :=
  (if_neg (not_not.mpr whole)).trans (if_pos wrong)

theorem weightsJudged_of_badHeader (whole : img.length = rd img 8 4) (right : (crc32c img).toNat = rd p 12 4)
    (bad : weightsHeaderOk img = false) : weightsJudged s p img = failAns s 0x81 0 :=
  (if_neg (not_not.mpr whole)).trans ((if_neg (not_not.mpr right)).trans (if_pos bad))

theorem weightsJudged_of_good (whole : img.length = rd img 8 4) (right : (crc32c img).toNat = rd p 12 4)
    (good : weightsHeaderOk img = true) : weightsJudged s p img =
      { s := s.setWslot (byteAt p 0) { image := img, busy := some s.cur }, st := stDeferred } :=
  (if_neg (not_not.mpr whole)).trans ((if_neg (not_not.mpr right)).trans (if_neg (by simp [good])))

/-- However the last block is judged, it brings no reply data. -/
theorem weightsJudged_data : (weightsJudged s p img).data = [] := by
  unfold weightsJudged
  split_ifs <;> rfl

theorem xWeightsWriteComplete_of_none {i : Nat} (idle : (s.wslot i).busy = none) : xWeightsWriteComplete i s = s := by
  unfold xWeightsWriteComplete
  dsimp only
  rw [idle]

theorem xWeightsWriteComplete_of_some {i : Nat} {c : Option (Nat × Nat)} (busy : (s.wslot i).busy = some c) :
    xWeightsWriteComplete i s = emitTo (s.setWslot i { s.wslot i with busy := none, loaded := true })
      c false none 0x0804 fusFid (b1 i ++ b1 0 ++ zeros 2 ++ le 4 (rd (s.wslot i).image 4 4)) := by
  unfold xWeightsWriteComplete
  dsimp only
  rw [busy]

end

/-! ## FUS_STATUS -/

@[simp] theorem EgoEst.bytes_length (e : EgoEst) (mode : Nat) : (e.bytes mode).length = 48 := by simp [EgoEst.bytes]

/-- The reply has the 220 bytes of its table, with and without edge lines and an estimate (09 R323). -/
theorem opFusStatus_length (s : State) (p : Bytes) : (opFusStatus.body s p).data.length = 220 := by
  cases he : s.fus.edges <;> cases hm : s.fus.ego.est.head? <;>
    simp [opFusStatus, okWith, List.length_flatMap, he, hm]

end Sys2Proof.Machine

namespace Sys2Proof

open Machine

/-- Settles O41: a configuration by whether its users are idle, a block of weights by the checks in their order, an
image by whether one is on its way; the policy and the status answer what their bodies read. -/
theorem fusionCommands : Obligations.FusionCommands := by
  unfold Obligations.FusionCommands
  refine ⟨fun h p s ok part => ?config, egoFree_iff, fun h p s ok => ?weights, fun i s => ?flash,
    fun h p s ok => exec_hostOnly_of_accepted rfl rfl ok rfl, fun s n => rfl,
    fun new old l t n ht => governing_changed ht new old l,
    fun h p s ok => exec_read_of_accepted rfl rfl ok rfl (opFusStatus_length (atBody s h) p)⟩
  case config =>
    exact ⟨fun free => exec_host_of_accepted rfl rfl ok (opFusConfig_of_free (s := atBody s h) part free) rfl,
      fun used => exec_host_of_accepted rfl rfl ok (opFusConfig_of_used (s := atBody s h) part used) rfl⟩
  case weights =>
    have answered {a : Ans} (size : a.data = []) (body : opFusWeights.body (atBody s h) p = a) :
        exec (.fusWeights h p) s = .next (replied h 0x0801 p a) :=
      exec_hostOnly_of_accepted rfl rfl (by rw [size]; exact ok) body
    have judged {a : Ans} (free : ¬ SlotUsed s p) (idle : (s.wslot (byteAt p 0)).busy = none) (joins : BlockJoins s p)
        (fits : (weightsImage s p).length ≤ 33554432) (last : (byteAt p 1).testBit 0 = true)
        (verdict : weightsJudged (atBody s h) p (weightsImage s p) = a) :
        exec (.fusWeights h p) s = .next (replied h 0x0801 p a) :=
      verdict ▸ answered weightsJudged_data (opFusWeights_of_last (s := atBody s h) free idle joins fits last)
    exact ⟨fun used => answered rfl (opFusWeights_of_used (s := atBody s h) used),
      fun free busy => answered rfl (opFusWeights_of_busy (s := atBody s h) free busy),
      fun free idle gap => answered rfl (opFusWeights_of_gap (s := atBody s h) free idle gap),
      fun free idle joins long => answered rfl (opFusWeights_of_long (s := atBody s h) free idle joins long),
      fun ⟨free, idle, joins, fits⟩ more =>
        answered rfl (opFusWeights_of_block (s := atBody s h) free idle joins fits more),
      fun ⟨free, idle, joins, fits⟩ last short => judged free idle joins fits last (weightsJudged_of_short short),
      fun ⟨free, idle, joins, fits⟩ last whole wrong =>
        judged free idle joins fits last (weightsJudged_of_wrongCrc whole wrong),
      fun ⟨free, idle, joins, fits⟩ last whole right bad =>
        judged free idle joins fits last (weightsJudged_of_badHeader whole right bad),
      fun ⟨free, idle, joins, fits⟩ last whole right good => judged free idle joins fits last
        ((weightsJudged_of_good whole right good).trans (by rw [atBody_cur ok]))⟩
  case flash =>
    exact ⟨fun idle => congrArg Host.Outcome.next (xWeightsWriteComplete_of_none idle),
      fun c busy => congrArg Host.Outcome.next (xWeightsWriteComplete_of_some busy)⟩

end Sys2Proof
end

section
/-! SUPPORT. Ego-motion: what an ego instant takes and publishes, the mode of Table 9.3, a change of mode, and a commit
(09 R288 to R291). -/

namespace Sys2Proof.Machine

/-! ## Reports -/

theorem emitFault_fus (s : State) (code func : Nat) (data : Bytes) : (emitFault s code func data).fus = s.fus :=
  fus_of_off (emitFault_off s code func data _ (Nat.and_self _)) rfl

theorem raise_fus (s : State) (n detail : Nat) : (raise s n detail).fus = s.fus :=
  fus_of_off (raise_off s n detail _ (Nat.and_self _)) rfl

theorem emit_fus (s : State) (code func : Nat) (data : Bytes) : (emit s code func data).fus = s.fus :=
  fus_of_off (emit_off s code func data _ (Nat.and_self _)) rfl

theorem returnSrc_fus (s : State) (n : Nat) : (returnSrc s n).fus = s.fus :=
  fus_of_off (returnSrc_off s n _ (Nat.and_self _)) rfl

/-! ## Position -/

theorem farOut_iff (x y z : Int) :
    farOut x y z = true ↔ 2048000000 < x.natAbs ∨ 2048000000 < y.natAbs ∨ 2048000000 < z.natAbs := by
  simp [farOut]

theorem egoOff_of_kept {e : Ego} {i : EgoIn} (h : e.mode ≠ 0 ∨ e.est = []) : egoOff e i = e.off := by
  unfold egoOff
  rcases h with found | unpublished
  · rw [if_neg found]
  · rw [unpublished, List.head?_nil, ite_self]

theorem egoOff_of_lost {e : Ego} {i : EgoIn} {l : EgoEst} {r : List EgoEst} (lost : e.mode = 0)
    (h : e.est = l :: r) : egoOff e i = (l.x - i.x, l.y - i.y, l.z - i.z) := by
  unfold egoOff
  rw [if_pos lost, h]
  rfl

/-! ## The mode -/

/-- The wheels alone show the machine turn: one on each side, or one with the angle of the steering (09 Table 9.3). -/
abbrev WheelsTurn (s : State) : Prop :=
  let sides := (wheelsValid s).map fun x => x.2.2 % 2
  0 ∈ sides ∧ 1 ∈ sides ∨ wheelsValid s ≠ [] ∧ steerValid s = true

section
variable {s : State} {e : Ego}

theorem egoMode_of_lost (h : e.far = true ∨ egEnable (egoCfg s) = false) : egoMode s e = 0 :=
  if_pos (by rcases h with far | off <;> simp [*])

theorem wheelsTurn_iff : (((wheelsValid s).map fun x => x.2.2 % 2).contains 0 &&
    ((wheelsValid s).map fun x => x.2.2 % 2).contains 1 || !(wheelsValid s).isEmpty && steerValid s) = true ↔
      WheelsTurn s := by
  simp only [WheelsTurn, Bool.or_eq_true, Bool.and_eq_true, List.contains_iff_mem, Bool.not_eq_true',
    List.isEmpty_eq_false_iff]

section
variable (on : egEnable (egoCfg s) = true) (near : e.far = false)
include on near

/-- While enabled and near, the inertial unit decides, and then the wheels (09 Table 9.3). -/
theorem egoMode_of_near : egoMode s e =
    if imuWord s = 1 then
      if wheelsValid s ≠ [] then 1 else if e.noWheel.all fun t => decide (s.mono ≤ t + 125000000) then 2 else 0
    else if WheelsTurn s then if e.noImu.all fun t => decide (s.mono ≤ t + 50000000) then 3 else 0 else 0 := by
  unfold egoMode
  refine (if_neg (by simp [on, near])).trans
    (if_congr Iff.rfl (if_congr (by simp) rfl ?_) (if_congr wheelsTurn_iff ?_ rfl))
  · cases e.noWheel with
    | none => rfl
    | some t => exact if_congr decide_eq_true_iff.symm rfl rfl
  · cases e.noImu with
    | none => rfl
    | some t => exact if_congr decide_eq_true_iff.symm rfl rfl

theorem egoMode_of_full (imu : imuWord s = 1) (wheels : wheelsValid s ≠ []) : egoMode s e = 1 := by
  rw [egoMode_of_near on near, if_pos imu, if_pos wheels]

theorem egoMode_of_imuOnly (imu : imuWord s = 1) (wheels : wheelsValid s = []) :
    egoMode s e = if e.noWheel.all fun t => decide (s.mono ≤ t + 125000000) then 2 else 0 := by
  rw [egoMode_of_near on near, if_pos imu, if_neg (not_not.mpr wheels)]

theorem egoMode_of_wheels (imu : imuWord s ≠ 1) (turns : WheelsTurn s) :
    egoMode s e = if e.noImu.all fun t => decide (s.mono ≤ t + 50000000) then 3 else 0 := by
  rw [egoMode_of_near on near, if_neg imu, if_pos turns]

theorem egoMode_of_neither (imu : imuWord s ≠ 1) (turns : ¬ WheelsTurn s) : egoMode s e = 0 := by
  rw [egoMode_of_near on near, if_neg imu, if_neg turns]

end

end

/-! ## A change of mode -/

section
variable {s : State} {m : Nat}

/-- Ego-motion in a new mode; LOST begins now. -/
def egoModed (s : State) (m : Nat) : State :=
  s.setEgo { s.fus.ego with mode := m, lostAt := if m = 0 then some s.mono else none }

/-- The data of EGO_MODE: the mode before and the new one (09 R290). -/
def egoModeData (s : State) (m : Nat) : Bytes := b1 s.fus.ego.mode ++ b1 m ++ zeros 2

theorem egoSetMode_of_same (same : s.fus.ego.mode = m) : egoSetMode s m = s := if_pos same

section
variable (changes : s.fus.ego.mode ≠ m)
include changes

theorem egoSetMode_of_found (found : m ≠ 0) :
    egoSetMode s m = returnSrc (emit (egoModed s m) 0x0803 0xFFFF (egoModeData s m)) 134 := by
  refine (if_neg changes).trans ((if_neg (by simp [found])).trans ?_)
  rw [if_neg found]
  rfl

/-- Entering LOST is fault-related; the source is raised while ego-motion is enabled (09 R290). -/
theorem egoSetMode_of_lost (lost : m = 0) : egoSetMode s m =
    if egEnable (egoCfg s) then raise (emitFault (egoModed s m) 0x0803 0xFFFF (egoModeData s m)) 134 0
    else returnSrc (emitFault (egoModed s m) 0x0803 0xFFFF (egoModeData s m)) 134 := by
  have cfg : egoCfg (emitFault (egoModed s m) 0x0803 0xFFFF (egoModeData s m)) = egoCfg s := by
    unfold egoCfg
    rw [emitFault_fus]
    rfl
  refine (if_neg changes).trans ?_
  rw [if_pos lost]
  exact if_congr (by rw [← cfg, Bool.and_eq_true, decide_eq_true_eq]; exact and_iff_right lost) rfl rfl

end

end

/-! ## An ego instant -/

section
variable {s : State} {i : EgoIn}

/-- An ego instant that has not been had, while the firmware runs in RUN or BREEZE and ego-motion is enabled
(09 R289). -/
abbrev EgoDue (s : State) : Prop :=
  fwRuns s = true ∧ s.pwr.state ≤ 1 ∧ egEnable (egoCfg s) = true ∧ atGrid (s.tdNs 0) 0 1000000 = true ∧
    ∀ x, s.fus.ego.est.head? = some x → x.tick + 250 ≤ s.mono

/-- The velocity integrated from the inertial unit (09 R288). -/
def egoVelocity (s : State) : F32 :=
  if imuWord s = 1 then Config.imuVelocity (egoCfg s) s.cse.imu.v s.fus.ego.vImu else s.fus.ego.vImu

/-- Ego-motion with what an instant sees: the distance from W's origin, the velocities, and since when what has not been
valid. -/
def egoSeen (i : EgoIn) (s : State) : Ego :=
  let e := s.fus.ego
  let o := egoOff e i
  { e with
    far := e.far || farOut (i.x + o.1) (i.y + o.2.1) (i.z + o.2.2), vImu := egoVelocity s
    wheels := (List.range 4).filterMap (wheelSpeed s (egoVelocity s))
    noWheel := if (wheelsValid s).isEmpty then some (e.noWheel.getD s.mono) else none
    noImu := if imuWord s = 1 then none else some (e.noImu.getD s.mono) }

/-- The mode of an instant. -/
def egoModeSeen (i : EgoIn) (s : State) : Nat := egoMode s (egoSeen i s)

/-- The estimate of an instant (09 Table 9.2). -/
def egoEstimate (i : EgoIn) (s : State) : EgoEst :=
  let o := egoOff s.fus.ego i
  { time := T96.ofNs (s.tdNs 0 / 1000000 * 1000000), tick := s.mono, x := i.x + o.1, y := i.y + o.2.1, z := i.z + o.2.2
    roll := i.roll, pitch := i.pitch, yaw := wrapPi i.yaw, speed := i.speed, yawRate := i.yawRate
    mode := egoModeSeen i s }

/-- Ego-motion with the estimate of an instant published. -/
def egoPublished (i : EgoIn) (s : State) : Ego :=
  { egoSeen i s with
    off := egoOff s.fus.ego i, est := (egoEstimate i s :: (egoSeen i s).est).take 4096 }

theorem egoDue_iff : (fwRuns s && decide (s.pwr.state ≤ 1) && egEnable (egoCfg s) && atGrid (s.tdNs 0) 0 1000000 &&
    s.fus.ego.est.head?.all fun x => decide (x.tick + usT 1 ≤ s.mono)) = true ↔ EgoDue s := by
  simp only [Bool.and_eq_true, decide_eq_true_eq, Option.all_eq_true, and_assoc]
  rfl

theorem xEgoInstant_eq : xEgoInstant i s =
    if fwRuns s && decide (s.pwr.state ≤ 1) && egEnable (egoCfg s) && atGrid (s.tdNs 0) 0 1000000 &&
        s.fus.ego.est.head?.all fun x => decide (x.tick + usT 1 ≤ s.mono) then
      egoSetMode (s.setEgo (if egoModeSeen i s = 0 then egoSeen i s else egoPublished i s)) (egoModeSeen i s)
    else s := by
  unfold xEgoInstant
  dsimp only
  cases s.fus.ego.est.head? <;> rfl

theorem xEgoInstant_of_other (h : ¬ EgoDue s) : xEgoInstant i s = s :=
  xEgoInstant_eq.trans (if_neg (mt egoDue_iff.mp h))

section
variable (due : EgoDue s)
include due

theorem xEgoInstant_of_due : xEgoInstant i s =
    egoSetMode (s.setEgo (if egoModeSeen i s = 0 then egoSeen i s else egoPublished i s)) (egoModeSeen i s) :=
  xEgoInstant_eq.trans (if_pos (egoDue_iff.mpr due))

theorem xEgoInstant_of_lost (lost : egoModeSeen i s = 0) :
    xEgoInstant i s = egoSetMode (s.setEgo (egoSeen i s)) (egoModeSeen i s) := by
  rw [xEgoInstant_of_due due, if_pos lost]

theorem xEgoInstant_of_found (found : egoModeSeen i s ≠ 0) :
    xEgoInstant i s = egoSetMode (s.setEgo (egoPublished i s)) (egoModeSeen i s) := by
  rw [xEgoInstant_of_due due, if_neg found]

end

end

/-! ## A commit -/

section
variable {s : State} {p : Bytes}

theorem xEgoConfigCommit_of_none (h : s.fus.ego.pend = none) : xEgoConfigCommit s = s := by
  unfold xEgoConfigCommit
  dsimp only
  rw [h]

/-- A configuration in force, with W set anew (09 R291, R289). -/
def egoCommitted (s : State) (p : Bytes) : State :=
  s.setEgo { s.fus.ego with
    cfg := some p, pend := none, est := [], off := (0, 0, 0), far := false, noWheel := none, noImu := none }

section
variable (hp : s.fus.ego.pend = some p)
include hp

theorem xEgoConfigCommit_of_some : xEgoConfigCommit s =
    if atGrid (s.tdNs 0) 0 1000000 then
      if egEnable p then egoCommitted s p else returnSrc (egoSetMode (egoCommitted s p) 0) 134
    else s := by
  unfold xEgoConfigCommit
  dsimp only
  rw [hp]
  rfl

theorem xEgoConfigCommit_of_early (early : ¬ atGrid (s.tdNs 0) 0 1000000 = true) : xEgoConfigCommit s = s :=
  (xEgoConfigCommit_of_some hp).trans (if_neg early)

variable (due : atGrid (s.tdNs 0) 0 1000000 = true)
include due

theorem xEgoConfigCommit_of_enabled (on : egEnable p = true) : xEgoConfigCommit s = egoCommitted s p :=
  (xEgoConfigCommit_of_some hp).trans ((if_pos due).trans (if_pos on))

theorem xEgoConfigCommit_of_disabled (off : egEnable p = false) :
    xEgoConfigCommit s = returnSrc (egoSetMode (egoCommitted s p) 0) 134 :=
  (xEgoConfigCommit_of_some hp).trans ((if_pos due).trans (if_neg (ne_true_of_eq_false off)))

end

end

end Sys2Proof.Machine
end

section
/-! SUPPORT. Cuts and cycles: the cut gathered now, what a gather instant counts, and what a cycle begins with (09 R295
to R299, R304). -/

namespace Sys2Proof.Machine

/-! ## The cut gathered now -/

section
variable {s : State}

/-- A gather instant is now, and its cut has not been had (09 R296). -/
abbrev CutDue (s : State) : Prop :=
  atGrid (s.tdNs 0) (1000000 * fgGather s.grid) (fusPeriod s.fus.rate) = true ∧
    s.fus.cutTick + fusPeriod s.fus.rate / 8 ≤ s.mono - 250000 * fgGather s.grid

theorem cutNow_of_owed {due tick : Nat} {time : T96} (h : s.fus.owed = some (due, tick, time)) :
    cutNow s = if due ≤ s.mono then some (tick, time) else none := by
  unfold cutNow
  dsimp only
  rw [h]
  exact if_congr (past_iff s due 0) rfl rfl

theorem cutDue_iff : (atGrid (s.tdNs 0) (1000000 * fgGather s.grid) (fusPeriod s.fus.rate) &&
    decide (s.fus.cutTick + fusPeriod s.fus.rate / 8 ≤ s.mono - msT (fgGather s.grid))) = true ↔ CutDue s :=
  (Bool.and_eq_true _ _).to_iff.trans (and_congr_right' decide_eq_true_iff)

section
variable (free : s.fus.owed = none)
include free

theorem cutNow_of_free : cutNow s =
    if atGrid (s.tdNs 0) (1000000 * fgGather s.grid) (fusPeriod s.fus.rate) &&
        decide (s.fus.cutTick + fusPeriod s.fus.rate / 8 ≤ s.mono - msT (fgGather s.grid)) then
      some (s.mono - 250000 * fgGather s.grid,
        T96.ofNs ((s.tdNs 0 - 1000000 * fgGather s.grid) / fusPeriod s.fus.rate * fusPeriod s.fus.rate))
    else none := by
  unfold cutNow
  dsimp only
  rw [free]
  rfl

theorem cutNow_of_due (h : CutDue s) : cutNow s = some (s.mono - 250000 * fgGather s.grid,
    T96.ofNs ((s.tdNs 0 - 1000000 * fgGather s.grid) / fusPeriod s.fus.rate * fusPeriod s.fus.rate)) :=
  (cutNow_of_free free).trans (if_pos (cutDue_iff.mpr h))

theorem cutNow_of_undue (h : ¬ CutDue s) : cutNow s = none :=
  (cutNow_of_free free).trans (if_neg (mt cutDue_iff.mp h))

end

/-! ## FUSION_GATHER -/

/-- The grid's cycles run: a start is committed, and the grid is STARTING or RUNNING. -/
abbrev GridRuns (s : State) : Prop := s.fus.committed = true ∧ (s.st fusFid).live = true

/-- No cycle is under way, and the budget gives the grid work (09 R297). -/
abbrev GridIdle (s : State) : Prop := s.fus.cycle = none ∧ mayWork s 1 = true

/-- How many cut instants a cut lies after the latest one that was had. -/
def cutSteps (s : State) (cut : Nat) : Nat :=
  max 1 ((cut - s.fus.cutTick + fusPeriod s.fus.rate / 8) / (fusPeriod s.fus.rate / 4))

/-- The grid with a cut had, and a number of cuts skipped. -/
def cutHad (s : State) (cut skipped : Nat) : State :=
  { s with fus := { s.fus with
    num := s.fus.num + cutSteps s cut, cutTick := cut, gatherTick := s.mono, owed := none
    skipped := satN 4 (s.fus.skipped + skipped) } }

theorem gridRuns_iff : (s.fus.committed && fusLive s) = true ↔ GridRuns s := (Bool.and_eq_true _ _).to_iff

theorem gridIdle_iff : (s.fus.cycle.isNone && mayWork s 1) = true ↔ GridIdle s := by
  rw [Bool.and_eq_true, Option.isNone_iff_eq_none]

theorem xFusionGather_of_none (h : ¬ GridRuns s ∨ cutNow s = none) : xFusionGather s = s := by
  have noCut : (if s.fus.committed && fusLive s then cutNow s else none) = none := by
    rcases h with still | undue
    · exact if_neg (mt gridRuns_iff.mp still)
    · rw [undue, ite_self]
  unfold xFusionGather
  dsimp only
  rw [noCut]

section
variable {cut : Nat} {time : T96} (runs : GridRuns s) (now : cutNow s = some (cut, time))
include runs now

theorem xFusionGather_of_cut : xFusionGather s =
    if s.fus.cycle.isNone && mayWork s 1 then
      cycleBegin (cutHad s cut (cutSteps s cut - 1 + if s.fus.cycle.isNone && mayWork s 1 then 0 else 1)) cut time
    else cutHad s cut (cutSteps s cut - 1 + if s.fus.cycle.isNone && mayWork s 1 then 0 else 1) := by
  have someCut : (if s.fus.committed && fusLive s then cutNow s else none) = some (cut, time) :=
    (if_pos (gridRuns_iff.mpr runs)).trans now
  unfold xFusionGather
  dsimp only
  rw [someCut]
  rfl

theorem xFusionGather_of_idle (idle : GridIdle s) :
    xFusionGather s = cycleBegin (cutHad s cut (cutSteps s cut - 1)) cut time := by
  have h := gridIdle_iff.mpr idle
  rw [xFusionGather_of_cut runs now, if_pos h, if_pos h, Nat.add_zero]

/-- A cut that finds the grid at work, or without a budget for it, is skipped. -/
theorem xFusionGather_of_busy (busy : ¬ GridIdle s) : xFusionGather s = cutHad s cut (cutSteps s cut) := by
  have h := mt gridIdle_iff.mp busy
  have all : cutSteps s cut - 1 + 1 = cutSteps s cut := Nat.sub_add_cancel (Nat.le_max_left 1 _)
  rw [xFusionGather_of_cut runs now, if_neg h, if_neg h, all]

end

end

/-! ## What a cycle begins with -/

theorem scrollAxis_spec (c p : Int) : let r := (scrollAxis c p).1
    (r - c) % 32 = 0 ∧ p - r ≤ 32 ∧ r - p ≤ 32 ∧ (p - c ≤ 32 → c - p ≤ 32 → r = c) := by
  dsimp only
  unfold scrollAxis
  split_ifs <;> dsimp only <;> omega

section
variable (s : State) (cut : Nat)

/-- Dropping samples changes what counts them alone. -/
theorem foldl_fusDrop_eq (l : List FSample) : ∃ d, l.foldl (fun s x => fusDrop s x.inp 1) s =
    { s with fus := { s.fus with dropped := d } } := by
  induction l generalizing s with
  | nil => exact ⟨_, rfl⟩
  | cons x r ih =>
    obtain ⟨d, hd⟩ := ih (fusDrop s x.inp 1)
    exact ⟨d, hd⟩

/-- A sample at or before the cut before is counted as late. -/
def lateCounted (s : State) (x : FSample) : State :=
  { s with fus := { s.fus with late := tput s.fus.late x.inp (satN 4 (tget 0 s.fus.late x.inp + 1)) } }

theorem foldl_lateCounted_eq (l : List FSample) : ∃ d, l.foldl lateCounted s =
    { s with fus := { s.fus with late := d } } := by
  induction l generalizing s with
  | nil => exact ⟨_, rfl⟩
  | cons x r ih =>
    obtain ⟨d, hd⟩ := ih (lateCounted s x)
    exact ⟨d, hd⟩

/-- The tick of the latest estimate. -/
def newestTick (s : State) : Nat := match s.fus.ego.est.head? with | some e => e.tick | none => 0

/-- The samples that a cut takes (09 R304). -/
def samplesDue (s : State) (cut : Nat) : List FSample :=
  s.fus.samples.filter fun x => decide (x.tick ≤ cut ∧ x.tick ≤ newestTick s)

/-- The samples that a cut leaves to later ones. -/
def samplesLeft (s : State) (cut : Nat) : List FSample :=
  s.fus.samples.filter fun x => !decide (x.tick ≤ cut ∧ x.tick ≤ newestTick s)

/-- The state without the samples taken. -/
def samplesOut (s : State) (cut : Nat) : State := { s with fus := { s.fus with samples := samplesLeft s cut } }

/-- Those without a pose are dropped. -/
def samplesDropped (s : State) (cut : Nat) : State :=
  ((samplesDue s cut).filter fun x => !hasPose s x.tick).foldl (fun s x => fusDrop s x.inp 1) (samplesOut s cut)

/-- Those with a pose that lie at or before the cut before are late. -/
def samplesLate (s : State) (cut : Nat) : State :=
  (((samplesDue s cut).filter fun x => hasPose s x.tick).filter fun x =>
    decide (x.tick ≤ s.fus.cuts.headD 0)).foldl lateCounted (samplesDropped s cut)

theorem takeSamples_samplesLate : ∃ n, takeSamples s cut =
    { samplesLate s cut with fus := { (samplesLate s cut).fus with superseded := n } } := ⟨_, rfl⟩

/-- Taking a cut's samples leaves the others and counts (09 R304). -/
theorem takeSamples_eq : ∃ d l n, takeSamples s cut = { s with fus := { s.fus with
    samples := samplesLeft s cut, dropped := d, late := l, superseded := n } } := by
  obtain ⟨n, hn⟩ := takeSamples_samplesLate s cut
  obtain ⟨l, hl⟩ : ∃ l, samplesLate s cut = _ := foldl_lateCounted_eq (samplesDropped s cut) _
  obtain ⟨d, hd⟩ : ∃ d, samplesDropped s cut = _ := foldl_fusDrop_eq (samplesOut s cut) _
  exact ⟨d, l, n, by rw [hn, hl, hd]; rfl⟩

/-- The centre after a scroll follows the tracked cell, where there is one (09 R295). -/
theorem scroll_eq : ∃ ci cj n, scroll s cut = { s with fus := { s.fus with ci := ci, cj := cj, scrolls := n } } ∧
    ∀ t, trackedCell s cut = some t → ci = (scrollAxis s.fus.ci t.1).1 ∧ cj = (scrollAxis s.fus.cj t.2).1 := by
  unfold scroll
  cases trackedCell s cut with
  | none => exact ⟨_, _, _, rfl, fun t ht => nomatch ht⟩
  | some t => exact ⟨_, _, _, rfl, fun u hu => Option.some.inj hu ▸ ⟨rfl, rfl⟩⟩

/-- What a cycle begins with (09 R295, R296): its cut, its number, the ego-motion at the cut, the centre and the
policies. -/
theorem cycleBegin_spec (time : T96) : let u := cycleBegin s cut time
    (∃ c, u.fus.cycle = some c ∧ c.tick = cut ∧ c.time = time ∧ c.num = s.fus.num ∧ c.ego = egoAt s cut ∧
      c.ci = u.fus.ci ∧ c.cj = u.fus.cj ∧ c.pols = (List.range 3).map (policyNow s)) ∧
    (∀ x ∈ u.fus.samples, x ∈ s.fus.samples) ∧
    ∀ t, trackedCell s cut = some t →
      u.fus.ci = (scrollAxis s.fus.ci t.1).1 ∧ u.fus.cj = (scrollAxis s.fus.cj t.2).1 := by
  obtain ⟨d, l, n, taken⟩ := takeSamples_eq s cut
  obtain ⟨ci, cj, m, scrolled, centre⟩ := scroll_eq (takeSamples s cut) cut
  unfold cycleBegin
  dsimp only
  rw [scrolled]
  rw [taken] at centre ⊢
  exact ⟨⟨_, rfl, rfl, rfl, rfl, rfl, rfl, rfl, rfl⟩, fun x hx => List.mem_of_mem_filter hx, centre⟩

end

end Sys2Proof.Machine
end

section
/-! SUPPORT. What the issue of a cycle's results leaves: its headwind, its lines, its objects, and the grid RUNNING (09
R296, R306 to R314). -/

namespace Sys2Proof.Machine

/-! ## Contradictions -/

/-- Of the grid, the contradictions of its heads alone have changed. -/
abbrev HeadsOnly (s t : State) : Prop := ∃ heads, t.fus = { s.fus with heads := heads }

section
variable {s : State} {cy : FCycle} {cells : List CellOut} {h : Nat}

theorem HeadsOnly.refl (s : State) : HeadsOnly s s := ⟨s.fus.heads, rfl⟩

theorem HeadsOnly.trans {a b c : State} (ab : HeadsOnly a b) (bc : HeadsOnly b c) : HeadsOnly a c := by
  obtain ⟨x, hx⟩ := ab
  obtain ⟨y, hy⟩ := bc
  exact ⟨y, by rw [hy, hx]⟩

theorem headsOnly_setHead (s : State) (h : Nat) (v : FHead) : HeadsOnly s (s.setHead h v) := ⟨_, rfl⟩

theorem HeadsOnly.of_fus {a b c : State} (ab : HeadsOnly a b) (bc : c.fus = b.fus) : HeadsOnly a c :=
  ab.imp fun _ hb => bc.trans hb

theorem headsOnly_contraClear (s : State) (h : Nat) : HeadsOnly s (contraClear s h) := by
  have cleared (b : Bool) (v : FHead) (data : Bytes) : HeadsOnly s
      (if b then returnSrc (emit (s.setHead h v) 0x0802 fusFid data) (130 + h) else s) := by
    cases b
    · exact .refl s
    · exact (headsOnly_setHead s h v).of_fus ((returnSrc_fus _ _).trans (emit_fus _ _ _ _))
  exact cleared _ _ _

theorem headsOnly_contraCycle (s : State) : HeadsOnly s (contraCycle cy cells s h) := by
  unfold contraCycle
  dsimp only
  split
  · split
    · exact (headsOnly_setHead s h _).of_fus ((raise_fus _ _ _).trans (emitFault_fus _ _ _ _))
    · exact headsOnly_setHead s h _
  · exact (headsOnly_setHead s h _).trans (headsOnly_contraClear _ h)

theorem headsOnly_forN_contraCycle (n : Nat) (s : State) : HeadsOnly s (forN n (contraCycle cy cells) s) := by
  unfold forN
  induction List.range n generalizing s with
  | nil => exact .refl s
  | cons h r ih => exact (headsOnly_contraCycle s).trans (ih _)

end

/-! ## Objects -/

/-- Of the grid, the live objects alone have changed. -/
abbrev ObjectsOnly (s t : State) : Prop := ∃ objs next, t.fus = { s.fus with objs := objs, nextId := next }

section
variable {cy : FCycle} {l : List HeadCell}

theorem ObjectsOnly.refl (s : State) : ObjectsOnly s s := ⟨s.fus.objs, s.fus.nextId, rfl⟩

theorem ObjectsOnly.trans {a b c : State} (ab : ObjectsOnly a b) (bc : ObjectsOnly b c) : ObjectsOnly a c := by
  obtain ⟨x, i, hx⟩ := ab
  obtain ⟨y, j, hy⟩ := bc
  exact ⟨y, j, by rw [hy, hx]⟩

theorem objectsOnly_objOf (s : State) (code : Nat) : ObjectsOnly s (objOf cy l s code).1 := by
  unfold objOf
  dsimp only
  split
  · split
    · exact .refl s
    · exact ⟨_, _, rfl⟩
  · exact ⟨_, _, rfl⟩

theorem objectsOnly_objStep (a : State × List ObjOut × Nat) (c : Nat) : ObjectsOnly a.1 (objStep cy l a c).1 := by
  have one := objectsOnly_objOf (cy := cy) (l := l) a.1 c
  unfold objStep
  split
  all_goals
    rename_i same
    rw [same] at one
    exact one

theorem objectsOnly_foldl_objStep (codes : List Nat) (a : State × List ObjOut × Nat) :
    ObjectsOnly a.1 (codes.foldl (objStep cy l) a).1 := by
  induction codes generalizing a with
  | nil => exact .refl a.1
  | cons c r ih => exact (objectsOnly_objStep a c).trans (ih _)

theorem forN_pushAll_fus (n typ : Nat) (mk : Nat → Session → Rec) (s : State) :
    (forN n (fun s i => pushAll s typ (mk i)) s).fus = s.fus :=
  fus_of_off (forN_off n _ s 32 fun t i => pushAll_off t typ (mk i) _ (Nat.and_self _)) rfl

/-- A cycle's objects change those of the grid and what counts them alone; at most 256 are reported (09 R313). -/
theorem objectCycle_fus (cells : List CellOut) (s : State) : ∃ objs next reported truncated, reported ≤ 256 ∧
    (objectCycle cy cells s).fus =
      { s.fus with objs := objs, nextId := next, objects := reported, truncated := truncated } := by
  unfold objectCycle
  dsimp only
  obtain ⟨objs, next, folded⟩ := objectsOnly_foldl_objStep (cy := cy)
    (l := (headCells cy 2 cells).filter fun e => fLe fHalf e.2.1)
    (codesOf ((headCells cy 2 cells).filter fun e => fLe fHalf e.2.1))
    ({ s with fus := { s.fus with objs := s.fus.objs.filter fun o => decide (s.mono < o.seen + secT 2) } }, [], 0)
  rw [forN_pushAll_fus]
  dsimp only
  rw [folded]
  exact ⟨_, _, _, _, List.length_take_le .., rfl⟩

end

/-! ## FUSION_RESULTS_ISSUED -/

section
variable {s : State} {cells : List CellOut} {l r : EdgeLine} {cy : FCycle}

theorem xFusionResultsIssued_of_none (h : s.fus.cycle = none) : xFusionResultsIssued cells l r s = s := by
  unfold xFusionResultsIssued
  rw [h]

/-- The lines of a cycle. -/
def edgesOf (cy : FCycle) (l r : EdgeLine) : Edges := { time := cy.time, tick := cy.tick, left := l, right := r }

/-- The state with the headwind, the lines and the cut of a cycle issued. -/
def resultsShown (cells : List CellOut) (l r : EdgeLine) (cy : FCycle) (s : State) : State :=
  let track := trackSpeed cy
  let ed := edgesOf cy l r
  let sure := fLe (gdConf s.guidCfg) (sideLine s.guidCfg ed).conf
  { s with
    headwind := some (headwindOf s cy cells)
    guid := { s.guid with edgeTick := if sure then some cy.tick else s.guid.edgeTick }
    fus := { s.fus with
      cycle := none, vh := track.1, kap := track.2, edges := some ed, issuedCut := cy.time, issued := cy.num } }

/-- The state with the contradictions and the objects of a cycle judged too. -/
def resultsJudged (cells : List CellOut) (l r : EdgeLine) (cy : FCycle) (s : State) : State :=
  objectCycle cy cells (forN 3 (contraCycle cy cells) (resultsShown cells l r cy s))

/-- The judgements leave all but the grid, what sends their events and what is drawn. -/
theorem resultsJudged_off : (resultsJudged cells l r cy s).off 1048674 = (resultsShown cells l r cy s).off 1048674 := by
  simp [resultsJudged]

theorem resultsJudged_headwind : (resultsJudged cells l r cy s).headwind = some (headwindOf s cy cells) :=
  headwind_of_off resultsJudged_off rfl

theorem resultsJudged_st (f : Nat) : (resultsJudged cells l r cy s).st f = s.st f :=
  st_congr (fns_of_off resultsJudged_off rfl) f

/-- They leave of the grid what the issue shows. -/
theorem resultsJudged_fus : ∃ heads objs next reported truncated, reported ≤ 256 ∧
    (resultsJudged cells l r cy s).fus = { (resultsShown cells l r cy s).fus with
      heads := heads, objs := objs, nextId := next, objects := reported, truncated := truncated } := by
  obtain ⟨heads, contra⟩ := headsOnly_forN_contraCycle (cy := cy) (cells := cells) 3 (resultsShown cells l r cy s)
  obtain ⟨objs, next, n, truncated, few, objects⟩ :=
    objectCycle_fus (cy := cy) cells (forN 3 (contraCycle cy cells) (resultsShown cells l r cy s))
  exact ⟨heads, objs, next, n, truncated, few, by unfold resultsJudged; rw [objects, contra]⟩

/-- A live grid takes the results that bring the lines R310 gives. -/
abbrev ResultsGood (s : State) (cy : FCycle) (cells : List CellOut) (l r : EdgeLine) : Prop :=
  (s.st fusFid).live = true ∧ edgeOk s.grid cy true cells l = true ∧ edgeOk s.grid cy false cells r = true

theorem resultsGood_iff : (fusLive s && edgeOk s.grid cy true cells l && edgeOk s.grid cy false cells r) = true ↔
    ResultsGood s cy cells l r := by
  rw [Bool.and_eq_true, Bool.and_eq_true, and_assoc]
  rfl

section
variable (h : s.fus.cycle = some cy)
include h

theorem xFusionResultsIssued_of_cycle : xFusionResultsIssued cells l r s =
    if fusLive s && edgeOk s.grid cy true cells l && edgeOk s.grid cy false cells r then
      firstIssue fusFid (resultsJudged cells l r cy s)
    else s := by
  unfold xFusionResultsIssued
  rw [h]
  rfl

theorem xFusionResultsIssued_of_good (ok : ResultsGood s cy cells l r) :
    xFusionResultsIssued cells l r s = firstIssue fusFid (resultsJudged cells l r cy s) :=
  (xFusionResultsIssued_of_cycle h).trans (if_pos (resultsGood_iff.mpr ok))

theorem xFusionResultsIssued_of_bad (bad : ¬ ResultsGood s cy cells l r) : xFusionResultsIssued cells l r s = s :=
  (xFusionResultsIssued_of_cycle h).trans (if_neg (mt resultsGood_iff.mp bad))

end

/-- What stands after an issue (09 R296). -/
theorem firstIssue_resultsJudged (live : (s.st fusFid).live = true) :
    let u := firstIssue fusFid (resultsJudged cells l r cy s)
    u.headwind = some (headwindOf s cy cells) ∧ u.fus.cycle = none ∧ u.fus.issued = cy.num ∧
      u.fus.issuedCut = cy.time ∧ u.fus.edges = some (edgesOf cy l r) ∧ u.fus.objects ≤ 256 ∧
      u.st fusFid = .running := by
  have issued : (firstIssue fusFid (resultsJudged cells l r cy s)).fus = (resultsJudged cells l r cy s).fus :=
    fus_of_off (firstIssue_off _ _) rfl
  have wind : (firstIssue fusFid (resultsJudged cells l r cy s)).headwind = some (headwindOf s cy cells) :=
    (headwind_of_off (firstIssue_off _ _) rfl).trans resultsJudged_headwind
  have runs : (firstIssue fusFid (resultsJudged cells l r cy s)).st fusFid = .running := by
    rw [firstIssue_st, resultsJudged_st]
    rcases live_iff.mp live with hs | hs <;> rw [hs] <;> rfl
  obtain ⟨heads, objs, next, n, truncated, few, fus⟩ :=
    resultsJudged_fus (s := s) (cells := cells) (l := l) (r := r) (cy := cy)
  dsimp only
  rw [issued, fus]
  exact ⟨wind, rfl, rfl, rfl, rfl, few, runs⟩

end

/-! ## The output heads -/

/-- A cell that camera and lidar both see: the disagreement of R306, and what each policy makes of it (09 R307). -/
theorem headOut_of_seen (c : CellOut) (cam : c.camSeen = true) (lid : c.lidSeen = true) :
    let d := fMin (fDiv (fAbs (fSub c.c c.l)) (fMax (fMax (fAbs c.c) (fAbs c.l)) (headEps c.head))) f1
    disagree c = d ∧ headOut 0 c = (c.f, c.conf, c.sigma) ∧ headOut 1 c = (fMax c.c c.l, c.conf, c.sigma) ∧
    headOut 2 c = (c.f, fMul c.conf (fSub f1 d), fDiv c.sigma (fMax (fSub f1 d) (fDec 1 10))) ∧
    headOut 3 c = (c.c, c.conf, c.sigma) ∧ headOut 4 c = (c.l, c.conf, c.sigma) := by
  simp [disagree, headOut, cam, lid]

end Sys2Proof.Machine
end

section
/-! SUPPORT. Packets and samples as they arrive, and the grid's start, stop and loss of ego-motion (09 R302 to R304,
R317 to R319). -/

namespace Sys2Proof.Machine

/-! ## Packets and samples -/

section
variable {s : State} {pk : PointPacket}

theorem xPointPacketReceived_of_idle (idle : (s.st fusFid).live = false) : xPointPacketReceived pk s = s :=
  if_neg (ne_true_of_eq_false idle)

theorem xPointPacketReceived_of_live (live : (s.st fusFid).live = true) :
    xPointPacketReceived pk s = forN 4 (streamTake pk) s := if_pos live

theorem streamTake_of_other {i : Nat} (other : streamMatch s pk i = false) : streamTake pk s i = s :=
  if_neg (ne_true_of_eq_false other)

variable {x : FSample}

/-- A sample lies at or before the latest cut run, and came after the second gather instant that follows it (09 R304).
-/
abbrev SampleLate (s : State) (x : FSample) : Prop :=
  (∃ c, s.fus.cuts.head? = some c ∧ x.tick ≤ c) ∧ ∀ l, lateLimit s x.tick = some l → l < x.arrival

/-- A sample is dropped as it arrives: more than 1 s ahead, or too late. -/
abbrev SampleDropped (s : State) (x : FSample) : Prop := x.arrival + 250000000 < x.tick ∨ SampleLate s x

theorem fusSample_eq : fusSample s x =
    if decide (x.arrival + secT 1 < x.tick) || s.fus.cuts.head?.any (fun c => decide (x.tick ≤ c)) &&
        (lateLimit s x.tick).all fun l => decide (l < x.arrival) then fusDrop s x.inp 1
    else { s with fus := { s.fus with samples := s.fus.samples ++ [x] } } := by
  unfold fusSample
  cases s.fus.cuts.head? <;> cases lateLimit s x.tick <;> rfl

theorem sampleDropped_iff : (decide (x.arrival + secT 1 < x.tick) ||
    s.fus.cuts.head?.any (fun c => decide (x.tick ≤ c)) &&
      (lateLimit s x.tick).all fun l => decide (l < x.arrival)) = true ↔ SampleDropped s x := by
  simp only [Bool.or_eq_true, Bool.and_eq_true, Option.any_eq_true, Option.all_eq_true, decide_eq_true_eq]
  rfl

theorem fusSample_of_dropped (h : SampleDropped s x) : fusSample s x = fusDrop s x.inp 1 :=
  fusSample_eq.trans (if_pos (sampleDropped_iff.mpr h))

theorem fusSample_of_kept (h : ¬ SampleDropped s x) :
    fusSample s x = { s with fus := { s.fus with samples := s.fus.samples ++ [x] } } :=
  fusSample_eq.trans (if_neg (mt sampleDropped_iff.mp h))

end

/-! ## Lifecycle -/

section
variable {s : State}

/-- Ego-motion has been LOST for 100 ms, and the grid is STARTING or RUNNING (09 R319). -/
abbrev EgoLostOver (s : State) : Prop :=
  s.fus.ego.mode = 0 ∧ (∃ t, s.fus.ego.lostAt = some t ∧ t + 25000000 ≤ s.mono) ∧ (s.st fusFid).live = true

theorem fusFault_of_live (live : (s.st fusFid).live = true) :
    fusFault s = changeState (fusDiscard s) fusFid .faulted := by
  unfold fusFault
  rcases live_iff.mp live with hs | hs <;> rw [hs]

theorem xFusionEgoLostTimeout_eq : xFusionEgoLostTimeout s =
    if decide (s.fus.ego.mode = 0) && s.fus.ego.lostAt.any (fun t => s.past t (msT 100)) && fusLive s then fusFault s
    else s := by
  unfold xFusionEgoLostTimeout
  dsimp only
  cases s.fus.ego.lostAt with
  | none => rfl
  | some t => rw [Option.any_some]

theorem egoLostOver_iff : (decide (s.fus.ego.mode = 0) && s.fus.ego.lostAt.any (fun t => s.past t (msT 100)) &&
    fusLive s) = true ↔ EgoLostOver s := by
  simp only [Bool.and_eq_true, decide_eq_true_eq, Option.any_eq_true, past_iff, and_assoc]
  rfl

theorem xFusionEgoLostTimeout_of_over (h : EgoLostOver s) :
    xFusionEgoLostTimeout s = changeState (fusDiscard s) fusFid .faulted := by
  have ⟨_, _, live⟩ := h
  exact xFusionEgoLostTimeout_eq.trans ((if_pos (egoLostOver_iff.mpr h)).trans (fusFault_of_live live))

theorem xFusionEgoLostTimeout_of_other (h : ¬ EgoLostOver s) : xFusionEgoLostTimeout s = s :=
  xFusionEgoLostTimeout_eq.trans (if_neg (mt egoLostOver_iff.mp h))

/-- The first cut instant at least 250 ms after START's check (09 R317). -/
abbrev CutsBegin (s : State) : Prop :=
  s.st fusFid = .starting ∧ s.fus.committed = false ∧ (s.fn fusFid).since + 62500000 ≤ s.mono ∧
    atGrid (s.tdNs 0) 0 (fusPeriod s.fus.rate) = true

/-- The centre at which the window begins: the tracked cell, down to a step of the scroll (09 R295). -/
def firstCentre (s : State) : Int × Int :=
  (trackedCell s s.mono).elim (0, 0) fun t => (t.1.fdiv 32 * 32, t.2.fdiv 32 * 32)

/-- The grid as its cuts begin. -/
def cutsBegun (s : State) : State := { s with fus := { s.fus with
  committed := true, ci := (firstCentre s).1, cj := (firstCentre s).2
  cutTick := s.mono - fusPeriod s.fus.rate / 4, cuts := [s.mono - fusPeriod s.fus.rate / 4]
  cells := none, nextId := 1 } }

theorem cutsBegin_iff : (decide (s.st fusFid = .starting) && !s.fus.committed &&
    s.past (s.fn fusFid).since (msT 250) && atGrid (s.tdNs 0) 0 (fusPeriod s.fus.rate)) = true ↔ CutsBegin s := by
  simp only [Bool.and_eq_true, decide_eq_true_eq, Bool.not_eq_true', past_iff, and_assoc]
  rfl

theorem xFusionStartCommit_of_due (h : CutsBegin s) : xFusionStartCommit s = cutsBegun s := by
  refine (if_pos (cutsBegin_iff.mpr h)).trans ?_
  unfold cutsBegun firstCentre
  cases trackedCell s s.mono <;> rfl

theorem xFusionStartCommit_of_other (h : ¬ CutsBegin s) : xFusionStartCommit s = s :=
  if_neg (mt cutsBegin_iff.mp h)

end

end Sys2Proof.Machine

namespace Sys2Proof

open Machine

/-- Settles O42: each row by its condition. A mode is read off Table 9.3 case by case; a cycle begins with what taking
its samples and scrolling leave, and an issue ends with what its judgements leave of what it shows. -/
theorem fusion : Obligations.Fusion := by
  unfold Obligations.Fusion
  refine ⟨fun i s => ?instant, fun e i => ⟨egoOff_of_kept, fun l r => egoOff_of_lost⟩, farOut_iff, fun s e => ?mode,
    fun s m => ?setMode, fun s h => next_settle_congr (xEgoConfigCommit_of_none h), fun p s hp => ?commit,
    fun s => ⟨fun h => congrArg Host.Outcome.next (xFusionGather_of_none h), fun cut time runs now => ?gather⟩,
    fun s => ⟨fun due tick time => cutNow_of_owed, cutNow_of_due, cutNow_of_undue⟩, cycleBegin_spec, scrollAxis_spec,
    fun cells l r s h => next_settle_congr (xFusionResultsIssued_of_none h), fun cells l r cy s h => ?results,
    headOut_of_seen, fun pk s => ?packet, fun s x => ⟨fusSample_of_dropped, fusSample_of_kept⟩, fun s => ?egoLost,
    fun s => ?begin, fun s => ?stop⟩
  case instant =>
    exact ⟨fun due lost => next_settle_congr (xEgoInstant_of_lost due lost),
      fun due found => next_settle_congr (xEgoInstant_of_found due found),
      fun other => next_settle_congr (xEgoInstant_of_other other)⟩
  case mode =>
    exact ⟨egoMode_of_lost, fun on near => ⟨egoMode_of_full on near, egoMode_of_imuOnly on near,
      egoMode_of_wheels on near, egoMode_of_neither on near⟩⟩
  case setMode =>
    exact ⟨egoSetMode_of_same, egoSetMode_of_found,
      fun changes lost on => (egoSetMode_of_lost changes lost).trans (if_pos on),
      fun changes lost off => (egoSetMode_of_lost changes lost).trans (if_neg (ne_true_of_eq_false off))⟩
  case commit =>
    exact ⟨fun due on => next_settle_congr (xEgoConfigCommit_of_enabled hp due on),
      fun due off => next_settle_congr (xEgoConfigCommit_of_disabled hp due off),
      fun early => next_settle_congr (xEgoConfigCommit_of_early hp early)⟩
  case gather =>
    exact ⟨fun idle => congrArg Host.Outcome.next (xFusionGather_of_idle runs now idle),
      fun busy => congrArg Host.Outcome.next (xFusionGather_of_busy runs now busy)⟩
  case results =>
    exact ⟨fun ok => ⟨_, next_settle_congr (xFusionResultsIssued_of_good h ok), firstIssue_resultsJudged ok.1⟩,
      fun bad => next_settle_congr (xFusionResultsIssued_of_bad h bad)⟩
  case packet =>
    exact ⟨fun idle => congrArg Host.Outcome.next (xPointPacketReceived_of_idle idle),
      fun live => congrArg Host.Outcome.next (xPointPacketReceived_of_live live), fun i => streamTake_of_other⟩
  case egoLost =>
    exact ⟨fun expired => next_settle_congr (xFusionEgoLostTimeout_of_over expired),
      fun other => next_settle_congr (xFusionEgoLostTimeout_of_other other)⟩
  case begin =>
    exact ⟨fun due => congrArg Host.Outcome.next (xFusionStartCommit_of_due due),
      fun other => congrArg Host.Outcome.next (xFusionStartCommit_of_other other)⟩
  case stop =>
    exact ⟨fun stopping => next_settle_congr (if_pos stopping), fun other => next_settle_congr (if_neg other),
      rfl, rfl, rfl⟩

end Sys2Proof
end

section
/-! SUPPORT. A command that an earlier work of the module holds up, and a read through a camera's tunnel while the
module writes an exposure set (03 R83; 10 R338, R351). -/

namespace Sys2Proof.Machine

section
variable {op : OpSpec} {h : Hdr} {p : Bytes} {n : Nat} {s : State} {i : Instr}

/-- No check before the opcode's own refuses an accepted command. -/
theorem gate_of_accepted (ok : Accepted op h p n s) : gate (heard s h) op h p = none := by
  have service : servesNow (heard s h) op.code = true := by
    have := ok.service
    unfold servesNow at this ⊢
    rwa [limited_heard]
  have fits : ¬ packetMax (heard s h) h < 20 + op.reply p := by
    rw [packetMax_heard]
    exact Nat.not_lt.mpr ok.fixed
  have bench : op.bench = true → (heard s h).boot.bench = true := by rw [heard_boot]; exact ok.bench
  have token : op.token = true → (heard s h).net.token = some h.session := by rw [heard_token]; exact ok.token
  have flags : h.flags < 8 := by rw [ok.flags]; decide
  exact (gate_of_layout service bench token ok.length flags ok.layout).trans (if_neg fits)

/-- An accepted command that has to wait for other work of the module is held and not answered (03 R83). -/
theorem host_of_waits (ok : Accepted op h p n s) (hw : waits (heard s h) i = true) :
    host op h p i s = settle (hold (heard s h) h op.code i) := by
  have room : h.session = 0 ∨ (outstanding (heard s h) h.session).length < 16 := by
    rw [outstanding_heard]
    exact .inr ok.room
  unfold host
  rw [command_of_fresh ok, takeUp_of_passed room (gate_of_accepted ok), hw, Bool.or_true]
  rfl

end

/-- While the writes of an exposure set are in progress, a read through the tunnel is held (10 R351). -/
theorem exec_sensorTunnelRead_of_writing {h : Hdr} {p : Bytes} {a : SensorAns} {n : Nat} {s : State}
    (ok : Accepted (opSensorTunnel a) h p n s) (writing : (s.pipe (byteAt p 0)).writing.isSome = true) :
    exec (.sensorTunnelRead h p a) s =
      .next (settle (hold (heard s h) h 0x0902 (.sensorTunnelRead h.resumed p a))) :=
  congrArg Host.Outcome.next (host_of_waits (i := .sensorTunnelRead h.resumed p a) ok writing)

/-- The module in RUN: one session, which holds the token, and pipeline 0 RUNNING with its link up, in the middle of the
writes of an exposure set. -/
def writingCamera : State :=
  { State.reset with
    boot := { phase := 10, limited := false }
    pairs := [(0, { role := .active }), (1, { role := .active }), (2, { role := .active })]
    net :=
      { token := some 1
        sessions := [{ num := 1, ep := .udp 1 1, maxPkt := 8192, keepMs := 10000, name := [], last := 0
                       streams := [] }] }
    fns := [(pipeFid 0, { st := .running })]
    cam := { pipes := [(0, { power := true, link := true, committed := some 0, writing := some {} })] } }

/-- A command's header in that session. -/
def cameraHdr : Hdr := { ep := .udp 1 1, version := 1, flags := 0, session := 1, seq := 1 }

/-- The parameters of a SENSOR_TUNNEL that reads one byte of register 0 of pipeline 0 (10 R351). -/
def tunnelRead1 : Bytes := [0#8, 0#8, 0#8, 0#8, 1#8, 0#8, 0#8, 0#8]

theorem accepted_tunnelRead1 : Accepted (opSensorTunnel (.ack [5#8])) cameraHdr tunnelRead1 1 writingCamera where
  fresh := rfl
  served := by decide
  reached := by decide
  flags := rfl
  version := rfl
  fits := by decide
  named := by decide
  session := ⟨_, rfl, rfl⟩
  room := by decide
  prompt := by decide
  service := by decide
  bench := by decide
  token := by decide
  length := by decide
  layout := by decide
  fixed := by decide
  reply := by decide

end Sys2Proof.Machine

namespace Sys2Proof

open Machine

/-- Refutes O43: the pipeline is not OFF and its link stands, and the sensor acknowledges the read; but the writes of an
exposure set are in progress, and the read waits for them (10 R351) where the statement has it answered at once. -/
theorem not_cameraCommands : ¬ Obligations.CameraCommands := by
  unfold Obligations.CameraCommands
  rintro ⟨-, -, tunnel, -⟩
  obtain ⟨-, read, -⟩ := tunnel cameraHdr tunnelRead1 (.ack [5#8]) writingCamera
  have answered := read [5#8] rfl rfl accepted_tunnelRead1 (by decide)
  rw [exec_sensorTunnelRead_of_writing accepted_tunnelRead1 rfl] at answered
  have same := congrArg (fun t : State => t.net.held.length) (Host.Outcome.next.inj answered)
  exact absurd same (by decide +kernel)

end Sys2Proof
end

section
/-! SUPPORT. Camera power and link, and the lifecycle of a pipeline: what each row does under each of its conditions
(10 R329, R335, R347, R348). -/

namespace Sys2Proof.Machine

/-! ## The record of a pipeline -/

/-- What a pipeline's record shows depends on the cameras' block alone. -/
theorem pipe_congr {s t : State} (h : t.cam = s.cam) (k : Nat) : t.pipe k = s.pipe k :=
  congrArg (fun c : Cam => tget ({} : Pipe) c.pipes k) h

theorem pipeSt_congr {s t : State} (h : t.fns = s.fns) (k : Nat) : pipeSt t k = pipeSt s k := st_congr h (pipeFid k)

theorem emit_cam (s : State) (code func : Nat) (data : Bytes) : (emit s code func data).cam = s.cam :=
  cam_of_off (emit_off s code func data _ (Nat.and_self _)) rfl

theorem emitFault_cam (s : State) (code func : Nat) (data : Bytes) : (emitFault s code func data).cam = s.cam :=
  cam_of_off (emitFault_off s code func data _ (Nat.and_self _)) rfl

theorem returnSrc_cam (s : State) (n : Nat) : (returnSrc s n).cam = s.cam :=
  cam_of_off (returnSrc_off s n _ (Nat.and_self _)) rfl

theorem changeState_cam (s : State) (f : Nat) (n : FnState) : (changeState s f n).cam = s.cam :=
  cam_of_off (changeState_off s f n _ (Nat.and_self _)) rfl

/-! ## Link -/

section
variable {s : State} {k : Nat} {up : Bool}

theorem linkSet_of_same (same : (s.pipe k).link = up) : linkSet s k up = s := if_pos same

/-- The link comes up, which is an event, or goes down, which is also a fault's event (10 R329). -/
theorem linkSet_of_change (changes : (s.pipe k).link ≠ up) : linkSet s k up =
    if up then emit (s.setPipe k { s.pipe k with link := up }) 0x0901 (pipeFid k) (b1 (bit up 0) ++ zeros 3)
    else emitFault (s.setPipe k { s.pipe k with link := up }) 0x0901 (pipeFid k) (b1 (bit up 0) ++ zeros 3) :=
  if_neg changes

theorem linkSet_pipe : (linkSet s k up).pipe k = { s.pipe k with link := up } := by
  by_cases same : (s.pipe k).link = up
  · rw [linkSet_of_same same, ← same]
  · rw [linkSet_of_change same]
    split
    · rw [pipe_congr (emit_cam _ _ _ _), setPipe_pipe]
    · rw [pipe_congr (emitFault_cam _ _ _ _), setPipe_pipe]

theorem xCameraLinkChange_of_powered {id : Nat} (on : (s.pipe k).power = true) : xCameraLinkChange k true id s =
    linkSet (s.setPipe k { s.pipe k with sensorId := id % 65536 }) k true :=
  if_pos on

theorem xCameraLinkChange_of_unpowered {id : Nat} (dark : (s.pipe k).power = false) :
    xCameraLinkChange k true id s = s :=
  if_neg (ne_true_of_eq_false dark)

end

/-! ## Power -/

section
variable {s : State} {k : Nat}

theorem powerOff_pipe :
    (powerOff s k).pipe k = { s.pipe k with power := false, current := f0, link := false } := by
  unfold powerOff
  rw [linkSet_pipe, setPipe_pipe]

theorem pipeFault_of_live (live : (pipeSt s k).live = true) :
    pipeFault s k = changeState (pipeQuiet s k) (pipeFid k) .faulted := by
  unfold pipeFault
  rcases live_iff.mp live with h | h <;> rw [h]

theorem pipeFault_of_stopping (stopping : pipeSt s k = .stopping) : pipeFault s k = faultStopping s (pipeFid k) := by
  unfold pipeFault
  rw [stopping]

theorem pipeFault_of_inactive (h : pipeSt s k = .off ∨ pipeSt s k = .faulted) : pipeFault s k = s := by
  unfold pipeFault
  rcases h with h | h <;> rw [h]

section
variable {c : F32}

/-- A camera whose supply has been in limit for 10 ms: off, with its source raised and CAMERA_POWER sent (10 R329). -/
def cameraCut (s : State) (k : Nat) (c : F32) : State :=
  emitFault
    (raise ((powerOff s k).setPipe k { (powerOff s k).pipe k with limited := true, limitAt := s.mono })
      (136 + k) (fToInt (fMul c (fOfNat 1000))).toNat)
    0x0904 (pipeFid k) (leF c)

theorem powerOff_mono : (powerOff s k).mono = s.mono :=
  mono_of_off (powerOff_off s k _ (Nat.and_self _)) rfl

theorem cameraCut_pipeSt : pipeSt (cameraCut s k c) k = pipeSt s k := by
  have outside : (cameraCut s k c).off 2097248 = s.off 2097248 := by simp [cameraCut]
  exact pipeSt_congr (fns_of_off outside rfl) k

theorem xCameraPowerLimit_of_unpowered (dark : (s.pipe k).power = false) : xCameraPowerLimit k c s = s :=
  if_neg (ne_true_of_eq_false dark)

section
variable (on : (s.pipe k).power = true)
include on

theorem xCameraPowerLimit_of_powered : xCameraPowerLimit k c s =
    if pipeSt s k = .config then changeState (cameraCut s k c) (pipeFid k) .faulted
    else pipeFault (cameraCut s k c) k := by
  refine (if_pos on).trans ?_
  dsimp only
  rw [powerOff_mono, ← cameraCut_pipeSt (s := s) (c := c)]
  rfl

theorem xCameraPowerLimit_of_config (config : pipeSt s k = .config) :
    xCameraPowerLimit k c s = changeState (cameraCut s k c) (pipeFid k) .faulted :=
  (xCameraPowerLimit_of_powered on).trans (if_pos config)

theorem xCameraPowerLimit_of_active (active : pipeSt s k ≠ .config) :
    xCameraPowerLimit k c s = pipeFault (cameraCut s k c) k :=
  (xCameraPowerLimit_of_powered on).trans (if_neg active)

end

end

/-- A second has passed since a supply in limit was switched off, or since its latest retry (10 R329). -/
abbrev RetryDue (s : State) (k : Nat) : Prop :=
  (s.pipe k).limited = true ∧ pipeSt s k ≠ .off ∧ (s.pipe k).limitAt + 250000000 ≤ s.mono

theorem retryDue_iff : ((s.pipe k).limited && decide (pipeSt s k ≠ .off) &&
    s.past (s.pipe k).limitAt (secT 1)) = true ↔ RetryDue s k := by
  simp only [Bool.and_eq_true, decide_eq_true_eq, past_second_iff, and_assoc]

theorem xCameraPowerRetry_of_due {ok : Bool} (due : RetryDue s k) : xCameraPowerRetry k ok s =
    if ok then returnSrc (powerOn s k) (136 + k) else s.setPipe k { s.pipe k with limitAt := s.mono } :=
  if_pos (retryDue_iff.mpr due)

theorem xCameraPowerRetry_of_early {ok : Bool} (early : ¬ RetryDue s k) : xCameraPowerRetry k ok s = s :=
  if_neg (mt retryDue_iff.mp early)

/-! ## START and STOP -/

theorem startCommits_iff : (decide (pipeSt s k = .starting) && (s.pipe k).committed.isNone) = true ↔
    pipeSt s k = .starting ∧ (s.pipe k).committed = none := by
  simp

/-- A second has passed since START's commit without a frame start (10 R347). -/
abbrev StartTimedOut (s : State) (k : Nat) : Prop :=
  pipeSt s k = .starting ∧ (s.pipe k).next = 0 ∧ ∃ t, (s.pipe k).committed = some t ∧ t + 250000000 ≤ s.mono

theorem xPipeStartTimeout_eq : xPipeStartTimeout k s =
    if decide (pipeSt s k = .starting) && decide ((s.pipe k).next = 0) &&
        (s.pipe k).committed.any (fun t => s.past t (secT 1))
    then raise (pipeFault s k) (144 + k) 0 else s := by
  unfold xPipeStartTimeout
  dsimp only
  cases (s.pipe k).committed with
  | none => simp
  | some t => rw [Option.any_some]

theorem startTimedOut_iff : (decide (pipeSt s k = .starting) && decide ((s.pipe k).next = 0) &&
    (s.pipe k).committed.any (fun t => s.past t (secT 1))) = true ↔ StartTimedOut s k := by
  simp only [Bool.and_eq_true, decide_eq_true_eq, Option.any_eq_true, past_second_iff, and_assoc]

theorem xPipeStartTimeout_of_over (late : StartTimedOut s k) : xPipeStartTimeout k s =
    raise (changeState (pipeQuiet s k) (pipeFid k) .faulted) (144 + k) 0 := by
  rw [xPipeStartTimeout_eq, if_pos (startTimedOut_iff.mpr late), pipeFault_of_live (live_iff.mpr (.inl late.1))]

theorem xPipeStartTimeout_of_other (other : ¬ StartTimedOut s k) : xPipeStartTimeout k s = s :=
  xPipeStartTimeout_eq.trans (if_neg (mt startTimedOut_iff.mp other))

theorem pipeOff_pipe : (pipeOff s k).pipe k = { s.pipe k with
    power := false, current := f0, link := false, limited := false, done := [], committed := none, disc := 0
    ign := 0 } := by
  unfold pipeOff
  rw [pipe_congr (returnSrc_cam _ _), pipe_congr (returnSrc_cam _ _), setPipe_pipe, powerOff_pipe]

/-! ## Triggers -/

/-- The trigger's phase has come, an eighth of a period or more after the latest trigger (10 R335). -/
abbrev TriggerDue (s : State) (k : Nat) : Prop :=
  pipeLive s k = true ∧ pcTriggered (s.pipeCfg k) = true ∧
    atGrid (s.tdNs 0) (pcPhase (s.pipeCfg k)) (pcPeriod (s.pipeCfg k)) = true ∧
    (s.pipe k).trigAt + pcPeriod (s.pipeCfg k) / 8 ≤ s.mono

theorem triggerDue_iff : (pipeLive s k && pcTriggered (s.pipeCfg k) &&
    atGrid (s.tdNs 0) (pcPhase (s.pipeCfg k)) (pcPeriod (s.pipeCfg k)) &&
    decide ((s.pipe k).trigAt + pcPeriod (s.pipeCfg k) / 8 ≤ s.mono)) = true ↔ TriggerDue s k := by
  simp only [Bool.and_eq_true, decide_eq_true_eq, and_assoc]

end

end Sys2Proof.Machine
end

section
/-! SUPPORT. Exposure sets and frame slots: which set's writes begin, what a frame's end makes of it, and how a slot
begins or is missing (10 R330 to R334, R337 to R340, R345; 18 R575). -/

namespace Sys2Proof.Machine

/-! ## Exposure sets -/

section
variable {s : State} {k n : Nat}

theorem expoBegin_of_none (h : (s.pipe k).pend = none) : expoBegin s k n = s := by
  unfold expoBegin
  dsimp only
  rw [h]

/-- The writes of a set that waits begin one slot before the first to which it applies (10 R338). -/
theorem expoBegin_of_some {e : ExpSet} (h : (s.pipe k).pend = some e) : expoBegin s k n =
    if e.first ≤ n + 1 then
      tunnelWrites (s.setPipe k { s.pipe k with pend := none, writing := some e }) k (expoWrites (s.pipeCfg k) e)
    else s := by
  unfold expoBegin
  dsimp only
  rw [h]

end

section
variable {x : Pipe} {d : Bytes} {f : Machine.Frm}

theorem identOf_of_unread (h : pcIdOff d = 0xFFFF ∨ f.embedded = none) :
    identOf x d f = ((predicted x d f.num).ident, 2, predicted x d f.num, none) := by
  have unread : (if pcIdOff d = 0xFFFF then none else f.embedded) = none := by
    rcases h with placeless | lineless
    · exact if_pos placeless
    · rw [lineless, ite_self]
  unfold identOf
  dsimp only
  rw [unread]

section
variable {e : Bytes} (place : pcIdOff d ≠ 0xFFFF) (line : f.embedded = some e)
include place line

/-- The embedded line's number confirms the set predicted, or names one of the latest, or none of them (10 R340). -/
theorem identOf_of_read : identOf x d f =
    if rd e (pcIdOff d) 2 = (predicted x d f.num).ident % 65536 then
      ((predicted x d f.num).ident, 1, predicted x d f.num, none)
    else (x.hist.find? fun q => decide (q.ident % 65536 = rd e (pcIdOff d) 2)).elim
      (0xFFFF0000 + rd e (pcIdOff d) 2, 4, predicted x d f.num, some (rd e (pcIdOff d) 2))
      fun q => (q.ident, 5, q, some (rd e (pcIdOff d) 2)) := by
  unfold identOf
  dsimp only
  rw [if_neg place, line]
  dsimp only
  cases x.hist.find? fun q => decide (q.ident % 65536 = rd e (pcIdOff d) 2) <;> rfl

theorem identOf_of_predicted (same : rd e (pcIdOff d) 2 = (predicted x d f.num).ident % 65536) :
    identOf x d f = ((predicted x d f.num).ident, 1, predicted x d f.num, none) :=
  (identOf_of_read place line).trans (if_pos same)

variable (differs : rd e (pcIdOff d) 2 ≠ (predicted x d f.num).ident % 65536)
include differs

theorem identOf_of_kept {q : ExpSet}
    (found : (x.hist.find? fun q => decide (q.ident % 65536 = rd e (pcIdOff d) 2)) = some q) :
    identOf x d f = (q.ident, 5, q, some (rd e (pcIdOff d) 2)) := by
  rw [identOf_of_read place line, if_neg differs, found]
  rfl

theorem identOf_of_unknown (unknown : ∀ q ∈ x.hist, q.ident % 65536 ≠ rd e (pcIdOff d) 2) : identOf x d f =
    (0xFFFF0000 + rd e (pcIdOff d) 2, 4, predicted x d f.num, some (rd e (pcIdOff d) 2)) := by
  have absent : (x.hist.find? fun q => decide (q.ident % 65536 = rd e (pcIdOff d) 2)) = none :=
    List.find?_eq_none.mpr fun q hq => by simpa using unknown q hq
  rw [identOf_of_read place line, if_neg differs, absent]
  rfl

end

end

/-! ## The end of a frame -/

section
variable {s : State} {k : Nat} {noEnd : Bool} {f : Machine.Frm}

/-- A frame as it ends: padded, with its identity and its exposure mid-point decided (10 R333, R336, R340, R345). -/
def closedFrame (s : State) (k : Nat) (noEnd : Bool) (f : Machine.Frm) : Machine.Frm :=
  let d := s.pipeCfg k
  let i := identOf (s.pipe k) d f
  { f with
    noEnd := noEnd, img := paddedFrame d f.img, pad := pcH d - f.lines, disc := (s.pipe k).disc, ign := (s.pipe k).ign
    ident := i.1, idFlags := i.2.1, expo := i.2.2.1.expo, gain := i.2.2.1.gain
    mid := subPlus f.time (midOffset d i.2.2.1)
    midTick := ((f.tick : Int) + midOffset d i.2.2.1 / 262144).toNat
    ended := s.mono, kind := if mayWork s (8 + k) then 0 else 2, waiting := mayWork s (8 + k) }

/-- The pipeline's record once a frame has ended: its slot waits, and its counts join those of PIPE_STATUS. -/
def closedPipe (x : Pipe) (g : Machine.Frm) : Pipe :=
  { x with
    frame := none, done := x.done ++ [g], disc := 0, ign := 0, lastIdent := g.ident
    shortLn := satN 4 (x.shortLn + g.short), longLn := satN 4 (x.longLn + g.long)
    padLn := satN 4 (x.padLn + g.pad), cutLn := satN 4 (x.cutLn + g.cut), crcLn := satN 4 (x.crcLn + g.crc)
    discPk := satN 4 (x.discPk + g.disc), ignPk := satN 4 (x.ignPk + g.ign)
    notProc := satN 4 (x.notProc + (if g.waiting then 0 else 1))
    mismatches := satN 4 (x.mismatches + (if g.idFlags / 4 = 1 then 1 else 0)) }

/-- A read-back that names another set kept than the one predicted is an event (10 R340). -/
def mismatchShown (x : Pipe) (d : Bytes) (k : Nat) (f : Machine.Frm) (t : State) : State :=
  match (identOf x d f).2.2.2 with
  | some v =>
    if (identOf x d f).2.1 = 5 then
      emit t 0x0903 (pipeFid k) (le 4 f.num ++ le 4 (predicted x d f.num).ident ++ le 2 v ++ zeros 2)
    else t
  | none => t

theorem mismatchShown_off (x : Pipe) (d : Bytes) (k : Nat) (f : Machine.Frm) (t : State) :
    (mismatchShown x d k f t).off 32 = t.off 32 := by
  unfold mismatchShown
  split
  · split
    · exact emit_off _ _ _ _ _ rfl
    · rfl
  · rfl

theorem frameClose_of_none (h : (s.pipe k).frame = none) : frameClose s k noEnd = s := by
  unfold frameClose
  dsimp only
  rw [h]

section
variable (h : (s.pipe k).frame = some f)
include h

/-- The end of frame 0 brings a pipeline that is STARTING to RUNNING (10 R347). -/
theorem frameClose_of_some : frameClose s k noEnd =
    let t := mismatchShown (s.pipe k) (s.pipeCfg k) k f
      (s.setPipe k (closedPipe (s.pipe k) (closedFrame s k noEnd f)))
    if decide (pipeSt t k = .starting) && decide (f.num = 0) then changeState t (pipeFid k) .running else t := by
  unfold frameClose
  dsimp only
  rw [h]
  rfl

theorem frameClose_pipe :
    (frameClose s k noEnd).pipe k = closedPipe (s.pipe k) (closedFrame s k noEnd f) := by
  have shown := cam_of_off (mismatchShown_off (s.pipe k) (s.pipeCfg k) k f
    (s.setPipe k (closedPipe (s.pipe k) (closedFrame s k noEnd f)))) rfl
  rw [frameClose_of_some h]
  dsimp only
  split
  · rw [pipe_congr ((changeState_cam _ _ _).trans shown), setPipe_pipe]
  · rw [pipe_congr shown, setPipe_pipe]

theorem frameClose_pipeSt : pipeSt (frameClose s k noEnd) k =
    if pipeSt s k = .starting ∧ f.num = 0 then .running else pipeSt s k := by
  have shown : pipeSt (mismatchShown (s.pipe k) (s.pipeCfg k) k f
      (s.setPipe k (closedPipe (s.pipe k) (closedFrame s k noEnd f)))) k = pipeSt s k :=
    pipeSt_congr (fns_of_off (mismatchShown_off _ _ _ _ _) rfl) k
  rw [frameClose_of_some h]
  dsimp only
  rw [shown]
  by_cases first : pipeSt s k = .starting ∧ f.num = 0
  · rw [if_pos first, if_pos (by simpa using first)]
    exact changeState_st_new _ _ _
  · rw [if_neg first, if_neg (by simpa using first), shown]

end

end

/-! ## The start of a slot -/

/-- Whether a slot starts before its expected start less the tolerance (10 R332). -/
def startsEarly (d : Bytes) (start : T96) : Option Nat → Bool
  | some e => decide (T96.toNs start + 1000 * pcTol d < e)
  | none => false

theorem startsEarly_eq (d : Bytes) (start : T96) (o : Option Nat) :
    startsEarly d start o = o.any fun e => decide (T96.toNs start + 1000 * pcTol d < e) := by
  cases o with
  | none => rfl
  | some e => rw [startsEarly, Option.any_some]

/-- A slot starts, `j` ns away from now: an open frame ends as one without a frame end, the writes of a set that
applies from the next slot begin, and the slot takes the next number (10 R330, R333, R338). -/
def slotStarted (s : State) (k : Nat) (j : Int) : State :=
  let t := expoBegin (frameClose s k true) k (s.pipe k).next
  let x := t.pipe k
  let start := subPlus t.now (j * 65536)
  let d := s.pipeCfg k
  t.setPipe k { x with
    frame := some
      { num := x.next, early := startsEarly d start x.expected, time := start
        tick := ((t.mono : Int) + j / 4).toNat }
    next := (x.next + 1) % 2 ^ 32, expected := some (T96.toNs start + pcPeriod d) }

section
variable {s : State} {k : Nat}

theorem xFrameStart_of_idle (idle : capturing s k = false) : xFrameStart k s = s := if_neg (ne_true_of_eq_false idle)

/-- A slot starts at a free time within `jit` µs of now, where a perturbation moves it (18 R575). -/
def slotMoved (s : State) (k jit : Nat) : State :=
  if jit = 0 then slotStarted s k 0
  else slotStarted { s with nonce := s.nonce + 1 } k
    ((Config.freeNat s.nonce % (2000 * jit + 1) : Nat) - (1000 * jit : Nat))

/-- A perturbation has seen one more frame start (18 R575). -/
def frameSeen (s : State) (i : Nat) (p : TSlot) : State :=
  { s with tst := { s.tst with slots := tput s.tst.slots i { p with seen := p.seen + 1 } } }

section
variable (on : capturing s k = true)
include on

theorem xFrameStart_of_unperturbed (free : perturb s 3 k = none) : xFrameStart k s = slotStarted s k 0 := by
  have seen (n : Nat) : everyNth s 3 k n = (false, s) := by
    unfold everyNth
    rw [free]
  refine (if_pos on).trans ?_
  rw [free]
  simp -zeta only [seen]
  rfl

/-- A perturbation drops every Nth frame start, and moves the others by a free time within its magnitude. -/
theorem xFrameStart_of_perturbed {i : Nat} {p : TSlot} (hp : perturb s 3 k = some (i, p)) : xFrameStart k s =
    if p.opt % 65536 ≠ 0 ∧ (p.seen + 1) % (p.opt % 65536) = 0 then frameSeen s i p
    else slotMoved (frameSeen s i p) k p.mag := by
  have seen (n : Nat) : everyNth s 3 k n = (decide (n ≠ 0 ∧ (p.seen + 1) % n = 0), frameSeen s i p) := by
    unfold everyNth
    rw [hp]
    simp [frameSeen]
  refine (if_pos on).trans ?_
  rw [hp]
  simp -zeta only [Option.map_some, seen]
  refine if_congr decide_eq_true_iff rfl ?_
  unfold slotMoved
  by_cases still : p.mag = 0
  · simp only [if_pos still]
    rfl
  · simp only [if_neg still]
    rfl

end

end

/-! ## A missing slot -/

section
variable {s : State} {k e : Nat}

/-- A slot is declared missing: it takes its number and a record with the set predicted for it (10 R331). -/
def slotMissed (s : State) (k e : Nat) : State :=
  let t := expoBegin (frameClose s k true) k (s.pipe k).next
  let x := t.pipe k
  let d := s.pipeCfg k
  let p := predicted x d x.next
  t.setPipe k { x with
    done := x.done ++ [{ num := x.next, kind := 1, ident := p.ident, idFlags := 2, expo := p.expo, gain := p.gain
                         ended := t.mono }]
    next := (x.next + 1) % 2 ^ 32, expected := some (e + pcPeriod d), missing := satN 4 (x.missing + 1)
    lastIdent := p.ident }

theorem xFrameSlotMissing_of_none (h : (s.pipe k).expected = none) : xFrameSlotMissing k s = s := by
  unfold xFrameSlotMissing
  dsimp only
  rw [h]

theorem xFrameSlotMissing_of_some (h : (s.pipe k).expected = some e) : xFrameSlotMissing k s =
    if pipeLive s k && decide (e + 1000 * pcTol (s.pipeCfg k) ≤ s.tdNs 0) then slotMissed s k e else s := by
  unfold xFrameSlotMissing
  dsimp only
  rw [h]
  rfl

end

/-! ## Packets of a link -/

section
variable {s : State} {k : Nat} {pk : Csi2}

theorem xFrameEnd_of_capturing (on : capturing s k = true) : xFrameEnd k s = frameClose s k false := if_pos on

theorem xFrameEnd_of_idle (idle : capturing s k = false) : xFrameEnd k s = s := if_neg (ne_true_of_eq_false idle)

theorem lineIn_of_none {px : List Nat} {ok : Bool} (h : (s.pipe k).frame = none) : lineIn s k px ok = s := by
  unfold lineIn
  dsimp only
  rw [h]

/-- A perturbation cuts every Nth line short by 64 pixels (18 R575). -/
abbrev CutsShort (s : State) (k : Nat) (f : Machine.Frm) : Prop :=
  (perturb s 3 k).elim 0 (fun e => e.2.opt / 65536) ≠ 0 ∧
    (f.lines + f.cut + 1) % (perturb s 3 k).elim 0 (fun e => e.2.opt / 65536) = 0

/-- A line joins its frame, imposed on the width, or is cut beyond the frame's height (10 R333). -/
def pixelsTaken (d : Bytes) (f : Machine.Frm) (px : List Nat) (ok : Bool) : Machine.Frm :=
  let crc := satN 2 (f.crc + (if ok then 0 else 1))
  if pcH d ≤ f.lines then { f with crc := crc, cut := satN 2 (f.cut + 1) }
  else { f with
    crc := crc, lines := f.lines + 1, img := f.img ++ [lineOf d px]
    short := satN 2 (f.short + (if px.length < pcW d then 1 else 0))
    long := satN 2 (f.long + (if pcW d < px.length then 1 else 0)) }

theorem pixelsTaken_of_beyond {d : Bytes} {f : Machine.Frm} {px : List Nat} {ok : Bool} (beyond : pcH d ≤ f.lines) :
    pixelsTaken d f px ok =
      { f with crc := satN 2 (f.crc + (if ok then 0 else 1)), cut := satN 2 (f.cut + 1) } :=
  if_pos beyond

theorem pixelsTaken_of_within {d : Bytes} {f : Machine.Frm} {px : List Nat} {ok : Bool} (within : f.lines < pcH d) :
    pixelsTaken d f px ok = { f with
      crc := satN 2 (f.crc + (if ok then 0 else 1)), lines := f.lines + 1, img := f.img ++ [lineOf d px]
      short := satN 2 (f.short + (if px.length < pcW d then 1 else 0))
      long := satN 2 (f.long + (if pcW d < px.length then 1 else 0)) } :=
  if_neg (Nat.not_le.mpr within)

theorem lineIn_of_some {px : List Nat} {ok : Bool} {f : Machine.Frm} (h : (s.pipe k).frame = some f) :
    lineIn s k px ok = s.setPipe k { s.pipe k with
      frame := some (pixelsTaken (s.pipeCfg k) f (if CutsShort s k f then px.take (px.length - 64) else px) ok) } := by
  unfold lineIn CutsShort
  dsimp only
  rw [h]
  cases perturb s 3 k <;> rfl

theorem xCsi2PacketReceived_of_idle (idle : capturing s k = false) : xCsi2PacketReceived k pk s = s :=
  if_neg (ne_true_of_eq_false idle)

section
variable (on : capturing s k = true)
include on

theorem xCsi2PacketReceived_of_broken (broken : 2 ≤ pk.ecc) : xCsi2PacketReceived k pk s =
    s.setPipe k { s.pipe k with disc := satN 2 ((s.pipe k).disc + 1) } :=
  (if_pos on).trans (if_pos broken)

variable (good : pk.ecc < 2)
include good

/-- A whole packet goes by its channel and data type (10 R328). -/
theorem xCsi2PacketReceived_of_whole : xCsi2PacketReceived k pk s =
    if pk.vc = 0 ∧ pk.dt = 0x00 then xFrameStart k s
    else if pk.vc = 0 ∧ pk.dt = 0x01 then xFrameEnd k s
    else if pk.vc = 0 ∧ (pk.dt = 0x02 ∨ pk.dt = 0x03) then s
    else if pk.vc = 0 ∧ (pk.dt = 0x2B ∨ pk.dt = 0x2C) then lineIn s k pk.pixels pk.crcOk
    else if pk.vc = 0 ∧ pk.dt = 0x12 then
      (s.pipe k).frame.elim s fun f => s.setPipe k { s.pipe k with
        frame := some (if f.embedded.isSome then f else { f with embedded := some pk.data }) }
    else s.setPipe k { s.pipe k with ign := satN 2 ((s.pipe k).ign + 1) } := by
  refine (if_pos on).trans ((if_neg (Nat.not_le.mpr good)).trans ?_)
  refine if_congr Iff.rfl rfl (if_congr Iff.rfl rfl (if_congr Iff.rfl rfl (if_congr Iff.rfl rfl
    (if_congr Iff.rfl ?_ rfl))))
  cases (s.pipe k).frame <;> rfl

theorem xCsi2PacketReceived_of_ignored
    (other : pk.vc ≠ 0 ∨ pk.dt ∉ [0x00, 0x01, 0x02, 0x03, 0x12, 0x2B, 0x2C]) :
    xCsi2PacketReceived k pk s = s.setPipe k { s.pipe k with ign := satN 2 ((s.pipe k).ign + 1) } := by
  simp only [List.mem_cons, List.not_mem_nil, or_false, not_or] at other
  rw [xCsi2PacketReceived_of_whole on good, if_neg (by omega), if_neg (by omega), if_neg (by omega),
    if_neg (by omega), if_neg (by omega)]

variable (channel : pk.vc = 0)
include channel

theorem xCsi2PacketReceived_of_frameStart (dt : pk.dt = 0x00) : xCsi2PacketReceived k pk s = xFrameStart k s := by
  rw [xCsi2PacketReceived_of_whole on good, if_pos ⟨channel, dt⟩]

theorem xCsi2PacketReceived_of_frameEnd (dt : pk.dt = 0x01) : xCsi2PacketReceived k pk s = xFrameEnd k s := by
  rw [xCsi2PacketReceived_of_whole on good, if_neg (by omega), if_pos ⟨channel, dt⟩]

theorem xCsi2PacketReceived_of_lineMark (dt : pk.dt = 0x02 ∨ pk.dt = 0x03) : xCsi2PacketReceived k pk s = s := by
  rw [xCsi2PacketReceived_of_whole on good, if_neg (by omega), if_neg (by omega), if_pos ⟨channel, dt⟩]

theorem xCsi2PacketReceived_of_line (dt : pk.dt = 0x2B ∨ pk.dt = 0x2C) :
    xCsi2PacketReceived k pk s = lineIn s k pk.pixels pk.crcOk := by
  rw [xCsi2PacketReceived_of_whole on good, if_neg (by omega), if_neg (by omega), if_neg (by omega),
    if_pos ⟨channel, dt⟩]

theorem xCsi2PacketReceived_of_embedded (dt : pk.dt = 0x12) : xCsi2PacketReceived k pk s =
    (s.pipe k).frame.elim s fun f => s.setPipe k { s.pipe k with
      frame := some (if f.embedded.isSome then f else { f with embedded := some pk.data }) } := by
  rw [xCsi2PacketReceived_of_whole on good, if_neg (by omega), if_neg (by omega), if_neg (by omega),
    if_neg (by omega), if_pos ⟨channel, dt⟩]

end

end

end Sys2Proof.Machine
end

section
/-! SUPPORT. The image processor's results and the records of frames: which slot takes them, what the quality stage
gives, and in which order records go (10 R341 to R346). -/

namespace Sys2Proof.Machine

section
variable {s : State} {k : Nat} {st : FrameStats}

/-! ## Quality -/

@[simp] theorem setPipe_pipeCfg (x : Pipe) (j : Nat) : (s.setPipe k x).pipeCfg j = s.pipeCfg j := rfl

@[simp] theorem frameQuality_pipeCfg (j : Nat) : (frameQuality s k st).2.pipeCfg j = s.pipeCfg j :=
  congrArg (fun a : Tbl Obj Bytes => tget (defCfg (.pipe j)) a (.pipe j))
    (applied_of_off (frameQuality_off s k st _ (Nat.and_self _)) rfl)

theorem frameQuality_of_unused (h : (pcOutputs (s.pipeCfg k)).testBit 2 = false) : frameQuality s k st = (none, s) :=
  if_neg (ne_true_of_eq_false h)

theorem frameQuality_of_used (h : (pcOutputs (s.pipeCfg k)).testBit 2 = true) :
    frameQuality s k st = (some (qualityOf s st).1, (qualityOf s st).2) :=
  if_pos h

/-- The first three indices are the shares of the classes after the first; the fourth counts the blobs (10 R344). -/
theorem qualityOf_indices : (qualityOf s st).1.length = 4 ∧
    (∀ j, j < 3 → st.areas.foldl (· + ·) 0 ≠ 0 → (qualityOf s st).1.getD j f0 =
      fDiv (fOfNat (st.areas.getD (j + 1) 0)) (fOfNat (st.areas.foldl (· + ·) 0))) ∧
    (qualityOf s st).1.getD 3 f0 = fOfNat st.blobs := by
  refine ⟨rfl, fun j hj classified => ?_, rfl⟩
  match j, hj with
  | 0, _ => exact if_neg classified
  | 1, _ => exact if_neg classified
  | 2, _ => exact if_neg classified

/-! ## Results -/

theorem xFrameProcessed_of_none (idle : (s.pipe k).done.find? (·.waiting) = none) : xFrameProcessed k st s = s := by
  unfold xFrameProcessed
  rw [idle]

/-- The slot that waits takes the statistics and, where they are given out, the quality indices (10 R344). -/
def statsTaken (s : State) (k : Nat) (st : FrameStats) (f : Machine.Frm) : State :=
  let x := s.pipe k
  let q := frameQuality s k st
  q.2.setPipe k { x with
    done := putStats st q.1 x.done
    quality := if q.1.isSome && decide (pcMinBlobs (s.pipeCfg k) ≤ st.blobs) then some (q.1.getD [], f.mid, f.midTick)
      else x.quality }

section
variable {f : Machine.Frm} (oldest : (s.pipe k).done.find? (·.waiting) = some f)
include oldest

theorem xFrameProcessed_of_other (other : st ≠ statsOf (s.pipeCfg k) f.img st.tapLost) :
    xFrameProcessed k st s = s := by
  unfold xFrameProcessed
  rw [oldest]
  exact if_pos other

theorem xFrameProcessed_of_stats (own : st = statsOf (s.pipeCfg k) f.img st.tapLost) : xFrameProcessed k st s =
    frameTap k f st (if (pcOutputs (s.pipeCfg k)).testBit 0 then
      fusFrame (statsTaken s k st f) k f.midTick (pcH (s.pipeCfg k) / pcDown (s.pipeCfg k)) (outLineNs (s.pipeCfg k))
      else statsTaken s k st f) := by
  unfold xFrameProcessed
  rw [oldest]
  refine (if_neg (not_not.mpr own)).trans ?_
  simp only [setPipe_pipeCfg, frameQuality_pipeCfg]
  rfl

end

/-! ## Records -/

theorem xStatsRecordSent_of_none (h : (s.pipe k).done = []) : xStatsRecordSent k s = s := by
  unfold xStatsRecordSent
  dsimp only
  rw [h]

section
variable {f : Machine.Frm} {r : List Machine.Frm} (h : (s.pipe k).done = f :: r)
include h

theorem xStatsRecordSent_of_cons : xStatsRecordSent k s =
    if f.waiting then s
    else pushAll (s.setPipe k { s.pipe k with done := r }) sCamera fun _ =>
      { time := s.now, fault := false, pos := none, body := f.record k (pcMinBlobs (s.pipeCfg k)) } := by
  unfold xStatsRecordSent
  dsimp only
  rw [h]
  rfl

theorem xStatsRecordSent_of_waiting (waiting : f.waiting = true) : xStatsRecordSent k s = s :=
  (xStatsRecordSent_of_cons h).trans (if_pos waiting)

theorem xStatsRecordSent_of_processed (processed : f.waiting = false) : xStatsRecordSent k s =
    pushAll (s.setPipe k { s.pipe k with done := r }) sCamera fun _ =>
      { time := s.now, fault := false, pos := none, body := f.record k (pcMinBlobs (s.pipeCfg k)) } :=
  (xStatsRecordSent_of_cons h).trans (if_neg (ne_true_of_eq_false processed))

end

/-- A record has the 388 bytes of Table 10.5. -/
theorem record_length (f : Machine.Frm) (k m : Nat) : (f.record k m).length = 388 := by
  simp [Frm.record, Frm.trailer, List.length_flatMap]

end

end Sys2Proof.Machine

namespace Sys2Proof

open Machine

/-- Settles O44: each row by its conditions. A frame's end is read off the record that it leaves; a frame start by the
perturbation it meets; a packet by its channel and data type. -/
theorem cameras : Obligations.Cameras := by
  unfold Obligations.Cameras
  refine ⟨fun k c s => ?limit, fun k s => ?retry, fun k id s => ?linkChange, fun k up s => ?link,
    fun k s => next_ite_of_guard startCommits_iff, fun k s => ?timeout, fun k s => ?stop, fun k s => ?start,
    fun k s => ?frameEnd, fun k s => ?missing, fun k noEnd s => frameClose_of_none, fun k noEnd f s h => ?close,
    fun x d f => ?ident, fun k pk s => ?packet,
    fun k st s idle => congrArg Host.Outcome.next (xFrameProcessed_of_none idle), fun k st f s oldest => ?processed,
    fun k st s => ?quality, fun k s => ?record, record_length, fun k s => next_ite_of_guard triggerDue_iff,
    fun k s => rfl, fun s k n => ?expo, fun s k l => rfl⟩
  case limit =>
    have run {u : State} (h : xCameraPowerLimit k c s = u) :
        exec (.cameraPowerLimit k c) s = .next (settle u) := next_settle_congr h
    refine ⟨fun dark => run (xCameraPowerLimit_of_unpowered dark), fun on =>
      ⟨congrArg Pipe.power powerOff_pipe, congrArg Pipe.link powerOff_pipe, ?_⟩⟩
    have active (h : pipeSt s k ≠ .config) := xCameraPowerLimit_of_active (c := c) on h
    refine ⟨fun config => run (xCameraPowerLimit_of_config on config), fun live => run ?_, fun stopping => run ?_,
      fun inactive => run ?_⟩
    · refine (active fun h => ?_).trans (pipeFault_of_live (by rwa [cameraCut_pipeSt]))
      rw [h] at live
      cases live
    · exact (active (by simp [stopping])).trans (pipeFault_of_stopping (by rwa [cameraCut_pipeSt]))
    · refine (active fun h => ?_).trans (pipeFault_of_inactive (by rwa [cameraCut_pipeSt]))
      simp [h] at inactive
  case retry =>
    exact ⟨fun due => ⟨next_settle_congr (xCameraPowerRetry_of_due due),
        next_settle_congr (xCameraPowerRetry_of_due due)⟩,
      fun early ok => next_settle_congr (xCameraPowerRetry_of_early early)⟩
  case linkChange =>
    exact ⟨fun on => next_settle_congr (xCameraLinkChange_of_powered on),
      fun dark => next_settle_congr (xCameraLinkChange_of_unpowered dark), rfl⟩
  case link =>
    refine ⟨linkSet_of_same, fun changes up => ?_, fun changes down => ?_⟩
    · subst up
      exact linkSet_of_change changes
    · subst down
      exact linkSet_of_change changes
  case timeout =>
    exact ⟨fun late => next_settle_congr (xPipeStartTimeout_of_over late),
      fun other => next_settle_congr (xPipeStartTimeout_of_other other)⟩
  case stop =>
    exact ⟨fun stopping => next_settle_congr (if_pos stopping), fun other => next_settle_congr (if_neg other),
      congrArg Pipe.power pipeOff_pipe, congrArg Pipe.done pipeOff_pipe⟩
  case start =>
    simp only [← startsEarly_eq]
    refine ⟨fun idle => next_settle_congr (xFrameStart_of_idle idle),
      fun on free => next_settle_congr (xFrameStart_of_unperturbed on free), fun i p on hp => ?_⟩
    have run := xFrameStart_of_perturbed on hp
    exact ⟨fun skip => next_settle_congr (run.trans (if_pos skip)),
      fun goes still => next_settle_congr (run.trans ((if_neg goes).trans (if_pos still))),
      fun goes moves => next_settle_congr (run.trans ((if_neg goes).trans (if_neg moves)))⟩
  case frameEnd =>
    exact ⟨fun on => next_settle_congr (xFrameEnd_of_capturing on),
      fun idle => next_settle_congr (xFrameEnd_of_idle idle)⟩
  case missing =>
    refine ⟨fun h => next_settle_congr (xFrameSlotMissing_of_none h), fun e h ok => ?_, fun e h other => ?_⟩
    · exact next_settle_congr ((xFrameSlotMissing_of_some h).trans (if_pos (by simpa using ok)))
    · exact next_settle_congr ((xFrameSlotMissing_of_some h).trans (if_neg (by simpa using other)))
  case close =>
    dsimp only
    rw [frameClose_pipe h, frameClose_pipeSt h]
    refine ⟨rfl, rfl, rfl, rfl, closedFrame s k noEnd f, ?_⟩
    and_intros <;> rfl
  case ident =>
    exact ⟨identOf_of_unread, fun e place line => ⟨identOf_of_predicted place line,
      fun q differs => identOf_of_kept place line differs, identOf_of_unknown place line⟩⟩
  case packet =>
    have run {u : State} (h : xCsi2PacketReceived k pk s = u) :
        exec (.csi2PacketReceived k pk) s = .next (settle u) := next_settle_congr h
    refine ⟨fun idle => run (xCsi2PacketReceived_of_idle idle),
      fun on broken => run (xCsi2PacketReceived_of_broken on broken),
      fun on good other => run (xCsi2PacketReceived_of_ignored on good other),
      fun ⟨on, good, channel⟩ dt => run (xCsi2PacketReceived_of_frameStart on good channel dt),
      fun ⟨on, good, channel⟩ dt => run (xCsi2PacketReceived_of_frameEnd on good channel dt),
      fun ⟨on, good, channel⟩ dt => run (xCsi2PacketReceived_of_lineMark on good channel dt),
      fun ⟨on, good, channel⟩ dt closed => run ?_, fun f ⟨on, good, channel⟩ dt h => run ?_,
      fun f ⟨on, good, channel⟩ dt h => ?_⟩
    · rcases dt with dt | dt
      · rw [xCsi2PacketReceived_of_embedded on good channel dt, closed, Option.elim_none]
      · rw [xCsi2PacketReceived_of_line on good channel dt, lineIn_of_none closed]
    · rw [xCsi2PacketReceived_of_embedded on good channel dt, h, Option.elim_some]
    · have line := (xCsi2PacketReceived_of_line on good channel dt).trans (lineIn_of_some h)
      refine ⟨fun beyond => ?_, fun within whole => ?_, fun within short => ?_⟩
      · exact run (line.trans (by rw [pixelsTaken_of_beyond beyond]))
      · exact run (line.trans (by rw [if_neg whole, pixelsTaken_of_within within]))
      · exact run (line.trans (by rw [if_pos short, pixelsTaken_of_within within]))
  case processed =>
    exact ⟨fun own => congrArg Host.Outcome.next (xFrameProcessed_of_stats oldest own),
      fun other => congrArg Host.Outcome.next (xFrameProcessed_of_other oldest other)⟩
  case quality =>
    refine ⟨frameQuality_of_unused, fun used => ?_⟩
    rw [frameQuality_of_used used]
    exact ⟨_, rfl, qualityOf_indices⟩
  case record =>
    exact ⟨fun h => congrArg Host.Outcome.next (xStatsRecordSent_of_none h), fun f r h =>
      ⟨fun waiting => congrArg Host.Outcome.next (xStatsRecordSent_of_waiting h waiting),
        fun processed => congrArg Host.Outcome.next (xStatsRecordSent_of_processed h processed)⟩⟩
  case expo =>
    exact ⟨expoBegin_of_none, fun e h => ⟨fun begins => (expoBegin_of_some h).trans (if_pos begins),
      fun early => (expoBegin_of_some h).trans (if_neg (Nat.not_le.mpr early))⟩⟩

end Sys2Proof
end

section
/-! SUPPORT. What the bodies of the GNSS opcodes answer: PIP_CAPTURE, PIP_EXPORT and GNSS_STATUS
(11 R373, R375, R379, R383 to R385). -/

namespace Sys2Proof.Machine

/-! ## PIP_CAPTURE -/

section
variable {s : State} {p : Bytes}

/-- A start that is neither at once nor 1 ms to 60 s ahead (11 R383). -/
abbrev PipStartWrong (s : State) (p : Bytes) : Prop :=
  ¬ rd p 4 12 = 0 ∧
    (T96.toNs (rdT p 4) < s.tdNs 0 + 1000000 ∨ s.tdNs 0 + 60000000000 < T96.toNs (rdT p 4))

/-- The store has no room for one more pip beside those stored and those on their way (11 R375, R383). -/
abbrev PipStoreFull (s : State) (p : Bytes) : Prop :=
  1024 ≤ s.gns.pips.length + s.gns.caps.length ∨
    268435456 < storedBytes s + ((s.gns.caps.map fun c => pipBytes c.len).foldl (· + ·) 0) + pipBytes (byteAt p 0)

/-- The capture that a command asks for waits for its start under the next pip ID (11 R375, R383). -/
def captureAdded (s : State) (p : Bytes) : State :=
  { s with gns := { s.gns with
    caps := s.gns.caps ++ [{
      id := s.gns.pipNext, len := byteAt p 0
      due := if rd p 4 12 = 0 then s.mono + 250000 else tickOfNs s (T96.toNs (rdT p 4))
      flags := bit ((byteAt p 1).testBit 0) 0 + bit ((byteAt p 1).testBit 1) 2 }]
    pipNext := pipAfter s.gns.pipNext } }

theorem pipStartWrong_iff : (!decide (rd p 4 12 = 0) && (decide (T96.toNs (rdT p 4) < s.tdNs 0 + 1000000) ||
    decide (s.tdNs 0 + 60000000000 < T96.toNs (rdT p 4)))) = true ↔ PipStartWrong s p := by
  simp [PipStartWrong]

/-- A capture is refused by its start, the function's state, a capture under way and the store, in this order. -/
theorem opPipCapture_eq (s : State) (p : Bytes) : opPipCapture.body s p =
    if PipStartWrong s p then badParam s 4
    else if (gnssSt s).live = false then failAns s stWrongState 0
    else if capBusy s then failAns s stBusy 0
    else if PipStoreFull s p then failAns s 0x80 0
    else okWith (captureAdded s p) (le 4 s.gns.pipNext ++ zeros 4) := by
  unfold opPipCapture msT
  dsimp only
  exact if_congr pipStartWrong_iff rfl (if_congr (Bool.not_eq_true' _).to_iff rfl rfl)

theorem opPipCapture_of_wrongStart (wrong : PipStartWrong s p) : opPipCapture.body s p = badParam s 4 :=
  (opPipCapture_eq s p).trans (if_pos wrong)

section
variable (start : ¬ PipStartWrong s p)
include start

theorem opPipCapture_of_inactive (inactive : (gnssSt s).live = false) :
    opPipCapture.body s p = failAns s stWrongState 0 :=
  (opPipCapture_eq s p).trans ((if_neg start).trans (if_pos inactive))

variable (live : (gnssSt s).live = true)
include live

theorem opPipCapture_of_live : opPipCapture.body s p =
    if capBusy s then failAns s stBusy 0
    else if PipStoreFull s p then failAns s 0x80 0
    else okWith (captureAdded s p) (le 4 s.gns.pipNext ++ zeros 4) :=
  (opPipCapture_eq s p).trans ((if_neg start).trans (if_neg (ne_false_of_eq_true live)))

theorem opPipCapture_of_busy (busy : capBusy s = true) : opPipCapture.body s p = failAns s stBusy 0 :=
  (opPipCapture_of_live start live).trans (if_pos busy)

variable (free : capBusy s = false)
include free

theorem opPipCapture_of_full (full : PipStoreFull s p) : opPipCapture.body s p = failAns s 0x80 0 :=
  (opPipCapture_of_live start live).trans ((if_neg (ne_true_of_eq_false free)).trans (if_pos full))

theorem opPipCapture_of_room (room : ¬ PipStoreFull s p) :
    opPipCapture.body s p = okWith (captureAdded s p) (le 4 s.gns.pipNext ++ zeros 4) :=
  (opPipCapture_of_live start live).trans ((if_neg (ne_true_of_eq_false free)).trans (if_neg room))

end

end

/-- Pip IDs count up from 1 to 0xFFFFFFFE (11 R375). -/
theorem pipAfter_of_lt {n : Nat} (h : n < 0xFFFFFFFE) : pipAfter n = n + 1 := if_neg (by omega)

/-! ## PIP_EXPORT -/

section
variable {s : State} {p : Bytes}

theorem opPipExport_of_unknown (unknown : (s.gns.pips.find? fun q => decide (q.id = rd p 0 4)) = none) :
    opPipExport.body s p = failAns s 0x81 0 := by
  unfold opPipExport
  dsimp only
  rw [unknown]

variable {q : Pip} (known : (s.gns.pips.find? fun q => decide (q.id = rd p 0 4)) = some q)
include known

theorem opPipExport_of_header (kind : byteAt p 4 = 0) : opPipExport.body s p = okWith s (pipHeader q) := by
  unfold opPipExport
  dsimp only
  rw [known, kind]
  rfl

theorem opPipExport_of_samples (kind : byteAt p 4 = 1) : opPipExport.body s p =
    if pipBytes q.len < rd p 8 4 then badParam s 8
    else if pipBytes q.len < rd p 8 4 + rd p 12 2 then badParam s 12
    else okWith s (slice q.samples (rd p 8 4) (rd p 12 2)) := by
  unfold opPipExport
  dsimp only
  rw [known, kind]
  rfl

theorem opPipExport_of_within (kind : byteAt p 4 = 1) (within : rd p 8 4 + rd p 12 2 ≤ 8184 * q.len) :
    opPipExport.body s p = okWith s (slice q.samples (rd p 8 4) (rd p 12 2)) := by
  have first : ¬ pipBytes q.len < rd p 8 4 := by unfold pipBytes; omega
  exact (opPipExport_of_samples known kind).trans ((if_neg first).trans (if_neg (Nat.not_lt.mpr within)))

theorem opPipExport_of_beyond (kind : byteAt p 4 = 1) (beyond : 8184 * q.len < rd p 8 4 + rd p 12 2) :
    opPipExport.body s p = badParam s (if 8184 * q.len < rd p 8 4 then 8 else 12) := by
  rw [opPipExport_of_samples known kind]
  unfold pipBytes
  rw [if_pos beyond, apply_ite (badParam s)]

theorem opPipExport_of_process (kind : byteAt p 4 = 2) :
    opPipExport.body s p = okAns (if tbit q.flags 2 then s else pipRequest s (rd p 0 4)) := by
  unfold opPipExport
  dsimp only
  rw [known, kind]
  exact (apply_ite okAns _ _ _).symm

theorem opPipExport_of_delete (kind : byteAt p 4 = 3) : opPipExport.body s p =
    okAns (pipNotice (pipDelete s fun x => decide (x.id = rd p 0 4)) (rd p 0 4) 2 q.start []) := by
  unfold opPipExport
  dsimp only
  rw [known, kind]
  rfl

end

/-- A header has the 40 bytes of Table 11.8. -/
theorem pipHeader_length (q : Pip) : (pipHeader q).length = 40 := by simp [pipHeader]

/-! ## GNSS_STATUS -/

/-- The reply has the 516 bytes of its table (11 R385). -/
theorem opGnssStatus_length (s : State) (p : Bytes) : (opGnssStatus.body s p).data.length = 516 := by
  simp [opGnssStatus, okWith, List.length_flatMap]

end Sys2Proof.Machine

namespace Sys2Proof

open Machine

/-- Settles O45: a capture by the checks of its start, of the function's state, of a capture under way and of the store
in their order; PIP_EXPORT by whether the pip is known and by its operation. -/
theorem gnssCommands : Obligations.GnssCommands := by
  unfold Obligations.GnssCommands
  refine ⟨fun h p s ok => exec_hostOnly_of_accepted rfl rfl ok rfl, fun h p s => ?capture, fun h p s => ?exporting,
    fun n => pipAfter_of_lt, rfl, fun h p s ok => ?status⟩
  case capture =>
    refine ⟨fun ok => ⟨fun wrong => ?_, fun start inactive => ?_, fun start live busy => ?_,
      fun start live free full => ?_⟩, fun ok start live free room => ?_⟩
    · exact exec_hostOnly_of_accepted rfl rfl ok (opPipCapture_of_wrongStart (s := atBody s h) wrong)
    · exact exec_hostOnly_of_accepted rfl rfl ok (opPipCapture_of_inactive (s := atBody s h) start inactive)
    · exact exec_hostOnly_of_accepted rfl rfl ok (opPipCapture_of_busy (s := atBody s h) start live busy)
    · exact exec_hostOnly_of_accepted rfl rfl ok (opPipCapture_of_full (s := atBody s h) start live free full)
    · exact exec_hostOnly_of_accepted rfl rfl ok (opPipCapture_of_room (s := atBody s h) start live free room)
  case exporting =>
    refine ⟨fun unknown ok i hi => ?_, fun q known kind ok => ?_, fun q known kind within ok => ?_,
      fun q known kind beyond ok => ?_, fun q known kind ok => ?_, fun q known kind ok => ?_⟩
    · have body := opPipExport_of_unknown (s := atBody s h) unknown
      simp only [List.mem_cons, List.not_mem_nil, or_false] at hi
      obtain rfl | rfl | rfl | rfl := hi <;> exact exec_hostOnly_of_accepted rfl rfl ok body
    · exact exec_answer_of_accepted rfl rfl ok (pipHeader_length q)
        (opPipExport_of_header (s := atBody s h) known kind)
    · have size : (slice q.samples (rd p 8 4) (rd p 12 2)).length ≤ rd p 12 2 := List.length_take_le _ _
      exact exec_hostOnly_of_accepted rfl rfl { ok with reply := (Nat.add_le_add_left size 20).trans ok.reply }
        (opPipExport_of_within (s := atBody s h) known kind within)
    · exact exec_hostOnly_of_accepted rfl rfl ok (opPipExport_of_beyond (s := atBody s h) known kind beyond)
    · exact exec_hostOnly_of_accepted rfl rfl ok (opPipExport_of_process (s := atBody s h) known kind)
    · exact exec_hostOnly_of_accepted rfl rfl ok (opPipExport_of_delete (s := atBody s h) known kind)
  case status => exact exec_read_of_accepted rfl rfl ok rfl (opGnssStatus_length (atBody s h) p)

end Sys2Proof
end

section
/-! SUPPORT. The antenna and the interference of the satellite baseband: what each row does under each of its
conditions (11 R357 to R360). -/

namespace Sys2Proof.Machine

/-! ## Antenna -/

section
variable {s : State} {n : Nat} {c : F32}

/-- The antenna opened and its current is good again (11 R357, Table 11.1). -/
abbrev AntennaFound (s : State) (n : Nat) (c : F32) : Prop :=
  n = 1 ∧ s.gns.antenna = 2 ∧ fLe (fDec 3 1000) c = true ∧ s.gns.antennaAt + 25000000 ≤ s.mono

/-- The antenna is on and its current stays good. -/
abbrev AntennaStays (s : State) (n : Nat) (c : F32) : Prop :=
  n = 1 ∧ s.gns.antenna = 1 ∧ fLe (fDec 3 1000) c = true

/-- The antenna opens: too little current for 100 ms. -/
abbrev AntennaOpens (s : State) (n : Nat) (c : F32) : Prop :=
  n = 2 ∧ s.gns.antenna = 1 ∧ fLt c (fDec 3 1000) = true ∧ s.gns.antennaAt + 25000000 ≤ s.mono

/-- The antenna is shorted: in limit for 10 ms. -/
abbrev AntennaShorts (s : State) (n : Nat) : Prop :=
  n = 3 ∧ (s.gns.antenna = 1 ∨ s.gns.antenna = 2) ∧ s.gns.antennaAt + 2500000 ≤ s.mono

theorem antennaHeld_iff {len : Nat} : antennaHeld s len = true ↔ s.gns.antennaAt + len ≤ s.mono := past_iff _ _ _

/-- A change of the antenna by its condition; the four exclude one another. -/
theorem xAntennaBiasChange_eq (n : Nat) (c : F32) (s : State) : xAntennaBiasChange n c s =
    if AntennaFound s n c then antennaTo s 1 c
    else if AntennaStays s n c then { s with gns := { s.gns with biasA := c } }
    else if AntennaOpens s n c then antennaTo s 2 c
    else if AntennaShorts s n then
      { antennaTo s 3 c with gns := { (antennaTo s 3 c).gns with shortAt := s.mono, biasA := f0 } }
    else s := by
  have clock : (antennaTo s 3 c).mono = s.mono := mono_of_off (antennaTo_off s 3 c _ (Nat.and_self _)) rfl
  unfold xAntennaBiasChange msT
  simp only [antennaHeld_iff, clock]

theorem xAntennaBiasChange_of_found (found : AntennaFound s n c) : xAntennaBiasChange n c s = antennaTo s 1 c :=
  (xAntennaBiasChange_eq n c s).trans (if_pos found)

theorem xAntennaBiasChange_of_stays (stays : AntennaStays s n c) :
    xAntennaBiasChange n c s = { s with gns := { s.gns with biasA := c } } := by
  rw [xAntennaBiasChange_eq, if_neg (by omega), if_pos stays]

theorem xAntennaBiasChange_of_opens (opens : AntennaOpens s n c) : xAntennaBiasChange n c s = antennaTo s 2 c := by
  rw [xAntennaBiasChange_eq, if_neg (by omega), if_neg (by omega), if_pos opens]

theorem xAntennaBiasChange_of_shorts (shorts : AntennaShorts s n) : xAntennaBiasChange n c s =
    { antennaTo s 3 c with gns := { (antennaTo s 3 c).gns with shortAt := s.mono, biasA := f0 } } := by
  rw [xAntennaBiasChange_eq, if_neg (by omega), if_neg (by omega), if_neg (by omega), if_pos shorts]

theorem xAntennaBiasChange_of_none (found : ¬ AntennaFound s n c) (stays : ¬ AntennaStays s n c)
    (opens : ¬ AntennaOpens s n c) (shorts : ¬ AntennaShorts s n) : xAntennaBiasChange n c s = s := by
  rw [xAntennaBiasChange_eq, if_neg found, if_neg stays, if_neg opens, if_neg shorts]

/-- The bias of a shorted antenna has been off for 1 s (11 R357). -/
abbrev BiasRetryDue (s : State) : Prop := s.gns.antenna = 3 ∧ s.gns.shortAt + 250000000 ≤ s.mono

/-- The bias tried again has held 3 to 90 mA for 100 ms. -/
abbrev BiasHolds (s : State) (c : F32) : Prop :=
  BiasRetryDue s ∧ fLe (fDec 3 1000) c = true ∧ fLe c (fDec 90 1000) = true ∧ s.gns.shortAt + 275000000 ≤ s.mono

theorem xAntennaBiasRetry_good_eq (c : F32) (s : State) :
    xAntennaBiasRetry true c s = if BiasHolds s c then antennaTo s 1 c else s := by
  unfold xAntennaBiasRetry secT msT
  simp only [past_iff, if_true]
  by_cases due : BiasRetryDue s
  · rw [if_pos due]
    exact if_congr ⟨fun good => ⟨due, good⟩, And.right⟩ rfl rfl
  · rw [if_neg due, if_neg fun good => due good.1]

theorem xAntennaBiasRetry_bad_eq (c : F32) (s : State) : xAntennaBiasRetry false c s =
    if BiasRetryDue s then { s with gns := { s.gns with shortAt := s.mono } } else s := by
  unfold xAntennaBiasRetry secT
  simp only [past_iff, Bool.false_eq_true, if_false]

/-- The antenna in its new state, with the flag of the captures that a change away from OK meets (11 R357, R373). -/
def antennaIn (s : State) (n : Nat) (c : F32) : State :=
  { s with gns := { s.gns with
    antenna := n, biasA := c, antennaAt := s.mono
    caps := s.gns.caps.map fun x => if capRuns s x ∧ n ≠ 1 then { x with flags := x.flags ||| 2 } else x } }

theorem antennaTo_of_same (same : s.gns.antenna = n) : antennaTo s n c = antennaIn s n c := if_pos same

section
variable (changes : s.gns.antenna ≠ n)
include changes

theorem antennaTo_of_bad (bad : n = 2 ∨ n = 3) : antennaTo s n c =
    raise (emitFault (antennaIn s n c) 0x0A01 gnssFid (b1 s.gns.antenna ++ b1 n ++ zeros 2 ++ leF c)) 152 n :=
  (if_neg changes).trans (if_pos bad)

theorem antennaTo_of_good (notOpen : n ≠ 2) (notShort : n ≠ 3) : antennaTo s n c =
    returnSrc (emit (antennaIn s n c) 0x0A01 gnssFid (b1 s.gns.antenna ++ b1 n ++ zeros 2 ++ leF c)) 152 :=
  (if_neg changes).trans (if_neg (not_or.mpr ⟨notOpen, notShort⟩))

end

end

/-! ## Interference -/

section
variable {s : State} {n : Nat}

/-- JI has stood at JAM_ALARM for 1 s (11 R360). -/
abbrev JamAlarm (s : State) : Prop := ∃ t, s.gns.jamAt = some t ∧ t + 250000000 ≤ s.mono

theorem jamAlarm_iff : JamAlarm s ↔ s.gns.jamAt.any (fun t => s.past t (secT 1)) = true := by
  simp only [Option.any_eq_true, past_second_iff]

theorem xJammingAlarmTimeout_eq (s : State) : xJammingAlarmTimeout s =
    if (gnssSt s).live && s.gns.jamAt.any (fun t => s.past t (secT 1)) then levelTo s 3 else s := by
  unfold xJammingAlarmTimeout
  cases s.gns.jamAt with
  | none => rw [Option.any_none, Bool.and_false, if_neg Bool.false_ne_true]
  | some t => rw [Option.any_some]

theorem jamLevel_of_alarm (alarm : JamAlarm s) : jamLevel s = 3 := by
  obtain ⟨t, since, late⟩ := alarm
  unfold jamLevel
  rw [since]
  exact if_pos ((past_second_iff t).mpr late)

theorem jamLevel_of_calm (calm : ¬ JamAlarm s) : jamLevel s =
    if fLe (nfWarn (notchNow s)) s.gns.ji then 2 else if engagedMask s = 0 then 0 else 1 := by
  rw [← ite_not (engagedMask s = 0)]
  unfold jamLevel
  cases since : s.gns.jamAt with
  | none => rfl
  | some t => exact if_neg fun late => calm ⟨t, since, (past_second_iff t).mp late⟩

theorem levelTo_of_same (same : s.gns.level = n) : levelTo s n = s := if_pos same

/-- The data of the event that a change of level sends (11 R360). -/
def levelData (s : State) (n : Nat) : Bytes :=
  b1 s.gns.level ++ b1 n ++ b1 (engagedMask s) ++ b1 0 ++ leF s.gns.ji

section
variable (changes : s.gns.level ≠ n)
include changes

theorem levelTo_of_alarm (alarm : n = 3) : levelTo s n =
    raise (emitFault { s with gns := { s.gns with level := n } } 0x0A02 gnssFid (levelData s n)) 153
      (fToInt (fMul s.gns.ji (fOfNat 10))).toNat :=
  (if_neg changes).trans (if_pos alarm)

theorem levelTo_of_end (below : n ≠ 3) (alarm : s.gns.level = 3) : levelTo s n =
    returnSrc (emit { s with gns := { s.gns with level := n } } 0x0A02 gnssFid (levelData s n)) 153 :=
  (if_neg changes).trans ((if_neg below).trans (if_pos alarm))

theorem levelTo_of_below (below : n ≠ 3) (before : s.gns.level ≠ 3) : levelTo s n =
    emit { s with gns := { s.gns with level := n } } 0x0A02 gnssFid (levelData s n) :=
  (if_neg changes).trans ((if_neg below).trans (if_neg before))

end

end

/-! ## Notches -/

section
variable {s : State} {d : Bytes} {n : Nat} {l : List NotchLine} {x : NotchLine}

/-- The strongest line in the band of a notch that is not engaged (11 R358). -/
abbrev StrongestSeen (s : State) (d : Bytes) (n : Nat) (l : List NotchLine) (x : NotchLine) : Prop :=
  strongest (l.filter fun y => fLe (fAbs (fSub y.freq (nfCentre d n))) (nfHalf d n) && !lineTaken s d n y.freq) = some x

variable (free : (s.notch n).st ≠ 2) (seen : StrongestSeen s d n l x)
include free seen

theorem notchAdapt_of_weak (weak : fLe (nfTh d) x.level = false) : notchAdapt s d n l = { st := 1 } := by
  unfold notchAdapt
  simp only [if_neg free, seen, weak, Bool.false_eq_true, if_false]

/-- The tenth epoch of a line that stands engages the notch. -/
theorem notchAdapt_of_tenth (strong : fLe (nfTh d) x.level = true) (run : (s.notch n).run = 9)
    (stands : fLe (fAbs (fSub x.freq (s.notch n).freq)) (fOfNat 100) = true) :
    notchAdapt s d n l = { st := 2, freq := x.freq } := by
  unfold notchAdapt
  simp only [if_neg free, seen, strong, run, stands]
  rfl

end

end Sys2Proof.Machine
end

section
/-! SUPPORT. Bank epochs, the sweeps of acquisition and the hand-over of a detection (11 R358, R361 to R364, R378). -/

namespace Sys2Proof.Machine

/-! ## The front end -/

section
variable {s : State}

theorem levelTo_gns (n : Nat) : (levelTo s n).gns = { s.gns with level := n } := by
  by_cases same : s.gns.level = n
  · rw [levelTo_of_same same, ← same]
  by_cases alarm : n = 3
  · rw [levelTo_of_alarm same alarm]
    exact (gns_of_off (raise_off _ _ _ _ (Nat.and_self _)) rfl).trans
      (gns_of_off (emitFault_off _ _ _ _ _ (Nat.and_self _)) rfl)
  by_cases before : s.gns.level = 3
  · rw [levelTo_of_end same alarm before]
    exact (gns_of_off (returnSrc_off _ _ _ (Nat.and_self _)) rfl).trans
      (gns_of_off (emit_off _ _ _ _ _ (Nat.and_self _)) rfl)
  · rw [levelTo_of_below same alarm before]
    exact gns_of_off (emit_off _ _ _ _ _ (Nat.and_self _)) rfl

/-- A fold over the numbers below n keeps what each of its steps keeps. -/
theorem forN_keeps {α : Type} (g : State → α) {f : State → Nat → State} (step : ∀ t i, g (f t i) = g t) (n : Nat)
    (s : State) : g (forN n f s) = g s :=
  List.foldlRecOn (motive := fun t => g t = g s) (List.range n) f rfl fun t same i _ => (step t i).trans same

/-- The notches' epoch changes their settings in effect and themselves, and nothing else of the baseband. -/
theorem notchEpoch_keeps {α : Type} (g : Gns → α)
    (other : ∀ (x : Gns) (c : Option Bytes) (l : Tbl Nat Notch), g { x with notchCfg := c, notches := l } = g x)
    (lines : List NotchLine) (s : State) : g (notchEpoch lines s).gns = g s.gns := by
  have setNotch_keeps (t : State) (n : Nat) (x : Notch) : g (t.setNotch n x).gns = g t.gns := other t.gns _ _
  unfold notchEpoch
  refine (forN_keeps (fun t => g t.gns) (fun t n => ?_) 4 _).trans ?_
  · split_ifs <;> exact setNotch_keeps _ _ _
  · split_ifs <;> exact other s.gns _ _

/-- The front end's measurements stand after its epoch (11 R358). -/
theorem frontEpoch_ji (b : BankEpoch) : (frontEpoch b s).gns.ji = b.ji :=
  (congrArg Gns.ji (levelTo_gns _)).trans (notchEpoch_keeps Gns.ji (fun _ _ _ => rfl) _ _)

theorem frontEpoch_agc (b : BankEpoch) : (frontEpoch b s).gns.agc = b.agc :=
  (congrArg Gns.agc (levelTo_gns _)).trans (notchEpoch_keeps Gns.agc (fun _ _ _ => rfl) _ _)

end

/-! ## GNSS_BANK_EPOCH -/

/-- The front end runs in STARTING and RUNNING. -/
def frontRun (b : BankEpoch) (s : State) : State := if (gnssSt s).live then frontEpoch b s else s

/-- An epoch goes to the processing of pips (11 R378). -/
def jobEpochTaken (s : State) : State := { s with gns := { s.gns with jobEpochs := s.gns.jobEpochs + 1 } }

/-- The channels at one epoch of RUNNING in mode 0, and the TCXO offset that it measures (11 R363 to R365). -/
def bankTracked (b : BankEpoch) (s : State) : State :=
  let u := b.chans.foldl trackEpoch { s with gns := { s.gns with bank := s.gns.bank + 1 } }
  match b.tcxo with
  | none => u
  | some x => { u with gns := { u.gns with data := { u.gns.data with tcxo := some x } } }

section
variable {b : BankEpoch} {s : State}

theorem xGnssBankEpoch_of_halted (halted : fwRuns s = false) : xGnssBankEpoch b s = s := if_pos (by rw [halted]; rfl)

section
variable (runs : fwRuns s = true)
include runs

theorem xGnssBankEpoch_of_idle (idle : gnssFull (frontRun b s) = false) : xGnssBankEpoch b s =
    if jobAdmitted (frontRun b s) then jobEpochTaken (frontRun b s) else frontRun b s :=
  (if_neg (by rw [runs]; decide)).trans (if_neg (ne_true_of_eq_false idle))

/-- In RUNNING of mode 0 one epoch in four goes to admitted processing (11 R378). -/
theorem xGnssBankEpoch_of_full (full : gnssFull (frontRun b s) = true) : xGnssBankEpoch b s =
    if jobAdmitted (frontRun b s) = true ∧ (frontRun b s).gns.bank % 4 = 3 then
      jobEpochTaken (bankTracked b (frontRun b s))
    else searchEpoch b (bankTracked b (frontRun b s)) := by
  refine (if_neg (by rw [runs]; decide)).trans ((if_pos full).trans (if_congr ?_ rfl rfl))
  rw [Bool.and_eq_true, decide_eq_true_iff]
  rfl

end

end

/-! ## Acquisition -/

/-- The sums of a window with one more epoch (11 R362). -/
def dwellSums (b : BankEpoch) (g : Gns) : List (List Nat) :=
  if g.dwell = 0 then b.cells else sumCells g.sums b.cells

/-- A PRN of the sweep is done, and the next one begins at its first window. -/
def sweepAfter (s : State) (r : List Search) : State :=
  { s with gns := { s.gns with sweep := r, window := 0, dwell := 0, sums := [] } }

/-- A window is done with no detection: the PRN's next window, or the next PRN. -/
def windowAfter (s : State) (x : Search) (r : List Search) : State :=
  if s.gns.window + 1 < x.windows
  then { s with gns := { s.gns with window := s.gns.window + 1, dwell := 0, sums := [] } } else sweepAfter s r

/-- A detection goes to a channel with the Doppler of its bin and the code phase of its hypothesis (11 R361, R362). -/
def detected (s : State) (x : Search) (r : List Search) (bin hyp : Nat) : State :=
  handOver (sweepAfter s r) x.prn
    (fAdd x.centre (fOfInt ((windowLow s.gns.window + bin) * gcBin (s.app .gnss)))) (fOfQ ((hyp % 2046 : Nat) : Int) 1)

/-- A window's peak is judged against ACQ_TH (11 R362). -/
def windowJudged (s : State) (x : Search) (r : List Search) (sums : List (List Nat)) : State :=
  match peakOf sums with
  | none => windowAfter s x r
  | some (bin, hyp, ratio) =>
    if fLe (gcAcqTh (s.app .gnss)) ratio then detected s x r bin hyp else windowAfter s x r

section
variable {b : BankEpoch} {s : State} {x : Search} {r : List Search}
  (sweep : s.gns.sweep = x :: r) (skip : skipPrns s (x :: r) = x :: r)
include sweep skip

/-- An epoch of a sweep whose front PRN is neither tracked nor excluded: one more in the window's sums, which are judged
at DWELL epochs. -/
theorem searchEpoch_of_cons : searchEpoch b s =
    if s.gns.dwell + 1 < gcDwell (s.app .gnss)
    then { s with gns := { s.gns with dwell := s.gns.dwell + 1, sums := dwellSums b s.gns } }
    else windowJudged s x r (dwellSums b s.gns) := by
  unfold searchEpoch
  rw [sweep, skip]
  simp only [List.isEmpty_cons, Bool.false_eq_true, if_false, ne_eq, not_true_eq_false, decide_false, Nat.add_eq_right]
  rw [← sweep]
  rfl

theorem searchEpoch_of_dwelling (more : ¬ gcDwell (s.app .gnss) ≤ s.gns.dwell + 1) : searchEpoch b s =
    { s with gns := { s.gns with dwell := s.gns.dwell + 1, sums := dwellSums b s.gns } } :=
  (searchEpoch_of_cons sweep skip).trans (if_pos (Nat.lt_of_not_le more))

section
variable (judged : gcDwell (s.app .gnss) ≤ s.gns.dwell + 1)
include judged

theorem searchEpoch_of_judged : searchEpoch b s = windowJudged s x r (dwellSums b s.gns) :=
  (searchEpoch_of_cons sweep skip).trans (if_neg (Nat.not_lt.mpr judged))

theorem searchEpoch_of_empty (empty : peakOf (dwellSums b s.gns) = none) : searchEpoch b s = windowAfter s x r := by
  rw [searchEpoch_of_judged sweep skip judged]
  unfold windowJudged
  rw [empty]

variable {bin hyp : Nat} {ratio : F32} (peak : peakOf (dwellSums b s.gns) = some (bin, hyp, ratio))
include peak

theorem searchEpoch_of_peak : searchEpoch b s =
    if fLe (gcAcqTh (s.app .gnss)) ratio then detected s x r bin hyp else windowAfter s x r := by
  rw [searchEpoch_of_judged sweep skip judged]
  unfold windowJudged
  rw [peak]

theorem searchEpoch_of_weak (weak : fLe (gcAcqTh (s.app .gnss)) ratio = false) : searchEpoch b s = windowAfter s x r :=
  (searchEpoch_of_peak sweep skip judged peak).trans (if_neg (ne_true_of_eq_false weak))

theorem searchEpoch_of_detection (strong : fLe (gcAcqTh (s.app .gnss)) ratio = true) :
    searchEpoch b s = detected s x r bin hyp :=
  (searchEpoch_of_peak sweep skip judged peak).trans (if_pos strong)

end

end

section
variable {s : State} {prn : Nat} {dop code : F32}

theorem freeChannel_of_first {c : Nat} (inBank : c < 48) (idle : (s.track c).st = 0)
    (first : ∀ j, j < c → (s.track j).st ≠ 0) : freeChannel s = some c :=
  List.find?_range_eq_some.mpr ⟨decide_eq_true idle, List.mem_range.mpr inBank, fun j hj => by simp [first j hj]⟩

theorem freeChannel_of_busy (busy : ∀ c, c < 48 → (s.track c).st ≠ 0) : freeChannel s = none :=
  List.find?_range_eq_none.mpr fun c hc => by simp [busy c hc]

theorem handOver_of_first {c : Nat} (inBank : c < 48) (idle : (s.track c).st = 0)
    (first : ∀ j, j < c → (s.track j).st ≠ 0) : handOver s prn dop code = s.setTrack c
      { st := 1, prn := prn, doppler := dop, code := code, pullAt := s.mono, left := (s.track c).left } := by
  unfold handOver
  rw [freeChannel_of_first inBank idle first]

theorem handOver_of_busy (busy : ∀ c, c < 48 → (s.track c).st ≠ 0) : handOver s prn dop code = s := by
  unfold handOver
  rw [freeChannel_of_busy busy]

end

/-- At the reset settings three windows cover the span (11 R361). -/
theorem windowCount_of_reset {d : Bytes} (bin : gcBin d = 500) (span : gcSpan d = 10000) : windowCount d = 3 := by
  unfold windowCount
  rw [bin, span]
  rfl

end Sys2Proof.Machine
end

section
/-! SUPPORT. The tracking channels: what locks and losses of lock make of a channel, and what the timeouts do (11 R362,
R364, R365). -/

namespace Sys2Proof.Machine

section
variable {s : State} {c : Nat}

/-! ## Locks -/

/-- No lock within 100 ms of the hand-over (11 R362). -/
abbrev PullInOver (s : State) (c : Nat) : Prop := (s.track c).st = 1 ∧ (s.track c).pullAt + 25000000 ≤ s.mono

/-- A false alarm is counted, and its channel is idle. -/
def falseAlarmed (s : State) (c : Nat) : State :=
  let u := s.setTrack c {}
  { u with gns := { u.gns with falseAlarms := satN 4 (u.gns.falseAlarms + 1) } }

theorem xAcquisitionFalseAlarm_eq (c : Nat) (s : State) :
    xAcquisitionFalseAlarm c s = if PullInOver s c then falseAlarmed s c else s := by
  unfold xAcquisitionFalseAlarm msT
  simp only [past_iff]
  rfl

theorem falseAlarmed_track : (falseAlarmed s c).track c = {} := setTrack_track s c {}

/-- The code locks within 100 ms of the hand-over. -/
abbrev PullsIn (s : State) (c : Nat) (code : Bool) : Prop := code = true ∧ s.mono ≤ (s.track c).pullAt + 25000000

theorem pullsIn_iff {code : Bool} :
    (code ∧ !s.past ((s.track c).pullAt + 1) (msT 100)) ↔ PullsIn s c code := by
  rw [Bool.not_eq_true', not_past_iff]
  unfold msT
  exact and_congr_right fun _ => by omega

/-- A PRN that is tracked again is no longer among the lost ones (11 R363). -/
def lostForgotten (s : State) (c : Nat) : State :=
  { s with gns := { s.gns with lost := s.gns.lost.filter fun l => decide (l.prn ≠ (s.track c).prn) } }

section
variable {code phase : Bool}

theorem xTrackingLockChange_of_idle (idle : gnssFull s = false ∨ (s.track c).st = 0) :
    xTrackingLockChange c code phase s = s :=
  if_pos (idle.imp_left (fun h => by rw [h]; rfl))

section
variable (full : gnssFull s = true)
include full

theorem xTrackingLockChange_of_tracked (tracked : (s.track c).st ≠ 0) : xTrackingLockChange c code phase s =
    if (s.track c).st = 1 then
      if PullsIn s c code then
        (lostForgotten s c).setTrack c (if phase then { s.track c with st := 3, phaseAt := s.mono }
          else { s.track c with st := 2 })
      else s
    else if !code then trackLost s c
    else if (s.track c).st = 2 then
      if phase then s.setTrack c { s.track c with st := 3, phaseAt := s.mono, unlockAt := none } else s
    else if phase then s.setTrack c { s.track c with unlockAt := none }
    else s.setTrack c { s.track c with unlockAt := some ((s.track c).unlockAt.getD s.mono) } := by
  unfold xTrackingLockChange
  refine (if_neg ?_).trans ?_
  · simp [full, tracked]
  · simp only [pullsIn_iff]
    rfl

section
variable (pulling : (s.track c).st = 1)
include pulling

theorem xTrackingLockChange_of_pullIn (pulls : PullsIn s c code) : xTrackingLockChange c code phase s =
    (lostForgotten s c).setTrack c (if phase then { s.track c with st := 3, phaseAt := s.mono }
      else { s.track c with st := 2 }) := by
  rw [xTrackingLockChange_of_tracked full (by omega), if_pos pulling, if_pos pulls]

theorem xTrackingLockChange_of_noPullIn (late : ¬ PullsIn s c code) : xTrackingLockChange c code phase s = s := by
  rw [xTrackingLockChange_of_tracked full (by omega), if_pos pulling, if_neg late]

end

theorem xTrackingLockChange_of_codeLost (follows : 2 ≤ (s.track c).st) :
    xTrackingLockChange c false phase s = trackLost s c := by
  rw [xTrackingLockChange_of_tracked full (by omega), if_neg (by omega), Bool.not_false, if_pos rfl]

theorem xTrackingLockChange_of_codeLock (codeLock : (s.track c).st = 2) : xTrackingLockChange c true phase s =
    if phase then s.setTrack c { s.track c with st := 3, phaseAt := s.mono, unlockAt := none } else s := by
  rw [xTrackingLockChange_of_tracked full (by omega), if_neg (by omega), if_neg (by decide), if_pos codeLock]

theorem xTrackingLockChange_of_phaseLock (phaseLock : 2 < (s.track c).st) : xTrackingLockChange c true phase s =
    if phase then s.setTrack c { s.track c with unlockAt := none }
    else s.setTrack c { s.track c with unlockAt := some ((s.track c).unlockAt.getD s.mono) } := by
  rw [xTrackingLockChange_of_tracked full (by omega), if_neg (by omega), if_neg (by decide), if_neg (by omega)]

end

end

/-! ## Losses -/

theorem trackLost_track : (trackLost s c).track c = { left := leftOf (s.track c) } := setTrack_track s c _

theorem mem_trackLost_lost :
    { prn := (s.track c).prn, doppler := (s.track c).doppler, at_ := s.mono } ∈ (trackLost s c).gns.lost :=
  List.mem_append_right _ (List.mem_singleton.mpr rfl)

/-- The C/N0 has been below CN0_LOSS for 1 s (11 R365). -/
abbrev SignalWeak (s : State) (c : Nat) : Prop :=
  (s.track c).st ≠ 0 ∧ ∃ a, (s.track c).lowAt = some a ∧ a + 250000000 ≤ s.mono

/-- The phase lock detector has failed for 200 ms (11 R365). -/
abbrev PhaseSlips (s : State) (c : Nat) : Prop :=
  3 ≤ (s.track c).st ∧ ∃ a, (s.track c).unlockAt = some a ∧ a + 50000000 ≤ s.mono

theorem xTrackingLossTimeout_of_weak (weak : SignalWeak s c) : xTrackingLossTimeout c true s = trackLost s c := by
  obtain ⟨busy, a, low, late⟩ := weak
  have lasts : (s.track c).st ≠ 0 ∧ s.past a (secT 1) = true := ⟨busy, (past_second_iff a).mpr late⟩
  unfold xTrackingLossTimeout
  dsimp only
  rw [low]
  exact if_pos lasts

theorem xTrackingLossTimeout_of_strong (strong : ¬ SignalWeak s c) : xTrackingLossTimeout c true s = s := by
  unfold xTrackingLossTimeout
  dsimp only
  cases low : (s.track c).lowAt with
  | none => rfl
  | some a =>
    have short : ¬ ((s.track c).st ≠ 0 ∧ s.past a (secT 1) = true) := fun ⟨busy, late⟩ =>
      strong ⟨busy, a, low, (past_second_iff a).mp late⟩
    exact if_neg short

/-- A channel that loses its phase lock goes on with code lock only; the subframe under way is still to be sent where it
was in FRAME_SYNC (11 R365, R367). -/
def phaseLost (s : State) (c : Nat) : State :=
  s.setTrack c { s.track c with
    st := 2, unlockAt := none, prevId := none, tow := none, bad := 0, left := leftOf (s.track c) }

theorem xTrackingLossTimeout_of_slip (slips : PhaseSlips s c) : xTrackingLossTimeout c false s = phaseLost s c := by
  obtain ⟨locked, a, failed, late⟩ := slips
  have lasts : 3 ≤ (s.track c).st ∧ s.past a 50000000 = true := ⟨locked, (past_iff _ _ _).mpr late⟩
  unfold xTrackingLossTimeout
  dsimp only
  rw [failed]
  exact if_pos lasts

theorem xTrackingLossTimeout_of_locked (holds : ¬ PhaseSlips s c) : xTrackingLossTimeout c false s = s := by
  unfold xTrackingLossTimeout
  dsimp only
  cases failed : (s.track c).unlockAt with
  | none => rfl
  | some a =>
    have short : ¬ (3 ≤ (s.track c).st ∧ s.past a 50000000 = true) := fun ⟨locked, late⟩ =>
      holds ⟨locked, a, failed, (past_iff _ _ _).mp late⟩
    exact if_neg short

/-- The phase lock has stood for 1 s (11 R364). -/
abbrev BitSyncDue (s : State) (c : Nat) : Prop := (s.track c).st = 3 ∧ (s.track c).phaseAt + 250000000 ≤ s.mono

theorem xBitSyncTimeout_eq (c : Nat) (s : State) :
    xBitSyncTimeout c s = if BitSyncDue s c then s.setTrack c { s.track c with st := 4 } else s := by
  unfold xBitSyncTimeout
  simp only [past_second_iff]

/-- PRNs stay among the lost ones for 60 s (11 R365). -/
theorem xLostPrnExpiry_eq (prn : Nat) (s : State) : xLostPrnExpiry prn s = { s with gns := { s.gns with
    lost := s.gns.lost.filter fun l => decide (l.prn ≠ prn) || decide (s.mono < l.at_ + 15000000000) } } := by
  have young (l : LostPrn) : (!s.past l.at_ (secT 60)) = decide (s.mono < l.at_ + 15000000000) := by
    rw [Bool.eq_iff_iff, Bool.not_eq_true', not_past_iff, decide_eq_true_iff]
    rfl
  unfold xLostPrnExpiry
  simp only [young]

end

end Sys2Proof.Machine

namespace Sys2Proof

open Machine

/-- Settles O46: each row by its conditions; a bank epoch by whether the firmware runs, GNSS is RUNNING in mode 0 and
processing is admitted; a lock change by the channel's state. -/
theorem gnssSignals : Obligations.GnssSignals := by
  unfold Obligations.GnssSignals
  refine ⟨fun n c s => ?bias, fun c s => ?retry, fun n c s => ?antenna, fun s => ?alarm,
    fun s => ⟨jamLevel_of_alarm, jamLevel_of_calm⟩, fun n s => ?level, fun b s => ?bank,
    fun s d n x l free seen => ⟨notchAdapt_of_weak free seen, notchAdapt_of_tenth free seen⟩,
    fun b x r s sweep skip => ?search, fun prn dop code s => ⟨fun c => handOver_of_first, handOver_of_busy⟩,
    fun d => windowCount_of_reset, fun c s => ?falseAlarm, fun c code phase s => ?lock, fun c s => ?lost,
    fun c s => ?timeout, fun c s => ?bitSync, fun prn s => congrArg Host.Outcome.next (xLostPrnExpiry_eq prn s)⟩
  case bias =>
    exact ⟨fun found => next_settle_congr (xAntennaBiasChange_of_found found),
      fun stays => next_settle_congr (xAntennaBiasChange_of_stays stays),
      fun opens => next_settle_congr (xAntennaBiasChange_of_opens opens),
      fun shorts => next_settle_congr (xAntennaBiasChange_of_shorts shorts),
      fun found stays opens shorts => next_settle_congr (xAntennaBiasChange_of_none found stays opens shorts)⟩
  case retry =>
    have good := xAntennaBiasRetry_good_eq c s
    have bad := xAntennaBiasRetry_bad_eq c s
    exact ⟨fun holds => next_settle_congr (good.trans (if_pos holds)),
      fun fails => next_settle_congr (good.trans (if_neg fails)),
      fun due => next_settle_congr (bad.trans (if_pos due)),
      fun early => next_settle_congr (bad.trans (if_neg early))⟩
  case antenna => exact ⟨antennaTo_of_same, antennaTo_of_bad, antennaTo_of_good⟩
  case alarm =>
    have run : exec .jammingAlarmTimeout s = .next (settle (xJammingAlarmTimeout s)) := rfl
    rw [run, xJammingAlarmTimeout_eq]
    exact next_settle_ite_of_guard ((Bool.and_eq_true _ _).to_iff.trans (and_congr_right fun _ => jamAlarm_iff.symm))
  case level => exact ⟨levelTo_of_same, levelTo_of_alarm, levelTo_of_end, levelTo_of_below⟩
  case bank =>
    have run {u : State} (h : xGnssBankEpoch b s = u) : exec (.gnssBankEpoch b) s = .next (settle u) :=
      next_settle_congr h
    refine ⟨fun halted => run (xGnssBankEpoch_of_halted halted), fun runs idle => ?_, fun runs full => ?_,
      frontEpoch_ji b, frontEpoch_agc b⟩
    · have epoch := xGnssBankEpoch_of_idle runs idle
      exact ⟨fun job => run (epoch.trans (if_pos job)), fun job => run (epoch.trans (if_neg job))⟩
    · have epoch := xGnssBankEpoch_of_full runs full
      exact ⟨fun job => run (epoch.trans (if_pos job)), fun job => run (epoch.trans (if_neg job))⟩
  case search =>
    exact ⟨searchEpoch_of_dwelling sweep skip, searchEpoch_of_empty sweep skip, fun bin hyp ratio judged peak =>
      ⟨searchEpoch_of_weak sweep skip judged peak, searchEpoch_of_detection sweep skip judged peak⟩⟩
  case falseAlarm =>
    have row := xAcquisitionFalseAlarm_eq c s
    exact ⟨fun late => ⟨_, congrArg Host.Outcome.next (row.trans (if_pos late)), falseAlarmed_track, rfl, rfl⟩,
      fun other => congrArg Host.Outcome.next (row.trans (if_neg other))⟩
  case lock =>
    have run {u : State} (h : xTrackingLockChange c code phase s = u) :
        exec (.trackingLockChange c code phase) s = .next u := congrArg Host.Outcome.next h
    refine ⟨fun idle => run (xTrackingLockChange_of_idle idle), fun full pulling => ⟨fun pulls locks => ?_,
      fun pulls unlocked => ?_, fun late => run (xTrackingLockChange_of_noPullIn full pulling late)⟩,
      fun full follows lost => ?_, fun full codeLock locked => ?_, fun full phaseLock locked => ?_⟩
    · exact run ((xTrackingLockChange_of_pullIn full pulling pulls).trans (by rw [if_pos locks]; rfl))
    · exact run ((xTrackingLockChange_of_pullIn full pulling pulls).trans (by rw [if_neg (by simp [unlocked])]; rfl))
    · subst lost
      exact run (xTrackingLockChange_of_codeLost full follows)
    · subst locked
      have row := xTrackingLockChange_of_codeLock (phase := phase) full codeLock
      exact ⟨fun locks => run (row.trans (if_pos locks)), fun unlocked => run (row.trans (if_neg (by simp [unlocked])))⟩
    · subst locked
      have row := xTrackingLockChange_of_phaseLock (phase := phase) full phaseLock
      exact ⟨fun locks => run (row.trans (if_pos locks)), fun unlocked => run (row.trans (if_neg (by simp [unlocked])))⟩
  case lost => exact ⟨congrArg Track.st trackLost_track, rfl, mem_trackLost_lost⟩
  case timeout =>
    exact ⟨fun weak => congrArg Host.Outcome.next (xTrackingLossTimeout_of_weak weak),
      fun strong => congrArg Host.Outcome.next (xTrackingLossTimeout_of_strong strong),
      fun slips => congrArg Host.Outcome.next (xTrackingLossTimeout_of_slip slips),
      fun holds => congrArg Host.Outcome.next (xTrackingLossTimeout_of_locked holds)⟩
  case bitSync =>
    have row := xBitSyncTimeout_eq c s
    exact ⟨fun due => congrArg Host.Outcome.next (row.trans (if_pos due)),
      fun other => congrArg Host.Outcome.next (row.trans (if_neg other))⟩

end Sys2Proof
end

section
/-! SUPPORT. Navigation words: what a subframe makes of its channel, and what it sends (11 R366, R367). -/

namespace Sys2Proof.Machine

section
variable {s : State}

@[simp] theorem sendWords_track (body : Bytes) (c : Nat) : (sendWords s body).track c = s.track c := rfl

/-- Only a subframe all of whose words passed adds to the navigation data (11 R366). -/
theorem takeData_of_failed {prn : Nat} {f : Subframe} (failed : f.parity ≠ 1023) : takeData s prn f = s := if_pos failed

/-- A record has the 64 bytes of Table 11.4. -/
theorem wordRecord_length (prn c prev : Nat) (ws : List Nat) (full : Bool) (t : Option Nat) (start : T96) :
    (wordRecord prn c (readSubframe ws prev) full t start).length = 64 := by
  simp [wordRecord, readSubframe, List.length_flatMap, Function.comp_def]

end

/-- A subframe begins: its preamble, and a second word to be read (11 R366). -/
abbrev SubframeBegins (ws : List Nat) (prev : Nat) : Prop := (readSubframe ws prev).pre = true ∧ 2 ≤ ws.length

theorem subframeSkipped_iff {ws : List Nat} {prev : Nat} :
    (!(readSubframe ws prev).pre || decide (ws.length < 2)) = true ↔ ¬ SubframeBegins ws prev := by
  rw [not_and_or, Bool.or_eq_true, Bool.not_eq_true', Bool.not_eq_true, decide_eq_true_iff, Nat.not_le]

/-- TLM and HOW are good, 300 bits after the preamble before, and the ID has advanced (11 R366). -/
abbrev SecondPreamble (t : Track) (ws : List Nat) (prev : Nat) (follows : Bool) : Prop :=
  (readSubframe ws prev).headOk = true ∧ follows = true ∧ t.prevId.map nextId = some (readSubframe ws prev).id

theorem secondPreamble_iff {t : Track} {ws : List Nat} {prev : Nat} {follows : Bool} :
    ((readSubframe ws prev).headOk && follows && t.prevId.map nextId == some (readSubframe ws prev).id) = true ↔
      SecondPreamble t ws prev follows := by
  rw [Bool.and_eq_true, Bool.and_eq_true, beq_iff_eq, and_assoc]

/-- A channel as it enters FRAME_SYNC. -/
def frameSynced (t : Track) (f : Subframe) : Track :=
  { t with st := 5, prevId := none, tow := some ((f.tow + 100799) % 100800), bad := 0 }

/-- The consecutive subframes whose TLM or HOW failed, with one more read. -/
def badCount (t : Track) (f : Subframe) : Nat := if f.headOk then 0 else t.bad + 1

section
variable {s : State} {c prev : Nat} {ws : List Nat} {follows : Bool} {start : T96}

theorem xSubframeReceived_of_left {prn : Nat} (left : (s.track c).left = some prn) :
    xSubframeReceived c ws prev follows start s = sendWords (s.setTrack c { s.track c with left := none })
      (wordRecord prn c (readSubframe ws prev) false none start) := by
  unfold xSubframeReceived
  dsimp only
  rw [left]

section
variable (left : (s.track c).left = none)
include left

theorem xSubframeReceived_of_unsynced (bitSync : (s.track c).st ≠ 4) (frame : (s.track c).st ≠ 5) :
    xSubframeReceived c ws prev follows start s = s := by
  unfold xSubframeReceived
  dsimp only
  rw [left]
  exact (if_neg bitSync).trans (if_neg fun h => frame h.1)

section
variable (bitSync : (s.track c).st = 4)
include bitSync

/-- A subframe on a channel in BIT_SYNC, by whether it begins and whether it is the second of two. -/
theorem xSubframeReceived_of_bitSync : xSubframeReceived c ws prev follows start s =
    if ¬ SubframeBegins ws prev then s.setTrack c { s.track c with prevId := none }
    else if SecondPreamble (s.track c) ws prev follows then
      if 10 ≤ ws.length then takeData
        ((sendWords (s.setTrack c (frameSynced (s.track c) (readSubframe ws prev)))
          (wordRecord (s.track c).prn c (readSubframe ws prev) true none start)).setTrack c
            { frameSynced (s.track c) (readSubframe ws prev) with tow := some (readSubframe ws prev).tow })
        (s.track c).prn (readSubframe ws prev)
      else s.setTrack c (frameSynced (s.track c) (readSubframe ws prev))
    else s.setTrack c { s.track c with
      prevId := if (readSubframe ws prev).headOk && decide (1 ≤ (readSubframe ws prev).id) &&
        decide ((readSubframe ws prev).id ≤ 5) then some (readSubframe ws prev).id else none } := by
  unfold xSubframeReceived
  dsimp only
  split
  next held => cases left.symm.trans held
  refine (if_pos bitSync).trans (if_congr subframeSkipped_iff rfl (if_congr secondPreamble_iff ?_ rfl))
  simp only [decide_eq_true_iff, sendWords_track, setTrack_track]
  rfl

theorem xSubframeReceived_of_noPreamble (other : ¬ SubframeBegins ws prev) :
    xSubframeReceived c ws prev follows start s = s.setTrack c { s.track c with prevId := none } :=
  (xSubframeReceived_of_bitSync left bitSync).trans (if_pos other)

theorem xSubframeReceived_of_preamble (begins : SubframeBegins ws prev)
    (alone : ¬ (SubframeBegins ws prev ∧ SecondPreamble (s.track c) ws prev follows)) :
    xSubframeReceived c ws prev follows start s = s.setTrack c { s.track c with
      prevId := if (readSubframe ws prev).headOk && decide (1 ≤ (readSubframe ws prev).id) &&
        decide ((readSubframe ws prev).id ≤ 5) then some (readSubframe ws prev).id else none } :=
  (xSubframeReceived_of_bitSync left bitSync).trans
    ((if_neg (not_not.mpr begins)).trans (if_neg fun second => alone ⟨begins, second⟩))

section
variable (syncs : SubframeBegins ws prev ∧ SecondPreamble (s.track c) ws prev follows)
include syncs

theorem xSubframeReceived_of_syncBegun (short : ws.length < 10) : xSubframeReceived c ws prev follows start s =
    s.setTrack c (frameSynced (s.track c) (readSubframe ws prev)) :=
  (xSubframeReceived_of_bitSync left bitSync).trans
    ((if_neg (not_not.mpr syncs.1)).trans ((if_pos syncs.2).trans (if_neg (Nat.not_le.mpr short))))

theorem xSubframeReceived_of_sync (whole : 10 ≤ ws.length) : xSubframeReceived c ws prev follows start s = takeData
    ((sendWords (s.setTrack c (frameSynced (s.track c) (readSubframe ws prev)))
      (wordRecord (s.track c).prn c (readSubframe ws prev) true none start)).setTrack c
        { frameSynced (s.track c) (readSubframe ws prev) with tow := some (readSubframe ws prev).tow })
    (s.track c).prn (readSubframe ws prev) :=
  (xSubframeReceived_of_bitSync left bitSync).trans
    ((if_neg (not_not.mpr syncs.1)).trans ((if_pos syncs.2).trans (if_pos whole)))

end

end

section
variable (frame : (s.track c).st = 5)
include frame

theorem xSubframeReceived_of_part (part : ws.length < 10) : xSubframeReceived c ws prev follows start s = s := by
  unfold xSubframeReceived
  dsimp only
  rw [left]
  refine (if_neg (by omega)).trans (if_neg fun h => ?_)
  exact absurd (of_decide_eq_true h.2) (Nat.not_le.mpr part)

section
variable (whole : 10 ≤ ws.length)
include whole

/-- A whole subframe of a channel in FRAME_SYNC is sent, and counted as good or bad (11 R366, R367). -/
theorem xSubframeReceived_of_whole : xSubframeReceived c ws prev follows start s =
    let f := readSubframe ws prev
    takeData ((sendWords s (wordRecord (s.track c).prn c f true (s.track c).tow start)).setTrack c
      (if 2 ≤ badCount (s.track c) f then { s.track c with st := 4, bad := 0, tow := none, prevId := none }
      else { s.track c with
        bad := badCount (s.track c) f
        tow := if f.parity.testBit 1 then some f.tow else (s.track c).tow.map fun n => (n + 1) % 100800 }))
      (s.track c).prn f := by
  unfold xSubframeReceived
  dsimp only
  split
  next held => cases left.symm.trans held
  exact (if_neg (by omega)).trans ((if_pos ⟨frame, decide_eq_true whole⟩).trans rfl)

theorem xSubframeReceived_of_secondBad (bad : 2 ≤ badCount (s.track c) (readSubframe ws prev)) :
    xSubframeReceived c ws prev follows start s = takeData
      ((sendWords s (wordRecord (s.track c).prn c (readSubframe ws prev) true (s.track c).tow start)).setTrack c
        { s.track c with st := 4, bad := 0, tow := none, prevId := none }) (s.track c).prn (readSubframe ws prev) := by
  rw [xSubframeReceived_of_whole left frame whole]
  dsimp only
  rw [if_pos bad]

theorem xSubframeReceived_of_kept (good : badCount (s.track c) (readSubframe ws prev) < 2) :
    xSubframeReceived c ws prev follows start s = takeData
      ((sendWords s (wordRecord (s.track c).prn c (readSubframe ws prev) true (s.track c).tow start)).setTrack c
        { s.track c with
          bad := badCount (s.track c) (readSubframe ws prev)
          tow := if (readSubframe ws prev).parity.testBit 1 then some (readSubframe ws prev).tow
            else (s.track c).tow.map fun n => (n + 1) % 100800 }) (s.track c).prn (readSubframe ws prev) := by
  rw [xSubframeReceived_of_whole left frame whole]
  dsimp only
  rw [if_neg (Nat.not_le.mpr good)]

end

end

end

end

end Sys2Proof.Machine
end

section
/-! SUPPORT. Measurement epochs, the fix, the storage of the navigation data, and START (11 R368 to R372, R380). -/

namespace Sys2Proof.Machine

/-! ## The fix -/

section
variable {s : State} {m : EpochIn}

/-- A fix is solved from at least four used satellites within PDOP_MAX (11 R370). -/
def fixSolved (s : State) (m : EpochIn) : Bool :=
  4 ≤ (m.obs.filter (satUsed s m)).length && fLe m.pdop (gcPdopMax (s.app .gnss))

/-- The fix and its counters at an epoch. -/
def fixCounted (s : State) (m : EpochIn) : Gns :=
  { s.gns with
    fix := fixSolved s m, used := (m.obs.filter (satUsed s m)).length, hadFix := s.gns.hadFix || fixSolved s m
    noFix := if fixSolved s m then 0 else min 3 (s.gns.noFix + 1)
    tow := m.tow
    week := if fixSolved s m then fullWeek m.week else s.gns.week }

/-- A fix takes the solution's position and time (11 R370, R371). -/
def positionTaken (g : Gns) (m : EpochIn) : Gns :=
  { g with
    pdop := m.pdop, lat := m.lat, lon := m.lon, height := m.height, sigmaH := m.sigmaH
    td0LessGps := m.td0LessGps, sigma := m.sigma
    data := { g.data with fix := some (m.lat, m.lon, m.height) } }

theorem solveFix_gns (s : State) (m : EpochIn) : (solveFix s m).gns =
    if fixSolved s m then positionTaken (fixCounted s m) m else fixCounted s m := by
  have solved : (if fixSolved s m then ({ s with gns := positionTaken (fixCounted s m) m } : State)
      else { s with gns := fixCounted s m }).gns =
        if fixSolved s m then positionTaken (fixCounted s m) m else fixCounted s m := apply_ite State.gns _ _ _
  refine Eq.trans ?_ solved
  by_cases same : fixSolved s m = s.gns.fix
  · exact congrArg State.gns (if_pos same)
  · exact (congrArg State.gns (if_neg same)).trans (gns_of_off (emit_off _ _ _ _ _ (Nat.and_self _)) rfl)

theorem solveFix_fix : (solveFix s m).gns.fix = fixSolved s m := by
  rw [solveFix_gns]
  split_ifs <;> rfl

theorem solveFix_used : (solveFix s m).gns.used = (m.obs.filter (satUsed s m)).length := by
  rw [solveFix_gns]
  split_ifs <;> rfl

theorem solveFix_of_fix (fix : fixSolved s m = true) : (solveFix s m).gns.noFix = 0 ∧
    (solveFix s m).gns.lat = m.lat ∧ (solveFix s m).gns.lon = m.lon ∧ (solveFix s m).gns.week = fullWeek m.week := by
  rw [solveFix_gns, if_pos fix]
  exact ⟨if_pos fix, rfl, rfl, if_pos fix⟩

theorem solveFix_of_noFix (lost : fixSolved s m = false) :
    (solveFix s m).gns.noFix = min 3 (s.gns.noFix + 1) ∧ (solveFix s m).gns.lat = s.gns.lat := by
  have unsolved := ne_true_of_eq_false lost
  rw [solveFix_gns, if_neg unsolved]
  exact ⟨if_neg unsolved, rfl⟩

end

/-! ## MEASUREMENT_EPOCH -/

section
variable {s : State} {m : EpochIn}

/-- The epoch may come in RUNNING while the firmware runs (11 R368). -/
abbrev EpochComes (s : State) (m : EpochIn) : Prop := fwRuns s = true ∧ gnssSt s = .running ∧ epochDue s m = true

/-- The epoch's number and instant are taken. -/
def epochCounted (s : State) : State :=
  { s with gns := { s.gns with epoch := (s.gns.epoch + 1) % 2 ^ 32, epochAt := some s.mono } }

/-- A step of TD0 has been told (11 R369). -/
def stepTold (s : State) : State := { s with gns := { s.gns with stepped := false } }

theorem gnssFull_of_off {t u : State} {w : Nat} (h : t.off w = u.off w) (fns : w.testBit 7 = false)
    (applied : w.testBit 9 = false) : gnssFull t = gnssFull u := by
  unfold gnssFull gnssSt State.st State.fn State.app
  rw [fns_of_off h fns, applied_of_off h applied]

theorem gnssEpoch_gnssFull : gnssFull (gnssEpoch m s) = gnssFull s :=
  gnssFull_of_off (gnssEpoch_off m s _ (Nat.and_self _)) rfl rfl

theorem gnssFull_of_running (running : gnssSt s = .running) : gnssFull s = decide (gcMode (s.app .gnss) = 0) := by
  unfold gnssFull
  rw [running]
  rfl

theorem xMeasurementEpoch_of_early (early : ¬ EpochComes s m) : xMeasurementEpoch m s = s := if_neg early

section
variable (comes : EpochComes s m)
include comes

theorem xMeasurementEpoch_of_comes : xMeasurementEpoch m s =
    if gnssFull s then forN 4 (timeGnss m s.gns.noFix) (gnssEpoch m s) else gnssEpoch m s :=
  (if_pos comes).trans (if_congr (by rw [gnssEpoch_gnssFull]) rfl rfl)

theorem xMeasurementEpoch_of_otherMode (other : gcMode (s.app .gnss) ≠ 0) :
    xMeasurementEpoch m s = stepTold (epochCounted s) := by
  have part : ¬ gnssFull s = true := by simp [gnssFull_of_running comes.2.1, other]
  exact (xMeasurementEpoch_of_comes comes).trans ((if_neg part).trans (congrArg stepTold (if_neg part)))

theorem xMeasurementEpoch_of_mode0 (mode : gcMode (s.app .gnss) = 0) : xMeasurementEpoch m s =
    forN 4 (timeGnss m s.gns.noFix)
      (stepTold (sendObs (solveFix (epochCounted s) m) m s.gns.epoch (strobe s))) := by
  have full : gnssFull s = true := by simp [gnssFull_of_running comes.2.1, mode]
  refine (xMeasurementEpoch_of_comes comes).trans ((if_pos full).trans ?_)
  exact congrArg (fun t => forN 4 (timeGnss m s.gns.noFix) (stepTold t)) (if_pos full)

end

end

/-! ## GNSS_DATA_STORE and GNSS_START_COMMIT -/

section
variable {s : State}

theorem past_storing_iff : s.past s.gns.storeAt (secT 600) = true ↔ s.gns.storeAt + 150000000000 ≤ s.mono :=
  decide_eq_true_iff

theorem dataStoreDue_iff : (decide (gnssSt s = .running) && s.past s.gns.storeAt (secT 600)) = true ↔
    gnssSt s = .running ∧ s.gns.storeAt + 150000000000 ≤ s.mono := by
  rw [Bool.and_eq_true, decide_eq_true_iff, past_storing_iff]

/-- The 10 ms after START are over (11 R380). -/
abbrev GnssStartOver (s : State) : Prop := gnssSt s = .starting ∧ (s.fn gnssFid).since + 2500000 ≤ s.mono

theorem xGnssStartCommit_eq (s : State) : xGnssStartCommit s =
    if GnssStartOver s then changeState { s with gns := { s.gns with storeAt := s.mono } } gnssFid .running else s := by
  unfold xGnssStartCommit msT
  simp only [past_iff]

end

end Sys2Proof.Machine
end

section
/-! SUPPORT. Pips: a capture's begin and its storage, and the processing of the stored ones (11 R373 to R379). -/

namespace Sys2Proof.Machine

/-! ## Captures -/

section
variable {s : State}

theorem capRuns_iff {c : PipCap} : capRuns s c = true ↔ ∃ t, c.begun = some t ∧ s.mono < t + 250000 * c.len := by
  unfold capRuns
  cases c.begun with
  | none => simp
  | some t => simp [not_past_iff, msT]

theorem xPipCaptureBegin_of_inactive (inactive : (gnssSt s).live = false) : xPipCaptureBegin s = s :=
  if_pos (by rw [inactive]; rfl)

/-- The captures whose tick has come begin with the strobe's stamp, JI and the TCXO offset (11 R373). -/
def capturesBegun (s : State) : State :=
  { s with gns := { s.gns with
    caps := s.gns.caps.map fun c => if c.begun.isNone && decide (c.due ≤ s.mono ∧ s.mono ≤ c.due + 16) then
      { c with begun := some s.mono, start := strobe s, ji := s.gns.ji, tcxo := s.gns.data.tcxo.getD f0
               flags := if s.gns.antenna = 1 then c.flags else c.flags ||| 2 } else c } }

theorem xPipCaptureBegin_of_live (live : (gnssSt s).live = true) : xPipCaptureBegin s = capturesBegun s :=
  if_neg (by rw [live]; decide)

/-- The oldest capture whose samples are all taken. -/
def captureTaken (s : State) : Option PipCap := s.gns.caps.find? fun c => c.begun.isSome && !capRuns s c

theorem xPipStored_of_none {b : Bytes} (untaken : captureTaken s = none) : xPipStored b s = s := by
  unfold captureTaken at untaken
  unfold xPipStored
  rw [untaken]

/-- A capture is stored as a pip, with its notice (11 R375). -/
def captureStored (s : State) (c : PipCap) (b : Bytes) : State :=
  pipNotice { s with gns := { s.gns with
    caps := s.gns.caps.filter fun x => decide (x.id ≠ c.id)
    pips := s.gns.pips ++ [{
      id := c.id, len := c.len, start := c.start, tcxo := c.tcxo, ji := c.ji
      flags := bit (c.flags.testBit 0) 0 + bit (c.flags.testBit 1) 1 + bit (c.flags.testBit 4) 4
      samples := fitBytes (8184 * c.len) b }] } } c.id 0 c.start []

section
variable {b : Bytes} {c : PipCap} (taken : captureTaken s = some c)
include taken

theorem xPipStored_of_some : xPipStored b s =
    if c.flags.testBit 2 then pipRequest (captureStored s c b) c.id else captureStored s c b := by
  unfold captureTaken at taken
  unfold xPipStored
  rw [taken]
  rfl

theorem xPipStored_of_plain (plain : c.flags.testBit 2 = false) : xPipStored b s = captureStored s c b :=
  (xPipStored_of_some taken).trans (if_neg (ne_true_of_eq_false plain))

theorem xPipStored_of_asked (asked : c.flags.testBit 2 = true) :
    xPipStored b s = pipRequest (captureStored s c b) c.id :=
  (xPipStored_of_some taken).trans (if_pos asked)

end

end

/-! ## Processing -/

section
variable {s : State} {r : F32} {code : Nat} {dop : Int}

theorem xPipProcessingUnit_of_idle (idle : s.gns.jobs = []) : xPipProcessingUnit r code dop s = s := by
  unfold xPipProcessingUnit
  rw [idle]

section
variable (asked : s.gns.jobs ≠ [])
include asked

/-- The job at the front, by whether its pip is still stored. -/
theorem xPipProcessingUnit_of_deleted (deleted : jobPip s = none) :
    xPipProcessingUnit r code dop s = if s.gns.jobEpochs = 0 then s else jobDone s := by
  obtain ⟨j, l, jobs⟩ := List.exists_cons_of_ne_nil asked
  unfold xPipProcessingUnit
  rw [jobs]
  dsimp only
  rw [deleted]

/-- A PRN's search over the pip is done, and has found the satellite where its ratio reaches ACQ_TH (11 R377, R378). -/
def prnSearched (s : State) (r : F32) (code : Nat) (dop : Int) : State :=
  let prn := jobNext s s.gns.jobPrn
  let e := (prn, satN 2 (fToInt (fMul r (fOfNat 100))).toNat, code % 65536, dop)
  { s with gns := { s.gns with
    found := if fLe (gcAcqTh (s.app .gnss)) r then s.gns.found ++ [e] else s.gns.found
    jobPrn := prn + 1, jobEpochs := 0 } }

section
variable {p : Pip} (pip : jobPip s = some p)
include pip

theorem xPipProcessingUnit_of_stored : xPipProcessingUnit r code dop s =
    if 32 < jobNext s s.gns.jobPrn then jobFinish s p
    else if s.gns.jobEpochs < windowCount (s.app .gnss) * p.len then s
    else if 32 < jobNext s (jobNext s s.gns.jobPrn + 1) then jobFinish (prnSearched s r code dop) p
    else prnSearched s r code dop := by
  obtain ⟨j, l, jobs⟩ := List.exists_cons_of_ne_nil asked
  unfold xPipProcessingUnit
  rw [jobs]
  dsimp only
  rw [pip]
  rfl

theorem xPipProcessingUnit_of_exhausted (exhausted : 32 < jobNext s s.gns.jobPrn) :
    xPipProcessingUnit r code dop s = jobFinish s p :=
  (xPipProcessingUnit_of_stored asked pip).trans (if_pos exhausted)

variable (next : jobNext s s.gns.jobPrn ≤ 32)
include next

theorem xPipProcessingUnit_of_searching (searching : ¬ windowCount (s.app .gnss) * p.len ≤ s.gns.jobEpochs) :
    xPipProcessingUnit r code dop s = s :=
  (xPipProcessingUnit_of_stored asked pip).trans
    ((if_neg (Nat.not_lt.mpr next)).trans (if_pos (Nat.lt_of_not_le searching)))

section
variable (whole : windowCount (s.app .gnss) * p.len ≤ s.gns.jobEpochs)
include whole

theorem xPipProcessingUnit_of_whole : xPipProcessingUnit r code dop s =
    if 32 < jobNext s (jobNext s s.gns.jobPrn + 1) then jobFinish (prnSearched s r code dop) p
    else prnSearched s r code dop :=
  (xPipProcessingUnit_of_stored asked pip).trans
    ((if_neg (Nat.not_lt.mpr next)).trans (if_neg (Nat.not_lt.mpr whole)))

theorem xPipProcessingUnit_of_more (more : jobNext s (jobNext s s.gns.jobPrn + 1) ≤ 32) :
    xPipProcessingUnit r code dop s = prnSearched s r code dop :=
  (xPipProcessingUnit_of_whole asked pip next whole).trans (if_neg (Nat.not_lt.mpr more))

theorem xPipProcessingUnit_of_last (last : 32 < jobNext s (jobNext s s.gns.jobPrn + 1)) :
    xPipProcessingUnit r code dop s = jobFinish (prnSearched s r code dop) p :=
  (xPipProcessingUnit_of_whole asked pip next whole).trans (if_pos last)

end

end

end

end

end Sys2Proof.Machine

namespace Sys2Proof

open Machine

/-- Settles O47: a subframe by its channel's state, an epoch by whether it comes and by the mode, a pip's processing by
the front job, its pip and the PRN it has reached. -/
theorem wordsEpochsAndPips : Obligations.WordsEpochsAndPips := by
  unfold Obligations.WordsEpochsAndPips
  refine ⟨fun c prev prn ws follows start s left => congrArg Host.Outcome.next (xSubframeReceived_of_left left),
    fun c prev ws follows start s left => ?subframe, fun s prn f => takeData_of_failed,
    fun prn c prev ws full t start => wordRecord_length prn c prev ws full t start, fun m s => ?epoch, fun m s => ?fix,
    fun s => next_ite_of_guard dataStoreDue_iff, fun s => ?start, fun s => ?begins, fun b s => ?stored,
    fun c s => capRuns_iff, fun id s => rfl, fun r code dop s => ?search, fun p s => ⟨rfl, rfl, rfl⟩⟩
  case subframe =>
    have run {u : State} (h : xSubframeReceived c ws prev follows start s = u) :
        exec (.subframeReceived c ws prev follows start) s = .next u := congrArg Host.Outcome.next h
    exact ⟨fun bit frame => run (xSubframeReceived_of_unsynced left bit frame),
      fun bit other => run (xSubframeReceived_of_noPreamble left bit other),
      fun bit begins alone => run (xSubframeReceived_of_preamble left bit begins alone),
      fun bit syncs short => run (xSubframeReceived_of_syncBegun left bit syncs short),
      fun bit syncs whole => run (xSubframeReceived_of_sync left bit syncs whole),
      fun frame part => run (xSubframeReceived_of_part left frame part),
      fun frame whole bad => run (xSubframeReceived_of_secondBad left frame whole bad),
      fun frame whole good => run (xSubframeReceived_of_kept left frame whole good)⟩
  case epoch =>
    -- Both sides are written out, so that the states are compared as terms and not field by field.
    have full := @xMeasurementEpoch_of_mode0 s m
    unfold stepTold epochCounted at full
    dsimp only at full ⊢
    exact ⟨fun comes other => next_settle_congr (xMeasurementEpoch_of_otherMode comes other),
      fun comes mode => next_settle_congr (full comes mode),
      fun early => next_settle_congr (xMeasurementEpoch_of_early early)⟩
  case fix =>
    exact ⟨solveFix_fix, solveFix_used, fun fix => solveFix_of_fix (solveFix_fix.symm.trans fix),
      fun lost => solveFix_of_noFix (solveFix_fix.symm.trans lost)⟩
  case start =>
    have row := xGnssStartCommit_eq s
    exact ⟨fun late => next_settle_congr (row.trans (if_pos late)),
      fun other => next_settle_congr (row.trans (if_neg other))⟩
  case begins =>
    exact ⟨fun inactive => congrArg Host.Outcome.next (xPipCaptureBegin_of_inactive inactive),
      fun live => congrArg Host.Outcome.next (xPipCaptureBegin_of_live live)⟩
  case stored =>
    exact ⟨fun untaken => congrArg Host.Outcome.next (xPipStored_of_none untaken), fun c taken =>
      ⟨fun plain => congrArg Host.Outcome.next (xPipStored_of_plain taken plain),
        fun asked => congrArg Host.Outcome.next (xPipStored_of_asked taken asked)⟩⟩
  case search =>
    have run {u : State} (h : xPipProcessingUnit r code dop s = u) :
        exec (.pipProcessingUnit r code dop) s = .next u := congrArg Host.Outcome.next h
    refine ⟨fun idle => run (xPipProcessingUnit_of_idle idle), fun asked deleted => ?_, fun p asked pip => ?_⟩
    · have row := xPipProcessingUnit_of_deleted (r := r) (code := code) (dop := dop) asked deleted
      exact ⟨fun unbegun => run (row.trans (if_pos unbegun)), fun begun => run (row.trans (if_neg begun))⟩
    · exact ⟨fun exhausted => run (xPipProcessingUnit_of_exhausted asked pip exhausted),
        fun next searching => run (xPipProcessingUnit_of_searching asked pip next searching),
        fun next whole more => run (xPipProcessingUnit_of_more asked pip next whole more),
        fun next whole last => run (xPipProcessingUnit_of_last asked pip next whole last)⟩

end Sys2Proof
end

section
/-! SUPPORT. That every command completes, and what the end of a step leaves alone (18 R583; 14 R463, 15 R504). -/

namespace Sys2Proof.Machine

/-- No command ends in a fault or a refusal. -/
theorem exec_completes (i : Instr) (s : State) : ∃ t, exec i s = .next t := by
  obtain ⟨u, plain | settled, -⟩ := exec_frames i s
  · exact ⟨u, plain⟩
  · exact ⟨settle u, settled⟩

section
variable {s : State}

theorem carryAll_sent (s : State) : (carryAll s).sent = s.sent := sent_of_off (carryAll_off s _ (Nat.and_self _)) rfl

/-- What hangs on the studs, on GNSS and on a power state's entry, which comes before the IGN sequence. -/
def followedFirst (s : State) : State := sleepSessions (gnssGone (supplySource (supplySource s 0) 1))

theorem followedFirst_off (s : State) : (followedFirst s).off 8388704 = s.off 8388704 := by simp [followedFirst]

theorem ignProgress_of_none (none : s.pwr.ignSeq = 0) : ignProgress s = s := by
  unfold ignProgress
  simp [none]

theorem follow_sent_of_noSequence (none : s.pwr.ignSeq = 0) : (follow s).sent = s.sent := by
  have first : (followedFirst s).pwr = s.pwr := pwr_of_off (followedFirst_off s) rfl
  calc (follow s).sent = (unlockFollow (ignProgress (followedFirst s))).sent := rfl
    _ = (unlockFollow (followedFirst s)).sent := by rw [ignProgress_of_none (by rw [first, none])]
    _ = (followedFirst s).sent := sent_of_off (unlockFollow_off _ _ (Nat.and_self _)) rfl
    _ = s.sent := sent_of_off (followedFirst_off s) rfl

end

end Sys2Proof.Machine

namespace Sys2Proof

open Machine

/-- Settles O6: a step is the front command, which completes and leaves the queue alone, or one tick. -/
theorem everyStepCompletes : Obligations.EveryStepCompletes := by
  unfold Obligations.EveryStepCompletes
  refine ⟨fun s => ?_, fun i s s' ran => exec_pending i s ran, fun s c q s' front ran => ?_⟩
  · cases queue : s.pending with
    | nil => exact ⟨tick s, step_of_nil queue⟩
    | cons c q => exact step_of_cons queue ▸ exec_completes c (s.rest q)
  · rw [step_of_cons front] at ran
    exact exec_pending c (s.rest q) ran

/-- Settles O9: the end of a step is rounds of reactions around what follows; each leaves alone what its frame says. -/
theorem quietStateSettles : Obligations.QuietStateSettles := by
  unfold Obligations.QuietStateSettles
  refine ⟨fun s => settle_of_quiet, fun s => ?_, fun s => ⟨carryAll_sent s, follow_sent_of_noSequence⟩⟩
  have frame := settle_off s _ (Nat.and_self _)
  exact ⟨mono_of_off frame rfl, stored_of_off frame rfl, autoStart_of_off frame rfl, mem_of_off frame rfl,
    headwind_of_off frame rfl, pnl_of_off frame rfl, upd_of_off frame rfl, pending_of_off frame rfl⟩

end Sys2Proof
end

section
/-! SUPPORT. What the opcodes of the power states answer, and what DEEPEST selects (15 R501 to R503, R519, R520). -/

namespace Sys2Proof.Machine

/-- An answer shorter than what fits, fits (03 R74). -/
theorem accepted_of_le {op : OpSpec} {h : Hdr} {p : Bytes} {m n : Nat} {s : State} (ok : Accepted op h p n s) (le : m ≤ n) :
    Accepted op h p m s :=
  { ok with reply := (Nat.add_le_add_left le 20).trans ok.reply }

/-! ## Wakes and entries -/

section
variable {s : State} {c t : Nat}

theorem wake_of_awake (awake : s.pwr.entering = none) : wake c s = wakeNow c s := by
  unfold wake
  rw [awake]

/-- During an entry the first wake is held (15 R503). -/
theorem wake_of_entering (entering : s.pwr.entering = some t) : wake c s =
    if s.pwr.heldWake.isNone then s.setPwr { s.pwr with heldWake := some c } else s := by
  unfold wake
  rw [entering]

theorem wake_of_first (entering : s.pwr.entering = some t) (first : s.pwr.heldWake = none) :
    wake c s = s.setPwr { s.pwr with heldWake := some c } :=
  (wake_of_entering entering).trans (if_pos (by rw [first]; rfl))

theorem wake_of_held (entering : s.pwr.entering = some t) (held : s.pwr.heldWake ≠ none) : wake c s = s :=
  (wake_of_entering entering).trans (if_neg (by rwa [Option.isNone_iff_eq_none]))

theorem enter_of_other {ms : Nat} (other : s.pwr.state ≠ t) :
    enter t ms s = { s with pwr := { s.pwr with entering := some t, heldWake := none, wakeMs := ms } } := if_neg other

theorem enter_of_there {ms : Nat} (there : s.pwr.state = t) : enter t ms s = s := if_pos there

end

/-! ## DEEPEST -/

section
variable {s : State} {admits : Nat → Bool}

theorem lowestNotOff_sound {f : Nat} (found : lowestNotOff s admits = some f) : s.st f ≠ .off ∧ admits f = false := by
  simpa using List.find?_some found

theorem lowestNotOff_eq_none_iff : lowestNotOff s admits = none ↔ ∀ f ∈ allFids, s.st f = .off ∨ admits f = true := by
  unfold lowestNotOff
  rw [List.find?_eq_none]
  refine forall₂_congr fun f _ => ?_
  rw [Bool.and_eq_true, not_and_or, decide_eq_true_eq, not_not, Bool.not_eq_true', Bool.not_eq_false]

/-- The exit latency of a state is within the limit, and every function that is not OFF is one it admits (15 R502). -/
abbrev DeepFits (s : State) (t us : Nat) : Prop := us ≤ s.pwr.latency ∧ lowestNotOff s (stateAdmits t) = none

theorem deepFits_iff {t us : Nat} :
    (decide (us ≤ s.pwr.latency) && (lowestNotOff s (stateAdmits t)).isNone) = true ↔ DeepFits s t us := by
  rw [Bool.and_eq_true, decide_eq_true_eq, Option.isNone_iff_eq_none]

theorem deepest_eq (s : State) : deepest s =
    if DeepFits s 3 400000 then some 3 else if DeepFits s 2 20000 then some 2
    else if DeepFits s 1 50 then some 1 else none := by
  unfold deepest
  simp only [List.find?_cons, ← deepFits_iff]
  split_ifs <;> simp [*]

end

/-! ## PWR_REQUEST_STATE -/

section
variable {s : State} {p : Bytes}

theorem opPwrRequestState_of_copying (copying : updating s = true) (sleeps : byteAt p 0 ≠ 0) :
    opPwrRequestState.body s p = failAns s stWrongState 0xFFFD := if_pos ⟨sleeps, copying⟩

theorem opPwrRequestState_of_run (run : byteAt p 0 = 0) :
    opPwrRequestState.body s p = okWith (wake 5 s) [0x00#8, 0x00#8, 0x00#8, 0x00#8] :=
  (if_neg fun h => h.1 run).trans (if_pos run)

section
variable (sleeps : byteAt p 0 ≠ 0) (free : updating s = false)
include sleeps free

theorem opPwrRequestState_of_free : opPwrRequestState.body s p =
    if s.pwr.entering.isSome then failAns s stBusy 0
    else if byteAt p 0 = 4 then
      match deepest s with
      | some n => okWith (enter n (rd p 4 4) s) (b1 n ++ zeros 3)
      | none => okWith s (b1 0 ++ zeros 3)
    else
      match lowestNotOff s (stateAdmits (byteAt p 0)) with
      | some f => failAns s stWrongState f
      | none =>
        if byteAt p 0 = 5 ∧ s.pwr.ign then failAns s stWrongState 0xFFFE
        else okWith (enter (byteAt p 0) (rd p 4 4) s) (b1 (byteAt p 0) ++ zeros 3) :=
  (if_neg fun h => ne_true_of_eq_false free h.2).trans (if_neg sleeps)

theorem opPwrRequestState_of_entering {t : Nat} (entering : s.pwr.entering = some t) :
    opPwrRequestState.body s p = failAns s stBusy 0 :=
  (opPwrRequestState_of_free sleeps free).trans (if_pos (by rw [entering]; rfl))

variable (awake : s.pwr.entering = none)
include awake

theorem opPwrRequestState_of_awake : opPwrRequestState.body s p =
    if byteAt p 0 = 4 then
      match deepest s with
      | some n => okWith (enter n (rd p 4 4) s) (b1 n ++ zeros 3)
      | none => okWith s (b1 0 ++ zeros 3)
    else
      match lowestNotOff s (stateAdmits (byteAt p 0)) with
      | some f => failAns s stWrongState f
      | none =>
        if byteAt p 0 = 5 ∧ s.pwr.ign then failAns s stWrongState 0xFFFE
        else okWith (enter (byteAt p 0) (rd p 4 4) s) (b1 (byteAt p 0) ++ zeros 3) :=
  (opPwrRequestState_of_free sleeps free).trans (if_neg (by rw [awake]; decide))

theorem opPwrRequestState_of_deepest {n : Nat} (deep : byteAt p 0 = 4) (selected : deepest s = some n) :
    opPwrRequestState.body s p = okWith (enter n (rd p 4 4) s) (b1 n ++ zeros 3) := by
  rw [opPwrRequestState_of_awake sleeps free awake, if_pos deep, selected]

theorem opPwrRequestState_of_shallow (deep : byteAt p 0 = 4) (none : deepest s = none) :
    opPwrRequestState.body s p = okWith s [0x00#8, 0x00#8, 0x00#8, 0x00#8] := by
  rw [opPwrRequestState_of_awake sleeps free awake, if_pos deep, none]
  rfl

section
variable (named : byteAt p 0 ≠ 4)
include named

theorem opPwrRequestState_of_busy {f : Nat} (busy : lowestNotOff s (stateAdmits (byteAt p 0)) = some f) :
    opPwrRequestState.body s p = failAns s stWrongState f := by
  rw [opPwrRequestState_of_awake sleeps free awake, if_neg named, busy]

variable (admitted : lowestNotOff s (stateAdmits (byteAt p 0)) = none)
include admitted

theorem opPwrRequestState_of_admitted : opPwrRequestState.body s p =
    if byteAt p 0 = 5 ∧ s.pwr.ign = true then failAns s stWrongState 0xFFFE
    else okWith (enter (byteAt p 0) (rd p 4 4) s) (b1 (byteAt p 0) ++ zeros 3) := by
  rw [opPwrRequestState_of_awake sleeps free awake, if_neg named, admitted]

theorem opPwrRequestState_of_ign (off : byteAt p 0 = 5) (ign : s.pwr.ign = true) :
    opPwrRequestState.body s p = failAns s stWrongState 0xFFFE :=
  (opPwrRequestState_of_admitted sleeps free awake named admitted).trans (if_pos ⟨off, ign⟩)

theorem opPwrRequestState_of_enters (low : byteAt p 0 = 5 → s.pwr.ign = false) :
    opPwrRequestState.body s p = okWith (enter (byteAt p 0) (rd p 4 4) s) (b1 (byteAt p 0) ++ zeros 3) :=
  (opPwrRequestState_of_admitted sleeps free awake named admitted).trans
    (if_neg fun h => ne_true_of_eq_false (low h.1) h.2)

end

end

end

/-! ## PWR_GET_BUDGET and PWR_STATUS -/

/-- A holder's entry of Table 15.7. -/
def holderEntry (s : State) (n : Nat) : Bytes :=
  b1 n ++ b1 (holderState s n) ++ zeros 2 ++ leF (requested s n) ++ leF (s.holder n).grant ++
    leF (minimum s n) ++ leF (useOf s n) ++ leF (debtOf s n)

/-- A stud's entry of Table 15.7. -/
def studEntry (s : State) (v : Nat) : Bytes :=
  b1 v ++ b1 (bit (s.stud v).closed 0) ++ zeros 2 ++ leF (s.stud v).allow ++ leF (allowMin s v) ++
    leF (s.stud v).meanA ++ le 4 (((s.stud v).queue.map fun e => 2 ^ e.2).foldl (· + ·) 0)

theorem opPwrGetBudget_body (s : State) (p : Bytes) : opPwrGetBudget.body s p = okWith s
    (leT s.now ++ leF (fMin s.pwr.cap s.pwr.pHeat) ++ leF s.pwr.pHeat ++ leF s.pwr.cap ++ leF (elecMean s) ++
      holderCodes.flatMap (holderEntry s) ++ [0, 1].flatMap (studEntry s)) :=
  congrArg (okWith s) (List.append_assoc _ (studEntry s 0) (studEntry s 1))

@[simp] theorem holderEntry_length (s : State) (n : Nat) : (holderEntry s n).length = 24 := by simp [holderEntry]
@[simp] theorem studEntry_length (s : State) (v : Nat) : (studEntry s v).length = 20 := by simp [studEntry]

end Sys2Proof.Machine

namespace Sys2Proof

open Machine

/-- Settles O20: a request by an update, by RUN, by an entry under way, by DEEPEST, by what the state excludes and by IGN,
in this order. -/
theorem powerStates : Obligations.PowerStates := by
  unfold Obligations.PowerStates
  refine ⟨fun h p s ok => exec_hostOnly_of_accepted rfl rfl ok rfl, fun h p s ok => ?request, fun s => ?deepest⟩
  case request =>
    have answered {a : Ans} (size : a.data.length ≤ 4) (body : opPwrRequestState.body (atBody s h) p = a) :
        exec (.pwrRequestState h p) s = .next (settle (replied h 0x0201 p a)) :=
      exec_host_of_accepted rfl rfl (accepted_of_le ok size) body rfl
    refine ⟨fun copying sleeps => ?_, fun run awake => ?_, fun run ⟨t, entering⟩ first => ?_,
      fun run ⟨t, entering⟩ held => ?_, fun sleeps free ⟨t, entering⟩ => ?_, fun sleeps free awake => ?_⟩
    · exact answered (Nat.zero_le _) (opPwrRequestState_of_copying (s := atBody s h) copying sleeps)
    · have woken := wake_of_awake (s := atBody s h) (c := 5) awake
      exact answered le_rfl (woken ▸ opPwrRequestState_of_run run)
    · have woken := wake_of_first (s := atBody s h) (c := 5) entering first
      exact answered le_rfl ((opPwrRequestState_of_run run).trans (congrArg (okWith · _) woken))
    · have woken := wake_of_held (s := atBody s h) (c := 5) entering held
      exact answered le_rfl ((opPwrRequestState_of_run run).trans (by rw [woken]))
    · exact answered (Nat.zero_le _) (opPwrRequestState_of_entering (s := atBody s h) sleeps free entering)
    · have four (n : Nat) : (b1 n ++ zeros 3).length ≤ 4 := by simp
      refine ⟨fun n deep selected => ?_, fun deep none => ?_, fun f sleeps named busy => ?_,
        fun off admitted ign => ?_, fun sleeps named admitted low => ?_⟩
      · exact answered (four n) (opPwrRequestState_of_deepest (s := atBody s h) sleeps free awake deep selected)
      · exact answered le_rfl (opPwrRequestState_of_shallow (s := atBody s h) sleeps free awake deep none)
      · exact answered (Nat.zero_le _) (opPwrRequestState_of_busy (s := atBody s h) sleeps free awake named busy)
      · exact answered (Nat.zero_le _) (opPwrRequestState_of_ign (s := atBody s h) sleeps free awake (by omega)
          (off ▸ admitted) off ign)
      · exact answered (four _)
          (opPwrRequestState_of_enters (s := atBody s h) sleeps free awake named admitted low)
  case deepest =>
    have selects := deepest_eq s
    refine ⟨fun calm => ?_, fun calm lull => ?_, fun calm lull breeze => ?_, fun calm lull breeze => ?_,
      fun t f => lowestNotOff_sound, fun t => lowestNotOff_eq_none_iff, fun t ms => enter_of_other,
      fun t ms => enter_of_there⟩
    · exact selects.trans (if_pos calm)
    · exact selects.trans ((if_neg calm).trans (if_pos lull))
    · exact selects.trans ((if_neg calm).trans ((if_neg lull).trans (if_pos breeze)))
    · exact selects.trans ((if_neg calm).trans ((if_neg lull).trans (if_neg breeze)))

/-- Settles O22: both answer what they read, in the layouts of Tables 15.7 and 15.8. -/
theorem powerReads : Obligations.PowerReads := by
  unfold Obligations.PowerReads
  refine ⟨fun h p s ok => exec_read_of_accepted rfl rfl ok (opPwrGetBudget_body (atBody s h) p) ?_,
    fun h p s ok => exec_read_of_accepted rfl rfl ok rfl ?_⟩
  · simp
  · simp

end Sys2Proof
end

section
/-! SUPPORT. What the update opcodes answer, what a header is checked for, and what the rows of copy and check make of the
journal (17 R551, R552, R555 to R558, R560 to R563). -/

namespace Sys2Proof.Machine

section
variable {s : State} {p : Bytes}

/-! ## Functions that are not OFF -/

theorem opUpdateBegin_of_blocked {f : Nat} (blocked : updateBlocked s = some f) :
    opUpdateBegin.body s p = failAns s stWrongState f := by
  unfold opUpdateBegin
  dsimp only
  rw [blocked]

theorem opUpdateBlock_of_blocked {f : Nat} (blocked : updateBlocked s = some f) :
    opUpdateBlock.body s p = failAns s stWrongState f := by
  unfold opUpdateBlock
  dsimp only
  rw [blocked]

theorem opUpdateCommit_of_blocked {f : Nat} (blocked : updateBlocked s = some f) :
    opUpdateCommit.body s p = failAns s stWrongState f := by
  unfold opUpdateCommit
  dsimp only
  rw [blocked]

/-- The journal and what has been received are forgotten (17 R555, R557). -/
def Upd.abandoned (u : Upd) : Upd := { u with journal := 0, header := [], next := 0, sectors := 0, staging := [] }

section
variable (free : updateBlocked s = none)
include free

/-! ## UPDATE_BEGIN -/

/-- An image begins to be received (17 R555). -/
def Upd.received (u : Upd) (hd : Bytes) : Upd :=
  { u with journal := 1, header := hd, next := 0, sectors := 0, retried := false, staging := [], busy := none }

theorem opUpdateBegin_of_copying (copying : updating s = true) :
    opUpdateBegin.body s p = failAns s stWrongState 0 := by
  unfold opUpdateBegin
  dsimp only
  rw [free]
  exact if_pos copying

section
variable (still : updating s = false)
include still

theorem opUpdateBegin_of_still : opUpdateBegin.body s p =
    if (byteAt p 0).testBit 0 = true then okWith (s.setUpd s.upd.abandoned) (zeros 8)
    else if s.upd.journal = 1 ∧ s.upd.header = slice p 4 256 then okWith s (le 4 s.upd.next ++ zeros 4)
    else match headerCheck s (slice p 4 256) with
      | some (st, d) => failAns s st d
      | none => okWith (s.setUpd (s.upd.received (slice p 4 256))) (zeros 8) := by
  unfold opUpdateBegin
  dsimp only
  rw [free]
  exact if_neg (ne_true_of_eq_false still)

theorem opUpdateBegin_of_abandon (abandons : (byteAt p 0).testBit 0 = true) :
    opUpdateBegin.body s p = okWith (s.setUpd s.upd.abandoned) (zeros 8) :=
  (opUpdateBegin_of_still free still).trans (if_pos abandons)

variable (keeps : ¬ (byteAt p 0).testBit 0 = true)
include keeps

theorem opUpdateBegin_of_resume (resumes : s.upd.journal = 1 ∧ s.upd.header = slice p 4 256) :
    opUpdateBegin.body s p = okWith s (le 4 s.upd.next ++ zeros 4) :=
  (opUpdateBegin_of_still free still).trans ((if_neg keeps).trans (if_pos resumes))

variable (new : ¬ (s.upd.journal = 1 ∧ s.upd.header = slice p 4 256))
include new

theorem opUpdateBegin_of_new : opUpdateBegin.body s p =
    match headerCheck s (slice p 4 256) with
    | some (st, d) => failAns s st d
    | none => okWith (s.setUpd (s.upd.received (slice p 4 256))) (zeros 8) :=
  (opUpdateBegin_of_still free still).trans ((if_neg keeps).trans (if_neg new))

theorem opUpdateBegin_of_refused {st d : Nat} (refused : headerCheck s (slice p 4 256) = some (st, d)) :
    opUpdateBegin.body s p = failAns s st d := by
  rw [opUpdateBegin_of_new free still keeps new, refused]

theorem opUpdateBegin_of_passed (passed : headerCheck s (slice p 4 256) = none) :
    opUpdateBegin.body s p = okWith (s.setUpd (s.upd.received (slice p 4 256))) (zeros 8) := by
  rw [opUpdateBegin_of_new free still keeps new, passed]

end

/-! ## UPDATE_BLOCK -/

/-- A block is taken: the received bytes grow by it (17 R556). -/
def Upd.grown (u : Upd) (p : Bytes) : Upd :=
  { u with staging := u.staging ++ slice p 8 (rd p 4 2), next := u.next + rd p 4 2 }

/-- A block is taken while an image is received, at the next offset, and within the body. -/
theorem opUpdateBlock_of_free : opUpdateBlock.body s p =
    if s.upd.journal ≠ 1 then failAns s stWrongState 0
    else if rd p 0 4 ≠ s.upd.next then { s := s, st := 0x81, data := le 4 s.upd.next ++ zeros 4 }
    else if ihBody s.upd.header < s.upd.next + rd p 4 2 then badParam s 4
    else okWith (s.setUpd (s.upd.grown p)) (le 4 (s.upd.next + rd p 4 2) ++ zeros 4) := by
  unfold opUpdateBlock
  dsimp only
  rw [free]
  rfl

theorem opUpdateBlock_of_idle (idle : s.upd.journal ≠ 1) : opUpdateBlock.body s p = failAns s stWrongState 0 :=
  (opUpdateBlock_of_free free).trans (if_pos idle)

section
variable (receives : s.upd.journal = 1)
include receives

theorem opUpdateBlock_of_elsewhere (elsewhere : ¬ rd p 0 4 = s.upd.next) :
    opUpdateBlock.body s p = { s := s, st := 0x81, data := le 4 s.upd.next ++ zeros 4 } :=
  (opUpdateBlock_of_free free).trans ((if_neg (not_not.mpr receives)).trans (if_pos elsewhere))

variable (next : rd p 0 4 = s.upd.next)
include next

theorem opUpdateBlock_of_next : opUpdateBlock.body s p =
    if ihBody s.upd.header < s.upd.next + rd p 4 2 then badParam s 4
    else okWith (s.setUpd (s.upd.grown p)) (le 4 (s.upd.next + rd p 4 2) ++ zeros 4) :=
  (opUpdateBlock_of_free free).trans ((if_neg (not_not.mpr receives)).trans (if_neg (not_not.mpr next)))

theorem opUpdateBlock_of_beyond (beyond : ¬ s.upd.next + rd p 4 2 ≤ ihBody s.upd.header) :
    opUpdateBlock.body s p = badParam s 4 :=
  (opUpdateBlock_of_next free receives next).trans (if_pos (Nat.lt_of_not_le beyond))

theorem opUpdateBlock_of_within (within : s.upd.next + rd p 4 2 ≤ ihBody s.upd.header) :
    opUpdateBlock.body s p = okWith (s.setUpd (s.upd.grown p)) (le 4 (s.upd.next + rd p 4 2) ++ zeros 4) :=
  (opUpdateBlock_of_next free receives next).trans (if_neg (Nat.not_lt.mpr within))

end

/-! ## UPDATE_COMMIT -/

/-- An image is received, and no perturbation is active (17 R557, 18 R579). -/
abbrev CommitReady (s : State) : Prop := s.upd.journal = 1 ∧ s.tst.slots = []

omit free in
theorem commitUnready_iff : s.upd.journal ≠ 1 ∨ s.tst.slots.isEmpty = false ↔ ¬ CommitReady s := by
  rw [not_and_or, ne_eq, ← List.isEmpty_iff, Bool.not_eq_true]

theorem opUpdateCommit_of_free : opUpdateCommit.body s p =
    if ¬ CommitReady s then failAns s stWrongState 0
    else if s.upd.next < ihBody s.upd.header then { s := s, st := 0x82, data := le 4 s.upd.next }
    else if Config.sha384 s.upd.staging ≠ ihDigest s.upd.header then failAns (s.setUpd s.upd.abandoned) stIntegrity 0
    else okAns (s.setUpd { s.upd with journal := 2, sectors := 0, retried := false, busy := none }) := by
  unfold opUpdateCommit
  dsimp only
  rw [free]
  exact if_congr commitUnready_iff rfl rfl

theorem opUpdateCommit_of_unready (unready : ¬ CommitReady s) : opUpdateCommit.body s p = failAns s stWrongState 0 :=
  (opUpdateCommit_of_free free).trans (if_pos unready)

section
variable (ready : CommitReady s)
include ready

theorem opUpdateCommit_of_partial (part : ¬ ihBody s.upd.header ≤ s.upd.next) :
    opUpdateCommit.body s p = { s := s, st := 0x82, data := le 4 s.upd.next } :=
  (opUpdateCommit_of_free free).trans ((if_neg (not_not.mpr ready)).trans (if_pos (Nat.lt_of_not_le part)))

variable (whole : ihBody s.upd.header ≤ s.upd.next)
include whole

theorem opUpdateCommit_of_whole : opUpdateCommit.body s p =
    if Config.sha384 s.upd.staging ≠ ihDigest s.upd.header then failAns (s.setUpd s.upd.abandoned) stIntegrity 0
    else okAns (s.setUpd { s.upd with journal := 2, sectors := 0, retried := false, busy := none }) :=
  (opUpdateCommit_of_free free).trans ((if_neg (not_not.mpr ready)).trans (if_neg (Nat.not_lt.mpr whole)))

theorem opUpdateCommit_of_mismatch (other : ¬ Config.sha384 s.upd.staging = ihDigest s.upd.header) :
    opUpdateCommit.body s p = failAns (s.setUpd s.upd.abandoned) stIntegrity 0 :=
  (opUpdateCommit_of_whole free ready whole).trans (if_pos other)

theorem opUpdateCommit_of_match (same : Config.sha384 s.upd.staging = ihDigest s.upd.header) :
    opUpdateCommit.body s p =
      okAns (s.setUpd { s.upd with journal := 2, sectors := 0, retried := false, busy := none }) :=
  (opUpdateCommit_of_whole free ready whole).trans (if_neg (not_not.mpr same))

end

end

end

/-! ## Headers (R551) -/

section
variable {hd : Bytes} {s : State}

/-- Within the bytes, a field reads zero exactly where it holds zeros (R8). -/
theorem rd_eq_zero_iff_slice {p : Bytes} : ∀ {n o : Nat}, o + n ≤ p.length → (rd p o n = 0 ↔ slice p o n = zeros n)
  | 0, o, _ => by simp [rd, slice, zeros]
  | n + 1, o, within => by
    have here : o < p.length := by omega
    have rest := rd_eq_zero_iff_slice (p := p) (n := n) (o := o + 1) (by omega)
    have cut : slice p o (n + 1) = p[o] :: slice p (o + 1) n := by
      unfold slice
      rw [List.drop_eq_getElem_cons here, List.take_succ_cons]
    have first : byteAt p o = 0 ↔ p[o] = 0#8 := by
      simp [byteAt, List.getElem?_eq_getElem here, BitVec.toNat_eq]
    rw [cut, show zeros (n + 1) = 0#8 :: zeros n from rfl, List.cons.injEq, ← first, ← rest]
    show byteAt p o + 256 * rd p (o + 1) n = 0 ↔ _
    omega

theorem headerFields_eq_none_iff : headerFields hd = none ↔
    rd hd 0 2 = 0x4B49 ∧ rd hd 2 2 = 1 ∧ ihFlags hd ≤ 1 ∧ slice hd 30 2 = zeros 2 ∧ slice hd 192 64 = zeros 64 ∧
      1 ≤ ihBody hd ∧ ihBody hd ≤ 268435200 ∧ ((ihFlags hd).testBit 0 = true ↔ rd hd 8 12 ≠ 0) := by
  have reserved (tail : slice hd 192 64 = zeros 64) : rd hd 30 2 = 0 ↔ slice hd 30 2 = zeros 2 := by
    have long := congrArg List.length tail
    simp only [slice, List.length_take, List.length_drop, zeros_length] at long
    exact rd_eq_zero_iff_slice (by omega)
  have bound : (tbit (ihFlags hd) 0 = decide (rd hd 8 12 ≠ 0)) ↔ ((ihFlags hd).testBit 0 = true ↔ rd hd 8 12 ≠ 0) := by
    rw [Bool.eq_iff_iff, decide_eq_true_iff]
    rfl
  simp only [headerFields, firstBad_eq_none_iff, ckZero, ckRange, ihBody, List.forall_mem_cons, decide_eq_true_iff, bound]
  simp only [List.not_mem_nil, false_implies, implies_true, and_true]
  constructor
  · rintro ⟨magic, ver, fl, zero, tail, ⟨lo, hi⟩, unit⟩
    exact ⟨magic, ver, fl, (reserved tail).mp zero, tail, lo, hi, unit⟩
  · rintro ⟨magic, ver, fl, zero, tail, lo, hi, unit⟩
    exact ⟨magic, ver, fl, (reserved tail).mpr zero, tail, ⟨lo, hi⟩, unit⟩

theorem headerCheck_of_field {o : Nat} (bad : headerFields hd = some o) :
    headerCheck s hd = some (stBadParam, 4 + o) := by
  unfold headerCheck
  rw [bad]

section
variable (fields : headerFields hd = none)
include fields

theorem headerCheck_of_fields : headerCheck s hd =
    if rd hd 4 4 ≠ 0x0960A001 then some (stBinding, 0)
    else if (ihFlags hd).testBit 0 = true ∧ rd hd 8 12 ≠ Config.unitId.toNat then some (stBinding, 0)
    else if !signatureOk hd then some (stIntegrity, 0)
    else if ihSecurity hd < s.upd.floor then some (0x80, 0)
    else none := by
  unfold headerCheck
  rw [fields]
  rfl

/-- The image is for this type of module, and for this unit where it is bound to one. -/
abbrev HeaderBinds (hd : Bytes) : Prop :=
  rd hd 4 4 = 0x0960A001 ∧ ((ihFlags hd).testBit 0 = true → rd hd 8 12 = Config.unitId.toNat)

theorem headerCheck_of_unbound (other : ¬ HeaderBinds hd) : headerCheck s hd = some (stBinding, 0) := by
  rw [headerCheck_of_fields fields]
  by_cases type : rd hd 4 4 = 0x0960A001
  · rw [if_neg (not_not.mpr type), if_pos (by simpa [type] using other)]
  · rw [if_pos type]

variable (binds : HeaderBinds hd)
include binds

theorem headerCheck_of_bound : headerCheck s hd =
    if !signatureOk hd then some (stIntegrity, 0)
    else if ihSecurity hd < s.upd.floor then some (0x80, 0)
    else none := by
  obtain ⟨type, unit⟩ := binds
  rw [headerCheck_of_fields fields, if_neg (not_not.mpr type), if_neg fun h => h.2 (unit h.1)]

theorem headerCheck_of_unsigned (bad : signatureOk hd = false) : headerCheck s hd = some (stIntegrity, 0) :=
  (headerCheck_of_bound fields binds).trans (if_pos (by rw [bad]; rfl))

variable (good : signatureOk hd = true)
include good

theorem headerCheck_of_signed : headerCheck s hd = if ihSecurity hd < s.upd.floor then some (0x80, 0) else none :=
  (headerCheck_of_bound fields binds).trans (if_neg (by rw [good]; decide))

end

end

/-! ## Copy and check -/

section
variable {s : State}

abbrev CopyStarts (s : State) : Prop := s.upd.journal = 2 ∧ s.upd.busy = none

theorem copyStarts_iff : (s.upd.journal = 2 ∧ s.upd.busy.isNone = true) ↔ CopyStarts s := by
  rw [Option.isNone_iff_eq_none]

theorem xUpdateCopyBegin_of_start (start : CopyStarts s) :
    xUpdateCopyBegin s = { s with upd := { s.upd with busy := some s.mono } } := if_pos (copyStarts_iff.mpr start)

theorem xUpdateCopyBegin_of_other (other : ¬ CopyStarts s) : xUpdateCopyBegin s = s := if_neg (mt copyStarts_iff.mp other)

/-- What the flash holds once a sector of the new image is programmed (17 R560). -/
def sectorProgrammed (s : State) : Bytes :=
  (norImage s).take (s.upd.sectors * 262144) ++
    slice (s.upd.header ++ s.upd.staging) (s.upd.sectors * 262144) 262144 ++
    (norImage s).drop ((s.upd.sectors + 1) * 262144)

/-- The journal with a sector programmed. -/
def sectorWritten (s : State) : Upd := { s.upd with nor := some (sectorProgrammed s), busy := some s.mono }

abbrev SectorRuns (s : State) : Prop := s.upd.journal = 2 ∧ s.upd.busy ≠ none

theorem busy_iff {n : Nat} : (s.upd.journal = n ∧ s.upd.busy.isSome = true) ↔ s.upd.journal = n ∧ s.upd.busy ≠ none := by
  rw [Option.isSome_iff_ne_none]

theorem xUpdateSectorDone_of_other {good : Bool} (other : ¬ SectorRuns s) : xUpdateSectorDone good s = s :=
  if_neg (mt busy_iff.mp other)

section
variable (runs : SectorRuns s)
include runs

theorem xUpdateSectorDone_of_bad : xUpdateSectorDone false s = s.setUpd (sectorWritten s) :=
  if_pos (busy_iff.mpr runs)

theorem xUpdateSectorDone_of_good : xUpdateSectorDone true s =
    if s.upd.sectors + 1 < sectorsTotal s.upd.header then s.setUpd { sectorWritten s with sectors := s.upd.sectors + 1 }
    else s.setUpd { sectorWritten s with
      sectors := s.upd.sectors + 1, journal := 3
      nor := some ((s.upd.header ++ s.upd.staging).take ((s.upd.sectors + 1) * 262144)) } :=
  if_pos (busy_iff.mpr runs)

end

abbrev CheckRuns (s : State) : Prop := s.upd.journal = 3 ∧ s.upd.busy ≠ none

/-- The journal after a match: empty, with the floor raised and the result set (17 R561). -/
def checkPassed (s : State) : Upd :=
  { s.upd with
    journal := 0, header := [], next := 0, sectors := 0, retried := false, staging := [], busy := none
    floor := max s.upd.floor (ihSecurity s.upd.header), result := if s.boot.resumed then 2 else 1 }

/-- A match with its event (17 R561). -/
def checkTold (s : State) : State :=
  emit { s with upd := checkPassed s } 0x0F01 0xFFFF (le 4 (ihVersion s.upd.header) ++ le 4 s.upd.sectors)

/-- A second mismatch: the update has failed (17 R562). -/
def checkFailed (s : State) : State :=
  { s with
    upd := { s.upd with journal := 4, busy := none, result := 3 }, boot := { s.boot with resumed := false } }

theorem xUpdateCheckComplete_of_other {good : Bool} (other : ¬ CheckRuns s) : xUpdateCheckComplete good s = s :=
  if_neg (mt busy_iff.mp other)

section
variable (runs : CheckRuns s)
include runs

theorem xUpdateCheckComplete_of_match : xUpdateCheckComplete true s =
    if s.boot.resumed then { checkTold s with boot := { (checkTold s).boot with resumed := false } }
    else { checkTold s with boot := { (checkTold s).boot with coreDue := some 4 } } :=
  if_pos (busy_iff.mpr runs)

theorem xUpdateCheckComplete_of_mismatch : xUpdateCheckComplete false s =
    if s.upd.retried then raise (checkFailed s) 14 0
    else s.setUpd { s.upd with journal := 2, sectors := 0, retried := true, busy := some s.mono } :=
  if_pos (busy_iff.mpr runs)

end

end

end Sys2Proof.Machine

namespace Sys2Proof

open Machine

/-- Settles O59: an opcode by the functions that are not OFF, then by its checks in their order; a row by the journal and
by what it brings. -/
theorem update : Obligations.Update := by
  unfold Obligations.Update
  refine ⟨fun h p f s blocked => ?blocked, fun s f blocked => lowestNotOff_sound blocked,
    fun h p n s ok free => ?begins, fun hd s => ?header, fun h p n s ok free => ?block, fun h p n s ok free => ?commit,
    fun h p s ok => ?status, fun s => ?copy, fun good s => ?sector, fun good s => ?check⟩
  case blocked =>
    exact ⟨fun ok => exec_hostOnly_of_accepted rfl rfl ok (opUpdateBegin_of_blocked (s := atBody s h) blocked),
      fun ok => exec_hostOnly_of_accepted rfl rfl ok (opUpdateBlock_of_blocked (s := atBody s h) blocked),
      fun ok => exec_hostOnly_of_accepted rfl rfl ok (opUpdateCommit_of_blocked (s := atBody s h) blocked)⟩
  case begins =>
    have answered {a : Ans} {m : Nat} (size : n = m) (fits : a.data.length = m)
        (body : opUpdateBegin.body (atBody s h) p = a) :
        exec (.updateBegin h p) s = .next (replied h 0x0F00 p a) :=
      exec_answer_of_accepted rfl rfl ok (fits.trans size.symm) body
    refine ⟨fun copying size => ?_, fun still abandons size => ?_, fun still keeps resumes size => ?_,
      fun st d still keeps new refused size => ?_, fun still keeps new passed size => ?_⟩
    · exact answered size rfl (opUpdateBegin_of_copying (s := atBody s h) free copying)
    · exact answered size rfl (opUpdateBegin_of_abandon (s := atBody s h) free still abandons)
    · exact answered size (by simp [okWith]) (opUpdateBegin_of_resume (s := atBody s h) free still keeps resumes)
    · exact answered size rfl (opUpdateBegin_of_refused (s := atBody s h) free still keeps new refused)
    · exact answered size rfl (opUpdateBegin_of_passed (s := atBody s h) free still keeps new passed)
  case header =>
    refine ⟨fun o => headerCheck_of_field, fun fields other => headerCheck_of_unbound fields other,
      fun fields type unit bad => headerCheck_of_unsigned fields ⟨type, unit⟩ bad,
      fun fields type unit good low => ?_, fun fields type unit good high => ?_, headerFields_eq_none_iff⟩
    · exact (headerCheck_of_signed fields ⟨type, unit⟩ good).trans (if_pos low)
    · exact (headerCheck_of_signed fields ⟨type, unit⟩ good).trans (if_neg (Nat.not_lt.mpr high))
  case block =>
    have answered {a : Ans} {m : Nat} (size : n = m) (fits : a.data.length = m)
        (body : opUpdateBlock.body (atBody s h) p = a) :
        exec (.updateBlock h p) s = .next (replied h 0x0F01 p a) :=
      exec_answer_of_accepted rfl rfl ok (fits.trans size.symm) body
    refine ⟨fun idle size => ?_, fun receives elsewhere size => ?_, fun receives next beyond size => ?_,
      fun receives next within size => ?_⟩
    · exact answered size rfl (opUpdateBlock_of_idle (s := atBody s h) free idle)
    · exact answered size (by simp) (opUpdateBlock_of_elsewhere (s := atBody s h) free receives elsewhere)
    · exact answered size rfl (opUpdateBlock_of_beyond (s := atBody s h) free receives next beyond)
    · exact answered size (by simp [okWith]) (opUpdateBlock_of_within (s := atBody s h) free receives next within)
  case commit =>
    have answered {a : Ans} {m : Nat} (size : n = m) (fits : a.data.length = m)
        (body : opUpdateCommit.body (atBody s h) p = a) :
        exec (.updateCommit h p) s = .next (replied h 0x0F02 p a) :=
      exec_answer_of_accepted rfl rfl ok (fits.trans size.symm) body
    refine ⟨fun unready size => ?_, fun ready part size => ?_, fun ready whole other size => ?_,
      fun ready whole same size => ?_⟩
    · exact answered size rfl (opUpdateCommit_of_unready (s := atBody s h) free unready)
    · exact answered size (by simp) (opUpdateCommit_of_partial (s := atBody s h) free ready part)
    · exact answered size rfl (opUpdateCommit_of_mismatch (s := atBody s h) free ready whole other)
    · exact answered size rfl (opUpdateCommit_of_match (s := atBody s h) free ready whole same)
  case status => exact exec_read_of_accepted rfl rfl ok rfl (by simp)
  case copy =>
    exact ⟨fun start => congrArg Host.Outcome.next (xUpdateCopyBegin_of_start start),
      fun other => congrArg Host.Outcome.next (xUpdateCopyBegin_of_other other)⟩
  case sector =>
    have run {u : State} (row : xUpdateSectorDone good s = u) : exec (.updateSectorDone good) s = .next u :=
      congrArg Host.Outcome.next row
    refine ⟨fun other => run (xUpdateSectorDone_of_other other), fun runs bad => ?_, fun runs readBack more => ?_,
      fun runs readBack last => ?_⟩
    · exact run (bad ▸ xUpdateSectorDone_of_bad runs)
    · exact run (readBack ▸ (xUpdateSectorDone_of_good runs).trans (if_pos (Nat.lt_of_not_le more)))
    · exact run (readBack ▸ (xUpdateSectorDone_of_good runs).trans (if_neg (Nat.not_lt.mpr last)))
  case check =>
    have ends {u : State} (row : xUpdateCheckComplete good s = u) :
        exec (.updateCheckComplete good) s = .next (settle u) := next_settle_congr row
    refine ⟨fun other => ends (xUpdateCheckComplete_of_other other), fun runs same resumed => ?_,
      fun runs same fresh => ?_, fun runs other first => ?_, fun runs other second => ?_⟩
    · subst same
      exact ends ((xUpdateCheckComplete_of_match runs).trans (if_pos resumed))
    · subst same
      exact ends ((xUpdateCheckComplete_of_match runs).trans (if_neg (ne_true_of_eq_false fresh)))
    · subst other
      exact ends ((xUpdateCheckComplete_of_mismatch runs).trans (if_neg (ne_true_of_eq_false first)))
    · subst other
      exact ends ((xUpdateCheckComplete_of_mismatch runs).trans (if_pos second))

end Sys2Proof
end

section
/-! SUPPORT. What the fault collector's functions do to its books: a rule for each (14 R461 to R473, R475). Records and
events reach only the log, its place and the record number; nothing of a source, the capture or a reaction. -/

namespace Sys2Proof.Machine

section
variable {s : State}

/-! ## Records -/

theorem emit_fcr (s : State) (code func : Nat) (data : Bytes) : (emit s code func data).fcr = s.fcr :=
  fcr_of_off (emit_off s code func data 32 rfl) rfl

/-- An entry of the fault log changes the log and its place alone (R475). -/
theorem flogAdd_fcr (s : State) (time : T96) (num : Option Nat) (body : Bytes) :
    ∃ pos log, (flogAdd s time num body).2.fcr = { s.fcr with flogPos := pos, flog := log } := by
  have closings (l : List Nat) (t : State) : (l.foldl (fun t n => closeSession t n 2) t).fcr = t.fcr :=
    fcr_of_off (foldl_off 32 _ l t fun _ _ => closeSession_off _ _ _ _ rfl) rfl
  unfold flogAdd
  dsimp only
  rw [closings]
  exact ⟨_, _, rfl⟩

theorem emitFault_fcr (s : State) (code func : Nat) (data : Bytes) :
    ∃ pos log, (emitFault s code func data).fcr = { s.fcr with flogPos := pos, flog := log } := by
  obtain ⟨pos, log, written⟩ := flogAdd_fcr s s.now none (evBody code func 2 0 data)
  exact ⟨pos, log, (fcr_of_off (emitTo_off _ _ _ _ _ _ _ 32 rfl) rfl).trans written⟩

/-- A fault record takes the next record number (R475). -/
theorem faultRecord_fcr (s : State) (kind src sev reaction detail tick : Nat) (time : T96) (occ : Nat)
    (entries : List (Nat × Nat)) : ∃ pos log, (faultRecord s kind src sev reaction detail tick time occ entries).fcr =
      { s.fcr with recNum := (s.fcr.recNum + 1) % 2 ^ 32, flogPos := pos, flog := log } := by
  unfold faultRecord
  dsimp only
  rw [fcr_of_off (pushAll_off _ _ _ 32 rfl) rfl, fcr_of_off (slogAdd_off _ _ _ 32 rfl) rfl]
  exact flogAdd_fcr _ _ _ _

/-- A record leaves alone what the log, its place and the record number have no part in. -/
theorem faultRecord_keeps {α : Type} (g : Fcr → α)
    (apart : ∀ (f : Fcr) num pos log, g { f with recNum := num, flogPos := pos, flog := log } = g f) (s : State)
    (kind src sev reaction detail tick : Nat) (time : T96) (occ : Nat) (entries : List (Nat × Nat)) :
    g (faultRecord s kind src sev reaction detail tick time occ entries).fcr = g s.fcr := by
  obtain ⟨pos, log, books⟩ := faultRecord_fcr s kind src sev reaction detail tick time occ entries
  rw [books]
  exact apart _ _ _ _

theorem faultRecord_recNum (s : State) (kind src sev reaction detail tick : Nat) (time : T96) (occ : Nat)
    (entries : List (Nat × Nat)) : (faultRecord s kind src sev reaction detail tick time occ entries).fcr.recNum =
      (s.fcr.recNum + 1) % 2 ^ 32 := by
  obtain ⟨pos, log, books⟩ := faultRecord_fcr s kind src sev reaction detail tick time occ entries
  rw [books]

/-- What the collector keeps besides its records: its sources, severities, capture, reactions and the safe stop. -/
def Fcr.bare (f : Fcr) : Fcr :=
  { f with
    winCount := 0, winStart := 0, unrec := [], squalls := 0, flog := [], flogPos := 0, recNum := 0, pairRecs := [] }

theorem src_of_bare {t : State} (same : t.fcr.bare = s.fcr.bare) (n : Nat) : t.src n = s.src n := by
  show tget {} t.fcr.bare.src n = tget {} s.fcr.bare.src n
  rw [same]
theorem cap_of_bare {t : State} (same : t.fcr.bare = s.fcr.bare) : t.fcr.cap = s.fcr.cap := congrArg (·.cap) same
theorem later_of_bare {t : State} (same : t.fcr.bare = s.fcr.bare) : t.fcr.later = s.fcr.later := congrArg (·.later) same
theorem react_of_bare {t : State} (same : t.fcr.bare = s.fcr.bare) : t.fcr.react = s.fcr.react := congrArg (·.react) same
theorem epoch_of_bare {t : State} (same : t.fcr.bare = s.fcr.bare) : t.fcr.epoch = s.fcr.epoch := congrArg (·.epoch) same

theorem emitFault_bare (s : State) (code func : Nat) (data : Bytes) :
    (emitFault s code func data).fcr.bare = s.fcr.bare := by
  obtain ⟨pos, log, books⟩ := emitFault_fcr s code func data
  rw [books]
  rfl

theorem faultRecord_bare (s : State) (kind src sev reaction detail tick : Nat) (time : T96) (occ : Nat)
    (entries : List (Nat × Nat)) :
    (faultRecord s kind src sev reaction detail tick time occ entries).fcr.bare = s.fcr.bare :=
  faultRecord_keeps Fcr.bare (fun _ _ _ _ => rfl) s kind src sev reaction detail tick time occ entries

/-! ## Squall windows (R473) -/

/-- A window that has ended: its count and its sources without a record are cleared. -/
def squallCleared (s : State) : State :=
  { s with fcr := { s.fcr with
    unrec := [], winCount := 0
    squalls := satN 4 (if 64 < s.fcr.winCount then s.fcr.squalls + 1 else s.fcr.squalls) } }

theorem squallEnd_of_recorded (recorded : s.fcr.unrec = []) : squallEnd s = squallCleared s :=
  if_pos (by rw [recorded]; rfl)

/-- What a window left without a record gets one summary. -/
theorem squallEnd_of_left (left : s.fcr.unrec ≠ []) : ∃ tick time,
    squallEnd s = faultRecord (squallCleared s) 4 0 0 0 0 tick time 0 s.fcr.unrec :=
  ⟨_, _, if_neg (by rwa [List.isEmpty_iff])⟩

theorem squallEnd_fcr (s : State) : ∃ num pos log, (squallEnd s).fcr =
    { (squallCleared s).fcr with recNum := num, flogPos := pos, flog := log } ∧
    (s.fcr.unrec ≠ [] → num = (s.fcr.recNum + 1) % 2 ^ 32) ∧ (s.fcr.unrec = [] → num = s.fcr.recNum) := by
  by_cases recorded : s.fcr.unrec = []
  · exact ⟨_, _, _, congrArg State.fcr (squallEnd_of_recorded recorded), fun left => absurd recorded left, fun _ => rfl⟩
  · obtain ⟨tick, time, ended⟩ := squallEnd_of_left recorded
    obtain ⟨pos, log, books⟩ := faultRecord_fcr (squallCleared s) 4 0 0 0 0 tick time 0 s.fcr.unrec
    exact ⟨_, pos, log, (congrArg State.fcr ended).trans books, fun _ => rfl, fun h => absurd h recorded⟩

theorem squallEnd_bare (s : State) : (squallEnd s).fcr.bare = s.fcr.bare := by
  obtain ⟨num, pos, log, books, -⟩ := squallEnd_fcr s
  rw [books]
  rfl

/-- The state stands in the squall window of its tick. -/
abbrev InWindow (s : State) : Prop := s.fcr.winStart = s.mono / 2500000

/-- One of the first 64 of a window, or one that always gets a record, has its own. -/
theorem tally_of_own {n : Nat} {always : Bool} (here : InWindow s) (own : s.fcr.winCount < 64 ∨ always = true) :
    tally s n always = (true, { s with fcr := { s.fcr with winCount := s.fcr.winCount + 1 } }) := by
  unfold tally
  dsimp only
  rw [if_pos (show s.fcr.winStart = s.mono / squallTicks from here)]
  exact if_pos (own.imp_left fun h => by simpa using h)

theorem tally_of_squall {n : Nat} (here : InWindow s) (full : 64 ≤ s.fcr.winCount) : tally s n false =
    (false, { s with fcr := { s.fcr with
      winCount := s.fcr.winCount + 1, unrec := tput s.fcr.unrec n (tget 0 s.fcr.unrec n + 1) } }) := by
  unfold tally
  dsimp only
  rw [if_pos (show s.fcr.winStart = s.mono / squallTicks from here)]
  exact if_neg (by simp; omega)

/-- The first of a window ends the one before. -/
theorem tally_of_new {n : Nat} {always : Bool} (elsewhere : ¬ InWindow s) : tally s n always =
    (true, { squallEnd s with fcr := { (squallEnd s).fcr with winStart := s.mono / 2500000, winCount := 1 } }) := by
  unfold tally
  dsimp only
  rw [if_neg (show ¬ s.fcr.winStart = s.mono / squallTicks from elsewhere)]
  rfl

theorem tally_bare (s : State) (n : Nat) (always : Bool) : (tally s n always).2.fcr.bare = s.fcr.bare := by
  by_cases here : InWindow s
  · by_cases own : s.fcr.winCount < 64 ∨ always = true
    · rw [tally_of_own here own]
      rfl
    · rw [not_or, Bool.not_eq_true] at own
      rw [own.2, tally_of_squall here (Nat.le_of_not_lt own.1)]
      rfl
  · rw [tally_of_new here]
    exact squallEnd_bare s

theorem tally_winStart (s : State) (n : Nat) (always : Bool) : (tally s n always).2.fcr.winStart = s.mono / 2500000 := by
  by_cases here : InWindow s
  · by_cases own : s.fcr.winCount < 64 ∨ always = true
    · rw [tally_of_own here own]
      exact here
    · rw [not_or, Bool.not_eq_true] at own
      rw [own.2, tally_of_squall here (Nat.le_of_not_lt own.1)]
      exact here
  · rw [tally_of_new here]

theorem tally_winCount (s : State) (n : Nat) (always : Bool) :
    (tally s n always).2.fcr.winCount = if InWindow s then s.fcr.winCount + 1 else 1 := by
  by_cases here : InWindow s
  · rw [if_pos here]
    by_cases own : s.fcr.winCount < 64 ∨ always = true
    · rw [tally_of_own here own]
    · rw [not_or, Bool.not_eq_true] at own
      rw [own.2, tally_of_squall here (Nat.le_of_not_lt own.1)]
  · rw [if_neg here, tally_of_new here]

/-! ## The capture (R472) -/

/-- What a first raising leaves in the capture. -/
def capOf (s : State) (n detail : Nat) (acc : Nat × Nat × Nat) : Cap :=
  { source := n, master := acc.1, access := acc.2.1, address := acc.2.2 % 2 ^ 48, time := s.now
    tick := s.mono, epoch := s.fcr.epoch, detail := detail % 2 ^ 32 }

theorem capture_of_log (s : State) (n detail : Nat) (acc : Nat × Nat × Nat) : capture s n 0 detail acc = s := rfl

section
variable {sev : Nat} (counts : sev ≠ 0)
include counts

theorem capture_of_clear (clear : s.fcr.cap = none) (n detail : Nat) (acc : Nat × Nat × Nat) :
    capture s n sev detail acc = { s with fcr := { s.fcr with cap := some (capOf s n detail acc) } } := by
  unfold capture
  rw [if_neg counts, clear]
  rfl

theorem capture_of_taken (taken : s.fcr.cap ≠ none) (n detail : Nat) (acc : Nat × Nat × Nat) :
    capture s n sev detail acc = { s with fcr := { s.fcr with later := satN 4 (s.fcr.later + 1) } } := by
  obtain ⟨c, first⟩ := Option.ne_none_iff_exists'.mp taken
  unfold capture
  rw [if_neg counts, first]

end

/-- The capture and its count of later errors are all that a capture changes. -/
theorem capture_eq (s : State) (n sev detail : Nat) (acc : Nat × Nat × Nat) : ∃ cap later,
    capture s n sev detail acc = { s with fcr := { s.fcr with cap := cap, later := later } } := by
  by_cases log : sev = 0
  · exact ⟨_, _, log ▸ capture_of_log s n detail acc⟩
  · by_cases clear : s.fcr.cap = none
    · exact ⟨_, _, capture_of_clear log clear n detail acc⟩
    · exact ⟨_, _, capture_of_taken log clear n detail acc⟩

end

end Sys2Proof.Machine
end

section
/-! SUPPORT. The fault opcodes' answers: what a clearing does to each source, and the bits of a mask of sources (14 R468,
R479, R488 to R492). -/

namespace Sys2Proof.Machine

section
variable {s : State}

/-! ## Clearing latches (R468, R488) -/

/-- A latch is cleared while its source is not in error, and was not raised at this tick. -/
abbrev LatchClears (s : State) (n : Nat) : Prop :=
  (s.src n).inErr = false ∧ (s.src n).latched = true ∧ (s.src n).raisedAt ≠ s.mono

theorem clearLatch_of_clears {n : Nat} (clears : LatchClears s n) :
    clearLatch s n = s.setSrc n { s.src n with latched := false, latchSev := 0 } := by
  obtain ⟨well, latched, earlier⟩ := clears
  exact if_neg (by simp [well, latched, earlier])

theorem clearLatch_of_keeps {n : Nat} (keeps : ¬ LatchClears s n) : clearLatch s n = s :=
  if_pos (by simpa [or_assoc, Classical.or_iff_not_imp_left] using keeps)

/-- The latch of a named source is cleared where it can be. -/
def clearAsked (named : Nat → Bool) (s : State) (n : Nat) : State := if named n then clearLatch s n else s

/-- What a source is once it has been named, or not. -/
def latchAfter (named : Nat → Bool) (s : State) (n : Nat) : Src :=
  if named n = true ∧ LatchClears s n then { s.src n with latched := false, latchSev := 0 } else s.src n

theorem clearAsked_eq (named : Nat → Bool) (s : State) (n : Nat) :
    clearAsked named s n = s ∨ clearAsked named s n = s.setSrc n { s.src n with latched := false, latchSev := 0 } := by
  unfold clearAsked clearLatch
  dsimp only
  split_ifs
  · exact .inl rfl
  · exact .inr rfl
  · exact .inl rfl

theorem clearAsked_src (named : Nat → Bool) (s : State) (n : Nat) :
    (clearAsked named s n).src n = latchAfter named s n := by
  unfold clearAsked latchAfter
  by_cases h : named n = true
  · by_cases clears : LatchClears s n
    · rw [if_pos h, if_pos ⟨h, clears⟩, clearLatch_of_clears clears, setSrc_src]
    · rw [if_pos h, if_neg (mt And.right clears), clearLatch_of_keeps clears]
  · rw [if_neg h, if_neg (mt And.left h)]

theorem clearAsked_src_of_ne (named : Nat → Bool) (s : State) {n j : Nat} (other : n ≠ j) :
    (clearAsked named s n).src j = s.src j := by
  obtain same | cleared := clearAsked_eq named s n
  · rw [same]
  · rw [cleared, setSrc_src_of_ne _ _ other]

theorem clearAsked_mono (named : Nat → Bool) (s : State) (n : Nat) : (clearAsked named s n).mono = s.mono := by
  obtain same | cleared := clearAsked_eq named s n
  · rw [same]
  · rw [cleared]
    rfl

/-- A property of the books that no source has a part in stays as clearings go on. -/
theorem clearAsked_keeps {α : Type} (g : Fcr → α) (apart : ∀ (f : Fcr) l, g { f with src := l } = g f)
    (named : Nat → Bool) (s : State) (n : Nat) : g (clearAsked named s n).fcr = g s.fcr := by
  obtain same | cleared := clearAsked_eq named s n
  · rw [same]
  · rw [cleared]
    exact apart _ _

theorem latchAfter_congr (named : Nat → Bool) {s t : State} {n : Nat} (src : t.src n = s.src n) (mono : t.mono = s.mono) :
    latchAfter named t n = latchAfter named s n := by
  unfold latchAfter LatchClears
  rw [src, mono]

theorem forN_clearAsked_mono (named : Nat → Bool) (k : Nat) (s : State) :
    (forN k (clearAsked named) s).mono = s.mono := forN_keeps State.mono (clearAsked_mono named) k s

theorem forN_succ (k : Nat) (f : State → Nat → State) (s : State) : forN (k + 1) f s = f (forN k f s) k := by
  unfold forN
  rw [List.range_succ, List.foldl_append]
  rfl

/-- Each source below a number has been named or not; the others stand. -/
theorem forN_clearAsked_src (named : Nat → Bool) (k : Nat) (s : State) (n : Nat) :
    (forN k (clearAsked named) s).src n = if n < k then latchAfter named s n else s.src n := by
  induction k with
  | zero => rfl
  | succ k ih =>
    rw [forN_succ]
    by_cases at_k : k = n
    · subst at_k
      rw [clearAsked_src, if_pos (Nat.lt_succ_self k),
        latchAfter_congr named (ih.trans (if_neg (Nat.lt_irrefl k))) (forN_clearAsked_mono named k s)]
    · rw [clearAsked_src_of_ne named _ at_k, ih]
      exact if_congr (by omega) rfl rfl

/-! ## The end of a safe stop (R479) -/

/-- The books of a safe stop once latches have been cleared. -/
theorem safeStopLeave_fcr_of_stopped (stopped : s.fcr.safeStopped = true) : (safeStopLeave s).fcr = { s.fcr with
    safeStopped := !(s.fcr.ssSrcs.filter fun n => (s.src n).latched).isEmpty
    ssSrcs := s.fcr.ssSrcs.filter fun n => (s.src n).latched } := by
  unfold safeStopLeave
  dsimp only
  rw [if_pos stopped]
  split_ifs
  · exact emit_fcr _ _ _ _
  · rfl

theorem safeStopLeave_of_free (free : s.fcr.safeStopped = false) : safeStopLeave s = s :=
  if_neg (ne_true_of_eq_false free)

theorem safeStopLeave_keeps {α : Type} (g : Fcr → α)
    (apart : ∀ (f : Fcr) b l, g { f with safeStopped := b, ssSrcs := l } = g f) : g (safeStopLeave s).fcr = g s.fcr := by
  cases free : s.fcr.safeStopped
  · rw [safeStopLeave_of_free free]
  · rw [safeStopLeave_fcr_of_stopped free]
    exact apart _ _ _

theorem safeStopLeave_src (n : Nat) : (safeStopLeave s).src n = s.src n :=
  safeStopLeave_keeps (s := s) (fun f : Fcr => tget ({} : Src) f.src n) fun _ _ _ => rfl

/-! ## FAULT_CLEAR (R490) -/

section
variable (s : State) (p : Bytes)

/-- The sources a FAULT_CLEAR names. -/
def clearNames (n : Nat) : Bool := (byteAt p 0).testBit 1 || (byteAt p (4 + n / 8)).testBit (n % 8)

/-- The capture, cleared if asked. -/
def captureAsked : State := if (byteAt p 0).testBit 0 then { s with fcr := { s.fcr with cap := none, later := 0 } } else s

/-- The latches of the named sources, cleared where they can be. -/
def latchesAsked : State := forN 256 (clearAsked (clearNames p)) (captureAsked s p)

theorem opFaultClear_body : opFaultClear.body s p = okWith (safeStopLeave (latchesAsked s p))
    (mask256 fun n => clearNames p n && ((latchesAsked s p).src n).latched) := rfl

theorem captureAsked_src (n : Nat) : (captureAsked s p).src n = s.src n := by
  unfold captureAsked
  split <;> rfl

theorem captureAsked_mono : (captureAsked s p).mono = s.mono := by
  unfold captureAsked
  split <;> rfl

theorem captureAsked_safeStop : ((captureAsked s p).fcr.safeStopped, (captureAsked s p).fcr.ssSrcs) =
    (s.fcr.safeStopped, s.fcr.ssSrcs) := by
  unfold captureAsked
  split <;> rfl

theorem latchesAsked_src {n : Nat} (source : n < 256) :
    (latchesAsked s p).src n = latchAfter (clearNames p) s n := by
  unfold latchesAsked
  rw [forN_clearAsked_src, if_pos source,
    latchAfter_congr (clearNames p) (captureAsked_src s p n) (captureAsked_mono s p)]

theorem latchesAsked_keeps {α : Type} (g : Fcr → α) (apart : ∀ (f : Fcr) l, g { f with src := l } = g f) :
    g (latchesAsked s p).fcr = g (captureAsked s p).fcr :=
  forN_keeps (fun t => g t.fcr) (clearAsked_keeps g apart (clearNames p)) 256 _

theorem latchesAsked_safeStop : ((latchesAsked s p).fcr.safeStopped, (latchesAsked s p).fcr.ssSrcs) =
    (s.fcr.safeStopped, s.fcr.ssSrcs) :=
  (latchesAsked_keeps s p (fun f => (f.safeStopped, f.ssSrcs)) fun _ _ => rfl).trans (captureAsked_safeStop s p)

/-- The capture stands as the flag left it. -/
theorem faultClear_capture :
    ((safeStopLeave (latchesAsked s p)).fcr.cap, (safeStopLeave (latchesAsked s p)).fcr.later) =
      if (byteAt p 0).testBit 0 then (none, 0) else (s.fcr.cap, s.fcr.later) := by
  refine (safeStopLeave_keeps (fun f => (f.cap, f.later)) fun _ _ _ => rfl).trans
    ((latchesAsked_keeps s p (fun f => (f.cap, f.later)) fun _ _ => rfl).trans ?_)
  unfold captureAsked
  split <;> rfl

/-- A safe stop is held by the sources left latched (R479). -/
theorem faultClear_of_stopped (stopped : s.fcr.safeStopped = true) :
    (safeStopLeave (latchesAsked s p)).fcr.ssSrcs =
      s.fcr.ssSrcs.filter (fun n => ((safeStopLeave (latchesAsked s p)).src n).latched) ∧
    (safeStopLeave (latchesAsked s p)).fcr.safeStopped = !(safeStopLeave (latchesAsked s p)).fcr.ssSrcs.isEmpty := by
  obtain ⟨holds, left⟩ := Prod.ext_iff.mp (latchesAsked_safeStop s p)
  have books := safeStopLeave_fcr_of_stopped (holds.trans stopped)
  simp only [safeStopLeave_src, books]
  exact ⟨congrArg (List.filter _) left, trivial⟩

theorem faultClear_of_free (free : s.fcr.safeStopped = false) :
    (safeStopLeave (latchesAsked s p)).fcr.safeStopped = false := by
  have holds := (Prod.ext_iff.mp (latchesAsked_safeStop s p)).1.trans free
  rw [safeStopLeave_of_free holds]
  exact holds

end

/-! ## Severities (R464) -/

theorem severity_of_set {n v : Nat} {f : Fcr} (set : f.sev = tput s.fcr.sev n v) :
    severity { s with fcr := f } n = v := by
  unfold severity
  rw [show ({ s with fcr := f } : State).fcr.sev = tput s.fcr.sev n v from set]
  exact tget_tput_same _ _ _ _

theorem severity_of_set_other {n m v : Nat} {f : Fcr} (set : f.sev = tput s.fcr.sev n v) (other : m ≠ n) :
    severity { s with fcr := f } m = severity s m := by
  unfold severity
  rw [show ({ s with fcr := f } : State).fcr.sev = tput s.fcr.sev n v from set]
  exact tget_tput_of_ne _ _ _ other.symm

/-- The layout of FAULT_SOURCE_CONFIG admits what Table 14.4 admits of a source. -/
theorem sourceConfig_fields {p : Bytes} (layout : firstBad (opFaultSourceConfig.layout p) = none) :
    ∃ i, srcInfo (byteAt p 0) = some i ∧ i.floor ≤ byteAt p 1 ∧ byteAt p 1 ≤ 4 ∧
      (i.fixed = true → byteAt p 1 = i.reset) ∧ (byteAt p 1 = 3 → i.failover = true) := by
  rw [firstBad_eq_none_iff] at layout
  cases info : srcInfo (byteAt p 0) with
  | none => simp [opFaultSourceConfig, info] at layout
  | some i =>
    have fields := layout _ (by simp only [opFaultSourceConfig, info]; exact List.mem_cons_self)
    simp only [Bool.and_eq_true, Bool.or_eq_true, decide_eq_true_eq, Bool.not_eq_true', and_assoc] at fields
    obtain ⟨floor, top, fixed, failover⟩ := fields
    exact ⟨i, rfl, floor, top, fun h => fixed.resolve_left (by simp [h]), fun h => failover.resolve_left (not_not.mpr h)⟩

end

/-! ## Masks of sources -/

theorem maskOf_succ (n : Nat) (f : Nat → Bool) : maskOf (n + 1) f = maskOf n f + bit (f n) n := by
  unfold maskOf
  rw [List.range_succ, List.map_append, List.foldl_append]
  rfl

theorem maskOf_lt (n : Nat) (f : Nat → Bool) : maskOf n f < 2 ^ n := by
  induction n with
  | zero => exact Nat.one_pos
  | succ n ih =>
    rw [maskOf_succ, Nat.pow_succ]
    unfold bit
    split_ifs <;> omega

theorem maskOf_testBit (n : Nat) (f : Nat → Bool) (j : Nat) : (maskOf n f).testBit j = (decide (j < n) && f j) := by
  induction n with
  | zero => exact Nat.zero_testBit j
  | succ n ih =>
    obtain below | rfl | above := Nat.lt_trichotomy j n
    · have low : (maskOf (n + 1) f).testBit j = (maskOf n f).testBit j := by
        rw [maskOf_succ, Nat.add_comm]
        unfold bit
        split_ifs
        · exact Nat.testBit_two_pow_add_gt below _
        · rw [Nat.zero_add]
      rw [low, ih, decide_eq_true below, decide_eq_true (below.trans (Nat.lt_succ_self n))]
    · have clear := Nat.testBit_lt_two_pow (maskOf_lt j f)
      rw [maskOf_succ, Nat.add_comm, decide_eq_true (Nat.lt_succ_self j), Bool.true_and]
      unfold bit
      split_ifs with h
      · rw [Nat.testBit_two_pow_add_eq, clear, h]
        rfl
      · rw [Nat.zero_add, clear, Bool.eq_false_of_not_eq_true h]
    · rw [decide_eq_false (by omega), Bool.false_and]
      exact Nat.testBit_lt_two_pow ((maskOf_lt (n + 1) f).trans_le (Nat.pow_le_pow_right Nat.two_pos above))

theorem mask256_eq_map (f : Nat → Bool) :
    mask256 f = (List.range 32).map fun i => BitVec.ofNat 8 (maskOf 8 fun j => f (8 * i + j)) :=
  List.flatMap_pure_eq_map _ _

/-- Bit n of byte n ÷ 8 of a mask is the test's answer for n. -/
theorem mask256_testBit (f : Nat → Bool) {n : Nat} (source : n < 256) :
    (byteAt (mask256 f) (n / 8)).testBit (n % 8) = f n := by
  have within : n / 8 < 32 := by omega
  have byte : byteAt (mask256 f) (n / 8) = maskOf 8 fun j => f (8 * (n / 8) + j) := by
    unfold byteAt
    rw [mask256_eq_map, List.getD_eq_getElem?_getD, List.getElem?_map, List.getElem?_range within]
    exact Nat.mod_eq_of_lt (maskOf_lt 8 _)
  rw [byte, maskOf_testBit, decide_eq_true (Nat.mod_lt n (by decide)), Bool.true_and, Nat.div_add_mod]

end Sys2Proof.Machine

namespace Sys2Proof

open Machine

/-- Settles O54: what each opcode answers, with each source's latch, the capture and the safe stop after a clearing. -/
theorem faultCommands : Obligations.FaultCommands := by
  unfold Obligations.FaultCommands
  refine ⟨fun h p n s ok => ?read, fun first k l => rfl, fun h p s ok => ?clear, fun f n => mask256_testBit f,
    fun h p s ok => ?source, fun h p s ok => ?threshold, fun h p s ok => ?capture⟩
  case read =>
    have answered {data : Bytes} (size : data.length = n)
        (body : opFaultRead.body (atBody s h) p = okWith (atBody s h) data) :
        exec (.faultRead h p) s = .next (replied h 0x0D00 p (okWith (atBody s h) data)) :=
      exec_read_of_accepted rfl rfl ok body size
    refine ⟨fun sources size => ⟨?_, answered ?_ ?_⟩, fun faults size => answered size.symm ?_,
      fun service size => answered size.symm ?_⟩
    · have range := (firstBad_eq_none_iff _).mp ok.layout
        (6, decide (1 ≤ rd p 6 2 ∧ rd p 6 2 ≤ if byteAt p 0 = 0 then 256 else 16) &&
          decide (byteAt p 0 ≠ 0 ∨ rd p 2 4 + rd p 6 2 ≤ 256)) (by simp [opFaultRead])
      rw [Bool.and_eq_true, decide_eq_true_iff, decide_eq_true_iff] at range
      exact range.2.resolve_left (not_not.mpr sources)
    · rw [size, List.length_flatMap]
      simp [Nat.mul_comm]
    all_goals simp only [opFaultRead, *]; rfl
  case clear =>
    have leaves := safeStopLeave_src (s := latchesAsked (atBody s h) p)
    have after {n : Nat} (source : n < 256) :
        (safeStopLeave (latchesAsked (atBody s h) p)).src n = latchAfter (clearNames p) s n :=
      (leaves n).trans (latchesAsked_src (atBody s h) p source)
    have capture := Prod.ext_iff.mp (faultClear_capture (atBody s h) p)
    refine ⟨exec_answer_of_accepted rfl rfl ok ?_ (opFaultClear_body _ p),
      fun n source => ⟨fun clears => ?_, fun keeps => ?_⟩, fun asked => ?_, fun unasked => ?_, fun stopped => ?_,
      fun free => ?_⟩
    · rw [mask256_eq_map]
      simp [okWith]
    · exact (after source).trans (if_pos clears)
    · exact (after source).trans (if_neg keeps)
    · rw [if_pos asked] at capture
      exact capture
    · rw [if_neg (ne_true_of_eq_false unasked)] at capture
      exact capture
    · exact faultClear_of_stopped (atBody s h) p stopped
    · exact faultClear_of_free (atBody s h) p free
  case source =>
    exact ⟨exec_hostOnly_of_accepted rfl rfl ok rfl, severity_of_set (s := atBody s h) rfl,
      fun m other => severity_of_set_other (s := atBody s h) rfl other, sourceConfig_fields ok.layout⟩
  case threshold =>
    have range := (firstBad_eq_none_iff _).mp ok.layout (ckRange p 0 1 0 4) (by simp [opFaultThreshold])
    exact ⟨(of_decide_eq_true range).2, exec_hostOnly_of_accepted rfl rfl ok rfl⟩
  case capture =>
    have answered {data : Bytes} (size : data.length = 48)
        (body : opCaptureRead.body (atBody s h) p = okWith (atBody s h) data) :
        exec (.captureRead h p) s = .next (replied h 0x0D04 p (okWith (atBody s h) data)) :=
      exec_read_of_accepted rfl rfl ok body size
    refine ⟨fun clear => answered rfl ?_, fun c taken => answered (by simp) ?_⟩
    · have none : (atBody s h).fcr.cap = none := clear
      simp only [opCaptureRead, none]
    · have some : (atBody s h).fcr.cap = some c := taken
      simp only [opCaptureRead, some]
      rfl

end Sys2Proof
end

section
/-! SUPPORT. What a raising, a return and a restored link do to a source, the capture, the reactions and the squall window
(14 R461 to R465, R472, R473). -/

namespace Sys2Proof.Machine

section
variable {s : State} {n enc detail : Nat} {acc : Nat × Nat × Nat}

/-! ## Raisings of a source that was not in error -/

/-- The source as its raising leaves it. -/
def Src.raised (x : Src) (sev enc detail mono : Nat) : Src :=
  { x with
    rails := enc, inErr := true, link := decide (enc ≠ 2), latched := true, latchSev := max x.latchSev sev
    count := satN 4 (x.count + 1), detail := detail, raisedAt := mono }

/-- The source is raised, and captured. -/
def raisedCaptured (s : State) (n enc detail : Nat) (acc : Nat × Nat × Nat) : State :=
  capture (s.setSrc n ((s.src n).raised (severity s n) enc detail s.mono)) n (severity s n) detail acc

/-- A reaction is ordered. -/
def State.ordered (s : State) (l : List React) : State := { s with fcr := { s.fcr with react := s.fcr.react ++ l } }

/-- A raising at the threshold or above wakes (15 R505). -/
def wakes (s : State) (n : Nat) : List React := if s.fcr.threshold ≤ severity s n then [.wake] else []

/-- The source is raised and captured, and a wake is ordered where its severity asks for one. -/
def raisedWoken (s : State) (n enc detail : Nat) (acc : Nat × Nat × Nat) : State :=
  (raisedCaptured s n enc detail acc).ordered (wakes s n)

/-- The collector's books after a source has been raised. -/
theorem raisedCaptured_eq (s : State) (n enc detail : Nat) (acc : Nat × Nat × Nat) : ∃ cap later,
    raisedCaptured s n enc detail acc =
      { s with fcr := { s.fcr with
          src := tput s.fcr.src n ((s.src n).raised (severity s n) enc detail s.mono), cap := cap, later := later } } :=
  capture_eq (s.setSrc n ((s.src n).raised (severity s n) enc detail s.mono)) n (severity s n) detail acc

theorem raisedWoken_eq (s : State) (n enc detail : Nat) (acc : Nat × Nat × Nat) : ∃ cap later,
    raisedWoken s n enc detail acc =
      { s with fcr := { s.fcr with
          src := tput s.fcr.src n ((s.src n).raised (severity s n) enc detail s.mono), cap := cap, later := later
          react := s.fcr.react ++ wakes s n } } := by
  obtain ⟨cap, later, captured⟩ := raisedCaptured_eq s n enc detail acc
  refine ⟨cap, later, ?_⟩
  unfold raisedWoken
  rw [captured]
  rfl

/-- A wake ordered or not, the rest of a raising goes on from the same state. -/
theorem raisedWoken_eq_ite (s : State) (n enc detail : Nat) (acc : Nat × Nat × Nat) :
    raisedWoken s n enc detail acc =
      if (raisedCaptured s n enc detail acc).fcr.threshold ≤ severity s n then
        (raisedCaptured s n enc detail acc).ordered [.wake]
      else raisedCaptured s n enc detail acc := by
  obtain ⟨cap, later, captured⟩ := raisedCaptured_eq s n enc detail acc
  have threshold : (raisedCaptured s n enc detail acc).fcr.threshold = s.fcr.threshold := by rw [captured]
  unfold raisedWoken wakes
  rw [threshold]
  split
  · rfl
  · rw [captured]
    unfold State.ordered
    rw [List.append_nil]

/-- What becomes of a lockstep pair's raising: its record waits for the outcome, and its death is ordered (R481, R484). -/
def pairRaised (t : State) (n enc detail : Nat) : State :=
  { t with fcr := { t.fcr with
    pairRecs := t.fcr.pairRecs ++
      [{ src := n, kind := if enc = 2 then 0 else 2, detail := detail, tick := t.mono, time := t.now }]
    react := t.fcr.react ++ [.pairDead n] } }

/-- The record of any other source's raising. -/
def raisingRecord (t : State) (n sev enc detail count : Nat) : State :=
  faultRecord t (if enc = 2 then 0 else 2) n sev (reactionOf n sev) (detail % 2 ^ 32) t.mono t.now count []

/-- The squall window's answer decides whether a raising or a return gets its record. -/
def recordedIf (r : Bool × State) (record : State → State) : State := if r.1 then record r.2 else r.2

section
variable (known : srcInfo n ≠ none)
include known

section
variable (new : (s.src n).inErr = false)
include new

theorem seeRaise_of_pair (pair : n ≤ 3) : seeRaise s n enc detail acc =
    pairRaised (tally (raisedWoken s n enc detail acc) n true).2 n enc detail := by
  obtain ⟨i, info⟩ := Option.ne_none_iff_exists'.mp known
  rw [raisedWoken_eq_ite]
  unfold seeRaise
  rw [info]
  dsimp only
  rw [new, if_neg Bool.false_ne_true, if_pos pair]
  rfl

theorem seeRaise_of_other (other : 3 < n) : seeRaise s n enc detail acc =
    (recordedIf (tally (raisedWoken s n enc detail acc) n (decide (3 ≤ severity s n)))
      (raisingRecord · n (severity s n) enc detail (satN 4 ((s.src n).count + 1)))).ordered
      (reactsOf n (severity s n) detail) := by
  obtain ⟨i, info⟩ := Option.ne_none_iff_exists'.mp known
  rw [raisedWoken_eq_ite]
  unfold seeRaise
  rw [info]
  dsimp only
  rw [new, if_neg Bool.false_ne_true, if_neg (Nat.not_le.mpr other)]
  rfl

end

section
variable (old : ¬ (s.src n).inErr = false)
include old

theorem seeRaise_of_broken (broken : enc ≠ 2) (whole : (s.src n).link = false) : seeRaise s n enc detail acc =
    faultRecord (s.setSrc n { s.src n with link := true, rails := enc }) 2 n (severity s n) 0 (s.src n).detail s.mono s.now
      (s.src n).count [] := by
  obtain ⟨i, info⟩ := Option.ne_none_iff_exists'.mp known
  unfold seeRaise
  rw [info]
  dsimp only
  rw [if_pos (Bool.not_eq_false _ ▸ old), if_pos ⟨broken, by rw [whole]; rfl⟩]
  rfl

theorem seeRaise_of_raised (raised : enc = 2 ∨ (s.src n).link = true) : seeRaise s n enc detail acc = s := by
  obtain ⟨i, info⟩ := Option.ne_none_iff_exists'.mp known
  unfold seeRaise
  rw [info]
  dsimp only
  rw [if_pos (Bool.not_eq_false _ ▸ old), if_neg (by rintro ⟨ne, whole⟩; simp_all)]

end

end

/-! ## What a raising leaves -/

theorem recordedIf_true (t : State) (record : State → State) : recordedIf (true, t) record = record t := rfl
theorem ordered_recNum (t : State) (l : List React) : (t.ordered l).fcr.recNum = t.fcr.recNum := rfl
theorem ordered_unrec (t : State) (l : List React) : (t.ordered l).fcr.unrec = t.fcr.unrec := rfl

theorem recordedIf_keeps {α : Type} (g : State → α) {record : State → State} (r : Bool × State)
    (same : g (record r.2) = g r.2) : g (recordedIf r record) = g r.2 := by
  unfold recordedIf
  split
  · exact same
  · rfl

/-- What of the collector a fault record leaves alone. -/
def Fcr.windowed (f : Fcr) : Fcr × Nat × Nat × Tbl Nat Nat := (f.bare, f.winStart, f.winCount, f.unrec)

theorem windowed_iff {f g : Fcr} : f.windowed = g.windowed ↔
    f.bare = g.bare ∧ f.winStart = g.winStart ∧ f.winCount = g.winCount ∧ f.unrec = g.unrec := by
  simp only [Fcr.windowed, Prod.mk.injEq]

theorem raisingRecord_recNum (t : State) (n sev enc detail count : Nat) :
    (raisingRecord t n sev enc detail count).fcr.recNum = (t.fcr.recNum + 1) % 2 ^ 32 :=
  faultRecord_recNum _ _ _ _ _ _ _ _ _ _

theorem raisingRecord_windowed (t : State) (n sev enc detail count : Nat) :
    (raisingRecord t n sev enc detail count).fcr.windowed = t.fcr.windowed :=
  faultRecord_keeps Fcr.windowed (fun _ _ _ _ => rfl) _ _ _ _ _ _ _ _ _ _

/-- What a raising does to the collector, its records apart: the raised source's entry, the capture, and the reactions. -/
structure RaisedBooks (s : State) (n enc detail : Nat) (acc : Nat × Nat × Nat) (u : State) : Prop where
  src : ∀ m, u.src m = (raisedWoken s n enc detail acc).src m
  cap : u.fcr.cap = (raisedWoken s n enc detail acc).fcr.cap
  later : u.fcr.later = (raisedWoken s n enc detail acc).fcr.later
  react : u.fcr.react = (raisedWoken s n enc detail acc).fcr.react ++
    if n ≤ 3 then [.pairDead n] else reactsOf n (severity s n) detail
  winStart : u.fcr.winStart = s.mono / 2500000
  winCount : u.fcr.winCount = if InWindow s then s.fcr.winCount + 1 else 1
  epoch : u.fcr.epoch = s.fcr.epoch

theorem raisedWoken_inWindow : InWindow (raisedWoken s n enc detail acc) ↔ InWindow s := by
  obtain ⟨cap, later, woken⟩ := raisedWoken_eq s n enc detail acc
  rw [woken]

theorem raisedWoken_mono : (raisedWoken s n enc detail acc).mono = s.mono := by
  obtain ⟨cap, later, woken⟩ := raisedWoken_eq s n enc detail acc
  rw [woken]

theorem raisedWoken_epoch : (raisedWoken s n enc detail acc).fcr.epoch = s.fcr.epoch := by
  obtain ⟨cap, later, woken⟩ := raisedWoken_eq s n enc detail acc
  rw [woken]

theorem raisedWoken_winCount : (raisedWoken s n enc detail acc).fcr.winCount = s.fcr.winCount := by
  obtain ⟨cap, later, woken⟩ := raisedWoken_eq s n enc detail acc
  rw [woken]

/-- From the window's count on, whatever records follow, the books are those of the raised source. -/
theorem raisedBooks_of_windowed {t u : State} {always : Bool}
    (windowed : t.fcr.windowed = (tally (raisedWoken s n enc detail acc) n always).2.fcr.windowed)
    (bare : u.fcr.bare = (t.ordered (if n ≤ 3 then [.pairDead n] else reactsOf n (severity s n) detail)).fcr.bare)
    (start : u.fcr.winStart = t.fcr.winStart) (count : u.fcr.winCount = t.fcr.winCount) :
    RaisedBooks s n enc detail acc u := by
  obtain ⟨same, winStart, winCount, -⟩ := windowed_iff.mp windowed
  have kept := same.trans (tally_bare (raisedWoken s n enc detail acc) n always)
  exact {
    src := fun m => (src_of_bare bare m).trans (src_of_bare kept m)
    cap := (show u.fcr.cap = t.fcr.cap from cap_of_bare (s := t.ordered _) bare).trans (cap_of_bare kept)
    later := (show u.fcr.later = t.fcr.later from later_of_bare (s := t.ordered _) bare).trans (later_of_bare kept)
    react := (react_of_bare bare).trans (congrArg (· ++ _) (react_of_bare kept))
    winStart := by rw [start, winStart, tally_winStart, raisedWoken_mono]
    winCount := by rw [count, winCount, tally_winCount, if_congr raisedWoken_inWindow rfl rfl, raisedWoken_winCount]
    epoch := (show u.fcr.epoch = t.fcr.epoch from epoch_of_bare (s := t.ordered _) bare).trans
      ((epoch_of_bare kept).trans raisedWoken_epoch) }

/-- What a raising leaves in the collector. -/
theorem seeRaise_books (known : srcInfo n ≠ none) (new : (s.src n).inErr = false) :
    RaisedBooks s n enc detail acc (seeRaise s n enc detail acc) := by
  obtain pair | other := le_or_gt n 3
  · refine raisedBooks_of_windowed (t := (tally (raisedWoken s n enc detail acc) n true).2) rfl ?_ ?_ ?_
    all_goals rw [seeRaise_of_pair known new pair]
    · rw [if_pos pair]
      rfl
    · rfl
    · rfl
  · refine raisedBooks_of_windowed (recordedIf_keeps (·.fcr.windowed)
      (record := (raisingRecord · n (severity s n) enc detail (satN 4 ((s.src n).count + 1))))
      (tally (raisedWoken s n enc detail acc) n (decide (3 ≤ severity s n))) (raisingRecord_windowed ..)) ?_ ?_ ?_
    all_goals rw [seeRaise_of_other known new other]
    · rw [if_neg (Nat.not_le.mpr other)]
    · rfl
    · rfl

theorem raisedWoken_src : (raisedWoken s n enc detail acc).src n = (s.src n).raised (severity s n) enc detail s.mono := by
  obtain ⟨cap, later, woken⟩ := raisedWoken_eq s n enc detail acc
  rw [woken]
  exact tget_tput_same _ _ _ _

theorem raisedWoken_react : (raisedWoken s n enc detail acc).fcr.react = s.fcr.react ++ wakes s n := by
  obtain ⟨cap, later, woken⟩ := raisedWoken_eq s n enc detail acc
  rw [woken]

/-- The capture as a source's raising leaves it. -/
theorem raisedWoken_capture : ((raisedWoken s n enc detail acc).fcr.cap, (raisedWoken s n enc detail acc).fcr.later) =
    if severity s n = 0 then (s.fcr.cap, s.fcr.later)
    else if s.fcr.cap = none then (some (capOf s n detail acc), s.fcr.later)
    else (s.fcr.cap, satN 4 (s.fcr.later + 1)) := by
  have books (t : State) (captured : raisedCaptured s n enc detail acc = t) :
      ((raisedWoken s n enc detail acc).fcr.cap, (raisedWoken s n enc detail acc).fcr.later) =
        (t.fcr.cap, t.fcr.later) := by
    rw [← captured]
    rfl
  split_ifs with log clear
  · have logged := capture_of_log (s.setSrc n ((s.src n).raised (severity s n) enc detail s.mono)) n detail acc
    exact books (s.setSrc n _) ((congrArg (capture _ n · detail acc) log).trans logged)
  · exact books _ (capture_of_clear (s := s.setSrc n _) log clear n detail acc)
  · exact books _ (capture_of_taken (s := s.setSrc n _) log clear n detail acc)

/-- A raising leaves the record number and what the window left without a record to its record. -/
theorem raisedWoken_books : ((raisedWoken s n enc detail acc).fcr.recNum, (raisedWoken s n enc detail acc).fcr.unrec) =
    (s.fcr.recNum, s.fcr.unrec) := by
  obtain ⟨cap, later, woken⟩ := raisedWoken_eq s n enc detail acc
  rw [woken]

section
variable (known : srcInfo n ≠ none) (new : (s.src n).inErr = false) (here : InWindow s) (other : 3 < n)
include known new here other

/-- A raising with a record of its own takes the next record number. -/
theorem seeRaise_of_recorded (own : s.fcr.winCount < 64 ∨ 3 ≤ severity s n) :
    (seeRaise s n enc detail acc).fcr.recNum = (s.fcr.recNum + 1) % 2 ^ 32 ∧
      (seeRaise s n enc detail acc).fcr.unrec = s.fcr.unrec := by
  have counted := tally_of_own (n := n) (always := decide (3 ≤ severity s n))
    ((raisedWoken_inWindow (n := n) (enc := enc) (detail := detail) (acc := acc)).mpr here)
    (raisedWoken_winCount.symm ▸ own.imp_right decide_eq_true)
  obtain ⟨num, left⟩ := Prod.ext_iff.mp (raisedWoken_books (s := s) (n := n) (enc := enc) (detail := detail) (acc := acc))
  rw [seeRaise_of_other known new other, counted]
  rw [recordedIf_true, ordered_recNum, ordered_unrec, raisingRecord_recNum,
    (windowed_iff.mp (raisingRecord_windowed ..)).2.2.2]
  exact ⟨congrArg (fun k => (k + 1) % 2 ^ 32) num, left⟩

/-- A raising of a squall is only counted. -/
theorem seeRaise_of_squall (full : 64 ≤ s.fcr.winCount) (low : severity s n < 3) :
    (seeRaise s n enc detail acc).fcr.recNum = s.fcr.recNum ∧
      (seeRaise s n enc detail acc).fcr.unrec = tput s.fcr.unrec n (tget 0 s.fcr.unrec n + 1) := by
  have counted := tally_of_squall (n := n)
    ((raisedWoken_inWindow (n := n) (enc := enc) (detail := detail) (acc := acc)).mpr here)
    (raisedWoken_winCount.symm ▸ full)
  obtain ⟨num, left⟩ := Prod.ext_iff.mp (raisedWoken_books (s := s) (n := n) (enc := enc) (detail := detail) (acc := acc))
  rw [seeRaise_of_other known new other, decide_eq_false (Nat.not_le.mpr low), counted]
  exact ⟨num, congrArg (fun l => tput l n (tget 0 l n + 1)) left⟩

end

/-! ## Returns and links (R461, R462) -/

theorem seeReturn_of_well (well : (s.src n).inErr = false) : seeReturn s n = s := if_neg (ne_true_of_eq_false well)

/-- A source that has returned, with the record of its link where that was broken. -/
def returnedLink (s : State) (n : Nat) : State :=
  let t := s.setSrc n { s.src n with rails := 1, inErr := false, link := false }
  if (s.src n).link then faultRecord t 3 n 0 0 (s.src n).detail t.mono t.now (s.src n).count [] else t

theorem seeReturn_of_error (error : (s.src n).inErr = true) : seeReturn s n =
    recordedIf (tally (returnedLink s n) n false)
      fun t => faultRecord t 1 n 0 0 (s.src n).detail t.mono t.now (s.src n).count [] := if_pos error

/-- A returned source's books, those of its link's record apart. -/
theorem returnedLink_windowed : (returnedLink s n).fcr.windowed =
    (s.setSrc n { s.src n with rails := 1, inErr := false, link := false }).fcr.windowed := by
  unfold returnedLink
  dsimp only
  split
  · exact faultRecord_keeps Fcr.windowed (fun _ _ _ _ => rfl) ..
  · rfl

theorem returnedLink_recNum : (returnedLink s n).fcr.recNum =
    if (s.src n).link then (s.fcr.recNum + 1) % 2 ^ 32 else s.fcr.recNum := by
  unfold returnedLink
  dsimp only
  split
  · exact faultRecord_recNum ..
  · rfl

theorem returnedLink_mono : (returnedLink s n).mono = s.mono := by
  unfold returnedLink
  dsimp only
  split
  · exact mono_of_off (faultRecord_off _ _ _ _ _ _ _ _ _ _ 96 rfl) rfl
  · rfl

/-- A return ends the error and nothing else of its source or of another. -/
theorem seeReturn_bare (error : (s.src n).inErr = true) : (seeReturn s n).fcr.bare =
    (s.setSrc n { s.src n with rails := 1, inErr := false, link := false }).fcr.bare := by
  rw [seeReturn_of_error error]
  exact (recordedIf_keeps (·.fcr.bare) _ (faultRecord_bare ..)).trans
    ((tally_bare ..).trans ((windowed_iff.mp returnedLink_windowed).1))

/-- The records of a return: one for a link that was broken, and its own while the window has fewer than 64. -/
theorem seeReturn_recNum (error : (s.src n).inErr = true) (here : InWindow s) (room : s.fcr.recNum < 2 ^ 32 - 2) :
    (seeReturn s n).fcr.recNum =
      s.fcr.recNum + bit (s.src n).link 0 + if s.fcr.winCount < 64 then 1 else 0 := by
  obtain ⟨-, start, count, -⟩ := windowed_iff.mp (returnedLink_windowed (s := s) (n := n))
  have link : (returnedLink s n).fcr.recNum = s.fcr.recNum + bit (s.src n).link 0 := by
    rw [returnedLink_recNum]
    cases (s.src n).link
    · rfl
    · exact Nat.mod_eq_of_lt (by omega)
  have inside : InWindow (returnedLink s n) := start.trans (here.trans (by rw [returnedLink_mono]))
  rw [seeReturn_of_error error]
  by_cases own : s.fcr.winCount < 64
  · rw [tally_of_own inside (.inl (count ▸ own)), if_pos own]
    refine (faultRecord_recNum ..).trans ?_
    have small : bit (s.src n).link 0 ≤ 1 := by cases (s.src n).link <;> decide
    show ((returnedLink s n).fcr.recNum + 1) % 2 ^ 32 = _
    rw [link, Nat.mod_eq_of_lt (by omega)]
  · rw [tally_of_squall inside (count ▸ Nat.le_of_not_lt own), if_neg own]
    exact link

theorem seeRestore_of_broken (broken : (s.src n).link = true) : seeRestore s n =
    faultRecord (s.setSrc n { s.src n with rails := 2, link := false }) 3 n 0 0 (s.src n).detail s.mono s.now
      (s.src n).count [] := if_pos broken

theorem seeRestore_of_whole (whole : (s.src n).link = false) : seeRestore s n = s := if_neg (ne_true_of_eq_false whole)

end

/-! ## Pairs as the collector sees them -/

/-- The collector sees what a source's pair shows: no perturbation forces it, and the collector samples. -/
abbrev Seen (s : State) (n : Nat) : Prop := perturb s 8 n = none ∧ s.pwr.state ≠ 3 ∧ 2 ≤ s.boot.phase

theorem seen_iff (s : State) (n : Nat) : (forced s n || !sampled s) = false ↔ Seen s n := by
  unfold forced sampled
  rw [Bool.or_eq_false_iff, Bool.not_eq_false', decide_eq_true_iff, Option.isSome_eq_false_iff, Option.isNone_iff_eq_none]

/-- What a pair's change makes of the state, seen or not. -/
theorem seen_ite {s t u : State} {n : Nat} (same : Seen t n ↔ Seen s n) :
    (Seen s n → (if (forced t n || !sampled t) = true then t else u) = u) ∧
    (¬ Seen s n → (if (forced t n || !sampled t) = true then t else u) = t) :=
  ⟨fun seen => if_neg (ne_true_of_eq_false ((seen_iff t n).mpr (same.mpr seen))),
    fun unseen => if_pos (Bool.not_eq_false _ ▸ mt (seen_iff t n).mp (mt same.mp unseen))⟩

section
variable {s : State} {n enc detail : Nat} {acc : Nat × Nat × Nat}

theorem raiseEnc_of_unknown (unknown : srcInfo n = none) : raiseEnc s n enc detail acc = s := by
  unfold raiseEnc
  rw [unknown]

theorem raiseEnc_of_known (known : srcInfo n ≠ none) :
    (Seen s n → raiseEnc s n enc detail acc =
      seeRaise (s.setSrc n { s.src n with pair := enc, pairDetail := detail }) n enc detail acc) ∧
    (¬ Seen s n → raiseEnc s n enc detail acc = s.setSrc n { s.src n with pair := enc, pairDetail := detail }) := by
  obtain ⟨i, info⟩ := Option.ne_none_iff_exists'.mp known
  unfold raiseEnc
  rw [info]
  exact seen_ite Iff.rfl

/-- A source that is well, with its pair at 01. -/
abbrev SrcWell (s : State) (n : Nat) : Prop := (s.src n).inErr = false ∧ (s.src n).pair = 1

theorem srcWell_iff : ((s.src n).inErr || decide ((s.src n).pair ≠ 1)) = false ↔ SrcWell s n := by
  rw [Bool.or_eq_false_iff, decide_eq_false_iff_not, not_not]

theorem returnSrc_of_well (well : SrcWell s n) : returnSrc s n = s := if_neg (ne_true_of_eq_false (srcWell_iff.mpr well))

theorem returnSrc_of_unwell (unwell : ¬ SrcWell s n) :
    (Seen s n → returnSrc s n = seeReturn (s.setSrc n { s.src n with pair := 1 }) n) ∧
    (¬ Seen s n → returnSrc s n = s.setSrc n { s.src n with pair := 1 }) := by
  have changes : ((s.src n).inErr || decide ((s.src n).pair ≠ 1)) = true := Bool.not_eq_false _ ▸ mt srcWell_iff.mp unwell
  unfold returnSrc
  rw [if_pos changes]
  exact seen_ite Iff.rfl

theorem linkToError_cases :
    (Seen s n → linkToError s n = seeRestore (s.setSrc n { s.src n with pair := 2 }) n) ∧
    (¬ Seen s n → linkToError s n = s.setSrc n { s.src n with pair := 2 }) := seen_ite Iff.rfl

/-! ## The epoch stays -/

theorem seeRaise_epoch : (seeRaise s n enc detail acc).fcr.epoch = s.fcr.epoch := by
  by_cases known : srcInfo n = none
  · unfold seeRaise
    rw [known]
  · by_cases new : (s.src n).inErr = false
    · exact (seeRaise_books known new).epoch
    · by_cases raised : enc = 2 ∨ (s.src n).link = true
      · rw [seeRaise_of_raised known new raised]
      · rw [not_or, Bool.not_eq_true] at raised
        rw [seeRaise_of_broken known new raised.1 raised.2]
        exact faultRecord_keeps Fcr.epoch (fun _ _ _ _ => rfl) _ _ _ _ _ _ _ _ _ _

theorem seeReturn_epoch : (seeReturn s n).fcr.epoch = s.fcr.epoch := by
  cases error : (s.src n).inErr
  · rw [seeReturn_of_well error]
  · exact epoch_of_bare (s := s.setSrc n _) (seeReturn_bare error)

theorem raiseEnc_epoch : (raiseEnc s n enc detail acc).fcr.epoch = s.fcr.epoch := by
  by_cases unknown : srcInfo n = none
  · rw [raiseEnc_of_unknown unknown]
  · by_cases seen : Seen s n
    · rw [(raiseEnc_of_known unknown).1 seen, seeRaise_epoch]
      rfl
    · rw [(raiseEnc_of_known unknown).2 seen]
      rfl

theorem returnSrc_epoch : (returnSrc s n).fcr.epoch = s.fcr.epoch := by
  by_cases well : SrcWell s n
  · rw [returnSrc_of_well well]
  · by_cases seen : Seen s n
    · rw [(returnSrc_of_unwell well).1 seen, seeReturn_epoch]
      rfl
    · rw [(returnSrc_of_unwell well).2 seen]
      rfl

end

end Sys2Proof.Machine
end

section
/-! SUPPORT. Reactions, refused transactions and the rows of the fault collector (01 R21, R23; 14 R461 to R467, R471,
R473, R485). -/

namespace Sys2Proof.Machine

/-! ## Reactions (R463) -/

theorem reactsOf_of_low {n v d : Nat} (low : v ≤ 2) : reactsOf n v d = [] := by
  unfold reactsOf
  rw [if_neg (by omega), if_neg (by omega)]

/-- FAILOVER of a source that is neither FSRC4 nor a loop's: the function it names is stopped. -/
theorem reactsOf_failover {n f d : Nat} (watchdog : n ≠ 4) (loop : n < 16 ∨ 18 < n) (named : srcFid n = some f) :
    reactsOf n 3 d = [.stopFn f] := by
  unfold reactsOf
  rw [if_neg (by decide), if_pos rfl, if_neg watchdog, if_neg (by omega), named]

theorem reactsOf_loop {n d : Nat} (low : 16 ≤ n) (high : n ≤ 18) : reactsOf n 3 d = [.stopLoopGroup d] := by
  unfold reactsOf
  rw [if_neg (by decide), if_pos rfl, if_neg (by omega), if_pos ⟨low, high⟩]

section
variable {s : State} {n : Nat}

theorem carry_stopLoopGroup_of_grouped {g : Nat} (grouped : appGroup s n = some g) :
    carry s (.stopLoopGroup n) = fnFault (gFid g) s := by
  unfold carry
  dsimp only
  rw [grouped]

theorem carry_stopLoopGroup_of_ungrouped (ungrouped : appGroup s n = none) : carry s (.stopLoopGroup n) = s := by
  unfold carry
  dsimp only
  rw [ungrouped]

theorem carry_coreReset_of_first (first : s.boot.coreDue = none) :
    carry s (.coreReset n) = { s with boot := { s.boot with coreDue := some n } } :=
  if_pos (by rw [first]; rfl)

theorem carry_coreReset_of_due (due : s.boot.coreDue ≠ none) : carry s (.coreReset n) = s :=
  if_neg (by rwa [Option.isNone_iff_eq_none])

/-! ## What a raising row notes in the blocks -/

theorem noteCells_of_other {d : Nat} (other : n ≠ 133) : noteCells n d s = s := if_neg other

theorem noteJournal_of_other {d : Nat} (other : ¬ (n = 192 ∧ d = 5)) : noteJournal n d s = s := if_neg other

/-- An encoding that both rails have held for three cycles, of a source, other than 01 (01 R27, R461). -/
abbrev RaisesSource (n : Nat) (enc : Rails) : Prop :=
  3 ≤ enc.held ∧ n < 256 ∧ (enc.code = 0 ∨ enc.code = 2 ∨ enc.code = 3)

theorem settled_iff {held : Nat} : settled held = true ↔ 3 ≤ held := decide_eq_true_iff

theorem raisesSource_iff {enc : Rails} :
    (settled enc.held = true ∧ n < 256 ∧ (enc.code = 0 ∨ enc.code = 2 ∨ enc.code = 3)) ↔ RaisesSource n enc := by
  rw [settled_iff]

/-! ## Links -/

theorem linkRestores_iff {enc : Rails} : (settled enc.held && (s.src n).link) = true ↔ 3 ≤ enc.held ∧ (s.src n).link = true := by
  rw [Bool.and_eq_true, settled_iff]

theorem xFaultLinkRestored_of_restored {enc : Rails} (ok : 3 ≤ enc.held ∧ (s.src n).link = true) :
    xFaultLinkRestored n enc s = if enc.code = 2 then linkToError s n else if enc.code = 1 then returnSrc s n else s :=
  if_pos (linkRestores_iff.mpr ok)

theorem xFaultLinkRestored_of_other {enc : Rails}
    (other : ¬ (3 ≤ enc.held ∧ (s.src n).link = true) ∨ (enc.code ≠ 1 ∧ enc.code ≠ 2)) : xFaultLinkRestored n enc s = s := by
  by_cases ok : 3 ≤ enc.held ∧ (s.src n).link = true
  · obtain ⟨one, two⟩ := other.resolve_left (not_not.mpr ok)
    rw [xFaultLinkRestored_of_restored ok, if_neg two, if_neg one]
  · exact if_neg (mt linkRestores_iff.mp ok)

end

/-! ## The firewall (01 Table 1.3) -/

section
variable {s : State} {i tag a ad : Nat}

theorem storing_iff : storing a = false ↔ a ≠ 2 ∧ a ≠ 4 := by
  unfold storing
  rw [decide_eq_false_iff_not, not_or]

theorem passes_of_active (active : (s.pair i).role = .active) : passes s i tag a ad = true ↔ tag = s.fcr.epoch := by
  unfold passes
  rw [active, decide_eq_true_iff]

theorem passes_of_spare (spare : (s.pair i).role = .spare) : passes s i tag a ad = true ↔
    tag = s.fcr.epoch ∧ ((a ≠ 2 ∧ a ≠ 4) ∨ Config.inOwnRegion i ad = true) := by
  unfold passes
  rw [spare, Bool.and_eq_true, decide_eq_true_iff, Bool.or_eq_true, Bool.not_eq_true', storing_iff]

theorem passes_of_fenced (fenced : (s.pair i).role = .fenced) : passes s i tag a ad = false := by
  unfold passes
  rw [fenced]

theorem passes_of_quarantine (quarantine : (s.pair i).role = .quarantine) : passes s i tag a ad = true ↔
    (0x40B00000 ≤ ad ∧ ad ≤ 0x40BFFFFF) ∨ Config.inTestRegion i ad = true := by
  unfold passes
  rw [quarantine, Bool.or_eq_true, decide_eq_true_iff]

/-- A transaction that its pair's role does not pass. -/
abbrev Drops (s : State) (i tag a ad : Nat) : Prop := i < 4 ∧ 2 ≤ s.boot.phase ∧ passes s i tag a ad = false

/-- One dropped for its tag, or because its pair is FENCED. -/
abbrev Stale (s : State) (i tag : Nat) : Prop :=
  (s.pair i).role = .fenced ∨ ((s.pair i).role ≠ .quarantine ∧ tag ≠ s.fcr.epoch)

theorem xFirewallDrop_of_drops (drops : Drops s i tag a ad) : xFirewallDrop i tag a ad s =
    if Stale s i tag then returnSrc (raiseEnc s 6 2 (i + 1) (i + 1, a, ad)) 6
    else s.setSrc 6 { s.src 6 with count := satN 4 ((s.src 6).count + 1) } := if_pos drops

end

/-! ## Accesses (01 Tables 1.4, 1.5) -/

section
variable {s : State} {m a ad : Nat}

theorem reaches_of_nowhere (nowhere : regionBase ad = none) : reaches s m a ad = false := by
  unfold reaches
  rw [nowhere]

/-- A store to NOR. -/
abbrev NorStore (a ad : Nat) : Prop := regionBase ad = some 0x80000000 ∧ (a = 2 ∨ a = 4)

theorem norStore_iff {b : Nat} (region : regionBase ad = some b) :
    (!decide (b = 0x80000000) || !storing a) = true ↔ ¬ NorStore a ad := by
  unfold NorStore storing
  rw [region, Option.some.injEq, ← Bool.not_and, Bool.not_eq_true', Bool.and_eq_false_iff, not_and_or,
    decide_eq_false_iff_not, decide_eq_false_iff_not]

section
variable (somewhere : regionBase ad ≠ none)
include somewhere

theorem reaches_pair (low : 1 ≤ m) (high : m ≤ 4) : reaches s m a ad = true ↔ ¬ NorStore a ad := by
  obtain ⟨b, region⟩ := Option.ne_none_iff_exists'.mp somewhere
  rw [← norStore_iff region]
  unfold reaches
  rw [region]
  have processor : decide (1 ≤ m ∧ m ≤ 4) = true := decide_eq_true ⟨low, high⟩
  interval_cases m <;> rfl

theorem reaches_sram (master : m = 0x10 ∨ m = 0x15) : reaches s m a ad = true ↔ regionBase ad = some 0x10000000 := by
  obtain ⟨b, region⟩ := Option.ne_none_iff_exists'.mp somewhere
  unfold reaches
  rw [region, Option.some.injEq]
  obtain rfl | rfl := master <;> exact decide_eq_true_iff

theorem reaches_memory (master : m = 0x11 ∨ m = 0x12 ∨ m = 0x14 ∨ m = 0x16) :
    reaches s m a ad = true ↔ regionBase ad = some 0x10000000 ∨ regionBase ad = some 0x100000000 := by
  obtain ⟨b, region⟩ := Option.ne_none_iff_exists'.mp somewhere
  unfold reaches
  rw [region, Option.some.injEq, Option.some.injEq]
  obtain rfl | rfl | rfl | rfl := master <;> exact (Bool.or_eq_true ..).to_iff.trans (or_congr decide_eq_true_iff decide_eq_true_iff)

theorem reaches_guidance : reaches s 0x13 a ad = true ↔
    regionBase ad = some 0x10000000 ∨ regionBase ad = some 0x100000000 ∨ regionBase ad = some 0x40700000 := by
  obtain ⟨b, region⟩ := Option.ne_none_iff_exists'.mp somewhere
  unfold reaches
  rw [region, Option.some.injEq, Option.some.injEq, Option.some.injEq]
  simp [or_assoc]

theorem reaches_loader : reaches s 0x17 a ad = true ↔ ¬ NorStore a ad ∨ updating s = true := by
  obtain ⟨b, region⟩ := Option.ne_none_iff_exists'.mp somewhere
  rw [← norStore_iff region]
  unfold reaches
  rw [region]
  exact (Bool.or_eq_true ..).to_iff

theorem reaches_bench : reaches s 0x1F a ad = true ↔ s.boot.bench = true := by
  obtain ⟨b, region⟩ := Option.ne_none_iff_exists'.mp somewhere
  unfold reaches
  rw [region]
  exact Iff.rfl

end

end

/-! ## Checkpoints, watchdog and heartbeat (R467, R471, R483) -/

section
variable {s : State}

abbrev CheckpointDue (s : State) (i : Nat) : Prop :=
  i < 4 ∧ fwRuns s = true ∧ (s.pair i).role = .active ∧ ∀ t, (s.pair i).checkpoint = some t → t + 250000 ≤ s.mono

theorem checkpointDue_iff {i : Nat} : (i < 4 ∧ fwRuns s = true ∧ (s.pair i).role = .active ∧
    (match (s.pair i).checkpoint with | some t => s.past t (msT 1) | none => true) = true) ↔ CheckpointDue s i := by
  refine and_congr_right fun _ => and_congr_right fun _ => and_congr_right fun _ => ?_
  cases (s.pair i).checkpoint with
  | none => exact ⟨fun _ t h => (nomatch h), fun _ => rfl⟩
  | some t => exact (past_iff s t (msT 1)).trans ⟨fun due _ h => Option.some.inj h ▸ due, fun due => due t rfl⟩

/-- A master's last service is the earliest of a list's. -/
theorem foldl_earliest {α : Type} (f : α → Nat) : ∀ (l : List α) (b : α),
    l.foldl (fun m i => if f i < f m then i else m) b ∈ b :: l ∧
      ∀ j ∈ b :: l, f (l.foldl (fun m i => if f i < f m then i else m) b) ≤ f j
  | [], b => ⟨List.mem_cons_self, fun j here => by rw [List.mem_singleton.mp here]; rfl⟩
  | i :: l, b => by
    obtain ⟨mem, least⟩ := foldl_earliest f l (if f i < f b then i else b)
    have best : f (if f i < f b then i else b) ≤ f i ∧ f (if f i < f b then i else b) ≤ f b := by
      split_ifs with h
      · exact ⟨le_rfl, h.le⟩
      · exact ⟨Nat.le_of_not_lt h, le_rfl⟩
    have among : (if f i < f b then i else b) ∈ b :: i :: l := by split_ifs <;> simp
    rw [List.foldl_cons]
    constructor
    · obtain here | later := List.mem_cons.mp mem
      · rw [here]
        exact among
      · exact List.mem_cons_of_mem b (List.mem_cons_of_mem i later)
    · have start := least _ List.mem_cons_self
      rintro j here
      obtain rfl | here := List.mem_cons.mp here
      · exact start.trans best.2
      · obtain rfl | here := List.mem_cons.mp here
        · exact start.trans best.1
        · exact least j (List.mem_cons_of_mem _ here)

/-- The active pairs. -/
def servingPairs (s : State) : List Nat := (List.range 4).filter fun i => decide ((s.pair i).role = .active)

theorem mem_servingPairs {i : Nat} : i ∈ servingPairs s ↔ i < 4 ∧ (s.pair i).role = .active := by
  unfold servingPairs
  rw [List.mem_filter, List.mem_range, decide_eq_true_iff]

/-- The late pair is an active one that no other has outwaited. -/
theorem latePair_spec {i : Nat} (bound : i < 4) (active : (s.pair i).role = .active) :
    (s.pair (latePair s)).role = .active ∧ (s.pair (latePair s)).serviced ≤ (s.pair i).serviced := by
  have here := mem_servingPairs.mpr ⟨bound, active⟩
  have nonempty : servingPairs s ≠ [] := List.ne_nil_of_mem here
  have head : (servingPairs s).headD 0 ∈ servingPairs s := by
    obtain ⟨j, l, pairs⟩ := List.exists_cons_of_ne_nil nonempty
    rw [pairs]
    exact List.mem_cons_self
  obtain ⟨mem, least⟩ := foldl_earliest (fun j => (s.pair j).serviced) (servingPairs s) ((servingPairs s).headD 0)
  have late : latePair s ∈ servingPairs s := (List.mem_cons.mp mem).elim (fun first => (show latePair s = _ from first) ▸ head) id
  exact ⟨(mem_servingPairs.mp late).2, least i (List.mem_cons_of_mem _ here)⟩

/-- No active pair has serviced the watchdog for 50 ms, in a power state in which it runs. -/
abbrev WatchdogLate (s : State) : Prop := fwRuns s = true ∧ s.pwr.state ≤ 1 ∧
  ∀ i, i < 4 → (s.pair i).role = .active → (s.pair i).serviced + 12500000 ≤ s.mono

theorem watchdogLate_iff : (fwRuns s && decide (s.pwr.state ≤ 1) &&
    (servingPairs s).all fun i => s.past (s.pair i).serviced (msT 50)) = true ↔ WatchdogLate s := by
  rw [Bool.and_eq_true, Bool.and_eq_true, decide_eq_true_iff, List.all_eq_true, and_assoc]
  refine and_congr_right fun _ => and_congr_right fun _ => forall_congr' fun i => ?_
  rw [mem_servingPairs, and_imp]
  exact forall₂_congr fun _ _ => past_iff s _ _

end

end Sys2Proof.Machine

namespace Sys2Proof

open Machine

/-- Settles O55: the raising and the return of a source by their rules, and each row by its condition. -/
theorem faultCollection : Obligations.FaultCollection := by
  unfold Obligations.FaultCollection
  refine ⟨fun n detail m a ad enc s => ?row, fun n m a ad => rfl, fun n enc detail acc s => ?encoding,
    fun n enc detail acc s known => ?raising, fun n d => rfl, fun n v d => reactsOf_of_low,
    fun d => ⟨rfl, fun n => reactsOf_loop⟩, fun n f d => reactsOf_failover, fun n s => ?reactions, fun r s => ?returned,
    fun n enc s => ?restored, fun n s => ?pairs, fun n s => ?returning, fun s => ?squall, fun i tag a ad s => ?firewall,
    fun i tag a ad s => ⟨passes_of_active, passes_of_spare, passes_of_fenced, passes_of_quarantine⟩,
    fun m a ad s => ?access, fun i s => ?service, fun c s => ?checkpoint, fun s => ?watchdog⟩
  case row =>
    refine ⟨fun ok => next_settle_congr (if_pos (raisesSource_iff.mpr ok)),
      fun other => next_settle_congr (if_neg (mt raisesSource_iff.mp other)), fun cells journal => ?_,
      fun panel journal => ?_, fun cells => ?_⟩
    · rw [noteCells_of_other cells, noteJournal_of_other journal]
    · subst panel journal
      rfl
    · subst cells
      rfl
  case encoding =>
    exact ⟨raiseEnc_of_unknown, fun known => (raiseEnc_of_known known).1, fun known => (raiseEnc_of_known known).2⟩
  case raising =>
    have books (new : (s.src n).inErr = false) := seeRaise_books (enc := enc) (detail := detail) (acc := acc) known new
    have capture (new : (s.src n).inErr = false) :
        ((seeRaise s n enc detail acc).fcr.cap, (seeRaise s n enc detail acc).fcr.later) =
          if severity s n = 0 then (s.fcr.cap, s.fcr.later)
          else if s.fcr.cap = none then (some (capOf s n detail acc), s.fcr.later)
          else (s.fcr.cap, satN 4 (s.fcr.later + 1)) := by
      rw [(books new).cap, (books new).later, raisedWoken_capture]
    refine ⟨fun new => ((books new).src n).trans raisedWoken_src, fun new log => ?_, fun new counts clear => ?_,
      fun new counts taken => ?_, fun new => (books new).react.trans (congrArg (· ++ _) raisedWoken_react),
      fun new => (books new).winStart, fun new here => (books new).winCount.trans (if_pos here),
      fun new elsewhere => (books new).winCount.trans (if_neg elsewhere),
      fun new here other own => seeRaise_of_recorded known new here other own,
      fun new here other full low => seeRaise_of_squall known new here other full low,
      fun old broken whole => seeRaise_of_broken known old broken whole, fun old raised => seeRaise_of_raised known old raised⟩
    · exact Prod.ext_iff.mp ((capture new).trans (if_pos log))
    · exact Prod.ext_iff.mp ((capture new).trans ((if_neg counts).trans (if_pos clear)))
    · exact Prod.ext_iff.mp ((capture new).trans ((if_neg counts).trans (if_neg taken)))
  case reactions =>
    exact ⟨rfl, rfl, rfl, rfl, fun g => carry_stopLoopGroup_of_grouped, carry_stopLoopGroup_of_ungrouped,
      carry_coreReset_of_first, carry_coreReset_of_due⟩
  case returned =>
    exact ⟨fun held => next_settle_congr (if_pos (settled_iff.mpr held)),
      fun short => next_settle_congr (if_neg (mt settled_iff.mp (Nat.not_le.mpr short)))⟩
  case restored =>
    refine ⟨fun ok two => next_settle_congr ?_, fun ok one => next_settle_congr ?_,
      fun other => next_settle_congr (xFaultLinkRestored_of_other other)⟩
    · exact (xFaultLinkRestored_of_restored ok).trans (if_pos two)
    · exact (xFaultLinkRestored_of_restored ok).trans ((if_neg (by omega)).trans (if_pos one))
  case pairs =>
    exact ⟨returnSrc_of_well, fun unwell => (returnSrc_of_unwell unwell).1, fun unwell => (returnSrc_of_unwell unwell).2,
      linkToError_cases.1, linkToError_cases.2⟩
  case returning =>
    refine ⟨seeReturn_of_well, fun error => ?_, seeRestore_of_broken, seeRestore_of_whole⟩
    have bare := seeReturn_bare error
    exact ⟨(src_of_bare bare n).trans (setSrc_src s n _), react_of_bare (s := s.setSrc n _) bare,
      cap_of_bare (s := s.setSrc n _) bare, fun room here => seeReturn_recNum error here room⟩
  case squall =>
    obtain ⟨num, pos, log, books, left, recorded⟩ := squallEnd_fcr s
    refine ⟨fun ended => next_settle_congr (if_pos ended), fun runs => next_settle_congr (if_neg (Nat.not_lt.mpr runs)), ?_⟩
    rw [books]
    exact ⟨rfl, rfl, rfl, rfl, left, fun none => recorded (not_not.mp none)⟩
  case firewall =>
    exact ⟨fun drops stale => next_settle_congr ((xFirewallDrop_of_drops drops).trans (if_pos stale)),
      fun drops fresh => next_settle_congr ((xFirewallDrop_of_drops drops).trans (if_neg fresh)),
      fun passed => next_settle_congr (if_neg passed)⟩
  case access =>
    refine ⟨fun ok => next_settle_congr (if_pos ok), fun other => next_settle_congr (if_neg other), reaches_of_nowhere,
      fun somewhere => ⟨fun low high => reaches_pair somewhere low high, fun master => reaches_sram somewhere master,
        fun master => reaches_memory somewhere master, fun guidance => guidance ▸ reaches_guidance somewhere,
        fun loader => loader ▸ reaches_loader somewhere, fun bench => bench ▸ reaches_bench somewhere⟩⟩
  case service =>
    have beats : (i < 4 ∧ fwRuns s = true ∧ s.pwr.state ≤ 1 ∧ (s.pair i).role = .active) ↔
        (i < 4 ∧ fwRuns s = true ∧ (s.pair i).role = .active) ∧ s.pwr.state ≤ 1 := by
      rw [and_comm (a := s.pwr.state ≤ 1), and_assoc, and_assoc]
    exact ⟨fun active => congrArg Host.Outcome.next (if_pos active),
      fun other => congrArg Host.Outcome.next (if_neg other),
      fun spins => congrArg Host.Outcome.next (if_pos (beats.mpr spins)),
      fun other => congrArg Host.Outcome.next (if_neg (mt beats.mp other))⟩
  case checkpoint =>
    exact ⟨fun ok => congrArg Host.Outcome.next (if_pos (checkpointDue_iff.mpr ok)),
      fun other => congrArg Host.Outcome.next (if_neg (mt checkpointDue_iff.mp other))⟩
  case watchdog =>
    have quiet : (s.fcr.aliveOn = true ∧ s.past s.fcr.beat (msT 5) = true) ↔
        s.fcr.aliveOn = true ∧ s.fcr.beat + 1250000 ≤ s.mono := and_congr_right fun _ => past_iff s _ _
    exact ⟨fun ok => congrArg Host.Outcome.next (if_pos (quiet.mpr ok)),
      fun other => congrArg Host.Outcome.next (if_neg (mt quiet.mp other)),
      (next_settle_ite_of_guard watchdogLate_iff).1, (next_settle_ite_of_guard watchdogLate_iff).2,
      fun i bound active => latePair_spec bound active⟩

end Sys2Proof
end

section
/-! SUPPORT. Each function's state under the changes of the others, and what a fault's reaction leaves of it (01 R29, R33). -/

namespace Sys2Proof.Machine

theorem fn_congr {s t : State} (same : t.fns = s.fns) (j : Nat) : t.fn j = s.fn j := by
  unfold State.fn
  rw [same]

theorem st_of_fn {s t : State} {j : Nat} (same : t.fn j = s.fn j) : t.st j = s.st j := congrArg Fn.st same

/-! ## One function's change leaves the others -/

section
variable {f j : Nat} (other : f ≠ j) (s : State)
include other

theorem changeState_fn_of_ne (n : FnState) : (changeState s f n).fn j = s.fn j := by
  unfold changeState
  dsimp only
  split
  · rfl
  · exact (fn_congr (fns_of_off (emit_off _ _ _ _ 32 rfl) rfl) j).trans (setFn_fn_of_ne _ _ other)

theorem cancelPend_fn_of_ne : (cancelPend s f).fn j = s.fn j := by
  unfold cancelPend
  split
  · rfl
  · exact (fn_congr (fns_of_off (startOutcome_off _ _ _ _ 32 rfl) rfl) j).trans (setFn_fn_of_ne _ _ other)

theorem faultStopping_fn_of_ne : (faultStopping s f).fn j = s.fn j :=
  (setFn_fn_of_ne _ _ other).trans (cancelPend_fn_of_ne other s)

omit other in
theorem restaged_fn : (if s.st f = .off then s else restage s f).fn j = s.fn j := by split <;> rfl

theorem blockReset_fn_of_ne : (blockReset s f).fn j = s.fn j := by
  unfold blockReset
  rw [changeState_fn_of_ne other, setFn_fn_of_ne _ _ other, restaged_fn, cancelPend_fn_of_ne other]

end

/-! ## A fault's reaction -/

section
variable {s : State} {g k j : Nat}

theorem fns_grpSafed : (if (s.grp g).committed then grpSafe s g else s).fns = s.fns := by
  split
  · exact fns_of_off (grpSafe_off s g 8192 rfl) rfl
  · rfl

theorem grpFault_fn_of_ne (other : gFid g ≠ j) : (grpFault s g).fn j = s.fn j := by
  unfold grpFault
  split
  case h_4 => exact faultStopping_fn_of_ne other s
  case h_5 => rfl
  all_goals exact (changeState_fn_of_ne other _ _).trans (fn_congr fns_grpSafed j)

theorem grpFault_st (live : s.st (gFid g) = .starting ∨ s.st (gFid g) = .running) :
    (grpFault s g).st (gFid g) = .faulted := by
  unfold grpFault
  obtain starting | running := live
  · rw [starting]
    exact changeState_st_new _ _ _
  · rw [running]
    exact changeState_st_new _ _ _

theorem chanSafe_fn : (chanSafe s k).fn j = s.fn j := fn_congr (fns_of_off (chanSafe_off s k 32864 rfl) rfl) j

theorem chanFault_fn_of_ne (other : chFid k ≠ j) : (chanFault s k).fn j = s.fn j := by
  unfold chanFault
  split
  case h_3 => exact faultStopping_fn_of_ne other s
  case h_4 => rfl
  all_goals exact (changeState_fn_of_ne other _ _).trans chanSafe_fn

theorem chanSafeStop_fn_of_ne (other : chFid k ≠ j) : (chanSafeStop s k).fn j = s.fn j := by
  unfold chanSafeStop
  split
  · exact chanSafe_fn
  · exact chanFault_fn_of_ne other

theorem chanSafeStop_st (live : s.st (chFid k) = .starting ∨ s.st (chFid k) = .running) :
    (chanSafeStop s k).st (chFid k) = .faulted := by
  unfold chanSafeStop chanFault
  obtain starting | running := live
  · rw [if_neg (by rw [starting]; decide), starting]
    exact changeState_st_new _ _ _
  · rw [if_neg (by rw [running]; decide), running]
    exact changeState_st_new _ _ _

theorem planFaulted_fn_of_ne (other : plannerFid ≠ j) : (planFaulted s).fn j = s.fn j :=
  (fn_congr (fns_of_off (emitFault_off _ _ _ _ 96 rfl) rfl) j).trans (changeState_fn_of_ne other _ _)

theorem planFault_fn_of_ne (other : plannerFid ≠ j) : (planFault s).fn j = s.fn j := by
  unfold planFault
  split
  case h_3 => exact faultStopping_fn_of_ne other s
  case h_4 => rfl
  all_goals exact planFaulted_fn_of_ne other

theorem planFault_st (live : s.st plannerFid = .starting ∨ s.st plannerFid = .running) :
    (planFault s).st plannerFid = .faulted := by
  unfold planFault
  obtain starting | running := live
  · rw [starting]
    exact planFaulted_st s
  · rw [running]
    exact planFaulted_st s

theorem idle_cases {t : FnState} (idle : t.idle = true) : t = .off ∨ t = .config := by
  cases t <;> simp_all [FnState.idle]

theorem planFault_of_idle (idle : (s.st plannerFid).idle = true) : planFault s = s := by
  unfold planFault
  obtain off | config := idle_cases idle
  · rw [off]
  · rw [config]

theorem guidLost_fn_of_ne {c : Nat} (other : guidFid ≠ j) : (guidLost s c).fn j = s.fn j :=
  (fn_congr (fns_of_off (raise_off _ _ _ 96 rfl) rfl) j).trans
    ((fn_congr (fns_of_off (emitFault_off _ _ _ _ 96 rfl) rfl) j).trans (changeState_fn_of_ne other _ _))

theorem guidFault_fn_of_ne (other : guidFid ≠ j) : (guidFault s).fn j = s.fn j := by
  unfold guidFault
  split
  case h_3 => exact faultStopping_fn_of_ne other s
  case h_4 => rfl
  all_goals exact guidLost_fn_of_ne other

theorem guidFault_st (live : s.st guidFid = .starting ∨ s.st guidFid = .running) :
    (guidFault s).st guidFid = .faulted := by
  unfold guidFault
  obtain starting | running := live
  · rw [starting]
    exact guidLost_st s 0
  · rw [running]
    exact guidLost_st s 0

theorem guidFault_of_idle (idle : (s.st guidFid).idle = true) : guidFault s = s := by
  unfold guidFault
  obtain off | config := idle_cases idle
  · rw [off]
  · rw [config]

end

/-! ## All functions of a kind -/

section
variable {f : State → Nat → State} {fid : Nat → Nat} (apart : ∀ t i j, fid i ≠ j → (f t i).fn j = t.fn j)
include apart

/-- What touches each function of a kind leaves every other function. -/
theorem forN_fn_of_ne {j k : Nat} (other : ∀ i, i < k → fid i ≠ j) (s : State) : (forN k f s).fn j = s.fn j := by
  induction k with
  | zero => rfl
  | succ k ih => rw [forN_succ, apart _ _ _ (other k (Nat.lt_succ_self k)), ih fun i low => other i (low.trans (Nat.lt_succ_self k))]

/-- Each function of a kind ends as its own turn leaves it. -/
theorem forN_fn_of_lt (inj : ∀ i j, fid i = fid j → i = j) {k i : Nat} (turn : i < k) (s : State) :
    ∃ t, t.fn (fid i) = s.fn (fid i) ∧ (forN k f s).fn (fid i) = (f t i).fn (fid i) := by
  have before (k : Nat) (late : k ≤ i) : (forN k f s).fn (fid i) = s.fn (fid i) := by
    induction k with
    | zero => rfl
    | succ k ih =>
      rw [forN_succ, apart _ _ _ fun same => absurd (inj _ _ same) (by omega), ih (by omega)]
  refine ⟨forN i f s, before i le_rfl, ?_⟩
  induction k with
  | zero => exact absurd turn (Nat.not_lt_zero i)
  | succ k ih =>
    rw [forN_succ]
    obtain rfl | earlier := Nat.eq_or_lt_of_le (Nat.le_of_lt_succ turn)
    · rfl
    · rw [apart _ _ _ fun same => absurd (inj _ _ same) (by omega), ih earlier]

end

end Sys2Proof.Machine
end

section
/-! SUPPORT. What a safe stop leaves of each function, and what a declaration, a restore and a self-test leave of the
pairs and the epoch (14 R478, R479, R481 to R486). -/

namespace Sys2Proof.Machine

/-! ## Safe stop -/

section
variable {s : State} {n : Nat}

/-- The safe actions of every loop group and channel, or the reset that takes their place (R478). -/
def safeActions (n : Nat) (s : State) : State :=
  if n = 20 then actuationReset 2 s else if n = 51 then actuationReset 3 s else forN 24 chanSafeStop (forN 64 grpFault s)

/-- The actions of a safe stop on all functions. -/
def safeActed (n : Nat) (s : State) : State := guidFault (planFault (safeActions n s))

/-- The sources that hold a safe stop once one more has ordered it. -/
def holdersWith (t : State) (n : Nat) : List Nat :=
  if t.fcr.ssSrcs.contains n then t.fcr.ssSrcs else t.fcr.ssSrcs ++ [n]

theorem mem_holdersWith (t : State) (n : Nat) : n ∈ holdersWith t n := by
  unfold holdersWith
  split
  case isTrue held => exact List.contains_iff_mem.mp held
  case isFalse => exact List.mem_append_right _ (List.mem_singleton_self n)

/-- SAFE_STOPPED begins, with its cause (R478). -/
def stopBegun (t : State) (n : Nat) : State :=
  emitFault { t with fcr := { t.fcr with safeStopped := true, ssCause := n, ssSrcs := holdersWith t n } } 0x0D02 0xFFFF
    (b1 1 ++ b1 n ++ zeros 2)

theorem safeStop_of_first (first : (safeActed n s).fcr.safeStopped = false) :
    safeStop n s = stopBegun (safeActed n s) n := if_neg (ne_true_of_eq_false first)

theorem safeStop_of_further (further : (safeActed n s).fcr.safeStopped = true) : safeStop n s =
    { safeActed n s with fcr := { (safeActed n s).fcr with ssSrcs := holdersWith (safeActed n s) n } } :=
  if_pos further

/-- A safe stop ends in SAFE_STOPPED, held by its source. -/
theorem safeStop_holds (n : Nat) (s : State) :
    (safeStop n s).fcr.safeStopped = true ∧ n ∈ (safeStop n s).fcr.ssSrcs := by
  cases held : (safeActed n s).fcr.safeStopped
  · rw [safeStop_of_first held]
    unfold stopBegun
    obtain ⟨pos, log, books⟩ := emitFault_fcr { safeActed n s with fcr := { (safeActed n s).fcr with
      safeStopped := true, ssCause := n, ssSrcs := holdersWith (safeActed n s) n } } 0x0D02 0xFFFF
      (b1 1 ++ b1 n ++ zeros 2)
    rw [books]
    exact ⟨rfl, mem_holdersWith _ n⟩
  · rw [safeStop_of_further held]
    exact ⟨held, mem_holdersWith _ n⟩

theorem safeStop_fn (j : Nat) : (safeStop n s).fn j = (safeActed n s).fn j := by
  cases held : (safeActed n s).fcr.safeStopped
  · rw [safeStop_of_first held]
    exact fn_congr (fns_of_off (emitFault_off _ _ _ _ 96 rfl) rfl) j
  · rw [safeStop_of_further held]
    rfl

/-! ### What the actions leave of a function -/

/-- The loop groups' safe actions leave every function but theirs. -/
theorem groupsSafe_fn {f : Nat} (other : ∀ g, g < 64 → gFid g ≠ f) (t : State) : (forN 64 grpFault t).fn f = t.fn f :=
  forN_fn_of_ne (fun _ _ _ => grpFault_fn_of_ne) other t

/-- The channels' safe actions leave every function but theirs. -/
theorem chansSafe_fn {f : Nat} (other : ∀ k, k < 24 → chFid k ≠ f) (t : State) : (forN 24 chanSafeStop t).fn f = t.fn f :=
  forN_fn_of_ne (fun _ _ _ => chanSafeStop_fn_of_ne) other t

/-- Planner and guidance are no group and no channel. -/
theorem planGuid_apart {f : Nat} (own : f = plannerFid ∨ f = guidFid) :
    (∀ g, g < 64 → gFid g ≠ f) ∧ (∀ k, k < 24 → chFid k ≠ f) := by
  unfold gFid chFid
  unfold plannerFid guidFid at own
  exact ⟨fun g _ => by omega, fun k _ => by omega⟩

theorem chanReset_fn_of_ne {k j : Nat} (other : chFid k ≠ j) : (chanReset s k).fn j = s.fn j := by
  unfold chanReset
  refine (blockReset_fn_of_ne other _).trans (fn_congr ?_ j)
  rw [setStud_fns, setDie_fns]
  exact fns_of_off (chanDo_off s k _ 32864 (fun t => by simp) rfl) rfl

theorem actuationReset_fn {f : Nat} (own : f = plannerFid ∨ f = guidFid) (c : Nat) :
    (actuationReset c s).fn f = s.fn f := by
  obtain ⟨group, chan⟩ := planGuid_apart own
  have can (t : State) : (forN 10 canLoopStop t).fns = t.fns :=
    fns_of_off (forN_off 10 _ t 33554432 fun t k => canLoopStop_off t k _ rfl) rfl
  unfold actuationReset cleReset
  refine (fn_congr (fns_of_off (pulse_off _ 19 c 96 rfl) rfl) f).trans ((fn_congr (can _) f).trans ?_)
  have groups (t : State) : (forN 64 grpReset t).fn f = t.fn f :=
    forN_fn_of_ne (fun t _ _ other => blockReset_fn_of_ne other t) group t
  rw [forN_fn_of_ne (fun _ _ _ => chanReset_fn_of_ne) chan]
  exact groups _

/-- The safe actions, or the reset in their place, leave planner and guidance alone. -/
theorem safeActions_fn {f : Nat} (own : f = plannerFid ∨ f = guidFid) (n : Nat) :
    (safeActions n s).fn f = s.fn f := by
  obtain ⟨group, chan⟩ := planGuid_apart own
  unfold safeActions
  split_ifs
  · exact actuationReset_fn own 2
  · exact actuationReset_fn own 3
  · rw [chansSafe_fn chan, groupsSafe_fn group]

theorem safeActions_of_other (supervisor : n ≠ 20) (domain : n ≠ 51) :
    safeActions n s = forN 24 chanSafeStop (forN 64 grpFault s) := by
  unfold safeActions
  rw [if_neg supervisor, if_neg domain]

/-- A function is STARTING or RUNNING. -/
abbrev LiveFn (s : State) (f : Nat) : Prop := s.st f = .starting ∨ s.st f = .running

theorem liveFn_congr {s t : State} {f : Nat} (same : t.fn f = s.fn f) : LiveFn t f ↔ LiveFn s f := by
  unfold LiveFn
  rw [st_of_fn same]

section
variable (supervisor : n ≠ 20) (domain : n ≠ 51)
include supervisor domain

theorem safeActions_group {g : Nat} (group : g < 64) (live : LiveFn s (gFid g)) :
    (safeActions n s).st (gFid g) = .faulted := by
  obtain ⟨t, same, turn⟩ := forN_fn_of_lt (f := grpFault) (fid := gFid) (fun _ _ _ => grpFault_fn_of_ne)
    (fun i j h => Nat.add_left_cancel h) group s
  have chans (k : Nat) (_ : k < 24) : chFid k ≠ gFid g := by
    unfold chFid gFid
    omega
  rw [safeActions_of_other supervisor domain, st_of_fn ((chansSafe_fn chans _).trans turn)]
  exact grpFault_st ((liveFn_congr same).mpr live)

theorem safeActions_chan {k : Nat} (chan : k < 24) (live : LiveFn s (chFid k)) :
    (safeActions n s).st (chFid k) = .faulted := by
  have groups (g : Nat) (_ : g < 64) : gFid g ≠ chFid k := by
    unfold chFid gFid
    omega
  obtain ⟨t, same, turn⟩ := forN_fn_of_lt (f := chanSafeStop) (fid := chFid) (fun _ _ _ => chanSafeStop_fn_of_ne)
    (fun i j h => Nat.add_left_cancel h) chan (forN 64 grpFault s)
  rw [safeActions_of_other supervisor domain, st_of_fn turn]
  exact chanSafeStop_st ((liveFn_congr (same.trans (groupsSafe_fn groups s))).mpr live)

end

/-- Planner and guidance are faulted after the others, and leave these. -/
theorem safeActed_fn {f : Nat} (planner : plannerFid ≠ f) (guidance : guidFid ≠ f) :
    (safeActed n s).fn f = (safeActions n s).fn f :=
  (guidFault_fn_of_ne guidance).trans (planFault_fn_of_ne planner)

theorem safeActed_planner_fn : (safeActed n s).fn plannerFid = (planFault (safeActions n s)).fn plannerFid :=
  guidFault_fn_of_ne (by decide)

/-- What guidance meets: the planner's fault leaves its state. -/
theorem planFault_guid_fn : (planFault (safeActions n s)).fn guidFid = s.fn guidFid :=
  (planFault_fn_of_ne (by decide)).trans (safeActions_fn (.inr rfl) n)

/-- A safe stop faults every group, channel, planner and guidance that is STARTING or RUNNING. -/
theorem safeStop_st_of_live {f : Nat} (supervisor : n ≠ 20) (domain : n ≠ 51)
    (kind : (∃ g, g < 64 ∧ f = gFid g) ∨ (∃ k, k < 24 ∧ f = chFid k) ∨ f = plannerFid ∨ f = guidFid)
    (live : LiveFn s f) : (safeStop n s).st f = .faulted := by
  rw [st_of_fn (safeStop_fn f)]
  obtain ⟨g, group, rfl⟩ | ⟨k, chan, rfl⟩ | rfl | rfl := kind
  · rw [st_of_fn (safeActed_fn (by unfold plannerFid gFid; omega) (by unfold guidFid gFid; omega))]
    exact safeActions_group supervisor domain group live
  · rw [st_of_fn (safeActed_fn (by unfold plannerFid chFid; omega) (by unfold guidFid chFid; omega))]
    exact safeActions_chan supervisor domain chan live
  · rw [st_of_fn safeActed_planner_fn]
    exact planFault_st ((liveFn_congr (safeActions_fn (.inl rfl) n)).mpr live)
  · exact guidFault_st ((liveFn_congr planFault_guid_fn).mpr live)

theorem safeStop_st_of_idle {f : Nat} (own : f = plannerFid ∨ f = guidFid) (idle : (s.st f).idle = true) :
    (safeStop n s).st f = s.st f := by
  rw [st_of_fn (safeStop_fn f)]
  obtain rfl | rfl := own
  · have met := st_of_fn (safeActions_fn (s := s) (.inl rfl) n)
    rw [st_of_fn safeActed_planner_fn, planFault_of_idle (met ▸ idle), met]
  · have met := st_of_fn (planFault_guid_fn (s := s) (n := n))
    unfold safeActed
    rw [guidFault_of_idle (met ▸ idle), met]

/-! ### START while SAFE_STOPPED (R478) -/

section
variable (stopped : s.fcr.safeStopped = true)
include stopped

theorem grpCheck_of_stopped (g : Nat) : grpCheck s g =
    (emit s 0x0301 (gFid g) (le 2 0xFFFF ++ b1 9 ++ b1 0), some (stWrongState, 0)) := by
  have verdict : grpVerdict s g = some (stWrongState, 0xFFFF, 9) := if_pos stopped
  unfold grpCheck
  rw [verdict]
  rfl

theorem planCheck_of_stopped : (planCheck s).2 = some (stWrongState, 0) := if_pos stopped
theorem guidCheck_of_stopped : (guidCheck s).2 = some (stWrongState, 0) := if_pos stopped
theorem chanCheck_of_stopped (k : Nat) : (chanCheck s k).2 = some (stWrongState, 0) := if_pos stopped

theorem fnCheck_group_of_stopped {f : Nat} (group : f / 256 = 3) : fnCheck f s =
    (emit s 0x0301 (gFid (f % 256)) (le 2 0xFFFF ++ b1 9 ++ b1 0), some (stWrongState, 0)) := by
  unfold fnCheck
  rw [group]
  exact grpCheck_of_stopped stopped _

theorem fnCheck_of_stopped {f : Nat} (kind : f / 256 = 3 ∨ f / 256 = 6 ∨ f / 256 = 7) :
    (fnCheck f s).2 = some (stWrongState, 0) := by
  obtain group | planning | chan := kind
  · rw [fnCheck_group_of_stopped stopped group]
  · unfold fnCheck
    rw [planning]
    show (if f % 256 = 0 then planCheck s else guidCheck s).2 = _
    split_ifs
    · exact planCheck_of_stopped stopped
    · exact guidCheck_of_stopped stopped
  · unfold fnCheck
    rw [chan]
    exact chanCheck_of_stopped stopped _

end

end

/-! ## Roles and the epoch (R482) -/

section
variable {s : State}

theorem pair_congr {s t : State} (same : t.pairs = s.pairs) (j : Nat) : t.pair j = s.pair j := by
  unfold State.pair
  rw [same]

theorem setRole_of_other {i : Nat} {r : Role} (other : (s.pair i).role ≠ r) :
    setRole s i r = roleEvent (s.setPair i { s.pair i with role := r }) i (s.pair i).role.code := if_neg other

theorem setRole_pair (s : State) (i : Nat) (r : Role) : (setRole s i r).pair i = { s.pair i with role := r } := by
  by_cases same : (s.pair i).role = r
  · subst same
    exact congrArg (State.pair · i) (if_pos rfl)
  · rw [setRole_of_other same, roleEvent_pair, setPair_pair]

theorem setRole_pair_of_ne {i j : Nat} (r : Role) (other : i ≠ j) : (setRole s i r).pair j = s.pair j := by
  by_cases same : (s.pair i).role = r
  · exact congrArg (State.pair · j) (if_pos same)
  · rw [setRole_of_other same, roleEvent_pair, setPair_pair_of_ne _ _ other]

theorem setRole_epoch (i : Nat) (r : Role) : (setRole s i r).fcr.epoch = s.fcr.epoch := by
  by_cases same : (s.pair i).role = r
  · exact congrArg (fun t : State => t.fcr.epoch) (if_pos same)
  · rw [setRole_of_other same, roleEvent_epoch]
    rfl

theorem pairOutcome_epoch (n reaction : Nat) : (pairOutcome s n reaction).fcr.epoch = s.fcr.epoch := by
  unfold pairOutcome
  split
  · rfl
  · exact faultRecord_keeps Fcr.epoch (fun _ _ _ _ => rfl) _ _ _ _ _ _ _ _ _ _

theorem pairOutcome_pair (n reaction j : Nat) : (pairOutcome s n reaction).pair j = s.pair j :=
  pair_congr (pairs_of_off (pairOutcome_off s n reaction 96 rfl) rfl) j

theorem lostPairs_epoch : (lostPairs s).fcr.epoch = s.fcr.epoch :=
  List.foldlRecOn (motive := fun t : State => t.fcr.epoch = s.fcr.epoch) _ _ rfl
    fun _ same n _ => (pairOutcome_epoch n 4).trans same

theorem lostPairs_pair (j : Nat) : (lostPairs s).pair j = s.pair j :=
  pair_congr (pairs_of_off (lostPairs_off s 104 rfl) rfl) j

theorem spareSource_epoch : (spareSource s).fcr.epoch = s.fcr.epoch := by
  unfold spareSource
  split_ifs
  · exact raiseEnc_epoch
  · exact returnSrc_epoch

theorem spareSource_pair (j : Nat) : (spareSource s).pair j = s.pair j :=
  pair_congr (pairs_of_off (spareSource_off s 96 rfl) rfl) j

/-- An ACTIVE or a SPARE pair. -/
abbrev InService (s : State) (j : Nat) : Prop := (s.pair j).role = .active ∨ (s.pair j).role = .spare

/-- The grant of an epoch to one pair. -/
def grantEpoch (dead : Nat) (s : State) (i : Nat) : State :=
  if i ≠ dead ∧ InService s i then s.setPair i { s.pair i with tag := s.fcr.epoch } else s

theorem grantEpoch_fcr (dead i : Nat) : (grantEpoch dead s i).fcr = s.fcr := by
  unfold grantEpoch
  split_ifs <;> rfl

theorem grantEpoch_pair_of_ne (dead : Nat) {i j : Nat} (other : i ≠ j) : (grantEpoch dead s i).pair j = s.pair j := by
  unfold grantEpoch
  split_ifs
  · exact setPair_pair_of_ne _ _ other
  · rfl

theorem grantEpoch_pair (dead i : Nat) : (grantEpoch dead s i).pair i =
    if i ≠ dead ∧ InService s i then { s.pair i with tag := s.fcr.epoch } else s.pair i := by
  unfold grantEpoch
  split_ifs
  · exact setPair_pair _ _ _
  · rfl

theorem raiseEpoch_epoch (dead : Nat) : (raiseEpoch s dead).fcr.epoch = s.fcr.epoch + 1 :=
  congrArg Fcr.epoch (forN_keeps State.fcr (fun _ _ => grantEpoch_fcr dead _) 4 _)

theorem forN_grantEpoch_pair (dead k : Nat) (s : State) (j : Nat) : (forN k (grantEpoch dead) s).pair j =
    if j < k ∧ j ≠ dead ∧ InService s j then { s.pair j with tag := s.fcr.epoch } else s.pair j := by
  have books (k : Nat) : (forN k (grantEpoch dead) s).fcr = s.fcr :=
    forN_keeps State.fcr (fun _ _ => grantEpoch_fcr dead _) k s
  induction k with
  | zero => rw [if_neg fun h => Nat.not_lt_zero j h.1]; rfl
  | succ k ih =>
    rw [forN_succ]
    by_cases at_k : k = j
    · subst at_k
      have before := ih.trans (if_neg fun h => Nat.lt_irrefl k h.1)
      rw [grantEpoch_pair, books]
      refine if_congr ?_ (congrArg (fun p : Pair => { p with tag := s.fcr.epoch }) before) before
      unfold InService
      rw [before, and_iff_right (Nat.lt_succ_self k)]
    · rw [grantEpoch_pair_of_ne dead at_k, ih]
      exact if_congr (and_congr_left fun _ => by omega) rfl rfl

/-- The pairs under a raised epoch: the others in service have it as their tag (R482). -/
theorem raiseEpoch_pair (dead j : Nat) : (raiseEpoch s dead).pair j =
    if j < 4 ∧ j ≠ dead ∧ InService s j then { s.pair j with tag := s.fcr.epoch + 1 } else s.pair j :=
  forN_grantEpoch_pair dead 4 _ j

/-! ## Usable spares (R483, R486) -/

/-- A spare that may restore a pair's tasks and is not restoring another's. -/
def usable (s : State) (tasks : Option Nat) (j : Nat) : Bool :=
  decide ((s.pair j).role = .spare) && (s.pair j).restores.isNone && !((s.pair j).dead && (s.pair j).lostTasks == tasks)

theorem usableSpare_eq (tasks : Option Nat) : usableSpare s tasks = (List.range 4).find? (usable s tasks) := rfl

theorem usableSpare_spec {j : Nat} {tasks : Option Nat} (found : usableSpare s tasks = some j) : j < 4 ∧
    (s.pair j).role = .spare ∧ (s.pair j).restores = none ∧ ((s.pair j).dead = true → (s.pair j).lostTasks ≠ tasks) := by
  have fit : usable s tasks j = true := List.find?_some found
  unfold usable at fit
  simp only [Bool.and_eq_true, decide_eq_true_iff, Option.isNone_iff_eq_none, Bool.not_eq_true', Bool.and_eq_false_iff,
    beq_eq_false_iff_ne] at fit
  obtain ⟨⟨spare, free⟩, other⟩ := fit
  exact ⟨List.mem_range.mp (List.mem_of_find?_eq_some found), spare, free,
    fun dead => other.resolve_left (ne_false_of_eq_true dead)⟩

/-! ## Declarations (R482 to R484) -/

/-- A pair is fenced under the raised epoch, with what its declaration notes of it. -/
def fencedAs (s : State) (i : Nat) (q : Pair) : State := setRole ((raiseEpoch s i).setPair i q) i .fenced

/-- What a declaration notes of its pair. -/
def Pair.declaredAt (p : Pair) (mono : Nat) : Pair := { p with dead := true, declared := mono, lostTasks := p.tasks }

/-- What a declaration leaves of the epoch and the pairs. -/
structure Declared (s : State) (i : Nat) (u : State) : Prop where
  epoch : u.fcr.epoch = s.fcr.epoch + 1
  own : (u.pair i).role = .fenced ∧ (u.pair i).dead = true ∧ (u.pair i).declared = s.mono ∧
    (u.pair i).lostTasks = (s.pair i).tasks
  others : ∀ j, j < 4 → j ≠ i → InService s j → (u.pair j).tag = s.fcr.epoch + 1 ∧ (u.pair j).role = (s.pair j).role

section
variable {i : Nat} {q : Pair}

theorem fencedAs_pair : (fencedAs s i q).pair i = { q with role := .fenced } := by
  unfold fencedAs
  rw [setRole_pair, setPair_pair]

theorem fencedAs_pair_of_ne {j : Nat} (other : i ≠ j) : (fencedAs s i q).pair j = (raiseEpoch s i).pair j := by
  unfold fencedAs
  rw [setRole_pair_of_ne _ other, setPair_pair_of_ne _ _ other]

theorem fencedAs_epoch : (fencedAs s i q).fcr.epoch = s.fcr.epoch + 1 :=
  (setRole_epoch i .fenced).trans (raiseEpoch_epoch i)

theorem fencedAs_boot : (fencedAs s i q).boot = s.boot :=
  (boot_of_off (setRole_off _ i .fenced 112 rfl) rfl).trans (boot_of_off (raiseEpoch_off s i 80 rfl) rfl)

theorem raiseEpoch_mono : (raiseEpoch s i).mono = s.mono := mono_of_off (raiseEpoch_off s i 80 rfl) rfl

theorem fencedAs_declared (dead : q.dead = true) (declared : q.declared = s.mono) (tasks : q.lostTasks = (s.pair i).tasks) :
    Declared s i (fencedAs s i q) where
  epoch := fencedAs_epoch
  own := by
    rw [fencedAs_pair]
    exact ⟨rfl, dead, declared, tasks⟩
  others j bound other serves := by
    rw [fencedAs_pair_of_ne other.symm, raiseEpoch_pair, if_pos ⟨bound, other, serves⟩]
    exact ⟨rfl, rfl⟩

/-- What follows a declaration and leaves pairs and epoch alone leaves it as it is. -/
theorem Declared.of_pairs {t u : State} (declared : Declared s i t) (pairs : ∀ j, u.pair j = t.pair j)
    (epoch : u.fcr.epoch = t.fcr.epoch) : Declared s i u where
  epoch := epoch.trans declared.epoch
  own := by
    rw [pairs i]
    exact declared.own
  others j bound other serves := by
    rw [pairs j]
    exact declared.others j bound other serves

/-- A spare begins to restore the dead pair's tasks. -/
theorem Declared.of_restore {t : State} {j : Nat} (declared : Declared s i t) (other : j ≠ i) :
    Declared s i (t.setPair j { t.pair j with restores := some i }) where
  epoch := declared.epoch
  own := by
    rw [setPair_pair_of_ne _ _ other]
    exact declared.own
  others k bound apart serves := by
    by_cases same : j = k
    · subst same
      rw [setPair_pair]
      exact declared.others j bound apart serves
    · rw [setPair_pair_of_ne _ _ same]
      exact declared.others k bound apart serves

/-! ### By the pair's role -/

section
variable (active : (s.pair i).role = .active)
include active

/-- Fencing an ACTIVE pair leaves which spare may restore its tasks. -/
theorem usableSpare_fencedAs (tasks : Option Nat) : usableSpare (fencedAs s i q) tasks = usableSpare s tasks := by
  have same (j : Nat) : usable (fencedAs s i q) tasks j = usable s tasks j := by
    unfold usable
    by_cases own : i = j
    · subst own
      rw [fencedAs_pair, active]
      rfl
    · rw [fencedAs_pair_of_ne own, raiseEpoch_pair]
      split_ifs <;> rfl
  rw [usableSpare_eq, usableSpare_eq, funext same]

/-- An ACTIVE pair, declared. -/
def activeFenced (s : State) (i : Nat) : State := fencedAs s i ((s.pair i).declaredAt (raiseEpoch s i).mono)

omit active in
theorem activeFenced_declared : Declared s i (activeFenced s i) := fencedAs_declared rfl raiseEpoch_mono rfl

theorem declareDead_of_active : declareDead i s =
    match usableSpare s (s.pair i).tasks with
    | none => lostPairs (activeFenced s i)
    | some j => (activeFenced s i).setPair j { (activeFenced s i).pair j with restores := some i } := by
  rw [← usableSpare_fencedAs (q := (s.pair i).declaredAt (raiseEpoch s i).mono) active]
  unfold declareDead
  dsimp only
  split
  case h_4 => rfl
  all_goals exact absurd (active.symm.trans ‹_›) (by decide)

theorem declareDead_of_restored {j : Nat} (found : usableSpare s (s.pair i).tasks = some j) : declareDead i s =
    (activeFenced s i).setPair j { (activeFenced s i).pair j with restores := some i } := by
  rw [declareDead_of_active active, found]

theorem declareDead_of_lost (none : usableSpare s (s.pair i).tasks = none) :
    declareDead i s = lostPairs (activeFenced s i) := by
  rw [declareDead_of_active active, none]

end

section
variable (spare : (s.pair i).role = .spare)
include spare

/-- A SPARE pair, declared: what it was restoring is lost with it. -/
def spareFenced (s : State) (i : Nat) : State :=
  fencedAs s i { (s.pair i).declaredAt (raiseEpoch s i).mono with restores := none }

omit spare in
theorem spareFenced_declared : Declared s i (spareFenced s i) := fencedAs_declared rfl raiseEpoch_mono rfl

theorem declareDead_of_spare : declareDead i s =
    if (s.pair i).restores.isSome then lostPairs (spareFenced s i) else spareSource (pairOutcome (spareFenced s i) i 0) := by
  unfold declareDead
  dsimp only
  split
  case h_3 => rfl
  all_goals exact absurd (spare.symm.trans ‹_›) (by decide)

theorem declareDead_of_idle (idle : (s.pair i).restores = none) :
    declareDead i s = spareSource (pairOutcome (spareFenced s i) i 0) :=
  (declareDead_of_spare spare).trans (if_neg (by rw [idle]; decide))

theorem declareDead_of_restoring (restoring : (s.pair i).restores ≠ none) :
    declareDead i s = lostPairs (spareFenced s i) :=
  (declareDead_of_spare spare).trans (if_pos (Option.isSome_iff_ne_none.mpr restoring))

end

theorem lostPairs_declared {t : State} (declared : Declared s i t) : Declared s i (lostPairs t) :=
  declared.of_pairs lostPairs_pair lostPairs_epoch

/-- A declaration of a pair in service (R482). -/
theorem declareDead_declared (serves : InService s i) : Declared s i (declareDead i s) := by
  obtain active | spare := serves
  · cases found : usableSpare s (s.pair i).tasks with
    | none =>
      rw [declareDead_of_lost active found]
      exact lostPairs_declared activeFenced_declared
    | some j =>
      have other : j ≠ i := fun same => by
        obtain ⟨-, spare, -⟩ := usableSpare_spec found
        rw [same, active] at spare
        exact absurd spare (by decide)
      rw [declareDead_of_restored active found]
      exact activeFenced_declared.of_restore other
  · by_cases idle : (s.pair i).restores = none
    · rw [declareDead_of_idle spare idle]
      exact spareFenced_declared.of_pairs (fun j => (spareSource_pair j).trans (pairOutcome_pair i 0 j))
        (spareSource_epoch.trans (pairOutcome_epoch i 0))
    · rw [declareDead_of_restoring spare idle]
      exact lostPairs_declared spareFenced_declared

/-- A pair in QUARANTINE has failed its self-test. -/
theorem declareDead_of_quarantine (quarantine : (s.pair i).role = .quarantine) : declareDead i s =
    pairOutcome (setRole (raise (s.setPair i { s.pair i with failed := true }) 7 (i + 1)) i .fenced) i 0 := by
  unfold declareDead
  dsimp only
  split
  case h_1 => rfl
  all_goals exact absurd (quarantine.symm.trans ‹_›) (by decide)

theorem raise_pair (n detail j : Nat) : (raise s n detail).pair j = s.pair j :=
  pair_congr (pairs_of_off (raise_off s n detail 96 rfl) rfl) j

theorem declareDead_of_fenced (fenced : (s.pair i).role = .fenced) : declareDead i s = pairOutcome
    (if (s.pair i).dead then s
      else (raiseEpoch s i).setPair i { s.pair i with dead := true, declared := (raiseEpoch s i).mono }) i 0 := by
  unfold declareDead
  dsimp only
  split
  case h_2 => rfl
  all_goals exact absurd (fenced.symm.trans ‹_›) (by decide)

theorem declareDead_fenced (fenced : (s.pair i).role = .fenced) : ((declareDead i s).pair i).role = .fenced ∧
    (declareDead i s).fcr.epoch = if (s.pair i).dead then s.fcr.epoch else s.fcr.epoch + 1 := by
  rw [declareDead_of_fenced fenced, pairOutcome_pair, pairOutcome_epoch]
  split_ifs
  · exact ⟨fenced, rfl⟩
  · exact ⟨by rw [setPair_pair]; exact fenced, raiseEpoch_epoch i⟩

end

/-! ## Restores and self-tests (R484, R486) -/

/-- What a restore's end makes of the first spare that restores (R483, R484). -/
def restoreEnds (ok : Bool) (j i : Nat) (s : State) : State :=
  let a := s.setPair j { s.pair j with
    restores := none, tasks := (s.pair i).tasks, checkpoint := (s.pair i).checkpoint, buffer := (s.pair i).buffer
    image := (s.pair i).image, older := (s.pair i).older, serviced := s.mono }
  if ok then spareSource (pairOutcome (setRole (a.setPair i { a.pair i with tasks := none }) j .active) i 2)
  else lostPairs (s.setPair j { s.pair j with restores := none })

theorem xFailoverRestoreComplete_of_none {ok : Bool} (none : ∀ j, j < 4 → (s.pair j).restores = none) :
    xFailoverRestoreComplete ok s = s := by
  have nobody : (List.range 4).find? (fun j => (s.pair j).restores.isSome) = Option.none :=
    List.find?_eq_none.mpr fun j here => by rw [none j (List.mem_range.mp here)]; decide
  unfold xFailoverRestoreComplete
  rw [nobody]

theorem xFailoverRestoreComplete_of_first {ok : Bool} {i j : Nat} (bound : j < 4) (restores : (s.pair j).restores = some i)
    (first : ∀ q, q < j → (s.pair q).restores = none) : xFailoverRestoreComplete ok s = restoreEnds ok j i s := by
  have found : (List.range 4).find? (fun j => (s.pair j).restores.isSome) = some j :=
    List.find?_range_eq_some.mpr ⟨by rw [restores]; rfl, List.mem_range.mpr bound, fun q low => by rw [first q low]; rfl⟩
  unfold xFailoverRestoreComplete
  rw [found]
  dsimp only
  rw [show (s.pair j).restores.getD 0 = i from by rw [restores]; rfl]
  rfl

/-- A declared pair may be reset alone: 5 ms after its declaration, unless it has failed (R486). -/
abbrev DeadReset (s : State) (i : Nat) : Prop := i < 4 ∧ (s.pair i).dead = true ∧ (s.pair i).role = .fenced ∧
  (s.pair i).failed = false ∧ (s.pair i).declared + 1250000 ≤ s.mono

theorem deadReset_iff {i : Nat} : (i < 4 ∧ (s.pair i).dead = true ∧ (s.pair i).role = .fenced ∧
    (s.pair i).failed = false ∧ s.past (s.pair i).declared (msT 5) = true) ↔ DeadReset s i := by
  rw [past_iff]
  rfl

theorem xQuarantineSelfTestEnd_of_test {i : Nat} {pass : Bool} (ok : i < 4 ∧ (s.pair i).role = .quarantine) :
    xQuarantineSelfTestEnd i pass s =
      if pass then spareSource (setRole (s.setPair i { s.pair i with tag := s.fcr.epoch }) i .spare)
      else setRole (raise (s.setPair i { s.pair i with failed := true }) 7 (i + 1)) i .fenced := if_pos ok

end

end Sys2Proof.Machine

namespace Sys2Proof

open Machine

/-- Settles O56: a safe stop by what it does to each kind of function, a declaration by the role of the declared pair. -/
theorem safeStopAndSparing : Obligations.SafeStopAndSparing := by
  unfold Obligations.SafeStopAndSparing
  refine ⟨fun n s => ⟨safeStop_of_first, safeStop_of_further, safeStop_holds n s⟩, fun n f s => ?states,
    fun f s stopped kind => ?refused, fun c s => ?supervisor, fun i a s => ?miscompare, fun i s bound => ?declared,
    fun j t s found => usableSpare_spec found, fun ok s none => next_settle_congr (xFailoverRestoreComplete_of_none none),
    fun i j ok s bound restores first => ?restored, fun s => rfl, fun i r s _ => setRole_pair s i r, fun i s => ?reset,
    fun i b s => ?tested⟩
  case states =>
    exact ⟨fun supervisor domain kind live => safeStop_st_of_live supervisor domain kind live, safeStop_st_of_idle⟩
  case refused =>
    exact ⟨fnCheck_of_stopped stopped kind, fun group => congrArg Prod.fst (fnCheck_group_of_stopped stopped group)⟩
  case supervisor =>
    exact ⟨fun ok => next_settle_congr (if_pos ok), fun other => next_settle_congr (if_neg (Nat.not_le.mpr other))⟩
  case miscompare => exact ⟨fun ok => next_settle_congr (if_pos ok), fun other => next_settle_congr (if_neg other)⟩
  case declared =>
    refine ⟨fun serves => ?_, fun j serves low other served => (declareDead_declared serves).others j low other served,
      fun j active found => ?_, fun active none => ?_, fun spare idle => ?_, fun spare restoring => ?_,
      fun quarantine => ?_, fun fenced => declareDead_fenced fenced⟩
    · exact ⟨(declareDead_declared serves).epoch, (declareDead_declared serves).own⟩
    · rw [declareDead_of_restored active found]
      exact ⟨congrArg Pair.restores (setPair_pair _ _ _), fencedAs_boot⟩
    · rw [declareDead_of_lost active none]
      exact congrArg (fun b : Boot => { b with coreDue := some 3 }) fencedAs_boot
    · rw [declareDead_of_idle spare idle]
      exact (boot_of_off (spareSource_off _ 96 rfl) rfl).trans
        ((boot_of_off (pairOutcome_off _ i 0 96 rfl) rfl).trans fencedAs_boot)
    · rw [declareDead_of_restoring spare restoring]
      exact congrArg (fun b : Boot => { b with coreDue := some 3 }) fencedAs_boot
    · rw [declareDead_of_quarantine quarantine, pairOutcome_pair, pairOutcome_epoch, setRole_pair, setRole_epoch,
        raise_pair, setPair_pair]
      exact ⟨raiseEnc_epoch, rfl, rfl⟩
  case restored =>
    refine ⟨fun good => ?_, fun bad => ?_⟩
    · exact next_settle_congr ((xFailoverRestoreComplete_of_first bound restores first).trans (if_pos good))
    · exact next_settle_congr
        ((xFailoverRestoreComplete_of_first bound restores first).trans (if_neg (ne_true_of_eq_false bad)))
  case reset =>
    exact ⟨fun ok => next_settle_congr (if_pos (deadReset_iff.mpr ok)),
      fun other => next_settle_congr (if_neg (mt deadReset_iff.mp other))⟩
  case tested =>
    refine ⟨fun ok pass => next_settle_congr ((xQuarantineSelfTestEnd_of_test ok).trans (if_pos pass)),
      fun ok fail => next_settle_congr ((xQuarantineSelfTestEnd_of_test ok).trans (if_neg (ne_true_of_eq_false fail))),
      fun other => next_settle_congr (if_neg other)⟩

end Sys2Proof
end

section
/-! SUPPORT. The panel's opcodes and supplies, its rows, books, journal and repair (16 R527 to R539, R544, R545). -/

namespace Sys2Proof.Machine

/-- A time that is due from an earlier one on, or at once where there is none. -/
theorem optPast_iff (s : State) (o : Option Nat) (d : Nat) :
    (match o with | some t => s.past t d | none => true) = true ↔ ∀ t, o = some t → t + d ≤ s.mono := by
  cases o with
  | none => exact ⟨fun _ t h => (nomatch h), fun _ => rfl⟩
  | some t => exact (past_iff s t d).trans ⟨fun due _ h => Option.some.inj h ▸ due, fun due => due t rfl⟩

section
variable {s : State}

/-! ## The fault source and the frames -/

/-- The causes of FSRC192 once one of them holds, or no longer does. -/
def panelWrong (o n : Nat) (holds : Bool) : Nat := if holds then o ||| 2 ^ n else if o.testBit n then o - 2 ^ n else o

/-- The source follows all causes together. -/
def causesFollowed (t : State) (o w n : Nat) : State :=
  if w = 0 then returnSrc t 192 else if o = 0 then raise t 192 n else t

theorem causesFollowed_pnl (t : State) (o w n : Nat) : (causesFollowed t o w n).pnl = t.pnl := by
  unfold causesFollowed
  split_ifs
  · exact pnl_of_off (returnSrc_off t 192 96 rfl) rfl
  · exact pnl_of_off (raise_off t 192 n 96 rfl) rfl
  · rfl

/-- A cause of FSRC192 changes which causes hold, and nothing else of the panel. -/
theorem panelCause_pnl (s : State) (n : Nat) (holds : Bool) :
    (panelCause s n holds).pnl = { s.pnl with wrong := panelWrong s.pnl.wrong n holds } :=
  causesFollowed_pnl _ _ _ _

theorem frameGood_iff {f : Bytes × Nat} : frameGood f = true ↔ (crc32c f.1).toNat = f.2 := decide_eq_true_iff

/-! ## PANEL_FRAME and PANEL_STATUS (R544, R545) -/

section
variable {p : Bytes}

theorem opPanelFrame_of_match (same : (crc32c (slice p 8 96)).toNat = rd p 4 4) : opPanelFrame.body s p =
    okAns { s with pnl := { s.pnl with
      frames := tput s.pnl.frames (byteAt p 0) (slice p 8 96, rd p 4 4)
      saved := if (byteAt p 1).testBit 0 then tput s.pnl.saved (byteAt p 0) (slice p 8 96, rd p 4 4) else s.pnl.saved } } :=
  if_pos (frameGood_iff.mpr same)

theorem opPanelFrame_of_mismatch (other : (crc32c (slice p 8 96)).toNat ≠ rd p 4 4) :
    opPanelFrame.body s p = failAns s stIntegrity 0 := if_neg (mt frameGood_iff.mp other)

theorem targetNo_eq_one (s : State) : decide (targetNo s = 1) = s.fcr.safeStopped := by
  unfold targetNo
  cases s.fcr.safeStopped <;> rfl

/-- The books of a common, where one is asked for. -/
def booksAsked (s : State) (p : Bytes) : Bytes :=
  if byteAt p 0 ≤ 15 then (List.range 48).flatMap fun g => leF (bookAt s.pnl.books (48 * byteAt p 0 + g)) else []

/-- The reply of PANEL_STATUS (Table 16.6). -/
def panelReply (s : State) (p : Bytes) : Bytes :=
  leT s.now ++ b1 (s.st panelFid).code ++ b1 s.pnl.band ++
    b1 (bit s.pnl.supplyOk 0 + bit s.fcr.safeStopped 1 + bit s.pnl.run.isSome 2 +
      bit (s.pnl.repair ≠ 0 || !(interrupted s).isEmpty) 3) ++
    b1 (match s.pnl.run with | some r => r.row | none => 0xFF) ++ le 2 (pendingMask s) ++ le 2 s.pnl.unknown ++
    leF s.pnl.temp ++ leF s.pnl.vph ++ leF s.pnl.vpm ++ leF s.pnl.vpl ++ leF (largestBook s) ++ le 4 s.pnl.written ++
    le 4 s.pnl.repaired ++ booksAsked s p

theorem opPanelStatus_body : opPanelStatus.body s p = okWith s (panelReply s p) := by
  unfold panelReply
  rw [← targetNo_eq_one]
  rfl

theorem panelReply_length : (panelReply s p).length = if byteAt p 0 ≤ 15 then 240 else 48 := by
  unfold panelReply booksAsked
  split_ifs <;> simp

end

/-! ## Supplies and temperature (R527, R530, R538) -/

section
variable {vph vpm vpl ratio : F32}

/-- The panel once a sample has judged its supplies. -/
def supplySampled (s : State) (vph vpm vpl : F32) : State :=
  { s with pnl := { s.pnl with
    vph := vph, vpm := vpm, vpl := vpl, supplyOk := supplyRange vph vpm vpl, sampleAt := some s.mono
    okAt := if s.pnl.supplyOk then s.pnl.okAt else s.mono } }

abbrev SampleDue (s : State) : Prop := 2 ≤ s.boot.phase ∧ ∀ a, s.pnl.sampleAt = some a → a + 25000 ≤ s.mono

theorem sampleDue_iff : (decide (2 ≤ s.boot.phase) && match s.pnl.sampleAt with | some t => s.past t (usT 100) | none => true) = true ↔
    SampleDue s := by
  rw [Bool.and_eq_true, decide_eq_true_iff]
  exact and_congr_right fun _ => optPast_iff s _ _

theorem xPanelSupplySample_of_due (due : SampleDue s) : xPanelSupplySample vph vpm vpl s =
    if !supplyRange vph vpm vpl && s.pnl.run.isSome then
      panelCause { supplySampled s vph vpm vpl with pnl := { (supplySampled s vph vpm vpl).pnl with run := none } } 1 true
    else supplySampled s vph vpm vpl := if_pos (sampleDue_iff.mpr due)

/-- A row in progress loses its supplies. -/
theorem suppliesLost_iff : (!supplyRange vph vpm vpl && s.pnl.run.isSome) = true ↔
    supplyRange vph vpm vpl = false ∧ s.pnl.run ≠ none := by
  rw [Bool.and_eq_true, Bool.not_eq_true', Option.isSome_iff_ne_none]

abbrev ReadingDue (s : State) : Prop :=
  2 ≤ s.boot.phase ∧ s.pwr.state ≤ 1 ∧ ∀ a, s.pnl.tempAt = some a → a + 25000000 ≤ s.mono

theorem readingDue_iff : (decide (2 ≤ s.boot.phase ∧ s.pwr.state ≤ 1) &&
    match s.pnl.tempAt with | some t => s.past t (msT 100) | none => true) = true ↔ ReadingDue s := by
  rw [Bool.and_eq_true, decide_eq_true_iff, and_assoc]
  exact and_congr_right fun _ => and_congr_right fun _ => optPast_iff s _ _

/-- The supplies have been back in range for 100 ms, with something to repair. -/
abbrev SuppliesBack (s : State) : Prop := s.pnl.supplyOk = true ∧ s.pnl.okAt + 25000000 ≤ s.mono ∧
  (s.pnl.wrong.testBit 1 = true ∨ interrupted s ≠ [])

theorem suppliesBack_iff : (s.pnl.supplyOk = true ∧ s.past s.pnl.okAt (msT 100) = true ∧
    (s.pnl.wrong.testBit 1 = true ∨ (interrupted s).isEmpty = false)) ↔ SuppliesBack s := by
  rw [past_iff, List.isEmpty_eq_false_iff]
  rfl

theorem panelStops_iff : (panelSt s = .stopping ∧ s.pnl.run.isNone = true) ↔ s.st panelFid = .stopping ∧ s.pnl.run = none := by
  rw [Option.isNone_iff_eq_none]
  rfl

end

end

end Sys2Proof.Machine

namespace Sys2Proof

open Machine

/-- Settles O57: a bitmap by its CRC, a sample and a reading by when they are due. -/
theorem panelCommands : Obligations.PanelCommands := by
  unfold Obligations.PanelCommands
  refine ⟨fun h p s ok => ?frame, fun h p n s ok size => ?status, fun vph vpm vpl s => ?sample, fun ratio s => ?reading,
    fun s => ?restored, fun s => ?stopped⟩
  case frame =>
    exact ⟨fun same => exec_hostOnly_of_accepted rfl rfl ok (opPanelFrame_of_match same),
      fun other => exec_hostOnly_of_accepted rfl rfl ok (opPanelFrame_of_mismatch other)⟩
  case status => exact exec_read_of_accepted rfl rfl ok opPanelStatus_body (panelReply_length.trans size.symm)
  case sample =>
    exact ⟨fun due keeps => next_settle_congr ((xPanelSupplySample_of_due due).trans (if_neg (mt suppliesLost_iff.mp keeps))),
      fun due lost => next_settle_congr ((xPanelSupplySample_of_due due).trans (if_pos (suppliesLost_iff.mpr lost))),
      (next_settle_ite_of_guard sampleDue_iff).2⟩
  case reading => exact next_settle_ite_of_guard readingDue_iff
  case restored =>
    exact ⟨fun ok => next_settle_congr (if_pos (suppliesBack_iff.mpr ok)),
      fun other => next_settle_congr (if_neg (mt suppliesBack_iff.mp other))⟩
  case stopped =>
    exact ⟨fun ok => next_settle_congr (if_pos (panelStops_iff.mpr ok)),
      fun other => next_settle_congr (if_neg (mt panelStops_iff.mp other))⟩

end Sys2Proof
end

section
/-! SUPPORT. Panel rows: what begins one, what a phase books, what completes one, and the repair pass (16 R528, R529, R531
to R537). -/

namespace Sys2Proof.Machine

section
variable {s : State}

/-! ## The first row of a test -/

theorem findRow_iff (p : Nat → Bool) (c : Nat) : (List.range 16).find? p = some c ↔
    c < 16 ∧ p c = true ∧ ∀ b, b < c → p b = false := by
  rw [List.find?_range_eq_some, List.mem_range]
  simp only [Bool.not_eq_true']
  exact and_left_comm

theorem rowPending_iff {c : Nat} : rowPending s c = true ↔
    (s.fcr.safeStopped = true ∨ tfind s.pnl.frames 0 ≠ none) ∧
      (s.pnl.unknown.testBit c = true ∨
        slice (targetImage s) (6 * c) 6 ≠ slice (s.pnl.shown.getD (zeros 96)) (6 * c) 6) := by
  unfold rowPending hasFrame
  rw [Bool.and_eq_true, Bool.or_eq_true, Bool.or_eq_true, decide_eq_true_iff, Option.isSome_iff_ne_none]
  rfl

/-- The repair pass has rows to write, and the panel is not stopping (R537, R541). -/
abbrev Repairs (s : State) : Prop := s.pnl.repair ≠ 0 ∧ fwRuns s = true ∧ s.st panelFid ≠ .stopping

/-- The panel runs within its budget. -/
abbrev PanelWorks (s : State) : Prop := s.st panelFid = .running ∧ fwRuns s = true ∧ mayWork s 4 = true

theorem nextRow_of_repairs (repairs : Repairs s) :
    nextRow s = (List.range 16).find? fun c => s.pnl.repair.testBit c := if_pos repairs

section
variable (idle : ¬ Repairs s)
include idle

theorem nextRow_of_works (works : PanelWorks s) : nextRow s = (List.range 16).find? fun c => rowPending s c :=
  (if_neg idle).trans (if_pos works)

theorem nextRow_of_rests (rests : ¬ PanelWorks s) : nextRow s = none := (if_neg idle).trans (if_neg rests)

end

/-! ## The beginning of a row (R529, R533, R535) -/

/-- A row may begin: none is in progress, the supplies are in range, in RUN or BREEZE, and no entry is under way. -/
abbrev RowReady (s : State) : Prop :=
  s.pnl.run = none ∧ s.pnl.supplyOk = true ∧ s.pwr.state ≤ 1 ∧ s.pwr.entering = none

theorem rowReady_iff : (s.pnl.run.isSome || !s.pnl.supplyOk || decide (1 < s.pwr.state) || s.pwr.entering.isSome) = false ↔
    RowReady s := by
  simp only [Bool.or_eq_false_iff, Bool.not_eq_false', decide_eq_false_iff_not, Nat.not_lt, Option.isSome_eq_false_iff,
    Option.isNone_iff_eq_none, and_assoc]

theorem xPanelRowStart_of_unready (unready : ¬ RowReady s) : xPanelRowStart s = s :=
  if_pos (Bool.not_eq_false _ ▸ mt rowReady_iff.mp unready)

section
variable (ready : RowReady s)
include ready

theorem xPanelRowStart_of_none (none : nextRow s = none) : xPanelRowStart s = s := by
  unfold xPanelRowStart
  rw [if_neg (ne_true_of_eq_false (rowReady_iff.mpr ready)), none]

theorem xPanelRowStart_of_next {c : Nat} (next : nextRow s = some c) : xPanelRowStart s =
    if (checkFrame s).1 then rowBegin (checkFrame s).2 c else (checkFrame s).2 := by
  unfold xPanelRowStart
  rw [if_neg (ne_true_of_eq_false (rowReady_iff.mpr ready)), next]
  dsimp only
  obtain ⟨good, t⟩ := checkFrame s
  cases good <;> rfl

end

/-- The frame of a number is replaced by its copy in MRAM (R535). -/
def frameReloaded (s : State) (n : Nat) : State :=
  { s with pnl := { s.pnl with frames := tput s.pnl.frames n (frameOf s.pnl.saved n) } }

/-- A frame is good where its CRC matches. -/
abbrev GoodFrame (f : Bytes × Nat) : Prop := (crc32c f.1).toNat = f.2

theorem checkFrame_of_good (good : GoodFrame (frameOf s.pnl.frames (targetNo s))) :
    checkFrame s = (true, panelCause s 3 false) := if_pos (frameGood_iff.mpr good)

section
variable (bad : ¬ GoodFrame (frameOf s.pnl.frames (targetNo s)))
include bad

theorem checkFrame_of_copy (copy : GoodFrame (frameOf s.pnl.saved (targetNo s))) :
    checkFrame s = (true, panelCause (panelCause (frameReloaded s (targetNo s)) 3 true) 3 false) :=
  (if_neg (mt frameGood_iff.mp bad)).trans (if_pos (frameGood_iff.mpr copy))

theorem checkFrame_of_lost (lost : ¬ GoodFrame (frameOf s.pnl.saved (targetNo s))) : checkFrame s =
    (false, if ((panelCause (frameReloaded s (targetNo s)) 3 true).st panelFid).live then
        changeState (panelCause (frameReloaded s (targetNo s)) 3 true) panelFid .faulted
      else panelCause (frameReloaded s (targetNo s)) 3 true) :=
  (if_neg (mt frameGood_iff.mp bad)).trans (if_neg (mt frameGood_iff.mp lost))

end

/-- The mean book of a common. -/
def meanBook (s : State) (c : Nat) : F32 :=
  fDiv (fSum ((List.range 48).map fun g => bookAt s.pnl.books (48 * c + g))) (fOfNat 48)

/-- By how much a reset half is lengthened. -/
def resetExtra (s : State) (c tr : Nat) (vr : F32) : F32 :=
  fMin (fDiv (fAbs (meanBook s c)) vr) (fMul (fOfNat tr) fHalf)

theorem resetHalves_eq (s : State) (c tr : Nat) (vr : F32) : resetHalves s c tr vr =
    (if fLt f0 (meanBook s c) then fAdd (fOfNat tr) (resetExtra s c tr vr) else fOfNat tr,
      if fLt (meanBook s c) f0 then fAdd (fOfNat tr) (resetExtra s c tr vr) else fOfNat tr) := rfl

section
variable {c tr : Nat} {vr : F32}

theorem resetHalves_of_positive (up : fLt f0 (meanBook s c) = true) (down : fLt (meanBook s c) f0 = false) :
    resetHalves s c tr vr = (fAdd (fOfNat tr) (resetExtra s c tr vr), fOfNat tr) := by
  rw [resetHalves_eq, if_pos up, if_neg (ne_true_of_eq_false down)]

theorem resetHalves_of_negative (down : fLt (meanBook s c) f0 = true) (up : fLt f0 (meanBook s c) = false) :
    resetHalves s c tr vr = (fOfNat tr, fAdd (fOfNat tr) (resetExtra s c tr vr)) := by
  rw [resetHalves_eq, if_neg (ne_true_of_eq_false up), if_pos down]

theorem resetHalves_of_even (up : fLt f0 (meanBook s c) = false) (down : fLt (meanBook s c) f0 = false) :
    resetHalves s c tr vr = (fOfNat tr, fOfNat tr) := by
  rw [resetHalves_eq, if_neg (ne_true_of_eq_false up), if_neg (ne_true_of_eq_false down)]

end

/-! ## The end of a phase and of a row (R528, R532, R534, R536) -/

/-- The phase of the row in progress has run for its duration. -/
abbrev PhaseDue (s : State) (r : PRow) : Prop :=
  s.pnl.phaseAt + (fToInt (fMul (phaseMs (s.app .panel) r r.phase) (fOfNat 250000))).toNat ≤ s.mono

/-- All cells booked for a phase. -/
def phaseBooked (s : State) (r : PRow) : State :=
  { s with pnl := { s.pnl with
    books := bookPhase s.pnl.books r r.phase (phaseMs (s.app .panel) r r.phase), phaseAt := s.mono } }

/-- The row in progress goes on as another entry, noted in the journal. -/
def rowNoted (s : State) (r : PRow) : State := noteRow { s with pnl := { s.pnl with run := some r } } r

section
variable {r : PRow} (runs : s.pnl.run = some r)
include runs

theorem xPanelPhaseEnd_of_due (due : PhaseDue s r) : xPanelPhaseEnd s =
    if 5 ≤ r.phase then rowDone (phaseBooked s r) r
    else rowNoted (phaseBooked s r) { r with phase := r.phase + 1, elapsed := 0 } := by
  unfold xPanelPhaseEnd
  rw [runs]
  exact if_pos ((past_iff s _ _).mpr due)

theorem xPanelPhaseEnd_of_early (early : ¬ PhaseDue s r) : xPanelPhaseEnd s = s := by
  unfold xPanelPhaseEnd
  rw [runs]
  exact if_neg (mt (past_iff s _ _).mp early)

theorem xPanelJournalTick_of_due (due : s.pnl.noteAt + 250000 ≤ s.mono) :
    xPanelJournalTick s = rowNoted s { r with elapsed := s.mono - s.pnl.phaseAt } := by
  unfold xPanelJournalTick
  rw [runs]
  exact if_pos ((past_iff s _ _).mpr due)

theorem xPanelJournalTick_of_early (early : ¬ s.pnl.noteAt + 250000 ≤ s.mono) : xPanelJournalTick s = s := by
  unfold xPanelJournalTick
  rw [runs]
  exact if_neg (mt (past_iff s _ _).mp early)

end

theorem xPanelPhaseEnd_of_idle (idle : s.pnl.run = none) : xPanelPhaseEnd s = s := by
  unfold xPanelPhaseEnd
  rw [idle]

theorem xPanelJournalTick_of_idle (idle : s.pnl.run = none) : xPanelJournalTick s = s := by
  unfold xPanelJournalTick
  rw [idle]

/-- The journal with its newest entry rewritten. -/
def journalNoted (l : List PRow) (r : PRow) : List PRow := match l with | [] => [r] | _ :: t => r :: t

theorem journalNoted_head (l : List PRow) (r : PRow) : (journalNoted l r).head? = some r := by cases l <;> rfl
theorem journalNoted_rest (l : List PRow) (r : PRow) : (journalNoted l r).drop 1 = l.drop 1 := by cases l <;> rfl

theorem rowNoted_eq (s : State) (r : PRow) : rowNoted s r = { s with pnl := { s.pnl with
    run := some r, noteAt := s.mono, journal := journalNoted s.pnl.journal r } } := rfl

/-- A mask without a row's bit. -/
def rowCleared (m c : Nat) : Nat := if m.testBit c then m - 2 ^ c else m

/-- The panel once a row is complete: shown, saved and counted (R534, R536, R537). -/
def rowShown (s : State) (r : PRow) : State :=
  { s with pnl := { s.pnl with
    noteAt := s.mono, journal := journalNoted s.pnl.journal { r with done := true }, run := none
    shown := some ((shownImage s).take (6 * r.row) ++ fitBytes 6 r.target ++ (shownImage s).drop (6 * r.row + 6))
    booksSaved := s.pnl.books, written := satN 4 (s.pnl.written + 1)
    unknown := rowCleared s.pnl.unknown r.row, repair := rowCleared s.pnl.repair r.row
    repaired := if s.pnl.repair.testBit r.row then satN 4 (s.pnl.repaired + 1) else s.pnl.repaired } }

/-- A repair pass that has written its last row ends with its report (R537). -/
def passEnded (t : State) : State :=
  let u := pulse t 193 t.pnl.repairing
  let v : State := { u with pnl := { u.pnl with repairing := 0 } }
  if v.st panelFid = .starting then changeState v panelFid .running else v

theorem rowDone_eq (s : State) (r : PRow) : rowDone s r =
    (let t := panelCause (rowShown s r) 4 (fLt (pnBookMax (panelCfg (rowShown s r))) (largestBook (rowShown s r)))
     if s.pnl.repair.testBit r.row && decide (t.pnl.repair = 0) then passEnded t else t) := rfl

theorem passEnded_pnl (t : State) : (passEnded t).pnl = { t.pnl with repairing := 0 } := by
  have sent : (pulse t 193 t.pnl.repairing).pnl = t.pnl := pnl_of_off (pulse_off t 193 _ 96 rfl) rfl
  unfold passEnded
  dsimp only
  split_ifs
  · exact (pnl_of_off (changeState_off _ _ _ 160 rfl) rfl).trans (congrArg (fun p : Pnl => { p with repairing := 0 }) sent)
  · exact congrArg (fun p : Pnl => { p with repairing := 0 }) sent

/-- A completed row leaves the panel as shown, but for its causes and the pass's count. -/
theorem rowDone_pnl (s : State) (r : PRow) :
    ∃ w k, (rowDone s r).pnl = { (rowShown s r).pnl with wrong := w, repairing := k } := by
  rw [rowDone_eq]
  dsimp only
  split_ifs
  · rw [passEnded_pnl, panelCause_pnl]
    exact ⟨_, _, rfl⟩
  · rw [panelCause_pnl]
    exact ⟨_, _, rfl⟩

theorem bookPhase_at (l : List F32) (r : PRow) (n : Nat) (ms : F32) {i : Nat} (cell : i < 768) :
    bookAt (bookPhase l r n ms) i = fAdd (bookAt l i)
      (fMul (fSub (segV r n ((byteAt r.target (i % 48 / 8)).testBit (i % 48 % 8)))
        (if i / 48 = r.row then comV r n else r.vpm)) ms) := by
  unfold bookAt bookPhase
  rw [List.getD_eq_getElem?_getD, List.getElem?_map, List.getElem?_range cell]
  rfl

/-! ## The target image (R539) -/

theorem targetImage_of_free (free : s.fcr.safeStopped = false) : targetImage s = (frameOf s.pnl.frames 0).1 := by
  unfold targetImage targetNo
  rw [free]
  rfl

section
variable (stopped : s.fcr.safeStopped = true)
include stopped

theorem targetImage_of_plain (plain : pnOverlay (s.app .panel) = false) :
    targetImage s = (frameOf s.pnl.frames 1).1 := by
  unfold targetImage targetNo
  rw [stopped]
  exact if_neg (by rw [show panelCfg s = s.app .panel from rfl, plain]; decide)

theorem targetImage_of_overlay (overlay : pnOverlay (s.app .panel) = true) : targetImage s =
    ((List.range 21).zip (overlayCells s.fcr.ssCause)).foldl
      (fun m e => setCell m (pnDigit (s.app .panel) e.1).1 (pnDigit (s.app .panel) e.1).2 e.2)
      (frameOf s.pnl.frames 1).1 := by
  unfold targetImage targetNo
  rw [stopped]
  exact if_pos (by rw [show panelCfg s = s.app .panel from rfl, overlay]; decide)

end

/-! ## Repair (R534, R537) -/

/-- A mask with the bits of rows set. -/
def rowsMarked (l : List PRow) (m : Nat) : Nat := l.foldl (fun m r => m ||| 2 ^ r.row) m

theorem rowsMarked_eq_or (l : List PRow) (m : Nat) : rowsMarked l m = m ||| rowsMarked l 0 := by
  unfold rowsMarked
  induction l generalizing m with
  | nil => exact (Nat.or_zero m).symm
  | cons r l ih => rw [List.foldl_cons, List.foldl_cons, ih, ih (0 ||| _), Nat.zero_or, Nat.or_assoc]

theorem interrupted_of_running (runs : s.pnl.run ≠ none) : interrupted s = [] :=
  if_pos (Option.isSome_iff_ne_none.mpr runs)

theorem interrupted_of_idle (idle : s.pnl.run = none) : interrupted s = s.pnl.journal.filter fun r => !r.done :=
  if_neg (by rw [idle]; decide)

theorem repairPass_of_none (none : interrupted s = []) : repairPass s = s := if_pos (by rw [none]; rfl)

/-- The panel as a repair pass begins. -/
theorem repairPass_pnl (some : interrupted s ≠ []) : ∃ w, (repairPass s).pnl = { s.pnl with
    books := (interrupted s).foldr (fun r b => bookEntry (s.app .panel) b r) s.pnl.booksSaved
    booksSaved := (interrupted s).foldr (fun r b => bookEntry (s.app .panel) b r) s.pnl.booksSaved
    unknown := s.pnl.unknown ||| rowsMarked (interrupted s) 0, repair := s.pnl.repair ||| rowsMarked (interrupted s) 0
    repairing := ((List.range 16).filter fun c => (s.pnl.repair ||| rowsMarked (interrupted s) 0).testBit c).length
    journal := s.pnl.journal.map fun r => { r with done := true }, wrong := w } :=
  ⟨_, (congrArg State.pnl (if_neg (by rwa [List.isEmpty_iff]))).trans (panelCause_pnl _ _ _)⟩

end

end Sys2Proof.Machine

namespace Sys2Proof

open Machine

/-- Settles O58: what begins a row, what each phase books, what a completed row leaves, and what a repair pass marks. -/
theorem panelRows : Obligations.PanelRows := by
  unfold Obligations.PanelRows
  refine ⟨fun s => ?start, fun s => ⟨checkFrame_of_good, checkFrame_of_copy, checkFrame_of_lost⟩,
    fun c s => ⟨rfl, rfl, rfl⟩, fun c s => ?next, fun c s => rowPending_iff, fun c tr vr s => ?halves, fun s idle => ?idle,
    fun r s runs => ?phase, fun r s => ?done, fun l r ms i cell => ?books,
    fun s => ⟨targetImage_of_free, targetImage_of_plain, targetImage_of_overlay⟩, fun s => ?repair⟩
  case start =>
    refine ⟨fun other => next_settle_congr ?_, fun c ready next bad => next_settle_congr ?_,
      fun c ready next good => next_settle_congr ?_⟩
    · by_cases ready : RowReady s
      · exact xPanelRowStart_of_none ready (other.resolve_left (not_not.mpr ready))
      · exact xPanelRowStart_of_unready ready
    · exact (xPanelRowStart_of_next ready next).trans (if_neg (ne_true_of_eq_false bad))
    · exact (xPanelRowStart_of_next ready next).trans (if_pos good)
  case next =>
    refine ⟨fun repairs => ?_, fun idle works => ?_, fun idle rests => nextRow_of_rests idle rests⟩
    · rw [nextRow_of_repairs repairs]
      exact findRow_iff _ c
    · rw [nextRow_of_works idle works]
      exact findRow_iff _ c
  case halves =>
    exact ⟨fun up down => resetHalves_of_positive up down, fun down up => resetHalves_of_negative down up,
      fun up down => resetHalves_of_even up down⟩
  case idle =>
    exact ⟨next_settle_congr (xPanelPhaseEnd_of_idle idle), congrArg Host.Outcome.next (xPanelJournalTick_of_idle idle)⟩
  case phase =>
    refine ⟨fun early => next_settle_congr (xPanelPhaseEnd_of_early runs early),
      fun due more => next_settle_congr ?_, fun due last => next_settle_congr ?_,
      fun due => congrArg Host.Outcome.next (xPanelJournalTick_of_due runs due),
      fun early => congrArg Host.Outcome.next (xPanelJournalTick_of_early runs early)⟩
    · rw [xPanelPhaseEnd_of_due runs due, if_neg (Nat.not_le.mpr more), rowNoted_eq]
      rfl
    · exact (xPanelPhaseEnd_of_due runs due).trans (if_pos last)
  case done =>
    obtain ⟨w, k, shown⟩ := rowDone_pnl s r
    rw [shown]
    exact ⟨rfl, rfl, rfl, rfl, rfl, rfl, rfl, journalNoted_head _ _, journalNoted_rest _ _, rfl⟩
  case books =>
    exact ⟨bookPhase_at l r 1 ms cell, bookPhase_at l r 2 ms cell, bookPhase_at l r 3 ms cell, bookPhase_at l r 4 ms cell,
      bookPhase_at l r 5 ms cell⟩
  case repair =>
    refine ⟨interrupted_of_running, interrupted_of_idle, repairPass_of_none, fun some => ?_⟩
    obtain ⟨w, marked⟩ := repairPass_pnl some
    rw [marked]
    exact ⟨(rowsMarked_eq_or _ _).symm, (rowsMarked_eq_or _ _).symm, rfl, rfl, rfl⟩

end Sys2Proof
end

section
/-! SUPPORT. The test unlock and the perturbation slots: which slots end, and what each opcode answers (18 R571, R572,
R574, R577, R580). -/

namespace Sys2Proof.Machine

/-! ## Tables and lists -/

section
variable {κ α : Type} [DecidableEq κ] {t : Tbl κ α} {k j : κ}

theorem tfind_eq_none_iff : tfind t k = none ↔ ∀ e ∈ t, e.1 ≠ k := by
  unfold tfind
  rw [Option.map_eq_none_iff, List.find?_eq_none]
  simp only [decide_eq_true_iff]

theorem tfind_tdel_same : tfind (tdel t k) k = none :=
  tfind_eq_none_iff.mpr fun _ left => of_decide_eq_true (List.mem_filter.mp left).2

theorem tfind_tdel_of_ne (other : k ≠ j) : tfind (tdel t k) j = tfind t j := by
  unfold tfind tdel
  rw [List.find?_filter]
  refine congrArg (Option.map _) (congrArg (fun p => t.find? p) (funext fun e => ?_))
  by_cases here : e.1 = j
  · simp [here, other.symm]
  · simp [here]

/-- A found entry stands in its table. -/
theorem mem_of_tfind {v : α} (found : tfind t k = some v) : (k, v) ∈ t := by
  unfold tfind at found
  obtain ⟨e, entry, rfl⟩ := Option.map_eq_some_iff.mp found
  obtain rfl : e.1 = k := of_decide_eq_true (List.find?_some (p := fun e : κ × α => decide (e.1 = k)) entry)
  exact List.mem_of_find?_eq_some entry

end

theorem mem_insertNat (n m : Nat) (l : List Nat) : m ∈ insertNat n l ↔ m = n ∨ m ∈ l := by
  induction l with
  | nil => exact List.mem_cons
  | cons x r ih =>
    unfold insertNat
    split
    · exact List.mem_cons
    · rw [List.mem_cons, ih, List.mem_cons, or_left_comm]

theorem mem_sortNat (m : Nat) (l : List Nat) : m ∈ sortNat l ↔ m ∈ l := by
  unfold sortNat
  induction l with
  | nil => exact Iff.rfl
  | cons x r ih => rw [List.foldr_cons, mem_insertNat, ih, List.mem_cons]

section
variable {s : State}

/-! ## Slots that end (R577) -/

/-- The end of a slot removes it, and leaves the unlock and every other slot (R577). -/
theorem slotEnd_tst (s : State) (i cause : Nat) :
    (slotEnd s i cause).tst = { s.tst with slots := (slotEnd s i cause).tst.slots } ∧
      ∀ j, tfind (slotEnd s i cause).tst.slots j = if j = i then none else tfind s.tst.slots j := by
  cases used : tfind s.tst.slots i with
  | none =>
    have same : slotEnd s i cause = s := by
      unfold slotEnd
      rw [used]
    rw [same]
    refine ⟨rfl, fun j => ?_⟩
    split_ifs with here
    · exact here ▸ used
    · rfl
  | some p =>
    have ended : (slotEnd s i cause).tst = { s.tst with slots := tdel s.tst.slots i } := by
      unfold slotEnd
      rw [used]
      refine (tst_of_off (emit_off _ _ _ _ 32 rfl) rfl).trans ?_
      dsimp only
      split_ifs
      · exact tst_of_off (seeEnc_off _ _ _ 96 rfl) rfl
      · rfl
    rw [ended]
    refine ⟨rfl, fun j => ?_⟩
    split_ifs with here
    · exact here ▸ tfind_tdel_same
    · exact tfind_tdel_of_ne (Ne.symm here)

theorem slotEnd_unlock (s : State) (i cause : Nat) : (slotEnd s i cause).tst.unlock = s.tst.unlock :=
  by rw [(slotEnd_tst s i cause).1]

theorem slotEnd_slots (s : State) (i cause j : Nat) :
    tfind (slotEnd s i cause).tst.slots j = if j = i then none else tfind s.tst.slots j := (slotEnd_tst s i cause).2 j

/-- Of the slots below a number, the named ones end. -/
theorem forN_slotEnd_slots (named : Nat → Bool) (k : Nat) (s : State) (j : Nat) :
    tfind (forN k (fun s i => if named i then slotEnd s i 1 else s) s).tst.slots j =
      if j < k ∧ named j = true then none else tfind s.tst.slots j := by
  induction k with
  | zero => rw [if_neg fun h => Nat.not_lt_zero j h.1]; rfl
  | succ k ih =>
    rw [forN_succ]
    by_cases turn : named k = true
    · rw [if_pos turn, slotEnd_slots, ih]
      by_cases here : j = k
      · subst here
        rw [if_pos rfl, if_pos ⟨Nat.lt_succ_self j, turn⟩]
      · rw [if_neg here]
        exact if_congr (and_congr_left fun _ => by omega) rfl rfl
    · rw [if_neg turn, ih]
      refine if_congr ⟨fun h => ⟨by omega, h.2⟩, fun h => ⟨?_, h.2⟩⟩ rfl rfl
      obtain below | rfl := Nat.lt_succ_iff_lt_or_eq.mp h.1
      · exact below
      · exact absurd h.2 turn

theorem foldl_slotEnd_slots (cause : Nat) (l : List Nat) (s : State) (j : Nat) :
    tfind (l.foldl (fun s i => slotEnd s i cause) s).tst.slots j = if j ∈ l then none else tfind s.tst.slots j := by
  induction l generalizing s with
  | nil => exact (if_neg List.not_mem_nil).symm
  | cons i l ih =>
    rw [List.foldl_cons, ih, slotEnd_slots]
    by_cases later : j ∈ l
    · rw [if_pos later, if_pos (List.mem_cons_of_mem i later)]
    · rw [if_neg later]
      exact if_congr ⟨fun here => here ▸ List.mem_cons_self, fun mem => (List.mem_cons.mp mem).resolve_right later⟩ rfl rfl

/-! ## The unlock's end (R572) -/

/-- The slots without a duration. -/
def openEnded (s : State) : List Nat := sortNat ((s.tst.slots.filter fun e => e.2.till.isNone).map (·.1))

theorem mem_openEnded {i : Nat} : i ∈ openEnded s ↔ ∃ q, (i, q) ∈ s.tst.slots ∧ q.till = none := by
  unfold openEnded
  rw [mem_sortNat, List.mem_map]
  constructor
  · rintro ⟨e, entry, rfl⟩
    obtain ⟨mem, endless⟩ := List.mem_filter.mp entry
    exact ⟨e.2, mem, Option.isNone_iff_eq_none.mp endless⟩
  · rintro ⟨q, mem, endless⟩
    exact ⟨(i, q), List.mem_filter.mpr ⟨mem, Option.isNone_iff_eq_none.mpr endless⟩, rfl⟩

/-- The unlock given up, before its slots end. -/
def unlockGone (s : State) : State := { s with tst := { s.tst with unlock := none } }

theorem unlockEnd_eq (s : State) : unlockEnd s = (openEnded s).foldl (fun s i => slotEnd s i 3) (unlockGone s) := rfl

theorem unlockEnd_unlock (s : State) : (unlockEnd s).tst.unlock = none :=
  List.foldlRecOn (motive := fun t : State => t.tst.unlock = none) (openEnded s) _ rfl
    fun t gone i _ => (slotEnd_unlock t i 3).trans gone

theorem unlockEnd_slots (s : State) (i : Nat) :
    tfind (unlockEnd s).tst.slots i = if i ∈ openEnded s then none else tfind s.tst.slots i := by
  rw [unlockEnd_eq, foldl_slotEnd_slots]
  rfl

theorem unlockFollow_of_locked (locked : s.tst.unlock = none) : unlockFollow s = s := by
  unfold unlockFollow
  rw [locked]

section
variable {n : Nat} (held : s.tst.unlock = some n)
include held

theorem unlockFollow_of_open (here : ∃ x ∈ s.net.sessions, x.num = n) : unlockFollow s = s := by
  unfold unlockFollow
  rw [held]
  exact if_pos (by simpa using here)

theorem unlockFollow_of_closed (gone : ∀ x ∈ s.net.sessions, x.num ≠ n) : unlockFollow s = unlockEnd s := by
  unfold unlockFollow
  rw [held]
  exact if_neg (by simpa using gone)

end

/-- The duration of a slot has passed. -/
abbrev SlotPassed (s : State) (i : Nat) : Prop := ∃ q e, tfind s.tst.slots i = some q ∧ q.till = some e ∧ e ≤ s.mono

theorem xPerturbationExpiry_of_passed {i : Nat} (passed : SlotPassed s i) : xPerturbationExpiry i s = slotEnd s i 2 := by
  obtain ⟨q, e, used, till, late⟩ := passed
  unfold xPerturbationExpiry
  rw [used]
  dsimp only
  rw [till]
  exact if_pos late

theorem xPerturbationExpiry_of_open {i : Nat} (runs : ¬ SlotPassed s i) : xPerturbationExpiry i s = s := by
  unfold xPerturbationExpiry
  split
  · split
    · exact if_neg fun late => runs ⟨_, _, ‹_›, ‹_›, late⟩
    · rfl
  · rfl

/-! ## The opcodes -/

section
variable {p : Bytes}

theorem opTestUnlock_of_other {n : Nat} (held : s.tst.unlock = some n) (other : n ≠ curSession s) :
    opTestUnlock.body s p = failAns s stLocked 0 := by
  unfold opTestUnlock
  dsimp only
  rw [held]
  exact if_pos other

theorem opTestUnlock_of_own (held : s.tst.unlock = some (curSession s)) : opTestUnlock.body s p =
    if (byteAt p 2).testBit 0 then okAns (unlockEnd s) else okAns s := by
  unfold opTestUnlock
  dsimp only
  rw [held]
  exact if_neg (not_not.mpr rfl)

theorem opTestUnlock_of_free (free : s.tst.unlock = none) : opTestUnlock.body s p =
    if (byteAt p 2).testBit 0 then okAns s
    else okAns { s with tst := { s.tst with unlock := some (curSession s) } } := by
  unfold opTestUnlock
  dsimp only
  rw [free]

/-- The slot, or the kind and target, of a PERTURB_SET is in use. -/
abbrev PerturbUsed (s : State) (p : Bytes) : Prop :=
  tfind s.tst.slots (byteAt p 0) ≠ none ∨ perturb s (byteAt p 1) (rd p 2 2) ≠ none

theorem perturbUsed_iff : ((tfind s.tst.slots (byteAt p 0)).isSome || (perturb s (byteAt p 1) (rd p 2 2)).isSome) = true ↔
    PerturbUsed s p := by
  rw [Bool.or_eq_true, Option.isSome_iff_ne_none, Option.isSome_iff_ne_none]

/-- The slot of a PERTURB_SET. -/
def slotAsked (s : State) (p : Bytes) : TSlot :=
  { kind := byteAt p 1, target := rd p 2 2, mag := rd p 4 4, opt := rd p 8 4
    till := if rd p 12 4 = 0 then none else some (s.mono + rd p 12 4 * 250000) }

/-- The slot runs, with its event. -/
def slotBegun (s : State) (p : Bytes) : State :=
  emit { s with tst := { s.tst with slots := tput s.tst.slots (byteAt p 0) (slotAsked s p) } } 0x1001 0xFFFF
    (b1 (byteAt p 0) ++ b1 (byteAt p 1) ++ b1 1 ++ b1 0)

/-- A slot whose kind acts at once has acted. -/
def slotActed (s : State) (p : Bytes) : State :=
  if byteAt p 1 = 6 then simShort (slotBegun s p) (rd p 2 2)
  else if byteAt p 1 = 8 then seeEnc (slotBegun s p) (rd p 2 2) (rd p 4 4) else slotBegun s p

theorem now_of_tsu {s t : State} (same : t.tsu = s.tsu) : t.now = s.now := by
  unfold State.now State.td State.dom
  rw [same]

theorem slotActed_now : (slotActed s p).now = s.now := by
  have begun : (slotBegun s p).tsu = s.tsu := by
    unfold slotBegun
    exact (tsu_of_off (emit_off _ _ _ _ 32 rfl) rfl).trans rfl
  refine now_of_tsu ?_
  unfold slotActed
  split_ifs
  · exact (tsu_of_off (simShort_off _ _ 32768 rfl) rfl).trans begun
  · exact (tsu_of_off (seeEnc_off _ _ _ 96 rfl) rfl).trans begun
  · exact begun

section
variable (mine : s.tst.unlock = some (curSession s))
include mine

theorem opPerturbSet_of_used (used : PerturbUsed s p) : opPerturbSet.body s p = failAns s stBusy 0 :=
  (if_neg (not_not.mpr mine)).trans (if_pos (perturbUsed_iff.mpr used))

theorem opPerturbSet_of_free (free : ¬ PerturbUsed s p) :
    opPerturbSet.body s p = okWith (slotActed s p) (leT s.now) := by
  have set : opPerturbSet.body s p = okWith (slotActed s p) (leT (slotActed s p).now) := by
    unfold slotActed slotBegun slotAsked
    rw [Nat.mul_comm (rd p 12 4)]
    exact (if_neg (not_not.mpr mine)).trans (if_neg (mt perturbUsed_iff.mp free))
  rw [set, slotActed_now]

end

theorem slotRemain_eq (s : State) (q : TSlot) : slotRemain s q = match q.till with
    | none => 0xFFFFFFFF | some e => (e - s.mono + 249999) / 250000 := by
  unfold slotRemain
  cases q.till <;> rfl

/-- An entry of TEST_STATUS. -/
def slotEntry (s : State) (i : Nat) : Bytes :=
  match tfind s.tst.slots i with
  | none => zeros 16
  | some q => b1 q.kind ++ b1 0 ++ le 2 q.target ++ le 4 q.mag ++ le 4 q.opt ++ le 4 (slotRemain s q)

@[simp] theorem slotEntry_length (i : Nat) : (slotEntry s i).length = 16 := by
  unfold slotEntry
  split <;> simp

theorem opTestStatus_body : opTestStatus.body s p = okWith s (leT s.now ++ b1 (bit s.boot.bench 0) ++
    b1 (bit s.tst.unlock.isSome 0) ++ le 2 (s.tst.unlock.getD 0) ++ le 2 (slotMask s) ++ zeros 2 ++
    (List.range 16).flatMap (slotEntry s)) := rfl

end

end

end Sys2Proof.Machine

namespace Sys2Proof

open Machine

/-- Settles O60: an opcode by who holds the unlock, and the end of an unlock or a slot by the slots it removes. -/
theorem testCommands : Obligations.TestCommands := by
  unfold Obligations.TestCommands
  refine ⟨fun h p s ok => ?unlock, fun h p n s ok => ?set, fun h p s ok => ?clear, fun h p s ok => ?status,
    fun i s => ?expiry, fun s => ?ended⟩
  case unlock =>
    have answered {a : Ans} (size : a.data.length = 0) (body : opTestUnlock.body (atBody s h) p = a) :
        exec (.testUnlock h p) s = .next (settle (replied h 0x1000 p a)) := exec_host_of_accepted rfl rfl ok body size
    refine ⟨fun n held other => answered rfl (opTestUnlock_of_other (s := atBody s h) held other),
      fun own open_ => ?_, fun own lock => ?_, fun free open_ => ?_, fun free lock => ?_⟩
    · exact answered rfl ((opTestUnlock_of_own (s := atBody s h) own).trans (if_neg open_))
    · exact answered rfl ((opTestUnlock_of_own (s := atBody s h) own).trans (if_pos lock))
    · exact answered rfl ((opTestUnlock_of_free (s := atBody s h) free).trans (if_neg open_))
    · exact answered rfl ((opTestUnlock_of_free (s := atBody s h) free).trans (if_pos lock))
  case set =>
    have answered {a : Ans} {m : Nat} (size : n = m) (fits : a.data.length = m)
        (body : opPerturbSet.body (atBody s h) p = a) :
        exec (.perturbSet h p) s = .next (settle (replied h 0x1001 p a)) :=
      exec_host_of_accepted rfl rfl ok body (fits.trans size.symm)
    exact ⟨fun locked size => answered size rfl (if_pos locked),
      fun mine used size => answered size rfl (opPerturbSet_of_used (s := atBody s h) mine used),
      fun mine free size => answered size (by simp [okWith]) (opPerturbSet_of_free (s := atBody s h) mine free)⟩
  case clear =>
    refine ⟨fun locked => exec_host_of_accepted rfl rfl ok (if_pos locked) rfl,
      fun mine => exec_host_of_accepted rfl rfl ok (if_neg (not_not.mpr mine)) rfl, fun i low => ?_⟩
    exact (forN_slotEnd_slots _ 16 (atBody s h) i).trans (if_congr (and_iff_right low) rfl rfl)
  case status =>
    have slots (i : Nat) : slotEntry (atBody s h) i = (match tfind s.tst.slots i with
      | none => zeros 16
      | some q => b1 q.kind ++ b1 0 ++ le 2 q.target ++ le 4 q.mag ++ le 4 q.opt ++ le 4 (match q.till with
        | none => 0xFFFFFFFF | some e => (e - s.mono + 249999) / 250000)) := by
      unfold slotEntry
      simp only [slotRemain_eq]
      rfl
    have answer := exec_read_of_accepted (i := .testStatus h p) rfl rfl ok opTestStatus_body (by simp)
    rw [funext slots] at answer
    exact answer
  case expiry =>
    exact ⟨fun passed => next_settle_congr (xPerturbationExpiry_of_passed passed),
      fun runs => next_settle_congr (xPerturbationExpiry_of_open runs), (slotEnd_slots s i 2 i).trans (if_pos rfl)⟩
  case ended =>
    refine ⟨unlockEnd_unlock s, fun i q used endless => ?_, fun i timed => ?_, unlockFollow_of_locked,
      fun n held here => unlockFollow_of_open held here, fun n held gone => unlockFollow_of_closed held gone⟩
    · exact (unlockEnd_slots s i).trans (if_pos (mem_openEnded.mpr ⟨q, mem_of_tfind used, endless⟩))
    · refine (unlockEnd_slots s i).trans (if_neg fun mem => ?_)
      obtain ⟨q, entry, endless⟩ := mem_openEnded.mp mem
      exact timed (i, q) entry rfl endless

end Sys2Proof
end

section
/-! SUPPORT. What a power state's entry leaves, which wakes a state listens to, and the IGN sequence (15 R497, R498, R503 to
R505). -/

namespace Sys2Proof.Machine

section
variable {s : State} {t c : Nat}

/-! ## Entries (R497, R498, R503) -/

/-- The power block once a state is reached. -/
def stateReached (s : State) (t : Nat) (u : State) : State :=
  u.setPwr { u.pwr with
    state := t, entering := none, heldWake := none, since := u.mono
    wakeAt := if s.pwr.wakeMs = 0 then none else some (s.mono + msT s.pwr.wakeMs) }

/-- The module in the state it was entering. -/
def stateEntered (s : State) (t : Nat) : State := entered s t (stateReached s t)

/-- The states that can be entered (R495). -/
abbrev Enterable (t : Nat) : Prop := t = 1 ∨ t = 2 ∨ t = 3 ∨ t = 5

/-- The panel has finished its row, or the state does not wait for it. -/
abbrev RowOver (s : State) (t : Nat) : Prop := 2 ≤ t → s.pnl.run = none

theorem xPowerStateEntryComplete_of_none (none : s.pwr.entering = none) : xPowerStateEntryComplete s = s := by
  unfold xPowerStateEntryComplete
  rw [none]

theorem xPowerStateEntryComplete_of_row (entering : s.pwr.entering = some t) (low : 2 ≤ t) (row : s.pnl.run ≠ none) :
    xPowerStateEntryComplete s = s := by
  unfold xPowerStateEntryComplete
  rw [entering]
  exact if_pos ⟨low, Option.isSome_iff_ne_none.mpr row⟩

section
variable (entering : s.pwr.entering = some t) (row : RowOver s t)
include entering row

theorem xPowerStateEntryComplete_of_over : xPowerStateEntryComplete s =
    match s.pwr.heldWake with | some c => wakeNow c (stateEntered s t) | none => stateEntered s t := by
  unfold xPowerStateEntryComplete
  rw [entering]
  refine if_neg fun ⟨low, busy⟩ => ?_
  rw [row low] at busy
  exact absurd busy (by decide)

theorem xPowerStateEntryComplete_of_quiet (quiet : s.pwr.heldWake = none) :
    xPowerStateEntryComplete s = stateEntered s t := by
  rw [xPowerStateEntryComplete_of_over entering row, quiet]

theorem xPowerStateEntryComplete_of_held (held : s.pwr.heldWake = some c) :
    xPowerStateEntryComplete s = wakeNow c (stateEntered s t) := by
  rw [xPowerStateEntryComplete_of_over entering row, held]

end

theorem quieten_mono : (quieten s).mono = s.mono := mono_of_off (quieten_off s _ (Nat.and_self _)) rfl
theorem calmLoss_mono : (calmLoss s).mono = s.mono := mono_of_off (calmLoss_off s _ (Nat.and_self _)) rfl

theorem stateReached_pwr (u : State) : (stateReached s t u).pwr.state = t ∧ (stateReached s t u).pwr.entering = none ∧
    (stateReached s t u).pwr.since = u.mono ∧ (stateReached s t u).pwr.wakeAt =
      if s.pwr.wakeMs = 0 then none else some (s.mono + 250000 * s.pwr.wakeMs) := ⟨rfl, rfl, rfl, rfl⟩

theorem stateEntered_calm : stateEntered s 3 = stateReached s 3 (calmLoss (quieten s)) := rfl

theorem stateEntered_pwr (state : t = 1 ∨ t = 2 ∨ t = 3) : (stateEntered s t).pwr.state = t ∧
    (stateEntered s t).pwr.entering = none ∧ (stateEntered s t).pwr.since = s.mono ∧ (stateEntered s t).pwr.wakeAt =
      if s.pwr.wakeMs = 0 then none else some (s.mono + 250000 * s.pwr.wakeMs) := by
  obtain rfl | rfl | rfl := state
  · have told : (stateEntered s 1).pwr = (stateReached s 1 s).pwr := pwr_of_off (emit_off _ _ _ _ 32 rfl) rfl
    rw [told]
    exact stateReached_pwr s
  · have books := stateReached_pwr (s := s) (t := 2) (quieten s)
    rwa [quieten_mono] at books
  · have books := stateReached_pwr (s := s) (t := 3) (calmLoss (quieten s))
    rwa [calmLoss_mono, quieten_mono] at books

/-- OFF holds the module in reset (R500). -/
theorem stateEntered_off : (stateEntered s 5).pwr.state = 5 ∧ (stateEntered s 5).pwr.entering = none ∧
    (stateEntered s 5).net.sessions = [] ∧ (stateEntered s 5).boot.phase = 0 := ⟨rfl, rfl, rfl, rfl⟩

theorem stateEntered_state (state : Enterable t) : (stateEntered s t).pwr.state = t ∧ (stateEntered s t).pwr.entering = none := by
  obtain rfl | rfl | rfl | rfl := state
  · exact ⟨(stateEntered_pwr (.inl rfl)).1, (stateEntered_pwr (.inl rfl)).2.1⟩
  · exact ⟨rfl, rfl⟩
  · exact ⟨rfl, rfl⟩
  · exact ⟨rfl, rfl⟩

theorem stateReached_mem (u : State) : (stateReached s t u).mem = u.mem := rfl
theorem calmLoss_mem (s : State) : ∃ m, (calmLoss s).mem = memKept m := ⟨_, rfl⟩

/-- CALM keeps no session, and SRAM and DRAM as if never written (R498). -/
theorem stateEntered_calm_keeps : (stateEntered s 3).net.sessions = [] ∧ (stateEntered s 3).boot.afterCalm = true ∧
    ∀ a, a < 0x60000000 → memGet (stateEntered s 3).mem a = memDefault a := by
  obtain ⟨m, kept⟩ := calmLoss_mem (quieten s)
  refine ⟨rfl, rfl, fun a low => ?_⟩
  rw [stateEntered_calm, stateReached_mem, kept, memGet_memKept m (by omega), if_neg (by omega)]

/-! ## Wakes (R499, R503, R505) -/

theorem vrefBoth_pwr (on : Bool) : (vrefBoth on s).pwr = s.pwr := pwr_of_off (vrefBoth_off on s 104 rfl) rfl

theorem toRun_pwr : (toRun s c).pwr = { s.pwr with state := 0, cause := c, since := s.mono, wakeAt := none } := by
  unfold toRun
  dsimp only
  split_ifs
  · exact (pwr_of_off (emit_off _ _ _ _ 32 rfl) rfl).trans rfl
  · rfl

theorem wakeNow_of_run (run : s.pwr.state = 0) : wakeNow c s = s := by
  unfold wakeNow
  rw [run]
  rfl

theorem wakeNow_of_breeze (breeze : s.pwr.state = 1) (heard : c = 1 ∨ c = 5) : wakeNow c s = toRun s c := by
  unfold wakeNow
  rw [breeze]
  exact if_pos heard

theorem wakeNow_of_lull (lull : s.pwr.state = 2) (heard : c ≠ 5) : wakeNow c s = vrefBoth true (toRun s c) := by
  unfold wakeNow
  rw [lull]
  exact if_neg heard

theorem wakeNow_of_calm (calm : s.pwr.state = 3) (heard : ¬ (c = 5 ∨ c = 4)) : wakeNow c s = resample (toRun s c) := by
  unfold wakeNow
  rw [calm]
  exact if_neg heard

/-- A wake from LULL or CALM by anything but a command or a fault ends in RUN with its cause. -/
theorem wakeNow_pwr_of_asleep (asleep : s.pwr.state = 2 ∨ s.pwr.state = 3) (heard : ¬ (c = 5 ∨ c = 4)) :
    (wakeNow c s).pwr.state = 0 ∧ (wakeNow c s).pwr.cause = c := by
  obtain lull | calm := asleep
  · rw [wakeNow_of_lull lull fun h => heard (.inl h), vrefBoth_pwr, toRun_pwr]
    exact ⟨rfl, rfl⟩
  · rw [wakeNow_of_calm calm heard, pwr_of_off (resample_off _ 96 rfl) rfl, toRun_pwr]
    exact ⟨rfl, rfl⟩

/-- IGN wakes from BREEZE, LULL and CALM. -/
theorem wakeNow_pwr_of_ign (low : 1 ≤ s.pwr.state) (high : s.pwr.state ≤ 3) :
    (wakeNow 1 s).pwr.state = 0 ∧ (wakeNow 1 s).pwr.cause = 1 := by
  obtain breeze | asleep : s.pwr.state = 1 ∨ s.pwr.state = 2 ∨ s.pwr.state = 3 := by omega
  · rw [wakeNow_of_breeze breeze (.inl rfl), toRun_pwr]
    exact ⟨rfl, rfl⟩
  · exact wakeNow_pwr_of_asleep asleep (by decide)

/-- A state, reached or being entered, from which the CAN controllers wake. -/
def canListens (s : State) : Bool :=
  (s.pwr.state = 2 || s.pwr.state = 3) || (match s.pwr.entering with | some t => t = 2 || t = 3 | none => false)

theorem xCanWakePattern_eq (k : Nat) (s : State) :
    xCanWakePattern k s = if k < 10 && canListens s && nWake (s.canCfg k) then wake 2 s else s := rfl

theorem canListens_of_entering (entering : s.pwr.entering = some 2 ∨ s.pwr.entering = some 3) : canListens s = true := by
  unfold canListens
  obtain lull | calm := entering
  · rw [lull]
    exact Bool.or_true _
  · rw [calm]
    exact Bool.or_true _

theorem canListens_of_asleep (asleep : s.pwr.state = 2 ∨ s.pwr.state = 3) : canListens s = true := by
  unfold canListens
  obtain lull | calm := asleep
  · rw [lull]
    rfl
  · rw [calm]
    rfl

section
variable {k : Nat} (controller : k < 10) (listens : canListens s = true)
include controller listens

theorem xCanWakePattern_of_flag (flag : nWake (s.canCfg k) = true) : xCanWakePattern k s = wake 2 s :=
  (xCanWakePattern_eq k s).trans (if_pos (by rw [decide_eq_true controller, listens, flag]; rfl))

end

theorem xCanWakePattern_of_unflagged {k : Nat} (plain : nWake (s.canCfg k) = false) : xCanWakePattern k s = s :=
  (xCanWakePattern_eq k s).trans (if_neg (by rw [plain, Bool.and_false]; decide))

section
variable (at_ : s.pwr.wakeAt = some t)
include at_

theorem xWakeTimerExpiry_of_due (asleep : s.pwr.state = 2 ∨ s.pwr.state = 3) (due : t ≤ s.mono) :
    xWakeTimerExpiry s = wake 3 s := by
  unfold xWakeTimerExpiry
  rw [at_]
  exact if_pos ⟨due, asleep⟩

theorem xWakeTimerExpiry_of_early (early : s.mono < t) : xWakeTimerExpiry s = s := by
  unfold xWakeTimerExpiry
  rw [at_]
  exact if_neg fun h => Nat.not_le.mpr early h.1

end

/-! ## IGN (R504) -/

/-- IGN has been low for the delay, and nothing holds the action back. -/
abbrev IgnDue (s : State) : Prop := s.pwr.ign = false ∧ s.pwr.ignDone = false ∧
  s.pwr.ignAt + 250000 * s.pwr.ignDelay ≤ s.mono ∧ updating s = false ∧ fwRuns s = true ∧ s.pwr.state ≤ 1 ∧
  s.pwr.entering = none

theorem ignDue_iff : (!s.pwr.ign && !s.pwr.ignDone && s.past s.pwr.ignAt (msT s.pwr.ignDelay) && !updating s && fwRuns s &&
    decide (s.pwr.state ≤ 1) && s.pwr.entering.isNone) = true ↔ IgnDue s := by
  simp only [Bool.and_eq_true, Bool.not_eq_true', past_iff, decide_eq_true_iff, Option.isNone_iff_eq_none, and_assoc]
  rfl

theorem xIgnOffDelayExpiry_of_other (other : ¬ IgnDue s) : xIgnOffDelayExpiry s = s := if_neg (mt ignDue_iff.mp other)

/-- The delay's expiry, noted. -/
abbrev ignNoted (s : State) : State := { s with pwr := { s.pwr with ignDone := true } }

/-- What begins a sequence: the functions of `fids` are stopped, and its first stage runs. -/
abbrev ignStops (fids : List Nat) (s : State) : State :=
  let u := fids.foldl (fun s f => stopAny f s) s
  { u with pwr := { u.pwr with ignSeq := 1 } }

section
variable (due : IgnDue s)
include due

theorem xIgnOffDelayExpiry_of_nothing (action : s.pwr.ignAction = 0) : xIgnOffDelayExpiry s = ignNoted s := by
  unfold xIgnOffDelayExpiry
  dsimp only
  rw [if_pos (ignDue_iff.mpr due)]
  split
  case h_1 => rfl
  case h_2 acts => exact absurd (action.symm.trans acts) (by decide)
  case h_3 other _ => exact absurd action other

theorem xIgnOffDelayExpiry_of_deepest (action : s.pwr.ignAction = 1) :
    xIgnOffDelayExpiry s = ignDeepest (ignNoted s) := by
  unfold xIgnOffDelayExpiry
  dsimp only
  rw [if_pos (ignDue_iff.mpr due)]
  split
  case h_1 acts => exact absurd (action.symm.trans acts) (by decide)
  case h_2 => rfl
  case h_3 _ other => exact absurd action other

theorem xIgnOffDelayExpiry_of_stop (action : s.pwr.ignAction = 2) :
    xIgnOffDelayExpiry s = ignStops (ignFirst ++ ignRest) (ignNoted s) := by
  unfold xIgnOffDelayExpiry
  dsimp only
  rw [if_pos (ignDue_iff.mpr due)]
  split
  case h_1 acts => exact absurd (action.symm.trans acts) (by decide)
  case h_2 acts => exact absurd (action.symm.trans acts) (by decide)
  case h_3 =>
    generalize ignFirst ++ ignRest = fids
    rfl

end

theorem ignDeepest_of_some {n : Nat} (selected : deepest s = some n) : ignDeepest s = enter n 0 s := by
  unfold ignDeepest
  rw [selected]

theorem ignDeepest_of_none (none : deepest s = none) : ignDeepest s = powerEvent s s.pwr.state 0xFF := by
  unfold ignDeepest
  rw [none]

theorem ignProgress_of_groups (seq : s.pwr.ignSeq = 1) (idle : ∀ g, g < 64 → (s.st (gFid g)).idle = true) :
    ignProgress s = chanFids.foldl (fun s f => stopAny f s) (s.setPwr { s.pwr with ignSeq := 2 }) := by
  refine if_pos ⟨seq, List.all_eq_true.mpr fun f mem => ?_⟩
  obtain ⟨g, low, rfl⟩ := List.mem_map.mp mem
  exact idle g (List.mem_range.mp low)

theorem ignProgress_of_all (seq : s.pwr.ignSeq = 2)
    (idle : ∀ f ∈ ignFirst ++ ignRest ++ chanFids, (s.st f).idle = true) :
    ignProgress s = ignDeepest (s.setPwr { s.pwr with ignSeq := 0 }) :=
  (if_neg fun h => absurd (seq.symm.trans h.1) (by decide)).trans (if_pos ⟨seq, List.all_eq_true.mpr idle⟩)

theorem group_mem_ignRest {g : Nat} (group : g < 64) : 0x0300 + g ∈ ignRest := by
  unfold ignRest
  simp only [List.append_assoc]
  refine List.mem_append_left _ (List.mem_filter.mpr ⟨List.mem_flatMap.mpr ⟨3, List.mem_cons_self, ?_⟩, ?_⟩)
  · exact List.mem_map.mpr ⟨g, List.mem_range.mpr group, rfl⟩
  · exact decide_eq_true (by omega)

end

end Sys2Proof.Machine

namespace Sys2Proof

open Machine

/-- Settles O23: an entry by the state reached, a wake by the state that listens to it, the IGN action by its number. -/
theorem powerStateChanges : Obligations.PowerStateChanges := by
  unfold Obligations.PowerStateChanges
  refine ⟨fun s t entering state row quiet => ?entry, fun s t entering low row => ?held_row,
    fun s t c entering state row held => ?held_wake, fun s none => ?no_entry, fun s => ?rise, fun s => ?fall,
    fun k s controller flag entering first => ?pattern_held, fun k s controller asleep awake => ?pattern,
    fun t s at_ asleep awake => ?timer, fun s low fresh due still runs state awake => ?action,
    fun s other => next_settle_congr (xIgnOffDelayExpiry_of_other other), by decide, fun g => group_mem_ignRest,
    fun s => ignProgress_of_groups, fun s => ignProgress_of_all⟩
  case entry =>
    refine ⟨stateEntered s t, next_settle_congr (xPowerStateEntryComplete_of_quiet entering row quiet), (stateEntered_state state).1,
      (stateEntered_state state).2, fun on => ?_, fun calm => calm ▸ stateEntered_calm_keeps, fun off => ?_⟩
    · exact (stateEntered_pwr (by omega)).2.2
    · subst off
      exact stateEntered_off.2.2
  case held_row => exact next_settle_congr (xPowerStateEntryComplete_of_row entering low row)
  case held_wake =>
    exact ⟨stateEntered s t, next_settle_congr (xPowerStateEntryComplete_of_held entering row held), stateEntered_state state⟩
  case no_entry => exact next_settle_congr (xPowerStateEntryComplete_of_none none)
  case rise =>
    refine ⟨fun awake => next_settle_congr (wake_of_awake awake), fun _ low high => wakeNow_pwr_of_ign low high,
      fun _ run => wakeNow_of_run run, fun entering first => ?_, fun entering held => ?_⟩
    all_goals obtain ⟨t, under⟩ := Option.ne_none_iff_exists'.mp entering
    · exact next_settle_congr (wake_of_first (s := s.setPwr _) under first)
    · exact next_settle_congr (wake_of_held (s := s.setPwr _) under held)
  case fall =>
    exact ⟨fun high => congrArg Host.Outcome.next (if_pos high),
      fun low => congrArg Host.Outcome.next (if_neg (ne_true_of_eq_false low))⟩
  case pattern_held =>
    have under : ∃ t, s.pwr.entering = some t := entering.elim (fun h => ⟨_, h⟩) fun h => ⟨_, h⟩
    obtain ⟨t, under⟩ := under
    exact next_settle_congr ((xCanWakePattern_of_flag controller (canListens_of_entering entering) flag).trans
      (wake_of_first under first))
  case pattern =>
    refine ⟨fun flag => ⟨wakeNow 2 s, next_settle_congr ?_, wakeNow_pwr_of_asleep asleep (by decide)⟩,
      fun plain => next_settle_congr (xCanWakePattern_of_unflagged plain)⟩
    exact (xCanWakePattern_of_flag controller (canListens_of_asleep asleep) flag).trans (wake_of_awake awake)
  case timer =>
    refine ⟨fun due => ⟨wakeNow 3 s, next_settle_congr ?_, wakeNow_pwr_of_asleep asleep (by decide)⟩,
      fun early => next_settle_congr (xWakeTimerExpiry_of_early at_ early)⟩
    exact (xWakeTimerExpiry_of_due at_ asleep due).trans (wake_of_awake awake)
  case action =>
    have due : IgnDue s := ⟨low, fresh, due, still, runs, state, awake⟩
    refine ⟨fun action => next_settle_congr (xIgnOffDelayExpiry_of_nothing due action), fun n action selected => ?_,
      fun action none => ?_, fun action => ?_⟩
    rotate_left 2
    · refine next_settle_congr ((xIgnOffDelayExpiry_of_stop due action).trans ?_)
      generalize ignFirst ++ ignRest = fids
      rfl
    · exact next_settle_congr ((xIgnOffDelayExpiry_of_deepest due action).trans (ignDeepest_of_some selected))
    · exact next_settle_congr ((xIgnOffDelayExpiry_of_deepest due action).trans (ignDeepest_of_none none))

end Sys2Proof
end

section
/-! SUPPORT. PWR_SET_BUDGET, the scheduling window, and the energy meter (15 R508 to R513, R515, R521). -/

namespace Sys2Proof.Machine

/-! ## PWR_SET_BUDGET (R521) -/

section
variable {s : State} {p : Bytes}

/-! The module's cap. -/

section
variable (cap : byteAt p 0 = 0)
include cap

theorem opPwrSetBudget_of_capLow (low : fLt (rdF p 4) (fOfNat 20) = true) :
    opPwrSetBudget.body s p = failAns s stOverBudget 0 := (if_pos cap).trans (if_pos low)

variable (enough : fLt (rdF p 4) (fOfNat 20) = false)
include enough

theorem opPwrSetBudget_of_capHigh (high : fLt (fOfNat 85) (rdF p 4) = true) : opPwrSetBudget.body s p = badParam s 4 :=
  ((if_pos cap).trans (if_neg (ne_true_of_eq_false enough))).trans (if_pos high)

theorem opPwrSetBudget_of_cap (fits : fLt (fOfNat 85) (rdF p 4) = false) : opPwrSetBudget.body s p =
    okWith { s with pwr := { s.pwr with
      capNext := some (rdF p 4)
      capStored := if (byteAt p 1).testBit 0 then some (rdF p 4) else s.pwr.capStored } } (leF s.pwr.cap) :=
  ((if_pos cap).trans (if_neg (ne_true_of_eq_false enough))).trans (if_neg (ne_true_of_eq_false fits))

end

/-! A stud's allowance. -/

/-- The allowance asked for is below what the stud's channels need. -/
abbrev AllowShort (s : State) (p : Bytes) : Prop :=
  (fLt f0 (allowMin s (byteAt p 0 - 16)) && fLt (rdF p 4) (allowMin s (byteAt p 0 - 16))) = true

/-- The allowance asked for is outside 25 A to 150 A. -/
abbrev AllowOut (p : Bytes) : Prop := (fLt (rdF p 4) (fOfNat 25) || fLt (fOfNat 150) (rdF p 4)) = true

section
variable (stud : 16 ≤ byteAt p 0)
include stud

theorem opPwrSetBudget_of_allowShort (short : AllowShort s p) : opPwrSetBudget.body s p = failAns s stOverBudget 0 :=
  ((if_neg (by omega)).trans (if_pos stud)).trans (if_pos short)

variable (enough : ¬ AllowShort s p)
include enough

theorem opPwrSetBudget_of_allowOut (out : AllowOut p) : opPwrSetBudget.body s p = badParam s 4 :=
  (((if_neg (by omega)).trans (if_pos stud)).trans (if_neg enough)).trans (if_pos out)

theorem opPwrSetBudget_of_allow (fits : ¬ AllowOut p) : opPwrSetBudget.body s p =
    okWith { s with pwr := { s.pwr with
      allowNext := tput s.pwr.allowNext (byteAt p 0 - 16) (rdF p 4)
      allowStored :=
        if (byteAt p 1).testBit 0 then tput s.pwr.allowStored (byteAt p 0 - 16) (rdF p 4) else s.pwr.allowStored } }
      (leF (s.stud (byteAt p 0 - 16)).allow) :=
  (((if_neg (by omega)).trans (if_pos stud)).trans (if_neg enough)).trans (if_neg fits)

end

/-! A holder's request. -/

/-- The request is outside 0 W to the holder's nominal. -/
abbrev RequestOut (s : State) (p : Bytes) : Prop := (fLt (rdF p 4) f0 || fLt (nominal s (byteAt p 0)) (rdF p 4)) = true

section
variable (named : 0 < byteAt p 0) (holder : byteAt p 0 < 16)
include named holder

theorem opPwrSetBudget_of_requestOut (out : RequestOut s p) : opPwrSetBudget.body s p = badParam s 4 :=
  ((if_neg (by omega)).trans (if_neg (by omega))).trans (if_pos out)

theorem opPwrSetBudget_of_request (fits : ¬ RequestOut s p) : opPwrSetBudget.body s p =
    okWith (s.setHolder (byteAt p 0) { s.holder (byteAt p 0) with
      req := some (rdF p 4)
      reqStored := if (byteAt p 1).testBit 0 then some (rdF p 4) else (s.holder (byteAt p 0)).reqStored })
      (leF (s.holder (byteAt p 0)).grant) :=
  ((if_neg (by omega)).trans (if_neg (by omega))).trans (if_neg fits)

end

end

/-! ## The scheduling window (R509 to R513) -/

section
variable {s : State}

/-- The window of 100 ms that an instant is in, from 1. -/
abbrev windowNow (s : State) : Nat := s.mono / 25000000 + 1

/-- The window opens, with the cap set since the last. -/
abbrev windowOpened (s : State) : State :=
  { s with pwr := { s.pwr with window := windowNow s, cap := s.pwr.capNext.getD s.pwr.cap, capNext := none } }

/-- The allowances set since the last window come into force. -/
abbrev allowancesTaken (s : State) : State :=
  let b := s.pwr.allowNext.foldl allowStep (windowOpened s)
  { b with pwr := { b.pwr with allowNext := [] } }

/-- Each of the holders `order` takes its step by the window's grants. -/
abbrev grantsTaken (order : List Nat) (s : State) : State := order.foldl (grantStep (grantsFor s (present s))) s

/-- The fusion grid, if present, wants the rate its grant allows. -/
abbrev fusionWants (s : State) : State :=
  if present s 1 then { s with fus := { s.fus with rateWant := rateWithin s (s.holder 1).grant } } else s

theorem xBudgetWindow_of_new (runs : fwRuns s = true) (awake : s.pwr.state ≤ 1) (new : s.pwr.window ≠ windowNow s) :
    xBudgetWindow s = heatReport (fusionWants (grantsTaken holderCodes (allowancesTaken s))) :=
  if_pos ⟨runs, awake, new⟩

theorem xBudgetWindow_of_same (same : s.pwr.window = windowNow s) : xBudgetWindow s = s := if_neg fun h => h.2.2 same

end

/-! ## A holder's step -/

section
variable {s : State} {h f : Nat} {l : List (Nat × Option F32)}

theorem grantStep_of_found {g : Option F32} (found : (l.find? fun e => e.1 = h) = some (h, g)) :
    grantStep l s h = grantTo s h g := by
  unfold grantStep
  rw [found]

theorem grantStep_of_absent (absent : (l.find? fun e => e.1 = h) = none) :
    grantStep l s h = s.setHolder h { s.holder h with grant := f0, balance := fMin (s.holder h).balance f0 } := by
  unfold grantStep
  rw [absent]

/-- A holder that is granted no power has none. -/
abbrev ungranted (s : State) (h : Nat) : State :=
  s.setHolder h { s.holder h with
    grant := f0, balance := fMin (fAdd (s.holder h).balance (fDiv f0 (fOfNat 10))) (fDiv f0 (fOfNat 10)) }

theorem grantTo_some (s : State) (h : Nat) (g : F32) : grantTo s h (some g) = s.setHolder h { s.holder h with
    grant := g, balance := fMin (fAdd (s.holder h).balance (fDiv g (fOfNat 10))) (fDiv g (fOfNat 10)), stopped := false } := by
  unfold grantTo
  simp only [Option.getD_some, Option.isNone_some, Bool.and_false]

/-- One whose minimum is not granted, by its function. -/
theorem grantTo_none (s : State) (h : Nat) : grantTo s h none =
    match holderFid h with
    | some f =>
      match s.st f with
      | .starting | .running | .faulted =>
        let u := emitFault (ungranted s h) 0x0202 f (b1 h ++ zeros 3 ++ leF f0)
        stopAny f (u.setHolder h { u.holder h with stopped := true })
      | _ => ungranted s h
    | none => ungranted s h := by
  unfold grantTo
  simp only [Option.getD_none, Option.isNone_none, Bool.and_true]
  cases holderFid h <;> rfl

theorem grantTo_none_of_live (fid : holderFid h = some f) (live : s.st f = .starting ∨ s.st f = .running ∨ s.st f = .faulted) :
    grantTo s h none =
      let u := emitFault (ungranted s h) 0x0202 f (b1 h ++ zeros 3 ++ leF f0)
      stopAny f (u.setHolder h { u.holder h with stopped := true }) := by
  rw [grantTo_none, fid]
  dsimp only
  rcases live with st | st | st <;> rw [st]

theorem grantTo_none_of_idle (fid : holderFid h = some f) (idle : s.st f = .off ∨ s.st f = .config ∨ s.st f = .stopping) :
    grantTo s h none = ungranted s h := by
  rw [grantTo_none, fid]
  dsimp only
  rcases idle with st | st | st <;> rw [st]

theorem grantTo_none_of_system (system : holderFid h = none) : grantTo s h none = ungranted s h := by
  rw [grantTo_none, system]

end

/-! ## ENERGY_METER (R510) -/

/-- What the meter says of a holder is taken from its balance. -/
def energyTaken (s : State) (e : Nat × F32) : State :=
  let x := s.holder e.1
  s.setHolder e.1
    { x with
      balance := fSub x.balance e.2
      recent := (s.mono, e.2) :: x.recent.filter fun r => decide (s.mono < r.1 + secT 1) }

/-- The powers measured. -/
abbrev powersTaken (s : State) (elec diss : F32) : State :=
  { s with pwr := { s.pwr with
      meter := s.mono, elec := elec, diss := diss
      elecs := (s.mono, elec) :: s.pwr.elecs.filter fun r => decide (s.mono < r.1 + secT 1) } }

section
variable {s : State} {use : List (Nat × F32)} {elec diss : F32}

theorem xEnergyMeter_of_early (early : s.mono < s.pwr.meter + 250000) : xEnergyMeter use elec diss s = s :=
  if_neg fun h => Nat.not_le.mpr early ((past_iff s _ _).mp h.2)

theorem xEnergyMeter_of_due (runs : fwRuns s = true) (due : s.pwr.meter + 250000 ≤ s.mono) : xEnergyMeter use elec diss s =
    (use.filter fun e => holderCodes.contains e.1).foldl energyTaken (powersTaken s elec diss) :=
  if_pos ⟨runs, (past_iff s _ _).mpr due⟩

/-- A meter's list touches nothing of the power block but the holders. -/
theorem foldl_energyTaken_pwr (l : List (Nat × F32)) (s : State) : (l.foldl energyTaken s).pwr.elec = s.pwr.elec ∧
    (l.foldl energyTaken s).pwr.diss = s.pwr.diss ∧ (l.foldl energyTaken s).pwr.meter = s.pwr.meter := by
  induction l generalizing s with
  | nil => exact ⟨rfl, rfl, rfl⟩
  | cons e l ih => exact ih (energyTaken s e)

theorem foldl_energyTaken_holder_of_absent {l : List (Nat × F32)} {h : Nat} (absent : ∀ e ∈ l, e.1 ≠ h) (s : State) :
    (l.foldl energyTaken s).holder h = s.holder h := by
  induction l generalizing s with
  | nil => rfl
  | cons e l ih =>
    obtain ⟨other, rest⟩ := List.forall_mem_cons.mp absent
    exact (ih rest _).trans (tget_tput_of_ne _ _ _ other)

theorem energyTaken_balance (s : State) (h : Nat) (e : F32) :
    ((energyTaken s (h, e)).holder h).balance = fSub (s.holder h).balance e :=
  congrArg Holder.balance (tget_tput_same _ _ _ _)

theorem meter_of_one {h : Nat} {e : F32} (named : h ∈ holderCodes) :
    ([(h, e)].filter fun e => holderCodes.contains e.1) = [(h, e)] :=
  List.filter_eq_self.mpr fun x mem => by
    rw [List.mem_singleton.mp mem]
    exact List.contains_iff_mem.mpr named

end

end Sys2Proof.Machine

namespace Sys2Proof

open Machine

/-- Settles O21: a setting by whether it names the cap, a stud or a holder, and by its range; a window by whether it is
new; a holder's step by its grant and its function; the meter by when it last read. -/
theorem budget : Obligations.Budget := by
  unfold Obligations.Budget
  refine ⟨fun h p s ok => ?setting, fun s runs awake => ⟨fun new => ?_, fun same => ?_⟩, fun s v x => rfl,
    fun l s h => ⟨fun g => grantStep_of_found, grantStep_of_absent⟩, grantTo_some,
    fun s h => ⟨fun f => grantTo_none_of_live, fun f => grantTo_none_of_idle, grantTo_none_of_system⟩,
    fun s use a d runs => ⟨fun early => congrArg Host.Outcome.next (xEnergyMeter_of_early early), fun due => ?meter⟩⟩
  case setting =>
    have answered {a : Ans} (size : a.data.length ≤ 4) (body : opPwrSetBudget.body (atBody s h) p = a) :
        exec (.pwrSetBudget h p) s = .next (replied h 0x0202 p a) :=
      exec_hostOnly_of_accepted rfl rfl (accepted_of_le ok size) body
    have none : ([] : Bytes).length ≤ 4 := Nat.zero_le _
    have four (x : F32) : (leF x).length ≤ 4 := by simp
    refine ⟨fun cap low => answered none (opPwrSetBudget_of_capLow cap low),
      fun cap enough high => answered none (opPwrSetBudget_of_capHigh cap enough high),
      fun cap enough fits => answered (four _) (opPwrSetBudget_of_cap (s := atBody s h) cap enough fits),
      fun stud short => answered none (opPwrSetBudget_of_allowShort stud short),
      fun stud enough out => answered none (opPwrSetBudget_of_allowOut stud (ne_true_of_eq_false enough) out),
      fun stud enough fits => answered (four _)
        (opPwrSetBudget_of_allow (s := atBody s h) stud (ne_true_of_eq_false enough) (ne_true_of_eq_false fits)),
      fun named holder out => answered none (opPwrSetBudget_of_requestOut named holder out),
      fun named holder fits => answered (four _)
        (opPwrSetBudget_of_request (s := atBody s h) named holder (ne_true_of_eq_false fits))⟩
  · exact next_settle_congr (xBudgetWindow_of_new runs awake new)
  · exact next_settle_congr (xBudgetWindow_of_same same)
  case meter =>
    refine ⟨_, congrArg Host.Outcome.next (xEnergyMeter_of_due runs due), ?_⟩
    obtain ⟨elec, diss, meter⟩ :=
      foldl_energyTaken_pwr (use.filter fun e => holderCodes.contains e.1) (powersTaken s a d)
    refine ⟨elec, diss, meter, fun x absent => ?_, fun h e named one => ?_⟩
    · exact foldl_energyTaken_holder_of_absent (fun e mem => absent e (List.mem_of_mem_filter mem)) _
    · rw [one, meter_of_one named]
      exact energyTaken_balance (powersTaken s a d) h e

end Sys2Proof
end

section
/-! SUPPORT. The time opcodes (12 R424 to R428). -/

namespace Sys2Proof.Machine

section
variable {s : State} {d : Nat}

theorem gmIdentity_of_none (none : (s.dom d).gmId = none) : gmIdentity s d = ownIdentity := by
  unfold gmIdentity
  rw [none]

theorem gmIdentity_of_some {i : Nat} (named : (s.dom d).gmId = some i) :
    gmIdentity s d = if domSource s d = 1 then (le 8 i).reverse else ownIdentity := by
  unfold gmIdentity
  rw [named]

@[simp] theorem gmIdentity_length (s : State) (d : Nat) : (gmIdentity s d).length = 8 := by
  unfold gmIdentity
  split
  · split
    · simp
    · rfl
  · rfl

@[simp] theorem boundField_length (s : State) (d : Nat) : (boundField s d).length = 4 := le_length _ _

/-- RATE_OVERRIDE that clears. -/
theorem opRateOverride_of_clear {p : Bytes} (clears : tbit (byteAt p 1) 0 = true) :
    opRateOverride.body s p = okAns (s.setDom (byteAt p 0) { s.dom (byteAt p 0) with override := none }) := if_pos clears

/-- A frequency term that is set. -/
abbrev termSet (x : Domain) (f now : Nat) : Domain :=
  { x with freq := f, freqHist := (now, f) :: termsSince (now - 2500000000) x.freqHist, override := some f }

theorem opRateOverride_of_set {p : Bytes} (sets : tbit (byteAt p 1) 0 = false) : opRateOverride.body s p =
    okAns (s.setDom (byteAt p 0) (termSet (s.dom (byteAt p 0)) (rd p 4 8) s.mono)) :=
  if_neg (ne_true_of_eq_false sets)

/-- The field of a term: within 1,000 ppm of nominal where one is set. -/
theorem rateField_mem (p : Bytes) : (4, if tbit (byteAt p 1) 0 then decide (rd p 4 8 = 0)
    else decide (incLo ≤ rd p 4 8 ∧ rd p 4 8 ≤ incHi)) ∈ opRateOverride.layout p :=
  List.mem_cons_of_mem _ (List.mem_cons_of_mem _ (List.mem_cons_of_mem _ List.mem_cons_self))

theorem rateOverride_within {p : Bytes} (layout : firstBad (opRateOverride.layout p) = none)
    (sets : tbit (byteAt p 1) 0 = false) : 0x3FEF9DB23 ≤ rd p 4 8 ∧ rd p 4 8 ≤ 0x4010624DD := by
  have term := (firstBad_eq_none_iff _).mp layout _ (rateField_mem p)
  dsimp only at term
  rw [if_neg (ne_true_of_eq_false sets), decide_eq_true_eq] at term
  exact term

/-- What TIME_STATUS says of a port. -/
def timePort (s : State) (d q : Nat) : Bytes :=
  b1 q ++ b1 (portState s d q) ++ zeros 2 ++ leF (s.ptpPort d q).delay ++ leF (s.ptpPort d q).ratio ++
    le 4 (s.ptpPort d q).missed

@[simp] theorem timePort_length (s : State) (d q : Nat) : (timePort s d q).length = 16 := by simp [timePort]

theorem timePorts_length (s : State) (d : Nat) : ((List.range 7).flatMap (timePort s d)).length = 112 := by
  simp [List.length_flatMap]

end

end Sys2Proof.Machine

namespace Sys2Proof

open Machine

/-- Settles O48: a read by the fields it answers, an override by its flag. -/
theorem timeCommands : Obligations.TimeCommands := by
  unfold Obligations.TimeCommands
  refine ⟨fun h p s ok => exec_read_of_accepted rfl rfl ok rfl ?_,
    fun s d => ⟨rfl, gmIdentity_of_none, fun i => gmIdentity_of_some⟩, fun h p s ok => ⟨fun clears => ?_, fun sets => ?_⟩,
    fun h p s ok => exec_hostOnly_of_accepted rfl rfl ok rfl, fun h p s ok => exec_hostOnly_of_accepted rfl rfl ok rfl,
    fun h p s ok => exec_read_of_accepted rfl rfl ok rfl ?_⟩
  · simp only [List.length_append, leT_length, b1_length, le_length, leI_length, zeros_length, boundField_length,
      gmIdentity_length]
  · exact exec_hostOnly_of_accepted rfl rfl ok (opRateOverride_of_clear (s := atBody s h) clears)
  · obtain ⟨low, high⟩ := rateOverride_within ok.layout sets
    have body := opRateOverride_of_set (s := atBody s h) sets
    exact ⟨low, high, exec_hostOnly_of_accepted rfl rfl ok body⟩
  · have ports := timePorts_length (atBody s h) (byteAt p 0)
    simp only [List.length_append, leT_length, b1_length, leF_length, le_length, boundField_length]
    exact congrArg (48 + ·) ports

end Sys2Proof
end

section
/-! SUPPORT. The domain clocks: what a tick adds, a step that is made, pulses, slews and bounds (12 R390, R397 to R401,
R407, R409). -/

namespace Sys2Proof.Machine

/-! ## What leaves the domains as they are -/

section
variable {s t : State} {d e : Nat}

theorem dom_of_tsu (same : t.tsu = s.tsu) (e : Nat) : t.dom e = s.dom e := by
  unfold State.dom
  rw [same]

theorem emit_dom (code func : Nat) (data : Bytes) : (emit s code func data).dom e = s.dom e :=
  dom_of_tsu (tsu_of_off (emit_off s code func data _ (Nat.and_self _)) rfl) e

theorem clockEvent_dom (old : Nat) : (clockEvent s d old).dom e = s.dom e :=
  dom_of_tsu (tsu_of_off (clockEvent_off s d old _ (Nat.and_self _)) rfl) e

theorem domainStepped_dom (was : T96) : (domainStepped d was s).dom e = s.dom e :=
  dom_of_tsu (tsu_of_off (domainStepped_off d was s _ (Nat.and_self _)) rfl) e

theorem raise_dom (n detail : Nat) : (raise s n detail).dom e = s.dom e :=
  dom_of_tsu (tsu_of_off (raise_off s n detail _ (Nat.and_self _)) rfl) e

theorem setClock_dom (x : Domain) : (setClock s d x).dom d = x := by
  unfold setClock
  dsimp only
  split
  · exact setDom_dom _ _ _
  · exact (clockEvent_dom _).trans (setDom_dom _ _ _)

theorem setClock_dom_of_ne (x : Domain) (other : d ≠ e) : (setClock s d x).dom e = s.dom e := by
  unfold setClock
  dsimp only
  split
  · exact setDom_dom_of_ne _ _ other
  · exact (clockEvent_dom _).trans (setDom_dom_of_ne _ _ other)

end

/-! ## A tick (R390) -/

theorem setFine_fine (x : Domain) (v : Nat) : (x.setFine v).fine = v := by
  unfold Domain.fine Domain.setFine
  dsimp only
  rw [Nat.div_add_mod', Nat.div_add_mod']

theorem withPhaseLeft_fine (y : Domain) (left : Int) : ({ y with phaseLeft := left }).fine = y.fine := rfl

theorem tick_fine (x : Domain) : x.tick.fine = x.fine + x.inc :=
  (withPhaseLeft_fine (x.setFine (x.fine + x.inc)) (x.phaseLeft - x.slew)).trans (setFine_fine x _)

/-- The increment is held within 1,000 ppm of nominal, whatever the slew. -/
theorem inc_between (x : Domain) : 0x3FEF9DB23 ≤ x.inc ∧ x.inc ≤ 0x4010624DD := by
  unfold Domain.inc Domain.slew
  dsimp only
  rw [add_sub_cancel, Int.toNat_le]
  have low : incLo = 0x3FEF9DB23 := rfl
  have high : incHi = 0x4010624DD := rfl
  omega

/-! ## Steps (R400, R401) -/

/-- The clock passes a whole second, after the tick of the decision. -/
abbrev StepDue (s : State) (d : Nat) : Prop := passed (s.dom d) 0 = true ∧ (s.dom d).stepAt < s.mono

/-- A step is made: no pulse leaves for a second. -/
abbrev stepTaken (s : State) (d : Nat) : Domain :=
  { s.dom d with
    stepMade := true, boundAt := if (s.dom d).acqFrom = 2 then s.mono else (s.dom d).boundAt
    ppsMute := some (max (s.mono + 1) ((s.dom d).lastPps.getD 0 + 250000000)) }

section
variable {s : State} {d : Nat}

theorem xTimeStepMade_of_due {o : Int} (pending : (s.dom d).step = some o) (due : StepDue s d) : xTimeStepMade d s =
    setTime (s.setDom d (stepTaken s d)) d (((s.dom d).fine : Int) - o * 65536).toNat := by
  unfold xTimeStepMade
  dsimp only
  split
  case h_1 p decided =>
    obtain rfl : p = o := Option.some.inj (decided.symm.trans pending)
    exact if_pos due
  case h_2 none => exact absurd (none.symm.trans pending) (by simp)

theorem xTimeStepMade_of_other (other : (s.dom d).step = none ∨ ¬ StepDue s d) : xTimeStepMade d s = s := by
  unfold xTimeStepMade
  dsimp only
  split
  case h_1 p decided => exact if_neg (other.resolve_left (by simp [decided]))
  case h_2 => rfl

theorem setTime_dom (s : State) (d v : Nat) : (setTime s d v).dom d = { (s.dom d).setFine v with
    phase := 0, phaseLeft := 0, step := none, decide := true, steps := satN 4 ((s.dom d).steps + 1)
    stepsTotal := satN 4 ((s.dom d).stepsTotal + 1) } :=
  (domainStepped_dom _).trans ((emit_dom _ _ _).trans (setDom_dom _ _ _))

/-! ## Pulses (R407) -/

/-- The clock passes a whole second plus PPS_OFFSET, where the domain gives pulses. -/
abbrev PulseDue (s : State) (d : Nat) : Prop := s.st (tdFid d) ≠ .off ∧ s.pwr.state ≠ 3 ∧ tdPps (tdCfg s d) = true ∧
  passed (s.dom d) (tdPpsOffset (tdCfg s d)) = true ∧ (s.dom d).lastPps ≠ some s.mono

/-- A step holds the pulse back. -/
abbrev PulseMuted (s : State) (d : Nat) : Prop :=
  ((s.dom d).step ≠ none ∧ (tdPpsOffset (tdCfg s d) < 0 ∨ passed (s.dom d) 0 = true)) ∨
    ∃ t, (s.dom d).ppsMute = some t ∧ s.mono < t

theorem pulseMuted_iff : (((s.dom d).step.isSome && (decide (tdPpsOffset (tdCfg s d) < 0) || passed (s.dom d) 0)) ||
    (match (s.dom d).ppsMute with | some t => decide (s.mono < t) | none => false)) = true ↔ PulseMuted s d := by
  rw [Bool.or_eq_true, Bool.and_eq_true, Bool.or_eq_true, decide_eq_true_iff, Option.isSome_iff_ne_none]
  refine or_congr Iff.rfl ?_
  cases (s.dom d).ppsMute <;> simp

theorem xPpsOutPulse_of_due (due : PulseDue s d) (free : ¬ PulseMuted s d) : xPpsOutPulse d s =
    { s.setDom d { s.dom d with lastPps := some s.mono, ppsMute := none } with
      sent := .pps d (tdPpsWidth (tdCfg s d)) :: s.sent } :=
  (if_pos due).trans (if_neg (mt pulseMuted_iff.mp free))

theorem xPpsOutPulse_of_other (other : ¬ PulseDue s d ∨ PulseMuted s d) : xPpsOutPulse d s = s := by
  by_cases due : PulseDue s d
  · exact (if_pos due).trans (if_pos (pulseMuted_iff.mpr (other.resolve_left (not_not_intro due))))
  · exact if_neg due

/-! ## Bounds and starts (R397, R409) -/

/-- A bound over HOLDOVER_SPEC that has not been reported. -/
abbrev SpecPassed (s : State) (d e : Nat) : Prop := ((s.dom d).clk = 3 ∨ ((s.dom d).clk = 1 ∧ (s.dom d).acqFrom ≠ 0)) ∧
  (s.dom d).specSent = false ∧ bound s d = some e ∧ tdSpec (s.app (.td d)) < e

theorem xHoldoverSpecExceeded_of_passed {e : Nat} (passed : SpecPassed s d e) : xHoldoverSpecExceeded d s =
    clockEvent (s.setDom d { s.dom d with specSent := true }) d (s.dom d).clk := by
  obtain ⟨held, unsent, known, exceeds⟩ := passed
  unfold xHoldoverSpecExceeded
  dsimp only
  rw [if_pos ⟨held, unsent⟩, known]
  exact if_pos exceeds

theorem xHoldoverSpecExceeded_of_other (other : ∀ e, ¬ SpecPassed s d e) : xHoldoverSpecExceeded d s = s := by
  unfold xHoldoverSpecExceeded
  dsimp only
  split
  case isTrue held =>
    split
    case h_1 e known => exact if_neg fun exceeds => other e ⟨held.1, held.2, known, exceeds⟩
    case h_2 => rfl
  case isFalse => rfl

/-- A domain's START has been committed for 1 ms. -/
theorem startDue_iff : (s.st (tdFid d) = .starting ∧ s.past (s.fn (tdFid d)).since (msT 1) = true) ↔
    (s.st (tdFid d) = .starting ∧ (s.fn (tdFid d)).since + 250000 ≤ s.mono) := and_congr Iff.rfl (past_iff _ _ _)

end

end Sys2Proof.Machine
end

section
/-! SUPPORT. What an offset does to a clock, and what the loss of its source leaves (12 R399, R400, R403 to R406). -/

namespace Sys2Proof.Machine

/-! ## Offsets (R399, R400) -/

theorem absI_le_iff (o : Int) (n : Nat) : absI o ≤ n ↔ o.natAbs ≤ n := by
  unfold absI
  split <;> omega

theorem le_absI_iff (o : Int) (n : Nat) : (n : Int) ≤ absI o ↔ n ≤ o.natAbs := by
  unfold absI
  split <;> omega

/-- 1 ms or more. -/
abbrev LargeOffset (o : Int) : Prop := 65536000000 ≤ o.natAbs
/-- 1 µs or less. -/
abbrev SmallOffset (o : Int) : Prop := o.natAbs ≤ 65536000

theorem largeOffset_iff (o : Int) : offMs ≤ absI o ↔ LargeOffset o := le_absI_iff o 65536000000
theorem smallOffset_iff (o : Int) : absI o ≤ offUs ↔ SmallOffset o := absI_le_iff o 65536000

/-- A clock that has taken an offset from its source. -/
abbrev offsetNoted (x : Domain) (o : Int) : Domain := { x with lastOff := o, srcUp := true, srcLost := false }

section
variable {x : Domain} {bw : F32} {o : Int} {now : Nat}

/-- The servo changes the frequency term and the phase term alone. -/
theorem feed_eq (x : Domain) (bw : F32) (o : Int) (now : Nat) : ∃ freq hist phase, x.feed bw o now =
    { x with freq := freq, freqHist := hist, phase := phase, phaseLeft := -(o * 65536) } := by
  unfold Domain.feed
  dsimp only
  split
  · exact ⟨x.freq, x.freqHist, _, rfl⟩
  · exact ⟨_, _, _, rfl⟩

/-- A large offset is a step that is decided; any other is slewed. -/
structure Judged (x : Domain) (o : Int) (y : Domain) : Prop where
  large : LargeOffset o → y.step = some o ∧ y.phaseLeft = 0 ∧ y.freq = x.freq
  small : ¬ LargeOffset o → y.step = x.step ∧ y.phaseLeft = -(o * 65536)
  decided : y.decide = false
  clk : y.clk = x.clk
  noted : y.lastOff = x.lastOff ∧ y.srcUp = x.srcUp ∧ y.srcLost = x.srcLost

theorem judge_judged (x : Domain) (bw : F32) (o : Int) (now : Nat) : Judged x o (x.judge bw o now) := by
  unfold Domain.judge
  by_cases large : LargeOffset o
  · rw [if_pos ((largeOffset_iff o).mpr large)]
    exact ⟨fun _ => ⟨rfl, rfl, rfl⟩, fun small => absurd large small, rfl, rfl, rfl, rfl, rfl⟩
  · rw [if_neg (mt (largeOffset_iff o).mp large)]
    obtain ⟨freq, hist, phase, fed⟩ := feed_eq x bw o now
    rw [fed]
    exact ⟨fun h => absurd h large, fun _ => ⟨rfl, rfl⟩, rfl, rfl, rfl, rfl, rfl⟩

end

section
variable {s : State} {d : Nat} {o : Int}

theorem offsetTake_of_step (pending : (s.dom d).step ≠ none) : offsetTake d o s = s.setDom d
    { offsetNoted (s.dom d) o with outliers := satN 4 ((s.dom d).outliers + 1) } :=
  if_pos (Option.isSome_iff_ne_none.mpr pending)

/-- The offset decides, though the clock is acquiring. -/
abbrev OffsetDecides (s : State) (d : Nat) (o : Int) : Prop :=
  (s.dom d).decide = true ∨ ((s.dom d).phaseLeft ≠ 0 ∧ LargeOffset o)

theorem offsetDecides_iff : ((s.dom d).decide || (decide ((s.dom d).phaseLeft ≠ 0) && decide (offMs ≤ absI o))) = true ↔
    OffsetDecides s d o := by
  rw [Bool.or_eq_true, Bool.and_eq_true, decide_eq_true_iff, decide_eq_true_iff, largeOffset_iff]

/-- The servo's bandwidth for a domain. -/
abbrev servoBw (s : State) (d : Nat) : F32 := tdBw (s.app (.td d))

/-- What an offset that neither decides nor is taken by a locked clock leaves of it. -/
def offsetFed (s : State) (d : Nat) (o : Int) : Domain :=
  { (offsetNoted (s.dom d) o).feed (servoBw s d) o s.mono with good := if absI o ≤ offUs then (s.dom d).good + 1 else 0 }

/-- A locked clock's record of an offset: another candidate stood. -/
def offsetDoubted (s : State) (d : Nat) (o : Int) : Domain :=
  if (s.dom d).cand.isSome then { offsetNoted (s.dom d) o with outliers := satN 4 ((s.dom d).outliers + 1) }
  else offsetNoted (s.dom d) o

/-- The locked clock's candidate agrees with an offset. -/
def offsetAgrees (s : State) (d : Nat) (o : Int) : Bool :=
  match (s.dom d).cand with
  | some c => decide (absI (o - c) ≤ offUs)
  | none => false

section
variable (free : (s.dom d).step = none)
include free

/-- No step is pending. -/
theorem not_pending : ¬ (s.dom d).step.isSome = true := by
  rw [free]
  decide

section
variable (acquiring : (s.dom d).clk = 1)
include acquiring

theorem offsetTake_of_acquiring : offsetTake d o s =
    if (s.dom d).decide || (decide ((s.dom d).phaseLeft ≠ 0) && decide (offMs ≤ absI o)) then
      s.setDom d ((offsetNoted (s.dom d) o).judge (servoBw s d) o s.mono)
    else if 10 ≤ (offsetFed s d o).good then
      setClock s d { offsetFed s d o with clk := 2, cand := none, specSent := false }
    else s.setDom d (offsetFed s d o) := by
  refine (if_neg (not_pending free)).trans ?_
  dsimp only
  split
  case h_1 => rfl
  all_goals exact absurd acquiring (by omega)

theorem offsetTake_dom_of_decides (decides : OffsetDecides s d o) :
    (offsetTake d o s).dom d = (offsetNoted (s.dom d) o).judge (servoBw s d) o s.mono := by
  rw [offsetTake_of_acquiring free acquiring, if_pos (offsetDecides_iff.mpr decides), setDom_dom]

variable (plain : ¬ OffsetDecides s d o)
include plain

theorem offsetTake_dom_of_tenth (tenth : 10 ≤ (offsetFed s d o).good) :
    (offsetTake d o s).dom d = { offsetFed s d o with clk := 2, cand := none, specSent := false } := by
  rw [offsetTake_of_acquiring free acquiring, if_neg (mt offsetDecides_iff.mp plain), if_pos tenth, setClock_dom]

theorem offsetTake_dom_of_fed (few : ¬ 10 ≤ (offsetFed s d o).good) : (offsetTake d o s).dom d = offsetFed s d o := by
  rw [offsetTake_of_acquiring free acquiring, if_neg (mt offsetDecides_iff.mp plain), if_neg few, setDom_dom]

end

section
variable (locked : (s.dom d).clk = 2)
include locked

theorem offsetTake_of_locked : offsetTake d o s =
    if offMs ≤ absI o ∧ offsetAgrees s d o = true then
      setClock s d
        { offsetNoted (s.dom d) o with
          clk := 1, acqFrom := 2, good := 0, cand := none, step := some o, stepAt := s.mono, stepMade := false
          boundAt := s.mono, phase := 0, phaseLeft := 0
          lockBound := lockedBound (domSource s d) (offsetNoted (s.dom d) o) }
    else if offMs ≤ absI o then s.setDom d { offsetDoubted s d o with cand := some o }
    else s.setDom d { (offsetDoubted s d o).feed (servoBw s d) o s.mono with cand := none } := by
  refine (if_neg (not_pending free)).trans ?_
  dsimp only
  split
  case h_2 => rfl
  all_goals exact absurd locked (by omega)

theorem offsetTake_dom_of_tracked (tracked : ¬ LargeOffset o) : (offsetTake d o s).dom d =
    { (offsetDoubted s d o).feed (servoBw s d) o s.mono with cand := none } := by
  have near := mt (largeOffset_iff o).mp tracked
  rw [offsetTake_of_locked free locked, if_neg fun h => near h.1, if_neg near, setDom_dom]

theorem offsetTake_dom_of_alone (large : LargeOffset o) (alone : offsetAgrees s d o = false) :
    (offsetTake d o s).dom d = { offsetDoubted s d o with cand := some o } := by
  rw [offsetTake_of_locked free locked, if_neg fun h => ne_true_of_eq_false alone h.2,
    if_pos ((largeOffset_iff o).mpr large), setDom_dom]

theorem offsetTake_dom_of_agrees (large : LargeOffset o) (agrees : offsetAgrees s d o = true) :
    (offsetTake d o s).dom d = { offsetNoted (s.dom d) o with
      clk := 1, acqFrom := 2, good := 0, cand := none, step := some o, stepAt := s.mono, stepMade := false
      boundAt := s.mono, phase := 0, phaseLeft := 0
      lockBound := lockedBound (domSource s d) (offsetNoted (s.dom d) o) } := by
  rw [offsetTake_of_locked free locked, if_pos ⟨(largeOffset_iff o).mpr large, agrees⟩, setClock_dom]

end

/-- From FREE, HOLDOVER and BACKUP the clock enters ACQUIRING, and the offset decides. -/
theorem offsetTake_dom_of_enters (idle : (s.dom d).clk ≠ 1) (unlocked : (s.dom d).clk ≠ 2) : ∃ held since,
    (offsetTake d o s).dom d =
      { ({ offsetNoted (s.dom d) o with lockBound := held, boundAt := since }).judge (servoBw s d) o s.mono with
        clk := 1, acqFrom := if (s.dom d).clk = 0 then 0 else 1, stepMade := false, cand := none } := by
  unfold offsetTake
  dsimp only
  rw [if_neg (not_pending free)]
  split
  case h_1 acquiring => exact absurd acquiring idle
  case h_2 locked => exact absurd locked unlocked
  case h_3 zero =>
    rw [setClock_dom, if_pos zero]
    exact ⟨_, _, rfl⟩
  case h_4 other =>
    rw [setClock_dom, if_neg other]
    by_cases backup : (s.dom d).clk = 4
    · rw [if_pos backup]
      exact ⟨_, _, rfl⟩
    · rw [if_neg backup]
      exact ⟨_, _, rfl⟩

end

theorem offsetFed_eq (s : State) (d : Nat) (o : Int) : ∃ freq hist phase, offsetFed s d o =
    { offsetNoted (s.dom d) o with
      freq := freq, freqHist := hist, phase := phase, phaseLeft := -(o * 65536)
      good := if SmallOffset o then (s.dom d).good + 1 else 0 } := by
  obtain ⟨freq, hist, phase, fed⟩ := feed_eq (offsetNoted (s.dom d) o) (servoBw s d) o s.mono
  refine ⟨freq, hist, phase, ?_⟩
  unfold offsetFed
  rw [fed, if_congr (smallOffset_iff o) rfl rfl]

theorem offsetDoubted_eq (s : State) (d : Nat) (o : Int) : ∃ outliers, offsetDoubted s d o =
    { offsetNoted (s.dom d) o with outliers := outliers } ∧
    ∀ c, (s.dom d).cand = some c → outliers = satN 4 ((s.dom d).outliers + 1) := by
  unfold offsetDoubted
  split
  case isTrue => exact ⟨_, rfl, fun _ _ => rfl⟩
  case isFalse none => exact ⟨_, rfl, fun c some => absurd (by rw [some]; rfl) none⟩

theorem offsetAgrees_of_none (none : (s.dom d).cand = none) : offsetAgrees s d o = false := by
  unfold offsetAgrees
  rw [none]

theorem offsetAgrees_of_some {c : Int} (waits : (s.dom d).cand = some c) :
    offsetAgrees s d o = decide (SmallOffset (o - c)) := by
  unfold offsetAgrees
  rw [waits]
  exact decide_eq_decide.mpr (smallOffset_iff _)

theorem offsetIn_of_up (up : (s.dom d).srcLost = false) : offsetIn d o s = offsetTake d o s :=
  if_neg (ne_true_of_eq_false up)

theorem offsetIn_of_lost (lost : (s.dom d).srcLost = true) : offsetIn d o s = returnSrc (offsetTake d o s) (160 + d) :=
  if_pos lost

/-- What a clock with no step pending has after an offset, in whatever state it was. -/
theorem offsetTake_noted (free : (s.dom d).step = none) : ((offsetTake d o s).dom d).lastOff = o ∧
    ((offsetTake d o s).dom d).srcUp = true ∧ ((offsetTake d o s).dom d).srcLost = false := by
  obtain ⟨freq, hist, phase, fed⟩ := offsetFed_eq s d o
  obtain ⟨outliers, doubted, -⟩ := offsetDoubted_eq s d o
  by_cases acquiring : (s.dom d).clk = 1
  · by_cases decides : OffsetDecides s d o
    · rw [offsetTake_dom_of_decides free acquiring decides]
      exact (judge_judged _ _ _ _).noted
    · by_cases tenth : 10 ≤ (offsetFed s d o).good
      · rw [offsetTake_dom_of_tenth free acquiring decides tenth, fed]
        exact ⟨rfl, rfl, rfl⟩
      · rw [offsetTake_dom_of_fed free acquiring decides tenth, fed]
        exact ⟨rfl, rfl, rfl⟩
  by_cases locked : (s.dom d).clk = 2
  · by_cases large : LargeOffset o
    · cases agrees : offsetAgrees s d o
      · rw [offsetTake_dom_of_alone free locked large agrees, doubted]
        exact ⟨rfl, rfl, rfl⟩
      · rw [offsetTake_dom_of_agrees free locked large agrees]
        exact ⟨rfl, rfl, rfl⟩
    · obtain ⟨freq, hist, phase, tracks⟩ := feed_eq (offsetDoubted s d o) (servoBw s d) o s.mono
      rw [offsetTake_dom_of_tracked free locked large, tracks, doubted]
      exact ⟨rfl, rfl, rfl⟩
  · obtain ⟨held, since, enters⟩ := offsetTake_dom_of_enters free acquiring locked (o := o)
    rw [enters]
    exact (judge_judged _ _ _ _).noted

end

end Sys2Proof.Machine
end

section
/-! SUPPORT. What a domain clock has when its source is lost (12 R403 to R406). -/

namespace Sys2Proof.Machine

section
variable {s : State} {n detail : Nat}

/-- A source that is raised shows 10. -/
theorem raise_shows (known : srcInfo n ≠ none) : ((raise s n detail).src n).pair = 2 := by
  let t : State := s.setSrc n { s.src n with pair := 2, pairDetail := detail }
  have shown : (t.src n).pair = 2 := congrArg Src.pair (tget_tput_same _ _ _ _)
  by_cases seen : Seen s n
  · refine (congrArg (fun u : State => (u.src n).pair) ((raiseEnc_of_known known).1 seen)).trans ?_
    by_cases new : (t.src n).inErr = false
    · rw [(seeRaise_books known new).src, raisedWoken_src]
      exact shown
    · rw [seeRaise_of_raised known new (.inl rfl)]
      exact shown
  · exact (congrArg (fun u : State => (u.src n).pair) ((raiseEnc_of_known known).2 seen)).trans shown

theorem emit_src (code func : Nat) (data : Bytes) (n : Nat) : (emit s code func data).src n = s.src n := by
  unfold State.src
  rw [emit_fcr]

theorem setClock_src (d : Nat) (x : Domain) (n : Nat) : (setClock s d x).src n = s.src n := by
  unfold setClock
  dsimp only
  split
  · rfl
  · unfold clockEvent
    dsimp only
    split
    · exact src_of_bare (s := s.setDom d x) (emitFault_bare _ _ _ _) n
    · exact emit_src _ _ _ n

end

section
variable {s : State} {d e : Nat} {ok : Bool}

/-- The frequency term a lost source leaves (R403). -/
def lostFreq (s : State) (d : Nat) : Nat :=
  match (s.dom d).override with
  | some v => v
  | none => if (s.dom d).srcUp then (s.dom d).freqMean s.mono else (s.dom d).freq

/-- A clock whose source is lost, its state apart. -/
def lostDom (s : State) (d : Nat) : Domain :=
  { (s.dom d).setFreq (lostFreq s d) s.mono with
    phase := 0, phaseLeft := 0, step := none, decide := false, cand := none, good := 0, twoStep := none
    srcUp := false, srcLost := true, slave := none, syncAt := none, annAt := none, ppsEdge := none }

/-- What every clock has whose source is lost, but one in BACKUP. -/
structure LostDom (s : State) (d : Nat) (y : Domain) : Prop where
  step : y.step = none
  phase : y.phase = 0
  up : y.srcUp = false
  lost : y.srcLost = true
  freq : y.freq = lostFreq s d

/-- TD0 falls back to TD1 (R405). -/
abbrev backsUp (s : State) (d : Nat) (ok : Bool) : Bool :=
  ok && decide (d = 0) && tdBackup (s.app (.td 0)) && decide ((s.dom 1).clk = 2)

/-- HOLDOVER, with the bound it grows from. -/
def heldDom (s : State) (d : Nat) : Domain :=
  { lostDom s d with
    clk := 3, lockBound := (bound s d).getD 0, boundAt := s.mono
    specSent := decide ((s.dom d).clk = 1) && (s.dom d).specSent }

theorem lostFreq_of_mean (none : (s.dom d).override = none) (up : (s.dom d).srcUp = true) :
    lostFreq s d = (s.dom d).freqMean s.mono := by
  unfold lostFreq
  rw [none]
  exact if_pos up

theorem loseClock_of_idle (idle : (s.dom d).clk = 0 ∨ (s.dom d).clk = 3) :
    loseClock s d ok = s.setDom d (lostDom s d) := by
  unfold loseClock
  dsimp only
  split
  case h_1 => rfl
  case h_2 => rfl
  case h_3 backup => exact absurd idle (by omega)
  case h_4 zero three _ => exact absurd idle (not_or.mpr ⟨zero, three⟩)

/-- A clock that is served, acquiring or locked, by what it falls back to. -/
theorem loseClock_of_served (served : (s.dom d).clk = 1 ∨ (s.dom d).clk = 2) : loseClock s d ok =
    if backsUp s d ok then setClock s d { lostDom s d with clk := 4 }
    else if (s.dom d).clk = 1 ∧ (s.dom d).acqFrom = 0 then setClock s d { lostDom s d with clk := 0 }
    else setClock s d (heldDom s d) := by
  unfold loseClock
  dsimp only
  split
  case h_4 => rfl
  all_goals exact absurd served (by omega)

theorem loseClock_dom_of_backup (served : (s.dom d).clk = 1 ∨ (s.dom d).clk = 2) (backup : backsUp s d ok = true) :
    (loseClock s d ok).dom d = { lostDom s d with clk := 4 } := by
  rw [loseClock_of_served served, if_pos backup, setClock_dom]

section
variable (alone : backsUp s d ok = false)
include alone

theorem loseClock_dom_of_free (acquiring : (s.dom d).clk = 1) (fresh : (s.dom d).acqFrom = 0) :
    (loseClock s d ok).dom d = { lostDom s d with clk := 0 } := by
  rw [loseClock_of_served (.inl acquiring), if_neg (ne_true_of_eq_false alone), if_pos ⟨acquiring, fresh⟩, setClock_dom]

theorem loseClock_dom_of_held (served : (s.dom d).clk = 1 ∨ (s.dom d).clk = 2)
    (held : ¬ ((s.dom d).clk = 1 ∧ (s.dom d).acqFrom = 0)) : (loseClock s d ok).dom d = heldDom s d := by
  rw [loseClock_of_served served, if_neg (ne_true_of_eq_false alone), if_neg held, setClock_dom]

end

theorem loseClock_dom_of_ne (other : d ≠ e) : (loseClock s d ok).dom e = s.dom e := by
  unfold loseClock
  dsimp only
  split
  case h_1 => exact setDom_dom_of_ne _ _ other
  case h_2 => exact setDom_dom_of_ne _ _ other
  case h_3 => exact setDom_dom_of_ne _ _ other
  case h_4 =>
    split
    · exact setClock_dom_of_ne _ other
    · split
      · exact setClock_dom_of_ne _ other
      · exact setClock_dom_of_ne _ other

theorem loseSource_dom : (loseSource s d ok).dom e = (loseClock s d ok).dom e := by
  unfold loseSource
  dsimp only
  split
  · rfl
  · exact raise_dom _ _

/-- A domain other than TD0 is what its own loss makes of it. -/
theorem sourceLost_dom (other : d = 1 → e ≠ 0) : (sourceLost s d).dom e = (loseClock s d true).dom e := by
  unfold sourceLost
  dsimp only
  split
  case isTrue one =>
    unfold backupEnd
    split
    · exact (setClock_dom_of_ne _ (other one).symm).trans loseSource_dom
    · exact loseSource_dom
  case isFalse => exact loseSource_dom

theorem loseSource_pair (up : (s.dom d).srcLost = false) (known : srcInfo (160 + d) ≠ none) :
    ((loseSource s d ok).src (160 + d)).pair = 2 := by
  unfold loseSource
  dsimp only
  rw [if_neg (ne_true_of_eq_false up)]
  exact raise_shows known

theorem backupEnd_src (bound n : Nat) : (backupEnd s bound).src n = s.src n := by
  unfold backupEnd
  split
  · exact setClock_src _ _ _
  · rfl

theorem sourceLost_pair (up : (s.dom d).srcLost = false) (known : srcInfo (160 + d) ≠ none) :
    ((sourceLost s d).src (160 + d)).pair = 2 := by
  unfold sourceLost
  dsimp only
  split
  · rw [backupEnd_src]
    exact loseSource_pair up known
  · exact loseSource_pair up known

/-- TD0 in BACKUP where TD1 loses its source: HOLDOVER at its present term. -/
theorem sourceLost_backup (backup : (s.dom 0).clk = 4) : (sourceLost s 1).dom 0 =
    { s.dom 0 with
      clk := 3, lockBound := (bound s 1).getD 0, boundAt := (loseSource s 1 true).mono, specSent := false, phase := 0
      phaseLeft := 0 } := by
  have kept : (loseSource s 1 true).dom 0 = s.dom 0 := loseSource_dom.trans (loseClock_dom_of_ne (by decide))
  unfold sourceLost backupEnd
  dsimp only
  rw [if_pos rfl, kept, if_pos backup, setClock_dom]

end

end Sys2Proof.Machine
end

section
/-! SUPPORT. The rows that bring PTP messages and pulses to the clocks (12 R404, R408, R412 to R415). -/

namespace Sys2Proof.Machine

/-! ## PTP messages (R412 to R414) -/

section
variable {s : State} {port d : Nat} {m : PtpMsg}

/-- The port takes PTP messages. -/
abbrev PtpHeard (s : State) (port : Nat) : Prop := fwRuns s = true ∧ port ≤ 6 ∧ (s.port port).link = true

theorem ptpHeard_iff : (!(fwRuns s && decide (port ≤ 6) && (s.port port).link)) = false ↔ PtpHeard s port := by
  rw [Bool.not_eq_false', Bool.and_eq_true, Bool.and_eq_true, decide_eq_true_iff, and_assoc]

/-- A message counted at its port. -/
abbrev ptpCounted (s : State) (port : Nat) : Port := { s.port port with rx := satN 4 ((s.port port).rx + 1) }

theorem xPtpMessageReceived_of_bad (heard : PtpHeard s port) (bad : 5 ≤ m.kind) : xPtpMessageReceived port m s =
    { s.setPort port { ptpCounted s port with drop := satN 4 ((ptpCounted s port).drop + 1) } with
      tsu := { s.tsu with badPtp := s.tsu.badPtp + 1 } } :=
  (if_neg (ne_true_of_eq_false (ptpHeard_iff.mpr heard))).trans (if_pos bad)

theorem xPtpMessageReceived_of_good (heard : PtpHeard s port) (good : m.kind < 5) : xPtpMessageReceived port m s =
    forN 4 (ptpTake port m) (s.setPort port (ptpCounted s port)) :=
  (if_neg (ne_true_of_eq_false (ptpHeard_iff.mpr heard))).trans (if_neg (by omega))

theorem xPtpMessageReceived_of_deaf (deaf : ¬ PtpHeard s port) : xPtpMessageReceived port m s = s :=
  if_pos (by rwa [← ptpHeard_iff, Bool.not_eq_false] at deaf)

/-- The domain takes the message: one of its own, or a peer delay of 802.1AS on a port of its mask. -/
abbrev PtpTakes (s : State) (port d : Nat) (m : PtpMsg) : Prop :=
  (terminates s d port m.domainNumber = true ∨
    (m.kind = 4 ∧ tdProfile (tdCfg s d) = 0 ∧ (tdMask (tdCfg s d)).testBit port = true)) ∧ domLive s d = true

theorem ptpTakes_iff : (!((terminates s d port m.domainNumber ||
    (decide (m.kind = 4) && decide (tdProfile (tdCfg s d) = 0) && (tdMask (tdCfg s d)).testBit port)) &&
      domLive s d)) = false ↔ PtpTakes s port d m := by
  rw [Bool.not_eq_false', Bool.and_eq_true, Bool.or_eq_true, Bool.and_eq_true, Bool.and_eq_true, decide_eq_true_iff,
    decide_eq_true_iff, and_assoc (a := m.kind = 4)]

/-- The message is from the selected master on the domain's slave port. -/
abbrev PtpMine (s : State) (port d : Nat) (m : PtpMsg) : Prop :=
  domSource s d = 1 ∧ (s.dom d).slave = some port ∧ m.selected = true

theorem ptpMine_iff : (decide (domSource s d = 1) && (s.dom d).slave == some port && m.selected) = true ↔
    PtpMine s port d m := by
  rw [Bool.and_eq_true, Bool.and_eq_true, decide_eq_true_iff, beq_iff_eq, and_assoc]

theorem ptpFollows_iff : ((decide (domSource s d = 1) && (s.dom d).slave == some port && m.selected) &&
    (s.dom d).twoStep == some port) = true ↔ PtpMine s port d m ∧ (s.dom d).twoStep = some port := by
  rw [Bool.and_eq_true, ptpMine_iff, beq_iff_eq]

theorem ptpTake_of_other (other : ¬ PtpTakes s port d m) : ptpTake port m s d = s :=
  if_pos (by rwa [← ptpTakes_iff, Bool.not_eq_false] at other)

section
variable (takes : PtpTakes s port d m)
include takes

theorem ptpTake_of_sync (kind : m.kind = 0) : ptpTake port m s d =
    if decide (domSource s d = 1) && (s.dom d).slave == some port && m.selected then
      syncOffset d port m (syncSeen d port s)
    else s := by
  refine (if_neg (ne_true_of_eq_false (ptpTakes_iff.mpr takes))).trans ?_
  dsimp only
  split
  case h_1 => rfl
  case h_5 other _ _ _ => exact absurd kind other
  all_goals omega

theorem ptpTake_of_twoStep (kind : m.kind = 1) : ptpTake port m s d =
    if decide (domSource s d = 1) && (s.dom d).slave == some port && m.selected then
      (syncSeen d port s).setDom d { (syncSeen d port s).dom d with twoStep := some port }
    else s := by
  refine (if_neg (ne_true_of_eq_false (ptpTakes_iff.mpr takes))).trans ?_
  dsimp only
  split
  case h_2 => rfl
  case h_5 _ other _ _ => exact absurd kind other
  all_goals omega

theorem ptpTake_of_followUp (kind : m.kind = 2) : ptpTake port m s d =
    if (decide (domSource s d = 1) && (s.dom d).slave == some port && m.selected) && (s.dom d).twoStep == some port then
      syncOffset d port m (s.setDom d { s.dom d with twoStep := none })
    else s := by
  refine (if_neg (ne_true_of_eq_false (ptpTakes_iff.mpr takes))).trans ?_
  dsimp only
  split
  case h_3 => rfl
  case h_5 _ _ other _ => exact absurd kind other
  all_goals omega

theorem ptpTake_of_announce (kind : m.kind = 3) : ptpTake port m s d =
    if domSource s d = 1 then announce d port m s else s := by
  refine (if_neg (ne_true_of_eq_false (ptpTakes_iff.mpr takes))).trans ?_
  dsimp only
  split
  case h_4 => rfl
  case h_5 _ _ _ other => exact absurd kind other
  all_goals omega

theorem ptpTake_of_delay (kind : 4 ≤ m.kind) : ptpTake port m s d =
    setPtpPort s d port { s.ptpPort d port with delay := m.linkDelay, ratio := m.rateRatio } := by
  refine (if_neg (ne_true_of_eq_false (ptpTakes_iff.mpr takes))).trans ?_
  dsimp only
  split
  case h_5 => rfl
  all_goals omega

/-- A Sync, of one step or two, that is not the domain's own. -/
theorem ptpTake_of_foreign (kind : m.kind < 2) (foreign : ¬ PtpMine s port d m) : ptpTake port m s d = s := by
  obtain sync | twoStep : m.kind = 0 ∨ m.kind = 1 := by omega
  · exact (ptpTake_of_sync takes sync).trans (if_neg (mt ptpMine_iff.mp foreign))
  · exact (ptpTake_of_twoStep takes twoStep).trans (if_neg (mt ptpMine_iff.mp foreign))

end

/-! ## The offset of a Sync (R404, R414) -/

/-- The offset a Sync gives. -/
abbrev syncGives (s : State) (d port : Nat) (m : PtpMsg) : Int :=
  m.offset + stampShift s port * 65536 -
    fToInt (fMul (fAdd (s.ptpPort d port).delay (prAsym (s.portCfg port))) (fOfNat 65536))

theorem syncOffset_of_up (up : (s.dom d).srcLost = false) :
    syncOffset d port m s = offsetIn d (syncGives s d port m) s := if_neg (ne_true_of_eq_false up)

section
variable (lost : (s.dom d).srcLost = true)
include lost

theorem syncOffset_of_first (first : (s.dom d).cand = none) : syncOffset d port m s =
    s.setDom d { s.dom d with cand := some (syncGives s d port m), lastOff := syncGives s d port m } := by
  refine (if_pos lost).trans ?_
  split
  case h_1 c some => exact absurd (first.symm.trans some) (by simp)
  case h_2 => rfl

theorem syncOffset_of_second {c : Int} (waits : (s.dom d).cand = some c) : syncOffset d port m s =
    if absI (syncGives s d port m - c) ≤ offUs then
      offsetIn d (syncGives s d port m) (s.setDom d { s.dom d with cand := none })
    else s.setDom d { s.dom d with cand := some (syncGives s d port m), lastOff := syncGives s d port m } := by
  refine (if_pos lost).trans ?_
  split
  case h_1 b some =>
    obtain rfl : b = c := Option.some.inj (some.symm.trans waits)
    rfl
  case h_2 none => exact absurd (none.symm.trans waits) (by simp)

end

end

/-! ## Messages sent and forwarded (R411, R415) -/

section
variable {s : State} {d port kind : Nat}

/-- The interval a message of a kind is sent in. -/
abbrev ptpInterval (s : State) (port kind : Nat) : Nat :=
  logTicks (if kind = 0 then prLogSync (s.portCfg port) else if kind = 1 then prLogAnn (s.portCfg port)
    else prLogDelay (s.portCfg port))

/-- A message of a kind is due on a port. -/
abbrev PtpSendDue (s : State) (d port kind : Nat) : Prop := fwRuns s = true ∧ domLive s d = true ∧ port ≤ 6 ∧
  (s.port port).link = true ∧
  (∀ t, tfind (s.ptpPort d port).sent kind = some t → t + ptpInterval s port kind ≤ s.mono) ∧
  ((kind ≤ 1 ∧ portState s d port = 6 ∧ tdTrunk (s.app (.td d)) = true) ∨ (kind = 2 ∧ portState s d port ≠ 3))

theorem ptpSendDue_iff : (fwRuns s ∧ domLive s d = true ∧ port ≤ 6 ∧ (s.port port).link = true ∧
    (match tfind (s.ptpPort d port).sent kind with
      | some t => decide (t + ptpInterval s port kind ≤ s.mono)
      | none => true) = true ∧
    ((kind ≤ 1 ∧ portState s d port = 6 ∧ tdTrunk (s.app (.td d)) = true) ∨ (kind = 2 ∧ portState s d port ≠ 3))) ↔
    PtpSendDue s d port kind := by
  refine and_congr Iff.rfl (and_congr Iff.rfl (and_congr Iff.rfl (and_congr Iff.rfl (and_congr ?_ Iff.rfl))))
  exact optPast_iff s _ _

theorem xPtpMessageSend_of_due (due : PtpSendDue s d port kind) : xPtpMessageSend d port kind s =
    let t := setPtpPort s d port
      { s.ptpPort d port with sent := tput (s.ptpPort d port).sent kind s.mono }
    { portSent t port with sent := .ptp d port kind (ptpOut t d) :: s.sent } := if_pos (ptpSendDue_iff.mpr due)

theorem xPtpMessageSend_of_other (other : ¬ PtpSendDue s d port kind) : xPtpMessageSend d port kind s = s :=
  if_neg (mt ptpSendDue_iff.mp other)

end

section
variable {s : State} {a b n d : Nat} {r c : Int}

/-- An event message that no domain of the module terminates passes between two ports of a VLAN. -/
abbrev PtpPasses (s : State) (a b n : Nat) : Prop := 2 ≤ s.boot.phase ∧ (∀ d, d < 4 → terminates s d a n = false) ∧
  a ≤ 6 ∧ b ≤ 6 ∧ a ≠ b ∧ (s.port a).link = true ∧ (s.port b).link = true ∧ shareVlan s a b = true

theorem ptpPasses_iff : (decide (2 ≤ s.boot.phase) && !((List.range 4).any fun d => terminates s d a n) &&
    decide (a ≤ 6 ∧ b ≤ 6 ∧ a ≠ b) && (s.port a).link && (s.port b).link && shareVlan s a b) = true ↔
    PtpPasses s a b n := by
  simp only [Bool.and_eq_true, Bool.not_eq_true', List.any_eq_false, List.mem_range, Bool.not_eq_true, decide_eq_true_iff,
    and_assoc]

/-- A domain that measures its peer delay itself on the port. -/
abbrev PtpPeer (s : State) (a d : Nat) : Prop :=
  s.st (tdFid d) ≠ .off ∧ (tdMask (tdCfg s d)).testBit a = true ∧ tdProfile (tdCfg s d) = 2

/-- The first of them, as the row looks for it. -/
abbrev ptpPeerFound (s : State) (a : Nat) : Option Nat := (List.range 4).find? fun d =>
  decide (s.st (tdFid d) ≠ .off) && (tdMask (tdCfg s d)).testBit a && decide (tdProfile (tdCfg s d) = 2)

theorem ptpPeer_iff : (decide (s.st (tdFid d) ≠ .off) && (tdMask (tdCfg s d)).testBit a &&
    decide (tdProfile (tdCfg s d) = 2)) = true ↔ PtpPeer s a d := by
  rw [Bool.and_eq_true, Bool.and_eq_true, decide_eq_true_iff, decide_eq_true_iff, and_assoc]

theorem ptpPeerFound_of_none (alone : ∀ d, d < 4 → ¬ PtpPeer s a d) : ptpPeerFound s a = none :=
  List.find?_eq_none.mpr fun d mem => mt ptpPeer_iff.mp (alone d (List.mem_range.mp mem))

theorem ptpPeerFound_of_first (low : d < 4) (peer : PtpPeer s a d) (first : ∀ e, e < d → ¬ PtpPeer s a e) :
    ptpPeerFound s a = some d := by
  refine List.find?_range_eq_some.mpr ⟨ptpPeer_iff.mpr peer, List.mem_range.mpr low, fun e before => ?_⟩
  rw [Bool.not_eq_true', ← Bool.not_eq_true]
  exact mt ptpPeer_iff.mp (first e before)

/-- What a message that passes is corrected by beside its residence. -/
def ptpPeerDelay (s : State) (a : Nat) : Int :=
  match ptpPeerFound s a with
  | some d => fToInt (fMul (fAdd (s.ptpPort d a).delay (prAsym (s.portCfg a))) (fOfNat 65536))
  | none => 0

theorem xPtpEventForwarded_of_passes (passes : PtpPasses s a b n) : xPtpEventForwarded a b n r c s =
    let t := s.setPort a { s.port a with rx := satN 4 ((s.port a).rx + 1) }
    { portSent t b with sent := .ptpForward b (c + r + ptpPeerDelay s a) :: s.sent } :=
  if_pos (ptpPasses_iff.mpr passes)

theorem xPtpEventForwarded_of_other (other : ¬ PtpPasses s a b n) : xPtpEventForwarded a b n r c s = s :=
  if_neg (mt ptpPasses_iff.mp other)

theorem ptpPeerDelay_of_none (alone : ∀ d, d < 4 → ¬ PtpPeer s a d) : ptpPeerDelay s a = 0 := by
  unfold ptpPeerDelay
  rw [ptpPeerFound_of_none alone]

theorem ptpPeerDelay_of_first (low : d < 4) (peer : PtpPeer s a d) (first : ∀ e, e < d → ¬ PtpPeer s a e) :
    ptpPeerDelay s a = fToInt (fMul (fAdd (s.ptpPort d a).delay (prAsym (s.portCfg a))) (fOfNat 65536)) := by
  unfold ptpPeerDelay
  rw [ptpPeerFound_of_first low peer first]

end

/-! ## Timeouts (R403) -/

section
variable {s : State} {d p : Nat}

/-- The last time of a record is past by a span. -/
theorem optDue_iff (s : State) (o : Option Nat) (span : Nat) :
    (match o with | some t => s.past t span | none => false) = true ↔ ∃ t, o = some t ∧ t + span ≤ s.mono := by
  cases o with
  | none => exact ⟨fun h => (nomatch h), fun ⟨_, h, _⟩ => (nomatch h)⟩
  | some t => exact (past_iff s t span).trans ⟨fun due => ⟨t, rfl, due⟩, fun ⟨_, h, due⟩ => Option.some.inj h ▸ due⟩

/-- Three Syncs are missing. -/
abbrev NoSync (s : State) (d p : Nat) : Prop :=
  ∃ t, (s.dom d).syncAt = some t ∧ t + 3 * logTicks (prLogSync (s.portCfg p)) ≤ s.mono

/-- The announce timeout has passed. -/
abbrev NoAnnounce (s : State) (d p : Nat) : Prop :=
  ∃ t, (s.dom d).annAt = some t ∧ t + prAnnTimeout (s.portCfg p) * logTicks (prLogAnn (s.portCfg p)) ≤ s.mono

/-- The Syncs that are missing, counted. -/
abbrev syncsMissed (s : State) (d p : Nat) : State :=
  setPtpPort s d p { s.ptpPort d p with missed := satN 4 ((s.ptpPort d p).missed + 3) }

theorem xPtpSourceTimeout_of_none (none : (s.dom d).slave = none) : xPtpSourceTimeout d s = s := by
  unfold xPtpSourceTimeout
  dsimp only
  rw [none]

section
variable (slave : (s.dom d).slave = some p)
include slave

theorem xPtpSourceTimeout_of_slave : xPtpSourceTimeout d s =
    if domSource s d = 1 ∧ (NoSync s d p ∨ NoAnnounce s d p) then
      sourceLost (if NoSync s d p then syncsMissed s d p else s) d
    else s := by
  unfold xPtpSourceTimeout
  dsimp only
  rw [slave]
  refine if_congr (and_congr Iff.rfl (or_congr (optDue_iff _ _ _) (optDue_iff _ _ _))) ?_ rfl
  exact congrArg (sourceLost · d) (if_congr (optDue_iff _ _ _) rfl rfl)

theorem xPtpSourceTimeout_of_noSync (ptp : domSource s d = 1) (late : NoSync s d p) :
    xPtpSourceTimeout d s = sourceLost (syncsMissed s d p) d := by
  rw [xPtpSourceTimeout_of_slave slave, if_pos ⟨ptp, .inl late⟩, if_pos late]

theorem xPtpSourceTimeout_of_noAnnounce (ptp : domSource s d = 1) (sync : ¬ NoSync s d p) (late : NoAnnounce s d p) :
    xPtpSourceTimeout d s = sourceLost s d := by
  rw [xPtpSourceTimeout_of_slave slave, if_pos ⟨ptp, .inr late⟩, if_neg sync]

theorem xPtpSourceTimeout_of_served (served : domSource s d ≠ 1 ∨ (¬ NoSync s d p ∧ ¬ NoAnnounce s d p)) :
    xPtpSourceTimeout d s = s := by
  rw [xPtpSourceTimeout_of_slave slave, if_neg fun ⟨ptp, late⟩ => served.elim (absurd ptp) fun ⟨sync, ann⟩ => late.elim sync ann]

end

/-- No edge has been seen for 1.1 s. -/
abbrev PpsLate (s : State) (d : Nat) : Prop := (∃ t, s.tsu.ppsIn = some t ∧ t + 275000000 ≤ s.mono) ∧
  domSource s d = 3 ∧ (s.dom d).srcUp = true

theorem xPpsInTimeout_of_late (late : PpsLate s d) : xPpsInTimeout d s = sourceLost s d := by
  obtain ⟨⟨t, seen, due⟩, source, up⟩ := late
  unfold xPpsInTimeout
  rw [seen]
  exact if_pos ⟨source, up, (past_iff _ _ _).mpr due⟩

theorem xPpsInTimeout_of_other (other : ¬ PpsLate s d) : xPpsInTimeout d s = s := by
  unfold xPpsInTimeout
  split
  case h_1 t seen => exact if_neg fun h => other ⟨⟨t, seen, (past_iff _ _ _).mp h.2.2⟩, h.1, h.2.1⟩
  case h_2 => rfl

end

/-! ## Edges on PPS_IN (R404, R408) -/

section
variable {s : State} {d : Nat}

/-- The offset of an edge from the nearest whole second. -/
def edgeOffset (s : State) (d : Nat) : Int :=
  let r := ((T96.toSub (s.td d) : Int) + stampShift s 7 * 65536) % 65536000000000
  if r * 2 < 65536000000000 then r else r - 65536000000000

/-- An edge within 500 ms of the last. -/
abbrev edgeEarly (s : State) (d : Nat) : Bool := (s.dom d).ppsEdge.any fun e => decide (s.mono < e + 125000000)

/-- An edge a second after the last, to 1 µs. -/
abbrev edgeFollows (s : State) (d : Nat) : Bool := (s.dom d).ppsEdge.any fun e =>
  decide (e + 250000000 ≤ s.mono + 250 ∧ s.mono ≤ e + 250000000 + 250)

/-- What an edge is to a domain. -/
def edgeTaken (s : State) (d : Nat) : State :=
  if domSource s d ≠ 3 then s
  else if edgeEarly s d ∨ 26214400000000 < (edgeOffset s d).natAbs then
    s.setDom d { s.dom d with outliers := satN 4 ((s.dom d).outliers + 1) }
  else if (s.dom d).srcLost = false ∨ edgeFollows s d then
    offsetIn d (edgeOffset s d) (s.setDom d { s.dom d with ppsEdge := some s.mono })
  else s.setDom d { s.dom d with ppsEdge := some s.mono }

theorem optMatch_eq_any (o : Option Nat) (p : Nat → Bool) :
    (match o with | some e => p e | none => false) = o.any p := by
  cases o <;> rfl

theorem xPpsInEdge_of_short {n : Nat} (short : n < 1000) : xPpsInEdge n s = s := if_pos short

theorem xPpsInEdge_of_held {n : Nat} (held : 1000 ≤ n) : xPpsInEdge n s =
    forN 4 edgeTaken { s with tsu := { s.tsu with ppsIn := some s.mono } } := by
  refine (if_neg (Nat.not_lt.mpr held)).trans (congrArg (forN 4 · _) (funext fun u => funext fun d => ?_))
  unfold edgeTaken
  refine if_congr Iff.rfl rfl ?_
  rw [ite_or]
  refine if_congr (iff_of_eq (congrArg (· = true) (optMatch_eq_any _ _))) rfl (if_congr ?_ rfl (if_congr ?_ rfl rfl))
  · exact (not_congr (absI_le_iff _ 26214400000000)).trans Nat.not_le |> (Int.not_le.symm.trans ·)
  · rw [Bool.or_eq_true, Bool.not_eq_true']
    exact or_congr Iff.rfl (iff_of_eq (congrArg (· = true) (optMatch_eq_any _ _)))

end

/-! ## What an offset leaves, by the clock's state (R399, R400) -/

section
variable {s : State} {d : Nat} {o : Int}

/-- The clock after an offset. -/
abbrev offsetLeft (s : State) (d : Nat) (o : Int) : Domain := (offsetTake d o s).dom d

/-- A step has been decided. -/
abbrev StepsBy (x y : Domain) (o : Int) : Prop := y.step = some o ∧ y.phaseLeft = 0 ∧ y.freq = x.freq

/-- The offset is slewed. -/
abbrev SlewsBy (y : Domain) (o : Int) : Prop := y.step = none ∧ y.phaseLeft = -(o * 65536)

section
variable (free : (s.dom d).step = none)
include free

theorem offsetLeft_of_enters (idle : (s.dom d).clk ≠ 1) (unlocked : (s.dom d).clk ≠ 2) :
    (offsetLeft s d o).clk = 1 ∧ (offsetLeft s d o).acqFrom = (if (s.dom d).clk = 0 then 0 else 1) ∧
    (LargeOffset o → StepsBy (s.dom d) (offsetLeft s d o) o) ∧ (¬ LargeOffset o → SlewsBy (offsetLeft s d o) o) := by
  obtain ⟨held, since, enters⟩ := offsetTake_dom_of_enters free idle unlocked (o := o)
  unfold offsetLeft
  rw [enters]
  have judged := judge_judged { offsetNoted (s.dom d) o with lockBound := held, boundAt := since } (servoBw s d) o s.mono
  exact ⟨rfl, rfl, judged.large, fun small => ⟨(judged.small small).1.trans free, (judged.small small).2⟩⟩

section
variable (acquiring : (s.dom d).clk = 1)
include acquiring

theorem offsetLeft_of_decides (decides : OffsetDecides s d o) :
    (offsetLeft s d o).clk = 1 ∧ (offsetLeft s d o).decide = false ∧
    (LargeOffset o → StepsBy (s.dom d) (offsetLeft s d o) o) ∧ (¬ LargeOffset o → SlewsBy (offsetLeft s d o) o) := by
  unfold offsetLeft
  rw [offsetTake_dom_of_decides free acquiring decides]
  have judged := judge_judged (offsetNoted (s.dom d) o) (servoBw s d) o s.mono
  exact ⟨judged.clk.trans acquiring, judged.decided, judged.large,
    fun small => ⟨(judged.small small).1.trans free, (judged.small small).2⟩⟩

theorem offsetLeft_of_acquires (plain : ¬ OffsetDecides s d o) : SlewsBy (offsetLeft s d o) o ∧
    (SmallOffset o → 9 ≤ (s.dom d).good → (offsetLeft s d o).clk = 2) ∧
    (SmallOffset o → (s.dom d).good < 9 → (offsetLeft s d o).clk = 1 ∧ (offsetLeft s d o).good = (s.dom d).good + 1) ∧
    (¬ SmallOffset o → (offsetLeft s d o).clk = 1 ∧ (offsetLeft s d o).good = 0) := by
  obtain ⟨freq, hist, phase, fed⟩ := offsetFed_eq s d o
  have good : (offsetFed s d o).good = if SmallOffset o then (s.dom d).good + 1 else 0 := congrArg Domain.good fed
  have clk : (offsetFed s d o).clk = 1 := (congrArg Domain.clk fed).trans acquiring
  have slews : SlewsBy (offsetFed s d o) o := ⟨(congrArg Domain.step fed).trans free, congrArg Domain.phaseLeft fed⟩
  unfold offsetLeft
  by_cases tenth : 10 ≤ (offsetFed s d o).good
  · rw [offsetTake_dom_of_tenth free acquiring plain tenth]
    rw [good] at tenth
    refine ⟨slews, fun _ _ => rfl, fun small few => ?_, fun loud => ?_⟩
    · rw [if_pos small] at tenth
      exact absurd tenth (by omega)
    · rw [if_neg loud] at tenth
      exact absurd tenth (by decide)
  · rw [offsetTake_dom_of_fed free acquiring plain tenth]
    rw [good] at tenth
    refine ⟨slews, fun small many => ?_, fun small _ => ⟨clk, good.trans (if_pos small)⟩,
      fun loud => ⟨clk, good.trans (if_neg loud)⟩⟩
    rw [if_pos small] at tenth
    exact absurd tenth (by omega)

end

section
variable (locked : (s.dom d).clk = 2)
include locked

theorem offsetLeft_of_tracked (tracked : ¬ LargeOffset o) :
    (offsetLeft s d o).clk = 2 ∧ SlewsBy (offsetLeft s d o) o ∧ (offsetLeft s d o).cand = none := by
  obtain ⟨outliers, doubted, -⟩ := offsetDoubted_eq s d o
  obtain ⟨freq, hist, phase, tracks⟩ := feed_eq (offsetDoubted s d o) (servoBw s d) o s.mono
  unfold offsetLeft
  rw [offsetTake_dom_of_tracked free locked tracked, tracks, doubted]
  exact ⟨locked, ⟨free, rfl⟩, rfl⟩

theorem offsetLeft_of_alone (large : LargeOffset o) (alone : offsetAgrees s d o = false) :
    (offsetLeft s d o).clk = 2 ∧ (offsetLeft s d o).cand = some o ∧ (offsetLeft s d o).freq = (s.dom d).freq ∧
    ∀ c, (s.dom d).cand = some c → (offsetLeft s d o).outliers = satN 4 ((s.dom d).outliers + 1) := by
  obtain ⟨outliers, doubted, counts⟩ := offsetDoubted_eq s d o
  unfold offsetLeft
  rw [offsetTake_dom_of_alone free locked large alone, doubted]
  exact ⟨locked, rfl, rfl, counts⟩

theorem offsetLeft_of_agrees (large : LargeOffset o) (agrees : offsetAgrees s d o = true) :
    (offsetLeft s d o).clk = 1 ∧ (offsetLeft s d o).step = some o ∧ (offsetLeft s d o).acqFrom = 2 := by
  unfold offsetLeft
  rw [offsetTake_dom_of_agrees free locked large agrees]
  exact ⟨rfl, rfl, rfl⟩

end

end

end

/-! ## What a loss leaves (R403, R405) -/

section
variable {s : State} {d : Nat}

/-- What every clock but one in BACKUP has after the loss of its source. -/
theorem loseClock_lost {ok : Bool} (low : (s.dom d).clk < 4) : LostDom s d ((loseClock s d ok).dom d) := by
  have lost : LostDom s d (lostDom s d) := ⟨rfl, rfl, rfl, rfl, rfl⟩
  by_cases idle : (s.dom d).clk = 0 ∨ (s.dom d).clk = 3
  · rw [loseClock_of_idle idle, setDom_dom]
    exact lost
  · have served : (s.dom d).clk = 1 ∨ (s.dom d).clk = 2 := by omega
    cases backup : backsUp s d ok
    · by_cases fresh : (s.dom d).clk = 1 ∧ (s.dom d).acqFrom = 0
      · rw [loseClock_dom_of_free backup fresh.1 fresh.2]
        exact ⟨rfl, rfl, rfl, rfl, rfl⟩
      · rw [loseClock_dom_of_held backup served fresh]
        exact ⟨rfl, rfl, rfl, rfl, rfl⟩
    · rw [loseClock_dom_of_backup served backup]
      exact ⟨rfl, rfl, rfl, rfl, rfl⟩

theorem backsUp_of_ne {ok : Bool} (other : d ≠ 0) : backsUp s d ok = false := by
  unfold backsUp
  rw [decide_eq_false other, Bool.and_false, Bool.false_and, Bool.false_and]

theorem srcInfo_of_domain (low : d < 4) : srcInfo (160 + d) ≠ none := by
  interval_cases d <;> decide

end

end Sys2Proof.Machine

namespace Sys2Proof

open Machine

/-- Settles O49: a tick by the increment's bounds; the clocks' rows by what makes them due; an offset and a loss by the
clock's state; a message by its kind; an edge by the last one. -/
theorem clocks : Obligations.Clocks := by
  unfold Obligations.Clocks
  refine ⟨fun x => ⟨tick_fine x, rfl, inc_between x⟩, fun d s => ?made, setTime_dom, fun d s => ?pulse, fun d s => ?slew,
    fun d s => ?spec, fun d s => ?commit, fun d o s => offsetTake_of_step, fun d o s free => ?offset,
    fun d o s => ⟨offsetIn_of_up, offsetIn_of_lost⟩, fun s d other low => ?loss, fun s served => ?zero,
    fun s backup => ?backup, fun port m s => ?received, fun port d m s => ?taken, fun d port m s => ?sync,
    fun d port kind s => ?sent, fun a b n r c s => ?forwarded, fun d s => ?timeout, fun n s => ?edge, fun d s => ?late⟩
  case made =>
    exact ⟨fun o pending due => next_settle_congr (xTimeStepMade_of_due pending due),
      fun other => next_settle_congr (xTimeStepMade_of_other other)⟩
  case pulse =>
    exact ⟨fun due free => congrArg Host.Outcome.next (xPpsOutPulse_of_due due free),
      fun other => congrArg Host.Outcome.next (xPpsOutPulse_of_other other)⟩
  case slew =>
    exact ⟨fun ended => congrArg Host.Outcome.next (if_pos ended), fun runs => congrArg Host.Outcome.next (if_neg runs)⟩
  case spec =>
    exact ⟨fun e passed => next_settle_congr (xHoldoverSpecExceeded_of_passed passed),
      fun other => next_settle_congr (xHoldoverSpecExceeded_of_other other)⟩
  case commit =>
    exact ⟨fun due => next_settle_congr (if_pos (startDue_iff.mpr due)),
      fun early => next_settle_congr (if_neg (mt startDue_iff.mp early))⟩
  case offset =>
    obtain ⟨last, up, lost⟩ := offsetTake_noted free (o := o)
    refine ⟨last, up, lost, offsetLeft_of_enters free, offsetLeft_of_decides free, fun acquiring plain => ?_,
      offsetLeft_of_tracked free, fun locked large none => ?_, fun c locked large waits near => ?_,
      fun c locked large waits far => ?_⟩
    · obtain ⟨slews, tenth, fewer, loud⟩ := offsetLeft_of_acquires free acquiring plain
      exact ⟨slews, tenth, fewer, fun big => loud (Nat.not_le.mpr big)⟩
    · obtain ⟨clk, cand, freq, -⟩ := offsetLeft_of_alone free locked large (offsetAgrees_of_none none)
      exact ⟨clk, cand, freq⟩
    · exact offsetLeft_of_agrees free locked large ((offsetAgrees_of_some waits).trans (decide_eq_true near))
    · obtain ⟨clk, cand, -, counts⟩ := offsetLeft_of_alone free locked large
        ((offsetAgrees_of_some waits).trans (decide_eq_false (Nat.not_le.mpr far)))
      exact ⟨clk, cand, counts c waits⟩
  case loss =>
    have alone : backsUp s d true = false := backsUp_of_ne other
    have dom : (sourceLost s d).dom d = (loseClock s d true).dom d := sourceLost_dom fun _ => other
    dsimp only
    rw [dom]
    refine ⟨fun locked => ?_, fun acquiring fresh => ?_, fun acquiring old => ?_, fun free => ?_, fun held => ?_,
      fun up => sourceLost_pair up (srcInfo_of_domain low), fun live => ?_⟩
    · rw [loseClock_dom_of_held alone (.inr locked) (by omega)]
      exact ⟨rfl, rfl, rfl⟩
    · rw [loseClock_dom_of_free alone acquiring fresh]
    · rw [loseClock_dom_of_held alone (.inl acquiring) fun h => old h.2]
      rfl
    · rw [loseClock_of_idle (.inl free), setDom_dom]
      exact free
    · rw [loseClock_of_idle (.inr held), setDom_dom]
      exact ⟨held, rfl⟩
    · obtain ⟨step, phase, up, lost, freq⟩ := loseClock_lost live
      exact ⟨step, phase, up, lost, fun none up => freq.trans (lostFreq_of_mean none up)⟩
  case zero =>
    have dom : (sourceLost s 0).dom 0 = (loseClock s 0 true).dom 0 := sourceLost_dom (by decide)
    rw [dom]
    refine ⟨fun backup locked => ?_, fun clk alone => ?_⟩
    · rw [loseClock_dom_of_backup served (by unfold backsUp; rw [backup, locked]; rfl)]
    · have alone : backsUp s 0 true = false := by
        unfold backsUp
        rcases alone with off | other
        · rw [off]
          rfl
        · rw [decide_eq_false other, Bool.and_false]
      rw [loseClock_dom_of_held alone served (by omega)]
      rfl
  case backup =>
    rw [sourceLost_backup backup]
    exact ⟨rfl, rfl, rfl⟩
  case received =>
    exact ⟨fun heard bad => next_settle_congr (xPtpMessageReceived_of_bad heard bad),
      fun heard good => next_settle_congr (xPtpMessageReceived_of_good heard good),
      fun deaf => next_settle_congr (xPtpMessageReceived_of_deaf deaf)⟩
  case taken =>
    refine ⟨ptpTake_of_other, fun takes kind mine => ?_, fun takes kind mine => ?_, fun takes kind follows => ?_,
      ptpTake_of_foreign, fun takes kind other => ?_, ptpTake_of_announce, ptpTake_of_delay⟩
    · exact (ptpTake_of_sync takes kind).trans (if_pos (ptpMine_iff.mpr mine))
    · exact (ptpTake_of_twoStep takes kind).trans (if_pos (ptpMine_iff.mpr mine))
    · exact (ptpTake_of_followUp takes kind).trans (if_pos (ptpFollows_iff.mpr follows))
    · exact (ptpTake_of_followUp takes kind).trans (if_neg (mt ptpFollows_iff.mp other))
  case sync =>
    refine ⟨syncOffset_of_up, syncOffset_of_first, fun c lost waits far => ?_, fun c lost waits near => ?_⟩
    · exact (syncOffset_of_second lost waits).trans (if_neg (mt (smallOffset_iff _).mp (Nat.not_le.mpr far)))
    · exact (syncOffset_of_second lost waits).trans (if_pos ((smallOffset_iff _).mpr near))
  case sent =>
    exact ⟨fun due => congrArg Host.Outcome.next (xPtpMessageSend_of_due due),
      fun other => congrArg Host.Outcome.next (xPtpMessageSend_of_other other)⟩
  case forwarded =>
    refine ⟨fun passes alone => ?_, fun d passes low peer first => ?_,
      fun other => congrArg Host.Outcome.next (xPtpEventForwarded_of_other other)⟩
    · refine congrArg Host.Outcome.next ((xPtpEventForwarded_of_passes passes).trans ?_)
      rw [ptpPeerDelay_of_none alone, add_zero]
    · refine congrArg Host.Outcome.next ((xPtpEventForwarded_of_passes passes).trans ?_)
      rw [ptpPeerDelay_of_first low peer first]
  case timeout =>
    exact ⟨fun none => next_settle_congr (xPtpSourceTimeout_of_none none), fun p slave =>
      ⟨fun ptp late => next_settle_congr (xPtpSourceTimeout_of_noSync slave ptp late),
        fun ptp sync late => next_settle_congr (xPtpSourceTimeout_of_noAnnounce slave ptp sync late),
        fun served => next_settle_congr (xPtpSourceTimeout_of_served slave served)⟩⟩
  case edge =>
    exact ⟨fun short => next_settle_congr (xPpsInEdge_of_short short),
      fun held => next_settle_congr (xPpsInEdge_of_held held)⟩
  case late =>
    exact ⟨fun late => next_settle_congr (xPpsInTimeout_of_late late),
      fun other => next_settle_congr (xPpsInTimeout_of_other other)⟩

end Sys2Proof
end

section
/-! SUPPORT. The Ethernet switch: port configurations, links, gate lists, queues and bridging (12 R416 to R422, R426). -/

namespace Sys2Proof.Machine

section
variable {s : State} {p : Nat}

/-! ## Port configurations and links (R416, R426) -/

section
variable {due : Nat} {c : Bytes} {rest : List (Nat × Bytes)}

theorem xPortConfigApply_of_none (none : (s.port p).pend = []) : xPortConfigApply p s = s := by
  unfold xPortConfigApply
  dsimp only
  rw [none]

/-- A configuration is applied. -/
abbrev portApplied (s : State) (p : Nat) (c : Bytes) (rest : List (Nat × Bytes)) : State :=
  s.setPort p { s.port p with cfg := some c, pend := rest }

/-- Enable and role stay. -/
abbrev SameLink (s : State) (p : Nat) (c : Bytes) : Prop :=
  prEnable (s.portCfg p) = prEnable c ∧ prRole (s.portCfg p) = prRole c

section
variable (waits : (s.port p).pend = (due, c) :: rest)
include waits

theorem xPortConfigApply_of_some : xPortConfigApply p s =
    if due ≤ s.mono then
      if prEnable (s.portCfg p) ≠ prEnable c ∨ prRole (s.portCfg p) ≠ prRole c then
        linkTo (portApplied s p c rest) p false
      else portApplied s p c rest
    else s := by
  unfold xPortConfigApply
  dsimp only
  split
  case h_1 none => exact absurd (none.symm.trans waits) (by simp)
  case h_2 due' c' rest' some =>
    obtain ⟨first, rfl⟩ : (due', c') = (due, c) ∧ rest' = rest := List.cons.inj (some.symm.trans waits)
    obtain ⟨rfl, rfl⟩ := Prod.mk.inj first
    rfl

theorem xPortConfigApply_of_early (early : s.mono < due) : xPortConfigApply p s = s :=
  (xPortConfigApply_of_some waits).trans (if_neg (Nat.not_le.mpr early))

theorem xPortConfigApply_of_same (late : due ≤ s.mono) (same : SameLink s p c) :
    xPortConfigApply p s = portApplied s p c rest := by
  rw [xPortConfigApply_of_some waits, if_pos late, if_neg fun h => h.elim (absurd same.1) (absurd same.2)]

theorem xPortConfigApply_of_retrained (late : due ≤ s.mono) (other : ¬ SameLink s p c) :
    xPortConfigApply p s = linkTo (portApplied s p c rest) p false := by
  rw [xPortConfigApply_of_some waits, if_pos late, if_pos (not_and_or.mp other)]

end

end

theorem linkTo_of_same : linkTo s p (s.port p).link = s := if_pos rfl

theorem linkTo_of_up (down : (s.port p).link = false) : linkTo s p true =
    emit (s.setPort p { s.port p with link := true }) 0x0B03 0xFFFF (b1 p ++ b1 1 ++ zeros 2) :=
  if_neg (by rw [down]; decide)

theorem linkTo_of_down (up : (s.port p).link = true) : linkTo s p false =
    [1, 0, 2, 3].foldl (fun s d => if domSource s d = 1 ∧ (s.dom d).slave = some p then sourceLost s d else s)
      (emitFault (s.setPort p { s.port p with link := false }) 0x0B03 0xFFFF (b1 p ++ b1 0 ++ zeros 2)) :=
  if_neg (by rw [up]; decide)

/-! ## Gate lists (R419 to R422) -/

section
variable {g : Bytes}

theorem xGateEntryExpiry_of_none (none : (s.port p).gate = none) : xGateEntryExpiry p s = s := by
  unfold xGateEntryExpiry
  dsimp only
  rw [none]

/-- The entry in force has ended. -/
abbrev GateExpired (s : State) (p : Nat) (g : Bytes) : Prop :=
  (s.port p).entryNs + gtInterval g (s.port p).entry ≤ s.tdNs (gtDomain g)

/-- The tick of a list's cycle instant. -/
abbrev cycleTickAt (s : State) (g : Bytes) : Nat := s.mono - (s.tdNs (gtDomain g) - cycleAt s g) / 4

/-- The list begins again. -/
abbrev GateAgain (s : State) (p : Nat) (g : Bytes) : Prop :=
  (s.port p).gatePend = none ∧ (s.port p).cycleTick + gtCycle g / 8 ≤ cycleTickAt s g

section
variable (gate : (s.port p).gate = some g)
include gate

theorem xGateEntryExpiry_of_gate : xGateEntryExpiry p s =
    if s.tdNs (gtDomain g) < (s.port p).entryNs + gtInterval g (s.port p).entry then s
    else if (s.port p).entry + 1 < gtCount g then
      portSend (s.setPort p { s.port p with
        entry := (s.port p).entry + 1, entryNs := (s.port p).entryNs + gtInterval g (s.port p).entry }) p
    else if (s.port p).gatePend.isSome then s
    else if (s.port p).cycleTick + gtCycle g / 8 ≤ cycleTickAt s g then
      portSend (s.setPort p { s.port p with
        entry := 0, entryNs := cycleAt s g, cycle := cycleAt s g, cycleTick := cycleTickAt s g }) p
    else s := by
  unfold xGateEntryExpiry
  dsimp only
  split
  case h_1 none => exact absurd (none.symm.trans gate) (by simp)
  case h_2 g' some =>
    obtain rfl : g' = g := Option.some.inj (some.symm.trans gate)
    rfl

theorem xGateEntryExpiry_of_early (early : ¬ GateExpired s p g) : xGateEntryExpiry p s = s :=
  (xGateEntryExpiry_of_gate gate).trans (if_pos (Nat.not_le.mp early))

section
variable (expired : GateExpired s p g)
include expired

theorem xGateEntryExpiry_of_next (next : (s.port p).entry + 1 < gtCount g) : xGateEntryExpiry p s =
    portSend (s.setPort p { s.port p with
      entry := (s.port p).entry + 1, entryNs := (s.port p).entryNs + gtInterval g (s.port p).entry }) p := by
  rw [xGateEntryExpiry_of_gate gate, if_neg (Nat.not_lt.mpr expired), if_pos next]

theorem xGateEntryExpiry_of_again (last : gtCount g ≤ (s.port p).entry + 1) (again : GateAgain s p g) :
    xGateEntryExpiry p s = portSend (s.setPort p { s.port p with
      entry := 0, entryNs := cycleAt s g, cycle := cycleAt s g, cycleTick := cycleTickAt s g }) p := by
  rw [xGateEntryExpiry_of_gate gate, if_neg (Nat.not_lt.mpr expired), if_neg (Nat.not_lt.mpr last),
    if_neg (by rw [again.1]; decide), if_pos again.2]

theorem xGateEntryExpiry_of_held (last : gtCount g ≤ (s.port p).entry + 1) (held : ¬ GateAgain s p g) :
    xGateEntryExpiry p s = s := by
  rw [xGateEntryExpiry_of_gate gate, if_neg (Nat.not_lt.mpr expired), if_neg (Nat.not_lt.mpr last)]
  split
  case isTrue => rfl
  case isFalse none => exact if_neg fun due => held ⟨Option.not_isSome_iff_eq_none.mp none, due⟩

end

end

theorem xGateListStart_of_none (none : (s.port p).gatePend = none) : xGateListStart p s = s := by
  unfold xGateListStart
  dsimp only
  rw [none]

/-- The old list has ended, as the row judges it. -/
def gateEnded (s : State) (p : Nat) : Bool :=
  match (s.port p).gate with
  | none => true
  | some o => decide ((s.port p).entry + 1 = gtCount o ∧
      (s.port p).entryNs + gtInterval o (s.port p).entry ≤ s.tdNs (gtDomain o))

/-- A new list starts: at its cycle instant, when the old one has ended, 1 ms after its command. -/
abbrev GateStarts (s : State) (p t : Nat) (g : Bytes) : Prop := s.tdNs (gtDomain g) - cycleAt s g < 8 ∧
  (∀ o, (s.port p).gate = some o →
    (s.port p).entry + 1 = gtCount o ∧ (s.port p).entryNs + gtInterval o (s.port p).entry ≤ s.tdNs (gtDomain o)) ∧
  t + 250000 ≤ s.mono

theorem gateEnded_iff : gateEnded s p = true ↔ ∀ o, (s.port p).gate = some o →
    (s.port p).entry + 1 = gtCount o ∧ (s.port p).entryNs + gtInterval o (s.port p).entry ≤ s.tdNs (gtDomain o) := by
  unfold gateEnded
  cases (s.port p).gate <;> simp

theorem gateStarts_iff {t : Nat} : (decide (s.tdNs (gtDomain g) - cycleAt s g < 8) && gateEnded s p && s.past t (msT 1)) =
    true ↔ GateStarts s p t g := by
  rw [Bool.and_eq_true, Bool.and_eq_true, decide_eq_true_iff, gateEnded_iff, past_iff, and_assoc]
  rfl

/-- The new list in force. -/
abbrev gateStarted (s : State) (p : Nat) (g : Bytes) : State :=
  s.setPort p { s.port p with
    gate := if gtEnable g then some g else none, gatePend := none, entry := 0, entryNs := cycleAt s g
    cycle := cycleAt s g, cycleTick := s.mono }

section
variable {t : Nat} (waits : (s.port p).gatePend = some (t, g))
include waits

theorem xGateListStart_of_some : xGateListStart p s =
    if decide (s.tdNs (gtDomain g) - cycleAt s g < 8) && gateEnded s p && s.past t (msT 1) then
      portSend (emit (gateStarted s p g) 0x0B04 0xFFFF (b1 p ++ zeros 3 ++ le 4 (gtCycle g))) p
    else s := by
  unfold xGateListStart
  dsimp only
  split
  case h_1 none => exact absurd (none.symm.trans waits) (by simp)
  case h_2 t' g' some =>
    obtain ⟨rfl, rfl⟩ := Prod.mk.inj (Option.some.inj (some.symm.trans waits))
    rfl

theorem xGateListStart_of_starts (starts : GateStarts s p t g) : xGateListStart p s =
    portSend (emit (gateStarted s p g) 0x0B04 0xFFFF (b1 p ++ zeros 3 ++ le 4 (gtCycle g))) p :=
  (xGateListStart_of_some waits).trans (if_pos (gateStarts_iff.mpr starts))

theorem xGateListStart_of_waits (held : ¬ GateStarts s p t g) : xGateListStart p s = s :=
  (xGateListStart_of_some waits).trans (if_neg (mt gateStarts_iff.mp held))

end

end

theorem openFor_of_unlisted {q : Nat} (unlisted : (s.port p).gate = none) : openFor s p q = none := by
  unfold openFor
  dsimp only
  rw [unlisted]

theorem mayStart_of_unlisted {q n : Nat} (unlisted : openFor s p q = none) : mayStart s p q n = true := by
  unfold mayStart
  rw [unlisted]

theorem mayStart_iff {q n t : Nat} (listed : openFor s p q = some t) : mayStart s p q n = true ↔ lineNs p n ≤ t := by
  unfold mayStart
  rw [listed]
  exact decide_eq_true_iff

/-! ## Sending (R417, R420) -/

/-- The port's line is free, and a frame waits. -/
abbrev PortFree (s : State) (p : Nat) : Prop :=
  (s.port p).queue ≠ [] ∧ (s.port p).txFree ≤ s.mono ∧ (s.port p).link = true

theorem portFree_iff : ((s.port p).queue.isEmpty || decide (s.mono < (s.port p).txFree) || !(s.port p).link) = false ↔
    PortFree s p := by
  rw [Bool.or_eq_false_iff, Bool.or_eq_false_iff, Bool.not_eq_false', decide_eq_false_iff_not, Nat.not_lt,
    ← Bool.not_eq_true, List.isEmpty_iff, and_assoc]

theorem portSend_of_busy (busy : ¬ PortFree s p) : portSend s p = s :=
  if_pos (by rwa [← portFree_iff, Bool.not_eq_false] at busy)

section
variable (free : PortFree s p)
include free

theorem portSend_of_held (held : nextFrame s p = none) : portSend s p = s := by
  refine (if_neg (ne_true_of_eq_false (portFree_iff.mpr free))).trans ?_
  rw [held]

theorem portSend_of_next {e : Nat × EthFrame} (next : nextFrame s p = some e) : portSend s p =
    { s.setPort p { s.port p with
        queue := (s.port p).queue.erase e, tx := satN 4 ((s.port p).tx + 1)
        txFree := s.mono + (lineNs p e.2.length + 3) / 4 } with
      sent := .eth p e.1 e.2 :: s.sent } := by
  refine (if_neg (ne_true_of_eq_false (portFree_iff.mpr free))).trans ?_
  rw [next]
  rfl

end

/-! ## Bridging (R417, R418) -/

theorem setPort_setPort (v w : Port) : (s.setPort p v).setPort p w = s.setPort p w :=
  congrArg (fun l : Tbl Nat Port => { s with eth := { s.eth with ports := l } }) (tput_tput_same _ _ _ _)

theorem vlanEntry_setPort {x : Port} (same : x.cfg = (s.port p).cfg) (v : Nat) :
    vlanEntry (s.setPort p x) p v = vlanEntry s p v := by
  unfold vlanEntry State.portCfg
  rw [setPort_port, same]

theorem portCfg_setPort {x : Port} (same : x.cfg = (s.port p).cfg) : (s.setPort p x).portCfg p = s.portCfg p := by
  unfold State.portCfg
  rw [setPort_port, same]

section
variable {v : Nat} {f : EthFrame}

theorem egress_of_outside (outside : vlanEntry s p v = none) : egress v f s p = s := by
  unfold egress
  rw [outside]

theorem egress_of_member {k : Nat} (member : vlanEntry s p v = some k) : egress v f s p =
    portSend (s.setPort p { s.port p with queue := (s.port p).queue ++ [(if f.vlan = none then 0 else f.pcp % 8,
      { f with vlan := if (prUntagged (s.portCfg p)).testBit k then none else some v })] }) p := by
  unfold egress
  rw [member]
  cases f.vlan <;> rfl

end

section
variable {mac v : Nat}

/-- The addresses that are kept when one is seen: fresh ones, but for its own entry. -/
abbrev fdbOthers (s : State) (mac v : Nat) : List Fdb := (fdbFresh s).filter fun e => decide (e.mac ≠ mac ∨ e.vlan ≠ v)

theorem learn_of_full (full : mac / 2 ^ 40 % 2 = 1 ∨ 4096 ≤ (fdbOthers s mac v).length) :
    (learn s mac v p).eth.fdb = fdbOthers s mac v := congrArg (fun t : State => t.eth.fdb) (if_pos full)

theorem learn_of_room (room : ¬ (mac / 2 ^ 40 % 2 = 1 ∨ 4096 ≤ (fdbOthers s mac v).length)) :
    (learn s mac v p).eth.fdb = fdbOthers s mac v ++ [{ mac := mac, vlan := v, port := p, tick := s.mono }] :=
  congrArg (fun t : State => t.eth.fdb) (if_neg room)

theorem learn_length (bounded : s.eth.fdb.length ≤ 4096) : (learn s mac v p).eth.fdb.length ≤ 4096 := by
  by_cases full : mac / 2 ^ 40 % 2 = 1 ∨ 4096 ≤ (fdbOthers s mac v).length
  · rw [learn_of_full full]
    exact (List.length_filter_le _ _).trans ((List.length_filter_le _ _).trans bounded)
  · rw [learn_of_room full, List.length_append, List.length_singleton]
    omega

end

end

/-! ## A frame that is received (R417, R418) -/

section
variable {s : State} {p : Nat} {f : EthFrame}

/-- The port hears its line. -/
abbrev EthHeard (s : State) (p : Nat) : Prop := p ≤ 8 ∧ 2 ≤ s.boot.phase ∧ portOn s p = true ∧ (s.port p).link = true

theorem ethHeard_iff : (!(decide (p ≤ 8 ∧ 2 ≤ s.boot.phase) && portOn s p && (s.port p).link)) = false ↔ EthHeard s p := by
  rw [Bool.not_eq_false', Bool.and_eq_true, Bool.and_eq_true, decide_eq_true_iff, and_assoc, and_assoc]

/-- A frame counted at its port. -/
abbrev ethCounted (s : State) (p : Nat) : Port := { s.port p with rx := satN 4 ((s.port p).rx + 1) }

/-- The VLAN of a frame that a port receives. -/
abbrev ethVlan (s : State) (p : Nat) (f : EthFrame) : Nat := f.vlan.getD (prPvid (s.portCfg p))

/-- The frame's source has been learned. -/
abbrev ethLearned (s : State) (p : Nat) (f : EthFrame) : State :=
  learn (s.setPort p (ethCounted s p)) f.src (ethVlan s p f) p

/-- Ports a frame may leave on. -/
abbrev EthLeaves (t : State) (p q : Nat) : Prop := q < 9 ∧ q ≠ p ∧ portOn t q = true ∧ (t.port q).link = true

theorem xEthFrameReceived_of_deaf (deaf : ¬ EthHeard s p) : xEthFrameReceived p f s = s :=
  if_pos (by rwa [← ethHeard_iff, Bool.not_eq_false] at deaf)

/-- The ports a frame leaves on that has no port of its own. -/
abbrev ethOuts (t : State) (p : Nat) : List Nat :=
  (List.range 9).filter fun q => decide (q ≠ p) && portOn t q && (t.port q).link

theorem mem_ethOuts {t : State} {q : Nat} : q ∈ ethOuts t p ↔ EthLeaves t p q := by
  rw [List.mem_filter, List.mem_range, Bool.and_eq_true, Bool.and_eq_true, decide_eq_true_iff, and_assoc]

/-- Any test of the ports a frame may leave on selects them. -/
theorem ethOuts_eq {t : State} {leaves : Nat → Bool} (same : ∀ q, leaves q = true ↔ EthLeaves t p q) :
    ethOuts t p = (List.range 9).filter leaves := by
  refine List.filter_congr fun q mem => Bool.eq_iff_iff.mpr ?_
  rw [same, ← mem_ethOuts, List.mem_filter, and_iff_right mem]

/-- The entry of a frame's destination, if it has been learned. -/
abbrev ethKnown (t : State) (v : Nat) (f : EthFrame) : Option Fdb := t.eth.fdb.find? fun e => e.mac = f.dst && e.vlan = v

/-- Where a frame leaves that was learned and is not the module's own. -/
def ethForward (v : Nat) (f : EthFrame) (p : Nat) (t : State) : State :=
  match ethKnown t v f with
  | some e => if (ethOuts t p).contains e.port then egress v f t e.port else t
  | none => (ethOuts t p).foldl (egress v f) t

/-- A frame counted at its port, with its FCS. -/
def ethNoted (s : State) (p : Nat) (f : EthFrame) : Port :=
  { ethCounted s p with err := if f.fcsOk then (s.port p).err else satN 4 ((s.port p).err + 1) }

theorem ethNoted_of_whole (whole : f.fcsOk = true) : ethNoted s p f = ethCounted s p := by
  unfold ethNoted
  rw [if_pos whole]

theorem ethNoted_of_bad (bad : f.fcsOk = false) :
    ethNoted s p f = { ethCounted s p with err := satN 4 ((ethCounted s p).err + 1) } := by
  unfold ethNoted
  rw [if_neg (ne_true_of_eq_false bad)]

/-- What becomes of a frame that has been counted; `drop` is its port's count of frames dropped. -/
def ethTaken (p drop : Nat) (f : EthFrame) (u : State) : State :=
  let v := f.vlan.getD (prPvid (u.portCfg p))
  if !f.fcsOk || (vlanEntry u p v).isNone then u.setPort p { u.port p with drop := satN 4 (drop + 1) }
  else
    let t := learn u f.src v p
    if reservedMac f.dst || decide (f.dst = Config.mac.toNat) then t else ethForward v f p t

section
variable (heard : EthHeard s p)
include heard

theorem xEthFrameReceived_of_heard :
    xEthFrameReceived p f s = ethTaken p (s.port p).drop f (s.setPort p (ethNoted s p f)) :=
  if_neg (ne_true_of_eq_false (ethHeard_iff.mpr heard))

/-- A frame that is dropped. -/
theorem xEthFrameReceived_of_dropped (dropped : f.fcsOk = false ∨ vlanEntry s p (ethVlan s p f) = none) :
    xEthFrameReceived p f s = s.setPort p { ethNoted s p f with drop := satN 4 ((s.port p).drop + 1) } := by
  rw [xEthFrameReceived_of_heard heard]
  unfold ethTaken
  dsimp only
  rw [portCfg_setPort (x := ethNoted s p f) rfl, vlanEntry_setPort (x := ethNoted s p f) rfl, setPort_port,
    setPort_setPort, if_pos (by rcases dropped with bad | outside <;> simp [*])]

theorem xEthFrameReceived_of_bad (bad : f.fcsOk = false) : xEthFrameReceived p f s =
    s.setPort p { ethCounted s p with
      err := satN 4 ((ethCounted s p).err + 1), drop := satN 4 ((ethCounted s p).drop + 1) } := by
  rw [xEthFrameReceived_of_dropped heard (.inl bad), ethNoted_of_bad bad]

section
variable (whole : f.fcsOk = true)
include whole

theorem xEthFrameReceived_of_outside (outside : vlanEntry s p (ethVlan s p f) = none) : xEthFrameReceived p f s =
    s.setPort p { ethCounted s p with drop := satN 4 ((ethCounted s p).drop + 1) } := by
  rw [xEthFrameReceived_of_dropped heard (.inr outside), ethNoted_of_whole whole]

section
variable (member : vlanEntry s p (ethVlan s p f) ≠ none)
include member

/-- A frame of the port's VLANs: its source is learned. -/
theorem xEthFrameReceived_of_member : xEthFrameReceived p f s =
    if reservedMac f.dst || decide (f.dst = Config.mac.toNat) then ethLearned s p f
    else ethForward (ethVlan s p f) f p (ethLearned s p f) := by
  rw [xEthFrameReceived_of_heard heard]
  unfold ethTaken
  dsimp only
  rw [portCfg_setPort (x := ethNoted s p f) rfl, vlanEntry_setPort (x := ethNoted s p f) rfl,
    if_neg (by rw [whole]; simpa using member), ethNoted_of_whole whole]

theorem xEthFrameReceived_of_own (own : reservedMac f.dst = true ∨ f.dst = Config.mac.toNat) :
    xEthFrameReceived p f s = ethLearned s p f := by
  rw [xEthFrameReceived_of_member heard whole member, if_pos (by simpa using own)]

theorem xEthFrameReceived_of_forward (other : ¬ (reservedMac f.dst = true ∨ f.dst = Config.mac.toNat)) :
    xEthFrameReceived p f s = ethForward (ethVlan s p f) f p (ethLearned s p f) := by
  rw [xEthFrameReceived_of_member heard whole member, if_neg (by simpa using other)]

end

end

end

section
variable {t : State} {v : Nat}

theorem ethForward_of_known {e : Fdb} (known : ethKnown t v f = some e) (leaves : EthLeaves t p e.port) :
    ethForward v f p t = egress v f t e.port := by
  unfold ethForward
  rw [known]
  exact if_pos (List.contains_iff_mem.mpr (mem_ethOuts.mpr leaves))

theorem ethForward_of_stuck {e : Fdb} (known : ethKnown t v f = some e) (stays : ¬ EthLeaves t p e.port) :
    ethForward v f p t = t := by
  unfold ethForward
  rw [known]
  exact if_neg (mt List.contains_iff_mem.mp (mt mem_ethOuts.mp stays))

theorem ethForward_of_unknown (unknown : ethKnown t v f = none) :
    ethForward v f p t = (ethOuts t p).foldl (egress v f) t := by
  unfold ethForward
  rw [unknown]

end

end

end Sys2Proof.Machine

namespace Sys2Proof

open Machine

/-- Settles O50: a configuration by its due time, a link by its change, a gate list by what has ended, a queue by its
head, a frame by its FCS, its VLAN and where its destination was learned. -/
theorem switchEvents : Obligations.SwitchEvents := by
  unfold Obligations.SwitchEvents
  refine ⟨fun p s none => next_settle_congr (xPortConfigApply_of_none none), fun p due c r s waits => ?apply,
    fun p up s => ?change, fun p s => ⟨linkTo_of_same, linkTo_of_up, linkTo_of_down⟩,
    fun p s none => congrArg Host.Outcome.next (xGateEntryExpiry_of_none none), fun p g s gate => ?entry,
    fun p s none => congrArg Host.Outcome.next (xGateListStart_of_none none), fun p t g s waits => ?list,
    fun s p q n => ⟨fun unlisted => mayStart_of_unlisted (openFor_of_unlisted unlisted), mayStart_of_unlisted,
      fun t => mayStart_iff⟩,
    fun p s => ⟨fun e free => portSend_of_next free, fun held => ?send⟩, fun p f s => ?frame,
    fun s p v f => ⟨egress_of_outside, fun k => egress_of_member⟩, fun s mac v p => ⟨learn_of_full, fun unicast room => ?_,
      learn_length⟩⟩
  case apply =>
    exact ⟨fun early => next_settle_congr (xPortConfigApply_of_early waits early),
      fun late same => next_settle_congr (xPortConfigApply_of_same waits late same),
      fun late other => next_settle_congr (xPortConfigApply_of_retrained waits late other)⟩
  case change =>
    exact ⟨fun ok => next_settle_congr (if_pos ok), fun other => next_settle_congr (if_neg other)⟩
  case entry =>
    exact ⟨fun early => congrArg Host.Outcome.next (xGateEntryExpiry_of_early gate early),
      fun expired next => congrArg Host.Outcome.next (xGateEntryExpiry_of_next gate expired next),
      fun expired last again => congrArg Host.Outcome.next (xGateEntryExpiry_of_again gate expired last again),
      fun expired last held => congrArg Host.Outcome.next (xGateEntryExpiry_of_held gate expired last held)⟩
  case list =>
    exact ⟨fun starts => congrArg Host.Outcome.next (xGateListStart_of_starts waits starts),
      fun held => congrArg Host.Outcome.next (xGateListStart_of_waits waits held)⟩
  case send =>
    by_cases free : PortFree s p
    · exact portSend_of_held free (held.resolve_left (not_not_intro free))
    · exact portSend_of_busy free
  case frame =>
    refine ⟨fun deaf => congrArg Host.Outcome.next (xEthFrameReceived_of_deaf deaf),
      fun heard bad => congrArg Host.Outcome.next (xEthFrameReceived_of_bad heard bad),
      fun heard whole outside => congrArg Host.Outcome.next (xEthFrameReceived_of_outside heard whole outside),
      fun ⟨heard, whole, member⟩ own => congrArg Host.Outcome.next (xEthFrameReceived_of_own heard whole member own),
      fun e ⟨heard, whole, member⟩ other known leaves => ?_, fun e ⟨heard, whole, member⟩ other known stays => ?_,
      fun ⟨heard, whole, member⟩ other unknown => ?_⟩
    all_goals
      refine congrArg Host.Outcome.next ((xEthFrameReceived_of_forward heard whole member other).trans ?_)
    · exact ethForward_of_known known leaves
    · exact ethForward_of_stuck known stays
    · exact (ethForward_of_unknown unknown).trans (congrArg (List.foldl _ _) (ethOuts_eq fun q => decide_eq_true_iff))
  · exact learn_of_room (not_or.mpr ⟨by omega, Nat.not_le.mpr room⟩)

end Sys2Proof
end

section
/-! SUPPORT. A controller's record: what leaves it as it is, its host buffers, its error counters, and its address claim
(13 R444, R446, R447, R449). -/

namespace Sys2Proof.Machine

/-! ## What leaves the controllers as they are -/

section
variable {s t : State} {k : Nat}

theorem can1_of_can (same : t.can = s.can) (k : Nat) : t.can1 k = s.can1 k := by
  unfold State.can1
  rw [same]

theorem emit_can1 (code func : Nat) (data : Bytes) : (emit s code func data).can1 k = s.can1 k :=
  can1_of_can (can_of_off (emit_off s code func data _ (Nat.and_self _)) rfl) k

theorem emitFault_can1 (code func : Nat) (data : Bytes) : (emitFault s code func data).can1 k = s.can1 k :=
  can1_of_can (can_of_off (emitFault_off s code func data _ (Nat.and_self _)) rfl) k

theorem raise_can1 (n detail : Nat) : (raise s n detail).can1 k = s.can1 k :=
  can1_of_can (can_of_off (raise_off s n detail _ (Nat.and_self _)) rfl) k

theorem returnSrc_can1 (n : Nat) : (returnSrc s n).can1 k = s.can1 k :=
  can1_of_can (can_of_off (returnSrc_off s n _ (Nat.and_self _)) rfl) k

theorem canErrReport_can1 (a : Nat) : (canErrReport a s k).can1 k = s.can1 k :=
  can1_of_can (can_of_off (canErrReport_off a s k _ (Nat.and_self _)) rfl) k

theorem setCan_setCan (v w : Can) : (s.setCan k v).setCan k w = s.setCan k w :=
  congrArg (fun l : Tbl Nat Can => { s with can := { s.can with ctl := l } }) (tput_tput_same _ _ _ _)

end

/-! ## Pairs of sources -/

section
variable {s : State}

/-- A source that returns shows 01. -/
theorem returnSrc_shows (n : Nat) : ((returnSrc s n).src n).pair = 1 := by
  by_cases well : SrcWell s n
  · rw [returnSrc_of_well well]
    exact well.2
  · have shown : ((s.setSrc n { s.src n with pair := 1 }).src n).pair = 1 := congrArg Src.pair (tget_tput_same _ _ _ _)
    by_cases seen : Seen s n
    · rw [(returnSrc_of_unwell well).1 seen]
      cases error : ((s.setSrc n { s.src n with pair := 1 }).src n).inErr
      · rw [seeReturn_of_well error]
        exact shown
      · rw [src_of_bare (s := State.setSrc _ n _) (seeReturn_bare error) n]
        exact (congrArg Src.pair (tget_tput_same _ _ _ _)).trans shown
    · rw [(returnSrc_of_unwell well).2 seen]
      exact shown

theorem returnSrc_src_of_ne {n m : Nat} (other : n ≠ m) : (returnSrc s n).src m = s.src m := by
  by_cases well : SrcWell s n
  · rw [returnSrc_of_well well]
  · have kept : (s.setSrc n { s.src n with pair := 1 }).src m = s.src m := setSrc_src_of_ne _ _ other
    by_cases seen : Seen s n
    · rw [(returnSrc_of_unwell well).1 seen]
      cases error : ((s.setSrc n { s.src n with pair := 1 }).src n).inErr
      · rw [seeReturn_of_well error]
        exact kept
      · rw [src_of_bare (s := State.setSrc _ n _) (seeReturn_bare error) m]
        exact (setSrc_src_of_ne _ _ other).trans kept
    · rw [(returnSrc_of_unwell well).2 seen]
      exact kept

theorem canErrReport_src (a k n : Nat) : (canErrReport a s k).src n = s.src n := by
  unfold canErrReport
  dsimp only
  split
  · rfl
  · split
    · exact src_of_bare (emitFault_bare _ _ _ _) n
    · exact emit_src _ _ _ n

end

/-! ## Host buffers (R444) -/

section
variable {s : State} {k : Nat}

/-- A host buffer leaves. -/
abbrev hostWithout (x : Can) (t : CanTx) : Can := { x with host := x.host.filter fun u => u.ser ≠ t.ser }

theorem canTxEnd_of_told {t : CanTx} {c : Nat} (told : t.report = true ∨ t.oneShot = true) : canTxEnd s k t c =
    emit (s.setCan k (hostWithout (s.can1 k) t)) 0x0C02 (canFid k)
      (le 4 t.tag ++ b1 c ++ b1 0 ++ le 2 (satN 2 t.attempts)) := if_pos (Bool.or_eq_true _ _ ▸ told)

theorem canTxEnd_of_silent {t : CanTx} {c : Nat} (silent : ¬ (t.report = true ∨ t.oneShot = true)) :
    canTxEnd s k t c = s.setCan k (hostWithout (s.can1 k) t) := if_neg (Bool.or_eq_true _ _ ▸ silent)

theorem canTxEnd_can1 (t : CanTx) (c : Nat) : (canTxEnd s k t c).can1 k = hostWithout (s.can1 k) t := by
  by_cases told : t.report = true ∨ t.oneShot = true
  · rw [canTxEnd_of_told told, emit_can1, setCan_can1]
  · rw [canTxEnd_of_silent told, setCan_can1]

/-- Host buffers that end one after another. -/
def canTxEnds (k : Nat) (cause : CanTx → Nat) (l : List CanTx) (s : State) : State :=
  l.foldl (fun s t => canTxEnd s k t (cause t)) s

theorem canTxEnds_can1 (cause : CanTx → Nat) (l : List CanTx) (s : State) : (canTxEnds k cause l s).can1 k =
    { s.can1 k with host := (s.can1 k).host.filter fun u => l.all fun t => u.ser ≠ t.ser } := by
  induction l generalizing s with
  | nil =>
    have whole : (s.can1 k).host.filter (fun _ => true) = (s.can1 k).host := List.filter_true _
    exact (congrArg (fun h => { s.can1 k with host := h }) whole).symm
  | cons t l ih =>
    refine (ih (canTxEnd s k t (cause t))).trans ?_
    rw [canTxEnd_can1]
    refine congrArg (fun h => { s.can1 k with host := h }) ((List.filter_filter ..).trans (List.filter_congr fun u _ => ?_))
    rw [List.all_cons, Bool.and_comm]

/-- Every host buffer that meets a test has ended: none that meets it is left. -/
theorem canTxEnds_host {cause : CanTx → Nat} (ends : CanTx → Bool) {u : CanTx}
    (left : u ∈ ((canTxEnds k cause ((s.can1 k).host.filter ends) s).can1 k).host) : ends u = false := by
  rw [canTxEnds_can1] at left
  obtain ⟨mem, apart⟩ := List.mem_filter.mp left
  by_contra met
  have named := List.all_eq_true.mp apart u (List.mem_filter.mpr ⟨mem, Bool.not_eq_false _ ▸ met⟩)
  exact absurd rfl (of_decide_eq_true named)

/-- Every host buffer ends. -/
theorem canTxAll_can1 (cause : CanTx → Nat) : (canTxAll s k none cause).can1 k = { s.can1 k with host := [] } := by
  have none (u : CanTx) : u ∉ ((canTxAll s k none cause).can1 k).host := fun left =>
    absurd (canTxEnds_host (fun t => decide (some t.ser ≠ none)) left) (by simp)
  have all := canTxEnds_can1 (k := k) cause ((s.can1 k).host.filter fun t => some t.ser ≠ Option.none) s
  refine all.trans (congrArg (fun h => { s.can1 k with host := h }) ?_)
  exact (congrArg Can.host all).symm.trans (List.eq_nil_iff_forall_not_mem.mpr none)

/-! ## Error counters (R446, R447) -/

theorem errState_of_off {x : Can} (off : x.off ≠ none) : x.errState = 2 := if_pos (Option.isSome_iff_ne_none.mpr off)

theorem errState_of_low {x : Can} (on : x.off = none) (low : x.tec < 128 ∧ x.rxe < 128) : x.errState = 0 :=
  (if_neg (by rw [on]; decide)).trans (if_neg (by omega))

theorem errState_of_high {x : Can} (on : x.off = none) (high : 128 ≤ x.tec ∨ 128 ≤ x.rxe) : x.errState = 1 :=
  (if_neg (by rw [on]; decide)).trans (if_pos high)

/-- The counters take new values. -/
abbrev canCounted (x : Can) (tec rxc : Nat) : Can := { x with tec := tec, rxe := min rxc 255 }

theorem canCount_of_low {tec rxc : Nat} (low : tec ≤ 255 ∨ (s.can1 k).off ≠ none) :
    canCount s k tec rxc = canErrReport (s.can1 k).errState (s.setCan k (canCounted (s.can1 k) tec rxc)) k := by
  unfold canCount
  dsimp only
  rw [if_neg]
  rw [Bool.and_eq_true, decide_eq_true_iff, Option.isNone_iff_eq_none]
  exact fun h => low.elim (Nat.not_le.mpr h.1) fun off => off h.2

theorem canCount_of_busOff {tec rxc : Nat} (high : 255 < tec) (on : (s.can1 k).off = none) : canCount s k tec rxc =
    canErrReport (s.can1 k).errState (canBusOff (s.setCan k (canCounted (s.can1 k) tec rxc)) k) k := by
  unfold canCount
  dsimp only
  rw [if_pos]
  rw [Bool.and_eq_true, decide_eq_true_iff, Option.isNone_iff_eq_none]
  exact ⟨high, on⟩

theorem canCount_can1_of_low {tec rxc : Nat} (low : tec ≤ 255 ∨ (s.can1 k).off ≠ none) :
    (canCount s k tec rxc).can1 k = canCounted (s.can1 k) tec rxc := by
  rw [canCount_of_low low, canErrReport_can1, setCan_can1]

/-- The firmware's frames, that on the bus among them. -/
def fwBack (x : Can) : List CanFrame :=
  match x.att with
  | some (.fw, f) => f :: x.fw
  | _ => x.fw

/-- What is left in a controller that is bus-off. -/
abbrev canSilenced (x : Can) (mono : Nat) : Can :=
  { x with
    off := some mono, slots := [], att := none, fw := fwBack x, busoff := satN 4 (x.busoff + 1), host := [] }

theorem canBusOff_eq : ∃ u : State, canBusOff s k = raise (u.setCan k (canSilenced (s.can1 k) s.mono)) (168 + k)
    (s.can1 k).tec := by
  have ended : (canTxAll s k none (CanTx.endCause · 5)).can1 k = { s.can1 k with host := [] } := canTxAll_can1 _
  have mono : (canTxAll s k none (CanTx.endCause · 5)).mono = s.mono :=
    mono_of_off (canTxAll_off s k none (CanTx.endCause · 5) _ (Nat.and_self _)) rfl
  refine ⟨canTxAll s k none (CanTx.endCause · 5), ?_⟩
  unfold canBusOff
  dsimp only
  rw [ended, mono]
  rfl

theorem canBusOff_can1 : (canBusOff s k).can1 k = canSilenced (s.can1 k) s.mono := by
  obtain ⟨u, busOff⟩ := canBusOff_eq (s := s) (k := k)
  rw [busOff, raise_can1, setCan_can1]

theorem canBusOff_pair (known : srcInfo (168 + k) ≠ none) : ((canBusOff s k).src (168 + k)).pair = 2 := by
  obtain ⟨u, busOff⟩ := canBusOff_eq (s := s) (k := k)
  rw [busOff]
  exact raise_shows known

theorem srcInfo_of_controller (low : k < 10) : srcInfo (168 + k) ≠ none := by
  interval_cases k <;> decide

/-! ## The address claim (R449) -/

theorem canFwPut_eq (f : CanFrame) : canFwPut s k f = s.setCan k { s.can1 k with fw := (s.can1 k).fw ++ [f] } := rfl

theorem canAddr_can1 (st addr : Nat) : (canAddr s k st addr).can1 k = { s.can1 k with addrSt := st, addr := addr } := by
  unfold canAddr
  dsimp only
  split
  · exact setCan_can1 _ _ _
  · split
    · rw [emitFault_can1, setCan_can1]
    · rw [emit_can1, setCan_can1]

theorem claimSend_can1 (a : Nat) : (claimSend s k a).can1 k = { s.can1 k with
    addr := a, addrSt := 1, fw := (s.can1 k).fw ++ [claimFrame s k a], claimAt := s.mono, cannot := false } := by
  unfold claimSend
  dsimp only
  rw [canAddr_can1, setCan_can1, canFwPut_eq, setCan_can1]
  rfl

end

end Sys2Proof.Machine
end

section
/-! SUPPORT. The CAN opcodes outside CONFIG (13 R455 to R457). -/

namespace Sys2Proof.Machine

/-! ## CAN_TRANSMIT (R455) -/

section
variable {s : State} {p : Bytes}

/-- A frame's format is set, and on an ISO 11783 controller classical. -/
abbrev TxTypeOk (s : State) (p : Bytes) : Prop := formatOn (s.canCfg (byteAt p 0)) (byteAt p 2) = true ∧
  (nIso (s.canCfg (byteAt p 0)) = true → byteAt p 2 = 0)

/-- On an ISO 11783 controller it is extended. -/
abbrev TxIdOk (s : State) (p : Bytes) : Prop := nIso (s.canCfg (byteAt p 0)) = true → (rd p 4 4).testBit 29 = true

/-- The controller is RUNNING, not bus-off, and in normal mode. -/
abbrev TxReady (s : State) (p : Bytes) : Prop := s.st (canFid (byteAt p 0)) = .running ∧
  (s.can1 (byteAt p 0)).off = none ∧ nMode (s.canCfg (byteAt p 0)) = 0

/-- An address that is inserted is claimed. -/
abbrev TxClaimed (s : State) (p : Bytes) : Prop := (byteAt p 1).testBit 2 = true → (s.can1 (byteAt p 0)).addrSt = 2

theorem txReady_iff : (!canRunning s (byteAt p 0) || (s.can1 (byteAt p 0)).off.isSome ||
    decide (nMode (s.canCfg (byteAt p 0)) ≠ 0)) = false ↔ TxReady s p := by
  rw [Bool.or_eq_false_iff, Bool.or_eq_false_iff, Bool.not_eq_false', decide_eq_false_iff_not, not_not,
    Option.isSome_eq_false_iff, Option.isNone_iff_eq_none, and_assoc]
  exact and_congr decide_eq_true_iff Iff.rfl

theorem txClaimed_iff : ((byteAt p 1).testBit 2 && decide ((s.can1 (byteAt p 0)).addrSt ≠ 2)) = false ↔ TxClaimed s p := by
  rw [Bool.and_eq_false_imp, decide_eq_false_iff_not, not_not]

/-- The frame that is queued. -/
abbrev txQueued (x : Can) (p : Bytes) (mono : Nat) : CanTx :=
  { ser := x.ser, frame := txFrame p, tag := rd p 8 4, oneShot := (byteAt p 1).testBit 0
    report := (byteAt p 1).testBit 1, insertSa := (byteAt p 1).testBit 2
    deadline := if rd p 12 2 = 0 then none else some (mono + rd p 12 2 * 250000) }

/-- A frame enters a controller's host buffers. -/
abbrev hostPut (x : Can) (t : CanTx) : Can := { x with host := x.host ++ [t], ser := x.ser + 1 }

theorem canMayBegin_mono (k : Nat) : (canMayBegin s k).mono = s.mono :=
  mono_of_off (canMayBegin_off s k _ (Nat.and_self _)) rfl

theorem opCanTransmit_of_type (bad : ¬ TxTypeOk s p) : opCanTransmit.body s p = badParam s 2 := by
  unfold opCanTransmit
  dsimp only
  split
  case isTrue => rfl
  case isFalse format =>
    refine if_pos ?_
    rw [Bool.not_eq_true, Bool.not_eq_false'] at format
    rw [Bool.and_eq_true, decide_eq_true_iff]
    exact Classical.not_imp.mp fun classical => bad ⟨format, classical⟩

section
variable (type : TxTypeOk s p)
include type

/-- With the format in order, the checks that follow. -/
theorem opCanTransmit_of_typeOk : opCanTransmit.body s p =
    if nIso (s.canCfg (byteAt p 0)) && !(rd p 4 4).testBit 29 then badParam s 4
    else if !canRunning s (byteAt p 0) || (s.can1 (byteAt p 0)).off.isSome || decide (nMode (s.canCfg (byteAt p 0)) ≠ 0) then
      failAns s stWrongState 0
    else if 16 ≤ (s.can1 (byteAt p 0)).host.length then failAns s stBusy 0
    else if (byteAt p 1).testBit 2 && decide ((s.can1 (byteAt p 0)).addrSt ≠ 2) then failAns s 0x80 0
    else
      let t := canMayBegin s (byteAt p 0)
      okAns (t.setCan (byteAt p 0) (hostPut (t.can1 (byteAt p 0)) (txQueued (t.can1 (byteAt p 0)) p s.mono))) := by
  have iso : ¬ (nIso (s.canCfg (byteAt p 0)) && decide (byteAt p 2 ≠ 0)) = true := by
    rw [Bool.and_eq_true, decide_eq_true_iff]
    exact fun h => h.2 (type.2 h.1)
  unfold opCanTransmit
  dsimp only
  rw [if_neg (by rw [type.1]; decide), if_neg iso, ← canMayBegin_mono (s := s) (byteAt p 0)]
  unfold hostPut txQueued
  rw [mul_comm (rd p 12 2)]
  rfl

theorem opCanTransmit_of_id (bad : ¬ TxIdOk s p) : opCanTransmit.body s p = badParam s 4 := by
  rw [opCanTransmit_of_typeOk type, if_pos]
  rw [Bool.and_eq_true, Bool.not_eq_true', ← Bool.not_eq_true]
  exact Classical.not_imp.mp bad

section
variable (id : TxIdOk s p)
include id

theorem opCanTransmit_of_idOk : opCanTransmit.body s p =
    if !canRunning s (byteAt p 0) || (s.can1 (byteAt p 0)).off.isSome || decide (nMode (s.canCfg (byteAt p 0)) ≠ 0) then
      failAns s stWrongState 0
    else if 16 ≤ (s.can1 (byteAt p 0)).host.length then failAns s stBusy 0
    else if (byteAt p 1).testBit 2 && decide ((s.can1 (byteAt p 0)).addrSt ≠ 2) then failAns s 0x80 0
    else
      let t := canMayBegin s (byteAt p 0)
      okAns (t.setCan (byteAt p 0) (hostPut (t.can1 (byteAt p 0)) (txQueued (t.can1 (byteAt p 0)) p s.mono))) := by
  rw [opCanTransmit_of_typeOk type, if_neg]
  rw [Bool.and_eq_true, Bool.not_eq_true', ← Bool.not_eq_true]
  exact fun h => h.2 (id h.1)

theorem opCanTransmit_of_unready (unready : ¬ TxReady s p) : opCanTransmit.body s p = failAns s stWrongState 0 := by
  rw [opCanTransmit_of_idOk type id, if_pos (by rwa [← txReady_iff, Bool.not_eq_false] at unready)]

section
variable (ready : TxReady s p)
include ready

theorem opCanTransmit_of_full (full : ¬ (s.can1 (byteAt p 0)).host.length < 16) :
    opCanTransmit.body s p = failAns s stBusy 0 := by
  rw [opCanTransmit_of_idOk type id, if_neg (ne_true_of_eq_false (txReady_iff.mpr ready)), if_pos (Nat.not_lt.mp full)]

section
variable (room : (s.can1 (byteAt p 0)).host.length < 16)
include room

theorem opCanTransmit_of_unclaimed (unclaimed : ¬ TxClaimed s p) : opCanTransmit.body s p = failAns s 0x80 0 := by
  rw [opCanTransmit_of_idOk type id, if_neg (ne_true_of_eq_false (txReady_iff.mpr ready)),
    if_neg (Nat.not_le.mpr room), if_pos (by rwa [← txClaimed_iff, Bool.not_eq_false] at unclaimed)]

theorem opCanTransmit_of_queued (claimed : TxClaimed s p) : opCanTransmit.body s p =
    let t := canMayBegin s (byteAt p 0)
    okAns (t.setCan (byteAt p 0) (hostPut (t.can1 (byteAt p 0)) (txQueued (t.can1 (byteAt p 0)) p s.mono))) := by
  rw [opCanTransmit_of_idOk type id, if_neg (ne_true_of_eq_false (txReady_iff.mpr ready)),
    if_neg (Nat.not_le.mpr room), if_neg (ne_true_of_eq_false (txClaimed_iff.mpr claimed))]

end

end

end

end

end

/-! ## An attempt that may have begun -/

section
variable {s : State} {k : Nat}

/-- The controller may begin an attempt. -/
abbrev MayBegin (s : State) (k : Nat) : Prop :=
  canSends s k = true ∧ (s.can1 k).att = none ∧ lowest (canPending (s.can1 k)) ≠ none

theorem mayBegin_iff : (canSends s k && (s.can1 k).att.isNone && (lowest (canPending (s.can1 k))).isSome) = true ↔
    MayBegin s k := by
  rw [Bool.and_eq_true, Bool.and_eq_true, Option.isNone_iff_eq_none, Option.isSome_iff_ne_none, and_assoc]

theorem canMayBegin_of_may (may : MayBegin s k) :
    canMayBegin s k = if Config.freeBit s.nonce then canBegin s.draw.2 k else s.draw.2 := if_pos (mayBegin_iff.mpr may)

theorem canMayBegin_of_not (not : ¬ MayBegin s k) : canMayBegin s k = s := if_neg (mt mayBegin_iff.mp not)

end

/-! ## CAN_STATUS (R456) -/

section
variable {s : State} {p : Bytes}

theorem opCanStatus_of_state (selector : byteAt p 1 = 0) : opCanStatus.body s p = okWith s
    (leT s.now ++ le 4 (canStat s (byteAt p 0)) ++ le 4 (canErrc s (byteAt p 0)) ++
      (canCounters (s.can1 (byteAt p 0))).flatMap (le 4)) := by
  unfold opCanStatus
  dsimp only
  split
  case h_1 => rfl
  case h_2 other => exact absurd (selector.symm.trans other) (by decide)
  case h_3 other _ => exact absurd selector other

/-- What a read of the queue takes. -/
abbrev statusTaken (s : State) (p : Bytes) : List CanRec × Nat × List CanRec :=
  takeRecs (curMax s - 28) (byteAt p 2) (curMax s - 28) (s.can1 (byteAt p 0)).queue

theorem opCanStatus_of_queue (selector : byteAt p 1 = 1) : opCanStatus.body s p =
    okWith (s.setCan (byteAt p 0) { s.can1 (byteAt p 0) with
      queue := (statusTaken s p).2.2, dropped := 0
      rxdrop := satN 4 ((s.can1 (byteAt p 0)).rxdrop + (statusTaken s p).2.1) })
      (le 2 (statusTaken s p).2.2.length ++ le 2 (statusTaken s p).1.length ++
        le 4 (satN 4 ((s.can1 (byteAt p 0)).dropped + (statusTaken s p).2.1)) ++
        (statusTaken s p).1.flatMap CanRec.bytes) := by
  unfold opCanStatus
  dsimp only
  split
  case h_1 other => exact absurd (selector.symm.trans other) (by decide)
  case h_2 => rfl
  case h_3 _ other => exact absurd selector other

/-- The high-priority buffer, as an answer. -/
def highAnswer (hp : Option CanRec) : Bytes :=
  match hp with
  | some r => r.bytes
  | none => zeros 28

theorem opCanStatus_of_high (selector : byteAt p 1 = 2) :
    opCanStatus.body s p = okWith s (highAnswer (s.can1 (byteAt p 0)).hp) := by
  unfold opCanStatus
  dsimp only
  split
  case h_1 other => exact absurd (selector.symm.trans other) (by decide)
  case h_2 other => exact absurd (selector.symm.trans other) (by decide)
  case h_3 => rfl

end

/-! ## Whole records that fit -/

section
variable {whole n room : Nat} {r : CanRec} {l : List CanRec}

theorem takeRecs_of_none : takeRecs whole 0 room (r :: l) = ([], 0, r :: l) := by
  unfold takeRecs
  exact if_pos rfl

theorem takeRecs_of_big (counts : n ≠ 0) (big : whole < r.bytes.length) : takeRecs whole n room (r :: l) =
    ((takeRecs whole n room l).1, (takeRecs whole n room l).2.1 + 1, (takeRecs whole n room l).2.2) := by
  rw [takeRecs]
  exact (if_neg counts).trans (if_pos big)

theorem takeRecs_of_full (counts : n ≠ 0) (fits : ¬ whole < r.bytes.length) (full : room < r.bytes.length) :
    takeRecs whole n room (r :: l) = ([], 0, r :: l) := by
  rw [takeRecs]
  exact (if_neg counts).trans ((if_neg fits).trans (if_pos full))

theorem takeRecs_of_fits (counts : n ≠ 0) (fits : ¬ whole < r.bytes.length) (holds : ¬ room < r.bytes.length) :
    takeRecs whole n room (r :: l) =
      (r :: (takeRecs whole (n - 1) (room - r.bytes.length) l).1, (takeRecs whole (n - 1) (room - r.bytes.length) l).2.1,
        (takeRecs whole (n - 1) (room - r.bytes.length) l).2.2) := by
  rw [takeRecs]
  exact (if_neg counts).trans ((if_neg fits).trans (if_neg holds))

/-- What a read takes of the queue `q`: whole records, oldest first, while they fit and the count lasts. -/
structure Taken (whole n room : Nat) (q : List CanRec) (r : List CanRec × Nat × List CanRec) : Prop where
  count : r.1.length ≤ n
  size : (r.1.flatMap CanRec.bytes).length ≤ room
  total : r.1.length + r.2.1 + r.2.2.length = q.length
  parts : ∃ l, q = l ++ r.2.2 ∧ r.1 = l.filter fun e => decide (e.bytes.length ≤ whole)
  rest : ∀ e c, r.2.2 = e :: c → r.1.length < n → e.bytes.length ≤ whole ∧
    room < (r.1.flatMap CanRec.bytes).length + e.bytes.length

theorem taken_nothing {q : List CanRec}
    (stops : ∀ e c, q = e :: c → 0 < n → e.bytes.length ≤ whole ∧ room < e.bytes.length) : Taken whole n room q ([], 0, q) where
  count := Nat.zero_le _
  size := Nat.zero_le _
  total := by simp
  parts := ⟨[], rfl, rfl⟩
  rest e c head counts := by simpa using stops e c head counts

variable {t : List CanRec × Nat × List CanRec}

theorem taken_big (big : whole < r.bytes.length) (taken : Taken whole n room l t) :
    Taken whole n room (r :: l) (t.1, t.2.1 + 1, t.2.2) where
  count := taken.count
  size := taken.size
  total := by
    have total := taken.total
    dsimp only
    rw [List.length_cons]
    omega
  parts := by
    obtain ⟨m, whole, fits⟩ := taken.parts
    exact ⟨r :: m, congrArg (r :: ·) whole, by rw [List.filter_cons_of_neg (by simpa using big), fits]⟩
  rest := taken.rest

theorem taken_fits (counts : n ≠ 0) (fits : ¬ whole < r.bytes.length) (holds : ¬ room < r.bytes.length)
    (taken : Taken whole (n - 1) (room - r.bytes.length) l t) : Taken whole n room (r :: l) (r :: t.1, t.2.1, t.2.2) where
  count := by
    have count := taken.count
    rw [List.length_cons]
    omega
  size := by
    have size := taken.size
    rw [List.flatMap_cons, List.length_append]
    omega
  total := by
    have total := taken.total
    dsimp only
    rw [List.length_cons, List.length_cons]
    omega
  parts := by
    obtain ⟨m, whole, kept⟩ := taken.parts
    exact ⟨r :: m, congrArg (r :: ·) whole, by rw [List.filter_cons_of_pos (by simpa using fits), kept]⟩
  rest e c head fewer := by
    rw [List.length_cons] at fewer
    obtain ⟨small, full⟩ := taken.rest e c head (by omega)
    refine ⟨small, ?_⟩
    rw [List.flatMap_cons, List.length_append]
    omega

theorem takeRecs_taken (whole n room : Nat) (q : List CanRec) : Taken whole n room q (takeRecs whole n room q) := by
  induction q generalizing n room with
  | nil =>
    rw [takeRecs]
    exact taken_nothing fun e c head => nomatch head
  | cons r l ih =>
    by_cases counts : n = 0
    · rw [counts, takeRecs_of_none]
      exact taken_nothing fun _ _ _ none => absurd none (lt_irrefl 0)
    · by_cases big : whole < r.bytes.length
      · rw [takeRecs_of_big counts big]
        exact taken_big big (ih n room)
      · by_cases full : room < r.bytes.length
        · rw [takeRecs_of_full counts big full]
          refine taken_nothing fun e c head _ => ?_
          obtain ⟨rfl, -⟩ := List.cons.inj head
          exact ⟨Nat.not_lt.mp big, full⟩
        · rw [takeRecs_of_fits counts big full]
          exact taken_fits counts big full (ih (n - 1) (room - r.bytes.length))

end

/-! ## CAN_ADDRESS_CLAIM (R457) -/

section
variable {s : State} {p : Bytes}

/-- The claim's settings, staged and applied. -/
abbrev claimSet (s : State) (p : Bytes) : State := (s.setStg (.canClaim (byteAt p 0)) p).setApp (.canClaim (byteAt p 0)) p

theorem setApp_app_of_ne (o q : Obj) (b : Bytes) (other : o ≠ q) : (s.setApp o b).app q = s.app q := by
  simp [State.setApp, State.app, tget_tput_of_ne _ _ _ other]

theorem claimSet_canCfg (k : Nat) : (claimSet s p).canCfg k = s.canCfg k := by
  unfold State.canCfg
  exact setApp_app_of_ne _ _ _ (by simp)

theorem claimSet_claimCfg : claimCfg (claimSet s p) (byteAt p 0) = p := setApp_app _ _ _

/-- A RUNNING ISO 11783 controller. -/
abbrev Claims (s : State) (p : Bytes) : Prop :=
  s.st (canFid (byteAt p 0)) = .running ∧ nIso (s.canCfg (byteAt p 0)) = true

theorem claims_iff : (canRunning (claimSet s p) (byteAt p 0) && nIso ((claimSet s p).canCfg (byteAt p 0))) = true ↔
    Claims s p := by
  rw [Bool.and_eq_true, claimSet_canCfg]
  exact and_congr decide_eq_true_iff Iff.rfl

theorem opCanAddressClaim_of_claims (claims : Claims s p) :
    opCanAddressClaim.body s p = okAns (claimBegin (claimSet s p) (byteAt p 0)) :=
  congrArg okAns (if_pos (claims_iff.mpr claims))

theorem opCanAddressClaim_of_idle (idle : ¬ Claims s p) : opCanAddressClaim.body s p = okAns (claimSet s p) :=
  congrArg okAns (if_neg (mt claims_iff.mp idle))

theorem claimBegin_can1 : (claimBegin (claimSet s p) (byteAt p 0)).can1 (byteAt p 0) =
    { s.can1 (byteAt p 0) with
      addr := clPref p, addrSt := 1, claimAt := s.mono, cannot := false
      fw := (s.can1 (byteAt p 0)).fw ++ [claimFrame (claimSet s p) (byteAt p 0) (clPref p)] } := by
  unfold claimBegin
  rw [claimSet_claimCfg, claimSend_can1]
  rfl

end

end Sys2Proof.Machine

namespace Sys2Proof

open Machine

/-- Settles O51: a transmission by the first check it fails, a status by its selector, a claim by its controller's state;
the records of a read by induction on the queue. -/
theorem canCommands : Obligations.CanCommands := by
  unfold Obligations.CanCommands
  refine ⟨fun h p s ok => ?transmit, fun s k => ⟨canMayBegin_of_may, canMayBegin_of_not⟩, fun p => rfl,
    fun h p n s ok => ?status, fun whole n room q => ?records, fun h p s ok => ?claim⟩
  case transmit =>
    have answered {a : Ans} (size : a.data.length = 0) (body : opCanTransmit.body (atBody s h) p = a) :
        exec (.canTransmit h p) s = .next (settle (replied h 0x0C02 p a)) :=
      exec_host_of_accepted rfl rfl ok body size
    exact ⟨fun bad => answered rfl (opCanTransmit_of_type (s := atBody s h) bad),
      fun type bad => answered rfl (opCanTransmit_of_id (s := atBody s h) type bad),
      fun type id unready => answered rfl (opCanTransmit_of_unready (s := atBody s h) type id unready),
      fun type id ready full => answered rfl (opCanTransmit_of_full (s := atBody s h) type id ready full),
      fun type id ready room unclaimed =>
        answered rfl (opCanTransmit_of_unclaimed (s := atBody s h) type id ready room unclaimed),
      fun type id ready room claimed =>
        answered rfl (opCanTransmit_of_queued (s := atBody s h) type id ready room claimed)⟩
  case status =>
    refine ⟨fun selector size => ?_, fun selector size => ?_, fun e selector held size => ?_, fun selector none size => ?_⟩
    · refine exec_read_of_accepted rfl rfl ok (opCanStatus_of_state (s := atBody s h) selector) ?_
      rw [size]
      simp only [List.length_append, leT_length, le_length]
      rfl
    · refine exec_answer_of_accepted rfl rfl ok ?_ (opCanStatus_of_queue (s := atBody s h) selector)
      rw [size]
      simp only [okWith, List.length_append, le_length]
    · have body := opCanStatus_of_high (s := atBody s h) selector
      exact exec_read_of_accepted rfl rfl ok (body.trans (congrArg (okWith _ <| highAnswer ·) held)) size.symm
    · have body := opCanStatus_of_high (s := atBody s h) selector
      exact exec_read_of_accepted rfl rfl ok (body.trans (congrArg (okWith _ <| highAnswer ·) none)) size.symm
  case records =>
    obtain ⟨count, size, total, parts, rest⟩ := takeRecs_taken whole n room q
    exact ⟨count, size, total, parts, rest⟩
  case claim =>
    have begun := claimBegin_can1 (s := atBody s h) (p := p)
    refine ⟨fun claims => ?_, fun idle => ?_, congrArg Can.addr begun, congrArg Can.addrSt begun,
      congrArg Can.claimAt begun, congrArg Can.cannot begun, congrArg Can.fw begun⟩
    · exact exec_host_of_accepted rfl rfl ok (opCanAddressClaim_of_claims (s := atBody s h) claims) rfl
    · exact exec_host_of_accepted rfl rfl ok (opCanAddressClaim_of_idle (s := atBody s h) idle) rfl

end Sys2Proof
end

section
/-! SUPPORT. What a controller makes of a frame it receives, its address claim, and its lifecycle (13 R437 to R440, R449
to R451). -/

namespace Sys2Proof.Machine

section
variable {s : State} {k : Nat} {f : CanFrame}

/-! ## A frame that is received (R437) -/

/-- The controller receives the frame. -/
abbrev Receives (s : State) (k : Nat) (f : CanFrame) : Prop := canActive s k = true ∧ formatOn (s.canCfg k) f.fmt = true

theorem receives_iff : (canActive s k && formatOn (s.canCfg k) f.fmt) = true ↔ Receives s k f := by
  rw [Bool.and_eq_true]

/-- A frame received, counted. -/
abbrev rxCounted (s : State) (k : Nat) : State := s.setCan k { s.can1 k with rxfrm := satN 4 ((s.can1 k).rxfrm + 1) }

theorem xCanFrameReceived_of_receives (receives : Receives s k f) : xCanFrameReceived k f s =
    acceptPath (claimMatch (firmwarePath (loopInputs (recDown (rxCounted s k) k) k f) k f) k f) k f :=
  if_pos (receives_iff.mpr receives)

theorem xCanFrameReceived_of_other (other : ¬ Receives s k f) : xCanFrameReceived k f s = s :=
  if_neg (mt receives_iff.mp other)

theorem xCanProtocolException_eq (fmt : Nat) : xCanProtocolException k fmt s = s := by
  unfold xCanProtocolException
  split <;> rfl

/-! ## The receive error counter -/

theorem recDown_can1_of_low (bounded : (s.can1 k).tec ≤ 255) (low : (s.can1 k).rxe ≤ 127) :
    (recDown s k).can1 k = { s.can1 k with rxe := (s.can1 k).rxe - 1 } := by
  have least : min ((s.can1 k).rxe - 1) 255 = (s.can1 k).rxe - 1 := by omega
  unfold recDown
  dsimp only
  rw [if_pos low, canCount_can1_of_low (.inl bounded)]
  unfold canCounted
  rw [least]

/-- From above 127 the counter returns to a value of 119 to 127, which is free. -/
theorem recDown_can1_of_high (bounded : (s.can1 k).tec ≤ 255) (high : 127 < (s.can1 k).rxe) : ∃ rxe,
    119 ≤ rxe ∧ rxe ≤ 127 ∧ (recDown s k).can1 k = { s.can1 k with rxe := rxe } := by
  have least : min (119 + Config.freeNat s.draw.1 % 9) 255 = 119 + Config.freeNat s.draw.1 % 9 := by omega
  refine ⟨119 + Config.freeNat s.draw.1 % 9, by omega, by omega, ?_⟩
  unfold recDown
  dsimp only
  rw [if_neg (Nat.not_le.mpr high)]
  refine (canCount_can1_of_low (s := s.draw.2) (.inl bounded)).trans ?_
  unfold canCounted
  rw [least]
  rfl

/-! ## Loop inputs (04 R116) -/

/-- What one configured object makes of the frame. -/
def loopOffered (k : Nat) (f : CanFrame) (s : State) (e : Obj × Bytes) : State :=
  match e.1 with
  | .loop n =>
    if dInType e.2 = 5 ∧ dInIdx e.2 = k ∧ idMatches (dInId e.2) f = true then
      let v := tget {} s.cle.canIn n
      { s with cle := { s.cle with
          canIn := tput s.cle.canIn n (v.take s.mono (dInQty e.2) (dInOff e.2) f.data) } }
    else s
  | _ => s

theorem loopInputs_eq : loopInputs s k f = s.staged.foldl (loopOffered k f) s := rfl

/-- The value a loop reads from its controller. -/
abbrev loopRead (s : State) (n : Nat) : CanVal := tget {} s.cle.canIn n

/-- The loop's input descriptor names the frame. -/
abbrev LoopReads (k : Nat) (f : CanFrame) (d : Bytes) : Prop :=
  dInType d = 5 ∧ dInIdx d = k ∧ idMatches (dInId d) f = true

theorem loopOffered_mono (e : Obj × Bytes) : (loopOffered k f s e).mono = s.mono := by
  unfold loopOffered
  split
  · split <;> rfl
  · rfl

theorem loopOffered_read_of_other {n : Nat} {e : Obj × Bytes} (other : e.1 ≠ .loop n) :
    loopRead (loopOffered k f s e) n = loopRead s n := by
  unfold loopOffered
  split
  case h_1 m name =>
    split
    · exact tget_tput_of_ne _ _ _ fun same => other (by rw [name, same])
    · rfl
  case h_2 => rfl

theorem foldl_loopOffered_of_other {n : Nat} {l : List (Obj × Bytes)} (other : ∀ e ∈ l, e.1 ≠ .loop n) (s : State) :
    loopRead (l.foldl (loopOffered k f) s) n = loopRead s n ∧ (l.foldl (loopOffered k f) s).mono = s.mono := by
  induction l generalizing s with
  | nil => exact ⟨rfl, rfl⟩
  | cons e l ih =>
    obtain ⟨here, rest⟩ := List.forall_mem_cons.mp other
    obtain ⟨read, mono⟩ := ih rest (loopOffered k f s e)
    exact ⟨read.trans (loopOffered_read_of_other here), mono.trans (loopOffered_mono e)⟩

theorem loopOffered_read {n : Nat} {d : Bytes} : loopRead (loopOffered k f s (.loop n, d)) n =
    if LoopReads k f d then (loopRead s n).take s.mono (dInQty d) (dInOff d) f.data else loopRead s n := by
  unfold loopOffered
  dsimp only
  split
  · exact tget_tput_same _ _ _ _
  · rfl

/-- A loop whose descriptor stands once among the objects. -/
theorem loopInputs_read {n : Nat} {d : Bytes} {a c : Tbl Obj Bytes} (staged : s.staged = a ++ (.loop n, d) :: c)
    (once : ∀ e ∈ a ++ c, e.1 ≠ .loop n) : loopRead (loopInputs s k f) n =
    if LoopReads k f d then (loopRead s n).take s.mono (dInQty d) (dInOff d) f.data else loopRead s n := by
  obtain ⟨before, mono⟩ := foldl_loopOffered_of_other (k := k) (f := f)
    (fun e mem => once e (List.mem_append_left _ mem)) s
  rw [loopInputs_eq, staged, List.foldl_append, List.foldl_cons,
    (foldl_loopOffered_of_other (fun e mem => once e (List.mem_append_right _ mem)) _).1, loopOffered_read, before, mono]

theorem take_of_some {v : CanVal} {mono enc off : Nat} {d : Bytes} {x : F32} (field : canField enc off d = some x) :
    v.take mono enc off d = { value := x, tick := mono, ok := true } := by
  unfold CanVal.take
  rw [field]

theorem take_of_none {v : CanVal} {mono enc off : Nat} {d : Bytes} (field : canField enc off d = none) :
    v.take mono enc off d = { v with ok := false } := by
  unfold CanVal.take
  rw [field]

/-! ## The firmware's path -/

/-- Frames wait for the firmware to run again. -/
abbrev FirmwareWaits (s : State) : Prop := s.boot.afterCore = true ∧ s.boot.phase < 8

theorem firmwareWaits_iff : (s.boot.afterCore && decide (s.boot.phase < 8)) = true ↔ FirmwareWaits s := by
  rw [Bool.and_eq_true, decide_eq_true_iff]

theorem firmwarePath_of_runs (runs : ¬ FirmwareWaits s) : firmwarePath s k f = firmwareFields s k f s.mono :=
  if_neg (mt firmwareWaits_iff.mp runs)

section
variable (waits : FirmwareWaits s)
include waits

theorem firmwarePath_of_unwanted (unwanted : firmwareWants s k f = false) : firmwarePath s k f = s :=
  (if_pos (firmwareWaits_iff.mpr waits)).trans (if_neg (ne_true_of_eq_false unwanted))

theorem firmwarePath_of_room (wanted : firmwareWants s k f = true)
    (room : (s.can1 k).fwRx.length < Config.fwBuffers k) : firmwarePath s k f =
      s.setCan k { s.can1 k with fwRx := (s.can1 k).fwRx ++ [(f, s.mono)] } :=
  ((if_pos (firmwareWaits_iff.mpr waits)).trans (if_pos wanted)).trans (if_pos room)

theorem firmwarePath_of_full (wanted : firmwareWants s k f = true)
    (full : Config.fwBuffers k ≤ (s.can1 k).fwRx.length) : firmwarePath s k f =
      s.setCan k { s.can1 k with fwdrop := satN 4 ((s.can1 k).fwdrop + 1) } :=
  ((if_pos (firmwareWaits_iff.mpr waits)).trans (if_pos wanted)).trans (if_neg (Nat.not_lt.mpr full))

end

/-! ## The host's path (R438 to R440) -/

/-- No filter keeps the frame. -/
abbrev rxMissed (s : State) (k : Nat) : State :=
  s.setCan k { s.can1 k with unmatched := satN 4 ((s.can1 k).unmatched + 1) }

/-- The record of a frame that a filter keeps. -/
abbrev rxRecord (s : State) (f : CanFrame) (i : Nat) : CanRec := { time := s.now, frame := f, filter := i }

theorem acceptPath_of_none (missed : firstFilter s k f = none) : acceptPath s k f = rxMissed s k := by
  unfold acceptPath
  dsimp only
  rw [missed]

/-- A record goes where its filter sends it. -/
def rxKept (dest : Nat) (r : CanRec) (s : State) (k : Nat) : State :=
  match dest with
  | 1 => hostQueue s k r
  | 2 => hpBuffer s k r
  | _ => rxMissed s k

section
variable {i : Nat} (first : firstFilter s k f = some i)
include first

theorem acceptPath_of_first : acceptPath s k f = rxKept (flDest (s.app (.canFilter k i))) (rxRecord s f i) s k := by
  unfold acceptPath
  dsimp only
  rw [first]
  rfl

theorem acceptPath_of_queue (dest : flDest (s.app (.canFilter k i)) = 1) :
    acceptPath s k f = hostQueue s k (rxRecord s f i) := by
  rw [acceptPath_of_first first, dest]
  rfl

theorem acceptPath_of_high (dest : flDest (s.app (.canFilter k i)) = 2) :
    acceptPath s k f = hpBuffer s k (rxRecord s f i) := by
  rw [acceptPath_of_first first, dest]
  rfl

theorem acceptPath_of_discard (queue : flDest (s.app (.canFilter k i)) ≠ 1) (high : flDest (s.app (.canFilter k i)) ≠ 2) :
    acceptPath s k f = rxMissed s k := by
  rw [acceptPath_of_first first]
  unfold rxKept
  split
  case h_1 dest => exact absurd dest queue
  case h_2 dest => exact absurd dest high
  case h_3 => rfl

theorem firstFilter_first : i < 64 ∧ filterHit (s.app (.canFilter k i)) f = true ∧
    ∀ j, j < i → filterHit (s.app (.canFilter k j)) f = false := by
  obtain ⟨hit, low, least⟩ := List.find?_range_eq_some.mp first
  exact ⟨List.mem_range.mp low, hit, fun j before => (Bool.not_eq_true' _).mp (least j before)⟩

end

/-! The high-priority buffer. -/

/-- HP_FRAME was sent within the last millisecond. -/
def hpWithin (s : State) (k : Nat) : Bool :=
  match (s.can1 k).hpAt with
  | some t => !s.past t (msT 1)
  | none => false

theorem hpBuffer_eq (r : CanRec) : hpBuffer s k r = s.setCan k { s.can1 k with
    hp := some r, hpDue := (s.can1 k).hpDue || !hpWithin s k
    hpovr := if hpWithin s k then satN 4 ((s.can1 k).hpovr + 1) else (s.can1 k).hpovr } := rfl

theorem hpWithin_of_late (late : ∀ t, (s.can1 k).hpAt = some t → t + 250000 ≤ s.mono) : hpWithin s k = false := by
  unfold hpWithin
  split
  case h_1 t sent => exact congrArg (!·) ((past_iff _ _ _).mpr (late t sent))
  case h_2 => rfl

theorem hpWithin_of_soon {t : Nat} (sent : (s.can1 k).hpAt = some t) (soon : s.mono < t + 250000) :
    hpWithin s k = true := by
  unfold hpWithin
  rw [sent]
  exact congrArg (!·) ((not_past_iff _ _ _).mpr soon)

/-! The host queue. -/

theorem rxReady_can1 : (rxReady s k).can1 k = { s.can1 k with rxAt := some s.mono, rxDue := false } :=
  (emit_can1 _ _ _).trans (setCan_can1 _ _ _)

/-- A queue that takes a record: a full one drops its oldest. -/
def rxQueued (x : Can) (r : CanRec) : Can :=
  { x with
    queue := (if 256 ≤ x.queue.length then x.queue.drop 1 else x.queue) ++ [r]
    rxdrop := if 256 ≤ x.queue.length then satN 4 (x.rxdrop + 1) else x.rxdrop
    dropped := if 256 ≤ x.queue.length then satN 4 (x.dropped + 1) else x.dropped }

/-- RX_READY may be sent. -/
abbrev RxFree (s : State) (k : Nat) : Prop := ∀ t, (s.can1 k).rxAt = some t → t + 2500000 ≤ s.mono

theorem hostQueue_of_some (r : CanRec) (waits : (s.can1 k).queue ≠ []) :
    hostQueue s k r = s.setCan k (rxQueued (s.can1 k) r) := by
  unfold hostQueue rxQueued
  dsimp only
  rw [if_neg (mt List.isEmpty_iff.mp waits)]
  simp only [decide_eq_true_iff]

section
variable (r : CanRec) (empty : (s.can1 k).queue = [])
include empty

theorem hostQueue_of_free (free : RxFree s k) :
    hostQueue s k r = rxReady (s.setCan k (rxQueued (s.can1 k) r)) k := by
  unfold hostQueue rxQueued
  dsimp only
  rw [if_pos (List.isEmpty_iff.mpr empty)]
  simp only [decide_eq_true_iff]
  split
  case h_1 t sent => exact if_pos ((past_iff _ _ _).mpr (free t sent))
  case h_2 => rfl

theorem hostQueue_of_held {t : Nat} (sent : (s.can1 k).rxAt = some t) (soon : s.mono < t + 2500000) :
    hostQueue s k r = s.setCan k { rxQueued (s.can1 k) r with rxDue := true } := by
  unfold hostQueue rxQueued
  dsimp only
  rw [if_pos (List.isEmpty_iff.mpr empty)]
  simp only [decide_eq_true_iff]
  split
  case h_1 t' some =>
    obtain rfl : t' = t := Option.some.inj (some.symm.trans sent)
    refine (if_neg (ne_true_of_eq_false ((not_past_iff _ _ _).mpr soon))).trans ?_
    rw [setCan_can1, setCan_setCan]
  case h_2 none => exact absurd (none.symm.trans sent) (by simp)

end

/-- The queue and its counters after a record, whatever becomes of RX_READY. -/
theorem hostQueue_can1 (r : CanRec) : ∃ at_ due, (hostQueue s k r).can1 k =
    { rxQueued (s.can1 k) r with rxAt := at_, rxDue := due } := by
  by_cases empty : (s.can1 k).queue = []
  · by_cases free : RxFree s k
    · rw [hostQueue_of_free r empty free, rxReady_can1, setCan_can1]
      exact ⟨_, _, rfl⟩
    · obtain ⟨t, sent, soon⟩ := not_forall₂.mp free
      rw [hostQueue_of_held r empty sent (Nat.not_le.mp soon), setCan_can1]
      exact ⟨_, _, rfl⟩
  · rw [hostQueue_of_some r empty, setCan_can1]
    exact ⟨_, _, rfl⟩

/-! ## Holdoffs (R439, R440) -/

theorem xHpFrameHoldoffExpiry_of_due {r : CanRec} (held : (s.can1 k).hp = some r) (due : (s.can1 k).hpDue = true) :
    xHpFrameHoldoffExpiry k s = emit (s.setCan k { s.can1 k with hpDue := false, hpAt := some s.mono }) 0x0C03 (canFid k)
      (le 4 (r.frame.id + bit r.frame.ide 29) ++ b1 r.frame.fmt ++
        b1 (bit r.frame.brs 0 + bit r.frame.esi 1 + bit r.frame.remote 2) ++ le 2 r.frame.data.length ++
        fitBytes 56 r.frame.data) := by
  unfold xHpFrameHoldoffExpiry
  dsimp only
  split
  case h_1 r' some =>
    obtain rfl : r' = r := Option.some.inj (some.symm.trans held)
    exact if_pos due
  case h_2 none => exact absurd (none.symm.trans held) (by simp)

theorem xHpFrameHoldoffExpiry_of_idle (idle : (s.can1 k).hp = none ∨ (s.can1 k).hpDue = false) :
    xHpFrameHoldoffExpiry k s = s := by
  unfold xHpFrameHoldoffExpiry
  dsimp only
  split
  case h_1 r held => exact if_neg (ne_true_of_eq_false (idle.resolve_left (by simp [held])))
  case h_2 => rfl

theorem rxReadyDue_iff (t : Nat) :
    ((s.can1 k).rxDue && s.past t (msT 10) && !(s.can1 k).queue.isEmpty) = true ↔
      (s.can1 k).rxDue = true ∧ t + 2500000 ≤ s.mono ∧ (s.can1 k).queue ≠ [] := by
  rw [Bool.and_eq_true, Bool.and_eq_true, past_iff, Bool.not_eq_true', ← Bool.not_eq_true, List.isEmpty_iff, and_assoc]
  rfl

theorem xRxReadyHoldoffExpiry_of_due {t : Nat} (sent : (s.can1 k).rxAt = some t) (due : (s.can1 k).rxDue = true)
    (late : t + 2500000 ≤ s.mono) (waits : (s.can1 k).queue ≠ []) : xRxReadyHoldoffExpiry k s = rxReady s k := by
  unfold xRxReadyHoldoffExpiry
  dsimp only
  rw [sent]
  exact if_pos ((rxReadyDue_iff t).mpr ⟨due, late, waits⟩)

theorem xRxReadyHoldoffExpiry_of_idle (idle : ∀ t, (s.can1 k).rxAt = some t →
    (s.can1 k).rxDue = false ∨ s.mono < t + 2500000 ∨ (s.can1 k).queue = []) : xRxReadyHoldoffExpiry k s = s := by
  unfold xRxReadyHoldoffExpiry
  dsimp only
  split
  case h_1 t sent =>
    refine if_neg (mt (rxReadyDue_iff t).mp ?_)
    rintro ⟨due, late, waits⟩
    rcases idle t sent with off | soon | empty
    · exact ne_true_of_eq_false off due
    · omega
    · exact waits empty
  case h_2 => rfl

/-! ## The address claim (R449) -/

/-- The claim has stood for 250 ms since it was sent. -/
abbrev ClaimStood (s : State) (k : Nat) : Prop := (s.can1 k).addrSt = 1 ∧ (s.can1 k).cannot = false ∧
  claimWaits s k = false ∧ (s.can1 k).claimAt + 62500000 ≤ s.mono

theorem claimStood_iff : (decide ((s.can1 k).addrSt = 1) && !(s.can1 k).cannot && !claimWaits s k &&
    s.past (s.can1 k).claimAt (msT 250)) = true ↔ ClaimStood s k := by
  rw [Bool.and_eq_true, Bool.and_eq_true, Bool.and_eq_true, Bool.not_eq_true', Bool.not_eq_true', decide_eq_true_iff,
    past_iff, and_assoc, and_assoc]
  rfl

theorem xAddressClaimTimeout_of_stood (stood : ClaimStood s k) : xAddressClaimTimeout k s =
    emit (s.setCan k { s.can1 k with addrSt := 2 }) 0x0C05 (canFid k) (b1 1 ++ b1 2 ++ b1 (s.can1 k).addr ++ b1 0) := by
  have claiming : (s.can1 k).addrSt = 1 := stood.1
  refine (if_pos (claimStood_iff.mpr stood)).trans ?_
  unfold canAddr
  dsimp only
  rw [if_neg (by omega), if_neg (by decide), claiming]

theorem xAddressClaimTimeout_of_other (other : ¬ ClaimStood s k) : xAddressClaimTimeout k s = s :=
  if_neg (mt claimStood_iff.mp other)

/-- The Cannot Claim is sent: its controller's address is lost. -/
def cannotSent (s : State) (k : Nat) : State :=
  canAddr ((canFwPut s k (claimFrame s k 254)).setCan k
    { (canFwPut s k (claimFrame s k 254)).can1 k with cannot := false }) k 3 0xFE

theorem xCannotClaimDelayExpiry_of_cannot (cannot : (s.can1 k).cannot = true) :
    xCannotClaimDelayExpiry k s = insertEnd (cannotSent s k) k := if_pos cannot

theorem cannotSent_can1 : (cannotSent s k).can1 k = { s.can1 k with
    fw := (s.can1 k).fw ++ [claimFrame s k 254], cannot := false, addrSt := 3, addr := 0xFE } := by
  unfold cannotSent
  rw [canAddr_can1, setCan_can1, canFwPut_eq, setCan_can1]

theorem insertEnd_can1 : ∃ host, (insertEnd s k).can1 k = { s.can1 k with host := host } ∧
    ∀ t ∈ host, t.insertSa = false := by
  have ended := canTxEnds_can1 (k := k) (fun _ => 8) ((s.can1 k).host.filter (·.insertSa)) s
  exact ⟨_, ended, fun t mem => canTxEnds_host (k := k) (s := s) (cause := fun _ => 8) (·.insertSa)
    ((congrArg Can.host ended).symm ▸ mem)⟩

/-! What another node sends. -/

/-- The controller listens for ISO 11783 frames of its own. -/
abbrev IsoFrame (s : State) (k : Nat) (f : CanFrame) : Prop :=
  nIso (s.canCfg k) = true ∧ f.ide = true ∧ f.fmt = 0 ∧ f.remote = false

theorem isoFrame_iff : (nIso (s.canCfg k) && f.ide && decide (f.fmt = 0) && !f.remote) = true ↔ IsoFrame s k f := by
  rw [Bool.and_eq_true, Bool.and_eq_true, Bool.and_eq_true, Bool.not_eq_true', decide_eq_true_iff, and_assoc, and_assoc]

/-- An Address Claimed. -/
abbrev IsClaim (f : CanFrame) : Prop :=
  f.id / 65536 % 256 = 0xEE ∧ f.id / 256 % 256 = 0xFF ∧ f.data.length = 8

/-- A request for PGN 60928. -/
abbrev IsRequest (f : CanFrame) : Prop := f.id / 65536 % 256 = 0xEA ∧ f.data.take 3 = [0x00#8, 0xEE#8, 0x00#8]

theorem claimMatch_of_claim (iso : IsoFrame s k f) (claim : IsClaim f) :
    claimMatch s k f = claimHeard s k (f.id % 256) (leVal f.data) :=
  (if_pos (isoFrame_iff.mpr iso)).trans (if_pos claim)

theorem claimMatch_of_request (iso : IsoFrame s k f) (request : IsRequest f) :
    claimMatch s k f = claimRequest s k (f.id / 256 % 256) :=
  ((if_pos (isoFrame_iff.mpr iso)).trans
    (if_neg fun claim => absurd (claim.1.symm.trans request.1) (by decide))).trans (if_pos request)

theorem claimMatch_of_other (other : ¬ IsoFrame s k f ∨ (¬ IsClaim f ∧ ¬ IsRequest f)) : claimMatch s k f = s := by
  by_cases iso : IsoFrame s k f
  · obtain ⟨claim, request⟩ := other.resolve_left (not_not_intro iso)
    exact ((if_pos (isoFrame_iff.mpr iso)).trans (if_neg claim)).trans (if_neg request)
  · exact if_neg (mt isoFrame_iff.mp iso)

/-- Another node's NAME for an address, kept. -/
abbrev claimSeen (s : State) (k a name : Nat) : State :=
  s.setCan k { s.can1 k with seen := tput (s.can1 k).seen a name }

/-- The address is the module's, claimed or being claimed. -/
abbrev Contends (s : State) (k a : Nat) : Prop :=
  ((s.can1 k).addrSt = 1 ∨ (s.can1 k).addrSt = 2) ∧ (s.can1 k).cannot = false ∧ a = (s.can1 k).addr

section
variable {a name : Nat}

theorem claimHeard_of_own (own : name = claimName s k) : claimHeard s k a name = s := if_pos own

section
variable (other : name ≠ claimName s k)
include other

theorem claimHeard_of_apart (apart : ¬ Contends s k a) : claimHeard s k a name = claimSeen s k a name :=
  (if_neg other).trans (if_neg apart)

variable (contends : Contends s k a)
include contends

/-- A higher NAME is answered with the claim again. -/
theorem claimHeard_of_higher (higher : claimName s k < name) : claimHeard s k a name =
    (canFwPut (claimSeen s k a name) k (claimFrame s k a)).setCan k
      { (canFwPut (claimSeen s k a name) k (claimFrame s k a)).can1 k with claimAt := s.mono } := by
  unfold claimHeard
  dsimp only
  rw [if_neg other, if_pos contends, if_pos higher]
  rfl

section
variable (lower : ¬ claimName s k < name)
include lower

theorem claimHeard_of_next {b : Nat} (next : claimNext (claimSeen s k a name) k = some b) :
    claimHeard s k a name = claimSend (claimSeen s k a name) k b := by
  unfold claimHeard
  dsimp only
  rw [if_neg other, if_pos contends, if_neg lower]
  split
  case h_1 b' some =>
    obtain rfl : b' = b := Option.some.inj (some.symm.trans next)
    rfl
  case h_2 none => exact absurd (none.symm.trans next) (by simp)

theorem claimHeard_of_last (last : claimNext (claimSeen s k a name) k = none) : claimHeard s k a name =
    canAddr ((claimSeen s k a name).setCan k { (claimSeen s k a name).can1 k with cannot := true }) k 1 0xFE := by
  unfold claimHeard
  dsimp only
  rw [if_neg other, if_pos contends, if_neg lower]
  split
  case h_1 b some => exact absurd (some.symm.trans last) (by simp)
  case h_2 => rfl

end

theorem claimHeard_can1_of_higher (higher : claimName s k < name) : (claimHeard s k a name).can1 k =
    { s.can1 k with
      seen := tput (s.can1 k).seen a name, fw := (s.can1 k).fw ++ [claimFrame s k (s.can1 k).addr], claimAt := s.mono } := by
  rw [claimHeard_of_higher other contends higher, setCan_can1, canFwPut_eq, setCan_can1, setCan_can1, contends.2.2]

theorem claimHeard_can1_of_last (lower : ¬ claimName s k < name) (last : claimNext (claimSeen s k a name) k = none) :
    (claimHeard s k a name).can1 k =
      { s.can1 k with seen := tput (s.can1 k).seen a name, cannot := true, addrSt := 1, addr := 0xFE } := by
  rw [claimHeard_of_last other contends lower last, canAddr_can1, setCan_can1, setCan_can1]

end

end

/-! A request for the claim. -/

section
variable {dest : Nat}

/-- The request asks for the module's claim. -/
abbrev ClaimAsked (s : State) (k dest : Nat) : Prop :=
  ((s.can1 k).addrSt = 1 ∨ (s.can1 k).addrSt = 2) ∧ (s.can1 k).cannot = false ∧ (dest = 255 ∨ dest = (s.can1 k).addr)

theorem claimRequest_of_asked (asked : ClaimAsked s k dest) : claimRequest s k dest =
    s.setCan k { s.can1 k with fw := (s.can1 k).fw ++ [claimFrame s k (s.can1 k).addr] } :=
  (if_neg fun lost => asked.1.elim (fun h => absurd (h.symm.trans lost) (by decide))
    fun h => absurd (h.symm.trans lost) (by decide)).trans (if_pos asked)

theorem claimRequest_of_lost (lost : (s.can1 k).addrSt = 3 ∧ dest = 255) :
    claimRequest s k dest = s.setCan k { s.can1 k with cannot := true } := (if_pos lost.1).trans (if_pos lost.2)

theorem claimRequest_of_other (unasked : ¬ ClaimAsked s k dest) (held : ¬ ((s.can1 k).addrSt = 3 ∧ dest = 255)) :
    claimRequest s k dest = s := by
  by_cases lost : (s.can1 k).addrSt = 3
  · exact (if_pos lost).trans (if_neg fun all => held ⟨lost, all⟩)
  · exact (if_neg lost).trans (if_neg unasked)

end

/-- The next address is one of the range, another than the present, and not seen claimed. -/
theorem claimNext_sound {b : Nat} (next : claimNext s k = some b) :
    2 ^ 63 ≤ clName (claimCfg s k) ∧ clLow (claimCfg s k) ≤ b ∧
      b < clLow (claimCfg s k) + (clHigh (claimCfg s k) + 1 - clLow (claimCfg s k)) ∧
      b ≠ (s.can1 k).addr ∧ tfind (s.can1 k).seen b = none := by
  unfold claimNext at next
  dsimp only at next
  split at next
  case isTrue => cases next
  case isFalse arbitrary =>
    have found := List.find?_some next
    rw [Bool.and_eq_true, decide_eq_true_iff, Option.isNone_iff_eq_none] at found
    obtain ⟨i, low, rfl⟩ := List.mem_map.mp (List.mem_of_find?_eq_some next)
    have many := Nat.zero_lt_of_lt (List.mem_range.mp low)
    exact ⟨Nat.le_of_not_lt arbitrary, Nat.le_add_right _ _, Nat.add_lt_add_left (Nat.mod_lt _ many) _, found⟩

/-! ## Lifecycle (R450, R451) -/

/-- The controller waits for its bus. -/
abbrev BusAwaited (s : State) (k : Nat) : Prop := s.pwr.state ≤ 1 ∧ (s.can1 k).onBus = false

theorem busAwaited_iff : (decide (s.pwr.state ≤ 1) && !(s.can1 k).onBus) = true ↔ BusAwaited s k := by
  rw [Bool.and_eq_true, decide_eq_true_iff, Bool.not_eq_true']

/-- The controller is on its bus. -/
abbrev busJoined (s : State) (k : Nat) : State := s.setCan k { s.can1 k with onBus := true }

theorem xCanBusIntegrated_of_other (other : ¬ BusAwaited s k) : xCanBusIntegrated k s = s :=
  if_neg (mt busAwaited_iff.mp other)

section
variable (awaited : BusAwaited s k)
include awaited

theorem xCanBusIntegrated_of_running (running : canSt s k = .running) : xCanBusIntegrated k s = busJoined s k := by
  refine (if_pos (busAwaited_iff.mpr awaited)).trans ?_
  rw [running]

theorem xCanBusIntegrated_of_starting (starting : canSt s k = .starting) : xCanBusIntegrated k s =
    if s.past (s.fn (canFid k)).since (canBits (s.canCfg k) 11) then changeState (busJoined s k) (canFid k) .running
    else s := by
  refine (if_pos (busAwaited_iff.mpr awaited)).trans ?_
  rw [starting]

theorem xCanBusIntegrated_of_idle (running : canSt s k ≠ .running) (starting : canSt s k ≠ .starting) :
    xCanBusIntegrated k s = s := by
  refine (if_pos (busAwaited_iff.mpr awaited)).trans ?_
  split
  case h_1 st => exact absurd st starting
  case h_2 st => exact absurd st running
  case h_3 => rfl

end

/-- The controller's STOP completes. -/
abbrev StopEnds (s : State) (k : Nat) : Prop :=
  s.st (canFid k) = .stopping ∧ ((s.can1 k).att = none ∨ (s.fn (canFid k)).since + 5000000 ≤ s.mono)

theorem stopEnds_iff : (decide ((s.fn (canFid k)).st = .stopping) && ((s.can1 k).att.isNone ||
    s.past (s.fn (canFid k)).since (msT 20))) = true ↔ StopEnds s k := by
  rw [Bool.and_eq_true, Bool.or_eq_true, decide_eq_true_iff, Option.isNone_iff_eq_none, past_iff]
  rfl

/-- A controller that is OFF, its address and its host buffers apart. -/
abbrev canRested (x : Can) : Can :=
  { x with
    tec := 0, rxe := 0, off := none, onBus := false, stuck := false, slots := [], fw := [], att := none
    cannot := false, seen := [] }

theorem canOff_eq : ∃ u : State, canOff s k = returnSrc (returnSrc u (168 + k)) (178 + k) ∧
    u.can1 k = { canRested (s.can1 k) with addrSt := 0, addr := 0xFE, host := [] } := by
  refine ⟨_, rfl, ?_⟩
  rw [canAddr_can1, canErrReport_can1, setCan_can1]
  have ended : (canTxAll s k none fun _ => 7).can1 k = { s.can1 k with host := [] } := canTxAll_can1 _
  by_cases two : k = 2
  · rw [if_pos two]
    exact congrArg (fun x : Can => { canRested x with addrSt := 0, addr := 0xFE }) ended
  · rw [if_neg two]
    exact congrArg (fun x : Can => { canRested x with addrSt := 0, addr := 0xFE }) ended

theorem canOff_can1 : (canOff s k).can1 k = { canRested (s.can1 k) with addrSt := 0, addr := 0xFE, host := [] } := by
  obtain ⟨u, off, rested⟩ := canOff_eq (s := s) (k := k)
  rw [off, returnSrc_can1, returnSrc_can1, rested]

theorem canOff_pair : ((canOff s k).src (168 + k)).pair = 1 := by
  obtain ⟨u, off, -⟩ := canOff_eq (s := s) (k := k)
  rw [off, returnSrc_src_of_ne (by omega)]
  exact returnSrc_shows _

end

end Sys2Proof.Machine

namespace Sys2Proof

open Machine

/-- Settles O52: a frame by whether it is received, by the loop that reads it, by whether the firmware runs and by its
filter; a holdoff by what is due; a claim by what another node sends; the lifecycle by the controller's state. -/
theorem canReceptionAndClaim : Obligations.CanReceptionAndClaim := by
  unfold Obligations.CanReceptionAndClaim
  refine ⟨fun k f s => ?received, fun k fmt s => congrArg Host.Outcome.next (xCanProtocolException_eq fmt),
    fun k s => ?counter, fun k n f d a c s staged once => ?loop, fun k f s => ?firmware, fun k f s => ?accepted,
    fun k i f s => firstFilter_first, fun k s => ?holdoffs, fun k s => ?claim, fun k f s => ?matched,
    fun k a name s => ?heard, fun k b s => claimSend_can1 b, fun k dest s => ?request, fun k b s => claimNext_sound,
    fun k s => ?integrated, fun k s => ?stopped⟩
  case received =>
    exact ⟨fun receives => next_settle_congr (xCanFrameReceived_of_receives receives),
      fun other => next_settle_congr (xCanFrameReceived_of_other other)⟩
  case counter =>
    refine ⟨fun bounded => ?_, fun bounded low => congrArg Can.rxe (recDown_can1_of_low bounded low),
      fun bounded high => ?_⟩
    · obtain low | high := le_or_gt (s.can1 k).rxe 127
      · exact (congrArg Can.tec (recDown_can1_of_low bounded low)).trans rfl
      · obtain ⟨rxe, -, -, lowered⟩ := recDown_can1_of_high bounded high
        exact (congrArg Can.tec lowered).trans rfl
    · obtain ⟨rxe, least, most, lowered⟩ := recDown_can1_of_high bounded high
      rw [lowered]
      exact ⟨least, most⟩
  case loop =>
    have read := loopInputs_read (k := k) (f := f) staged once
    refine ⟨fun v reads field => ?_, fun reads field => ?_, fun other => read.trans (if_neg other)⟩
    · exact (read.trans (if_pos reads)).trans (take_of_some field)
    · exact (read.trans (if_pos reads)).trans (take_of_none field)
  case firmware =>
    exact ⟨firmwarePath_of_runs, firmwarePath_of_unwanted, firmwarePath_of_room, firmwarePath_of_full⟩
  case accepted =>
    refine ⟨acceptPath_of_none, fun i first => ⟨acceptPath_of_discard first, fun high => ?_, fun queue => ?_⟩⟩
    · rw [acceptPath_of_high first high, hpBuffer_eq, setCan_can1]
      refine ⟨rfl, fun late => ?_, fun t sent soon => ?_⟩
      · rw [hpWithin_of_late late]
        exact ⟨Bool.or_true _, rfl⟩
      · rw [hpWithin_of_soon sent soon]
        exact ⟨rfl, Bool.or_false _⟩
    · have kept : ∃ at_ due, (acceptPath s k f).can1 k = { rxQueued (s.can1 k) (rxRecord s f i) with
          rxAt := at_, rxDue := due } := by
        rw [acceptPath_of_queue first queue]
        exact hostQueue_can1 _
      obtain ⟨at_, due, books⟩ := kept
      refine ⟨congrArg Can.queue books, congrArg Can.rxdrop books, congrArg Can.dropped books, fun waits => ?_,
        fun empty free => ?_, fun t empty sent soon => ?_⟩
      all_goals rw [acceptPath_of_queue first queue]
      · rw [hostQueue_of_some _ waits, setCan_can1]
        exact ⟨rfl, rfl⟩
      · rw [hostQueue_of_free _ empty free, rxReady_can1]
        exact ⟨rfl, rfl⟩
      · rw [hostQueue_of_held _ empty sent soon, setCan_can1]
        exact ⟨rfl, sent⟩
  case holdoffs =>
    exact ⟨fun r held due => congrArg Host.Outcome.next (xHpFrameHoldoffExpiry_of_due held due),
      fun idle => congrArg Host.Outcome.next (xHpFrameHoldoffExpiry_of_idle idle),
      fun t sent due late waits => congrArg Host.Outcome.next (xRxReadyHoldoffExpiry_of_due sent due late waits),
      fun idle => congrArg Host.Outcome.next (xRxReadyHoldoffExpiry_of_idle idle)⟩
  case claim =>
    refine ⟨fun stood => next_settle_congr (xAddressClaimTimeout_of_stood stood),
      fun other => next_settle_congr (xAddressClaimTimeout_of_other other), fun cannot => ?_,
      fun free => next_settle_congr (if_neg (ne_true_of_eq_false free))⟩
    obtain ⟨host, ended, left⟩ := insertEnd_can1 (s := cannotSent s k) (k := k)
    rw [cannotSent_can1] at ended
    refine ⟨_, next_settle_congr (xCannotClaimDelayExpiry_of_cannot cannot), ?_⟩
    rw [ended]
    exact ⟨rfl, rfl, rfl, rfl, left⟩
  case matched => exact ⟨claimMatch_of_claim, claimMatch_of_request, claimMatch_of_other⟩
  case heard =>
    refine ⟨claimHeard_of_own, claimHeard_of_apart, fun contends higher => ?_, fun b contends lower next => ?_,
      fun contends lower last => ?_⟩
    · exact claimHeard_can1_of_higher (ne_of_gt higher) contends higher
    · exact claimHeard_of_next (ne_of_lt lower) contends (lt_asymm lower) next
    · exact claimHeard_can1_of_last (ne_of_lt lower) contends (lt_asymm lower) last
  case request => exact ⟨claimRequest_of_asked, claimRequest_of_lost, claimRequest_of_other⟩
  case integrated =>
    refine ⟨fun awaited running => next_settle_congr (xCanBusIntegrated_of_running awaited running),
      fun awaited starting seen => ?_, fun awaited starting early => ?_, fun other => ?_⟩
    · exact next_settle_congr ((xCanBusIntegrated_of_starting awaited starting).trans (if_pos ((past_iff _ _ _).mpr seen)))
    · exact next_settle_congr
        ((xCanBusIntegrated_of_starting awaited starting).trans (if_neg (mt (past_iff _ _ _).mp early)))
    · by_cases awaited : BusAwaited s k
      · obtain ⟨running, starting⟩ := other.resolve_left (not_not_intro awaited)
        exact next_settle_congr (xCanBusIntegrated_of_idle awaited running starting)
      · exact next_settle_congr (xCanBusIntegrated_of_other awaited)
  case stopped =>
    have rested := canOff_can1 (s := s) (k := k)
    refine ⟨fun ends => next_settle_congr (if_pos (stopEnds_iff.mpr ends)),
      fun waits => next_settle_congr (if_neg (mt stopEnds_iff.mp waits)), ?_⟩
    rw [rested]
    exact ⟨rfl, rfl, rfl, rfl, rfl, rfl, rfl, rfl, rfl, rfl, fun _ => canOff_pair⟩

end Sys2Proof
end

section
/-! SUPPORT. Transmit attempts, error states, bus-off and a dominant bus (13 R441 to R447). -/

namespace Sys2Proof.Machine

/-! ## The lowest arbitration field (R441) -/

/-- The first of the lowest fields of a list. -/
structure Lowest (l : List (CanPath × CanFrame)) (e : CanPath × CanFrame) : Prop where
  mem : e ∈ l
  least : ∀ g ∈ l, arbKey e.2 ≤ arbKey g.2
  first : ∃ a c, l = a ++ e :: c ∧ ∀ g ∈ a, arbKey e.2 < arbKey g.2

theorem lowest_eq_none {l : List (CanPath × CanFrame)} (none : lowest l = none) : l = [] := by
  cases l with
  | nil => rfl
  | cons e r =>
    rw [lowest] at none
    split at none
    · cases none
    · split at none <;> cases none

theorem lowest_single (e : CanPath × CanFrame) : Lowest [e] e where
  mem := List.mem_cons_self
  least g mem := by rw [List.mem_singleton.mp mem]
  first := ⟨[], [], rfl, fun _ mem => absurd mem List.not_mem_nil⟩

section
variable {e b : CanPath × CanFrame} {r : List (CanPath × CanFrame)} (rest : Lowest r b)
include rest

theorem lowest_of_later (below : arbKey b.2 < arbKey e.2) : Lowest (e :: r) b where
  mem := List.mem_cons_of_mem _ rest.mem
  least := List.forall_mem_cons.mpr ⟨below.le, rest.least⟩
  first := by
    obtain ⟨a, c, split, before⟩ := rest.first
    exact ⟨e :: a, c, congrArg (e :: ·) split, List.forall_mem_cons.mpr ⟨below, before⟩⟩

theorem lowest_of_head (above : ¬ arbKey b.2 < arbKey e.2) : Lowest (e :: r) e where
  mem := List.mem_cons_self
  least := List.forall_mem_cons.mpr ⟨le_rfl, fun g mem => (Nat.not_lt.mp above).trans (rest.least g mem)⟩
  first := ⟨[], r, rfl, fun _ mem => absurd mem List.not_mem_nil⟩

end

theorem lowest_sound {l : List (CanPath × CanFrame)} {e : CanPath × CanFrame} (found : lowest l = some e) : Lowest l e := by
  induction l generalizing e with
  | nil => cases found
  | cons h r ih =>
    rw [lowest] at found
    split at found
    case h_1 none =>
      obtain rfl := Option.some.inj found
      rw [lowest_eq_none none]
      exact lowest_single h
    case h_2 b later =>
      split at found
      case isTrue below =>
        obtain rfl := Option.some.inj found
        exact lowest_of_later (ih later) below
      case isFalse above =>
        obtain rfl := Option.some.inj found
        exact lowest_of_head (ih later) above

section
variable {s : State} {k : Nat}

/-! ## An attempt begins (R441, R444) -/

/-- The row begins an attempt itself. -/
abbrev AttemptBegins (s : State) (k : Nat) : Prop :=
  canSends s k = true ∧ (s.can1 k).att = none ∧ s.st (canFid k) = .running

theorem attemptBegins_iff : (canSends s k && (s.can1 k).att.isNone && decide (canSt s k = .running)) = true ↔
    AttemptBegins s k := by
  rw [Bool.and_eq_true, Bool.and_eq_true, Option.isNone_iff_eq_none, decide_eq_true_iff, and_assoc]
  rfl

/-- The attempt under way ends, if there is one. -/
def attemptEnds (k result delay : Nat) (s : State) : State :=
  match (s.can1 k).att with
  | none => s
  | some (p, f) => canAttempt k result delay s p f

section
variable {r delay : Nat}

theorem attemptEnds_of_some {p : CanPath} {f : CanFrame} (att : (s.can1 k).att = some (p, f)) :
    attemptEnds k r delay s = canAttempt k r delay s p f := by
  unfold attemptEnds
  rw [att]

theorem attemptEnds_of_none (none : (s.can1 k).att = none) : attemptEnds k r delay s = s := by
  unfold attemptEnds
  rw [none]

theorem xCanTxAttemptEnd_eq : xCanTxAttemptEnd k r delay s = attemptEnds k r delay
    (if canSends s k && (s.can1 k).att.isNone && decide (canSt s k = .running) then canBegin s k else s) := rfl

theorem xCanTxAttemptEnd_of_begins (begins : AttemptBegins s k) :
    xCanTxAttemptEnd k r delay s = attemptEnds k r delay (canBegin s k) := by
  rw [xCanTxAttemptEnd_eq, if_pos (attemptBegins_iff.mpr begins)]

theorem xCanTxAttemptEnd_of_not (not : ¬ AttemptBegins s k) : xCanTxAttemptEnd k r delay s = attemptEnds k r delay s := by
  rw [xCanTxAttemptEnd_eq, if_neg (mt attemptBegins_iff.mp not)]

end

theorem canBegin_of_none (none : lowest (canPending ((canDeadlines s k).can1 k)) = none) :
    canBegin s k = canDeadlines s k := by
  unfold canBegin
  dsimp only
  rw [none]

/-- A frame begins its attempt: it leaves its slot or buffer, or its host buffer counts the attempt. -/
def begunWith (x : Can) (p : CanPath) (f : CanFrame) : Can :=
  let x := { x with att := some (p, f) }
  match p with
  | .loop n => { x with slots := tdel x.slots n }
  | .fw => { x with fw := x.fw.erase f }
  | .host i => { x with host := x.host.map fun t => if t.ser = i then { t with attempts := t.attempts + 1 } else t }

theorem canBegin_of_some {p : CanPath} {f : CanFrame}
    (found : lowest (canPending ((canDeadlines s k).can1 k)) = some (p, f)) :
    canBegin s k = (canDeadlines s k).setCan k (begunWith ((canDeadlines s k).can1 k) p f) := by
  unfold canBegin
  dsimp only
  rw [found]
  rfl

/-! ## An attempt ends (R442, R444, R446) -/

theorem everyNth_of_none {kind n : Nat} (none : perturb s kind k = none) : everyNth s kind k n = (false, s) := by
  unfold everyNth
  rw [none]

theorem everyNth_of_some {kind n i : Nat} {q : TSlot} (runs : perturb s kind k = some (i, q)) :
    (everyNth s kind k n).1 = decide (n ≠ 0 ∧ (q.seen + 1) % n = 0) := by
  unfold everyNth
  rw [runs]
  exact (Bool.decide_and _ _).symm

theorem everyNth_canCfg (kind target n j : Nat) : (everyNth s kind target n).2.canCfg j = s.canCfg j :=
  congrArg (fun t : Tbl Obj Bytes => tget (defCfg (.can j)) t (.can j))
    (applied_of_off (everyNth_off s kind target n _ (Nat.and_self _)) rfl)

/-- The loop delay of the frame is measured. -/
abbrev DelayMeasured (d : Bytes) (f : CanFrame) (r : Nat) : Prop :=
  nTdc d = true ∧ f.fmt ≠ 0 ∧ (f.brs = true ∨ f.fmt = 2) ∧ r ≠ 1

theorem delayMeasured_iff {d : Bytes} {f : CanFrame} {r : Nat} : (nTdc d && decide (f.fmt ≠ 0) &&
    (f.brs || decide (f.fmt = 2)) && decide (r ≠ 1)) = true ↔ DelayMeasured d f r := by
  rw [Bool.and_eq_true, Bool.and_eq_true, Bool.and_eq_true, Bool.or_eq_true, decide_eq_true_iff, decide_eq_true_iff,
    decide_eq_true_iff, and_assoc, and_assoc]

theorem canDelay_of_measured {d : Bytes} {x : Can} {f : CanFrame} {delay r : Nat} (measured : DelayMeasured d f r) :
    canDelay d x f delay r = ({ x with tdcv := delay }, if 127 < delay then 3 else r) :=
  if_pos (delayMeasured_iff.mpr measured)

theorem canDelay_of_other {d : Bytes} {x : Can} {f : CanFrame} {delay r : Nat} (other : ¬ DelayMeasured d f r) :
    canDelay d x f delay r = (x, r) := if_neg (mt delayMeasured_iff.mp other)

/-- The host buffer an attempt was made from. -/
def attemptHost (x : Can) (p : CanPath) : Option CanTx :=
  match p with
  | .host i => x.host.find? fun t => t.ser = i
  | _ => none

/-- What the perturbation of the attempts makes of one (18 R575). -/
def attemptHit (s : State) (k r : Nat) : Bool × State :=
  if r = 1 then (false, s)
  else everyNth s 4 k (match perturb s 4 k with | some (_, q) => q.mag | none => 0)

theorem attemptHit_canCfg (r : Nat) : (attemptHit s k r).2.canCfg k = s.canCfg k := by
  unfold attemptHit
  split
  · rfl
  · exact everyNth_canCfg _ _ _ _

/-- The controller and the result of an attempt, with its delay. -/
abbrev attemptMeasured (s : State) (k r delay : Nat) (f : CanFrame) : Can × Nat :=
  canDelay (s.canCfg k) ((attemptHit s k r).2.can1 k) f delay (if (attemptHit s k r).1 && decide (r = 0) then 2 else r)

/-- The attempt is over. -/
abbrev attemptOver (s : State) (k r delay : Nat) (f : CanFrame) : State :=
  (attemptHit s k r).2.setCan k { (attemptMeasured s k r delay f).1 with att := none }

section
variable {r delay : Nat} {p : CanPath} {f : CanFrame}

theorem canAttempt_eq : canAttempt k r delay s p f =
    if (attemptMeasured s k r delay f).2 = 0 then
      canGood (attemptOver s k r delay f) k f (attemptHost ((attemptOver s k r delay f).can1 k) p)
    else
      canBad (attemptOver s k r delay f) k p f (attemptMeasured s k r delay f).2
        (attemptHost ((attemptOver s k r delay f).can1 k) p) := by
  have cfg := attemptHit_canCfg (s := s) (k := k) r
  unfold attemptOver attemptMeasured
  rw [← cfg]
  rfl

/-! A frame that went out whole. -/

/-- The counters and the claim's time after a frame that went out whole. -/
abbrev goodCounted (s : State) (k : Nat) (f : CanFrame) : Can :=
  { s.can1 k with
    txfrm := satN 4 ((s.can1 k).txfrm + 1)
    claimAt := if (s.can1 k).addrSt = 1 ∧ f = claimFrame s k (s.can1 k).addr then s.mono else (s.can1 k).claimAt }

/-- The frame has gone out, and TEC is lower. -/
def goodSent (s : State) (k : Nat) (f : CanFrame) : State :=
  let t := s.setCan k (goodCounted s k f)
  canCount { t with sent := .canFrame k f :: s.sent } k ((s.can1 k).tec - 1) (s.can1 k).rxe

theorem goodSent_sent : (goodSent s k f).sent = .canFrame k f :: s.sent :=
  sent_of_off (canCount_off _ k _ _ _ (Nat.and_self _)) rfl

theorem goodSent_can1 (bounded : (s.can1 k).tec ≤ 256) : (goodSent s k f).can1 k =
    { goodCounted s k f with tec := (s.can1 k).tec - 1, rxe := min (s.can1 k).rxe 255 } := by
  unfold goodSent
  dsimp only
  refine (canCount_can1_of_low (.inl (by omega))).trans ?_
  exact congrArg (fun x : Can => canCounted x ((s.can1 k).tec - 1) (s.can1 k).rxe) (setCan_can1 s k (goodCounted s k f))

theorem canGood_sent (ht : Option CanTx) : (canGood s k f ht).sent = .canFrame k f :: s.sent := by
  cases ht with
  | none => exact goodSent_sent
  | some t => exact (sent_of_off (canTxEnd_off (goodSent s k f) k t 0 _ (Nat.and_self _)) rfl).trans goodSent_sent

/-! A frame that did not. -/

/-- The attempt's frame is pending again, and an error has been counted. -/
def badAgain (s : State) (k r : Nat) (p : CanPath) (f : CanFrame) : State :=
  if r = 1 then canAgain s k p f r else canFail (canAgain s k p f r) k r

/-- The host buffer still stands, and ends with its attempt. -/
abbrev BadEnds (u : State) (k : Nat) (h : CanTx) : Prop :=
  (∃ e ∈ (u.can1 k).host, e.ser = h.ser) ∧ (h.oneShot = true ∨ u.st (canFid k) = .stopping)

theorem badEnds_iff {u : State} {h : CanTx} : (((u.can1 k).host.any fun e => decide (e.ser = h.ser)) &&
    (h.oneShot || decide (canSt u k = .stopping))) = true ↔ BadEnds u k h := by
  rw [Bool.and_eq_true, Bool.or_eq_true, decide_eq_true_iff, List.any_eq_true]
  simp only [decide_eq_true_iff]
  rfl

theorem canBad_of_none : canBad s k p f r none = badAgain s k r p f := rfl

theorem canBad_of_ends {h : CanTx} (ends : BadEnds (badAgain s k r p f) k h) :
    canBad s k p f r (some h) = canTxEnd (badAgain s k r p f) k h r := if_pos (badEnds_iff.mpr ends)

theorem canBad_of_stays {h : CanTx} (stays : ¬ BadEnds (badAgain s k r p f) k h) :
    canBad s k p f r (some h) = badAgain s k r p f := if_neg (mt badEnds_iff.mp stays)

theorem canAgain_of_slot {n : Nat} (free : tfind (s.can1 k).slots n = none) :
    canAgain s k (.loop n) f r = s.setCan k { s.can1 k with slots := tput (s.can1 k).slots n f } :=
  if_neg (by rw [free]; decide)

theorem canAgain_of_newer {n : Nat} (newer : tfind (s.can1 k).slots n ≠ none) :
    canAgain s k (.loop n) f r = s.setCan k { s.can1 k with loopovr := satN 4 ((s.can1 k).loopovr + 1) } :=
  if_pos (Option.isSome_iff_ne_none.mpr newer)

/-- The cause an attempt's failure leaves in its host buffer. -/
def hostFailed (i r : Nat) (e : CanTx) : CanTx := if e.ser = i ∧ r ≠ 0 ∧ r ≠ 1 then { e with failed := r } else e

theorem canAgain_of_host (i : Nat) :
    canAgain s k (.host i) f r = s.setCan k { s.can1 k with host := (s.can1 k).host.map (hostFailed i r) } := by
  unfold canAgain
  dsimp only
  refine congrArg (fun l => s.setCan k { s.can1 k with host := l }) (List.map_congr_left fun t _ => ?_)
  unfold hostFailed
  by_cases lost : r = 1
  · rw [if_pos lost, if_neg fun h => h.2 rfl, if_neg fun h => h.2.2 lost]
  · rw [if_neg lost]
    exact if_congr (and_congr Iff.rfl (and_iff_left lost).symm) rfl rfl

end

/-! An error of an attempt. -/

/-- The code an error shows, of those of its kind. -/
def failLec (r n : Nat) : Nat :=
  if r = 2 then 3 else if r = 3 then 4 + Config.freeNat n % 2 else [1, 2, 6].getD (Config.freeNat n % 3) 1

/-- An error, shown and counted. -/
abbrev failShown (s : State) (k r : Nat) : Can :=
  { s.can1 k with lec := failLec r s.nonce, errfrm := satN 4 ((s.can1 k).errfrm + 1) }

theorem canFail_eq (r : Nat) : canFail s k r =
    if r = 2 ∧ (s.can1 k).errState = 1 then s.draw.2.setCan k (failShown s k r)
    else canCount (s.draw.2.setCan k (failShown s k r)) k ((s.can1 k).tec + 8) (s.can1 k).rxe := rfl

theorem canFail_can1 {r : Nat} (bounded : (s.can1 k).tec + 8 ≤ 255) : ∃ rxe, (canFail s k r).can1 k =
    { failShown s k r with
      tec := if r = 2 ∧ (s.can1 k).errState = 1 then (s.can1 k).tec else (s.can1 k).tec + 8, rxe := rxe } := by
  rw [canFail_eq]
  split
  · exact ⟨_, setCan_can1 _ _ _⟩
  · refine ⟨min (s.can1 k).rxe 255, (canCount_can1_of_low (.inl bounded)).trans ?_⟩
    rw [setCan_can1]

theorem failLec_of_bit {n : Nat} : failLec 3 n = 4 ∨ failLec 3 n = 5 := by
  have shown : failLec 3 n = 4 + Config.freeNat n % 2 := rfl
  omega

theorem failLec_of_frame {n : Nat} : failLec 4 n = 1 ∨ failLec 4 n = 2 ∨ failLec 4 n = 6 := by
  have shown : failLec 4 n = [1, 2, 6].getD (Config.freeNat n % 3) 1 := rfl
  have low := Nat.mod_lt (Config.freeNat n) (show 0 < 3 by decide)
  rw [shown]
  interval_cases Config.freeNat n % 3 <;> simp

/-! ## Error states and recovery (R446, R447) -/

theorem canCount_books {tec rxc : Nat} (high : 255 < tec) (on : (s.can1 k).off = none) :
    (canCount s k tec rxc).can1 k = canSilenced (canCounted (s.can1 k) tec rxc) s.mono := by
  rw [canCount_of_busOff high on, canErrReport_can1, canBusOff_can1, setCan_can1]
  rfl

theorem canCount_pair {tec rxc : Nat} (high : 255 < tec) (on : (s.can1 k).off = none) (low : k < 10) :
    ((canCount s k tec rxc).src (168 + k)).pair = 2 := by
  rw [canCount_of_busOff high on, canErrReport_src]
  exact canBusOff_pair (srcInfo_of_controller low)

theorem canSinkOk_of_off {u : State} (off : (u.can1 k).off ≠ none) : canSinkOk u k = false := by
  unfold canSinkOk
  rw [Option.isNone_eq_false_iff.mpr (Option.isSome_iff_ne_none.mpr off), Bool.and_false]

/-- What a controller needs to return from bus-off. -/
abbrev Recovers (s : State) (k : Nat) : Prop :=
  (∃ t, (s.can1 k).off = some t ∧ t + (nBoff (s.canCfg k) * 250000 + canBits (s.canCfg k) 1408) ≤ s.mono) ∧
    s.st (canFid k) = .running ∧ nManual (s.canCfg k) = false

/-- A controller that has returned: error active, its counters at zero. -/
abbrev recovered (s : State) (k : Nat) : State :=
  returnSrc (canErrReport 2 (s.setCan k { s.can1 k with off := none, tec := 0, rxe := 0 }) k) (168 + k)

theorem recovers_iff (t : Nat) : (canRunning s k && !nManual (s.canCfg k) &&
    s.past t (msT (nBoff (s.canCfg k)) + canBits (s.canCfg k) 1408)) = true ↔
    s.st (canFid k) = .running ∧ nManual (s.canCfg k) = false ∧
      t + (nBoff (s.canCfg k) * 250000 + canBits (s.canCfg k) 1408) ≤ s.mono := by
  rw [Bool.and_eq_true, Bool.and_eq_true, past_iff, Bool.not_eq_true', and_assoc, mul_comm (nBoff (s.canCfg k))]
  exact and_congr decide_eq_true_iff Iff.rfl

theorem xCanBusoffRecovered_of_recovers (recovers : Recovers s k) : xCanBusoffRecovered k s = recovered s k := by
  obtain ⟨⟨t, off, late⟩, running, automatic⟩ := recovers
  unfold xCanBusoffRecovered
  dsimp only
  split
  case h_1 t' some =>
    obtain rfl : t' = t := Option.some.inj (some.symm.trans off)
    exact if_pos ((recovers_iff t').mpr ⟨running, automatic, late⟩)
  case h_2 none => exact absurd (none.symm.trans off) (by simp)

theorem xCanBusoffRecovered_of_other (other : ¬ Recovers s k) : xCanBusoffRecovered k s = s := by
  unfold xCanBusoffRecovered
  dsimp only
  split
  case h_1 t off =>
    refine if_neg (mt (recovers_iff t).mp ?_)
    rintro ⟨running, automatic, late⟩
    exact other ⟨⟨t, off, late⟩, running, automatic⟩
  case h_2 => rfl

theorem recovered_can1 : (recovered s k).can1 k = { s.can1 k with off := none, tec := 0, rxe := 0 } := by
  unfold recovered
  rw [returnSrc_can1, canErrReport_can1, setCan_can1]

/-! ## A dominant bus (R445) -/

/-- A bus that may be found dominant. -/
abbrev DominantNews (s : State) (k : Nat) : Prop := (s.st (canFid k)).idle = false ∧ (s.can1 k).dominant = false

theorem dominantNews_iff : ((canSt s k).idle || (s.can1 k).dominant) = false ↔ DominantNews s k := Bool.or_eq_false_iff

theorem xCanBusDominantTimeout_of_news (news : DominantNews s k) : xCanBusDominantTimeout k s =
    emitFault (s.setCan k { s.can1 k with dominant := true }) 0x0C06 (canFid k) (b1 1 ++ zeros 3) :=
  if_neg (ne_true_of_eq_false (dominantNews_iff.mpr news))

theorem xCanBusDominantTimeout_of_other (other : ¬ DominantNews s k) : xCanBusDominantTimeout k s = s :=
  if_pos (by rwa [← dominantNews_iff, Bool.not_eq_false] at other)

end

end Sys2Proof.Machine

namespace Sys2Proof

open Machine

/-- Settles O53: an attempt by whether one is under way, by the frame found and by its result; the counters by whether
they pass 255; recovery and a dominant bus by what stands. -/
theorem canTransmission : Obligations.CanTransmission := by
  unfold Obligations.CanTransmission
  refine ⟨fun k r delay s => ?ended, fun k s => ?begun, fun l e found => ?lowest, fun k r delay p f s => ?attempt,
    fun k n s => ⟨everyNth_of_none, fun i q => everyNth_of_some⟩, fun d x f delay r => ⟨canDelay_of_measured,
      canDelay_of_other⟩, fun k f ht s bounded => ⟨canGood_sent ht, ?good⟩, fun k r p f ht s => ?bad,
    fun k r f s => ⟨rfl, fun n => canAgain_of_slot, fun n => canAgain_of_newer, canAgain_of_host⟩,
    fun k r s bounded => ?failed, fun k c t s => ⟨canTxEnd_of_told, canTxEnd_of_silent⟩,
    fun x => ⟨errState_of_off, fun on => ⟨errState_of_low on, errState_of_high on⟩⟩, fun k add lec tx s => ?error,
    fun k tec rxc s => ⟨canCount_can1_of_low, fun high on => ?busOff⟩, fun k s => ?recovery, fun k s => ?dominant⟩
  case ended =>
    refine ⟨fun p f att => ?_, fun p f begins att => ?_, fun begins none => ?_, fun none idle => ?_⟩
    · exact next_settle_congr ((xCanTxAttemptEnd_of_not fun begins => absurd (begins.2.1.symm.trans att) (by simp)).trans
        (attemptEnds_of_some att))
    · exact next_settle_congr ((xCanTxAttemptEnd_of_begins begins).trans (attemptEnds_of_some att))
    · exact next_settle_congr ((xCanTxAttemptEnd_of_begins begins).trans (attemptEnds_of_none none))
    · exact next_settle_congr ((xCanTxAttemptEnd_of_not idle).trans (attemptEnds_of_none none))
  case begun =>
    exact ⟨canBegin_of_none, fun n f => canBegin_of_some, fun f => canBegin_of_some, fun i f => canBegin_of_some⟩
  case lowest =>
    obtain ⟨mem, least, first⟩ := lowest_sound found
    exact ⟨mem, least, first⟩
  case attempt =>
    exact ⟨fun whole => canAttempt_eq.trans (if_pos whole), fun failed => canAttempt_eq.trans (if_neg failed)⟩
  case good =>
    cases ht with
    | none => exact (goodSent_can1 bounded).trans rfl
    | some t =>
      exact (canTxEnd_can1 (s := goodSent s k f) t 0).trans (congrArg (hostWithout · t) (goodSent_can1 bounded))
  case bad =>
    refine ⟨fun none => ?_, fun h some ends => ?_, fun h some stays => ?_⟩
    all_goals subst ht
    · exact canBad_of_none
    · exact canBad_of_ends ends
    · exact canBad_of_stays stays
  case failed =>
    obtain ⟨rxe, books⟩ := canFail_can1 (r := r) bounded
    rw [books]
    refine ⟨rfl, rfl, fun ack => ?_, fun bit => ?_, fun frame => ?_, rfl, rfl, rfl⟩
    all_goals subst r
    · rfl
    · exact failLec_of_bit
    · exact failLec_of_frame
  case error =>
    refine ⟨fun active => ?_, fun idle => next_settle_congr (if_neg (ne_true_of_eq_false idle))⟩
    exact next_settle_congr (if_pos active)
  case busOff =>
    have books := canCount_books (rxc := rxc) high on
    refine ⟨?_, ?_, ?_, ?_, ?_, ?_, ?_, canSinkOk_of_off ?_, canCount_pair high on⟩
    all_goals rw [books]
    · exact errState_of_off (Option.some_ne_none _)
    · rfl
    · exact Option.some_ne_none _
  case recovery =>
    exact ⟨fun recovers => next_settle_congr (xCanBusoffRecovered_of_recovers recovers),
      fun other => next_settle_congr (xCanBusoffRecovered_of_other other), recovered_can1, fun _ => returnSrc_shows _⟩
  case dominant =>
    exact ⟨fun active => next_settle_congr (if_pos active),
      fun idle => next_settle_congr (if_neg (ne_true_of_eq_false idle)),
      fun news => next_settle_congr (xCanBusDominantTimeout_of_news news),
      fun other => next_settle_congr (xCanBusDominantTimeout_of_other other),
      fun held => congrArg Host.Outcome.next (if_pos held),
      fun free => congrArg Host.Outcome.next (if_neg (ne_true_of_eq_false free))⟩

end Sys2Proof
end
